-- ==== Sys2Proof/Word.lean ====
section
/-! DEFINITION. The word types of the model: a byte, and the finite tables the State is built from. -/

namespace Sys2Proof

/-- One byte of a message, a record or a buffer. -/
abbrev Byte := BitVec 8

/-- A finite table from identifiers to values: the entries present, each key at most once. What an absent key reads
as is said by the accessor that reads the table. -/
abbrev Map (κ α : Type) := List (κ × α)

end Sys2Proof
end

