-- ==== Sys2Proof/Syntax.lean ====
section
/-! DEFINITION. The commands of the block (spec/opcode_table.json), and the names their operands use. -/

namespace Sys2Proof


/-- The commands of the block: one constructor per row of spec/opcode_table.json. `ch` is the mailbox channel
whose request the command is. -/
inductive Instr where
  /-- ERROR_DETECTED (R30): A detected error is classed as corrected, contained, region-fatal or chip-fatal, and the action of its class is taken. -/
  | errorDetected (kind unit n cause : Nat)
  /-- WORK_DEADLINE_MISSED (R27): A work item's deadline passes: the ticket is revoked and the item is reissued to another cell of the block. -/
  | workDeadlineMissed (unit ticket item : Nat)
  /-- PROBATION_END (R38): ProbationMs expires and a SLOW cell returns to service. -/
  | probationEnd (unit : Nat)
  /-- REGION_RESTART_DONE (R36): A region restart completes within its bound, and region.restarted is raised. -/
  | regionRestartDone (region : Nat)
  /-- UNIT_END_STATE (R41): A stopping unit reaches its end state, and enters STARTING at once if it holds an enable. -/
  | unitEndState (kind number : Nat)
  /-- UNIT_STOP_OVERRUN (R42): The stop bound expires before the end state: the unit is fenced and any held enable is dropped. -/
  | unitStopOverrun (kind number : Nat)
  /-- CTRL_CAPS_READ (R45): Returns the capability words CAP0 to CAP7. -/
  | ctrlCapsRead (ch : Nat)
  /-- CTRL_HEALTH_READ (R45): Returns the health of one region, or of all regions. -/
  | ctrlHealthRead (ch region : Nat)
  /-- CTRL_UNIT_FENCE (R45): Fences a cell or block unless it is the last of its kind. -/
  | ctrlUnitFence (ch unit : Nat)
  /-- CTRL_UNIT_UNFENCE (R45): Self-tests a fenced unit and returns it to service if the test passes. -/
  | ctrlUnitUnfence (ch unit pass : Nat)
  /-- CTRL_REGION_RESTART (R37): Orders a region restart, or joins one already running. -/
  | ctrlRegionRestart (ch region : Nat)
  /-- FAULT_POLICY_RECORD (R46): Applies the fault-policy record 0x0150. -/
  | faultPolicyRecord (tenant inst : Nat) (body : List Byte)
  /-- HOST_BAD_ACCESS (R48): An access to the host window of the wrong size or alignment is ignored and counted in HW_BAD_ACCESS. -/
  | hostBadAccess
  /-- REGISTER_WRITE (R48): A write to a host-window register that has no row of its own. -/
  | registerWrite (off value : Nat)
  /-- HEARTBEAT_TICK (R48): Every 1 ms, Zhepel increments HW_HEARTBEAT. -/
  | heartbeatTick
  /-- MB_DOORBELL (R50): A doorbell in IDLE submits the request and moves the channel to BUSY; in other states it is ignored and counted. -/
  | mbDoorbell (ch : Nat)
  /-- COMMAND_RESPONSE_READY (R50): The response is placed in the command buffer: the channel enters RESPONSE_READY and RespVector is signalled. -/
  | commandResponseReady (ch : Nat)
  /-- MB_RESP_ACK (R50): The response is marked consumed: the channel returns to IDLE, or the next response fragment is placed in the buffer. -/
  | mbRespAck (ch : Nat)
  /-- MB_NOTIFY_ACK (R508): A notification is marked consumed, the next one is presented, and the vector is signalled again while notifications remain pending. -/
  | mbNotifyAck (ch : Nat)
  /-- MB_RESET (R52): A channel reset moves the channel to RESETTING. -/
  | mbReset (ch : Nat)
  /-- CHANNEL_RESET_DONE (R52): Once the running command ends, the reset closes the channel's session, discards its notifications and enters IDLE. -/
  | channelResetDone (ch : Nat)
  /-- CTRL_PING (R76): Returns the firmware version and boot status, without a session. -/
  | ctrlPing (ch : Nat)
  /-- CTRL_SESSION_HELLO (R62): Issues a device nonce and a SessionId for a role, tenant and slot. -/
  | ctrlSessionHello (ch role tenant slot : Nat)
  /-- CTRL_SESSION_PROVE (R62): Checks the host proof, opens the session and returns the device proof. -/
  | ctrlSessionProve (ch id : Nat) (nh ph : List Byte)
  /-- CTRL_SESSION_CLOSE (R66): Closes the session. -/
  | ctrlSessionClose (ch : Nat)
  /-- CTRL_SESSION_INFO (R76): Returns the session's role, tenant, slot, open time and sequence. -/
  | ctrlSessionInfo (ch : Nat)
  /-- CTRL_APPROVE (R68): Supplies the second approval for a ticket and executes its command. -/
  | ctrlApprove (ch ticket : Nat) (digest : List Byte)
  /-- CTRL_APPROVAL_LIST (R76): Lists the live tickets in scope. -/
  | ctrlApprovalList (ch : Nat)
  /-- CTRL_APPROVAL_CANCEL (R69): The initiator voids a ticket. -/
  | ctrlApprovalCancel (ch ticket : Nat)
  /-- CTRL_RECORD_WRITE (R72): Checks, clamps and applies a configuration record, or validates it only. -/
  | ctrlRecordWrite (ch : Nat) (record : List Byte)
  /-- CTRL_RECORD_READ (R76): Returns a record as applied. -/
  | ctrlRecordRead (ch rid inst tenant : Nat)
  /-- CTRL_RECORD_DEFAULT (R73): Returns every field of a record instance to its default. -/
  | ctrlRecordDefault (ch rid inst tenant : Nat)
  /-- CTRL_CREDENTIAL_SET (R67): Sets a credential slot, or the first security-officer credential without a session. -/
  | ctrlCredentialSet (ch role tenant slot kind : Nat) (secret : List Byte)
  /-- CTRL_CREDENTIAL_REVOKE (R77): Revokes a credential and closes its sessions. -/
  | ctrlCredentialRevoke (ch role tenant slot : Nat)
  /-- CTRL_CREDENTIAL_LIST (R76): Lists the credential slots of a role and tenant. -/
  | ctrlCredentialList (ch role tenant : Nat)
  /-- SESSION_IDLE_TIMEOUT (R66): IdleTimeoutS passes without a request that re-arms the timer, and the session closes. -/
  | sessionIdleTimeout (ch : Nat)
  /-- TICKET_EXPIRED (R69): ApprovalWindowS passes and the ticket becomes void. -/
  | ticketExpired (ticket : Nat)
  /-- BACKOFF_END (R65): The authentication back-off expires. -/
  | backoffEnd (ch : Nat)
  /-- SESSION_POLICY_RECORD (R78): Applies the session-policy record, closing the sessions of channels that TunnelMask rebinds. -/
  | sessionPolicyRecord (tenant inst : Nat) (body : List Byte)
  /-- SUPERFRAME_RECEIVED (R84): An upstream superframe is received: its header is checked and its samples and control messages are taken. -/
  | superframeReceived (lane : Nat) (bytes : List Byte) (spacing tRx : Nat) (fec : List Nat)
  /-- FEC_SECOND_TICK (R103): Each second, uncorrectable codewords are compared with FecUncorrPerS. -/
  | fecSecondTick (lane : Nat)
  /-- FREQ_WINDOW_END (R98): A window of 97 656 superframes ends and the head's frequency check is evaluated. -/
  | freqWindowEnd (lane : Nat)
  /-- CONTROL_MESSAGE_RECEIVED (R90): A control message from a head is received, checked by CRC and matched to its request. -/
  | controlMessageReceived (lane : Nat)
  /-- CONTROL_MESSAGE_RESEND (R91): A request without a reply after 1 ms is resent, or is counted unanswered after the retries. -/
  | controlMessageResend (lane seq : Nat)
  /-- LANE_START_STEP_DONE (R99): A lane start step completes and the lane moves to the next step, or to ON. -/
  | laneStartStepDone (lane : Nat)
  /-- LANE_START_STEP_FAILED (R99): A lane start step reaches its failure bound, and the lane waits RetryIntervalMs. -/
  | laneStartStepFailed (lane : Nat)
  /-- LANE_RETRY_EXPIRY (R99): RetryIntervalMs expires and the lane returns to step 1. -/
  | laneRetryExpiry (lane : Nat)
  /-- LANE_START_TIMEOUT (R101): StartTimeoutMs passes without ON, and lane.start_failed is raised. -/
  | laneStartTimeout (lane : Nat)
  /-- LANE_LOCK_LOST (R102): An ON lane loses signal, FEC lock or superframe lock and returns to STARTING. -/
  | laneLockLost (lane cause : Nat)
  /-- LANE_ENABLE (R40): Enables a lane under the enable rule. -/
  | laneEnable (ch lane : Nat)
  /-- LANE_DISABLE (R40): Disables a lane under the enable rule. -/
  | laneDisable (ch lane : Nat)
  /-- LANE_STATUS_READ (R107): Returns lane state, start step and head status. -/
  | laneStatusRead (ch lane : Nat)
  /-- LANE_COUNTERS_READ (R108): Returns the lane counters. -/
  | laneCountersRead (ch lane : Nat)
  /-- LANE_HEAD_INFO (R107): Returns the head's identity reply and tributary list. -/
  | laneHeadInfo (ch lane : Nat)
  /-- LANE_HEAD_CONTROL (R107): Sends a read, write or image-block message to a head and returns its reply. -/
  | laneHeadControl (ch lane trib msgType : Nat) (body : List Byte)
  /-- LANE_TEST (R107): Runs a PRBS31Q loop test on an OFF lane. -/
  | laneTest (ch lane pattern duration errors : Nat)
  /-- LANE_RECORD (R106): Applies the lane record 0x0200. -/
  | laneRecord (tenant inst : Nat) (body : List Byte)
  /-- DC_BLOCK_READY (R127): A STARTING DC-block has taken its mean of unflagged samples, enters ON and raises filt.dc_started. -/
  | dcBlockReady (target : Nat)
  /-- DC_FREEZE_LONG (R128): A freeze lasts 600 s, and filt.dc_frozen_long is raised. -/
  | dcFreezeLong (target : Nat)
  /-- CAPTURE_BEGIN (R129): A deferred capture starts at its air time or on its event source. -/
  | captureBegin (id : Nat)
  /-- CAPTURE_DONE (R131): A capture ends at its duration, or early when staging fills, and filt.capture_done is raised. -/
  | captureDone (id : Nat)
  /-- FILT_CHANNEL_READ (R136): Returns a channel's applied fields and state. -/
  | filtChannelRead (ch channel : Nat)
  /-- FILT_TILES_READ (R136): Returns the tile selection of a lane. -/
  | filtTilesRead (ch lane : Nat)
  /-- FILT_DC_ENABLE (R127): Enables a DC-block. -/
  | filtDcEnable (ch target : Nat)
  /-- FILT_DC_DISABLE (R40): Disables a DC-block. -/
  | filtDcDisable (ch target : Nat)
  /-- FILT_DC_FREEZE (R128): Sets or releases a commanded freeze of a DC-block. -/
  | filtDcFreeze (ch target freeze : Nat)
  /-- FILT_DC_READ (R136): Returns a DC-block's state and estimate. -/
  | filtDcRead (ch target : Nat)
  /-- FILT_COUNTERS_READ (R137): Returns the filter counters. -/
  | filtCountersRead (ch target : Nat)
  /-- FILT_ROM_READ (R136): Returns one response ROM entry. -/
  | filtRomRead (ch index : Nat)
  /-- FILT_CAPTURE_START (R130): Checks and schedules a capture. -/
  | filtCaptureStart (ch kind lane mask sub start instant duration : Nat)
  /-- FILT_CAPTURE_STOP (R136): Stops an active capture. -/
  | filtCaptureStop (ch id : Nat)
  /-- FILT_CAPTURE_LIST (R136): Lists captures. -/
  | filtCaptureList (ch : Nat)
  /-- FILT_CAPTURE_READ (R136): Reads capture bytes. -/
  | filtCaptureRead (ch id off len : Nat)
  /-- FILT_CAPTURE_DELETE (R136): Deletes a capture. -/
  | filtCaptureDelete (ch id : Nat)
  /-- CHANNEL_RECORD (R133): Applies the channel record 0x0300, with placement and tile checks. -/
  | channelRecord (tenant inst : Nat) (body : List Byte)
  /-- LINE_FILTER_RECORD (R134): Applies the line filter record 0x0301. -/
  | lineFilterRecord (tenant inst : Nat) (body : List Byte)
  /-- BOOKING_REQUEST (R144): The air region books a receive context, which is checked against its reservations. -/
  | bookingRequest (meter group headMask mode openAt closeAt maxFrameMs freqExpect freqSpan tenant : Nat)
  /-- CONTEXT_OPEN_DUE (R141): OpenAt arrives and a booked context starts, or is held on a stopping entry. -/
  | contextOpenDue (id : Nat)
  /-- WATCHER_DETECTION (R147): A watcher detects a preamble, and the detection is merged or opens a retro context. -/
  | watcherDetection (group channel antenna mode startAir : Nat) (metric : Int)
  /-- DETECTION_DROP (R150): A detection that cannot open a context in time is dropped. -/
  | detectionDrop (group : Nat)
  /-- RETRO_CATCH_UP (R149): Retro read-back reaches the live samples. -/
  | retroCatchUp (ctx : Nat)
  /-- CONTEXT_FRAME_DETECTED (R153): A context detects a frame, estimates its branches and enters TRACK. -/
  | contextFrameDetected (ctx startAir : Nat) (freqHz : Int) (formatB : Bool) (metrics : List Nat) (gains : List Int) (noise : List Nat) (tau : List Int)
  /-- CONTEXT_NO_FRAME (R146): CloseAt plus the detection lag passes without detection, and the context ends NO_FRAME. -/
  | contextNoFrame (ctx : Nat)
  /-- ALIGN_DEADLINE (R152): The alignment deadline arrives and the context enters FINAL without late branches. -/
  | alignDeadline (ctx endAir : Nat)
  /-- DECODE_DONE (R156): Final combining and decoding finish, the outcome is set and the context enters STOPPING. -/
  | decodeDone (ctx lead : Nat) (soft : List Int) (combinedSnr bestLevel : Int)
  /-- CONTEXT_FREE (R141): A context reaches its end state and releases its reservations. -/
  | contextFree (ctx : Nat)
  /-- RX_STATUS_READ (R164): Returns the reception status. -/
  | rxStatusRead (ch : Nat)
  /-- RX_CONTEXT_READ (R164): Returns one context. -/
  | rxContextRead (ch ctx : Nat)
  /-- RX_CONTEXT_ABORT (R142): Aborts a context, or cancels an open held on its entry. -/
  | rxContextAbort (ch ctx : Nat)
  /-- RX_GROUP_READ (R164): Returns a carrier group. -/
  | rxGroupRead (ch group : Nat)
  /-- RX_COUNTERS_READ (R165): Returns the reception counters. -/
  | rxCountersRead (ch target : Nat)
  /-- RX_LISTEN (R164): Opens a listen context. -/
  | rxListen (ch group mode headMask start window maxFrameMs : Nat)
  /-- RECEIVE_CHANNEL_RECORD (R161): Applies the receive channel record 0x0400. -/
  | receiveChannelRecord (tenant inst : Nat) (body : List Byte)
  /-- RECEPTION_POLICY_RECORD (R162): Applies the reception policy record 0x0401. -/
  | receptionPolicyRecord (tenant inst : Nat) (body : List Byte)
  /-- LEA_CHANNELS_READ (R190): Returns the Lea channels. -/
  | leaChannelsRead (ch : Nat)
  /-- LEA_COUNTERS_READ (R191): Returns the Lea counters. -/
  | leaCountersRead (ch channel : Nat)
  /-- LEA_POLL_BUILD (R190): Builds a POLL frame without launching it. -/
  | leaPollBuild (ch address region pollTag request respCtl rate preamble : Nat)
  /-- LEA_FRAME_DECODE (R190): Decodes given frame bytes. -/
  | leaFrameDecode (ch direction rate : Nat) (frame : List Byte)
  /-- LEA_CHANNEL_RECORD (R187): Applies the Lea channel record 0x0500. -/
  | leaChannelRecord (tenant inst : Nat) (body : List Byte)
  /-- LEA_POLICY_RECORD (R188): Applies the Lea policy record 0x0501. -/
  | leaPolicyRecord (tenant inst : Nat) (body : List Byte)
  /-- POLL_DUE (R193): A meter's due time arrives and a poll becomes pending, or merges with one already pending. -/
  | pollDue (slot : Nat)
  /-- POLL_PLANNED (R199): A pending poll is planned at a wake instant with its preamble, head and booking. -/
  | pollPlanned (slot : Nat)
  /-- BOOKING_OUTCOME (R157): A booked context's outcome returns to the air region for drift learning and re-planning. -/
  | bookingOutcome
  /-- LAUNCH_LOCK (R206): LaunchLockMs before L a launch entry locks, or is cancelled if its charge is not committed. -/
  | launchLock (id : Nat)
  /-- LAUNCH_SEND (R207): A locked launch is synthesised and placed on the antenna at air time L. -/
  | launchSend (id : Nat)
  /-- FOLLOW_DECISION (R203): At Re + D − LaunchLockMs the follow COMMAND is launched, or dropped if the answer is not FRAME_OK. -/
  | followDecision (slot : Nat)
  /-- POLL_LATE (R210): PollDeadlineS after the due time passes and air.poll_late is raised. -/
  | pollLate (slot : Nat)
  /-- RECOVERY_RELEASE (R211): Pending polls are released at up to RecoveryPerS after an outage. -/
  | recoveryRelease
  /-- AIR_PLAN_READ (R216): Returns a meter's plan. -/
  | airPlanRead (ch slot : Nat)
  /-- AIR_POLL_NOW (R216): Makes a poll pending now. -/
  | airPollNow (ch slot request priority : Nat)
  /-- AIR_MODEL_RESET (R216): Resets a drift model to UNSYNCED. -/
  | airModelReset (ch slot : Nat)
  /-- AIR_DUTY_READ (R216): Returns duty accounting for a head and band. -/
  | airDutyRead (ch head band : Nat)
  /-- AIR_QUEUE_READ (R216): Returns a launch queue. -/
  | airQueueRead (ch head band : Nat)
  /-- AIR_LAUNCH_CANCEL (R206): Cancels an unlocked launch and refunds its charge. -/
  | airLaunchCancel (ch head band start : Nat)
  /-- AIR_TX_TEST (R216): Transmits a test carrier, charged as a launch. -/
  | airTxTest (ch head antenna band carrier duration : Nat)
  /-- AIR_COUNTERS_READ (R217): Returns the air counters. -/
  | airCountersRead (ch target band : Nat)
  /-- BAND_RECORD (R215): Applies the band record 0x0600. -/
  | bandRecord (tenant inst : Nat) (body : List Byte)
  /-- HEAD_AIR_RECORD (R215): Applies the head air record 0x0601. -/
  | headAirRecord (tenant inst : Nat) (body : List Byte)
  /-- METER_CLASS_RECORD (R215): Applies the meter class record 0x0602. -/
  | meterClassRecord (tenant inst : Nat) (body : List Byte)
  /-- METER_PLAN_RECORD (R192): Applies the meter plan record 0x0603. -/
  | meterPlanRecord (tenant inst : Nat) (body : List Byte)
  /-- AIR_POLICY_RECORD (R215): Applies the air policy record 0x0604. -/
  | airPolicyRecord (tenant inst : Nat) (body : List Byte)
  /-- FLOOD_WINDOW (R220): A flood window's frame slot comes due, and hop-0 frames are launched from the admitting heads. -/
  | floodWindow (window slot : Nat)
  /-- FLOOD_STREAM_OPEN (R219): Opens a flood stream. -/
  | floodStreamOpen (ch stream kind keySlot target lastBlock segBytes priority rounds : Nat)
  /-- FLOOD_BLOCK_WRITE (R227): Writes a block of a stream. -/
  | floodBlockWrite (ch stream block : Nat) (bytes : List Byte)
  /-- FLOOD_STREAM_START (R227): Starts a stream. -/
  | floodStreamStart (ch stream : Nat)
  /-- FLOOD_STREAM_CLOSE (R227): Closes a stream and cancels its unlocked frames. -/
  | floodStreamClose (ch stream : Nat)
  /-- FLOOD_STATUS_READ (R236): Returns stream state. -/
  | floodStatusRead (ch stream : Nat)
  /-- FLOOD_METER_SETUP (R223): Assigns a meter's flood role and queues a FloodSetup item. -/
  | floodMeterSetup (ch slot role hop : Nat)
  /-- FLOOD_TIME_SEND (R225): Starts a time flood. -/
  | floodTimeSend (ch : Nat)
  /-- SEC_SWARD_STATUS (R236): Returns the Sward state. -/
  | secSwardStatus (ch : Nat)
  /-- SWARD_VICTIM_CLEAR (R232): SwardAgeS passes without a full miss, and the Sward leaves victim-full. -/
  | swardVictimClear
  /-- FLOOD_SCHEDULE_RECORD (R234): Applies the flood schedule record 0x0700. -/
  | floodScheduleRecord (tenant inst : Nat) (body : List Byte)
  /-- SWARD_POLICY_RECORD (R235): Applies the Sward policy record 0x0940. -/
  | swardPolicyRecord (tenant inst : Nat) (body : List Byte)
  /-- LING_LAUNCH (R249): A Ling downlink frame starts at the predicted crossing under the energy governor. -/
  | lingLaunch (trib : Nat)
  /-- LING_GOVERNOR_CUT (R260): A governor window reaches its cap during a frame, and the frame is ramped down. -/
  | lingGovernorCut (trib phase window : Nat)
  /-- LING_ANSWER_WINDOW_END (R250): The answer search windows close without a detection. -/
  | lingAnswerWindowEnd (trib : Nat)
  /-- LING_FRAME_DECODED (R254): A received Ling frame is checked and handed on with its descriptor. -/
  | lingFrameDecoded (trib startAir endAir repCode : Nat) (header payload : List Byte) (snr : List Int)
  /-- LING_ALARM_CALL (R256): AlarmCallS expires and an alarm call is sent at level 6. -/
  | lingAlarmCall (trib : Nat)
  /-- LING_UNREACH_POLL (R263): UnreachIntervalS expires and an unreachable meter is polled at level 6. -/
  | lingUnreachPoll (slot : Nat)
  /-- LING_TX_READY (R264): A STARTING Ling transmit meets its conditions, enters ON and raises ling.tx_started. -/
  | lingTxReady (trib : Nat)
  /-- LING_TX_ENABLE (R264): Enables Ling transmit on a tributary. -/
  | lingTxEnable (ch trib : Nat)
  /-- LING_TX_DISABLE (R264): Disables Ling transmit on a tributary. -/
  | lingTxDisable (ch trib : Nat)
  /-- LING_STATUS_READ (R270): Returns Ling tributary status. -/
  | lingStatusRead (ch trib : Nat)
  /-- LING_METER_READ (R270): Returns a Ling meter's state. -/
  | lingMeterRead (ch slot : Nat)
  /-- LING_POLL_NOW (R270): Makes a Ling poll pending now. -/
  | lingPollNow (ch slot request priority : Nat)
  /-- LING_FRAME_BUILD (R270): Builds a Ling frame without sending it. -/
  | lingFrameBuild (ch dir repCode map active seed : Nat) (payload : List Byte)
  /-- LING_COUNTERS_READ (R271): Returns the Ling counters. -/
  | lingCountersRead (ch target : Nat)
  /-- LING_TRIBUTARY_RECORD (R267): Applies the Ling tributary record 0x0800. -/
  | lingTributaryRecord (tenant inst : Nat) (body : List Byte)
  /-- LING_METER_RECORD (R268): Applies the Ling meter record 0x0801. -/
  | lingMeterRecord (tenant inst : Nat) (body : List Byte)
  /-- LING_POLICY_RECORD (R269): Applies the Ling policy record 0x0802. -/
  | lingPolicyRecord (tenant inst : Nat) (body : List Byte)
  /-- SECURITY_FRAME (R272): A frame handed on from reception or Ling passes the security pipeline to an outcome. -/
  | securityFrame (phase frame : Nat)
  /-- DIR_REBUILD_DONE (R276): A directory rebuild under a new key completes or fails. -/
  | dirRebuildDone
  /-- SEC_STATUS_READ (R298): Returns the security status. -/
  | secStatusRead (ch : Nat)
  /-- SEC_METER_READ (R298): Returns a meter's binding and counters. -/
  | secMeterRead (ch slot : Nat)
  /-- SEC_METER_KEY_SET (R284): Sets an individual meter key and advances g. -/
  | secMeterKeySet (ch slot keyBits : Nat) (blob : List Byte)
  /-- SEC_METER_KEYGEN_ADVANCE (R283): Advances a meter's key generation. -/
  | secMeterKeygenAdvance (ch slot : Nat)
  /-- SEC_QUARANTINE_LIST (R298): Lists quarantine entries. -/
  | secQuarantineList (ch tenant first count : Nat)
  /-- SEC_QUARANTINE_READ (R298): Reads a quarantine entry. -/
  | secQuarantineRead (ch slot counter : Nat)
  /-- SEC_QUARANTINE_RELEASE (R292): Releases a quarantined frame to the ledger. -/
  | secQuarantineRelease (ch slot counter : Nat)
  /-- SEC_QUARANTINE_DELETE (R292): Deletes a quarantine entry and leaves a tombstone. -/
  | secQuarantineDelete (ch slot counter : Nat)
  /-- SEC_RULES_TEST (R298): Evaluates a rule table on given inputs without changing anything. -/
  | secRulesTest (ch cls : Nat) (attrs : List Nat) (mask : Nat) (snaps : List Nat) (payload : List Byte)
  /-- SEC_COUNTERS_READ (R299): Returns the security counters. -/
  | secCountersRead (ch slot : Nat)
  /-- METER_SECURITY_RECORD (R295): Applies the meter security record 0x0900. -/
  | meterSecurityRecord (tenant inst : Nat) (body : List Byte)
  /-- RULE_TABLE_RECORD (R296): Applies the rule table record 0x0901. -/
  | ruleTableRecord (tenant inst : Nat) (body : List Byte)
  /-- SECURITY_POLICY_RECORD (R297): Applies the security policy record 0x0902. -/
  | securityPolicyRecord (tenant inst : Nat) (body : List Byte)
  /-- KEY_SWITCH (R304): Bindings to the live generation drain, and the shadow key becomes live. -/
  | keySwitch (domain slot : Nat)
  /-- KEY_ERASE_DRAINED (R305): The last operation bound to an erased slot ends, and the old key is zeroised. -/
  | keyEraseDrained (domain slot : Nat)
  /-- RNG_HEALTH_FAULT (R311): The noise source fails its health tests, or recovers after 1 024 good samples. -/
  | rngHealthFault (healthy : Bool) (test : Nat)
  /-- TAMPER_ALARM (R322): A tamper loop opens: operations are aborted, volatile slots zeroised, domains erased, and the vault sealed. -/
  | tamperAlarm (loop aborted : Nat)
  /-- VAULT_STATUS_READ (R329): Returns the vault status. -/
  | vaultStatusRead (ch : Nat)
  /-- VAULT_SLOTS_READ (R329): Returns the slots of a domain. -/
  | vaultSlotsRead (ch domain : Nat)
  /-- VAULT_UPDATE (R314): Checks and commits a signed key-update message. -/
  | vaultUpdate (ch : Nat) (msg : List Byte)
  /-- VAULT_AUTHORITY_SET (R316): Sets an empty authority slot. -/
  | vaultAuthoritySet (ch domain : Nat) (key : List Byte)
  /-- VAULT_TRANSPORT_SET (R316): Sets an empty transport slot. -/
  | vaultTransportSet (ch domain : Nat) (wrapped : List Byte)
  /-- VAULT_IDENTITY_READ (R320): Returns the identity key and certificate. -/
  | vaultIdentityRead (ch : Nat)
  /-- VAULT_RESET (R326): Erases the vault and resets the chip. -/
  | vaultReset (ch : Nat)
  /-- VAULT_DIGEST_READ (R327): Returns a domain's vault digest. -/
  | vaultDigestRead (ch domain : Nat)
  /-- VAULT_COUNTERS_READ (R330): Returns the vault counters. -/
  | vaultCountersRead (ch domain : Nat)
  /-- VAULT_POLICY_RECORD (R328): Applies the vault policy record 0x0A00. -/
  | vaultPolicyRecord (tenant inst : Nat) (body : List Byte)
  /-- LEDGER_APPLY (R335): A record engine applies one accepted frame to its meter record and writes its journal entry. -/
  | ledgerApply (engine tenant ticket : Nat)
  /-- RECORD_POISONED (R347): A meter record read fails integrity, and it is restored from checkpoint and journal. -/
  | recordPoisoned (slot readable : Nat)
  /-- JOURNAL_ACK (R18): The partner acknowledges journal entries, and the changes they carry commit. -/
  | journalAck (position : Nat)
  /-- LEDGER_METER_READ (R352): Returns a meter record. -/
  | ledgerMeterRead (ch slot : Nat)
  /-- LEDGER_TOTALS_READ (R352): Returns a meter's totals. -/
  | ledgerTotalsRead (ch slot quantity : Nat)
  /-- LEDGER_DISPUTE_LIST (R352): Lists disputed meters. -/
  | ledgerDisputeList (ch tenant first count : Nat)
  /-- LEDGER_DISPUTE_RESOLVE (R344): Holds a resolution of a dispute. -/
  | ledgerDisputeResolve (ch slot rateStream mask choice : Nat)
  /-- LEDGER_REBASE (R352): Clears named baselines. -/
  | ledgerRebase (ch slot totals rates : Nat)
  /-- LEDGER_GAP_CLEAR (R348): Clears a meter's Gap flag. -/
  | ledgerGapClear (ch slot : Nat)
  /-- LEDGER_ENGINES_READ (R352): Returns the record engine state. -/
  | ledgerEnginesRead (ch : Nat)
  /-- LEDGER_COUNTERS_READ (R353): Returns the ledger counters. -/
  | ledgerCountersRead (ch target : Nat)
  /-- LEDGER_CLASS_RECORD (R350): Applies the ledger class record 0x0B00. -/
  | ledgerClassRecord (tenant inst : Nat) (body : List Byte)
  /-- LEDGER_METER_RECORD (R351): Applies the ledger meter record 0x0B01. -/
  | ledgerMeterRecord (tenant inst : Nat) (body : List Byte)
  /-- TARIFF_VERSION_ACTIVE (R364): A plan version's EffectiveS passes, and tariff.version_active is raised. -/
  | tariffVersionActive (plan : Nat)
  /-- ARCHIVE_WRITE (R366): After commit, a booked interval's archive records are written. -/
  | archiveWrite
  /-- TARIFF_PLAN_READ (R372): Returns a plan version. -/
  | tariffPlanRead (ch plan version : Nat)
  /-- TARIFF_EVALUATE (R362): Evaluates the rate of an instant under a plan. -/
  | tariffEvaluate (ch plan stamp : Nat)
  /-- TARIFF_PROFILE_READ (R372): Returns archive records of a meter. -/
  | tariffProfileRead (ch slot first count : Nat)
  /-- TARIFF_CLOCKLOG_READ (R372): Returns clock-log entries. -/
  | tariffClocklogRead (ch tenant first count : Nat)
  /-- TARIFF_PLAN_FLOOD (R367): Builds and starts a tariff flood stream. -/
  | tariffPlanFlood (ch plan version stream keySlot target rounds : Nat)
  /-- TARIFF_COUNTERS_READ (R373): Returns the tariff counters. -/
  | tariffCountersRead (ch target : Nat)
  /-- TARIFF_PLAN_RECORD (R364): Applies a tariff plan record 0x0C00 as a new version. -/
  | tariffPlanRecord (tenant inst : Nat) (body : List Byte)
  /-- TIME_ZONE_RECORD (R370): Applies the time-zone rule set record 0x0C01. -/
  | timeZoneRecord (tenant inst : Nat) (body : List Byte)
  /-- PROFILE_CLASS_RECORD (R371): Applies the profile class record 0x0C02. -/
  | profileClassRecord (tenant inst : Nat) (body : List Byte)
  /-- PREPAY_TOKEN_ISSUE (R377): Issues and commits a credit token. -/
  | prepayTokenIssue (ch slot kind amount deliver : Nat)
  /-- PREPAY_TOKEN_READ (R392): Returns a token's log entry and digits. -/
  | prepayTokenRead (ch slot seq : Nat)
  /-- PREPAY_TOKEN_LIST (R392): Lists token log entries. -/
  | prepayTokenList (ch slot first count : Nat)
  /-- PREPAY_TOKEN_VOID (R383): Voids an outstanding token. -/
  | prepayTokenVoid (ch slot seq : Nat)
  /-- PREPAY_STATE_READ (R392): Returns a meter's prepayment state. -/
  | prepayStateRead (ch slot : Nat)
  /-- PREPAY_TOKEN_CHECK (R392): Checks token digits without any change. -/
  | prepayTokenCheck (ch slot digits : Nat)
  /-- TAMPER_READ (R392): Returns a meter's tamper records. -/
  | tamperRead (ch slot : Nat)
  /-- PREPAY_COUNTERS_READ (R393): Returns the prepayment counters. -/
  | prepayCountersRead (ch target : Nat)
  /-- PREPAY_CLASS_RECORD (R390): Applies the prepay class record 0x0D00. -/
  | prepayClassRecord (tenant inst : Nat) (body : List Byte)
  /-- PREPAY_METER_RECORD (R391): Applies the prepay meter record 0x0D01. -/
  | prepayMeterRecord (tenant inst : Nat) (body : List Byte)
  /-- ZERO_CROSSING (R399): A rising crossing is detected and judged valid, advancing the zone state and line time. -/
  | zeroCrossing (trib phase : Nat)
  /-- ZC_TIMEOUT (R400): ZcTimeoutMs passes without a valid crossing, and the zone or phase becomes NO_CROSSING or LOST. -/
  | zcTimeout (trib phase : Nat)
  /-- METRO_WINDOW_END (R406): A measurement window ends, giving RMS values and harmonics. -/
  | metroWindowEnd (trib : Nat)
  /-- METRO_STEP (R409): A 200 ms energy step ends and its energies are booked to the registers. -/
  | metroStep (trib : Nat) (reissued : Bool)
  /-- STEP_RECORD_HANDOFF (R412): Every 5 steps a step record is handed to the ledger and committed. -/
  | stepRecordHandoff (trib : Nat)
  /-- METRO_INTERVAL_CLOSE (R414): At a 900 s boundary each active tributary's interval closes and is written. -/
  | metroIntervalClose (trib : Nat)
  /-- PULSE_EMIT (R416): A committed pulse batch is emitted over the following second. -/
  | pulseEmit (output : Nat)
  /-- METRO_VALUES_READ (R423): Returns the latest window values. -/
  | metroValuesRead (ch trib : Nat)
  /-- METRO_HARMONICS_READ (R423): Returns harmonic groups. -/
  | metroHarmonicsRead (ch trib channel : Nat)
  /-- METRO_REGISTERS_READ (R423): Returns the energy registers. -/
  | metroRegistersRead (ch trib : Nat)
  /-- METRO_INTERVAL_READ (R423): Returns interval records. -/
  | metroIntervalRead (ch trib first count : Nat)
  /-- METRO_PULSE_READ (R423): Returns a pulse output's state. -/
  | metroPulseRead (ch output : Nat)
  /-- METRO_PULSE_TEST (R423): Emits test pulses. -/
  | metroPulseTest (ch output count : Nat)
  /-- METRO_COUNTERS_READ (R424): Returns the metrology counters. -/
  | metroCountersRead (ch trib : Nat)
  /-- METRO_TRIBUTARY_RECORD (R421): Applies the metrology tributary record 0x0E00. -/
  | metroTributaryRecord (tenant inst : Nat) (body : List Byte)
  /-- PULSE_OUTPUT_RECORD (R422): Applies the pulse output record 0x0E01. -/
  | pulseOutputRecord (tenant inst : Nat) (body : List Byte)
  /-- BAL_INTERVAL_START (R430): A balance interval starts and its expected sums are frozen. -/
  | balIntervalStart (zone : Nat)
  /-- BAL_EVALUATE (R433): An interval completes or its HoldS expires, and it is evaluated to an outcome and verdict. -/
  | balEvaluate (zone stop : Nat)
  /-- BAL_ZONE_READ (R447): Returns a zone's state. -/
  | balZoneRead (ch zone : Nat)
  /-- BAL_INTERVAL_READ (R447): Returns zone result records. -/
  | balIntervalRead (ch zone first count : Nat)
  /-- BAL_METER_READ (R447): Returns a meter's balance state. -/
  | balMeterRead (ch slot : Nat)
  /-- BAL_FIT (R447): Fits loss coefficients over a span without applying them. -/
  | balFit (ch zone first count : Nat)
  /-- BAL_PHASE_RESET (R440): Clears a meter's votes and learned phase. -/
  | balPhaseReset (ch slot : Nat)
  /-- BAL_COUNTERS_READ (R448): Returns the balance counters. -/
  | balCountersRead (ch zone : Nat)
  /-- ZONE_RECORD (R444): Applies the zone record 0x0F00. -/
  | zoneRecord (tenant inst : Nat) (body : List Byte)
  /-- BALANCE_METER_RECORD (R445): Applies the balance meter record 0x0F01. -/
  | balanceMeterRecord (tenant inst : Nat) (body : List Byte)
  /-- BALANCE_POLICY_RECORD (R446): Applies the balance policy record 0x0F02. -/
  | balancePolicyRecord (tenant inst : Nat) (body : List Byte)
  /-- FLASH_PROGRAM_DONE (R459): A page program or erase completes, or fails and retires its block. -/
  | flashProgramDone (channel die block part op page ok : Nat)
  /-- FLASH_READ_DONE (R460): A sector read completes through the decode steps, or is found unreadable. -/
  | flashReadDone (channel die block part outcome content tenant first n mirrored : Nat) (sector : List Byte)
  /-- DIE_FAILED (R461): A die fails operations or stops answering, and its content is re-placed. -/
  | dieFailed (channel die cause : Nat)
  /-- JOURNAL_COPIES_PROGRAMMED (R463): A journal entry is programmed and read back in both copies and leaves the buffer. -/
  | journalCopiesProgrammed (position : Nat)
  /-- CHECKPOINT_START (R465): CheckpointIntervalS expires, or free journal falls low, and a checkpoint begins. -/
  | checkpointStart
  /-- CHECKPOINT_COMMIT (R466): Every area of a generation is read back, and its commit record is written. -/
  | checkpointCommit
  /-- RECLAMATION (R455): Reclamation copies the valid pages of a victim block and erases it. -/
  | reclamation (part : Nat) (freed into : List Nat)
  /-- WEAR_CHECK (R457): An erase-count gap beyond WearDelta moves cold data. -/
  | wearCheck (channel die : Nat)
  /-- DRAM_INTEGRITY_FAIL (R470): A DRAM line fails its tag twice, and the reader receives INTEGRITY. -/
  | dramIntegrityFail (channel address subject access : Nat) (first second : List Byte)
  /-- SCRUB_PASS (R473): The patrol scrub reads tagged lines and reports any that fail. -/
  | scrubPass (channel progress address subject : Nat) (first second : List Byte)
  /-- STORE_STATUS_READ (R478): Returns the store status. -/
  | storeStatusRead (ch : Nat)
  /-- STORE_FLASH_READ (R478): Returns per-die state. -/
  | storeFlashRead (ch channel : Nat)
  /-- STORE_PARTITIONS_READ (R478): Returns the partitions. -/
  | storePartitionsRead (ch : Nat)
  /-- STORE_CHECKPOINT_NOW (R465): Starts a checkpoint, or joins the running one. -/
  | storeCheckpointNow (ch : Nat)
  /-- STORE_DIE_RETIRE (R461): Retires a die and moves its data. -/
  | storeDieRetire (ch channel die : Nat)
  /-- STORE_NAMESPACE_FORMAT (R453): Advances a namespace epoch. -/
  | storeNamespaceFormat (ch tenant : Nat)
  /-- STORE_DRAM_READ (R478): Returns the DRAM status. -/
  | storeDramRead (ch : Nat)
  /-- STORE_LOSS_READ (R478): Returns data-lost entries. -/
  | storeLossRead (ch tenant first count : Nat)
  /-- STORE_COUNTERS_READ (R479): Returns the store counters. -/
  | storeCountersRead (ch channel : Nat)
  /-- PARTITION_RECORD (R476): Applies the partition record 0x1000. -/
  | partitionRecord (tenant inst : Nat) (body : List Byte)
  /-- STORE_POLICY_RECORD (R477): Applies the store policy record 0x1001. -/
  | storePolicyRecord (tenant inst : Nat) (body : List Byte)
  /-- LEGAL_SECOND (R481): At each whole legal second, the cross-stamp is latched and the written increment takes effect. -/
  | legalSecond
  /-- TIME_SAMPLE (R489): A PTP or NTP time message is received and stamped, and yields an offset sample. -/
  | timeSample (ref t1 t2 t3 t4 : Nat) (leap : Int) (leapDay : Nat)
  /-- PPS_EDGE (R488): A TPPS rising edge is captured and labelled. -/
  | ppsEdge (at' : Nat)
  /-- PARTNER_TIME_EXCHANGE (R492): Every 125 ms a standby exchanges hardware-stamped time with its partner. -/
  | partnerTimeExchange (t1 t2 t3 t4 a1 a2 a3 a4 : Nat)
  /-- HOLDOVER_TIMEOUT (R491): HoldoverS passes in HOLDOVER, and legal time enters FREE. -/
  | holdoverTimeout
  /-- LEAP_SMEAR (R483): A leap smear starts or ends. -/
  | leapSmear
  /-- TIME_STATUS_READ (R501): Returns the time status. -/
  | timeStatusRead (ch : Nat)
  /-- TIME_REFERENCES_READ (R501): Returns the references. -/
  | timeReferencesRead (ch : Nat)
  /-- TIME_STEP (R486): Steps legal time forward at the next second. -/
  | timeStep (ch ns : Nat)
  /-- TIME_LEAP_SET (R483): Announces or cancels a leap second. -/
  | timeLeapSet (ch day : Nat) (sign : Int)
  /-- TIME_CONVERT (R495): Converts between air time and legal time. -/
  | timeConvert (ch dir value : Nat)
  /-- TIME_COUNTERS_READ (R502): Returns the time counters. -/
  | timeCountersRead (ch : Nat)
  /-- TIME_REFERENCE_RECORD (R499): Applies the time reference record 0x1100. -/
  | timeReferenceRecord (tenant inst : Nat) (body : List Byte)
  /-- TIME_POLICY_RECORD (R500): Applies the time policy record 0x1101. -/
  | timePolicyRecord (tenant inst : Nat) (body : List Byte)
  /-- EVENT_ADMITTED (R505): A raised event is admitted with a sequence, appended to the trail and routed, or dropped. -/
  | eventAdmitted
  /-- SNAPSHOT_COMPLETE (R512): A snapshot's post collection ends by count, PostMs or a full area. -/
  | snapshotComplete (id : Nat)
  /-- SNAPSHOT_SPILL (R515): A completed snapshot is copied to the recorder area and its slot freed. -/
  | snapshotSpill (id : Nat)
  /-- BARROW_HOLD_EXPIRED (R516): HoldMaxS passes and the hold ends. -/
  | barrowHoldExpired
  /-- EVT_SOURCES_READ (R524): Returns per-source routing and counts. -/
  | evtSourcesRead (ch first n : Nat)
  /-- EVT_TRAIL_READ (R524): Returns trail entries. -/
  | evtTrailRead (ch first n : Nat)
  /-- BARROW_LIST (R524): Lists snapshots and missed triggers. -/
  | barrowList (ch : Nat)
  /-- BARROW_HOLD (R516): Freezes the recorder for reading. -/
  | barrowHold (ch : Nat)
  /-- BARROW_READ (R524): Reads snapshot bytes under the hold. -/
  | barrowRead (ch id off len : Nat)
  /-- BARROW_RELEASE (R516): Ends the hold. -/
  | barrowRelease (ch : Nat)
  /-- BARROW_TRIGGER_NOW (R524): Fires a trigger by command. -/
  | barrowTriggerNow (ch trigger : Nat)
  /-- BARROW_CLEAR (R518): Clears the recorder under two approvals and writes a clear record. -/
  | barrowClear (ch : Nat)
  /-- BARROW_CLEARLOG_READ (R524): Returns clear records. -/
  | barrowClearlogRead (ch first n : Nat)
  /-- EVT_COUNTERS_READ (R525): Returns the event counters. -/
  | evtCountersRead (ch : Nat)
  /-- EVENT_ROUTING_RECORD (R521): Applies the event routing record 0x1200. -/
  | eventRoutingRecord (tenant inst : Nat) (body : List Byte)
  /-- TRIGGER_RECORD (R522): Applies the trigger record 0x1201. -/
  | triggerRecord (tenant inst : Nat) (body : List Byte)
  /-- RECORDER_POLICY_RECORD (R523): Applies the recorder policy record 0x1202. -/
  | recorderPolicyRecord (tenant inst : Nat) (body : List Byte)
  /-- TENANT_STATUS_READ (R543): Returns the tenant status. -/
  | tenantStatusRead (ch tenant : Nat)
  /-- TENANT_SEAL (R531): Seals a tenant under two approvals after checking the preconditions. -/
  | tenantSeal (ch tenant : Nat)
  /-- TENANT_CHECK (R531): Evaluates the sealing preconditions without any change. -/
  | tenantCheck (ch tenant : Nat)
  /-- TENANT_RELEASE (R539): Starts the release of a sealed tenant under two approvals. -/
  | tenantRelease (ch tenant : Nat)
  /-- TENANT_RELEASE_DONE (R539): The release sequence finishes and the tenant returns to OPEN. -/
  | tenantReleaseDone (tenant : Nat)
  /-- TENANT_COUNTERS_READ (R544): Returns the tenant counters. -/
  | tenantCountersRead (ch tenant : Nat)
  /-- TENANT_ACCESS_VIOLATION (R535): An access to a sealed tenant's DRAM region by other work is refused. -/
  | tenantAccessViolation (requester address : Nat)
  /-- SHARE_WAIT (R529): Work of a sealed tenant waits beyond ShareWaitMs. -/
  | shareWait (tenant resource : Nat)
  /-- TENANT_RECORD (R542): Applies the tenant record 0x1300. -/
  | tenantRecord (tenant inst : Nat) (body : List Byte)
  /-- PAIR_WAIT_EXPIRY (R550): PairWaitS passes without a heartbeat at boot, and the chip starts alone or enters NOT_READY. -/
  | pairWaitExpiry
  /-- PARTNER_LOSS (R557): PartnerLossMs passes without a heartbeat: the active enters ACTIVE_HOLD, and a READY standby takes over or enters NOT_READY. -/
  | partnerLoss
  /-- SOLO_GUARD_EXPIRY (R556): The solo guard ends, and the active enters ACTIVE_SOLO if witnessed. -/
  | soloGuardExpiry
  /-- PARTNER_YIELD (R558): The active yields on a fatal error and resets. -/
  | partnerYield
  /-- CLAIM_START (R559): A chip starts service: it raises Epoch, sends Serving 1, and begins restore. -/
  | claimStart
  /-- TAKEOVER_DONE (R559): The restore completes, the ledger accepts frames, and pair.takeover_done is raised. -/
  | takeoverDone (older : Nat) (gaps : List Nat)
  /-- READY_CHANGE (R555): The ready conditions come to hold or fail, and the standby enters READY or SYNCING. -/
  | readyChange
  /-- CATCH_UP_DONE (R561): The partner acknowledges the newest entry, and the pair becomes ACTIVE_PAIRED. -/
  | catchUpDone
  /-- TAKEBACK_DUE (R564): The preferred standby has been READY for TakeBackHoldS, and a take-back starts. -/
  | takebackDue
  /-- HANDOVER (R564): The handover reaches its final position and the partner takes service. -/
  | handover
  /-- HANDOVER_TIMEOUT (R564): The handover does not complete within 2 s, and the active resumes. -/
  | handoverTimeout
  /-- PAIR_STATUS_READ (R568): Returns the pair status. -/
  | pairStatusRead (ch : Nat)
  /-- PAIR_SWITCHOVER (R564): Starts a handover to a READY partner. -/
  | pairSwitchover (ch : Nat)
  /-- PAIR_FORCE_CLAIM (R565): Forces service from this chip's own position. -/
  | pairForceClaim (ch : Nat)
  /-- PAIR_ORPHANS_READ (R568): Returns orphan log entries. -/
  | pairOrphansRead (ch first n : Nat)
  /-- PAIR_ORPHANS_CLEAR (R568): Removes orphan log entries. -/
  | pairOrphansClear (ch upTo : Nat)
  /-- PAIR_COUNTERS_READ (R569): Returns the pair counters. -/
  | pairCountersRead (ch : Nat)
  /-- PAIR_RECORD (R567): Applies the pair record 0x1400. -/
  | pairRecord (tenant inst : Nat) (body : List Byte)
  /-- DIGEST_HOLD_EXPIRY (R573): Digests stay unequal for DigestHoldS, and config.mismatch is raised. -/
  | digestHoldExpiry (neighbour domain : Nat)
  /-- IMAGE_RECEIVED (R583): An image from a neighbour is verified, stored and offered onward. -/
  | imageReceived (port : Nat) (container : List Byte)
  /-- TRIAL_CONFIRM (R586): ConfirmS passes in trial without a reset, and the new set is confirmed. -/
  | trialConfirm
  /-- ROLL_STEP_DONE (R588): A chip of a roll reaches READY or confirms, and the roll moves to its next step. -/
  | rollStepDone
  /-- CHAIN_LINK_LOSS (R584): ChainLossMs passes without a heartbeat on partner port 1. -/
  | chainLinkLoss
  /-- HEAD_CAMPAIGN_STEP (R591): A head replies to an image block, or restarts after activation and is judged updated. -/
  | headCampaignStep (campaign lane : Nat)
  /-- METER_CAMPAIGN_ROUND (R592): The planned rounds end, and a repair round is run or the campaign is completed. -/
  | meterCampaignRound (campaign : Nat)
  /-- UPDATE_INVENTORY_READ (R595): Returns the image inventory. -/
  | updateInventoryRead (ch : Nat)
  /-- UPDATE_STAGE_BEGIN (R595): Begins staging an image. -/
  | updateStageBegin (ch : Nat) (header : List Byte)
  /-- UPDATE_STAGE_WRITE (R595): Writes staged image bytes. -/
  | updateStageWrite (ch id offset : Nat) (data : List Byte)
  /-- UPDATE_STAGE_VERIFY (R580): Verifies a staged image. -/
  | updateStageVerify (ch id : Nat)
  /-- UPDATE_ACTIVATE (R586): Activates the other generation and resets into trial. -/
  | updateActivate (ch mask force : Nat)
  /-- UPDATE_CONFIRM (R586): Confirms a trial. -/
  | updateConfirm (ch : Nat)
  /-- UPDATE_PAIR_ROLL (R588): Starts a pair roll. -/
  | updatePairRoll (ch : Nat)
  /-- UPDATE_HEAD_CAMPAIGN (R591): Starts a head firmware campaign. -/
  | updateHeadCampaign (ch : Nat) (digest : List Byte) (lanes : Nat)
  /-- UPDATE_METER_CAMPAIGN (R592): Starts a meter firmware campaign. -/
  | updateMeterCampaign (ch : Nat) (digest : List Byte) (stream keySlot target rounds activateAt : Nat)
  /-- UPDATE_CAMPAIGN_READ (R595): Returns campaign progress. -/
  | updateCampaignRead (ch campaign : Nat)
  /-- UPDATE_IMAGE_DELETE (R595): Deletes a held image. -/
  | updateImageDelete (ch : Nat) (digest : List Byte)
  /-- CONFIG_DIGEST_READ (R595): Returns the configuration digests. -/
  | configDigestRead (ch : Nat)
  /-- CONFIG_RECORDS_READ (R573): Returns per-instance hashes of canonical bytes. -/
  | configRecordsRead (ch domain first count : Nat)
  /-- CONFIG_BUNDLE_SUBMIT (R576): Submits part of a configuration bundle, and checks it when complete. -/
  | configBundleSubmit (ch total offset : Nat) (part : List Byte)
  /-- BUNDLE_ASSEMBLY_TIMEOUT (R576): A bundle assembly receives no part for 60 s and is discarded. -/
  | bundleAssemblyTimeout
  /-- UPDATE_COUNTERS_READ (R596): Returns the update counters. -/
  | updateCountersRead (ch : Nat)
  /-- UPDATE_POLICY_RECORD (R594): Applies the update policy record 0x1500. -/
  | updatePolicyRecord (tenant inst : Nat) (body : List Byte)
  /-- LOCKOUT_SAMPLE (R598): Every 1 ms the lockout channels are sampled and each input's state is advanced. -/
  | lockoutSample (levels : Nat)
  /-- LOCKOUT_DISCREPANCY_TIMEOUT (R598): DiscrepancyMs passes in DISCREPANT, and the input enters FAULT. -/
  | lockoutDiscrepancyTimeout (input : Nat)
  /-- RELEASE_HOLD_END (R600): ReleaseHoldS passes after release, and the input stops holding. -/
  | releaseHoldEnd (input : Nat)
  /-- SAFE_DEADLINE (R609): A safe command's Deadline passes, and it ends expired. -/
  | safeDeadline (slot : Nat)
  /-- SAFE_LOCKOUT_READ (R616): Returns lockout input states. -/
  | safeLockoutRead (ch input : Nat)
  /-- SAFE_OPEN (R603): Accepts an OPEN command for a meter. -/
  | safeOpen (ch slot : Nat)
  /-- SAFE_CLOSE (R604): Accepts a close under two approvals unless a lockout holds. -/
  | safeClose (ch slot armed : Nat)
  /-- SAFE_COMMAND_READ (R616): Returns a meter's outstanding safe command. -/
  | safeCommandRead (ch slot : Nat)
  /-- SAFE_CANCEL (R609): Cancels an unlocked safe command. -/
  | safeCancel (ch slot : Nat)
  /-- SAFE_COUNTERS_READ (R617): Returns the safety counters. -/
  | safeCountersRead (ch input : Nat)
  /-- LOCKOUT_INPUT_RECORD (R613): Applies the lockout input record 0x1600. -/
  | lockoutInputRecord (tenant inst : Nat) (body : List Byte)
  /-- SAFE_METER_RECORD (R614): Applies the safe meter record 0x1601. -/
  | safeMeterRecord (tenant inst : Nat) (body : List Byte)
  /-- SAFETY_POLICY_RECORD (R615): Applies the safety policy record 0x1602. -/
  | safetyPolicyRecord (tenant inst : Nat) (body : List Byte)
  /-- SESSION_RECONNECT (R621): A head-end session's reconnect wait expires, and it opens TLS. -/
  | sessionReconnect (session : Nat)
  /-- TLS_HANDSHAKE_DONE (R620): A TLS handshake completes or fails. -/
  | tlsHandshakeDone (session ok alert suite : Nat) (spki : List Byte)
  /-- SESSION_FRAME_RECEIVED (R622): A session frame arrives from the head-end. -/
  | sessionFrameReceived (session type length : Nat) (body : List Byte)
  /-- SESSION_KEEPALIVE (R621): 10 s without sending sends a keepalive frame. -/
  | sessionKeepalive (session : Nat)
  /-- SESSION_RX_TIMEOUT (R621): 30 s without receiving closes the head-end session. -/
  | sessionRxTimeout (session : Nat)
  /-- EXPORT_CURSOR_JOURNAL (R626): Once per second, the session cursors are journaled. -/
  | exportCursorJournal
  /-- BACKHAUL_FRAME_RECEIVED (R619): An Ethernet frame on a backhaul port is processed or refused. -/
  | backhaulFrameReceived (port bytes refused corrected uncorrected : Nat)
  /-- PORT_LINK_CHANGE (R634): A backhaul or partner port's link goes down or up. -/
  | portLinkChange (kind port up : Nat)
  /-- HOST_LINK_RESET (R630): Link down, hot reset, FLR or D3cold closes the host-window sessions. -/
  | hostLinkReset (kind : Nat)
  /-- HOST_ERROR (R631): A PCIe error is counted and reported through AER. -/
  | hostError (severity status : Nat)
  /-- PARTNER_MESSAGE_RECEIVED (R633): A partner message is checked by tag and sequence and acted on by its Type. -/
  | partnerMessageReceived (port : Nat) (frame : List Byte)
  /-- HEARTBEAT_SEND (R634): Every 5 ms a heartbeat is sent on each linked partner port. -/
  | heartbeatSend
  /-- PORT_STATUS_READ (R639): Returns the port status. -/
  | portStatusRead (ch : Nat)
  /-- PORT_SESSIONS_READ (R639): Returns head-end sessions. -/
  | portSessionsRead (ch session : Nat)
  /-- PORT_SESSION_RESET (R639): Closes and reopens a head-end session. -/
  | portSessionReset (ch session : Nat)
  /-- EXPORT_REWIND (R639): Rewinds a session's export release. -/
  | exportRewind (ch session position index : Nat)
  /-- PORT_COUNTERS_READ (R640): Returns the port counters. -/
  | portCountersRead (ch kind number : Nat)
  /-- BACKHAUL_PORT_RECORD (R637): Applies the backhaul port record 0x1700. -/
  | backhaulPortRecord (tenant inst : Nat) (body : List Byte)
  /-- HEAD_END_SESSION_RECORD (R638): Applies the head-end session record 0x1701. -/
  | headEndSessionRecord (tenant inst : Nat) (body : List Byte)
  /-- POWER_ON_RESET (R641): PORST_N is released and the boot sequence starts. -/
  | powerOnReset (vaon : Nat)
  /-- WARM_RESET (R643): A reset ordered by firmware restarts the boot sequence, keeping the always-on domain. -/
  | warmReset
  /-- BOOT_STAGE_DONE (R645): A boot stage completes or fails, and the chip moves to the next stage or to its failure state. -/
  | bootStageDone (detail measured : Nat) (cells regions : List Nat) (dies : List (List Nat))
  /-- PFW_ASSERT (R659): An accepted assertion of PFW_N starts a save, or pauses the boot. -/
  | pfwAssert
  /-- SAVE_DONE (R660): The save set is written, and the chip enters HOLDING. -/
  | saveDone (us : Nat)
  /-- PFW_DEASSERT (R661): PFW_N de-asserts, and commits resume. -/
  | pfwDeassert
  /-- INPUT_FAULT_TIMEOUT (R662): PFW_N stays asserted for 2 s with the rails in range, and the warning is disarmed. -/
  | inputFaultTimeout
  /-- MONITOR_WARNING (R663): A supply monitor falls below its warning threshold, and a save starts. -/
  | monitorWarning (rail : Nat)
  /-- MONITOR_RESET (R679): A rail below its reset threshold holds the chip in RESET. -/
  | monitorReset (rail : Nat)
  /-- SLEEP_WAKE (R666): A held doorbell, the timer, a tamper alarm or a reboot wakes the chip from SLEEP. -/
  | sleepWake (cause : Nat)
  /-- D3HOT_ENTRY (R668): The host puts the function in D3hot. -/
  | d3hotEntry (pmeEn : Nat)
  /-- WAKE_CONDITION (R669): In D3hot a selected wake condition sets PME_Status and drives WAKE_N. -/
  | wakeCondition (reason : Nat)
  /-- LINK_TRAINING_START (R670): Link training begins, and WAKE_N is released. -/
  | linkTrainingStart
  /-- D0_RETURN (R670): The function returns to D0, and one power.wake notification is queued. -/
  | d0Return
  /-- THERMAL_TRIP (R691): A sensor at 120 °C for 1 ms drops Serving, saves, and latches THERMTRIP_N. -/
  | thermalTrip (sensor : Nat)
  /-- POWER_STATUS_READ (R672): Returns the power status. -/
  | powerStatusRead (ch : Nat) (readings : List Int)
  /-- POWER_SELFTEST_READ (R672): Returns the self-test results. -/
  | powerSelftestRead (ch region : Nat)
  /-- POWER_SLEEP (R665): Puts a non-serving chip to sleep. -/
  | powerSleep (ch : Nat)
  /-- POWER_REBOOT (R673): Orders a warm reset, yielding or saving first when the chip serves. -/
  | powerReboot (ch force : Nat)
  /-- POWER_DEBUG_CLOSE (R655): Sets the flag that blows the debug fuse at the next boot. -/
  | powerDebugClose (ch serial : Nat)
  /-- POWER_COUNTERS_READ (R674): Returns the power counters. -/
  | powerCountersRead (ch : Nat)
  /-- POWER_POLICY_RECORD (R671): Applies the power policy record 0x1800. -/
  | powerPolicyRecord (tenant inst : Nat) (body : List Byte)
  /-- PORST_ASSERT (R680): PORST_N falls and the chip enters stage RESET, the reset being deferred until a save in progress ends. -/
  | porstAssert
  /-- SUPPLY_IN_RANGE (R679): Every monitored rail is back within range, so a chip held in RESET or halted at ROM with code 0x0102 continues its boot. -/
  | supplyInRange
  /-- ROLL_READY_TIMEOUT (R588): A chip activated in a pair roll has not reached READY on the new set within 300 s, and the roll stops with outcome failed. -/
  | rollReadyTimeout
  deriving DecidableEq, Repr

end Sys2Proof
end

