-- ==== Sys2Proof/Decode.lean ====
section
/-! DEFINITION. The word decoder. The rows of spec/opcode_table.json give no bits: commands reach the block as mailbox
messages, register writes and events, and no word spells one. -/

namespace Sys2Proof

/-- The command a word spells by the table's bits: no row of the table gives bits, so no word spells a command. -/
def decodeTableWord (_nbits _w : Nat) : Option Instr := none

end Sys2Proof
end

