-- ==== Sys2Proof/Config.lean ====
section
/-! DEFINITION. What an implementation fixes and the free values: constants without a body, of which nothing can be
proved. -/

namespace Sys2Proof

/-- The `n`-th free value: a random number the device draws, or a value the spec leaves open. The State's counter
`freeCtr` says which one is drawn next.
(Log entry 6: DESIGN CHOICE.) -/
opaque Config.freeValue : Nat → Nat

/-- The response ROM coefficients (R125): the spec gives the shape of each entry and no coefficient.
(Log entry 30: UNVERIFIED.) -/
opaque Config.romCoefficient : (entry index : Nat) → Nat

/-- The coefficients of the fs/4 half-band (295 taps) and of the channeliser's prototype (1 024 taps), as 18-bit words with 17
fraction bits, the 18-bit twiddle factors of its FFT, and the 18-bit cosine and sine of an NCO phase (Table 5-1): the spec gives
widths and responses and no value.
(Log entry 163: DESIGN CHOICE.) -/
opaque Config.fs4Tap : (index : Nat) → Int
opaque Config.prototypeTap : (index : Nat) → Int
opaque Config.twiddle : (k64 : Nat) → Int × Int
opaque Config.ncoWave : (phase : Nat) → Int × Int

/-- The cubic Farrow interpolator of R151 over four samples at a position in 256ths, and the cubic interpolation of R406 at a position in
millionths: the spec names the order and no coefficient.
(Log entry 163: DESIGN CHOICE.) -/
opaque Config.farrow : (a b c d : Int) → (mu : Nat) → Int
opaque Config.cubic : (a b c d : Int) → (millionths : Nat) → Int

/-- The estimates of a branch's gain and noise variance that a tracking update forms from the combined decisions of the last TrackSymbols
symbols, in a mode, from the branch's samples and the combined ones beside them (R154): the spec gives the loop and no estimator.
(Log entry 164: DESIGN CHOICE.) -/
opaque Config.trackGain : (mode : Nat) → (branch combined : List (Rat × Rat)) → Rat × Rat
opaque Config.trackNoise : (mode : Nat) → (branch combined : List (Rat × Rat)) → Rat

/-- The SNR in 0.1 dB of a branch without gain or without noise (R153): the logarithm of 0, or a division by 0.
(Log entry 164: DESIGN CHOICE.) -/
opaque Config.snrOfZero : (gain noise : Nat) → Int

/-- The calibrated threshold of a mode's watcher in 0.1 dB (R147), and what the non-coherent sum of a number of branch metrics must reach
for a booked context to detect (R155): the spec gives neither.
(Log entry 165: DESIGN CHOICE.) -/
opaque Config.watchThreshold : (mode : Nat) → Int
opaque Config.searchThreshold : (mode branches : Nat) → Nat

/-- The sample at an air time of a launch's GFSK signal with BT 0.5, by its symbols, symbol rate, deviation (Hz), carrier (Hz), amplitude,
start and the instant, both in air periods (R166); and of a test carrier: the spec gives the modulation and no pulse table.
(Log entry 166: DESIGN CHOICE.) -/
opaque Config.gfskSample : (symbols : List Int) → (baud deviation carrier amp start air : Nat) → Int
opaque Config.carrierSample : (carrier amp start air : Nat) → Int

/-- The interpolator of R396 (17 fraction bits) by the delay in ns, the low-pass of R398 (129 taps) and the Hilbert transformer of R409
(255 taps), both with 23 fraction bits, and the wave of a DFT over `points` (30 fraction bits): the spec gives their responses and no
coefficient.
(Log entry 167: DESIGN CHOICE.) -/
opaque Config.delayTap : (ns : Int) → (index : Nat) → Int
opaque Config.crossTap : (index : Nat) → Int
opaque Config.hilbertTap : (index : Nat) → Int
opaque Config.dftWave : (points index : Nat) → Int × Int

/-- The THD (0.01 %) of a window whose fundamental group is 0, by the sum of the squares of the others (R408), which divides by it.
(Log entry 167: DESIGN CHOICE.) -/
opaque Config.thdOfZero : (squares : Nat) → Nat

/-- What EN 13757-4 sets for a response to a wireless M-Bus meter (R204, R208), by mode: the frame's bytes for an address and the items it
carries, its length on air, the earliest and latest start after the uplink's end, the carrier (Hz) that a meter heard on a frequency
listens on, half the channel width (Hz), and the samples; times in air periods. The spec refers to that standard and gives none of them.
(Log entry 48: UNVERIFIED.) -/
opaque Config.responseFrame : (mode address : Nat) → (items : List (BitVec 8)) → List (BitVec 8)
opaque Config.responseSpan : (mode bytes : Nat) → Nat
opaque Config.responseWindow : (mode : Nat) → Nat × Nat
opaque Config.responseHz : (mode heardHz : Nat) → Nat
opaque Config.responseHalfHz : (mode : Nat) → Nat
opaque Config.responseSample : (mode : Nat) → (frame : List (BitVec 8)) → (carrier amp start air : Nat) → Int

/-- The drift of a model whose observations all have one WakeIndex, in air periods per wake period (R196): the fit divides
by Sxx, which is 0, and the spec states no result. -/
opaque Config.driftRate : (observations : List (Nat × Nat)) → Int

/-- The uncertainty (ns) of such a model at a wake index (R197), which divides by the same 0. -/
opaque Config.driftU : (observations : List (Nat × Nat)) → (index : Nat) → Nat

/-- How many items the input queue of a cell kind holds, by region, kind of block and kind within it (R26): the spec gives
the range 4 to 64 and no depth per kind.
(Log entry 144: DESIGN CHOICE.) -/
opaque Config.cellQueueDepth : (region block within : Nat) → Nat

/-- How many quanta of a resource one arbitration round has (R528): the spec says neither what a quantum of crypto, engine time,
flash or fabric is nor how many a round holds.
(Log entry 162: DESIGN CHOICE.) -/
opaque Config.roundQuanta : (resource : Nat) → Nat

/-- The Plynica image key (R579): a P-256 public key held in mask ROM, whose value the spec does not give.
(Log entry 102: DESIGN CHOICE.) -/
opaque Config.imageKey : List (BitVec 8)

/-- The published test image key (R579), whose value the spec does not give.
(Log entry 102: DESIGN CHOICE.) -/
opaque Config.testImageKey : List (BitVec 8)

/-- A value that the chip measures and that the model does not compute: a monitor reading or a count of the arbiter as a
snapshot's selector reads it (R513), the sample counters of R137; by command code, number and time of reading.
(Log entry 119: DESIGN CHOICE.) -/
opaque Config.measured : (command number time : Nat) → Nat

end Sys2Proof
end

