-- ==== Sys2Proof/Machine/Names.lean ====
section
/-! DEFINITION. The names of the spec's tables: mailbox commands with their codes (R8, the command tables of every
chapter), statuses (Table 3-5 and the chapters' domain statuses, R59) and events with their source numbers (R503). -/

namespace Sys2Proof.Machine

/-- The mailbox commands, written DOMAIN.VERB in the spec. -/
inductive Cmd where
  | ctrlCapsRead
  | ctrlHealthRead
  | ctrlUnitFence
  | ctrlUnitUnfence
  | ctrlRegionRestart
  | ctrlPing
  | ctrlSessionHello
  | ctrlSessionProve
  | ctrlSessionClose
  | ctrlSessionInfo
  | ctrlApprove
  | ctrlApprovalList
  | ctrlApprovalCancel
  | ctrlRecordWrite
  | ctrlRecordRead
  | ctrlRecordDefault
  | ctrlCredentialSet
  | ctrlCredentialRevoke
  | ctrlCredentialList
  | laneEnable
  | laneDisable
  | laneStatusRead
  | laneCountersRead
  | laneHeadInfo
  | laneHeadControl
  | laneTest
  | filtChannelRead
  | filtTilesRead
  | filtDcEnable
  | filtDcDisable
  | filtDcFreeze
  | filtDcRead
  | filtCountersRead
  | filtRomRead
  | filtCaptureStart
  | filtCaptureStop
  | filtCaptureList
  | filtCaptureRead
  | filtCaptureDelete
  | rxStatusRead
  | rxContextRead
  | rxContextAbort
  | rxGroupRead
  | rxCountersRead
  | rxListen
  | leaChannelsRead
  | leaCountersRead
  | leaPollBuild
  | leaFrameDecode
  | airPlanRead
  | airPollNow
  | airModelReset
  | airDutyRead
  | airQueueRead
  | airLaunchCancel
  | airTxTest
  | airCountersRead
  | floodStreamOpen
  | floodBlockWrite
  | floodStreamStart
  | floodStreamClose
  | floodStatusRead
  | floodMeterSetup
  | floodTimeSend
  | secSwardStatus
  | lingTxEnable
  | lingTxDisable
  | lingStatusRead
  | lingMeterRead
  | lingPollNow
  | lingFrameBuild
  | lingCountersRead
  | secStatusRead
  | secMeterRead
  | secMeterKeySet
  | secMeterKeygenAdvance
  | secQuarantineList
  | secQuarantineRead
  | secQuarantineRelease
  | secQuarantineDelete
  | secRulesTest
  | secCountersRead
  | vaultStatusRead
  | vaultSlotsRead
  | vaultUpdate
  | vaultAuthoritySet
  | vaultTransportSet
  | vaultIdentityRead
  | vaultReset
  | vaultDigestRead
  | vaultCountersRead
  | ledgerMeterRead
  | ledgerTotalsRead
  | ledgerDisputeList
  | ledgerDisputeResolve
  | ledgerRebase
  | ledgerGapClear
  | ledgerEnginesRead
  | ledgerCountersRead
  | tariffPlanRead
  | tariffEvaluate
  | tariffProfileRead
  | tariffClocklogRead
  | tariffPlanFlood
  | tariffCountersRead
  | prepayTokenIssue
  | prepayTokenRead
  | prepayTokenList
  | prepayTokenVoid
  | prepayStateRead
  | prepayTokenCheck
  | tamperRead
  | prepayCountersRead
  | metroValuesRead
  | metroHarmonicsRead
  | metroRegistersRead
  | metroIntervalRead
  | metroPulseRead
  | metroPulseTest
  | metroCountersRead
  | balZoneRead
  | balIntervalRead
  | balMeterRead
  | balFit
  | balPhaseReset
  | balCountersRead
  | storeStatusRead
  | storeFlashRead
  | storePartitionsRead
  | storeCheckpointNow
  | storeDieRetire
  | storeNamespaceFormat
  | storeDramRead
  | storeLossRead
  | storeCountersRead
  | timeStatusRead
  | timeReferencesRead
  | timeStep
  | timeLeapSet
  | timeConvert
  | timeCountersRead
  | evtSourcesRead
  | evtTrailRead
  | barrowList
  | barrowHold
  | barrowRead
  | barrowRelease
  | barrowTriggerNow
  | barrowClear
  | barrowClearlogRead
  | evtCountersRead
  | tenantStatusRead
  | tenantSeal
  | tenantCheck
  | tenantRelease
  | tenantCountersRead
  | pairStatusRead
  | pairSwitchover
  | pairForceClaim
  | pairOrphansRead
  | pairOrphansClear
  | pairCountersRead
  | updateInventoryRead
  | updateStageBegin
  | updateStageWrite
  | updateStageVerify
  | updateActivate
  | updateConfirm
  | updatePairRoll
  | updateHeadCampaign
  | updateMeterCampaign
  | updateCampaignRead
  | updateImageDelete
  | configDigestRead
  | configRecordsRead
  | configBundleSubmit
  | updateCountersRead
  | safeLockoutRead
  | safeOpen
  | safeClose
  | safeCommandRead
  | safeCancel
  | safeCountersRead
  | portStatusRead
  | portSessionsRead
  | portSessionReset
  | exportRewind
  | portCountersRead
  | powerStatusRead
  | powerSelftestRead
  | powerSleep
  | powerReboot
  | powerDebugClose
  | powerCountersRead
  deriving DecidableEq, Repr

/-- The 16-bit code of each command (R8: the high byte is the domain byte). -/
def Cmd.code : Cmd → Nat
  | .ctrlCapsRead => 0x0140
  | .ctrlHealthRead => 0x0141
  | .ctrlUnitFence => 0x0142
  | .ctrlUnitUnfence => 0x0143
  | .ctrlRegionRestart => 0x0144
  | .ctrlPing => 0x0100
  | .ctrlSessionHello => 0x0101
  | .ctrlSessionProve => 0x0102
  | .ctrlSessionClose => 0x0103
  | .ctrlSessionInfo => 0x0104
  | .ctrlApprove => 0x0108
  | .ctrlApprovalList => 0x0109
  | .ctrlApprovalCancel => 0x010A
  | .ctrlRecordWrite => 0x0110
  | .ctrlRecordRead => 0x0111
  | .ctrlRecordDefault => 0x0112
  | .ctrlCredentialSet => 0x0120
  | .ctrlCredentialRevoke => 0x0121
  | .ctrlCredentialList => 0x0122
  | .laneEnable => 0x0200
  | .laneDisable => 0x0201
  | .laneStatusRead => 0x0202
  | .laneCountersRead => 0x0203
  | .laneHeadInfo => 0x0204
  | .laneHeadControl => 0x0205
  | .laneTest => 0x0206
  | .filtChannelRead => 0x0300
  | .filtTilesRead => 0x0301
  | .filtDcEnable => 0x0302
  | .filtDcDisable => 0x0303
  | .filtDcFreeze => 0x0304
  | .filtDcRead => 0x0305
  | .filtCountersRead => 0x0306
  | .filtRomRead => 0x0307
  | .filtCaptureStart => 0x0308
  | .filtCaptureStop => 0x0309
  | .filtCaptureList => 0x030A
  | .filtCaptureRead => 0x030B
  | .filtCaptureDelete => 0x030C
  | .rxStatusRead => 0x0400
  | .rxContextRead => 0x0401
  | .rxContextAbort => 0x0402
  | .rxGroupRead => 0x0403
  | .rxCountersRead => 0x0404
  | .rxListen => 0x0405
  | .leaChannelsRead => 0x0500
  | .leaCountersRead => 0x0501
  | .leaPollBuild => 0x0502
  | .leaFrameDecode => 0x0503
  | .airPlanRead => 0x0600
  | .airPollNow => 0x0601
  | .airModelReset => 0x0602
  | .airDutyRead => 0x0603
  | .airQueueRead => 0x0604
  | .airLaunchCancel => 0x0605
  | .airTxTest => 0x0606
  | .airCountersRead => 0x0607
  | .floodStreamOpen => 0x0700
  | .floodBlockWrite => 0x0701
  | .floodStreamStart => 0x0702
  | .floodStreamClose => 0x0703
  | .floodStatusRead => 0x0704
  | .floodMeterSetup => 0x0705
  | .floodTimeSend => 0x0706
  | .secSwardStatus => 0x0940
  | .lingTxEnable => 0x0800
  | .lingTxDisable => 0x0801
  | .lingStatusRead => 0x0802
  | .lingMeterRead => 0x0803
  | .lingPollNow => 0x0804
  | .lingFrameBuild => 0x0805
  | .lingCountersRead => 0x0806
  | .secStatusRead => 0x0900
  | .secMeterRead => 0x0901
  | .secMeterKeySet => 0x0902
  | .secMeterKeygenAdvance => 0x0903
  | .secQuarantineList => 0x0904
  | .secQuarantineRead => 0x0905
  | .secQuarantineRelease => 0x0906
  | .secQuarantineDelete => 0x0907
  | .secRulesTest => 0x0908
  | .secCountersRead => 0x0909
  | .vaultStatusRead => 0x0A00
  | .vaultSlotsRead => 0x0A01
  | .vaultUpdate => 0x0A02
  | .vaultAuthoritySet => 0x0A03
  | .vaultTransportSet => 0x0A04
  | .vaultIdentityRead => 0x0A05
  | .vaultReset => 0x0A06
  | .vaultDigestRead => 0x0A07
  | .vaultCountersRead => 0x0A08
  | .ledgerMeterRead => 0x0B00
  | .ledgerTotalsRead => 0x0B01
  | .ledgerDisputeList => 0x0B02
  | .ledgerDisputeResolve => 0x0B03
  | .ledgerRebase => 0x0B04
  | .ledgerGapClear => 0x0B05
  | .ledgerEnginesRead => 0x0B06
  | .ledgerCountersRead => 0x0B07
  | .tariffPlanRead => 0x0C00
  | .tariffEvaluate => 0x0C01
  | .tariffProfileRead => 0x0C02
  | .tariffClocklogRead => 0x0C03
  | .tariffPlanFlood => 0x0C04
  | .tariffCountersRead => 0x0C05
  | .prepayTokenIssue => 0x0D00
  | .prepayTokenRead => 0x0D01
  | .prepayTokenList => 0x0D02
  | .prepayTokenVoid => 0x0D03
  | .prepayStateRead => 0x0D04
  | .prepayTokenCheck => 0x0D05
  | .tamperRead => 0x0D06
  | .prepayCountersRead => 0x0D07
  | .metroValuesRead => 0x0E00
  | .metroHarmonicsRead => 0x0E01
  | .metroRegistersRead => 0x0E02
  | .metroIntervalRead => 0x0E03
  | .metroPulseRead => 0x0E04
  | .metroPulseTest => 0x0E05
  | .metroCountersRead => 0x0E06
  | .balZoneRead => 0x0F00
  | .balIntervalRead => 0x0F01
  | .balMeterRead => 0x0F02
  | .balFit => 0x0F03
  | .balPhaseReset => 0x0F04
  | .balCountersRead => 0x0F05
  | .storeStatusRead => 0x1000
  | .storeFlashRead => 0x1001
  | .storePartitionsRead => 0x1002
  | .storeCheckpointNow => 0x1003
  | .storeDieRetire => 0x1004
  | .storeNamespaceFormat => 0x1005
  | .storeDramRead => 0x1006
  | .storeLossRead => 0x1007
  | .storeCountersRead => 0x1008
  | .timeStatusRead => 0x1100
  | .timeReferencesRead => 0x1101
  | .timeStep => 0x1102
  | .timeLeapSet => 0x1103
  | .timeConvert => 0x1104
  | .timeCountersRead => 0x1105
  | .evtSourcesRead => 0x1200
  | .evtTrailRead => 0x1201
  | .barrowList => 0x1202
  | .barrowHold => 0x1203
  | .barrowRead => 0x1204
  | .barrowRelease => 0x1205
  | .barrowTriggerNow => 0x1206
  | .barrowClear => 0x1207
  | .barrowClearlogRead => 0x1208
  | .evtCountersRead => 0x1209
  | .tenantStatusRead => 0x1300
  | .tenantSeal => 0x1301
  | .tenantCheck => 0x1302
  | .tenantRelease => 0x1303
  | .tenantCountersRead => 0x1304
  | .pairStatusRead => 0x1400
  | .pairSwitchover => 0x1401
  | .pairForceClaim => 0x1402
  | .pairOrphansRead => 0x1403
  | .pairOrphansClear => 0x1404
  | .pairCountersRead => 0x1405
  | .updateInventoryRead => 0x1500
  | .updateStageBegin => 0x1501
  | .updateStageWrite => 0x1502
  | .updateStageVerify => 0x1503
  | .updateActivate => 0x1504
  | .updateConfirm => 0x1505
  | .updatePairRoll => 0x1506
  | .updateHeadCampaign => 0x1507
  | .updateMeterCampaign => 0x1508
  | .updateCampaignRead => 0x1509
  | .updateImageDelete => 0x150A
  | .configDigestRead => 0x150B
  | .configRecordsRead => 0x150C
  | .configBundleSubmit => 0x150D
  | .updateCountersRead => 0x150E
  | .safeLockoutRead => 0x1600
  | .safeOpen => 0x1601
  | .safeClose => 0x1602
  | .safeCommandRead => 0x1603
  | .safeCancel => 0x1604
  | .safeCountersRead => 0x1605
  | .portStatusRead => 0x1700
  | .portSessionsRead => 0x1701
  | .portSessionReset => 0x1702
  | .exportRewind => 0x1703
  | .portCountersRead => 0x1704
  | .powerStatusRead => 0x1800
  | .powerSelftestRead => 0x1801
  | .powerSleep => 0x1802
  | .powerReboot => 0x1803
  | .powerDebugClose => 0x1804
  | .powerCountersRead => 0x1805

/-- Every command of the firmware. -/
def Cmd.all : List Cmd :=
  [.ctrlCapsRead, .ctrlHealthRead, .ctrlUnitFence, .ctrlUnitUnfence, .ctrlRegionRestart, .ctrlPing, .ctrlSessionHello, .ctrlSessionProve, .ctrlSessionClose, .ctrlSessionInfo, .ctrlApprove, .ctrlApprovalList, .ctrlApprovalCancel, .ctrlRecordWrite, .ctrlRecordRead, .ctrlRecordDefault, .ctrlCredentialSet, .ctrlCredentialRevoke, .ctrlCredentialList, .laneEnable, .laneDisable, .laneStatusRead, .laneCountersRead, .laneHeadInfo, .laneHeadControl, .laneTest, .filtChannelRead, .filtTilesRead, .filtDcEnable, .filtDcDisable, .filtDcFreeze, .filtDcRead, .filtCountersRead, .filtRomRead, .filtCaptureStart, .filtCaptureStop, .filtCaptureList, .filtCaptureRead, .filtCaptureDelete, .rxStatusRead, .rxContextRead, .rxContextAbort, .rxGroupRead, .rxCountersRead, .rxListen, .leaChannelsRead, .leaCountersRead, .leaPollBuild, .leaFrameDecode, .airPlanRead] ++
  [.airPollNow, .airModelReset, .airDutyRead, .airQueueRead, .airLaunchCancel, .airTxTest, .airCountersRead, .floodStreamOpen, .floodBlockWrite, .floodStreamStart, .floodStreamClose, .floodStatusRead, .floodMeterSetup, .floodTimeSend, .secSwardStatus, .lingTxEnable, .lingTxDisable, .lingStatusRead, .lingMeterRead, .lingPollNow, .lingFrameBuild, .lingCountersRead, .secStatusRead, .secMeterRead, .secMeterKeySet, .secMeterKeygenAdvance, .secQuarantineList, .secQuarantineRead, .secQuarantineRelease, .secQuarantineDelete, .secRulesTest, .secCountersRead, .vaultStatusRead, .vaultSlotsRead, .vaultUpdate, .vaultAuthoritySet, .vaultTransportSet, .vaultIdentityRead, .vaultReset, .vaultDigestRead, .vaultCountersRead, .ledgerMeterRead, .ledgerTotalsRead, .ledgerDisputeList, .ledgerDisputeResolve, .ledgerRebase, .ledgerGapClear, .ledgerEnginesRead, .ledgerCountersRead, .tariffPlanRead] ++
  [.tariffEvaluate, .tariffProfileRead, .tariffClocklogRead, .tariffPlanFlood, .tariffCountersRead, .prepayTokenIssue, .prepayTokenRead, .prepayTokenList, .prepayTokenVoid, .prepayStateRead, .prepayTokenCheck, .tamperRead, .prepayCountersRead, .metroValuesRead, .metroHarmonicsRead, .metroRegistersRead, .metroIntervalRead, .metroPulseRead, .metroPulseTest, .metroCountersRead, .balZoneRead, .balIntervalRead, .balMeterRead, .balFit, .balPhaseReset, .balCountersRead, .storeStatusRead, .storeFlashRead, .storePartitionsRead, .storeCheckpointNow, .storeDieRetire, .storeNamespaceFormat, .storeDramRead, .storeLossRead, .storeCountersRead, .timeStatusRead, .timeReferencesRead, .timeStep, .timeLeapSet, .timeConvert, .timeCountersRead, .evtSourcesRead, .evtTrailRead, .barrowList, .barrowHold, .barrowRead, .barrowRelease, .barrowTriggerNow, .barrowClear, .barrowClearlogRead] ++
  [.evtCountersRead, .tenantStatusRead, .tenantSeal, .tenantCheck, .tenantRelease, .tenantCountersRead, .pairStatusRead, .pairSwitchover, .pairForceClaim, .pairOrphansRead, .pairOrphansClear, .pairCountersRead, .updateInventoryRead, .updateStageBegin, .updateStageWrite, .updateStageVerify, .updateActivate, .updateConfirm, .updatePairRoll, .updateHeadCampaign, .updateMeterCampaign, .updateCampaignRead, .updateImageDelete, .configDigestRead, .configRecordsRead, .configBundleSubmit, .updateCountersRead, .safeLockoutRead, .safeOpen, .safeClose, .safeCommandRead, .safeCancel, .safeCountersRead, .portStatusRead, .portSessionsRead, .portSessionReset, .exportRewind, .portCountersRead, .powerStatusRead, .powerSelftestRead, .powerSleep, .powerReboot, .powerDebugClose, .powerCountersRead]

/-- The command of a code, if the firmware knows it (Table 3-4 step 6). -/
def Cmd.ofCode (c : Nat) : Option Cmd := Cmd.all.find? (fun k => k.code == c)

/-- The commands that only read. -/
def Cmd.isRead : Cmd → Bool
  | .ctrlCapsRead | .ctrlHealthRead | .ctrlPing | .ctrlSessionInfo | .ctrlApprovalList | .ctrlRecordRead | .ctrlCredentialList | .laneStatusRead | .laneCountersRead | .laneHeadInfo | .filtChannelRead | .filtTilesRead | .filtDcRead | .filtCountersRead | .filtRomRead | .filtCaptureList | .filtCaptureRead | .rxStatusRead | .rxContextRead | .rxGroupRead | .rxCountersRead | .leaChannelsRead | .leaCountersRead | .leaPollBuild | .leaFrameDecode | .airPlanRead | .airDutyRead | .airQueueRead | .airCountersRead | .floodStatusRead | .secSwardStatus | .lingStatusRead | .lingMeterRead | .lingFrameBuild | .lingCountersRead | .secStatusRead | .secMeterRead | .secQuarantineList | .secQuarantineRead | .secRulesTest | .secCountersRead | .vaultStatusRead | .vaultSlotsRead | .vaultIdentityRead | .vaultDigestRead | .vaultCountersRead | .ledgerMeterRead | .ledgerTotalsRead | .ledgerDisputeList | .ledgerEnginesRead | .ledgerCountersRead | .tariffPlanRead | .tariffEvaluate | .tariffProfileRead | .tariffClocklogRead | .tariffCountersRead | .prepayTokenRead | .prepayTokenList | .prepayStateRead | .prepayTokenCheck | .prepayCountersRead | .metroValuesRead | .metroHarmonicsRead | .metroRegistersRead | .metroIntervalRead | .metroPulseRead | .metroCountersRead | .balZoneRead | .balIntervalRead | .balMeterRead | .balFit | .balCountersRead | .storeStatusRead | .storeFlashRead | .storePartitionsRead | .storeDramRead | .storeLossRead | .storeCountersRead | .timeStatusRead | .timeReferencesRead | .timeConvert | .timeCountersRead | .evtSourcesRead | .evtTrailRead | .barrowList | .barrowRead | .barrowClearlogRead | .evtCountersRead | .tenantStatusRead | .tenantCheck | .tenantCountersRead | .pairStatusRead | .pairOrphansRead | .pairCountersRead | .updateInventoryRead | .updateCampaignRead | .configDigestRead | .configRecordsRead | .updateCountersRead | .safeLockoutRead | .safeCommandRead | .safeCountersRead | .portStatusRead | .portSessionsRead | .portCountersRead | .powerStatusRead | .powerSelftestRead | .powerCountersRead => true
  | _ => false

/-- Status codes: Table 3-5, then the domain statuses of the chapters (R59). -/
inductive Status where
  | done
  | doneClamped
  | deferred
  | pendingApproval
  | continue'
  | refusedRole
  | refusedState
  | refusedSafety
  | authFailed
  | backoff
  | tagFailed
  | sequence
  | noSession
  | absentUnit
  | absentCapacity
  | integrity
  | slotEmpty
  | unknownCommand
  | badLength
  | badRecord
  | badArgument
  | fragment
  | internal
  | headNoResponse
  | headRefused
  | noRoom
  | tileLimit
  | captureRate
  | captureSpace
  | ctxFull
  | groupConflict
  | historyRate
  | modeRate
  | leaLength
  | leaChannel
  | leaCounter
  | bandMismatch
  | notPlanned
  | launchLocked
  | dutyExhausted
  | streamBusy
  | streamFull
  | lingNotAssigned
  | lingLength
  | lingMap
  | dirFull
  | addressInUse
  | keygenExhausted
  | superseded
  | quarantineSpace
  | vaultDevice
  | vaultCounter
  | vaultSignature
  | vaultSlot
  | vaultGenExhausted
  | disputeOpen
  | noDispute
  | planPast
  | noPlan
  | notPrepay
  | tokenBacklog
  | tokenExhausted
  | tokenAmount
  | zoneInUse
  | pulseActive
  | noZone
  | fitData
  | storeSpace
  | noSnapshot
  | holdActive
  | sealPrecondition
  | notReady
  | partnerServing
  | imageTarget
  | imageSignature
  | imageRollback
  | imageBase
  | imageSpace
  | incompatible
  | solo
  | mixedSchema
  | bundleSeq
  | safeBusy
  | notRelay
  | notRetained
  | serving
  deriving DecidableEq, Repr

/-- The 16-bit code of a status. -/
def Status.code : Status → Nat
  | .done => 0x0000
  | .doneClamped => 0x0001
  | .deferred => 0x0002
  | .pendingApproval => 0x0003
  | .continue' => 0x0004
  | .refusedRole => 0x0010
  | .refusedState => 0x0011
  | .refusedSafety => 0x0012
  | .authFailed => 0x0013
  | .backoff => 0x0014
  | .tagFailed => 0x0015
  | .sequence => 0x0016
  | .noSession => 0x0017
  | .absentUnit => 0x0020
  | .absentCapacity => 0x0021
  | .integrity => 0x0030
  | .slotEmpty => 0x0031
  | .unknownCommand => 0x0040
  | .badLength => 0x0041
  | .badRecord => 0x0042
  | .badArgument => 0x0043
  | .fragment => 0x0044
  | .internal => 0x00FF
  | .headNoResponse => 0x0200
  | .headRefused => 0x0201
  | .noRoom => 0x0300
  | .tileLimit => 0x0301
  | .captureRate => 0x0302
  | .captureSpace => 0x0303
  | .ctxFull => 0x0400
  | .groupConflict => 0x0401
  | .historyRate => 0x0402
  | .modeRate => 0x0403
  | .leaLength => 0x0500
  | .leaChannel => 0x0501
  | .leaCounter => 0x0502
  | .bandMismatch => 0x0600
  | .notPlanned => 0x0601
  | .launchLocked => 0x0602
  | .dutyExhausted => 0x0603
  | .streamBusy => 0x0700
  | .streamFull => 0x0701
  | .lingNotAssigned => 0x0800
  | .lingLength => 0x0801
  | .lingMap => 0x0802
  | .dirFull => 0x0900
  | .addressInUse => 0x0901
  | .keygenExhausted => 0x0902
  | .superseded => 0x0903
  | .quarantineSpace => 0x0904
  | .vaultDevice => 0x0A00
  | .vaultCounter => 0x0A01
  | .vaultSignature => 0x0A02
  | .vaultSlot => 0x0A03
  | .vaultGenExhausted => 0x0A04
  | .disputeOpen => 0x0B00
  | .noDispute => 0x0B01
  | .planPast => 0x0C00
  | .noPlan => 0x0C01
  | .notPrepay => 0x0D00
  | .tokenBacklog => 0x0D01
  | .tokenExhausted => 0x0D02
  | .tokenAmount => 0x0D03
  | .zoneInUse => 0x0E00
  | .pulseActive => 0x0E01
  | .noZone => 0x0F00
  | .fitData => 0x0F01
  | .storeSpace => 0x1000
  | .noSnapshot => 0x1200
  | .holdActive => 0x1201
  | .sealPrecondition => 0x1300
  | .notReady => 0x1400
  | .partnerServing => 0x1401
  | .imageTarget => 0x1500
  | .imageSignature => 0x1501
  | .imageRollback => 0x1502
  | .imageBase => 0x1503
  | .imageSpace => 0x1504
  | .incompatible => 0x1505
  | .solo => 0x1506
  | .mixedSchema => 0x1507
  | .bundleSeq => 0x1508
  | .safeBusy => 0x1600
  | .notRelay => 0x1601
  | .notRetained => 0x1700
  | .serving => 0x1800

/-- The events of the chapters' events tables. -/
inductive Ev where
  | cellCorrectedRate
  | cellSlow
  | cellFenced
  | blockFenced
  | regionFatal
  | regionRestarted
  | regionFailed
  | chipFatal
  | unitStopOverrun
  | unitEnableDropped
  | sessionOpened
  | sessionClosed
  | sessionAuthFailed
  | sessionBackoff
  | approvalPending
  | approvalDone
  | approvalExpired
  | credentialChanged
  | mailboxNotifyLost
  | laneStarted
  | laneStopped
  | laneLos
  | laneSyncLost
  | laneStartFailed
  | laneIdentityMismatch
  | laneFecDegraded
  | laneLatencyStep
  | laneFreqError
  | laneClaimSwitch
  | laneHeadAlarm
  | laneTributary
  | filtChannelDropped
  | filtChannelRestored
  | filtCellsShort
  | filtSaturation
  | filtDcStarted
  | filtDcStopped
  | filtDcFrozenLong
  | filtCaptureDone
  | rxBookingRefused
  | rxDetectDropped
  | rxBranchLate
  | rxMemberInvalid
  | rxContextStarted
  | rxListenDone
  | leaUnsolicited
  | leaDownctrExhausted
  | leaBcctrExhausted
  | airPollDone
  | airPollLate
  | airMeterLost
  | airMeterSynced
  | airModelReject
  | airResponseMissed
  | airBandMismatch
  | airDutyExhausted
  | floodDone
  | floodPaused
  | swardVictimFull
  | swardVictimClear
  | swardReplay
  | lingTxStarted
  | lingTxStopped
  | lingGovernorCut
  | lingGovernorDefer
  | lingSlotsShort
  | lingPhaseLearned
  | lingMeterUnreachable
  | lingMeterReachable
  | secUnknownMeter
  | secTagFail
  | secCounterExhausted
  | secKeyUnwrapFailed
  | secDirRebuild
  | secQuarantined
  | secQuarantineFull
  | vaultUpdated
  | vaultUpdateRefused
  | vaultCounterExhausted
  | vaultCopyLost
  | vaultDomainViolation
  | vaultRngFault
  | vaultTamper
  | vaultTamperCleared
  | vaultTestRoot
  | vaultReset
  | ledgerRollover
  | ledgerRegisterBack
  | ledgerDisputeOpened
  | ledgerDisputeClosed
  | ledgerBadRegister
  | ledgerRecordPoisoned
  | ledgerMeterClosed
  | ledgerGap
  | tariffVersionActive
  | tariffClockStep
  | tariffMeterClock
  | tariffNoPlan
  | tariffOldPlan
  | tariffBadProfile
  | tariffArchivePressure
  | prepayDeliveryFailed
  | prepayTokenRejected
  | prepayVoidApplied
  | prepayCreditAnomaly
  | prepaySeqExhausted
  | tamperOccurred
  | tamperCountBack
  | metroNoCrossing
  | metroCrossingRestored
  | metroPhaseLost
  | metroPhaseRestored
  | metroOverRange
  | metroPulseBacklog
  | metroPulseUnknown
  | balLossAlarm
  | balLossClear
  | balNegativeAlarm
  | balNegativeClear
  | balIncomplete
  | balPhaseLearned
  | balZoneMismatch
  | balTenantMismatch
  | storeDieMismatch
  | storeDieFailed
  | storeBlockRetired
  | storeCopyRepaired
  | storeDataLost
  | storeWear
  | storeJournalFull
  | storeSaveSlow
  | storePartitionFull
  | storeCheckpointDone
  | storeIntegrity
  | timeState
  | timeReference
  | timeFalseticker
  | timeStepped
  | timeLeap
  | timeAirSeeded
  | timePartnerOffset
  | barrowTriggered
  | barrowMissed
  | barrowAreaFull
  | barrowCleared
  | barrowHoldExpired
  | eventRateLimited
  | tenantSealed
  | tenantSealRefused
  | tenantReleased
  | tenantAccessViolation
  | tenantShareWait
  | pairTakeoverStarted
  | pairTakeoverDone
  | pairClaimLost
  | pairPartnerLost
  | pairSolo
  | pairIsolated
  | pairLinkLost
  | pairReady
  | pairNotReady
  | pairReplayLong
  | pairTakeback
  | pairTakebackFailed
  | pairOrphaned
  | pairForced
  | pairConfigConflict
  | pairEpochExhausted
  | updateImageStaged
  | updateImageRefused
  | updateActivated
  | updateConfirmed
  | updateReverted
  | updateRollDone
  | updateWaveHalted
  | updateChainLink
  | updateCampaignDone
  | configMismatch
  | configAgreed
  | configBundleApplied
  | configBundleRefused
  | safeLockoutEngaged
  | safeLockoutReleased
  | safeLockoutFault
  | safeLockoutFaultCleared
  | safeCommandDone
  | safeCommandExpired
  | safeCommandCancelled
  | safeLateLockout
  | safeResponseBad
  | portLink
  | portSession
  | portTlsFailed
  | portExportBacklog
  | portExportDropped
  | portExportUnkeyed
  | portPartnerTag
  | portPartnerUnkeyed
  | portHostError
  | powerBootDone
  | powerSelftestFail
  | powerWarning
  | powerWarningCleared
  | powerInputFault
  | powerMonitorSave
  | powerSaveRestored
  | powerWake
  | powerSleep
  | powerSleepWake
  | powerFuse
  deriving DecidableEq, Repr

/-- The source number of an event: the base of its domain in Table 20-1 plus its row in the events table (R503). -/
def Ev.source : Ev → Nat
  | .cellCorrectedRate => 304
  | .cellSlow => 305
  | .cellFenced => 306
  | .blockFenced => 307
  | .regionFatal => 308
  | .regionRestarted => 309
  | .regionFailed => 310
  | .chipFatal => 311
  | .unitStopOverrun => 312
  | .unitEnableDropped => 313
  | .sessionOpened => 320
  | .sessionClosed => 321
  | .sessionAuthFailed => 322
  | .sessionBackoff => 323
  | .approvalPending => 324
  | .approvalDone => 325
  | .approvalExpired => 326
  | .credentialChanged => 327
  | .mailboxNotifyLost => 328
  | .laneStarted => 0
  | .laneStopped => 1
  | .laneLos => 2
  | .laneSyncLost => 3
  | .laneStartFailed => 4
  | .laneIdentityMismatch => 5
  | .laneFecDegraded => 6
  | .laneLatencyStep => 7
  | .laneFreqError => 8
  | .laneClaimSwitch => 9
  | .laneHeadAlarm => 10
  | .laneTributary => 11
  | .filtChannelDropped => 32
  | .filtChannelRestored => 33
  | .filtCellsShort => 34
  | .filtSaturation => 35
  | .filtDcStarted => 36
  | .filtDcStopped => 37
  | .filtDcFrozenLong => 38
  | .filtCaptureDone => 39
  | .rxBookingRefused => 64
  | .rxDetectDropped => 65
  | .rxBranchLate => 66
  | .rxMemberInvalid => 67
  | .rxContextStarted => 68
  | .rxListenDone => 69
  | .leaUnsolicited => 96
  | .leaDownctrExhausted => 97
  | .leaBcctrExhausted => 98
  | .airPollDone => 112
  | .airPollLate => 113
  | .airMeterLost => 114
  | .airMeterSynced => 115
  | .airModelReject => 116
  | .airResponseMissed => 117
  | .airBandMismatch => 118
  | .airDutyExhausted => 119
  | .floodDone => 128
  | .floodPaused => 129
  | .swardVictimFull => 192
  | .swardVictimClear => 193
  | .swardReplay => 194
  | .lingTxStarted => 144
  | .lingTxStopped => 145
  | .lingGovernorCut => 146
  | .lingGovernorDefer => 147
  | .lingSlotsShort => 148
  | .lingPhaseLearned => 149
  | .lingMeterUnreachable => 150
  | .lingMeterReachable => 151
  | .secUnknownMeter => 176
  | .secTagFail => 177
  | .secCounterExhausted => 178
  | .secKeyUnwrapFailed => 179
  | .secDirRebuild => 180
  | .secQuarantined => 181
  | .secQuarantineFull => 182
  | .vaultUpdated => 336
  | .vaultUpdateRefused => 337
  | .vaultCounterExhausted => 338
  | .vaultCopyLost => 339
  | .vaultDomainViolation => 340
  | .vaultRngFault => 341
  | .vaultTamper => 342
  | .vaultTamperCleared => 343
  | .vaultTestRoot => 344
  | .vaultReset => 345
  | .ledgerRollover => 208
  | .ledgerRegisterBack => 209
  | .ledgerDisputeOpened => 210
  | .ledgerDisputeClosed => 211
  | .ledgerBadRegister => 212
  | .ledgerRecordPoisoned => 213
  | .ledgerMeterClosed => 214
  | .ledgerGap => 215
  | .tariffVersionActive => 224
  | .tariffClockStep => 225
  | .tariffMeterClock => 226
  | .tariffNoPlan => 227
  | .tariffOldPlan => 228
  | .tariffBadProfile => 229
  | .tariffArchivePressure => 230
  | .prepayDeliveryFailed => 240
  | .prepayTokenRejected => 241
  | .prepayVoidApplied => 242
  | .prepayCreditAnomaly => 243
  | .prepaySeqExhausted => 244
  | .tamperOccurred => 245
  | .tamperCountBack => 246
  | .metroNoCrossing => 160
  | .metroCrossingRestored => 161
  | .metroPhaseLost => 162
  | .metroPhaseRestored => 163
  | .metroOverRange => 164
  | .metroPulseBacklog => 165
  | .metroPulseUnknown => 166
  | .balLossAlarm => 256
  | .balLossClear => 257
  | .balNegativeAlarm => 258
  | .balNegativeClear => 259
  | .balIncomplete => 260
  | .balPhaseLearned => 261
  | .balZoneMismatch => 262
  | .balTenantMismatch => 263
  | .storeDieMismatch => 272
  | .storeDieFailed => 273
  | .storeBlockRetired => 274
  | .storeCopyRepaired => 275
  | .storeDataLost => 276
  | .storeWear => 277
  | .storeJournalFull => 278
  | .storeSaveSlow => 279
  | .storePartitionFull => 280
  | .storeCheckpointDone => 281
  | .storeIntegrity => 282
  | .timeState => 352
  | .timeReference => 353
  | .timeFalseticker => 354
  | .timeStepped => 355
  | .timeLeap => 356
  | .timeAirSeeded => 357
  | .timePartnerOffset => 358
  | .barrowTriggered => 368
  | .barrowMissed => 369
  | .barrowAreaFull => 370
  | .barrowCleared => 371
  | .barrowHoldExpired => 372
  | .eventRateLimited => 373
  | .tenantSealed => 384
  | .tenantSealRefused => 385
  | .tenantReleased => 386
  | .tenantAccessViolation => 387
  | .tenantShareWait => 388
  | .pairTakeoverStarted => 400
  | .pairTakeoverDone => 401
  | .pairClaimLost => 402
  | .pairPartnerLost => 403
  | .pairSolo => 404
  | .pairIsolated => 405
  | .pairLinkLost => 406
  | .pairReady => 407
  | .pairNotReady => 408
  | .pairReplayLong => 409
  | .pairTakeback => 410
  | .pairTakebackFailed => 411
  | .pairOrphaned => 412
  | .pairForced => 413
  | .pairConfigConflict => 414
  | .pairEpochExhausted => 415
  | .updateImageStaged => 416
  | .updateImageRefused => 417
  | .updateActivated => 418
  | .updateConfirmed => 419
  | .updateReverted => 420
  | .updateRollDone => 421
  | .updateWaveHalted => 422
  | .updateChainLink => 423
  | .updateCampaignDone => 424
  | .configMismatch => 425
  | .configAgreed => 426
  | .configBundleApplied => 427
  | .configBundleRefused => 428
  | .safeLockoutEngaged => 432
  | .safeLockoutReleased => 433
  | .safeLockoutFault => 434
  | .safeLockoutFaultCleared => 435
  | .safeCommandDone => 436
  | .safeCommandExpired => 437
  | .safeCommandCancelled => 438
  | .safeLateLockout => 439
  | .safeResponseBad => 440
  | .portLink => 448
  | .portSession => 449
  | .portTlsFailed => 450
  | .portExportBacklog => 451
  | .portExportDropped => 452
  | .portExportUnkeyed => 453
  | .portPartnerTag => 454
  | .portPartnerUnkeyed => 455
  | .portHostError => 456
  | .powerBootDone => 464
  | .powerSelftestFail => 465
  | .powerWarning => 466
  | .powerWarningCleared => 467
  | .powerInputFault => 468
  | .powerMonitorSave => 469
  | .powerSaveRestored => 470
  | .powerWake => 471
  | .powerSleep => 472
  | .powerSleepWake => 473
  | .powerFuse => 474

end Sys2Proof.Machine
end

