-- ==== Sys2Proof/Machine/State.lean ====
section
/-! DEFINITION. The State of the block: every piece of state the spec gives the chip, as plain data, chapter by
chapter; the reasons a step can stop; and State.reset. A structure's default values are its values at reset. -/

namespace Sys2Proof.Machine

/-- Reasons a step stops with a fault. The spec gives every command of the table an effect, so no meaning stops and
the type has no constructor. -/
inductive Fault where
  deriving DecidableEq, Repr

/-- Reasons a step refuses. -/
inductive Refusal where
  /-- Raised by a dispatch arm whose command has no meaning yet: safe, since nothing is claimed of it. -/
  | notModelled (mnemonic : String)
  deriving DecidableEq, Repr


/-- The counters of the spec (R11). -/
inductive CtrName where
  /-- corrected errors per cell (R47) -/
  | correctedErrors
  /-- deadline misses per cell (R47) -/
  | deadlineMisses
  /-- reissued items per cell (R47) -/
  | reissues
  /-- SLOW entries per cell (R47) -/
  | slowEntries
  /-- restarts per region (R47) -/
  | regionRestarts
  /-- authentication failures per channel (R79) -/
  | authFailures
  /-- back-offs per channel (R79) -/
  | backoffs
  /-- expired tickets per channel (R79) -/
  | expiredTickets
  /-- messages per channel (R79) -/
  | messages
  /-- TAG_FAILED responses per channel (R79) -/
  | tagFailed
  /-- events admitted per source (R525) -/
  | evAdmitted
  /-- events dropped per source (R525) -/
  | evDropped
  /-- notifications stopped by RatePerS per source (R525) -/
  | evLimited
  /-- trail overwrites (R525) -/
  | trailOverwrites
  /-- snapshots taken per trigger (R525) -/
  | snapshotsTaken
  /-- area-full entries (R525) -/
  | areaFull
  /-- journal entries streamed (R569) -/
  | pairStreamed
  /-- journal entries acknowledged (R569) -/
  | pairAcked
  /-- checkpoint bytes streamed (R569) -/
  | pairCkptBytes
  /-- catch-up bytes (R569) -/
  | pairCatchUpBytes
  /-- heartbeats sent (R569) -/
  | pairHbSent
  /-- heartbeats missed (R569) -/
  | pairHbMissed
  /-- takeovers (R569) -/
  | pairTakeovers
  /-- yields (R569) -/
  | pairYields
  /-- claims lost (R569) -/
  | pairClaimsLost
  /-- entries into ACTIVE_SOLO (R569) -/
  | pairSolo
  /-- forced claims (R569) -/
  | pairForced
  /-- orphans (R569) -/
  | pairOrphans
  /-- image bytes received per port (R596) -/
  | updBytesIn
  /-- image bytes passed per port (R596) -/
  | updBytesOut
  /-- delta bytes rebuilt (R596) -/
  | updDeltaBytes
  /-- head blocks sent (R596) -/
  | updHeadBlocks
  /-- images refused (R596) -/
  | updRefused
  /-- reversions (R596) -/
  | updReversions
  /-- rolls failed (R596) -/
  | updRollsFailed
  /-- bundles refused (R596) -/
  | updBundlesRefused
  /-- configuration mismatches per domain (R596) -/
  | updMismatch
  /-- safe commands by kind and outcome (R617) -/
  | safeOutcome
  /-- safe command sends (R617) -/
  | safeSends
  /-- ignored safe responses (R617) -/
  | safeIgnored
  /-- frames received per backhaul port (R640) -/
  | portFramesIn
  /-- bytes received per backhaul port (R640) -/
  | portBytesIn
  /-- frames sent per backhaul port (R640) -/
  | portFramesOut
  /-- bytes sent per backhaul port (R640) -/
  | portBytesOut
  /-- FEC corrected codewords per backhaul port (R640) -/
  | portFecCorr
  /-- FEC uncorrected codewords per backhaul port (R640) -/
  | portFecUncorr
  /-- oversize frames per backhaul port (R640) -/
  | portOversize
  /-- refused connections per backhaul port (R640) -/
  | portRefused
  /-- records sent per session (R640) -/
  | heSent
  /-- records acknowledged per session (R640) -/
  | heAcked
  /-- records resent per session (R640) -/
  | heResent
  /-- acknowledgements ignored per session (R640) -/
  | heAckIgnored
  /-- records dropped per session (R640) -/
  | heDropped
  /-- messages received per partner port and Type (R640) -/
  | partnerIn
  /-- messages sent per partner port and Type (R640) -/
  | partnerOut
  /-- tag failures per partner port (R640) -/
  | partnerTagFail
  /-- AER correctable errors (R640) -/
  | aerCorr
  /-- AER uncorrectable errors (R640) -/
  | aerUncorr
  /-- link-down events per port (R640) -/
  | linkDown
  /-- TLS failures per session (R640) -/
  | tlsFailures
  /-- partner tag failures per port (R640) -/
  | partnerTagTally
  /-- boots by reset kind (R674) -/
  | bootsByKind
  /-- D3hot and L1.2 entries (R674) -/
  | hostStates
  /-- saves (R674) -/
  | saves
  /-- input faults (R674) -/
  | inputFaults
  /-- monitor saves (R674) -/
  | monitorSaves
  /-- wake signals (R674) -/
  | wakeSignals
  /-- sleeps (R674) -/
  | sleeps
  /-- samples per reference (R502) -/
  | timeSamples
  /-- rejected samples per reference (R502) -/
  | timeRejected
  /-- seconds in each legal-time state (R502) -/
  | timeSeconds
  /-- partner exchanges (R502) -/
  | timeExchanges
  /-- steps (R502) -/
  | timeSteps
  /-- falseticker seconds per reference (R502) -/
  | timeFalse
  /-- entries to HOLDOVER (R502) -/
  | timeHoldovers
  /-- entries to FREE (R502) -/
  | timeFrees
  /-- bound operations per domain (R330) -/
  | vaultBound
  /-- binding waits per domain (R330) -/
  | vaultWaits
  /-- refused messages per domain and status code (R330) -/
  | vaultRefused
  /-- tamper alarms (R330) -/
  | vaultAlarms
  /-- copies lost per domain (R330) -/
  | vaultLost
  /-- domain violations per domain (R330) -/
  | vaultViolations
  /-- DRBG faults (R330) -/
  | vaultRngFaults
  /-- upstream superframes per lane (R108) -/
  | laneSuperframes
  /-- corrected codewords per lane (R108) -/
  | laneCorrCw
  /-- corrected symbols per lane (R108) -/
  | laneCorrSym
  /-- uncorrectable codewords per lane (R108) -/
  | laneUncorr
  /-- erased containers or slots per lane (R108) -/
  | laneErased
  /-- header CRC failures per lane (R108) -/
  | laneHdrCrc
  /-- control message CRC failures per lane (R108) -/
  | laneCtrlCrc
  /-- samples at full scale per lane and stream (R108) -/
  | laneClip
  /-- losses of signal or FEC lock per lane (R108) -/
  | laneLosCount
  /-- superframe lock losses per lane (R108) -/
  | laneSyncCount
  /-- failed starts per lane (R108) -/
  | laneStartCount
  /-- frequency errors per lane (R108) -/
  | laneFreqCount
  /-- output samples per channel slot and bitstream (R137) -/
  | filtOut
  /-- saturations per channel slot and bitstream by stage (R109, R137) -/
  | filtSat
  /-- flagged output samples per channel slot and bitstream by flag (R137) -/
  | filtFlagged
  /-- drops per channel (R137) -/
  | filtDrops
  /-- automatic freezes per DC target (R137) -/
  | filtFreezes
  /-- truncated captures (R137) -/
  | filtTrunc
  /-- capture bytes written (R137) -/
  | filtCapBytes
  /-- bookings per group (R165) -/
  | rxBookings
  /-- booking refusals per group (R165) -/
  | rxRefusals
  /-- contexts per group by outcome and origin (R165) -/
  | rxOutcome
  /-- detections per group (R165) -/
  | rxDetections
  /-- merged detections per group (R165) -/
  | rxMerged
  /-- dropped detections per group (R165) -/
  | rxDropped
  /-- sum of CombinedSnr less BestBranchSnr per group (R165) -/
  | rxGain
  /-- contexts used per channel slot (R165) -/
  | rxUsed
  /-- late exclusions per channel slot (R165) -/
  | rxLateExcl
  /-- weak exclusions per channel slot (R165) -/
  | rxWeakExcl
  /-- late branches reported per lane (R165) -/
  | rxBranchLate
  /-- POLLs launched per Lea channel and rate (R191) -/
  | leaPoll
  /-- COMMANDs launched per Lea channel and rate (R191) -/
  | leaCommand
  /-- BROADCASTs launched per Lea channel and rate (R191) -/
  | leaBroadcast
  /-- READINGs received per Lea channel and rate (R191) -/
  | leaReading
  /-- ACKs received per Lea channel and rate (R191) -/
  | leaAck
  /-- ALARMs received per Lea channel and rate (R191) -/
  | leaAlarm
  /-- CRC_FAIL outcomes per Lea channel and rate (R191) -/
  | leaCrc
  /-- LENGTH_FAIL outcomes per Lea channel and rate (R191) -/
  | leaLen
  /-- unsolicited READINGs and ACKs per Lea channel and rate (R191) -/
  | leaUnsol
  /-- frames with More set per Lea channel and rate (R191) -/
  | leaMore
  /-- ALARMs discarded per Lea channel and rate (R185, R191) -/
  | leaDiscard
  /-- frames per tenant and reason (R299) -/
  | secReason
  /-- AES operations per tenant (R299) -/
  | secAes
  /-- directory rebuilds (R299) -/
  | secRebuild
  /-- Sward lookups (R237) -/
  | swLookup
  /-- Sward hits (R237) -/
  | swHit
  /-- Sward primary writes (R237) -/
  | swPrimary
  /-- Sward victim writes (R237) -/
  | swVictim
  /-- Sward unseen passes (R237) -/
  | swUnseen
  /-- victim-full entries (R237) -/
  | swFull
  /-- frames applied per tenant (R353) -/
  | ledApplied
  /-- frames discarded under R17 per tenant (R353) -/
  | ledOld
  /-- closes per tenant (R353) -/
  | ledCloses
  /-- reconciliations per ledger class and outcome (R353) -/
  | ledRecon
  /-- ignored register items per ledger class (R353) -/
  | ledIgnored
  /-- applications per record engine (R353) -/
  | ledEngApp
  /-- reissues per record engine (R353) -/
  | ledEngReissue
  /-- intervals booked per ledger class (R373) -/
  | tarBooked
  /-- intervals skipped per ledger class (R373) -/
  | tarSkipped
  /-- missing intervals per ledger class (R373) -/
  | tarMissing
  /-- splits per ledger class (R373) -/
  | tarSplits
  /-- merged steps per ledger class (R373) -/
  | tarMerged
  /-- clock-suspect intervals per ledger class (R373) -/
  | tarSuspect
  /-- ignored profile items per ledger class (R373) -/
  | tarIgnored
  /-- evaluations per plan (R373) -/
  | tarEval
  /-- archive records written per tenant (R373) -/
  | tarArchived
  /-- archive records reclaimed per tenant (R373) -/
  | tarReclaimed
  /-- clock-log overwrites per tenant (R373) -/
  | tarClockOver
  /-- tokens issued per tenant (R393) -/
  | preIssued
  /-- credit milli-units issued per tenant (R393) -/
  | preMilli
  /-- tokens settled per tenant and final state (R393) -/
  | preSettled
  /-- delivery attempts per tenant (R393) -/
  | preAttempts
  /-- credit state items ignored per tenant (R393) -/
  | preIgnored
  /-- tokens rejected per prepay class and Result (R393) -/
  | preRejected
  /-- entries to FAULT per lockout input (R617) -/
  | safeFault
  /-- engagements per lockout input (R617) -/
  | safeEngage
  /-- late lockouts (R617) -/
  | safeLate
  /-- launches per head and band (a = 32 × head + band) and source (R217) -/
  | airLaunch
  /-- on-air milliseconds per head and band (R217) -/
  | airOnMs
  /-- deferrals per head and band (a = 32 × head + band) and cause (R210, R217) -/
  | airDefer
  /-- merged polls per head and band (R193, R217) -/
  | airMerged
  /-- late polls per head and band (R217) -/
  | airLate
  /-- launches of unknown outcome per head and band (R207, R217) -/
  | airUnknown
  /-- responses not sent per meter (R204) -/
  | airResponseMissed
  /-- frames launched per stream (R237) -/
  | flFrames
  /-- head launches per stream (R237) -/
  | flHeads
  /-- deferrals per stream (R237) -/
  | flDefer
  /-- steps per tributary (R424) -/
  | metroSteps
  /-- windows per tributary (R424) -/
  | metroWindows
  /-- synchronous windows per tributary (R424) -/
  | metroSync
  /-- windows without values per tributary (R406, R424) -/
  | metroEmpty
  /-- detected crossings per tributary and phase (R424) -/
  | metroCross
  /-- invalid crossings per tributary and phase (R424) -/
  | metroInvalid
  /-- over-range samples per tributary and channel (R424) -/
  | metroOver
  /-- step reissues per tributary (R413, R424) -/
  | metroReissue
  /-- entries to NO_CROSSING per tributary (R424) -/
  | metroNoCross
  /-- phase losses per tributary and phase (R424) -/
  | metroPhaseLoss
  /-- discarded pulses per output (R418, R424) -/
  | metroDiscard
  /-- pulses emitted per output (R424) -/
  | metroPulses
  /-- frames launched per tributary by type (R271) -/
  | lingFrames
  /-- receptions per tributary by outcome (R271) -/
  | lingRx
  /-- deferrals per tributary by cause (R271) -/
  | lingDefer
  /-- energy units per tributary and phase (R271) -/
  | lingEnergy
  /-- governor cuts per tributary (R271) -/
  | lingCuts
  /-- intervals per zone by outcome (R448) -/
  | balOutcome
  /-- intervals per zone by verdict (R448) -/
  | balVerdict
  /-- late seconds per zone (R448) -/
  | balLate
  /-- stray credits per zone (R448) -/
  | balStray
  /-- alarm raises per zone and alarm kind (R448) -/
  | balAlarm
  /-- sectors read per die (R479) -/
  | stRead
  /-- sectors programmed per die (R479) -/
  | stProg
  /-- LDPC soft decodes per die (R479) -/
  | stSoft
  /-- read-retry uses per die (R479) -/
  | stRetry
  /-- blocks erased per die (R479) -/
  | stErased
  /-- bytes written by host data per partition (R479) -/
  | stHost
  /-- bytes written by reclamation per partition (R479) -/
  | stReclaim
  /-- tag re-reads per DRAM channel (R479) -/
  | stTagRead
  /-- retired blocks per die (R479) -/
  | stRetired
  /-- unreadable sectors per partition (R479) -/
  | stUnread
  /-- tag failures per DRAM channel (R479) -/
  | stTagFail
  /-- poisonings per tenant (R479) -/
  | stPoison
  /-- work items that waited beyond ShareWaitMs per tenant (R544) -/
  | tenWaits
  /-- access violations per tenant (R544) -/
  | tenViolations
  /-- sealings per tenant (R544) -/
  | tenSealings
  /-- releases per tenant (R544) -/
  | tenReleases
  deriving DecidableEq, Repr

/-! ### Chapter 2: variants, regions, units -/

/-- The variants of Table 0-1 (R2). -/
inductive Variant where
  | ew9664 | ew9664r | ew9632
  deriving DecidableEq, Repr

/-- The state of a region (R45). -/
inductive RegionSt where
  | on | restarting | failed
  deriving DecidableEq, Repr

/-- One region: its state, the times (ms) of the restarts that count towards RestartLimit (R37), when the running restart
began, and the lanes of a quadrant that start again once it ends (Table 2-5). -/
structure Region where
  st : RegionSt := .on
  window : List Nat := []
  began : Nat := 0
  lanes : List Nat := []
  deriving DecidableEq, Repr

/-- One cell: fenced, SLOW, recent deadline misses and SLOW entries (ms), counts of R47, corrected errors in the
present hour and whether `cell.corrected_rate` was raised in it (Table 2-12). -/
structure CellHealth where
  fenced : Bool := false
  slow : Bool := false
  slowSince : Nat := 0
  misses : List Nat := []
  slowEntries : List Nat := []
  hour : Nat := 0
  hourCount : Nat := 0
  hourRaised : Bool := false
  deriving DecidableEq, Repr

/-- The states of a unit under the enable rule (R40); `stopping true` holds an enable. -/
inductive UnitSt where
  | off | starting | on | stopping (held : Bool)
  deriving DecidableEq, Repr

/-- The units under the enable rule (Table 2-7): a lane, a receive context, Ling transmit of a tributary, a DC-block
stage of a target (Table 5-4). -/
inductive UnitId where
  | lane (n : Nat) | context (n : Nat) | lingTx (t : Nat) | dcBlock (n : Nat)
  deriving DecidableEq, Repr

/-- A unit under the enable rule: its state, whether it was fenced by R42, when its shut-down began (ms), and whether
its start carries the reason `deferred` (R41). -/
structure EnUnit where
  st : UnitSt := .off
  fenced : Bool := false
  stopAt : Nat := 0
  deferred : Bool := false
  deriving DecidableEq, Repr

/-- A work item in a cell's input queue (R26, R27): its ticket, the cell that holds it, an identifier of the item, and the
time (ms) its deadline passes. -/
structure WorkItem where
  ticket : Nat
  cell : Nat
  item : Nat
  dueMs : Nat := 0
  deriving DecidableEq, Repr

/-- An item that a block holds because no cell of it accepts one (R26): the cell it came from and its identifier. -/
structure HeldItem where
  cell : Nat
  item : Nat
  deriving DecidableEq, Repr

/-- The chip error manager and the regions. Regions and cells not listed hold the default. `work` holds the items in the
cells' input queues, oldest first, `held` those the blocks hold (R26), and `turn` the cell of each block that was granted last
(R27). -/
structure Arch where
  variant : Variant := .ew9664
  siliconLetter : Nat := 2
  siliconDigit : Nat := 1
  dramGiB : Nat := 16
  debugClosed : Bool := false
  regions : Map Nat Region := []
  cells : Map Nat CellHealth := []
  fencedBlocks : List Nat := []
  units : Map UnitId EnUnit := []
  work : List WorkItem := []
  held : List HeldItem := []
  turn : Map Nat Nat := []
  revoked : List Nat := []
  nextTicket : Nat := 1
  chipFatal : Bool := false
  deriving DecidableEq, Repr


/-! ### Chapter 3: the host window, mailbox channels, sessions, tickets, credentials, records -/

/-- The states of a mailbox channel (MB_STATE, Table 3-2). -/
inductive ChanSt where
  | idle | busy | responseReady | resetting
  deriving DecidableEq, Repr

/-- A request that passed steps 1 to 6 of Table 3-4 and waits for its execution: its command, its body, and the
header values its response echoes. `tagged` is false for an untagged request (R60); `tunnel` says by which path it came
(R54), and `order` numbers the doorbells accepted (R53). -/
structure Request where
  cmd : Cmd
  body : List Byte
  seq : Nat := 0
  corr : Nat := 0
  sessionId : Nat := 0
  tagged : Bool := true
  tunnel : Bool := false
  order : Nat := 0
  deriving DecidableEq, Repr

/-- A response computed and not yet placed: the command code and header values echoed, status, body, whether it
carries a tag (R63), the key of a session that closed with the command itself, and whether the session closes once the
response is returned (R77). -/
structure Response where
  code : Nat
  status : Status
  body : List Byte := []
  seq : Nat := 0
  corr : Nat := 0
  sessionId : Nat := 0
  tagged : Bool := true
  key : Option (List Byte) := none
  closeAfter : Bool := false
  deriving DecidableEq, Repr

/-- Fragments received of a request (R56): command, index expected next, body so far. -/
structure Assembly where
  code : Nat
  next : Nat
  body : List Byte
  deriving DecidableEq, Repr

/-- A live device nonce (R62). -/
structure Nonce where
  nd : List Byte
  sessionId : Nat
  role : Nat
  tenant : Nat
  slot : Nat
  issuedMs : Nat
  deriving DecidableEq, Repr

/-- An open session (R60, R61): identity, role code, tenant, credential slot, Ks, the last request sequence, the next
notification sequence, the calendar stamp of its opening, and the time (ms) its idle timer runs out. -/
structure Session where
  id : Nat
  role : Nat
  tenant : Nat
  slot : Nat
  ks : List Byte := []
  lastSeq : Nat := 0
  notifySeq : Nat := 1
  openStamp : Nat := 0
  idleMs : Nat := 0
  deriving DecidableEq, Repr

/-- A notification waiting on a channel (R57): source, stamp, payload slots. -/
structure Note where
  source : Nat
  stamp : Nat
  payload : List Nat := []
  deriving DecidableEq, Repr

/-- One mailbox channel (Table 3-2, R50, R56, R57, R62, R65). `await` holds the answer of a command whose change must
commit before it is returned (R18), with the Position it waits for. `backoffEnd` is the time (ms) at which a back-off ends. -/
structure Channel where
  st : ChanSt := .idle
  respVec : Nat
  notifyVec : Nat
  ignored : Nat := 0
  notifyLost : Nat := 0
  request : Option Request := none
  await : Option (Nat × Status × List Nat × List Byte) := none
  running : Bool := false
  assembly : Option Assembly := none
  response : Option Response := none
  fragments : List (List Byte) := []
  notes : List Note := []
  lostBefore : Nat := 0
  overflowed : Bool := false
  nonce : Option Nonce := none
  session : Option Session := none
  authFails : Nat := 0
  badTags : Nat := 0
  backoffEnd : Option Nat := none
  deriving DecidableEq, Repr

/-- A live approval ticket (R68 to R70): the command and its operands, the target object, SHA-256 of the original body,
the initiator, and the time (ms) at which ApprovalWindowS ends. -/
structure Ticket where
  ticket : Nat
  cmd : Cmd
  args : List Nat
  target : Nat
  digest : List Byte
  ch : Nat
  sessionId : Nat
  role : Nat
  tenant : Nat
  slot : Nat
  expiresMs : Nat
  deriving DecidableEq, Repr

/-- A stored credential (R61, R76): a 32-byte secret, its kind (0 key, 1 password), generation, set
time, and the domain's committed counter at the time (Table 12-4). -/
structure Credential where
  secret : List Byte
  kind : Nat
  generation : Nat
  setStamp : Nat
  updateCounter : Nat := 0
  deriving DecidableEq, Repr

/-- A credential slot's name: role code, tenant (0 but for role 2), slot 0 to 3 (R61). -/
abbrev CredKey := Nat × Nat × Nat

/-- An applied record instance (R71, R696): the owning tenant and the body as the number its little-endian bytes
hold. -/
structure RecInst where
  tenant : Nat
  body : Nat
  deriving DecidableEq, Repr

/-- Statistics counters and tamper and event counts, named by the chapter and the row of the spec that keeps them; the
two indexes say which unit, channel, meter or tenant (R11). -/
structure Ctr where
  name : CtrName
  a : Nat := 0
  b : Nat := 0
  deriving DecidableEq, Repr

/-- The host window, channels, sessions, tickets, credentials. Channels not listed hold the default with vectors n; `accepted` counts the
requests accepted (R53). -/
structure Mail where
  serial : Nat := 0
  salt : Nat := 0
  fwVersion : Nat := 0x05020000
  ucodeVersion : Nat := 0x05020000
  heartbeat : Nat := 0
  badAccess : Nat := 0
  mailboxReady : Bool := false
  serviceReady : Bool := false
  buffers : List Host.Cell := []
  msixTable : Map Nat (Nat × Nat × Nat) := []
  msixPending : List Nat := []
  msixSent : List Nat := []
  chans : Map Nat Channel := []
  tickets : List Ticket := []
  creds : Map CredKey Credential := []
  credGens : Map CredKey Nat := []
  firstSoSet : Bool := false
  accepted : Nat := 0
  deriving DecidableEq, Repr


/-! ### Chapter 4: field lanes -/

/-- A complex word. -/
structure Cx where
  re : Int := 0
  im : Int := 0
  deriving DecidableEq, Repr

/-- The flags of a sample (R113): gap, erased, settling; and whether a stage saturated on it (R128). -/
structure SmpFlags where
  gap : Bool := false
  erased : Bool := false
  settling : Bool := false
  sat : Bool := false
  deriving DecidableEq, Repr

/-- A sample inside a chain. -/
structure Smp where
  v : Cx := {}
  f : SmpFlags := {}
  deriving DecidableEq, Repr

/-- An output sample with its air-time tag: a period and the lane remainder in ps (R113). -/
structure OutSmp where
  tag : Nat
  rem : Nat := 0
  v : Cx := {}
  f : SmpFlags := {}
  deriving DecidableEq, Repr

/-- The newest superframe of a lane in the downstream direction (Table 4-2): its count, its stamp (ps), and its bytes. -/
structure DownFrame where
  count : Nat
  stamp : Nat
  bytes : List Byte
  deriving DecidableEq, Repr

/-- A head's identity reply (Table 4-6). -/
structure HeadId where
  kind : Nat
  hwRev : Nat
  antennas : Nat
  maxTribs : Nat
  serial : Nat
  fw : Nat
  sampleLead : Nat
  txLead : Nat
  deriving DecidableEq, Repr

/-- Who waits for the reply to a control request: the start step IDENTIFY, its tributary list, a mailbox channel, or a
head campaign. -/
inductive CtrlFor where
  | identify | tribList | host (ch : Nat) | campaign
  deriving DecidableEq, Repr

/-- An outstanding control request (R91): sequence, type, tributary, body, first sending (ms), resends so far. -/
structure CtrlReq where
  seq : Nat
  msgType : Nat
  tributary : Nat := 0
  body : List Byte := []
  firstMs : Nat := 0
  resends : Nat := 0
  owner : CtrlFor
  deriving DecidableEq, Repr

/-- A tributary as its slot and the tributary list say (Tables 4-3 and 4-6): its bits and Ling samples in the newest superframe
(DsBits, LingCount), and the Ling transmit samples that the next downstream slots carry (Table 4-4). -/
structure Trib where
  present : Bool := false
  lock : Nat := 0
  alarms : Nat := 0
  serial : Nat := 0
  dsBits : Nat := 0
  lingCount : Nat := 0
  deriving DecidableEq, Repr

/-- The last valid upstream header of a lane (Table 4-2). -/
structure LaneHeader where
  samplesValid : Bool := false
  headKind : Nat := 0
  obeyed : Bool := false
  count : Nat := 0
  echo : Nat := 0
  turnaround : Nat := 0
  claim : Nat := 0
  lock : Nat := 0
  alarms : Nat := 0
  deriving DecidableEq, Repr

/-- One lane beside its unit state (R84 to R108). `step` is 1 to 5 for a start step, 6 while the lane waits
RetryIntervalMs, 0 otherwise; `stepMs` when the step began, `startMs` when STARTING was entered; `reason` what
`lane.started` will say; `paths` the latency filter's values (ps), newest first; `window` the frequency window's first
t_rx and path, with `windowCount` superframes so far and `lastRx` the newest t_rx; `test` a running LANE.TEST (channel,
end ms); `txFromPs` since when (air time, ps) the transmitter runs and `txCount` the superframes it had sent by then (R94); `erased` the
containers or slots that the newest superframe lost (R103), and `lastFecS` the second of the last comparison with FecUncorrPerS;
`inbox` holds the control messages received and not yet taken, `outbox` those formed and not yet sent (R90), and `down` the newest
downstream superframe. -/
structure Lane where
  step : Nat := 0
  stepMs : Nat := 0
  startMs : Nat := 0
  reason : Nat := 0
  startFailed : Bool := false
  mismatch : Bool := false
  refused : Bool := false
  identifyFailed : Bool := false
  sfLock : Bool := false
  good : Nat := 0
  bad : Nat := 0
  hdr : LaneHeader := {}
  paths : List Int := []
  devRun : Nat := 0
  window : Option (Nat × Int) := none
  windowCount : Nat := 0
  lastRx : Nat := 0
  freqOk : Bool := true
  head : Option HeadId := none
  tribListed : Bool := false
  tribs : Map Nat Trib := []
  reqs : List CtrlReq := []
  nextSeq : Nat := 0
  uncorrSec : Nat := 0
  erased : List Nat := []
  lastFecS : Option Nat := none
  test : Option (Nat × Nat) := none
  txFromPs : Option Nat := none
  txCount : Nat := 0
  inbox : List (List Byte) := []
  outbox : List (List Byte) := []
  down : Option DownFrame := none
  deriving DecidableEq, Repr


/-! ### Chapter 5: channelisation -/

/-- A CIC of five stages (R118): integrators, comb delays, and the flags of the inputs its response spans. -/
structure Cic where
  ints : List Cx := List.replicate 5 {}
  combs : List Cx := List.replicate 5 {}
  recent : List SmpFlags := []
  deriving DecidableEq, Repr

/-- The delay lines of one chain after the channeliser, or of one bitstream, newest sample first (R117, R121): CIC, half-band
stages, final response. -/
structure Chain where
  cic : Cic := {}
  hbs : List (List Smp) := []
  fin : List Smp := []
  deriving DecidableEq, Repr

/-- The stages of one antenna of a head that its channels share (R110): the air-time period and lane remainder of the sample
expected next, the mixed samples and the half-band outputs, newest first. -/
structure Front where
  next : Nat := 0
  rem : Nat := 0
  mix : List Smp := []
  half : List Smp := []
  deriving DecidableEq, Repr

/-- The chains of one tributary (R121, R122): bits and superframes since they started, the bitstreams' chains, the Ling delay lines by
phase with their newest outputs, and the air time until which they settle. -/
structure LineChains where
  bits : Nat := 0
  frames : Nat := 0
  streams : Map Nat Chain := []
  ling : Map Nat (List Smp) := []
  lingOut : Map Nat (List OutSmp) := []
  settleEnd : Nat := 0
  deriving DecidableEq, Repr

/-- An active channel as placed (R115, R116, R120): its slots as antenna and fine cell of the quadrant, whether it is
dropped, the air time until which it settles, and whether a boot restored it and its lane has not started yet (R135). -/
structure ChanFilt where
  slots : List (Nat × Nat) := []
  dropped : Bool := false
  settleEnd : Nat := 0
  restored : Bool := false
  deriving DecidableEq, Repr

/-- A DC-block beside its unit state (R126 to R128): what started it; by antenna (0 for a bitstream) the estimates, the sums and
numbers of unflagged samples taken in STARTING, and the samples left of an automatic freeze; a commanded freeze, when the present
freeze began (ms, stamp), and whether its length was reported. -/
structure DcSt where
  reason : Nat := 0
  est : Map Nat Cx := []
  sums : Map Nat (Cx × Nat) := []
  auto : Map Nat Nat := []
  cmdFreeze : Bool := false
  frozen : Option (Nat × Nat) := none
  longRaised : Bool := false
  deriving DecidableEq, Repr

/-- The states of a capture. -/
inductive CapSt where
  | waiting | active | stopped | done
  deriving DecidableEq, Repr

/-- A gap of a capture (R132): first sample, count, cause (0 gap, 1 erased, 2 settling). -/
structure GapEntry where
  first : Nat
  count : Nat
  cause : Nat
  deriving DecidableEq, Repr

/-- A capture (R129 to R132): its arguments, its header words, its gap list and its samples. `start` is 0 now, 1 at air
time, 2 on an event source, with `at'` the air time or source; `rate` is its bytes per second × 4 096. `airs` and `rems` hold the air time
and the lane remainder of sample 0 by stream, `words` the samples taken by stream, in the order taken, `gaps` the gap entries; `staged` the
bytes in the staging buffer. -/
structure Capture where
  id : Nat
  kind : Nat
  lane : Nat
  mask : Nat
  sub : Nat
  start : Nat
  at' : Nat
  durationUs : Nat
  size : Nat
  st : CapSt := .waiting
  reqStamp : Nat := 0
  subBand : Nat := 0
  divider : Nat := 1
  rate : Nat := 0
  truncated : Bool := false
  startStamp : Nat := 0
  startAir : Nat := 0
  airs : Map Nat Nat := []
  rems : Map Nat Nat := []
  words : Map Nat (List OutSmp) := []
  samples : Nat := 0
  gaps : List GapEntry := []
  staged : Nat := 0
  deriving DecidableEq, Repr

/-- Channelisation. `resv` holds a line-mode lane's metrology cells and its Ling receive cells (R121, R122); `fronts` the shared stages
by lane and stream, `chains` a channel's by channel and antenna, `lines` those of a tributary. -/
structure Filt where
  chans : Map Nat ChanFilt := []
  resv : Map Nat (List Nat × List Nat) := []
  fronts : Map (Nat × Nat) Front := []
  chains : Map (Nat × Nat) Chain := []
  lines : Map Nat LineChains := []
  dc : Map Nat DcSt := []
  captures : List Capture := []
  nextCapture : Nat := 1
  deriving DecidableEq, Repr


/-! ### Chapter 6: reception -/

/-- A booking (Table 6-3): signed fields as stored bits. -/
structure Booking where
  meter : Nat
  group : Nat
  headMask : Nat
  mode : Nat
  openAt : Nat
  closeAt : Nat
  maxFrameMs : Nat
  freqExpect : Nat := 0
  freqSpan : Nat := 0
  tenant : Nat := 0
  deriving DecidableEq, Repr

/-- What of the reception policy a booking or detection was made under (R162): BranchMinSnr, AlignDeadlineMs, RetroMaxBranches,
TrackSymbols, and the mode's FreqSearch. -/
structure RxPol where
  minSnr : Int := -60
  alignMs : Nat := 4
  retroMax : Nat := 64
  track : Nat := 32
  search : Nat := 0
  deriving DecidableEq, Repr

/-- A booking accepted and not yet open: its number, whether it is a listen from a mailbox command, the policy it was made under, and the
branches it has reserved for (R145). -/
structure Booked where
  id : Nat
  b : Booking
  listen : Bool := false
  pol : RxPol := {}
  count : Nat := 0
  deriving DecidableEq, Repr

/-- A watcher's detection that waits for an entry (R147, R150), with its air time. -/
structure Detection where
  group : Nat
  channel : Nat
  antenna : Nat
  mode : Nat
  startAir : Nat
  ms : Nat
  air : Nat := 0
  pol : RxPol := {}
  deriving DecidableEq, Repr

/-- What is held on a STOPPING entry (R142). -/
inductive HeldOpen where
  | booking (x : Booked) | detection (d : Detection)
  deriving DecidableEq, Repr

/-- The states of an open context (Table 6-2); a FREE entry is not listed. -/
inductive CtxSt where
  | starting | search | track | final | stopping
  deriving DecidableEq, Repr

/-- What a context estimates of a branch at detection (R153): the complex gain, the noise variance, and the propagation offset from the
reference branch in 1/64 of a sample. -/
structure BranchEst where
  h : Cx := {}
  var : Nat := 0
  tau : Int := 0
  deriving DecidableEq, Repr

/-- A combined sample (R154), or an erasure. -/
structure Comb where
  re : Rat := 0
  im : Rat := 0
  erased : Bool := false
  deriving DecidableEq, Repr

/-- What the combining pass leaves (R154): the combined stream, the branches that had weight over at least half the frame, those below
BranchMinSnr at its end, and the µs during which a used branch was flagged. -/
structure RxPass where
  comb : List Comb := []
  used : List Nat := []
  weak : List Nat := []
  flaggedUs : Nat := 0
  deriving DecidableEq, Repr

/-- An open context: the booking it serves, its number, its origin (0 booked, 1 retro, 2 listen), the policy it opened with, the branches
reserved for, its branches as channel and antenna with their alignment buffers (newest sample first) and estimates, the carrier offset
(Hz), whether the sync word says frame format B, the frame start, the late branches, the final pass, its outcome and descriptor. -/
structure RxCtx where
  st : CtxSt
  id : Nat
  b : Booking
  origin : Nat
  pol : RxPol := {}
  count : Nat := 0
  branches : List (Nat × Nat) := []
  buf : Map (Nat × Nat) (List OutSmp) := []
  exhausted : Bool := false
  est : List BranchEst := []
  freqHz : Int := 0
  formatB : Bool := false
  frameStart : Option Nat := none
  detectAir : Nat := 0
  endAir : Option Nat := none
  late : List Nat := []
  caughtUp : Bool := false
  pass : RxPass := {}
  outcome : Option Nat := none
  desc : List Byte := []
  held : Option HeldOpen := none
  deriving DecidableEq, Repr

/-- A frame handed to the security region with its descriptor (R143): from a context, or from a Ling tributary
(`trib`). -/
structure HandedFrame where
  frame : List Byte
  desc : List Byte
  mode : Nat
  origin : Nat
  hint : Nat
  startAir : Nat
  endAir : Nat
  trib : Option Nat := none
  level : Nat := 0
  deriving DecidableEq, Repr

/-- A booked context's outcome on its way to the air region (R157). -/
structure RxOutcome where
  id : Nat
  outcome : Nat
  b : Booking
  frameStart : Option Nat
  frame : List Byte
  desc : List Byte
  deriving DecidableEq, Repr

/-- Reception (R138 to R165). `hist` holds the history buffer of each channel slot, newest sample first (R148); `toSecurity` the frames
handed on, oldest first, and `outcomes` the outcomes due to the air region. -/
structure Rx where
  hist : Map (Nat × Nat) (List OutSmp) := []
  booked : List Booked := []
  nextId : Nat := 1
  ctxs : Map Nat RxCtx := []
  detections : List Detection := []
  detMs : List Nat := []
  refusedMs : List Nat := []
  dropMs : Map Nat Nat := []
  dropCount : Map Nat Nat := []
  lateMs : Map Nat Nat := []
  invalid : List Nat := []
  toSecurity : List HandedFrame := []
  outcomes : List RxOutcome := []
  deriving DecidableEq, Repr


/-! ### Chapter 7: Lea -/

/-- What Lea keeps across frames (R177, R175): per meter the PollTags launched with the time of launch, the last
`lea.unsolicited` of a meter, and the meters and broadcast keys whose exhaustion has been raised. -/
structure LeaSt where
  tags : Map Nat (List (Nat × Nat)) := []
  unsolMs : Map Nat Nat := []
  downRaised : List Nat := []
  bcRaised : List (Nat × Nat) := []
  deriving DecidableEq, Repr


/-! ### Chapter 8: the poll plan and launch queues -/

/-- The plan states of Table 8-1. -/
inductive PlanSt where
  | unsynced | acquiring | fixed | learning | tracking | lost
  deriving DecidableEq, Repr

/-- A pending poll (R193): its due time (calendar seconds), Request, Priority, whether a command made it, whether
`air.poll_late` was raised, the cause last deferred, the air time before which it is not re-planned (R210, R212), and
whether R211 still holds it back. -/
structure PendPoll where
  due : Nat
  request : Nat
  priority : Nat
  commanded : Bool := false
  late : Bool := false
  cause : Option Nat := none
  notBefore : Nat := 0
  held : Bool := false
  deriving DecidableEq, Repr

/-- What a COMMAND to a meter carries, so that it can be checked again before it is sent: the Seq of a safe command, the
sequence of a token, a FloodSetup's SetupSeq, and a campaign. -/
structure Carried where
  safe : Option Nat := none
  token : Option Nat := none
  setup : Option Nat := none
  campaign : Option Nat := none
  deriving DecidableEq, Repr

/-- A follow COMMAND committed with its POLL (R203): PollTag, frame from L through the CRC, DownCtr, what it carries, and
the Position of the counter's commit. -/
structure FollowCmd where
  tag : Nat
  frame : List Byte
  ctr : Nat
  carried : Carried
  position : Nat
  deriving DecidableEq, Repr

/-- A POLL planned or in flight: the context's number, the launch group, PollTag, rate, E, the uncertainty it was planned
with (ns), the centre and length (air periods) of the wake instants its preamble covers (R198), Re once its answer
arrived, and the follow COMMAND. -/
structure OutPoll where
  booking : Nat
  gid : Nat
  tag : Nat
  rate : Nat
  delay : Nat
  endAir : Nat
  u : Nat
  centre : Nat
  cover : Nat
  answered : Option Nat := none
  follow : Option FollowCmd := none
  closed : Bool := false
  deriving DecidableEq, Repr

/-- The plan of one meter (R192 to R212). `obs` holds the observations (k, W), oldest first; `ref` the reference of R198;
`heads` the heads of the latest accepted uplink with their SNR; `sent` PollTag, end and uncertainty of the last frames
launched to it; `learning` the PollTags of those that were learning polls; `ack` the booking and PollTag of a COMMAND whose ACK is awaited; `sweep` the next step of a sweep, the
sweeps begun and the day they count in. -/
structure PlanMeter where
  st : PlanSt := .unsynced
  obs : List (Nat × Nat) := []
  ref : Option (Nat × Nat) := none
  heads : List (Nat × Int) := []
  misses : Nat := 0
  rejects : Nat := 0
  poll : Option PendPoll := none
  lastDue : Nat := 0
  out : Option OutPoll := none
  sent : List (Nat × Nat × Nat) := []
  learning : List Nat := []
  ack : Option (Nat × Nat) := none
  sweepStep : Nat := 0
  sweeps : Nat := 0
  sweepDay : Nat := 0
  deriving DecidableEq, Repr

/-- The sources of a launch: a POLL, a follow COMMAND, a wireless M-Bus response, a flood, a test carrier. -/
inductive LaunchSrc where
  | poll | command | response | flood | test
  deriving DecidableEq, Repr

/-- An entry of a launch queue (R205). `gid` is common to the entries that send one frame from several heads; `primary` marks
the first of them; `preamble` its preamble bytes. `stream` names the flood stream and block. -/
structure Launch where
  id : Nat
  gid : Nat
  head : Nat
  band : Nat
  antenna : Nat
  carrier : Nat
  start : Nat
  span : Nat
  amp : Nat
  charge : Nat
  source : LaunchSrc
  channel : Option Nat := none
  rate : Nat := 0
  primary : Bool := true
  meter : Option Nat := none
  tag : Nat := 0
  stream : Option (Nat × Nat) := none
  position : Nat := 0
  frame : List Byte := []
  preamble : Nat := 0
  locked : Bool := false
  deriving DecidableEq, Repr

/-- A duty charge (R209): head, band, the 100 ms bucket of its last sample, ms, its share (0 planned, 1 reserve, 2 flood)
and the launch group it belongs to. -/
structure Charge where
  head : Nat
  band : Nat
  bucket : Nat
  ms : Nat
  share : Nat
  gid : Nat
  deriving DecidableEq, Repr

/-- The air region: plans, queues, the launches on air, charges, the end of the last launch per head and band, the air time until which each
response reserve counts as spent (R214), and when R211 last released polls. -/
structure Air where
  plans : Map Nat PlanMeter := []
  queue : List Launch := []
  onAir : List Launch := []
  charges : List Charge := []
  lastEnd : Map (Nat × Nat) Nat := []
  reserveSpent : Nat := 0
  nextId : Nat := 1
  releaseMs : Option Nat := none
  deriving DecidableEq, Repr


/-! ### Chapter 9: floods -/

/-- The states of a flood stream: opened, started, paused (R226), done. -/
inductive StreamSt where
  | opened | started | paused | done
  deriving DecidableEq, Repr

/-- An open flood stream (R218): its definition, its blocks, the round and block launched next, and frames launched.
`hold` is the window and frame slot a frame that no head admitted moved to (R226). -/
structure Stream where
  number : Nat
  kind : Nat
  tenant : Nat
  keySlot : Nat
  target : Nat
  lastBlock : Nat
  segBytes : Nat
  priority : Nat
  rounds : Nat
  blocks : Map Nat (List Byte) := []
  st : StreamSt := .opened
  round : Nat := 0
  block : Nat := 0
  frames : Nat := 0
  hold : Option (Nat × Nat) := none
  deriving DecidableEq, Repr

/-- A meter's flood role (R223): role, hop, whether a FloodSetup waits, and the PollTag of the COMMAND that last carried
it. -/
structure FloodMeter where
  role : Nat := 0
  hop : Nat := 0
  due : Bool := false
  tag : Option Nat := none
  deriving DecidableEq, Repr

/-- Floods: open streams, the last launch (ms) under a stream number, the roles, SetupSeq, and the frame slots already
filled as (window start in seconds, slot), and the second from which the present schedule holds (R234). -/
structure Flood where
  streams : List Stream := []
  lastMs : Map Nat Nat := []
  meters : Map Nat FloodMeter := []
  setupSeq : Nat := 0
  filled : List (Nat × Nat) := []
  fromS : Nat := 0
  deriving DecidableEq, Repr


/-! ### Chapter 10: Ling -/

/-- A frame of the device on the line: what it is (0 POLL, 1 COMMAND, 2 alarm call), its meter, PollTag, level, amplitude,
start and end in air time, end of its answer windows; the carriers active and those on DQPSK, Seed and payload; the
predicted crossings searched around, by phase (1 to 3), with the period and number of cycles; and what a COMMAND carries. -/
structure LingFrame where
  kind : Nat
  meter : Nat
  tag : Nat
  level : Nat
  amp : Nat
  start : Nat
  stop : Nat
  closeAt : Nat
  active : Nat
  map : Nat
  seed : Nat
  payload : List Byte
  windows : List (Nat × Nat)
  period : Nat
  cycles : Nat
  carried : Carried := {}
  deriving DecidableEq, Repr

/-- One tributary (R247 to R260): the exchange in progress, the air time from which the next may start, energy by 1 ms
bucket and phase in units × 32 × 1 023², when a start-up reason applies, the last alarm call (s), the air time from which the
windows count as full (R265), and the last Seed (R246). -/
structure LingTrib where
  out : Option LingFrame := none
  freeAt : Nat := 0
  energy : List (Nat × Nat × Nat) := []
  reason : Nat := 0
  lastCallS : Nat := 0
  fullFrom : Option Nat := none
  lastSeed : Option Nat := none
  deriving DecidableEq, Repr

/-- One Ling meter (R251, R262, R263): level as adapted, learned phase, per-carrier SNR of its last accepted frame, misses,
misses in a row at level 6, unreachable, the last poll at UnreachIntervalS (s), and whether a poll is due by it; the PollTag
and the SNR of an answer that waits for security; the COMMAND prepared for it, and the air time before which no further
one is sent. -/
structure LingMeterSt where
  level : Nat := 3
  phase : Nat := 0
  snr : List Int := []
  misses : Nat := 0
  misses6 : Nat := 0
  unreachable : Bool := false
  lastPollS : Nat := 0
  due : Bool := false
  answered : Option Nat := none
  snrAnswer : Int := 0
  snrCarriers : List Int := []
  cmd : Option FollowCmd := none
  cmdAfter : Nat := 0
  deriving DecidableEq, Repr

/-- Ling. -/
structure Ling where
  tribs : Map Nat LingTrib := []
  meters : Map Nat LingMeterSt := []
  claimAir : Nat := 0
  deriving DecidableEq, Repr


/-! ### Chapter 9: the Sward; Chapter 11: frame security -/

/-- A Sward entry (R229): whether it lies in the victim area, its bucket, fingerprint, SeenS, Count, and whether
`sward.replay` has been raised for it. -/
structure SwardEntry where
  victim : Bool
  bucket : Nat
  print : Nat
  seenS : Nat
  count : Nat := 0
  raised : Bool := false
  deriving DecidableEq, Repr

/-- A frame in the security pipeline or handed to the ledger (R272 to R291): the frame as handed on, its kind (0 Lea or
Ling, 1 and 2 wireless M-Bus profiles 5 and 7, 3 any other), the binding of stage 2 (slot, tenant, key generation,
class), its counter (none until one is assigned), AuthKind, decrypted payload, the unsolicited attribute, the PollTag, the
hash of a counterless frame (R282), the flag word, the captures, and the stage-9 stamp. A slot of all ones is a frame that
ended before it was bound. -/
structure SecFrame where
  h : HandedFrame
  kind : Nat
  slot : Nat
  tenant : Nat
  gen : Nat
  cls : Nat := 0
  counter : Option Nat := none
  assigned : Bool := false
  auth : Nat := 0
  payload : List Byte := []
  unsol : Bool := false
  tag : Nat := 0
  print : Nat := 0
  flags : Nat := 0
  captures : List (Nat × Nat) := []
  time : Nat := 0
  deriving DecidableEq, Repr

/-- A quarantine entry (Table 11-8). -/
structure QEntry where
  f : SecFrame
  rule : Nat
  received : Nat
  deriving DecidableEq, Repr

/-- A directory rebuild in progress (R276): attempts so far, whether it cannot be refused, the time it began, and the address
a waiting record write would insert. -/
structure DirRebuild where
  attempts : Nat := 0
  forced : Bool := true
  beganMs : Nat := 0
  extra : Option (Nat × Nat) := none
  deriving DecidableEq, Repr

/-- The security region. `dirVictims` holds the slots whose directory entry lies in the victim table, `dirRefused` a slot whose
insert four rebuilds refused, `keys` each meter's wrapped individual key with the generation it belongs to, `last` the last
reason of a meter, `recent` the reasons of the last second with their times, and `unseen` the times of unseen passes. -/
structure Sec where
  kd : List Byte := []
  k1 : List Byte := []
  k2 : List Byte := []
  pipe : List SecFrame := []
  rebuild : Option DirRebuild := none
  dirVictims : List Nat := []
  dirRefused : Option Nat := none
  keys : Map Nat (Nat × List Byte) := []
  last : Map Nat Nat := []
  recent : List (Nat × Nat) := []
  unknownS : Nat × Nat := (0, 0)
  quarantine : List QEntry := []
  tombs : List (Nat × Nat) := []
  sward : List SwardEntry := []
  victimSince : Option Nat := none
  victimLast : Nat := 0
  unseen : List Nat := []
  deriving DecidableEq, Repr


/-! ### Chapter 12: the key vault -/

/-- The vault states (R325). -/
inductive VaultSt where
  | loading | opened | sealed
  deriving DecidableEq, Repr

/-- A committed slot copy (Table 12-4): its kind (0 is an erase record), generation, the counter of the message that
wrote it, the key, the root it was written under, and the bank that holds it. -/
structure VaultCopy where
  kind : Nat
  gen : Nat
  updateCounter : Nat
  key : List Byte
  testRoot : Bool
  bank : Nat := 0
  deriving DecidableEq, Repr

/-- Refused messages of a domain: when the last `vault.update_refused` was raised (ms), and the refusals since. -/
structure VaultRefused where
  lastMs : Option Nat := none
  count : Nat := 0
  deriving DecidableEq, Repr

/-- The vault (R300 to R330). `banks` holds the non-volatile array's bytes by bank, domain and slot, `entries` its counter entries by bank
and domain; `copies` the committed copies of a slot as the vault core reads them, newest first; `live` and `shadow`
the copies in the vault core; `erasing` the slots whose erased key still drains; `counters` the committed update
counters with `counterRoot` the root they were written under; `bcCtr` the BcCtr of broadcast key b of a tenant. -/
structure Vault where
  st : VaultSt := .loading
  sealCause : Option Nat := none
  tamperLatched : Bool := false
  alarmStamp : Nat := 0
  loopsOpen : Nat := 0
  banks : Map (Nat × Nat × Nat) (List Byte) := []
  entries : Map (Nat × Nat) (List Byte) := []
  copies : Map (Nat × Nat) (List VaultCopy) := []
  live : Map (Nat × Nat) VaultCopy := []
  shadow : Map (Nat × Nat) VaultCopy := []
  erasing : List (Nat × Nat) := []
  counters : Map Nat Nat := []
  counterTestRoot : Bool := true
  exhausted : List Nat := []
  refused : Map Nat VaultRefused := []
  rngOk : Bool := true
  certificate : List Byte := []
  bcCtr : Map (Nat × Nat) Nat := []
  deriving DecidableEq, Repr


/-! ### Chapter 13: the ledger -/

/-- A meter record (Table 13-1). Array fields are tables with default 0, keyed as the table numbers them: `total` by
16q + 8d + r − 1, `regTotal` by 2q + d, `regRate` and `fb` by 8s + r − 1, `counts`, `snapshots` and the tamper fields by
their index. `lastRate` holds the last register of a disputed rate, from which its
candidates are formed (R342, R349).
(Log entry 41: DESIGN CHOICE.) -/
structure MeterRec where
  active : Bool := false
  gap : Bool := false
  tenant : Nat := 0
  ledgerClass : Nat := 0
  zone : Nat := 0
  zoneAssigned : Bool := false
  plan : Nat := 0
  lastCounter : Nat := 0
  downCtr : Nat := 0
  keyGen : Nat := 1
  lastAccept : Nat := 0
  journalSeq : Nat := 0
  profileEnd : Nat := 0
  baselineTotal : Nat := 0
  baselineRate : Nat := 0
  assignedAt : Nat := 0
  snapshots : Map Nat Nat := []
  counts : Map Nat Nat := []
  countSat : Nat := 0
  total : Map Nat Nat := []
  regTotal : Map Nat Nat := []
  regRate : Map Nat Nat := []
  fb : Map Nat Nat := []
  tamperCount : Map Nat Nat := []
  tamperFirst : Map Nat Nat := []
  tamperLast : Map Nat Nat := []
  credit : Int := 0
  tokenSeq : Nat := 0
  tokenAck : Nat := 0
  lastTokenAt : Nat := 0
  tamperSat : Nat := 0
  disputeMask : Nat := 0
  resolveMain : Nat := 0
  resolveFb : Nat := 0
  fbBroken : Nat := 0
  lastReconcile : Nat := 0
  lastRate : Map Nat Nat := []
  deriving DecidableEq, Repr

/-- An entry of a tenant's ledger queue (R345, R349, R351, R391): a frame, the close of a meter record (its cause: 0
address, 1 tenant, 2 unassigned, 3 release of the tenant; whether it restarts active, and the tenant it restarts under),
the reset of counters by a new key generation (R176), the copy of a ledger meter record, an opening balance, or the
opening of a record. -/
inductive LedgerJob where
  | frame (f : SecFrame)
  | close (cause : Nat) (again : Option Nat)
  | rekey
  | copy (cls plan zone : Nat) (assigned : Bool)
  | balance (milli : Int)
  | opening (tenant : Nat)
  deriving DecidableEq, Repr

/-- The ledger: meter records (those not listed hold the default), one queue per tenant, the frame rings of meters
without counters (R282), poisoned records (R347), and the class counters of R353 kept elsewhere. `ready` says whether the
ledger accepts frames (R348). -/
structure Ledger where
  meters : Map Nat MeterRec := []
  queues : Map Nat (List (Nat × LedgerJob)) := []
  rings : Map Nat (List (Nat × Nat)) := []
  poisoned : List Nat := []
  ready : Bool := false
  deriving DecidableEq, Repr


/-! ### Chapter 14: tariffs -/

/-- A version of a tariff plan (R364): the plan body, the copied time-zone body, and whether its EffectiveS has been
reported. -/
structure PlanVersion where
  effective : Nat
  body : Nat
  tz : Nat
  reported : Bool := false
  deriving DecidableEq, Repr

/-- An archive record (Table 14-4). -/
structure ArchRec where
  slot : Nat
  tenant : Nat
  rate : Nat
  period : Nat
  endS : Nat
  flags : Nat
  streams : List (Nat × Nat)
  lengthS : Nat
  deriving DecidableEq, Repr

/-- A clock-log entry (R359). -/
structure ClockEntry where
  slot : Nat
  tenant : Nat
  kind : Nat
  old : Nat
  new : Nat
  t9 : Nat
  deriving DecidableEq, Repr

/-- The tariff state: plan versions, newest first; archive records as kept; those that wait for their entry's commit,
with the Position; ends reclaimed per slot; and each tenant's clock log, oldest first. -/
structure Tariff where
  plans : Map Nat (List PlanVersion) := []
  archive : List ArchRec := []
  waiting : List (Nat × ArchRec) := []
  expired : Map Nat Nat := []
  clockLog : Map Nat (List ClockEntry) := []
  deriving DecidableEq, Repr


/-! ### Chapter 15: prepayment -/

/-- A token log entry (Table 15-8) with the token's value and the PollTag of the COMMAND that last carried it. `locked`
says a COMMAND carrying it is locked.
(Log entry 43: DESIGN CHOICE.) -/
structure TokenEntry where
  slot : Nat
  tenant : Nat
  st : Nat
  kind : Nat
  balanced : Bool := false
  seq : Nat
  result : Nat := 0xFF
  attempts : Nat := 0
  amount : Nat
  value : Nat := 0
  issuedAt : Nat
  settledAt : Nat := 0
  tag : Option Nat := none
  locked : Bool := false
  deriving DecidableEq, Repr

/-- Prepayment: the token log, the flags of a meter's last credit state, and the meters whose issue R566 holds. -/
structure Prepay where
  tokens : List TokenEntry := []
  flags : Map Nat Nat := []
  held : List Nat := []
  deriving DecidableEq, Repr


/-! ### Chapter 16: line metrology -/

/-- The crossing states of Table 16-1. -/
inductive ZoneSt where
  | down | acquiring | valid | noCrossing
  deriving DecidableEq, Repr

/-- One sample of a tributary at 8 kSps (R394, R397): its tag (air-time period), the codes of its eight channels, and whether it is
missing. -/
structure MetroSample where
  tag : Nat
  codes : List Int
  missing : Bool
  deriving DecidableEq, Repr

/-- One phase of a tributary: the newest filtered sample with its instant (ps), whether the voltage has been below −ZcHystMv since the last
crossing, and the crossings detected and not yet judged (R398); the run of valid crossings (R399), the last detected crossing, whether
the phase is VALID (R403), and its recent valid crossings (air time), newest first. -/
structure ZcPhase where
  filtered : Option (Nat × Int) := none
  below : Bool := false
  found : List Nat := []
  run : Nat := 0
  last : Option Nat := none
  valid : Bool := false
  instants : List Nat := []
  deriving DecidableEq, Repr

/-- The values of the latest window (R407, R408): RMS of the eight channels, frequency (mHz, none where not reported), THD
per voltage (0.01 %), whether it was synchronous, and the harmonic groups of each channel of the latest synchronous window
with the frequency they were judged by. -/
structure MetroWindow where
  rms : List Nat := []
  freq : Option Nat := none
  thd : List Nat := []
  sync : Bool := false
  groups : List (List Nat) := []
  groupFreq : Nat := 0
  deriving DecidableEq, Repr

/-- An interval record (Table 16-4). `inc` holds the increments by 3 × code + phase. -/
structure MetroInterval where
  trib : Nat
  zone : Nat
  assigned : Bool
  flags : Nat
  stop : Nat
  missing : Nat
  cycles : Nat
  inc : Map Nat Nat
  vavg : List Nat
  iavg : List Nat
  inavg : Nat
  freq : Nat
  thd : List Nat
  deriving DecidableEq, Repr

/-- What a step record keeps of a tributary beside its increments (R412): the registers and the open interval's accumulators. -/
structure MetroAcc where
  regs : Map Nat Nat := []
  flags : Nat := 0
  missing : Nat := 0
  cycles : Nat := 0
  inc : Map Nat Nat := []
  sums : Map Nat Nat := []
  windows : Nat := 0
  freqSum : Nat := 0
  freqCount : Nat := 0
  thdMax : Map Nat Nat := []
  stepsIn : Nat := 0
  deriving DecidableEq, Repr

/-- One tributary's metrology: its zone's state with the air time it was entered, the armed mark (R401), phases, line time
as a value at an air instant (R404), recent detected crossings of ZcRef with their validity, registers and remainders by
3 × code + phase, increments since the last step record, the open interval, the step counts, and the registers of the last
step record with its Position. Remainders are in parts of a milli-unit (R410). `buf` holds the newest samples, newest first (R413), with
`seen` how many there have been and `winSeen` where a window not synchronous began; `winCross` the crossings of ZcRef since the open
window's first, newest first (R406); `overLeft` the samples left of a channel's freeze request (R395). -/
structure MetroTrib where
  buf : List MetroSample := []
  seen : Nat := 0
  winSeen : Nat := 0
  winCross : List (Nat × Bool) := []
  zone : ZoneSt := .down
  entered : Nat := 0
  armed : Bool := true
  phases : Map Nat ZcPhase := []
  lineTime : Nat := 0
  lineAir : Option Nat := none
  crossings : List (Nat × Bool) := []
  window : MetroWindow := {}
  overLeft : Map Nat Nat := []
  regs : Map Nat Nat := []
  rest : Map Nat Int := []
  stepInc : Map Nat Nat := []
  steps : Nat := 0
  stepsIn : Nat := 0
  lastStep : Nat := 0
  committed : MetroAcc := {}
  pending : Option (Nat × MetroAcc) := none
  zoneNo : Nat := 0
  zoneAssigned : Bool := false
  lastEnd : Nat := 0
  flags : Nat := 0
  missing : Nat := 0
  cycles : Nat := 0
  inc : Map Nat Nat := []
  sums : Map Nat Nat := []
  windows : Nat := 0
  freqSum : Nat := 0
  freqCount : Nat := 0
  thdMax : Map Nat Nat := []
  deriving DecidableEq, Repr

/-- A pulse output (R415 to R418): residue, backlog, the committed batch with its Position, whether `metro.pulse_backlog`
stands, test pulses due, and residue, backlog and batch before the newest step record where it has not committed (R412). -/
structure Pulse where
  was : Nat × Nat × Nat := (0, 0, 0)
  residue : Nat := 0
  backlog : Nat := 0
  batch : Nat := 0
  position : Nat := 0
  warned : Bool := false
  test : Nat := 0
  deriving DecidableEq, Repr

/-- Line metrology. `waiting` holds interval records whose last step record has not committed, with its Position. -/
structure Metro where
  tribs : Map Nat MetroTrib := []
  pulses : Map Nat Pulse := []
  intervals : List MetroInterval := []
  waiting : List (Nat × MetroInterval) := []
  deriving DecidableEq, Repr


/-! ### Chapter 17: zone balance -/

/-- One balance interval of a zone that has not been evaluated, by its end (calendar seconds): whether its start has passed
and its members and expected sums are frozen (R430), and its accumulators (R429, R430). Covered sums are kept exact, in
milli-units × 900. `phases` holds the members' energy by phase. -/
structure BalOpen where
  stop : Nat
  frozen : Bool := false
  members : Nat := 0
  unprofiled : Nat := 0
  expImp : Nat := 0
  expExp : Nat := 0
  covImp : Nat := 0
  covExp : Nat := 0
  milli : Int := 0
  seconds : Nat := 0
  phases : Map Nat Int := []
  unphased : Int := 0
  spread : Bool := false
  deriving DecidableEq, Repr

/-- A zone interval result (Table 17-4). -/
structure BalResult where
  zone : Nat
  tenant : Nat
  outcome : Nat
  verdict : Nat
  flags : Nat
  members : Nat
  stop : Nat
  seconds : Nat
  feeder : Int
  milli : Int
  tech : Nat
  residual : Int
  missImp : Nat
  missExp : Nat
  threshold : Nat
  phaseFeeder : List Int
  phaseMilli : List Int
  phaseTech : List Nat
  unphased : Int
  deriving DecidableEq, Repr

/-- A zone's balance: the next interval start while the zone is active, the open intervals, the verdicts of its most recently
ended EVALUATED intervals by End, its alarms, and its billing totals. -/
structure BalZone where
  next : Option Nat := none
  openIv : List BalOpen := []
  verdicts : List (Nat × Nat) := []
  lossAlarm : Bool := false
  negAlarm : Bool := false
  lossMilli : Nat := 0
  excessMilli : Nat := 0
  deriving DecidableEq, Repr

/-- A meter's balance state (R426, R430, R440, R448): the zone it is credited to and since which interval start, Typ (none
before the first credit), its votes newest first (none: a none vote), learned phase, whether `bal.zone_mismatch` stands, and
its counts. -/
structure BalMeterSt where
  zone : Option Nat := none
  since : Nat := 0
  typ : Option Int := none
  votes : List (Option Nat) := []
  learned : Option Nat := none
  mismatch : Bool := false
  stray : Nat := 0
  late : Nat := 0
  noneVotes : Nat := 0
  deriving DecidableEq, Repr

/-- Zone balance. -/
structure Balance where
  zones : Map Nat BalZone := []
  meters : Map Nat BalMeterSt := []
  results : List BalResult := []
  deriving DecidableEq, Repr


/-! ### Chapter 18: the store -/

/-- The states of a flash die (R449, R459 to R461, R478). -/
inductive DieSt where
  | inUse | unused | slow | failed | retiring
  deriving DecidableEq, Repr

/-- A flash die (R449 to R461). -/
structure Die where
  st : DieSt := .inUse
  badBlocks : List Nat := []
  erases : Map Nat Nat := []
  consecFails : Nat := 0
  formatted : Bool := false
  deriving DecidableEq, Repr

/-- The kinds of journal entry (Table 18-4).
(Log entry 94: DESIGN CHOICE.) -/
inductive JKind where
  | ledger | config | quarantine | token | step | balance | plan | flood | audit | store
  deriving DecidableEq, Repr

/-- What a journal entry carries, as far as a restore reads it back: a record as applied, a meter record image, or the
words of another change. `old` is what the entry replaced: what stands again where the entry is lost with the buffer. -/
inductive JBody where
  | config (rid inst tenant body : Nat) (old : Option RecInst)
  | image (slot : Nat) (r old : MeterRec)
  | words (l : List Nat)
  deriving DecidableEq, Repr

/-- An object that the recovery guarantee covers beside meter records and configuration (R465, Table 22-5): what belongs to a meter slot, a
zone, a tributary with the pulse outputs, the floods, the duty buckets, a head-end session's cursor; and the records made with an entry:
an export record by Position and Index, the profile records of a Position, an interval record, a zone result. -/
inductive Kept where
  | meter (slot : Nat) | zone (zone : Nat) | tributary (trib : Nat) | floods | duty | cursor (session : Nat)
  | exported (position index : Nat) | profile (position : Nat) | interval (trib stop : Nat) | result (zone stop : Nat)
  deriving DecidableEq, Repr

/-- A journal entry (Table 18-4) with its marks: acknowledged by the partner, committed (R18), programmed in both
copies (R463). `also` names the objects that changed with it, and `undo` holds what meters and zones among them were before, which
stands again where the entry is lost (R21). -/
structure JEntry where
  position : Nat
  objSeq : Nat := 0
  kind : JKind
  tenant : Nat
  object : Nat
  stamp : Nat
  body : JBody
  acked : Bool := false
  committed : Bool := false
  copied : Bool := false
  also : List Kept := []
  undo : List (Kept × List Nat) := []
  deriving DecidableEq, Repr

/-- A checkpoint generation (Table 18-6); `digest` holds NsDigest of the namespaces once it is committed. -/
structure Generation where
  gen : Nat
  area : Nat := 0
  digest : List (List Byte) := []
  startPos : Nat
  endPos : Nat
  started : Nat
  epoch : Nat := 0
  committed : Bool := false
  deriving DecidableEq, Repr

/-- A data-lost entry (Table 18-3, R465): tenant, content kind, the range lost (first and count), and when. -/
structure LostEntry where
  tenant : Nat
  kind : Nat
  first : Nat
  count : Nat
  stamp : Nat
  deriving DecidableEq, Repr

/-- A block that belongs to a partition (R452, R454): its partition, the pages programmed since its erase, and those of them that hold live
data. -/
structure BlockSt where
  part : Nat
  used : Nat := 0
  valid : Nat := 0
  deriving DecidableEq, Repr

/-- A frame-audit record in the namespace of its tenant (R467): its tenant, the stamp of Received, and its bytes (Table 18-7). -/
structure AuditRec where
  tenant : Nat
  stamp : Nat
  bytes : List Byte
  deriving DecidableEq, Repr

/-- A poisoned DRAM line (R471): channel, physical address, area of Table 18-8, the object in it, and its tenant.
(Log entry 84: DESIGN CHOICE.) -/
structure PoisonedLine where
  channel : Nat
  address : Nat
  area : Nat
  subject : Nat
  tenant : Nat
  deriving DecidableEq, Repr

/-- The store. Dies are keyed by channel and die number. `diesPer` to `progUs` describe the flash population as its parameter
page reports it (R449). `blocks` is the block map by channel, die and block, `pages` the page map from partition, copy and logical page
(R454), `promoted` the partitions whose reclamation runs in the commit class (R456), `audits` the frame-audit records in the namespaces
(R467), and `bootNonce` the nonce of the DRAM tag keys (Table 12-6). `base` holds the meters and zones that the recovery guarantee covers as the newest entry that names them
has them. `scrubAt` is the share of the present scrub pass done, in thousandths; `ckptMs` the last checkpoint's
start. -/
structure Store where
  diesPer : Nat := 4
  blocksPerDie : Nat := 16384
  pagesPerBlock : Nat := 1024
  endurance : Nat := 3000
  progUs : Nat := 400
  dies : Map (Nat × Nat) Die := []
  blocks : Map (Nat × Nat × Nat) BlockSt := []
  pages : Map (Nat × Nat × Nat) (Nat × Nat × Nat) := []
  promoted : List Nat := []
  audits : List AuditRec := []
  bootNonce : List Byte := []
  writeSeq : Nat := 1
  nsEpochs : Map Nat Nat := []
  nextPos : Nat := 1
  journal : List JEntry := []
  base : Map Kept (List Nat) := []
  journalStart : Nat := 1
  fullRaised : Bool := false
  running : Option Generation := none
  generations : List Generation := []
  nextGen : Nat := 1
  ckptMs : Nat := 0
  poisoned : List PoisonedLine := []
  scrubPasses : Nat := 0
  scrubAt : Nat := 0
  lost : List LostEntry := []
  wearRaised : Nat := 0
  deriving DecidableEq, Repr

/-! ### Chapter 19: time -/

/-- The legal-time states of Table 19-2, in the order of their codes. -/
inductive TimeSt where
  | free | acquiring | locked | holdover | partner
  deriving DecidableEq, Repr

/-- One time reference as the servo sees it (R488 to R490): last offset (ns, signed), last path delay, samples, time of
the last sample (ms), whether qualified, whether a falseticker, and the recent samples (offset, delay, ms) its filter looks at (R489). -/
structure RefSt where
  offset : Int := 0
  delay : Nat := 0
  samples : Nat := 0
  lastMs : Option Nat := none
  qualified : Bool := false
  falseticker : Bool := false
  recent : List (Int × Nat × Nat) := []
  deriving DecidableEq, Repr

/-- The time block (R480 to R497). `ms` is the model's own clock, one step per millisecond. `freqPpt` is F in parts per
10^12; `steered` is the correction applied so far, ns × 1 000; `hist` holds the unsteered offsets of the last 64 s, newest
first; `leap` is an announcement (day since 2000-01-01, sign) and `leapFrom` the reference it came from, none for a command; `second` is the
legal second last taken; `smearing` the sign of a running smear, `smearDone` the
smear accumulated, ns × 1 000; `airTrim` and `partnerHist` are what a standby in PARTNER follows its partner by: the held part of its
air trim in parts per 10^12, and the unsteered offsets of the last 64 s; `cross` holds the cross-stamps (air, legal ns, increment), newest first. -/
structure TimeBlock where
  ms : Nat := 0
  legalNs : Nat := 0
  legalFrac : Nat := 0
  inc : Nat := 0x400000000
  incWritten : Option Nat := none
  air : Nat := 0
  airFrac : Nat := 0
  airInc : Nat := 0x800000000
  st : TimeSt := .free
  lastStamp : Nat := 0
  newestJournalStamp : Nat := 0
  theta : Int := 0
  freqPpt : Int := 0
  steered : Int := 0
  hist : List Int := []
  lockRun : Nat := 0
  unlockRun : Nat := 0
  refs : Map Nat RefSt := []
  selected : Option Nat := none
  leap : Option (Nat × Int) := none
  leapFrom : Option Nat := none
  second : Option Nat := none
  smearing : Option Int := none
  smearDone : Int := 0
  smearDay : Nat := 0
  pendingStep : Option (Int × Nat) := none
  cross : List (Nat × Nat × Nat) := []
  claimedSinceBoot : Bool := false
  airSeeded : Bool := false
  airTrim : Int := 0
  partnerHist : List Int := []
  lockedReached : Bool := false
  partnerOffset : Option Int := none
  holdoverMs : Nat := 0
  vaonClockValid : Bool := false
  savedCross : Option (Nat × Nat) := none
  deriving DecidableEq, Repr


/-! ### Chapter 20: events and the Barrow recorder -/

/-- An event raised and waiting in the fabric queue (R504, R505); `officer` where R508 sends it to every open
security-officer session. -/
structure Raised where
  ev : Ev
  tenant : Nat
  stamp : Nat
  payload : List Nat := []
  officer : Bool := false
  deriving DecidableEq, Repr

/-- A trail entry (Table 20-2). The payload keeps its slots; a read shows the first 40 bytes. -/
structure TrailEntry where
  seq : Nat
  ev : Ev
  loss : Bool
  tenant : Nat
  stamp : Nat
  payload : List Nat
  deriving DecidableEq, Repr

/-- One trigger's working state: the times (ms) of its matches, the end of its holdoff (ms), its missed count with the
stamps of first and last miss (R517), the hour of the last `barrow.missed`. -/
structure TrigSt where
  hits : List Nat := []
  holdoffEnd : Nat := 0
  missed : Nat := 0
  missedSat : Bool := false
  firstMiss : Option Nat := none
  lastMiss : Option Nat := none
  deriving DecidableEq, Repr

/-- A chosen word captured (Table 20-5). -/
structure WordEntry where
  selector : Nat
  value : Nat
  status : Status
  deriving DecidableEq, Repr

/-- A snapshot (Tables 20-4 and 20-5): header words, chosen words, pre and post entries. `open'` while it collects. -/
structure Snapshot where
  id : Nat
  trigger : Nat
  prot : Bool
  occurrences : Nat := 1
  trigSeq : Nat
  trigStamp : Nat
  bootStatus : Nat := 0
  claim : Nat := 0
  timeState : Nat := 0
  regionWords : List Nat := []
  words : List WordEntry := []
  pre : List TrailEntry := []
  post : List TrailEntry := []
  postLimit : Nat := 0
  postEndMs : Nat := 0
  collecting : Bool := true
  deriving DecidableEq, Repr

/-- A clear record (Table 20-7). -/
structure ClearRec where
  seq : Nat
  initiator : Nat
  approver : Nat
  stamp : Nat
  lastSeq : Nat
  cleared : Nat
  digest : List Byte
  deriving DecidableEq, Repr

/-- Rate state of one source: second of legal time, notifications in it, minute of the last `event.rate_limited`. -/
structure RateSt where
  second : Nat := 0
  sent : Nat := 0
  limitedMinute : Option Nat := none
  deriving DecidableEq, Repr

/-- The recorder hold (R516): the session that holds, its channel, and the end of HoldMaxS (ms). -/
structure Hold where
  sessionId : Nat
  ch : Nat
  endMs : Nat
  deriving DecidableEq, Repr

/-- The event fabric and Barrow. Sources and triggers not listed hold the default. `trailStart` is the first Seq the present trail has held, and
`trailLow` the oldest it still holds. -/
structure Events where
  queue : List Raised := []
  lossPending : Bool := false
  nextSeq : Nat := 1
  seqMark : Nat := 0x100000
  trail : List TrailEntry := []
  trailStart : Nat := 1
  trailLow : Nat := 1
  rate : Map Nat RateSt := []
  lastStamp : Map Nat Nat := []
  triggers : Map Nat TrigSt := []
  slots : List Snapshot := []
  area : List Snapshot := []
  nextSnapshot : Nat := 1
  areaFull : Bool := false
  hold : Option Hold := none
  clears : List ClearRec := []
  deriving DecidableEq, Repr


/-! ### Chapter 21: tenants -/

/-- The tenant states of Table 21-2, in the order of R571. -/
inductive TenSt where
  | opened | sealed | releasing
  deriving DecidableEq, Repr

/-- One tenant (R526 to R541): state, meters closed by a release, stamp of sealing, DRAM region fixed at sealing (first 2 MiB unit and
count). -/
structure TenantSt where
  st : TenSt := .opened
  closed : Nat := 0
  sealStamp : Nat := 0
  region : Option (Nat × Nat) := none
  deriving DecidableEq, Repr

/-- One resource of the fabric arbiter (R29): its present round, by tenant what it used of its own reserve and what of that
reserve is lent, the pooled quanta used, the tenants that have asked in the round, deficits, quanta that wait, and the
totals of R544: quanta granted, borrowed, and lent. -/
structure ArbRes where
  round : Nat := 0
  own : Map Nat Nat := []
  pool : Nat := 0
  lent : Map Nat Nat := []
  asked : List Nat := []
  deficit : Map Nat Nat := []
  waiting : Map Nat Nat := []
  since : Map Nat Nat := []
  granted : Map Nat Nat := []
  borrowed : Map Nat Nat := []
  loans : Map Nat Nat := []
  deriving DecidableEq, Repr

/-- The tenants and the arbiter's resources by their number. Tenants and resources not listed hold the default. -/
structure Tenants where
  st : Map Nat TenantSt := []
  arb : Map Nat ArbRes := []
  deriving DecidableEq, Repr


/-! ### Chapter 22: the pair -/

/-- The pair states of Table 22-2, in table order. -/
inductive PairSt where
  | booting | syncing | ready | notReady | takingOver | activePaired | activeHold | activeSolo | handingOver
  deriving DecidableEq, Repr

/-- What the last valid heartbeat of a neighbour said (R634): pair state, ChipB, Serving, Epoch, Positions, CAP words,
digests, schema hash, ChainDomainMask, inventory, BundleSeq. -/
structure Heartbeat where
  atMs : Nat
  stamp : Nat := 0
  state : PairSt := .booting
  chipB : Bool := false
  serving : Bool := false
  epoch : Nat := 0
  committed : Nat := 0
  sent : Nat := 0
  acked : Nat := 0
  region : Nat := 0
  caps : List Nat := []
  digests : List (List Byte) := []
  vaultDigests : List (List Byte) := []
  schemaHash : List Byte := []
  chainMask : Nat := 0
  inventory : List (List Byte) := []
  imageVersion : Nat := 0
  pairFloor : Nat := 0
  bundleSeq : Nat := 0
  deriving DecidableEq, Repr

/-- What a head reports in its Claim field on a lane (R547): the word, when it was first reported without a break, and
when the partner's claim was last seen live there (ms). -/
structure Witness where
  word : Nat := 0
  sinceMs : Nat := 0
  partnerLiveMs : Option Nat := none
  deriving DecidableEq, Repr

/-- One epoch of the epoch table (R563): first Position and last committed Position. -/
structure EpochRow where
  epoch : Nat
  first : Nat
  lastCommitted : Nat
  deriving DecidableEq, Repr

/-- An orphan log entry (R563), under its number in the log. -/
structure Orphan where
  number : Nat
  meter : Nat
  counter : Nat
  position : Nat
  stamp : Nat
  tenant : Nat := 0
  deriving DecidableEq, Repr

/-- The pair's state on this chip (R545 to R566). `claimDue` is a start of service that has been decided: 0 silence, 1 yield, 2
election, 3 forced claim, 4 handover; `claimMs` is when it was decided. `readySinceMs` is when the partner was last seen to become READY,
`streaming` says that the active streams its journal to the partner, `catchUpGen` that a catch-up waits for a checkpoint (R561),
`ackedPos` is the highest Position the partner has acknowledged and `partnerGenerations` the generations that count there. `asked` says that a syncing chip has
asked for its catch-up, and `streamItems` are the items of the generation being received. `handoverStep` counts the steps of R564 (0:
none runs), `handoverGen` is its checkpoint and `pfSent` says that the final Position is sent. Times are in ms. -/
structure Pair where
  st : PairSt := .booting
  epoch : Nat := 0
  highestReported : Nat := 0
  serving : Bool := false
  waitEndMs : Option Nat := none
  partner : Option Heartbeat := none
  witness : Map Nat Witness := []
  takeoverPos : Nat := 0
  epochs : List EpochRow := []
  claimDue : Option Nat := none
  claimMs : Nat := 0
  claimCause : Nat := 0
  isolatedRaised : Bool := false
  replayLongRaised : Bool := false
  conflict : Bool := false
  readySinceMs : Option Nat := none
  handoverStep : Nat := 0
  handoverMs : Nat := 0
  handoverGen : Nat := 0
  pfSent : Bool := false
  noTakeBackUntil : Nat := 0
  orphans : List Orphan := []
  nextOrphan : Nat := 0
  orphansUnlisted : Nat := 0
  streaming : Bool := false
  catchUpGen : Bool := false
  ackedPos : Nat := 0
  partnerGenerations : List Nat := []
  asked : Bool := false
  streamItems : List (List Nat) := []
  neighbour : Option Heartbeat := none
  deriving DecidableEq, Repr

/-! ### Chapter 23: images, trials, rolls, campaigns, agreement -/

/-- The states an image is held in (R582, R595). -/
inductive ImageSt where
  | current | other | trial | library
  deriving DecidableEq, Repr

/-- A held image: the fields of its header (Table 23-3) that the rules use, its state, its container (the header as received and the
full payload), and for an image that came as a delta the delta's own bytes. -/
structure Image where
  component : Nat
  st : ImageSt
  version : Nat
  security : Nat := 0
  pairFloor : Nat := 0
  chainFloor : Nat := 0
  requiresPeer : Nat := 0
  model : Nat := 0
  digest : List Byte := []
  container : List Byte := []
  delta : List Byte := []
  deriving DecidableEq, Repr

/-- Both generations of a component as the part ships (R693).
(Log entry 102: DESIGN CHOICE.) -/
def shipped (c : Nat) : List Image :=
  [{ component := c, st := .current, version := 0x05020000, digest := List.replicate 32 0 },
   { component := c, st := .other, version := 0x05020000, digest := List.replicate 32 0 }]

/-- The staging area (R582): its identity, the header, the payload bytes written, and where the image came from
(0 host, 1 partner, 2 upstream, 3 downstream). -/
structure Staging where
  id : Nat
  header : List Byte
  payload : List Byte
  deriving DecidableEq, Repr

/-- A trial (R586): the component mask and the time (ms) since which the chip has been READY or serving. -/
structure Trial where
  mask : Nat
  sinceMs : Option Nat := none
  deriving DecidableEq, Repr

/-- A roll (R588): its step, the time (ms) the step began, and whether this chip has activated in it. -/
structure Roll where
  step : Nat
  sinceMs : Nat
  acted : Bool := false
  deriving DecidableEq, Repr

/-- A head in a campaign: whether its sending has begun, the block under way (BlockCount for the activation), whether its reply is
waited for, whether it refused a block or left one unanswered, its result (0 pending, 1 updated, 2 failed, 3 restarting), and
when (ms) it was told to activate. -/
structure HeadProgress where
  started : Bool := false
  next : Nat := 0
  wait : Bool := false
  bad : Bool := false
  result : Nat := 0
  atMs : Nat := 0
  deriving DecidableEq, Repr

/-- A campaign (R591, R592): its kind (2 head, 3 meter), the image, and its progress. -/
structure Campaign where
  id : Nat
  kind : Nat
  digest : List Byte
  stream : Nat := 0
  keySlot : Nat := 0
  target : Nat := 0
  rounds : Nat := 0
  activateAt : Nat := 0
  repairs : Nat := 0
  heads : Map Nat HeadProgress := []
  meters : Map Nat Nat := []
  skipped : List Nat := []
  done : Bool := false
  deriving DecidableEq, Repr

/-- A bundle under assembly (R576). -/
structure BundleAsm where
  sessionId : Nat
  total : Nat
  bytes : List Byte
  lastMs : Nat
  deriving DecidableEq, Repr

/-- A neighbour in agreement checking (R573): the times (ms) since which each domain's digests have been unequal, and
the domains for which `config.mismatch` stands. -/
structure Agreement where
  since : Map Nat Nat := []
  raised : List Nat := []
  deriving DecidableEq, Repr

/-- What a meter last reported of a flood stream (R227): Complete, contiguous blocks from 0, blocks held, and when (ms). -/
structure FloodReport where
  complete : Bool
  contiguous : Nat
  held : Nat
  atMs : Nat
  deriving DecidableEq, Repr

/-- Updates and configuration agreement. `reports` is keyed by meter slot and stream; `refusedImages` holds
the port and digest of an image refused, with the time (ms) until which they are not asked for again; `offered` the images sent on a port; `lastBundle` is the newest accepted bundle and `bundlePassed` the ports it was
passed to or came from. Neighbours: 0 partner, 1 upstream, 2 downstream. -/
structure Update where
  images : List Image := shipped 0 ++ shipped 1
  floors : Map Nat Nat := []
  staging : Option Staging := none
  nextStaging : Nat := 1
  bootOther : Nat := 0
  trial : Option Trial := none
  roll : Option Roll := none
  waveRequest : Bool := false
  campaigns : List Campaign := []
  reports : Map (Nat × Nat) FloodReport := []
  nextCampaign : Nat := 1
  bundleSeq : Nat := 0
  bundle : Option BundleAsm := none
  lastBundle : List Byte := []
  bundlePassed : List Nat := []
  agree : Map Nat Agreement := []
  refusedImages : List (Nat × List Byte × Nat) := []
  offered : List (Nat × List Byte) := []
  chainLost : Bool := false
  deriving DecidableEq, Repr


/-! ### Chapter 24: lockout inputs and safe commands -/

/-- The lockout input states of Table 24-1. -/
inductive LockSt where
  | released | discrepant | engaged | fault
  deriving DecidableEq, Repr

/-- One lockout input (R597 to R600): accepted level of each channel (true: high), the run of samples at the other
level, its state (none before its first accepted reading), the time (ms) it entered that state, the time it left
RELEASED, since when both channels have read low, and the end of its release timer. -/
structure Lockout where
  levelA : Bool := false
  levelB : Bool := false
  runA : Nat := 0
  runB : Nat := 0
  samples : Nat := 0
  seen : Bool := false
  st : LockSt := .engaged
  sinceMs : Nat := 0
  leftMs : Nat := 0
  lowSinceMs : Option Nat := none
  holdEndMs : Option Nat := none
  deriving DecidableEq, Repr

/-- A safe command outstanding at a meter (R603 to R609). -/
structure SafeCmd where
  kind : Nat
  seq : Nat
  deadline : Nat
  sends : Nat := 0
  limit : Nat := 8
  locked : Bool := false
  frameEnd : Nat := 0
  lateRaised : Bool := false
  deriving DecidableEq, Repr

/-- Safe-command state of one meter: outstanding command, an OPEN waiting for a locked close (R603), the last assigned
Seq, the last Result and Relay, and the hour of the last `safe.response_bad`. -/
structure SafeMeter where
  out : Option SafeCmd := none
  waiting : Option SafeCmd := none
  lastSeq : Nat := 0
  lastResult : Option Nat := none
  lastRelay : Option Nat := none
  badHour : Option Nat := none
  deriving DecidableEq, Repr

/-- Lockouts and safe commands. -/
structure Safety where
  inputs : Map Nat Lockout := []
  meters : Map Nat SafeMeter := []
  deriving DecidableEq, Repr


/-! ### Chapter 25: ports, head-end sessions, exports -/

/-- The states of a head-end session (R620, R621). -/
inductive HeSt where
  | closed | waiting | handshake | opened
  deriving DecidableEq, Repr

/-- A head-end session (R620 to R627): the reconnect wait and when it ends (ms), the suite, the identities (Position, Index)
acknowledged, journaled, sent, and the newest ever sent, and when a frame was last sent and received (ms). -/
structure HeadEndSession where
  st : HeSt := .closed
  waitS : Nat := 0
  retryMs : Nat := 0
  suite : Nat := 0
  cursor : Nat × Nat := (0, 0)
  journaled : Nat × Nat := (0, 0)
  sent : Nat × Nat := (0, 0)
  top : Nat × Nat := (0, 0)
  lastTxMs : Nat := 0
  lastRxMs : Nat := 0
  backlog : Bool := false
  deriving DecidableEq, Repr

/-- An export record (Table 25-2): the head's fields, its content, and whether it is released (committed, R625). -/
structure Export where
  kind : Nat
  tenant : Nat
  timeState : Nat
  gap : Bool
  disputed : Bool
  region : Nat
  index : Nat
  epoch : Nat
  position : Nat
  object : Nat
  stamp : Nat
  content : List Byte
  deriving DecidableEq, Repr

/-- A partner port (R632 to R635): link, this chip's next Seq, the last Seq accepted of each sender (ChipB, Region) in each SenderBoot, tag
failures in the present minute with that minute, and the fragments of a message received so far with what they carry. -/
structure PartnerPort where
  link : Bool := false
  nextSeq : Nat := 1
  seqs : Map (Nat × Nat × Nat) Nat := []
  tagFails : Nat := 0
  tagMinute : Nat := 0
  frags : Nat := 0
  fragBody : List Byte := []
  deriving DecidableEq, Repr

/-- A message sent on a partner port (Table 25-4): the port, its Type, the sender's ChipLetter, Region and boot count, Seq, and the
values its body carries, and the frames that carry it, each with header, body and tag. -/
structure PartnerSend where
  port : Nat
  type : Nat
  seq : Nat
  chipB : Nat := 0
  region : Nat := 0
  boot : Nat := 0
  words : List Nat := []
  data : List Byte := []
  frames : List (List Byte) := []
  deriving DecidableEq, Repr

/-- The ports. `eventFrames` holds events for sessions not yet framed (session, trail sequence); `wire` the session frames given
to TLS, as (session, frame); `partnerSends` the messages sent to the neighbours; `pruned` the newest export identity no longer
kept. -/
structure Ports where
  backhaulUp : List Nat := []
  partner0 : PartnerPort := {}
  partner1 : PartnerPort := {}
  hostUp : Bool := true
  sessions : Map Nat HeadEndSession := []
  exports : List Export := []
  pruned : Nat × Nat := (0, 0)
  eventFrames : List (Nat × Nat) := []
  unkeyedRaised : List Nat := []
  wire : List (Nat × List Byte) := []
  partnerSends : List PartnerSend := []
  deriving DecidableEq, Repr

/-! ### Chapters 26 and 27: start-up, power, pins -/

/-- The warning states of Table 26-6, with IDLE before STORE ends (R659). -/
inductive WarnSt where
  | idle | armed | saving | holding | disarmed
  deriving DecidableEq, Repr

/-- A save slot (R660, R464): erased, or holding a save set with its Position range. -/
structure SaveSlot where
  erased : Bool := true
  first : Nat := 0
  last : Nat := 0
  bootCount : Nat := 0
  deriving DecidableEq, Repr

/-- The host port's power state (R668). -/
inductive HostPower where
  | d0 | l12 | d3hot | d3cold
  deriving DecidableEq, Repr

/-- Start-up and power state. `stageMs` holds the duration of each stage of the last boot and `stageStart` when the present one
began; `bootDone` a `power.boot_done` that waits for a session (R649); `savedFailure` says that a save has started for the
present failure (R663); `saveReset` that the chip enters RESET when the running save ends, and `tripPending` that it latches
THERMTRIP_N then (R680, R691); `resetAfterSave` the cause of a warm reset that firmware has ordered (R643, R558); `held` that a
rail held the chip in RESET (R679). Times are in ms. -/
structure Power where
  stage : Nat := 0
  bootDetail : Nat := 0
  failState : Nat := 0
  stageMs : Map Nat Nat := []
  stageStart : Nat := 0
  resetKind : Nat := 0
  resetCause : Nat := 0
  resetMs : Nat := 0
  bootCount : Nat := 0
  bootCountSaved : Nat := 0
  vaonLost : Bool := true
  bootDone : Option (List Nat) := none
  paused : Bool := false
  warn : WarnSt := .idle
  pfwLow : Bool := false
  pfwSinceMs : Nat := 0
  saveStartMs : Nat := 0
  saveEndMs : Nat := 0
  saveFirst : Nat := 0
  saveLast : Nat := 0
  saveSlots : List SaveSlot := [{}, {}]
  saveReset : Bool := false
  tripPending : Bool := false
  savedFailure : Bool := false
  monitorSave : Option (Nat × Nat × Nat) := none
  railsOut : List Nat := []
  inRangeMs : Nat := 0
  held : Bool := false
  closeFlag : Bool := false
  fuseReport : Option Nat := none
  hardwareRoot : List Byte := []
  testFail : Bool := false
  testRegions : List Nat := []
  testMs : Nat := 0
  host : HostPower := .d0
  pmeEn : Bool := false
  pmeStatus : Bool := false
  wakeN : Bool := false
  wakeMask : Nat := 0x3E
  wakeReasons : Nat := 0
  d3Stamp : Nat := 0
  d3Queued : Nat := 0
  heldDoorbells : List Nat := []
  sleepMs : Nat := 0
  sleepWakeS : Nat := 0
  thermTrip : Bool := false
  porstLow : Bool := true
  resetAfterSave : Option Nat := none
  deriving DecidableEq, Repr

/-! ### The whole machine -/

/-- The state of the chip. The defaults are the values after reset; `freeCtr` is the model's own counter, from which
free values are drawn, and `pending` is the queue of waiting commands, first in, first out. -/
structure State where
  /-- the queue of waiting commands -/
  pending : List Instr := []
  /-- counts the free values drawn (the model's own field) -/
  freeCtr : Nat := 0
  /-- counters not at zero (R11) -/
  ctrs : Map Ctr Nat := []
  /-- applied configuration records by identifier and instance (R71) -/
  records : Map (Nat × Nat) RecInst := []
  /-- chapter 2 -/
  arch : Arch := {}
  /-- chapter 3 -/
  mail : Mail := {}
  /-- chapter 19 -/
  time : TimeBlock := {}
  /-- chapter 20 -/
  ev : Events := {}
  /-- chapter 21 -/
  ten : Tenants := {}
  /-- chapter 22 -/
  pair : Pair := {}
  /-- chapter 23 -/
  upd : Update := {}
  /-- chapter 24 -/
  safe : Safety := {}
  /-- chapter 25 -/
  ports : Ports := {}
  /-- chapters 26 and 27 -/
  pow : Power := {}
  /-- chapter 18 -/
  store : Store := {}
  /-- chapter 12 -/
  vault : Vault := {}
  /-- chapter 4; lanes not listed hold the default -/
  lanes : Map Nat Lane := []
  /-- chapter 5 -/
  filt : Filt := {}
  /-- chapter 6 -/
  rx : Rx := {}
  /-- chapter 7 -/
  lea : LeaSt := {}
  /-- when (ms) an event limited in time was last raised for an object -/
  marks : Map (Ev × Nat) Nat := []
  /-- chapters 9 (the Sward) and 11 -/
  sec : Sec := {}
  /-- chapter 13 -/
  led : Ledger := {}
  /-- chapter 14 -/
  tar : Tariff := {}
  /-- chapter 15 -/
  pre : Prepay := {}
  /-- chapter 8 -/
  air : Air := {}
  /-- chapter 9, floods -/
  fl : Flood := {}
  /-- chapter 10 -/
  ling : Ling := {}
  /-- chapter 16 -/
  met : Metro := {}
  /-- chapter 17 -/
  bal : Balance := {}
  deriving DecidableEq, Repr

/-- The machine right after reset: no command waiting, every field at its reset value.
(Log entry 3: DESIGN CHOICE.)
(Log entry 79: DESIGN CHOICE.) -/
def State.reset : State := {}

end Sys2Proof.Machine
end

