-- ==== Sys2Proof/Machine/Counters.lean ====
section
/-! DEFINITION. The class of every counter (R11, Table 0-6). -/

namespace Sys2Proof.Machine

/-- The counter classes this block keeps besides billing totals and frame counters (Table 0-6). -/
inductive CtrClass where
  | stat32 | stat48 | tally
  deriving DecidableEq, Repr

/-- The class of a counter. -/
def CtrName.cls : CtrName → CtrClass
  | .correctedErrors => .stat32
  | .deadlineMisses => .stat32
  | .reissues => .stat32
  | .slowEntries => .tally
  | .regionRestarts => .tally
  | .authFailures => .tally
  | .backoffs => .tally
  | .expiredTickets => .tally
  | .messages => .stat32
  | .tagFailed => .stat32
  | .evAdmitted => .stat48
  | .evDropped => .stat48
  | .evLimited => .stat48
  | .trailOverwrites => .stat48
  | .snapshotsTaken => .stat48
  | .areaFull => .tally
  | .pairStreamed => .stat48
  | .pairAcked => .stat48
  | .pairCkptBytes => .stat48
  | .pairCatchUpBytes => .stat48
  | .pairHbSent => .stat48
  | .pairHbMissed => .stat48
  | .pairTakeovers => .tally
  | .pairYields => .tally
  | .pairClaimsLost => .tally
  | .pairSolo => .tally
  | .pairForced => .tally
  | .pairOrphans => .tally
  | .updBytesIn => .stat48
  | .updBytesOut => .stat48
  | .updDeltaBytes => .stat48
  | .updHeadBlocks => .stat48
  | .updRefused => .tally
  | .updReversions => .tally
  | .updRollsFailed => .tally
  | .updBundlesRefused => .tally
  | .updMismatch => .tally
  | .safeOutcome => .stat48
  | .safeSends => .stat48
  | .safeIgnored => .stat48
  | .portFramesIn => .stat48
  | .portBytesIn => .stat48
  | .portFramesOut => .stat48
  | .portBytesOut => .stat48
  | .portFecCorr => .stat48
  | .portFecUncorr => .stat48
  | .portOversize => .stat48
  | .portRefused => .stat48
  | .heSent => .stat48
  | .heAcked => .stat48
  | .heResent => .stat48
  | .heAckIgnored => .stat48
  | .heDropped => .stat48
  | .partnerIn => .stat48
  | .partnerOut => .stat48
  | .partnerTagFail => .stat48
  | .aerCorr => .stat48
  | .aerUncorr => .stat48
  | .linkDown => .tally
  | .tlsFailures => .tally
  | .partnerTagTally => .tally
  | .bootsByKind => .stat48
  | .hostStates => .stat48
  | .saves => .tally
  | .inputFaults => .tally
  | .monitorSaves => .tally
  | .wakeSignals => .tally
  | .sleeps => .tally
  | .timeSamples => .stat48
  | .timeRejected => .stat48
  | .timeSeconds => .stat48
  | .timeExchanges => .stat48
  | .timeSteps => .tally
  | .timeFalse => .tally
  | .timeHoldovers => .tally
  | .timeFrees => .tally
  | .vaultBound => .stat48
  | .vaultWaits => .stat48
  | .vaultRefused => .stat32
  | .vaultAlarms => .tally
  | .vaultLost => .tally
  | .vaultViolations => .tally
  | .vaultRngFaults => .tally
  | .laneSuperframes => .stat48
  | .laneCorrCw => .stat48
  | .laneCorrSym => .stat48
  | .laneUncorr => .stat48
  | .laneErased => .stat48
  | .laneHdrCrc => .stat48
  | .laneCtrlCrc => .stat48
  | .laneClip => .stat48
  | .laneLosCount => .tally
  | .laneSyncCount => .tally
  | .laneStartCount => .tally
  | .laneFreqCount => .tally
  | .filtDrops => .tally
  | .filtFreezes => .tally
  | .filtTrunc => .tally
  | .filtCapBytes => .stat48
  | .rxBookings => .stat48
  | .rxRefusals => .stat48
  | .rxOutcome => .stat48
  | .rxDetections => .stat48
  | .rxMerged => .stat48
  | .rxDropped => .stat48
  | .rxGain => .stat48
  | .rxUsed => .stat48
  | .rxLateExcl => .stat48
  | .rxWeakExcl => .stat48
  | .rxBranchLate => .tally
  | .leaPoll => .stat48
  | .leaCommand => .stat48
  | .leaBroadcast => .stat48
  | .leaReading => .stat48
  | .leaAck => .stat48
  | .leaAlarm => .stat48
  | .leaCrc => .stat48
  | .leaLen => .stat48
  | .leaUnsol => .stat48
  | .leaMore => .stat48
  | .leaDiscard => .stat48
  | .secReason => .stat48
  | .filtOut => .stat48
  | .filtSat => .stat48
  | .filtFlagged => .stat48
  | .secAes => .stat48
  | .secRebuild => .tally
  | .swLookup => .stat48
  | .swHit => .stat48
  | .swPrimary => .stat48
  | .swVictim => .stat48
  | .swUnseen => .stat48
  | .swFull => .tally
  | .ledApplied => .stat48
  | .ledOld => .stat48
  | .ledCloses => .stat48
  | .ledRecon => .stat48
  | .ledIgnored => .stat48
  | .ledEngApp => .stat48
  | .ledEngReissue => .stat48
  | .tarBooked => .stat48
  | .tarSkipped => .stat48
  | .tarMissing => .stat48
  | .tarSplits => .stat48
  | .tarMerged => .stat48
  | .tarSuspect => .stat48
  | .tarIgnored => .stat48
  | .tarEval => .stat48
  | .tarArchived => .stat48
  | .tarReclaimed => .stat48
  | .tarClockOver => .stat48
  | .preIssued => .stat48
  | .preMilli => .stat48
  | .preSettled => .stat48
  | .preAttempts => .stat48
  | .preIgnored => .stat48
  | .preRejected => .stat48
  | .safeFault => .tally
  | .safeEngage => .tally
  | .safeLate => .tally
  | .airLaunch => .stat48
  | .airOnMs => .stat48
  | .airDefer => .stat48
  | .airMerged => .stat48
  | .airLate => .stat48
  | .airUnknown => .stat48
  | .airResponseMissed => .tally
  | .flFrames => .stat48
  | .flHeads => .stat48
  | .flDefer => .stat48
  | .metroSteps => .stat48
  | .metroWindows => .stat48
  | .metroSync => .stat48
  | .metroEmpty => .stat48
  | .metroCross => .stat48
  | .metroInvalid => .stat48
  | .metroOver => .stat48
  | .metroReissue => .stat48
  | .metroNoCross => .tally
  | .metroPhaseLoss => .tally
  | .metroDiscard => .tally
  | .metroPulses => .stat48
  | .lingFrames => .stat48
  | .lingRx => .stat48
  | .lingDefer => .stat48
  | .lingEnergy => .stat48
  | .lingCuts => .tally
  | .balOutcome => .stat48
  | .balVerdict => .stat48
  | .balLate => .stat48
  | .balStray => .stat48
  | .balAlarm => .tally
  | .stRead => .stat48
  | .stProg => .stat48
  | .stSoft => .stat48
  | .stRetry => .stat48
  | .stErased => .stat48
  | .stHost => .stat48
  | .stReclaim => .stat48
  | .stTagRead => .stat48
  | .stRetired => .tally
  | .stUnread => .tally
  | .stTagFail => .tally
  | .stPoison => .tally
  | .tenWaits => .stat48
  | .tenViolations => .tally
  | .tenSealings => .tally
  | .tenReleases => .tally

end Sys2Proof.Machine
end

