-- ==== Sys2Proof/Machine/Bits.lean ====
section
/-! DEFINITION. Bit fields, sign extension, byte order (R5, R6, R7), tables, and the description of a record's field
(R71 to R73). -/

namespace Sys2Proof.Machine

/-! ### Numbers and bits -/

/-- Bits [bit + width - 1 : bit] of `v` (R5). -/
def bitsAt (v bit width : Nat) : Nat := v / 2 ^ bit % 2 ^ width

/-- `v` with bits [bit + width - 1 : bit] set to `x`. -/
def setBits (v bit width x : Nat) : Nat :=
  v % 2 ^ bit + (x % 2 ^ width) * 2 ^ bit + v / 2 ^ (bit + width) * 2 ^ (bit + width)

/-- Bit `n` of a mask. -/
def bitOn (v n : Nat) : Bool := v / 2 ^ n % 2 == 1

/-- A bit of a flag. -/
def bit (b : Bool) : Nat := if b then 1 else 0

/-- The signed reading of a `width`-bit value. -/
def toSigned (width v : Nat) : Int :=
  if v % 2 ^ width < 2 ^ (width - 1) then (v % 2 ^ width : Nat) else ((v % 2 ^ width : Nat) : Int) - 2 ^ width

/-- The `width`-bit two's complement of an integer. -/
def ofSigned (width : Nat) (x : Int) : Nat := (x % (2 ^ width : Nat)).toNat

/-- An integer as an 8-byte slot, sign-extended (R504). -/
def slotOf (x : Int) : Nat := ofSigned 64 x

/-- All ones in a slot: a field without a value (R695). -/
def noValue : Nat := 0xFFFFFFFFFFFFFFFF

/-- The value in a slot, or all ones where there is none (R695). -/
def slotOpt : Option Nat → Nat
  | some v => v
  | none => noValue

/-- The bits of a mask that are set, below `n`. -/
def maskBits (n v : Nat) : List Nat := (List.range n).filter (bitOn v)

/-- The number of bits set below `n`. -/
def popCount (n v : Nat) : Nat := (maskBits n v).length

/-- A mask with the named bits set. -/
def maskOf (l : List Nat) : Nat := (l.eraseDups.map (2 ^ ·)).sum

/-- Rounding division, to nearest, ties upward. -/
def divRound (a : Int) (b : Nat) : Int := (2 * a + b) / (2 * b : Nat)

/-- The quotient rounded up. -/
def ceilDiv (a b : Nat) : Nat := (a + b - 1) / b

/-! ### Byte order (R6) -/

/-- `n` bytes of `v`, little-endian. -/
def le : Nat → Nat → List Byte
  | 0, _ => []
  | n + 1, v => BitVec.ofNat 8 v :: le n (v / 256)

/-- The number that little-endian bytes hold. -/
def ofLe : List Byte → Nat
  | [] => 0
  | b :: l => b.toNat + 256 * ofLe l

/-- `n` bytes of `v`, most significant first. -/
def be (n v : Nat) : List Byte := (le n v).reverse

/-- The number that big-endian bytes hold. -/
def ofBe (l : List Byte) : Nat := ofLe l.reverse

/-- Bytes written as numbers. -/
def bytes (l : List Nat) : List Byte := l.map (BitVec.ofNat 8)

/-- The `n` bytes from `at`, zero where the list ends. -/
def slice (l : List Byte) (start n : Nat) : List Byte :=
  let t := (l.drop start).take n
  t ++ List.replicate (n - t.length) 0

/-- The number held little-endian in `n` bytes from `at`. -/
def leAt (l : List Byte) (start n : Nat) : Nat := ofLe (slice l start n)

/-! ### Tables -/

/-- The value at a key, if present. -/
def Map.get? {κ α : Type} [DecidableEq κ] (m : Map κ α) (k : κ) : Option α :=
  match m with
  | [] => none
  | (k', v) :: t => if k' = k then some v else Map.get? t k

/-- The value at a key, or a default. -/
def Map.getD {κ α : Type} [DecidableEq κ] (m : Map κ α) (k : κ) (d : α) : α := (Map.get? m k).getD d

/-- The table with a key set to a value. -/
def Map.put {κ α : Type} [DecidableEq κ] (m : Map κ α) (k : κ) (v : α) : Map κ α :=
  match m with
  | [] => [(k, v)]
  | (k', v') :: t => if k' = k then (k, v) :: t else (k', v') :: Map.put t k v

/-- The table without a key. -/
def Map.del {κ α : Type} [DecidableEq κ] (m : Map κ α) (k : κ) : Map κ α := m.filter (fun e => !decide (e.1 = k))

/-- Whether a key is present. -/
def Map.has {κ α : Type} [DecidableEq κ] (m : Map κ α) (k : κ) : Bool := (Map.get? m k).isSome

/-- The table with the value at a key changed, starting from a default. -/
def Map.upd {κ α : Type} [DecidableEq κ] (m : Map κ α) (k : κ) (d : α) (f : α → α) : Map κ α :=
  Map.put m k (f (Map.getD m k d))

/-- The keys present. -/
def Map.keys {κ α : Type} (m : Map κ α) : List κ := m.map Prod.fst

/-- The values present. -/
def Map.vals {κ α : Type} (m : Map κ α) : List α := m.map Prod.snd

/-- The table with every value changed. -/
def Map.mapV {κ α : Type} (m : Map κ α) (f : κ → α → α) : Map κ α := m.map fun e => (e.1, f e.1 e.2)

/-- The least element of a list by a measure, the first among equals. -/
def leastBy {α : Type} (f : α → Nat) : List α → Option α
  | [] => none
  | a :: l =>
    match leastBy f l with
    | none => some a
    | some b => if f b < f a then some b else some a

/-- A list sorted by a measure, stable. -/
def sortBy {α : Type} (f : α → Int) (l : List α) : List α :=
  l.foldr (fun a acc => acc.takeWhile (fun b => f b < f a) ++ a :: acc.dropWhile (fun b => f b < f a)) []

/-! ### Record fields (R71 to R73, R696) -/

/-- What a value outside a field's range becomes (R72). -/
inductive ClampKind where
  | none | nearest | forced | reject
  deriving DecidableEq, Repr

/-- One field of a record body: its bit offset and width, whether it is signed, its range as spans (empty: any value),
its clamp, and its default as stored bits (none where the Default column reads "—"). -/
structure FieldSpec where
  bit : Nat
  width : Nat
  signed : Bool
  spans : List (Int × Int)
  clamp : ClampKind
  dflt : Option Nat
  deriving DecidableEq, Repr

/-- One record: identifier, body length in bytes at the current version, number of instances, and its fields. -/
structure Schema where
  id : Nat
  bodyLen : Nat
  instances : Nat
  fields : List FieldSpec
  deriving DecidableEq, Repr

/-- A reference to a field: the record, the bit offset, the width and the default as stored bits (0 where the field
has no default, R73). -/
structure Fld where
  rid : Nat
  bit : Nat
  width : Nat
  dflt : Nat
  deriving DecidableEq, Repr

/-- The largest n with n² ≤ v. -/
def isqrt (v : Nat) : Nat :=
  let top := Nat.log2 v / 2 + 1
  (List.range top).foldl (fun acc i =>
    let b := acc + 2 ^ (top - 1 - i)
    if b * b ≤ v then b else acc) 0

end Sys2Proof.Machine
end

