-- ==== Sys2Proof/Machine/Crypto.lean ====
section
/-! DEFINITION. The named standards the spec computes with: SHA-256 (FIPS 180-4), HMAC, AES (FIPS 197), CMAC
(SP 800-38B), CCM (SP 800-38C), the counter-mode KDF of SP 800-108, key wrapping (RFC 3394), ECDSA P-256 verification
(FIPS 186-5), SipHash-2-4, CRC-16 and CRC-32C. -/

namespace Sys2Proof.Machine

/-! ### SHA-256 and HMAC -/

/-- Addition modulo 2^32. -/
def add32 (a b : Nat) : Nat := (a + b) % 4294967296

/-- Rotation right of a 32-bit word. -/
def ror32 (x n : Nat) : Nat := (x >>> n ||| x <<< (32 - n)) % 4294967296

/-- The round constants of SHA-256. -/
def sha256K : List Nat :=
  [1116352408, 1899447441, 3049323471, 3921009573, 961987163, 1508970993, 2453635748, 2870763221] ++
  [3624381080, 310598401, 607225278, 1426881987, 1925078388, 2162078206, 2614888103, 3248222580] ++
  [3835390401, 4022224774, 264347078, 604807628, 770255983, 1249150122, 1555081692, 1996064986] ++
  [2554220882, 2821834349, 2952996808, 3210313671, 3336571891, 3584528711, 113926993, 338241895] ++
  [666307205, 773529912, 1294757372, 1396182291, 1695183700, 1986661051, 2177026350, 2456956037] ++
  [2730485921, 2820302411, 3259730800, 3345764771, 3516065817, 3600352804, 4094571909, 275423344] ++
  [430227734, 506948616, 659060556, 883997877, 958139571, 1322822218, 1537002063, 1747873779] ++
  [1955562222, 2024104815, 2227730452, 2361852424, 2428436474, 2756734187, 3204031479, 3329325298]

/-- The initial hash value of SHA-256. -/
def sha256H : List Nat :=
  [1779033703, 3144134277, 1013904242, 2773480762, 1359893119, 2600822924, 528734635, 1541459225]

/-- The message schedule: `n` further words appended, kept newest first. -/
def sha256Extend : Nat → List Nat → List Nat
  | 0, w => w
  | n + 1, w =>
    let a := w.getD 14 0
    let b := w.getD 1 0
    let s0 := ror32 a 7 ^^^ ror32 a 18 ^^^ a >>> 3
    let s1 := ror32 b 17 ^^^ ror32 b 19 ^^^ b >>> 10
    sha256Extend n (add32 (add32 (w.getD 15 0) s0) (add32 (w.getD 6 0) s1) :: w)

/-- One round on the eight working variables. -/
def sha256Round (v : List Nat) (kw : Nat × Nat) : List Nat :=
  match v with
  | [a, b, c, d, e, f, g, h] =>
    let s1 := ror32 e 6 ^^^ ror32 e 11 ^^^ ror32 e 25
    let ch := (e &&& f) ^^^ ((4294967295 - e) &&& g)
    let t1 := (h + s1 + ch + kw.1 + kw.2) % 4294967296
    let s0 := ror32 a 2 ^^^ ror32 a 13 ^^^ ror32 a 22
    let mj := (a &&& b) ^^^ (a &&& c) ^^^ (b &&& c)
    [add32 t1 (add32 s0 mj), a, b, c, add32 d t1, e, f, g]
  | _ => v

/-- The 32-bit big-endian words of a block. -/
def words32 : Nat → List Byte → List Nat
  | 0, _ => []
  | n + 1, l => ofBe (slice l 0 4) :: words32 n (l.drop 4)

/-- The compression function. -/
def sha256Block (h : List Nat) (blk : List Byte) : List Nat :=
  let w := (sha256Extend 48 (words32 16 blk).reverse).reverse
  List.zipWith add32 h ((sha256K.zip w).foldl sha256Round h)

/-- The blocks of a padded message. -/
def sha256Blocks : Nat → List Byte → List Nat → List Nat
  | 0, _, h => h
  | n + 1, m, h => sha256Blocks n (m.drop 64) (sha256Block h (m.take 64))

/-- SHA-256 of a byte string. -/
def sha256 (m : List Byte) : List Byte :=
  let pad := (119 - m.length % 64) % 64
  let p := m ++ [0x80] ++ List.replicate pad 0 ++ be 8 (8 * m.length)
  (sha256Blocks (p.length / 64) p sha256H).flatMap (be 4)

/-- The exclusive or of two byte strings. -/
def xorBytes (a b : List Byte) : List Byte := List.zipWith (· ^^^ ·) a b

/-- HMAC-SHA-256. -/
def hmac (key msg : List Byte) : List Byte :=
  let k := if key.length > 64 then sha256 key else key
  let k := slice k 0 64
  sha256 (xorBytes k (List.replicate 64 0x5C) ++ sha256 (xorBytes k (List.replicate 64 0x36) ++ msg))

/-! ### AES -/

/-- The AES S-box. -/
def aesS : List Nat :=
  [99, 124, 119, 123, 242, 107, 111, 197, 48, 1, 103, 43, 254, 215, 171, 118] ++
  [202, 130, 201, 125, 250, 89, 71, 240, 173, 212, 162, 175, 156, 164, 114, 192] ++
  [183, 253, 147, 38, 54, 63, 247, 204, 52, 165, 229, 241, 113, 216, 49, 21] ++
  [4, 199, 35, 195, 24, 150, 5, 154, 7, 18, 128, 226, 235, 39, 178, 117] ++
  [9, 131, 44, 26, 27, 110, 90, 160, 82, 59, 214, 179, 41, 227, 47, 132] ++
  [83, 209, 0, 237, 32, 252, 177, 91, 106, 203, 190, 57, 74, 76, 88, 207] ++
  [208, 239, 170, 251, 67, 77, 51, 133, 69, 249, 2, 127, 80, 60, 159, 168] ++
  [81, 163, 64, 143, 146, 157, 56, 245, 188, 182, 218, 33, 16, 255, 243, 210] ++
  [205, 12, 19, 236, 95, 151, 68, 23, 196, 167, 126, 61, 100, 93, 25, 115] ++
  [96, 129, 79, 220, 34, 42, 144, 136, 70, 238, 184, 20, 222, 94, 11, 219] ++
  [224, 50, 58, 10, 73, 6, 36, 92, 194, 211, 172, 98, 145, 149, 228, 121] ++
  [231, 200, 55, 109, 141, 213, 78, 169, 108, 86, 244, 234, 101, 122, 174, 8] ++
  [186, 120, 37, 46, 28, 166, 180, 198, 232, 221, 116, 31, 75, 189, 139, 138] ++
  [112, 62, 181, 102, 72, 3, 246, 14, 97, 53, 87, 185, 134, 193, 29, 158] ++
  [225, 248, 152, 17, 105, 217, 142, 148, 155, 30, 135, 233, 206, 85, 40, 223] ++
  [140, 161, 137, 13, 191, 230, 66, 104, 65, 153, 45, 15, 176, 84, 187, 22]

/-- The S-box as one number: the value for x stands at bits 8x+7 to 8x. -/
def aesBox : Nat := aesS.foldr (fun b n => 256 * n + b) 0

/-- The inverse S-box, packed likewise. -/
def aesInvBox : Nat := (List.range 256).foldl (fun n x => n + x <<< (8 * (aesBox >>> (8 * x) % 256))) 0

/-- A packed box applied to each byte of a word. A word packs a column of the state, row 0 lowest. -/
def aesSub (box w : Nat) : Nat :=
  (List.range 4).foldl (fun n r => n + (box >>> (8 * (w >>> (8 * r) % 256)) % 256) <<< (8 * r)) 0

/-- Multiplication by x in GF(2^8), of each byte of a word. -/
def xtime (w : Nat) : Nat := ((w &&& 0x7F7F7F7F) <<< 1) ^^^ ((w >>> 7 &&& 0x01010101) * 0x1B)

/-- Multiplication in GF(2^8) of each byte of a word, by a multiplier below 16. -/
def gmul (k w : Nat) : Nat :=
  (if bitOn k 0 then w else 0) ^^^ (if bitOn k 1 then xtime w else 0) ^^^
    (if bitOn k 2 then xtime (xtime w) else 0) ^^^ (if bitOn k 3 then xtime (xtime (xtime w)) else 0)

/-- The key schedule: words kept newest first, `n` further words appended; `i` is the index of the next word. -/
def aesExpand (nk : Nat) : Nat → Nat → Nat → List Nat → List Nat
  | 0, _, _, w => w
  | n + 1, i, rc, w =>
    let t := w.getD 0 0
    let r := if i % nk = 0 then aesSub aesBox (ror32 t 8) ^^^ rc
      else if nk > 6 ∧ i % nk = 4 then aesSub aesBox t else t
    aesExpand nk n (i + 1) (if i % nk = 0 then xtime rc else rc) ((w.getD (nk - 1) 0 ^^^ r) :: w)

/-- The words that bytes hold. -/
def aesWords : Nat → List Byte → List Nat
  | 0, _ => []
  | n + 1, l => ofLe (slice l 0 4) :: aesWords n (l.drop 4)

/-- The round keys, four words each, first round first. -/
def aesKeys (key : List Byte) : List (List Nat) :=
  let nk := key.length / 4
  let w := (aesExpand nk (4 * (nk + 7) - nk) nk 1 (aesWords nk key).reverse).reverse
  (List.range (nk + 7)).map fun r => (w.drop (4 * r)).take 4

/-- ShiftRows on the four columns; `back` runs it in reverse. -/
def aesShift (back : Bool) (s : List Nat) : List Nat :=
  (List.range 4).map fun c => (List.range 4).foldl (fun n r =>
    n + (s.getD ((if back then c + 4 - r else c + r) % 4) 0 >>> (8 * r) % 256) <<< (8 * r)) 0

/-- MixColumns of one column, with the given first row of its matrix. -/
def aesMix (m : List Nat) (w : Nat) : Nat :=
  (List.range 4).foldl (fun n j => n ^^^ ror32 (gmul (m.getD j 0) w) (8 * j)) 0

/-- A round key added to the columns. -/
def aesAdd (s k : List Nat) : List Nat := List.zipWith (· ^^^ ·) s k

/-- AES encryption of one block, AES-128 or AES-256 by the key's length. -/
def aesEnc (key blk : List Byte) : List Byte :=
  match aesKeys key with
  | [] => blk
  | k0 :: ks =>
    let mid := ks.dropLast.foldl (fun s k => aesAdd ((aesShift false (s.map (aesSub aesBox))).map (aesMix [2, 3, 1, 1])) k)
      (aesAdd (aesWords 4 blk) k0)
    (aesAdd (aesShift false (mid.map (aesSub aesBox))) (ks.getLastD [])).flatMap (le 4)

/-- AES decryption of one block. -/
def aesDec (key blk : List Byte) : List Byte :=
  match (aesKeys key).reverse with
  | [] => blk
  | k0 :: ks =>
    let mid := ks.dropLast.foldl (fun s k => (aesAdd ((aesShift true s).map (aesSub aesInvBox)) k).map (aesMix [14, 11, 13, 9]))
      (aesAdd (aesWords 4 blk) k0)
    (aesAdd ((aesShift true mid).map (aesSub aesInvBox)) (ks.getLastD [])).flatMap (le 4)

/-! ### CMAC, CCM, KDF, key wrap -/

/-- Doubling in GF(2^128), for the CMAC subkeys. -/
def dbl128 (b : List Byte) : List Byte :=
  let v := ofBe b
  be 16 (if v < 2 ^ 127 then 2 * v else (2 * v - 2 ^ 128) ^^^ 0x87)

/-- The CBC chain of AES over `n` 16-byte blocks. -/
def cbcMac (key : List Byte) : Nat → List Byte → List Byte → List Byte
  | 0, _, x => x
  | n + 1, m, x => cbcMac key n (m.drop 16) (aesEnc key (xorBytes x (slice m 0 16)))

/-- AES-CMAC, 16 bytes (SP 800-38B). -/
def cmac (key msg : List Byte) : List Byte :=
  let k1 := dbl128 (aesEnc key (List.replicate 16 0))
  let n := if msg.length = 0 then 1 else ceilDiv msg.length 16
  let last := msg.drop (16 * (n - 1))
  let lastBlk := if last.length = 16 then xorBytes last k1
    else xorBytes (slice (last ++ [0x80]) 0 16) (dbl128 k1)
  let x := cbcMac key (n - 1) (msg.take (16 * (n - 1))) (List.replicate 16 0)
  aesEnc key (xorBytes x lastBlk)

/-- The counter blocks of CCM, `n` of them from counter `i`, with a length field of `q` bytes. -/
def ccmStream (key nonce : List Byte) (q : Nat) : Nat → Nat → List Byte
  | 0, _ => []
  | n + 1, i => aesEnc key ([BitVec.ofNat 8 (q - 1)] ++ nonce ++ be q i) ++ ccmStream key nonce q n (i + 1)

/-- Zero padding to whole 16-byte blocks. -/
def pad16 (l : List Byte) : List Byte := l ++ List.replicate ((16 - l.length % 16) % 16) 0

/-- The CCM tag of a plaintext, before its encryption (SP 800-38C), `t` bytes long. -/
def ccmMac (key nonce aad plain : List Byte) (t : Nat) : List Byte :=
  let q := 15 - nonce.length
  let flags := (if aad = [] then 0 else 64) + 8 * ((t - 2) / 2) + (q - 1)
  let b0 := [BitVec.ofNat 8 flags] ++ nonce ++ be q plain.length
  let a := if aad = [] then [] else pad16 (be 2 aad.length ++ aad)
  let m := b0 ++ a ++ pad16 plain
  (cbcMac key (m.length / 16) m (List.replicate 16 0)).take t

/-- CCM encryption: ciphertext and tag of `t` bytes. -/
def ccmEnc (key nonce aad plain : List Byte) (t : Nat) : List Byte × List Byte :=
  let q := 15 - nonce.length
  let ks := ccmStream key nonce q (ceilDiv plain.length 16 + 1) 0
  (xorBytes plain (ks.drop 16), xorBytes (ccmMac key nonce aad plain t) ks)

/-- CCM decryption: the plaintext if the tag verifies. -/
def ccmDec (key nonce aad cipher tag : List Byte) : Option (List Byte) :=
  let q := 15 - nonce.length
  let ks := ccmStream key nonce q (ceilDiv cipher.length 16 + 1) 0
  let plain := xorBytes cipher (ks.drop 16)
  if xorBytes (ccmMac key nonce aad plain tag.length) ks = tag then some plain else none

/-- The RFC 3394 unwrapping loop: `steps` steps, counting `t` down. -/
def unwrapLoop (key : List Byte) (n : Nat) : Nat → List Byte → List (List Byte) → List Byte × List (List Byte)
  | 0, a, r => (a, r)
  | t + 1, a, r =>
    let i := t % n
    let b := aesDec key (xorBytes a (be 8 (t + 1)) ++ r.getD i [])
    unwrapLoop key n t (b.take 8) (r.set i (b.drop 8))

/-- RFC 3394 key unwrap: the key if the integrity value is right. -/
def keyUnwrap (kek blob : List Byte) : Option (List Byte) :=
  let n := blob.length / 8 - 1
  if blob.length % 8 ≠ 0 ∨ n < 2 then none else
    let r := (List.range n).map fun i => slice blob (8 * (i + 1)) 8
    let (a, r) := unwrapLoop kek n (6 * n) (blob.take 8) r
    if a = List.replicate 8 0xA6 then some r.flatten else none

/-- The RFC 3394 wrapping loop. -/
def wrapLoop (key : List Byte) (n : Nat) : Nat → Nat → List Byte → List (List Byte) → List Byte × List (List Byte)
  | 0, _, a, r => (a, r)
  | k + 1, t, a, r =>
    let i := t % n
    let b := aesEnc key (a ++ r.getD i [])
    wrapLoop key n k (t + 1) (xorBytes (b.take 8) (be 8 (t + 1))) (r.set i (b.drop 8))

/-- RFC 3394 key wrap. -/
def keyWrap (kek key : List Byte) : List Byte :=
  let n := key.length / 8
  let r := (List.range n).map fun i => slice key (8 * i) 8
  let (a, r) := wrapLoop kek n (6 * n) 0 (List.replicate 8 0xA6) r
  a ++ r.flatten

/-! ### SipHash-2-4, CRC -/

/-- Rotation left of a 64-bit word. -/
def rol64 (x n : Nat) : Nat := (x <<< n ||| x >>> (64 - n)) % 2 ^ 64

/-- One SipRound. -/
def sipRound (v : Nat × Nat × Nat × Nat) : Nat × Nat × Nat × Nat :=
  let (v0, v1, v2, v3) := v
  let v0 := (v0 + v1) % 2 ^ 64
  let v1 := rol64 v1 13 ^^^ v0
  let v0 := rol64 v0 32
  let v2 := (v2 + v3) % 2 ^ 64
  let v3 := rol64 v3 16 ^^^ v2
  let v0 := (v0 + v3) % 2 ^ 64
  let v3 := rol64 v3 21 ^^^ v0
  let v2 := (v2 + v1) % 2 ^ 64
  let v1 := rol64 v1 17 ^^^ v2
  (v0, v1, rol64 v2 32, v3)

/-- Absorbing `n` 8-byte words. -/
def sipAbsorb : Nat → List Byte → Nat × Nat × Nat × Nat → Nat × Nat × Nat × Nat
  | 0, _, v => v
  | n + 1, m, (v0, v1, v2, v3) =>
    let w := leAt m 0 8
    let (v0, v1, v2, v3) := sipRound (sipRound (v0, v1, v2, v3 ^^^ w))
    sipAbsorb n (m.drop 8) (v0 ^^^ w, v1, v2, v3)

/-- SipHash-2-4 of a byte string under a 16-byte key, as a 64-bit number. -/
def sipHash (key m : List Byte) : Nat :=
  let k0 := leAt key 0 8
  let k1 := leAt key 8 8
  let p := m ++ List.replicate (7 - m.length % 8) 0 ++ [BitVec.ofNat 8 m.length]
  let v := sipAbsorb (p.length / 8) p
    (k0 ^^^ 0x736f6d6570736575, k1 ^^^ 0x646f72616e646f6d, k0 ^^^ 0x6c7967656e657261, k1 ^^^ 0x7465646279746573)
  let (v0, v1, v2, v3) := v
  let (v0, v1, v2, v3) := sipRound (sipRound (sipRound (sipRound (v0, v1, v2 ^^^ 0xFF, v3))))
  v0 ^^^ v1 ^^^ v2 ^^^ v3

/-- `n` shifts of a most-significant-bit-first CRC register of `w` bits. -/
def crcMsb (w poly : Nat) : Nat → Nat → Nat
  | 0, c => c
  | n + 1, c => crcMsb w poly n (if bitOn c (w - 1) then (2 * c % 2 ^ w) ^^^ poly else 2 * c % 2 ^ w)

/-- CRC-16 with a generator, sent most significant bit first, start and final value as given. -/
def crc16 (poly init xorOut : Nat) (m : List Byte) : Nat :=
  m.foldl (fun c b => crcMsb 16 poly 8 (c ^^^ b.toNat * 256)) init ^^^ xorOut

/-- `n` shifts of a reflected CRC register. -/
def crcLsb (poly : Nat) : Nat → Nat → Nat
  | 0, c => c
  | n + 1, c => crcLsb poly n (if c % 2 = 1 then c / 2 ^^^ poly else c / 2)

/-- CRC-32C (Castagnoli), as a number. -/
def crc32c (m : List Byte) : Nat :=
  m.foldl (fun c b => crcLsb 0x82F63B78 8 (c ^^^ b.toNat)) 0xFFFFFFFF ^^^ 0xFFFFFFFF

/-! ### ECDSA on P-256 -/

/-- The field prime of P-256. -/
def p256P : Nat := 2 ^ 256 - 2 ^ 224 + 2 ^ 192 + 2 ^ 96 - 1

/-- The group order of P-256. -/
def p256N : Nat := 0xffffffff00000000ffffffffffffffffbce6faada7179e84f3b9cac2fc632551

/-- The base point of P-256. -/
def p256G : Nat × Nat :=
  (0x6b17d1f2e12c4247f8bce6e563a440f277037d812deb33a0f4a13945d898c296,
   0x4fe342e2fe1a7f9b8ee7eb4a7c0f9e162bce33576b315ececbb6406837bf51f5)

/-- The coefficient b of P-256. -/
def p256B : Nat := 0x5ac635d8aa3a93e7b3ebbd55769886bc651d06b0cc53b0f63bce3c3e27d2604b

/-- Powers modulo `m`, from the `n` low bits of the exponent. -/
def powMod (m : Nat) : Nat → Nat → Nat → Nat
  | 0, _, _ => 1
  | n + 1, b, e => powMod m n (b * b % m) (e / 2) * (if e % 2 = 1 then b else 1) % m

/-- The inverse modulo a prime. -/
def invMod (m a : Nat) : Nat := powMod m 256 (a % m) (m - 2)

/-- Addition of points; none is the point at infinity. -/
def p256Add (a b : Option (Nat × Nat)) : Option (Nat × Nat) :=
  match a, b with
  | none, q => q
  | p, none => p
  | some (x1, y1), some (x2, y2) =>
    let p := p256P
    if x1 = x2 ∧ (y1 + y2) % p = 0 then none else
      let l := if x1 = x2 then (3 * x1 * x1 + (p - 3)) * invMod p (2 * y1) % p
        else (y2 + p - y1) * invMod p (x2 + p - x1) % p
      let x3 := (l * l + 2 * p - x1 - x2) % p
      some (x3, (l * (x1 + p - x3) + p - y1) % p)

/-- A multiple of a point, from the `n` low bits of the factor. -/
def p256Mul : Nat → Nat → Option (Nat × Nat) → Option (Nat × Nat)
  | 0, _, _ => none
  | n + 1, k, q =>
    let r := p256Mul n (k / 2) (p256Add q q)
    if k % 2 = 1 then p256Add r q else r

/-- Whether a public key (64 bytes, X then Y, most significant byte first) is a point of the curve.
(Log entry 20: DEDUCED.) -/
def p256OnCurve (pub : List Byte) : Bool :=
  let x := ofBe (slice pub 0 32)
  let y := ofBe (slice pub 32 32)
  decide (pub.length = 64 ∧ x < p256P ∧ y < p256P ∧ y * y % p256P = (x * x * x + (p256P - 3) * x + p256B) % p256P)

/-- ECDSA P-256 verification with SHA-256: public key and signature 64 bytes each, big-endian halves. -/
def ecdsaVerify (pub msg sig : List Byte) : Bool :=
  let n := p256N
  let r := ofBe (slice sig 0 32)
  let s := ofBe (slice sig 32 32)
  if sig.length ≠ 64 ∨ r = 0 ∨ s = 0 ∨ r ≥ n ∨ s ≥ n ∨ !p256OnCurve pub then false else
    let e := ofBe (sha256 msg)
    let w := invMod n s
    match p256Add (p256Mul 256 (e * w % n) (some p256G))
        (p256Mul 256 (r * w % n) (some (ofBe (slice pub 0 32), ofBe (slice pub 32 32)))) with
    | none => false
    | some (x, _) => x % n == r

end Sys2Proof.Machine
end

