-- ==== Sys2Proof/Machine/Kept.lean ====
section
/-! DEFINITION. What the recovery guarantee covers beside meter records and configuration (R465, Table 22-5), as the partner stream and a
checkpoint carry it: each object written as numbers and read back. The spec leaves these layouts open. -/

namespace Sys2Proof.Machine

open Sys2Proof

/-! ### Writing and reading -/

/-- A way to write a value as numbers and to read it back from the front of a list. -/
structure Codec (α : Type) where
  put : α → List Nat
  get : List Nat → α × List Nat

/-- A fixed number of numbers. -/
def Codec.flat {α : Type} (n : Nat) (put : α → List Nat) (get : (Nat → Nat) → α) : Codec α :=
  ⟨put, fun l => (get fun i => l.getD i 0, l.drop n)⟩

def natC : Codec Nat := .flat 1 (fun n => [n]) fun w => w 0

/-- An integer: its sign, then its magnitude. -/
def intC : Codec Int := .flat 2 (fun x => [bit (decide (x < 0)), x.natAbs]) fun w => if w 0 = 1 then -(w 1 : Int) else w 1

/-- One codec after another. -/
def Codec.then {α β : Type} (a : Codec α) (b : Codec β) : Codec (α × β) :=
  ⟨fun x => a.put x.1 ++ b.put x.2, fun l => let (x, l) := a.get l; let (y, l) := b.get l; ((x, y), l)⟩

/-- A codec seen through another form of the value. -/
def Codec.via {α β : Type} (c : Codec α) (into : β → α) (of : α → β) : Codec β :=
  ⟨fun x => c.put (into x), fun l => let (x, l) := c.get l; (of x, l)⟩

/-- `n` values read in a row. -/
def getMany {α : Type} (get : List Nat → α × List Nat) : Nat → List Nat → List α × List Nat
  | 0, l => ([], l)
  | n + 1, l =>
    let (x, l) := get l
    let (xs, l) := getMany get n l
    (x :: xs, l)

/-- A list: its length, then its members; no more are read than there are numbers. -/
def Codec.list {α : Type} (c : Codec α) : Codec (List α) :=
  ⟨fun l => l.length :: l.flatMap c.put, fun l => getMany c.get (min (l.headD 0) l.length) (l.drop 1)⟩

/-- A value that may be absent. -/
def Codec.opt {α : Type} (c : Codec α) : Codec (Option α) := c.list.via Option.toList List.head?

/-- One of a list of names. -/
def Codec.enum {α : Type} [DecidableEq α] (l : List α) (d : α) : Codec α := natC.via (fun x => l.idxOf x) fun n => (l[n]?).getD d

/-- An optional number as one number. -/
def optNat : Option Nat → Nat
  | none => 0
  | some v => v + 1

/-- The number read back. -/
def natOpt : Nat → Option Nat
  | 0 => none
  | v + 1 => some v

def bytesC : Codec (List Byte) := (natC.via BitVec.toNat (BitVec.ofNat 8)).list
def pairC : Codec (Nat × Nat) := natC.then natC
def mapC : Codec (Map Nat Nat) := pairC.list

/-! ### Objects of a meter -/

def pendC : Codec PendPoll :=
  .flat 8 (fun x => [x.due, x.request, x.priority, bit x.commanded, bit x.late, optNat x.cause, x.notBefore, bit x.held]) fun w =>
    { due := w 0, request := w 1, priority := w 2, commanded := w 3 == 1, late := w 4 == 1, cause := natOpt (w 5), notBefore := w 6,
      held := w 7 == 1 }

/-- A meter's plan; receptions in flight are not kept (R21). -/
def planC : Codec PlanMeter :=
  let nums : Codec PlanMeter :=
    .flat 6 (fun x => [x.misses, x.rejects, x.lastDue, x.sweepStep, x.sweeps, x.sweepDay]) fun w =>
      { misses := w 0, rejects := w 1, lastDue := w 2, sweepStep := w 3, sweeps := w 4, sweepDay := w 5 }
  let st := Codec.enum [PlanSt.unsynced, .acquiring, .fixed, .learning, .tracking, .lost] .unsynced
  (nums.then (st.then (pairC.list.then (pairC.opt.then ((natC.then intC).list.then (pendC.opt.then
    ((natC.then pairC).list.then natC.list))))))).via
    (fun x => (x, x.st, x.obs, x.ref, x.heads, x.poll, x.sent, x.learning))
    fun (x, st, obs, ref, heads, poll, sent, learning) =>
      { x with st := st, obs := obs, ref := ref, heads := heads, poll := poll, sent := sent, learning := learning }

def floodMeterC : Codec FloodMeter :=
  .flat 4 (fun x => [x.role, x.hop, bit x.due, optNat x.tag]) fun w => { role := w 0, hop := w 1, due := w 2 == 1, tag := natOpt (w 3) }

/-- A Ling meter; an exchange in progress is not kept (R265). -/
def lingMeterC : Codec LingMeterSt :=
  let nums : Codec LingMeterSt :=
    .flat 7 (fun x => [x.level, x.phase, x.misses, x.misses6, bit x.unreachable, x.lastPollS, bit x.due]) fun w =>
      { level := w 0, phase := w 1, misses := w 2, misses6 := w 3, unreachable := w 4 == 1, lastPollS := w 5, due := w 6 == 1 }
  (nums.then intC.list).via (fun x => (x, x.snr)) fun (x, snr) => { x with snr := snr }

def tokenC : Codec TokenEntry :=
  .flat 14 (fun x => [x.slot, x.tenant, x.st, x.kind, bit x.balanced, x.seq, x.result, x.attempts, x.amount, x.value, x.issuedAt,
      x.settledAt, optNat x.tag, bit x.locked]) fun w =>
    { slot := w 0, tenant := w 1, st := w 2, kind := w 3, balanced := w 4 == 1, seq := w 5, result := w 6, attempts := w 7, amount := w 8,
      value := w 9, issuedAt := w 10, settledAt := w 11, tag := natOpt (w 12), locked := w 13 == 1 }

def handedC : Codec HandedFrame :=
  let nums : Codec HandedFrame :=
    .flat 7 (fun x => [x.mode, x.origin, x.hint, x.startAir, x.endAir, optNat x.trib, x.level]) fun w =>
      { frame := [], desc := [], mode := w 0, origin := w 1, hint := w 2, startAir := w 3, endAir := w 4, trib := natOpt (w 5), level := w 6 }
  (nums.then (bytesC.then bytesC)).via (fun x => (x, x.frame, x.desc)) fun (x, frame, desc) => { x with frame := frame, desc := desc }

def secFrameC : Codec SecFrame :=
  let nums (h : HandedFrame) : Codec SecFrame :=
    .flat 13 (fun x => [x.kind, x.slot, x.tenant, x.gen, x.cls, optNat x.counter, bit x.assigned, x.auth, bit x.unsol, x.tag, x.print,
        x.flags, x.time]) fun w =>
      { h := h, kind := w 0, slot := w 1, tenant := w 2, gen := w 3, cls := w 4, counter := natOpt (w 5), assigned := w 6 == 1, auth := w 7,
        unsol := w 8 == 1, tag := w 9, print := w 10, flags := w 11, time := w 12 }
  let none : HandedFrame := { frame := [], desc := [], mode := 0, origin := 0, hint := 0, startAir := 0, endAir := 0 }
  (handedC.then ((nums none).then (bytesC.then mapC))).via (fun x => (x.h, x, x.payload, x.captures))
    fun (h, x, payload, captures) => { x with h := h, payload := payload, captures := captures }

def quarantineC : Codec QEntry :=
  (secFrameC.then pairC).via (fun x => (x.f, x.rule, x.received)) fun (f, rule, received) => { f := f, rule := rule, received := received }

def balMeterC : Codec BalMeterSt :=
  let nums : Codec BalMeterSt :=
    .flat 7 (fun x => [optNat x.zone, x.since, optNat x.learned, bit x.mismatch, x.stray, x.late, x.noneVotes]) fun w =>
      { zone := natOpt (w 0), since := w 1, learned := natOpt (w 2), mismatch := w 3 == 1, stray := w 4, late := w 5, noneVotes := w 6 }
  (nums.then (intC.opt.then natC.opt.list)).via (fun x => (x, x.typ, x.votes)) fun (x, typ, votes) => { x with typ := typ, votes := votes }

def safeCmdC : Codec SafeCmd :=
  .flat 8 (fun x => [x.kind, x.seq, x.deadline, x.sends, x.limit, bit x.locked, x.frameEnd, bit x.lateRaised]) fun w =>
    { kind := w 0, seq := w 1, deadline := w 2, sends := w 3, limit := w 4, locked := w 5 == 1, frameEnd := w 6, lateRaised := w 7 == 1 }

def safeMeterC : Codec SafeMeter :=
  let nums : Codec SafeMeter :=
    .flat 4 (fun x => [x.lastSeq, optNat x.lastResult, optNat x.lastRelay, optNat x.badHour]) fun w =>
      { lastSeq := w 0, lastResult := natOpt (w 1), lastRelay := natOpt (w 2), badHour := natOpt (w 3) }
  (nums.then (safeCmdC.opt.then safeCmdC.opt)).via (fun x => (x, x.out, x.waiting)) fun (x, out, waiting) =>
    { x with out := out, waiting := waiting }

def clockC : Codec ClockEntry :=
  .flat 6 (fun x => [x.slot, x.tenant, x.kind, x.old, x.new, x.t9]) fun w =>
    { slot := w 0, tenant := w 1, kind := w 2, old := w 3, new := w 4, t9 := w 5 }

/-! ### Zones, tributaries, floods, duty, records -/

def balOpenC : Codec BalOpen :=
  let nums : Codec BalOpen :=
    .flat 10 (fun x => [x.stop, bit x.frozen, x.members, x.unprofiled, x.expImp, x.expExp, x.covImp, x.covExp, x.seconds, bit x.spread]) fun w =>
      { stop := w 0, frozen := w 1 == 1, members := w 2, unprofiled := w 3, expImp := w 4, expExp := w 5, covImp := w 6, covExp := w 7,
        seconds := w 8, spread := w 9 == 1 }
  (nums.then (intC.then (intC.then (natC.then intC).list))).via (fun x => (x, x.milli, x.unphased, x.phases))
    fun (x, milli, unphased, phases) => { x with milli := milli, unphased := unphased, phases := phases }

def zoneC : Codec BalZone :=
  let nums : Codec BalZone :=
    .flat 5 (fun x => [optNat x.next, bit x.lossAlarm, bit x.negAlarm, x.lossMilli, x.excessMilli]) fun w =>
      { next := natOpt (w 0), lossAlarm := w 1 == 1, negAlarm := w 2 == 1, lossMilli := w 3, excessMilli := w 4 }
  (nums.then (balOpenC.list.then mapC)).via (fun x => (x, x.openIv, x.verdicts)) fun (x, openIv, verdicts) =>
    { x with openIv := openIv, verdicts := verdicts }

def accC : Codec MetroAcc :=
  let nums : Codec MetroAcc :=
    .flat 7 (fun x => [x.flags, x.missing, x.cycles, x.windows, x.freqSum, x.freqCount, x.stepsIn]) fun w =>
      { flags := w 0, missing := w 1, cycles := w 2, windows := w 3, freqSum := w 4, freqCount := w 5, stepsIn := w 6 }
  (nums.then (mapC.then (mapC.then (mapC.then mapC)))).via (fun x => (x, x.regs, x.inc, x.sums, x.thdMax)) fun (x, regs, inc, sums, thd) =>
    { x with regs := regs, inc := inc, sums := sums, thdMax := thd }

def pulseC : Codec Pulse :=
  .flat 6 (fun x => [x.residue, x.backlog, x.batch, x.position, bit x.warned, x.test]) fun w =>
    { residue := w 0, backlog := w 1, batch := w 2, position := w 3, warned := w 4 == 1, test := w 5 }

def intervalC : Codec MetroInterval :=
  let nums : Codec MetroInterval :=
    .flat 9 (fun x => [x.trib, x.zone, bit x.assigned, x.flags, x.stop, x.missing, x.cycles, x.inavg, x.freq]) fun w =>
      { trib := w 0, zone := w 1, assigned := w 2 == 1, flags := w 3, stop := w 4, missing := w 5, cycles := w 6, inc := [], vavg := [],
        iavg := [], inavg := w 7, freq := w 8, thd := [] }
  (nums.then (mapC.then (natC.list.then (natC.list.then natC.list)))).via (fun x => (x, x.inc, x.vavg, x.iavg, x.thd))
    fun (x, inc, vavg, iavg, thd) => { x with inc := inc, vavg := vavg, iavg := iavg, thd := thd }

def resultC : Codec BalResult :=
  let nums : Codec BalResult :=
    .flat 12 (fun x => [x.zone, x.tenant, x.outcome, x.verdict, x.flags, x.members, x.stop, x.seconds, x.tech, x.missImp, x.missExp,
        x.threshold]) fun w =>
      { zone := w 0, tenant := w 1, outcome := w 2, verdict := w 3, flags := w 4, members := w 5, stop := w 6, seconds := w 7, tech := w 8,
        missImp := w 9, missExp := w 10, threshold := w 11, feeder := 0, milli := 0, residual := 0, phaseFeeder := [], phaseMilli := [],
        phaseTech := [], unphased := 0 }
  (nums.then (intC.then (intC.then (intC.then (intC.then (intC.list.then (intC.list.then natC.list))))))).via
    (fun x => (x, x.feeder, x.milli, x.residual, x.unphased, x.phaseFeeder, x.phaseMilli, x.phaseTech))
    fun (x, feeder, milli, residual, unphased, pf, pm, pt) =>
      { x with feeder := feeder, milli := milli, residual := residual, unphased := unphased, phaseFeeder := pf, phaseMilli := pm, phaseTech := pt }

def archC : Codec ArchRec :=
  let nums : Codec ArchRec :=
    .flat 7 (fun x => [x.slot, x.tenant, x.rate, x.period, x.endS, x.flags, x.lengthS]) fun w =>
      { slot := w 0, tenant := w 1, rate := w 2, period := w 3, endS := w 4, flags := w 5, streams := [], lengthS := w 6 }
  (nums.then mapC).via (fun x => (x, x.streams)) fun (x, streams) => { x with streams := streams }

def exportC : Codec Export :=
  let nums : Codec Export :=
    .flat 11 (fun x => [x.kind, x.tenant, x.timeState, bit x.gap, bit x.disputed, x.region, x.index, x.epoch, x.position, x.object,
        x.stamp]) fun w =>
      { kind := w 0, tenant := w 1, timeState := w 2, gap := w 3 == 1, disputed := w 4 == 1, region := w 5, index := w 6, epoch := w 7,
        position := w 8, object := w 9, stamp := w 10, content := [] }
  (nums.then bytesC).via (fun x => (x, x.content)) fun (x, content) => { x with content := content }

def streamC : Codec Stream :=
  let nums : Codec Stream :=
    .flat 12 (fun x => [x.number, x.kind, x.tenant, x.keySlot, x.target, x.lastBlock, x.segBytes, x.priority, x.rounds, x.round, x.block,
        x.frames]) fun w =>
      { number := w 0, kind := w 1, tenant := w 2, keySlot := w 3, target := w 4, lastBlock := w 5, segBytes := w 6, priority := w 7,
        rounds := w 8, round := w 9, block := w 10, frames := w 11 }
  let st := Codec.enum [StreamSt.opened, .started, .paused, .done] .opened
  (nums.then (st.then (pairC.opt.then (natC.then bytesC).list))).via (fun x => (x, x.st, x.hold, x.blocks))
    fun (x, st, hold, blocks) => { x with st := st, hold := hold, blocks := blocks }

def chargeC : Codec Charge :=
  .flat 6 (fun x => [x.head, x.band, x.bucket, x.ms, x.share, x.gid]) fun w =>
    { head := w 0, band := w 1, bucket := w 2, ms := w 3, share := w 4, gid := w 5 }

/-! ### The objects -/

/-- The name of an object as numbers. -/
def Kept.words : Kept → List Nat
  | .meter n => [1, n, 0] | .zone z => [2, z, 0] | .tributary t => [3, t, 0] | .floods => [4, 0, 0] | .duty => [5, 0, 0]
  | .cursor i => [6, i, 0] | .exported p i => [7, p, i] | .profile p => [8, p, 0] | .interval t e => [9, t, e] | .result z e => [10, z, e]

/-- The object of a name. -/
def Kept.ofWords (tag a b : Nat) : Option Kept := match tag with
  | 1 => some (.meter a) | 2 => some (.zone a) | 3 => some (.tributary a) | 4 => some .floods | 5 => some .duty
  | 6 => some (.cursor a) | 7 => some (.exported a b) | 8 => some (.profile a) | 9 => some (.interval a b) | 10 => some (.result a b)
  | _ => none

/-- A table with a key as another table has it. -/
def Map.setOpt {κ α : Type} [DecidableEq κ] (m : Map κ α) (k : κ) : Option α → Map κ α
  | some v => Map.put m k v
  | none => Map.del m k

/-- A list with what it does not hold yet. -/
def addNew {α : Type} [DecidableEq α] (l m : List α) : List α := l ++ m.filter fun x => !l.contains x

/-- What a meter slot has beside its record and its configuration: poll plan and drift model, flood role, Ling state, tokens, flags of the
last credit state, quarantine and tombstones, frame ring, balance state, safe commands, key blob, clock log. -/
def State.meterKept (s : State) (n : Nat) : List Nat :=
  planC.opt.put (Map.get? s.air.plans n) ++ floodMeterC.opt.put (Map.get? s.fl.meters n) ++ lingMeterC.opt.put (Map.get? s.ling.meters n) ++
    tokenC.list.put (s.pre.tokens.filter fun t => t.slot == n) ++ natC.opt.put (Map.get? s.pre.flags n) ++
    quarantineC.list.put (s.sec.quarantine.filter fun q => q.f.slot == n) ++
    natC.list.put ((s.sec.tombs.filter fun t => t.1 == n).map Prod.snd) ++ pairC.list.opt.put (Map.get? s.led.rings n) ++
    balMeterC.opt.put (Map.get? s.bal.meters n) ++ safeMeterC.opt.put (Map.get? s.safe.meters n) ++
    (natC.then bytesC).opt.put (Map.get? s.sec.keys n) ++
    clockC.list.put ((Map.vals s.tar.clockLog).flatten.filter fun e => e.slot == n)

/-- The same read back. -/
def State.keepMeter (s : State) (n : Nat) (l : List Nat) : State :=
  let (plan, l) := planC.opt.get l
  let (role, l) := floodMeterC.opt.get l
  let (ling, l) := lingMeterC.opt.get l
  let (tokens, l) := tokenC.list.get l
  let (flags, l) := natC.opt.get l
  let (quarantine, l) := quarantineC.list.get l
  let (tombs, l) := natC.list.get l
  let (ring, l) := pairC.list.opt.get l
  let (bal, l) := balMeterC.opt.get l
  let (safe, l) := safeMeterC.opt.get l
  let (key, l) := (natC.then bytesC).opt.get l
  let (clock, _) := clockC.list.get l
  { s with
    air := { s.air with plans := Map.setOpt s.air.plans n plan }
    fl := { s.fl with meters := Map.setOpt s.fl.meters n role }
    ling := { s.ling with meters := Map.setOpt s.ling.meters n ling }
    pre := { s.pre with
      tokens := s.pre.tokens.filter (fun t => t.slot != n) ++ tokens, flags := Map.setOpt s.pre.flags n flags }
    sec := { s.sec with
      quarantine := s.sec.quarantine.filter (fun q => q.f.slot != n) ++ quarantine,
      tombs := s.sec.tombs.filter (fun t => t.1 != n) ++ tombs.map fun c => (n, c),
      keys := Map.setOpt s.sec.keys n key }
    led := { s.led with rings := Map.setOpt s.led.rings n ring }
    bal := { s.bal with meters := Map.setOpt s.bal.meters n bal }
    safe := { s.safe with meters := Map.setOpt s.safe.meters n safe }
    tar := { s.tar with clockLog := clock.foldl (fun m e => Map.upd m e.tenant [] fun l => addNew l [e]) s.tar.clockLog } }

/-- What is kept of an object, as it stands. Times since boot go out as ages. -/
def State.keptWords (s : State) : Kept → List Nat
  | .meter n => s.meterKept n
  | .zone z => zoneC.opt.put (Map.get? s.bal.zones z)
  | .tributary t =>
    let x := Map.getD s.met.tribs t {}
    accC.put ((x.pending.map Prod.snd).getD x.committed) ++ [x.zoneNo, bit x.zoneAssigned, x.lastEnd] ++
      (natC.then pulseC).list.put s.met.pulses
  | .floods =>
    streamC.list.put s.fl.streams ++ mapC.put (s.fl.lastMs.map fun e => (e.1, s.time.ms - e.2)) ++ [s.fl.setupSeq, s.fl.fromS] ++
      pairC.list.put s.fl.filled ++ (pairC.then natC).list.put s.vault.bcCtr
  | .duty => chargeC.list.put s.air.charges ++ (pairC.then natC).list.put s.air.lastEnd
  | .cursor i => let c := (Map.getD s.ports.sessions i {}).journaled; [c.1, c.2]
  | .exported p i => exportC.list.put (s.ports.exports.filter fun e => e.position == p && e.index == i)
  | .profile p => archC.list.put ((s.tar.waiting.filter fun w => w.1 == p).map Prod.snd)
  | .interval t e => intervalC.list.put (s.met.intervals.filter fun r => r.trib == t && r.stop == e)
  | .result z e => resultC.list.put (s.bal.results.filter fun r => r.zone == z && r.stop == e)

/-- An object taken over as it was written. -/
def State.keepObject (s : State) (k : Kept) (l : List Nat) : State :=
  match k with
  | .meter n => s.keepMeter n l
  | .zone z => { s with bal := { s.bal with zones := Map.setOpt s.bal.zones z (zoneC.opt.get l).1 } }
  | .tributary t =>
    let (acc, l) := accC.get l
    let pulses := ((natC.then pulseC).list.get (l.drop 3)).1
    { s with met := { s.met with
      tribs := Map.upd s.met.tribs t {} fun x =>
        { x with committed := acc, pending := none, zoneNo := l.getD 0 0, zoneAssigned := l.getD 1 0 == 1, lastEnd := l.getD 2 0 }
      pulses := pulses } }
  | .floods =>
    let (streams, l) := streamC.list.get l
    let (last, l) := mapC.get l
    let (nums, l) := pairC.get l
    let (filled, l) := pairC.list.get l
    { s with
      fl := { s.fl with
        streams := streams, lastMs := last.map fun e => (e.1, s.time.ms - e.2), setupSeq := nums.1, fromS := nums.2, filled := filled }
      vault := { s.vault with bcCtr := ((pairC.then natC).list.get l).1 } }
  | .duty =>
    let (charges, l) := chargeC.list.get l
    { s with air := { s.air with charges := charges, lastEnd := ((pairC.then natC).list.get l).1 } }
  | .cursor i =>
    let c := (pairC.get l).1
    { s with ports := { s.ports with sessions := Map.upd s.ports.sessions i {} fun x => { x with cursor := c, journaled := c } } }
  | .exported _ _ => { s with ports := { s.ports with exports := addNew s.ports.exports (exportC.list.get l).1 } }
  | .profile p =>
    let new := (archC.list.get l).1.filter fun a => !s.tar.archive.contains a
    { s with tar := { s.tar with waiting := addNew s.tar.waiting (new.map fun a => (p, a)) } }
  | .interval _ _ => { s with met := { s.met with intervals := addNew s.met.intervals (intervalC.list.get l).1 } }
  | .result _ _ => { s with bal := { s.bal with results := addNew s.bal.results (resultC.list.get l).1 } }

end Sys2Proof.Machine
end

