-- ==== Sys2Proof/Machine/Schemas.lean ====
section
/-! DEFINITION. The configuration records of every chapter as schemas (R71 to R73, R696): for each record its
identifier, body length, number of instances and fields in order of offset, and one field reference per field.
Generated from the field-map tables of spec/. -/

namespace Sys2Proof.Machine

/-- The largest FreqSearch of each receive mode, units of 10 Hz (Table 6-1). -/
def freqSearchMax (m : Nat) : Int := [2000, 1000, 1000, 9000, 9000, 9000, 11000, 11000, 11000, 11000, 300].getD m 0

/-- The default FreqSearch of each receive mode, units of 10 Hz (Table 6-1). -/
def freqSearchDefault (m : Nat) : Nat := [1200, 800, 800, 6000, 6000, 6000, 8000, 8000, 8000, 8000, 150].getD m 0

/-- Reserved bits: forced to zero (R7). -/
def rsv (bit width : Nat) : FieldSpec := ⟨bit, width, false, [(0, 0)], .forced, some 0⟩

/-! ### Record 0x0150 FaultPolicy (Table 2-11, spec/02_architecture.md) -/

/-- CellRetries of record 0x0150. -/
def Rec.FaultPolicy.CellRetries : Fld := ⟨0x0150, 0, 4, 2⟩
/-- SlowMisses of record 0x0150. -/
def Rec.FaultPolicy.SlowMisses : Fld := ⟨0x0150, 8, 8, 3⟩
/-- SlowWindowMs of record 0x0150. -/
def Rec.FaultPolicy.SlowWindowMs : Fld := ⟨0x0150, 16, 16, 1000⟩
/-- ProbationMs of record 0x0150. -/
def Rec.FaultPolicy.ProbationMs : Fld := ⟨0x0150, 32, 16, 1000⟩
/-- SlowToFence of record 0x0150. -/
def Rec.FaultPolicy.SlowToFence : Fld := ⟨0x0150, 48, 8, 4⟩
/-- RestartLimit of record 0x0150. -/
def Rec.FaultPolicy.RestartLimit : Fld := ⟨0x0150, 56, 8, 3⟩
/-- RestartWindowS of record 0x0150. -/
def Rec.FaultPolicy.RestartWindowS : Fld := ⟨0x0150, 64, 32, 3600⟩
/-- WeightRealTime of record 0x0150. -/
def Rec.FaultPolicy.WeightRealTime : Fld := ⟨0x0150, 96, 8, 128⟩
/-- WeightCommit of record 0x0150. -/
def Rec.FaultPolicy.WeightCommit : Fld := ⟨0x0150, 104, 8, 96⟩
/-- WeightBulk of record 0x0150. -/
def Rec.FaultPolicy.WeightBulk : Fld := ⟨0x0150, 112, 8, 32⟩
/-- CorrectedPerHour of record 0x0150. -/
def Rec.FaultPolicy.CorrectedPerHour : Fld := ⟨0x0150, 120, 16, 100⟩
/-- The field map of record 0x0150. -/
def Schema.FaultPolicy : Schema := ⟨0x0150, 32, 1,
    [⟨0, 4, false, [(0, 3)], .nearest, some 2⟩,
    rsv (4) 4,
    ⟨8, 8, false, [(1, 16)], .nearest, some 3⟩,
    ⟨16, 16, false, [(100, 10000)], .nearest, some 1000⟩,
    ⟨32, 16, false, [(100, 60000)], .nearest, some 1000⟩,
    ⟨48, 8, false, [(2, 32)], .nearest, some 4⟩,
    ⟨56, 8, false, [(1, 8)], .nearest, some 3⟩,
    ⟨64, 32, false, [(600, 86400)], .nearest, some 3600⟩,
    ⟨96, 8, false, [(1, 255)], .nearest, some 128⟩,
    ⟨104, 8, false, [(1, 255)], .nearest, some 96⟩,
    ⟨112, 8, false, [(1, 255)], .nearest, some 32⟩,
    ⟨120, 16, false, [(1, 65535)], .nearest, some 100⟩,
    rsv (136) 120]⟩

/-! ### Record 0x0151 SessionPolicy (Table 3-12, spec/03_mailbox_and_sessions.md) -/

/-- IdleTimeoutS of record 0x0151. -/
def Rec.SessionPolicy.IdleTimeoutS : Fld := ⟨0x0151, 0, 32, 900⟩
/-- ApprovalWindowS of record 0x0151. -/
def Rec.SessionPolicy.ApprovalWindowS : Fld := ⟨0x0151, 32, 16, 300⟩
/-- NotifyDepth of record 0x0151. -/
def Rec.SessionPolicy.NotifyDepth : Fld := ⟨0x0151, 48, 16, 64⟩
/-- TunnelMask of record 0x0151. -/
def Rec.SessionPolicy.TunnelMask : Fld := ⟨0x0151, 64, 16, 0⟩
/-- The field map of record 0x0151. -/
def Schema.SessionPolicy : Schema := ⟨0x0151, 16, 1,
    [⟨0, 32, false, [(60, 86400)], .nearest, some 900⟩,
    ⟨32, 16, false, [(30, 3600)], .nearest, some 300⟩,
    ⟨48, 16, false, [(16, 256)], .nearest, some 64⟩,
    ⟨64, 16, false, [(0, 65535)], .none, some 0⟩,
    rsv (80) 48]⟩

/-! ### Record 0x0200 Lane (Table 4-8, spec/04_field_lanes.md) -/

/-- Mode of record 0x0200. -/
def Rec.Lane.Mode : Fld := ⟨0x0200, 0, 1, 0⟩
/-- AutoEnable of record 0x0200. -/
def Rec.Lane.AutoEnable : Fld := ⟨0x0200, 1, 1, 0⟩
/-- ExpectKind of record 0x0200. -/
def Rec.Lane.ExpectKind : Fld := ⟨0x0200, 2, 2, 0⟩
/-- AntennaMask of record 0x0200. -/
def Rec.Lane.AntennaMask : Fld := ⟨0x0200, 8, 8, 255⟩
/-- LineGroup of record 0x0200. -/
def Rec.Lane.LineGroup : Fld := ⟨0x0200, 16, 4, 0⟩
/-- StartTimeoutMs of record 0x0200. -/
def Rec.Lane.StartTimeoutMs : Fld := ⟨0x0200, 32, 16, 500⟩
/-- RetryIntervalMs of record 0x0200. -/
def Rec.Lane.RetryIntervalMs : Fld := ⟨0x0200, 48, 16, 1000⟩
/-- ExpectSerial of record 0x0200. -/
def Rec.Lane.ExpectSerial : Fld := ⟨0x0200, 64, 64, 0⟩
/-- AsymmetryPs of record 0x0200. -/
def Rec.Lane.AsymmetryPs : Fld := ⟨0x0200, 128, 32, 0⟩
/-- LatencyStepPs of record 0x0200. -/
def Rec.Lane.LatencyStepPs : Fld := ⟨0x0200, 160, 32, 1000⟩
/-- FecUncorrPerS of record 0x0200. -/
def Rec.Lane.FecUncorrPerS : Fld := ⟨0x0200, 192, 16, 10⟩
/-- AntennaDelayPs of record 0x0200. -/
def Rec.Lane.AntennaDelayPs (s : Nat) : Fld := ⟨0x0200, 256 + 32 * s, 32, 0⟩
/-- The field map of record 0x0200. -/
def Schema.Lane : Schema := ⟨0x0200, 64, 64,
    [⟨0, 1, false, [(0, 0), (1, 1)], .none, some 0⟩,
    ⟨1, 1, false, [(0, 0), (1, 1)], .none, some 0⟩,
    ⟨2, 2, false, [(0, 2)], .nearest, some 0⟩,
    rsv (4) 4,
    ⟨8, 8, false, [(0, 255)], .none, some 255⟩,
    ⟨16, 4, false, [(0, 15)], .none, some 0⟩,
    rsv (20) 12,
    ⟨32, 16, false, [(100, 5000)], .nearest, some 500⟩,
    ⟨48, 16, false, [(100, 60000)], .nearest, some 1000⟩,
    ⟨64, 64, false, [], .none, some 0⟩,
    ⟨128, 32, true, [(-1000000, 1000000)], .nearest, some 0⟩,
    ⟨160, 32, false, [(100, 100000)], .nearest, some 1000⟩,
    ⟨192, 16, false, [(1, 65535)], .nearest, some 10⟩,
    rsv (208) 48] ++
    ((List.range 8).flatMap fun s => [⟨256 + 32 * s, 32, false, [(0, 5000000)], .nearest, some 0⟩])⟩

/-! ### Record 0x0300 Channel (Table 5-6, spec/05_channelisation.md) -/

/-- Active of record 0x0300. -/
def Rec.Channel.Active : Fld := ⟨0x0300, 0, 1, 0⟩
/-- Lane of record 0x0300. -/
def Rec.Channel.Lane : Fld := ⟨0x0300, 8, 6, 0⟩
/-- SubBand of record 0x0300. -/
def Rec.Channel.SubBand : Fld := ⟨0x0300, 16, 6, 2⟩
/-- Priority of record 0x0300. -/
def Rec.Channel.Priority : Fld := ⟨0x0300, 24, 3, 4⟩
/-- FreqWord of record 0x0300. -/
def Rec.Channel.FreqWord : Fld := ⟨0x0300, 32, 32, 0⟩
/-- CicLog2 of record 0x0300. -/
def Rec.Channel.CicLog2 : Fld := ⟨0x0300, 64, 3, 0⟩
/-- HbCount of record 0x0300. -/
def Rec.Channel.HbCount : Fld := ⟨0x0300, 67, 3, 0⟩
/-- Hb of record 0x0300. -/
def Rec.Channel.Hb (i : Nat) : Fld := ⟨0x0300, 72 + 8 * i, 8, 0⟩
/-- FinalIndex of record 0x0300. -/
def Rec.Channel.FinalIndex : Fld := ⟨0x0300, 104, 8, 32⟩
/-- GainWord of record 0x0300. -/
def Rec.Channel.GainWord : Fld := ⟨0x0300, 112, 18, 65536⟩
/-- DcK of record 0x0300. -/
def Rec.Channel.DcK : Fld := ⟨0x0300, 136, 5, 12⟩
/-- DcAuto of record 0x0300. -/
def Rec.Channel.DcAuto : Fld := ⟨0x0300, 144, 1, 0⟩
/-- AntennaMask of record 0x0300. -/
def Rec.Channel.AntennaMask : Fld := ⟨0x0300, 152, 8, 255⟩
/-- The field map of record 0x0300. -/
def Schema.Channel : Schema := ⟨0x0300, 32, 2048,
    [⟨0, 1, false, [(0, 0), (1, 1)], .none, some 0⟩,
    rsv (1) 7,
    ⟨8, 6, false, [(0, 63)], .none, some 0⟩,
    rsv (14) 2,
    ⟨16, 6, false, [(2, 62)], .nearest, some 2⟩,
    rsv (22) 2,
    ⟨24, 3, false, [(0, 7)], .nearest, some 4⟩,
    rsv (27) 5,
    ⟨32, 32, true, [(-1288490188, 1288490188)], .nearest, some 0⟩,
    ⟨64, 3, false, [(0, 6)], .nearest, some 0⟩,
    ⟨67, 3, false, [(0, 4)], .nearest, some 0⟩,
    rsv (70) 2] ++
    ((List.range 4).flatMap fun i => [⟨72 + 8 * i, 8, false, [(0, 15)], .nearest, some 0⟩]) ++
    [⟨104, 8, false, [(16, 79)], .nearest, some 32⟩,
    ⟨112, 18, false, [(0, 262143)], .nearest, some 65536⟩,
    rsv (130) 6,
    ⟨136, 5, false, [(4, 20)], .nearest, some 12⟩,
    rsv (141) 3,
    ⟨144, 1, false, [(0, 0), (1, 1)], .none, some 0⟩,
    rsv (145) 7,
    ⟨152, 8, false, [(0, 255)], .none, some 255⟩,
    rsv (160) 96]⟩

/-! ### Record 0x0301 LineFilter (Table 5-7, spec/05_channelisation.md) -/

/-- MetroHb of record 0x0301. -/
def Rec.LineFilter.MetroHb (i : Nat) : Fld := ⟨0x0301, 8 * i, 8, ([0, 1, 4].getD i 0)⟩
/-- MetroFinal50 of record 0x0301. -/
def Rec.LineFilter.MetroFinal50 : Fld := ⟨0x0301, 24, 8, 80⟩
/-- MetroFinal60 of record 0x0301. -/
def Rec.LineFilter.MetroFinal60 : Fld := ⟨0x0301, 32, 8, 83⟩
/-- LingIndex of record 0x0301. -/
def Rec.LineFilter.LingIndex : Fld := ⟨0x0301, 40, 8, 88⟩
/-- LingSlots of record 0x0301. -/
def Rec.LineFilter.LingSlots : Fld := ⟨0x0301, 48, 8, 16⟩
/-- DcK of record 0x0301. -/
def Rec.LineFilter.DcK : Fld := ⟨0x0301, 56, 5, 16⟩
/-- DcAuto of record 0x0301. -/
def Rec.LineFilter.DcAuto : Fld := ⟨0x0301, 61, 1, 1⟩
/-- The field map of record 0x0301. -/
def Schema.LineFilter : Schema := ⟨0x0301, 16, 64,
    ((List.range 3).flatMap fun i => [⟨8 * i, 8, false, [(0, 15)], .nearest, some ([0, 1, 4].getD i 0)⟩]) ++
    [⟨24, 8, false, [(80, 87)], .nearest, some 80⟩,
    ⟨32, 8, false, [(80, 87)], .nearest, some 83⟩,
    ⟨40, 8, false, [(72, 79), (88, 95)], .nearest, some 88⟩,
    ⟨48, 8, false, [(0, 64)], .nearest, some 16⟩,
    ⟨56, 5, false, [(4, 20)], .nearest, some 16⟩,
    ⟨61, 1, false, [(0, 0), (1, 1)], .none, some 1⟩,
    rsv (62) 66]⟩

/-! ### Record 0x0400 RxChannel (Table 6-9, spec/06_reception.md) -/

/-- Group of record 0x0400. -/
def Rec.RxChannel.Group : Fld := ⟨0x0400, 0, 10, 0⟩
/-- ModeMask of record 0x0400. -/
def Rec.RxChannel.ModeMask : Fld := ⟨0x0400, 16, 11, 0⟩
/-- WatchMask of record 0x0400. -/
def Rec.RxChannel.WatchMask : Fld := ⟨0x0400, 32, 8, 0⟩
/-- History of record 0x0400. -/
def Rec.RxChannel.History : Fld := ⟨0x0400, 40, 1, 0⟩
/-- Member of record 0x0400. -/
def Rec.RxChannel.Member : Fld := ⟨0x0400, 41, 1, 0⟩
/-- The field map of record 0x0400. -/
def Schema.RxChannel : Schema := ⟨0x0400, 16, 2048,
    [⟨0, 10, false, [(0, 1023)], .none, some 0⟩,
    rsv (10) 6,
    ⟨16, 11, false, [], .none, some 0⟩,
    rsv (27) 5,
    ⟨32, 8, false, [(0, 255)], .none, some 0⟩,
    ⟨40, 1, false, [(0, 0), (1, 1)], .none, some 0⟩,
    ⟨41, 1, false, [(0, 0), (1, 1)], .none, some 0⟩,
    rsv (42) 6,
    rsv (48) 80]⟩

/-! ### Record 0x0401 RxPolicy (Table 6-10, spec/06_reception.md) -/

/-- BranchMinSnr of record 0x0401. -/
def Rec.RxPolicy.BranchMinSnr : Fld := ⟨0x0401, 0, 16, 65476⟩
/-- DetectMargin of record 0x0401. -/
def Rec.RxPolicy.DetectMargin : Fld := ⟨0x0401, 16, 16, 0⟩
/-- PushReserve of record 0x0401. -/
def Rec.RxPolicy.PushReserve : Fld := ⟨0x0401, 32, 16, 512⟩
/-- MergeTolUs of record 0x0401. -/
def Rec.RxPolicy.MergeTolUs : Fld := ⟨0x0401, 48, 16, 200⟩
/-- AlignDeadlineMs of record 0x0401. -/
def Rec.RxPolicy.AlignDeadlineMs : Fld := ⟨0x0401, 64, 8, 4⟩
/-- RetroMaxBranches of record 0x0401. -/
def Rec.RxPolicy.RetroMaxBranches : Fld := ⟨0x0401, 72, 8, 64⟩
/-- TrackSymbols of record 0x0401. -/
def Rec.RxPolicy.TrackSymbols : Fld := ⟨0x0401, 80, 8, 32⟩
/-- FreqSearch of record 0x0401. -/
def Rec.RxPolicy.FreqSearch (m : Nat) : Fld := ⟨0x0401, 96 + 16 * m, 16, (freqSearchDefault m)⟩
/-- The field map of record 0x0401. -/
def Schema.RxPolicy : Schema := ⟨0x0401, 48, 1,
    [⟨0, 16, true, [(-200, 100)], .nearest, some 65476⟩,
    ⟨16, 16, true, [(-30, 100)], .nearest, some 0⟩,
    ⟨32, 16, false, [(0, 2048)], .nearest, some 512⟩,
    ⟨48, 16, false, [(10, 1000)], .nearest, some 200⟩,
    ⟨64, 8, false, [(1, 50)], .nearest, some 4⟩,
    ⟨72, 8, false, [(1, 64)], .nearest, some 64⟩,
    ⟨80, 8, false, [(8, 128)], .nearest, some 32⟩,
    rsv (88) 8] ++
    ((List.range 11).flatMap fun m => [⟨96 + 16 * m, 16, false, [(0, freqSearchMax m)], .nearest, some (freqSearchDefault m)⟩]) ++
    [rsv (272) 112]⟩

/-! ### Record 0x0500 LeaChannel (Table 7-13, spec/07_lea_protocol.md) -/

/-- Active of record 0x0500. -/
def Rec.LeaChannel.Active : Fld := ⟨0x0500, 0, 1, 0⟩
/-- RateMask of record 0x0500. -/
def Rec.LeaChannel.RateMask : Fld := ⟨0x0500, 1, 3, 2⟩
/-- Band of record 0x0500. -/
def Rec.LeaChannel.Band : Fld := ⟨0x0500, 8, 5, 0⟩
/-- DownPreambleMin of record 0x0500. -/
def Rec.LeaChannel.DownPreambleMin : Fld := ⟨0x0500, 16, 8, 4⟩
/-- CentreHz of record 0x0500. -/
def Rec.LeaChannel.CentreHz : Fld := ⟨0x0500, 32, 32, 868300000⟩
/-- The field map of record 0x0500. -/
def Schema.LeaChannel : Schema := ⟨0x0500, 16, 16,
    [⟨0, 1, false, [(0, 0), (1, 1)], .none, some 0⟩,
    ⟨1, 3, false, [(0, 7)], .none, some 2⟩,
    rsv (4) 4,
    ⟨8, 5, false, [(0, 31)], .none, some 0⟩,
    rsv (13) 3,
    ⟨16, 8, false, [(4, 64)], .nearest, some 4⟩,
    rsv (24) 8,
    ⟨32, 32, false, [(21875000, 978125000)], .nearest, some 868300000⟩,
    rsv (64) 64]⟩

/-! ### Record 0x0501 LeaPolicy (Table 7-14, spec/07_lea_protocol.md) -/

/-- DefaultDelayCode of record 0x0501. -/
def Rec.LeaPolicy.DefaultDelayCode : Fld := ⟨0x0501, 0, 5, 4⟩
/-- MaxPreambleBytes of record 0x0501. -/
def Rec.LeaPolicy.MaxPreambleBytes : Fld := ⟨0x0501, 8, 8, 32⟩
/-- UnsolicitedWindowS of record 0x0501. -/
def Rec.LeaPolicy.UnsolicitedWindowS : Fld := ⟨0x0501, 16, 16, 600⟩
/-- AlarmAccept of record 0x0501. -/
def Rec.LeaPolicy.AlarmAccept : Fld := ⟨0x0501, 32, 1, 1⟩
/-- The field map of record 0x0501. -/
def Schema.LeaPolicy : Schema := ⟨0x0501, 16, 1,
    [⟨0, 5, false, [(0, 31)], .nearest, some 4⟩,
    rsv (5) 3,
    ⟨8, 8, false, [(4, 64)], .nearest, some 32⟩,
    ⟨16, 16, false, [(1, 600)], .nearest, some 600⟩,
    ⟨32, 1, false, [(0, 0), (1, 1)], .none, some 1⟩,
    rsv (33) 7,
    rsv (40) 88]⟩

/-! ### Record 0x0600 Band (Table 8-5, spec/08_poll_plan.md) -/

/-- Active of record 0x0600. -/
def Rec.Band.Active : Fld := ⟨0x0600, 0, 1, 0⟩
/-- MaxErpDbm10 of record 0x0600. -/
def Rec.Band.MaxErpDbm10 : Fld := ⟨0x0600, 16, 16, 140⟩
/-- LowHz of record 0x0600. -/
def Rec.Band.LowHz : Fld := ⟨0x0600, 32, 32, 868000000⟩
/-- HighHz of record 0x0600. -/
def Rec.Band.HighHz : Fld := ⟨0x0600, 64, 32, 868600000⟩
/-- DutyMilliPct of record 0x0600. -/
def Rec.Band.DutyMilliPct : Fld := ⟨0x0600, 96, 32, 1000⟩
/-- WindowS of record 0x0600. -/
def Rec.Band.WindowS : Fld := ⟨0x0600, 128, 32, 3600⟩
/-- MaxOnMs of record 0x0600. -/
def Rec.Band.MaxOnMs : Fld := ⟨0x0600, 160, 16, 0⟩
/-- MinOffMs of record 0x0600. -/
def Rec.Band.MinOffMs : Fld := ⟨0x0600, 176, 16, 0⟩
/-- ResponseReservePermille of record 0x0600. -/
def Rec.Band.ResponseReservePermille : Fld := ⟨0x0600, 192, 16, 50⟩
/-- FloodSharePermille of record 0x0600. -/
def Rec.Band.FloodSharePermille : Fld := ⟨0x0600, 208, 16, 250⟩
/-- The field map of record 0x0600. -/
def Schema.Band : Schema := ⟨0x0600, 32, 32,
    [⟨0, 1, false, [(0, 0), (1, 1)], .none, some 0⟩,
    rsv (1) 15,
    ⟨16, 16, true, [(-300, 400)], .nearest, some 140⟩,
    ⟨32, 32, false, [(21875000, 978125000)], .nearest, some 868000000⟩,
    ⟨64, 32, false, [(21875000, 978125000)], .nearest, some 868600000⟩,
    ⟨96, 32, false, [(1, 100000)], .nearest, some 1000⟩,
    ⟨128, 32, false, [(60, 86400)], .nearest, some 3600⟩,
    ⟨160, 16, false, [(0, 60000)], .nearest, some 0⟩,
    ⟨176, 16, false, [(0, 60000)], .nearest, some 0⟩,
    ⟨192, 16, false, [(0, 500)], .nearest, some 50⟩,
    ⟨208, 16, false, [(0, 1000)], .nearest, some 250⟩,
    rsv (224) 32]⟩

/-! ### Record 0x0601 HeadAir (Table 8-6, spec/08_poll_plan.md) -/

/-- TxEnable of record 0x0601. -/
def Rec.HeadAir.TxEnable : Fld := ⟨0x0601, 0, 1, 0⟩
/-- HalfDuplex of record 0x0601. -/
def Rec.HeadAir.HalfDuplex : Fld := ⟨0x0601, 1, 1, 1⟩
/-- TxAntennaMask of record 0x0601. -/
def Rec.HeadAir.TxAntennaMask : Fld := ⟨0x0601, 8, 8, 1⟩
/-- MaxTxCarriers of record 0x0601. -/
def Rec.HeadAir.MaxTxCarriers : Fld := ⟨0x0601, 16, 4, 4⟩
/-- FullScaleDbm10 of record 0x0601. -/
def Rec.HeadAir.FullScaleDbm10 (s : Nat) : Fld := ⟨0x0601, 32 + 16 * s, 16, 270⟩
/-- The field map of record 0x0601. -/
def Schema.HeadAir : Schema := ⟨0x0601, 32, 64,
    [⟨0, 1, false, [(0, 0), (1, 1)], .none, some 0⟩,
    ⟨1, 1, false, [(0, 0), (1, 1)], .none, some 1⟩,
    rsv (2) 6,
    ⟨8, 8, false, [(0, 255)], .none, some 1⟩,
    ⟨16, 4, false, [(1, 8)], .nearest, some 4⟩,
    rsv (20) 12] ++
    ((List.range 8).flatMap fun s => [⟨32 + 16 * s, 16, true, [(-200, 500)], .nearest, some 270⟩]) ++
    [rsv (160) 96]⟩

/-! ### Record 0x0602 MeterClass (Table 8-7, spec/08_poll_plan.md) -/

/-- WakePeriodMs of record 0x0602. -/
def Rec.MeterClass.WakePeriodMs : Fld := ⟨0x0602, 0, 32, 16000⟩
/-- ListenMs of record 0x0602. -/
def Rec.MeterClass.ListenMs : Fld := ⟨0x0602, 32, 16, 10⟩
/-- ClockTolPpm of record 0x0602. -/
def Rec.MeterClass.ClockTolPpm : Fld := ⟨0x0602, 48, 16, 40⟩
/-- PollIntervalS of record 0x0602. -/
def Rec.MeterClass.PollIntervalS : Fld := ⟨0x0602, 64, 32, 21600⟩
/-- PollSlackS of record 0x0602. -/
def Rec.MeterClass.PollSlackS : Fld := ⟨0x0602, 96, 32, 600⟩
/-- PollDeadlineS of record 0x0602. -/
def Rec.MeterClass.PollDeadlineS : Fld := ⟨0x0602, 128, 32, 3600⟩
/-- Rate of record 0x0602. -/
def Rec.MeterClass.Rate : Fld := ⟨0x0602, 160, 2, 1⟩
/-- Request of record 0x0602. -/
def Rec.MeterClass.Request : Fld := ⟨0x0602, 168, 8, 11⟩
/-- DelayCode of record 0x0602. -/
def Rec.MeterClass.DelayCode : Fld := ⟨0x0602, 176, 5, 4⟩
/-- MissLimit of record 0x0602. -/
def Rec.MeterClass.MissLimit : Fld := ⟨0x0602, 184, 8, 6⟩
/-- UFloorUs of record 0x0602. -/
def Rec.MeterClass.UFloorUs : Fld := ⟨0x0602, 192, 32, 2000⟩
/-- GuardQ4 of record 0x0602. -/
def Rec.MeterClass.GuardQ4 : Fld := ⟨0x0602, 224, 8, 48⟩
/-- DriftDepth of record 0x0602. -/
def Rec.MeterClass.DriftDepth : Fld := ⟨0x0602, 232, 8, 8⟩
/-- JInitUs of record 0x0602. -/
def Rec.MeterClass.JInitUs : Fld := ⟨0x0602, 240, 16, 1000⟩
/-- JMinUs of record 0x0602. -/
def Rec.MeterClass.JMinUs : Fld := ⟨0x0602, 256, 16, 200⟩
/-- WanderPpb of record 0x0602. -/
def Rec.MeterClass.WanderPpb : Fld := ⟨0x0602, 272, 16, 500⟩
/-- DriftAgeDays of record 0x0602. -/
def Rec.MeterClass.DriftAgeDays : Fld := ⟨0x0602, 288, 16, 30⟩
/-- TurnWidenMs of record 0x0602. -/
def Rec.MeterClass.TurnWidenMs : Fld := ⟨0x0602, 304, 8, 0⟩
/-- SweepPerDay of record 0x0602. -/
def Rec.MeterClass.SweepPerDay : Fld := ⟨0x0602, 312, 8, 0⟩
/-- The field map of record 0x0602. -/
def Schema.MeterClass : Schema := ⟨0x0602, 64, 256,
    [⟨0, 32, false, [(1000, 86400000)], .nearest, some 16000⟩,
    ⟨32, 16, false, [(1, 1000)], .nearest, some 10⟩,
    ⟨48, 16, false, [(1, 500)], .nearest, some 40⟩,
    ⟨64, 32, false, [(60, 2592000)], .nearest, some 21600⟩,
    ⟨96, 32, false, [(0, 86400)], .nearest, some 600⟩,
    ⟨128, 32, false, [(60, 604800)], .nearest, some 3600⟩,
    ⟨160, 2, false, [(0, 2)], .nearest, some 1⟩,
    rsv (162) 6,
    ⟨168, 8, false, [(0, 31)], .nearest, some 11⟩,
    ⟨176, 5, false, [(0, 31)], .nearest, some 4⟩,
    rsv (181) 3,
    ⟨184, 8, false, [(1, 32)], .nearest, some 6⟩,
    ⟨192, 32, false, [(100, 100000)], .nearest, some 2000⟩,
    ⟨224, 8, false, [(16, 128)], .nearest, some 48⟩,
    ⟨232, 8, false, [(2, 8)], .nearest, some 8⟩,
    ⟨240, 16, false, [(100, 50000)], .nearest, some 1000⟩,
    ⟨256, 16, false, [(10, 10000)], .nearest, some 200⟩,
    ⟨272, 16, false, [(0, 10000)], .nearest, some 500⟩,
    ⟨288, 16, false, [(1, 365)], .nearest, some 30⟩,
    ⟨304, 8, false, [(0, 50)], .nearest, some 0⟩,
    ⟨312, 8, false, [(0, 24)], .nearest, some 0⟩,
    rsv (320) 192]⟩

/-! ### Record 0x0603 MeterPlan (Table 8-8, spec/08_poll_plan.md) -/

/-- Enabled of record 0x0603. -/
def Rec.MeterPlan.Enabled : Fld := ⟨0x0603, 0, 1, 0⟩
/-- PinHeads of record 0x0603. -/
def Rec.MeterPlan.PinHeads : Fld := ⟨0x0603, 1, 1, 0⟩
/-- Class of record 0x0603. -/
def Rec.MeterPlan.Class : Fld := ⟨0x0603, 8, 8, 0⟩
/-- LeaChannel of record 0x0603. -/
def Rec.MeterPlan.LeaChannel : Fld := ⟨0x0603, 16, 4, 0⟩
/-- Priority of record 0x0603. -/
def Rec.MeterPlan.Priority : Fld := ⟨0x0603, 20, 2, 2⟩
/-- PollOffsetS of record 0x0603. -/
def Rec.MeterPlan.PollOffsetS : Fld := ⟨0x0603, 32, 32, 0⟩
/-- PinHead of record 0x0603. -/
def Rec.MeterPlan.PinHead (i : Nat) : Fld := ⟨0x0603, 64 + 8 * i, 8, 255⟩
/-- The field map of record 0x0603. -/
def Schema.MeterPlan : Schema := ⟨0x0603, 32, 1048576,
    [⟨0, 1, false, [(0, 0), (1, 1)], .none, some 0⟩,
    ⟨1, 1, false, [(0, 0), (1, 1)], .none, some 0⟩,
    rsv (2) 6,
    ⟨8, 8, false, [(0, 255)], .none, some 0⟩,
    ⟨16, 4, false, [(0, 15)], .none, some 0⟩,
    ⟨20, 2, false, [(0, 3)], .nearest, some 2⟩,
    rsv (22) 10,
    ⟨32, 32, false, [(0, 2592000)], .nearest, some 0⟩] ++
    ((List.range 8).flatMap fun i => [⟨64 + 8 * i, 8, false, [(0, 63), (255, 255)], .none, some 255⟩]) ++
    [rsv (128) 128]⟩

/-! ### Record 0x0604 AirPolicy (Table 8-9, spec/08_poll_plan.md) -/

/-- PlanLeadMs of record 0x0604. -/
def Rec.AirPolicy.PlanLeadMs : Fld := ⟨0x0604, 0, 32, 1000⟩
/-- LaunchLockMs of record 0x0604. -/
def Rec.AirPolicy.LaunchLockMs : Fld := ⟨0x0604, 32, 16, 2⟩
/-- DiversityHz of record 0x0604. -/
def Rec.AirPolicy.DiversityHz : Fld := ⟨0x0604, 48, 16, 600⟩
/-- MaxLaunchHeads of record 0x0604. -/
def Rec.AirPolicy.MaxLaunchHeads : Fld := ⟨0x0604, 64, 8, 1⟩
/-- HeadDropDb of record 0x0604. -/
def Rec.AirPolicy.HeadDropDb : Fld := ⟨0x0604, 72, 8, 10⟩
/-- RetryDelayS of record 0x0604. -/
def Rec.AirPolicy.RetryDelayS : Fld := ⟨0x0604, 80, 16, 60⟩
/-- RecoveryPerS of record 0x0604. -/
def Rec.AirPolicy.RecoveryPerS : Fld := ⟨0x0604, 96, 32, 1000⟩
/-- The field map of record 0x0604. -/
def Schema.AirPolicy : Schema := ⟨0x0604, 32, 1,
    [⟨0, 32, false, [(100, 60000)], .nearest, some 1000⟩,
    ⟨32, 16, false, [(1, 100)], .nearest, some 2⟩,
    ⟨48, 16, false, [(0, 2000)], .nearest, some 600⟩,
    ⟨64, 8, false, [(1, 4)], .nearest, some 1⟩,
    ⟨72, 8, false, [(0, 40)], .nearest, some 10⟩,
    ⟨80, 16, false, [(1, 3600)], .nearest, some 60⟩,
    ⟨96, 32, false, [(1, 65536)], .nearest, some 1000⟩,
    rsv (128) 128]⟩

/-! ### Record 0x0700 FloodSchedule (Table 9-5, spec/09_flooding.md) -/

/-- Active of record 0x0700. -/
def Rec.FloodSchedule.Active : Fld := ⟨0x0700, 0, 1, 0⟩
/-- Rate of record 0x0700. -/
def Rec.FloodSchedule.Rate : Fld := ⟨0x0700, 1, 2, 0⟩
/-- MaxHops of record 0x0700. -/
def Rec.FloodSchedule.MaxHops : Fld := ⟨0x0700, 3, 3, 2⟩
/-- Band of record 0x0700. -/
def Rec.FloodSchedule.Band : Fld := ⟨0x0700, 8, 5, 3⟩
/-- FramesPerWindow of record 0x0700. -/
def Rec.FloodSchedule.FramesPerWindow : Fld := ⟨0x0700, 16, 8, 4⟩
/-- PreambleBytes of record 0x0700. -/
def Rec.FloodSchedule.PreambleBytes : Fld := ⟨0x0700, 24, 8, 8⟩
/-- CentreHz of record 0x0700. -/
def Rec.FloodSchedule.CentreHz : Fld := ⟨0x0700, 32, 32, 869850000⟩
/-- FloodPeriodS of record 0x0700. -/
def Rec.FloodSchedule.FloodPeriodS : Fld := ⟨0x0700, 64, 32, 300⟩
/-- FloodOffsetS of record 0x0700. -/
def Rec.FloodSchedule.FloodOffsetS : Fld := ⟨0x0700, 96, 32, 0⟩
/-- FloodL of record 0x0700. -/
def Rec.FloodSchedule.FloodL : Fld := ⟨0x0700, 128, 8, 255⟩
/-- HopGapMs of record 0x0700. -/
def Rec.FloodSchedule.HopGapMs : Fld := ⟨0x0700, 136, 8, 20⟩
/-- CacheAgeH of record 0x0700. -/
def Rec.FloodSchedule.CacheAgeH : Fld := ⟨0x0700, 144, 16, 168⟩
/-- HeadMask of record 0x0700. -/
def Rec.FloodSchedule.HeadMask : Fld := ⟨0x0700, 160, 64, 0⟩
/-- The field map of record 0x0700. -/
def Schema.FloodSchedule : Schema := ⟨0x0700, 32, 1,
    [⟨0, 1, false, [(0, 0), (1, 1)], .none, some 0⟩,
    ⟨1, 2, false, [(0, 2)], .nearest, some 0⟩,
    ⟨3, 3, false, [(0, 7)], .nearest, some 2⟩,
    rsv (6) 2,
    ⟨8, 5, false, [(0, 31)], .none, some 3⟩,
    rsv (13) 3,
    ⟨16, 8, false, [(1, 8)], .nearest, some 4⟩,
    ⟨24, 8, false, [(4, 64)], .nearest, some 8⟩,
    ⟨32, 32, false, [(21875000, 978125000)], .nearest, some 869850000⟩,
    ⟨64, 32, false, [(60, 86400)], .nearest, some 300⟩,
    ⟨96, 32, false, [(0, 86399)], .nearest, some 0⟩,
    ⟨128, 8, false, [(28, 255)], .nearest, some 255⟩,
    ⟨136, 8, false, [(5, 255)], .nearest, some 20⟩,
    ⟨144, 16, false, [(1, 8760)], .nearest, some 168⟩,
    ⟨160, 64, false, [], .none, some 0⟩,
    rsv (224) 32]⟩

/-! ### Record 0x0940 SwardPolicy (Table 9-6, spec/09_flooding.md) -/

/-- SwardAgeS of record 0x0940. -/
def Rec.SwardPolicy.SwardAgeS : Fld := ⟨0x0940, 0, 16, 300⟩
/-- ReplayCount of record 0x0940. -/
def Rec.SwardPolicy.ReplayCount : Fld := ⟨0x0940, 16, 16, 4⟩
/-- The field map of record 0x0940. -/
def Schema.SwardPolicy : Schema := ⟨0x0940, 16, 1,
    [⟨0, 16, false, [(10, 3600)], .nearest, some 300⟩,
    ⟨16, 16, false, [(1, 65535)], .nearest, some 4⟩,
    rsv (32) 96]⟩

/-! ### Record 0x0800 LingTrib (Table 10-7, spec/10_ling_line_link.md) -/

/-- TxAuto of record 0x0800. -/
def Rec.LingTrib.TxAuto : Fld := ⟨0x0800, 0, 1, 0⟩
/-- Coupling of record 0x0800. -/
def Rec.LingTrib.Coupling : Fld := ⟨0x0800, 1, 2, 3⟩
/-- RefPhase of record 0x0800. -/
def Rec.LingTrib.RefPhase : Fld := ⟨0x0800, 3, 2, 0⟩
/-- RxPhases of record 0x0800. -/
def Rec.LingTrib.RxPhases : Fld := ⟨0x0800, 8, 4, 7⟩
/-- AmpLimit of record 0x0800. -/
def Rec.LingTrib.AmpLimit : Fld := ⟨0x0800, 16, 10, 512⟩
/-- MinTxAmp of record 0x0800. -/
def Rec.LingTrib.MinTxAmp : Fld := ⟨0x0800, 32, 10, 256⟩
/-- TxOffsetUs of record 0x0800. -/
def Rec.LingTrib.TxOffsetUs : Fld := ⟨0x0800, 48, 16, 0⟩
/-- Cap200 of record 0x0800. -/
def Rec.LingTrib.Cap200 : Fld := ⟨0x0800, 64, 32, 100000⟩
/-- Cap1000 of record 0x0800. -/
def Rec.LingTrib.Cap1000 : Fld := ⟨0x0800, 96, 32, 400000⟩
/-- AlarmCallS of record 0x0800. -/
def Rec.LingTrib.AlarmCallS : Fld := ⟨0x0800, 128, 32, 900⟩
/-- AlarmSpread of record 0x0800. -/
def Rec.LingTrib.AlarmSpread : Fld := ⟨0x0800, 160, 8, 8⟩
/-- The field map of record 0x0800. -/
def Schema.LingTrib : Schema := ⟨0x0800, 32, 4096,
    [⟨0, 1, false, [(0, 0), (1, 1)], .none, some 0⟩,
    ⟨1, 2, false, [(0, 3)], .none, some 3⟩,
    ⟨3, 2, false, [(0, 2)], .nearest, some 0⟩,
    rsv (5) 3,
    ⟨8, 4, false, [(1, 15)], .nearest, some 7⟩,
    rsv (12) 4,
    ⟨16, 10, false, [(0, 1023)], .nearest, some 512⟩,
    rsv (26) 6,
    ⟨32, 10, false, [(0, 1023)], .nearest, some 256⟩,
    rsv (42) 6,
    ⟨48, 16, false, [(0, 5000)], .nearest, some 0⟩,
    ⟨64, 32, false, [(1, 201000)], .nearest, some 100000⟩,
    ⟨96, 32, false, [(1, 1001000)], .nearest, some 400000⟩,
    ⟨128, 32, false, [(0, 0), (60, 86400)], .nearest, some 900⟩,
    ⟨160, 8, false, [(1, 64)], .nearest, some 8⟩,
    rsv (168) 88]⟩

/-! ### Record 0x0801 LingMeter (Table 10-8, spec/10_ling_line_link.md) -/

/-- Active of record 0x0801. -/
def Rec.LingMeter.Active : Fld := ⟨0x0801, 0, 1, 0⟩
/-- RadioFallback of record 0x0801. -/
def Rec.LingMeter.RadioFallback : Fld := ⟨0x0801, 1, 1, 0⟩
/-- LevelAuto of record 0x0801. -/
def Rec.LingMeter.LevelAuto : Fld := ⟨0x0801, 2, 1, 1⟩
/-- Tributary of record 0x0801. -/
def Rec.LingMeter.Tributary : Fld := ⟨0x0801, 8, 12, 0⟩
/-- Phase of record 0x0801. -/
def Rec.LingMeter.Phase : Fld := ⟨0x0801, 20, 2, 0⟩
/-- Level of record 0x0801. -/
def Rec.LingMeter.Level : Fld := ⟨0x0801, 24, 3, 3⟩
/-- The field map of record 0x0801. -/
def Schema.LingMeter : Schema := ⟨0x0801, 16, 1048576,
    [⟨0, 1, false, [(0, 0), (1, 1)], .none, some 0⟩,
    ⟨1, 1, false, [(0, 0), (1, 1)], .none, some 0⟩,
    ⟨2, 1, false, [(0, 0), (1, 1)], .none, some 1⟩,
    rsv (3) 5,
    ⟨8, 12, false, [(0, 4095)], .none, some 0⟩,
    ⟨20, 2, false, [(0, 3)], .none, some 0⟩,
    rsv (22) 2,
    ⟨24, 3, false, [(0, 6)], .nearest, some 3⟩,
    rsv (27) 5,
    rsv (32) 96]⟩

/-! ### Record 0x0802 LingPolicy (Table 10-9, spec/10_ling_line_link.md) -/

/-- QpskMinSnr of record 0x0802. -/
def Rec.LingPolicy.QpskMinSnr : Fld := ⟨0x0802, 0, 16, 110⟩
/-- NotchSnr of record 0x0802. -/
def Rec.LingPolicy.NotchSnr : Fld := ⟨0x0802, 16, 16, 65456⟩
/-- StepUpDb of record 0x0802. -/
def Rec.LingPolicy.StepUpDb : Fld := ⟨0x0802, 32, 16, 60⟩
/-- SearchUs of record 0x0802. -/
def Rec.LingPolicy.SearchUs : Fld := ⟨0x0802, 48, 16, 500⟩
/-- UnreachMisses of record 0x0802. -/
def Rec.LingPolicy.UnreachMisses : Fld := ⟨0x0802, 64, 8, 8⟩
/-- LingSynthMax of record 0x0802. -/
def Rec.LingPolicy.LingSynthMax : Fld := ⟨0x0802, 72, 8, 32⟩
/-- UnreachIntervalS of record 0x0802. -/
def Rec.LingPolicy.UnreachIntervalS : Fld := ⟨0x0802, 80, 32, 3600⟩
/-- GapMs of record 0x0802. -/
def Rec.LingPolicy.GapMs : Fld := ⟨0x0802, 112, 8, 5⟩
/-- The field map of record 0x0802. -/
def Schema.LingPolicy : Schema := ⟨0x0802, 32, 1,
    [⟨0, 16, true, [(-50, 300)], .nearest, some 110⟩,
    ⟨16, 16, true, [(-200, 100)], .nearest, some 65456⟩,
    ⟨32, 16, false, [(0, 200)], .nearest, some 60⟩,
    ⟨48, 16, false, [(100, 2000)], .nearest, some 500⟩,
    ⟨64, 8, false, [(1, 32)], .nearest, some 8⟩,
    ⟨72, 8, false, [(1, 64)], .nearest, some 32⟩,
    ⟨80, 32, false, [(60, 86400)], .nearest, some 3600⟩,
    ⟨112, 8, false, [(1, 100)], .nearest, some 5⟩,
    rsv (120) 136]⟩

/-! ### Record 0x0900 MeterSec (Table 11-11, spec/11_frame_security.md) -/

/-- Assigned of record 0x0900. -/
def Rec.MeterSec.Assigned : Fld := ⟨0x0900, 0, 1, 0⟩
/-- Suspended of record 0x0900. -/
def Rec.MeterSec.Suspended : Fld := ⟨0x0900, 1, 1, 0⟩
/-- KeyMode of record 0x0900. -/
def Rec.MeterSec.KeyMode : Fld := ⟨0x0900, 2, 1, 0⟩
/-- KeyBits of record 0x0900. -/
def Rec.MeterSec.KeyBits : Fld := ⟨0x0900, 3, 1, 0⟩
/-- ProfileMask of record 0x0900. -/
def Rec.MeterSec.ProfileMask : Fld := ⟨0x0900, 8, 4, 1⟩
/-- Class of record 0x0900. -/
def Rec.MeterSec.Class : Fld := ⟨0x0900, 16, 8, 0⟩
/-- Address of record 0x0900. -/
def Rec.MeterSec.Address : Fld := ⟨0x0900, 64, 64, 0⟩
/-- The field map of record 0x0900. -/
def Schema.MeterSec : Schema := ⟨0x0900, 32, 1048576,
    [⟨0, 1, false, [(0, 0), (1, 1)], .none, some 0⟩,
    ⟨1, 1, false, [(0, 0), (1, 1)], .none, some 0⟩,
    ⟨2, 1, false, [(0, 0), (1, 1)], .none, some 0⟩,
    ⟨3, 1, false, [(0, 0), (1, 1)], .none, some 0⟩,
    rsv (4) 4,
    ⟨8, 4, false, [(1, 15)], .nearest, some 1⟩,
    rsv (12) 4,
    ⟨16, 8, false, [(0, 255)], .none, some 0⟩,
    rsv (24) 40,
    ⟨64, 64, false, [], .none, some 0⟩,
    rsv (128) 128]⟩

/-! ### Record 0x0902 SecPolicy (Table 11-12, spec/11_frame_security.md) -/

/-- QuarantineCap of record 0x0902. -/
def Rec.SecPolicy.QuarantineCap : Fld := ⟨0x0902, 0, 32, 4096⟩
/-- UnknownEventPerS of record 0x0902. -/
def Rec.SecPolicy.UnknownEventPerS : Fld := ⟨0x0902, 32, 16, 1⟩
/-- The field map of record 0x0902. -/
def Schema.SecPolicy : Schema := ⟨0x0902, 16, 16,
    [⟨0, 32, false, [(0, 1048576)], .nearest, some 4096⟩,
    ⟨32, 16, false, [(0, 1000)], .nearest, some 1⟩,
    rsv (48) 80]⟩

/-! ### Record 0x0A00 VaultPolicy (Table 12-10, spec/12_key_vault.md) -/

/-- TamperEraseMask of record 0x0A00. -/
def Rec.VaultPolicy.TamperEraseMask : Fld := ⟨0x0A00, 0, 17, 0⟩
/-- The field map of record 0x0A00. -/
def Schema.VaultPolicy : Schema := ⟨0x0A00, 16, 1,
    [⟨0, 17, false, [(0, 131071)], .none, some 0⟩,
    rsv (17) 15,
    rsv (32) 96]⟩

/-! ### Record 0x0B00 LedgerClass (Table 13-7, spec/13_ledger.md) -/

/-- Obis of record 0x0B00. -/
def Rec.LedgerClass.Obis (q : Nat) : Fld := ⟨0x0B00, 128 * q, 48, 0⟩
/-- RegBits of record 0x0B00. -/
def Rec.LedgerClass.RegBits (q : Nat) : Fld := ⟨0x0B00, 48 + 128 * q, 7, 32⟩
/-- ModeImport of record 0x0B00. -/
def Rec.LedgerClass.ModeImport (q : Nat) : Fld := ⟨0x0B00, 56 + 128 * q, 2, 0⟩
/-- ModeExport of record 0x0B00. -/
def Rec.LedgerClass.ModeExport (q : Nat) : Fld := ⟨0x0B00, 58 + 128 * q, 2, 0⟩
/-- ScaleMilli of record 0x0B00. -/
def Rec.LedgerClass.ScaleMilli (q : Nat) : Fld := ⟨0x0B00, 64 + 128 * q, 32, 1000⟩
/-- RsValid of record 0x0B00. -/
def Rec.LedgerClass.RsValid (s : Nat) : Fld := ⟨0x0B00, 512 + 8 * s, 1, 0⟩
/-- RsQ of record 0x0B00. -/
def Rec.LedgerClass.RsQ (s : Nat) : Fld := ⟨0x0B00, 513 + 8 * s, 2, 0⟩
/-- RsD of record 0x0B00. -/
def Rec.LedgerClass.RsD (s : Nat) : Fld := ⟨0x0B00, 515 + 8 * s, 1, 0⟩
/-- TolerancePermille of record 0x0B00. -/
def Rec.LedgerClass.TolerancePermille : Fld := ⟨0x0B00, 528, 16, 5⟩
/-- ToleranceAbsMilli of record 0x0B00. -/
def Rec.LedgerClass.ToleranceAbsMilli : Fld := ⟨0x0B00, 544, 32, 1000⟩
/-- MaxDelta of record 0x0B00. -/
def Rec.LedgerClass.MaxDelta : Fld := ⟨0x0B00, 576, 64, 0⟩
/-- ReconcileLagS of record 0x0B00. -/
def Rec.LedgerClass.ReconcileLagS : Fld := ⟨0x0B00, 640, 32, 1800⟩
/-- MapDif of record 0x0B00. -/
def Rec.LedgerClass.MapDif (i : Nat) : Fld := ⟨0x0B00, 768 + 40 * i, 8, 0⟩
/-- MapDifMask of record 0x0B00. -/
def Rec.LedgerClass.MapDifMask (i : Nat) : Fld := ⟨0x0B00, 776 + 40 * i, 8, 0⟩
/-- MapDife of record 0x0B00. -/
def Rec.LedgerClass.MapDife (i : Nat) : Fld := ⟨0x0B00, 784 + 40 * i, 8, 0⟩
/-- MapVif of record 0x0B00. -/
def Rec.LedgerClass.MapVif (i : Nat) : Fld := ⟨0x0B00, 792 + 40 * i, 8, 0⟩
/-- MapRate of record 0x0B00. -/
def Rec.LedgerClass.MapRate (i : Nat) : Fld := ⟨0x0B00, 800 + 40 * i, 4, 0⟩
/-- MapD of record 0x0B00. -/
def Rec.LedgerClass.MapD (i : Nat) : Fld := ⟨0x0B00, 804 + 40 * i, 1, 0⟩
/-- MapQ of record 0x0B00. -/
def Rec.LedgerClass.MapQ (i : Nat) : Fld := ⟨0x0B00, 805 + 40 * i, 2, 0⟩
/-- MapValid of record 0x0B00. -/
def Rec.LedgerClass.MapValid (i : Nat) : Fld := ⟨0x0B00, 807 + 40 * i, 1, 0⟩
/-- The field map of record 0x0B00. -/
def Schema.LedgerClass : Schema := ⟨0x0B00, 176, 256,
    ((List.range 4).flatMap fun q => [⟨128 * q, 48, false, [], .none, some 0⟩,
      ⟨48 + 128 * q, 7, false, [(8, 64)], .nearest, some 32⟩,
      rsv (55 + 128 * q) 1,
      ⟨56 + 128 * q, 2, false, [(0, 3)], .none, some 0⟩,
      ⟨58 + 128 * q, 2, false, [(0, 3)], .none, some 0⟩,
      rsv (60 + 128 * q) 4,
      ⟨64 + 128 * q, 32, false, [(1, 1000000000)], .nearest, some 1000⟩,
      rsv (96 + 128 * q) 32]) ++
    ((List.range 2).flatMap fun s => [⟨512 + 8 * s, 1, false, [(0, 0), (1, 1)], .none, some 0⟩,
      ⟨513 + 8 * s, 2, false, [(0, 3)], .none, some 0⟩,
      ⟨515 + 8 * s, 1, false, [(0, 0), (1, 1)], .none, some 0⟩,
      rsv (516 + 8 * s) 4]) ++
    [⟨528, 16, false, [(0, 1000)], .nearest, some 5⟩,
    ⟨544, 32, false, [(0, 1000000000)], .nearest, some 1000⟩,
    ⟨576, 64, false, [], .none, some 0⟩,
    ⟨640, 32, false, [(60, 86400)], .nearest, some 1800⟩,
    rsv (672) 96] ++
    ((List.range 16).flatMap fun i => [⟨768 + 40 * i, 8, false, [], .none, some 0⟩,
      ⟨776 + 40 * i, 8, false, [], .none, some 0⟩,
      ⟨784 + 40 * i, 8, false, [], .none, some 0⟩,
      ⟨792 + 40 * i, 8, false, [], .none, some 0⟩,
      ⟨800 + 40 * i, 4, false, [(0, 8)], .nearest, some 0⟩,
      ⟨804 + 40 * i, 1, false, [(0, 0), (1, 1)], .none, some 0⟩,
      ⟨805 + 40 * i, 2, false, [(0, 3)], .none, some 0⟩,
      ⟨807 + 40 * i, 1, false, [(0, 0), (1, 1)], .none, some 0⟩])⟩

/-! ### Record 0x0B01 LedgerMeter (Table 13-8, spec/13_ledger.md) -/

/-- Plan of record 0x0B01. -/
def Rec.LedgerMeter.Plan : Fld := ⟨0x0B01, 0, 8, 0⟩
/-- LedgerClass of record 0x0B01. -/
def Rec.LedgerMeter.LedgerClass : Fld := ⟨0x0B01, 8, 8, 0⟩
/-- Zone of record 0x0B01. -/
def Rec.LedgerMeter.Zone : Fld := ⟨0x0B01, 16, 12, 0⟩
/-- ZoneAssigned of record 0x0B01. -/
def Rec.LedgerMeter.ZoneAssigned : Fld := ⟨0x0B01, 28, 1, 0⟩
/-- The field map of record 0x0B01. -/
def Schema.LedgerMeter : Schema := ⟨0x0B01, 16, 1048576,
    [⟨0, 8, false, [(0, 255)], .none, some 0⟩,
    ⟨8, 8, false, [(0, 255)], .none, some 0⟩,
    ⟨16, 12, false, [(0, 4095)], .none, some 0⟩,
    ⟨28, 1, false, [(0, 0), (1, 1)], .none, some 0⟩,
    rsv (29) 3,
    rsv (32) 96]⟩

/-! ### Record 0x0C00 TariffPlan (Table 14-5, spec/14_tariff_calendar.md) -/

/-- Active of record 0x0C00. -/
def Rec.TariffPlan.Active : Fld := ⟨0x0C00, 0, 1, 0⟩
/-- TzRule of record 0x0C00. -/
def Rec.TariffPlan.TzRule : Fld := ⟨0x0C00, 8, 5, 0⟩
/-- DefaultRate of record 0x0C00. -/
def Rec.TariffPlan.DefaultRate : Fld := ⟨0x0C00, 16, 4, 1⟩
/-- EffectiveS of record 0x0C00. -/
def Rec.TariffPlan.EffectiveS : Fld := ⟨0x0C00, 32, 64, 0⟩
/-- SeasonValid of record 0x0C00. -/
def Rec.TariffPlan.SeasonValid (k : Nat) : Fld := ⟨0x0C00, 128 + 32 * k, 1, 0⟩
/-- SeasonMonth of record 0x0C00. -/
def Rec.TariffPlan.SeasonMonth (k : Nat) : Fld := ⟨0x0C00, 129 + 32 * k, 4, 1⟩
/-- SeasonDay of record 0x0C00. -/
def Rec.TariffPlan.SeasonDay (k : Nat) : Fld := ⟨0x0C00, 136 + 32 * k, 5, 1⟩
/-- SeasonWeek of record 0x0C00. -/
def Rec.TariffPlan.SeasonWeek (k : Nat) : Fld := ⟨0x0C00, 141 + 32 * k, 3, 0⟩
/-- WeekDay of record 0x0C00. -/
def Rec.TariffPlan.WeekDay (w : Nat) (j : Nat) : Fld := ⟨0x0C00, 256 + 64 * w + 8 * j, 4, 0⟩
/-- PointMinute of record 0x0C00. -/
def Rec.TariffPlan.PointMinute (p : Nat) (i : Nat) : Fld := ⟨0x0C00, 768 + 192 * p + 16 * i, 11, 0⟩
/-- PointRate of record 0x0C00. -/
def Rec.TariffPlan.PointRate (p : Nat) (i : Nat) : Fld := ⟨0x0C00, 779 + 192 * p + 16 * i, 4, 1⟩
/-- PointValid of record 0x0C00. -/
def Rec.TariffPlan.PointValid (p : Nat) (i : Nat) : Fld := ⟨0x0C00, 783 + 192 * p + 16 * i, 1, 0⟩
/-- SpValid of record 0x0C00. -/
def Rec.TariffPlan.SpValid (x : Nat) : Fld := ⟨0x0C00, 3840 + 32 * x, 1, 0⟩
/-- SpRecurring of record 0x0C00. -/
def Rec.TariffPlan.SpRecurring (x : Nat) : Fld := ⟨0x0C00, 3841 + 32 * x, 1, 0⟩
/-- SpProfile of record 0x0C00. -/
def Rec.TariffPlan.SpProfile (x : Nat) : Fld := ⟨0x0C00, 3844 + 32 * x, 4, 0⟩
/-- SpYear of record 0x0C00. -/
def Rec.TariffPlan.SpYear (x : Nat) : Fld := ⟨0x0C00, 3848 + 32 * x, 8, 0⟩
/-- SpMonth of record 0x0C00. -/
def Rec.TariffPlan.SpMonth (x : Nat) : Fld := ⟨0x0C00, 3856 + 32 * x, 4, 1⟩
/-- SpDay of record 0x0C00. -/
def Rec.TariffPlan.SpDay (x : Nat) : Fld := ⟨0x0C00, 3864 + 32 * x, 5, 1⟩
/-- The field map of record 0x0C00. -/
def Schema.TariffPlan : Schema := ⟨0x0C00, 992, 256,
    [⟨0, 1, false, [(0, 0), (1, 1)], .none, some 0⟩,
    rsv (1) 7,
    ⟨8, 5, false, [(0, 31)], .none, some 0⟩,
    rsv (13) 3,
    ⟨16, 4, false, [(1, 8)], .nearest, some 1⟩,
    rsv (20) 12,
    ⟨32, 64, false, [], .none, none⟩,
    rsv (96) 32] ++
    ((List.range 4).flatMap fun k => [⟨128 + 32 * k, 1, false, [(0, 0), (1, 1)], .none, some 0⟩,
      ⟨129 + 32 * k, 4, false, [(1, 12)], .nearest, some 1⟩,
      rsv (133 + 32 * k) 3,
      ⟨136 + 32 * k, 5, false, [(1, 31)], .nearest, some 1⟩,
      ⟨141 + 32 * k, 3, false, [(0, 7)], .none, some 0⟩,
      rsv (144 + 32 * k) 16]) ++
    ((List.range 8).flatMap fun w => ((List.range 7).flatMap fun j => [⟨256 + 64 * w + 8 * j, 4, false, [(0, 15)], .none, some 0⟩,
      rsv (260 + 64 * w + 8 * j) 4])) ++
    ((List.range 8).flatMap fun w => [rsv (312 + 64 * w) 8]) ++
    ((List.range 16).flatMap fun p => ((List.range 12).flatMap fun i => [⟨768 + 192 * p + 16 * i, 11, false, [(0, 1439)], .nearest, some 0⟩,
      ⟨779 + 192 * p + 16 * i, 4, false, [(1, 8)], .nearest, some 1⟩,
      ⟨783 + 192 * p + 16 * i, 1, false, [(0, 0), (1, 1)], .none, some 0⟩])) ++
    ((List.range 128).flatMap fun x => [⟨3840 + 32 * x, 1, false, [(0, 0), (1, 1)], .none, some 0⟩,
      ⟨3841 + 32 * x, 1, false, [(0, 0), (1, 1)], .none, some 0⟩,
      rsv (3842 + 32 * x) 2,
      ⟨3844 + 32 * x, 4, false, [(0, 15)], .none, some 0⟩,
      ⟨3848 + 32 * x, 8, false, [(0, 255)], .none, some 0⟩,
      ⟨3856 + 32 * x, 4, false, [(1, 12)], .nearest, some 1⟩,
      rsv (3860 + 32 * x) 4,
      ⟨3864 + 32 * x, 5, false, [(1, 31)], .nearest, some 1⟩,
      rsv (3869 + 32 * x) 3])⟩

/-! ### Record 0x0C01 TimeZone (Table 14-6, spec/14_tariff_calendar.md) -/

/-- StdOffsetMin of record 0x0C01. -/
def Rec.TimeZone.StdOffsetMin : Fld := ⟨0x0C01, 0, 16, 0⟩
/-- DstOffsetMin of record 0x0C01. -/
def Rec.TimeZone.DstOffsetMin : Fld := ⟨0x0C01, 16, 8, 60⟩
/-- DstEnabled of record 0x0C01. -/
def Rec.TimeZone.DstEnabled : Fld := ⟨0x0C01, 24, 1, 0⟩
/-- RuleBase of record 0x0C01. -/
def Rec.TimeZone.RuleBase : Fld := ⟨0x0C01, 25, 1, 0⟩
/-- StartMonth of record 0x0C01. -/
def Rec.TimeZone.StartMonth : Fld := ⟨0x0C01, 32, 4, 3⟩
/-- StartWeek of record 0x0C01. -/
def Rec.TimeZone.StartWeek : Fld := ⟨0x0C01, 36, 3, 5⟩
/-- StartWeekday of record 0x0C01. -/
def Rec.TimeZone.StartWeekday : Fld := ⟨0x0C01, 40, 3, 6⟩
/-- StartMinute of record 0x0C01. -/
def Rec.TimeZone.StartMinute : Fld := ⟨0x0C01, 48, 16, 60⟩
/-- EndMonth of record 0x0C01. -/
def Rec.TimeZone.EndMonth : Fld := ⟨0x0C01, 64, 4, 10⟩
/-- EndWeek of record 0x0C01. -/
def Rec.TimeZone.EndWeek : Fld := ⟨0x0C01, 68, 3, 5⟩
/-- EndWeekday of record 0x0C01. -/
def Rec.TimeZone.EndWeekday : Fld := ⟨0x0C01, 72, 3, 6⟩
/-- EndMinute of record 0x0C01. -/
def Rec.TimeZone.EndMinute : Fld := ⟨0x0C01, 80, 16, 60⟩
/-- The field map of record 0x0C01. -/
def Schema.TimeZone : Schema := ⟨0x0C01, 32, 32,
    [⟨0, 16, true, [(-720, 840)], .nearest, some 0⟩,
    ⟨16, 8, false, [(0, 120)], .nearest, some 60⟩,
    ⟨24, 1, false, [(0, 0), (1, 1)], .none, some 0⟩,
    ⟨25, 1, false, [(0, 0), (1, 1)], .none, some 0⟩,
    rsv (26) 6,
    ⟨32, 4, false, [(1, 12)], .nearest, some 3⟩,
    ⟨36, 3, false, [(1, 5)], .nearest, some 5⟩,
    rsv (39) 1,
    ⟨40, 3, false, [(0, 6)], .nearest, some 6⟩,
    rsv (43) 5,
    ⟨48, 16, false, [(0, 1439)], .nearest, some 60⟩,
    ⟨64, 4, false, [(1, 12)], .nearest, some 10⟩,
    ⟨68, 3, false, [(1, 5)], .nearest, some 5⟩,
    rsv (71) 1,
    ⟨72, 3, false, [(0, 6)], .nearest, some 6⟩,
    rsv (75) 5,
    ⟨80, 16, false, [(0, 1439)], .nearest, some 60⟩,
    rsv (96) 160]⟩

/-! ### Record 0x0C02 ProfileClass (Table 14-7, spec/14_tariff_calendar.md) -/

/-- PeriodCode of record 0x0C02. -/
def Rec.ProfileClass.PeriodCode : Fld := ⟨0x0C02, 0, 3, 3⟩
/-- ArchiveMask of record 0x0C02. -/
def Rec.ProfileClass.ArchiveMask : Fld := ⟨0x0C02, 8, 8, 1⟩
/-- ClockSplitS of record 0x0C02. -/
def Rec.ProfileClass.ClockSplitS : Fld := ⟨0x0C02, 16, 16, 10⟩
/-- ArchiveDays of record 0x0C02. -/
def Rec.ProfileClass.ArchiveDays : Fld := ⟨0x0C02, 32, 16, 1096⟩
/-- The field map of record 0x0C02. -/
def Schema.ProfileClass : Schema := ⟨0x0C02, 16, 256,
    [⟨0, 3, false, [(0, 5)], .nearest, some 3⟩,
    rsv (3) 5,
    ⟨8, 8, false, [], .none, some 1⟩,
    ⟨16, 16, false, [(1, 600)], .nearest, some 10⟩,
    ⟨32, 16, false, [(1, 3660)], .nearest, some 1096⟩,
    rsv (48) 80]⟩

/-! ### Record 0x0D00 PrepayClass (Table 15-12, spec/15_prepay_tamper.md) -/

/-- CreditStepMilli of record 0x0D00. -/
def Rec.PrepayClass.CreditStepMilli : Fld := ⟨0x0D00, 0, 32, 10⟩
/-- DeliverAttempts of record 0x0D00. -/
def Rec.PrepayClass.DeliverAttempts : Fld := ⟨0x0D00, 32, 8, 8⟩
/-- TamperEventMask of record 0x0D00. -/
def Rec.PrepayClass.TamperEventMask : Fld := ⟨0x0D00, 40, 8, 255⟩
/-- TokenLogDays of record 0x0D00. -/
def Rec.PrepayClass.TokenLogDays : Fld := ⟨0x0D00, 48, 16, 400⟩
/-- MaxTokenMilli of record 0x0D00. -/
def Rec.PrepayClass.MaxTokenMilli : Fld := ⟨0x0D00, 64, 64, 1000000000⟩
/-- CreditSlackMilli of record 0x0D00. -/
def Rec.PrepayClass.CreditSlackMilli : Fld := ⟨0x0D00, 128, 64, 0⟩
/-- The field map of record 0x0D00. -/
def Schema.PrepayClass : Schema := ⟨0x0D00, 32, 256,
    [⟨0, 32, false, [(1, 1000000)], .nearest, some 10⟩,
    ⟨32, 8, false, [(1, 32)], .nearest, some 8⟩,
    ⟨40, 8, false, [], .none, some 255⟩,
    ⟨48, 16, false, [(30, 3660)], .nearest, some 400⟩,
    ⟨64, 64, false, [(1, 4611686018427387904)], .nearest, some 1000000000⟩,
    ⟨128, 64, false, [(0, 4611686018427387904)], .nearest, some 0⟩,
    rsv (192) 64]⟩

/-! ### Record 0x0D01 PrepayMeter (Table 15-13, spec/15_prepay_tamper.md) -/

/-- Enabled of record 0x0D01. -/
def Rec.PrepayMeter.Enabled : Fld := ⟨0x0D01, 0, 1, 0⟩
/-- Class of record 0x0D01. -/
def Rec.PrepayMeter.Class : Fld := ⟨0x0D01, 8, 8, 0⟩
/-- OpeningBalanceMilli of record 0x0D01. -/
def Rec.PrepayMeter.OpeningBalanceMilli : Fld := ⟨0x0D01, 64, 64, 0⟩
/-- The field map of record 0x0D01. -/
def Schema.PrepayMeter : Schema := ⟨0x0D01, 32, 1048576,
    [⟨0, 1, false, [(0, 0), (1, 1)], .none, some 0⟩,
    rsv (1) 7,
    ⟨8, 8, false, [(0, 255)], .none, some 0⟩,
    rsv (16) 48,
    ⟨64, 64, true, [], .none, some 0⟩,
    rsv (128) 128]⟩

/-! ### Record 0x0E00 MetroTrib (Table 16-6, spec/16_line_metrology.md) -/

/-- Active of record 0x0E00. -/
def Rec.MetroTrib.Active : Fld := ⟨0x0E00, 0, 1, 0⟩
/-- NominalHz of record 0x0E00. -/
def Rec.MetroTrib.NominalHz : Fld := ⟨0x0E00, 1, 1, 0⟩
/-- ZcRef of record 0x0E00. -/
def Rec.MetroTrib.ZcRef : Fld := ⟨0x0E00, 2, 2, 0⟩
/-- PhaseOrder of record 0x0E00. -/
def Rec.MetroTrib.PhaseOrder : Fld := ⟨0x0E00, 4, 1, 0⟩
/-- ZoneAssigned of record 0x0E00. -/
def Rec.MetroTrib.ZoneAssigned : Fld := ⟨0x0E00, 5, 1, 0⟩
/-- Zone of record 0x0E00. -/
def Rec.MetroTrib.Zone : Fld := ⟨0x0E00, 8, 12, 0⟩
/-- IInvert of record 0x0E00. -/
def Rec.MetroTrib.IInvert : Fld := ⟨0x0E00, 24, 4, 0⟩
/-- ZcTimeoutMs of record 0x0E00. -/
def Rec.MetroTrib.ZcTimeoutMs : Fld := ⟨0x0E00, 32, 16, 60⟩
/-- ZcHystMv of record 0x0E00. -/
def Rec.MetroTrib.ZcHystMv : Fld := ⟨0x0E00, 48, 16, 5000⟩
/-- VFullScaleMv of record 0x0E00. -/
def Rec.MetroTrib.VFullScaleMv (c : Nat) : Fld := ⟨0x0E00, 64 + 32 * c, 32, 650000⟩
/-- IFullScaleMa of record 0x0E00. -/
def Rec.MetroTrib.IFullScaleMa (c : Nat) : Fld := ⟨0x0E00, 192 + 32 * c, 32, 1000000⟩
/-- GainPpm of record 0x0E00. -/
def Rec.MetroTrib.GainPpm (n : Nat) : Fld := ⟨0x0E00, 320 + 16 * n, 16, 0⟩
/-- PhaseCorrNs of record 0x0E00. -/
def Rec.MetroTrib.PhaseCorrNs (c : Nat) : Fld := ⟨0x0E00, 448 + 16 * c, 16, 0⟩
/-- The field map of record 0x0E00. -/
def Schema.MetroTrib : Schema := ⟨0x0E00, 80, 4096,
    [⟨0, 1, false, [(0, 0), (1, 1)], .none, some 0⟩,
    ⟨1, 1, false, [(0, 0), (1, 1)], .none, some 0⟩,
    ⟨2, 2, false, [(0, 2)], .nearest, some 0⟩,
    ⟨4, 1, false, [(0, 0), (1, 1)], .none, some 0⟩,
    ⟨5, 1, false, [(0, 0), (1, 1)], .none, some 0⟩,
    rsv (6) 2,
    ⟨8, 12, false, [(0, 4095)], .none, some 0⟩,
    rsv (20) 4,
    ⟨24, 4, false, [], .none, some 0⟩,
    rsv (28) 4,
    ⟨32, 16, false, [(20, 500)], .nearest, some 60⟩,
    ⟨48, 16, false, [(100, 50000)], .nearest, some 5000⟩] ++
    ((List.range 4).flatMap fun c => [⟨64 + 32 * c, 32, false, [(1000, 2000000)], .nearest, some 650000⟩]) ++
    ((List.range 4).flatMap fun c => [⟨192 + 32 * c, 32, false, [(1, 100000000)], .nearest, some 1000000⟩]) ++
    ((List.range 8).flatMap fun n => [⟨320 + 16 * n, 16, true, [(-20000, 20000)], .nearest, some 0⟩]) ++
    ((List.range 4).flatMap fun c => [⟨448 + 16 * c, 16, true, [(-30000, 30000)], .nearest, some 0⟩]) ++
    [rsv (512) 128]⟩

/-! ### Record 0x0E01 PulseOutput (Table 16-7, spec/16_line_metrology.md) -/

/-- Enabled of record 0x0E01. -/
def Rec.PulseOutput.Enabled : Fld := ⟨0x0E01, 0, 1, 0⟩
/-- ActiveHigh of record 0x0E01. -/
def Rec.PulseOutput.ActiveHigh : Fld := ⟨0x0E01, 1, 1, 1⟩
/-- Source of record 0x0E01. -/
def Rec.PulseOutput.Source : Fld := ⟨0x0E01, 4, 3, 0⟩
/-- PhaseMask of record 0x0E01. -/
def Rec.PulseOutput.PhaseMask : Fld := ⟨0x0E01, 8, 3, 7⟩
/-- Tributary of record 0x0E01. -/
def Rec.PulseOutput.Tributary : Fld := ⟨0x0E01, 16, 12, 0⟩
/-- WidthMs of record 0x0E01. -/
def Rec.PulseOutput.WidthMs : Fld := ⟨0x0E01, 32, 16, 50⟩
/-- ThresholdMilli of record 0x0E01. -/
def Rec.PulseOutput.ThresholdMilli : Fld := ⟨0x0E01, 64, 64, 1000000⟩
/-- BacklogWarn of record 0x0E01. -/
def Rec.PulseOutput.BacklogWarn : Fld := ⟨0x0E01, 128, 32, 1000⟩
/-- The field map of record 0x0E01. -/
def Schema.PulseOutput : Schema := ⟨0x0E01, 32, 8,
    [⟨0, 1, false, [(0, 0), (1, 1)], .none, some 0⟩,
    ⟨1, 1, false, [(0, 0), (1, 1)], .none, some 1⟩,
    rsv (2) 2,
    ⟨4, 3, false, [(0, 4)], .reject, some 0⟩,
    rsv (7) 1,
    ⟨8, 3, false, [(1, 7)], .nearest, some 7⟩,
    rsv (11) 5,
    ⟨16, 12, false, [(0, 4095)], .none, some 0⟩,
    rsv (28) 4,
    ⟨32, 16, false, [(1, 250)], .nearest, some 50⟩,
    rsv (48) 16,
    ⟨64, 64, false, [(1, 281474976710656)], .nearest, some 1000000⟩,
    ⟨128, 32, false, [(1, 4000000000)], .nearest, some 1000⟩,
    rsv (160) 96]⟩

/-! ### Record 0x0F00 Zone (Table 17-5, spec/17_loss_theft.md) -/

/-- Active of record 0x0F00. -/
def Rec.Zone.Active : Fld := ⟨0x0F00, 0, 1, 0⟩
/-- DetectN of record 0x0F00. -/
def Rec.Zone.DetectN : Fld := ⟨0x0F00, 8, 8, 16⟩
/-- DetectM of record 0x0F00. -/
def Rec.Zone.DetectM : Fld := ⟨0x0F00, 16, 8, 96⟩
/-- ClearN of record 0x0F00. -/
def Rec.Zone.ClearN : Fld := ⟨0x0F00, 24, 8, 4⟩
/-- HoldS of record 0x0F00. -/
def Rec.Zone.HoldS : Fld := ⟨0x0F00, 32, 32, 86400⟩
/-- FixedMw of record 0x0F00. -/
def Rec.Zone.FixedMw : Fld := ⟨0x0F00, 64, 32, 0⟩
/-- PhaseResMicroOhm of record 0x0F00. -/
def Rec.Zone.PhaseResMicroOhm : Fld := ⟨0x0F00, 96, 32, 0⟩
/-- NeutralResMicroOhm of record 0x0F00. -/
def Rec.Zone.NeutralResMicroOhm : Fld := ⟨0x0F00, 128, 32, 0⟩
/-- PropPpm of record 0x0F00. -/
def Rec.Zone.PropPpm : Fld := ⟨0x0F00, 160, 32, 0⟩
/-- ThresholdAbsMilli of record 0x0F00. -/
def Rec.Zone.ThresholdAbsMilli : Fld := ⟨0x0F00, 192, 32, 500000⟩
/-- ThresholdPermille of record 0x0F00. -/
def Rec.Zone.ThresholdPermille : Fld := ⟨0x0F00, 224, 16, 20⟩
/-- AccPermille of record 0x0F00. -/
def Rec.Zone.AccPermille : Fld := ⟨0x0F00, 240, 16, 5⟩
/-- MaxMissingPermille of record 0x0F00. -/
def Rec.Zone.MaxMissingPermille : Fld := ⟨0x0F00, 256, 16, 50⟩
/-- FeederGapPermille of record 0x0F00. -/
def Rec.Zone.FeederGapPermille : Fld := ⟨0x0F00, 272, 16, 1⟩
/-- NewMeterTypMilli of record 0x0F00. -/
def Rec.Zone.NewMeterTypMilli : Fld := ⟨0x0F00, 288, 32, 250000⟩
/-- The field map of record 0x0F00. -/
def Schema.Zone : Schema := ⟨0x0F00, 64, 4096,
    [⟨0, 1, false, [(0, 0), (1, 1)], .none, some 0⟩,
    rsv (1) 7,
    ⟨8, 8, false, [(1, 192)], .nearest, some 16⟩,
    ⟨16, 8, false, [(1, 192)], .nearest, some 96⟩,
    ⟨24, 8, false, [(0, 191)], .nearest, some 4⟩,
    ⟨32, 32, false, [(900, 604800)], .nearest, some 86400⟩,
    ⟨64, 32, false, [(0, 100000000)], .nearest, some 0⟩,
    ⟨96, 32, false, [(0, 1000000)], .nearest, some 0⟩,
    ⟨128, 32, false, [(0, 1000000)], .nearest, some 0⟩,
    ⟨160, 32, false, [(0, 200000)], .nearest, some 0⟩,
    ⟨192, 32, false, [(0, 4000000000)], .nearest, some 500000⟩,
    ⟨224, 16, false, [(0, 1000)], .nearest, some 20⟩,
    ⟨240, 16, false, [(0, 100)], .nearest, some 5⟩,
    ⟨256, 16, false, [(0, 1000)], .nearest, some 50⟩,
    ⟨272, 16, false, [(0, 100)], .nearest, some 1⟩,
    ⟨288, 32, false, [(0, 4000000000)], .nearest, some 250000⟩,
    rsv (320) 192]⟩

/-! ### Record 0x0F01 BalMeter (Table 17-7, spec/17_loss_theft.md) -/

/-- PhaseMode of record 0x0F01. -/
def Rec.BalMeter.PhaseMode : Fld := ⟨0x0F01, 0, 3, 0⟩
/-- The field map of record 0x0F01. -/
def Schema.BalMeter : Schema := ⟨0x0F01, 16, 1048576,
    [⟨0, 3, false, [(0, 4)], .nearest, some 0⟩,
    rsv (3) 5,
    rsv (8) 120]⟩

/-! ### Record 0x0F02 BalPolicy (Table 17-8, spec/17_loss_theft.md) -/

/-- PhaseWinUs of record 0x0F02. -/
def Rec.BalPolicy.PhaseWinUs : Fld := ⟨0x0F02, 0, 16, 1000⟩
/-- PhaseMinObs of record 0x0F02. -/
def Rec.BalPolicy.PhaseMinObs : Fld := ⟨0x0F02, 16, 8, 8⟩
/-- PhaseAgreePermille of record 0x0F02. -/
def Rec.BalPolicy.PhaseAgreePermille : Fld := ⟨0x0F02, 32, 16, 875⟩
/-- The field map of record 0x0F02. -/
def Schema.BalPolicy : Schema := ⟨0x0F02, 16, 1,
    [⟨0, 16, false, [(100, 3000)], .nearest, some 1000⟩,
    ⟨16, 8, false, [(2, 16)], .nearest, some 8⟩,
    rsv (24) 8,
    ⟨32, 16, false, [(500, 1000)], .nearest, some 875⟩,
    rsv (48) 80]⟩

/-! ### Record 0x1000 Partition (Table 18-9, spec/18_store.md) -/

/-- SystemGiB of record 0x1000. -/
def Rec.Partition.SystemGiB : Fld := ⟨0x1000, 0, 32, 64⟩
/-- JournalGiB of record 0x1000. -/
def Rec.Partition.JournalGiB : Fld := ⟨0x1000, 32, 32, 128⟩
/-- CaptureGiB of record 0x1000. -/
def Rec.Partition.CaptureGiB : Fld := ⟨0x1000, 64, 32, 1024⟩
/-- OverProvisionPermille of record 0x1000. -/
def Rec.Partition.OverProvisionPermille : Fld := ⟨0x1000, 96, 16, 100⟩
/-- SpareReservePermille of record 0x1000. -/
def Rec.Partition.SpareReservePermille : Fld := ⟨0x1000, 112, 16, 30⟩
/-- NsGiB of record 0x1000. -/
def Rec.Partition.NsGiB (t : Nat) : Fld := ⟨0x1000, 128 + 64 * t, 32, (if t = 0 then 1024 else 0)⟩
/-- AuditDays of record 0x1000. -/
def Rec.Partition.AuditDays (t : Nat) : Fld := ⟨0x1000, 160 + 64 * t, 16, 400⟩
/-- MeterKRecords of record 0x1000. -/
def Rec.Partition.MeterKRecords (t : Nat) : Fld := ⟨0x1000, 176 + 64 * t, 16, 0⟩
/-- The field map of record 0x1000. -/
def Schema.Partition : Schema := ⟨0x1000, 160, 1,
    [⟨0, 32, false, [(16, 1024)], .nearest, some 64⟩,
    ⟨32, 32, false, [(16, 4096)], .nearest, some 128⟩,
    ⟨64, 32, false, [(0, 65536)], .nearest, some 1024⟩,
    ⟨96, 16, false, [(70, 500)], .nearest, some 100⟩,
    ⟨112, 16, false, [(20, 200)], .nearest, some 30⟩] ++
    ((List.range 16).flatMap fun t => [⟨128 + 64 * t, 32, false, [(0, 65536)], .nearest, some (if t = 0 then 1024 else 0)⟩,
      ⟨160 + 64 * t, 16, false, [(1, 3660)], .nearest, some 400⟩,
      ⟨176 + 64 * t, 16, false, [(0, 1024)], .nearest, some 0⟩]) ++
    [rsv (1152) 128]⟩

/-! ### Record 0x1001 StorePolicy (Table 18-10, spec/18_store.md) -/

/-- CheckpointIntervalS of record 0x1001. -/
def Rec.StorePolicy.CheckpointIntervalS : Fld := ⟨0x1001, 0, 16, 300⟩
/-- JournalForcePermille of record 0x1001. -/
def Rec.StorePolicy.JournalForcePermille : Fld := ⟨0x1001, 16, 16, 100⟩
/-- WearDelta of record 0x1001. -/
def Rec.StorePolicy.WearDelta : Fld := ⟨0x1001, 32, 16, 500⟩
/-- WearWarnPermille of record 0x1001. -/
def Rec.StorePolicy.WearWarnPermille : Fld := ⟨0x1001, 48, 16, 800⟩
/-- ScrubHours of record 0x1001. -/
def Rec.StorePolicy.ScrubHours : Fld := ⟨0x1001, 64, 8, 24⟩
/-- The field map of record 0x1001. -/
def Schema.StorePolicy : Schema := ⟨0x1001, 16, 1,
    [⟨0, 16, false, [(60, 3600)], .nearest, some 300⟩,
    ⟨16, 16, false, [(50, 500)], .nearest, some 100⟩,
    ⟨32, 16, false, [(50, 5000)], .nearest, some 500⟩,
    ⟨48, 16, false, [(500, 990)], .nearest, some 800⟩,
    ⟨64, 8, false, [(1, 168)], .nearest, some 24⟩,
    rsv (72) 56]⟩

/-! ### Record 0x1100 TimeRef (Table 19-3, spec/19_time.md) -/

/-- Kind of record 0x1100. -/
def Rec.TimeRef.Kind : Fld := ⟨0x1100, 0, 2, 0⟩
/-- Priority of record 0x1100. -/
def Rec.TimeRef.Priority : Fld := ⟨0x1100, 2, 3, 7⟩
/-- Port of record 0x1100. -/
def Rec.TimeRef.Port : Fld := ⟨0x1100, 8, 3, 0⟩
/-- PtpDomain of record 0x1100. -/
def Rec.TimeRef.PtpDomain : Fld := ⟨0x1100, 16, 8, 0⟩
/-- PollLog2 of record 0x1100. -/
def Rec.TimeRef.PollLog2 : Fld := ⟨0x1100, 24, 8, 4⟩
/-- AsymmetryNs of record 0x1100. -/
def Rec.TimeRef.AsymmetryNs : Fld := ⟨0x1100, 32, 32, 0⟩
/-- Address of record 0x1100. -/
def Rec.TimeRef.Address : Fld := ⟨0x1100, 64, 128, 0⟩
/-- The field map of record 0x1100. -/
def Schema.TimeRef : Schema := ⟨0x1100, 32, 8,
    [⟨0, 2, false, [(0, 3)], .none, some 0⟩,
    ⟨2, 3, false, [(0, 7)], .nearest, some 7⟩,
    rsv (5) 3,
    ⟨8, 3, false, [(0, 7)], .none, some 0⟩,
    rsv (11) 5,
    ⟨16, 8, false, [(0, 255)], .none, some 0⟩,
    ⟨24, 8, true, [(-7, 10)], .nearest, some 4⟩,
    ⟨32, 32, true, [(-1000000, 1000000)], .nearest, some 0⟩,
    ⟨64, 128, false, [], .none, some 0⟩,
    rsv (192) 64]⟩

/-! ### Record 0x1101 TimePolicy (Table 19-4, spec/19_time.md) -/

/-- StepThresholdMs of record 0x1101. -/
def Rec.TimePolicy.StepThresholdMs : Fld := ⟨0x1101, 0, 16, 128⟩
/-- MaxSlewPpm of record 0x1101. -/
def Rec.TimePolicy.MaxSlewPpm : Fld := ⟨0x1101, 16, 16, 500⟩
/-- TauS of record 0x1101. -/
def Rec.TimePolicy.TauS : Fld := ⟨0x1101, 32, 16, 16⟩
/-- LockUs of record 0x1101. -/
def Rec.TimePolicy.LockUs : Fld := ⟨0x1101, 64, 32, 100⟩
/-- HoldoverS of record 0x1101. -/
def Rec.TimePolicy.HoldoverS : Fld := ⟨0x1101, 96, 32, 86400⟩
/-- MaxOffsetS of record 0x1101. -/
def Rec.TimePolicy.MaxOffsetS : Fld := ⟨0x1101, 128, 32, 1000⟩
/-- The field map of record 0x1101. -/
def Schema.TimePolicy : Schema := ⟨0x1101, 32, 1,
    [⟨0, 16, false, [(1, 10000)], .nearest, some 128⟩,
    ⟨16, 16, false, [(10, 1000)], .nearest, some 500⟩,
    ⟨32, 16, false, [(4, 1024)], .nearest, some 16⟩,
    rsv (48) 16,
    ⟨64, 32, false, [(1, 1000000)], .nearest, some 100⟩,
    ⟨96, 32, false, [(60, 604800)], .nearest, some 86400⟩,
    ⟨128, 32, false, [(1, 31536000)], .nearest, some 1000⟩,
    rsv (160) 96]⟩

/-! ### Record 0x1200 EventRouting (Table 20-8, spec/20_events_barrow.md) -/

/-- ChannelMask of record 0x1200. -/
def Rec.EventRouting.ChannelMask : Fld := ⟨0x1200, 0, 32, 4294967295⟩
/-- RatePerS of record 0x1200. -/
def Rec.EventRouting.RatePerS : Fld := ⟨0x1200, 32, 16, 100⟩
/-- Export of record 0x1200. -/
def Rec.EventRouting.Export : Fld := ⟨0x1200, 48, 1, 0⟩
/-- The field map of record 0x1200. -/
def Schema.EventRouting : Schema := ⟨0x1200, 16, 512,
    [⟨0, 32, false, [], .none, some 4294967295⟩,
    ⟨32, 16, false, [(1, 10000)], .nearest, some 100⟩,
    ⟨48, 1, false, [(0, 0), (1, 1)], .none, some 0⟩,
    rsv (49) 7,
    rsv (56) 72]⟩

/-! ### Record 0x1201 Trigger (Table 20-10, spec/20_events_barrow.md) -/

/-- Enable of record 0x1201. -/
def Rec.Trigger.Enable : Fld := ⟨0x1201, 0, 1, 0⟩
/-- Protect of record 0x1201. -/
def Rec.Trigger.Protect : Fld := ⟨0x1201, 1, 1, 0⟩
/-- Source of record 0x1201. -/
def Rec.Trigger.Source : Fld := ⟨0x1201, 8, 9, 0⟩
/-- SourceMask of record 0x1201. -/
def Rec.Trigger.SourceMask : Fld := ⟨0x1201, 24, 9, 511⟩
/-- TenantFilter of record 0x1201. -/
def Rec.Trigger.TenantFilter : Fld := ⟨0x1201, 40, 5, 16⟩
/-- PayloadField of record 0x1201. -/
def Rec.Trigger.PayloadField : Fld := ⟨0x1201, 48, 8, 0⟩
/-- Op of record 0x1201. -/
def Rec.Trigger.Op : Fld := ⟨0x1201, 56, 3, 0⟩
/-- Value of record 0x1201. -/
def Rec.Trigger.Value : Fld := ⟨0x1201, 64, 64, 0⟩
/-- CountN of record 0x1201. -/
def Rec.Trigger.CountN : Fld := ⟨0x1201, 128, 16, 1⟩
/-- WindowMs of record 0x1201. -/
def Rec.Trigger.WindowMs : Fld := ⟨0x1201, 144, 32, 1000⟩
/-- HoldoffMs of record 0x1201. -/
def Rec.Trigger.HoldoffMs : Fld := ⟨0x1201, 176, 32, 60000⟩
/-- PreEvents of record 0x1201. -/
def Rec.Trigger.PreEvents : Fld := ⟨0x1201, 208, 16, 256⟩
/-- PostEvents of record 0x1201. -/
def Rec.Trigger.PostEvents : Fld := ⟨0x1201, 224, 16, 256⟩
/-- PostMs of record 0x1201. -/
def Rec.Trigger.PostMs : Fld := ⟨0x1201, 240, 32, 1000⟩
/-- WordCount of record 0x1201. -/
def Rec.Trigger.WordCount : Fld := ⟨0x1201, 272, 8, 0⟩
/-- Selector of record 0x1201. -/
def Rec.Trigger.Selector (w : Nat) : Fld := ⟨0x1201, 288 + 64 * w, 64, 0⟩
/-- The field map of record 0x1201. -/
def Schema.Trigger : Schema := ⟨0x1201, 320, 32,
    [⟨0, 1, false, [(0, 0), (1, 1)], .none, some 0⟩,
    ⟨1, 1, false, [(0, 0), (1, 1)], .none, some 0⟩,
    rsv (2) 6,
    ⟨8, 9, false, [(0, 511)], .none, some 0⟩,
    rsv (17) 7,
    ⟨24, 9, false, [(0, 511)], .none, some 511⟩,
    rsv (33) 7,
    ⟨40, 5, false, [(0, 16)], .nearest, some 16⟩,
    rsv (45) 3,
    ⟨48, 8, false, [(0, 239)], .nearest, some 0⟩,
    ⟨56, 3, false, [(0, 4)], .reject, some 0⟩,
    rsv (59) 5,
    ⟨64, 64, false, [], .none, some 0⟩,
    ⟨128, 16, false, [(1, 1000)], .nearest, some 1⟩,
    ⟨144, 32, false, [(1, 3600000)], .nearest, some 1000⟩,
    ⟨176, 32, false, [(0, 86400000)], .nearest, some 60000⟩,
    ⟨208, 16, false, [(0, 2024)], .nearest, some 256⟩,
    ⟨224, 16, false, [(0, 2024)], .nearest, some 256⟩,
    ⟨240, 32, false, [(0, 60000)], .nearest, some 1000⟩,
    ⟨272, 8, false, [(0, 32)], .nearest, some 0⟩,
    rsv (280) 8] ++
    ((List.range 32).flatMap fun w => [⟨288 + 64 * w, 64, false, [], .none, some 0⟩]) ++
    [rsv (2336) 224]⟩

/-! ### Record 0x1300 Tenant (Table 21-7, spec/21_tenants.md) -/

/-- CtxReserve of record 0x1300. -/
def Rec.Tenant.CtxReserve : Fld := ⟨0x1300, 0, 16, 0⟩
/-- CryptoPermille of record 0x1300. -/
def Rec.Tenant.CryptoPermille : Fld := ⟨0x1300, 16, 16, 0⟩
/-- EnginePermille of record 0x1300. -/
def Rec.Tenant.EnginePermille : Fld := ⟨0x1300, 32, 16, 0⟩
/-- FlashPermille of record 0x1300. -/
def Rec.Tenant.FlashPermille : Fld := ⟨0x1300, 48, 16, 0⟩
/-- FabricPermille of record 0x1300. -/
def Rec.Tenant.FabricPermille : Fld := ⟨0x1300, 64, 16, 0⟩
/-- PoolWeight of record 0x1300. -/
def Rec.Tenant.PoolWeight : Fld := ⟨0x1300, 80, 8, 16⟩
/-- ShareWaitMs of record 0x1300. -/
def Rec.Tenant.ShareWaitMs : Fld := ⟨0x1300, 96, 16, 1000⟩
/-- The field map of record 0x1300. -/
def Schema.Tenant : Schema := ⟨0x1300, 32, 16,
    [⟨0, 16, false, [(0, 3072)], .nearest, some 0⟩,
    ⟨16, 16, false, [(0, 750)], .nearest, some 0⟩,
    ⟨32, 16, false, [(0, 750)], .nearest, some 0⟩,
    ⟨48, 16, false, [(0, 750)], .nearest, some 0⟩,
    ⟨64, 16, false, [(0, 750)], .nearest, some 0⟩,
    ⟨80, 8, false, [(1, 255)], .nearest, some 16⟩,
    rsv (88) 8,
    ⟨96, 16, false, [(10, 60000)], .nearest, some 1000⟩,
    rsv (112) 144]⟩

/-! ### Record 0x1400 Pair (Table 22-6, spec/22_pair_redundancy.md) -/

/-- ChipLetter of record 0x1400. -/
def Rec.Pair.ChipLetter : Fld := ⟨0x1400, 0, 1, 0⟩
/-- TakeBack of record 0x1400. -/
def Rec.Pair.TakeBack : Fld := ⟨0x1400, 1, 1, 0⟩
/-- PreferredChip of record 0x1400. -/
def Rec.Pair.PreferredChip : Fld := ⟨0x1400, 2, 2, 0⟩
/-- WitnessMin of record 0x1400. -/
def Rec.Pair.WitnessMin : Fld := ⟨0x1400, 8, 8, 1⟩
/-- RegionNumber of record 0x1400. -/
def Rec.Pair.RegionNumber : Fld := ⟨0x1400, 16, 16, 0⟩
/-- PartnerLossMs of record 0x1400. -/
def Rec.Pair.PartnerLossMs : Fld := ⟨0x1400, 32, 16, 100⟩
/-- WitnessQuietMs of record 0x1400. -/
def Rec.Pair.WitnessQuietMs : Fld := ⟨0x1400, 48, 16, 20⟩
/-- SoloGuardMs of record 0x1400. -/
def Rec.Pair.SoloGuardMs : Fld := ⟨0x1400, 64, 16, 200⟩
/-- PairWaitS of record 0x1400. -/
def Rec.Pair.PairWaitS : Fld := ⟨0x1400, 80, 16, 10⟩
/-- TakeBackHoldS of record 0x1400. -/
def Rec.Pair.TakeBackHoldS : Fld := ⟨0x1400, 96, 32, 600⟩
/-- ReplayLimitGiB of record 0x1400. -/
def Rec.Pair.ReplayLimitGiB : Fld := ⟨0x1400, 128, 8, 4⟩
/-- The field map of record 0x1400. -/
def Schema.Pair : Schema := ⟨0x1400, 32, 1,
    [⟨0, 1, false, [(0, 0), (1, 1)], .none, some 0⟩,
    ⟨1, 1, false, [(0, 0), (1, 1)], .none, some 0⟩,
    ⟨2, 2, false, [(0, 2)], .nearest, some 0⟩,
    rsv (4) 4,
    ⟨8, 8, false, [(0, 64)], .nearest, some 1⟩,
    ⟨16, 16, false, [(0, 65535)], .none, some 0⟩,
    ⟨32, 16, false, [(20, 1000)], .nearest, some 100⟩,
    ⟨48, 16, false, [(5, 500)], .nearest, some 20⟩,
    ⟨64, 16, false, [(50, 5000)], .nearest, some 200⟩,
    ⟨80, 16, false, [(1, 600)], .nearest, some 10⟩,
    ⟨96, 32, false, [(60, 86400)], .nearest, some 600⟩,
    ⟨128, 8, false, [(1, 8)], .nearest, some 4⟩,
    rsv (136) 120]⟩

/-! ### Record 0x1500 UpdatePolicy (Table 23-12, spec/23_update_chain.md) -/

/-- RequireCounterSign of record 0x1500. -/
def Rec.UpdatePolicy.RequireCounterSign : Fld := ⟨0x1500, 0, 1, 0⟩
/-- AutoConfirm of record 0x1500. -/
def Rec.UpdatePolicy.AutoConfirm : Fld := ⟨0x1500, 1, 1, 1⟩
/-- RaiseFloor of record 0x1500. -/
def Rec.UpdatePolicy.RaiseFloor : Fld := ⟨0x1500, 2, 1, 1⟩
/-- Wave of record 0x1500. -/
def Rec.UpdatePolicy.Wave : Fld := ⟨0x1500, 3, 1, 0⟩
/-- PassMask of record 0x1500. -/
def Rec.UpdatePolicy.PassMask : Fld := ⟨0x1500, 8, 4, 15⟩
/-- HeadParallel of record 0x1500. -/
def Rec.UpdatePolicy.HeadParallel : Fld := ⟨0x1500, 16, 8, 4⟩
/-- RepairRounds of record 0x1500. -/
def Rec.UpdatePolicy.RepairRounds : Fld := ⟨0x1500, 24, 8, 4⟩
/-- ConfirmS of record 0x1500. -/
def Rec.UpdatePolicy.ConfirmS : Fld := ⟨0x1500, 32, 32, 600⟩
/-- DigestHoldS of record 0x1500. -/
def Rec.UpdatePolicy.DigestHoldS : Fld := ⟨0x1500, 64, 16, 10⟩
/-- ChainLossMs of record 0x1500. -/
def Rec.UpdatePolicy.ChainLossMs : Fld := ⟨0x1500, 80, 16, 1000⟩
/-- PassRateMBps of record 0x1500. -/
def Rec.UpdatePolicy.PassRateMBps : Fld := ⟨0x1500, 96, 16, 1000⟩
/-- ChainDomainMask of record 0x1500. -/
def Rec.UpdatePolicy.ChainDomainMask : Fld := ⟨0x1500, 128, 32, 1048576⟩
/-- The field map of record 0x1500. -/
def Schema.UpdatePolicy : Schema := ⟨0x1500, 32, 1,
    [⟨0, 1, false, [(0, 0), (1, 1)], .none, some 0⟩,
    ⟨1, 1, false, [(0, 0), (1, 1)], .none, some 1⟩,
    ⟨2, 1, false, [(0, 0), (1, 1)], .none, some 1⟩,
    ⟨3, 1, false, [(0, 0), (1, 1)], .none, some 0⟩,
    rsv (4) 4,
    ⟨8, 4, false, [(0, 15)], .none, some 15⟩,
    rsv (12) 4,
    ⟨16, 8, false, [(1, 64)], .nearest, some 4⟩,
    ⟨24, 8, false, [(0, 32)], .nearest, some 4⟩,
    ⟨32, 32, false, [(60, 86400)], .nearest, some 600⟩,
    ⟨64, 16, false, [(1, 600)], .nearest, some 10⟩,
    ⟨80, 16, false, [(100, 10000)], .nearest, some 1000⟩,
    ⟨96, 16, false, [(10, 10000)], .nearest, some 1000⟩,
    rsv (112) 16,
    ⟨128, 32, false, [(0, 16777215)], .nearest, some 1048576⟩,
    rsv (160) 96]⟩

/-! ### Record 0x1600 LockoutInput (Table 24-10, spec/24_lockout_safety.md) -/

/-- Enabled of record 0x1600. -/
def Rec.LockoutInput.Enabled : Fld := ⟨0x1600, 0, 1, 0⟩
/-- AllMeters of record 0x1600. -/
def Rec.LockoutInput.AllMeters : Fld := ⟨0x1600, 1, 1, 0⟩
/-- DiscrepancyMs of record 0x1600. -/
def Rec.LockoutInput.DiscrepancyMs : Fld := ⟨0x1600, 16, 16, 100⟩
/-- ReleaseHoldS of record 0x1600. -/
def Rec.LockoutInput.ReleaseHoldS : Fld := ⟨0x1600, 32, 16, 60⟩
/-- RangeValid of record 0x1600. -/
def Rec.LockoutInput.RangeValid (j : Nat) : Fld := ⟨0x1600, 64 + 32 * j, 1, 0⟩
/-- FirstZone of record 0x1600. -/
def Rec.LockoutInput.FirstZone (j : Nat) : Fld := ⟨0x1600, 68 + 32 * j, 12, 0⟩
/-- LastZone of record 0x1600. -/
def Rec.LockoutInput.LastZone (j : Nat) : Fld := ⟨0x1600, 80 + 32 * j, 12, 0⟩
/-- The field map of record 0x1600. -/
def Schema.LockoutInput : Schema := ⟨0x1600, 40, 16,
    [⟨0, 1, false, [(0, 0), (1, 1)], .none, some 0⟩,
    ⟨1, 1, false, [(0, 0), (1, 1)], .none, some 0⟩,
    rsv (2) 6,
    rsv (8) 8,
    ⟨16, 16, false, [(10, 500)], .nearest, some 100⟩,
    ⟨32, 16, false, [(0, 3600)], .nearest, some 60⟩,
    rsv (48) 16] ++
    ((List.range 8).flatMap fun j => [⟨64 + 32 * j, 1, false, [(0, 0), (1, 1)], .none, some 0⟩,
      rsv (65 + 32 * j) 3,
      ⟨68 + 32 * j, 12, false, [(0, 4095)], .none, some 0⟩,
      ⟨80 + 32 * j, 12, false, [(0, 4095)], .none, some 0⟩,
      rsv (92 + 32 * j) 4])⟩

/-! ### Record 0x1601 SafeMeter (Table 24-11, spec/24_lockout_safety.md) -/

/-- Enabled of record 0x1601. -/
def Rec.SafeMeter.Enabled : Fld := ⟨0x1601, 0, 1, 0⟩
/-- ArmedOnly of record 0x1601. -/
def Rec.SafeMeter.ArmedOnly : Fld := ⟨0x1601, 1, 1, 1⟩
/-- The field map of record 0x1601. -/
def Schema.SafeMeter : Schema := ⟨0x1601, 16, 1048576,
    [⟨0, 1, false, [(0, 0), (1, 1)], .none, some 0⟩,
    ⟨1, 1, false, [(0, 0), (1, 1)], .none, some 1⟩,
    rsv (2) 6,
    rsv (8) 120]⟩

/-! ### Record 0x1602 SafetyPolicy (Table 24-12, spec/24_lockout_safety.md) -/

/-- ValidityS of record 0x1602. -/
def Rec.SafetyPolicy.ValidityS : Fld := ⟨0x1602, 0, 32, 3600⟩
/-- ResendLimit of record 0x1602. -/
def Rec.SafetyPolicy.ResendLimit : Fld := ⟨0x1602, 32, 8, 8⟩
/-- The field map of record 0x1602. -/
def Schema.SafetyPolicy : Schema := ⟨0x1602, 16, 1,
    [⟨0, 32, false, [(60, 86400)], .nearest, some 3600⟩,
    ⟨32, 8, false, [(1, 32)], .nearest, some 8⟩,
    rsv (40) 88]⟩

/-! ### Record 0x1700 BackhaulPort (Table 25-6, spec/25_external_interfaces.md) -/

/-- Enabled of record 0x1700. -/
def Rec.BackhaulPort.Enabled : Fld := ⟨0x1700, 0, 1, 0⟩
/-- VlanId of record 0x1700. -/
def Rec.BackhaulPort.VlanId : Fld := ⟨0x1700, 16, 12, 0⟩
/-- Mtu of record 0x1700. -/
def Rec.BackhaulPort.Mtu : Fld := ⟨0x1700, 32, 16, 1500⟩
/-- Ipv4Prefix of record 0x1700. -/
def Rec.BackhaulPort.Ipv4Prefix : Fld := ⟨0x1700, 48, 8, 0⟩
/-- Ipv6Prefix of record 0x1700. -/
def Rec.BackhaulPort.Ipv6Prefix : Fld := ⟨0x1700, 56, 8, 0⟩
/-- Ipv4Addr of record 0x1700. -/
def Rec.BackhaulPort.Ipv4Addr : Fld := ⟨0x1700, 64, 32, 0⟩
/-- Ipv4Gateway of record 0x1700. -/
def Rec.BackhaulPort.Ipv4Gateway : Fld := ⟨0x1700, 96, 32, 0⟩
/-- Ipv6Addr of record 0x1700. -/
def Rec.BackhaulPort.Ipv6Addr : Fld := ⟨0x1700, 128, 128, 0⟩
/-- Ipv6Gateway of record 0x1700. -/
def Rec.BackhaulPort.Ipv6Gateway : Fld := ⟨0x1700, 256, 128, 0⟩
/-- The field map of record 0x1700. -/
def Schema.BackhaulPort : Schema := ⟨0x1700, 64, 8,
    [⟨0, 1, false, [(0, 0), (1, 1)], .none, some 0⟩,
    rsv (1) 15,
    ⟨16, 12, false, [(0, 4094)], .nearest, some 0⟩,
    rsv (28) 4,
    ⟨32, 16, false, [(1280, 9000)], .nearest, some 1500⟩,
    ⟨48, 8, false, [(0, 32)], .nearest, some 0⟩,
    ⟨56, 8, false, [(0, 128)], .nearest, some 0⟩,
    ⟨64, 32, false, [], .none, some 0⟩,
    ⟨96, 32, false, [], .none, some 0⟩,
    ⟨128, 128, false, [], .none, some 0⟩,
    ⟨256, 128, false, [], .none, some 0⟩,
    rsv (384) 128]⟩

/-! ### Record 0x1701 HeadEnd (Table 25-7, spec/25_external_interfaces.md) -/

/-- Enabled of record 0x1701. -/
def Rec.HeadEnd.Enabled : Fld := ⟨0x1701, 0, 1, 0⟩
/-- Port of record 0x1701. -/
def Rec.HeadEnd.Port : Fld := ⟨0x1701, 5, 3, 0⟩
/-- KindMask of record 0x1701. -/
def Rec.HeadEnd.KindMask : Fld := ⟨0x1701, 8, 8, 7⟩
/-- TunnelChannels of record 0x1701. -/
def Rec.HeadEnd.TunnelChannels : Fld := ⟨0x1701, 16, 16, 0⟩
/-- RemotePort of record 0x1701. -/
def Rec.HeadEnd.RemotePort : Fld := ⟨0x1701, 32, 16, 4433⟩
/-- ExportWindow of record 0x1701. -/
def Rec.HeadEnd.ExportWindow : Fld := ⟨0x1701, 48, 16, 4096⟩
/-- RetainDays of record 0x1701. -/
def Rec.HeadEnd.RetainDays : Fld := ⟨0x1701, 64, 16, 31⟩
/-- RemoteAddr of record 0x1701. -/
def Rec.HeadEnd.RemoteAddr : Fld := ⟨0x1701, 128, 128, 0⟩
/-- PeerKeyHash of record 0x1701. -/
def Rec.HeadEnd.PeerKeyHash : Fld := ⟨0x1701, 256, 256, 0⟩
/-- The field map of record 0x1701. -/
def Schema.HeadEnd : Schema := ⟨0x1701, 80, 32,
    [⟨0, 1, false, [(0, 0), (1, 1)], .none, some 0⟩,
    rsv (1) 4,
    ⟨5, 3, false, [(0, 7)], .none, some 0⟩,
    ⟨8, 8, false, [(0, 63)], .none, some 7⟩,
    ⟨16, 16, false, [], .none, some 0⟩,
    ⟨32, 16, false, [(1, 65535)], .nearest, some 4433⟩,
    ⟨48, 16, false, [(16, 16384)], .nearest, some 4096⟩,
    ⟨64, 16, false, [(1, 366)], .nearest, some 31⟩,
    rsv (80) 48,
    ⟨128, 128, false, [], .none, some 0⟩,
    ⟨256, 256, false, [], .none, some 0⟩,
    rsv (512) 128]⟩

/-! ### Record 0x1800 PowerPolicy (Table 26-9, spec/26_startup_power.md) -/

/-- WakeMask of record 0x1800. -/
def Rec.PowerPolicy.WakeMask : Fld := ⟨0x1800, 0, 6, 62⟩
/-- SleepWakeS of record 0x1800. -/
def Rec.PowerPolicy.SleepWakeS : Fld := ⟨0x1800, 32, 32, 0⟩
/-- The field map of record 0x1800. -/
def Schema.PowerPolicy : Schema := ⟨0x1800, 16, 1,
    [⟨0, 6, false, [(0, 62)], .nearest, some 62⟩,
    rsv (6) 26,
    ⟨32, 32, false, [(0, 0), (60, 604800)], .nearest, some 0⟩,
    rsv (64) 64]⟩

/-! ### Record 0x0901 RuleTable (Table 11-5, spec/11_frame_security.md) -/

/-- Enable of record 0x0901. -/
def Rec.RuleTable.Enable (i : Nat) : Fld := ⟨0x0901, 256 * i, 1, 0⟩
/-- Final of record 0x0901. -/
def Rec.RuleTable.Final (i : Nat) : Fld := ⟨0x0901, 1 + 256 * i, 1, 0⟩
/-- Outcome of record 0x0901. -/
def Rec.RuleTable.Outcome (i : Nat) : Fld := ⟨0x0901, 2 + 256 * i, 2, 0⟩
/-- Capture of record 0x0901. -/
def Rec.RuleTable.Capture (i : Nat) : Fld := ⟨0x0901, 4 + 256 * i, 1, 0⟩
/-- Signed of record 0x0901. -/
def Rec.RuleTable.Signed (i : Nat) : Fld := ⟨0x0901, 5 + 256 * i, 1, 1⟩
/-- Subject of record 0x0901. -/
def Rec.RuleTable.Subject (i : Nat) : Fld := ⟨0x0901, 8 + 256 * i, 8, 0⟩
/-- Operator of record 0x0901. -/
def Rec.RuleTable.Operator (i : Nat) : Fld := ⟨0x0901, 16 + 256 * i, 4, 0⟩
/-- Snapshot of record 0x0901. -/
def Rec.RuleTable.Snapshot (i : Nat) : Fld := ⟨0x0901, 20 + 256 * i, 2, 0⟩
/-- FieldSigned of record 0x0901. -/
def Rec.RuleTable.FieldSigned (i : Nat) : Fld := ⟨0x0901, 22 + 256 * i, 1, 0⟩
/-- FlagBit of record 0x0901. -/
def Rec.RuleTable.FlagBit (i : Nat) : Fld := ⟨0x0901, 24 + 256 * i, 5, 8⟩
/-- ItemType of record 0x0901. -/
def Rec.RuleTable.ItemType (i : Nat) : Fld := ⟨0x0901, 32 + 256 * i, 8, 1⟩
/-- FieldOffset of record 0x0901. -/
def Rec.RuleTable.FieldOffset (i : Nat) : Fld := ⟨0x0901, 40 + 256 * i, 8, 0⟩
/-- FieldWidth of record 0x0901. -/
def Rec.RuleTable.FieldWidth (i : Nat) : Fld := ⟨0x0901, 48 + 256 * i, 7, 32⟩
/-- FieldShift of record 0x0901. -/
def Rec.RuleTable.FieldShift (i : Nat) : Fld := ⟨0x0901, 56 + 256 * i, 3, 0⟩
/-- OperandA of record 0x0901. -/
def Rec.RuleTable.OperandA (i : Nat) : Fld := ⟨0x0901, 64 + 256 * i, 64, 0⟩
/-- OperandB of record 0x0901. -/
def Rec.RuleTable.OperandB (i : Nat) : Fld := ⟨0x0901, 128 + 256 * i, 64, 0⟩
/-- The field map of record 0x0901. -/
def Schema.RuleTable : Schema := ⟨0x0901, 2048, 256,
    ((List.range 64).flatMap fun i => [⟨256 * i, 1, false, [(0, 0), (1, 1)], .none, some 0⟩,
      ⟨1 + 256 * i, 1, false, [(0, 0), (1, 1)], .none, some 0⟩,
      ⟨2 + 256 * i, 2, false, [(0, 3)], .none, some 0⟩,
      ⟨4 + 256 * i, 1, false, [(0, 0), (1, 1)], .none, some 0⟩,
      ⟨5 + 256 * i, 1, false, [(0, 0), (1, 1)], .none, some 1⟩,
      rsv (6 + 256 * i) 2,
      ⟨8 + 256 * i, 8, false, [(0, 16)], .reject, some 0⟩,
      ⟨16 + 256 * i, 4, false, [(0, 9)], .reject, some 0⟩,
      ⟨20 + 256 * i, 2, false, [(0, 3)], .none, some 0⟩,
      ⟨22 + 256 * i, 1, false, [(0, 0), (1, 1)], .none, some 0⟩,
      rsv (23 + 256 * i) 1,
      ⟨24 + 256 * i, 5, false, [(8, 31)], .nearest, some 8⟩,
      rsv (29 + 256 * i) 3,
      ⟨32 + 256 * i, 8, false, [(1, 255)], .nearest, some 1⟩,
      ⟨40 + 256 * i, 8, false, [(0, 255)], .none, some 0⟩,
      ⟨48 + 256 * i, 7, false, [(1, 64)], .nearest, some 32⟩,
      rsv (55 + 256 * i) 1,
      ⟨56 + 256 * i, 3, false, [(0, 7)], .none, some 0⟩,
      rsv (59 + 256 * i) 5,
      ⟨64 + 256 * i, 64, false, [], .none, some 0⟩,
      ⟨128 + 256 * i, 64, false, [], .none, some 0⟩,
      rsv (192 + 256 * i) 64])⟩

/-! ### Record 0x1202 RecorderPolicy (R523, spec/20_events_barrow.md) -/

/-- HoldMaxS of record 0x1202. -/
def Rec.RecorderPolicy.HoldMaxS : Fld := ⟨0x1202, 0, 16, 600⟩
/-- The field map of record 0x1202. -/
def Schema.RecorderPolicy : Schema := ⟨0x1202, 16, 1,
    [⟨0, 16, false, [(10, 3600)], .nearest, some 600⟩,
    rsv (16) 112]⟩

/-- Every configuration record of the firmware. -/
def Schema.all : List Schema :=
  [.FaultPolicy, .SessionPolicy, .Lane, .Channel, .LineFilter, .RxChannel, .RxPolicy, .LeaChannel, .LeaPolicy, .Band, .HeadAir, .MeterClass, .MeterPlan, .AirPolicy, .FloodSchedule, .SwardPolicy, .LingTrib] ++
  [.LingMeter, .LingPolicy, .MeterSec, .SecPolicy, .VaultPolicy, .LedgerClass, .LedgerMeter, .TariffPlan, .TimeZone, .ProfileClass, .PrepayClass, .PrepayMeter, .MetroTrib, .PulseOutput, .Zone, .BalMeter, .BalPolicy] ++
  [.Partition, .StorePolicy, .TimeRef, .TimePolicy, .EventRouting, .Trigger, .Tenant, .Pair, .UpdatePolicy, .LockoutInput, .SafeMeter, .SafetyPolicy, .BackhaulPort, .HeadEnd, .PowerPolicy, .RuleTable, .RecorderPolicy]

/-- The schema of a record identifier, if the identifier is known (R71). -/
def Schema.find (id : Nat) : Option Schema := Schema.all.find? (fun c => c.id == id)

end Sys2Proof.Machine
end

