-- ==== Sys2Proof/Machine/Wire.lean ====
section
/-! DEFINITION. What the partner stream carries of journal entries and meter records, as lists of numbers: the spec gives the messages
their types (Table 25-5), and leaves the layout of their bodies open. -/

namespace Sys2Proof.Machine

open Sys2Proof

/-- The code of an entry's kind (Table 18-4). -/
def JKind.code : JKind → Nat
  | .ledger => 1 | .config => 2 | .quarantine => 3 | .token => 4 | .step => 5
  | .balance => 6 | .plan => 7 | .flood => 8 | .audit => 9 | .store => 10

/-- The kind of a code. -/
def JKind.ofCode (n : Nat) : JKind :=
  (([.ledger, .config, .quarantine, .token, .step, .balance, .plan, .flood, .audit, .store] : List JKind)[n - 1]?).getD .store

/-- A table as its length and its pairs. -/
def mapWords (m : Map Nat Nat) : List Nat := m.length :: m.flatMap fun e => [e.1, e.2]

/-- Pairs of successive numbers. -/
def pairUp : List Nat → Map Nat Nat
  | a :: b :: l => (a, b) :: pairUp l
  | _ => []

/-- A table read back, and what follows it. -/
def takeMap : List Nat → Map Nat Nat × List Nat
  | [] => ([], [])
  | n :: l => (pairUp (l.take (2 * n)), l.drop (2 * n))

/-- `k` tables read back. -/
def takeMaps : Nat → List Nat → List (Map Nat Nat)
  | 0, _ => []
  | k + 1, l => (takeMap l).1 :: takeMaps k (takeMap l).2

/-- The fields of a meter record. -/
def MeterRec.words (r : MeterRec) : List Nat :=
  [bit r.active, bit r.gap, r.tenant, r.ledgerClass, r.zone, bit r.zoneAssigned, r.plan, r.lastCounter, r.downCtr, r.keyGen,
    r.lastAccept, r.journalSeq, r.profileEnd, r.baselineTotal, r.baselineRate, r.assignedAt, r.countSat, slotOf r.credit,
    r.tokenSeq, r.tokenAck, r.lastTokenAt, r.tamperSat, r.disputeMask, r.resolveMain, r.resolveFb, r.fbBroken,
    r.lastReconcile] ++
  ([r.snapshots, r.counts, r.total, r.regTotal, r.regRate, r.fb, r.tamperCount, r.tamperFirst, r.tamperLast, r.lastRate].flatMap
    mapWords)

/-- A meter record read back. -/
def MeterRec.ofWords (l : List Nat) : MeterRec :=
  let w (i : Nat) : Nat := l.getD i 0
  let m := takeMaps 10 (l.drop 27)
  let t (i : Nat) : Map Nat Nat := m.getD i []
  { active := w 0 == 1, gap := w 1 == 1, tenant := w 2, ledgerClass := w 3, zone := w 4, zoneAssigned := w 5 == 1, plan := w 6,
    lastCounter := w 7, downCtr := w 8, keyGen := w 9, lastAccept := w 10, journalSeq := w 11, profileEnd := w 12,
    baselineTotal := w 13, baselineRate := w 14, assignedAt := w 15, countSat := w 16, credit := toSigned 64 (w 17),
    tokenSeq := w 18, tokenAck := w 19, lastTokenAt := w 20, tamperSat := w 21, disputeMask := w 22, resolveMain := w 23,
    resolveFb := w 24, fbBroken := w 25, lastReconcile := w 26, snapshots := t 0, counts := t 1, total := t 2, regTotal := t 3,
    regRate := t 4, fb := t 5, tamperCount := t 6, tamperFirst := t 7, tamperLast := t 8, lastRate := t 9 }

/-- The body of an entry: 0 a record, 1 a meter record image, 2 another change. -/
def JBody.wire : JBody → List Nat
  | .config rid inst tenant body _ => [0, rid, inst, tenant, body]
  | .image slot r _ => 1 :: slot :: r.words
  | .words l => 2 :: l

/-- A number of a message body: its length in bytes, then its bytes.
(Log entry 110: DESIGN CHOICE.) -/
def wireNat (n : Nat) : List Byte :=
  let k := if n = 0 then 0 else Nat.log2 n / 8 + 1
  le 2 k ++ le k n

/-- The body of a partner message: the count of its values, the values, and the bytes after them.
(Log entry 110: DESIGN CHOICE.) -/
def bodyBytes (words : List Nat) (data : List Byte) : List Byte := le 4 words.length ++ words.flatMap wireNat ++ data

/-- `n` values read back, and what follows them. -/
def takeValues : Nat → List Byte → Option (List Nat × List Byte)
  | 0, l => some ([], l)
  | n + 1, l =>
    let k := leAt l 0 2
    if l.length < 2 + k then none
    else (takeValues n (l.drop (2 + k))).map fun x => (leAt l 2 k :: x.1, x.2)

/-- The values and bytes of a body; a body that does not hold what it says holds nothing. -/
def partnerBody (l : List Byte) : List Nat × List Byte :=
  if l.length < 4 then ([], []) else (takeValues (leAt l 0 4) (l.drop 4)).getD ([], [])

/-- The most body bytes of one frame (Table 25-4). -/
def partnerPart : Nat := 9168

/-- A body cut into the parts of its frames (R633); an empty body makes one part. -/
def bodyParts (body : List Byte) : List (List Byte) :=
  (List.range (max 1 ((body.length + partnerPart - 1) / partnerPart))).map fun k => slice body (partnerPart * k) (min partnerPart (body.length - partnerPart * k))

/-- The header of a frame (Table 25-4). -/
structure PartnerHead where
  type : Nat
  chipB : Bool
  more : Bool
  region : Nat
  boot : Nat
  seq : Nat
  frag : Nat
  length : Nat
  deriving DecidableEq, Repr

/-- The 32 bytes of a header. -/
def PartnerHead.bytes (h : PartnerHead) : List Byte :=
  le 1 h.type ++ le 1 (bit h.chipB + 2 * bit h.more) ++ le 2 h.region ++ le 4 h.boot ++ le 8 h.seq ++ le 4 h.frag ++ le 4 h.length ++ le 8 0

/-- The header that a frame begins with. -/
def PartnerHead.ofBytes (f : List Byte) : PartnerHead :=
  { type := leAt f 0 1, chipB := bitOn (leAt f 1 1) 0, more := bitOn (leAt f 1 1) 1, region := leAt f 2 2, boot := leAt f 4 4,
    seq := leAt f 8 8, frag := leAt f 16 4, length := leAt f 20 4 }

/-- An entry of the stream: its header, then its body.
(Log entry 110: DESIGN CHOICE.) -/
def JEntry.wire (e : JEntry) : List Nat :=
  [e.position, e.objSeq, e.kind.code, e.tenant, e.object, e.stamp] ++ e.body.wire

end Sys2Proof.Machine
end

