-- ==== Sys2Proof/Machine/Ops.lean ====
section
/-! DEFINITION. The named operations every chapter's commands are written over: clocks and stamps, free values,
capacities, records, counters, events, buffers, the journal, units under the enable rule, sessions, and the frame of a
mailbox command. -/

namespace Sys2Proof.Machine

open Sys2Proof

/-- What a step answers. -/
abbrev Out := Host.Outcome State Fault Refusal

/-! ### Clocks and stamps (R10, R481, R482, R497) -/

/-- The model's clock in whole seconds. -/
def State.nowS (s : State) : Nat := s.time.ms / 1000

/-- The hour of legal time. -/
def State.hour (s : State) : Nat := s.time.legalNs / 3600000000000

/-- The minute of legal time. -/
def State.minute (s : State) : Nat := s.time.legalNs / 60000000000

/-- Whole seconds of legal time. -/
def State.legalS (s : State) : Nat := s.time.legalNs / 1000000000

/-- The calendar stamp of a legal time in ns (R482). -/
def stampOfNs (ns : Nat) : Nat := ns / 1000000000 * 2 ^ 24 + ns % 1000000000 * 2 ^ 24 / 1000000000

/-- Whole seconds of a calendar stamp. -/
def stampS (st : Nat) : Nat := st / 2 ^ 24

/-- The calendar stamp the device issues for a legal time: never below the last one issued or the newest journal Stamp
(R482). -/
def State.issueFor (s : State) (ns : Nat) : Nat :=
  max (stampOfNs ns) (max s.time.lastStamp s.time.newestJournalStamp)

/-- The calendar stamp issued now. -/
def State.stamp (s : State) : Nat := s.issueFor s.time.legalNs

/-- The state after a stamp has been issued. -/
def State.issued (s : State) (st : Nat) : State := { s with time := { s.time with lastStamp := max st s.time.lastStamp } }

/-- Air-time periods per millisecond (R493). -/
def airPerMs : Nat := 2000000

/-! ### Free values -/

/-- A free value below 2^width, and the state that will draw the next one.
(Log entry 6: DESIGN CHOICE.) -/
def State.draw (s : State) (width : Nat) : Nat × State :=
  (Config.freeValue s.freeCtr % 2 ^ width, { s with freeCtr := s.freeCtr + 1 })

/-- `n` free bytes. -/
def State.drawBytes (s : State) (n : Nat) : List Byte × State :=
  let (v, s') := s.draw (8 * n)
  (le n v, s')

/-! ### Capacities of the variant (R2, R43, R44) -/

/-- Whether a lane is present (CAP1, CAP2). -/
def State.laneHere (s : State) (n : Nat) : Bool :=
  decide (n < if s.arch.variant = .ew9632 then 32 else 64)

/-- Meter slots of the variant (MeterSlotBits). -/
def State.meterSlots (s : State) : Nat := if s.arch.variant = .ew9632 then 524288 else 1048576

/-- Whether the line region is present (RegionsPresent bit 6). -/
def State.lineHere (s : State) : Bool := decide (s.arch.variant ≠ .ew9664r)

/-- Zones of the variant (ZoneCount). -/
def State.zones (s : State) : Nat :=
  match s.arch.variant with
  | .ew9664 => 4096
  | .ew9664r => 0
  | .ew9632 => 2048

/-- Lanes allowed in line mode (LineLanesMax). -/
def State.lineLanesMax (s : State) : Nat :=
  match s.arch.variant with
  | .ew9664 => 16
  | .ew9664r => 0
  | .ew9632 => 8

/-- Line tributaries of the variant (Table 0-1). -/
def State.tributaries (s : State) : Nat :=
  match s.arch.variant with
  | .ew9664 => 4096
  | .ew9664r => 0
  | .ew9632 => 2048

/-- Sealed tenants of the variant (SealedTenants). -/
def State.sealedTenants (s : State) : Nat := if s.arch.variant = .ew9632 then 4 else 8

/-- Whether a tenant is within the variant's capacity (R3). -/
def State.tenantHere (s : State) (t : Nat) : Bool := decide (t ≤ s.sealedTenants ∨ (9 ≤ t ∧ t ≤ 15))

/-- The ranges of Table 0-4, which an argument outside of them fails at step 8 (R3). -/
def isLane (n : Nat) : Bool := decide (n < 64)
def isMeterSlot (n : Nat) : Bool := decide (n < 1048576)
def isZone (n : Nat) : Bool := decide (n < 4096)
def isTributary (n : Nat) : Bool := decide (n < 4096)

/-- Whether a region is present (RegionsPresent). -/
def State.regionHere (s : State) (r : Nat) : Bool :=
  match s.arch.variant with
  | .ew9664 => decide (r < 11)
  | .ew9664r => decide (r < 11 ∧ r ≠ 6)
  | .ew9632 => decide (r < 11 ∧ r ≠ 2 ∧ r ≠ 3)

/-- NAND channels of the variant (FlashChannels). -/
def State.flashChannels (s : State) : Nat := if s.arch.variant = .ew9632 then 8 else 16

/-- PartCode (Table 2-8). -/
def Variant.partCode : Variant → Nat
  | .ew9664 => 0x9664
  | .ew9664r => 0x9665
  | .ew9632 => 0x9632

/-- The capability words CAP0 to CAP7 (Tables 2-8 and 2-9). -/
def State.caps (s : State) : List Nat :=
  let v := s.arch.variant
  [ v.partCode + s.arch.siliconDigit * 2 ^ 16 + s.arch.siliconLetter * 2 ^ 20 + 2 ^ 24,
    0xFFFFFFFF,
    if v = .ew9632 then 0 else 0xFFFFFFFF,
    (if v = .ew9632 then 19 else 20) + s.zones * 2 ^ 5 + s.lineLanesMax * 2 ^ 18 + s.sealedTenants * 2 ^ 23,
    (2 ^ s.flashChannels - 1) + 0xF * 2 ^ 16 + s.arch.dramGiB * 2 ^ 20,
    maskOf ((List.range 11).filter s.regionHere),
    (if v = .ew9632 then 512 else 1024) + 256 * 2 ^ 11 + 32 * 2 ^ 20 + 63 * 2 ^ 26,
    bit s.arch.debugClosed ]

/-! ### Configuration records: reading (R71, R73) -/

/-- The applied record instance, if the instance has been written. -/
def State.recInst (s : State) (rid inst : Nat) : Option RecInst := Map.get? s.records (rid, inst)

/-- A field of a record instance: its applied value, or its default. -/
def State.rd (s : State) (f : Fld) (inst : Nat := 0) : Nat :=
  match s.recInst f.rid inst with
  | some r => bitsAt r.body f.bit f.width
  | none => f.dflt

/-- A signed field of a record instance. -/
def State.rdS (s : State) (f : Fld) (inst : Nat := 0) : Int := toSigned f.width (s.rd f inst)

/-- A one-bit field of a record instance. -/
def State.rdB (s : State) (f : Fld) (inst : Nat := 0) : Bool := s.rd f inst == 1

/-- The tenant that owns a record instance; 0 where it has never been written. -/
def State.recTenant (s : State) (rid inst : Nat) : Nat :=
  match s.recInst rid inst with
  | some r => r.tenant
  | none => 0

/-! ### Counters (R11) -/

/-- The value of a counter. -/
def State.ctr (s : State) (c : Ctr) : Nat := Map.getD s.ctrs c 0

/-- A counter's value after `n` more: statistics counters wrap at their width, tamper and event counts stick at
65 535 (Table 0-6). -/
def CtrClass.step (k : CtrClass) (v n : Nat) : Nat :=
  match k with
  | .stat32 => (v + n) % 2 ^ 32
  | .stat48 => (v + n) % 2 ^ 48
  | .tally => min (v + n) 65535

/-- A counter raised by `n`. -/
def State.count (s : State) (c : Ctr) (n : Nat := 1) : State :=
  { s with ctrs := Map.put s.ctrs c (c.name.cls.step (s.ctr c) n) }

/-- Whether a tamper and event count has saturated (R11).
(Log entry 139: DESIGN CHOICE.) -/
def State.saturated (s : State) (c : Ctr) : Bool := s.ctr c == 65535

/-! ### Events (R503 to R505) -/

/-- An event is raised: it enters the fabric queue with its stamp, or is dropped and counted where the queue of 4 096
entries is full. Sources of an absent line region are never raised (R503). `officer` marks an event that R508 sends to
every open security-officer session. -/
def State.raise (s : State) (e : Ev) (tenant : Nat) (payload : List Nat) (officer : Bool := false) : State :=
  if 144 ≤ e.source ∧ e.source < 176 ∧ s.lineHere = false then s
  else if s.ev.queue.length < 4096 then
    let st := s.stamp
    let s := s.issued st
    { s with ev := { s.ev with queue := s.ev.queue ++ [⟨e, tenant, st, payload, officer⟩] } }
  else
    let s := s.count { name := .evDropped, a := e.source }
    { s with ev := { s.ev with lossPending := true } }

/-! ### The buffers of the host window (Table 3-2) -/

/-- A byte of the host window's buffers; a byte nothing has written reads 0. -/
def bufRead : List Host.Cell → Nat → Byte
  | [], _ => 0
  | (a, b) :: l, k => if a = k then b else bufRead l k

/-- A byte written to the buffers, keeping the cells in rising order of address and none of them 0. -/
def bufWrite : List Host.Cell → Nat → Byte → List Host.Cell
  | [], k, v => if v = 0 then [] else [(k, v)]
  | (a, b) :: l, k, v =>
    if k < a then (if v = 0 then (a, b) :: l else (k, v) :: (a, b) :: l)
    else if k = a then (if v = 0 then l else (k, v) :: l)
    else (a, b) :: bufWrite l k v

/-- Bytes written from an address on. -/
def bufStore (m : List Host.Cell) (at' : Nat) (l : List Byte) : List Host.Cell :=
  match l with
  | [] => m
  | b :: t => bufStore (bufWrite m at' b) (at' + 1) t

/-- `n` bytes read from an address on. -/
def bufLoad (m : List Host.Cell) (at' : Nat) : Nat → List Byte
  | 0 => []
  | n + 1 => bufRead m at' :: bufLoad m (at' + 1) n

/-- The canonical form of the buffers: addresses strictly rising, no cell 0. -/
def bufWf : List Host.Cell → Bool
  | [] => true
  | [(_, v)] => decide (v ≠ 0)
  | (a, v) :: (b, w) :: l => decide (v ≠ 0) && decide (a < b) && bufWf ((b, w) :: l)

/-- The first byte of channel n's page (Table 3-1). -/
def chanPage (n : Nat) : Nat := 0x10000 + 0x1000 * n

/-- The first byte of channel n's command buffer. -/
def cmdBuf (n : Nat) : Nat := chanPage n + 0x40

/-- The first byte of channel n's notification buffer. -/
def noteBuf (n : Nat) : Nat := chanPage n + 0x840

/-! ### Tenants, claim and pair as other chapters ask for them -/

/-- The state of a tenant (Table 21-2). -/
def State.tenant (s : State) (t : Nat) : TenantSt := Map.getD s.ten.st t {}

/-- Whether a tenant is SEALED. -/
def State.isSealed (s : State) (t : Nat) : Bool := decide ((s.tenant t).st = .sealed)

/-- Whether a tenant is RELEASING. -/
def State.isReleasing (s : State) (t : Nat) : Bool := decide ((s.tenant t).st = .releasing)

/-- What a command that names an object of a tenant checks beside its own state: the tenant is not RELEASING (Table 21-2).
(Log entry 120: DEDUCED.) -/
def State.notReleasing (s : State) (t : Nat) : Bool × Status := (!s.isReleasing t, .refusedState)

/-- Whether any tenant is SEALED. -/
def State.anySealed (s : State) : Bool := (List.range 16).any s.isSealed

/-- Whether the chip sends Serving 1 (R545). -/
def State.serving (s : State) : Bool := s.pair.serving

/-- Whether the partner is a ready standby (R33, R555): a live heartbeat that says READY. -/
def State.readyPartner (s : State) : Bool :=
  match s.pair.partner with
  | some h => decide (h.state = .ready ∧ s.time.ms < h.atMs + s.rd Rec.Pair.PartnerLossMs)
  | none => false

/-- The claim word this chip sends (Table 22-1). -/
def State.claimWord (s : State) : Nat :=
  s.rd Rec.Pair.ChipLetter + s.pair.epoch * 2 ^ 31 + bit s.pair.serving * 2 ^ 63

/-- Whether commands whose effect must be journaled are refused now (R660). -/
def State.saveHalts (s : State) : Bool := decide (s.pow.warn = .saving ∨ s.pow.warn = .holding)

/-! ### The journal (R18, R462, R463) -/

/-- The bytes of a journal entry in the buffer: header, body and tag, padded to 16 (Table 18-4). -/
def JEntry.size (e : JEntry) : Nat :=
  let body := match e.body with
    | .config _ _ _ b _ => 16 + (Nat.log2 b + 8) / 8
    | .image _ _ _ => 1024
    | .words l => 8 * l.length
  ceilDiv (48 + body) 16 * 16

/-- The bytes the journal buffer holds: entries not yet in both copies (R463). -/
def State.journalFill (s : State) : Nat := ((s.store.journal.filter (fun e => !e.copied)).map JEntry.size).sum

/-- The journal buffer's size (R463). -/
def journalBuffer : Nat := 3840 * 1024

/-- The bytes of the entries the journal retains, and the journal's size per copy (R463). -/
def State.journalBytes (s : State) : Nat := (s.store.journal.map JEntry.size).sum
def State.journalRoom (s : State) : Nat := s.rd Rec.Partition.JournalGiB * 2 ^ 30

/-- Whether a region is restarting (R36). -/
def State.restarting (s : State) (r : Nat) : Bool := decide ((Map.getD s.arch.regions r {}).st = .restarting)

/-- Whether a region works: it neither restarts nor has failed (R36, R37). -/
def State.regionOn (s : State) (r : Nat) : Bool := decide ((Map.getD s.arch.regions r {}).st = .on)

/-- Whether an erased save slot is left: journal admission waits where there is none (R661). -/
def State.saveRoom (s : State) : Bool := s.pow.saveSlots.any SaveSlot.erased

/-- The newest Position in the journal. -/
def State.newestPos (s : State) : Nat := s.store.nextPos - 1

/-- Whether the chip journals: only one that serves has changes of its own to commit (Table 22-2); a standby's journal holds what
its active streams to it (R552).
(Log entry 87: DEDUCED.) -/
def State.journals (s : State) : Bool :=
  match s.pair.st with
  | .takingOver | .activePaired | .activeHold | .activeSolo | .handingOver => true
  | _ => false

/-- Whether an entry that enters the journal now commits at once: a chip without a partner's acknowledgement to wait for
commits as the entry enters the buffer (R18, Table 22-2).
(Log entry 87: DEDUCED.) -/
def State.commitsAtOnce (s : State) : Bool :=
  decide (s.pair.st = .activeSolo) && decide (s.journalFill < journalBuffer ∧ s.journalBytes < s.journalRoom) && !s.saveHalts &&
    s.saveRoom && !s.restarting 9 && (s.store.journal.getLast?.map JEntry.committed).getD true

/-- Partner port `p`. -/
def State.partnerPort (s : State) (p : Nat) : PartnerPort := if p = 0 then s.ports.partner0 else s.ports.partner1

/-- The state with a partner port set. -/
def State.setPartnerPort (s : State) (p : Nat) (x : PartnerPort) : State :=
  { s with ports := if p = 0 then { s.ports with partner0 := x } else { s.ports with partner1 := x } }

/-- The partner key, slot 3 of vault domain 16, where the slot is occupied (R633). -/
def State.partnerKey (s : State) : Option (List Byte) :=
  ((Map.getD s.vault.copies (16, 3) []).head?.filter fun (c : VaultCopy) => decide (c.kind ≠ 0)).map VaultCopy.key

/-- The 16-byte tag of a frame's header and body: zero while the partner key is not set (R633, R635). -/
def State.partnerTag (s : State) (msg : List Byte) : List Byte :=
  match s.partnerKey with
  | some k => (hmac k msg).take 16
  | none => List.replicate 16 0

/-- The frames of a message whose first frame has Seq `seq`: fragments are numbered, and Seq rises by 1 with each (R633). -/
def State.partnerFrames (s : State) (type seq : Nat) (body : List Byte) : List (List Byte) :=
  let l := bodyParts body
  ((List.range l.length).zip l).map fun x =>
    let h : PartnerHead := { type := type, chipB := s.rdB Rec.Pair.ChipLetter, more := decide (x.1 + 1 < l.length), region := s.rd Rec.Pair.RegionNumber,
                             boot := s.pow.bootCount, seq := seq + x.1, frag := x.1, length := x.2.length }
    h.bytes ++ x.2 ++ s.partnerTag (h.bytes ++ x.2)

/-- A message sent on a partner port (R633), under a header that carries this chip's letter and RegionNumber (R16); a port whose link is down sends nothing.
(Log entry 88: DESIGN CHOICE.) -/
def State.sendPartner (s : State) (p type : Nat) (words : List Nat) (data : List Byte := []) : State :=
  let x := s.partnerPort p
  if x.link then
    let l := s.partnerFrames type x.nextSeq (bodyBytes words data)
    let s := s.setPartnerPort p { x with nextSeq := x.nextSeq + l.length }
    let m : PartnerSend := {
      port := p, type := type, seq := x.nextSeq, chipB := s.rd Rec.Pair.ChipLetter, region := s.rd Rec.Pair.RegionNumber,
      boot := s.pow.bootCount, words := words, data := data, frames := l }
    ({ s with ports := { s.ports with partnerSends := s.ports.partnerSends ++ [m] } }).count { name := .partnerOut, a := p, b := type } l.length
  else s

/-- A checkpoint begins, in the area that neither of the two newest committed generations uses, or joins the running one (R465). -/
def State.startCheckpoint (s : State) : State :=
  match s.store.running with
  | some _ => s
  | none =>
    let area := (([0, 1, 2].find? fun a => s.store.generations.all fun (g : Generation) => g.area != a)).getD 0
    let g : Generation := { gen := s.store.nextGen, area := area, startPos := s.newestPos, endPos := 0, started := s.stamp, epoch := s.pair.epoch }
    { s with store := { s.store with running := some g, nextGen := s.store.nextGen + 1, ckptMs := s.time.ms } }

/-- The journal, in bytes, that the partner would replay from the StartPos of its newest counted generation (R554). -/
def State.toReplay (s : State) : Nat :=
  match s.store.generations.find? fun (g : Generation) => s.pair.partnerGenerations.head? == some g.gen with
  | some g => ((s.store.journal.filter fun (e : JEntry) => decide (g.startPos ≤ e.position)).map JEntry.size).sum
  | none => 0

/-- The replay is kept below ReplayLimitGiB: half of it starts a checkpoint, all of it raises `pair.replay_long` (R554). -/
def State.watchReplay (s : State) : State :=
  let limit := s.rd Rec.Pair.ReplayLimitGiB * 2 ^ 30
  let n := s.toReplay
  let s := if limit < 2 * n then s.startCheckpoint else s
  if limit ≤ n ∧ ¬s.pair.replayLongRaised then
    ({ s with pair := { s.pair with replayLongRaised := true } }).raise .pairReplayLong 0 [n]
  else s

/-- An entry as the stream carries it: the pair record is never sent, only its Position is (R567).
(Log entry 111: DESIGN CHOICE.) -/
def JEntry.sent (e : JEntry) : JEntry := match e.body with
  | .config 0x1400 _ _ _ _ => { e with body := .words [] }
  | _ => e

/-- An entry goes to the partner (R552). -/
def State.streamEntry (s : State) (e : JEntry) : State :=
  (s.count { name := .pairStreamed }).sendPartner 0 2 (0 :: e.sent.wire)

/-- An entry at the back of the journal, under the next Position; its stamp is issued (R462). -/
def State.addEntry (s : State) (e : JEntry) : State :=
  let s := s.issued e.stamp
  let s := { s with store := { s.store with journal := s.store.journal ++ [e], nextPos := s.store.nextPos + 1 } }
  { s with time := { s.time with newestJournalStamp := max e.stamp s.time.newestJournalStamp } }

/-- A journal that holds as much as it has room for raises its event once (R463). -/
def State.watchRoom (s : State) : State :=
  if s.journalRoom ≤ s.journalBytes ∧ ¬s.store.fullRaised then
    ({ s with store := { s.store with fullRaised := true } }).raise .storeJournalFull 0 [0]
  else s

/-- An entry goes to the partner while the pair streams (R552). -/
def State.passEntry (s : State) (e : JEntry) : State :=
  if s.pair.streaming then (s.streamEntry e).watchReplay else s

/-- A change enters the journal under the next Position (R462); the entry commits at once, or waits for the partner
(R18) or for room (R463). A chip that does not serve journals nothing.
(Log entry 87: DEDUCED.) -/
def State.journal (s : State) (kind : JKind) (tenant object : Nat) (body : JBody) (objSeq : Nat := 0) : State :=
  if !s.journals then s
  else
    let e : JEntry := { position := s.store.nextPos, objSeq := objSeq, kind := kind, tenant := tenant, object := object,
                        stamp := s.stamp, body := body, committed := s.commitsAtOnce }
    ((s.addEntry e).watchRoom).passEntry e

/-- An object goes to the partner as it stands, under the Position it belongs to.
(Log entry 110: DESIGN CHOICE.) -/
def State.streamKept (s : State) (position : Nat) (k : Kept) : State := s.sendPartner 0 2 (2 :: position :: k.words ++ s.keptWords k)

/-- The journal with an object named in its newest entry, with what the object was before where that is kept. -/
def alsoLast (k : Kept) (was : Option (List Nat)) : List JEntry → List JEntry
  | [] => []
  | [e] => [{ e with
      also := addNew e.also [k]
      undo := match was with
        | some w => if e.undo.any fun u => u.1 == k then e.undo else e.undo ++ [(k, w)]
        | none => e.undo }]
  | e :: l => e :: alsoLast k was l

/-- Whether an object is put back as it was where the entry it changed with is lost (R21): a meter's and a zone's state. Those of
the other kinds follow their own rules at a restart.
(Log entry 150: DESIGN CHOICE.) -/
def Kept.undone : Kept → Bool
  | .meter _ | .zone _ => true
  | _ => false

/-- An object named in the newest entry, as it stands now. -/
def State.nameKept (s : State) (k : Kept) : State :=
  let was := (Map.get? s.store.base k).getD (({} : State).keptWords k)
  { s with store := { s.store with
    journal := alsoLast k (if k.undone then some was else none) s.store.journal
    base := if k.undone then Map.put s.store.base k (s.keptWords k) else s.store.base } }

/-- An object that the recovery guarantee covers has changed with the newest entry: the entry names it, and the partner gets it as it
stands (Table 22-5).
(Log entry 111: DESIGN CHOICE.) -/
def State.carry (s : State) (k : Kept) : State :=
  if !s.journals then s
  else
    let s := s.nameKept k
    if s.pair.streaming then s.streamKept ((s.store.journal.getLast?.map JEntry.position).getD 0) k else s

/-- Several objects. -/
def State.carryAll (s : State) (l : List Kept) : State := l.foldl State.carry s

/-- Whether the entry of a Position has committed; an entry no longer kept has. -/
def State.posCommitted (s : State) (p : Nat) : Bool :=
  match s.store.journal.find? (fun e => e.position == p) with
  | some e => e.committed
  | none => decide (p < s.store.nextPos)

/-- The Position of the newest entry kept; TakeoverPos where there is none. -/
def State.lastPos (s : State) : Nat := (s.store.journal.getLast?.map JEntry.position).getD s.pair.takeoverPos

/-- The newest committed Position. -/
def State.committedPos (s : State) : Nat :=
  ((s.store.journal.filter JEntry.committed).getLast?.map JEntry.position).getD s.pair.takeoverPos

/-! ### Units under the enable rule (R40 to R42, Tables 2-6 and 2-7) -/

/-- A unit under the enable rule. -/
def State.unit (s : State) (u : UnitId) : EnUnit := Map.getD s.arch.units u {}

/-- The state with a unit set. -/
def State.setUnit (s : State) (u : UnitId) (x : EnUnit) : State :=
  { s with arch := { s.arch with units := Map.put s.arch.units u x } }

/-- The state of a unit. -/
def State.unitSt (s : State) (u : UnitId) : UnitSt := (s.unit u).st

/-- Whether a unit is ON. -/
def State.unitOn (s : State) (u : UnitId) : Bool := decide (s.unitSt u = .on)

/-- What an enable does to a unit's state and what it answers (Table 2-6); a unit fenced by R42 refuses. -/
def enableUnit (x : EnUnit) : EnUnit × Status :=
  if x.fenced then (x, .refusedState) else
    match x.st with
    | .off => ({ x with st := .starting, deferred := false }, .done)
    | .starting => (x, .done)
    | .on => (x, .done)
    | .stopping _ => ({ x with st := .stopping true }, .deferred)

/-- What a disable does to a unit's state at time `ms` and what it answers (Table 2-6). -/
def disableUnit (ms : Nat) (x : EnUnit) : EnUnit × Status :=
  if x.fenced then (x, .done) else
    match x.st with
    | .off => (x, .done)
    | .starting => ({ x with st := .stopping false, stopAt := ms }, .done)
    | .on => ({ x with st := .stopping false, stopAt := ms }, .done)
    | .stopping _ => ({ x with st := .stopping false }, .done)

/-- What reaching the end state does (R41): OFF, or STARTING at once with the reason `deferred` where an enable was
held. -/
def endUnit (x : EnUnit) : EnUnit :=
  match x.st with
  | .stopping true => { x with st := .starting, deferred := true }
  | .stopping false => { x with st := .off }
  | _ => x

/-- The end state not reached within the stop bound (R42): fenced, counted as OFF, any held enable dropped. -/
def overrunUnit (x : EnUnit) : EnUnit × Bool :=
  match x.st with
  | .stopping h => ({ x with st := .off, fenced := true }, h)
  | _ => (x, false)

/-- A unit's number in event payloads and the word that says its kind.
(Log entry 135: DEDUCED.) -/
def UnitId.word : UnitId → Nat
  | .lane n => n
  | .context n => 0x10000 + n
  | .lingTx n => 0x20000 + n
  | .dcBlock n => 0x30000 + n

/-- The stop bound of a unit in ms (Table 2-7). -/
def UnitId.stopBound : UnitId → Nat
  | .lane _ => 50
  | .context _ => 2
  | .lingTx _ => 10
  | .dcBlock _ => 1

/-! ### Channels and sessions -/

/-- Mailbox channel n. -/
def State.chan (s : State) (n : Nat) : Channel := Map.getD s.mail.chans n { respVec := n, notifyVec := n }

/-- The state with a channel set. -/
def State.setChan (s : State) (n : Nat) (c : Channel) : State :=
  { s with mail := { s.mail with chans := Map.put s.mail.chans n c } }

/-- The state with a channel changed. -/
def State.modChan (s : State) (n : Nat) (f : Channel → Channel) : State := s.setChan n (f (s.chan n))

/-- The open session of a channel. -/
def State.session (s : State) (n : Nat) : Option Session := (s.chan n).session

/-- The causes of `session.closed` (Table 3-13), in the order of its choices. -/
inductive CloseCause where
  | command | reset | idle | revoked | tagFailures | hostPort | rebound | tunnelClosed
  deriving DecidableEq, Repr

/-- The 0-based position of a cause in its list (R504). -/
def CloseCause.code : CloseCause → Nat
  | .command => 0 | .reset => 1 | .idle => 2 | .revoked => 3
  | .tagFailures => 4 | .hostPort => 5 | .rebound => 6 | .tunnelClosed => 7

/-- A session closes (R66): its identity is void, the notifications waiting for it are discarded, those not yet delivered counting in
LostBefore (R57), and the fragments of an unfinished request end, a recorder hold and a bundle
assembly of the session end with it (R516, R576), and `session.closed` is raised.
(Log entry 7: DEDUCED. Log entry 142: DEDUCED.) -/
def State.closeSession (s : State) (n : Nat) (cause : CloseCause) : State :=
  match s.session n with
  | none => s
  | some x =>
    let s := s.modChan n fun c => { c with
      session := none, notes := [], assembly := none, badTags := 0, overflowed := false,
      lostBefore := min (c.lostBefore + (c.notes.length - 1)) 65535 }
    let s := { s with
      ev := { s.ev with hold := match s.ev.hold with
                | some h => if h.sessionId = x.id ∧ h.ch = n then none else some h
                | none => none },
      upd := { s.upd with bundle := match s.upd.bundle with
                | some b => if b.sessionId = x.id then none else some b
                | none => none } }
    s.raise .sessionClosed x.tenant [n, cause.code]

/-- An MSI-X table entry: address, data, vector control; the mask bit is set after reset (PCI Express).
(Log entry 12: PRESUMED.) -/
def State.msix (s : State) (vec : Nat) : Nat × Nat × Nat := Map.getD s.mail.msixTable vec (0, 0, 1)

/-- A vector is signalled: its message is sent, or its pending bit is set while the vector is masked or the function is
not in D0 (R50, R508, R630, R668).
(Log entry 12: PRESUMED.) -/
def State.signal (s : State) (vec : Nat) : State :=
  if (s.msix vec).2.2 % 2 = 1 ∨ s.pow.host = .d3hot ∨ s.pow.host = .d3cold then
    { s with mail := { s.mail with msixPending := if s.mail.msixPending.contains vec then s.mail.msixPending
        else s.mail.msixPending ++ [vec] } }
  else { s with mail := { s.mail with msixSent := s.mail.msixSent ++ [vec] } }

/-- Who issues a command: the channel, the session (role code, tenant, slot, identity), the body sent, and whether the
request came without a session. -/
structure Caller where
  ch : Nat
  role : Nat
  tenant : Nat
  slot : Nat
  sessionId : Nat
  tagged : Bool
  body : List Byte
  deriving DecidableEq, Repr

/-- Role codes of Table 3-6. -/
def Caller.isObserver (c : Caller) : Bool := c.tagged
def Caller.isOperator (c : Caller) : Bool := c.tagged && c.role == 1 && c.tenant == 0
def Caller.isTenantAdmin (c : Caller) (t : Nat) : Bool := c.tagged && c.role == 2 && c.tenant == t
def Caller.isOfficer (c : Caller) : Bool := c.tagged && c.role == 3 && c.tenant == 0
def Caller.isService (c : Caller) : Bool := c.tagged && c.role == 4 && c.tenant == 0

/-- The owner of a tenant's objects in the sense of R298: the operator for tenant 0, the administrator for a sealable
tenant, either for a shared tenant. -/
def Caller.isOwner (c : Caller) (t : Nat) : Bool :=
  if t = 0 then c.isOperator
  else if t ≤ 8 then c.isTenantAdmin t
  else c.isTenantAdmin t || c.isOperator

/-- Whether a session sees an event of a tenant (R509). -/
def Caller.seesEvent (c : Caller) (t : Nat) : Bool :=
  c.role == 3 || (if c.tenant = 0 then decide (t = 0 ∨ 9 ≤ t) else c.tenant == t)

/-- Whether a session sees the objects of a tenant (R60, R538, Table 21-5): a session of tenant t sees tenant t; a
tenant-0 session sees every tenant that is not sealed. -/
def State.sees (s : State) (c : Caller) (t : Nat) : Bool :=
  if c.tenant = t then true
  else if c.tenant = 0 then decide (t = 0 ∨ 9 ≤ t) || !(s.isSealed t || s.isReleasing t)
  else false

/-- A command's answer: its status, its results as 8-byte slots (R504), and further bytes. -/
structure Reply where
  status : Status
  slots : List Nat := []
  data : List Byte := []
  deriving DecidableEq, Repr

/-- The body of a reply. -/
def Reply.body (r : Reply) : List Byte := r.slots.flatMap (le 8) ++ r.data

/-- The first check that fails decides the status (R58); where none fails the command runs. Each check is a condition
that must hold, with the status returned where it does not. -/
def gated (s : State) (checks : List (Bool × Status)) (run : State → Reply × State) : Reply × State :=
  match checks.find? (fun c => !c.1) with
  | some c => ({ status := c.2 }, s)
  | none => run s

/-- The same for a command that only reads. -/
def gatedRead (checks : List (Bool × Status)) (run : Reply) : Reply :=
  match checks.find? (fun c => !c.1) with
  | some c => { status := c.2 }
  | none => run

/-- Whether the body holds `n` argument slots of 8 bytes (step 8 of Table 3-4; DESIGN CHOICE, assumption 5).
(Log entry 5: DESIGN CHOICE.) -/
def Caller.slots (c : Caller) (n : Nat) : Bool := c.body.length == 8 * n

/-- The caller of a request on a channel, if its session is still the open one. -/
def State.caller (s : State) (n : Nat) (r : Request) : Option Caller :=
  if r.tagged then
    match s.session n with
    | some x => if x.id = r.sessionId then some ⟨n, x.role, x.tenant, x.slot, x.id, true, r.body⟩ else none
    | none => none
  else some ⟨n, 0, 0, 0, 0, false, r.body⟩

/-- The response to a request is computed, which ends a run of TAG_FAILED responses (R63): the channel keeps it until COMMAND_RESPONSE_READY places it. -/
def State.respond (s : State) (n : Nat) (r : Request) (y : Reply) : State :=
  s.modChan n fun c => { c with
    request := none,
    await := none,
    badTags := 0,
    response := some { code := r.cmd.code, status := y.status, body := y.body, seq := r.seq, corr := r.corr,
                       sessionId := r.sessionId, tagged := r.tagged } }

/-- The object a request touches, as far as its body names it: the domain byte of its command and its first argument, or for the
record commands those of the record (R8, R53).
(Log entry 161: DESIGN CHOICE.) -/
def Request.object (r : Request) : Nat × Nat :=
  if r.cmd = .ctrlRecordWrite then (leAt r.body 1 1, leAt r.body 4 4)
  else if r.cmd = .ctrlRecordDefault then (leAt r.body 1 1, leAt r.body 8 8)
  else (r.cmd.code / 256, leAt r.body 0 8)

/-- Whether a request must wait for one on another channel that touches the same object, was accepted before it and has not been
executed (R53). -/
def State.waitsFor (s : State) (n : Nat) (r : Request) : Bool :=
  s.mail.chans.any fun e => e.1 != n && e.2.await.isNone && (e.2.request.any fun (x : Request) => decide (x.order < r.order) && x.object == r.object)

/-- The request on channel n for a command, once its turn has come (R53). -/
def State.requestFor (s : State) (n : Nat) (cmd : Cmd) : Option Request :=
  match (s.chan n).request with
  | some r => if r.cmd = cmd ∧ !s.waitsFor n r then some r else none
  | none => none

/-- The commands a chip in HELD accepts (R648): reads, and the CTRL, VAULT, UPDATE, STORE and POWER commands. -/
def Cmd.heldAccepts (k : Cmd) : Bool :=
  let d := k.code / 256
  d == 0x01 || d == 0x0A || d == 0x10 || d == 0x15 || d == 0x18 || k.isRead

/-- Whether a status is one of steps 7 to 9 of Table 3-4, which precede the checks of the chip's own state.
(Log entry 11: DEDUCED.) -/
def Status.early : Status → Bool
  | .refusedRole | .badLength | .badArgument | .badRecord | .absentUnit | .absentCapacity | .noSession => true
  | _ => false

/-- The checks of the chip's own state on a command's outcome: a chip in HELD answers every command it does not accept
with REFUSED_STATE (R648), and so does a chip that saves, for a command whose effect must be journaled (R660).
(Log entry 11: DEDUCED.) -/
def State.chipGate (s : State) (cmd : Cmd) (o : Reply × State) : Reply × State :=
  if s.pow.stage = 0x0F ∧ !cmd.heldAccepts ∧ !o.1.status.early then ({ status := .refusedState }, s)
  else if s.saveHalts ∧ o.2.store.nextPos ≠ s.store.nextPos then ({ status := .refusedState }, s)
  else o

/-- The frame of every mailbox command (R50, R58, R66): where channel n holds a request for the command, its steps 7 to
13 run and the response is computed; a request whose session has closed since is answered NO_SESSION. Where the channel
holds no such request the command does not occur and nothing changes. -/
def State.command (s : State) (n : Nat) (cmd : Cmd) (run : Caller → State → Reply × State) : State :=
  match s.requestFor n cmd with
  | none => s
  | some r =>
    match s.caller n r with
    | none => s.respond n r { status := .noSession }
    | some c =>
      let o := s.chipGate cmd (run c s)
      o.2.respond n r o.1

/-- The frame of a mailbox command whose response may come later: where `run` answers none, the request stays on its
channel until another row ends it with `finish`, or the command's own row occurs again.
(Log entry 23: DESIGN CHOICE.) -/
def State.commandLater (s : State) (n : Nat) (cmd : Cmd) (run : Caller → State → Option Reply × State) : State :=
  match s.requestFor n cmd with
  | none => s
  | some r =>
    match s.caller n r with
    | none => s.respond n r { status := .noSession }
    | some c =>
      match run c s with
      | (some y, s') =>
        let o := s.chipGate cmd (y, s')
        o.2.respond n r o.1
      | (none, s') =>
        if s.pow.stage = 0x0F ∧ !cmd.heldAccepts then s.respond n r { status := .refusedState } else s'

/-- The response of a command that waited on channel n. -/
def State.finish (s : State) (n : Nat) (cmd : Cmd) (y : Reply) : State :=
  match s.requestFor n cmd with
  | none => s
  | some r => s.respond n r y

/-- A mailbox command that only reads. -/
def State.readCommand (s : State) (n : Nat) (cmd : Cmd) (read : Caller → State → Reply) : State :=
  s.command n cmd fun c s => (read c s, s)

/-- A mailbox command whose answer may wait for another row, and whose change commits before its answer is returned (R18, R74): where
its journal entry has not committed, the answer waits on the channel, and the row occurs again once it has. A command that has
begun so answers with its own status though its session has closed since (R66, R78).
(Log entry 42: DEDUCED.) -/
def State.commitLater (s : State) (n : Nat) (cmd : Cmd) (run : Caller → State → Option Reply × State) : State :=
  match s.requestFor n cmd, (s.chan n).await with
  | some r, some (p, st, slots, data) => if s.posCommitted p then s.respond n r { status := st, slots := slots, data := data } else s
  | _, _ => s.commandLater n cmd fun c s =>
    match run c s with
    | (none, s') => (none, s')
    | (some y, s') =>
      let o := s.chipGate cmd (y, s')
      if o.2.store.nextPos = s.store.nextPos ∨ o.2.posCommitted o.2.newestPos then (some o.1, o.2)
      else (none, o.2.modChan n fun x => { x with await := some (o.2.newestPos, o.1.status, o.1.slots, o.1.data) })

/-- The same for a command that answers at once but for its commit. -/
def State.commitCommand (s : State) (n : Nat) (cmd : Cmd) (run : Caller → State → Reply × State) : State :=
  s.commitLater n cmd fun c s => ((some (run c s).1), (run c s).2)

/-- An event raised at most once in `period` ms for an object.
(Log entry 39: DEDUCED.) -/
def State.raiseEvery (s : State) (period : Nat) (e : Ev) (key tenant : Nat) (payload : List Nat) : State :=
  let due := match Map.get? s.marks (e, key) with
    | some t => decide (t + period ≤ s.time.ms)
    | none => true
  if due then ({ s with marks := Map.put s.marks (e, key) s.time.ms }).raise e tenant payload else s

/-- An event raised once for an object. -/
def State.raiseOnce (s : State) (e : Ev) (key tenant : Nat) (payload : List Nat) : State :=
  if Map.has s.marks (e, key) then s
  else ({ s with marks := Map.put s.marks (e, key) s.time.ms }).raise e tenant payload

/-- An hour and a day in ms. -/
def hourMs : Nat := 3600000
def dayMs : Nat := 86400000

end Sys2Proof.Machine
end

