-- ==== Sys2Proof/Machine/Arbiter.lean ====
section
/-! DEFINITION. The fabric arbiter (R29, R528 to R530): how receive contexts, crypto operations, record-engine time, flash
bandwidth and fabric bandwidth go to tenants, in quanta, round by round. -/

namespace Sys2Proof.Machine

open Sys2Proof

/-- The resources the arbiter allocates (R29). -/
inductive Resource where
  | contexts | crypto | engines | flash | fabric
  deriving DecidableEq, Repr

/-- A resource's number, in R29's order. -/
def Resource.code : Resource → Nat
  | .contexts => 0 | .crypto => 1 | .engines => 2 | .flash => 3 | .fabric => 4

def Resource.all : List Resource := [.contexts, .crypto, .engines, .flash, .fabric]

/-- The quanta of one round: entries for contexts, else what the implementation fixes. -/
def Resource.quanta : Resource → Nat
  | .contexts => 4096
  | r => Config.roundQuanta r.code

/-- A tenant's reserved quantum of a round: CtxReserve entries, or its permille share (R528, R530); an OPEN tenant's shares have no
effect. -/
def State.reserveOf (s : State) (r : Resource) (t : Nat) : Nat :=
  if s.isSealed t then
    match r with
    | .contexts => s.rd Rec.Tenant.CtxReserve t
    | .crypto => r.quanta * s.rd Rec.Tenant.CryptoPermille t / 1000
    | .engines => r.quanta * s.rd Rec.Tenant.EnginePermille t / 1000
    | .flash => r.quanta * s.rd Rec.Tenant.FlashPermille t / 1000
    | .fabric => r.quanta * s.rd Rec.Tenant.FabricPermille t / 1000
  else 0

/-- The terms a round is arbitrated under: each tenant's reserved quantum, the pooled quantum that remains, and the weights in
it. -/
structure Terms where
  reserve : Map Nat Nat
  pool : Nat
  weight : Map Nat Nat

/-- The terms of a resource. -/
def State.terms (s : State) (r : Resource) : Terms :=
  let l := (List.range 16).map fun t => (t, s.reserveOf r t)
  { reserve := l, pool := r.quanta - (l.map Prod.snd).sum, weight := (List.range 16).map fun t => (t, s.rd Rec.Tenant.PoolWeight t) }

/-- What a tenant has left of its own reserve: what it used and what is lent is gone. -/
def Terms.left (k : Terms) (x : ArbRes) (t : Nat) : Nat :=
  Map.getD k.reserve t 0 - Map.getD x.own t 0 - Map.getD x.lent t 0

/-- The first tenant whose unused reserve may be lent to another: one that has asked itself in this round lends nothing more
(R29). -/
def Terms.lender (k : Terms) (x : ArbRes) (t : Nat) : Option Nat :=
  (List.range 16).find? fun l => l != t && !x.asked.contains l && decide (0 < k.left x l)

/-- One quantum granted to a tenant: from its own reserve, else from the pooled quantum while it has any left, else on loan for
this round (R29, R529); none where the round has nothing left for it. -/
def Terms.grant (k : Terms) (x : ArbRes) (t : Nat) : Option ArbRes :=
  let y := { x with granted := Map.upd x.granted t 0 (· + 1) }
  if 0 < k.left x t then some { y with own := Map.upd x.own t 0 (· + 1) }
  else if x.pool < k.pool then some { y with pool := x.pool + 1 }
  else (k.lender x t).map fun l =>
    { y with lent := Map.upd x.lent l 0 (· + 1), borrowed := Map.upd x.borrowed t 0 (· + 1), loans := Map.upd x.loans l 0 (· + 1) }

/-- Up to `n` quanta granted to a tenant, and how many could not be. -/
def Terms.grants (k : Terms) (x : ArbRes) (t : Nat) : Nat → ArbRes × Nat
  | 0 => (x, 0)
  | n + 1 => match k.grant x t with
    | some y => k.grants y t n
    | none => (x, n + 1)

/-- One turn of deficit round-robin (R29): a waiting tenant's deficit grows by its PoolWeight, and it takes as many quanta as that
covers; an emptied queue keeps no deficit. -/
def Terms.turn (k : Terms) (x : ArbRes) (t : Nat) : ArbRes :=
  let want := Map.getD x.waiting t 0
  if want = 0 then x
  else
    let credit := Map.getD x.deficit t 0 + Map.getD k.weight t 0
    let y := k.grants x t (min want credit)
    let got := min want credit - y.2
    { y.1 with waiting := Map.put y.1.waiting t (want - got), deficit := Map.put y.1.deficit t (if want = got then 0 else credit - got) }

/-- Turns of all tenants until nothing waits or a whole cycle grants nothing. -/
def Terms.cycle (k : Terms) : Nat → ArbRes → ArbRes
  | 0, x => x
  | n + 1, x =>
    let y := (List.range 16).foldl k.turn x
    if y.waiting = x.waiting ∨ (Map.vals y.waiting).sum = 0 then y else k.cycle n y

/-- A round begins: reserves and the pool stand again, every loan ends, and the work that waits is served first. -/
def Terms.fresh (k : Terms) (round : Nat) (x : ArbRes) : ArbRes :=
  if x.round = round then x
  else
    let x := { x with round := round, own := [], pool := 0, lent := [], asked := [] }
    k.cycle ((Map.vals x.waiting).sum + 1) x

/-- Work of a tenant asks for `n` quanta: what the round cannot give waits for the next and is never dropped (R529). -/
def Terms.ask (k : Terms) (round t n : Nat) (x : ArbRes) : ArbRes :=
  let x := k.fresh round x
  let x := { x with asked := if x.asked.contains t then x.asked else x.asked ++ [t] }
  if Map.getD x.waiting t 0 ≠ 0 then { x with waiting := Map.upd x.waiting t 0 (· + n) }
  else
    let y := k.grants x t n
    { y.1 with waiting := Map.put y.1.waiting t y.2, since := Map.put y.1.since t round }

/-- The round the model shows is one of the model's clock.
(Log entry 162: DESIGN CHOICE.) -/
def State.round (s : State) : Nat := s.time.ms

/-- A resource of the arbiter. -/
def State.arb (s : State) (r : Resource) : ArbRes := Map.getD s.ten.arb r.code {}

/-- The arbiter charges a tenant for work on a resource. -/
def State.charge (s : State) (r : Resource) (t n : Nat) : State :=
  { s with ten := { s.ten with arb := Map.put s.ten.arb r.code ((s.terms r).ask s.round t n (s.arb r)) } }

/-- The arbiter charges the pooled quantum, as for retro and listen contexts (R145): to the operator, which has no reserve. -/
def State.chargePool (s : State) (r : Resource) (n : Nat) : State := s.charge r 0 n

/-- For how long work of a tenant has waited for a resource, in ms: 0 where none waits. -/
def State.waited (s : State) (r : Resource) (t : Nat) : Nat :=
  let x := s.arb r
  if Map.getD x.waiting t 0 = 0 then 0 else s.round - Map.getD x.since t 0

/-- The totals of a tenant over the resources, as 48-bit counters (R544). -/
def State.quantaOf (s : State) (f : ArbRes → Map Nat Nat) (t : Nat) : List Nat :=
  Resource.all.map fun r => Map.getD (f (s.arb r)) t 0 % 2 ^ 48

/-- The clock reaches a new round: work that waits is served. -/
def State.nextRound (s : State) : State :=
  { s with ten := { s.ten with arb := Resource.all.foldl (fun m r =>
      if Map.has m r.code then Map.upd m r.code {} ((s.terms r).fresh s.round) else m) s.ten.arb } }

end Sys2Proof.Machine
end

