-- ==== Sys2Proof/Machine/Rom.lean ====
section
/-! DEFINITION. The response ROM (Table 5-3, R124). -/

namespace Sys2Proof.Machine

/-- A response: decimation, pass band from and to, stop band below and above (thousandths of the stage output rate; 0 and
500 where it has no such edge), ripple (10 000ths of a dB), attenuation (dB), delay (stage input samples). -/
structure RomEntry where
  dec : Nat
  passFrom : Nat
  passTo : Nat
  stopBelow : Nat
  stopAbove : Nat
  ripple : Nat
  atten : Nat
  delay : Nat
  deriving DecidableEq, Repr

/-- Entries 0 to 15. -/
def rom0 : List RomEntry :=
  [⟨2, 0, 100, 0, 900, 5, 90, 7⟩,
   ⟨2, 0, 150, 0, 850, 5, 90, 9⟩,
   ⟨2, 0, 200, 0, 800, 5, 90, 9⟩,
   ⟨2, 0, 250, 0, 750, 5, 90, 11⟩,
   ⟨2, 0, 300, 0, 700, 5, 90, 15⟩,
   ⟨2, 0, 350, 0, 650, 5, 90, 19⟩,
   ⟨2, 0, 400, 0, 600, 5, 90, 27⟩,
   ⟨2, 0, 450, 0, 550, 5, 90, 53⟩,
   ⟨2, 0, 100, 0, 900, 170, 60, 5⟩,
   ⟨2, 0, 150, 0, 850, 170, 60, 5⟩,
   ⟨2, 0, 200, 0, 800, 170, 60, 7⟩,
   ⟨2, 0, 250, 0, 750, 170, 60, 7⟩,
   ⟨2, 0, 300, 0, 700, 170, 60, 9⟩,
   ⟨2, 0, 350, 0, 650, 170, 60, 11⟩,
   ⟨2, 0, 400, 0, 600, 170, 60, 17⟩,
   ⟨2, 0, 450, 0, 550, 170, 60, 33⟩]

/-- Entries 16 to 31. -/
def rom16 : List RomEntry :=
  [⟨2, 0, 50, 0, 100, 1000, 80, 123⟩,
   ⟨2, 0, 50, 0, 100, 1000, 60, 96⟩,
   ⟨2, 0, 50, 0, 200, 1000, 80, 41⟩,
   ⟨2, 0, 50, 0, 200, 1000, 60, 32⟩,
   ⟨2, 0, 100, 0, 150, 1000, 80, 123⟩,
   ⟨2, 0, 100, 0, 150, 1000, 60, 96⟩,
   ⟨2, 0, 100, 0, 250, 1000, 80, 41⟩,
   ⟨2, 0, 100, 0, 250, 1000, 60, 32⟩,
   ⟨2, 0, 150, 0, 200, 1000, 80, 123⟩,
   ⟨2, 0, 150, 0, 200, 1000, 60, 96⟩,
   ⟨2, 0, 150, 0, 300, 1000, 80, 41⟩,
   ⟨2, 0, 150, 0, 300, 1000, 60, 32⟩,
   ⟨2, 0, 200, 0, 250, 1000, 80, 123⟩,
   ⟨2, 0, 200, 0, 250, 1000, 60, 96⟩,
   ⟨2, 0, 200, 0, 350, 1000, 80, 41⟩,
   ⟨2, 0, 200, 0, 350, 1000, 60, 32⟩]

/-- Entries 32 to 47. -/
def rom32 : List RomEntry :=
  [⟨2, 0, 250, 0, 300, 1000, 80, 123⟩,
   ⟨2, 0, 250, 0, 300, 1000, 60, 96⟩,
   ⟨2, 0, 250, 0, 400, 1000, 80, 41⟩,
   ⟨2, 0, 250, 0, 400, 1000, 60, 32⟩,
   ⟨2, 0, 300, 0, 350, 1000, 80, 123⟩,
   ⟨2, 0, 300, 0, 350, 1000, 60, 96⟩,
   ⟨2, 0, 300, 0, 450, 1000, 80, 41⟩,
   ⟨2, 0, 300, 0, 450, 1000, 60, 32⟩,
   ⟨2, 0, 350, 0, 400, 1000, 80, 123⟩,
   ⟨2, 0, 350, 0, 400, 1000, 60, 96⟩,
   ⟨2, 0, 350, 0, 500, 1000, 80, 41⟩,
   ⟨2, 0, 350, 0, 500, 1000, 60, 32⟩,
   ⟨2, 0, 400, 0, 450, 1000, 80, 123⟩,
   ⟨2, 0, 400, 0, 450, 1000, 60, 96⟩,
   ⟨2, 0, 400, 0, 550, 1000, 80, 41⟩,
   ⟨2, 0, 400, 0, 550, 1000, 60, 32⟩]

/-- Entries 48 to 63. -/
def rom48 : List RomEntry :=
  [⟨4, 0, 50, 0, 100, 1000, 80, 245⟩,
   ⟨4, 0, 50, 0, 200, 1000, 80, 82⟩,
   ⟨4, 0, 100, 0, 150, 1000, 80, 245⟩,
   ⟨4, 0, 100, 0, 250, 1000, 80, 82⟩,
   ⟨4, 0, 150, 0, 200, 1000, 80, 245⟩,
   ⟨4, 0, 150, 0, 300, 1000, 80, 82⟩,
   ⟨4, 0, 200, 0, 250, 1000, 80, 245⟩,
   ⟨4, 0, 200, 0, 350, 1000, 80, 82⟩,
   ⟨4, 0, 250, 0, 300, 1000, 80, 245⟩,
   ⟨4, 0, 250, 0, 400, 1000, 80, 82⟩,
   ⟨4, 0, 300, 0, 350, 1000, 80, 245⟩,
   ⟨4, 0, 300, 0, 450, 1000, 80, 82⟩,
   ⟨4, 0, 350, 0, 400, 1000, 80, 245⟩,
   ⟨4, 0, 350, 0, 500, 1000, 80, 82⟩,
   ⟨4, 0, 400, 0, 450, 1000, 80, 245⟩,
   ⟨4, 0, 400, 0, 550, 1000, 80, 82⟩]

/-- Entries 64 to 79. -/
def rom64 : List RomEntry :=
  [⟨4, 0, 50, 0, 200, 1000, 60, 64⟩,
   ⟨4, 0, 100, 0, 250, 1000, 60, 64⟩,
   ⟨4, 0, 150, 0, 300, 1000, 60, 64⟩,
   ⟨4, 0, 200, 0, 350, 1000, 60, 64⟩,
   ⟨4, 0, 250, 0, 400, 1000, 60, 64⟩,
   ⟨4, 0, 300, 0, 450, 1000, 60, 64⟩,
   ⟨4, 0, 350, 0, 500, 1000, 60, 64⟩,
   ⟨4, 0, 400, 0, 550, 1000, 60, 64⟩,
   ⟨1, 0, 50, 0, 150, 1000, 60, 24⟩,
   ⟨1, 0, 100, 0, 200, 1000, 60, 24⟩,
   ⟨1, 0, 150, 0, 250, 1000, 60, 24⟩,
   ⟨1, 0, 200, 0, 300, 1000, 60, 24⟩,
   ⟨1, 0, 250, 0, 350, 1000, 60, 24⟩,
   ⟨1, 0, 300, 0, 400, 1000, 60, 24⟩,
   ⟨1, 0, 350, 0, 450, 1000, 60, 24⟩,
   ⟨1, 0, 400, 0, 500, 1000, 60, 24⟩]

/-- Entries 80 to 95. -/
def rom80 : List RomEntry :=
  [⟨2, 0, 400, 0, 600, 10, 100, 45⟩,
   ⟨2, 0, 425, 0, 575, 10, 100, 60⟩,
   ⟨2, 0, 450, 0, 550, 10, 100, 89⟩,
   ⟨2, 0, 475, 0, 525, 10, 100, 178⟩,
   ⟨2, 0, 400, 0, 600, 10, 80, 38⟩,
   ⟨2, 0, 425, 0, 575, 10, 80, 50⟩,
   ⟨2, 0, 450, 0, 550, 10, 80, 75⟩,
   ⟨2, 0, 475, 0, 525, 10, 80, 150⟩,
   ⟨1, 100, 225, 75, 250, 1000, 60, 96⟩,
   ⟨1, 100, 225, 50, 275, 1000, 60, 48⟩,
   ⟨1, 100, 225, 75, 250, 1000, 80, 123⟩,
   ⟨1, 100, 225, 50, 275, 1000, 80, 62⟩,
   ⟨1, 100, 500, 75, 500, 1000, 60, 96⟩,
   ⟨1, 100, 500, 50, 500, 1000, 60, 48⟩,
   ⟨1, 100, 500, 75, 500, 1000, 80, 123⟩,
   ⟨1, 100, 500, 50, 500, 1000, 80, 62⟩]

/-- The 96 responses. -/
def rom : List RomEntry := rom0 ++ rom16 ++ rom32 ++ rom48 ++ rom64 ++ rom80

/-- The response of an index.
(Log entry 30: UNVERIFIED.) -/
def romAt (i : Nat) : RomEntry := rom.getD i ⟨1, 0, 0, 0, 0, 0, 0, 0⟩

/-- Taps of a response (R115). -/
def RomEntry.taps (e : RomEntry) : Nat := 2 * e.delay + 1

end Sys2Proof.Machine
end

