-- ==== Sys2Proof/Machine/Dsp.lean ====
section
/-! DEFINITION. The stages of channelisation (R109 to R118, R126): narrowing, the fs/4 mix and half-band, the channeliser, the NCO mixer,
CIC, FIR stages and gain, over integer words. Coefficients are constants of Config. -/

namespace Sys2Proof.Machine

open Sys2Proof

/-! ### Words (R109) -/

/-- A word without its low `k` bits, rounded to nearest, a tie to the even neighbour (R109). -/
def roundEven (k : Nat) (x : Int) : Int :=
  let p : Int := (2 ^ k : Nat)
  let q := x / p
  let r := 2 * (x % p)
  if r < p then q else if p < r then q + 1 else if q % 2 = 0 then q else q + 1

/-- A word held within `w` bits. -/
def clampWord (w : Nat) (x : Int) : Int := max (-(2 ^ (w - 1) : Nat)) (min x ((2 ^ (w - 1) : Nat) - 1))

/-- A word narrowed by `k` bits to `w` bits, convergently and saturating, and whether it saturated. -/
def narrow (w k : Nat) (x : Int) : Int × Bool :=
  let y := roundEven k x
  (clampWord w y, decide (clampWord w y ≠ y))

/-- Both parts of a word narrowed. -/
def Cx.narrow (w k : Nat) (x : Cx) : Cx × Bool :=
  let a := Machine.narrow w k x.re
  let b := Machine.narrow w k x.im
  ({ re := a.1, im := b.1 }, a.2 || b.2)

/-- A register of `w` bits: two's complement, wrapping. -/
def wrapWord (w : Nat) (x : Int) : Int := toSigned w (ofSigned w x)

def Cx.add (a b : Cx) : Cx := { re := a.re + b.re, im := a.im + b.im }
def Cx.sub (a b : Cx) : Cx := { re := a.re - b.re, im := a.im - b.im }
def Cx.mul (a b : Cx) : Cx := { re := a.re * b.re - a.im * b.im, im := a.re * b.im + a.im * b.re }
def Cx.scale (k : Int) (a : Cx) : Cx := { re := k * a.re, im := k * a.im }
def Cx.conj (a : Cx) : Cx := { re := a.re, im := -a.im }
def Cx.wrap (w : Nat) (a : Cx) : Cx := { re := wrapWord w a.re, im := wrapWord w a.im }

/-- |x|². -/
def Cx.sq (a : Cx) : Nat := (a.re * a.re + a.im * a.im).toNat

/-- Two samples' flags together. -/
def SmpFlags.or (a b : SmpFlags) : SmpFlags :=
  { gap := a.gap || b.gap, erased := a.erased || b.erased, settling := a.settling || b.settling, sat := a.sat || b.sat }

/-- Whether a sample is missing to its consumers (R113). -/
def SmpFlags.missing (a : SmpFlags) : Bool := a.gap || a.erased || a.settling

/-- The flags of everything in a delay line: those of an output whose response spans it (R113). -/
def flagsOf (l : List Smp) : SmpFlags := l.foldl (fun f x => f.or x.f) {}

/-- A sample pushed into a delay line of `n` places, newest first. -/
def pushLine {α : Type} (n : Nat) (x : α) (l : List α) : List α := (x :: l).take n

/-! ### FIR stages -/

/-- The accumulator of a FIR over a delay line. -/
def firSum (coef : Nat → Int) (l : List Smp) : Cx :=
  (l.mapIdx fun i x => x.v.scale (coef i)).foldl Cx.add {}

/-- The output of a FIR stage whose coefficients have `k` fraction bits, in `w` bits. -/
def firOut (coef : Nat → Int) (w k : Nat) (l : List Smp) : Smp :=
  let y := (firSum coef l).narrow w k
  { v := y.1, f := { flagsOf l with sat := y.2 } }

/-- The coefficients of a ROM entry, the same from both ends (R124), as signed words. -/
def romCoef (width i k : Nat) : Int :=
  let n := (romAt i).taps
  toSigned width (Config.romCoefficient i (min k (n - 1 - k)))

/-! ### The fs/4 stage and the channeliser (R110 to R112) -/

/-- A real sample of period P times e^(−jπP/2): exact (R110, R112). -/
def fs4Mix (p : Nat) (x : Int) : Cx :=
  match p % 4 with
  | 0 => { re := x }
  | 1 => { im := -x }
  | 2 => { re := -x }
  | _ => { im := x }

/-- One pass of the FFT over `n` points: the points of every fourth output bin, for the four residues, narrowed convergently after the
pass; a twiddle has 17 fraction bits. -/
def fftPass (n drop : Nat) (l : List Cx) (q : Nat) : List Cx :=
  (List.range (n / 4)).map fun r =>
    let sum := (List.range 4).foldl (fun (a : Cx) m => a.add ((l.getD (r + n / 4 * m) {}).mul
      (match q * m % 4 with
       | 0 => { re := 1 }
       | 1 => { im := -1 }
       | 2 => { re := -1 }
       | _ => { im := 1 }))) {}
    let w := Config.twiddle (64 / n * (q * r) % 64)
    let y := sum.mul { re := w.1, im := w.2 }
    { re := roundEven drop y.re, im := roundEven drop y.im }

/-- Bin `k` of the 64-point FFT in three radix-4 passes. -/
def fftBin (l : List Cx) (k : Nat) : Cx :=
  ((fftPass 4 17 (fftPass 16 17 (fftPass 64 34 l (k % 4)) (k / 4 % 4)) (k / 16 % 4)).head?).getD {}

/-- The sub-band k of the half-band outputs `l`, newest first, where the newest is the n-th at 1.0 GSps from air time 0: the
prototype's products folded by their index from air time 0, so that every bin's shift has zero phase there (R112). -/
def subBand (l : List Smp) (n k : Nat) : Smp :=
  let products := l.mapIdx fun i (x : Smp) => ((n + 64 * 1024 - i) % 64, x.v.scale (Config.prototypeTap i))
  let folded := (List.range 64).map fun r => (products.filter fun e => e.1 == r).foldl (fun (a : Cx) e => a.add e.2) {}
  let y := (fftBin folded ((k + 32) % 64)).narrow 16 4
  { v := y.1, f := { flagsOf l with sat := y.2 } }

/-- One antenna sample of period P in the shared stages: the mix, and at every second period a half-band output. The answer says
whether the half-band saturated. -/
def Front.step (x : Front) (p : Nat) (v : Int) (f : SmpFlags) : Front × Bool :=
  let mix := pushLine 295 { v := fs4Mix p v, f := f } x.mix
  if p % 2 = 0 then
    let y := firOut Config.fs4Tap 16 17 mix
    ({ x with mix := mix, half := pushLine 1024 y x.half, next := p + 1 }, y.f.sat)
  else ({ x with mix := mix, next := p + 1 }, false)

/-- The group delay of the shared stages in periods (R119). -/
def frontDelay : Nat := 1170

/-- A delay line that holds samples of one flag. -/
def flagLine (n : Nat) (f : SmpFlags) : List Smp := List.replicate n { f := f }

/-- The shared stages before the sample of period p, with gaps in their delay lines. -/
def Front.gapped (p rem : Nat) : Front :=
  { next := p, rem := rem, mix := flagLine 295 { gap := true }, half := flagLine 1024 { gap := true } }

/-- Whether the channeliser gives outputs at a period: every 64 periods of the tag. -/
def frontDue (p : Nat) : Bool := decide (frontDelay ≤ p ∧ (p - frontDelay) % 64 = 0)

/-! ### A channel's chain (R117, R118) -/

/-- The NCO mixer at a channeliser sample of period P: phase FreqWord × (P / 64) mod 2^32, times e^(−jφ), narrowed to 14 bits (R117). -/
def ncoMix (freqWord : Int) (p : Nat) (x : Smp) : Smp :=
  let w := Config.ncoWave (ofSigned 32 (freqWord * (p / 64 : Nat)))
  let y := (x.v.mul { re := w.1, im := -w.2 }).narrow 14 19
  { v := y.1, f := { x.f with sat := y.2 } }

/-- A sample through the five integrators, each 48 bits and wrapping (R118): the new integrators. -/
def integrate (x : Cx) : List Cx → List Cx
  | [] => []
  | a :: l =>
    let y := (a.add x).wrap 48
    y :: integrate y l

/-- A decimated sample through the five combs, each 48 bits and wrapping: the output and the new delays. -/
def combLine (x : Cx) : List Cx → Cx × List Cx
  | [] => (x, [])
  | d :: l =>
    let r := combLine ((x.sub d).wrap 48) l
    (r.1, x :: r.2)

/-- How many inputs the response of a CIC spans. -/
def cicSpan (dc : Nat) : Nat := 5 * (dc - 1) + 1

/-- One input sample of a CIC. -/
def Cic.push (c : Cic) (dc : Nat) (x : Smp) : Cic :=
  { c with ints := integrate x.v c.ints, recent := pushLine (cicSpan dc) x.f c.recent }

/-- The output of a CIC at its low rate, in `w` bits scaled by 2^(up − 5·log2 Dc) (Table 5-1); at Dc 1 it is bypassed and the scaling only
widens the word (R118). -/
def Cic.out (c : Cic) (log2Dc w up : Nat) (x : Smp) : Cic × Smp :=
  if log2Dc = 0 then (c, { v := x.v.scale ((2 ^ up : Nat) : Int), f := { x.f with sat := false } })
  else
    let r := combLine (c.ints.getLast?.getD {}) c.combs
    let v := r.1.scale ((2 ^ (up - 5 * log2Dc) : Nat) : Int)
    let y := v.narrow w (5 * log2Dc - up)
    ({ c with combs := r.2 }, { v := y.1, f := { (c.recent.foldl SmpFlags.or {}) with sat := y.2 } })

/-- What a chain is made of: Dc as a power of two, half-band and final ROM entries, decimation of the final, word and coefficient width,
and the CIC's scaling. -/
structure ChainSpec where
  log2Dc : Nat
  hbs : List Nat
  fin : Nat
  width : Nat := 18
  coef : Nat := 18
  up : Nat := 4

/-- A chain with gaps in its delay lines: those of the samples that never came. -/
def Chain.gapped (k : ChainSpec) : Chain :=
  { cic := { recent := List.replicate (cicSpan (2 ^ k.log2Dc)) { gap := true } },
    hbs := k.hbs.map fun e => flagLine (romAt e).taps { gap := true }, fin := flagLine (romAt k.fin).taps { gap := true } }

/-- The stages whose saturations are counted apart (R137): fs/4 half-band, channeliser, NCO mixer, CIC, half-bands, final, gain,
delivery.
(Log entry 163: DESIGN CHOICE.) -/
def satStages : Nat := 8

/-- The half-band stages of a chain from stage `h` on: the index `m` counts the inputs from air time 0, so that equal channels decimate at equal
air times (R112). The answer has the new delay lines, the sample that passed all of them, if one did, and how often they
saturated. -/
def hbStages (k : ChainSpec) : List Nat → List (List Smp) → Nat → Smp → List (List Smp) × Option (Smp × Nat) × Nat
  | [], _, m, x => ([], some (x, m), 0)
  | e :: es, lines, m, x =>
    let line := pushLine (romAt e).taps x (lines.headD [])
    if m % 2 = 0 then
      let y := firOut (romCoef k.coef e) k.width (k.coef - 1) line
      let r := hbStages k es lines.tail (m / 2) y
      (line :: r.1, r.2.1, bit y.f.sat + r.2.2)
    else (line :: lines.tail, none, 0)

/-- One input of a chain after its mixer, the m-th from air time 0: the new delay lines, the output sample if one falls due, and the
saturations of CIC, half-bands and final. -/
def Chain.step (c : Chain) (k : ChainSpec) (m : Nat) (x : Smp) : Chain × Option Smp × List Nat :=
  let dc := 2 ^ k.log2Dc
  let cic := c.cic.push dc x
  if m % dc ≠ 0 then ({ c with cic := cic }, none, [0, 0, 0])
  else
    let (cic, y) := cic.out k.log2Dc k.width k.up x
    let r := hbStages k k.hbs c.hbs (m / dc) y
    match r.2.1 with
    | none => ({ c with cic := cic, hbs := r.1 }, none, [bit y.f.sat, r.2.2, 0])
    | some (z, m') =>
      let line := pushLine (romAt k.fin).taps z c.fin
      if m' % (romAt k.fin).dec ≠ 0 then ({ cic := cic, hbs := r.1, fin := line }, none, [bit y.f.sat, r.2.2, 0])
      else
        let w := firOut (romCoef k.coef k.fin) k.width (k.coef - 1) line
        ({ cic := cic, hbs := r.1, fin := line }, some w, [bit y.f.sat, r.2.2, bit w.f.sat])

/-- Gain: a word times GainWord, unsigned 2.16. -/
def gainOut (gain w : Nat) (x : Smp) : Smp :=
  let y := (x.v.scale gain).narrow w 16
  { v := y.1, f := { x.f with sat := y.2 } }

/-- Delivery of `w`-bit words in `n` bits. -/
def deliver (w n : Nat) (x : Smp) : Smp :=
  let y := x.v.narrow n (w - n)
  { v := y.1, f := { x.f with sat := y.2 } }

/-! ### The DC-block (R126) -/

/-- The DC-block's next estimate (R126): e + (x − e) × 2^−DcK, both with the same fraction bits, rounded convergently. -/
def dcStep (k : Nat) (e x : Int) : Int := e + roundEven k (x - e)

/-- The DC-block of a word against an estimate with `frac` fraction bits: y = x − e with e rounded convergently to the word. -/
def dcOut (frac : Nat) (e x : Cx) : Cx := { re := x.re - roundEven frac e.re, im := x.im - roundEven frac e.im }

end Sys2Proof.Machine
end

