-- ==== Sys2Proof/Machine/Combine.lean ====
section
/-! DEFINITION. Alignment, combining and tracking of a context's branches (R151 to R154), over its alignment buffers. -/

namespace Sys2Proof.Machine

open Sys2Proof

/-! ### Modes (Table 6-1, R156) -/

/-- The required Dtot of a mode. -/
def modeDtot (m : Nat) : Nat :=
  if m = 0 then 256 else if m ≤ 2 then 512 else if m ≤ 5 then 64 else if m ≤ 9 then 32 else 1024

/-- The spacing S of a mode's samples in air-time periods (R151). -/
def modeSpacing (m : Nat) : Nat := 64 * modeDtot m

/-- The symbol (or chip) rate of a mode in Bd (Tables 6-7 and 7-1); mode N runs at its faster submode's.
(Log entry 164: DESIGN CHOICE.) -/
def modeBaud (m : Nat) : Nat :=
  if m = 0 then 9600 else if m ≤ 2 then 2400 else if m ≤ 5 then 32768 else if m ≤ 9 then 100000 else 4800

/-! ### Decibels -/

/-- The largest k with 10^k ≤ x, for x at least 1. -/
def floorLog10 (x : Nat) : Nat :=
  let d := Nat.log2 x * 30103 / 100000
  if 10 ^ (d + 1) ≤ x then d + 1 else if 10 ^ d ≤ x then d else d - 1

/-- The smallest k with x ≤ 10^k. -/
def ceilLog10 (x : Nat) : Nat :=
  let k := floorLog10 x
  if x ≤ 10 ^ k then k else k + 1

/-- 100 × log10 of a ratio, to the nearest whole: a ratio of powers in 0.1 dB. -/
def ratioDb (num den : Nat) : Int :=
  if num = 0 ∨ den = 0 then Config.snrOfZero num den
  else
    let twice : Int := if den ≤ num then (floorLog10 (num ^ 200 / den ^ 200) : Int) else -(ceilLog10 (ceilDiv (den ^ 200) (num ^ 200)) : Int)
    (twice + 1) / 2

/-- The SNR of a branch in 0.1 dB: |h|² / σ² (R153). -/
def BranchEst.snr (e : BranchEst) : Int := ratioDb e.h.sq e.var

/-- The place of the reference branch: the branch with the highest SNR at detection, the first of equals (R151). -/
def refBranch (l : List BranchEst) : Nat :=
  (l.mapIdx fun i e => (i, e.snr)).foldl (fun (a : Nat × Int) x => if a.2 < x.2 then x else a) (0, (l.head?.map BranchEst.snr).getD 0) |>.1

/-! ### The grid and the interpolator (R151) -/

/-- A sample's instant in ps. -/
def OutSmp.ps (x : OutSmp) : Nat := x.tag * 500 + x.rem

/-- A branch's alignment buffer, oldest sample first. -/
def RxCtx.samples (c : RxCtx) (p : Nat × Nat) : List OutSmp := (Map.getD c.buf p []).reverse

/-- T0 in ps: the tag of the reference branch's first sample after detection, or of its newest where none has followed (R151).
(Log entry 164: DESIGN CHOICE.) -/
def RxCtx.gridPs (c : RxCtx) : Nat :=
  let l := c.samples (c.branches.getD (refBranch c.est) (0, 0))
  match l.find? fun x => decide (c.detectAir ≤ x.tag) with
  | some x => x.ps
  | none => (l.getLast?.map OutSmp.ps).getD (c.detectAir * 500)

/-- The position x of an instant (ps) on a branch in 256ths of a sample, rounded to nearest (R151): its integer part, and μ. -/
def branchPos (spacing : Nat) (first : OutSmp) (tau : Int) (t : Int) : Int × Nat :=
  let unit : Int := spacing * 500
  let num := (t - first.ps) * 64 + tau * unit
  let q := (2 * 256 * num + 64 * unit) / (2 * 64 * unit)
  (q / 256, (q % 256).toNat)

/-- A branch at an instant: the cubic Farrow interpolation of the four samples about it (R151); none where one of them is flagged or
absent. -/
def branchAt (spacing : Nat) (l : List OutSmp) (tau : Int) (t : Int) : Option (Rat × Rat) :=
  match l.head? with
  | none => none
  | some first =>
    let p := branchPos spacing first tau t
    let get (i : Int) : Option OutSmp :=
      match l[i.toNat]? with
      | some x => if 0 ≤ i ∧ !x.f.missing ∧ (x.tag : Int) = first.tag + i * spacing then some x else none
      | none => none
    match get (p.1 - 1), get p.1, get (p.1 + 1), get (p.1 + 2) with
    | some a, some b, some c, some d =>
      some (Config.farrow a.v.re b.v.re c.v.re d.v.re p.2, Config.farrow a.v.im b.v.im c.v.im d.v.im p.2)
    | _, _, _, _ => none

/-! ### Weights and tracking (R153, R154) -/

/-- The product of two complex numbers. -/
def cmul (a b : Rat × Rat) : Rat × Rat := (a.1 * b.1 - a.2 * b.2, a.1 * b.2 + a.2 * b.1)

/-- A branch as the pass tracks it: gain and noise, whether it is below BranchMinSnr, whether its weight is held at 0 until an update
(R154), its samples of the present block since the last flagged one with the combined ones beside them, and at how many instants it had
weight. -/
structure Track where
  h : Rat × Rat
  var : Rat
  weak : Bool
  hold : Bool := false
  fresh : List ((Rat × Rat) × (Rat × Rat)) := []
  count : Nat := 0

/-- Whether a gain and a noise stand below BranchMinSnr (0.1 dB). -/
def belowMin (h : Rat × Rat) (var : Rat) (minSnr : Int) : Bool :=
  let g := h.1 * h.1 + h.2 * h.2
  if var = 0 then decide (Config.snrOfZero g.num.toNat 0 < minSnr)
  else decide (ratioDb ((g / var).num.toNat) ((g / var).den) < minSnr)

/-- A branch at detection. -/
def BranchEst.track (e : BranchEst) (minSnr : Int) : Track :=
  { h := (e.h.re, e.h.im), var := e.var, weak := decide (e.snr < minSnr) }

/-- The weight conj(h) / σ² of a branch (R154), where it has one. -/
def Track.weight (k : Track) : Rat × Rat := if k.weak ∨ k.hold then (0, 0) else (k.h.1 / k.var, -(k.h.2 / k.var))

/-- The update of a branch at the end of a block of TrackSymbols symbols: the loop coefficient is 1/8, and its SNR is tested again; it
releases a held weight (R154). A branch without a fresh sample keeps its estimates. -/
def Track.update (mode : Nat) (minSnr : Int) (k : Track) : Track :=
  if k.fresh.isEmpty then k
  else
    let y := k.fresh.reverse
    let g := Config.trackGain mode (y.map Prod.fst) (y.map Prod.snd)
    let v := Config.trackNoise mode (y.map Prod.fst) (y.map Prod.snd)
    let h := (k.h.1 + (g.1 - k.h.1) / 8, k.h.2 + (g.2 - k.h.2) / 8)
    let var := k.var + (v - k.var) / 8
    { k with h := h, var := var, weak := belowMin h var minSnr, hold := false, fresh := [] }

/-- The combined sample of an instant: Σ w y / Σ w h over the branches with weight; an erasure where every branch is flagged or none has
weight (R154). -/
def combine (l : List (Track × Option (Rat × Rat))) : Comb :=
  let on := l.filterMap fun e => e.2.map fun y => (e.1, y)
  let num := (on.map fun e => cmul e.1.weight e.2).foldl (fun (a : Rat × Rat) b => (a.1 + b.1, a.2 + b.2)) (0, 0)
  let den := (on.map fun e => (cmul e.1.weight e.1.h).1).foldl (· + ·) 0
  if den = 0 then { erased := true } else { re := num.1 / den, im := num.2 / den }

/-- A pass in progress: the branches, the block of TrackSymbols symbols, the combined samples so far, newest first, and by instant the
flagged branches. -/
structure PassSt where
  tracks : List Track
  block : Nat := 0
  out : List Comb := []
  flagged : List (List Nat) := []

/-- The carrier offset's phase at an instant (ps) from the frame start, as the NCO counts it. -/
def offsetPhase (freqHz : Int) (ps : Int) : Nat := ofSigned 32 (freqHz * ps * 2 ^ 32 / 1000000000000)

/-- A combined sample de-rotated by the carrier offset (R153). -/
def Comb.rotate (x : Comb) (freqHz ps : Int) : Comb :=
  let w := Config.ncoWave (offsetPhase freqHz ps)
  let y := cmul (x.re, x.im) ((w.1 : Rat) / 2 ^ 17, -(w.2 : Rat) / 2 ^ 17)
  { x with re := y.1, im := y.2 }

/-- One grid instant of a pass over a context's branches, late ones left out (R152, R154). -/
def RxCtx.passStep (c : RxCtx) (bufs : List (List OutSmp)) (a : PassSt) (t : Int) : PassSt :=
  let start : Int := c.frameStart.getD 0 * 500
  let block := ((t - start).toNat * modeBaud c.b.mode) / (c.pol.track * 1000000000000)
  let a := if block = a.block then a else { a with block := block, tracks := a.tracks.map (Track.update c.b.mode c.pol.minSnr) }
  let ys := a.tracks.mapIdx fun i k =>
    (k, if c.late.contains i then none else branchAt (modeSpacing c.b.mode) (bufs.getD i []) ((c.est.getD i {}).tau) t)
  let x := combine ys
  let step (e : Track × Option (Rat × Rat)) : Track :=
    match e.2 with
    | none => { e.1 with hold := true, fresh := [] }
    | some y => { e.1 with
        fresh := if x.erased then e.1.fresh else (y, (x.re, x.im)) :: e.1.fresh,
        count := e.1.count + bit (!e.1.weak && !e.1.hold) }
  let bad := (ys.mapIdx fun i e => (i, e.2.isNone)).filterMap fun e => if e.2 && !c.late.contains e.1 then some e.1 else none
  { a with tracks := ys.map step, out := x.rotate c.freqHz (t - start) :: a.out,
           flagged := if bad.isEmpty then a.flagged else bad :: a.flagged }

/-- The grid instants (ps) from the frame start through an end (air period). -/
def RxCtx.instants (c : RxCtx) (stop : Nat) : List Int :=
  let unit : Int := modeSpacing c.b.mode * 500
  let start : Int := c.frameStart.getD 0 * 500
  let first := start + (c.gridPs - start) % unit
  (List.range (((stop : Int) * 500 - first) / unit + 1).toNat).map fun (i : Nat) => first + i * unit

/-- The pass over a frame as far as an instant (R154). -/
def RxCtx.run (c : RxCtx) (stop : Nat) : PassSt :=
  let bufs := c.branches.map c.samples
  (c.instants stop).foldl (c.passStep bufs) { tracks := c.est.map fun e => e.track c.pol.minSnr }

/-- The final combining pass over a frame (R152, R154, R156). -/
def RxCtx.finalPass (c : RxCtx) : RxPass :=
  let r := c.run (c.endAir.getD 0)
  let used := (List.range r.tracks.length).filter fun i =>
    match r.tracks[i]? with
    | some k => decide (0 < k.count ∧ r.out.length ≤ 2 * k.count)
    | none => false
  { comb := r.out.reverse, used := used,
    weak := (List.range r.tracks.length).filter fun i => (r.tracks[i]?.map Track.weak).getD false,
    flaggedUs := (r.flagged.filter fun l => l.any used.contains).length * modeSpacing c.b.mode / 2000 }

end Sys2Proof.Machine
end

