-- ==== Sys2Proof/Machine/Units.lean ====
section
/-! DEFINITION. Unit addresses (R45), the regions' blocks and cells (Table 2-1), and the work items in the cells' queues (R26,
R27). -/

namespace Sys2Proof.Machine

open Sys2Proof

/-- A unit address: Region[15:12], Block[11:6], Cell[5:0]. -/
def unitAddr (r b c : Nat) : Nat := r * 4096 + b * 64 + c

/-- The region, block and cell of a unit address. -/
def addrRegion (a : Nat) : Nat := a / 4096
def addrBlock (a : Nat) : Nat := a / 64 % 64
def addrCell (a : Nat) : Nat := a % 64

/-- The blocks of a region by kind, as the number of blocks and the cells of each (Table 2-1); blocks are numbered in this
order: that of the table, but for the security region's crypto blocks, which stand at 1 to 4, since Table 12-3 has AES cells at 7.1.4,
7.2.0 and 7.3.2.
(Log entry 134: DESIGN CHOICE.) -/
def State.blockKinds (s : State) (r : Nat) : List (Nat × Nat) :=
  if ¬s.regionHere r then []
  else match r with
    | 0 | 1 | 2 | 3 => [(4, 4), (16, 1), (8, 32)]
    | 4 => [(16, 16), (8, 8), (8, 64), (1, 64)]
    | 5 => [(1, 8), (1, 8), (1, 4), (4, 16)]
    | 6 => [(16, 16), (4, 16)]
    | 7 => [(1, 8), (4, 21), (1, 8), (4, 8)]
    | 8 => [(4, 8)]
    | 9 => [(s.flashChannels, s.store.diesPer), (4, 1), (1, 4), (1, 2)]
    | 10 => [(1, 4), (1, 1), (1, 4), (1, 1), (1, 11), (1, 1), (1, 1)]
    | _ => []

/-- The blocks of a region, each with its kind and its cells. -/
def State.blocks (s : State) (r : Nat) : List (Nat × Nat) :=
  ((List.range 8).zip (s.blockKinds r)).flatMap fun k => List.replicate k.2.1 (k.1, k.2.2)

/-- A block's kind and cells, where it exists. -/
def State.block (s : State) (r b : Nat) : Option (Nat × Nat) := (s.blocks r)[b]?

/-- Whether a unit address names a cell, or with cell 0x3F a block, of a present region. -/
def State.unitHere (s : State) (a : Nat) : Bool :=
  match s.block (addrRegion a) (addrBlock a) with
  | some (_, n) => decide (a < 65536) && (addrCell a == 0x3F || decide (addrCell a < n))
  | none => false

/-- The cells of a region. -/
def State.regionCells (s : State) (r : Nat) : Nat := ((s.blocks r).map Prod.snd).sum

/-- The health of a cell. -/
def State.cell (s : State) (a : Nat) : CellHealth := Map.getD s.arch.cells a {}

/-- The state with a cell's health set. -/
def State.setCell (s : State) (a : Nat) (x : CellHealth) : State := { s with arch := { s.arch with cells := Map.put s.arch.cells a x } }

/-- The cells of a block. -/
def State.cellsOf (s : State) (r b : Nat) : List Nat :=
  match s.block r b with
  | some (_, n) => (List.range n).map (unitAddr r b)
  | none => []

/-- The kind of a cell within its block: a crypto block's AES, SHA-256 and ECC cells, and the backhaul, partner and host
cells of the port block, differ; the cells of any other block are alike (Table 2-1).
(Log entry 134: DESIGN CHOICE.) -/
def cellWithin (r kind c : Nat) : Nat :=
  if r = 7 ∧ kind = 1 then (if c < 16 then 0 else if c < 20 then 1 else 2)
  else if r = 10 ∧ kind = 4 then (if c < 8 then 0 else if c < 10 then 1 else 2)
  else 0

/-- The kind of a cell: its block's kind and its kind within the block. -/
def State.cellKind (s : State) (a : Nat) : Option (Nat × Nat) :=
  (s.block (addrRegion a) (addrBlock a)).map fun k => (k.1, cellWithin (addrRegion a) k.1 (addrCell a))

/-- The blocks of a block's kind in its region. -/
def State.sameKind (s : State) (r b : Nat) : List Nat :=
  match s.block r b with
  | some k => (List.range (s.blocks r).length).filter fun x => (s.block r x).map Prod.fst == some k.1
  | none => []

/-- The cells of a cell's kind in its region. -/
def State.kindCells (s : State) (a : Nat) : List Nat :=
  ((s.sameKind (addrRegion a) (addrBlock a)).flatMap (s.cellsOf (addrRegion a))).filter fun c => s.cellKind c == s.cellKind a

/-- Whether a block is fenced: as a whole, or because all its cells are (R32). -/
def State.blockFenced (s : State) (r b : Nat) : Bool :=
  s.arch.fencedBlocks.contains (unitAddr r b 0x3F) || (s.cellsOf r b).all fun a => (s.cell a).fenced

/-! ### Work items (R26, R27) -/

/-- The deadline of a cell's work items in ms, sub-millisecond deadlines as 0; none for a cell kind that Table 2-3 gives no
deadline. A die queue's is that of a page program. -/
def State.deadlineMs (s : State) (a : Nat) : Option Nat :=
  match addrRegion a, s.cellKind a with
  | 4, some (0, _) => some 1
  | 4, some (1, _) => some 2
  | 7, some (1, 2) => some 5
  | 7, some (1, _) => some 0
  | 7, some (3, _) => some 1
  | 8, some _ => some 50
  | 9, some (0, _) => some 5
  | r, some (2, _) => if r < 4 then some 0 else none
  | _, _ => none

/-- The depth of a cell's input queue: 4 to 64 items according to its kind (R26).
(Log entry 144: DESIGN CHOICE.) -/
def State.queueDepth (s : State) (a : Nat) : Nat :=
  let k := (s.cellKind a).getD (0, 0)
  max 4 (min 64 (Config.cellQueueDepth (addrRegion a) k.1 k.2))

/-- The items in a cell's input queue, oldest first. -/
def State.queueOf (s : State) (a : Nat) : List WorkItem := s.arch.work.filter fun (w : WorkItem) => w.cell == a

/-- A cell that may be given new work: neither fenced nor SLOW (R31, R38). -/
def State.cellWorks (s : State) (a : Nat) : Bool := !(s.cell a).fenced && !(s.cell a).slow

/-- Whether a cell accepts one more item: it may be given work and its queue is not full (R26). -/
def State.cellAccepts (s : State) (a : Nat) : Bool := s.cellWorks a && decide ((s.queueOf a).length < s.queueDepth a)

/-- The cells that may take the work of a cell, in the order they are tried (R27, R32, Table 2-3): the other cells of its kind
in its block, from the one after the cell granted last; for a flash die, failing that, the dies of other channels; for a block
that is fenced, the cells of the other blocks of its kind.
(Log entry 108: DESIGN CHOICE.) -/
def State.others (s : State) (a : Nat) : List Nat :=
  let r := addrRegion a
  let b := addrBlock a
  let l := (s.cellsOf r b).filter fun c => c != a && s.cellKind c == s.cellKind a
  let last := Map.getD s.arch.turn (unitAddr r b 0x3F) a
  let far := if (r = 9 ∧ b < s.flashChannels) ∨ s.blockFenced r b then (s.kindCells a).filter fun c => addrBlock c != b else []
  (l.filter fun c => decide (last < c)) ++ (l.filter fun c => decide (c ≤ last)) ++ far

/-- The cell that the work of a cell goes to next. -/
def State.nextCell (s : State) (a : Nat) : Option Nat := (s.others a).find? s.cellAccepts

/-- An item of a cell reissued under the next ticket to the next cell that accepts it; where none does, the block holds it: an
item is never dropped (R26, R27). -/
def State.reissue (s : State) (a item : Nat) : State :=
  match s.nextCell a with
  | some c =>
    let w : WorkItem := { ticket := s.arch.nextTicket, cell := c, item := item, dueMs := s.time.ms + (s.deadlineMs c).getD 0 }
    { s with arch := { s.arch with
      work := s.arch.work ++ [w]
      turn := Map.put s.arch.turn (unitAddr (addrRegion c) (addrBlock c) 0x3F) c
      nextTicket := s.arch.nextTicket + 1 } }
  | none => { s with arch := { s.arch with held := s.arch.held ++ [{ cell := a, item := item }] } }

/-- The items whose deadline has passed unreported have been returned (R27), and the blocks grant what they hold where a cell
accepts it again.
(Log entry 144: DESIGN CHOICE.) -/
def State.settleWork (s : State) : State :=
  let work := s.arch.work.filter fun (w : WorkItem) => decide (s.time.ms ≤ w.dueMs + 1)
  let held := s.arch.held
  let s := { s with arch := { s.arch with work := work, held := [] } }
  held.foldl (fun s (h : HeldItem) => s.reissue h.cell h.item) s

/-- The work of a cell that has been fenced goes to others: each ticket is revoked and its item reissued (R30, R32). -/
def State.reassign (s : State) (a : Nat) : State :=
  let l := s.queueOf a
  let s := { s with arch := { s.arch with
    work := s.arch.work.filter fun (w : WorkItem) => w.cell != a
    revoked := s.arch.revoked ++ l.map WorkItem.ticket } }
  (l.foldl (fun s (w : WorkItem) => s.reissue a w.item) s).count { name := .reissues, a := a } l.length

/-- The work of a region whose restart begins is lost with it (Table 2-5). -/
def State.workOut (s : State) (r : Nat) : State :=
  { s with arch := { s.arch with
    work := s.arch.work.filter fun (w : WorkItem) => addrRegion w.cell != r
    held := s.arch.held.filter fun (h : HeldItem) => addrRegion h.cell != r
    revoked := s.arch.revoked ++ (s.arch.work.filter fun (w : WorkItem) => addrRegion w.cell == r).map WorkItem.ticket } }

/-- Whether output that carries a ticket is discarded: the ticket has been revoked (R27). -/
def State.revokedTicket (s : State) (ticket : Nat) : Bool := s.arch.revoked.contains ticket

end Sys2Proof.Machine
end

