-- ==== Sys2Proof/Machine/Messages.lean ====
section
/-! DEFINITION. Messages on a channel: headers, tags, responses and notifications as bytes (R55, R57, R63, Table 3-3),
and the queue of notifications (R57, R508). -/

namespace Sys2Proof.Machine

open Sys2Proof

/-- The 32-byte message header (Table 3-3). `flags` holds Response, Notification, MoreFragments and Untagged as bits 0 to
3. -/
def msgHeader (flags code status frag bodyLen ch sess seq corr : Nat) : List Byte :=
  le 1 1 ++ le 1 flags ++ le 2 code ++ le 2 status ++ le 2 frag ++ le 2 bodyLen ++ le 1 ch ++ le 1 0 ++ le 4 sess ++
    le 4 seq ++ le 4 corr ++ le 8 0

/-- A message: header, body, and the tag under Ks, or a zero trailer where it is untagged (R60, R63). -/
def message (key : Option (List Byte)) (hdr body : List Byte) : List Byte :=
  hdr ++ body ++ (match key with
    | some ks => (hmac ks (hdr ++ body)).take 16
    | none => List.replicate 16 0)

/-- A body cut into fragments of at most 2 000 bytes; an empty body is one empty fragment (R56). -/
def fragmentsOf : Nat → List Byte → List (List Byte)
  | 0, b => [b]
  | n + 1, b => if b.length ≤ 2000 then [b] else b.take 2000 :: fragmentsOf n (b.drop 2000)

/-- The messages of a response, one per fragment (R55, R56). -/
def responseMessages (key : Option (List Byte)) (ch : Nat) (r : Response) : List (List Byte) :=
  let fs := fragmentsOf (r.body.length / 2000 + 1) r.body
  (List.range fs.length).map fun i =>
    let f := fs.getD i []
    let more := decide (i + 1 < fs.length)
    message key (msgHeader (1 + 4 * bit more + 8 * bit key.isNone) r.code r.status.code i f.length ch r.sessionId r.seq
      r.corr) f

/-- The body of a notification: prefix of R57, then the payload slots.
(Log entry 8: DESIGN CHOICE.) -/
def noteBody (n : Note) (lost : Nat) : List Byte :=
  le 2 n.source ++ le 2 lost ++ le 4 0 ++ le 8 n.stamp ++ n.payload.flatMap (le 8)

/-- Whether channel n is served through a head-end tunnel (R54, R78). -/
def State.tunnelled (s : State) (n : Nat) : Bool :=
  decide (16 ≤ n) && bitOn (s.rd Rec.SessionPolicy.TunnelMask) (n - 16)

/-- A head-end session. -/
def State.headEnd (s : State) (i : Nat) : HeadEndSession := Map.getD s.ports.sessions i {}

/-- The state with a head-end session set. -/
def State.setHeadEnd (s : State) (i : Nat) (x : HeadEndSession) : State :=
  { s with ports := { s.ports with sessions := Map.put s.ports.sessions i x } }

/-- The session that serves a tunnelled channel: the lowest enabled one whose TunnelChannels names it (R628). -/
def State.tunnelSession (s : State) (n : Nat) : Option Nat :=
  (List.range 32).find? fun i => s.rdB Rec.HeadEnd.Enabled i && bitOn (s.rd Rec.HeadEnd.TunnelChannels i) (n - 16)

/-- The path of a tunnelled channel: its serving session, while that is open. -/
def State.tunnelPath (s : State) (n : Nat) : Option Nat :=
  (s.tunnelSession n).filter fun i => decide ((s.headEnd i).st = .opened)

/-- A session frame given to TLS (Table 25-1), counted on the session's backhaul port.
(Log entry 88: DESIGN CHOICE.) -/
def State.sendFrame (s : State) (i type : Nat) (body : List Byte) : State :=
  let f := le 1 type ++ le 3 0 ++ le 4 body.length ++ body
  let p := s.rd Rec.HeadEnd.Port i
  let s := (s.setHeadEnd i { s.headEnd i with lastTxMs := s.time.ms }).count { name := .portFramesOut, a := p }
  let s := s.count { name := .portBytesOut, a := p } f.length
  { s with ports := { s.ports with wire := s.ports.wire ++ [(i, f)] } }

/-- A mailbox message sent on a tunnelled channel as a type-4 frame; without a path it is lost.
(Log entry 92: DEDUCED.) -/
def State.tunnelSend (s : State) (n : Nat) (m : List Byte) : State :=
  match s.tunnelPath n with
  | some i => s.sendFrame i 4 (le 1 n ++ le 3 0 ++ m)
  | none => s

/-- The vector of a channel's notifications is signalled, except on a tunnelled channel (R628) and in D3hot (R668). -/
def State.signalNote (s : State) (n : Nat) : State :=
  if s.tunnelled n || decide (s.pow.host = .d3hot) then s else s.signal (s.chan n).notifyVec

/-- The oldest pending notification is put into the notification buffer under the next notification sequence, which
sticks at 0xFFFF_FFFF (R57, R63, R64); on a tunnelled channel it leaves as a frame, which consumes it (R628).
(Log entry 8: DESIGN CHOICE.)
(Log entry 92: DEDUCED.) -/
def State.present (s : State) (n : Nat) : State :=
  match (s.chan n).notes, s.session n with
  | nt :: _, some x =>
    let body := noteBody nt (s.chan n).lostBefore
    let msg := message (some x.ks) (msgHeader 2 0 0 0 body.length n x.id x.notifySeq 0) body
    let tun := s.tunnelled n
    let s := if tun then s.tunnelSend n msg
      else { s with mail := { s.mail with buffers := bufStore s.mail.buffers (noteBuf n) msg } }
    s.modChan n fun c => { c with
      lostBefore := 0, notes := if tun then c.notes.drop 1 else c.notes,
      session := some { x with notifySeq := min (x.notifySeq + 1) 0xFFFFFFFF } }
  | _, _ => s

/-- A notification joins channel n's queue, or is discarded and counted where the queue holds NotifyDepth; the first
overflow since the queue was drained raises `mailbox.notify_lost` (R57). -/
def State.notify (s : State) (n : Nat) (nt : Note) : State :=
  if (s.session n).isNone then s
  else if (s.chan n).notes.length < s.rd Rec.SessionPolicy.NotifyDepth then
    let first := (s.chan n).notes.isEmpty
    let s := s.modChan n fun c => { c with notes := c.notes ++ [nt] }
    if first then (s.present n).signalNote n else s
  else
    let had := (s.chan n).overflowed
    let s := s.modChan n fun c => { c with
      notifyLost := (c.notifyLost + 1) % 2 ^ 32,
      lostBefore := min (c.lostBefore + 1) 65535, overflowed := true }
    if had then s else s.raise .mailboxNotifyLost 0 [n]

end Sys2Proof.Machine
end

