-- ==== Sys2Proof/Machine/Events.lean ====
section
/-! DEFINITION. Chapter 20: the event fabric, routing, triggers and the Barrow recorder (R503 to R525). -/

namespace Sys2Proof.Machine

open Sys2Proof

/-! ### The fabric and the trail -/

/-- A trail entry as bytes (Table 20-2), its payload withheld or not. -/
def TrailEntry.bytes (e : TrailEntry) (withheld : Bool) : List Byte :=
  let full := e.payload.flatMap (le 8)
  le 6 e.seq ++
    le 2 (e.ev.source + bit e.loss * 2 ^ 9 + bit withheld * 2 ^ 10 +
      bit (decide (40 < full.length) && !withheld) * 2 ^ 11 + e.tenant * 2 ^ 12) ++
    le 8 e.stamp ++ le 2 full.length ++ le 6 0 ++
    (if withheld then List.replicate 40 0 else slice full 0 40)

/-- A trail entry as a caller's scope shows it (R509). -/
def TrailEntry.shown (e : TrailEntry) (c : Caller) : List Byte := e.bytes (!c.seesEvent e.tenant)

/-- The trail with an entry appended, the oldest overwritten and counted beyond 16 384 entries (R506). -/
def State.appendTrail (s : State) (e : TrailEntry) : State :=
  let t := s.ev.trail ++ [e]
  if t.length ≤ 16384 then { s with ev := { s.ev with trail := t } }
  else
    let s := s.count { name := .trailOverwrites }
    { s with ev := { s.ev with trail := t.drop 1, trailLow := match t.drop 1 with
        | x :: _ => x.seq
        | [] => e.seq } }

/-- The fabric's new mark once Seq passes the mark less 2^19 (R520). -/
def advanceMark (seq mark : Nat) : Nat := if mark < seq + 2 ^ 19 then mark + 2 ^ 20 else mark

/-! ### Routing (R507 to R509) -/

/-- The caller that a channel's open session is, for questions of scope. -/
def State.sessionCaller (s : State) (n : Nat) : Option Caller :=
  (s.session n).map fun x => ⟨n, x.role, x.tenant, x.slot, x.id, true, []⟩

/-- The channels whose mask bit, session and scope admit an event (R507), the rate apart. -/
def State.routed (s : State) (e : TrailEntry) : List Nat :=
  (List.range 32).filter fun n =>
    bitOn (s.rd Rec.EventRouting.ChannelMask e.ev.source) n &&
      match s.sessionCaller n with
      | some c => c.seesEvent e.tenant
      | none => false

/-- The channels with an open security-officer session. -/
def State.officers (s : State) : List Nat :=
  (List.range 32).filter fun n =>
    match s.sessionCaller n with
    | some c => c.isOfficer
    | none => false

/-- An admitted event is delivered (`power.wake` has been placed by D0_RETURN already, R670): to the routed channels while the source's RatePerS for this second of legal time is
not used up, and to every security-officer session for the events of R508. An event the limit stops is counted, and
`event.rate_limited` is raised at most once per source per minute. -/
def State.route (s : State) (e : TrailEntry) (officer : Bool) : State :=
  let src := e.ev.source
  let r := Map.getD s.ev.rate src {}
  let sent := if r.second = s.legalS then r.sent else 0
  let targets := if e.ev = .powerWake then [] else s.routed e
  let forced := if officer then s.officers else []
  let limited := decide (s.rd Rec.EventRouting.RatePerS src ≤ sent)
  let go := if limited then forced else targets ++ forced.filter (fun n => !targets.contains n)
  let s := go.foldl (fun s n => s.notify n ⟨src, e.stamp, e.payload⟩) s
  let r' : RateSt := { r with second := s.legalS, sent := if limited || targets.isEmpty then sent else sent + 1 }
  let s := { s with ev := { s.ev with rate := Map.put s.ev.rate src r' } }
  if limited && !targets.isEmpty then
    let s := s.count { name := .evLimited, a := src }
    if r.limitedMinute = some s.minute then s else
      let s := { s with ev := { s.ev with rate := Map.put s.ev.rate src { r' with limitedMinute := some s.minute } } }
      s.raise .eventRateLimited 0 [src, s.ctr { name := .evLimited, a := src }]
  else s

/-- Events with Export 1 go out as type-3 frames on every open session whose KindMask selects events and whose tenant's
scope covers them (R521, R628). -/
def State.exportEvent (s : State) (e : TrailEntry) : State :=
  if s.rdB Rec.EventRouting.Export e.ev.source then
    let dst := (List.range 32).filter fun i =>
      decide ((s.headEnd i).st = .opened) && bitOn (s.rd Rec.HeadEnd.KindMask i) 0 &&
        Caller.seesEvent ⟨0, 0, s.recTenant Rec.HeadEnd.Enabled.rid i, 0, 0, true, []⟩ e.tenant
    { s with ports := { s.ports with eventFrames := s.ports.eventFrames ++ dst.map (fun i => (i, e.seq)) } }
  else s

/-! ### Triggers (R510 to R513) -/

/-- A trigger's settings (Table 20-10, Table 20-3). -/
structure TrigCfg where
  enabled : Bool
  prot : Bool
  source : Nat
  mask : Nat
  tenant : Nat := 16
  field : Nat := 0
  op : Nat := 0
  value : Nat := 0
  countN : Nat := 1
  windowMs : Nat := 1000
  holdoffMs : Nat := 0
  pre : Nat
  post : Nat
  postMs : Nat
  selectors : List Nat := []
  deriving DecidableEq, Repr

/-- The settings of trigger i: the trigger record for 0 to 31, Table 20-3 for 32 to 36. -/
def State.trigCfg (s : State) (i : Nat) : TrigCfg :=
  match i with
  | 32 => { enabled := true, prot := true, source := 311, mask := 0x1FF, pre := 2024, post := 0, postMs := 0 }
  | 33 => { enabled := true, prot := true, source := 308, mask := 0x1FF, pre := 1024, post := 1000, postMs := 2000 }
  | 34 => { enabled := true, prot := true, source := 342, mask := 0x1FF, pre := 1024, post := 1000, postMs := 2000 }
  | 35 => { enabled := true, prot := true, source := 345, mask := 0x1FF, pre := 2024, post := 0, postMs := 0 }
  | 36 => { enabled := true, prot := true, source := 340, mask := 0x1FF, pre := 512, post := 256, postMs := 500 }
  | i =>
    { enabled := s.rdB Rec.Trigger.Enable i, prot := s.rdB Rec.Trigger.Protect i, source := s.rd Rec.Trigger.Source i,
      mask := s.rd Rec.Trigger.SourceMask i, tenant := s.rd Rec.Trigger.TenantFilter i,
      field := s.rd Rec.Trigger.PayloadField i, op := s.rd Rec.Trigger.Op i, value := s.rd Rec.Trigger.Value i,
      countN := s.rd Rec.Trigger.CountN i, windowMs := s.rd Rec.Trigger.WindowMs i,
      holdoffMs := s.rd Rec.Trigger.HoldoffMs i, pre := s.rd Rec.Trigger.PreEvents i,
      post := s.rd Rec.Trigger.PostEvents i, postMs := s.rd Rec.Trigger.PostMs i,
      selectors := (List.range (s.rd Rec.Trigger.WordCount i)).map fun w => s.rd (Rec.Trigger.Selector w) i }

/-- The condition on a payload slot: Op 0 always holds, Ops 1 to 4 compare as signed 64-bit (R510). -/
def trigCond (t : TrigCfg) (payload : List Nat) : Bool :=
  if t.op = 0 then true else
    match payload[t.field]? with
    | none => false
    | some v =>
      let a := toSigned 64 v
      let b := toSigned 64 t.value
      match t.op with
      | 1 => decide (a = b)
      | 2 => decide (a ≠ b)
      | 3 => decide (b ≤ a)
      | _ => decide (a ≤ b)

/-- Whether an event matches a trigger (R510). -/
def trigMatches (t : TrigCfg) (e : TrailEntry) : Bool :=
  t.enabled && e.ev.source &&& t.mask == t.source &&& t.mask && (t.tenant == 16 || t.tenant == e.tenant) &&
    !decide (368 ≤ e.ev.source ∧ e.ev.source ≤ 383) && trigCond t e.payload

/-- The trigger's working state. -/
def State.trig (s : State) (i : Nat) : TrigSt := Map.getD s.ev.triggers i {}

/-- The state with a trigger's working state set. -/
def State.setTrig (s : State) (i : Nat) (t : TrigSt) : State :=
  { s with ev := { s.ev with triggers := Map.put s.ev.triggers i t } }

/-- The boot stage register HW_BOOT_STATUS (Table 3-1). -/
def State.bootStatus (s : State) : Nat :=
  s.pow.stage + bit s.mail.mailboxReady * 2 ^ 8 + bit s.mail.serviceReady * 2 ^ 9 +
    bit (decide (s.vault.st = .sealed)) * 2 ^ 10 + bit s.vault.tamperLatched * 2 ^ 11 +
    bit (!s.arch.debugClosed) * 2 ^ 12 + bit s.pow.testFail * 2 ^ 13

/-- The code of a legal-time state (Table 19-2). -/
def TimeSt.code : TimeSt → Nat
  | .free => 0 | .acquiring => 1 | .locked => 2 | .holdover => 3 | .partner => 4

/-- A miss of trigger i (R517): counted with its stamps, `barrow.missed` at most once per hour. -/
def State.missTrigger (s : State) (i : Nat) (stamp : Nat) : State :=
  let t := s.trig i
  let s := s.setTrig i { t with
    missed := min (t.missed + 1) 65535, missedSat := t.missedSat || t.missed + 1 ≥ 65535,
    firstMiss := some (t.firstMiss.getD stamp), lastMiss := some stamp }
  s.raiseEvery hourMs .barrowMissed i 0 [i, (s.trig i).missed]

/-- Trigger i fires on entry e (R512, R517): a snapshot of the same trigger that still collects counts one more
occurrence; otherwise a free slot takes a new snapshot, or the fire is missed. `look` reads a chosen word, and
`regionWord` a region's header word. -/
def State.fire (look : State → Nat → WordEntry) (regionWord : State → Nat → Nat) (s : State) (i : Nat) (t : TrigCfg)
    (e : TrailEntry) : State :=
  let s := s.setTrig i { s.trig i with holdoffEnd := s.time.ms + t.holdoffMs }
  if s.ev.slots.any (fun p => p.trigger == i && p.collecting) then
    { s with ev := { s.ev with slots := s.ev.slots.map fun p =>
        if p.trigger == i && p.collecting then { p with occurrences := min (p.occurrences + 1) 65535 } else p } }
  else if s.ev.slots.length < 56 then
    let pre := s.ev.trail.drop (s.ev.trail.length - t.pre)
    let snap : Snapshot :=
      { id := s.ev.nextSnapshot, trigger := i, prot := t.prot, trigSeq := e.seq, trigStamp := e.stamp,
        bootStatus := s.bootStatus, claim := s.claimWord, timeState := s.time.st.code,
        regionWords := (List.range 11).map (regionWord s), words := t.selectors.map (look s), pre := pre,
        postLimit := min t.post (2024 - pre.length), postEndMs := s.time.ms + t.postMs }
    let s := s.count { name := .snapshotsTaken, a := i }
    { s with ev := { s.ev with slots := s.ev.slots ++ [snap], nextSnapshot := s.ev.nextSnapshot + 1 } }
  else s.missTrigger i e.stamp

/-- Trigger i sees an admitted event: a match joins its window, and it fires where the matches within WindowMs reach
CountN and the holdoff is over (R510).
(Log entry 14: DEDUCED.) -/
def State.trigger (look : State → Nat → WordEntry) (regionWord : State → Nat → Nat) (e : TrailEntry) (s : State)
    (i : Nat) : State :=
  let t := s.trigCfg i
  if trigMatches t e then
    let x := s.trig i
    let hits := s.time.ms :: x.hits.filter (fun h => decide (s.time.ms ≤ h + t.windowMs))
    let s := s.setTrig i { x with hits := hits }
    if t.countN ≤ hits.length ∧ x.holdoffEnd ≤ s.time.ms then s.fire look regionWord i t e else s
  else s

/-- Snapshots that still collect take a later trail entry (R512 step 3). -/
def State.collect (s : State) (e : TrailEntry) : State :=
  { s with ev := { s.ev with slots := s.ev.slots.map fun p =>
      if p.collecting && decide (p.post.length < p.postLimit ∧ s.time.ms < p.postEndMs) then
        { p with post := p.post ++ [e] } else p } }

/-- The oldest raised event is admitted (R505): it takes the next Seq and the Loss flag, joins the trail, is offered to
collecting snapshots, routed, exported and matched against the triggers in ascending order. -/
def State.takeEvent (look : State → Nat → WordEntry) (regionWord : State → Nat → Nat) (s : State) : State :=
  match s.ev.queue with
  | [] => s
  | r :: q =>
    let e : TrailEntry := ⟨s.ev.nextSeq, r.ev, s.ev.lossPending, r.tenant, r.stamp, r.payload⟩
    let s := { s with ev := { s.ev with
      queue := q, lossPending := false, nextSeq := (s.ev.nextSeq + 1) % 2 ^ 48,
      seqMark := advanceMark s.ev.nextSeq s.ev.seqMark, lastStamp := Map.put s.ev.lastStamp r.ev.source r.stamp } }
    let s := s.count { name := .evAdmitted, a := r.ev.source }
    let s := (s.appendTrail e).collect e
    let s := (s.route e r.officer).exportEvent e
    (List.range 37).foldl (fun s i => s.trigger look regionWord e i) s

/-! ### Snapshots: completion, spill, hold (R512, R515, R516) -/

/-- Post collection of a snapshot ends: by count, by PostMs, or because the area is full (R512 step 3). -/
def execSnapshotComplete (id : Nat) (s : State) : Out :=
  match s.ev.slots.find? (fun p => p.id == id && p.collecting) with
  | none => .next s
  | some p =>
    if p.postLimit ≤ p.post.length ∨ p.postEndMs ≤ s.time.ms then
      let s := { s with ev := { s.ev with slots := s.ev.slots.map fun (q : Snapshot) =>
        if q.id == id then { q with collecting := false } else q } }
      .next (s.raise .barrowTriggered 0 [p.trigger, p.id, p.occurrences])
    else .next s

/-- A completed snapshot is copied to the recorder area and its slot freed (R515). A full area loses its oldest
snapshot that is neither Protected nor under a hold; where there is none the slot stays and `barrow.area_full` is raised
once. -/
def execSnapshotSpill (id : Nat) (s : State) : Out :=
  match s.ev.slots.find? (fun p => p.id == id && !p.collecting) with
  | none => .next s
  | some p =>
    let place (area : List Snapshot) (s : State) : State :=
      { s with ev := { s.ev with area := area ++ [p], slots := s.ev.slots.filter (fun q => !(q.id == id)) } }
    if s.ev.hold.isSome then .next s
    else if s.ev.area.length < 2048 then .next (place s.ev.area s)
    else
      match s.ev.area.find? (fun q => !q.prot) with
      | some old => .next (place (s.ev.area.filter (fun q => !(q.id == old.id))) s)
      | none =>
        if s.ev.areaFull then .next s else
          let s := { s with ev := { s.ev with areaFull := true } }
          .next ((s.count { name := .areaFull }).raise .barrowAreaFull 0 [s.ev.area.length])

/-- HoldMaxS passes and the hold ends (R516). -/
def execBarrowHoldExpired (s : State) : Out :=
  match s.ev.hold with
  | none => .next s
  | some h =>
    if h.endMs ≤ s.time.ms then
      .next ({ s with ev := { s.ev with hold := none } }.raise .barrowHoldExpired 0 [h.ch])
    else .next s

/-! ### Commands (Table 20-11) -/

/-- EVT.SOURCES_READ: the count of the sources of the range there are (R504), then routing applied, admitted, dropped, rate-limited, last Stamp
of each.
(Log entry 143: DEDUCED.) -/
def readEvtSources (first n : Nat) (c : Caller) (s : State) : Reply :=
  let l := ((List.range n).map (first + ·)).filter (· < 512)
  gatedRead [(c.isObserver, .refusedRole), (c.slots 2, .badLength), (decide (first < 512 ∧ n ≤ 64), .badArgument)]
    { status := .done, slots := l.length :: l.flatMap fun k =>
        [s.rd Rec.EventRouting.ChannelMask k, s.rd Rec.EventRouting.RatePerS k, s.rd Rec.EventRouting.Export k,
         s.ctr { name := .evAdmitted, a := k }, s.ctr { name := .evDropped, a := k },
         s.ctr { name := .evLimited, a := k }, slotOpt (Map.get? s.ev.lastStamp k)] }

/-- EVT.TRAIL_READ: the first entries of Seq `first` or above, as many as `n`, those outside the caller's scope withheld, and the Seqs from
`first` to `first + n - 1` that the trail held and has overwritten.
(Log entry 143: DEDUCED.) -/
def readEvtTrail (first n : Nat) (c : Caller) (s : State) : Reply :=
  let es := (s.ev.trail.filter fun e => decide (first ≤ e.seq)).take n
  let gone := ((List.range n).map (first + ·)).filter fun q => decide (s.ev.trailStart ≤ q ∧ q < s.ev.trailLow)
  gatedRead [(c.isObserver, .refusedRole), (c.slots 2, .badLength), (decide (n ≤ 256), .badArgument)]
    { status := .done,
      data := le 8 es.length ++ es.flatMap (fun e => e.shown c) ++ le 8 gone.length ++ gone.flatMap (le 8) }

/-- BARROW.LIST: the snapshots, then each trigger's missed count and stamps. -/
def readBarrowList (c : Caller) (s : State) : Reply :=
  gatedRead [(c.isObserver, .refusedRole), (c.slots 0, .badLength)]
    { status := .done,
      slots := (s.ev.slots.length + s.ev.area.length) ::
          (s.ev.slots.flatMap (fun p => [p.id, p.trigger, p.trigStamp, 0, bit p.prot]) ++
           s.ev.area.flatMap (fun p => [p.id, p.trigger, p.trigStamp, 1, bit p.prot])) ++
        (List.range 37).flatMap fun i =>
          let t := s.trig i
          [t.missed, slotOpt t.firstMiss, slotOpt t.lastMiss] }

def execEvtSourcesRead (ch first n : Nat) (s : State) : Out :=
  .next (s.readCommand ch .evtSourcesRead (readEvtSources first n))

def execEvtTrailRead (ch first n : Nat) (s : State) : Out :=
  .next (s.readCommand ch .evtTrailRead (readEvtTrail first n))

def execBarrowList (ch : Nat) (s : State) : Out := .next (s.readCommand ch .barrowList readBarrowList)

/-- BARROW.HOLD: freezes the recorder for the session; one hold at a time (R516). -/
def runBarrowHold (c : Caller) (s : State) : Reply × State :=
  gated s [(c.isOperator, .refusedRole), (c.slots 0, .badLength)] fun s =>
    match s.ev.hold with
    | some h => ({ status := .holdActive, slots := [h.sessionId] }, s)
    | none =>
      let endMs := s.time.ms + 1000 * s.rd Rec.RecorderPolicy.HoldMaxS
      ({ status := .done, slots := [s.stamp + s.rd Rec.RecorderPolicy.HoldMaxS * 2 ^ 24] },
        { s with ev := { s.ev with hold := some ⟨c.sessionId, c.ch, endMs⟩ } })

def execBarrowHold (ch : Nat) (s : State) : Out := .next (s.command ch .barrowHold runBarrowHold)

/-- Whether the caller's session holds the recorder. -/
def State.holds (s : State) (c : Caller) : Bool :=
  match s.ev.hold with
  | some h => h.sessionId == c.sessionId && h.ch == c.ch
  | none => false

/-- The header of a snapshot (Table 20-4). -/
def Snapshot.header (p : Snapshot) : List Byte :=
  le 4 0x57524142 ++ le 1 1 ++ le 1 (p.trigger + bit p.prot * 2 ^ 6) ++ le 2 p.occurrences ++ le 4 p.id ++
    le 6 p.trigSeq ++ le 2 0 ++ le 8 p.trigStamp ++ le 4 0 ++ le 1 p.words.length ++ le 1 0 ++ le 2 p.pre.length ++
    le 2 p.post.length ++ le 2 0 ++ le 4 p.bootStatus ++ le 8 p.claim ++ le 1 p.timeState ++ le 3 0 ++
    ((List.range 11).flatMap fun n => le 4 (p.regionWords.getD n 0)) ++ List.replicate 924 0

/-- A snapshot as bytes, the entries out of a caller's scope withheld (R514, R509). -/
def Snapshot.bytes (p : Snapshot) (c : Caller) : List Byte :=
  p.header ++
    slice (p.words.flatMap fun w => le 8 w.selector ++ le 4 w.value ++ le 2 w.status.code ++ le 2 0) 0 512 ++
    slice ((p.pre ++ p.post).flatMap fun e => e.shown c) 0 (2024 * 64)

/-- BARROW.READ: bytes of a snapshot, under the hold. -/
def readBarrow (id off len : Nat) (c : Caller) (s : State) : Reply :=
  gatedRead [(c.isOperator, .refusedRole), (c.slots 3, .badLength),
      (decide (len ≤ 262144 ∧ off ≤ 131072), .badArgument), (s.holds c, .refusedState)]
    (match (s.ev.slots ++ s.ev.area).find? (fun p => p.id == id) with
     | none => { status := .noSnapshot }
     | some p => { status := .done, data := ((p.bytes c).drop off).take len })

def execBarrowRead (ch id off len : Nat) (s : State) : Out :=
  .next (s.readCommand ch .barrowRead (readBarrow id off len))

/-- BARROW.RELEASE: ends the caller's hold. -/
def runBarrowRelease (c : Caller) (s : State) : Reply × State :=
  gated s [(c.isOperator, .refusedRole), (c.slots 0, .badLength), (s.holds c, .refusedState)] fun s =>
    ({ status := .done }, { s with ev := { s.ev with hold := none } })

def execBarrowRelease (ch : Nat) (s : State) : Out := .next (s.command ch .barrowRelease runBarrowRelease)

/-- BARROW.TRIGGER_NOW: fires a trigger by command; the newest trail entry ends its pre entries.
(Log entry 16: DEDUCED.) -/
def runBarrowTriggerNow (look : State → Nat → WordEntry) (regionWord : State → Nat → Nat) (i : Nat) (c : Caller)
    (s : State) : Reply × State :=
  gated s [(c.isService, .refusedRole), (c.slots 1, .badLength), (decide (i < 32), .badArgument)] fun s =>
    let e := s.ev.trail.getLastD ⟨s.ev.nextSeq - 1, .barrowTriggered, false, 0, s.stamp, []⟩
    let s' := s.fire look regionWord i (s.trigCfg i) { e with stamp := s.stamp }
    match s'.ev.slots.find? (fun p => p.trigger == i && p.collecting) with
    | some p => ({ status := .done, slots := [p.id] }, s')
    | none => ({ status := .refusedState }, s')

/-- A clear record as bytes (Table 20-7). -/
def ClearRec.bytes (r : ClearRec) : List Byte :=
  le 4 r.seq ++ le 1 r.initiator ++ le 1 r.approver ++ le 2 0 ++ le 8 r.stamp ++ le 6 r.lastSeq ++ le 2 0 ++
    le 4 r.cleared ++ le 4 0 ++ slice r.digest 0 32

/-- The next ClearSeq, if it has not stuck (R519). -/
def State.clearSeq (s : State) : Nat := (s.ev.clears.getLastD ⟨0, 0, 0, 0, 0, 0, []⟩).seq + 1

/-- The approved effect of BARROW.CLEAR (R518): the clear record is written, then the hold, the snapshots, the trail
and the missed counts are erased at one instant. The slots are the vault slots of the two credentials.
(Log entry 138: DEDUCED.) -/
def State.clearBarrow (s : State) (initiator approver : Nat) : Reply × State :=
  let all := s.ev.area ++ s.ev.slots
  let me : Caller := ⟨0, 3, 0, 0, 0, true, []⟩
  let rec' : ClearRec :=
    { seq := s.clearSeq, initiator := 16 + initiator, approver := 16 + approver, stamp := s.stamp,
      lastSeq := s.ev.nextSeq - 1, cleared := all.length,
      digest := sha256 ((sortBy (fun p => (p.id : Int)) all).flatMap fun p => p.bytes me) }
  let s := { s with ev := { s.ev with
    clears := s.ev.clears ++ [rec'], hold := none, slots := [], area := [], trail := [], trailStart := s.ev.nextSeq, trailLow := s.ev.nextSeq,
    areaFull := false, nextSnapshot := 1,
    triggers := Map.mapV s.ev.triggers fun _ t =>
      { t with missed := 0, missedSat := false, firstMiss := none, lastMiss := none } } }
  ({ status := .done, data := rec'.bytes }, s.raise .barrowCleared 0 [rec'.seq, rec'.cleared] true)

/-- BARROW.CLEARLOG_READ: clear records from a ClearSeq. -/
def readBarrowClearlog (first n : Nat) (c : Caller) (s : State) : Reply :=
  let l := (s.ev.clears.filter fun r => decide (first ≤ r.seq)).take n
  gatedRead [(c.isObserver, .refusedRole), (c.slots 2, .badLength), (decide (n ≤ 64), .badArgument)]
    { status := .done, data := le 8 l.length ++ l.flatMap ClearRec.bytes }

def execBarrowClearlogRead (ch first n : Nat) (s : State) : Out :=
  .next (s.readCommand ch .barrowClearlogRead (readBarrowClearlog first n))

/-- EVT.COUNTERS_READ: the counters of R525. -/
def readEvtCounters (c : Caller) (s : State) : Reply :=
  gatedRead [(c.isObserver, .refusedRole), (c.slots 0, .badLength)]
    { status := .done,
      slots := ((List.range 480).flatMap fun k =>
          [s.ctr { name := .evAdmitted, a := k }, s.ctr { name := .evDropped, a := k },
           s.ctr { name := .evLimited, a := k }]) ++
        [s.ctr { name := .trailOverwrites }] ++
        ((List.range 37).map fun i => s.ctr { name := .snapshotsTaken, a := i }) ++
        ((List.range 37).map fun i => (s.trig i).missed) ++ [s.ctr { name := .areaFull }] }

def execEvtCountersRead (ch : Nat) (s : State) : Out := .next (s.readCommand ch .evtCountersRead readEvtCounters)

/-! ### Records (R521 to R523) -/

/-- A trigger record write restarts the trigger's window and holdoff (R522). -/
def State.restartTrigger (s : State) (i : Nat) : State :=
  s.setTrig i { s.trig i with hits := [], holdoffEnd := 0 }

/-- The recorder over a chip reset (R520): retained memory keeps the trail and the unspilled snapshots unless power was
lost, and Seq resumes above every value it may have taken.
(Log entry 138: DEDUCED.) -/
def State.recorderReset (s : State) (powerLost : Bool) : State :=
  let seen := (s.ev.trail.map TrailEntry.seq ++ (s.ev.area ++ s.ev.slots).flatMap (fun p => (p.pre ++ p.post).map TrailEntry.seq)).foldl max 0
  let lastClear := (s.ev.clears.getLastD ⟨0, 0, 0, 0, 0, 0, []⟩).lastSeq
  let next := max (seen + 2 ^ 20) (max (lastClear + 2 ^ 20) s.ev.seqMark)
  { s with ev := { s.ev with
    queue := [], lossPending := false, rate := [], hold := none,
    nextSeq := next, seqMark := next + 2 ^ 20,
    trail := if powerLost then [] else s.ev.trail, trailStart := if powerLost then next else s.ev.trailStart,
    trailLow := if powerLost then next else s.ev.trailLow,
    slots := if powerLost then [] else s.ev.slots.map fun p => { p with collecting := false },
    triggers := Map.mapV s.ev.triggers fun _ t => { t with hits := [], holdoffEnd := 0 } } }

end Sys2Proof.Machine
end

