-- ==== Sys2Proof/Machine/Banks.lean ====
section
/-! DEFINITION. The vault's two non-volatile banks: derivation of the storage keys, slot copies, counter entries, and what a power-up
reads of them (R307 to R310, R317 to R319). -/

namespace Sys2Proof.Machine

open Sys2Proof

/-- A list of byte values. -/
def ascii (l : List Nat) : List Byte := bytes l

/-! ### Derivation (R310, R317, R318) -/

/-- The KDF in counter mode with CMAC: `bits` bits of output (R310). -/
def kdf (key label context : List Byte) (bits : Nat) : List Byte :=
  let block (i : Nat) := cmac key (le 1 i ++ label ++ [0] ++ context ++ le 2 bits)
  slice ((List.range (ceilDiv bits 128)).flatMap fun i => block (i + 1)) 0 (bits / 8)

/-- The test root (R318). -/
def testRootKey (serial : Nat) : List Byte :=
  sha256 (ascii [0x45, 0x4F, 0x57, 0x41, 0x54, 0x52, 0x41, 0x2D, 0x54, 0x45, 0x53, 0x54, 0x2D, 0x52, 0x4F, 0x4F, 0x54] ++
    le 8 serial)

/-- Whether the chip works under the test root (R318, R321). -/
def State.testRoot (s : State) : Bool := !s.arch.debugClosed

/-- The root in effect (R317, R318). -/
def State.rootKey (s : State) : List Byte := if s.testRoot then testRootKey s.mail.serial else s.pow.hardwareRoot

/-- The storage wrap key of a root (Table 12-6). -/
def storageWrapKey (root : List Byte) : List Byte := kdf root (ascii [0x45, 0x57, 0x53, 0x57]) [] 256

/-- The storage MAC key of a root. -/
def storageMacKey (root : List Byte) : List Byte := kdf root (ascii [0x45, 0x57, 0x53, 0x4D]) [] 256

/-! ### Slot copies (Table 12-4) -/

/-- CommitMark. -/
def commitMark : Nat := 0x54494D43

/-- The 128 bytes of a committed slot copy under a root. -/
def VaultCopy.bytes (c : VaultCopy) (root : List Byte) (d slot : Nat) : List Byte :=
  let wrapped := if c.kind = 0 then [] else keyWrap (storageWrapKey root) c.key
  let b := le 1 d ++ le 1 slot ++ le 1 c.kind ++ le 1 (bit c.testRoot) ++ le 4 c.gen ++ le 4 c.updateCounter ++ le 2 c.key.length ++
    le 2 0 ++ slice wrapped 0 72 ++ le 8 0
  b ++ cmac (storageMacKey root) b ++ le 4 commitMark ++ le 12 0

/-- The copy that a position of a bank holds, where it is valid under a root (R309): Mac, TestRoot and CommitMark. -/
def readCopy (root : List Byte) (testRoot : Bool) (bank : Nat) (b : List Byte) : Option VaultCopy :=
  let kind := leAt b 2 1
  let n := leAt b 12 2
  if slice b 96 16 = cmac (storageMacKey root) (slice b 0 96) ∧ bitOn (leAt b 3 1) 0 = testRoot ∧ leAt b 112 4 = commitMark then
    some { kind := kind, gen := leAt b 4 4, updateCounter := leAt b 8 4,
           key := if kind = 0 then [] else (keyUnwrap (storageWrapKey root) (slice b 16 (n + 8))).getD [], testRoot := testRoot, bank := bank }
  else none

/-! ### Counter entries -/

/-- A counter entry: domain, committed counter, whether the exception of R67 has closed, and its CMAC.
(Log entry 174: DESIGN CHOICE.) -/
def counterEntry (root : List Byte) (d counter : Nat) (closed : Bool) : List Byte :=
  let b := le 1 d ++ le 4 counter ++ le 1 (bit closed)
  b ++ cmac (storageMacKey root) b

/-- The counter and the flag of an entry that is valid under a root. -/
def readEntry (root : List Byte) (e : List Byte) : Option (Nat × Bool) :=
  if slice e 6 16 = cmac (storageMacKey root) (slice e 0 6) then some (leAt e 1 4, bitOn (leAt e 5 1) 0) else none

/-- A domain's counter entry programmed in bank 0, then in bank 1 (R308 step 4). -/
def State.programCounter (s : State) (d : Nat) : State :=
  let e := counterEntry s.rootKey d (Map.getD s.vault.counters d 0) (decide (d = 16) && s.mail.firstSoSet)
  { s with vault := { s.vault with entries := Map.put (Map.put s.vault.entries (0, d) e) (1, d) e } }

/-! ### Commit and power-up (R308, R309) -/

/-- The newest committed copy of a slot. -/
def State.copy (s : State) (d slot : Nat) : Option VaultCopy := (Map.getD s.vault.copies (d, slot) []).head?

/-- A copy committed (R308 steps 1 to 4): it is programmed in the bank that does not hold the slot's committed copy, and the domain's
counter entries after it.
(Log entry 174: DESIGN CHOICE.) -/
def State.commitCopy (s : State) (d slot : Nat) (c : VaultCopy) : State :=
  let old := Map.getD s.vault.copies (d, slot) []
  let bank := match s.copy d slot with
    | some o => 1 - o.bank
    | none => 0
  let c := { c with bank := bank }
  ({ s with vault := { s.vault with
    copies := Map.put s.vault.copies (d, slot) (c :: old.take 1),
    banks := Map.put s.vault.banks (bank, d, slot) (c.bytes s.rootKey d slot) } }).programCounter d

/-- The valid copies of a slot's two positions, the higher Generation first. -/
def State.validCopies (s : State) (d slot : Nat) : List VaultCopy :=
  sortBy (fun (c : VaultCopy) => -(c.gen : Int)) ((List.range 2).filterMap fun bank =>
    (Map.get? s.vault.banks (bank, d, slot)).bind (readCopy s.rootKey s.testRoot bank))

/-- The slots either of whose positions has been written. -/
def State.writtenSlots (s : State) : List (Nat × Nat) :=
  (Map.keys s.vault.banks).foldl (fun l k => if l.contains (k.2.1, k.2.2) then l else l ++ [(k.2.1, k.2.2)]) []

/-- The valid counter entries of a domain. -/
def State.validEntries (s : State) (d : Nat) : List (Nat × Bool) :=
  (List.range 2).filterMap fun bank => (Map.get? s.vault.entries (bank, d)).bind (readEntry s.rootKey)

end Sys2Proof.Machine
end

