-- ==== Sys2Proof/Machine/Mailbox.lean ====
section
/-! DEFINITION. Chapter 3: the host window, mailbox channels, sessions, approvals and credentials (R48 to R79). -/

namespace Sys2Proof.Machine

open Sys2Proof

/-! ### The host window (R48, R49) -/

/-- MB_STATE of a channel (Table 3-2). NotifyPending is the count modulo 256, so that 256 notifications read 0. BackoffRemainingS is rounded up (R65); a tunnelled channel without a path reads
IDLE with SessionOpen 0, which its state holds then (R628).
(Log entry 151: DESIGN CHOICE.) -/
def State.mbState (s : State) (n : Nat) : Nat :=
  let c := s.chan n
  let st := match c.st with
    | .idle => 0 | .busy => 1 | .responseReady => 2 | .resetting => 3
  let left := match c.backoffEnd with
    | some e => ceilDiv (e - s.time.ms) 1000
    | none => 0
  st + bit c.session.isSome * 2 ^ 3 + bit (decide (0 < left)) * 2 ^ 4 + left % 1024 * 2 ^ 5 +
    c.notes.length % 256 * 2 ^ 16

/-- What an aligned 32-bit read of the host window returns (Tables 3-1 and 3-2). -/
def State.hostRead (s : State) (off : Nat) : Nat :=
  if off = 0x00 then 1
  else if off = 0x08 then s.mail.serial % 2 ^ 32
  else if off = 0x0C then s.mail.serial / 2 ^ 32
  else if 0x10 ≤ off ∧ off ≤ 0x1C then bitsAt s.mail.salt (8 * (off - 0x10)) 32
  else if off = 0x20 then s.mail.fwVersion
  else if off = 0x24 then s.mail.ucodeVersion
  else if 0x40 ≤ off ∧ off ≤ 0x5C then s.caps.getD ((off - 0x40) / 4) 0
  else if off = 0x80 then s.bootStatus
  else if off = 0x84 then s.pow.bootDetail
  else if off = 0x100 then s.mail.heartbeat
  else if off = 0x104 then s.mail.badAccess
  else if 0x10000 ≤ off ∧ off < 0x30000 then
    let n := (off - 0x10000) / 0x1000
    let p := off % 0x1000
    if p = 0x004 then s.mbState n
    else if p = 0x010 then (s.chan n).respVec + (s.chan n).notifyVec * 2 ^ 8
    else if p = 0x018 then (s.chan n).ignored
    else if p = 0x01C then (s.chan n).notifyLost
    else if 0x040 ≤ p then ofLe (bufLoad s.mail.buffers off 4)
    else 0
  else if 0x30000 ≤ off ∧ off < 0x30400 then
    let e := s.msix ((off - 0x30000) / 16)
    match off % 16 with
    | 0 => e.1 % 2 ^ 32
    | 4 => e.1 / 2 ^ 32
    | 8 => e.2.1
    | _ => e.2.2
  else if off = 0x38000 then maskOf (s.mail.msixPending.filter (· < 32))
  else if off = 0x38004 then maskOf ((s.mail.msixPending.filter (fun v => decide (32 ≤ v))).map (· - 32))
  else 0

/-- An access of the wrong size or alignment is ignored and counted (R48). -/
def execHostBadAccess (s : State) : Out :=
  .next { s with mail := { s.mail with badAccess := (s.mail.badAccess + 1) % 2 ^ 32 } }

/-- A write to a channel's page counts in MB_IGNORED and does nothing else. -/
def State.ignoreWrite (s : State) (n : Nat) : State := s.modChan n fun c => { c with ignored := (c.ignored + 1) % 2 ^ 32 }

/-- An MSI-X table word is written; a vector whose mask bit clears while it is pending is sent (PCI Express).
(Log entry 12: PRESUMED.) -/
def State.msixWrite (s : State) (off v : Nat) : State :=
  let k := off / 16
  let e := s.msix k
  let e' : Nat × Nat × Nat := match off % 16 with
    | 0 => (e.1 / 2 ^ 32 * 2 ^ 32 + v, e.2)
    | 4 => (v * 2 ^ 32 + e.1 % 2 ^ 32, e.2)
    | 8 => (e.1, v, e.2.2)
    | _ => (e.1, e.2.1, v)
  let s := { s with mail := { s.mail with msixTable := Map.put s.mail.msixTable k e' } }
  if e'.2.2 % 2 = 0 ∧ s.mail.msixPending.contains k then
    ({ s with mail := { s.mail with msixPending := s.mail.msixPending.filter (· ≠ k) } }).signal k
  else s

/-- A 32-bit write to a host-window register without a row of its own: MB_VECTORS, the command buffer, the MSI-X table.
Every other offset ignores it (R48); channel pages ignore it before MailboxReady (R49), and a tunnelled channel's page
counts it (R628). -/
def execRegisterWrite (off value : Nat) (s : State) : Out :=
  let v := value % 2 ^ 32
  if off % 4 ≠ 0 ∨ 0x40000 ≤ off then .next { s with mail := { s.mail with badAccess := (s.mail.badAccess + 1) % 2 ^ 32 } }
  else if 0x10000 ≤ off ∧ off < 0x30000 then
    let n := (off - 0x10000) / 0x1000
    let p := off % 0x1000
    if !s.mail.mailboxReady then .next s
    else if s.tunnelled n then .next (s.ignoreWrite n)
    else if p = 0x010 then
      .next (s.modChan n fun c => { c with respVec := bitsAt v 0 6, notifyVec := bitsAt v 8 6 })
    else if 0x040 ≤ p ∧ p < 0x840 then
      .next { s with mail := { s.mail with buffers := bufStore s.mail.buffers off (le 4 v) } }
    else .next s
  else if 0x30000 ≤ off ∧ off < 0x30400 then .next (s.msixWrite (off - 0x30000) v)
  else .next s

/-! ### The order of checks (R55 to R58) -/

/-- Commands the device takes untagged and without a session: those marked "no session" (Table 3-11, R49), the first
security-officer credential on a host-window channel (R67), and in RECOVERY the commands of R651. -/
def State.untaggedOk (s : State) (n : Nat) (code : Nat) (body : List Byte) : Bool :=
  if s.pow.stage = 0x0D then
    decide (n = 0) && (code == Cmd.ctrlPing.code || code == Cmd.updateStageBegin.code ||
      code == Cmd.updateStageWrite.code || code == Cmd.updateStageVerify.code || code == Cmd.powerReboot.code)
  else
    code == Cmd.ctrlPing.code || code == Cmd.ctrlSessionHello.code || code == Cmd.ctrlSessionProve.code ||
      code == Cmd.vaultIdentityRead.code || code == Cmd.vaultReset.code ||
      (code == Cmd.ctrlCredentialSet.code && !s.mail.firstSoSet && !s.tunnelled n &&
        leAt body 0 8 == 3 && leAt body 8 8 == 0 && leAt body 16 8 == 0)

/-- The consecutive-failure back-off of Table 3-7, in seconds. -/
def backoffS (fails : Nat) : Nat :=
  if fails < 5 then 0
  else match fails with
    | 5 => 30 | 6 => 60 | 7 => 120 | 8 => 240 | 9 => 480
    | _ => 900

/-- An authentication failure on channel n (R65): counted, `session.auth_failed` raised, and from the fifth consecutive
one a back-off started or restarted. -/
def State.authFailure (s : State) (n role tenant slot : Nat) : State :=
  let fails := (s.chan n).authFails + 1
  let s := s.modChan n fun c => { c with authFails := fails }
  let s := (s.count { name := .authFailures, a := n }).raise .sessionAuthFailed 0 [n, role, tenant, slot, fails] true
  if 5 ≤ fails then
    let s := s.modChan n fun c => { c with backoffEnd := some (s.time.ms + 1000 * backoffS fails) }
    (s.count { name := .backoffs, a := n }).raise .sessionBackoff 0 [n, backoffS fails]
  else s

/-- Whether channel n is in back-off (R65). -/
def State.inBackoff (s : State) (n : Nat) : Bool :=
  match (s.chan n).backoffEnd with
  | some e => decide (s.time.ms < e)
  | none => false

/-- The idle timer of channel n's session is armed with the IdleTimeoutS in force (R66, R78). -/
def State.armIdle (s : State) (n : Nat) : State :=
  s.modChan n fun c => { c with session := c.session.map fun x =>
    { x with idleMs := s.time.ms + 1000 * s.rd Rec.SessionPolicy.IdleTimeoutS } }

/-- The channel answers a request that failed a check of steps 1 to 6, or a fragment, at once; any status but TAG_FAILED ends a run of
TAG_FAILED responses (R63).
(Log entry 133: DEDUCED.) -/
def State.answer (s : State) (n code seq corr sess : Nat) (tagged : Bool) (st : Status) : State :=
  s.modChan n fun c => { c with
    request := none, badTags := if st = .tagFailed then c.badTags else 0,
    response := some { code := code, status := st, seq := seq, corr := corr, sessionId := sess, tagged := tagged } }

/-- Whether a SessionId does not name channel n's open session (step 3). -/
def State.sessionWrong (s : State) (n id : Nat) : Bool :=
  match s.session n with
  | some x => decide (x.id ≠ id)
  | none => true

/-- Whether a tag does not verify under the session's key (step 4, R63). -/
def State.tagWrong (s : State) (n : Nat) (msg trailer : List Byte) : Bool :=
  match s.session n with
  | some x => decide ((hmac x.ks msg).take 16 ≠ trailer)
  | none => true

/-- Whether a sequence is not the one after the previous request's, or the numbers are used up (step 5, R64). -/
def State.seqWrong (s : State) (n seq : Nat) : Bool :=
  match s.session n with
  | some x => decide (seq ≠ x.lastSeq + 1 ∨ 0xFFFFFFFF ≤ x.lastSeq)
  | none => true

/-- Whether a fragment is out of order or names another command than fragment 0 (R56). -/
def fragWrong (asm : Option Assembly) (frag code : Nat) : Bool :=
  match asm with
  | none => decide (frag ≠ 0)
  | some a => decide (frag ≠ a.next ∨ code ≠ a.code)

/-- The message in channel n's hands is checked under steps 1 to 6 of Table 3-4: the response is computed where a check
fails or a fragment is taken, and otherwise the request waits for its execution.
(Log entry 9: DEDUCED.)
(Log entry 133: DEDUCED.) -/
def State.receive (s : State) (n : Nat) (raw : List Byte) (tunnel : Bool) : State :=
  let flags := leAt raw 1 1
  let untagged := bitOn flags 3
  let more := bitOn flags 2
  let code := leAt raw 2 2
  let frag := leAt raw 6 2
  let len := leAt raw 8 2
  let sess := leAt raw 12 4
  let seq := leAt raw 16 4
  let corr := leAt raw 20 4
  let hdr := slice raw 0 32
  let body := slice raw 32 len
  let trailer := slice raw (32 + len) 16
  let s := s.count { name := .messages, a := n }
  let asm := (s.chan n).assembly
  let drop (s : State) : State := s.modChan n fun c => { c with assembly := none }
  let fail (s : State) (tagged : Bool) (st : Status) : State := s.answer n code seq corr sess tagged st
  -- step 1
  if leAt raw 0 1 ≠ 1 ∨ leAt raw 10 1 ≠ n ∨ 2000 < len ∨ 131 < frag ∨ bitOn flags 0 ∨ bitOn flags 1 ∨ leAt raw 4 2 ≠ 0 then
    fail s false .badLength
  else if fragWrong asm frag code then fail (drop s) false .fragment
  else if 262144 < ((asm.map Assembly.body).getD [] ++ body).length then fail (drop s) false .badLength
  -- step 2
  else if untagged ∧ !s.untaggedOk n code ((asm.map Assembly.body).getD [] ++ body) then fail s false .noSession
  -- step 3
  else if !untagged && s.sessionWrong n sess then fail s false .noSession
  -- step 4
  else if !untagged && s.tagWrong n (hdr ++ body) trailer then
    let s := s.count { name := .tagFailed, a := n }
    let bad := (s.chan n).badTags + 1
    if 3 ≤ bad then
      let x := (s.session n).getD ⟨0, 0, 0, 0, [], 0, 1, 0, 0⟩
      let s := s.closeSession n .tagFailures
      fail (s.authFailure n x.role x.tenant x.slot) false .tagFailed
    else fail (s.modChan n fun c => { c with badTags := bad }) false .tagFailed
  else
    let s := if untagged then s else (s.modChan n fun c => { c with badTags := 0 }).armIdle n
    -- step 5
    if !untagged && s.seqWrong n seq then fail s true .sequence
    else
      let s := if untagged then s else s.modChan n fun c => { c with session := c.session.map fun x => { x with lastSeq := seq } }
      let whole := (asm.map Assembly.body).getD [] ++ body
      if more then
        fail (s.modChan n fun c => { c with assembly := some ⟨code, frag + 1, whole⟩ }) (!untagged) .continue'
      else
        let s := drop s
        -- step 6
        match Cmd.ofCode code with
        | none => fail s (!untagged) .unknownCommand
        | some cmd =>
          let order := s.mail.accepted
          ({ s with mail := { s.mail with accepted := order + 1 } }).modChan n fun c => { c with
            request := some { cmd := cmd, body := whole, seq := seq, corr := corr, sessionId := sess,
                              tagged := !untagged, tunnel := tunnel, order := order } }

/-- A doorbell (R50): in IDLE the request in the command buffer is taken and the channel enters BUSY; in any other
state, and on a tunnelled channel's page (R628), it is ignored and counted. Before MailboxReady it is ignored (R49); in
SLEEP it is held (R665). -/
def execMbDoorbell (ch : Nat) (s : State) : Out :=
  if s.pow.stage = 0x0C then
    .next { s with pow := { s.pow with heldDoorbells := s.pow.heldDoorbells ++ [ch] } }
  else if !s.mail.mailboxReady then .next s
  else if s.tunnelled ch then .next (s.ignoreWrite ch)
  else match (s.chan ch).st with
    | .idle =>
      let raw := bufLoad s.mail.buffers (cmdBuf ch) 2048
      .next ((s.modChan ch fun c => { c with st := .busy }).receive ch raw false)
    | _ => .next (s.ignoreWrite ch)

/-- The key that tags a response: that of the session it answers, while it is open or where it closed with the command
itself (R63, R66). -/
def State.respKey (s : State) (n : Nat) (r : Response) : Option (List Byte) :=
  if !r.tagged then none
  else match r.key with
    | some k => some k
    | none => match s.session n with
      | some x => if x.id = r.sessionId then some x.ks else none
      | none => none

/-- A message is put into channel n's command buffer. -/
def State.place (s : State) (n : Nat) (m : List Byte) : State :=
  { s with mail := { s.mail with buffers := bufStore s.mail.buffers (cmdBuf n) m } }

/-- The response is placed in the command buffer: the channel enters RESPONSE_READY and RespVector is signalled (R50);
on a tunnelled channel the response leaves as type-4 frames, no vector is signalled, and the channel is IDLE again (R628). A session that the command closes after its response closes now (R77).
(Log entry 9: DEDUCED.)
(Log entry 92: DEDUCED.) -/
def execCommandResponseReady (ch : Nat) (s : State) : Out :=
  match (s.chan ch).st, (s.chan ch).response with
  | .busy, some r =>
    match responseMessages (s.respKey ch r) ch r with
    | [] => .next s
    | m :: ms =>
      if s.tunnelled ch then
        let s := (m :: ms).foldl (fun s x => s.tunnelSend ch x) (s.modChan ch fun c => { c with st := .idle, response := none })
        .next (if r.closeAfter then s.closeSession ch .revoked else s)
      else
      let s := (s.place ch m).modChan ch fun c => { c with st := .responseReady, response := none, fragments := ms }
      let s := s.signal (s.chan ch).respVec
      .next (if r.closeAfter then s.closeSession ch .revoked else s)
  | _, _ => .next s

/-- MB_RESP_ACK (R50): the next response fragment is placed, or the channel returns to IDLE.
(Log entry 9: DEDUCED.) -/
def execMbRespAck (ch : Nat) (s : State) : Out :=
  if !s.mail.mailboxReady then .next s
  else if s.tunnelled ch then .next (s.ignoreWrite ch)
  else match (s.chan ch).st, (s.chan ch).fragments with
  | .responseReady, m :: ms => .next ((s.place ch m).modChan ch fun c => { c with fragments := ms })
  | .responseReady, [] => .next (s.modChan ch fun c => { c with st := .idle })
  | _, _ => .next s

/-- MB_NOTIFY_ACK (R508): the notification is consumed; while more are pending the next is presented and the vector
signalled again. -/
def execMbNotifyAck (ch : Nat) (s : State) : Out :=
  if !s.mail.mailboxReady then .next s
  else if s.tunnelled ch then .next (s.ignoreWrite ch)
  else match (s.chan ch).notes with
  | [] => .next s
  | [_] => .next (s.modChan ch fun c => { c with notes := [], overflowed := false })
  | _ :: t => .next (((s.modChan ch fun c => { c with notes := t }).present ch).signalNote ch)

/-- MB_RESET (R52): the channel enters RESETTING. A tunnelled channel is not served from the host window (R54, R628). -/
def execMbReset (ch : Nat) (s : State) : Out :=
  if !s.mail.mailboxReady then .next s
  else if s.tunnelled ch then .next (s.ignoreWrite ch)
  else .next (s.modChan ch fun c => { c with st := .resetting, assembly := none, fragments := [] })

/-- Once the running command has ended, the reset discards its response, closes the session and its notifications, and
the channel enters IDLE (R52). Back-off and tickets stay. -/
def execChannelResetDone (ch : Nat) (s : State) : Out :=
  match (s.chan ch).st, (s.chan ch).request with
  | .resetting, none =>
    let s := s.closeSession ch .reset
    .next (s.modChan ch fun c => { c with st := .idle, response := none, fragments := [], notes := [], assembly := none })
  | _, _ => .next s

/-! ### Sessions (R60 to R66) -/

/-- CTRL.PING. -/
def readCtrlPing (c : Caller) (s : State) : Reply :=
  gatedRead [(c.slots 0, .badLength)] { status := .done, slots := [s.mail.fwVersion, s.bootStatus] }

def execCtrlPing (ch : Nat) (s : State) : Out := .next (s.readCommand ch .ctrlPing readCtrlPing)

/-- Whether a role code, tenant and slot name a credential slot (R61, Table 3-6).
(Log entry 10: DEDUCED.) -/
def credOk (role tenant slot : Nat) : Bool :=
  decide (role ≤ 4 ∧ tenant ≤ 15 ∧ slot ≤ 3) &&
    (match role with
     | 0 => true
     | 2 => decide (1 ≤ tenant)
     | _ => decide (tenant = 0))

/-- The name of a credential slot: every role but the tenant administrator has one set of four (R61). -/
def credKey (role tenant slot : Nat) : CredKey := (role, if role = 2 then tenant else 0, slot)

/-- A role code with a tenant a session of it may have (Table 3-6).
(Log entry 10: DEDUCED.) -/
def roleTenantOk (role tenant : Nat) : Bool := credOk role tenant 0

/-- CTRL.SESSION_HELLO (R62): a device nonce and a SessionId, replacing the channel's earlier nonce. A slot that no role has is
not told apart here: its proof fails.
(Log entry 5: DESIGN CHOICE.)
(Log entry 10: DEDUCED.) -/
def runSessionHello (role tenant slot : Nat) (c : Caller) (s : State) : Reply × State :=
  gated s [(!s.inBackoff c.ch, .backoff), (c.body.length == 3, .badLength), (roleTenantOk role tenant, .badArgument),
      (s.tenantHere tenant, .absentCapacity), ((s.session c.ch).isNone, .refusedState)] fun s =>
    let (nd, s) := s.drawBytes 16
    let (id, s) := s.draw 32
    let s := s.modChan c.ch fun x => { x with nonce := some ⟨nd, id, role, tenant, slot, s.time.ms⟩ }
    ({ status := .done, data := nd ++ le 4 id }, s)

/-- While the noise source is unhealthy a request that needs a random value waits for it (R311); one that is refused does not.
(Log entry 21: DEDUCED.) -/
def execCtrlSessionHello (ch role tenant slot : Nat) (s : State) : Out :=
  let t := s.command ch .ctrlSessionHello (runSessionHello role tenant slot)
  .next (if s.vault.rngOk ∨ t.freeCtr = s.freeCtr then t else s)

/-- The host proof Ph (opening a session, step 3). -/
def hostProof (k nd nh : List Byte) (role tenant slot ch serial : Nat) : List Byte :=
  hmac k (ascii [0x45, 0x57, 0x48, 0x50] ++ nd ++ nh ++ le 1 role ++ le 1 tenant ++ le 1 slot ++ le 1 ch ++ le 8 serial)

/-- The device proof Pd (step 5). -/
def deviceProof (k nd nh : List Byte) (serial id : Nat) : List Byte :=
  hmac k (ascii [0x45, 0x57, 0x44, 0x50] ++ nh ++ nd ++ le 8 serial ++ le 4 id)

/-- The session key Ks (step 6). -/
def sessionKey (k nd nh : List Byte) (serial ch id : Nat) : List Byte :=
  hmac k (ascii [0x45, 0x57, 0x53, 0x4B] ++ nd ++ nh ++ le 8 serial ++ le 1 ch ++ le 4 id)

/-- CTRL.SESSION_PROVE (R62, R65): the proof is checked against the live nonce that its SessionId names, sent within 30 s, and a
credential that is set; the session opens, or the failure is counted. Either way that nonce is used.
(Log entry 5: DESIGN CHOICE.)
(Log entry 136: DEDUCED.) -/
def runSessionProve (id : Nat) (nh ph : List Byte) (c : Caller) (s : State) : Reply × State :=
  gated s [(!s.inBackoff c.ch, .backoff), (c.body.length == 52, .badLength)] fun s =>
    let used := s.modChan c.ch fun x => { x with nonce := none }
    match (s.chan c.ch).nonce.filter fun (x : Nonce) => x.sessionId == id with
    | none => ({ status := .authFailed }, s.authFailure c.ch noValue noValue noValue)
    | some n =>
      let bad := ({ status := .authFailed }, used.authFailure c.ch n.role n.tenant n.slot)
      match Map.get? s.mail.creds (credKey n.role n.tenant n.slot) with
      | none => bad
      | some k =>
        if s.time.ms ≤ n.issuedMs + 30000 ∧
            ph = hostProof k.secret n.nd nh n.role n.tenant n.slot c.ch s.mail.serial ∧ s.vault.st = .opened then
          let ks := sessionKey k.secret n.nd nh s.mail.serial c.ch id
          let x : Session := { id := id, role := n.role, tenant := n.tenant, slot := n.slot, ks := ks, openStamp := s.stamp }
          let s := used.modChan c.ch fun y => { y with
            session := some x, authFails := 0, badTags := 0, backoffEnd := none, notes := [] }
          let s := (s.armIdle c.ch).raise .sessionOpened n.tenant [c.ch, n.role, n.tenant, n.slot]
          let s := match s.pow.bootDone with
            | some l => ({ s with pow := { s.pow with bootDone := none } }).raise .powerBootDone 0 l
            | none => s
          ({ status := .done, data := deviceProof k.secret n.nd nh s.mail.serial id }, s)
        else bad

def execCtrlSessionProve (ch id : Nat) (nh ph : List Byte) (s : State) : Out :=
  .next (s.command ch .ctrlSessionProve (runSessionProve id nh ph))

/-- The response of channel n is tagged with the key of a session that closed with the command itself. -/
def State.keepKey (s : State) (n : Nat) (k : List Byte) : State :=
  s.modChan n fun c => { c with response := c.response.map fun r => { r with key := some k } }

/-- CTRL.SESSION_CLOSE: the session closes; its response is its last message (R66). -/
def runSessionClose (c : Caller) (s : State) : Reply × State :=
  gated s [(c.isObserver, .refusedRole), (c.slots 0, .badLength)] fun s => ({ status := .done }, s.closeSession c.ch .command)

def execCtrlSessionClose (ch : Nat) (s : State) : Out :=
  match s.session ch with
  | some x => .next ((s.command ch .ctrlSessionClose runSessionClose).keepKey ch x.ks)
  | none => .next (s.command ch .ctrlSessionClose runSessionClose)

/-- CTRL.SESSION_INFO: role, tenant, slot, open time, sequence, failure count of the channel: the consecutive failures of R65.
(Log entry 152: DESIGN CHOICE.) -/
def readSessionInfo (c : Caller) (s : State) : Reply :=
  gatedRead [(c.isObserver, .refusedRole), (c.slots 0, .badLength)]
    (match s.session c.ch with
     | none => { status := .noSession }
     | some x => { status := .done, slots := [x.role, x.tenant, x.slot, x.openStamp, x.lastSeq, (s.chan c.ch).authFails] })

def execCtrlSessionInfo (ch : Nat) (s : State) : Out := .next (s.readCommand ch .ctrlSessionInfo readSessionInfo)

/-- IdleTimeoutS passes without a request that re-arms the timer (R66).
(Log entry 2: DESIGN CHOICE.) -/
def execSessionIdleTimeout (ch : Nat) (s : State) : Out :=
  match s.session ch with
  | some x => if x.idleMs ≤ s.time.ms then .next (s.closeSession ch .idle) else .next s
  | none => .next s

/-- The authentication back-off expires (R65). -/
def execBackoffEnd (ch : Nat) (s : State) : Out :=
  match (s.chan ch).backoffEnd with
  | some e => if e ≤ s.time.ms then .next (s.modChan ch fun c => { c with backoffEnd := none }) else .next s
  | none => .next s

/-- The sessions of the channels whose tunnel binding changes close, with cause rebound (R78). -/
def State.rebind (s : State) (old new : Nat) : State :=
  ((List.range 16).filter fun n => bitOn old n != bitOn new n).foldl (fun s n => s.closeSession (16 + n) .rebound) s

/-! ### Two approvals (R68 to R70) -/

/-- The causes of `approval.expired`, in the order of R69. -/
inductive VoidCause where
  | window | cancelled | revoked | reset | refused
  deriving DecidableEq, Repr

/-- The 0-based position of a cause. -/
def VoidCause.code : VoidCause → Nat
  | .window => 0 | .cancelled => 1 | .revoked => 2 | .reset => 3 | .refused => 4

/-- The live ticket of a number. -/
def State.ticket (s : State) (t : Nat) : Option Ticket := s.mail.tickets.find? (fun x => x.ticket == t)

/-- The state without a ticket. -/
def State.dropTicket (s : State) (t : Nat) : State :=
  { s with mail := { s.mail with tickets := s.mail.tickets.filter (fun x => !(x.ticket == t)) } }

/-- A ticket becomes void and raises `approval.expired` (R69).
(Log entry 142: DEDUCED.) -/
def State.voidTicket (s : State) (t : Nat) (cause : VoidCause) : State :=
  (s.dropTicket t).raise .approvalExpired (((s.ticket t).map Ticket.tenant).getD 0) [t, cause.code]

/-- The first approval is recorded (R68, R70): a ticket is issued for the command and target, or the live one named. -/
def State.firstApproval (s : State) (c : Caller) (cmd : Cmd) (args : List Nat) (target : Nat) : Reply × State :=
  match s.mail.tickets.find? (fun x => x.cmd == cmd && x.target == target) with
  | some x => ({ status := .refusedState, slots := [x.ticket] }, s)
  | none =>
    let (t, s) := s.draw 32
    let x : Ticket :=
      { ticket := t, cmd := cmd, args := args, target := target, digest := sha256 c.body, ch := c.ch,
        sessionId := c.sessionId, role := c.role, tenant := c.tenant, slot := c.slot,
        expiresMs := s.time.ms + 1000 * s.rd Rec.SessionPolicy.ApprovalWindowS }
    let s := { s with mail := { s.mail with tickets := s.mail.tickets ++ [x] } }
    ({ status := .pendingApproval, slots := [t] }, s.raise .approvalPending c.tenant [t, cmd.code, target, c.slot])

/-- ApprovalWindowS passes and the ticket becomes void (R69); only this voiding counts as an expired ticket (R79).
(Log entry 153: DESIGN CHOICE.) -/
def execTicketExpired (ticket : Nat) (s : State) : Out :=
  match s.ticket ticket with
  | some x =>
    if x.expiresMs ≤ s.time.ms then
      .next ((s.voidTicket ticket .window).count { name := .expiredTickets, a := x.ch })
    else .next s
  | none => .next s

/-- The stamp of a future time (ms) of the model's clock. -/
def State.stampAt (s : State) (ms : Nat) : Nat := stampOfNs (s.time.legalNs + (ms - s.time.ms) * 1000000)

/-- CTRL.APPROVAL_LIST: the live tickets in scope. -/
def readApprovalList (c : Caller) (s : State) : Reply :=
  let l := s.mail.tickets.filter fun x => s.sees c x.tenant
  gatedRead [(c.isObserver, .refusedRole), (c.slots 0, .badLength)]
    { status := .done,
      slots := l.length :: l.flatMap fun x => [x.ticket, x.cmd.code, x.target, x.slot, s.stampAt x.expiresMs] }

def execCtrlApprovalList (ch : Nat) (s : State) : Out := .next (s.readCommand ch .ctrlApprovalList readApprovalList)

/-- CTRL.APPROVAL_CANCEL: the initiator voids a ticket (R69). -/
def runApprovalCancel (ticket : Nat) (c : Caller) (s : State) : Reply × State :=
  match s.ticket ticket with
  | none => gated s [(c.isObserver, .refusedRole), (c.slots 1, .badLength)] fun s => ({ status := .refusedState }, s)
  | some x =>
    gated s [(c.tagged && x.role == c.role && x.tenant == c.tenant && x.slot == c.slot, .refusedRole),
        (c.slots 1, .badLength)] fun s => ({ status := .done }, s.voidTicket ticket .cancelled)

def execCtrlApprovalCancel (ch ticket : Nat) (s : State) : Out :=
  .next (s.command ch .ctrlApprovalCancel (runApprovalCancel ticket))

/-! ### Credentials (R61, R67, R77) -/

/-- The channels whose session was opened with a credential slot. -/
def State.sessionsOf (s : State) (role tenant slot : Nat) : List Nat :=
  (List.range 32).filter fun n =>
    match s.session n with
    | some x => credKey x.role x.tenant x.slot == credKey role tenant slot
    | none => false

/-- The sessions opened with a credential close, but for that of channel `me`, which REVOKE closes once its response is returned (R77); a
channel number beyond 31 spares none. -/
def State.closeCred (s : State) (role tenant slot : Nat) (me : Nat) : State :=
  ((s.sessionsOf role tenant slot).filter (· ≠ me)).foldl (fun s n => s.closeSession n .revoked) s

/-- The vault slot of a credential (Table 12-1).
(Log entry 15: DEDUCED.) -/
def credSlot (k : CredKey) : Nat :=
  match k.1 with
  | 0 => 8 + k.2.2
  | 1 => 12 + k.2.2
  | 3 => 16 + k.2.2
  | 4 => 20 + k.2.2
  | _ => 24 + 4 * (k.2.1 - 1) + k.2.2

/-- A committed write or erase of a credential's vault slot raises `vault.updated` (Table 12-12). -/
def State.credUpdated (s : State) (k : CredKey) (op gen : Nat) : State :=
  s.raise .vaultUpdated 0 [16, credSlot k, op, gen, Map.getD s.vault.counters 16 0]

/-- A credential's copy, or its erase record, commits to its vault slot (R77, R307, R308). -/
def State.commitCred (s : State) (k : CredKey) (kind gen : Nat) (secret : List Byte) : State :=
  s.commitCopy 16 (credSlot k) { kind := kind, gen := gen, updateCounter := Map.getD s.vault.counters 16 0, key := secret, testRoot := s.testRoot }

/-- A credential slot's generation rises with every write and erase; at its largest value both are refused (R11).
(Log entry 160: DESIGN CHOICE.) -/
def State.credGenFree (s : State) (k : CredKey) : Bool := decide (Map.getD s.mail.credGens k 0 < 0xFFFFFFFF)

/-- CTRL.CREDENTIAL_SET: the secret is unwrapped under the first 16 bytes of HMAC(Ks, "EWCW"), or taken as it stands
under R67; the slot is set and the sessions of its old credential close (R77), the caller's own among them, whose response is then
untagged (R66).
(Log entry 19: DEDUCED.) -/
def runCredentialSet (role tenant slot kind : Nat) (secret : List Byte) (c : Caller) (s : State) : Reply × State :=
  let plain := match s.session c.ch with
    | some x => if c.tagged then keyUnwrap ((hmac x.ks (ascii [0x45, 0x57, 0x43, 0x57])).take 16) secret else some secret
    | none => some secret
  gated s [(c.isOfficer || (!c.tagged && !s.mail.firstSoSet), .refusedRole),
      (c.body.length == 32 + (if c.tagged then 40 else 32), .badLength),
      (credOk role tenant slot && decide (kind ≤ 1), .badArgument),
      (s.tenantHere tenant, .absentCapacity), (s.credGenFree (credKey role tenant slot), .refusedState),
      (match plain with
       | some p => p.length == 32
       | none => false, .integrity)] fun s =>
    let k := credKey role tenant slot
    let gen := Map.getD s.mail.credGens k 0 + 1
    let s := if (Map.get? s.mail.creds k).isSome then s.closeCred role tenant slot 32 else s
    let s := { s with mail := { s.mail with
      creds := Map.put s.mail.creds k ⟨plain.getD [], kind, gen, s.stamp, Map.getD s.vault.counters 16 0⟩,
      credGens := Map.put s.mail.credGens k gen,
      firstSoSet := s.mail.firstSoSet || (role == 3 && slot == 0) } }
    let s := s.commitCred k 5 gen (plain.getD [])
    ({ status := .done, slots := [gen] }, (s.credUpdated k 0 gen).raise .credentialChanged tenant [role, tenant, slot, gen] true)

/-- A response of channel n that closes the session once it has been returned (R77). -/
def State.closeLater (s : State) (n : Nat) : State :=
  s.modChan n fun c => { c with response := c.response.map fun r => { r with closeAfter := true } }

/-- Whether the response waiting on channel n says DONE. -/
def State.answered (s : State) (n : Nat) : Bool :=
  match (s.chan n).response with
  | some r => decide (r.status = .done)
  | none => false

def execCtrlCredentialSet (ch role tenant slot kind : Nat) (secret : List Byte) (s : State) : Out :=
  .next (s.command ch .ctrlCredentialSet (runCredentialSet role tenant slot kind secret))

/-- The tickets a credential initiated become void (R69). -/
def State.voidCred (s : State) (role tenant slot : Nat) : State :=
  (s.mail.tickets.filter fun x => credKey x.role x.tenant x.slot == credKey role tenant slot).foldl
    (fun s x => s.voidTicket x.ticket .revoked) s

/-- CTRL.CREDENTIAL_REVOKE: the slot is emptied, its sessions close and its tickets become void (R66, R69, R77).
(Log entry 19: DEDUCED.) -/
def runCredentialRevoke (role tenant slot : Nat) (c : Caller) (s : State) : Reply × State :=
  let k := credKey role tenant slot
  gated s [(c.isOfficer, .refusedRole), (c.slots 3, .badLength), (credOk role tenant slot, .badArgument),
      (s.tenantHere tenant, .absentCapacity), (s.credGenFree k, .refusedState), ((Map.get? s.mail.creds k).isSome, .slotEmpty)] fun s =>
    let n := (s.sessionsOf role tenant slot).length
    let s := (s.closeCred role tenant slot c.ch).voidCred role tenant slot
    let gen := Map.getD s.mail.credGens k 0 + 1
    let s := { s with mail := { s.mail with
      creds := Map.del s.mail.creds k, credGens := Map.put s.mail.credGens k gen } }
    let s := s.commitCred k 0 gen []
    ({ status := .done, slots := [n] },
      (s.credUpdated k 1 gen).raise .credentialChanged tenant [role, tenant, slot, gen] true)

def execCtrlCredentialRevoke (ch role tenant slot : Nat) (s : State) : Out :=
  let own := (s.sessionsOf role tenant slot).contains ch && (s.requestFor ch .ctrlCredentialRevoke).isSome
  let t := s.command ch .ctrlCredentialRevoke (runCredentialRevoke role tenant slot)
  .next (if own && t.answered ch then t.closeLater ch else t)

/-- CTRL.CREDENTIAL_LIST: the four slots of a role and tenant. -/
def readCredentialList (role tenant : Nat) (c : Caller) (s : State) : Reply :=
  gatedRead [(c.isOfficer, .refusedRole), (c.slots 2, .badLength), (credOk role tenant 0, .badArgument),
      (s.tenantHere tenant, .absentCapacity)]
    { status := .done, slots := (List.range 4).flatMap fun i =>
        match Map.get? s.mail.creds (credKey role tenant i) with
        | some k => [1, k.kind, k.generation, k.setStamp]
        | none => [0, noValue, Map.getD s.mail.credGens (credKey role tenant i) 0, noValue] }

def execCtrlCredentialList (ch role tenant : Nat) (s : State) : Out :=
  .next (s.readCommand ch .ctrlCredentialList (readCredentialList role tenant))

end Sys2Proof.Machine
end

