-- ==== Sys2Proof/Machine/RecordCore.lean ====
section
/-! DEFINITION. Configuration records: checking, clamping, reporting and applying a record, once for every record
(R71 to R75, R570, R571, R696). -/

namespace Sys2Proof.Machine

open Sys2Proof

/-! ### One field (R72, R73) -/

/-- The value a field's stored bits hold. -/
def FieldSpec.value (f : FieldSpec) (raw : Nat) : Int := if f.signed then toSigned f.width raw else (raw : Int)

/-- Whether a value lies in the range; an empty list of spans admits every value. -/
def FieldSpec.inRange (f : FieldSpec) (v : Int) : Bool := f.spans.isEmpty || f.spans.any fun p => decide (p.1 ≤ v ∧ v ≤ p.2)

/-- The nearest value of the range, the lower on a tie. -/
def FieldSpec.nearest (f : FieldSpec) (v : Int) : Int :=
  if f.inRange v then v
  else (f.spans.flatMap fun p => [p.1, p.2]).foldl
    (fun best e => if (e - v).natAbs < (best - v).natAbs ∨ ((e - v).natAbs = (best - v).natAbs ∧ e < best) then e else best)
    ((f.spans.getD 0 (0, 0)).1)

/-- An entry of the clamp report (Table 3-9). -/
structure ReportEntry where
  bit : Nat
  kind : Nat
  width : Nat
  requested : Nat
  applied : Nat
  deriving DecidableEq, Repr

/-- The bytes of a report entry. -/
def ReportEntry.bytes (e : ReportEntry) : List Byte :=
  le 2 (e.bit / 8) ++ le 1 (e.bit % 8) ++ le 1 e.kind ++ le 2 e.width ++ le 2 0 ++ le 8 (e.requested % 2 ^ 64) ++
    le 8 (e.applied % 2 ^ 64)

/-- A clamp report (R75): its 8-byte head and at most 64 entries. -/
def reportBytes (es : List ReportEntry) (validateOnly : Bool) : List Byte :=
  let n := min es.length 64
  le 2 n ++ le 2 es.length ++ le 4 (bit (decide (64 < es.length)) + 2 * bit validateOnly) ++
    (es.take 64).flatMap ReportEntry.bytes

/-- Whether a field is reserved bits. -/
def FieldSpec.reserved (f : FieldSpec) : Bool := f.clamp == .forced

/-- What one field becomes: the applied bits and a report entry, or the status that refuses the record with the entry of
Kind 3. `given` is the value written, where the field is supplied; `cur` the value it has, where the instance has been
written. -/
def FieldSpec.judge (f : FieldSpec) (given cur : Option Nat) : Except (Status × ReportEntry) (Nat × Option ReportEntry) :=
  match given with
  | some raw =>
    let v := f.value raw
    match f.clamp with
    | .forced => .ok (0, if raw = 0 then none else some ⟨f.bit, 2, f.width, raw, 0⟩)
    | .none => if f.inRange v then .ok (raw, none) else .error (.badArgument, ⟨f.bit, 3, f.width, raw, cur.getD (f.dflt.getD 0)⟩)
    | .reject => if f.inRange v then .ok (raw, none) else .error (.badRecord, ⟨f.bit, 3, f.width, raw, cur.getD (f.dflt.getD 0)⟩)
    | .nearest =>
      if f.inRange v then .ok (raw, none)
      else
        let a := ofSigned f.width (f.nearest v)
        .ok (a, some ⟨f.bit, 0, f.width, raw, a⟩)
  | none =>
    match cur with
    | some x => .ok (x, if f.reserved then none else some ⟨f.bit, 1, f.width, 0, x⟩)
    | none =>
      match f.dflt with
      | some d => .ok (d, if f.reserved then none else some ⟨f.bit, 1, f.width, 0, d⟩)
      | none => .error (.badRecord, ⟨f.bit, 3, f.width, 0, 0⟩)

/-- The fields of a record judged in order of offset: the applied body and the report, or the first refusal. -/
def judgeFields (len : Nat) (raw : Nat) (cur : Option Nat) :
    List FieldSpec → Except (Status × ReportEntry) (Nat × List ReportEntry)
  | [] => .ok (0, [])
  | f :: fs =>
    let given := if f.bit + f.width ≤ 8 * len then some (bitsAt raw f.bit f.width) else none
    match f.judge given (cur.map fun b => bitsAt b f.bit f.width) with
    | .error e => .error e
    | .ok (v, e) =>
      match judgeFields len raw cur fs with
      | .error x => .error x
      | .ok (b, es) => .ok (b + v * 2 ^ f.bit, e.toList ++ es)

/-- The body with every field at its default (fields without one at 0). -/
def Schema.defaultBody (c : Schema) : Nat := (c.fields.map fun f => f.dflt.getD 0 * 2 ^ f.bit).sum

/-- The body CTRL.RECORD_DEFAULT leaves: defaults, and fields without a default at their current value (R73). -/
def Schema.defaulted (c : Schema) (cur : Nat) : Nat :=
  (c.fields.map fun f => (match f.dflt with
    | some d => d
    | none => bitsAt cur f.bit f.width) * 2 ^ f.bit).sum

/-- A field of a body. -/
def Fld.of (f : Fld) (body : Nat) : Nat := bitsAt body f.bit f.width

/-- A one-bit field of a body. -/
def Fld.on (f : Fld) (body : Nat) : Bool := f.of body == 1

/-- A signed field of a body. -/
def Fld.int (f : Fld) (body : Nat) : Int := toSigned f.width (f.of body)

/-! ### What a chapter says of its record -/

/-- Whose object a record instance is (R696): the chip's (tenant 0), the tenant its header names, or the tenant of
another object. -/
inductive RecOwner where
  | chip
  | header
  | object (tenant : Nat)
  deriving DecidableEq, Repr

/-- A record's own rules: whose it is, who writes it for a tenant, what step 9 finds absent and the field that names it, what its chapter refuses at
step 10 (or 11) with which status, what applying it does beside storing it, and the slots a refusal lists. `old` is the
body in force before. -/
structure RecordRule where
  owner : State → (inst : Nat) → RecOwner := fun _ _ => .chip
  writer : State → Caller → (tenant inst : Nat) → Bool
  absent : State → (inst body : Nat) → Option Status := fun _ _ _ => none
  blames : State → (inst body : Nat) → Option Fld := fun _ _ _ => none
  check : State → (tenant inst old body : Nat) → Option Status := fun _ _ _ _ _ => none
  effect : State → (tenant inst old body : Nat) → State := fun s _ _ _ _ => s
  detail : State → Caller → Status → (inst body : Nat) → List Nat := fun _ _ _ _ _ => []

/-- The body in force: that of the written instance, or the defaults. -/
def State.bodyOf (s : State) (c : Schema) (inst : Nat) : Nat :=
  match s.recInst c.id inst with
  | some r => r.body
  | none => c.defaultBody

/-- A record instance is stored and journaled (R74). The stream carries the entry of the pair record without its content (R567, R572). -/
def State.storeRecord (s : State) (rid inst tenant body : Nat) : State :=
  let old := s.recInst rid inst
  let s := { s with records := Map.put s.records (rid, inst) ⟨tenant, body⟩ }
  s.journal .config tenant (rid * 65536 + inst) (.config rid inst tenant body old)

/-- A record applied at a single instant (R74): stored, journaled, and its chapter's effect. -/
def State.applyBody (s : State) (rule : RecordRule) (c : Schema) (tenant inst body : Nat) : State :=
  let old := s.bodyOf c inst
  rule.effect (s.storeRecord c.id inst tenant body) tenant inst old body

/-- What a record write comes to after steps 8 to 11: refused with a status and perhaps a report entry, or a body to
apply with its report. -/
inductive RecordVerdict where
  | refuse (st : Status) (e : Option ReportEntry)
  | accept (body : Nat) (report : List ReportEntry)
  deriving DecidableEq, Repr

/-- Steps 8 to 11 for a record body of `len` bytes (R72, R73).
(Log entry 120: DEDUCED.) -/
def State.judgeRecord (s : State) (rule : RecordRule) (c : Schema) (tenant inst len : Nat) (bodyBytes : List Byte) :
    RecordVerdict :=
  if c.bodyLen < len ∨ bodyBytes.length ≠ len then .refuse .badLength none
  else if c.instances ≤ inst then .refuse .badArgument none
  else
    match judgeFields len (ofLe bodyBytes) ((s.recInst c.id inst).map RecInst.body) c.fields with
    | .error (st, e) => .refuse st (some e)
    | .ok (body, es) =>
      match rule.absent s inst body with
      | some st => .refuse st ((rule.blames s inst body).map fun (f : Fld) => ⟨f.bit, 3, f.width, f.of body, f.of (s.bodyOf c inst)⟩)
      | none =>
        if s.isReleasing tenant then .refuse .refusedState none
        else match rule.check s tenant inst (s.bodyOf c inst) body with
        | some st => .refuse st none
        | none => .accept body es

/-- Whether a header Tenant is one that an instance may have (R696): 0 for a record of the chip, and that of the object that gives the
record its owner; a record whose header names its owner takes any. -/
def State.ownerFits (s : State) (rule : RecordRule) (tenant inst : Nat) : Bool :=
  match rule.owner s inst with
  | .chip => tenant == 0
  | .object t => tenant == t
  | .header => true

/-- A record applied from wherever it comes (a bundle, the journal stream, a row of the table): its header Tenant, then its fields are
checked, clamped and applied, or nothing changed where it is refused.
(Log entry 131: DEDUCED.) -/
def State.applyRecord (s : State) (rule : RecordRule) (c : Schema) (tenant inst : Nat) (bodyBytes : List Byte) : State :=
  if !s.ownerFits rule tenant inst then s
  else match s.judgeRecord rule c tenant inst bodyBytes.length bodyBytes with
  | .refuse _ _ => s
  | .accept body _ => s.applyBody rule c tenant inst body

/-- DONE_CLAMPED where a field was clamped or forced from a non-zero value, and otherwise DONE (R75). -/
def reportStatus (es : List ReportEntry) : Status :=
  if es.any (fun e => e.kind == 0 || e.kind == 2) then .doneClamped else .done

/-- Step 7 for a write: the session may write the record, and the header tenant is one the record may have; moving an
instance between owners needs the right for both, and an instance at its defaults has no owner (R696).
(Log entry 131: DEDUCED.) -/
def State.mayWrite (s : State) (rule : RecordRule) (rid : Nat) (c : Caller) (tenant inst : Nat) : Bool :=
  match rule.owner s inst with
  | .chip => rule.writer s c 0 inst
  | .object t => decide (tenant = t) && rule.writer s c tenant inst
  | .header =>
    rule.writer s c tenant inst &&
      (match s.recInst rid inst with
       | some r => decide (r.tenant = tenant) || decide (some r.body = (Schema.find rid).map Schema.defaultBody) || rule.writer s c r.tenant inst
       | none => true)

/-- The canonical bytes of a record instance (R570): none where every field is at its default; ChipLetter of the pair
record counts as 0 (R567).
(Log entry 122: DESIGN CHOICE.) -/
def State.canonical (s : State) (c : Schema) (inst : Nat) : List Byte :=
  match s.recInst c.id inst with
  | none => []
  | some r =>
    let body := if c.id = 0x1400 then setBits r.body 0 1 0 else r.body
    if body = c.defaultBody then []
    else le 2 c.id ++ le 1 1 ++ le 1 0 ++ le 4 inst ++ le 2 c.bodyLen ++ le 2 r.tenant ++ le 4 0 ++ le c.bodyLen body

/-- The instances of a domain that have canonical bytes, in the order of R571. -/
def State.domainInstances (s : State) (d : Nat) : List (Schema × Nat) :=
  (Schema.all.filter fun c => c.id / 256 == d).flatMap fun c =>
    (sortBy (fun (i : Nat) => (i : Int)) ((Map.keys s.records).filterMap fun k => if k.1 = c.id then some k.2 else none)).filterMap
      fun i => if (s.canonical c i).isEmpty then none else some (c, i)

/-- The schemas of a domain in ascending order of RecordId. -/
def State.domainOrdered (s : State) (d : Nat) : List (Schema × Nat) :=
  sortBy (fun p => (p.1.id : Int)) (s.domainInstances d)

/-- The code of a tenant state in the digest of domain 0x13 (R571). -/
def TenSt.code : TenSt → Nat
  | .opened => 0 | .sealed => 1 | .releasing => 2

/-- The configuration digest of a domain (R571). -/
def State.configDigest (s : State) (d : Nat) : List Byte :=
  sha256 ((s.domainOrdered d).flatMap (fun p => s.canonical p.1 p.2) ++
    (if d = 0x13 then (List.range 16).map (fun t => BitVec.ofNat 8 (s.tenant t).st.code) else []))

/-- The 24 configuration digests. -/
def State.configDigests (s : State) : List (List Byte) := (List.range 24).map fun d => s.configDigest (d + 1)

end Sys2Proof.Machine
end

