-- ==== Sys2Proof/Machine/Vault.lean ====
section
/-! DEFINITION. Chapter 12: the key vault: slots and generations, commits, derivation, update messages, digests
(R300 to R330). -/

namespace Sys2Proof.Machine

open Sys2Proof

/-! ### The slot map (Tables 12-1 and 12-2) -/

/-- The kinds a slot may hold; none for a reserved slot and for the identity key. -/
def slotKinds (d slot : Nat) : List Nat :=
  if d < 16 then
    if slot = 0 ∨ slot = 1 ∨ slot = 2 then [2]
    else if slot = 3 then [4]
    else if slot = 4 then [3]
    else if 16 ≤ slot ∧ slot < 48 then [1, 2]
    else []
  else if d = 16 then
    if slot = 1 then [4]
    else if slot = 2 then [2]
    else if slot = 3 then [3]
    else if 8 ≤ slot ∧ slot < 84 then [5]
    else []
  else []

/-- The key bytes of a kind. -/
def kindBytes (k : Nat) : Nat := if k = 1 then 16 else if k = 2 ∨ k = 3 ∨ k = 5 then 32 else if k = 4 then 64 else 0

/-- The payload bytes of a kind in an update message. -/
def kindPayload (k : Nat) : Nat := if k = 1 then 24 else if k = 2 ∨ k = 3 then 40 else if k = 4 then 64 else 0

/-- The authority slot of a domain (R315). -/
def authoritySlot (d : Nat) : Nat := if d = 16 then 1 else 3

/-- The slots of a domain. -/
def domainSlots (d : Nat) : Nat := if d = 16 then 128 else 64

/-- Whether a domain is within the variant's capacity (R300). -/
def State.domainHere (s : State) (d : Nat) : Bool := d == 16 || s.tenantHere d

/-- The tenant under whose number events of a domain are raised. -/
def domainTenant (d : Nat) : Nat := if d < 16 then d else 0

/-! ### Slots in use (R302 to R306) -/

/-- The generation of a slot: that of its newest committed copy. -/
def State.slotGen (s : State) (d slot : Nat) : Nat :=
  match s.copy d slot with
  | some c => c.gen
  | none => 0

/-- The key a new binding of a slot gets, while the vault is OPEN: none while an erase drains, the shadow's where a
switch is pending (the request waits for it, R304), and otherwise the live one.
(Log entry 17: DESIGN CHOICE.) -/
def State.slotKey (s : State) (d slot : Nat) : Option VaultCopy :=
  if s.vault.st ≠ .opened ∨ s.vault.erasing.contains (d, slot) then none
  else match Map.get? s.vault.shadow (d, slot) with
    | some c => some c
    | none => Map.get? s.vault.live (d, slot)

/-- The key bytes a new binding gets. -/
def State.keyBytes (s : State) (d slot : Nat) : Option (List Byte) := (s.slotKey d slot).map VaultCopy.key

/-- A binding of a slot for work charged to a tenant (16: the control cluster, R302): refused and reported for other
work; counted, with its wait where a switch is pending.
(Log entry 17: DESIGN CHOICE.) -/
def State.bind (s : State) (d slot charged : Nat) : Option (List Byte) × State :=
  if charged ≠ d then
    (none, (s.count { name := .vaultViolations, a := d }).raise .vaultDomainViolation (domainTenant d) [d, charged])
  else match s.slotKey d slot with
    | none => (none, s)
    | some c =>
      let s := s.count { name := .vaultBound, a := d }
      (some c.key, if Map.has s.vault.shadow (d, slot) then s.count { name := .vaultWaits, a := d } else s)

/-- Whether a slot is occupied, counting what is committed. -/
def State.slotSet (s : State) (d slot : Nat) : Bool :=
  match s.copy d slot with
  | some c => decide (c.kind ≠ 0)
  | none => false

/-- Whether a slot's generation has reached its largest value: further updates of its key are refused (R11, R312). -/
def State.genSpent (s : State) (d slot : Nat) : Bool := decide (0xFFFFFFFF ≤ s.slotGen d slot)

/-- A write or erase commits (R308): its copy is programmed, and it loads the shadow (R304) or starts the erase
(R305); a broadcast slot's BcCtr returns to 0 and its exhaustion is reported anew (R175); `vault.updated` is raised.
(Log entry 17: DESIGN CHOICE.) -/
def State.commitSlot (s : State) (d slot kind counter : Nat) (key : List Byte) : State :=
  let c : VaultCopy :=
    { kind := kind, gen := min (s.slotGen d slot + 1) 0xFFFFFFFF, updateCounter := counter, key := key, testRoot := s.testRoot }
  let s := s.commitCopy d slot c
  let v := s.vault
  let v := if kind = 0 then
      { v with shadow := Map.del v.shadow (d, slot), live := Map.del v.live (d, slot),
               erasing := if v.erasing.contains (d, slot) then v.erasing else v.erasing ++ [(d, slot)] }
    else
      { v with shadow := Map.put v.shadow (d, slot) c,
               bcCtr := if d < 16 ∧ 16 ≤ slot ∧ slot < 48 then Map.put v.bcCtr (d, slot - 16) 0 else v.bcCtr }
  let bc := decide (kind ≠ 0 ∧ d < 16 ∧ 16 ≤ slot ∧ slot < 48)
  ({ s with vault := v, lea := if bc then { s.lea with bcRaised := s.lea.bcRaised.filter (· ≠ (d, slot)) } else s.lea }).raise
    .vaultUpdated (domainTenant d) [d, slot, bit (decide (kind = 0)), c.gen, counter]

/-- The committed counter of a domain (R315). -/
def State.domainCounter (s : State) (d : Nat) : Nat := Map.getD s.vault.counters d 0

/-- The bindings to a slot's live generation drain and the shadow becomes live (R304). -/
def execKeySwitch (domain slot : Nat) (s : State) : Out :=
  match Map.get? s.vault.shadow (domain, slot) with
  | none => .next s
  | some c => .next { s with vault := { s.vault with
      live := Map.put s.vault.live (domain, slot) c, shadow := Map.del s.vault.shadow (domain, slot),
      erasing := s.vault.erasing.filter (fun k => !decide (k = (domain, slot))) } }

/-- The last operation bound to an erased slot ends and the old key is zeroised (R305). -/
def execKeyEraseDrained (domain slot : Nat) (s : State) : Out :=
  .next { s with vault := { s.vault with erasing := s.vault.erasing.filter (fun k => !decide (k = (domain, slot))) } }

/-- The noise source fails its health tests, or recovers after 1 024 good samples (R311).
(Log entry 21: DEDUCED.) -/
def execRngHealthFault (healthy : Bool) (test : Nat) (s : State) : Out :=
  if healthy then .next { s with vault := { s.vault with rngOk := true } }
  else .next ((({ s with vault := { s.vault with rngOk := false } }).count { name := .vaultRngFaults }).raise
    .vaultRngFault 0 [test])

/-! ### Power-up (R309, R318, R319, R324, R325) -/

/-- The copies of one slot at power-up: the valid one of highest generation becomes live; a slot that had been written
and has no valid copy is reported lost. -/
def State.loadSlot (s : State) (k : Nat × Nat) : State :=
  match s.validCopies k.1 k.2 with
  | c :: l =>
    { s with vault := { s.vault with
      copies := Map.put s.vault.copies k (c :: l),
      live := if c.kind = 0 then Map.del s.vault.live k else Map.put s.vault.live k c } }
  | [] => (s.count { name := .vaultLost, a := k.1 }).raise .vaultCopyLost (domainTenant k.1) [k.1, k.2]

/-- A domain's committed counter at power-up (R309): the largest of its valid entries and of its valid copies' UpdateCounters. -/
def State.loadCounter (s : State) (d : Nat) : State :=
  let n := ((s.validEntries d).map Prod.fst ++ ((s.vault.copies.filter fun e => e.1.1 == d).flatMap fun e => e.2.map VaultCopy.updateCounter)).foldl max 0
  { s with vault := { s.vault with counters := if n = 0 then Map.del s.vault.counters d else Map.put s.vault.counters d n } }

/-- The vault reads its banks (R309): the valid copies, the counters, the credentials whose copy is valid, and whether the exception of
R67 has closed for the root in effect; what was written under another root fails its Mac (R319). -/
def State.loadVault (s : State) : State :=
  let keep := s.vault.counterTestRoot == s.testRoot
  let s := { s with vault := { s.vault with
    copies := [], live := [], shadow := [], erasing := [], counterTestRoot := s.testRoot, rngOk := true,
    exhausted := if keep then s.vault.exhausted else [] } }
  let s := s.writtenSlots.foldl State.loadSlot s
  let s := (List.range 17).foldl State.loadCounter s
  let s := { s with mail := { s.mail with
    creds := s.mail.creds.filter fun e => match s.copy 16 (credSlot e.1) with
      | some c => decide (c.kind = 5)
      | none => false,
    credGens := s.mail.credGens.filter fun e => (s.copy 16 (credSlot e.1)).isSome,
    firstSoSet := (s.validEntries 16).any Prod.snd } }
  if s.testRoot then s.raise .vaultTestRoot 0 [s.mail.serial] else s

/-! ### Derivation (R310, Table 12-6) -/

/-- The identity public key under a root (R310, R320): d = (output mod (n − 1)) + 1, X then Y.
(Log entry 18: DEDUCED.) -/
def identityPub (root : List Byte) (serial : Nat) : List Byte :=
  let out := ofLe (kdf root (ascii [0x45, 0x57, 0x49, 0x44]) (le 8 serial) 384)
  match p256Mul 256 (out % (p256N - 1) + 1) (some p256G) with
  | some (x, y) => be 32 x ++ be 32 y
  | none => List.replicate 64 0

/-- The meter key derived from a tenant's root (R284, Table 12-6). -/
def meterKey (root : List Byte) (t : Nat) (address : List Byte) (g keyBits : Nat) : List Byte :=
  kdf root (ascii [0x45, 0x57, 0x4D, 0x4B]) (le 1 t ++ address ++ le 4 g) (if keyBits = 1 then 256 else 128)

/-! ### Digests (R327) -/

/-- The check value of an occupied slot. -/
def VaultCopy.check (c : VaultCopy) : List Byte :=
  if c.kind = 4 then sha256 c.key else (hmac c.key (ascii [0x45, 0x57, 0x4B, 0x43])).take 8

/-- The digest of a domain: its occupied slots in order, without credentials, the identity slot and transport slots. -/
def State.vaultDigest (s : State) (d : Nat) : List Byte :=
  sha256 ((List.range (domainSlots d)).flatMap fun slot =>
    if slot = 2 ∨ (d = 16 ∧ (slot = 0 ∨ (8 ≤ slot ∧ slot < 84))) then []
    else match s.copy d slot with
      | some c => if c.kind = 0 then [] else le 1 slot ++ le 1 c.kind ++ c.check
      | none => [])

/-- The 17 vault digests. -/
def State.vaultDigests (s : State) : List (List Byte) := (List.range 17).map s.vaultDigest

/-! ### Commands (R329) -/

/-- The scope of the domain reads (R329): `counters` marks the read that a security officer may not make of a sealed
tenant's domain. -/
def State.domainScope (s : State) (c : Caller) (d : Nat) (counters : Bool) : Bool :=
  if c.role = 3 then !(counters && decide (d < 16) && s.isSealed d)
  else if c.tenant = 0 then decide (d = 0 ∨ (9 ≤ d ∧ d ≤ 16))
  else c.tenant == d

/-- Who may change the keys of a domain (R313).
(Log entry 18: DEDUCED.) -/
def State.mayUpdate (s : State) (c : Caller) (d : Nat) : Bool :=
  (c.isOfficer && (d == 0 || d == 16 || (decide (d < 16) && !s.isSealed d))) ||
    (decide (1 ≤ d ∧ d ≤ 15) && c.isTenantAdmin d)

/-- The code of a vault state. -/
def VaultSt.code : VaultSt → Nat
  | .loading => 0 | .opened => 1 | .sealed => 2

/-- VAULT.STATUS_READ. -/
def readVaultStatus (c : Caller) (s : State) : Reply :=
  gatedRead [(c.isObserver, .refusedRole), (c.slots 0, .badLength)]
    { status := .done, slots := [s.vault.st.code, slotOpt s.vault.sealCause, bit s.testRoot, bit s.vault.tamperLatched,
        s.vault.loopsOpen % 2, s.vault.loopsOpen / 2 % 2, bit (!s.vault.rngOk)] }

def execVaultStatusRead (ch : Nat) (s : State) : Out := .next (s.readCommand ch .vaultStatusRead readVaultStatus)

/-- What VAULT.SLOTS_READ says of a slot.
(Log entry 15: DEDUCED.) -/
def State.slotRow (s : State) (d slot : Nat) : List Nat :=
  let credential := s.mail.creds.find? fun e => decide (d = 16) && credSlot e.1 == slot
  match credential with
  | some e => [slot, 5, e.2.generation, e.2.updateCounter, 0, 0]
  | none =>
    let kind := match s.copy d slot with
      | some c => c.kind
      | none => 0
    let counter := match s.copy d slot with
      | some c => c.updateCounter
      | none => 0
    let gen := match s.mail.credGens.find? fun e => decide (d = 16) && credSlot e.1 == slot with
      | some e => e.2
      | none => s.slotGen d slot
    [slot, kind, gen, counter, 0, bit (Map.has s.vault.shadow (d, slot))]

/-- VAULT.SLOTS_READ: the slots of a domain that Table 12-1 gives a content, credential slots to officers only. -/
def readVaultSlots (d : Nat) (c : Caller) (s : State) : Reply :=
  let shown := (List.range (domainSlots d)).filter fun k =>
    !(slotKinds d k).isEmpty && (!(slotKinds d k).contains 5 || c.isOfficer)
  gatedRead [(c.isObserver && (decide (16 < d) || s.domainScope c d false), .refusedRole), (c.slots 1, .badLength),
      (decide (d ≤ 16), .badArgument), (s.domainHere d, .absentCapacity)]
    { status := .done, slots := shown.length :: shown.flatMap (s.slotRow d) ++ [s.domainCounter d] }

def execVaultSlotsRead (ch domain : Nat) (s : State) : Out :=
  .next (s.readCommand ch .vaultSlotsRead (readVaultSlots domain))

/-- A message is refused: counted by status, and `vault.update_refused` at most once per domain per 60 s.
(Log entry 39: DEDUCED.) -/
def State.refuseUpdate (s : State) (d : Nat) (st : Status) : State :=
  let r := Map.getD s.vault.refused d {}
  let s := s.count { name := .vaultRefused, a := d, b := st.code }
  let due := match r.lastMs with
    | some t => decide (t + 60000 ≤ s.time.ms)
    | none => true
  let r' : VaultRefused := if due then { lastMs := some s.time.ms, count := 0 } else { r with count := r.count + 1 }
  let s := { s with vault := { s.vault with refused := Map.put s.vault.refused d r' } }
  if due then s.raise .vaultUpdateRefused (domainTenant d) [d, st.code, r.count + 1] else s

/-- The plain key a message carries (Table 12-8 step 9). -/
def State.messageKey (s : State) (d kind : Nat) (payload : List Byte) : Except Status (List Byte) :=
  if kind = 4 ∨ kind = 0 then .ok payload
  else match s.copy d 2 with
    | some t =>
      if t.kind = 0 then .error .slotEmpty
      else match keyUnwrap t.key payload with
        | some k => if k.length = kindBytes kind then .ok k else .error .integrity
        | none => .error .integrity
    | none => .error .slotEmpty

/-- Steps 1 to 9 of Table 12-8: the status of the first check that fails, or the plain key.
(Log entry 18: DEDUCED.) -/
def State.checkUpdate (s : State) (m : List Byte) : Except Status (List Byte) :=
  let op := leAt m 5 1 % 16
  let d := leAt m 6 1
  let slot := leAt m 7 1
  let kind := leAt m 20 1
  let n := leAt m 22 2
  let authority := s.copy d (authoritySlot d)
  if leAt m 0 4 ≠ 0x4B555745 ∨ leAt m 4 1 ≠ 1 ∨ 1 < op ∨ n ≠ kindPayload kind ∨ m.length ≠ 96 + n then .error .badLength
  else if leAt m 8 8 ≠ s.mail.serial ∨ bitOn (leAt m 5 1) 4 ≠ s.testRoot then .error .vaultDevice
  else if (slotKinds d slot).isEmpty ∨ (slotKinds d slot).contains 5 ∨
      !(if op = 1 then kind == 0 else (slotKinds d slot).contains kind) then .error .vaultSlot
  else if !s.slotSet d (authoritySlot d) then .error .slotEmpty
  else if !ecdsaVerify ((authority.map VaultCopy.key).getD []) (m.take (m.length - 64)) (m.drop (m.length - 64)) then
    .error .vaultSignature
  else if leAt m 16 4 ≤ s.domainCounter d then .error .vaultCounter
  else if s.genSpent d slot then .error .vaultGenExhausted
  else if op = 1 ∧ !s.slotSet d slot then .error .slotEmpty
  else s.messageKey d kind (slice m 32 n)

/-- VAULT.UPDATE: a signed key-update message is checked and committed (R312 to R315). -/
def runVaultUpdate (m : List Byte) (c : Caller) (s : State) : Reply × State :=
  let d := leAt m 6 1
  gated s [(s.mayUpdate c d, .refusedRole), (decide (c.body.length = m.length), .badLength),
      (s.domainHere d, .absentCapacity), s.notReleasing d] fun s =>
    match s.checkUpdate m with
    | .error st => ({ status := st }, s.refuseUpdate d st)
    | .ok key =>
      let n := leAt m 16 4
      let s := { s with vault := { s.vault with counters := Map.put s.vault.counters d n } }
      let s := s.commitSlot d (leAt m 7 1) (leAt m 20 1) n key
      let gen := s.slotGen d (leAt m 7 1)
      if n = 0xFFFFFFFF ∧ !s.vault.exhausted.contains d then
        ({ status := .done, slots := [gen, n] },
          ({ s with vault := { s.vault with exhausted := s.vault.exhausted ++ [d] } }).raise .vaultCounterExhausted
            (domainTenant d) [d])
      else ({ status := .done, slots := [gen, n] }, s)

def execVaultUpdate (ch : Nat) (msg : List Byte) (s : State) : Out :=
  .next (s.command ch .vaultUpdate (runVaultUpdate msg))

/-- VAULT.AUTHORITY_SET: the first authority key of a domain (R316).
(Log entry 20: DEDUCED.) -/
def runVaultAuthoritySet (d : Nat) (key : List Byte) (c : Caller) (s : State) : Reply × State :=
  gated s [(s.mayUpdate c d, .refusedRole), (c.body.length == 72 && key.length == 64, .badLength),
      (decide (d ≤ 16) && p256OnCurve key, .badArgument), (s.domainHere d, .absentCapacity),
      (!s.slotSet d (authoritySlot d) && !s.genSpent d (authoritySlot d), .refusedState), s.notReleasing d] fun s =>
    let s := s.commitSlot d (authoritySlot d) 4 (s.domainCounter d) key
    ({ status := .done, slots := [s.slotGen d (authoritySlot d)] }, s)

def execVaultAuthoritySet (ch domain : Nat) (key : List Byte) (s : State) : Out :=
  .next (s.command ch .vaultAuthoritySet (runVaultAuthoritySet domain key))

/-- VAULT.TRANSPORT_SET: the first transport key of a domain, wrapped under HMAC(Ks, "EWVT") (R316). -/
def runVaultTransportSet (d : Nat) (wrapped : List Byte) (c : Caller) (s : State) : Reply × State :=
  let ks := match s.session c.ch with
    | some x => x.ks
    | none => []
  gated s [(s.mayUpdate c d, .refusedRole), (c.body.length == 48 && wrapped.length == 40, .badLength),
      (decide (d ≤ 16), .badArgument), (s.domainHere d, .absentCapacity),
      (!s.slotSet d 2 && !s.genSpent d 2, .refusedState), s.notReleasing d] fun s =>
    match keyUnwrap ((hmac ks (ascii [0x45, 0x57, 0x56, 0x54])).take 16) wrapped with
    | none => ({ status := .integrity }, s)
    | some k =>
      let s := s.commitSlot d 2 2 (s.domainCounter d) k
      ({ status := .done, slots := [s.slotGen d 2] }, s)

def execVaultTransportSet (ch domain : Nat) (wrapped : List Byte) (s : State) : Out :=
  .next (s.command ch .vaultTransportSet (runVaultTransportSet domain wrapped))

/-- VAULT.IDENTITY_READ: serial, identity public key, certificate, and the test identity while debug is open. -/
def readVaultIdentity (c : Caller) (s : State) : Reply :=
  gatedRead [(c.slots 0, .badLength)]
    { status := .done,
      data := le 8 s.mail.serial ++ identityPub s.pow.hardwareRoot s.mail.serial ++
        le 8 s.vault.certificate.length ++ s.vault.certificate ++
        (if s.testRoot then identityPub (testRootKey s.mail.serial) s.mail.serial else []) }

def execVaultIdentityRead (ch : Nat) (s : State) : Out := .next (s.readCommand ch .vaultIdentityRead readVaultIdentity)

/-- VAULT.DIGEST_READ. -/
def readVaultDigest (d : Nat) (c : Caller) (s : State) : Reply :=
  gatedRead [(c.isObserver && (decide (16 < d) || s.domainScope c d false), .refusedRole), (c.slots 1, .badLength),
      (decide (d ≤ 16), .badArgument), (s.domainHere d, .absentCapacity)]
    { status := .done, data := s.vaultDigest d }

def execVaultDigestRead (ch domain : Nat) (s : State) : Out :=
  .next (s.readCommand ch .vaultDigestRead (readVaultDigest domain))

/-- VAULT.COUNTERS_READ: the counters of R330, the saturation flag after each event count (R11).
(Log entry 139: DESIGN CHOICE.) -/
def readVaultCounters (d : Nat) (c : Caller) (s : State) : Reply :=
  let tally (k : Ctr) : List Nat := [s.ctr k, bit (s.saturated k)]
  let statuses : List Status := [.badLength, .vaultDevice, .vaultSlot, .slotEmpty, .vaultSignature, .vaultCounter,
    .vaultGenExhausted, .integrity]
  gatedRead [(c.isObserver && (decide (16 < d) || s.domainScope c d true), .refusedRole), (c.slots 1, .badLength),
      (decide (d ≤ 16), .badArgument), (s.domainHere d, .absentCapacity)]
    { status := .done, slots :=
        [s.ctr { name := .vaultBound, a := d }, s.ctr { name := .vaultWaits, a := d }] ++
        statuses.map (fun st => s.ctr { name := .vaultRefused, a := d, b := st.code }) ++
        tally { name := .vaultAlarms } ++ tally { name := .vaultLost, a := d } ++
        tally { name := .vaultViolations, a := d } ++ tally { name := .vaultRngFaults } }

def execVaultCountersRead (ch domain : Nat) (s : State) : Out :=
  .next (s.readCommand ch .vaultCountersRead (readVaultCounters domain))

/-! ### The vault policy record (R328) -/

/-- The vault policy record: a security officer writes it, and not the bit of a sealed tenant. -/
def ruleVaultPolicy : RecordRule where
  writer _ c _ _ := c.isOfficer
  check s _ _ old body :=
    if (List.range 16).any fun t => s.isSealed t && (bitOn old t != bitOn body t) then some .refusedState else none

def execVaultPolicyRecord (tenant inst : Nat) (body : List Byte) (s : State) : Out :=
  .next (s.applyRecord ruleVaultPolicy Schema.VaultPolicy tenant inst body)

end Sys2Proof.Machine
end

