-- ==== Sys2Proof/Machine/Lanes.lean ====
section
/-! DEFINITION. Chapter 4: field lanes: superframes, control messages, latency, starting and losing lanes (R80 to
R108). -/

namespace Sys2Proof.Machine

open Sys2Proof

/-! ### A lane -/

/-- A lane. -/
def State.lane (s : State) (n : Nat) : Lane := Map.getD s.lanes n {}

/-- The state with a lane set. -/
def State.setLane (s : State) (n : Nat) (l : Lane) : State := { s with lanes := Map.put s.lanes n l }

/-- The state with a lane changed. -/
def State.modLane (s : State) (n : Nat) (f : Lane → Lane) : State := s.setLane n (f (s.lane n))

/-- The unit state of a lane. -/
def State.laneSt (s : State) (n : Nat) : UnitSt := s.unitSt (.lane n)

/-- Whether a lane is ON. -/
def State.laneOn (s : State) (n : Nat) : Bool := s.unitOn (.lane n)

/-- Whether a lane is STARTING. -/
def State.laneStarting (s : State) (n : Nat) : Bool := decide (s.laneSt n = .starting)

/-- Whether a lane is in line mode. -/
def State.lineMode (s : State) (n : Nat) : Bool := s.rdB Rec.Lane.Mode n

/-- Whether the latency filter is full (R94). -/
def Lane.full (l : Lane) : Bool := l.paths.length == 1024

/-- The filtered path P in ps (R94), the mean rounded down, as is P / 2.
(Log entry 156: DESIGN CHOICE.) -/
def Lane.path (l : Lane) : Int := if l.paths.isEmpty then 0 else l.paths.sum / l.paths.length

/-- Upstream latency U in ps (R95). -/
def State.laneU (s : State) (n : Nat) : Int := (s.lane n).path / 2 + s.rdS Rec.Lane.AsymmetryPs n

/-- Downstream latency D in ps (R95). -/
def State.laneD (s : State) (n : Nat) : Int := (s.lane n).path / 2 - s.rdS Rec.Lane.AsymmetryPs n

/-- A(M, s): the air time in ps of sample 0 of a superframe received at `tRx` ps, for a stream (R95). -/
def State.sampleAirPs (s : State) (n stream tRx : Nat) : Int :=
  let lead : Nat := match (s.lane n).head with
    | some h => h.sampleLead
    | none => 0
  (tRx : Int) - s.laneU n - lead - s.rd (Rec.Lane.AntennaDelayPs stream) n

/-- A as reception receives it: whole air-time periods and a remainder of 0 to 499 ps (R95). -/
def State.sampleAir (s : State) (n stream tRx : Nat) : Int × Int :=
  (s.sampleAirPs n stream tRx / 500, s.sampleAirPs n stream tRx % 500)

/-- How long in ps before it leaves antenna s a transmit sample leaves the chip (R95). -/
def State.txAheadPs (s : State) (n stream : Nat) : Int :=
  let lead : Nat := match (s.lane n).head with
    | some h => h.txLead
    | none => 0
  s.laneD n + lead + s.rd (Rec.Lane.AntennaDelayPs stream) n

/-- Whether a lane is timed (R87); a standby lane carries no samples and is not (R93).
(Log entry 26: DEDUCED.) -/
def State.timed (s : State) (n : Nat) : Bool :=
  let l := s.lane n
  s.laneOn n && l.hdr.lock == 2 && l.full && l.freqOk && l.sfLock && l.hdr.samplesValid

/-- The 12-bit identifier of tributary slot t of a lane (R88). -/
def State.tribId (s : State) (n t : Nat) : Nat := s.rd Rec.Lane.LineGroup n * 256 + t

/-! ### What a lane sends (R82, R83, R90, R94) -/

/-- The air time now in ps. -/
def State.airPs (s : State) : Nat := s.time.air * 500

/-- The time of a superframe in ps (R82). -/
def superframePs : Nat := 10240000

/-- The stamp t_tx of the superframe a head names by its 32-bit count, where it was sent before an instant (R94): superframes leave one
after the other while the transmitter runs. -/
def Lane.tTx (l : Lane) (echo before : Nat) : Option Nat :=
  match l.txFromPs with
  | some f =>
    let t := f + (echo + 2 ^ 32 - l.txCount % 2 ^ 32) % 2 ^ 32 * superframePs
    if t ≤ before then some t else none
  | none => none

/-- How many superframes a lane has sent by an instant. -/
def Lane.sent (l : Lane) (ps : Nat) : Nat :=
  match l.txFromPs with
  | some f => l.txCount + (ps - f) / superframePs
  | none => l.txCount

/-- A lane's transmitter stops: its superframe count stands. -/
def Lane.stopTx (l : Lane) (ps : Nat) : Lane := { l with txFromPs := none, txCount := l.sent ps % 2 ^ 48 }

/-- The header of a downstream superframe (Table 4-2): what only a head says is 0. -/
def downHeader (mask count claim stamp : Nat) : List Byte :=
  let h := le 4 0x5D3A96C1 ++ le 1 1 ++ le 1 (2 * bit (decide (mask ≠ 0))) ++ le 1 mask ++ le 1 0 ++ le 4 count ++ le 4 0 ++ le 4 0 ++
    le 8 claim ++ le 8 stamp ++ le 1 0 ++ le 3 0 ++ le 8 0 ++ le 12 0
  h ++ le 4 (crc32c h)

/-- A control message: header, body and CRC-32C (R90, Table 4-5). -/
def ctrlMessage (type trib seq : Nat) (body : List Byte) : List Byte :=
  let m := le 1 type ++ le 1 trib ++ le 2 seq ++ le 2 body.length ++ le 1 0 ++ le 1 0 ++ body
  m ++ le 4 (crc32c m)

/-- The bytes of the control message area. -/
def ctrlArea : Nat := 10176

/-- The messages that fit an area of `room` bytes whole, in order, and those left for the next superframe (R90). -/
def packMessages : Nat → List (List Byte) → List (List Byte) × List (List Byte)
  | _, [] => ([], [])
  | room, m :: l =>
    if m.length ≤ room then
      let r := packMessages (room - m.length) l
      (m :: r.1, r.2)
    else ([], m :: l)

/-- The messages packed in an area, in order: a message of type 0 or the end of the area ends them; none spans its end, and one whose
length no header may give ends them too, as a message whose CRC fails (R90). The number says how many failed so. -/
def unpackMessages : Nat → List Byte → List (List Byte) × Nat
  | 0, _ => ([], 0)
  | n + 1, a =>
    let len := leAt a 4 2
    if a.length < 12 ∨ leAt a 0 1 = 0 then ([], 0)
    else if 4096 < len ∨ a.length < 12 + len then ([], 1)
    else
      let r := unpackMessages n (a.drop (12 + len))
      let m := a.take (12 + len)
      if leAt m (8 + len) 4 = crc32c (m.take (8 + len)) then (m :: r.1, r.2) else (r.1, r.2 + 1)

/-- Tributary slot t of a lane. -/
def State.trib (s : State) (n t : Nat) : Trib := Map.getD (s.lane n).tribs t {}

/-- The line-mode lane that carries a tributary identifier. -/
def State.tribLane (s : State) (id : Nat) : Option Nat :=
  (List.range 64).find? fun n => s.laneHere n && s.lineMode n && s.rd Rec.Lane.LineGroup n == id / 256

/-- Whether a tributary is up: its lane ON, Present 1 and LockState 2 (R89). -/
def State.tribUp (s : State) (id : Nat) : Bool :=
  match s.tribLane id with
  | some n => s.laneOn n && (s.trib n (id % 256)).present && (s.trib n (id % 256)).lock == 2
  | none => false

/-- Sample j of container c of a sample area, as a signed 12-bit value (R85). -/
def containerSample (area : List Byte) (c j : Nat) : Int := toSigned 12 (bitsAt (leAt area (48 * c) 48) (12 * j) 12)

/-- Sample k of a stream in a superframe's sample area (R85). -/
def streamSample (area : List Byte) (stream k : Nat) : Int := containerSample area (k / 32 * 8 + stream) (k % 32)

/-- The containers (spectrum mode) or tributary slots (line mode) whose bytes an uncorrectable codeword carried; a codeword
carries 640 payload bytes from byte `start` of the superframe (R103).
(Log entry 25: DEDUCED.) -/
def erasedUnits (line : Bool) (start : Nat) : List Nat :=
  let size := if line then 960 else 48
  ((List.range (245760 / size)).filter fun c =>
    decide (start < 10240 + size * (c + 1) ∧ 10240 + size * c < start + 640))

/-! ### Starting and losing a lane (R99 to R105) -/

/-- A lane's start begins at step 1 SIGNAL, for a reason (0 command, 1 boot, 2 deferred, 3 relock). -/
def State.startLane (s : State) (n reason : Nat) : State :=
  s.modLane n fun l => { l with
    step := 1, stepMs := s.time.ms, startMs := s.time.ms, reason := reason, startFailed := false, mismatch := false,
    refused := false, identifyFailed := false, sfLock := false, good := 0, bad := 0, paths := [], devRun := 0,
    window := none, windowCount := 0, freqOk := true, reqs := [], tribListed := false,
    txFromPs := some (l.txFromPs.getD s.airPs), inbox := [], outbox := [] }

/-- The enable of a lane by the device itself or by command: the unit moves by the enable rule, and a lane that enters
STARTING begins its steps. -/
def State.enableLane (s : State) (n reason : Nat) : Status × State :=
  let was := s.laneSt n
  let r := enableUnit (s.unit (.lane n))
  let s := s.setUnit (.lane n) r.1
  (r.2, if was = .off ∧ r.1.st = .starting then s.startLane n reason else s)

/-- The lane ends: OFF, or starting again for the reason `deferred` (R41); `lane.stopped` is raised. -/
def State.endLane (s : State) (n : Nat) : State :=
  let s := (s.modLane n fun l => { (l.stopTx s.airPs) with
    step := 0, sfLock := false, reqs := [], tribs := [], hdr := {}, inbox := [], outbox := [], down := none }).raise
    .laneStopped 0 [n]
  if s.laneSt n = .starting then s.startLane n 2 else s

/-- An ON lane loses lock and returns to STARTING at the step that lost it: 0 signal, 1 FEC lock, 2 superframe lock
(R102). -/
def State.loseLock (s : State) (n cause : Nat) : State :=
  if s.laneOn n then
    let s := s.setUnit (.lane n) { s.unit (.lane n) with st := .starting }
    let s := (s.startLane n 3).modLane n fun l => { l with step := cause + 1 }
    if cause = 2 then (s.count { name := .laneSyncCount, a := n }).raise .laneSyncLost 0 [n]
    else (s.count { name := .laneLosCount, a := n }).raise .laneLos 0 [n, cause + 1]
  else s

/-- An ON lane loses signal, FEC lock or superframe lock (R102). -/
def execLaneLockLost (lane cause : Nat) (s : State) : Out := .next (if cause ≤ 2 then s.loseLock lane cause else s)

/-- A control request is sent under the next MsgSeq, in the next superframe, and waits for its reply (R90, R91). -/
def State.sendControl (s : State) (n msgType trib : Nat) (body : List Byte) (owner : CtrlFor) : State :=
  s.modLane n fun l => { l with
    reqs := l.reqs ++ [{ seq := l.nextSeq, msgType := msgType, tributary := trib, body := body, firstMs := s.time.ms,
                         owner := owner }],
    outbox := l.outbox ++ [ctrlMessage msgType trib l.nextSeq body],
    nextSeq := (l.nextSeq + 1) % 65536 }

/-- Step 4 begins: an identity request goes out (R99, R100). -/
def State.identify (s : State) (n : Nat) : State :=
  (s.modLane n fun l => { l with step := 4, stepMs := s.time.ms, head := none, identifyFailed := false, tribListed := false }).sendControl
    n 1 0 [] .identify

/-- Whether the chip refuses a head (R100). -/
def State.refusesHead (s : State) (n : Nat) (h : HeadId) : Bool :=
  decide (h.kind ≠ (if s.lineMode n then 2 else 1)) ||
    (s.rd Rec.Lane.ExpectKind n != 0 && s.rd Rec.Lane.ExpectKind n != h.kind) ||
    (s.rd Rec.Lane.ExpectSerial n != 0 && s.rd Rec.Lane.ExpectSerial n != h.serial)

/-- Step 4 is done: the head's identity is judged, and the lane measures, or waits to repeat IDENTIFY (R100). -/
def State.judgeHead (s : State) (n : Nat) : State :=
  match (s.lane n).head with
  | none => s
  | some h =>
    if h.kind = 2 ∧ !(s.lane n).tribListed then s
    else if s.refusesHead n h then
      let raised := (s.lane n).mismatch
      let s := s.modLane n fun l => { l with refused := true, mismatch := true, stepMs := s.time.ms, head := none }
      if raised then s else s.raise .laneIdentityMismatch 0 [n, h.kind, h.serial]
    else s.modLane n fun l => { l with
      step := 5, stepMs := s.time.ms, refused := false, paths := [], devRun := 0, window := none, windowCount := 0, freqOk := true }

/-- Whether the cell that serves a lane is fenced: the lane behaves as one without signal (R104). -/
def State.laneCellFenced (s : State) (n : Nat) : Bool := (s.cell (unitAddr (n / 16) (n % 16 / 4) (n % 4))).fenced

/-- A lane whose cell has been fenced loses its signal, from wherever its start or its work stands (R104). -/
def State.laneCellGone (s : State) (n : Nat) : State :=
  if s.laneOn n then s.loseLock n 0
  else if s.laneStarting n then
    s.modLane n fun l => { l with step := 1, stepMs := s.time.ms, reqs := [], sfLock := false, good := 0, bad := 0 }
  else s

/-- A start step is done and the lane moves on (Table 4-7), while its quadrant is in service (R36, R37): the third needs superframe lock, the fourth the replies,
and the fifth the full filter. -/
def State.startStepDone (s : State) (n : Nat) : State :=
  let l := s.lane n
  if !s.laneStarting n ∨ !s.regionOn (n / 16) then s
  else match l.step with
    | 1 => if s.laneCellFenced n then s else s.modLane n fun l => { l with step := 2, stepMs := s.time.ms }
    | 2 => s.modLane n fun l => { l with step := 3, stepMs := s.time.ms }
    | 3 => if l.sfLock then s.identify n else s
    | 4 => s.judgeHead n
    | 5 =>
      if l.full ∧ l.sfLock then
        let s := s.setUnit (.lane n) { s.unit (.lane n) with st := .on, deferred := false }
        let s := s.modLane n fun l => { l with step := 0 }
        s.raise .laneStarted 0
          [n, l.reason, slotOpt (l.head.map HeadId.kind), slotOpt (l.head.map HeadId.serial)]
      else s
    | _ => s

/-- Whether the step in progress has reached its failure bound (Table 4-7). -/
def Lane.stepFailed (l : Lane) (ms : Nat) : Bool :=
  match l.step with
  | 1 => decide (l.stepMs + 20 ≤ ms)
  | 2 => decide (l.stepMs + 50 ≤ ms)
  | 3 => decide (l.stepMs + 10 ≤ ms)
  | 4 => l.identifyFailed
  | 5 => !l.sfLock
  | _ => false

/-- A start step reaches its failure bound, and the lane waits RetryIntervalMs (R99). -/
def execLaneStartStepFailed (lane : Nat) (s : State) : Out :=
  if s.laneStarting lane && (s.lane lane).stepFailed s.time.ms then
    .next (s.modLane lane fun l => { l with step := 6, stepMs := s.time.ms, reqs := [], sfLock := false, good := 0, bad := 0 })
  else .next s

/-- RetryIntervalMs expires: the lane returns to step 1, or repeats IDENTIFY to a head it refused (R99, R100). -/
def execLaneRetryExpiry (lane : Nat) (s : State) : Out :=
  let l := s.lane lane
  if s.laneStarting lane && decide (l.stepMs + s.rd Rec.Lane.RetryIntervalMs lane ≤ s.time.ms) then
    if l.step = 6 then .next (s.modLane lane fun l => { l with step := 1, stepMs := s.time.ms })
    else if l.step = 4 ∧ l.refused then .next (s.identify lane)
    else .next s
  else .next s

/-- StartTimeoutMs passes without ON: `lane.start_failed`, once per entry to STARTING, not for a refused head (R100,
R101). -/
def execLaneStartTimeout (lane : Nat) (s : State) : Out :=
  let l := s.lane lane
  if s.laneStarting lane && !l.startFailed && !l.refused &&
      decide (l.startMs + s.rd Rec.Lane.StartTimeoutMs lane ≤ s.time.ms) then
    .next (((s.modLane lane fun l => { l with startFailed := true }).count { name := .laneStartCount, a := lane }).raise
      .laneStartFailed 0 [lane, l.step])
  else .next s

/-! ### Superframes (R83, R84, R94, R97, R98, R103) -/

/-- Whether a superframe's header is valid: its Sync and its HeaderCrc (R84). -/
def headerValid (h : List Byte) : Bool :=
  decide (64 ≤ h.length) && leAt h 0 4 == 0x5D3A96C1 && leAt h 60 4 == crc32c (h.take 60)

/-- Whether a header is one of a head (Table 4-2): version 1, Upstream 1. -/
def headerUp (h : List Byte) : Bool := leAt h 4 1 == 1 && bitOn (leAt h 5 1) 0

/-- The fields of a valid header. -/
def headerOf (h : List Byte) : LaneHeader :=
  { samplesValid := bitOn (leAt h 5 1) 1, headKind := bitsAt (leAt h 5 1) 2 2, obeyed := bitOn (leAt h 5 1) 4,
    count := leAt h 8 4, echo := leAt h 12 4, turnaround := leAt h 16 4, claim := leAt h 20 8,
    lock := leAt h 36 1 % 4, alarms := leAt h 36 1 / 4 }

/-- A header value enters the latency filter; 16 consecutive values beyond LatencyStepPs re-seed it (R94, R97). -/
def State.addPath (s : State) (n : Nat) (p : Int) : State :=
  let l := s.lane n
  let dev := !l.paths.isEmpty && decide (s.rd Rec.Lane.LatencyStepPs n < (p - l.path).natAbs)
  let run := if dev then l.devRun + 1 else 0
  if 16 ≤ run then
    (s.setLane n { l with paths := [p], devRun := 0 }).raise .laneLatencyStep 0 [n, slotOf l.path, slotOf p]
  else s.setLane n { l with paths := (p :: l.paths).take 1024, devRun := run }

/-- The frequency window counts a superframe, or begins with it (R98).
(Log entry 26: DEDUCED.) -/
def Lane.addWindow (l : Lane) (tRx : Nat) : Lane :=
  match l.window with
  | none => { l with window := some (tRx, l.path), windowCount := 0, lastRx := tRx }
  | some _ => { l with windowCount := l.windowCount + 1, lastRx := tRx }

/-- What a valid header says becomes the lane's: a changed Obeyed and newly set alarms are raised, clip counts summed. -/
def State.takeHeader (s : State) (n : Nat) (h : List Byte) : State :=
  let old := (s.lane n).hdr
  let new := headerOf h
  let s := s.modLane n fun l => { l with hdr := new }
  let s := (List.range 8).foldl (fun s k => s.count { name := .laneClip, a := n, b := k } (leAt h (40 + k) 1)) s
  let s := if old.obeyed ≠ new.obeyed then s.raise .laneClaimSwitch 0 [n, bit new.obeyed, new.claim] else s
  if (List.range 6).any fun k => bitOn new.alarms k && !bitOn old.alarms k then
    s.raise .laneHeadAlarm 0 [n, noValue, new.alarms]
  else s

/-- Tributary slot t as Table 4-3 lays it out: a change of Present or LockState raises `lane.tributary`,
newly set alarms `lane.head_alarm` (R89) with the slot as its tributary, which the head's own alarms have none of. Where Present is 0
nothing else in the slot is valid.
(Log entry 158: DESIGN CHOICE.) -/
def State.takeSlot (s : State) (n t : Nat) (b : List Byte) : State :=
  let old := s.trib n t
  let here := bitOn (leAt b 0 1) 0
  let new : Trib :=
    if here then { old with
      present := true, lock := bitsAt (leAt b 0 1) 1 2, dsBits := leAt b 1 1, lingCount := leAt b 2 1, alarms := leAt b 3 1 }
    else { serial := old.serial }
  let s := s.modLane n fun l => { l with tribs := Map.put l.tribs t new }
  let s := if old.present ≠ new.present ∨ old.lock ≠ new.lock then
      s.raise .laneTributary 0 [n, s.tribId n t, bit (!(new.present && new.lock == 2)), new.serial]
    else s
  if (List.range 8).any fun k => bitOn new.alarms k && !bitOn old.alarms k then
    s.raise .laneHeadAlarm 0 [n, t, new.alarms]
  else s

/-- The FEC results of a superframe: corrected codewords and symbols, then the first payload byte of each uncorrectable
codeword, which erases the units it touched (R103): the lane keeps them until the next superframe.
(Log entry 25: DEDUCED.) -/
def State.takeFec (s : State) (n : Nat) (fec : List Nat) : State :=
  let bad := fec.drop 2
  let erased := (bad.flatMap (erasedUnits (s.lineMode n))).eraseDups
  let s := (s.count { name := .laneCorrCw, a := n } (fec.getD 0 0)).count { name := .laneCorrSym, a := n } (fec.getD 1 0)
  let s := (s.count { name := .laneUncorr, a := n } bad.length).count { name := .laneErased, a := n } erased.length
  s.modLane n fun l => { l with
    uncorrSec := l.uncorrSec + bad.length,
    erased := erased }

/-- The control messages of a superframe's area wait to be taken; those whose CRC fails are counted and discarded (R90). -/
def State.takeMessages (s : State) (n : Nat) (area : List Byte) : State :=
  let r := unpackMessages area.length area
  (s.modLane n fun l => { l with inbox := l.inbox ++ r.1 }).count { name := .laneCtrlCrc, a := n } r.2

/-- The tributary slots of a superframe's sample area, but for erased ones (R88, R103). -/
def State.takeSlots (s : State) (n : Nat) (b : List Byte) : State :=
  let erased := (s.lane n).erased
  ((List.range (min 256 ((b.length - 10240) / 960))).filter fun t => !erased.contains t).foldl
    (fun s t => s.takeSlot n t (slice b (10240 + 960 * t) 960)) s

/-- An upstream superframe is received (R82 to R84, R94): lock is acquired after three valid headers, each `spacing` bits after the one
before, and lost after four invalid ones. A locked lane takes its FEC results and its slots; from a valid header its fields, its path and
its control messages, while a failed one leaves the fields as they were and discards the messages.
(Log entry 22: DESIGN CHOICE.) -/
def State.takeSuperframe (s : State) (n : Nat) (b : List Byte) (spacing tRx : Nat) (fec : List Nat) : State :=
  let l := s.lane n
  let h := b.take 64
  if !(s.laneOn n || (s.laneStarting n && decide (3 ≤ l.step ∧ l.step ≤ 5))) then s
  else
    let ok := headerValid h
    let s := s.count { name := .laneSuperframes, a := n }
    let s := if ok then s else s.count { name := .laneHdrCrc, a := n }
    if !l.sfLock then
      s.modLane n fun l =>
        let good := if !ok then 0 else if spacing = 2048000 then l.good + 1 else 1
        { l with good := good, sfLock := decide (3 ≤ good), bad := 0 }
    else
      let s := s.takeFec n fec
      if !ok then
        let bad := l.bad + 1
        let s := s.modLane n fun l => { (if l.window.isSome then l.addWindow tRx else l) with bad := bad }
        if bad < 4 then (if s.lineMode n then s.takeSlots n b else s)
        else
          let s := s.modLane n fun l => { l with sfLock := false, good := 0, bad := 0 }
          s.loseLock n 2
      else
        let s := s.modLane n fun l => { l with bad := 0 }
        let s := if headerUp h then s.takeHeader n h else s
        let s := if s.laneOn n ∨ (s.lane n).step = 5 then
            let s := match l.tTx (leAt h 12 4) tRx with
              | some tTx => if headerUp h then s.addPath n ((tRx : Int) - tTx - leAt h 16 4) else s
              | none => s
            s.modLane n fun l => l.addWindow tRx
          else s
        let s := s.takeMessages n ((b.drop 64).take ctrlArea)
        if s.lineMode n then s.takeSlots n b else s

/-- Each second the uncorrectable codewords are compared with FecUncorrPerS (R103): once in a second of the model's clock. -/
def execFecSecondTick (lane : Nat) (s : State) : Out :=
  let k := (s.lane lane).uncorrSec
  if (s.lane lane).lastFecS = some s.nowS then .next s
  else
    let s := s.modLane lane fun l => { l with uncorrSec := 0, lastFecS := some s.nowS }
    .next (if s.rd Rec.Lane.FecUncorrPerS lane ≤ k ∧ s.laneOn lane then s.raise .laneFecDegraded 0 [lane, k] else s)

/-- A window of 97 656 superframes ends (R98): the elapsed t_rx less 999 997 440 000 ps and less the change in P / 2. A
difference beyond 5 ns fails the check; one within 2.5 ns passes it again. -/
def execFreqWindowEnd (lane : Nat) (s : State) : Out :=
  let l := s.lane lane
  match l.window with
  | none => .next s
  | some (t0, p0) =>
    if l.windowCount < 97656 then .next s
    else
      let dev := (l.lastRx : Int) - t0 - 999997440000 - (l.path - p0) / 2
      let l' := { l with window := some (l.lastRx, l.path), windowCount := 0 }
      if 5000 < dev.natAbs then
        .next (((s.setLane lane { l' with freqOk := false }).count { name := .laneFreqCount, a := lane }).raise
          .laneFreqError 0 [lane, slotOf dev])
      else .next (s.setLane lane { l' with freqOk := l.freqOk || decide (dev.natAbs ≤ 2500) })

/-! ### Control messages (R90, R91) -/

/-- The identity reply's fields (Table 4-6). -/
def headIdOf (b : List Byte) : HeadId :=
  ⟨leAt b 0 1, leAt b 1 1, leAt b 2 1, leAt b 4 2, leAt b 8 8, leAt b 16 4, leAt b 20 4, leAt b 24 4⟩

/-- The identity reply as bytes. -/
def HeadId.bytes (h : HeadId) : List Byte :=
  le 1 h.kind ++ le 1 h.hwRev ++ le 1 h.antennas ++ le 1 0 ++ le 2 h.maxTribs ++ le 2 0 ++ le 8 h.serial ++ le 4 h.fw ++
    le 4 h.sampleLead ++ le 4 h.txLead ++ le 4 0

/-- The serials of a tributary-list reply: per slot Present and a 64-bit serial (R91).
(Log entry 24: DESIGN CHOICE.) -/
def tribSerials (b : List Byte) : List (Nat × Nat) :=
  (List.range (b.length / 9)).map fun t => (t, leAt b (9 * t + 1) 8)

/-- A head of a campaign has answered its request, or has refused it or left it unanswered (R591): the campaign's next step takes it
from there. -/
def State.campaignReply (s : State) (n : Nat) (ok : Bool) : State :=
  let head (h : HeadProgress) : HeadProgress := { h with wait := false, bad := h.bad || !ok }
  let mark (c : Campaign) : Campaign :=
    if c.kind = 2 ∧ !c.done then { c with heads := c.heads.map fun e => if e.1 = n ∧ e.2.wait then (e.1, head e.2) else e } else c
  { s with upd := { s.upd with campaigns := s.upd.campaigns.map mark } }

/-- A reply ends its request: an identity or tributary list joins the lane, whatever the Status of its reply says, and a host command is
answered (R91, R107).
(Log entry 155: DESIGN CHOICE.) -/
def State.takeReply (s : State) (n : Nat) (r : CtrlReq) (status : Nat) (body : List Byte) : State :=
  let s := s.modLane n fun l => { l with reqs := l.reqs.filter (fun x => !(x.seq == r.seq)) }
  match r.owner with
  | .identify =>
    let h := headIdOf body
    let s := s.modLane n fun l => { l with head := some h }
    if h.kind = 2 then s.sendControl n 9 0 [] .tribList else s
  | .tribList =>
    s.modLane n fun l => { l with
      tribListed := true,
      tribs := (tribSerials body).foldl (fun m e => Map.upd m e.1 {} fun t => { t with serial := e.2 }) l.tribs }
  | .host ch =>
    s.finish ch .laneHeadControl (match status with
      | 0 => { status := .done, data := body }
      | 2 => { status := .refusedState }
      | _ => { status := .headRefused })
  | .campaign => s.campaignReply n (decide (status = 0))

/-- The oldest control message that a superframe brought is taken: a reply is matched to its request by MsgSeq (R90, R91). -/
def execControlMessageReceived (lane : Nat) (s : State) : Out :=
  match (s.lane lane).inbox with
  | [] => .next s
  | msg :: rest =>
    let len := leAt msg 4 2
    let s := s.modLane lane fun l => { l with inbox := rest }
    let ty := leAt msg 0 1
    match (s.lane lane).reqs.find? (fun r => r.seq == leAt msg 2 2 &&
        (match r.owner with
         | .identify => ty == 2
         | .tribList => ty == 9
         | _ => ty == 5)) with
    | some r => .next (s.takeReply lane r (leAt msg 6 1) (slice msg 8 len))
    | none => .next s

/-- A request without a reply: resent each ms up to three times, and unanswered 5 ms after the first sending (R91). -/
def execControlMessageResend (lane seq : Nat) (s : State) : Out :=
  match (s.lane lane).reqs.find? (fun r => r.seq == seq) with
  | none => .next s
  | some r =>
    if r.resends < 3 then
      if r.firstMs + r.resends + 1 ≤ s.time.ms then
        .next (s.modLane lane fun l => { l with
          reqs := l.reqs.map fun x => if x.seq == seq then { x with resends := x.resends + 1 } else x,
          outbox := l.outbox ++ [ctrlMessage r.msgType r.tributary r.seq r.body] })
      else .next s
    else if r.firstMs + 5 ≤ s.time.ms then
      let s := s.modLane lane fun l => { l with reqs := l.reqs.filter (fun x => !(x.seq == seq)) }
      match r.owner with
      | .identify | .tribList => .next (s.modLane lane fun l => { l with identifyFailed := true })
      | .host ch => .next (s.finish ch .laneHeadControl { status := .headNoResponse })
      | .campaign => .next (s.campaignReply lane false)
    else .next s

/-! ### Commands (Table 4-9) -/

/-- The code of a unit state. -/
def UnitSt.code : UnitSt → Nat
  | .off => 0 | .starting => 1 | .on => 2 | .stopping _ => 3

/-- What LANE.STATUS_READ says of a lane; what no valid header has said yet has no value (R695).
(Log entry 26: DEDUCED.) -/
def State.laneRow (s : State) (n : Nat) : List Nat :=
  let l := s.lane n
  let seen := !l.paths.isEmpty
  let heard (v : Nat) : Nat := if l.hdr.headKind = 0 then noValue else v
  [(s.laneSt n).code, if s.laneStarting n then l.step else 0, bit (s.timed n), heard (bit l.hdr.obeyed), slotOpt (l.head.map HeadId.kind),
    slotOpt (l.head.map HeadId.serial), heard l.hdr.lock, heard l.hdr.alarms, if seen then slotOf (s.laneU n) else noValue,
    if seen then slotOf (s.laneD n) else noValue] ++
    (List.range 4).map (fun w => maskOf ((List.range 64).filter fun t => (s.trib n (64 * w + t)).present)) ++
    [bit (decide (s.laneSt n = .stopping true))]

/-- LANE.STATUS_READ: one lane, or all present. -/
def readLaneStatus (n : Nat) (c : Caller) (s : State) : Reply :=
  let all := (List.range 64).filter s.laneHere
  gatedRead [(c.isObserver, .refusedRole), (c.slots 1, .badLength), (n == 0xFF || isLane n, .badArgument), (n == 0xFF || s.laneHere n, .absentUnit)]
    { status := .done, slots := if n = 0xFF then all.length :: all.flatMap s.laneRow else s.laneRow n }

def execLaneStatusRead (ch lane : Nat) (s : State) : Out := .next (s.readCommand ch .laneStatusRead (readLaneStatus lane))

/-- The downstream superframes of a lane: one each 10.24 µs while the transmitter runs. -/
def State.txSuperframes (s : State) (n : Nat) : Nat := (s.lane n).sent s.airPs % 2 ^ 48

/-- LANE.COUNTERS_READ: the counters of R108, upstream then downstream (index 1; of what only a receiver finds, the chip's own sending
counts nothing), the clip sums, and the event counts. -/
def readLaneCounters (n : Nat) (c : Caller) (s : State) : Reply :=
  let k (x : CtrName) : Nat := s.ctr { name := x, a := n }
  let down (x : CtrName) : Nat := s.ctr { name := x, a := n, b := 1 }
  let t (x : CtrName) : List Nat := [k x, bit (s.saturated { name := x, a := n })]
  gatedRead [(c.isObserver, .refusedRole), (c.slots 1, .badLength), (isLane n, .badArgument), (s.laneHere n, .absentUnit)]
    { status := .done, slots :=
        [k .laneSuperframes, k .laneCorrCw, k .laneCorrSym, k .laneUncorr, k .laneErased, k .laneHdrCrc, k .laneCtrlCrc,
         s.txSuperframes n, down .laneCorrCw, down .laneCorrSym, down .laneUncorr, down .laneErased, down .laneHdrCrc, down .laneCtrlCrc] ++
        (List.range 8).map (fun i => s.ctr { name := .laneClip, a := n, b := i }) ++
        t .laneLosCount ++ t .laneSyncCount ++ t .laneStartCount ++ t .laneFreqCount }

def execLaneCountersRead (ch lane : Nat) (s : State) : Out :=
  .next (s.readCommand ch .laneCountersRead (readLaneCounters lane))

/-- LANE.HEAD_INFO: the identity reply, and a line hub's tributary list.
(Log entry 24: DESIGN CHOICE.) -/
def readLaneHeadInfo (n : Nat) (c : Caller) (s : State) : Reply :=
  gatedRead [(c.isObserver, .refusedRole), (c.slots 1, .badLength), (isLane n, .badArgument), (s.laneHere n, .absentUnit), (s.laneOn n, .refusedState)]
    (match (s.lane n).head with
     | some h => { status := .done, data := h.bytes ++
         (if h.kind = 2 then le 8 256 ++ (List.range 256).flatMap (fun t =>
            le 8 (bit (s.trib n t).present) ++ le 8 (s.trib n t).serial) else []) }
     | none => { status := .refusedState })

def execLaneHeadInfo (ch lane : Nat) (s : State) : Out := .next (s.readCommand ch .laneHeadInfo (readLaneHeadInfo lane))

/-- LANE.HEAD_CONTROL: the message goes to the head, and its reply answers the command (R91, R107). -/
def runLaneHeadControl (n trib ty : Nat) (body : List Byte) (c : Caller) (s : State) : Option Reply × State :=
  let waiting := (s.lane n).reqs.any fun r => decide (r.owner = .host c.ch)
  let (y, s') := gated s [(c.isService, .refusedRole), (c.body.length == 24 + body.length, .badLength),
      (isLane n && decide ((ty = 3 ∨ ty = 4 ∨ ty = 8) ∧ trib ≤ 255 ∧ body.length ≤ 1024), .badArgument), (s.laneHere n, .absentUnit),
      (s.laneOn n && (ty == 3 || (s.lane n).hdr.obeyed), .refusedState)] fun s =>
    ({ status := .continue' }, s.sendControl n ty trib body (.host c.ch))
  if waiting then (none, s) else if y.status = .continue' then (none, s') else (some y, s')

def execLaneHeadControl (ch lane trib msgType : Nat) (body : List Byte) (s : State) : Out :=
  .next (s.commandLater ch .laneHeadControl (runLaneHeadControl lane trib msgType body))

/-- Whether a test runs on a lane: its time is not over, or its command has still to answer. -/
def State.laneTested (s : State) (n : Nat) : Bool :=
  match (s.lane n).test with
  | some (ch, e) => decide (s.time.ms < e) || (s.requestFor ch .laneTest).isSome
  | none => false

/-- LANE.TEST: a PRBS31Q test on an OFF lane. The row starts the test, and once its duration is over answers with the
bits checked, those of the line rate of 212.5 Gbit/s over the duration, and the errors counted.
(Log entry 157: DESIGN CHOICE.) -/
def runLaneTest (n pattern duration errors : Nat) (c : Caller) (s : State) : Option Reply × State :=
  let mine : Bool := match (s.lane n).test with
    | some (ch, e) => decide (ch = c.ch ∧ e ≤ s.time.ms)
    | none => false
  let runs : Bool := match (s.lane n).test with
    | some (ch, e) => decide (ch = c.ch ∧ s.time.ms < e)
    | none => false
  if mine then
    (some { status := .done, slots := [212500000 * duration, errors] }, s.modLane n fun l => { l with test := none })
  else if runs then (none, s)
  else
    let (y, s') := gated s [(c.isService, .refusedRole), (c.slots 3, .badLength),
        (isLane n && decide (pattern ≤ 1 ∧ 1 ≤ duration ∧ duration ≤ 5000), .badArgument), (s.laneHere n, .absentUnit),
        (decide (s.laneSt n = .off) && !s.laneTested n, .refusedState)] fun s =>
      ({ status := .continue' }, s.modLane n fun l => { l with test := some (c.ch, s.time.ms + duration) })
    if y.status = .continue' then (none, s') else (some y, s')

def execLaneTest (ch lane pattern duration errors : Nat) (s : State) : Out :=
  .next (s.commandLater ch .laneTest (runLaneTest lane pattern duration errors))

end Sys2Proof.Machine
end

