-- ==== Sys2Proof/Machine/Filters.lean ====
section
/-! DEFINITION. Chapter 5: placement of channels, line reservations, DC-blocks, captures (R109 to R137), and the lane
commands and record that touch them. -/

namespace Sys2Proof.Machine

open Sys2Proof

/-! ### A channel's chain (R115, R117, R119), over the body of its record -/

/-- Dc of a channel. -/
def chanDc (body : Nat) : Nat := 2 ^ Rec.Channel.CicLog2.of body

/-- The half-band ROM entries of a channel, in order. -/
def chanHb (body : Nat) : List RomEntry :=
  (List.range (Rec.Channel.HbCount.of body)).map fun i => romAt ((Rec.Channel.Hb i).of body)

/-- The final response of a channel. -/
def chanFinal (body : Nat) : RomEntry := romAt (Rec.Channel.FinalIndex.of body)

/-- Dtot of a channel (R117). -/
def chanDtot (body : Nat) : Nat := chanDc body * 2 ^ (chanHb body).length * (chanFinal body).dec

/-- The load of one slot in MAC/s × 4 096 (R115). -/
def slotLoad (body : Nat) : Nat :=
  let unit := 31250000 * 4096
  let hbs := (chanHb body).mapIdx fun h e => e.taps * (unit / (chanDc body * 2 ^ (h + 1)))
  hbs.sum + (chanFinal body).taps * (unit / chanDtot body)

/-- The group delay G in air-time periods (R119). -/
def chanDelay (body : Nat) : Nat :=
  let dc := chanDc body
  let hbs := (chanHb body).mapIdx fun h e => 2 ^ h * e.delay
  1170 + 160 * (dc - 1) + 64 * dc * (hbs.sum + 2 ^ (chanHb body).length * (chanFinal body).delay)

/-- The output rate in Sps × 1 000.
(Log entry 32: DESIGN CHOICE.) -/
def chanRate (body : Nat) : Nat := 31250000000 / chanDtot body

/-- The stages of a channel's chain after its mixer (R117). -/
def chanSpec (body : Nat) : ChainSpec :=
  { log2Dc := Rec.Channel.CicLog2.of body, fin := Rec.Channel.FinalIndex.of body,
    hbs := (List.range (Rec.Channel.HbCount.of body)).map fun i => (Rec.Channel.Hb i).of body }

/-! ### Cells and slots (R115, R116, R121 to R123) -/

/-- The quadrant of a lane. -/
def quadrant (lane : Nat) : Nat := lane / 16

/-- The unit address of fine cell i of a quadrant (Table 2-1, R45). -/
def fineCell (q i : Nat) : Nat := q * 4096 + (20 + i / 32) * 64 + i % 32

/-- Whether a cell is fenced, by itself or with its block. -/
def State.cellFenced (s : State) (addr : Nat) : Bool :=
  (Map.getD s.arch.cells addr {}).fenced || s.arch.fencedBlocks.contains (addr / 64 * 64 + 0x3F)

/-- The fine cells of a quadrant that are in service. -/
def State.goodCells (s : State) (q : Nat) : List Nat := (List.range 256).filter fun i => !s.cellFenced (fineCell q i)

/-- The fine cells of a quadrant that are SLOW and so receive no new work (R38, R39). -/
def State.slowCells (s : State) (q : Nat) : List Nat := (List.range 256).filter fun i => (Map.getD s.arch.cells (fineCell q i) {}).slow

/-- The line-mode lanes of a quadrant that hold a reservation: not OFF; in ascending tributary order (R123). -/
def State.lineLanes (s : State) (q : Nat) : List Nat :=
  sortBy (fun n => ((s.rd Rec.Lane.LineGroup n : Nat) : Int))
    ((List.range 64).filter fun n => quadrant n == q && s.lineMode n && decide (s.laneSt n ≠ .off))

/-- `n` cells out of `good` that `used` does not hold, those held before first; a SLOW cell is taken only where it was held.
(Log entry 27: DESIGN CHOICE.) -/
def takeCells (good slow used before : List Nat) (n : Nat) : List Nat :=
  let free := good.filter fun c => !used.contains c
  let keep := (before.filter free.contains).take n
  keep ++ (free.filter fun c => !keep.contains c && !slow.contains c).take (n - keep.length)

/-- The reservations of a quadrant's line lanes: metrology cells of every lane first, then Ling cells (R116, R123). -/
def State.reserve (s : State) (q : Nat) : Map Nat (List Nat × List Nat) :=
  let good := s.goodCells q
  let slow := s.slowCells q
  let lanes := s.lineLanes q
  let metro := lanes.foldl (fun (acc : Map Nat (List Nat) × List Nat) n =>
    let got := takeCells good slow acc.2 (Map.getD s.filt.resv n ([], [])).1 16
    (acc.1 ++ [(n, got)], acc.2 ++ got)) ([], [])
  let ling := lanes.foldl (fun (acc : Map Nat (List Nat) × List Nat) n =>
    let got := takeCells good slow acc.2 (Map.getD s.filt.resv n ([], [])).2 (ceilDiv (s.rd Rec.LineFilter.LingSlots n) 8)
    (acc.1 ++ [(n, got)], acc.2 ++ got)) (([] : Map Nat (List Nat)), metro.2)
  lanes.map fun n => (n, (Map.getD metro.1 n [], Map.getD ling.1 n []))

/-- The antennas a channel has slots for: delivered under R87 and in its mask; before a head is known, all count as
fitted.
(Log entry 27: DESIGN CHOICE.) -/
def State.chanAntennas (s : State) (body : Nat) : List Nat :=
  let n := Rec.Channel.Lane.of body
  let fitted := match (s.lane n).head with
    | some h => h.antennas
    | none => 0xFF
  (List.range 8).filter fun a =>
    bitOn (Rec.Channel.AntennaMask.of body) a && bitOn (s.rd Rec.Lane.AntennaMask n) a && bitOn fitted a

/-- Slots and load on each cell, as the placements so far make them. -/
abbrev Occupancy := Map Nat (Nat × Nat)

/-- Whether a cell accepts one more slot (R115). -/
def Occupancy.accepts (o : Occupancy) (cell load : Nat) : Bool :=
  let x := Map.getD o cell (0, 0)
  decide (x.1 + 1 ≤ 8 ∧ x.2 + load ≤ 4000000000 * 4096)

/-- The occupancy with one more slot on a cell. -/
def Occupancy.add (o : Occupancy) (cell load : Nat) : Occupancy :=
  let x := Map.getD o cell (0, 0)
  Map.put o cell (x.1 + 1, x.2 + load)

/-- The antennas placed one after the other, each on its earlier cell where that still accepts it, and otherwise on the
lowest cell that does and is not SLOW.
(Log entry 27: DESIGN CHOICE.) -/
def placeSlots (good slow : List Nat) (load : Nat) (before : Map Nat Nat) :
    List Nat → Occupancy → Option (List (Nat × Nat) × Occupancy)
  | [], o => some ([], o)
  | a :: as, o =>
    let old := match Map.get? before a with
      | some c => if good.contains c && o.accepts c load then some c else none
      | none => none
    let pick := match old with
      | some c => some c
      | none => good.find? fun c => !slow.contains c && o.accepts c load
    match pick with
    | none => none
    | some c =>
      match placeSlots good slow load before as (o.add c load) with
      | none => none
      | some (l, o') => some ((a, c) :: l, o')

/-- The body in force of a channel. -/
def State.chanBody (s : State) (i : Nat) : Nat := s.bodyOf Schema.Channel i

/-- A channel's placement. -/
def State.chanFilt (s : State) (i : Nat) : ChanFilt := Map.getD s.filt.chans i {}

/-- The state with a channel's placement set. -/
def State.setChanFilt (s : State) (i : Nat) (x : ChanFilt) : State :=
  { s with filt := { s.filt with chans := Map.put s.filt.chans i x } }

/-- Whether a channel is active. -/
def State.chanActive (s : State) (i : Nat) : Bool := Rec.Channel.Active.on (s.chanBody i)

/-- The channels with an applied record. -/
def State.chanInstances (s : State) : List Nat := (Map.keys s.records).filterMap fun k => if k.1 = 0x0300 then some k.2 else none

/-- The active channels of a quadrant in the order of R116. -/
def State.quadChannels (s : State) (q : Nat) : List Nat :=
  sortBy (fun i => ((Rec.Channel.Priority.of (s.chanBody i) * 4096 + i : Nat) : Int))
    (s.chanInstances.filter fun i => s.chanActive i && quadrant (Rec.Channel.Lane.of (s.chanBody i)) == q)

/-- The cells spectrum channels may use: in service and not reserved. -/
def State.spectrumCells (s : State) (q : Nat) : List Nat :=
  let taken := s.filt.resv.flatMap fun (e : Nat × (List Nat × List Nat)) => if quadrant e.1 = q then e.2.1 ++ e.2.2 else []
  (s.goodCells q).filter fun c => !taken.contains c

/-- The occupancy of a quadrant by the placed channels but one. -/
def State.occupancy (s : State) (q but : Nat) : Occupancy :=
  ((s.quadChannels q).filter (· ≠ but)).foldl (fun o i =>
    (s.chanFilt i).slots.foldl (fun o p => o.add p.2 (slotLoad (s.chanBody i))) o) []

/-- A channel's chain restarts: its delay lines are empty and its outputs settle for 2G (R120). -/
def State.restartChannel (s : State) (i : Nat) : State :=
  let s := { s with filt := { s.filt with chains := s.filt.chains.filter fun e => e.1.1 != i } }
  s.setChanFilt i { s.chanFilt i with settleEnd := s.time.air + 2 * chanDelay (s.chanBody i) }

/-- One channel of a quadrant placed again in the order of R116: kept, moved with settling, restored, or dropped whole. -/
def State.replaceOne (good slow : List Nat) (cause : Nat) (acc : State × Occupancy) (i : Nat) : State × Occupancy :=
  let s := acc.1
  let body := s.chanBody i
  let x := s.chanFilt i
  match placeSlots good slow (slotLoad body) x.slots (s.chanAntennas body) acc.2 with
  | some (slots, o) =>
    let s' := s.setChanFilt i { x with slots := slots, dropped := false }
    let s' := if x.dropped ∨ (slots.any fun p => Map.get? x.slots p.1 != some p.2) then s'.restartChannel i else s'
    (if x.dropped then s'.raise .filtChannelRestored 0 [i] else s', o)
  | none =>
    let s' := s.setChanFilt i { x with slots := [], dropped := true }
    (if x.dropped then s' else (s'.count { name := .filtDrops, a := i }).raise .filtChannelDropped 0 [i, cause], acc.2)

/-- A fine cell missed the deadline of a channel's sample slot: the channel's slots on it move to other cells in service that
accept them, and its chain restarts; a slot that no cell accepts stays (Table 2-3, R120). -/
def State.moveSlots (s : State) (unit i : Nat) : State :=
  let q := addrRegion unit
  let body := s.chanBody i
  let x := s.chanFilt i
  let cell := (addrBlock unit - 20) * 32 + addrCell unit
  let load := slotLoad body
  if s.chanActive i ∧ quadrant (Rec.Channel.Lane.of body) = q ∧ x.slots.any (fun p => p.2 == cell) then
    let good := (s.spectrumCells q).filter fun c => c != cell && !(Map.getD s.arch.cells (fineCell q c) {}).slow
    let start := (x.slots.filter fun p => p.2 != cell).foldl (fun o p => o.add p.2 load) (s.occupancy q i)
    let moved := x.slots.foldl (fun (acc : List (Nat × Nat) × Occupancy) p =>
      if p.2 = cell then
        match good.find? fun c => acc.2.accepts c load with
        | some c => (acc.1 ++ [(p.1, c)], acc.2.add c load)
        | none => (acc.1 ++ [p], acc.2)
      else (acc.1 ++ [p], acc.2)) ([], start)
    if moved.1 = x.slots then s else (s.setChanFilt i { x with slots := moved.1 }).restartChannel i
  else s

/-- A quadrant's reservations and channels placed again after cells or reservations changed; the cause of drops is 0
fencing or 1 line reservation (R116); a lane whose tributaries lose their cells, or find none, is reported (R123). -/
def State.replaceQuadrant (s : State) (q cause : Nat) : State :=
  let r := s.reserve q
  let s := r.foldl (fun s (e : Nat × (List Nat × List Nat)) =>
    let had := match Map.get? s.filt.resv e.1 with
      | some x => x.1.length
      | none => 16
    if e.2.1.length < had then s.raise .filtCellsShort 0 [e.1, 16 * (16 - e.2.1.length)] else s) s
  let s := { s with filt := { s.filt with resv := s.filt.resv.filter (fun (e : Nat × (List Nat × List Nat)) => !(quadrant e.1 == q)) ++ r } }
  ((s.quadChannels q).foldl (State.replaceOne (s.spectrumCells q) (s.slowCells q) cause) (s, [])).1

/-- A line-mode lane enters STARTING: its cells are reserved (R121, R123). -/
def State.lineReserve (s : State) (n : Nat) : State :=
  if s.lineMode n ∧ s.laneSt n ≠ .off then s.replaceQuadrant (quadrant n) 1 else s

/-- A lane has reached its end state: its reservation is released, and dropped channels return (R116, R121). -/
def State.lineRelease (s : State) (n : Nat) : State :=
  if Map.has s.filt.resv n then s.replaceQuadrant (quadrant n) 1 else s

/-- Whether tributary slot t of a line lane has a metrology cell (R123). -/
def State.tribServed (s : State) (n t : Nat) : Bool := decide (t / 16 < (Map.getD s.filt.resv n ([], [])).1.length)

/-- The Ling receive channels a lane's reservation holds (R122). -/
def State.lingCapacity (s : State) (n : Nat) : Nat :=
  min (8 * (Map.getD s.filt.resv n ([], [])).2.length) (s.rd Rec.LineFilter.LingSlots n)

/-! ### Tiles (R114) -/

/-- The sub-bands of a lane in use by active channels but one, and by captures. -/
def State.tiles (s : State) (n but : Nat) : List Nat :=
  (((s.chanInstances.filter fun i => i != but && s.chanActive i && Rec.Channel.Lane.of (s.chanBody i) == n).map fun i =>
      Rec.Channel.SubBand.of (s.chanBody i)) ++
    (s.filt.captures.filter fun c => c.kind == 1 && c.lane == n && decide (c.st = .active ∨ c.st = .waiting)).map Capture.sub).eraseDups

/-- Whether one more sub-band fits a lane's selector. -/
def State.tileFits (s : State) (n but sub : Nat) : Bool :=
  (s.tiles n but).contains sub || decide ((s.tiles n but).length < 32)

/-! ### DC-blocks (R126 to R128) -/

/-- The DC target of a spectrum channel and of a line bitstream (R136). -/
def dcTarget (t : Nat) : Option (Sum Nat (Nat × Nat)) :=
  match t / 2 ^ 30 with
  | 0 => if t < 2048 then some (.inl t) else none
  | 1 => if t % 2 ^ 30 < 2 ^ 15 then some (.inr (bitsAt t 3 12, t % 8)) else none
  | _ => none

/-- The target number of bitstream `st` of a tributary. -/
def lineTarget (trib st : Nat) : Nat := 2 ^ 30 + trib * 8 + st

/-- What is absent of a DC target (R3). -/
def State.dcAbsent (s : State) (t : Nat) : Option Status :=
  match dcTarget t with
  | none => some .badArgument
  | some (.inl _) => none
  | some (.inr (trib, _)) =>
    if !s.lineHere then some .absentUnit else if s.tributaries ≤ trib then some .absentCapacity else none

/-- Whether the chain of a DC target runs.
(Log entry 31: DEDUCED.) -/
def State.dcChainOn (s : State) (t : Nat) : Bool :=
  match dcTarget t with
  | some (.inl c) => s.chanActive c && !(s.chanFilt c).dropped
  | some (.inr (trib, _)) =>
    match s.tribLane trib with
    | some n => s.laneOn n && s.tribServed n (trib % 256)
    | none => false
  | none => false

/-- A DC-block. -/
def State.dcOf (s : State) (t : Nat) : DcSt := Map.getD s.filt.dc t {}

/-- The state with a DC-block set. -/
def State.setDc (s : State) (t : Nat) (d : DcSt) : State := { s with filt := { s.filt with dc := Map.put s.filt.dc t d } }

/-- A DC-block is enabled under the enable rule for a reason (0 command, 1 auto, 2 deferred). -/
def State.dcEnable (s : State) (t reason : Nat) : Status × State :=
  let was := s.unitSt (.dcBlock t)
  let r := enableUnit (s.unit (.dcBlock t))
  let s := s.setUnit (.dcBlock t) r.1
  (r.2, if was = .off ∧ r.1.st = .starting then s.setDc t { s.dcOf t with reason := reason } else s)

/-- A DC-block is disabled under the enable rule. -/
def State.dcDisable (s : State) (t : Nat) : Status × State :=
  let r := disableUnit s.time.ms (s.unit (.dcBlock t))
  (r.2, s.setUnit (.dcBlock t) r.1)

/-- A DC-block reaches its end state: its freeze is cleared, `filt.dc_stopped` raised, and a held enable starts it
again. -/
def State.endDc (s : State) (t : Nat) : State :=
  let again := decide (s.unitSt (.dcBlock t) = .starting)
  (s.setDc t { reason := if again then 2 else 0 }).raise .filtDcStopped 0 [t]

/-- DcK of a DC target, and the fraction bits of its estimate: 24 beside a line word, 30 beside a channel's (R126). -/
def State.dcK (s : State) (t : Nat) : Nat :=
  match dcTarget t with
  | some (.inl c) => Rec.Channel.DcK.of (s.chanBody c)
  | some (.inr (trib, _)) => match s.tribLane trib with
    | some n => s.rd Rec.LineFilter.DcK n
    | none => 16
  | none => 16
def dcFrac (t : Nat) : Nat := if t < 2 ^ 30 then 30 else 24

/-- The antennas of a DC target: a channel's slots, or 0 for a bitstream. -/
def State.dcKeys (s : State) (t : Nat) : List Nat :=
  if t < 2 ^ 30 then (s.chanFilt t).slots.map Prod.fst else [0]

/-- How many unflagged samples a starting stage takes its mean of (R127). -/
def State.dcNeed (s : State) (t : Nat) : Nat := min (2 ^ s.dcK t) 4096

/-- A STARTING DC-block that has its unflagged samples loads e with their mean, exact in its fraction bits since their number is a power
of two, and enters ON (R127). -/
def execDcBlockReady (target : Nat) (s : State) : Out :=
  let d := s.dcOf target
  let sum (k : Nat) : Cx × Nat := Map.getD d.sums k ({}, 0)
  if s.unitSt (.dcBlock target) = .starting ∧ (s.dcKeys target).all (fun k => decide (s.dcNeed target ≤ (sum k).2)) then
    let s := s.setUnit (.dcBlock target) { s.unit (.dcBlock target) with st := .on, deferred := false }
    let mean (x : Int) (n : Nat) : Int := x * (2 ^ dcFrac target : Nat) / n
    let s := s.setDc target { d with
      est := (s.dcKeys target).map fun k => (k, { re := mean (sum k).1.re (sum k).2, im := mean (sum k).1.im (sum k).2 }),
      sums := [], frozen := if d.cmdFreeze then some (s.time.ms, s.stamp) else none, longRaised := false }
    .next (s.raise .filtDcStarted 0 [target, d.reason])
  else .next s

/-- The metrology of a tributary. -/
def State.metro (s : State) (trib : Nat) : MetroTrib := Map.getD s.met.tribs trib {}

/-- The state with a tributary's metrology set. -/
def State.setMetro (s : State) (t : Nat) (x : MetroTrib) : State := { s with met := { s.met with tribs := Map.put s.met.tribs t x } }

/-- Windows begin anew: at the next valid crossing of ZcRef while the zone is VALID, and at the next sample otherwise (R406, R420). -/
def MetroTrib.freshWindow (x : MetroTrib) : MetroTrib := { x with winCross := [], winSeen := x.seen }

/-- The metrology chains of a tributary start: its buffers are empty, and steps begin at the next step boundary of legal time (R420). -/
def State.metroStart (s : State) (t : Nat) : State :=
  let x := s.metro t
  s.setMetro t { x.freshWindow with buf := [], overLeft := [], lastStep := s.time.legalNs / 200000000 + 1 }

/-- Whether line metrology requests a freeze of bitstream `st` of a tributary: of the voltages while the zone is not VALID
(R402), and of a channel from an over-range sample until 64 samples after it (R395). -/
def State.metroFreeze (s : State) (trib st : Nat) : Bool :=
  (decide ((s.metro trib).zone ≠ .valid) && decide (st < 4)) || decide (0 < Map.getD (s.metro trib).overLeft st 0)

/-- Whether an automatic freeze holds a DC target: some of its samples has been flagged, saturated or covered by a request within the last
64 (R128). -/
def DcSt.autoFrozen (d : DcSt) : Bool := d.auto.any fun e => decide (0 < e.2)

/-- The same of a target that is ON. -/
def State.dcAutoFrozen (s : State) (t : Nat) : Bool := s.unitOn (.dcBlock t) && (s.dcOf t).autoFrozen

/-- A freeze begins, or ends where nothing holds it any longer; an automatic one is counted as it begins (R128, R137). -/
def State.dcFrozenNow (s : State) (t : Nat) (was : Bool) : State :=
  let d := s.dcOf t
  let s := if d.autoFrozen && !was then s.count { name := .filtFreezes, a := t } else s
  if d.cmdFreeze || d.autoFrozen then
    if d.frozen.isSome then s else s.setDc t { d with frozen := some (s.time.ms, s.stamp), longRaised := false }
  else s.setDc t { d with frozen := none, longRaised := false }

/-- One sample of a DC target for antenna `k`, as its unit stands (R126 to R128): OFF and STOPPING pass it; STARTING passes it with the
settling flag and takes it into the mean; ON subtracts the estimate and, unless frozen, updates it. `ask` says that line metrology
requests a freeze. -/
def State.dcSample (s : State) (t k : Nat) (ask : Bool) (x : Smp) : Smp × State :=
  let d := s.dcOf t
  match s.unitSt (.dcBlock t) with
  | .off | .stopping _ => (x, s)
  | .starting =>
    let sum := Map.getD d.sums k ({}, 0)
    let take := !x.f.missing && decide (sum.2 < s.dcNeed t)
    ({ x with f := { x.f with settling := true } },
      if take then s.setDc t { d with sums := Map.put d.sums k (sum.1.add x.v, sum.2 + 1) } else s)
  | .on =>
    let e := Map.getD d.est k {}
    let hit := x.f.missing || x.f.sat || ask
    let left := if hit then 64 else Map.getD d.auto k 0
    let frozen := d.cmdFreeze || decide (0 < left)
    let one := x.v.scale ((2 ^ dcFrac t : Nat) : Int)
    let next : Cx := if frozen then e else
      { re := wrapWord 48 (dcStep (s.dcK t) e.re one.re), im := wrapWord 48 (dcStep (s.dcK t) e.im one.im) }
    let s := s.setDc t { d with est := Map.put d.est k next, auto := Map.put d.auto k (if hit then left else left - 1) }
    ({ x with v := dcOut (dcFrac t) e x.v }, s.dcFrozenNow t d.autoFrozen)

/-- A freeze has lasted 600 s: reported once per freeze, with its cause (0 commanded, 1 automatic) (R128). -/
def execDcFreezeLong (target : Nat) (s : State) : Out :=
  let d := s.dcOf target
  match d.frozen with
  | some (since, _) =>
    if !d.longRaised ∧ since + 600000 ≤ s.time.ms then
      .next ((s.setDc target { d with longRaised := true }).raise .filtDcFrozenLong 0 [target, if d.cmdFreeze then 0 else 1])
    else .next s
  | none => .next s

/-- FILT.DC_ENABLE.
(Log entry 31: DEDUCED.) -/
def runFiltDcEnable (t : Nat) (c : Caller) (s : State) : Reply × State :=
  gated s [(c.isOperator, .refusedRole), (c.slots 1, .badLength), ((s.dcAbsent t).isNone, (s.dcAbsent t).getD .done),
      (s.dcChainOn t, .refusedState)] fun s =>
    let r := s.dcEnable t 0
    ({ status := r.1 }, r.2)

def execFiltDcEnable (ch target : Nat) (s : State) : Out := .next (s.command ch .filtDcEnable (runFiltDcEnable target))

/-- FILT.DC_DISABLE. -/
def runFiltDcDisable (t : Nat) (c : Caller) (s : State) : Reply × State :=
  gated s [(c.isOperator, .refusedRole), (c.slots 1, .badLength), ((s.dcAbsent t).isNone, (s.dcAbsent t).getD .done)] fun s =>
    let r := s.dcDisable t
    ({ status := r.1 }, r.2)

def execFiltDcDisable (ch target : Nat) (s : State) : Out := .next (s.command ch .filtDcDisable (runFiltDcDisable target))

/-- FILT.DC_FREEZE: a commanded freeze is set or released; during STARTING it takes effect on reaching ON (R128). -/
def runFiltDcFreeze (t freeze : Nat) (c : Caller) (s : State) : Reply × State :=
  gated s [(c.isOperator, .refusedRole), (c.slots 2, .badLength), (decide (freeze ≤ 1), .badArgument),
      ((s.dcAbsent t).isNone, (s.dcAbsent t).getD .done), (decide (s.unitSt (.dcBlock t) ≠ .off), .refusedState)] fun s =>
    let d := s.dcOf t
    let s := s.setDc t { d with cmdFreeze := decide (freeze = 1) }
    ({ status := .done }, if s.unitOn (.dcBlock t) then s.dcFrozenNow t d.autoFrozen else s)

def execFiltDcFreeze (ch target freeze : Nat) (s : State) : Out :=
  .next (s.command ch .filtDcFreeze (runFiltDcFreeze target freeze))

/-- FILT.DC_READ: state, the estimates after their count (each antenna's real and imaginary part, a bitstream's real part), commanded
and automatic freeze, and the start of the freeze.
(Log entry 28: DESIGN CHOICE.) -/
def readFiltDc (t : Nat) (c : Caller) (s : State) : Reply :=
  let d := s.dcOf t
  let parts (e : Nat × Cx) : List Nat := if t < 2 ^ 30 then [slotOf e.2.re, slotOf e.2.im] else [slotOf e.2.re]
  gatedRead [(c.isObserver, .refusedRole), (c.slots 1, .badLength), ((s.dcAbsent t).isNone, (s.dcAbsent t).getD .done)]
    { status := .done, slots := [(s.unitSt (.dcBlock t)).code, d.est.length] ++ d.est.flatMap parts ++ [bit d.cmdFreeze, bit (s.dcAutoFrozen t),
        slotOpt (d.frozen.map Prod.snd)] }

def execFiltDcRead (ch target : Nat) (s : State) : Out := .next (s.readCommand ch .filtDcRead (readFiltDc target))

/-! ### Lanes (LANE.ENABLE, LANE.DISABLE, reaching ON) -/

/-- A lane is enabled and, in line mode, its cells are reserved (R40, R121). -/
def State.enableLaneCells (s : State) (n reason : Nat) : Status × State :=
  let was := s.laneSt n
  let r := s.enableLane n reason
  (r.1, if was = .off ∧ r.2.laneSt n = .starting then r.2.lineReserve n else r.2)

/-- LANE.ENABLE. -/
def runLaneEnable (n : Nat) (c : Caller) (s : State) : Reply × State :=
  gated s [(c.isOperator, .refusedRole), (c.slots 1, .badLength), (isLane n, .badArgument), (s.laneHere n, .absentUnit),
      (!s.laneTested n, .refusedState)] fun s =>
    let r := s.enableLaneCells n 0
    ({ status := r.1 }, r.2)

def execLaneEnable (ch lane : Nat) (s : State) : Out := .next (s.command ch .laneEnable (runLaneEnable lane))

/-- LANE.DISABLE; a lane that was to start again as its quadrant's restart ends no longer is (R36). -/
def runLaneDisable (n : Nat) (c : Caller) (s : State) : Reply × State :=
  gated s [(c.isOperator, .refusedRole), (c.slots 1, .badLength), (isLane n, .badArgument), (s.laneHere n, .absentUnit)] fun s =>
    let r := disableUnit s.time.ms (s.unit (.lane n))
    let x := Map.getD s.arch.regions (n / 16) {}
    let s := if x.lanes.contains n then
        { s with arch := { s.arch with regions := Map.put s.arch.regions (n / 16) { x with lanes := x.lanes.filter (· ≠ n) } } } else s
    ({ status := r.2 }, s.setUnit (.lane n) r.1)

def execLaneDisable (ch lane : Nat) (s : State) : Out := .next (s.command ch .laneDisable (runLaneDisable lane))

/-- The DC-blocks that a line lane's DcAuto enables as it reaches ON (Table 5-7, R135). -/
def State.lineAuto (s : State) (n : Nat) : State :=
  if s.lineMode n ∧ s.rdB Rec.LineFilter.DcAuto n then
    (List.range 2048).foldl (fun s k =>
      if s.tribServed n (k / 8) then (s.dcEnable (lineTarget (s.tribId n (k / 8)) (k % 8)) 1).2 else s) s
  else s

/-- The channels of a lane that a boot restored start once the lane is timed (R135). -/
def State.startRestored (s : State) (n : Nat) : State :=
  if !s.timed n then s
  else (s.chanInstances.filter fun i => s.chanActive i && Rec.Channel.Lane.of (s.chanBody i) == n && (s.chanFilt i).restored).foldl
    (fun s i => (s.setChanFilt i { s.chanFilt i with restored := false }).restartChannel i) s

/-- G of a line chain in air-time periods, rounded down: 1 / 8.192 MHz is 15 625 / 64 periods (Table 5-4). -/
def lineDelay (hbs : List Nat) (fin : Nat) : Nat :=
  let taps := ((hbs.mapIdx fun h e => 2 ^ h * (romAt e).delay).sum + 2 ^ hbs.length * (romAt fin).delay) * 64
  (2 * taps + 5 * 63) * 15625 / 128

/-- The stages of a tributary's bitstream chains (R121): the final for 50 Hz or for 60 Hz. -/
def State.lineSpec (s : State) (n trib : Nat) : ChainSpec :=
  { log2Dc := 6, hbs := (List.range 3).map fun i => s.rd (Rec.LineFilter.MetroHb i) n,
    fin := if s.rdB Rec.MetroTrib.NominalHz trib then s.rd Rec.LineFilter.MetroFinal60 n else s.rd Rec.LineFilter.MetroFinal50 n,
    width := 24, coef := 24, up := 22 }

/-- The chains of a tributary restart: delay lines empty, settling for 2G (R120, R121, R134). -/
def State.restartTrib (s : State) (n trib : Nat) : State :=
  let k := s.lineSpec n trib
  { s with filt := { s.filt with lines := Map.put s.filt.lines trib { settleEnd := s.time.air + 2 * lineDelay k.hbs k.fin } } }

/-- The chains of a line lane's served tributaries restart. -/
def State.restartLine (s : State) (n : Nat) : State :=
  if s.lineMode n then ((List.range 256).filter (s.tribServed n)).foldl (fun s t => s.restartTrib n (s.tribId n t)) s else s

/-- A lane enters ON: the chains of its served tributaries and their metrology start (R121, R420). -/
def State.startLine (s : State) (n : Nat) : State :=
  if s.lineMode n then ((List.range 256).filter (s.tribServed n)).foldl (fun s t =>
    (s.restartTrib n (s.tribId n t)).metroStart (s.tribId n t)) s else s

/-- The channels of a lane are placed again where the antennas they are given have changed (R87, R106). -/
def State.antennasChanged (s : State) (n : Nat) : State :=
  if s.chanInstances.any fun i => s.chanActive i && Rec.Channel.Lane.of (s.chanBody i) == n &&
      ((s.chanFilt i).slots.map Prod.fst != s.chanAntennas (s.chanBody i)) then s.replaceQuadrant (quadrant n) 0
  else s

/-- A lane start step completes: a head now known settles which antennas its channels have, and reaching ON starts the metrology chains
with their DC-blocks (R99, R135). -/
def execLaneStartStepDone (lane : Nat) (s : State) : Out :=
  let t := s.startStepDone lane
  let t := if (s.lane lane).step = 4 ∧ (t.lane lane).step = 5 then t.antennasChanged lane else t
  .next (if t.laneOn lane && !s.laneOn lane then (t.startLine lane).lineAuto lane else t)

/-- The active channels and captures of a lane (R106). -/
def State.laneUsers (s : State) (n : Nat) : List Nat :=
  (s.chanInstances.filter fun i => s.chanActive i && Rec.Channel.Lane.of (s.chanBody i) == n) ++
    (s.filt.captures.filter fun c => c.lane == n && decide (c.st = .active)).map Capture.id

/-- The lane record (R106). -/
def ruleLane : RecordRule where
  writer _ c _ _ := c.isOperator
  absent s n b :=
    if !s.laneHere n then some .absentUnit
    else if Rec.Lane.Mode.of b = 0 then none
    else if !s.lineHere then some .absentUnit
    else if s.lineLanesMax ≤ Rec.Lane.LineGroup.of b then some .absentCapacity
    else if s.lineLanesMax ≤ ((List.range 64).filter fun m => m != n && s.lineMode m).length then some .absentCapacity
    else none
  blames s n b :=
    if !s.laneHere n then none
    else if s.lineHere && decide (s.lineLanesMax ≤ Rec.Lane.LineGroup.of b) then some Rec.Lane.LineGroup else some Rec.Lane.Mode
  check s _ n old b :=
    if s.laneTested n then some .refusedState
    else if s.laneSt n ≠ .off ∧ (Rec.Lane.Mode.of old ≠ Rec.Lane.Mode.of b ∨ Rec.Lane.LineGroup.of old ≠ Rec.Lane.LineGroup.of b ∨
        Rec.Lane.ExpectKind.of old ≠ Rec.Lane.ExpectKind.of b ∨ Rec.Lane.ExpectSerial.of old ≠ Rec.Lane.ExpectSerial.of b) then
      some .refusedState
    else if Rec.Lane.Mode.of b = 1 ∧ (!(s.laneUsers n).isEmpty ∨ (List.range 64).any fun m =>
        m != n && s.lineMode m && s.rd Rec.Lane.LineGroup m == Rec.Lane.LineGroup.of b) then some .refusedState
    else none
  detail s _ st n b :=
    let l := (s.laneUsers n).take 16
    if st = .refusedState ∧ Rec.Lane.Mode.of b = 1 ∧ !l.isEmpty then l.length :: l else []
  effect s _ n old b := if Rec.Lane.AntennaMask.of old ≠ Rec.Lane.AntennaMask.of b then s.antennasChanged n else s

def execLaneRecord (tenant inst : Nat) (body : List Byte) (s : State) : Out :=
  .next (s.applyRecord ruleLane Schema.Lane tenant inst body)

/-! ### Captures (R129 to R132) -/

/-- Bytes per second of a capture × 4 096. -/
def State.captureRate (s : State) (kind mask sub : Nat) : Nat :=
  let streams := popCount 8 mask
  4096 * streams * (match kind with
    | 0 => 3000000000
    | 1 => 125000000
    | _ => 0) +
    (if kind = 2 then streams * (4 * 31250000 * 4096 / chanDtot (s.chanBody sub)) else 0)

/-- The divider of a capture: sample rate = 2.000 GSps / Divider (Table 5-5). -/
def State.captureDivider (s : State) (kind sub : Nat) : Nat :=
  match kind with
  | 0 => 1
  | 1 => 64
  | _ => 64 * chanDtot (s.chanBody sub)

/-- The sub-band a capture's header names: its own, its channel's, or none. -/
def State.captureSubBand (s : State) (kind sub : Nat) : Nat :=
  match kind with
  | 1 => sub
  | 2 => Rec.Channel.SubBand.of (s.chanBody sub)
  | _ => 0

/-- The captures that are or will be running. -/
def State.liveCaptures (s : State) : List Capture :=
  s.filt.captures.filter fun c => decide (c.st = .active ∨ c.st = .waiting ∨ c.st = .stopped)

/-- Bytes free in the capture partition. -/
def State.captureFree (s : State) : Nat :=
  s.rd Rec.Partition.CaptureGiB * 2 ^ 30 - (s.filt.captures.map Capture.size).sum

/-- The state with the capture of an identity set. -/
def State.setCapture (s : State) (c : Capture) : State :=
  { s with filt := { s.filt with captures := s.filt.captures.map fun (x : Capture) => if x.id = c.id then c else x } }

/-- A capture begins: it is active, and its header's start stamp is taken. -/
def State.beginCapture (s : State) (c : Capture) : State :=
  s.setCapture { c with st := .active, startStamp := s.stamp, startAir := s.time.air }

/-- A deferred capture starts at its air time or on its event source (R129). -/
def execCaptureBegin (id : Nat) (s : State) : Out :=
  match s.filt.captures.find? (fun c => c.id == id) with
  | some c =>
    let due : Bool := match c.start with
      | 1 => decide (c.at' ≤ s.time.air)
      | 2 => match Map.get? s.ev.lastStamp c.at' with
        | some t => decide (c.reqStamp ≤ t)
        | none => false
      | _ => false
    .next (if c.st = .waiting ∧ due then s.beginCapture c else s)
  | none => .next s

/-- The streams of a capture. -/
def Capture.streams (c : Capture) : List Nat := maskBits 8 c.mask

/-- The samples per stream that a capture's duration has. -/
def Capture.wanted (c : Capture) : Nat := c.durationUs * 2000 / c.divider

/-- The samples a capture has of every stream. -/
def Capture.taken (c : Capture) : Nat := ((c.streams.map fun a => (Map.getD c.words a []).length).min?).getD 0

/-- The cause of a gap at a sample, where one of the streams has a flag there: 0 gap, 1 erased, 2 settling (R132). -/
def Capture.causeAt (c : Capture) (i : Nat) : Option Nat :=
  let f := c.streams.foldl (fun (f : SmpFlags) a => match (Map.getD c.words a [])[i]? with
    | some x => f.or x.f
    | none => f) {}
  if f.gap then some 0 else if f.erased then some 1 else if f.settling then some 2 else none

/-- The gap entries of the samples up to `n`: one for every run of one cause. -/
def Capture.gapList (c : Capture) : Nat → List GapEntry
  | 0 => []
  | n + 1 =>
    let l := c.gapList n
    match c.causeAt n with
    | none => l
    | some k => match l.getLast? with
      | some e => if e.first + e.count = n ∧ e.cause = k then l.dropLast ++ [{ e with count := e.count + 1 }] else l ++ [⟨n, 1, k⟩]
      | none => [⟨n, 1, k⟩]

/-- A sample as a capture stores it: zero where it is flagged (R131). -/
def OutSmp.stored (x : OutSmp) : Cx := if x.f.missing then {} else x.v

/-- The samples of a capture as bytes (R85, R132): containers of 32 12-bit samples of each stream in turn, or I and Q of every stream. -/
def Capture.dataBytes (c : Capture) : List Byte :=
  let at' (a i : Nat) : Cx := match (Map.getD c.words a [])[i]? with
    | some x => x.stored
    | none => {}
  if c.kind = 0 then
    (List.range (ceilDiv c.samples 32)).flatMap fun b => c.streams.flatMap fun a =>
      le 48 ((List.range 32).map fun j => ofSigned 12 (at' a (32 * b + j)).re * 2 ^ (12 * j)).sum
  else (List.range c.samples).flatMap fun i => c.streams.flatMap fun a =>
    le 2 (ofSigned 16 (at' a i).re) ++ le 2 (ofSigned 16 (at' a i).im)

/-- A gap entry as its 16 bytes (R132). -/
def GapEntry.bytes (e : GapEntry) : List Byte := le 8 e.first ++ le 4 e.count ++ le 1 e.cause ++ le 3 0

/-- The bytes of a capture's samples per sample and stream × 2. -/
def Capture.halfBytes (c : Capture) : Nat := if c.kind = 0 then 3 else 8

/-- The staging buffer in DRAM (R131). -/
def stagingBytes : Nat := 2 ^ 31

/-- The samples that a stream of a capture lacks before one that comes after an interval without samples (R131): gaps, stored as zeros. -/
def Capture.lacking (c : Capture) (a : Nat) (x : OutSmp) : List OutSmp :=
  let l := Map.getD c.words a []
  let due := match l.getLast? with
    | some y => y.tag + c.divider
    | none => c.startAir
  let n := min ((x.tag - due) / c.divider) (c.wanted - l.length)
  (List.range n).map fun i => { tag := x.tag - (n - i) * c.divider, v := {}, f := { gap := true } }

/-- A sample of a stream enters the captures it belongs to (R129, R131), from the start of each: until their duration is complete, and while
the staging buffer has room; a capture for which it has none ends early. -/
def State.captureSample (s : State) (kind lane sub a : Nat) (x : OutSmp) : State :=
  let used := (s.filt.captures.map fun (c : Capture) => c.staged).sum
  let put (c : Capture) : Capture :=
    let l := Map.getD c.words a [] ++ c.lacking a x
    if c.st ≠ .active ∨ x.tag < c.startAir ∨ c.kind ≠ kind ∨ c.lane ≠ lane ∨ (kind ≠ 0 ∧ c.sub ≠ sub) ∨ !bitOn c.mask a ∨ c.wanted ≤ l.length then c
    else if stagingBytes < used + c.halfBytes then { c with st := .stopped, truncated := true }
    else { c with
      words := Map.put c.words a (l ++ [x]), staged := c.staged + c.halfBytes / 2 + l.length % 2 * (c.halfBytes % 2),
      airs := if Map.has c.airs a then c.airs else Map.put c.airs a ((l.head?.map fun (y : OutSmp) => y.tag).getD x.tag), rems := if l.isEmpty then Map.put c.rems a x.rem else c.rems }
  if s.filt.captures.isEmpty then s else { s with filt := { s.filt with captures := s.filt.captures.map put } }

/-- The capture partition takes a page: so many bytes leave the staging buffer (R131). -/
def State.captureWritten (s : State) (n : Nat) : State :=
  match s.filt.captures.find? (fun c => decide (0 < c.staged)) with
  | some c => s.setCapture { c with staged := c.staged - n }
  | none => s

/-- A capture whose lane has delivered nothing to its end has gaps there (R131). -/
def Capture.filled (c : Capture) : Capture :=
  { c with words := c.streams.map fun a =>
    let l := Map.getD c.words a []
    let due := match l.getLast? with
      | some y => y.tag + c.divider
      | none => c.startAir
    (a, l ++ (List.range (c.wanted - l.length)).map fun i => ({ tag := due + i * c.divider, v := {}, f := { gap := true } } : OutSmp)) }

/-- A capture that has ended: the samples it has taken are laid down with their gap list. -/
def Capture.ended (c : Capture) : Capture :=
  let c := { c with samples := c.taken }
  let c := { c with gaps := c.gapList c.samples }
  { c with st := .done, size := 128 + 16 * c.gaps.length + c.dataBytes.length }

/-- How long after its duration a capture waits for samples on their way through lane and chain: 10 ms. What has not come is a gap.
(Log entry 29: DESIGN CHOICE.) -/
def captureLag : Nat := 20000000

/-- A capture ends at its duration, by command, or early as staging fills (R131): what was taken is kept.
(Log entry 29: DESIGN CHOICE.) -/
def execCaptureDone (id : Nat) (s : State) : Out :=
  match s.filt.captures.find? (fun c => c.id == id) with
  | some c =>
    let full := decide (c.wanted ≤ c.taken ∨ c.startAir + c.durationUs * 2000 + captureLag ≤ s.time.air)
    if (c.st = .active ∧ full) ∨ c.st = .stopped then
      let c := (if c.st = .active then c.filled else c).ended
      let s := s.setCapture c
      let s := (if c.truncated then s.count { name := .filtTrunc } else s).count { name := .filtCapBytes } c.size
      .next (s.raise .filtCaptureDone 0 [id, c.samples, bit c.truncated, c.gaps.length])
    else .next s
  | none => .next s

/-- FILT.CAPTURE_START (R129, R130).
(Log entry 29: DESIGN CHOICE.) -/
def runFiltCaptureStart (kind lane mask sub start at' duration : Nat) (c : Caller) (s : State) : Reply × State :=
  let n := if kind = 2 then Rec.Channel.Lane.of (s.chanBody sub) else lane
  let rate := s.captureRate kind mask sub
  let total := (s.liveCaptures.map Capture.rate).sum
  let size := ceilDiv (rate * duration) (4096 * 1000000)
  gated s [(c.isService, .refusedRole), (c.slots 7, .badLength),
      (isLane n && decide (kind ≤ 2 ∧ mask < 256 ∧ mask ≠ 0 ∧ start ≤ 2 ∧ 1 ≤ duration ∧ duration ≤ 60000000 ∧
        (kind = 1 → 2 ≤ sub ∧ sub ≤ 62) ∧ (kind = 2 → sub < 2048) ∧ (start = 2 → at' < 480)), .badArgument),
      (s.laneHere n, .absentUnit),
      (s.laneOn n && !s.lineMode n && (kind != 2 || s.chanActive sub), .refusedState),
      (kind != 1 || s.tileFits n 65536 sub, .tileLimit),
      (decide (s.liveCaptures.length < 16 ∧ total + rate ≤ 40000000000 * 4096 * s.flashChannels / 16), .captureRate),
      (decide (size ≤ s.captureFree), .captureSpace)] fun s =>
    let x : Capture := { id := s.filt.nextCapture, kind := kind, lane := n, mask := mask, sub := sub, start := start,
                         at' := at', durationUs := duration, size := size, reqStamp := s.stamp, rate := rate,
                         subBand := s.captureSubBand kind sub, divider := s.captureDivider kind sub }
    let s := { s with filt := { s.filt with
      captures := s.filt.captures ++ [x], nextCapture := (s.filt.nextCapture + 1) % 2 ^ 32 } }
    ({ status := .deferred, slots := [x.id] }, if start = 0 then s.beginCapture x else s)

def execFiltCaptureStart (ch kind lane mask sub start instant duration : Nat) (s : State) : Out :=
  .next (s.command ch .filtCaptureStart (runFiltCaptureStart kind lane mask sub start instant duration))

/-- The capture of an identity. -/
def State.capture (s : State) (id : Nat) : Option Capture := s.filt.captures.find? (fun c => c.id == id)

/-- FILT.CAPTURE_STOP: an active capture ends; CAPTURE_DONE writes what it took. -/
def runFiltCaptureStop (id : Nat) (c : Caller) (s : State) : Reply × State :=
  match s.capture id with
  | none => gated s [(c.isService, .refusedRole), (c.slots 1, .badLength)] fun s => ({ status := .badArgument }, s)
  | some x =>
    gated s [(c.isService, .refusedRole), (c.slots 1, .badLength), (decide (x.st = .active), .refusedState)] fun s =>
      ({ status := .done }, s.setCapture { x with st := .stopped })

def execFiltCaptureStop (ch id : Nat) (s : State) : Out := .next (s.command ch .filtCaptureStop (runFiltCaptureStop id))

/-- The header of a capture (Table 5-5).
(Log entry 29: DESIGN CHOICE.) -/
def captureHeader (c : Capture) : List Byte :=
  le 4 0x5A3C0501 ++ le 1 1 ++ le 1 (c.kind + 4 * bit (decide (c.kind ≠ 0)) + 8 * bit c.truncated) ++ le 1 c.lane ++
    le 1 c.mask ++ le 2 c.subBand ++ le 2 (if c.kind = 2 then c.sub else 0) ++ le 4 c.divider ++ le 4 c.id ++
    le 4 c.gaps.length ++ le 8 c.startStamp ++ le 8 c.samples ++ le 8 0 ++
    ((List.range 8).flatMap fun a => le 8 (Map.getD c.airs a 0)) ++ ((List.range 8).flatMap fun a => le 2 (Map.getD c.rems a 0))

/-- The code of a capture state. -/
def CapSt.code : CapSt → Nat
  | .waiting => 0 | .active => 1 | .stopped => 1 | .done => 2

/-- FILT.CAPTURE_LIST. -/
def readFiltCaptureList (c : Caller) (s : State) : Reply :=
  gatedRead [(c.isService, .refusedRole), (c.slots 0, .badLength)]
    { status := .done, slots := [s.filt.captures.length],
      data := s.filt.captures.flatMap fun x => captureHeader x ++ le 8 x.st.code ++ le 8 x.size }

def execFiltCaptureList (ch : Nat) (s : State) : Out := .next (s.readCommand ch .filtCaptureList readFiltCaptureList)

/-- FILT.CAPTURE_READ. -/
def readFiltCapture (id off len : Nat) (c : Caller) (s : State) : Reply :=
  gatedRead [(c.isService, .refusedRole), (c.slots 3, .badLength), (decide (len ≤ 262144), .badArgument)]
    (match s.capture id with
     | none => { status := .badArgument }
     | some x => { status := .done, data := ((captureHeader x ++ x.gaps.flatMap GapEntry.bytes ++ x.dataBytes).drop off).take len })

def execFiltCaptureRead (ch id off len : Nat) (s : State) : Out :=
  .next (s.readCommand ch .filtCaptureRead (readFiltCapture id off len))

/-- FILT.CAPTURE_DELETE. -/
def runFiltCaptureDelete (id : Nat) (c : Caller) (s : State) : Reply × State :=
  match s.capture id with
  | none => gated s [(c.isService, .refusedRole), (c.slots 1, .badLength)] fun s => ({ status := .badArgument }, s)
  | some x =>
    gated s [(c.isService, .refusedRole), (c.slots 1, .badLength),
        (decide (x.st ≠ .active ∧ x.st ≠ .stopped), .refusedState)] fun s =>
      ({ status := .done, slots := [x.size] },
        { s with filt := { s.filt with captures := s.filt.captures.filter (fun y => !(y.id == id)) } })

def execFiltCaptureDelete (ch id : Nat) (s : State) : Out := .next (s.command ch .filtCaptureDelete (runFiltCaptureDelete id))

/-! ### Reads -/

/-- FILT.CHANNEL_READ: applied fields, state, slot addresses, rate, G, load.
(Log entry 32: DESIGN CHOICE.) -/
def readFiltChannel (i : Nat) (c : Caller) (s : State) : Reply :=
  let body := s.chanBody i
  let x := s.chanFilt i
  let st := if !s.chanActive i then 3 else if x.dropped then 2 else if x.restored ∨ s.time.air < x.settleEnd then 1 else 0
  let q := quadrant (Rec.Channel.Lane.of body)
  gatedRead [(c.isObserver, .refusedRole), (c.slots 1, .badLength), (decide (i < 2048), .badArgument)]
    { status := .done, data := le Schema.Channel.bodyLen body ++ le 8 st ++ le 8 x.slots.length ++
        (x.slots.flatMap fun p => le 8 (fineCell q p.2)) ++ le 8 (chanRate body) ++ le 8 (chanDelay body) ++
        le 8 (slotLoad body / 4096) }

def execFiltChannelRead (ch channel : Nat) (s : State) : Out :=
  .next (s.readCommand ch .filtChannelRead (readFiltChannel channel))

/-- FILT.TILES_READ: the selected sub-bands of a lane, the slots used on it, and the cells used by each quadrant. -/
def readFiltTiles (n : Nat) (c : Caller) (s : State) : Reply :=
  let slots := ((s.chanInstances.filter fun i => s.chanActive i && Rec.Channel.Lane.of (s.chanBody i) == n).map fun i =>
    (s.chanFilt i).slots.length).sum
  gatedRead [(c.isObserver, .refusedRole), (c.slots 1, .badLength), (isLane n, .badArgument), (s.laneHere n, .absentUnit)]
    { status := .done, slots := [maskOf (s.tiles n 65536), slots] ++
        (List.range 4).map fun q =>
          ((s.quadChannels q).flatMap (fun i => (s.chanFilt i).slots.map Prod.snd) ++
            s.filt.resv.flatMap (fun (e : Nat × (List Nat × List Nat)) => if quadrant e.1 = q then e.2.1 ++ e.2.2 else [])).eraseDups.length }

def execFiltTilesRead (ch lane : Nat) (s : State) : Out := .next (s.readCommand ch .filtTilesRead (readFiltTiles lane))

/-- The counter key of a channel slot, and of a tributary's bitstream. -/
def chanKey (i a : Nat) : Nat := 8 * i + a
def streamKey (trib st : Nat) : Nat := 2 ^ 20 + 8 * trib + st

/-- The counter keys of a counter target: a channel's slots, a tributary's bitstreams. -/
def counterKeys (t : Nat) : List Nat :=
  match dcTarget t with
  | some (.inl i) => (List.range 8).map (chanKey i)
  | some (.inr (trib, _)) => (List.range 8).map (streamKey trib)
  | none => []

/-- FILT.COUNTERS_READ: the counters of R137 for a target: per slot or bitstream its output samples, saturations by stage and flagged
samples by flag (gap, erased, settling); then drops, automatic freezes, truncated captures and capture bytes. -/
def readFiltCounters (t : Nat) (c : Caller) (s : State) : Reply :=
  let channel := match dcTarget t with
    | some (.inl i) => i
    | _ => noValue
  gatedRead [(c.isObserver, .refusedRole), (c.slots 1, .badLength), ((dcTarget t).isSome, .badArgument),
      ((s.dcAbsent t).isNone, .absentCapacity)]
    { status := .done, slots :=
        ((counterKeys t).flatMap fun k => s.ctr { name := .filtOut, a := k } ::
          ((List.range satStages).map fun i => s.ctr { name := .filtSat, a := k, b := i }) ++
          (List.range 3).map fun i => s.ctr { name := .filtFlagged, a := k, b := i }) ++
        [s.ctr { name := .filtDrops, a := channel }, bit (s.saturated { name := .filtDrops, a := channel }),
         s.ctr { name := .filtFreezes, a := t }, bit (s.saturated { name := .filtFreezes, a := t }),
         s.ctr { name := .filtTrunc }, bit (s.saturated { name := .filtTrunc }), s.ctr { name := .filtCapBytes }] }

def execFiltCountersRead (ch target : Nat) (s : State) : Out :=
  .next (s.readCommand ch .filtCountersRead (readFiltCounters target))

/-- FILT.ROM_READ: the parameters of an entry and its coefficients, which the spec does not list: each is an unknown
constant of the ROM, the same at both ends (linear phase).
(Log entry 30: UNVERIFIED.) -/
def readFiltRom (i : Nat) (c : Caller) (s : State) : Reply :=
  let _ := s
  let e := romAt i
  gatedRead [(c.isObserver, .refusedRole), (c.slots 1, .badLength), (decide (i < 96), .badArgument)]
    { status := .done, slots :=
        [e.dec, e.passFrom, e.passTo, e.stopBelow, e.stopAbove, e.ripple, e.atten, e.delay, e.taps] ++
        (List.range e.taps).map fun k => Config.romCoefficient i (min k (e.taps - 1 - k)) % 2 ^ 64 }

def execFiltRomRead (ch index : Nat) (s : State) : Out := .next (s.readCommand ch .filtRomRead (readFiltRom index))

/-! ### Records (R133, R134) -/

/-- A channel's placement for a body: its slots, or none where the quadrant cannot take them (R115). -/
def State.placeChannel (s : State) (i body : Nat) : Option (List (Nat × Nat)) :=
  let q := quadrant (Rec.Channel.Lane.of body)
  let same := quadrant (Rec.Channel.Lane.of (s.chanBody i)) == q
  (placeSlots (s.spectrumCells q) (s.slowCells q) (slotLoad body) (if same then (s.chanFilt i).slots else []) (s.chanAntennas body)
    (s.occupancy q i)).map Prod.fst

/-- Capacity has returned to a quadrant: where it has dropped channels, all are placed again in the order of R116. -/
def State.restoreDropped (s : State) (q : Nat) : State :=
  if (s.quadChannels q).any fun i => (s.chanFilt i).dropped then s.replaceQuadrant q 0 else s

/-- The channel record (R133). An applied write places the channel, restarts its chain where a field but Priority
changed (R120), and starts or stops its DC-block.
(Log entry 31: DEDUCED.) -/
def ruleChannel : RecordRule where
  writer _ c _ _ := c.isOperator
  absent s _ b := if Rec.Channel.Active.on b && !s.laneHere (Rec.Channel.Lane.of b) then some .absentUnit else none
  blames _ _ _ := some Rec.Channel.Lane
  check s _ i _ b :=
    let n := Rec.Channel.Lane.of b
    if !Rec.Channel.Active.on b then none
    else if s.lineMode n then some .refusedState
    else if (s.placeChannel i b).isNone then some .noRoom
    else if !s.tileFits n i (Rec.Channel.SubBand.of b) then some .tileLimit
    else none
  effect s _ i old b :=
    let slots := (s.placeChannel i b).getD []
    let on := Rec.Channel.Active.on b
    let was := (s.chanFilt i).dropped
    let s := s.setChanFilt i { s.chanFilt i with slots := if on then slots else [], dropped := false }
    let changed := setBits old 24 3 0 ≠ setBits b 24 3 0
    let s := if on ∧ (changed ∨ was) then s.restartChannel i else s
    let s := if on ∧ was ∧ Rec.Channel.Active.on old then s.raise .filtChannelRestored 0 [i] else s
    let freed := Rec.Channel.Active.on old && decide (changed)
    let s := if freed then s.restoreDropped (quadrant (Rec.Channel.Lane.of old)) else s
    if on ∧ !Rec.Channel.Active.on old ∧ Rec.Channel.DcAuto.on b then (s.dcEnable i 1).2
    else if !on ∧ Rec.Channel.Active.on old then (s.dcDisable i).2
    else s

/-- The line filter record (R134): a change restarts the lane's chains. -/
def ruleLineFilter : RecordRule where
  writer _ c _ _ := c.isOperator
  absent s n _ := if !s.lineHere ∨ !s.laneHere n then some .absentUnit else none
  check s _ n old b :=
    if Rec.LineFilter.LingSlots.of old ≠ Rec.LineFilter.LingSlots.of b ∧ s.lineMode n ∧ s.laneSt n ≠ .off then some .refusedState
    else none
  effect s _ n old b := if old ≠ b ∧ s.laneSt n ≠ .off then s.restartLine n else s

def execLineFilterRecord (tenant inst : Nat) (body : List Byte) (s : State) : Out :=
  .next (s.applyRecord ruleLineFilter Schema.LineFilter tenant inst body)

end Sys2Proof.Machine
end

