-- ==== Sys2Proof/Machine/Reception.lean ====
section
/-! DEFINITION. Chapter 6: carrier groups, bookings, contexts, watchers, descriptors (R138 to R165). What a correlator
or a demodulator for which the spec has no formula measures is an operand of the row that reports it. -/

namespace Sys2Proof.Machine

open Sys2Proof

/-! ### Modes (Table 6-1) -/

/-- The demod weight of a mode. -/
def modeWeight (m : Nat) : Nat := if m ≤ 2 then 1 else if m ≤ 5 then 2 else if m ≤ 9 then 4 else 1

/-- The detection lag maximum of a mode in ms. -/
def modeLagMs (m : Nat) : Nat :=
  match m with
  | 0 => 6 | 1 => 22 | 2 => 170 | 3 => 20 | 4 => 4 | 5 => 4 | 10 => 9
  | _ => 2

/-- Whether unscheduled frames of a mode are retro-combined.
(Log entry 36: DEDUCED.) -/
def modeRetro (m : Nat) : Bool := m != 2

/-- Whether a code names a mode. -/
def modeOk (m : Nat) : Bool := decide (m ≤ 10)

/-- The output rate of a mode × 4 096. -/
def modeRate (m : Nat) : Nat := 31250000 * 4096 / modeDtot m

/-! ### Members and branches (R138, R139) -/

/-- The radio frequency of a channel body in Hz × 2^32. -/
def chanFreq (body : Nat) : Int :=
  (Rec.Channel.SubBand.of body : Int) * 15625000 * 2 ^ 32 + Rec.Channel.FreqWord.int body * 31250000

/-- Whether a channel is a member of a group. -/
def State.rxMember (s : State) (i : Nat) : Bool := s.rdB Rec.RxChannel.Member i

/-- The rate a member with a receive body lacks on a channel body: 1 mode rate, 2 history rate. -/
def rateFault (chanBody rxBody : Nat) : Option Nat :=
  if (maskBits 11 (Rec.RxChannel.ModeMask.of rxBody)).any fun m => modeDtot m != chanDtot chanBody then some 1
  else if Rec.RxChannel.History.on rxBody && decide (31250000 > 1000000 * chanDtot chanBody) then some 2
  else none

/-- Why a member with a receive body is invalid on a channel body: 0 inactive, 1 mode rate, 2 history rate. -/
def memberFault (chanBody rxBody : Nat) : Option Nat :=
  if !Rec.Channel.Active.on chanBody then some 0 else rateFault chanBody rxBody

/-- The receive body in force of a channel. -/
def State.rxBody (s : State) (i : Nat) : Nat := s.bodyOf Schema.RxChannel i

/-- Whether a member is valid. -/
def State.memberValid (s : State) (i : Nat) : Bool := s.rxMember i && (memberFault (s.chanBody i) (s.rxBody i)).isNone

/-- The channels with a receive record. -/
def State.rxInstances (s : State) : List Nat := (Map.keys s.records).filterMap fun k => if k.1 = 0x0400 then some k.2 else none

/-- The members of a group. -/
def State.groupMembers (s : State) (g : Nat) : List Nat :=
  s.rxInstances.filter fun i => s.rxMember i && s.rd Rec.RxChannel.Group i == g

/-- The lane of a channel. -/
def State.chanLane (s : State) (i : Nat) : Nat := Rec.Channel.Lane.of (s.chanBody i)

/-- The valid members of a group in ascending head order. -/
def State.groupValid (s : State) (g : Nat) : List Nat :=
  sortBy (fun i => (s.chanLane i : Int)) ((s.groupMembers g).filter s.memberValid)

/-- The branches of some members: one per channel slot. -/
def State.branchesOf (s : State) (l : List Nat) : List (Nat × Nat) :=
  l.flatMap fun i => (s.chanFilt i).slots.map fun p => (i, p.1)

/-- The branches of a booking: the members its HeadMask names. -/
def State.bookingBranches (s : State) (b : Booking) : List (Nat × Nat) :=
  let l := s.groupValid b.group
  s.branchesOf ((List.range l.length).filterMap fun i => if bitOn b.headMask i then l[i]? else none)

/-! ### Reservations (R144, R145, R159) -/

/-- The end of a booking's hold (R144). -/
def holdEnd (b : Booking) (alignMs : Nat) : Nat := b.closeAt + (b.maxFrameMs + alignMs + 16) * airPerMs

/-- What a context or booking takes of the four quantities: entries, demod weight, combiner load × 4 096, and
alignment-pool bytes. -/
structure Load where
  entries : Nat := 0
  weight : Nat := 0
  combiner : Nat := 0
  pool : Nat := 0
  deriving DecidableEq, Repr

/-- The sum of two loads. -/
def Load.add (a b : Load) : Load :=
  ⟨a.entries + b.entries, a.weight + b.weight, a.combiner + b.combiner, a.pool + b.pool⟩

/-- The load of a booking with a number of branches (R145). -/
def bookingLoad (b : Booking) (alignMs branches : Nat) : Load :=
  let hold := holdEnd b alignMs - b.openAt
  { entries := 1, weight := modeWeight b.mode, combiner := branches * modeRate b.mode,
    pool := ceilDiv (branches * modeRate b.mode * 4 * hold) (4096 * 2000000000) }

/-- The capacities of Table 6-6: entries in service, 16 shares of each demodulator cell in service and its part of the combiner load of each
combiner cell (R31). -/
def State.rxCapacity (s : State) : Load :=
  let good (first blocks cells : Nat) : Nat :=
    (((List.range blocks).flatMap fun b => (List.range cells).map fun c => 4 * 4096 + (first + b) * 64 + c).filter fun a =>
      !s.cellFenced a).length
  { entries := 64 * good 32 1 64, weight := 16 * good 0 16 16, combiner := 16000000000 * 4096 / 64 * good 16 8 8, pool := 2147483648 }

/-- The first quantity of `l` beyond `k` of 4 096 parts of a capacity: 0 entries, 1 weight, 2 combiner, 3 pool. -/
def Load.beyond (l cap : Load) (k : Nat) : Option Nat :=
  if cap.entries * k < l.entries * 4096 then some 0
  else if cap.weight * k < l.weight * 4096 then some 1
  else if cap.combiner * k < l.combiner * 4096 then some 2
  else if cap.pool * k < l.pool * 4096 then some 3
  else none

/-- A booking that holds its reservation: its fields, the AlignDeadlineMs it was made under, and the branches reserved for. -/
structure Held where
  b : Booking
  alignMs : Nat
  count : Nat

/-- The bookings that hold reservations (R145): those waiting, those of open booked contexts, and those held on an entry. -/
def State.reservations (s : State) : List Held :=
  s.rx.booked.map (fun x => ⟨x.b, x.pol.alignMs, x.count⟩) ++
    (Map.vals s.rx.ctxs).flatMap fun c =>
      (if c.origin = 1 then [] else [⟨c.b, c.pol.alignMs, c.count⟩]) ++
        (match c.held with
         | some (.booking x) => [⟨x.b, x.pol.alignMs, x.count⟩]
         | _ => [])

/-- Whether a reservation holds at an instant. -/
def Held.on (x : Held) (t : Nat) : Bool := decide (x.b.openAt ≤ t ∧ t < holdEnd x.b x.alignMs)

/-- The load reserved at an instant. -/
def State.reservedAt (s : State) (t : Nat) : Load :=
  (s.reservations.filter fun x => x.on t).foldl (fun l x => l.add (bookingLoad x.b x.alignMs x.count)) {}

/-- The context entries reserved for a SEALED tenant (R530). -/
def State.ctxReserve (s : State) (t : Nat) : Nat := s.reserveOf .contexts t

/-- Whether the entries held at an instant with a booking of a tenant added leave the fraction of R145 of the pooled entries: what a
sealed tenant holds within its reserve is not pooled (R530). -/
def State.poolHolds (s : State) (tenant t : Nat) : Bool :=
  let l := tenant :: (s.reservations.filter fun x => x.on t).map fun x => x.b.tenant
  let pooled := ((List.range 16).map fun k => l.count k - s.ctxReserve k).sum
  let room := s.rxCapacity.entries - ((List.range 16).map s.ctxReserve).sum
  decide (pooled * 4096 ≤ room * (4096 - s.rd Rec.RxPolicy.PushReserve))

/-- The quantity that refuses a booking at some instant of its hold (R145): totals only rise where a hold begins. -/
def State.bookingBound (s : State) (b : Booking) : Option Nat :=
  let al := s.rd Rec.RxPolicy.AlignDeadlineMs
  let own := { bookingLoad b al (s.bookingBranches b).length with entries := 0 }
  let times := b.openAt :: (s.reservations.map fun x => x.b.openAt).filter fun t => decide (b.openAt ≤ t ∧ t < holdEnd b al)
  times.findSome? fun t =>
    if s.poolHolds b.tenant t then
      ({ s.reservedAt t with entries := 0 }.add own).beyond s.rxCapacity (4096 - s.rd Rec.RxPolicy.PushReserve)
    else some 0

/-- Whether a booking's fields lie in the ranges of Table 6-3. -/
def Booking.inRange (b : Booking) : Bool :=
  decide ((b.meter < 1048576 ∨ b.meter = 0xFFFFFFFF) ∧ b.group < 1024 ∧ b.headMask < 256 ∧ 1 ≤ b.maxFrameMs ∧ b.maxFrameMs ≤ 2000 ∧
    b.freqExpect < 65536 ∧ b.freqSpan ≤ 11000 ∧ b.tenant < 16) && modeOk b.mode

/-- Whether the region takes bookings: it works, and the boot sequence has made the chip ready (R163).
(Log entry 168: DEDUCED.) -/
def State.rxReady (s : State) : Bool := s.regionOn 4 && s.mail.serviceReady

/-- The policy in force for a mode (R162). -/
def State.rxPol (s : State) (mode : Nat) : RxPol :=
  { minSnr := s.rdS Rec.RxPolicy.BranchMinSnr, alignMs := s.rd Rec.RxPolicy.AlignDeadlineMs, retroMax := s.rd Rec.RxPolicy.RetroMaxBranches,
    track := s.rd Rec.RxPolicy.TrackSymbols, search := if mode ≤ 10 then s.rd (Rec.RxPolicy.FreqSearch mode) else 0 }

/-- A booking is refused: counted, and `rx.booking_refused` after a second without a refusal. -/
def State.refuseBooking (s : State) (g : Nat) (q : Option Nat) : State :=
  let recent := s.rx.refusedMs.filter fun t => decide (s.time.ms < t + 1000)
  let s := { s with rx := { s.rx with refusedMs := s.time.ms :: recent } }
  let s := s.count { name := .rxRefusals, a := g }
  if recent.isEmpty then s.raise .rxBookingRefused 0 [g, slotOpt q, 1] else s

/-- A booking is made, or refused with CTX_FULL (R144, R145): its number, if accepted. A listen is not held to the
5 ms to 600 s of a booking; one out of the ranges of Table 6-3, or before the region is ready, is refused as well.
(Log entry 35: DEDUCED.)
(Log entry 168: DEDUCED.) -/
def State.book (s : State) (b : Booking) (listen : Bool) : Option Nat × State :=
  let ahead := decide (s.time.air + 5 * airPerMs ≤ b.openAt ∧ b.openAt ≤ s.time.air + 600000 * airPerMs)
  let window := decide (b.openAt + airPerMs ≤ b.closeAt ∧ b.closeAt ≤ b.openAt + 60000 * airPerMs)
  if !(listen || (ahead && window)) || !b.inRange || !s.rxReady then (none, s.refuseBooking b.group none)
  else match s.bookingBound b with
    | some q => (none, s.refuseBooking b.group (some q))
    | none =>
      let id := s.rx.nextId
      let x : Booked := { id := id, b := b, listen := listen, pol := s.rxPol b.mode, count := (s.bookingBranches b).length }
      (some id, ({ s with rx := { s.rx with booked := s.rx.booked ++ [x], nextId := id + 1 } }).count
        { name := .rxBookings, a := b.group })

/-- The air region books a context (R144). -/
def execBookingRequest (meter group headMask mode openAt closeAt maxFrameMs freqExpect freqSpan tenant : Nat) (s : State) : Out :=
  .next (s.book ⟨meter, group, headMask, mode, openAt, closeAt, maxFrameMs, freqExpect, freqSpan, tenant⟩ false).2

/-! ### Contexts (R141 to R143) -/

/-- An open context. -/
def State.ctx (s : State) (n : Nat) : Option RxCtx := Map.get? s.rx.ctxs n

/-- The state with a context set. -/
def State.setCtx (s : State) (n : Nat) (c : RxCtx) : State := { s with rx := { s.rx with ctxs := Map.put s.rx.ctxs n c } }

/-- The lowest FREE entry in service.
(Log entry 33: DESIGN CHOICE.) -/
def State.freeCtx (s : State) : Option Nat :=
  (List.range 4096).find? fun n => !Map.has s.rx.ctxs n && !(s.unit (.context n)).fenced && !s.cellFenced (4 * 4096 + 32 * 64 + n / 64)

/-- A STOPPING entry that holds nothing yet. -/
def State.stoppingCtx (s : State) : Option Nat :=
  (s.rx.ctxs.find? fun e => decide (e.2.st = .stopping) && e.2.held.isNone).map Prod.fst

/-- What a context loads (R159). -/
def RxCtx.load (c : RxCtx) : Load := bookingLoad c.b c.pol.alignMs c.branches.length

/-- The load of all open contexts. -/
def State.usedLoad (s : State) : Load := (Map.vals s.rx.ctxs).foldl (fun l c => l.add c.load) {}

/-- A context opens on an entry, charged to the booking's tenant, a retro or listen context to the pooled quantum (R145). -/
def State.openCtx (s : State) (n : Nat) (c : RxCtx) : State :=
  let s := if c.origin = 0 then s.charge .contexts c.b.tenant 1 else s.chargePool .contexts 1
  let s := c.branches.foldl (fun s p => s.count { name := .rxUsed, a := p.1, b := p.2 }) s
  (s.setCtx n c).setUnit (.context n) { s.unit (.context n) with st := if c.st = .starting then .starting else .on }

/-- The samples of some branches in history from an air time on (R142, R149). -/
def State.readBack (s : State) (branches : List (Nat × Nat)) (from' : Int) : Map (Nat × Nat) (List OutSmp) :=
  branches.filterMap fun p =>
    if s.rdB Rec.RxChannel.History p.1 then some (p, (Map.getD s.rx.hist p []).filter fun x => decide (from' ≤ x.tag)) else none

/-- A booking opens on an entry: the context is STARTING, with what history holds from OpenAt on where it opens late (R141, R142). A listen's
start is reported with its reason (0 command, 1 deferred). -/
def State.openBooked (s : State) (n : Nat) (x : Booked) (reason : Nat) : State :=
  let l := s.bookingBranches x.b
  let c : RxCtx := { st := .starting, id := x.id, b := x.b, origin := if x.listen then 2 else 0, pol := x.pol, count := x.count,
                     branches := l, buf := s.readBack l x.b.openAt }
  let s := { s with rx := { s.rx with booked := s.rx.booked.filter (fun y => !(y.id == x.id)) } }
  let s := s.openCtx n c
  if x.listen then s.raise .rxContextStarted 0 [n, reason] else s

/-- A retro context's booking: a window that has closed, every valid history-enabled member (R149).
(Log entry 33: DESIGN CHOICE.) -/
def retroBooking (d : Detection) : Booking :=
  { meter := 0xFFFFFFFF, group := d.group, headMask := 0xFF, mode := d.mode, openAt := d.startAir, closeAt := d.startAir,
    maxFrameMs := 2000 }

/-- The branches of a retro context. -/
def State.retroBranches (s : State) (g : Nat) : List (Nat × Nat) :=
  s.branchesOf ((s.groupValid g).filter fun i => s.rdB Rec.RxChannel.History i)

/-- A detection opens a retro context on an entry: read-back begins at its air time less the mode's detection lag maximum and 1 ms
(R149). -/
def State.openRetro (s : State) (n : Nat) (d : Detection) : State :=
  let l := s.retroBranches d.group
  s.openCtx n { st := .starting, id := 0, b := retroBooking d, origin := 1, pol := d.pol, count := l.length, branches := l,
                buf := s.readBack l ((d.air : Int) - (modeLagMs d.mode + 1) * airPerMs),
                frameStart := some d.startAir, detectAir := d.air }

/-- Whether one more open context keeps every limit of Table 6-6 (R159). -/
def State.ctxFits (s : State) (l : Load) : Bool := ((s.usedLoad.add l).beyond s.rxCapacity 4096).isNone

/-- Whether one more retro context keeps them. -/
def State.retroFits (s : State) (d : Detection) : Bool :=
  s.ctxFits (bookingLoad (retroBooking d) d.pol.alignMs (s.retroBranches d.group).length)

/-- Whether a booking's context keeps them; one that does not waits until retro contexts end, which it does not pre-empt (R150).
(Log entry 33: DESIGN CHOICE.) -/
def State.bookedFits (s : State) (x : Booked) : Bool := s.ctxFits (bookingLoad x.b x.pol.alignMs (s.bookingBranches x.b).length)

/-- OpenAt arrives: the context starts on the lowest FREE entry, or is held on a STOPPING one (R142).
(Log entry 33: DESIGN CHOICE.) -/
def State.openDue (s : State) (x : Booked) : State :=
  if !s.regionOn 4 ∨ !s.bookedFits x then s
  else match s.freeCtx with
  | some n => s.openBooked n x 0
  | none =>
    match s.stoppingCtx with
    | some n =>
      match s.ctx n with
      | some c =>
        { s with rx := { s.rx with
          booked := s.rx.booked.filter (fun y => !(y.id == x.id)),
          ctxs := Map.put s.rx.ctxs n { c with held := some (.booking x) } } }
      | none => s
    | none => s

/-- OpenAt arrives and a booked context starts, or is held on a stopping entry. -/
def execContextOpenDue (id : Nat) (s : State) : Out :=
  match s.rx.booked.find? (fun x => x.id == id) with
  | some x => .next (if x.b.openAt ≤ s.time.air then s.openDue x else s)
  | none => .next s

/-! ### Descriptors and outcomes (R157, R158) -/

/-- What the demodulator measured of a combined frame in 0.1 dB: CombinedSnr, and BestLevel in 0.1 dBFS. -/
structure RxMeas where
  combined : Int
  level : Int
  deriving DecidableEq, Repr

/-- A signed value in `n` bytes, or all ones where there is none (R695). -/
def signedOpt (n : Nat) (v : Option Int) : List Byte :=
  match v with
  | some x => le n (ofSigned (8 * n) (max (-(2 ^ (8 * n - 1) : Nat)) (min x ((2 ^ (8 * n - 1) : Nat) - 1))))
  | none => List.replicate n 0xFF

/-- A value in `n` bytes, or all ones where there is none. -/
def leOpt (n : Nat) (v : Option Nat) : List Byte :=
  match v with
  | some x => le n x
  | none => List.replicate n 0xFF

/-- The branches used: channel, antenna and estimate at detection (R158). -/
def RxCtx.usedBranches (c : RxCtx) : List ((Nat × Nat) × BranchEst) :=
  c.pass.used.filterMap fun i => (c.branches[i]?).map fun p => (p, c.est.getD i {})

/-- The ideal sum of some branches' SNR, from the linear SNR at detection (R158); none of no branch.
(Log entry 34: DESIGN CHOICE.) -/
def idealSnr (l : List BranchEst) : Option Int :=
  if l.isEmpty then none
  else if l.any fun e => e.var == 0 then some (ratioDb (l.map fun e => e.h.sq).sum 0)
  else
    let r : Rat := (l.map fun e => (e.h.sq : Rat) / e.var).sum
    some (ratioDb r.num.toNat r.den)

/-- The branch of some with the highest SNR, the first of equals. -/
def bestBranch (l : List BranchEst) : Option BranchEst := l[refBranch l]?

/-- The heads of the branches used, ascending (R158). -/
def State.usedHeads (s : State) (c : RxCtx) : List Nat :=
  sortBy (fun (n : Nat) => (n : Int)) ((c.usedBranches.map fun e => s.chanLane e.1.1).eraseDups)

/-- A head's entry of the descriptor: antennas used, ideal SNR of its used branches, and the offset of its best branch in ns.
(Log entry 34: DESIGN CHOICE.) -/
def State.headEntry (s : State) (c : RxCtx) (lane : Nat) : List Byte :=
  let l := c.usedBranches.filter fun e => s.chanLane e.1.1 == lane
  let est := l.map Prod.snd
  let delay : Int := ((((bestBranch est).map BranchEst.tau).getD 0) * modeSpacing c.b.mode + 64) / 128
  le 1 lane ++ le 1 (maskOf (l.map fun e => e.1.2)) ++ signedOpt 2 (idealSnr est) ++ le 4 (ofSigned 32 delay)

/-- The reception descriptor (Table 6-5). A field that has no value, as where no frame was found, is all ones (R695). -/
def State.descriptor (s : State) (n : Nat) (c : RxCtx) (outcome : Nat) (match' : Bool) (len : Nat) (m : Option RxMeas) : List Byte :=
  let heads := s.usedHeads c
  let est := c.usedBranches.map Prod.snd
  le 1 1 ++ le 1 (outcome + 16 * c.origin + 64 * bit match') ++ le 1 (c.b.mode + 16 * min 8 heads.length) ++
    le 1 c.branches.length ++ le 2 c.pass.used.length ++ le 2 c.b.group ++ le 2 n ++ le 2 len ++ le 4 (ofSigned 32 c.freqHz) ++
    leOpt 8 c.frameStart ++ leOpt 8 c.endAir ++ signedOpt 2 (m.map RxMeas.combined) ++ signedOpt 2 (idealSnr est) ++
    signedOpt 2 ((bestBranch est).map BranchEst.snr) ++ signedOpt 2 (m.map RxMeas.level) ++ le 4 c.pass.flaggedUs ++ le 1 c.late.length ++
    le 1 c.pass.weak.length ++ le 2 0 ++ le 4 c.b.meter ++ leOpt 4 (c.frameStart.map fun f => (c.detectAir - f) / 2000) ++ le 8 0 ++
    (List.range 8).flatMap fun h => match heads[h]? with
      | some lane => s.headEntry c lane
      | none => le 1 0xFF ++ le 7 0

/-- Bytes as 8-byte slots. -/
def bytesSlots (l : List Byte) : List Nat := (List.range (ceilDiv l.length 8)).map fun i => leAt l (8 * i) 8

/-- A context's outcome is set (R157): STOPPING, counted, reported to the air region if booked and as `rx.listen_done`
if a listen, and a FRAME_OK frame handed to security (`hand`; R185 alone keeps one back).
(Log entry 34: DESIGN CHOICE.) -/
def State.setOutcome (s : State) (n : Nat) (c : RxCtx) (outcome : Nat) (frame : List Byte) (match' : Bool) (m : Option RxMeas)
    (hand : Bool := true) : State :=
  let d := s.descriptor n c outcome match' frame.length m
  let s := s.setCtx n { c with st := .stopping, outcome := some outcome, desc := d }
  let s := s.setUnit (.context n) { s.unit (.context n) with st := .stopping false, stopAt := s.time.ms }
  let s := s.count { name := .rxOutcome, a := c.b.group, b := 8 * outcome + c.origin }
  let s := if c.origin = 0 then { s with rx := { s.rx with
      outcomes := s.rx.outcomes ++ [⟨c.id, outcome, c.b, c.frameStart, frame, d⟩] } } else s
  let s := if c.origin = 2 then s.raise .rxListenDone c.b.tenant (bytesSlots d) else s
  let s := if outcome = 0 then
      s.count { name := .rxGain, a := c.b.group }
        (ofSigned 48 ((m.map RxMeas.combined).getD 0 - ((bestBranch (c.usedBranches.map Prod.snd)).map BranchEst.snr).getD 0))
    else s
  if outcome = 0 ∧ hand then
    { s with rx := { s.rx with
      toSecurity := s.rx.toSecurity ++ [{ frame := frame, desc := d, mode := c.b.mode, origin := c.origin, hint := c.b.meter,
                                          startAir := c.frameStart.getD c.b.openAt, endAir := c.endAir.getD 0 }] } }
  else s

/-- A context ends without a frame. -/
def State.endCtxWith (s : State) (n outcome : Nat) : State :=
  match s.ctx n with
  | some c => if c.st = .stopping then s else s.setOutcome n c outcome [] false none
  | none => s

/-- A booking cancelled before its context opened ends ABORTED, with a descriptor that names the entry it was held on, if one: a listen
is reported (R142, R157). -/
def State.abortBooked (s : State) (n : Option Nat) (x : Booked) : State :=
  let origin := if x.listen then 2 else 0
  let d := s.descriptor (n.getD 0xFFFF) { st := .stopping, id := x.id, b := x.b, origin := origin } 5 false 0 none
  let s := if n.isSome then s.count { name := .rxOutcome, a := x.b.group, b := 40 + origin } else s
  if x.listen then (if n.isSome then s.raise .rxListenDone x.b.tenant (bytesSlots d) else s)
  else { s with rx := { s.rx with outcomes := s.rx.outcomes ++ [⟨x.id, 5, x.b, none, [], d⟩] } }

/-- An open held on an entry is cancelled: its booking ends ABORTED (R142, R157).
(Log entry 35: DEDUCED.) -/
def State.abortHeld (s : State) (n : Nat) : State :=
  match s.ctx n with
  | some c =>
    let t := s.setCtx n { c with held := none }
    match c.held with
    | some (.booking x) => t.abortBooked (some n) x
    | _ => t
  | none => s

/-- A reception region restart: every context ends ABORTED, every booking is cancelled, and history is empty (R163). -/
def State.rxRestart (s : State) : State :=
  let s := (Map.keys s.rx.ctxs).foldl (fun s n => (s.abortHeld n).endCtxWith n 5) s
  let s := s.rx.booked.foldl (fun s x => s.abortBooked none x) s
  { s with rx := { s.rx with booked := [], detections := [], hist := [] } }

/-- Branches of some channels are lost: their history is gone, a context loses those branches, and one that relied on them alone ends
ABORTED (Table 2-5, R36). -/
def State.loseBranches (s : State) (chans : List Nat) : State :=
  let s := { s with rx := { s.rx with hist := s.rx.hist.filter fun e => !chans.contains e.1.1 } }
  (Map.keys s.rx.ctxs).foldl (fun s n =>
    match s.ctx n with
    | some c =>
      if c.st = .stopping ∨ !c.branches.any (fun p => chans.contains p.1) then s
      else if c.branches.all fun p => chans.contains p.1 then s.endCtxWith n 5
      else
        let keep := (c.branches.mapIdx fun i p => (i, p)).filter fun e => !chans.contains e.2.1
        s.setCtx n { c with
          branches := keep.map Prod.snd, est := if c.est.isEmpty then [] else keep.map fun e => c.est.getD e.1 {},
          buf := c.buf.filter fun e => !chans.contains e.1.1 }
    | none => s) s

/-! ### Detections (R147 to R150) -/

/-- Whether two frame starts lie within MergeTolUs (R149). -/
def State.sameFrame (s : State) (a b : Nat) : Bool :=
  decide (((a : Int) - b).natAbs ≤ s.rd Rec.RxPolicy.MergeTolUs * 2000)

/-- Whether a frame start of a group belongs to a context of it, or to an open that an entry holds for a detection (R149). -/
def State.mergesInto (s : State) (group startAir : Nat) : Bool :=
  (Map.vals s.rx.ctxs).any fun c =>
    (c.b.group == group && (match c.frameStart with
      | some f => s.sameFrame f startAir
      | none => false)) ||
    (match c.held with
     | some (.detection d) => d.group == group && s.sameFrame d.startAir startAir
     | _ => false)

/-- Waiting detections whose frame a context has taken up meanwhile merge into it (R149). -/
def State.mergeWaiting (s : State) : State :=
  let l := s.rx.detections.filter fun d => s.mergesInto d.group d.startAir
  let s := l.foldl (fun s d => s.count { name := .rxMerged, a := d.group }) s
  { s with rx := { s.rx with detections := s.rx.detections.filter fun d => !l.contains d } }

/-- A detection is dropped (R150): counted, and `rx.detect_dropped` raised at most once per second per group. -/
def State.dropDetection (s : State) (group : Nat) : State :=
  let s := s.count { name := .rxDropped, a := group }
  let k := Map.getD s.rx.dropCount group 0 + 1
  let due := match Map.get? s.rx.dropMs group with
    | some t => decide (t + 1000 ≤ s.time.ms)
    | none => true
  let s := { s with rx := { s.rx with
    dropCount := Map.put s.rx.dropCount group (if due then 0 else k),
    dropMs := if due then Map.put s.rx.dropMs group s.time.ms else s.rx.dropMs } }
  if due then s.raise .rxDetectDropped 0 [group, k] else s

/-- Whether a branch is watched for a mode: a watched antenna with a slot, on a valid member of the group, on a timed lane. -/
def State.watches (s : State) (group channel antenna mode : Nat) : Bool :=
  s.regionOn 4 && s.memberValid channel && s.rd Rec.RxChannel.Group channel == group &&
    bitOn (s.rd Rec.RxChannel.WatchMask channel) antenna && (s.chanFilt channel).slots.any (fun p => p.1 == antenna) &&
    s.timed (s.chanLane channel) && bitOn (s.rd Rec.RxChannel.ModeMask channel) mode

/-- A watcher's correlation metric (0.1 dB) passes the mode's calibrated threshold plus DetectMargin (R147): the detection merges into a
context of its group whose frame start lies within MergeTolUs, or opens a retro context on a FREE entry, or is held on a STOPPING one, or
waits. A Lea-L detection cannot be kept whole and is dropped (R150), as is one beyond the 131 072 of a second (R159). A branch that is not
watched detects nothing.
(Log entry 36: DEDUCED.)
(Log entry 165: DESIGN CHOICE.) -/
def execWatcherDetection (group channel antenna mode startAir : Nat) (metric : Int) (s : State) : Out :=
  if !s.watches group channel antenna mode ∨ metric < Config.watchThreshold mode + s.rdS Rec.RxPolicy.DetectMargin then .next s
  else
    let d : Detection := { group := group, channel := channel, antenna := antenna, mode := mode, startAir := startAir, ms := s.time.ms,
                           air := s.time.air, pol := s.rxPol mode }
    let s := s.count { name := .rxDetections, a := group }
    let recent := s.rx.detMs.filter fun t => decide (s.time.ms < t + 1000)
    let s := { s with rx := { s.rx with detMs := s.time.ms :: recent } }
    if 131072 ≤ recent.length then .next (s.dropDetection group)
    else if s.mergesInto group startAir then .next (s.count { name := .rxMerged, a := group })
    else if !s.retroFits d ∨ !modeRetro mode then .next { s with rx := { s.rx with detections := s.rx.detections ++ [d] } }
    else match s.freeCtx with
      | some n => .next (s.openRetro n d)
      | none =>
        match s.stoppingCtx.bind (fun n => (s.ctx n).map fun c => (n, c)) with
        | some (n, c) => .next (s.setCtx n { c with held := some (.detection d) })
        | none => .next { s with rx := { s.rx with detections := s.rx.detections ++ [d] } }

/-- A detection that cannot open a context in time is dropped (R150).
(Log entry 36: DEDUCED.) -/
def execDetectionDrop (group : Nat) (s : State) : Out :=
  match s.rx.detections.find? (fun d => d.group == group && decide (d.ms + (60 - modeLagMs d.mode) ≤ s.time.ms)) with
  | none => .next s
  | some d => .next (({ s with rx := { s.rx with detections := s.rx.detections.erase d } }).dropDetection group)

/-- Retro read-back reaches the live samples (R149). -/
def execRetroCatchUp (ctx : Nat) (s : State) : Out :=
  match s.ctx ctx with
  | some c =>
    if c.origin = 1 ∧ c.st ≠ .stopping then
      let st := if c.st = .starting then .search else c.st
      .next ((s.setCtx ctx { c with caughtUp := true, st := st }).setUnit (.context ctx) { s.unit (.context ctx) with st := .on })
    else .next s
  | none => .next s

/-- The branches with the highest SNR, at most `n`, in their order (R149). -/
def bestBranches {α : Type} (n : Nat) (l : List (α × Int)) : List (α × Int) :=
  let order := sortBy (fun (x : Nat × Int) => -x.2) (l.mapIdx fun i e => (i, e.2))
  let keep := (order.take n).map Prod.fst
  (l.mapIdx fun i e => (i, e)).filterMap fun x => if keep.contains x.1 then some x.2 else none

/-- The branches of a context with what its detection estimated of each: the complex gain (real and imaginary part in turn), the noise
variance, and the offset in 1/64 sample, taken relative to the reference branch and within ±100 µs (R151, R153). -/
def RxCtx.estimates (c : RxCtx) (gains : List Int) (noise : List Nat) (tau : List Int) : List ((Nat × Nat) × BranchEst) :=
  let l := c.branches.mapIdx fun i p =>
    (p, { h := { re := gains.getD (2 * i) 0, im := gains.getD (2 * i + 1) 0 }, var := noise.getD i 0, tau := tau.getD i 0 : BranchEst })
  let zero := ((bestBranch (l.map Prod.snd)).map BranchEst.tau).getD 0
  let most : Int := 200000 * 64 / modeSpacing c.b.mode
  l.map fun e => (e.1, { e.2 with tau := max (-most) (min most (e.2.tau - zero)) })

/-- Whether a carrier offset lies within what a context searches (R153): FreqExpect ± FreqSpan, or ± the mode's FreqSearch where FreqSpan
is 0. -/
def RxCtx.searches (c : RxCtx) (freqHz : Int) : Bool :=
  let span := if c.b.freqSpan = 0 then c.pol.search else c.b.freqSpan
  decide ((freqHz - 10 * toSigned 16 c.b.freqExpect).natAbs ≤ 10 * span)

/-- Other contexts of a group that hold the frame that starts at an instant. -/
def State.sameFrameCtxs (s : State) (n group startAir : Nat) : List (Nat × RxCtx) :=
  s.rx.ctxs.filter fun e => e.1 != n && e.2.b.group == group && decide (e.2.st ≠ .stopping ∨ e.2.outcome.isSome) && !e.2.est.isEmpty &&
    (match e.2.frameStart with
     | some f => s.sameFrame f startAir
     | none => false)

/-- A retro context whose frame another context has is merged into that one: it stops without an outcome (R17, R149).
(Log entry 169: DESIGN CHOICE.) -/
def State.mergeAway (s : State) (n : Nat) : State :=
  match s.ctx n with
  | some c =>
    let s := s.setCtx n { c with st := .stopping }
    (s.setUnit (.context n) { s.unit (.context n) with st := .stopping false, stopAt := s.time.ms }).count { name := .rxMerged, a := c.b.group }
  | none => s

/-- A context takes a frame and tracks it (R146, R153); a retro one keeps its RetroMaxBranches best branches, and its watcher's detection
time. -/
def State.takeFrame (s : State) (n startAir : Nat) (c : RxCtx) (freqHz : Int) (formatB : Bool) (l : List ((Nat × Nat) × BranchEst)) : State :=
  let l := if c.origin = 1 then (bestBranches c.pol.retroMax (l.map fun e => (e, e.2.snr))).map Prod.fst else l
  let s := s.setCtx n { c with
    st := .track, branches := l.map Prod.fst, est := l.map Prod.snd, freqHz := freqHz, formatB := formatB && decide (8 ≤ c.b.mode),
    buf := c.buf.filter fun e => (l.map Prod.fst).contains e.1,
    frameStart := some startAir, detectAir := if c.origin = 1 then c.detectAir else s.time.air }
  s.setUnit (.context n) { s.unit (.context n) with st := .on }

/-- A context detects a frame (R146, R153, R155): a booked one where the frame starts within its window and the non-coherent sum of its
branches' metrics reaches the threshold; the offset must lie within the search. A frame that another booked context has, or that has
already been decoded, is left to that one, and a retro context's detection of such a frame is merged; retro contexts that only track it
merge into a booked one (R17, R149).
(Log entry 165: DESIGN CHOICE.)
(Log entry 169: DESIGN CHOICE.) -/
def execContextFrameDetected (ctx startAir : Nat) (freqHz : Int) (formatB : Bool) (metrics : List Nat) (gains : List Int)
    (noise : List Nat) (tau : List Int) (s : State) : Out :=
  match s.ctx ctx with
  | some c =>
    let inWindow := decide (c.origin = 1 ∨ (c.b.openAt ≤ startAir ∧ startAir ≤ c.b.closeAt))
    let found := decide (c.origin = 1 ∨ Config.searchThreshold c.b.mode c.branches.length ≤ (metrics.take c.branches.length).sum)
    if (c.st = .starting ∨ c.st = .search) ∧ inWindow ∧ found ∧ c.searches freqHz then
      let others := s.sameFrameCtxs ctx c.b.group startAir
      let settled := others.any fun e => e.2.origin != 1 || e.2.outcome.isSome || c.origin == 1
      if settled then .next (if c.origin = 1 then s.mergeAway ctx else s)
      else
        let s := s.takeFrame ctx startAir c freqHz formatB (c.estimates gains noise tau)
        .next (others.foldl (fun s e => s.mergeAway e.1) s).mergeWaiting
    else .next s
  | none => .next s

/-- CloseAt plus the detection lag passes without detection (R146). -/
def execContextNoFrame (ctx : Nat) (s : State) : Out :=
  match s.ctx ctx with
  | some c =>
    if (c.st = .search ∨ (c.st = .starting ∧ c.origin ≠ 1)) ∧ c.b.closeAt + modeLagMs c.b.mode * airPerMs ≤ s.time.air then .next (s.endCtxWith ctx 1) else .next s
  | none => .next s

/-- The lanes of late branches are reported at most once per 60 s each (R152). -/
def State.reportLate (s : State) (n lane : Nat) : State :=
  let due := match Map.get? s.rx.lateMs lane with
    | some t => decide (t + 60000 ≤ s.time.ms)
    | none => true
  if due then
    (({ s with rx := { s.rx with lateMs := Map.put s.rx.lateMs lane s.time.ms } }).count { name := .rxBranchLate, a := lane }).raise
      .rxBranchLate 0 [lane, n]
  else s

/-- A branch's offset in air-time periods, rounded up. -/
def RxCtx.tauAir (c : RxCtx) (i : Nat) : Int := -(-((c.est.getD i {}).tau * modeSpacing c.b.mode) / 64)

/-- The alignment deadline of a frame whose last symbol ends at an air time at the reference branch: AlignDeadlineMs after it has reached
the latest of the branches that have weight (R152). -/
def RxCtx.deadline (c : RxCtx) (endAir : Nat) : Int :=
  let on := (List.range c.est.length).filter fun i => decide (c.pol.minSnr ≤ (c.est.getD i {}).snr)
  endAir + (on.map c.tauAir).foldl max 0 + c.pol.alignMs * airPerMs

/-- The branches whose samples through the last symbol have not reached the alignment buffer (R152). -/
def RxCtx.lateAt (c : RxCtx) (endAir : Nat) : List Nat :=
  (List.range c.branches.length).filter fun i =>
    match (Map.getD c.buf (c.branches.getD i (0, 0)) []).head? with
    | some x => decide ((x.tag : Int) < endAir + c.tauAir i)
    | none => true

/-- The alignment deadline arrives, AlignDeadlineMs after the last symbol: the context enters FINAL without the late
branches, and the final pass combines the rest (R152, R154, R156). -/
def execAlignDeadline (ctx endAir : Nat) (s : State) : Out :=
  match s.ctx ctx with
  | some c =>
    if c.st = .track ∧ c.deadline endAir ≤ s.time.air then
      let late := c.lateAt endAir
      let br := late.filterMap fun i => c.branches[i]?
      let c := { c with st := .final, endAir := some endAir, late := late }
      let s := s.setCtx ctx { c with pass := c.finalPass }
      let s := br.foldl (fun s p => s.count { name := .rxLateExcl, a := p.1, b := p.2 }) s
      .next (((br.map fun p => s.chanLane p.1).eraseDups).foldl (fun s l => s.reportLate ctx l) s)
    else .next s
  | none => .next s

/-- Decoding finishes (R156): the outcome is set. -/
def State.decodeDone (s : State) (n outcome : Nat) (frame : List Byte) (match' : Bool) (m : RxMeas)
    (hand : Bool := true) : State :=
  match s.ctx n with
  | some c =>
    if c.st = .final then
      let weak := c.pass.weak.filterMap fun i => c.branches[i]?
      let s := weak.foldl (fun s p => s.count { name := .rxWeakExcl, a := p.1, b := p.2 }) s
      s.setOutcome n c outcome (if outcome = 0 then frame else []) match' (some m) hand
    else s
  | none => s

/-- A context has reached its end state: its entry is FREE, and a held open starts on it, or a booking whose OpenAt has
passed, or the oldest waiting detection (R141, R142). -/
def State.freeContext (s : State) (n : Nat) : State :=
  match s.ctx n with
  | some c =>
    if c.st = .stopping then
      let s := { s with rx := { s.rx with ctxs := Map.del s.rx.ctxs n } }
      let s := s.setUnit (.context n) { s.unit (.context n) with st := .off, deferred := false }
      match c.held with
      | some (.booking x) => s.openBooked n x 1
      | some (.detection d) => if s.mergesInto d.group d.startAir then s.count { name := .rxMerged, a := d.group } else s.openRetro n d
      | none =>
        if s.freeCtx.isNone ∨ !s.regionOn 4 then s
        else match s.rx.booked.find? (fun x => decide (x.b.openAt ≤ s.time.air) && s.bookedFits x) with
        | some x => s.openBooked n x 1
        | none =>
          let s := s.mergeWaiting
          match s.rx.detections.find? (fun d => modeRetro d.mode && s.retroFits d && decide (s.time.ms < d.ms + (60 - modeLagMs d.mode))) with
          | some d => (({ s with rx := { s.rx with detections := s.rx.detections.erase d } }).openRetro n d).mergeWaiting
          | none => s
    else s
  | none => s

/-- A context reaches its end state and releases its reservations. -/
def execContextFree (ctx : Nat) (s : State) : Out := .next (s.freeContext ctx)

/-! ### Commands (Table 6-11) -/

/-- The code of a context's state. -/
def CtxSt.code : CtxSt → Nat
  | .starting => 1 | .search => 2 | .track => 3 | .final => 4 | .stopping => 5

/-- A booking as bytes (Table 6-3). -/
def Booking.bytes (b : Booking) : List Byte :=
  le 4 b.meter ++ le 2 b.group ++ le 1 b.headMask ++ le 1 b.mode ++ le 8 b.openAt ++ le 8 b.closeAt ++ le 2 b.maxFrameMs ++
    le 2 b.freqExpect ++ le 2 b.freqSpan ++ le 2 b.tenant

/-- Parts per million of a capacity. -/
def ppm (x cap : Nat) : Nat := x * 1000000 / cap

/-- A load as parts per million of the capacities. -/
def Load.ppms (l cap : Load) : List Nat :=
  [ppm l.entries cap.entries, ppm l.weight cap.weight, ppm l.combiner cap.combiner, ppm l.pool cap.pool]

/-- The branches that watchers watch. -/
def State.watchedBranches (s : State) : List (Nat × Nat) :=
  (s.branchesOf (s.rxInstances.filter s.memberValid)).filter fun p => bitOn (s.rd Rec.RxChannel.WatchMask p.1) p.2

/-- RX.STATUS_READ: contexts by state (FREE first) and by origin, reserved and used fractions of the six quantities of Table 6-6 in ppm (a
booking reserves neither watched branches nor detections), detections in the last second.
(Log entry 34: DESIGN CHOICE.) -/
def readRxStatus (c : Caller) (s : State) : Reply :=
  let l := Map.vals s.rx.ctxs
  let det := (s.rx.detMs.filter fun t => decide (s.time.ms < t + 1000)).length
  gatedRead [(c.isObserver, .refusedRole), (c.slots 0, .badLength)]
    { status := .done, slots :=
        [4096 - l.length] ++ (List.range 5).map (fun k => (l.filter fun x => x.st.code == k + 1).length) ++
        (List.range 3).map (fun k => (l.filter fun x => x.origin == k).length) ++
        (s.reservedAt s.time.air).ppms s.rxCapacity ++ [0, 0] ++ s.usedLoad.ppms s.rxCapacity ++
        [ppm s.watchedBranches.length 8192, ppm det 131072] ++ [det] }

def execRxStatusRead (ch : Nat) (s : State) : Out := .next (s.readCommand ch .rxStatusRead readRxStatus)

/-- The weights a context's branches have now, each as its two parts × 2^32 (R154): none before a detection; 0 where the branch's newest
sample is flagged, its channel settles, or its lane delivers nothing. -/
def State.ctxWeights (s : State) (c : RxCtx) : List (Option (Int × Int)) :=
  let r := c.run (c.endAir.getD s.time.air)
  c.branches.mapIdx fun i p =>
    if c.est.isEmpty then none
    else
      let dead := !s.timed (s.chanLane p.1) || decide (s.time.air < (s.chanFilt p.1).settleEnd) || c.late.contains i ||
        (((Map.getD c.buf p []).head?.map fun x => x.f.missing).getD true)
      let w := ((r.tracks[i]?).map Track.weight).getD (0, 0)
      some (if dead then (0, 0) else ((w.1 * 2 ^ 32).floor, (w.2 * 2 ^ 32).floor))

/-- RX.CONTEXT_READ: state, booking, branches with SNR and weight, provisional descriptor; all but the state of a FREE entry, and what
no detection has given yet, has no value (R695).
(Log entry 34: DESIGN CHOICE.) -/
def readRxContext (n : Nat) (c : Caller) (s : State) : Reply :=
  gatedRead [(c.isObserver, .refusedRole), (c.slots 1, .badLength), (decide (n < 4096), .badArgument)]
    (match s.ctx n with
     | none => { status := .done, data := le 8 0 ++ List.replicate 32 0xFF ++ le 8 0 ++ List.replicate 128 0xFF }
     | some x => { status := .done, data := le 8 x.st.code ++ x.b.bytes ++ le 8 x.branches.length ++
         (((x.branches.zip (s.ctxWeights x)).mapIdx fun i p =>
           le 8 p.1.1 ++ le 8 p.1.2 ++ le 8 (slotOpt ((x.est[i]?).map fun e => slotOf e.snr)) ++
             le 8 (slotOpt (p.2.map fun w => slotOf w.1)) ++ le 8 (slotOpt (p.2.map fun w => slotOf w.2))).flatten) ++
         (if x.desc.isEmpty then s.descriptor n x (x.outcome.getD 1) false 0 none else x.desc) })

def execRxContextRead (ch ctx : Nat) (s : State) : Out := .next (s.readCommand ch .rxContextRead (readRxContext ctx))

/-- RX.CONTEXT_ABORT: a held open is cancelled, or the context ends ABORTED (R142). -/
def runRxContextAbort (n : Nat) (c : Caller) (s : State) : Reply × State :=
  gated s [(c.isOperator, .refusedRole), (c.slots 1, .badLength), (decide (n < 4096), .badArgument),
      ((s.ctx n).isSome, .refusedState)] fun s =>
    match s.ctx n with
    | some x =>
      ({ status := .done }, if x.held.isSome then s.abortHeld n else s.endCtxWith n 5)
    | none => ({ status := .refusedState }, s)

def execRxContextAbort (ch ctx : Nat) (s : State) : Out := .next (s.command ch .rxContextAbort (runRxContextAbort ctx))

/-- RX.GROUP_READ: valid and invalid members, branches, watchers, members with history. -/
def readRxGroup (g : Nat) (c : Caller) (s : State) : Reply :=
  let v := s.groupValid g
  let bad := (s.groupMembers g).filter fun i => !s.memberValid i
  let br := s.branchesOf v
  let hist := v.filter fun i => s.rdB Rec.RxChannel.History i
  gatedRead [(c.isObserver, .refusedRole), (c.slots 1, .badLength), (decide (g < 1024), .badArgument)]
    { status := .done, slots := v.length :: v ++ (bad.length :: bad) ++
        [br.length, (br.filter fun p => bitOn (s.rd Rec.RxChannel.WatchMask p.1) p.2).length] ++ (hist.length :: hist) }

def execRxGroupRead (ch group : Nat) (s : State) : Out := .next (s.readCommand ch .rxGroupRead (readRxGroup group))

/-- RX.COUNTERS_READ: a group's counters, or with bit 15 set a channel's by antenna and its lane's. -/
def readRxCounters (t : Nat) (c : Caller) (s : State) : Reply :=
  let ok := if 0x8000 ≤ t then decide (t - 0x8000 < 2048) else decide (t < 1024)
  let k (x : CtrName) (a b : Nat) : Nat := s.ctr { name := x, a := a, b := b }
  let group := [k .rxBookings t 0, k .rxRefusals t 0] ++
    ((List.range 6).flatMap fun o => (List.range 3).map fun r => k .rxOutcome t (8 * o + r)) ++
    [k .rxDetections t 0, k .rxMerged t 0, k .rxDropped t 0, k .rxGain t 0]
  let i := t - 0x8000
  let lane := s.chanLane i
  let chan := ((List.range 8).flatMap fun a => [k .rxUsed i a, k .rxLateExcl i a, k .rxWeakExcl i a]) ++
    [k .rxBranchLate lane 0, bit (s.saturated { name := .rxBranchLate, a := lane })]
  gatedRead [(c.isObserver, .refusedRole), (c.slots 1, .badLength), (ok, .badArgument)]
    { status := .done, slots := if 0x8000 ≤ t then chan else group }

def execRxCountersRead (ch target : Nat) (s : State) : Out :=
  .next (s.readCommand ch .rxCountersRead (readRxCounters target))

/-- RX.LISTEN: a listen context is booked, and opens at once where it starts now.
(Log entry 35: DEDUCED.) -/
def runRxListen (group mode headMask start window maxFrameMs : Nat) (c : Caller) (s : State) : Reply × State :=
  let at' := if start = 0 then s.time.air else start
  gated s [(c.isService, .refusedRole), (c.slots 6, .badLength),
      (decide (group < 1024 ∧ headMask < 256 ∧ 1 ≤ window ∧ window ≤ 60000 ∧ 1 ≤ maxFrameMs ∧ maxFrameMs ≤ 2000) &&
        modeOk mode && decide (s.time.air ≤ at'), .badArgument),
      (!(s.groupValid group).isEmpty, .refusedState)] fun s =>
    let b : Booking := ⟨0xFFFFFFFF, group, headMask, mode, at', at' + window * airPerMs, maxFrameMs, 0, 0, 0⟩
    match s.book b true with
    | (none, s) => ({ status := .ctxFull }, s)
    | (some id, s) =>
      match s.rx.booked.find? (fun x => x.id == id) with
      | some x => ({ status := .deferred }, if start = 0 then s.openDue x else s)
      | none => ({ status := .deferred }, s)

def execRxListen (ch group mode headMask start window maxFrameMs : Nat) (s : State) : Out :=
  .next (s.command ch .rxListen (runRxListen group mode headMask start window maxFrameMs))

/-! ### Records (R138, R139, R161, R162) -/

/-- Whether a member would break a condition of its group (R138). -/
def State.groupConflict (s : State) (i body : Nat) : Bool :=
  let others := (s.groupMembers (Rec.RxChannel.Group.of body)).filter (· ≠ i)
  decide (8 ≤ others.length) || others.any fun j =>
    s.chanLane j == s.chanLane i || s.rd Rec.RxChannel.ModeMask j != Rec.RxChannel.ModeMask.of body ||
      decide (1000 * 2 ^ 32 < (chanFreq (s.chanBody i) - chanFreq (s.chanBody j)).natAbs)

/-- The contexts that use a channel end ABORTED (R161). -/
def State.abortChannel (s : State) (i : Nat) : State :=
  (s.rx.ctxs.filter fun e => e.2.branches.any fun p => p.1 == i).foldl (fun s e => s.endCtxWith e.1 5) s

/-- A member's validity is judged again: `rx.member_invalid` is raised as it becomes invalid (R139). -/
def State.judgeMember (s : State) (i : Nat) : State :=
  let fault := if s.rxMember i then memberFault (s.chanBody i) (s.rxBody i) else none
  match fault with
  | none => { s with rx := { s.rx with invalid := s.rx.invalid.filter (· ≠ i) } }
  | some k =>
    if s.rx.invalid.contains i then s
    else ({ s with rx := { s.rx with invalid := s.rx.invalid ++ [i] } }).raise .rxMemberInvalid 0
      [i, s.rd Rec.RxChannel.Group i, k]

/-- The receive channel record (R161). -/
def ruleRxChannel : RecordRule where
  writer _ c _ _ := c.isOperator
  check s _ i _ b :=
    if !Rec.RxChannel.Member.on b then none
    else if s.groupConflict i b then some .groupConflict
    else match rateFault (s.chanBody i) b with
      | some 1 => some .modeRate
      | some _ => some .historyRate
      | none => none
  effect s _ i old b :=
    let s := if Rec.RxChannel.Member.of old ≠ Rec.RxChannel.Member.of b ∨ Rec.RxChannel.Group.of old ≠ Rec.RxChannel.Group.of b ∨
        Rec.RxChannel.ModeMask.of old ≠ Rec.RxChannel.ModeMask.of b then s.abortChannel i else s
    let s := if Rec.RxChannel.History.on b then s else { s with rx := { s.rx with hist := s.rx.hist.filter fun e => e.1.1 != i } }
    s.judgeMember i

def execReceiveChannelRecord (tenant inst : Nat) (body : List Byte) (s : State) : Out :=
  .next (s.applyRecord ruleRxChannel Schema.RxChannel tenant inst body)

/-- The channel record with what it means for a group member (R139). -/
def ruleChannelRx : RecordRule :=
  { ruleChannel with effect := fun s t i old b => (ruleChannel.effect s t i old b).judgeMember i }

def execChannelRecord (tenant inst : Nat) (body : List Byte) (s : State) : Out :=
  .next (s.applyRecord ruleChannelRx Schema.Channel tenant inst body)

/-- The reception policy record (R162). -/
def ruleRxPolicy : RecordRule where
  writer _ c _ _ := c.isOperator

def execReceptionPolicyRecord (tenant inst : Nat) (body : List Byte) (s : State) : Out :=
  .next (s.applyRecord ruleRxPolicy Schema.RxPolicy tenant inst body)

end Sys2Proof.Machine
end

