-- ==== Sys2Proof/Machine/Demod.lean ====
section
/-! DEFINITION. Demodulation (R156): from the soft symbols of a combined stream to the bytes of a frame and its outcome. Line codes, frame
formats and block CRCs of wireless M-Bus are those of EN 13757-4, which the spec names and does not print (PRESUMED, assumption 170). -/

namespace Sys2Proof.Machine

open Sys2Proof

/-- A bit of a soft symbol: a symbol 1 is sent at the positive deviation (R166); an erasure decides nothing. -/
def softBit (x : Int) : Option Nat := if 0 < x then some 1 else if x < 0 then some 0 else none

/-- Bits as bytes, most significant first; a byte with an undecided bit is an erasure, and bits beyond the last whole byte are
dropped. -/
def bitBytes : Nat → List (Option Nat) → List (Option Byte)
  | 0, _ => []
  | n + 1, l =>
    if l.length < 8 then []
    else
      let v := (l.take 8).foldl (fun (a : Option Nat) b => match a, b with
        | some x, some y => some (2 * x + y)
        | _, _ => none) (some 0)
      v.map (BitVec.ofNat 8) :: bitBytes n (l.drop 8)

/-- The symbols of a list in groups of `k`. -/
def groupsOf (k : Nat) (l : List Int) : List (List Int) := (List.range (l.length / k)).map fun i => (l.drop (k * i)).take k

/-! ### Line codes -/

/-- The cover sequence of Lea-L (R167). -/
def leaCover : List Int := [1, 0, 1, 1, 0, 1, 0, 0]

/-- The bit metric of eight Lea-L symbols: the cover removed, the metrics summed (R167). -/
def coverSum (l : List Int) : Int := (List.zipWith (fun c x => if c = 1 then -x else x) leaCover l).sum

/-- Manchester chips as bit metrics: chips 0, 1 are a 1, chips 1, 0 a 0.
(Log entry 170: PRESUMED.) -/
def manchester (l : List Int) : List Int := (groupsOf 2 l).map fun p => p.getD 1 0 - p.getD 0 0

/-- The 3-of-6 code words, by nibble.
(Log entry 170: PRESUMED.) -/
def threeOfSix : List Nat :=
  [0b010110, 0b001101, 0b001110, 0b001011, 0b011100, 0b011001, 0b011010, 0b010011, 0b101100, 0b100101, 0b100110, 0b100011, 0b110100,
   0b110001, 0b110010, 0b101001]

/-- Six chips as four bits: an invalid code word is an erasure (R156). -/
def codeNibble (l : List Int) : List (Option Nat) :=
  let w := (l.map softBit).foldl (fun (a : Option Nat) b => match a, b with
    | some x, some y => some (2 * x + y)
    | _, _ => none) (some 0)
  match w.bind fun w => (List.range 16).find? fun n => threeOfSix.getD n 0 == w with
  | some n => [some (n / 8 % 2), some (n / 4 % 2), some (n / 2 % 2), some (n % 2)]
  | none => [none, none, none, none]

/-- The bytes of soft symbols in a mode (R156). -/
def demodBytes (mode : Nat) (soft : List Int) : List (Option Byte) :=
  let bits : List (Option Nat) :=
    if mode = 2 then (groupsOf 8 soft).map fun g => softBit (coverSum g)
    else if 3 ≤ mode ∧ mode ≤ 5 then (manchester soft).map softBit
    else if mode = 6 ∨ mode = 7 then (groupsOf 6 soft).flatMap codeNibble
    else soft.map softBit
  bitBytes bits.length bits

/-- The chips that `n` bytes take in a mode. -/
def modeChips (mode n : Nat) : Nat :=
  if mode = 2 then 64 * n else if 3 ≤ mode ∧ mode ≤ 5 then 16 * n else if mode = 6 ∨ mode = 7 then 12 * n else 8 * n

/-! ### Frame formats A and B -/

/-- The block CRC.
(Log entry 170: PRESUMED.) -/
def wmCrc (l : List Byte) : Nat := crc16 0x3D65 0 0xFFFF l

/-- Whether a block's two last bytes are the CRC of the rest, most significant first. -/
def wmBlockOk (l : List Byte) : Bool :=
  let n := l.length - 2
  decide (2 < l.length) && wmCrc (l.take n) == (l.getD n 0).toNat * 256 + (l.getD (n + 1) 0).toNat

/-- The blocks of a frame of format A after its first: 16 bytes and a CRC each, the last as long as the rest. -/
def blocksA : Nat → Nat → List Byte → List (List Byte)
  | 0, _, _ => []
  | n + 1, left, l => if left = 0 then [] else l.take (min 16 left + 2) :: blocksA n (left - 16) (l.drop (min 16 left + 2))

/-- The blocks of a frame by its format and L field, each with its CRC (EN 13757-4).
(Log entry 170: PRESUMED.) -/
def wmBlocks (formatB : Bool) (l : Nat) (f : List Byte) : List (List Byte) :=
  if formatB then (if l + 1 ≤ 128 then [f.take (l + 1)] else [f.take 128, (f.drop 128).take (l + 1 - 128)])
  else f.take 12 :: blocksA 16 (l - 9) (f.drop 12)

/-- The bytes a frame takes on air after its sync word, CRCs included. -/
def wmLength (formatB : Bool) (l : Nat) : Nat := if formatB then l + 1 else l + 1 + 2 * (1 + ceilDiv (l - 9) 16)

/-- The check of a wireless M-Bus frame from its bytes (R146, R156): the outcome, and the frame from L through the last data byte, block
CRCs removed. -/
def wmCheck (mode : Nat) (formatB : Bool) (maxMs lead : Nat) (bytes : List (Option Byte)) : Nat × List Byte :=
  match bytes.head?.join with
  | none => (2, [])
  | some l =>
    let l := l.toNat
    let n := wmLength formatB l
    let f := (bytes.take n).filterMap id
    if l < (if formatB then 12 else 9) then (3, [])
    else if maxMs * modeBaud mode < (lead + modeChips mode n) * 1000 then (4, [])
    else if f.length < n then (2, [])
    else
      let blocks := wmBlocks formatB l f
      if blocks.all wmBlockOk then (0, blocks.flatMap fun b => b.take (b.length - 2)) else (2, [])

/-! ### Erasures (R154) -/

/-- Whether the combined stream has an erasure within a symbol: symbol k of those that follow `lead` symbols from the frame start. -/
def RxCtx.symbolErased (c : RxCtx) (lead k : Nat) : Bool :=
  let per := 31250000 / modeDtot c.b.mode
  let first := (lead + k) * per / modeBaud c.b.mode
  let last := (lead + k + 1) * per / modeBaud c.b.mode
  (c.pass.comb.drop first).take (last - first) |>.any Comb.erased

/-- The soft symbols as the demodulator takes them: 0 where the combined stream is an erasure (R154). -/
def RxCtx.softened (c : RxCtx) (lead : Nat) (soft : List Int) : List Int :=
  soft.mapIdx fun k x => if c.symbolErased lead k then 0 else x

end Sys2Proof.Machine
end

