-- ==== Sys2Proof/Machine/Lea.lean ====
section
/-! DEFINITION. Chapter 7: the Lea air protocol (R166 to R191): framing, whitening and checks, frame building, nonces and
associated data, items, and what the device does when a demodulator finishes. -/

namespace Sys2Proof.Machine

open Sys2Proof

/-! ### Rates and lengths (R166, R170) -/

/-- The symbol rate of a Lea rate in Bd (Table 7-1). -/
def leaBaud (rate : Nat) : Nat := if rate = 0 then 9600 else 2400

/-- The deviation of a Lea rate in Hz: half the symbol rate, so that the modulation index is 1.0 (R166). -/
def leaDeviation (rate : Nat) : Nat := leaBaud rate / 2

/-- The symbols per bit of a Lea rate (Table 7-1). -/
def leaSps (rate : Nat) : Nat := if rate = 2 then 8 else 1

/-- The largest L of a rate. -/
def leaMaxL (rate : Nat) : Nat := if rate = 2 then 66 else 255

/-- The smallest L of a frame type (Table 7-3); none for a reserved type. -/
def leaMinL : Nat → Option Nat
  | 1 => some 15 | 2 => some 26 | 3 => some 28 | 8 => some 23 | 9 => some 23 | 10 => some 21
  | _ => none

/-- A duration of `n` bytes at a rate in units of 1/`k` s, rounded up. -/
def leaTime (rate n k : Nat) : Nat := ceilDiv (8 * n * leaSps rate * k) (leaBaud rate)

/-- The duration of a frame in air time (R170), rounded up to a whole period. -/
def leaAir (rate preamble l : Nat) : Nat := leaTime rate (preamble + 5 + l) 2000000000

/-! ### Whitening and CRC (R169) -/

/-- The next `n` bits of the generator, from its nine bits, oldest first. -/
def pnBits : Nat → List Nat → List Nat
  | 0, _ => []
  | n + 1, r => r.getD 0 0 :: pnBits n (r.drop 1 ++ [(r.getD 5 0 + r.getD 0 0) % 2])

/-- Bits as bytes, most significant first. -/
def packBits : Nat → List Nat → List Byte
  | 0, _ => []
  | n + 1, l => BitVec.ofNat 8 ((l.take 8).foldl (fun a b => 2 * a + b) 0) :: packBits n (l.drop 8)

/-- The first `n` bytes of the whitening sequence. -/
def pnBytes (n : Nat) : List Byte := packBits n (pnBits (8 * n) (List.replicate 9 1))

/-- Bytes whitened, or de-whitened. -/
def whiten (l : List Byte) : List Byte := xorBytes l (pnBytes l.length)

/-- The CRC of a Lea frame. -/
def leaCrc (l : List Byte) : Nat := crc16 0x1021 0xFFFF 0 l

/-- The bytes from L through the CRC of a frame whose bytes after L are given. -/
def leaFrame (body : List Byte) : List Byte :=
  let f := le 1 body.length ++ body
  f ++ le 2 (leaCrc f)

/-! ### Bits on air (R166 to R168) -/

/-- The bits of some bytes, most significant first. -/
def byteBits (l : List Byte) : List Nat := l.flatMap fun b => (List.range 8).map fun i => b.toNat / 2 ^ (7 - i) % 2

/-- A downlink frame on air: the preamble of 0x55 bytes, the sync word 0x35E6 with bit 15 first, and the whitened bytes from L through the
CRC (R168, Table 7-2). -/
def downlinkAir (preamble : Nat) (whitened : List Byte) : List Byte := List.replicate preamble 0x55 ++ [0x35, 0xE6] ++ whitened

/-- The symbols of bytes at a Lea rate, +1 the positive deviation of a symbol 1 and −1 the negative of a symbol 0 (R166); in Lea-L each
bit is eight symbols under the cover sequence (R167). -/
def leaSymbols (rate : Nat) (l : List Byte) : List Int :=
  (byteBits l).flatMap fun (b : Nat) =>
    if rate = 2 then leaCover.map fun c => if (b : Int) = c then -1 else 1
    else [if b = 1 then 1 else -1]

/-! ### Frames (Tables 7-4 to 7-8) -/

/-- A POLL from L through the CRC. -/
def pollFrame (address region tag request respCtl : Nat) : List Byte :=
  leaFrame (le 1 1 ++ le 8 address ++ le 2 region ++ le 2 tag ++ le 1 request ++ le 1 respCtl)

/-- RespCtl: RespRate, Follow, DelayCode. -/
def respCtlOf (rate : Nat) (follow : Bool) (delay : Nat) : Nat := rate + 4 * bit follow + 8 * delay

/-- The C byte: Type, KeyGen, More 0. -/
def cByte (type keyGen : Nat) : Nat := type + keyGen % 8 * 16

/-- A COMMAND from L through the CRC, its payload encrypted under the key (Table 7-9). -/
def commandFrame (key : List Byte) (keyGen address region tag respCtl downCtr : Nat) (items : List Byte) : List Byte :=
  let c := cByte 2 keyGen
  let head := le 1 c ++ le 8 address ++ le 2 region ++ le 2 tag ++ le 1 respCtl ++ le 4 downCtr
  let aad := le 1 (head.length + items.length + 8) ++ head
  let (ct, t) := ccmEnc key (le 8 address ++ le 4 downCtr ++ le 1 c) aad items 8
  leaFrame (head ++ ct ++ t)

/-- A BROADCAST from L through the CRC; the tag covers Ttl as 0 (Table 7-9). -/
def broadcastFrame (key : List Byte) (keyGen target region floodId ttl bcCtr : Nat) (items : List Byte) : List Byte :=
  let c := cByte 3 keyGen
  let head (t : Nat) := le 1 c ++ le 8 target ++ le 2 region ++ le 4 floodId ++ le 1 t ++ le 4 bcCtr
  let aad := le 1 ((head 0).length + items.length + 8) ++ head 0
  let (ct, t) := ccmEnc key (le 8 target ++ le 4 bcCtr ++ le 1 c) aad items 8
  leaFrame (head ttl ++ ct ++ t)

/-- Type of an unwhitened frame. -/
def leaType (f : List Byte) : Nat := leAt f 1 1 % 16

/-- KeyGen of a frame. -/
def leaKeyGen (f : List Byte) : Nat := bitsAt (leAt f 1 1) 4 3

/-- More of a frame. -/
def leaMoreSet (f : List Byte) : Bool := bitOn (leAt f 1 1) 7

/-- Address of a frame. -/
def leaAddress (f : List Byte) : Nat := leAt f 2 8

/-- Ctr of an uplink frame. -/
def leaCtr (f : List Byte) : Nat := leAt f 10 4

/-- PollTag of a READING or ACK. -/
def leaTag (f : List Byte) : Nat := leAt f 14 2

/-- The offset of an uplink frame's payload. -/
def leaPayloadAt (f : List Byte) : Nat := if leaType f = 10 then 14 else 16

/-- The encrypted payload of an uplink frame. -/
def leaCipher (f : List Byte) : List Byte := slice f (leaPayloadAt f) (leAt f 0 1 - 7 - leaPayloadAt f)

/-- The tag of a protected frame. -/
def leaMac (f : List Byte) : List Byte := slice f (leAt f 0 1 - 7) 8

/-- The nonce of an uplink frame (Table 7-9). -/
def leaNonce (f : List Byte) : List Byte :=
  le 8 (leaAddress f) ++ le 4 (leaCtr f) ++ le 1 (if leaType f = 10 then leAt f 1 1 else leAt f 1 1 % 128)

/-- The associated data of an uplink frame; `region` is that of the frame answered. -/
def leaAad (f : List Byte) (region : Nat) : List Byte :=
  slice f 0 (leaPayloadAt f) ++ (if leaType f = 10 then [] else le 2 region)

/-- The decrypted payload of an uplink frame, where its tag verifies (R172). -/
def leaOpen (key f : List Byte) (region : Nat) : Option (List Byte) :=
  ccmDec key (leaNonce f) (leaAad f region) (leaCipher f) (leaMac f)

/-! ### Items (R171) -/

/-- An item of a payload. -/
abbrev Item := Nat × List Byte

/-- The items of a payload, within a bound on their number. -/
def itemsIn : Nat → List Byte → List Item
  | 0, _ => []
  | n + 1, l =>
    match l with
    | t :: k :: rest =>
      if t = 0 ∨ rest.length < k.toNat then [] else (t.toNat, rest.take k.toNat) :: itemsIn n (rest.drop k.toNat)
    | _ => []

/-- The items of a payload: type 0 ends them, and an item that runs past the end is absent. -/
def itemsOf (l : List Byte) : List Item := itemsIn l.length l

/-- An item as bytes. -/
def itemBytes (t : Nat) (body : List Byte) : List Byte := le 1 t ++ le 1 body.length ++ body

/-! ### What the device checks (R184) -/

/-- The outcome of an uplink frame, from its whitened bytes from L on: the outcome, and the bytes from L through the
CRC. A frame whose L implies more than `maxMs` ends TRUNCATED; a signal that ends early fails the CRC.
(Log entry 37: DEDUCED.) -/
def leaCheck (rate maxMs : Nat) (air : List Byte) : Nat × List Byte :=
  let f := whiten air
  let l := leAt f 0 1
  if l < 21 ∨ leaMaxL rate < l then (3, [])
  else if maxMs * airPerMs < leaAir rate 4 l then (4, [])
  else if f.length < l + 3 ∨ leaCrc (f.take (l + 1)) ≠ leAt f (l + 1) 2 then (2, [])
  else if leaType f < 8 then (3, [])
  else match leaMinL (leaType f) with
    | none => (3, [])
    | some m => if l < m then (3, []) else (0, f.take (l + 3))

/-! ### Channels (R187, R191) -/

/-- Whether a Lea channel is active. -/
def State.leaActive (s : State) (n : Nat) : Bool := s.rdB Rec.LeaChannel.Active n

/-- Whether a rate may be used on a Lea channel (R186). -/
def State.leaRateOn (s : State) (n rate : Nat) : Bool := s.leaActive n && bitOn (s.rd Rec.LeaChannel.RateMask n) rate

/-- Whether a carrier group lies within 1 kHz of a frequency: its first valid member's channel is taken as the group's
frequency.
(Log entry 38: DESIGN CHOICE.) -/
def State.groupNear (s : State) (g hz : Nat) : Bool :=
  match s.groupValid g with
  | i :: _ => decide ((chanFreq (s.chanBody i) - (hz : Int) * 2 ^ 32).natAbs ≤ 1000 * 2 ^ 32)
  | [] => false

/-- The Lea channel a received frame of a group counts under (R191). -/
def State.leaChannelOf (s : State) (g : Nat) : Option Nat :=
  (List.range 16).find? fun n => s.leaActive n && s.groupNear g (s.rd Rec.LeaChannel.CentreHz n)

/-- A Lea counter of a received frame raised, where its group has a Lea channel. -/
def State.countLea (s : State) (k : CtrName) (g rate : Nat) : State :=
  match s.leaChannelOf g with
  | some n => s.count { name := k, a := n, b := rate }
  | none => s

/-- The counter of a frame type received FRAME_OK. -/
def leaTypeCtr (t : Nat) : CtrName := if t = 8 then .leaReading else if t = 9 then .leaAck else .leaAlarm

/-- The counters of a finished Lea frame (R191), and whether the frame goes on to security (R185). -/
def State.leaCounts (s : State) (g rate outcome : Nat) (f : List Byte) : Bool × State :=
  match outcome with
  | 0 =>
    let s := s.countLea (leaTypeCtr (leaType f)) g rate
    let s := if leaMoreSet f then s.countLea .leaMore g rate else s
    if leaType f = 10 ∧ ¬s.rdB Rec.LeaPolicy.AlarmAccept then (false, s.countLea .leaDiscard g rate) else (true, s)
  | 2 => (true, s.countLea .leaCrc g rate)
  | 3 => (true, s.countLea .leaLen g rate)
  | _ => (true, s)

/-- The decoded address of a frame: that of a Lea frame, or the link-layer address at offset 2 of a wM-Bus frame (after L
and C).
(Log entry 37: DEDUCED.) -/
def frameAddress (f : List Byte) : Nat := leAt f 2 8

/-- The check of a decoded Lea frame (R184): the first erased byte ends what the signal gives; one without L fails its CRC.
(Log entry 37: DEDUCED.) -/
def leaDecode (rate maxMs : Nat) (bytes : List (Option Byte)) : Nat × List Byte :=
  let air := (bytes.takeWhile Option.isSome).filterMap id
  if air.isEmpty then (2, []) else leaCheck rate maxMs air

/-- The symbols before L: 4 preamble bytes and the sync word of a Lea uplink (R168), what its sync search found in a wireless M-Bus
mode. -/
def frameLead (mode lead : Nat) : Nat := if mode ≤ 2 then 48 * leaSps mode else lead

/-- What the demodulator makes of a context's frame (R156): TRUNCATED where the alignment buffer ran out; else the check of the decoded
bytes. -/
def RxCtx.decode (c : RxCtx) (lead : Nat) (soft : List Int) : Nat × List Byte :=
  let bytes := demodBytes c.b.mode (c.softened (frameLead c.b.mode lead) soft)
  if c.exhausted then (4, [])
  else if c.b.mode ≤ 2 then leaDecode c.b.mode c.b.maxFrameMs bytes
  else wmCheck c.b.mode c.formatB c.b.maxFrameMs lead bytes

/-- Decoding finishes (R156, R184). `soft` holds the soft symbols that follow the sync word, `lead` symbols after the frame start; the
last two are what was measured after combining, CombinedSnr and BestLevel.
(Log entry 37: DEDUCED.) -/
def execDecodeDone (ctx lead : Nat) (soft : List Int) (combinedSnr bestLevel : Int) (s : State) : Out :=
  match s.ctx ctx with
  | none => .next s
  | some c =>
    if c.st ≠ .final then .next s
    else
      let lea := decide (c.b.mode ≤ 2)
      let (o, f) := c.decode lead soft
      let same := decide (c.origin = 0 ∧ o = 0) && (s.recInst Rec.MeterSec.Address.rid c.b.meter).isSome &&
        frameAddress f == s.rd Rec.MeterSec.Address c.b.meter
      let (hand, s) := if lea then s.leaCounts c.b.group c.b.mode o f else (true, s)
      .next (s.decodeDone ctx o f same ⟨combinedSnr, bestLevel⟩ hand)

/-! ### PollTags (R177) -/

/-- The PollTags of a meter launched within UnsolicitedWindowS. -/
def State.liveTags (s : State) (meter : Nat) : List Nat :=
  ((Map.getD s.lea.tags meter []).filter fun t => decide (s.time.ms ≤ t.2 + 1000 * s.rd Rec.LeaPolicy.UnsolicitedWindowS)).map
    Prod.fst

/-- A PollTag is launched to a meter. -/
def State.tagLaunched (s : State) (meter tag : Nat) : State :=
  { s with lea := { s.lea with
    tags := Map.put s.lea.tags meter ((tag, s.time.ms) :: (Map.getD s.lea.tags meter []).filter fun t =>
      decide (s.time.ms ≤ t.2 + 600000)) } }

/-- A PollTag from the vault's random source, never 0: a draw of 0 is replaced by 1. -/
def State.drawTag (s : State) : Nat × State :=
  let (v, s) := s.draw 16
  (if v = 0 then 1 else v, s)

/-! ### Commands (Table 7-15) -/

/-- LEA.COUNTERS_READ: per rate, the counters of R191. -/
def readLeaCounters (n : Nat) (c : Caller) (s : State) : Reply :=
  let k (x : CtrName) (r : Nat) : Nat := s.ctr { name := x, a := n, b := r }
  gatedRead [(c.isObserver, .refusedRole), (c.slots 1, .badLength), (decide (n < 16), .badArgument)]
    { status := .done, slots := (List.range 3).flatMap fun r =>
        [k .leaPoll r, k .leaCommand r, k .leaBroadcast r, k .leaReading r, k .leaAck r, k .leaAlarm r, k .leaCrc r,
         k .leaLen r, k .leaUnsol r, k .leaMore r, k .leaDiscard r] }

def execLeaCountersRead (ch channel : Nat) (s : State) : Out :=
  .next (s.readCommand ch .leaCountersRead (readLeaCounters channel))

/-- LEA.POLL_BUILD: the bytes of a POLL before and after whitening, and its duration in µs. -/
def readLeaPollBuild (address region tag request respCtl rate preamble : Nat) (c : Caller) (_ : State) : Reply :=
  let f := pollFrame address region tag request respCtl
  gatedRead [(c.isService, .refusedRole), (c.slots 7, .badLength),
      (decide (region < 65536 ∧ 1 ≤ tag ∧ tag < 65536 ∧ request < 256 ∧ respCtl < 256 ∧ rate ≤ 2 ∧ 4 ≤ preamble ∧
        preamble ≤ 64), .badArgument)]
    { status := .done, data := le 8 f.length ++ f ++ le 8 f.length ++ whiten f ++ le 8 (leaTime rate (preamble + 20) 1000000) }

def execLeaPollBuild (ch address region pollTag request respCtl rate preamble : Nat) (s : State) : Out :=
  .next (s.readCommand ch .leaPollBuild (readLeaPollBuild address region pollTag request respCtl rate preamble))

/-- A field of a frame as a slot: all ones where the frame does not reach it (R695). -/
def leaFieldSlot (f : List Byte) (off n : Nat) : Nat := if off + n ≤ leAt f 0 1 + 1 then leAt f off n else noValue

/-- The fields of an unwhitened frame in the order of Tables 7-4 to 7-8; of a payload, its length in bytes.
(Log entry 38: DESIGN CHOICE.) -/
def leaFields (f : List Byte) : List Nat :=
  let l := leAt f 0 1
  let g := leaFieldSlot f
  let head := [l, leaType f, leaKeyGen f, bit (leaMoreSet f), g 2 8]
  let resp (o : Nat) : List Nat := if o ≤ l then [leAt f o 1 % 4, bitsAt (leAt f o 1) 2 1, bitsAt (leAt f o 1) 3 5]
    else [noValue, noValue, noValue]
  let tail (o : Nat) : List Nat := if o + 7 ≤ l then [l - 7 - o, g (l - 7) 8] else [noValue, noValue]
  let own := match leaType f with
    | 1 => [g 10 2, g 12 2, g 14 1] ++ resp 15
    | 2 => [g 10 2, g 12 2] ++ resp 14 ++ [g 15 4] ++ tail 19
    | 3 => [g 10 2, g 12 4, g 16 1, g 17 4] ++ tail 21
    | 8 => [g 10 4, g 14 2] ++ tail 16
    | 9 => [g 10 4, g 14 2] ++ tail 16
    | 10 => [g 10 4] ++ tail 14
    | _ => []
  head ++ own ++ [leAt f (l + 1) 2]

/-- LEA.FRAME_DECODE: the de-whitened bytes, the fields, the CRC result and the check step reached (R190).
(Log entry 38: DESIGN CHOICE.) -/
def readLeaFrameDecode (direction rate : Nat) (air : List Byte) (c : Caller) (_ : State) : Reply :=
  let f := whiten air
  let l := leAt f 0 1
  let crcOk := leaCrc (f.take (l + 1)) == leAt f (l + 1) 2
  let least := if direction = 1 then 21 else 15
  let fs := leaFields f
  gatedRead [(c.isService, .refusedRole), (c.body.length == 16 + air.length && decide (air.length ≤ 258), .badLength),
      (decide (direction ≤ 1 ∧ rate ≤ 2), .badArgument),
      (decide (1 ≤ air.length ∧ l + 3 ≤ air.length ∧ least ≤ l ∧ l ≤ leaMaxL rate), .leaLength)]
    { status := .done, data := le 8 (l + 3) ++ f.take (l + 3) ++ le 8 fs.length ++ fs.flatMap (le 8) ++
        le 8 (bit crcOk) ++ le 8 (if crcOk then 3 else 2) }

def execLeaFrameDecode (ch direction rate : Nat) (frame : List Byte) (s : State) : Out :=
  .next (s.readCommand ch .leaFrameDecode (readLeaFrameDecode direction rate frame))

/-! ### Records (R188) -/

/-- The Lea policy record (R188). -/
def ruleLeaPolicy : RecordRule where
  writer _ c _ _ := c.isOperator

def execLeaPolicyRecord (tenant inst : Nat) (body : List Byte) (s : State) : Out :=
  .next (s.applyRecord ruleLeaPolicy Schema.LeaPolicy tenant inst body)

end Sys2Proof.Machine
end

