-- ==== Sys2Proof/Machine/Meter.lean ====
section
/-! DEFINITION. The meter record (Table 13-1) as data every chapter reads: access, commit, counts, its 1 024 bytes, the
ledger queue, and export records (R331, R332, R336, R345, R623). -/

namespace Sys2Proof.Machine

open Sys2Proof

/-! ### Access -/

/-- Whether the variant has a meter slot. -/
def State.meterHere (s : State) (slot : Nat) : Bool := decide (slot < s.meterSlots)

/-- The meter record of a slot. -/
def State.meter (s : State) (slot : Nat) : MeterRec := Map.getD s.led.meters slot {}

/-- The tenant whose object a meter slot is: that of its meter security record. -/
def State.meterTenant (s : State) (slot : Nat) : Nat := s.recTenant Rec.MeterSec.Assigned.rid slot

/-- Whether a meter slot is assigned. -/
def State.assigned (s : State) (slot : Nat) : Bool := s.rdB Rec.MeterSec.Assigned slot

/-- The checks of a command an observer sends about a meter slot: role and scope, length, slot. -/
def State.meterReadChecks (s : State) (c : Caller) (slot n : Nat) : List (Bool × Status) :=
  [(c.isObserver && s.sees c (s.meterTenant slot), .refusedRole), (c.slots n, .badLength), (isMeterSlot slot, .badArgument), (s.meterHere slot, .absentCapacity)]

/-- The checks of a command the owner sends about a meter slot (R298). -/
def State.meterOwnChecks (s : State) (c : Caller) (slot n : Nat) : List (Bool × Status) :=
  [(c.isOwner (s.meterTenant slot), .refusedRole), (c.slots n, .badLength), (isMeterSlot slot, .badArgument), (s.meterHere slot, .absentCapacity)]

/-! ### Commit (R336) -/

/-- A meter record written with its journal entry in one step. -/
def State.commitMeter (s : State) (slot : Nat) (r : MeterRec) : State :=
  let r := { r with journalSeq := (r.journalSeq + 1) % 2 ^ 48 }
  let old := s.meter slot
  ({ s with led := { s.led with meters := Map.put s.led.meters slot r } }).journal .ledger r.tenant slot (.image slot r old)
    r.journalSeq

/-- Count j raised by one occurrence: it sticks at 65 535 and sets its saturation flag (R11, R332). -/
def MeterRec.bump (r : MeterRec) (j : Nat) : MeterRec :=
  let v := min (Map.getD r.counts j 0 + 1) 65535
  { r with counts := Map.put r.counts j v, countSat := if v = 65535 then setBits r.countSat j 1 1 else r.countSat }

/-- A per-meter count raised outside a frame's application: a change of its own in the meter's record. Only an active
record counts.
(Log entry 41: DESIGN CHOICE.) -/
def State.countMeter (s : State) (slot j : Nat) : State :=
  let r := s.meter slot
  if r.active then s.commitMeter slot (r.bump j) else s

/-! ### Bytes (Table 13-1) -/

/-- The 1 024 bytes of a meter record.
(Log entry 41: DESIGN CHOICE.) -/
def MeterRec.bytes (r : MeterRec) (slot : Nat) : List Byte :=
  let arr (m : Map Nat Nat) (n w : Nat) : List Byte := (List.range n).flatMap fun i => le w (Map.getD m i 0)
  le 1 1 ++ le 1 (bit r.active + 2 * bit r.gap + 4 * bit (decide (r.disputeMask ≠ 0))) ++ le 1 r.tenant ++
    le 1 r.ledgerClass ++ le 4 slot ++ le 2 (r.zone % 4096 + 4096 * bit r.zoneAssigned) ++ le 1 r.plan ++ le 1 0 ++
    le 4 r.lastCounter ++ le 4 r.downCtr ++ le 4 r.keyGen ++ le 8 r.lastAccept ++ le 6 r.journalSeq ++ le 2 0 ++
    le 8 r.profileEnd ++ le 1 r.baselineTotal ++ le 1 0 ++ le 2 r.baselineRate ++ le 4 0 ++ le 8 r.assignedAt ++
    arr r.snapshots 4 8 ++ arr r.counts 15 2 ++ le 2 r.countSat ++ arr r.total 64 8 ++ arr r.regTotal 8 8 ++
    arr r.regRate 16 4 ++ arr r.fb 16 4 ++
    ((List.range 8).flatMap fun k => le 2 (Map.getD r.tamperCount k 0) ++ le 8 (Map.getD r.tamperFirst k 0) ++
      le 8 (Map.getD r.tamperLast k 0)) ++
    le 8 (ofSigned 64 r.credit) ++ le 2 r.tokenSeq ++ le 2 r.tokenAck ++ le 4 0 ++ le 8 r.lastTokenAt ++ le 1 r.tamperSat ++
    le 7 0 ++ le 2 r.disputeMask ++ le 2 r.resolveMain ++ le 2 r.resolveFb ++ le 2 r.fbBroken ++ le 8 r.lastReconcile

/-! ### Exports (R623, R625) -/

/-- An export record created in the journal entry just written: its Index follows those of the records of that entry.
(Log entry 62: DESIGN CHOICE.) -/
def State.addExport (s : State) (kind tenant object stamp : Nat) (gap disputed : Bool) (content : List Byte) : State :=
  let index := ((s.ports.exports.filter fun e => e.position == s.newestPos).map fun e => e.index + 1).foldl max 0
  let e : Export :=
    { kind := kind, tenant := tenant, timeState := s.time.st.code, gap := gap, disputed := disputed,
      region := s.rd Rec.Pair.RegionNumber, index := index, epoch := s.pair.epoch, position := s.newestPos,
      object := object, stamp := stamp, content := content }
  ({ s with ports := { s.ports with exports := s.ports.exports ++ [e] } }).carry (.exported s.newestPos index)

/-- An export item (Table 25-3). -/
def exportItem (t : Nat) (body : List Byte) : List Byte := le 1 t ++ le 1 body.length ++ body

/-! ### The meter key (R284) -/

/-- The address of a meter slot as 8 bytes in R168 order. -/
def State.addressBytes (s : State) (slot : Nat) : List Byte := le 8 (s.rd Rec.MeterSec.Address slot)

/-- The key of a meter at generation g, bound for work of its tenant: derived from the tenant root, or unwrapped from its
blob. A blob of another generation counts as none; one that fails the unwrap raises `sec.key_unwrap_failed` once per meter
and generation. -/
def State.meterKeyFor (s : State) (slot tenant g : Nat) : Option (List Byte) × State :=
  if !s.rdB Rec.MeterSec.KeyMode slot then
    match s.bind tenant 0 tenant with
    | (some root, s) => (some (meterKey root tenant (s.addressBytes slot) g (s.rd Rec.MeterSec.KeyBits slot)), s)
    | (none, s) => (none, s)
  else match s.bind tenant 1 tenant with
    | (none, s) => (none, s)
    | (some kek, s) =>
      match Map.get? s.sec.keys slot with
      | none => (none, s)
      | some (g', blob) =>
        if g' ≠ g then (none, s)
        else match keyUnwrap kek blob with
          | some k => (some k, s)
          | none => (none, s.raiseOnce .secKeyUnwrapFailed (slot * 2 ^ 32 + g) tenant [slot, g])

/-- Whether the slot a meter's key comes from is occupied. -/
def State.meterKeySet (s : State) (slot tenant : Nat) : Bool :=
  s.slotSet tenant (if s.rdB Rec.MeterSec.KeyMode slot then 1 else 0)

/-! ### A frame's application in progress (R335, R336, R624) -/

/-- The engine's local copy: the state so far, the record so far, and what the export record of the frame will carry:
totals changed as (quantity, direction, rate), the credit state, tokens settled, tamper classes changed, archive records,
relay reports. -/
structure Applying where
  s : State
  r : MeterRec
  totals : List (Nat × Nat × Nat) := []
  credit : Option (Int × Nat) := none
  settled : List TokenEntry := []
  tamper : List Nat := []
  profile : List ArchRec := []
  relay : List (Nat × Nat × Nat) := []

/-! ### The ledger queues (R345) -/

/-- Whether a ledger queue holds work of a meter. -/
def State.meterQueued (s : State) (slot : Nat) : Bool := (Map.vals s.led.queues).any fun q => q.any fun e => e.1 == slot

/-- Work put at the end of a tenant's ledger queue. -/
def State.enqueue (s : State) (tenant slot : Nat) (j : LedgerJob) : State :=
  { s with led := { s.led with queues := Map.upd s.led.queues tenant [] (· ++ [(slot, j)]) } }

/-- The counters of a meter's frames in the ledger queues. -/
def State.inFlight (s : State) (slot : Nat) : List Nat :=
  (Map.vals s.led.queues).flatMap fun q => q.filterMap fun e =>
    match e.2 with
    | .frame f => if e.1 = slot then f.counter else none
    | _ => none

/-- H, the in-flight high of a meter; 0 where no frame is in flight (R277 to R279). -/
def State.high (s : State) (slot : Nat) : Nat := (s.inFlight slot).foldl max 0

end Sys2Proof.Machine
end

