-- ==== Sys2Proof/Machine/Prepay.lean ====
section
/-! DEFINITION. Chapter 15: credit tokens and tamper records (R374 to R393). -/

namespace Sys2Proof.Machine

open Sys2Proof

/-! ### Token values (R374 to R376) -/

/-- The Amount field of a requested amount: the smallest exponent that fits (R375). -/
def amountField (step amount : Nat) : Option Nat :=
  (List.range 8).findSome? fun e =>
    let u := 10 ^ e * step
    if amount % u = 0 ∧ 0 < amount / u ∧ amount / u ≤ 4095 then some (amount / u + e * 4096) else none

/-- The credit of an Amount field. -/
def amountMilli (step field : Nat) : Nat := field % 4096 * 10 ^ (field / 4096 % 8) * step

/-- Bits 32 to 0 of a token. -/
def tokenLow (field kind seq : Nat) : Nat := field + kind * 2 ^ 15 + seq * 2 ^ 17

/-- The token key of a meter key (R376). -/
def tokenKey (key address : List Byte) (g : Nat) : List Byte :=
  kdf key (ascii [0x45, 0x57, 0x54, 0x4B]) (address ++ le 4 g) 128

/-- The Check of a token. -/
def tokenCheck (kt address : List Byte) (low : Nat) : Nat :=
  ofBe ((cmac kt (ascii [0x45, 0x57, 0x54, 0x43] ++ address ++ le 5 low)).take 3) / 16

/-- The value V of a token under a meter key. -/
def tokenValue (key address : List Byte) (g field kind seq : Nat) : Nat :=
  let low := tokenLow field kind seq
  low + tokenCheck (tokenKey key address g) address low * 2 ^ 33

/-- The sixteen digits of a token in four groups of four. -/
def tokenDigits (v : Nat) : List Nat := [v / 10 ^ 12 % 10000, v / 10 ^ 8 % 10000, v / 10 ^ 4 % 10000, v % 10000]

/-! ### The token log (Tables 15-7 and 15-8) -/

/-- The tokens of a meter, in the order of their issue: those of the tenant it is bound to. -/
def State.tokensOf (s : State) (slot : Nat) : List TokenEntry :=
  s.pre.tokens.filter fun t => t.slot == slot && t.tenant == (s.meter slot).tenant

/-- A meter's tokens changed. -/
def State.mapTokens (s : State) (slot : Nat) (f : TokenEntry → TokenEntry) : State :=
  { s with pre := { s.pre with tokens := s.pre.tokens.map fun (t : TokenEntry) => if t.slot = slot then f t else t } }

/-- Whether a token's state is final: APPLIED, LATE_APPLIED, DEAD. -/
def tokenFinal (st : Nat) : Bool := st == 2 || st == 5 || st == 6

/-- Whether a token waits for the meter: ISSUED or DELIVERING. -/
def tokenOpen (st : Nat) : Bool := decide (st ≤ 1)

/-- A token of a meter moved to a state at a time; a final state counts under the tenant (R393). -/
def State.setToken (s : State) (slot seq st time : Nat) (result : Option Nat := none) : State :=
  let tenant := (s.meter slot).tenant
  let s := s.mapTokens slot fun t => if t.seq = seq ∧ ¬tokenFinal t.st then
      { t with st := st, result := result.getD t.result,
               settledAt := if tokenFinal st ∨ st = 3 then time else t.settledAt } else t
  if tokenFinal st then s.count { name := .preSettled, a := tenant, b := st } else s

/-- Every token of a meter that is not final becomes DEAD (R378, R349). -/
def State.killTokens (s : State) (slot : Nat) : State :=
  let gone := (s.tokensOf slot).filter fun t => !tokenFinal t.st
  (s.mapTokens slot fun t => if tokenFinal t.st then t else { t with st := 6, settledAt := s.stamp }).count
    { name := .preSettled, a := (s.meter slot).tenant, b := 6 } gone.length

/-- The prepay class of a meter. -/
def State.prepayClass (s : State) (slot : Nat) : Nat := s.rd Rec.PrepayMeter.Class slot

/-- The 32 bytes of a token log entry. -/
def TokenEntry.bytes (t : TokenEntry) : List Byte :=
  le 3 (t.slot % 2 ^ 20 + t.tenant * 2 ^ 20) ++ le 1 (t.st + 16 * t.kind + 64 * bit t.balanced) ++ le 2 t.seq ++ le 1 t.result ++
    le 1 t.attempts ++ le 8 t.amount ++ le 8 t.issuedAt ++ le 8 t.settledAt

/-! ### Issue (R377) -/

/-- PREPAY.TOKEN_ISSUE: the sequence is assigned and the token logged and committed in one ledger entry; the digits are
returned once it has committed.
(Log entry 43: DESIGN CHOICE.) -/
def runTokenIssue (slot kind amount deliver : Nat) (c : Caller) (s : State) : Reply × State :=
  let r := s.meter slot
  let k := s.prepayClass slot
  let n := r.tokenSeq + 1
  let backlog := (s.tokensOf slot).any fun t => tokenOpen t.st && decide (t.seq + 31 < n)
  let field := if kind = 1 then some 0
    else if s.rd Rec.PrepayClass.MaxTokenMilli k < amount then none else amountField (s.rd Rec.PrepayClass.CreditStepMilli k) amount
  gated s [(c.isOwner (s.meterTenant slot), .refusedRole), (c.slots 4, .badLength),
      (decide (kind ≤ 1 ∧ deliver ≤ 1 ∧ (kind = 0 ∨ amount = 0)), .badArgument), (isMeterSlot slot, .badArgument), (s.meterHere slot, .absentCapacity),
      (s.led.ready && s.serving && !s.pre.held.contains slot, .refusedState), s.notReleasing (s.meterTenant slot), (s.rdB Rec.PrepayMeter.Enabled slot, .notPrepay),
      (decide (n ≤ 65535), .tokenExhausted), (!backlog, .tokenBacklog), (field.isSome, .tokenAmount),
      (s.meterKeySet slot r.tenant, .slotEmpty)] fun s =>
    match s.meterKeyFor slot r.tenant r.keyGen with
    | (none, s) => ({ status := .slotEmpty }, s)
    | (some key, s) =>
      let fd := field.getD 0
      let v := tokenValue key (s.addressBytes slot) r.keyGen fd kind n
      let now := s.stamp
      let e : TokenEntry := { slot := slot, tenant := r.tenant, st := deliver, kind := kind, seq := n, amount := amount,
                              value := v, issuedAt := now }
      let s := { s with pre := { s.pre with tokens := s.pre.tokens ++ [e] } }
      let s := s.commitMeter slot { r with tokenSeq := n, lastTokenAt := now }
      let s := (s.count { name := .preIssued, a := r.tenant }).count { name := .preMilli, a := r.tenant } amount
      let s := if n = 65535 then s.raise .prepaySeqExhausted r.tenant [slot] else s
      let s := s.carry (.meter slot)
      ({ status := .done, slots := [n, amount] ++ tokenDigits v }, s)

def execPrepayTokenIssue (ch slot kind amount deliver : Nat) (s : State) : Out :=
  .next (s.commitCommand ch .prepayTokenIssue (runTokenIssue slot kind amount deliver))

/-! ### Delivery (R379) -/

/-- The token a meter's next COMMAND carries: the DELIVERING one with the lowest sequence. -/
def State.nextDelivery (s : State) (slot : Nat) : Option TokenEntry :=
  leastBy TokenEntry.seq ((s.tokensOf slot).filter fun t => t.st == 1)

/-- The token item (Table 15-2). -/
def TokenEntry.item (t : TokenEntry) : List Byte := itemBytes 0x60 (le 8 t.value ++ le 1 (t.attempts + 1) ++ le 1 0)

/-- A COMMAND carrying a token is sent under a PollTag. -/
def State.tokenSent (s : State) (slot seq tag : Nat) : State :=
  let s := s.mapTokens slot fun t => if t.seq = seq ∧ t.st = 1 then
      { t with attempts := min (t.attempts + 1) 255, tag := some tag, locked := true } else t
  s.count { name := .preAttempts, a := (s.meter slot).tenant }

/-- The ACK of a COMMAND that carried a token is not accepted: the token waits for the next opportunity, or returns to
ISSUED after the last attempt, with `prepay.delivery_failed`. -/
def State.tokenUnanswered (s : State) (slot tag : Nat) : State :=
  match (s.tokensOf slot).find? fun t => t.tag == some tag && t.st == 1 with
  | none => s
  | some t =>
    let last := decide (s.rd Rec.PrepayClass.DeliverAttempts (s.prepayClass slot) ≤ t.attempts)
    let s := s.mapTokens slot fun u => if u.seq = t.seq ∧ u.st = 1 then
      { u with locked := false, st := if last then 0 else 1 } else u
    if last then s.raise .prepayDeliveryFailed t.tenant [slot, t.seq, t.attempts] else s

/-! ### Tamper records (R384 to R387) -/

/-- `tamper.occurred`, where the class's mask has the bit, at most once per meter and class per hour. -/
def State.tamperEvent (s : State) (slot k : Nat) (r : MeterRec) : State :=
  if bitOn (s.rd Rec.PrepayClass.TamperEventMask (s.prepayClass slot)) k then
    s.raiseEvery hourMs .tamperOccurred (slot * 8 + k) r.tenant [slot, k, Map.getD r.tamperCount k 0, Map.getD r.tamperLast k 0]
  else s

/-- A class of the record marked as changed by the frame, with its event. -/
def Applying.tampered (a : Applying) (slot k : Nat) (changed rose : Bool) : Applying :=
  let a := if changed ∧ ¬a.tamper.contains k then { a with tamper := a.tamper ++ [k] } else a
  if rose then { a with s := a.s.tamperEvent slot k a.r } else a

/-- An occurrence of class 6 or 7 (R386). -/
def Applying.occurrence (a : Applying) (slot k time : Nat) : Applying :=
  let r := a.r
  let v := min (Map.getD r.tamperCount k 0 + 1) 65535
  let r := { r with
    tamperCount := Map.put r.tamperCount k v,
    tamperSat := if v = 65535 then setBits r.tamperSat k 1 1 else r.tamperSat,
    tamperFirst := if Map.getD r.tamperFirst k 0 = 0 then Map.put r.tamperFirst k time else r.tamperFirst,
    tamperLast := Map.put r.tamperLast k time }
  ({ a with r := r }).tampered slot k true (decide (Map.getD a.r.tamperCount k 0 < v ∨ Map.getD a.r.tamperLast k 0 < time))

/-- One entry of a tamper report (R385). -/
def Applying.tamperEntry (a : Applying) (slot time : Nat) (b : List Byte) : Applying :=
  let k := leAt b 0 1 % 8
  let sat := bitOn (leAt b 0 1) 7
  let n := leAt b 1 2
  let first := leAt b 3 8
  let last := leAt b 11 8
  if 6 ≤ k then a
  else
    let old := Map.getD a.r.tamperCount k 0
    let a := if n < old then
        let a := { a with s := a.s.raise .tamperCountBack a.r.tenant [slot, k, old, n] }
        a.occurrence slot 7 time
      else a
    let r := a.r
    let f0 := Map.getD r.tamperFirst k 0
    let l0 := Map.getD r.tamperLast k 0
    let f1 := if f0 = 0 then first else if first ≠ 0 ∧ first < f0 then first else f0
    let l1 := max l0 last
    let v := max old n
    let sat1 := bitOn r.tamperSat k || sat || v == 65535
    let r' := { r with
      tamperCount := Map.put r.tamperCount k v, tamperFirst := Map.put r.tamperFirst k f1,
      tamperLast := Map.put r.tamperLast k l1, tamperSat := setBits r.tamperSat k 1 (bit sat1) }
    let changed := decide (v ≠ old ∨ f1 ≠ f0 ∨ l1 ≠ l0) || sat1 != bitOn r.tamperSat k
    ({ a with r := r' }).tampered slot k changed (decide (old < v) || (sat1 && decide (l0 < l1)))

/-- A tamper report item; one whose length is not 19 bytes per entry, one to six of them, is ignored. -/
def Applying.tamperReport (a : Applying) (slot time : Nat) (b : List Byte) : Applying :=
  if b.length % 19 ≠ 0 ∨ b.length = 0 ∨ 6 * 19 < b.length then a
  else (List.range (b.length / 19)).foldl (fun a i => a.tamperEntry slot time (slice b (19 * i) 19)) a

/-! ### Token results and credit states (R380 to R382) -/

/-- A settled token joins what the export record carries. -/
def Applying.settle (a : Applying) (slot seq : Nat) : Applying :=
  match ((a.s.tokensOf slot).filter fun t => t.seq == seq).getLast? with
  | some t => { a with settled := a.settled.filter (fun u => u.seq ≠ seq) ++ [t] }
  | none => a

/-- A token result settles the token whose COMMAND the ACK answered (R381). -/
def Applying.tokenResult (a : Applying) (slot time : Nat) (tag : Nat) (b : List Byte) : Applying :=
  let res := leAt b 0 1
  if b.length ≠ 2 ∨ 7 < res then a
  else match (a.s.tokensOf slot).find? fun t => t.tag == some tag && tokenOpen t.st with
    | none => a
    | some t =>
      if leAt b 1 1 ≠ t.seq % 256 then a.occurrence slot 7 time
      else
        let st := if res ≤ 1 then 2 else 3
        let s := (a.s.setToken slot t.seq st time (some res)).mapTokens slot fun u => if u.seq = t.seq then
          { u with locked := false } else u
        let s := if st = 3 then
            (s.count { name := .preRejected, a := s.prepayClass slot, b := res }).raise .prepayTokenRejected a.r.tenant
              [slot, t.seq, res]
          else s
        ({ a with s := s }).settle slot t.seq

/-- Step 2 of R382 for one token. -/
def Applying.windowToken (a : Applying) (slot time seqHigh window : Nat) (t : TokenEntry) : Applying :=
  let reported := decide (t.seq ≤ seqHigh ∧ seqHigh - t.seq < 32) && bitOn window (seqHigh - t.seq) &&
    decide (t.seq ≤ a.r.tokenSeq)
  if !reported then a
  else if tokenOpen t.st ∨ t.st = 3 then
    let a := if t.st = 3 then a.occurrence slot 7 time else a
    ({ a with s := a.s.setToken slot t.seq 2 time }).settle slot t.seq
  else if t.st = 4 then
    ({ a with s := (a.s.setToken slot t.seq 5 time).raise .prepayVoidApplied a.r.tenant [slot, t.seq, t.amount] }).settle slot t.seq
  else a

/-- A credit state item (R382). -/
def Applying.creditState (a : Applying) (slot time : Nat) (b : List Byte) : Applying :=
  if b.length ≠ 16 then a
  else if !a.s.rdB Rec.PrepayMeter.Enabled slot then
    { a with s := a.s.count { name := .preIgnored, a := a.r.tenant } }
  else
    let balance := toSigned 64 (leAt b 0 8)
    let seqHigh := leAt b 8 2
    let window := leAt b 10 4
    let held := a.s.pre.held.contains slot
    let a := if held then
        let n := min (max a.r.tokenSeq seqHigh + 32) 65535
        { a with
          s := { a.s with pre := { a.s.pre with held := a.s.pre.held.filter (· ≠ slot) } },
          r := { a.r with tokenSeq := n } }
      else if seqHigh < a.r.tokenAck ∨ a.r.tokenSeq < seqHigh then a.occurrence slot 7 time else a
    let a := if a.r.tokenAck ≤ seqHigh ∧ seqHigh ≤ a.r.tokenSeq then { a with r := { a.r with tokenAck := seqHigh } } else a
    let a := (a.s.tokensOf slot).foldl (fun a t => a.windowToken slot time seqHigh window t) a
    let dead := (a.s.tokensOf slot).filter fun t => (t.st == 3 || t.st == 4) && decide (t.seq + 32 ≤ seqHigh)
    let a := dead.foldl (fun (a : Applying) t => ({ a with s := a.s.setToken slot t.seq 6 time }).settle slot t.seq) a
    let fresh := (a.s.tokensOf slot).filter fun t => (t.st == 2 || t.st == 5) && !t.balanced && t.kind == 0
    let sum := (fresh.map TokenEntry.amount).sum
    let s := a.s.mapTokens slot fun t => if t.st = 2 ∨ t.st = 5 then { t with balanced := true } else t
    let a := { a with s := { s with pre := { s.pre with flags := Map.put s.pre.flags slot (leAt b 14 1 % 8) } } }
    let rise := balance - a.r.credit
    let a := if (sum : Int) + a.s.rd Rec.PrepayClass.CreditSlackMilli (a.s.prepayClass slot) < rise then
        let a := a.occurrence slot 6 time
        { a with s := a.s.raise .prepayCreditAnomaly a.r.tenant [slot, slotOf rise, sum] }
      else a
    { a with r := { a.r with credit := balance }, credit := some (balance, seqHigh) }

/-- The token and tamper items of a frame, at their place of R335: token results, then the credit state, then the tamper
report. Only the first item of each type is applied. A token whose COMMAND the ACK answered without settling it is unlocked
and waits for the next attempt. -/
def Applying.tokens (a : Applying) (slot time tag : Nat) (ack : Bool) (items : List Item) : Applying :=
  let first (t : Nat) : Option (List Byte) := (items.find? fun it => it.1 == t).map Prod.snd
  let a := match first 0x61 with
    | some b => if ack then a.tokenResult slot time tag b else a
    | none => a
  let a := match first 0x62 with
    | some b => a.creditState slot time b
    | none => a
  let a := match first 0x63 with
    | some b => a.tamperReport slot time b
    | none => a
  if ack then { a with s := a.s.tokenUnanswered slot tag } else a

/-! ### Commands (Table 15-14) -/

/-- The newest token of a meter and sequence: an earlier key generation may have used the sequence too. -/
def State.token (s : State) (slot seq : Nat) : Option TokenEntry := ((s.tokensOf slot).filter fun t => t.seq == seq).getLast?

/-- PREPAY.TOKEN_READ: log entry and digits. -/
def readTokenRead (slot seq : Nat) (c : Caller) (s : State) : Reply :=
  gatedRead (s.meterOwnChecks c slot 2 ++ [(s.led.ready, .refusedState)])
    (match s.token slot seq with
     | none => { status := .badArgument }
     | some t => if t.st = 6 then { status := .refusedState } else { status := .done, data := t.bytes ++ (tokenDigits t.value).flatMap (le 8) })

def execPrepayTokenRead (ch slot seq : Nat) (s : State) : Out := .next (s.readCommand ch .prepayTokenRead (readTokenRead slot seq))

/-- PREPAY.TOKEN_LIST: log entries from a sequence, without digits. -/
def readTokenList (slot first count : Nat) (c : Caller) (s : State) : Reply :=
  let l := ((sortBy (fun (t : TokenEntry) => (t.seq : Int)) (s.tokensOf slot)).filter fun t => decide (first ≤ t.seq)).take count
  gatedRead [(c.isObserver && s.sees c (s.meterTenant slot), .refusedRole), (c.slots 3, .badLength),
      (decide (count ≤ 256), .badArgument), (isMeterSlot slot, .badArgument), (s.meterHere slot, .absentCapacity),
      (s.led.ready, .refusedState)]
    { status := .done, data := le 8 l.length ++ l.flatMap TokenEntry.bytes }

def execPrepayTokenList (ch slot first count : Nat) (s : State) : Out :=
  .next (s.readCommand ch .prepayTokenList (readTokenList slot first count))

/-- PREPAY.TOKEN_VOID: an ISSUED or DELIVERING token, no COMMAND of which is locked, becomes VOIDED (R383). -/
def runTokenVoid (slot seq : Nat) (c : Caller) (s : State) : Reply × State :=
  gated s (s.meterOwnChecks c slot 2 ++ [((s.token slot seq).isSome, .badArgument), (s.led.ready, .refusedState), s.notReleasing (s.meterTenant slot)]) fun s =>
    match s.token slot seq with
    | none => ({ status := .refusedState }, s)
    | some t =>
      if tokenOpen t.st ∧ ¬t.locked then
        let s := s.mapTokens slot fun u => if u.seq = seq ∧ tokenOpen u.st then { u with st := 4 } else u
        ({ status := .done }, (s.journal .token t.tenant slot (.words [slot, seq, 4])).carry (.meter slot))
      else ({ status := .refusedState }, s)

def execPrepayTokenVoid (ch slot seq : Nat) (s : State) : Out := .next (s.commitCommand ch .prepayTokenVoid (runTokenVoid slot seq))

/-- PREPAY.STATE_READ: credit, TokenSeq, SeqSaturated, TokenAck, tokens by state, flags of the last credit state. -/
def readPrepayState (slot : Nat) (c : Caller) (s : State) : Reply :=
  let r := s.meter slot
  let l := s.tokensOf slot
  gatedRead (s.meterReadChecks c slot 1 ++ [(s.led.ready, .refusedState), (s.rdB Rec.PrepayMeter.Enabled slot, .notPrepay)])
    { status := .done, slots := [slotOf r.credit, r.tokenSeq, bit (decide (r.tokenSeq = 65535)), r.tokenAck] ++
        (List.range 7).map (fun k => (l.filter fun t => t.st == k).length) ++ [Map.getD s.pre.flags slot 0] }

def execPrepayStateRead (ch slot : Nat) (s : State) : Out := .next (s.readCommand ch .prepayStateRead (readPrepayState slot))

/-- PREPAY.TOKEN_CHECK: the fields of the digits, whether Check verifies, and the window result against TokenAck: 1 where
the sequence lies above it or at most 31 below.
(Log entry 43: DESIGN CHOICE.) -/
def readTokenCheck (slot digits : Nat) (c : Caller) (s : State) : Reply :=
  let r := s.meter slot
  let field := digits % 2 ^ 15
  let kind := bitsAt digits 15 2
  let seq := bitsAt digits 17 16
  let ok : Bool := match (s.meterKeyFor slot r.tenant r.keyGen).1 with
    | some k => tokenValue k (s.addressBytes slot) r.keyGen field kind seq == digits
    | none => false
  gatedRead [(c.isOwner (s.meterTenant slot), .refusedRole), (c.slots 2, .badLength), (decide (digits < 10 ^ 16), .badArgument),
      (isMeterSlot slot, .badArgument), (s.meterHere slot, .absentCapacity), (s.led.ready, .refusedState)]
    { status := .done, slots := [field % 4096, field / 4096, kind, seq, digits / 2 ^ 33, bit (ok && decide (digits < 2 ^ 53)),
        bit (decide (r.tokenAck < seq ∨ r.tokenAck - seq ≤ 31) && decide (seq ≠ 0))] }

def execPrepayTokenCheck (ch slot digits : Nat) (s : State) : Out :=
  .next (s.readCommand ch .prepayTokenCheck (readTokenCheck slot digits))

/-- TAMPER.READ: per class count, saturated, first, last. -/
def readTamper (slot : Nat) (c : Caller) (s : State) : Reply :=
  let r := s.meter slot
  gatedRead (s.meterReadChecks c slot 1)
    { status := .done, slots := (List.range 8).flatMap fun k =>
        [Map.getD r.tamperCount k 0, bit (bitOn r.tamperSat k), Map.getD r.tamperFirst k 0, Map.getD r.tamperLast k 0] }

def execTamperRead (ch slot : Nat) (s : State) : Out := .next (s.readCommand ch .tamperRead (readTamper slot))

/-- PREPAY.COUNTERS_READ: a tenant's counters, or with bit 15 set a prepay class's. -/
def readPrepayCounters (t : Nat) (c : Caller) (s : State) : Reply :=
  let k (x : CtrName) (a b : Nat) : Nat := s.ctr { name := x, a := a, b := b }
  let cls := t - 0x8000
  let ok := if 0x8000 ≤ t then decide (cls < 256) else decide (t < 16)
  let ten := if 0x8000 ≤ t then s.recTenant Rec.PrepayClass.CreditStepMilli.rid cls else t
  gatedRead [(c.isObserver && s.sees c ten, .refusedRole), (c.slots 1, .badLength), (ok, .badArgument),
      (if 0x8000 ≤ t then true else s.tenantHere t, .absentCapacity), (s.led.ready, .refusedState)]
    { status := .done, slots := if 0x8000 ≤ t then (List.range 8).map fun r => k .preRejected cls r
      else [k .preIssued t 0, k .preMilli t 0, k .preSettled t 2, k .preSettled t 5, k .preSettled t 6, k .preAttempts t 0,
            k .preIgnored t 0] }

def execPrepayCountersRead (ch target : Nat) (s : State) : Out :=
  .next (s.readCommand ch .prepayCountersRead (readPrepayCounters target))

/-! ### Records (R390) -/

/-- The prepay class record (R390). -/
def rulePrepayClass : RecordRule where
  owner _ _ := .header
  writer _ c t _ := c.isOwner t

def execPrepayClassRecord (tenant inst : Nat) (body : List Byte) (s : State) : Out :=
  .next (s.applyRecord rulePrepayClass Schema.PrepayClass tenant inst body)

end Sys2Proof.Machine
end

