-- ==== Sys2Proof/Machine/Safe.lean ====
section
/-! DEFINITION. Chapter 24: lockout inputs, coverage and safe commands (R597 to R617). -/

namespace Sys2Proof.Machine

open Sys2Proof

/-! ### Lockout inputs (R597 to R600) -/

/-- A lockout input. -/
def State.lockout (s : State) (i : Nat) : Lockout := Map.getD s.safe.inputs i {}

/-- The state with a lockout input set. -/
def State.setLockout (s : State) (i : Nat) (x : Lockout) : State :=
  { s with safe := { s.safe with inputs := Map.put s.safe.inputs i x } }

/-- Whether an input is enabled. -/
def State.lockEnabled (s : State) (i : Nat) : Bool := s.rdB Rec.LockoutInput.Enabled i

/-- Whether an enabled input is holding (R600): not RELEASED, not yet read since boot, or within its release timer. -/
def State.holding (s : State) (i : Nat) : Bool :=
  let x := s.lockout i
  s.lockEnabled i && (!x.seen || x.st != .released ||
    (match x.holdEndMs with
     | some e => decide (s.time.ms < e)
     | none => false))

/-- The channel levels as events carry them: bit 0 channel A high, bit 1 channel B high. -/
def Lockout.levels (x : Lockout) : Nat := bit x.levelA + 2 * bit x.levelB

/-- A channel's accepted level and run after one sample: it changes after two consecutive samples at the new level. -/
def acceptLevel (level : Bool) (run : Nat) (sample : Bool) : Bool × Nat :=
  if sample = level then (level, 0) else if 1 ≤ run then (sample, 0) else (level, run + 1)

/-- The zones in the valid ranges of a lockout input body. -/
def lockZone (body z : Nat) : Bool :=
  (List.range 8).any fun j => (Rec.LockoutInput.RangeValid j).on body &&
    decide ((Rec.LockoutInput.FirstZone j).of body ≤ z ∧ z ≤ (Rec.LockoutInput.LastZone j).of body)

/-- The body of a lockout input record. -/
def State.lockBody (s : State) (i : Nat) : Nat := s.bodyOf Schema.LockoutInput i

/-- Whether an input covers a meter slot (R601). -/
def State.covers (s : State) (i slot : Nat) : Bool :=
  s.lockEnabled i && (s.rdB Rec.LockoutInput.AllMeters i ||
    (s.rdB Rec.LedgerMeter.ZoneAssigned slot && lockZone (s.lockBody i) (s.rd Rec.LedgerMeter.Zone slot)))

/-- Whether an input covering a meter is holding. -/
def State.lockedOut (s : State) (slot : Nat) : Bool := (List.range 16).any fun i => s.covers i slot && s.holding i

/-- The safe-command state of a meter. -/
def State.safeMeter (s : State) (slot : Nat) : SafeMeter := Map.getD s.safe.meters slot {}

/-- The state with a meter's safe-command state set. -/
def State.setSafe (s : State) (slot : Nat) (x : SafeMeter) : State :=
  { s with safe := { s.safe with meters := Map.put s.safe.meters slot x } }

/-- An input covering a meter leaves RELEASED while a locked close of the meter is not yet off the air (R608). -/
def State.lateLockouts (s : State) (i : Nat) : State :=
  (Map.keys s.safe.meters).foldl (fun s slot =>
    let x := s.safeMeter slot
    match x.out with
    | some c =>
      if c.kind ≠ 1 ∧ c.locked ∧ s.time.air < c.frameEnd ∧ ¬c.lateRaised ∧ s.covers i slot then
        (((s.setSafe slot { x with out := some { c with lateRaised := true } }).count { name := .safeLate }).raise
          .safeLateLockout (s.meterTenant slot) [slot, i, c.frameEnd])
      else s
    | none => s) s

/-- What follows a change of state of an input (R599). -/
def State.lockMoved (s : State) (i : Nat) (old new : LockSt) (levels engagedMs : Nat) : State :=
  let s := if old = .released ∧ new ≠ .released then
      ((s.count { name := .safeEngage, a := i }).raise .safeLockoutEngaged 0 [i, levels]).lateLockouts i else s
  let s := if old = .fault ∧ new ≠ .fault then s.raise .safeLockoutFaultCleared 0 [i] else s
  let s := if old ≠ .fault ∧ new = .fault then
      (s.count { name := .safeFault, a := i }).raise .safeLockoutFault 0 [i, levels] else s
  if old ≠ .released ∧ new = .released then s.raise .safeLockoutReleased 0 [i, engagedMs] else s

/-- The state an input with accepted levels moves to (Table 24-1). -/
def lockNext (x : Lockout) (ms disc : Nat) : LockSt :=
  match x.st with
  | .released => if x.levelA ∧ x.levelB then .released else if x.levelA ∨ x.levelB then .discrepant else .engaged
  | .discrepant =>
    if ¬x.levelA ∧ ¬x.levelB then .engaged
    else if x.sinceMs + disc ≤ ms then .fault
    else if x.levelA ∧ x.levelB then .released else .discrepant
  | .engaged => if x.levelA ∨ x.levelB then .discrepant else .engaged
  | .fault =>
    match x.lowSinceMs with
    | some t => if t + disc ≤ ms then .engaged else .fault
    | none => .fault

/-- An input moved to the state its levels give. -/
def State.advanceLock (s : State) (i : Nat) : State :=
  let x := s.lockout i
  let ms := s.time.ms
  let new := lockNext x ms (s.rd Rec.LockoutInput.DiscrepancyMs i)
  if new = x.st then s
  else
    let y := { x with
      st := new, sinceMs := ms,
      leftMs := if x.st = .released then ms else x.leftMs,
      holdEndMs := if new = .released then some (ms + 1000 * s.rd Rec.LockoutInput.ReleaseHoldS i) else x.holdEndMs }
    (s.setLockout i y).lockMoved i x.st new x.levels (ms - x.leftMs)

/-- One sample of an enabled input. The second sample after boot is its first reading: it sets the state and starts the
release timer (R600). -/
def State.sampleLock (s : State) (i : Nat) (a b : Bool) : State :=
  let x := s.lockout i
  let (la, ra) := acceptLevel x.levelA x.runA a
  let (lb, rb) := acceptLevel x.levelB x.runB b
  let low := if la ∨ lb then none else some (x.lowSinceMs.getD s.time.ms)
  let x := { x with levelA := la, runA := ra, levelB := lb, runB := rb, lowSinceMs := low, samples := min (x.samples + 1) 2 }
  if x.seen then (s.setLockout i x).advanceLock i
  else if x.samples < 2 then s.setLockout i x
  else
    let st := if la ∧ lb then LockSt.released else if la ∨ lb then .discrepant else .engaged
    s.setLockout i { x with
      seen := true, st := st, sinceMs := s.time.ms, leftMs := s.time.ms,
      holdEndMs := some (s.time.ms + 1000 * s.rd Rec.LockoutInput.ReleaseHoldS i) }

/-- Every 1 ms both channels of every enabled input are sampled (R597): bit 2i of `levels` is channel A of input i, bit
2i + 1 channel B, 1 where it carries current. -/
def execLockoutSample (levels : Nat) (s : State) : Out :=
  .next (((List.range 16).filter s.lockEnabled).foldl (fun s i => s.sampleLock i (bitOn levels (2 * i)) (bitOn levels (2 * i + 1))) s)

/-- DiscrepancyMs passes in DISCREPANT (R598). -/
def execLockoutDiscrepancyTimeout (input : Nat) (s : State) : Out :=
  let x := s.lockout input
  .next (if s.lockEnabled input ∧ x.seen ∧ x.st = .discrepant then s.advanceLock input else s)

/-- The release timer of an input expires: it stops holding (R600). -/
def execReleaseHoldEnd (input : Nat) (s : State) : Out :=
  let x := s.lockout input
  .next (match x.holdEndMs with
    | some e => if e ≤ s.time.ms then s.setLockout input { x with holdEndMs := none } else s
    | none => s)

/-! ### Safe commands (R603 to R609) -/

/-- SourceId of this pair (R605). -/
def State.sourceId (s : State) : Nat := 0x4557 * 2 ^ 48 + s.rd Rec.Pair.RegionNumber * 2 ^ 16

/-- The safe command item (Table 24-3). -/
def State.safeItem (s : State) (slot : Nat) (c : SafeCmd) : List Byte :=
  let b := le 1 1 ++ le 1 c.kind ++ le 2 c.seq ++ le 8 s.sourceId ++ s.addressBytes slot ++ le 8 c.deadline
  itemBytes 0x88 (b ++ le 4 (crc32c b))

/-- The outcomes a safe command is counted under: 0 done, 1 failed, 2 expired, 3 cancelled. -/
abbrev SafeEnd := Nat

/-- An outstanding command ends: it is counted, and an OPEN that waited takes its place. -/
def State.endSafe (s : State) (slot : Nat) (outcome : SafeEnd) : State :=
  let x := s.safeMeter slot
  match x.out with
  | none => s
  | some c =>
    (s.setSafe slot { x with out := x.waiting, waiting := none }).count { name := .safeOutcome, a := c.kind, b := outcome }

/-- The causes of `safe.command_cancelled`, in their order. -/
inductive SafeCause where
  | lockout | command | takeover | superseded
  deriving DecidableEq, Repr

/-- The 0-based position of a cause. -/
def SafeCause.code : SafeCause → Nat
  | .lockout => 0 | .command => 1 | .takeover => 2 | .superseded => 3

/-- An outstanding command is cancelled. -/
def State.cancelSafe (s : State) (slot : Nat) (cause : SafeCause) : State :=
  match (s.safeMeter slot).out with
  | none => s
  | some c => (s.endSafe slot 3).raise .safeCommandCancelled (s.meterTenant slot) [slot, c.kind, c.seq, cause.code]

/-- A command is accepted (R606): the next sequence is assigned and committed with it. -/
def State.acceptSafe (s : State) (slot kind : Nat) : SafeCmd × State :=
  let x := s.safeMeter slot
  let c : SafeCmd := { kind := kind, seq := (x.lastSeq + 1) % 65536,
                       deadline := s.stamp + s.rd Rec.SafetyPolicy.ValidityS * 2 ^ 24,
                       limit := s.rd Rec.SafetyPolicy.ResendLimit }
  let x := if x.out.isSome then { x with lastSeq := c.seq, waiting := some c } else { x with lastSeq := c.seq, out := some c }
  (c, ((s.setSafe slot x).journal .ledger (s.meterTenant slot) slot (.words [slot, kind, c.seq])).carry (.meter slot))

/-- Whether a meter slot takes safe commands. -/
def State.isRelay (s : State) (slot : Nat) : Bool := s.rdB Rec.SafeMeter.Enabled slot

/-- SAFE.OPEN (R603): an unlocked close is cancelled and replaced; behind a locked one the OPEN waits. -/
def runSafeOpen (slot : Nat) (c : Caller) (s : State) : Reply × State :=
  let x := s.safeMeter slot
  let free : Bool := match x.out with
    | none => true
    | some o => decide (o.kind ≠ 1) && x.waiting.isNone
  gated s (s.meterOwnChecks c slot 1 ++ [s.notReleasing (s.meterTenant slot), (s.isRelay slot, .notRelay), (free, .safeBusy)]) fun s =>
    let s := match x.out with
      | some o => if o.locked then s else s.cancelSafe slot .superseded
      | none => s
    let (k, s) := s.acceptSafe slot 1
    ({ status := .deferred, slots := [k.seq, k.deadline] }, s)

def execSafeOpen (ch slot : Nat) (s : State) : Out := .next (s.commitCommand ch .safeOpen (runSafeOpen slot))

/-- The conditions of a close after its role, at initiation and again at approval (R604): step 11 last.
(Log entry 141: DEDUCED.) -/
def State.closeChecks (s : State) (slot armed : Nat) : List (Bool × Status) :=
  [(decide (armed ≤ 1), .badArgument), (isMeterSlot slot, .badArgument), (s.meterHere slot, .absentCapacity),
   s.notReleasing (s.meterTenant slot), (s.isRelay slot, .notRelay), ((s.safeMeter slot).out.isNone, .safeBusy), (!s.lockedOut slot, .refusedSafety)]

/-- SAFE.CLOSE: the first approval (R68, R604). -/
def runSafeClose (slot armed : Nat) (c : Caller) (s : State) : Reply × State :=
  gated s ([(c.isOwner (s.meterTenant slot), .refusedRole), (c.slots 2, .badLength)] ++ s.closeChecks slot armed) fun s =>
    s.firstApproval c .safeClose [slot, armed] slot

def execSafeClose (ch slot armed : Nat) (s : State) : Out := .next (s.command ch .safeClose (runSafeClose slot armed))

/-- The approved close: accepted, as CLOSE_ARMED where asked or where ArmedOnly is 1. -/
def State.approvedClose (s : State) (slot armed : Nat) : Reply × State :=
  gated s (s.closeChecks slot armed) fun s =>
    let (k, s) := s.acceptSafe slot (if armed = 1 ∨ s.rdB Rec.SafeMeter.ArmedOnly slot then 2 else 3)
    ({ status := .deferred, slots := [k.seq, k.deadline] }, s)

/-- The command a meter's next COMMAND may carry: outstanding, within its sends and its Deadline (R607). -/
def State.safeSendable (s : State) (slot : Nat) : Option SafeCmd :=
  match (s.safeMeter slot).out with
  | some c => if c.sends < c.limit ∧ s.stamp ≤ c.deadline then some c else none
  | none => none

/-- A COMMAND carrying the outstanding command locks: a close under a lockout that holds ends instead (R608). The answer
says whether the COMMAND may go out. -/
def State.lockSafe (s : State) (slot frameEnd : Nat) : Bool × State :=
  let x := s.safeMeter slot
  match x.out with
  | none => (true, s)
  | some c =>
    if c.kind ≠ 1 ∧ s.lockedOut slot then (false, s.cancelSafe slot .lockout)
    else (true, (s.setSafe slot { x with out := some { c with locked := true, sends := c.sends + 1, frameEnd := frameEnd, lateRaised := false } }).count
      { name := .safeSends })

/-- Deadline passes without an accepted response (R609). -/
def execSafeDeadline (slot : Nat) (s : State) : Out :=
  match (s.safeMeter slot).out with
  | some c =>
    if c.deadline < s.stamp then
      .next (((s.endSafe slot 2).raise .safeCommandExpired (s.meterTenant slot) [slot, c.kind, c.seq, c.sends]).carry (.meter slot))
    else .next s
  | none => .next s

/-- A safe response item (R609): the check that fails (0 CRC, 1 SourceId, 2 TargetId, 3 Seq), or none. -/
def State.safeCheck (s : State) (slot : Nat) (b : List Byte) : Option Nat :=
  if b.length ≠ 28 ∨ leAt b 24 4 ≠ crc32c (b.take 24) then some 0
  else if leAt b 4 8 ≠ s.sourceId then some 1
  else if leAt b 12 8 ≠ s.rd Rec.MeterSec.Address slot then some 2
  else match (s.safeMeter slot).out with
    | some c => if leAt b 2 2 = c.seq then none else some 3
    | none => some 3

/-- A safe response in an accepted frame (R609): the command ends done or failed, stays for a resend on Result 2, or the
response is ignored and reported.
(Log entry 141: DEDUCED.) -/
def Applying.safeResponse (a : Applying) (slot : Nat) (items : List Item) : Applying :=
  match items.find? fun it => it.1 == 0x89 with
  | none => a
  | some it =>
    let b := it.2
    let s := a.s
    match s.safeCheck slot b with
    | some k =>
      { a with s := (s.count { name := .safeIgnored }).raiseEvery hourMs .safeResponseBad slot a.r.tenant [slot, k] }
    | none =>
      match (s.safeMeter slot).out with
      | none => a
      | some c =>
        let res := leAt b 1 1
        let relay := leAt b 20 1
        let s := s.setSafe slot { s.safeMeter slot with lastResult := some res, lastRelay := some relay }
        let a := { a with relay := a.relay ++ [(relay, c.seq, res)] }
        if res = 2 then { a with s := s }
        else
          let s := s.endSafe slot (if res ≤ 1 then 0 else 1)
          { a with s := s.raise .safeCommandDone a.r.tenant [slot, c.kind, c.seq, res, relay] }

/-- SAFE.CANCEL: an unlocked command ends. -/
def runSafeCancel (slot : Nat) (c : Caller) (s : State) : Reply × State :=
  let ok : Bool := match (s.safeMeter slot).out with
    | some o => !o.locked
    | none => false
  gated s (s.meterOwnChecks c slot 1 ++ [(ok, .refusedState), s.notReleasing (s.meterTenant slot)]) fun s =>
    ({ status := .done }, ((s.cancelSafe slot .command).journal .ledger (s.meterTenant slot) slot (.words [slot, 0, 0])).carry (.meter slot))

def execSafeCancel (ch slot : Nat) (s : State) : Out := .next (s.commitCommand ch .safeCancel (runSafeCancel slot))

/-- SAFE.COMMAND_READ: outstanding kind, sequence and Deadline, sends, last Result and Relay, last sequence assigned. -/
def readSafeCommand (slot : Nat) (c : Caller) (s : State) : Reply :=
  let x := s.safeMeter slot
  gatedRead (s.meterReadChecks c slot 1 ++ [(s.isRelay slot, .notRelay)])
    { status := .done, slots := (match x.out with
        | some o => [o.kind, o.seq, o.deadline, o.sends]
        | none => [noValue, noValue, noValue, noValue]) ++ [slotOpt x.lastResult, slotOpt x.lastRelay, x.lastSeq] }

def execSafeCommandRead (ch slot : Nat) (s : State) : Out := .next (s.readCommand ch .safeCommandRead (readSafeCommand slot))

/-- The code of a lockout state. -/
def LockSt.code : LockSt → Nat
  | .released => 0 | .discrepant => 1 | .engaged => 2 | .fault => 3

/-- The active meter slots an input covers. -/
def State.coveredCount (s : State) (i : Nat) : Nat :=
  ((s.led.meters.filter fun e => e.2.active && s.covers i e.1).map Prod.fst).length

/-- SAFE.LOCKOUT_READ: per input state, channel levels, holding, time in state, meters covered; an input that is not
evaluated has no value. -/
def readSafeLockout (input : Nat) (c : Caller) (s : State) : Reply :=
  let one (i : Nat) : List Nat :=
    let x := s.lockout i
    if s.lockEnabled i ∧ x.seen then [x.st.code, x.levels, bit (s.holding i), s.time.ms - x.sinceMs, s.coveredCount i]
    else [noValue, noValue, bit (s.holding i), noValue, s.coveredCount i]
  gatedRead [(c.isObserver, .refusedRole), (c.slots 1, .badLength), (decide (input < 16 ∨ input = 0xFF), .badArgument)]
    { status := .done, slots := if input = 0xFF then (List.range 16).flatMap one else one input }

def execSafeLockoutRead (ch input : Nat) (s : State) : Out := .next (s.readCommand ch .safeLockoutRead (readSafeLockout input))

/-- SAFE.COUNTERS_READ: the chip's counters, or an input's, each tally with its saturation flag. The body holds no argument, or the input. -/
def readSafeCounters (input : Nat) (c : Caller) (s : State) : Reply :=
  let all := c.body.isEmpty
  let k (x : CtrName) (a b : Nat) : Nat := s.ctr { name := x, a := a, b := b }
  let tally (x : CtrName) (a : Nat) : List Nat := [k x a 0, bit (s.saturated { name := x, a := a })]
  gatedRead [(c.isObserver, .refusedRole), (c.slots 0 || c.slots 1, .badLength), (all || decide (input < 16), .badArgument)]
    { status := .done, slots := if all then
        ([1, 2, 3].flatMap fun kind => (List.range 4).map fun o => k .safeOutcome kind o) ++
          [k .safeSends 0 0, k .safeIgnored 0 0] ++ tally .safeLate 0
      else tally .safeFault input ++ tally .safeEngage input }

def execSafeCountersRead (ch input : Nat) (s : State) : Out :=
  .next (s.readCommand ch .safeCountersRead (readSafeCounters input))

/-! ### Records (R602, R613 to R615) -/

/-- Whether a write of a lockout input record stops coverage or shortens the hold (R602).
(Log entry 141: DEDUCED.) -/
def lockShrinks (old new : Nat) : Bool :=
  let en (b : Nat) : Bool := Rec.LockoutInput.Enabled.on b
  let all (b : Nat) : Bool := Rec.LockoutInput.AllMeters.on b
  en old && (!en new || decide (Rec.LockoutInput.ReleaseHoldS.of new < Rec.LockoutInput.ReleaseHoldS.of old) ||
    (all old && !all new) || (!all new && (List.range 4096).any fun z => lockZone old z && !lockZone new z))

/-- The lockout input record (R602, R613). -/
def ruleLockoutInput : RecordRule where
  writer _ c _ _ := c.isOperator
  absent s _ b := if !s.lineHere && (List.range 8).any (fun j => (Rec.LockoutInput.RangeValid j).on b) then some .absentUnit else none
  blames _ _ b := ((List.range 8).find? fun j => (Rec.LockoutInput.RangeValid j).on b).map Rec.LockoutInput.RangeValid
  check s _ i old b := if s.holding i && lockShrinks old b then some .refusedSafety else none
  effect s _ i old b :=
    if Rec.LockoutInput.Enabled.of old ≠ Rec.LockoutInput.Enabled.of b then s.setLockout i {} else s

def execLockoutInputRecord (tenant inst : Nat) (body : List Byte) (s : State) : Out :=
  .next (s.applyRecord ruleLockoutInput Schema.LockoutInput tenant inst body)

/-- Whether a meter can be enrolled for items of its own over Lea or Ling (R391, R614): assigned, ProfileMask bit 0. -/
def State.leaMeter (s : State) (slot : Nat) : Bool := s.assigned slot && bitOn (s.rd Rec.MeterSec.ProfileMask slot) 0

/-- The safe meter record (R614). -/
def ruleSafeMeter : RecordRule where
  owner s i := .object (s.meterTenant i)
  writer _ c t _ := c.isOwner t
  absent s i _ := if s.meterHere i then none else some .absentCapacity
  check s _ i _ b :=
    if Rec.SafeMeter.Enabled.on b then (if s.leaMeter i then none else some .refusedState)
    else if (s.safeMeter i).out.isSome then some .refusedState else none

def execSafeMeterRecord (tenant inst : Nat) (body : List Byte) (s : State) : Out :=
  .next (s.applyRecord ruleSafeMeter Schema.SafeMeter tenant inst body)

/-- The safety policy record (R615). -/
def ruleSafetyPolicy : RecordRule where
  writer _ c _ _ := c.isOperator

def execSafetyPolicyRecord (tenant inst : Nat) (body : List Byte) (s : State) : Out :=
  .next (s.applyRecord ruleSafetyPolicy Schema.SafetyPolicy tenant inst body)

end Sys2Proof.Machine
end

