-- ==== Sys2Proof/Machine/Tariff.lean ====
section
/-! DEFINITION. Chapter 14: profile items, local time, tariff plans, the archive and the clock log (R354 to R373). -/

namespace Sys2Proof.Machine

open Sys2Proof

/-! ### The calendar (R361, R482) -/

/-- The date of a day counted from 2000-01-01: year, month, day. -/
def civil (day : Int) : Nat × Nat × Nat :=
  let z := (day + 730425).toNat
  let era := z / 146097
  let doe := z % 146097
  let yoe := (doe - doe / 1460 + doe / 36524 - doe / 146096) / 365
  let doy := doe - (365 * yoe + yoe / 4 - yoe / 100)
  let mp := (5 * doy + 2) / 153
  let m := if mp < 10 then mp + 3 else mp - 9
  (yoe + era * 400 + (if m ≤ 2 then 1 else 0), m, doy - (153 * mp + 2) / 5 + 1)

/-- The day of a date, counted from 2000-01-01. -/
def dayOf (y m d : Nat) : Int :=
  let y' := if m ≤ 2 then y - 1 else y
  let doy := (153 * (if m > 2 then m - 3 else m + 9) + 2) / 5 + d - 1
  let yoe := y' % 400
  ((y' / 400 * 146097 + (yoe * 365 + yoe / 4 - yoe / 100 + doy) : Nat) : Int) - 730425

/-- The weekday of a day number, 0 Monday. -/
def weekday (day : Int) : Nat := ((day + 5) % 7).toNat

/-- The days of a month. -/
def monthDays (y m : Nat) : Nat := ((if m = 12 then dayOf (y + 1) 1 1 else dayOf y (m + 1) 1) - dayOf y m 1).toNat

/-- The day of the `w`-th given weekday of a month; week 5 is the last. -/
def nthWeekday (y m w wd : Nat) : Int :=
  let d1 := dayOf y m 1
  let first := (wd + 7 - weekday d1) % 7
  let n := if w < 5 then first + 7 * (w - 1) else if first + 28 < monthDays y m then first + 28 else first + 21
  d1 + n

/-- Whether daylight saving is in force at a UTC second under a time-zone body (R361). -/
def dstOn (tz : Nat) (t : Int) : Bool :=
  if !Rec.TimeZone.DstEnabled.on tz then false
  else
    let y := (civil (t / 86400)).1
    let std := Rec.TimeZone.StdOffsetMin.int tz
    let local' := Rec.TimeZone.RuleBase.on tz
    let a := nthWeekday y (Rec.TimeZone.StartMonth.of tz) (Rec.TimeZone.StartWeek.of tz) (Rec.TimeZone.StartWeekday.of tz) *
      86400 + Rec.TimeZone.StartMinute.of tz * 60 - (if local' then std * 60 else 0)
    let b := nthWeekday y (Rec.TimeZone.EndMonth.of tz) (Rec.TimeZone.EndWeek.of tz) (Rec.TimeZone.EndWeekday.of tz) * 86400 +
      Rec.TimeZone.EndMinute.of tz * 60 - (if local' then (std + Rec.TimeZone.DstOffsetMin.of tz) * 60 else 0)
    if a ≤ b then decide (a ≤ t ∧ t < b) else !decide (b ≤ t ∧ t < a)

/-- Local seconds of a UTC second. -/
def localS (tz : Nat) (t : Int) : Int :=
  t + Rec.TimeZone.StdOffsetMin.int tz * 60 + (if dstOn tz t then (Rec.TimeZone.DstOffsetMin.of tz : Int) * 60 else 0)

/-! ### Evaluating a plan (R362) -/

/-- What the evaluation of an instant finds: local seconds, daylight saving, season, week profile, special day, day
profile, switch point, rate. -/
structure TariffHit where
  localTime : Int
  dst : Bool
  season : Option Nat
  week : Nat
  special : Option Nat
  day : Nat
  point : Option Nat
  rate : Nat
  deriving DecidableEq, Repr

/-- The season of a month and day: the valid season with the latest start at or before it in the year, else with the
latest start; the lowest index on equal starts. -/
def seasonOf (p m d : Nat) : Option Nat :=
  let l := ((List.range 4).filter fun k => Rec.TariffPlan.SeasonValid k |>.on p).map fun k =>
    (k, 32 * (Rec.TariffPlan.SeasonMonth k).of p + (Rec.TariffPlan.SeasonDay k).of p)
  let best (l : List (Nat × Nat)) : Option Nat :=
    (l.foldl (fun (b : Option (Nat × Nat)) x => match b with
      | some y => if y.2 < x.2 then some x else b
      | none => some x) none).map Prod.fst
  match best (l.filter fun x => decide (x.2 ≤ 32 * m + d)) with
  | some k => some k
  | none => best l

/-- The special day of a date. -/
def specialOf (p y m d : Nat) : Option Nat :=
  let hit (recurring : Bool) := (List.range 128).find? fun x =>
    (Rec.TariffPlan.SpValid x).on p && (Rec.TariffPlan.SpRecurring x).on p == recurring &&
      decide ((Rec.TariffPlan.SpMonth x).of p = m ∧ (Rec.TariffPlan.SpDay x).of p = d ∧
        (recurring ∨ 2000 + (Rec.TariffPlan.SpYear x).of p = y))
  match hit false with
  | some x => some x
  | none => hit true

/-- Season, week profile, special day and day profile of a local day. -/
def dayProfile (p : Nat) (day : Int) : Option Nat × Nat × Option Nat × Nat :=
  let (y, m, d) := civil day
  let season := seasonOf p m d
  let week := match season with
    | some k => (Rec.TariffPlan.SeasonWeek k).of p
    | none => 0
  match specialOf p y m d with
  | some x => (season, week, some x, (Rec.TariffPlan.SpProfile x).of p)
  | none => (season, week, none, (Rec.TariffPlan.WeekDay week (weekday day)).of p)

/-- The valid switch point of a day profile with the greatest minute at or before `m`, the lowest index on equal
minutes.
(Log entry 40: DESIGN CHOICE.) -/
def pointAt (p prof m : Nat) : Option Nat :=
  ((List.range 12).foldl (fun (b : Option (Nat × Nat)) i =>
    if (Rec.TariffPlan.PointValid prof i).on p ∧ (Rec.TariffPlan.PointMinute prof i).of p ≤ m then
      match b with
      | some x => if x.2 < (Rec.TariffPlan.PointMinute prof i).of p then some (i, (Rec.TariffPlan.PointMinute prof i).of p) else b
      | none => some (i, (Rec.TariffPlan.PointMinute prof i).of p)
    else b) none).map Prod.fst

/-- The rate of a UTC second under a plan version (R362). -/
def evalPlan (v : PlanVersion) (t : Int) : TariffHit :=
  let l := localS v.tz t
  let day := l / 86400
  let m := (l % 86400 / 60).toNat
  let (season, week, special, prof) := dayProfile v.body day
  let hit (pt : Option Nat) (r : Nat) : TariffHit := ⟨l, dstOn v.tz t, season, week, special, prof, pt, r⟩
  match pointAt v.body prof m with
  | some i => hit (some i) ((Rec.TariffPlan.PointRate prof i).of v.body)
  | none =>
    let prof' := (dayProfile v.body (day - 1)).2.2.2
    match pointAt v.body prof' 1439 with
    | some i => hit (some i) ((Rec.TariffPlan.PointRate prof' i).of v.body)
    | none => hit none (Rec.TariffPlan.DefaultRate.of v.body)

/-! ### Plan versions (R364) -/

/-- The kept versions of a plan, newest first. -/
def State.planVersions (s : State) (p : Nat) : List PlanVersion := Map.getD s.tar.plans p []

/-- The version an instant uses, and whether it is older than every kept version. -/
def State.planAt (s : State) (p stamp : Nat) : Option (PlanVersion × Bool) :=
  let l := s.planVersions p
  match l.find? fun v => decide (v.effective ≤ stamp) with
  | some v => some (v, false)
  | none => l.getLast?.map fun v => (v, true)

/-- The time-zone body of a set. -/
def State.tzBody (s : State) (n : Nat) : Nat := s.bodyOf Schema.TimeZone n

/-- A new version of a plan. -/
def State.addVersion (s : State) (p body : Nat) : State :=
  let v : PlanVersion := ⟨Rec.TariffPlan.EffectiveS.of body, body, s.tzBody (Rec.TariffPlan.TzRule.of body), false⟩
  let kept := (s.planVersions p).filter fun w => !decide (v.effective ≤ w.effective ∧ s.stamp < w.effective)
  { s with tar := { s.tar with plans := Map.put s.tar.plans p ((v :: kept).take 4) } }

/-- Whether a plan may name a time-zone set: one of its own tenant, or one of tenant 0 where its tenant is not
sealed (R369). -/
def State.tzAllowed (s : State) (tenant tz : Nat) : Bool :=
  let t := s.recTenant Rec.TimeZone.StdOffsetMin.rid tz
  t == tenant || (t == 0 && !s.isSealed tenant)

/-- The tariff plan record (R364, R369). -/
def ruleTariffPlan : RecordRule where
  owner _ _ := .header
  writer _ c t _ := c.isOwner t
  check s t _ _ b :=
    if !s.tzAllowed t (Rec.TariffPlan.TzRule.of b) then some .refusedState
    else if Rec.TariffPlan.EffectiveS.of b < s.stamp then some .planPast
    else none
  effect s _ i _ b := s.addVersion i b

def execTariffPlanRecord (tenant inst : Nat) (body : List Byte) (s : State) : Out :=
  .next (s.applyRecord ruleTariffPlan Schema.TariffPlan tenant inst body)

/-- The time-zone rule set record (R370). -/
def ruleTimeZone : RecordRule where
  owner _ _ := .header
  writer _ c t _ := c.isOwner t

def execTimeZoneRecord (tenant inst : Nat) (body : List Byte) (s : State) : Out :=
  .next (s.applyRecord ruleTimeZone Schema.TimeZone tenant inst body)

/-- The tenant that owns a ledger class. -/
def State.classTenant (s : State) (k : Nat) : Nat := s.recTenant (Rec.LedgerClass.RegBits 0).rid k

/-- The profile class record (R371): written by the owner of the ledger class. -/
def ruleProfileClass : RecordRule where
  owner s i := .object (s.classTenant i)
  writer _ c t _ := c.isOwner t

def execProfileClassRecord (tenant inst : Nat) (body : List Byte) (s : State) : Out :=
  .next (s.applyRecord ruleProfileClass Schema.ProfileClass tenant inst body)

/-- A version's EffectiveS passes (R364). -/
def execTariffVersionActive (plan : Nat) (s : State) : Out :=
  let l := s.planVersions plan
  match l.find? fun v => decide (v.effective ≤ s.stamp) && !v.reported with
  | none => .next s
  | some v =>
    let l := l.map fun w => if w.effective = v.effective then { w with reported := true } else w
    .next (({ s with tar := { s.tar with plans := Map.put s.tar.plans plan l } }).raise .tariffVersionActive
      (s.recTenant Rec.TariffPlan.Active.rid plan) [plan, v.effective])

/-! ### Intervals (R354 to R360) -/

/-- The period of a code (Table 14-1). -/
def periodS (code : Nat) : Nat := [0, 300, 600, 900, 1800, 3600].getD code 0

/-- One part of a profile: start and end as calendar stamps, stream, increment, flags of Table 14-3, and whether it is
Part B of a clock step. -/
structure ProfPart where
  start : Nat
  stop : Nat
  stream : Nat
  inc : Nat
  flags : Nat := 0
  partB : Bool := false
  deriving DecidableEq, Repr

/-- Seconds as a calendar stamp. -/
def secStamp (s : Nat) : Nat := s * 2 ^ 24

/-- The index nearest `t` that is congruent to `v` modulo `m`, the lower of two equally near. -/
def nearestMod (v m t : Nat) : Nat :=
  let base := t / m * m + v % m
  let c := (if m ≤ base then [base - m] else []) ++ [base, base + m]
  let dist (x : Nat) : Nat := ((x : Int) - t).natAbs
  (leastBy dist c).getD base

/-- What an ignored profile item is reported with: 0 reserved type, 1 stream mode, 2 EndS, 3 length, 4 no profile. -/
abbrev ProfCause := Nat

/-- A compact profile item (R355, R356). -/
def compactItem (p t9 stream : Nat) (b : List Byte) : Except ProfCause (List ProfPart) :=
  if b.length < 2 then .error 3
  else
    let k := (b.length - 2) * 8 / 12
    let packed := ofLe (b.drop 2)
    let base := t9 / p / 65536 * 65536 + leAt b 0 2
    let n := (leastBy (fun x => (((x * p : Nat) : Int) - t9).natAbs)
      ((if 65536 ≤ base then [base - 65536] else []) ++ [base, base + 65536])).getD base
    .ok ((List.range k).map fun i =>
      let e := (n - (k - 1 - i)) * p
      { start := secStamp (e - p), stop := secStamp e, stream := stream, inc := bitsAt packed (12 * i) 12 })

/-- A full profile item. -/
def fullItem (p t9 stream : Nat) (b : List Byte) : Except ProfCause (List ProfPart) :=
  let endS := leAt b 0 4
  let count := leAt b 4 1
  let w := leAt b 5 1 % 4 + 1
  if b.length < 6 ∨ count < 1 ∨ 64 < count ∨ b.length ≠ 6 + count * (1 + w) then .error 3
  else
    let e := nearestMod endS (2 ^ 32) t9
    if e % p ≠ 0 then .error 2
    else .ok ((List.range count).map fun i =>
      let e' := e - (count - 1 - i) * p
      let at' := 6 + i * (1 + w)
      { start := secStamp (e' - p), stop := secStamp e', stream := stream, inc := leAt b (at' + 1) w,
        flags := leAt b at' 1 % 4 })

/-- A clock-step item (R357, R358): its parts, with δ and the two stamps. -/
structure ClockStep where
  old : Nat
  new : Nat
  parts : List ProfPart
  split : Bool
  deriving DecidableEq, Repr

/-- The intervals of a clock-step item. -/
def clockStepItem (p splitS : Nat) (b : List Byte) : Except ProfCause ClockStep :=
  if b.length < 25 ∨ (b.length - 16) % 9 ≠ 0 ∨ 8 < (b.length - 16) / 9 then .error 3
  else
    let old := leAt b 0 8
    let new := leAt b 8 8
    let first := secStamp (stampS old / p * p)
    let be' := secStamp ((stampS (max old new) / p + 1) * p)
    let split := decide (splitS * 2 ^ 24 < ((new : Int) - old).natAbs)
    let entry (i : Nat) : Nat × Nat × Nat := (leAt b (16 + 9 * i) 1 % 8, leAt b (17 + 9 * i) 4, leAt b (21 + 9 * i) 4)
    let parts := (List.range ((b.length - 16) / 9)).flatMap fun i =>
      let (st, before, after) := entry i
      if split then
        [{ start := first, stop := old, stream := st, inc := before, flags := 4 },
         { start := new, stop := be', stream := st, inc := after, flags := 4, partB := true : ProfPart }]
      else [{ start := first, stop := be', stream := st, inc := before + after, flags := 8 : ProfPart }]
    .ok ⟨old, new, parts, split⟩

/-- One interval: its span, the streams present with increment and flags, and whether it is Part B. -/
structure Interval where
  start : Nat
  stop : Nat
  incs : List (Nat × Nat × Nat)
  partB : Bool := false
  deriving DecidableEq, Repr

/-- A part joined to the interval of its span. -/
def joinPart (l : List Interval) (x : ProfPart) : List Interval :=
  if l.any fun i => i.start == x.start && i.stop == x.stop && i.partB == x.partB then
    l.map fun i => if i.start = x.start ∧ i.stop = x.stop ∧ i.partB = x.partB then
        (if i.incs.any fun e => e.1 == x.stream then i else { i with incs := i.incs ++ [(x.stream, x.inc, x.flags)] }) else i
  else l ++ [⟨x.start, x.stop, [(x.stream, x.inc, x.flags)], x.partB⟩]

/-- Parts as intervals in time order. -/
def joinParts (l : List ProfPart) : List Interval := sortBy (fun i => (i.stop : Int)) (l.foldl joinPart [])

/-- The mode of a stream (Table 13-3) as the class record gives it. -/
def State.classMode (s : State) (k stream : Nat) : Nat :=
  if stream % 2 = 0 then s.rd (Rec.LedgerClass.ModeImport (stream / 2)) k else s.rd (Rec.LedgerClass.ModeExport (stream / 2)) k

/-- What the profile items of a frame come to: intervals, ignored items with their cause, clock steps. -/
structure ProfRead where
  parts : List ProfPart := []
  ignored : List (Nat × Nat) := []
  steps : List ClockStep := []
  deriving DecidableEq, Repr

/-- One profile item read for a ledger class. -/
def State.readProfItem (s : State) (k t9 : Nat) (acc : ProfRead) (it : Item) : ProfRead :=
  let p := periodS (s.rd Rec.ProfileClass.PeriodCode k)
  let skip (c : Nat) : ProfRead := { acc with ignored := acc.ignored ++ [(it.1, c)] }
  let streamOk (st : Nat) : Bool := s.classMode k st == 1 || s.classMode k st == 2
  if it.1 = 0x40 ∨ 0x52 ≤ it.1 then skip 0
  else if p = 0 then skip 4
  else if it.1 ≤ 0x50 then
    let st := if it.1 ≤ 0x48 then it.1 - 0x41 else it.1 - 0x49
    if !streamOk st then skip 1
    else match (if it.1 ≤ 0x48 then compactItem p t9 st it.2 else fullItem p t9 st it.2) with
      | .error c => skip c
      | .ok ps => { acc with parts := acc.parts ++ ps }
  else match clockStepItem p (s.rd Rec.ProfileClass.ClockSplitS k) it.2 with
    | .error c => skip c
    | .ok c => { acc with parts := acc.parts ++ c.parts.filter (fun x => streamOk x.stream), steps := acc.steps ++ [c] }

/-- The first item of each type. -/
def firstOfType (l : List Item) : List Item :=
  l.foldl (fun acc it => if acc.any (fun x => x.1 == it.1) then acc else acc ++ [it]) []

/-- The profile items of a frame read for a ledger class. -/
def State.readProfile (s : State) (k t9 : Nat) (items : List Item) : ProfRead :=
  ((firstOfType items).filter fun it => decide (0x40 ≤ it.1 ∧ it.1 < 0x60)).foldl (fun a it => s.readProfItem k t9 a it) {}

/-- A clock-log entry of a tenant: the newest 65 536 are kept (R359). -/
def State.clockLogAdd (s : State) (e : ClockEntry) : State :=
  let l := Map.getD s.tar.clockLog e.tenant []
  let s := if 65536 ≤ l.length then s.count { name := .tarClockOver, a := e.tenant } else s
  { s with tar := { s.tar with clockLog := Map.put s.tar.clockLog e.tenant ((l ++ [e]).drop (l.length - 65535)) } }

/-- What an interval is booked with: its rate and the flags added to it. -/
structure Rated where
  rate : Nat
  flags : Nat
  deriving DecidableEq, Repr

/-- An interval rated (R359, R363, R364) for a meter whose record is `r`: the events and log entries it brings, its rate
and flags. -/
def State.rateInterval (s : State) (slot t9 : Nat) (r : MeterRec) (i : Interval) : Rated × State :=
  let suspect := decide (t9 + s.rd Rec.ProfileClass.ClockSplitS r.ledgerClass * 2 ^ 24 < i.stop)
  let s := if suspect then
      let s := s.count { name := .tarSuspect, a := r.ledgerClass }
      let fresh := match Map.get? s.marks (.tariffMeterClock, slot) with
        | some t => decide (t + dayMs ≤ s.time.ms)
        | none => true
      let s := if fresh then s.clockLogAdd ⟨slot, r.tenant, 1, i.stop, t9, t9⟩ else s
      s.raiseEvery dayMs .tariffMeterClock slot r.tenant [slot, i.stop, t9]
    else s
  let pt := s.recTenant Rec.TariffPlan.Active.rid r.plan
  let allowed := pt == r.tenant || (pt == 0 && !s.isSealed r.tenant)
  let noPlan (s : State) (flags : Nat) : Rated × State :=
    (⟨1, 32 + 16 * bit suspect + flags⟩, s.raiseEvery dayMs .tariffNoPlan slot r.tenant [slot, r.plan])
  if !allowed then noPlan s 0
  else match s.planAt r.plan (if suspect then t9 else i.start) with
    | none => noPlan s 0
    | some (v, old) =>
      let h := evalPlan v (stampS i.start)
      let s := if old then s.raiseEvery dayMs .tariffOldPlan r.plan pt [r.plan, i.start] else s
      if !Rec.TariffPlan.Active.on v.body then noPlan s (64 * bit old + 128 * bit h.dst)
      else (⟨h.rate, 16 * bit suspect + 64 * bit old + 128 * bit h.dst⟩, s.count { name := .tarEval, a := r.plan })

/-- The archive records of a booked interval (R365): the streams of ArchiveMask in ascending order, four to a record. -/
def State.archRecords (s : State) (slot : Nat) (r : MeterRec) (i : Interval) (x : Rated) : List ArchRec :=
  let k := r.ledgerClass
  let l : List (Nat × Nat) := sortBy (fun e => (e.1 : Int)) ((i.incs.filter fun e => bitOn (s.rd Rec.ProfileClass.ArchiveMask k) e.1).map
    fun e => (e.1, e.2.1))
  let flags := i.incs.foldl (fun f e => f ||| e.2.2) x.flags
  (List.range (ceilDiv l.length 4)).map fun n =>
    { slot := slot, tenant := r.tenant, rate := x.rate, period := s.rd Rec.ProfileClass.PeriodCode k, endS := stampS i.stop,
      flags := flags, streams := (l.drop (4 * n)).take 4, lengthS := stampS i.stop - stampS i.start }

/-- An archive record as bytes (Table 14-4). -/
def ArchRec.bytes (a : ArchRec) : List Byte :=
  let st (k : Nat) : Nat := match a.streams[k]? with
    | some e => e.1
    | none => 8
  le 3 (a.slot % 2 ^ 20 + a.tenant * 2 ^ 20) ++ le 1 (a.rate + 16 * a.period) ++ le 5 a.endS ++ le 1 a.flags ++
    le 1 (st 0 + 16 * st 1) ++ le 1 (st 2 + 16 * st 3) ++ le 4 a.lengthS ++
    (List.range 4).flatMap fun k => le 4 (match a.streams[k]? with
      | some e => e.2
      | none => 0)

/-- A booked interval's archive records are written once the entry that booked it has committed (R366); writes wait while the store
restarts (R36). A record that
exists already is not written again. -/
def execArchiveWrite (s : State) : Out :=
  match s.tar.waiting.find? fun w => s.regionOn 9 && s.posCommitted w.1 with
  | none => .next s
  | some w =>
    let a := w.2
    let s := { s with tar := { s.tar with waiting := s.tar.waiting.erase w } }
    if s.tar.archive.any fun b => b.slot == a.slot && b.endS == a.endS && b.streams.map Prod.fst == a.streams.map Prod.fst
    then .next s
    else .next (({ s with tar := { s.tar with archive := s.tar.archive ++ [a] } }).count { name := .tarArchived, a := a.tenant })

/-! ### Commands (Table 14-8) -/

/-- TARIFF.PLAN_READ: EffectiveS, plan body, copied time-zone body. -/
def readTariffPlan (plan version : Nat) (c : Caller) (s : State) : Reply :=
  gatedRead [(c.isObserver && s.sees c (s.recTenant Rec.TariffPlan.Active.rid plan), .refusedRole), (c.slots 2, .badLength),
      (decide (plan < 256 ∧ version < 4), .badArgument)]
    (match (s.planVersions plan)[version]? with
     | none => { status := .noPlan }
     | some v => { status := .done, data := le 8 v.effective ++ le 992 v.body ++ le 32 v.tz })

def execTariffPlanRead (ch plan version : Nat) (s : State) : Out :=
  .next (s.readCommand ch .tariffPlanRead (readTariffPlan plan version))

/-- TARIFF.EVALUATE: version used, local time, Dst, season, week profile, special day, day profile, point, rate. -/
def readTariffEvaluate (plan stamp : Nat) (c : Caller) (s : State) : Reply :=
  gatedRead [(c.isObserver && s.sees c (s.recTenant Rec.TariffPlan.Active.rid plan), .refusedRole), (c.slots 2, .badLength),
      (decide (plan < 256), .badArgument)]
    (match s.planAt plan stamp with
     | none => { status := .noPlan }
     | some (v, _) =>
       let h := evalPlan v (stampS stamp)
       { status := .done, slots := [(s.planVersions plan).findIdx (fun w => w == v), slotOf h.localTime, bit h.dst,
           slotOpt h.season, h.week, slotOpt h.special, h.day, slotOpt h.point, h.rate] })

def execTariffEvaluate (ch plan stamp : Nat) (s : State) : Out :=
  .next (s.readCommand ch .tariffEvaluate (readTariffEvaluate plan stamp))

/-- TARIFF.PROFILE_READ: the count of the rows (R504), then as many as `count` rows in End order from the first end on. An archive record follows
a slot that reads 0; a boundary that has passed (R354) and has no record gives a slot that reads 1 (missing) or 2 (expired) and the
end.
(Log entry 40: DESIGN CHOICE.) -/
def readTariffProfile (slot first count : Nat) (c : Caller) (s : State) : Reply :=
  let p := periodS (s.rd Rec.ProfileClass.PeriodCode (s.meter slot).ledgerClass)
  let recs := s.tar.archive.filter fun a => a.slot == slot && decide (first ≤ a.endS)
  let ends := if p = 0 then [] else
    ((List.range count).map fun i => ((first + p - 1) / p + i) * p).filter fun e => decide (e ≤ s.legalS) && !recs.any fun a => a.endS == e
  let rows : List (Nat × List Byte) :=
    recs.map (fun a => (a.endS, le 8 0 ++ a.bytes)) ++
      ends.map fun e => (e, le 8 (if e ≤ Map.getD s.tar.expired slot 0 then 2 else 1) ++ le 8 e)
  let out := (sortBy (fun (x : Nat × List Byte) => (x.1 : Int)) rows).take count
  gatedRead [(c.isObserver && s.sees c (s.meterTenant slot), .refusedRole), (c.slots 3, .badLength),
      (decide (count ≤ 2048), .badArgument), (isMeterSlot slot, .badArgument), (s.meterHere slot, .absentCapacity)]
    { status := .done, data := le 8 out.length ++ out.flatMap Prod.snd }

def execTariffProfileRead (ch slot first count : Nat) (s : State) : Out :=
  .next (s.readCommand ch .tariffProfileRead (readTariffProfile slot first count))

/-- A clock-log entry as bytes (R359). -/
def ClockEntry.bytes (e : ClockEntry) : List Byte :=
  le 4 (e.slot % 2 ^ 20 + e.tenant * 2 ^ 20 + e.kind * 2 ^ 24) ++ le 8 e.old ++ le 8 e.new ++ le 8 e.t9 ++ le 4 0

/-- TARIFF.CLOCKLOG_READ: entries of a tenant's log from a position, and the overwrite count. -/
def readTariffClocklog (tenant first count : Nat) (c : Caller) (s : State) : Reply :=
  let l := ((Map.getD s.tar.clockLog tenant []).drop first).take count
  gatedRead [(c.isObserver && s.sees c tenant, .refusedRole), (c.slots 3, .badLength),
      (decide (tenant < 16 ∧ count ≤ 256), .badArgument), (s.tenantHere tenant, .absentCapacity)]
    { status := .done, data := le 8 l.length ++ l.flatMap ClockEntry.bytes ++ le 8 (s.ctr { name := .tarClockOver, a := tenant }) }

def execTariffClocklogRead (ch tenant first count : Nat) (s : State) : Out :=
  .next (s.readCommand ch .tariffClocklogRead (readTariffClocklog tenant first count))

/-- TARIFF.COUNTERS_READ: a ledger class's counters, or with bit 15 set a tenant's; the evaluations of the plan of the
same number close the class's list. -/
def readTariffCounters (t : Nat) (c : Caller) (s : State) : Reply :=
  let k (x : CtrName) (a : Nat) : Nat := s.ctr { name := x, a := a }
  let ten := t - 0x8000
  let ok := if 0x8000 ≤ t then decide (ten < 16) else decide (t < 256)
  gatedRead [(c.isObserver && s.sees c (if 0x8000 ≤ t then ten else s.classTenant t), .refusedRole), (c.slots 1, .badLength),
      (ok, .badArgument), (if 0x8000 ≤ t then s.tenantHere ten else true, .absentCapacity)]
    { status := .done, slots := if 0x8000 ≤ t then [k .tarArchived ten, k .tarReclaimed ten, k .tarClockOver ten]
      else [k .tarBooked t, k .tarSkipped t, k .tarMissing t, k .tarSplits t, k .tarMerged t, k .tarSuspect t,
            k .tarIgnored t, k .tarEval t] }

def execTariffCountersRead (ch target : Nat) (s : State) : Out :=
  .next (s.readCommand ch .tariffCountersRead (readTariffCounters target))

end Sys2Proof.Machine
end

