-- ==== Sys2Proof/Machine/Registers.lean ====
section
/-! DEFINITION. Chapter 13: register items, the rollover rule, reconciliation, the order of a meter's ledger, and the
ledger's commands and records (R333 to R353). Applying a frame is in Ledger.lean. -/

namespace Sys2Proof.Machine

open Sys2Proof

/-! ### Streams (Table 13-3) -/

/-- The stream a rate stream of a class names, where it is valid: RsValid, a stream in mode 1, and not the one rate stream
0 already names. -/
def State.rateStream (s : State) (k n : Nat) : Option Nat :=
  let st (n : Nat) : Nat := 2 * s.rd (Rec.LedgerClass.RsQ n) k + s.rd (Rec.LedgerClass.RsD n) k
  let ok (n : Nat) : Bool := s.rdB (Rec.LedgerClass.RsValid n) k && s.classMode k (st n) == 1
  if 2 ≤ n ∨ ¬ok n then none
  else if n = 1 ∧ s.rdB (Rec.LedgerClass.RsValid 0) k ∧ st 0 = st 1 then none
  else some (st n)

/-- The rate stream on a stream. -/
def State.streamRs (s : State) (k stream : Nat) : Option Nat := [0, 1].find? fun n => s.rateStream k n == some stream

/-- The mode a stream works in: a mode-1 stream that no rate stream names works as mode 2. -/
def State.streamMode (s : State) (k stream : Nat) : Nat :=
  if s.classMode k stream = 1 ∧ (s.streamRs k stream).isNone then 2 else s.classMode k stream

/-- RegBits of a stream's quantity. -/
def State.regBits (s : State) (k stream : Nat) : Nat := s.rd (Rec.LedgerClass.RegBits (stream / 2)) k

/-- ScaleMilli of a stream's quantity. -/
def State.scale (s : State) (k stream : Nat) : Nat := s.rd (Rec.LedgerClass.ScaleMilli (stream / 2)) k

/-! ### Register values of a frame (R333, R334) -/

/-- What a register value is for: the total of a stream, or rate r of a rate stream. -/
inductive RegTarget where
  | total (stream : Nat)
  | rate (rs r : Nat)
  deriving DecidableEq, Repr

/-- The values a frame carries, and those ignored with the ItemType or RecordMap index and the cause: 0 reserved type, 1
stream in mode 0, 2 no such rate stream, 3 value too large, 4 length. -/
structure RegRead where
  vals : List (RegTarget × Nat) := []
  ignored : List (Nat × Nat) := []
  deriving DecidableEq, Repr

/-- One register value checked for a class. -/
def State.takeReg (s : State) (k : Nat) (acc : RegRead) (idx : Nat) (t : RegTarget) (v : Nat) : RegRead :=
  let skip (c : Nat) : RegRead := { acc with ignored := acc.ignored ++ [(idx, c)] }
  match t with
  | .total st =>
    if s.classMode k st = 0 then skip 1
    else if 2 ^ s.regBits k st ≤ v then skip 3 else { acc with vals := acc.vals ++ [(t, v)] }
  | .rate rs _ =>
    match s.rateStream k rs with
    | none => skip 2
    | some st => if 2 ^ s.regBits k st ≤ v then skip 3 else { acc with vals := acc.vals ++ [(t, v)] }

/-- The register items of a Lea or Ling frame (Table 13-4). -/
def State.readRegs (s : State) (k : Nat) (items : List Item) : RegRead :=
  ((firstOfType items).filter fun it => decide (1 ≤ it.1 ∧ it.1 < 0x40)).foldl (fun acc it =>
    let v := ofLe it.2
    let skip (c : Nat) : RegRead := { acc with ignored := acc.ignored ++ [(it.1, c)] }
    if it.2.length = 0 ∨ 8 < it.2.length then skip 4
    else if it.1 ≤ 8 then s.takeReg k acc it.1 (.total (it.1 - 1)) v
    else if 0x11 ≤ it.1 ∧ it.1 ≤ 0x20 then s.takeReg k acc it.1 (.rate ((it.1 - 0x11) / 8) ((it.1 - 0x11) % 8 + 1)) v
    else skip 0) {}

/-- A data record of EN 13757-3: DIF, first DIFE (0 where none), first VIF, and its value where it is an integer or BCD
field that R334 matches. -/
structure DataRec where
  dif : Nat
  dife : Nat
  vif : Nat
  value : Option Nat
  deriving DecidableEq, Repr

/-- The bytes after a chain of extension bytes: those that follow a byte with bit 7 set. -/
def skipExt : Nat → List Byte → List Byte
  | 0, l => l
  | n + 1, l =>
    match l with
    | b :: t => if bitOn b.toNat 7 then skipExt n t else t
    | [] => []

/-- The data length of a DIF's low nibble, and whether the field is BCD; none where the field is not read. -/
def dataField (code : Nat) : Option (Nat × Bool) :=
  match code with
  | 1 => some (1, false) | 2 => some (2, false) | 3 => some (3, false) | 4 => some (4, false) | 6 => some (6, false)
  | 7 => some (8, false) | 9 => some (1, true) | 10 => some (2, true) | 11 => some (3, true) | 12 => some (4, true)
  | 14 => some (6, true)
  | _ => none

/-- The number of a BCD field; none where it is negative or holds no decimal digits. -/
def bcdValue (l : List Byte) : Option Nat :=
  let ds := l.reverse.flatMap fun b => [b.toNat / 16, b.toNat % 16]
  if ds.all fun d => decide (d ≤ 9) then some (ds.foldl (fun a d => 10 * a + d) 0) else none

/-- The data records of application data, within a bound on their number. Idle fillers are skipped; manufacturer-specific
data ends the walk; variable-length fields are stepped over. -/
def dataRecords : Nat → List Byte → List DataRec
  | 0, _ => []
  | n + 1, l =>
    match l with
    | [] => []
    | d :: t =>
      let dif := d.toNat
      if dif = 0x2F then dataRecords n t
      else if dif % 16 = 15 then []
      else
        let ext := bitOn dif 7
        let dife := if ext then leAt t 0 1 else 0
        let t := if ext then skipExt n t else t
        match t with
        | [] => []
        | v :: t =>
          let vif := v.toNat
          let t := if bitOn vif 7 then skipExt n t else t
          let t := if vif % 128 = 0x7C then t.drop (1 + leAt t 0 1) else t
          let code := dif % 16
          match dataField code with
          | some (w, bcd) =>
            if t.length < w then []
            else
              let val := if vif % 128 = 0x7F then none else if bcd then bcdValue (t.take w) else some (ofLe (t.take w))
              ⟨dif, dife, vif, val⟩ :: dataRecords n (t.drop w)
          | none =>
            let w := if code = 5 then 4 else if code = 13 then
                (let lv := leAt t 0 1
                 1 + (if lv < 0xC0 then lv else if lv < 0xD0 then lv - 0xC0 else if lv < 0xE0 then lv - 0xD0
                   else if lv < 0xF0 then lv - 0xE0 else 0)) else 0
            ⟨dif, dife, vif, none⟩ :: dataRecords n (t.drop w)

/-- The RecordMap entry a data record matches (R334). -/
def State.mapEntry (s : State) (k : Nat) (d : DataRec) : Option Nat :=
  (List.range 16).find? fun i =>
    s.rdB (Rec.LedgerClass.MapValid i) k &&
      decide (d.dif &&& s.rd (Rec.LedgerClass.MapDifMask i) k = s.rd (Rec.LedgerClass.MapDif i) k ∧
        d.dife = s.rd (Rec.LedgerClass.MapDife i) k ∧ d.vif = s.rd (Rec.LedgerClass.MapVif i) k)

/-- The register values of wireless M-Bus application data (R334): the first record that matches an entry supplies it. -/
def State.readRecords (s : State) (k : Nat) (app : List Byte) : RegRead :=
  ((dataRecords app.length app).foldl (fun (acc : List Nat × RegRead) d =>
    match d.value, s.mapEntry k d with
    | some v, some i =>
      if acc.1.contains i then acc
      else
        let st := 2 * s.rd (Rec.LedgerClass.MapQ i) k + s.rd (Rec.LedgerClass.MapD i) k
        let r := s.rd (Rec.LedgerClass.MapRate i) k
        if r = 0 then (i :: acc.1, s.takeReg k acc.2 i (.total st) v)
        else match s.streamRs k st with
          | some rs => (i :: acc.1, s.takeReg k acc.2 i (.rate rs r) v)
          | none => (i :: acc.1, { acc.2 with ignored := acc.2.ignored ++ [(i, 2)] })
    | _, _ => acc) ([], {})).2

/-! ### The rollover rule (R337) -/

/-- What R337 makes of a register value. -/
inductive Advance where
  | normal (delta : Nat)
  | rollover (delta : Nat)
  | back
  deriving DecidableEq, Repr

/-- A register value compared with its baseline over a width. -/
def classify (width maxDelta base v : Nat) : Advance :=
  let m := min (if maxDelta = 0 then 2 ^ (width - 1) else maxDelta) (2 ^ width - 1)
  let d := (v + 2 ^ width - base % 2 ^ width) % 2 ^ width
  if m < d then .back else if base ≤ v then .normal d else .rollover d

/-- The advance of a value that did not run back. -/
def Advance.delta : Advance → Nat
  | .normal d => d | .rollover d => d | .back => 0

/-- A total of a record raised. -/
def MeterRec.book (r : MeterRec) (stream rate milli : Nat) : MeterRec :=
  { r with total := Map.upd r.total (8 * stream + rate - 1) 0 (· + milli) }

/-- A total booked and noted for the export record. -/
def Applying.book (a : Applying) (stream rate milli : Nat) : Applying :=
  let t := (stream / 2, stream % 2, rate)
  { a with r := a.r.book stream rate milli, totals := if a.totals.contains t then a.totals else a.totals ++ [t] }

/-- A rollover that is booked (R337). -/
def Applying.rolled (a : Applying) (slot stream rate old new : Nat) : Applying :=
  { a with r := a.r.bump 6, s := a.s.raise .ledgerRollover a.r.tenant [slot, stream, rate, old, new] }

/-- A total-register value (R338). -/
def Applying.totalReg (a : Applying) (slot stream v : Nat) : Applying :=
  let k := a.r.ledgerClass
  let old := Map.getD a.r.regTotal stream 0
  let set (a : Applying) : Applying := { a with r := { a.r with regTotal := Map.put a.r.regTotal stream v } }
  if !bitOn a.r.baselineTotal stream then
    set { a with r := { a.r with baselineTotal := setBits a.r.baselineTotal stream 1 1 } }
  else match classify (a.s.regBits k stream) (a.s.rd Rec.LedgerClass.MaxDelta k) old v with
    | .back =>
      set { a with r := a.r.bump 7, s := a.s.raise .ledgerRegisterBack a.r.tenant [slot, stream, 0, old, v, noValue, noValue] }
    | .normal d => set (if a.s.streamMode k stream = 3 then a.book stream 1 (d * a.s.scale k stream) else a)
    | .rollover d =>
      set (if a.s.streamMode k stream = 3 then (a.rolled slot stream 0 old v).book stream 1 (d * a.s.scale k stream) else a)

/-! ### Intervals (R339) -/

/-- The interval flags that break the fall-back (Table 14-3): bits 0, 4, 5, 6. -/
def breaksFb (flags : Nat) : Bool := bitOn flags 0 || bitOn flags 4 || bitOn flags 5 || bitOn flags 6

/-- One stream of a booked interval. -/
def Applying.bookStream (a : Applying) (rate : Nat) (ratedFlags : Nat) (missing : Bool) (e : Nat × Nat × Nat) : Applying :=
  let k := a.r.ledgerClass
  match a.s.streamRs k e.1 with
  | some rs =>
    if a.s.streamMode k e.1 = 1 then
      let i := 8 * rs + rate - 1
      let sum := Map.getD a.r.fb i 0 + e.2.1
      let broke := missing || breaksFb (e.2.2 ||| ratedFlags) || decide (0xFFFFFFFF < sum)
      { a with r := { a.r with
        fb := Map.put a.r.fb i (min sum 0xFFFFFFFF),
        fbBroken := if broke then setBits a.r.fbBroken rs 1 1 else a.r.fbBroken } }
    else a
  | none => if a.s.streamMode k e.1 = 2 then a.book e.1 rate (e.2.1 * a.s.scale k e.1) else a

/-- The streams of an interval that miss a period before it (R360), given each stream's previous end.
(Log entry 40: DESIGN CHOICE.) -/
def missingStreams (i : Interval) (prev : Map Nat Nat) : List Nat :=
  if i.partB then []
  else (i.incs.filter fun e => match Map.get? prev e.1 with
    | some stop => decide (stop < i.start)
    | none => false).map Prod.fst

/-- The previous end of each stream as a frame finds it: ProfileEnd, and none where that is 0.
(Log entry 40: DESIGN CHOICE.) -/
def prevEnds (profileEnd : Nat) : Map Nat Nat := if profileEnd = 0 then [] else (List.range 8).map fun n => (n, profileEnd)

/-- One interval in time order: booked, or skipped where it ends at or before ProfileEnd. `prev` holds each stream's
previous end. -/
def Applying.interval (slot t9 : Nat) (x : Applying × Map Nat Nat × List (Interval × Rated)) (i : Interval) :
    Applying × Map Nat Nat × List (Interval × Rated) :=
  let (a, prev, done) := x
  let k := a.r.ledgerClass
  if i.stop ≤ a.r.profileEnd then ({ a with s := a.s.count { name := .tarSkipped, a := k } }, prev, done)
  else
    let miss := missingStreams i prev
    let (rated, s) := a.s.rateInterval slot t9 a.r i
    let s := s.count { name := .tarBooked, a := k }
    let s := if miss.isEmpty then s else s.count { name := .tarMissing, a := k } miss.length
    let a := i.incs.foldl (fun a e => a.bookStream rated.rate rated.flags (miss.contains e.1) e) { a with s := s }
    let a := { a with profile := a.profile ++ a.s.archRecords slot a.r i rated, r := { a.r with profileEnd := i.stop } }
    (a, i.incs.foldl (fun m e => Map.put m e.1 i.stop) prev, done ++ [(i, rated)])

/-! ### Reconciliation (R340 to R344) -/

/-- The outcomes of Table 13-5, in its order. -/
inductive Recon where
  | back | main | fallback | agreed | unchecked | disputed
  deriving DecidableEq, Repr

/-- The position of an outcome. -/
def Recon.code : Recon → Nat
  | .back => 0 | .main => 1 | .fallback => 2 | .agreed => 3 | .unchecked => 4 | .disputed => 5

/-- The dispute of a rate cleared, with its held resolutions. -/
def MeterRec.clearDispute (r : MeterRec) (i : Nat) : MeterRec :=
  { r with disputeMask := setBits r.disputeMask i 1 0, resolveMain := setBits r.resolveMain i 1 0,
           resolveFb := setBits r.resolveFb i 1 0, lastRate := Map.del r.lastRate i }

/-- The baseline of a rate set anew, its fall-back at 0. -/
def MeterRec.rebase (r : MeterRec) (i v : Nat) : MeterRec :=
  { r with regRate := Map.put r.regRate i (v % 2 ^ 32), fb := Map.put r.fb i 0 }

/-- ΔM and ΔF of a rate for a register value. -/
def State.candidates (s : State) (r : MeterRec) (rs rate v : Nat) : Nat × Nat :=
  let st := (s.rateStream r.ledgerClass rs).getD 0
  let i := 8 * rs + rate - 1
  let w := min (s.regBits r.ledgerClass st) 32
  let d := (classify w (s.rd Rec.LedgerClass.MaxDelta r.ledgerClass) (Map.getD r.regRate i 0) (v % 2 ^ w)).delta
  (d * s.scale r.ledgerClass st, Map.getD r.fb i 0 * s.scale r.ledgerClass st)

/-- A rate-register value reconciled (R340, R341). -/
def Applying.rateReg (a : Applying) (slot time rs rate v : Nat) : Applying :=
  let k := a.r.ledgerClass
  match a.s.rateStream k rs with
  | none => a
  | some st =>
    let i := 8 * rs + rate - 1
    let w := min (a.s.regBits k st) 32
    let v' := v % 2 ^ w
    let old := Map.getD a.r.regRate i 0
    if !bitOn a.r.baselineRate i then
      { a with r := { a.r.rebase i v with baselineRate := setBits a.r.baselineRate i 1 1 } }
    else
      let adv := classify w (a.s.rd Rec.LedgerClass.MaxDelta k) old v'
      let dm := adv.delta * a.s.scale k st
      let df := Map.getD a.r.fb i 0 * a.s.scale k st
      let t := max (a.s.rd Rec.LedgerClass.ToleranceAbsMilli k) (a.s.rd Rec.LedgerClass.TolerancePermille k * max dm df / 1000)
      let checked := !bitOn a.r.fbBroken rs && decide (time ≤ a.r.profileEnd + a.s.rd Rec.LedgerClass.ReconcileLagS k * 2 ^ 24)
      let open' := bitOn a.r.disputeMask i
      let near := decide (((dm : Int) - df).natAbs ≤ t)
      let outcome : Recon :=
        if adv = .back then .back
        else if bitOn a.r.resolveMain i then .main
        else if bitOn a.r.resolveFb i then .fallback
        else if checked ∧ near then .agreed
        else if !checked ∧ !open' then .unchecked
        else .disputed
      let a := { a with s := a.s.count { name := .ledRecon, a := k, b := outcome.code } }
      let closed (a : Applying) (milli : Nat) : Applying :=
        if open' then { a with s := a.s.raise .ledgerDisputeClosed a.r.tenant [slot, rs, rate, outcome.code, milli] } else a
      let bookAmount (milli : Nat) : Applying :=
        let a := match adv with
          | .rollover _ => a.rolled slot st rate old v'
          | _ => a
        let a := a.book st rate milli
        closed { a with r := { (a.r.rebase i v).clearDispute i with
          fbBroken := setBits a.r.fbBroken rs 1 0, lastReconcile := time } } milli
      match outcome with
      | .back =>
        let a := { a with
          r := (a.r.bump 7),
          s := a.s.raise .ledgerRegisterBack a.r.tenant [slot, st, rate, old, v', dm, df] }
        closed { a with r := (a.r.rebase i v).clearDispute i } 0
      | .main => bookAmount dm
      | .fallback => bookAmount df
      | .agreed => bookAmount dm
      | .unchecked => bookAmount dm
      | .disputed =>
        let t := (st / 2, st % 2, rate)
        let a := { a with
          r := { a.r with lastRate := Map.put a.r.lastRate i v' }, totals := if a.totals.contains t then a.totals else a.totals ++ [t] }
        if open' then a
        else
          { a with
            r := { a.r.bump 8 with disputeMask := setBits a.r.disputeMask i 1 1 },
            s := a.s.raise .ledgerDisputeOpened a.r.tenant [slot, rs, rate, dm, df] }

/-! ### Export items of totals (R624) -/

/-- An item 0x01. -/
def State.totalItem (s : State) (r : MeterRec) (q d rate source value : Nat) : List Byte :=
  exportItem 1 (le 6 (s.rd (Rec.LedgerClass.Obis q) r.ledgerClass) ++ le 1 d ++ le 1 rate ++ le 1 source ++ le 8 value)

/-- The total of a quantity, direction and rate. -/
def MeterRec.totalOf (r : MeterRec) (q d rate : Nat) : Nat := Map.getD r.total (16 * q + 8 * d + rate - 1) 0

/-- The main and fall-back candidates of a disputed rate of a stream. -/
def State.disputePair (s : State) (r : MeterRec) (q d rate : Nat) : Option (Nat × Nat) :=
  match s.streamRs r.ledgerClass (2 * q + d) with
  | none => none
  | some rs =>
    let i := 8 * rs + rate - 1
    if bitOn r.disputeMask i then
      let (m, f) := s.candidates r rs rate (Map.getD r.lastRate i 0)
      some (r.totalOf q d rate + m, r.totalOf q d rate + f)
    else none

/-- The items 0x01 of one rate: candidates where it is disputed, and otherwise the booked total. -/
def State.rateItems (s : State) (r : MeterRec) (q d rate : Nat) : List Byte :=
  match s.disputePair r q d rate with
  | some (m, f) => s.totalItem r q d rate 1 m ++ s.totalItem r q d rate 2 f
  | none => s.totalItem r q d rate 0 (r.totalOf q d rate)

/-- The content of a close export: every total with Source 0, and the candidates of every open dispute (R349, R624). -/
def State.closeContent (s : State) (r : MeterRec) : List Byte :=
  (List.range 64).flatMap fun n =>
    let (q, d, rate) := (n / 16, n / 8 % 2, n % 8 + 1)
    s.totalItem r q d rate 0 (r.totalOf q d rate) ++ (match s.disputePair r q d rate with
      | some (m, f) => s.totalItem r q d rate 1 m ++ s.totalItem r q d rate 2 f
      | none => [])

/-! ### The order of a meter's ledger (R349, R351) -/

/-- A record as it starts under a binding.
(Log entry 75: DEDUCED.) -/
def State.freshRecord (s : State) (slot : Nat) (tenant : Nat) : MeterRec :=
  { active := true, tenant := tenant, keyGen := 1, assignedAt := s.stamp,
    ledgerClass := s.rd Rec.LedgerMeter.LedgerClass slot, plan := s.rd Rec.LedgerMeter.Plan slot,
    zone := s.rd Rec.LedgerMeter.Zone slot, zoneAssigned := s.rdB Rec.LedgerMeter.ZoneAssigned slot }

/-- A close (R349): the close export with the final totals, `ledger.meter_closed`, and the record restarted or
unassigned. The frame ring is cleared with it (R282).
(Log entry 75: DEDUCED.) -/
def State.closeMeter (s : State) (slot cause : Nat) (again : Option Nat) : State :=
  let r := s.meter slot
  if !r.active then s
  else
    let content := s.closeContent r
    let r' := match again with
      | some t => { s.freshRecord slot t with journalSeq := r.journalSeq }
      | none => { journalSeq := r.journalSeq }
    let s := (s.killTokens slot).commitMeter slot r'
    let s := s.addExport 2 r.tenant slot s.stamp r.gap (decide (r.disputeMask ≠ 0)) content
    let s := { s with led := { s.led with rings := Map.del s.led.rings slot } }
    (s.count { name := .ledCloses, a := r.tenant }).raise .ledgerMeterClosed r.tenant [slot, r.tenant, cause]

/-- Work of a meter's ledger order other than a frame, done. -/
def State.runJob (s : State) (slot : Nat) : LedgerJob → State
  | .frame _ => s
  | .close cause again => s.closeMeter slot cause again
  | .rekey =>
    let s := s.killTokens slot
    s.commitMeter slot { s.meter slot with lastCounter := 0, downCtr := 0, tokenSeq := 0, tokenAck := 0 }
  | .copy cls plan zone assigned =>
    let r := s.meter slot
    let r := if cls ≠ r.ledgerClass then
        { r with ledgerClass := cls, baselineTotal := 0, baselineRate := 0, fb := [], fbBroken := 0 } else r
    if r.active then s.commitMeter slot { r with plan := plan, zone := zone, zoneAssigned := assigned } else s
  | .balance milli => if (s.meter slot).active then s.commitMeter slot { s.meter slot with credit := milli } else s
  | .opening tenant =>
    if (s.meter slot).active then s else s.commitMeter slot { s.freshRecord slot tenant with journalSeq := (s.meter slot).journalSeq }

/-- A change that takes its place in a meter's ledger order: done at once where nothing of the meter waits, and otherwise
queued behind it.
(Log entry 75: DEDUCED.) -/
def State.ledgerChange (s : State) (slot : Nat) (j : LedgerJob) : State :=
  if s.meterQueued slot then s.enqueue (s.meter slot).tenant slot j else s.runJob slot j

/-- A new key generation of a meter (R176, R283): g advances at once, and the counters return to 0 in the ledger order. -/
def State.advanceKeyGen (s : State) (slot : Nat) : State :=
  let r := s.meter slot
  let s := { s with led := { s.led with meters := Map.put s.led.meters slot { r with keyGen := r.keyGen + 1 } } }
  let s := { s with
    lea := { s.lea with downRaised := s.lea.downRaised.filter (· ≠ slot) },
    sec := { s.sec with tombs := s.sec.tombs.filter fun t => t.1 ≠ slot } }
  s.ledgerChange slot .rekey

/-! ### Commands (Table 13-9) -/

/-- LEDGER.METER_READ: the record of Table 13-1. -/
def readLedgerMeter (slot : Nat) (c : Caller) (s : State) : Reply :=
  gatedRead (s.meterReadChecks c slot 1) { status := .done, data := (s.meter slot).bytes slot }

def execLedgerMeterRead (ch slot : Nat) (s : State) : Out := .next (s.readCommand ch .ledgerMeterRead (readLedgerMeter slot))

/-- LEDGER.TOTALS_READ: per quantity, direction and rate: OBIS, total, and the candidates where disputed. -/
def readLedgerTotals (slot q : Nat) (c : Caller) (s : State) : Reply :=
  let r := s.meter slot
  let qs := if q = 0xFF then [0, 1, 2, 3] else [q]
  gatedRead [(c.isObserver && s.sees c (s.meterTenant slot), .refusedRole), (c.slots 2, .badLength),
      (decide (q < 4 ∨ q = 0xFF), .badArgument), (isMeterSlot slot, .badArgument), (s.meterHere slot, .absentCapacity)]
    { status := .done, slots := qs.flatMap fun q => [0, 1].flatMap fun d => (List.range 8).flatMap fun n =>
        [s.rd (Rec.LedgerClass.Obis q) r.ledgerClass, r.totalOf q d (n + 1)] ++
          (match s.disputePair r q d (n + 1) with
           | some (m, f) => [m, f]
           | none => [noValue, noValue]) }

def execLedgerTotalsRead (ch slot quantity : Nat) (s : State) : Out :=
  .next (s.readCommand ch .ledgerTotalsRead (readLedgerTotals slot quantity))

/-- LEDGER.DISPUTE_LIST: the disputed meters of a tenant from a slot on. -/
def readDisputeList (tenant first count : Nat) (c : Caller) (s : State) : Reply :=
  let l := (sortBy (fun (x : Nat) => (x : Int)) ((s.led.meters.filter fun e =>
    e.2.active && e.2.tenant == tenant && decide (e.2.disputeMask ≠ 0 ∧ first ≤ e.1)).map Prod.fst)).take count
  gatedRead [(c.isObserver && s.sees c tenant, .refusedRole), (c.slots 3, .badLength),
      (decide (tenant < 16 ∧ count ≤ 256) && isMeterSlot first, .badArgument), (s.tenantHere tenant && s.meterHere first, .absentCapacity)]
    { status := .done, slots := l.length :: l.flatMap fun slot =>
        let r := s.meter slot
        [slot, r.disputeMask] ++ (List.range 16).map (fun i => Map.getD r.regRate i 0) ++
          (List.range 16).map (fun i => Map.getD r.fb i 0) ++ [r.resolveMain, r.resolveFb] }

def execLedgerDisputeList (ch tenant first count : Nat) (s : State) : Out :=
  .next (s.readCommand ch .ledgerDisputeList (readDisputeList tenant first count))

/-- LEDGER.DISPUTE_RESOLVE: a resolution is held for the rates named, or withdrawn (R344). -/
def runDisputeResolve (slot rs mask choice : Nat) (c : Caller) (s : State) : Reply × State :=
  let r := s.meter slot
  let bits := (maskBits 8 mask).map (8 * rs + ·)
  gated s [(c.isOwner (s.meterTenant slot), .refusedRole), (c.slots 4, .badLength),
      (decide (rs ≤ 1 ∧ mask < 256 ∧ choice ≤ 2), .badArgument), (isMeterSlot slot, .badArgument), (s.meterHere slot, .absentCapacity), s.notReleasing (s.meterTenant slot),
      (!bits.isEmpty && bits.all (bitOn r.disputeMask), .noDispute)] fun s =>
    let r := bits.foldl (fun (r : MeterRec) i => { r with
      resolveMain := setBits r.resolveMain i 1 (bit (decide (choice = 0))),
      resolveFb := setBits r.resolveFb i 1 (bit (decide (choice = 1))) }) r
    ({ status := .deferred }, s.commitMeter slot r)

def execLedgerDisputeResolve (ch slot rateStream mask choice : Nat) (s : State) : Out :=
  .next (s.commitCommand ch .ledgerDisputeResolve (runDisputeResolve slot rateStream mask choice))

/-- LEDGER.REBASE: the named baselines are cleared, the fall-back of the rates with them. -/
def runLedgerRebase (slot totals rates : Nat) (c : Caller) (s : State) : Reply × State :=
  let r := s.meter slot
  gated s (s.meterOwnChecks c slot 3 ++
      [s.notReleasing (s.meterTenant slot), ((maskBits 16 rates).all fun i => !bitOn r.disputeMask i, .disputeOpen)]) fun s =>
    let r := (maskBits 8 totals).foldl (fun (r : MeterRec) i => { r with baselineTotal := setBits r.baselineTotal i 1 0 }) r
    let r := (maskBits 16 rates).foldl (fun (r : MeterRec) i => { r with
      baselineRate := setBits r.baselineRate i 1 0, fb := Map.put r.fb i 0 }) r
    ({ status := .done }, s.commitMeter slot r)

def execLedgerRebase (ch slot totals rates : Nat) (s : State) : Out :=
  .next (s.commitCommand ch .ledgerRebase (runLedgerRebase slot totals rates))

/-- LEDGER.GAP_CLEAR: Gap becomes 0. -/
def runLedgerGapClear (slot : Nat) (c : Caller) (s : State) : Reply × State :=
  gated s (s.meterOwnChecks c slot 1 ++ [((s.meter slot).gap, .refusedState), s.notReleasing (s.meterTenant slot)]) fun s =>
    ({ status := .done }, s.commitMeter slot { s.meter slot with gap := false })

def execLedgerGapClear (ch slot : Nat) (s : State) : Out := .next (s.commitCommand ch .ledgerGapClear (runLedgerGapClear slot))

/-- The unit address of a record engine's cell: region 8, 4 blocks of 8 cells. -/
def engineUnit (e : Nat) : Nat := 8 * 4096 + e / 8 * 64 + e % 8

/-- LEDGER.ENGINES_READ: per engine state (0 in service, 1 fenced), applications, reissues; per tenant queue depth, no
value where the tenant is out of scope. -/
def readLedgerEngines (c : Caller) (s : State) : Reply :=
  gatedRead [(c.isObserver, .refusedRole), (c.slots 0, .badLength)]
    { status := .done, slots := ((List.range 32).flatMap fun e =>
          [bit (Map.getD s.arch.cells (engineUnit e) {}).fenced, s.ctr { name := .ledEngApp, a := e },
           s.ctr { name := .ledEngReissue, a := e }]) ++
        (List.range 16).map fun t => if s.sees c t then (Map.getD s.led.queues t []).length else noValue }

def execLedgerEnginesRead (ch : Nat) (s : State) : Out := .next (s.readCommand ch .ledgerEnginesRead readLedgerEngines)

/-- LEDGER.COUNTERS_READ: a tenant's counters, or with bit 15 set a ledger class's. -/
def readLedgerCounters (t : Nat) (c : Caller) (s : State) : Reply :=
  let k (x : CtrName) (a b : Nat) : Nat := s.ctr { name := x, a := a, b := b }
  let cls := t - 0x8000
  let ok := if 0x8000 ≤ t then decide (cls < 256) else decide (t < 16)
  gatedRead [(c.isObserver && s.sees c (if 0x8000 ≤ t then s.classTenant cls else t), .refusedRole), (c.slots 1, .badLength),
      (ok, .badArgument), (if 0x8000 ≤ t then true else s.tenantHere t, .absentCapacity)]
    { status := .done, slots := if 0x8000 ≤ t then (List.range 6).map (fun o => k .ledRecon cls o) ++ [k .ledIgnored cls 0]
      else [k .ledApplied t 0, k .ledOld t 0, k .ledCloses t 0] }

def execLedgerCountersRead (ch target : Nat) (s : State) : Out :=
  .next (s.readCommand ch .ledgerCountersRead (readLedgerCounters target))

/-! ### Records (R350, R351, R391) -/

/-- The ledger class record (R350). -/
def ruleLedgerClass : RecordRule where
  owner _ _ := .header
  writer _ c t _ := c.isOwner t

def execLedgerClassRecord (tenant inst : Nat) (body : List Byte) (s : State) : Out :=
  .next (s.applyRecord ruleLedgerClass Schema.LedgerClass tenant inst body)

/-- Whether a write of a ledger meter record would move the meter out of the zones of a holding input (R602). -/
def State.leavesLockout (s : State) (slot body : Nat) : Bool :=
  (List.range 16).any fun i => s.covers i slot && s.holding i && !s.rdB Rec.LockoutInput.AllMeters i &&
    !(Rec.LedgerMeter.ZoneAssigned.on body && lockZone (s.lockBody i) (Rec.LedgerMeter.Zone.of body))

/-- The ledger meter record (R351, R602). -/
def ruleLedgerMeter : RecordRule where
  owner s i := .object (s.meterTenant i)
  writer _ c t _ := c.isOwner t
  absent s i b :=
    if !s.meterHere i then some .absentCapacity
    else if !s.lineHere then (if Rec.LedgerMeter.ZoneAssigned.on b then some .absentUnit else none)
    else if s.zones ≤ Rec.LedgerMeter.Zone.of b then some .absentCapacity else none
  blames s i _ := if !s.meterHere i then none else if s.lineHere then some Rec.LedgerMeter.Zone else some Rec.LedgerMeter.ZoneAssigned
  check s _ i old b :=
    if Rec.LedgerMeter.LedgerClass.of old ≠ Rec.LedgerMeter.LedgerClass.of b ∧ (s.meter i).disputeMask ≠ 0 then some .disputeOpen
    else if s.leavesLockout i b then some .refusedSafety else none
  effect s _ i _ b := s.ledgerChange i (.copy (Rec.LedgerMeter.LedgerClass.of b) (Rec.LedgerMeter.Plan.of b)
    (Rec.LedgerMeter.Zone.of b) (Rec.LedgerMeter.ZoneAssigned.on b))

def execLedgerMeterRecord (tenant inst : Nat) (body : List Byte) (s : State) : Out :=
  .next (s.applyRecord ruleLedgerMeter Schema.LedgerMeter tenant inst body)

/-- The prepay meter record (R391). -/
def rulePrepayMeter : RecordRule where
  owner s i := .object (s.meterTenant i)
  writer _ c t _ := c.isOwner t
  absent s i _ := if s.meterHere i then none else some .absentCapacity
  check s _ i _ b := if Rec.PrepayMeter.Enabled.on b && !s.leaMeter i then some .refusedState else none
  effect s _ i old b :=
    if !Rec.PrepayMeter.Enabled.on old && Rec.PrepayMeter.Enabled.on b then
      s.ledgerChange i (.balance (Rec.PrepayMeter.OpeningBalanceMilli.int b)) else s

def execPrepayMeterRecord (tenant inst : Nat) (body : List Byte) (s : State) : Out :=
  .next (s.applyRecord rulePrepayMeter Schema.PrepayMeter tenant inst body)

end Sys2Proof.Machine
end

