-- ==== Sys2Proof/Machine/Time.lean ====
section
/-! DEFINITION. Chapter 19: legal time, air time, the servo, references and conversions (R480 to R502). -/

namespace Sys2Proof.Machine

open Sys2Proof

/-! ### The tick -/

/-- Legal and air time advanced by `ticks` ticks of 4 ns (R480): each by its increment, a 32.32 value. -/
def State.advance (s : State) (ticks : Nat) : State :=
  let l := s.time.legalNs * 2 ^ 32 + s.time.legalFrac + ticks * s.time.inc
  let a := s.time.air * 2 ^ 32 + s.time.airFrac + ticks * s.time.airInc
  { s with time := { s.time with
    legalNs := l / 2 ^ 32 % 2 ^ 64, legalFrac := l % 2 ^ 32, air := a / 2 ^ 32 % 2 ^ 64, airFrac := a % 2 ^ 32 } }

/-! ### States (R484, R491) -/

/-- Legal time changes state: `time.state` is raised, and entries to HOLDOVER and FREE are counted. -/
def State.setTime (s : State) (t : TimeSt) : State :=
  if s.time.st = t then s else
    let old := s.time.st
    let s := { s with time := { s.time with
      st := t, holdoverMs := s.time.ms, lockRun := 0, unlockRun := 0, lockedReached := s.time.lockedReached || decide (t = TimeSt.locked) } }
    let s := match t with
      | .holdover => s.count { name := .timeHoldovers }
      | .free => s.count { name := .timeFrees }
      | _ => s
    s.raise .timeState 0 [old.code, t.code, slotOpt s.time.selected]

/-- HoldoverS passes in HOLDOVER and legal time enters FREE (R491). -/
def execHoldoverTimeout (s : State) : Out :=
  if s.time.st = .holdover ∧ s.time.holdoverMs + 1000 * s.rd Rec.TimePolicy.HoldoverS ≤ s.time.ms then
    .next (s.setTime .free)
  else .next s

/-! ### References (R488 to R490) -/

/-- A reference. -/
def State.ref (s : State) (i : Nat) : RefSt := Map.getD s.time.refs i {}

/-- The state with a reference set. -/
def State.setRef (s : State) (i : Nat) (r : RefSt) : State := { s with time := { s.time with refs := Map.put s.time.refs i r } }

/-- The filtered sample of a reference's recent ones: PPS the last edge, PTP the smallest path delay of the last second,
NTP the smallest delay of the last 8 samples (R489). -/
def filterSamples (kind ms : Nat) (l : List (Int × Nat × Nat)) : Option (Int × Nat × Nat) :=
  match kind with
  | 1 => l.head?
  | 2 => leastBy (fun x => x.2.1) (l.filter fun x => decide (ms < x.2.2 + 1000))
  | 3 => leastBy (fun x => x.2.1) (l.take 8)
  | _ => none

/-- A sample enters a reference: its asymmetry is added (R488), and the filter looks at it from now on. -/
def State.sample (s : State) (i : Nat) (offset : Int) (delay : Nat) : State :=
  let off := offset + s.rdS Rec.TimeRef.AsymmetryNs i
  let r := s.ref i
  let recent := ((off, delay, s.time.ms) :: r.recent).take 64
  let r := { r with recent := recent, lastMs := some s.time.ms, samples := r.samples + 1 }
  let r := match filterSamples (s.rd Rec.TimeRef.Kind i) s.time.ms recent with
    | some (o, d, _) => { r with offset := o, delay := d }
    | none => r
  (s.setRef i r).count { name := .timeSamples, a := i }

/-- The offset of this chip's clock and the round trip from the four stamps of an exchange that this chip begins: it sends at `a` and
receives at `d` by its own clock, the other side receives at `b` and sends at `c` by its own. -/
def fourStamp (a b c d : Int) : Int × Nat := (((a - b) + (d - c)) / 2, ((b - a) + (d - c)).toNat)

/-- A PTP or NTP exchange yields an offset sample from its four stamps in ns of legal time; a reference that is off or is a PPS reference
takes none. For NTP `t1` is this chip's transmission, `t2` and `t3` the server's receipt and transmission, and `t4` this chip's receipt
(RFC 5905); for PTP `t1` is the master's Sync, `t2` its receipt here, `t3` the delay request sent here and `t4` its receipt by the
master (IEEE 1588). A leap indicator announces a leap second, or withdraws the same reference's announcement whose smear has not
started (R483). `leap` is 1, −1 or 0 and `leapDay` the UTC day that carries it.
(Log entry 177: PRESUMED.) -/
def execTimeSample (ref t1 t2 t3 t4 : Nat) (leap : Int) (leapDay : Nat) (s : State) : Out :=
  let kind := s.rd Rec.TimeRef.Kind ref
  if 8 ≤ ref ∨ kind < 2 then .next (s.count { name := .timeRejected, a := ref })
  else
    let x := if kind = 3 then fourStamp t1 t2 t3 t4 else fourStamp t3 t4 t1 t2
    let s := s.sample ref x.1 (if kind = 3 then x.2 else x.2 / 2)
    let named := s.time.selected = some ref ∨ kind = 3
    if ¬named ∨ s.time.smearing ≠ none then .next s
    else if leap ≠ 0 then .next { s with time := { s.time with leap := some (leapDay, leap), leapFrom := some ref } }
    else if s.time.leapFrom = some ref then .next { s with time := { s.time with leap := none, leapFrom := none } }
    else .next s

/-- A TPPS edge, captured at a legal time in ns, is labelled with the nearest whole second; it is rejected while |θ| exceeds 0.4 s
(R488). -/
def execPpsEdge (at' : Nat) (s : State) : Out :=
  let label := (at' + 500000000) / 1000000000 * 1000000000
  let offset := (at' : Int) - label
  .next (((List.range 8).filter fun i => s.rd Rec.TimeRef.Kind i == 1).foldl (fun s i =>
    if 400000000 < s.time.theta.natAbs then s.count { name := .timeRejected, a := i } else s.sample i offset 0) s)

/-- The time (ms) within which a reference must have delivered a sample: 8 × 2^PollLog2 s, or 2 s for PPS (R490). -/
def State.freshMs (s : State) (i : Nat) : Nat :=
  if s.rd Rec.TimeRef.Kind i = 1 then 2000
  else
    let p := s.rdS Rec.TimeRef.PollLog2 i
    if 0 ≤ p then 8000 * 2 ^ p.toNat else 8000 / 2 ^ (-p).toNat

/-- The conditions of R490 other than the falseticker test. -/
def State.refFresh (s : State) (i : Nat) : Bool :=
  let r := s.ref i
  decide (s.rd Rec.TimeRef.Kind i ≠ 0) &&
    (match r.lastMs with
     | some t => decide (s.time.ms ≤ t + s.freshMs i)
     | none => false) &&
    (!s.time.lockedReached || decide (r.offset.natAbs ≤ s.rd Rec.TimePolicy.MaxOffsetS * 1000000000))

/-- The median of a list of offsets; the lower of the middle two.
(Log entry 140: DESIGN CHOICE.) -/
def median (l : List Int) : Int := (sortBy id l).getD ((l.length - 1) / 2) 0

/-- The falsetickers of this second (R490). -/
def State.falsetickers (s : State) : State :=
  let fresh := (List.range 8).filter s.refFresh
  let med := median (fresh.map fun i => (s.ref i).offset)
  let limit := 10 * s.rd Rec.TimePolicy.LockUs * 1000
  (List.range 8).foldl (fun s i =>
    let r := s.ref i
    let here := fresh.contains i
    let bad := here && decide (3 ≤ fresh.length ∧ limit < (r.offset - med).natAbs)
    let s := s.setRef i { r with falseticker := bad, qualified := here && !bad }
    if bad then
      let s := s.count { name := .timeFalse, a := i }
      s.raiseEvery hourMs .timeFalseticker i 0 [i, slotOf (r.offset - med)]
    else s) s

/-- The qualified reference of lowest Priority value, the lower instance on a tie; PPS only while legal time is within
0.4 s (R490). -/
def State.bestRef (s : State) : Option Nat :=
  leastBy (fun i => s.rd Rec.TimeRef.Priority i) ((List.range 8).filter fun i =>
    (s.ref i).qualified && (s.rd Rec.TimeRef.Kind i != 1 || decide (s.time.theta.natAbs ≤ 400000000)))

/-- The selection is made again; `time.reference` is raised when it changes (R490). -/
def State.select (s : State) : State :=
  let b := s.bestRef
  if b = s.time.selected then s else
    let old := s.time.selected
    ({ s with time := { s.time with selected := b, hist := [] } }).raise .timeReference 0 [slotOpt old, slotOpt b]

/-! ### The second (R481, R483, R486, R487) -/

/-- A value limited to ± a bound. -/
def clampAbs (bound : Nat) (x : Int) : Int := max (-(bound : Int)) (min x bound)

/-- The increment for a correction in parts per 10^12: 4 ns × (1 − correction), clamped to 4 ns × (1 ± 1 012 ppm)
(R481, R487). -/
def incFor (ppt : Int) : Nat :=
  let x := (2 ^ 34 : Int) - divRound ((2 ^ 34 : Int) * ppt) 1000000000000
  let w := 2 ^ 34 * 1012 / 1000000
  (max ((2 ^ 34 : Int) - w) (min x (2 ^ 34 + w))).toNat

/-- The smear's share of the correction, in parts per 10^12: an inserted second slows legal time by 1 / 86 400 (R483). -/
def State.smearPpt (s : State) : Int :=
  match s.time.smearing with
  | some g => g * 11574074
  | none => 0

/-- The servo's correction for the next second (R484, R487): F + θ / TauS in ACQUIRING and LOCKED, F frozen in HOLDOVER,
nothing in FREE. -/
def State.servoPpt (s : State) : Int :=
  let lim := s.rd Rec.TimePolicy.MaxSlewPpm * 1000000
  match s.time.st with
  | .acquiring | .locked => clampAbs lim (s.time.freqPpt + s.time.theta * 1000 / s.rd Rec.TimePolicy.TauS)
  | .holdover => s.time.freqPpt
  | _ => 0

/-- F from the change of the unsteered offsets over the last 64 s, at most MaxSlewPpm (R487).
(Log entry 140: DESIGN CHOICE.) -/
def freqOf (lim : Nat) (hist : List Int) : Int :=
  match hist with
  | u :: rest =>
    match rest.getLast? with
    | some v => clampAbs lim ((u - v) / (rest.length : Int))
    | none => 0
  | [] => 0

/-- State changes of the second (R484, R491): runs of 16 seconds within LockUs, or beyond four times it. -/
def State.lockStep (s : State) : State :=
  let lock := s.rd Rec.TimePolicy.LockUs * 1000
  let th := s.time.theta.natAbs
  match s.time.st with
  | .partner => s
  | .free => if s.time.selected.isSome then s.setTime .acquiring else s
  | .holdover => if s.time.selected.isSome then s.setTime .acquiring else s
  | .acquiring =>
    if s.time.selected.isNone then s.setTime .holdover
    else
      let run := if th ≤ lock then s.time.lockRun + 1 else 0
      if 16 ≤ run then s.setTime .locked else { s with time := { s.time with lockRun := run } }
  | .locked =>
    if s.time.selected.isNone then s.setTime .holdover
    else
      let run := if 4 * lock < th then s.time.unlockRun + 1 else 0
      if 16 ≤ run then s.setTime .acquiring else { s with time := { s.time with unlockRun := run } }

/-- A pending step is applied at the whole second and raises `time.stepped` (R486). The offsets measured before it are taken along
with legal time. -/
def State.applyStep (s : State) : State :=
  match s.time.pendingStep with
  | none => s
  | some (d, cause) =>
    let s := { s with time := { s.time with
      pendingStep := none, legalNs := ((s.time.legalNs : Int) + d).toNat, hist := [],
      refs := Map.mapV s.time.refs fun _ (r : RefSt) =>
        { r with offset := r.offset + d, recent := r.recent.map fun (x : Int × Nat × Nat) => (x.1 + d, x.2) } } }
    (s.count { name := .timeSteps }).raise .timeStepped 0 [slotOf d, cause]

/-- The increment of the next second of a standby in PARTNER: the offset measured last is taken away within a second, beside the frequency by
which it drifts (R492).
(Log entry 140: DESIGN CHOICE.) -/
def State.followPartner (s : State) : State :=
  let th := s.time.partnerOffset.getD 0
  let hist := ((th * 1000 + s.time.steered) :: s.time.partnerHist).take 65
  let c := clampAbs 1012000000 (freqOf 1012000000 hist + th * 1000)
  { s with time := { s.time with partnerHist := hist, incWritten := some (incFor (c + s.smearPpt)) } }

/-- Whether the exchange of R492 is live: partner port 0 is up and the partner is active. -/
def State.exchangeLive (s : State) : Bool :=
  !s.serving && s.ports.partner0.link && match s.pair.partner with
    | some h => h.serving
    | none => false

/-- Legal time leaves PARTNER for LOCKED where the selected reference is within LockUs, and for HOLDOVER
otherwise; the air increment returns to 8.0 (R492, R493). -/
def State.leavePartner (s : State) : State :=
  if s.time.st = .partner then
    let near := match s.time.selected with
      | some i => decide ((s.ref i).offset.natAbs ≤ s.rd Rec.TimePolicy.LockUs * 1000)
      | none => false
    let s := s.setTime (if near then .locked else .holdover)
    { s with time := { s.time with airInc := 0x800000000, airTrim := 0, partnerHist := [] } }
  else s

/-- A whole legal second, once each: a pending step is applied; the cross-stamp is latched and the written increment takes effect
(R481, R495); the references are judged and one selected (R490); the state moves (R484, R491); and the servo writes the
increment of the next second (R487). Before the first claim an offset beyond StepThresholdMs becomes a step instead
(R486). -/
def execLegalSecond (s : State) : Out :=
  if s.time.second = some s.legalS then .next s else
  let s := s.applyStep
  let inc := s.time.incWritten.getD s.time.inc
  let corr := (2 ^ 34 : Int) - s.time.inc
  let steered := s.time.steered + corr * 1000000000000 / 2 ^ 34 - s.smearPpt
  let s := { s with time := { s.time with
    inc := inc, incWritten := none, steered := steered, second := some s.legalS,
    smearDone := s.time.smearDone + s.smearPpt,
    cross := ((s.time.air, s.time.legalNs, inc) :: s.time.cross).take 3600 } }
  let s := s.count { name := .timeSeconds, a := s.time.st.code }
  let s := s.falsetickers.select
  let s := match s.time.selected with
    | some i =>
      let th := (s.ref i).offset + (if s.time.smearing.isSome then s.time.smearDone / 1000 else 0)
      let u := th * 1000 + s.time.steered
      let hist := (u :: s.time.hist).take 65
      { s with time := { s.time with
        theta := th, hist := hist, freqPpt := freqOf (s.rd Rec.TimePolicy.MaxSlewPpm * 1000000) hist } }
    | none => s
  if s.time.st ≠ .partner ∧ !s.time.claimedSinceBoot ∧ s.time.selected.isSome ∧
      s.rd Rec.TimePolicy.StepThresholdMs * 1000000 < s.time.theta.natAbs then
    .next { s with time := { s.time with pendingStep := some (-s.time.theta, 0), theta := 0 } }
  else
    let s := s.lockStep
    .next (if s.time.st = .partner then (if s.exchangeLive then s.followPartner else s.leavePartner)
      else { s with time := { s.time with incWritten := some (incFor (s.servoPpt + s.smearPpt)) } })

/-- A leap smear starts at the first instant of the UTC day that carries the leap and ends with that day (R483). -/
def execLeapSmear (s : State) : Out :=
  let day := s.legalS / 86400
  match s.time.smearing, s.time.leap with
  | some g, _ =>
    if s.time.smearDay < day then
      let d := s.time.smearDay
      .next (({ s with time := { s.time with smearing := none, leap := none, smearDone := 0 } }).raise .timeLeap 0
        [slotOf g, d, 1])
    else .next s
  | none, some (d, g) =>
    if day = d then
      .next (({ s with time := { s.time with smearing := some g, smearDone := 0, smearDay := d } }).raise .timeLeap 0
        [slotOf g, d, 0])
    else .next s
  | none, none => .next s

/-- The air increment for a correction in parts per 10^12, within ±100 ppm of 8.0 periods (R493). -/
def airIncFor (ppt : Int) : Nat := ((2 ^ 35 : Int) - divRound ((2 ^ 35 : Int) * clampAbs 100000000 ppt) 1000000000000).toNat

/-- Every 125 ms a standby with an active partner exchanges time with it (R492): it is in PARTNER, and raises `time.partner_offset` beyond
1 µs. `t1` to `t4` are the port stamps in ns of legal time of this chip's message sent, received by the partner, the answer sent, and
received here; `a1` to `a4` the same instants in air time. The first exchange after a boot seeds both clocks (R485, R494); later ones
trim the air increment, and the legal increment follows at the next whole second.
(Log entry 140: DESIGN CHOICE.) -/
def execPartnerTimeExchange (t1 t2 t3 t4 a1 a2 a3 a4 : Nat) (s : State) : Out :=
  if !s.exchangeLive then .next s
  else
    let legal := (fourStamp t1 t2 t3 t4).1
    let air := (fourStamp a1 a2 a3 a4).1
    let s := (s.count { name := .timeExchanges }).setTime .partner
    let s := if s.time.airSeeded then
        let trim := clampAbs 100000000 (s.time.airTrim + air * 1000)
        { s with time := { s.time with partnerOffset := some legal, airTrim := trim, airInc := airIncFor (trim + air * 4000) } }
      else { s with time := { s.time with
        partnerOffset := some legal, legalNs := ((s.time.legalNs : Int) - legal).toNat, air := ((s.time.air : Int) - air).toNat,
        airSeeded := true } }
    .next (if 1000 < legal.natAbs then s.raise .timePartnerOffset 0 [slotOf legal] else s)

/-- Air time is seeded at the first claim after a boot without a live partner, from the latest cross-stamp the save set
or a checkpoint holds (R494). -/
def State.seedAir (s : State) : State :=
  if s.time.airSeeded then { s with time := { s.time with claimedSinceBoot := true } } else
    let (a, l) := s.time.savedCross.getD (0, 0)
    let air := a + 2 * (s.time.legalNs - l)
    ({ s with time := { s.time with air := air, airFrac := 0, airSeeded := true, claimedSinceBoot := true } }).raise
      .timeAirSeeded 0 [s.time.st.code, air]

/-- Legal time is seeded at boot from the always-on clock, which the model keeps in step with legal time, or else from the newest journal Stamp plus 1 s, never below
that Stamp (R485). The partner's seed comes with its first exchange.
(Log entry 98: DESIGN CHOICE.) -/
def State.seedLegal (s : State) : State :=
  let floorNs := stampS s.time.newestJournalStamp * 1000000000 + s.time.newestJournalStamp % 2 ^ 24 * 1000000000 / 2 ^ 24
  let ns := if s.time.vaonClockValid then s.time.legalNs else floorNs + 1000000000
  { s with time := { s.time with
    vaonClockValid := true, legalNs := max ns floorNs, legalFrac := 0, st := .free, selected := none, theta := 0, freqPpt := 0, hist := [], refs := [],
    cross := [], inc := 0x400000000, incWritten := none, claimedSinceBoot := false, airSeeded := false,
    second := none, lockedReached := false, lockRun := 0, unlockRun := 0, pendingStep := none, airInc := 0x800000000,
    partnerOffset := none, partnerHist := [], airTrim := 0 } }

/-! ### Relating the bases (R495) -/

/-- The cross-stamps to convert with, newest first; before the first one, the present instant serves. -/
def State.crosses (s : State) : List (Nat × Nat × Nat) :=
  if s.time.cross.isEmpty then [(s.time.air, s.time.legalNs, s.time.inc)] else s.time.cross

/-- Legal ns from a cross-stamp on, for an air distance in periods. -/
def legalAfter (c : Nat × Nat × Nat) (a : Int) : Int := (c.2.1 : Int) + (a - c.1) * c.2.2 / (8 * 2 ^ 32)

/-- Air periods from a cross-stamp on, for a legal instant. -/
def airAfter (c : Nat × Nat × Nat) (l : Int) : Int := (c.1 : Int) + (l - c.2.1) * (8 * 2 ^ 32) / (max c.2.2 1 : Nat)

/-- The mean span of the kept cross-stamps: air periods and legal ns. -/
def keptSpan (l : List (Nat × Nat × Nat)) : Int × Int :=
  match l.head?, l.getLast? with
  | some n, some o => if n.1 = o.1 then (2, 1) else ((n.1 : Int) - o.1, (n.2.1 : Int) - o.2.1)
  | _, _ => (2, 1)

/-- Air time to legal ns (R495). -/
def State.airToLegal (s : State) (a : Int) : Int :=
  match s.crosses.find? (fun c => decide ((c.1 : Int) ≤ a)) with
  | some c => legalAfter c a
  | none =>
    match s.crosses.getLast? with
    | some o => let (da, dl) := keptSpan s.crosses; (o.2.1 : Int) - ((o.1 : Int) - a) * dl / da
    | none => 0

/-- Legal ns to air time, its inverse (R495). -/
def State.legalToAir (s : State) (l : Int) : Int :=
  match s.crosses.find? (fun c => decide ((c.2.1 : Int) ≤ l)) with
  | some c => airAfter c l
  | none =>
    match s.crosses.getLast? with
    | some o => let (da, dl) := keptSpan s.crosses; (o.1 : Int) - ((o.2.1 : Int) - l) * da / (if dl = 0 then 1 else dl)
    | none => 0

/-- The uncertainty of a conversion in ns, for its legal instant (R495). -/
def State.convertError (s : State) (l : Int) : Nat :=
  let lo : Int := ((s.crosses.getLast?.map fun c => c.2.1).getD 0 : Nat)
  let hi : Int := ((s.crosses.head?.map fun c => c.2.1).getD 0 : Nat) + 1000000000
  let d := if l < lo then (lo - l).toNat else if hi ≤ l then (l - hi).toNat else 0
  4 + d * 2024 / 1000000

/-- The calendar stamp of an air instant (R497). -/
def State.stampOfAir (s : State) (a : Nat) : Nat := s.issueFor (s.airToLegal a).toNat

/-- The air instant of a calendar second (R496). -/
def State.airOfSecond (s : State) (sec : Nat) : Nat := (s.legalToAir (sec * 1000000000)).toNat

/-! ### Commands (Table 19-5) -/

/-- Whether the servo has a frequency estimate F: in FREE and PARTNER legal time runs without one (Table 19-2). -/
def TimeSt.estimates : TimeSt → Bool
  | .acquiring | .locked | .holdover => true
  | .free | .partner => false

/-- TIME.STATUS_READ: F without an estimate, θ and the reference while none is selected, and the partner offset before the first exchange after a
boot have no value (R695).
(Log entry 143: DEDUCED.) -/
def readTimeStatus (c : Caller) (s : State) : Reply :=
  let t := s.time
  let x := t.cross.head?
  gatedRead [(c.isObserver, .refusedRole), (c.slots 0, .badLength)]
    { status := .done, slots :=
        [t.st.code, t.legalNs, stampOfNs t.legalNs, t.air, t.inc, t.airInc, if t.st.estimates then slotOf t.freqPpt else noValue,
         if t.selected.isSome then slotOf t.theta else noValue,
         slotOpt t.selected, slotOpt (t.leap.map fun p => p.1), slotOpt (t.leap.map fun p => slotOf p.2),
         slotOpt (t.smearing.map slotOf), slotOpt (x.map fun p => p.1), slotOpt (x.map fun p => p.2.1),
         slotOpt (t.partnerOffset.map slotOf)] }

def execTimeStatusRead (ch : Nat) (s : State) : Out := .next (s.readCommand ch .timeStatusRead readTimeStatus)

/-- TIME.REFERENCES_READ. -/
def readTimeReferences (c : Caller) (s : State) : Reply :=
  gatedRead [(c.isObserver, .refusedRole), (c.slots 0, .badLength)]
    { status := .done, slots := (List.range 8).flatMap fun i =>
        let r := s.ref i
        [bit r.qualified, if r.lastMs.isSome then slotOf r.offset else noValue,
         if r.lastMs.isSome then r.delay else noValue, bit r.falseticker, r.samples] }

def execTimeReferencesRead (ch : Nat) (s : State) : Out := .next (s.readCommand ch .timeReferencesRead readTimeReferences)

/-- TIME.STEP: a forward step at the next whole second (R486, R498). -/
def runTimeStep (ns : Nat) (c : Caller) (s : State) : Reply × State :=
  gated s [(c.isOfficer, .refusedRole), (c.slots 1, .badLength),
      (decide (1000000 ≤ ns ∧ ns ≤ 31536000 * 1000000000), .badArgument),
      (!s.anySealed && decide (s.time.st ≠ .partner), .refusedState)] fun s =>
    ({ status := .done }, { s with time := { s.time with pendingStep := some ((ns : Int), 1) } })

def execTimeStep (ch ns : Nat) (s : State) : Out := .next (s.command ch .timeStep (runTimeStep ns))

/-- TIME.LEAP_SET: announces or cancels a leap second; `day` counts days since 2000-01-01 (R483, R498). -/
def runTimeLeapSet (day : Nat) (sign : Int) (c : Caller) (s : State) : Reply × State :=
  gated s [(c.isOfficer, .refusedRole), (c.slots 2, .badLength), (decide (sign = 1 ∨ sign = -1 ∨ sign = 0), .badArgument),
      (!s.anySealed && s.time.smearing.isNone, .refusedState)] fun s =>
    ({ status := .done }, { s with time := { s.time with leap := if sign = 0 then none else some (day, sign), leapFrom := none } })

def execTimeLeapSet (ch day : Nat) (sign : Int) (s : State) : Out := .next (s.command ch .timeLeapSet (runTimeLeapSet day sign))

/-- TIME.CONVERT: direction 0 air to legal, 1 legal to air. -/
def readTimeConvert (dir value : Nat) (c : Caller) (s : State) : Reply :=
  let out := if dir = 0 then s.airToLegal value else s.legalToAir value
  let l : Int := if dir = 0 then out else value
  gatedRead [(c.isObserver, .refusedRole), (c.slots 2, .badLength), (decide (dir ≤ 1), .badArgument)]
    { status := .done, slots := [slotOf out, s.convertError l] }

def execTimeConvert (ch dir value : Nat) (s : State) : Out := .next (s.readCommand ch .timeConvert (readTimeConvert dir value))

/-- TIME.COUNTERS_READ: the counters of R502. -/
def readTimeCounters (c : Caller) (s : State) : Reply :=
  gatedRead [(c.isObserver, .refusedRole), (c.slots 0, .badLength)]
    { status := .done, slots :=
        (List.range 8).map (fun i => s.ctr { name := .timeSamples, a := i }) ++
        (List.range 8).map (fun i => s.ctr { name := .timeRejected, a := i }) ++
        (List.range 5).map (fun i => s.ctr { name := .timeSeconds, a := i }) ++
        [s.ctr { name := .timeExchanges }, s.ctr { name := .timeSteps }] ++
        (List.range 8).map (fun i => s.ctr { name := .timeFalse, a := i }) ++
        [s.ctr { name := .timeHoldovers }, s.ctr { name := .timeFrees }] }

def execTimeCountersRead (ch : Nat) (s : State) : Out := .next (s.readCommand ch .timeCountersRead readTimeCounters)

/-! ### Records (R498 to R500) -/

/-- The time reference record: the operator writes it, never while a tenant is sealed. -/
def ruleTimeRef : RecordRule where
  writer _ c _ _ := c.isOperator
  check s _ _ _ _ := if s.anySealed then some .refusedState else none

/-- The time policy record. -/
def ruleTimePolicy : RecordRule where
  writer _ c _ _ := c.isOperator
  check s _ _ _ _ := if s.anySealed then some .refusedState else none

def execTimeReferenceRecord (tenant inst : Nat) (body : List Byte) (s : State) : Out :=
  .next (s.applyRecord ruleTimeRef Schema.TimeRef tenant inst body)

def execTimePolicyRecord (tenant inst : Nat) (body : List Byte) (s : State) : Out :=
  .next (s.applyRecord ruleTimePolicy Schema.TimePolicy tenant inst body)

end Sys2Proof.Machine
end

