-- ==== Sys2Proof/Machine/Air.lean ====
section
/-! DEFINITION. Chapter 8: the poll plan, drift learning, launch queues and duty accounting (R192 to R217). Air time is in
periods of 0.5 ns, uncertainties in ns, rounded up. -/

namespace Sys2Proof.Machine

open Sys2Proof

/-! ### Numbers -/

/-- The least n with v ≤ n². -/
def isqrtUp (v : Nat) : Nat := let r := isqrt v; if r * r = v then r else r + 1

/-- The largest value below 2^bits that meets a condition true of an initial run of the numbers from 0. -/
def largestBelow (bits : Nat) (p : Nat → Bool) : Nat :=
  (List.range bits).foldl (fun acc i =>
    let b := acc + 2 ^ (bits - 1 - i)
    if p b then b else acc) 0

/-- The amplitude of a carrier that lies `m` tenths of a dB under full scale: min(2 047, 2 047 × 10^(−m/200)) (R205). -/
def amplitudeOf (m : Int) : Nat :=
  if m ≤ 0 then 2047 else largestBelow 11 fun a => decide (a ^ 200 * 10 ^ m.toNat ≤ 2047 ^ 200)

/-! ### Causes of a deferral (R210) -/

/-- The causes of R210, in its order. -/
inductive DeferCause where
  | duty | queue | context | duplex | lock | lane | lea | band
  deriving DecidableEq, Repr

/-- The 0-based position of a cause. -/
def DeferCause.code : DeferCause → Nat
  | .duty => 0 | .queue => 1 | .context => 2 | .duplex => 3 | .lock => 4 | .lane => 5 | .lea => 6 | .band => 7

/-- The code of a launch source. -/
def LaunchSrc.code : LaunchSrc → Nat
  | .poll => 0 | .command => 1 | .response => 2 | .flood => 3 | .test => 4

/-! ### Plans (R192, R193) -/

/-- The plan of a meter. -/
def State.plan (s : State) (slot : Nat) : PlanMeter := Map.getD s.air.plans slot {}

/-- The state with a meter's plan set. -/
def State.setPlan (s : State) (slot : Nat) (p : PlanMeter) : State :=
  { s with air := { s.air with plans := Map.put s.air.plans slot p } }

/-- Whether a meter's plan is enabled. -/
def State.planned (s : State) (slot : Nat) : Bool := s.meterHere slot && s.rdB Rec.MeterPlan.Enabled slot

/-- The class of a meter's plan. -/
def State.planClass (s : State) (slot : Nat) : Nat := s.rd Rec.MeterPlan.Class slot

/-- Whether a meter is polled over Ling (R261). -/
def State.lingMeter (s : State) (slot : Nat) : Bool := s.rdB Rec.LingMeter.Active slot

/-- Whether a meter is left to Ling alone: an unreachable one with RadioFallback is polled over Lea as well (R263). -/
def State.lingOnly (s : State) (slot : Nat) : Bool :=
  s.lingMeter slot && !(s.rdB Rec.LingMeter.RadioFallback slot && (Map.getD s.ling.meters slot {}).unreachable)

/-- The latest due time of a meter at or before a second. -/
def State.dueAt (s : State) (slot sec : Nat) : Nat :=
  let k := s.planClass slot
  let i := s.rd Rec.MeterClass.PollIntervalS k
  let off := s.rd Rec.MeterPlan.PollOffsetS slot % i
  if sec < off then 0 else (sec - off) / i * i + off

/-- The band that governs a meter's launches. -/
def State.planBand (s : State) (slot : Nat) : Nat := s.rd Rec.LeaChannel.Band (s.rd Rec.MeterPlan.LeaChannel slot)

/-- The head list (R201): the pinned heads, or those of the latest accepted uplink within HeadDropDb of the first. -/
def State.headList (s : State) (slot : Nat) : List Nat :=
  if s.rdB Rec.MeterPlan.PinHeads slot then
    ((List.range 8).map fun i => s.rd (Rec.MeterPlan.PinHead i) slot).filter (· ≠ 0xFF)
  else
    let p := s.plan slot
    let top := (p.heads.head?.map Prod.snd).getD 0
    (p.heads.filter fun h => decide (top ≤ h.2 + 10 * s.rd Rec.AirPolicy.HeadDropDb)).map Prod.fst

/-- Every listed head, whatever its rank (R201). -/
def State.listedHeads (s : State) (slot : Nat) : List Nat :=
  if s.rdB Rec.MeterPlan.PinHeads slot then s.headList slot else (s.plan slot).heads.map Prod.fst

/-- The index that counters of a head and band have. -/
def headBand (head band : Nat) : Nat := 32 * head + band

/-- A per-head-and-band counter of a meter's poll, under its first listed head.
(Log entry 49: DESIGN CHOICE.) -/
def State.countPoll (s : State) (k : CtrName) (slot : Nat) (b : Nat := 0) : State :=
  s.count { name := k, a := headBand ((s.listedHeads slot).headD 0) (s.planBand slot), b := b }

/-- The time of day in calendar days. -/
def State.today (s : State) : Nat := s.legalS / 86400

/-- A change of a drift model or a plan, journaled (R214). -/
def State.journalPlan (s : State) (slot : Nat) (l : List Nat) : State := s.journal .plan 0 slot (.words l)

/-- What a meter's plan and its launches changed is carried with the newest entry (R214). -/
def State.carryPlan (s : State) (slot : Nat) : State := (s.carry (.meter slot)).carry .duty

/-- What a launch changed. -/
def State.carryLaunch (s : State) (e : Launch) : State :=
  s.carryAll ((e.meter.map Kept.meter).toList ++ [Kept.duty] ++ (if e.stream.isSome then [Kept.floods] else []))

/-- A due time arrives (R193): a poll becomes pending, or merges with the one pending. -/
def execPollDue (slot : Nat) (s : State) : Out :=
  let p := s.plan slot
  let due := s.dueAt slot s.legalS
  if !s.planned slot ∨ due ≤ p.lastDue then .next s
  else
    let s := s.journalPlan slot [0, due]
    match p.poll with
    | some _ => .next (((s.setPlan slot { p with lastDue := due }).countPoll .airMerged slot).carryPlan slot)
    | none =>
      .next ((s.setPlan slot { p with
        lastDue := due,
        poll := some { due := due, request := s.rd Rec.MeterClass.Request (s.planClass slot),
                       priority := s.rd Rec.MeterPlan.Priority slot } }).carryPlan slot)

/-- PollDeadlineS after its due time a pending poll is late, once (R210). -/
def execPollLate (slot : Nat) (s : State) : Out :=
  let p := s.plan slot
  match p.poll with
  | none => .next s
  | some q =>
    if q.late ∨ s.legalS < q.due + s.rd Rec.MeterClass.PollDeadlineS (s.planClass slot) then .next s
    else
      let s := s.setPlan slot { p with poll := some { q with late := true } }
      .next (((s.countPoll .airLate slot).raise .airPollLate (s.meterTenant slot) [slot, q.due, slotOpt q.cause]).carry (.meter slot))

/-- A pending poll is deferred under a cause (R210). -/
def State.deferPoll (s : State) (slot : Nat) (cause : DeferCause) : State :=
  let p := s.plan slot
  let s := s.setPlan slot { p with poll := p.poll.map fun (q : PendPoll) => { q with cause := some cause.code } }
  s.countPoll .airDefer slot cause.code

/-- Pending polls are released after an outage, in due order, at most RecoveryPerS a second (R211). -/
def execRecoveryRelease (s : State) : Out :=
  let ready := match s.air.releaseMs with
    | some t => decide (t + 1000 ≤ s.time.ms)
    | none => true
  let held := (s.air.plans.filterMap fun e => e.2.poll.bind fun (q : PendPoll) => if q.held then some (e.1, q.due) else none)
  if !s.serving ∨ !ready ∨ held.isEmpty then .next s
  else
    let order := sortBy (fun (e : Nat × Nat) => (e.2 : Int)) held
    let n := s.rd Rec.AirPolicy.RecoveryPerS
    let s := { s with air := { s.air with releaseMs := some s.time.ms } }
    let s := (order.take n).foldl (fun s e =>
      let p := s.plan e.1
      s.setPlan e.1 { p with poll := p.poll.map fun (q : PendPoll) => { q with held := false } }) s
    .next ((order.drop n).foldl (fun s e => s.deferPoll e.1 .queue) s)

/-- After an outage, a takeover or a boot: queues are empty, nothing is in flight, pending polls wait for their release
(R211, R214). -/
def State.airRestart (s : State) : State :=
  { s with air := { s.air with
    queue := [], onAir := [], releaseMs := none,
    plans := Map.mapV s.air.plans fun _ (p : PlanMeter) => { p with
      out := none, ack := none, poll := p.poll.map fun (q : PendPoll) => { q with held := true } } } }

/-! ### The drift model (R196 to R198) -/

/-- What a plan predicts: wake instants are numbered from a first index; `wp` is the instant in air time, `u` its
uncertainty in ns, and `fromAir` the first index at or after an air time. -/
structure Predict where
  wp : Nat → Int
  u : Nat → Nat
  fromAir : Int → Nat

/-- The sums of a fit over n observations: n·Sxx, n·Sxd, n·Sdd, Σx, Σd. -/
structure FitSums where
  n : Nat
  xx : Int
  xd : Int
  dd : Int
  sx : Int
  sd : Int
  deriving DecidableEq, Repr

/-- The fit of a model with wake period `t` in air time (R196).
(Log entry 44: DESIGN CHOICE.) -/
def fitOf (t : Nat) (obs : List (Nat × Nat)) : FitSums :=
  let k1 := (obs.head?.map Prod.fst).getD 0
  let w1 := (obs.head?.map Prod.snd).getD 0
  let l : List (Int × Int) := obs.map fun o => ((o.1 : Int) - k1, (o.2 : Int) - w1 - ((o.1 : Int) - k1) * t)
  let n := obs.length
  let sx := (l.map Prod.fst).sum
  let sd := (l.map Prod.snd).sum
  { n := n, sx := sx, sd := sd,
    xx := n * (l.map fun p => p.1 * p.1).sum - sx * sx,
    xd := n * (l.map fun p => p.1 * p.2).sum - sx * sd,
    dd := n * (l.map fun p => p.2 * p.2).sum - sd * sd }

/-- The jitter estimate in ns (R197).
(Log entry 44: DESIGN CHOICE.) -/
def State.sigmaNs (s : State) (k : Nat) (f : FitSums) : Nat :=
  if f.n ≤ 2 then 1000 * s.rd Rec.MeterClass.JInitUs k
  else
    let sq := (f.dd * f.xx - f.xd * f.xd).toNat
    max (1000 * s.rd Rec.MeterClass.JMinUs k) (isqrtUp (ceilDiv sq (4 * (f.n * f.xx.toNat) * (f.n - 2))))

/-- The prediction of a drift model (R196, R197).
(Log entry 44: DESIGN CHOICE.) -/
def State.predictModel (s : State) (k : Nat) (obs : List (Nat × Nat)) : Predict :=
  let tMs := s.rd Rec.MeterClass.WakePeriodMs k
  let t := tMs * airPerMs
  let f := fitOf t obs
  let k1 : Int := ((obs.head?.map Prod.fst).getD 0 : Nat)
  let w1 : Int := ((obs.head?.map Prod.snd).getD 0 : Nat)
  let kn := (obs.getLast?.map Prod.fst).getD 0
  let flat := decide (2 ≤ f.n ∧ f.xx = 0)
  let g := s.rd Rec.MeterClass.GuardQ4 k
  let sig := s.sigmaNs k f
  let floorNs := 1000 * s.rd Rec.MeterClass.UFloorUs k
  -- Wp(k) = (base + x × slope) / den
  let den : Int := if f.n < 2 ∨ flat then f.n else f.n * f.xx
  let slope : Int := if flat then f.n * (t + Config.driftRate obs) else if f.n < 2 then t else t * den + f.n * f.xd
  let base : Int := if f.n < 2 ∨ flat then w1 * f.n + f.sd else w1 * den + f.sd * f.xx - f.xd * f.sx
  { wp := fun i => divRound (base + ((i : Int) - k1) * slope) den.toNat
    u := fun i =>
      if f.n < 2 then floorNs + ceilDiv (g * 1000 * s.rd Rec.MeterClass.JInitUs k) 16 +
        s.rd Rec.MeterClass.ClockTolPpm k * (i - kn) * tMs
      else if flat then Config.driftU obs i
      else
        let off := ((f.n : Int) * ((i : Int) - k1) - f.sx).natAbs
        floorNs + ceilDiv (g * sig) 16 + isqrtUp (ceilDiv ((g * sig * off) ^ 2) (256 * (f.n * f.xx.toNat))) +
          ceilDiv (s.rd Rec.MeterClass.WanderPpb k * (i - kn) * tMs) 1000
    fromAir := fun a =>
      if slope ≤ 0 then 0
      else
        let x := -((base - a * den) / slope)
        (k1 + x).toNat }

/-- The prediction of a meter in FIXED (R198), numbered in periods from its reference. -/
def State.predictFixed (s : State) (k wa ca : Nat) : Predict :=
  let tMs := s.rd Rec.MeterClass.WakePeriodMs k
  let t := tMs * airPerMs
  { wp := fun j => (wa : Int) + j * t
    u := fun j => 1000 * s.rd Rec.MeterClass.UFloorUs k +
      ceilDiv (s.rd Rec.MeterClass.GuardQ4 k * 1000 * s.rd Rec.MeterClass.JInitUs k) 16 + ceilDiv ca 4 +
      s.rd Rec.MeterClass.ClockTolPpm k * j * tMs
    fromAir := fun a => ceilDiv (a - wa).toNat t }

/-- The longest downlink preamble of a Lea channel in bytes (Table 7-14). -/
def State.preambleMax (s : State) (n : Nat) : Nat := max (s.rd Rec.LeaPolicy.MaxPreambleBytes) (s.rd Rec.LeaChannel.DownPreambleMin n)

/-- `n` bit periods of a rate in air time. -/
def bitsAir (rate n : Nat) : Nat := n * leaSps rate * 2000000000 / leaBaud rate

/-- The length in air time of the wake instants a preamble of `p` bytes covers (R179). -/
def coverAir (rate listenMs p : Nat) : Nat := bitsAir rate (8 * p) + listenMs * airPerMs - bitsAir rate 32

/-- u_max in ns. -/
def State.uMax (s : State) (k n : Nat) : Nat :=
  coverAir (s.rd Rec.MeterClass.Rate k) (s.rd Rec.MeterClass.ListenMs k) (s.preambleMax n) / 4

/-- Preamble bytes and start of the launch for a wake instant (R200). -/
def State.aimOf (s : State) (k n : Nat) (wp : Int) (u : Nat) : Nat × Int :=
  let r := s.rd Rec.MeterClass.Rate k
  let l := s.rd Rec.MeterClass.ListenMs k * airPerMs
  let need := 4 * u + bitsAir r 32 - l
  (max (s.rd Rec.LeaChannel.DownPreambleMin n) (ceilDiv (need * leaBaud r) (8 * leaSps r * 2000000000)),
    wp - 2 * u + l - bitsAir r 16)

/-! ### Duty (R208, R209) -/

/-- The width of a duty bucket in air time. -/
def bucketAir : Nat := 100 * airPerMs

/-- The budget of a head and band in ms. -/
def State.dutyBudget (s : State) (b : Nat) : Nat := s.rd Rec.Band.DutyMilliPct b * s.rd Rec.Band.WindowS b / 100

/-- The response reserve in ms. -/
def State.dutyReserve (s : State) (b : Nat) : Nat := s.dutyBudget b * s.rd Rec.Band.ResponseReservePermille b / 1000

/-- The flood share in ms. -/
def State.dutyFlood (s : State) (b : Nat) : Nat := s.dutyBudget b * s.rd Rec.Band.FloodSharePermille b / 1000

/-- The charges that count towards the window ending at `t`: in all, and of one share. After a takeover the reserve counts
as spent (R214). -/
def State.counted (s : State) (head b t : Nat) (share : Option Nat := none) : Nat :=
  let w := s.rd Rec.Band.WindowS b * 1000 * airPerMs
  let sum := ((s.air.charges.filter fun c => c.head == head && c.band == b && decide (c.bucket * bucketAir ≤ t ∧
    t < (c.bucket + 1) * bucketAir + w) && (match share with
      | some k => c.share == k
      | none => true)).map Charge.ms).sum
  if t < s.air.reserveSpent + w ∧ 0 < s.air.reserveSpent ∧ (share = none ∨ share = some 1) then
    let own := ((s.air.charges.filter fun c => c.head == head && c.band == b && c.share == 1 &&
      decide (c.bucket * bucketAir ≤ t ∧ t < (c.bucket + 1) * bucketAir + w)).map Charge.ms).sum
    sum + (s.dutyReserve b - own)
  else sum

/-- Whether R209 admits a charge whose last sample lies at `t`: share 0 planned, 1 follow or response, 2 flood. -/
def State.dutyAdmits (s : State) (head b t ms share : Nat) : Bool :=
  let all := s.counted head b t + ms
  if share = 1 then decide (all ≤ s.dutyBudget b ∧ s.counted head b t (some 1) + ms ≤ s.dutyReserve b)
  else decide (all + s.dutyReserve b ≤ s.dutyBudget b) &&
    (share != 2 || decide (s.counted head b t (some 2) + ms ≤ s.dutyFlood b))

/-- MaxOnMs and MinOffMs of a band for a launch (R209). -/
def State.onOffAdmits (s : State) (head b start span ms : Nat) : Bool :=
  let maxOn := s.rd Rec.Band.MaxOnMs b
  let off := s.rd Rec.Band.MinOffMs b * airPerMs
  let mine := s.air.queue.filter fun e => e.head == head && e.band == b
  let last := Map.getD s.air.lastEnd (head, b) 0
  (maxOn == 0 || decide (ms ≤ maxOn)) && (off == 0 || ((last == 0 || decide (last + off ≤ start)) &&
    mine.all fun e => decide (e.start + e.span + off ≤ start ∨ start + span + off ≤ e.start)))

/-- Whether a band governs a carrier (R208). -/
def State.bandHolds (s : State) (b carrier half : Nat) : Bool :=
  s.rdB Rec.Band.Active b && decide (s.rd Rec.Band.LowHz b + half ≤ carrier ∧ carrier + half ≤ s.rd Rec.Band.HighHz b)

/-- OccHalfHz of a Lea rate. -/
def occHalf (rate : Nat) : Nat := if rate = 0 then 10000 else 3000

/-! ### Admission (R205) -/

/-- The antenna a head launches from: the lowest of TxAntennaMask.
(Log entry 50: DESIGN CHOICE.) -/
def State.txAntenna (s : State) (head : Nat) : Option Nat := (maskBits 8 (s.rd Rec.HeadAir.TxAntennaMask head)).head?

/-- The amplitude of a band's carriers on an antenna. -/
def State.txAmp (s : State) (head antenna b : Nat) : Nat :=
  amplitudeOf (s.rdS (Rec.HeadAir.FullScaleDbm10 antenna) head - s.rdS Rec.Band.MaxErpDbm10 b)

/-- The largest sum of a measure over the entries on air together at some instant of a span. -/
def peakOver (l : List Launch) (start span : Nat) (f : Launch → Nat) : Nat :=
  let on := l.filter fun e => decide (e.start < start + span ∧ start < e.start + e.span)
  ((start :: (on.map Launch.start).filter fun t => decide (start ≤ t)).map fun t =>
    ((on.filter fun e => decide (e.start ≤ t ∧ t < e.start + e.span)).map f).sum).foldl max 0

/-- Whether a head can launch: TxEnable, ON, timed and obeyed (R202).
(Log entry 50: DESIGN CHOICE.) -/
def State.headUp (s : State) (head : Nat) : Bool :=
  s.regionOn 5 && s.rdB Rec.HeadAir.TxEnable head && s.laneOn head && s.timed head && (s.lane head).hdr.obeyed

/-- Whether a launch overlaps the hold of a booked context with a branch on the head (R205). -/
def State.duplexHit (s : State) (head start span : Nat) : Bool :=
  s.rdB Rec.HeadAir.HalfDuplex head && s.reservations.any fun x =>
    decide (x.b.openAt < start + span ∧ start < holdEnd x.b x.alignMs) && (s.bookingBranches x.b).any fun p => s.chanLane p.1 == head

/-- The synthesis cells in service (R205): 64 in blocks 3 to 6 of the air region, less the fenced ones.
(Log entry 69: DEDUCED.) -/
def State.synthCells (s : State) : Nat :=
  64 - (((List.range 4).flatMap fun b => (List.range 16).map fun i => 5 * 4096 + (b + 3) * 64 + i).filter s.cellFenced).length

/-- The synthesis cells that launches and Ling frames hold together at some instant of a span, at most (R205, R248).
(Log entry 69: DEDUCED.) -/
def State.synthPeak (s : State) (start span : Nat) : Nat :=
  peakOver s.air.queue start span (fun _ => 1) +
    (s.ling.tribs.filter fun e => match e.2.out with
      | some f => decide (f.start < start + span ∧ start < f.stop)
      | none => false).length

/-- The condition of R205 that refuses a launch, if one does. -/
def State.refusal (s : State) (head antenna b start span ms share : Nat) : Option DeferCause :=
  let q := s.air.queue
  let here := q.filter fun e => e.head == head
  if s.rd Rec.HeadAir.MaxTxCarriers head ≤ peakOver here start span (fun _ => 1) ∨
      2047 < s.txAmp head antenna b + peakOver (here.filter fun e => e.antenna == antenna) start span Launch.amp ∨
      s.synthCells ≤ s.synthPeak start span then some .queue
  else if !s.dutyAdmits head b (start + span - 1) ms share ∨ !s.onOffAdmits head b start span ms then some .duty
  else if s.duplexHit head start span then some .duplex
  else none

/-- `air.duty_exhausted` where a head and band first refuses for DUTY in a window. -/
def State.dutyEvent (s : State) (head b : Nat) : State :=
  s.raiseEvery (1000 * s.rd Rec.Band.WindowS b) .airDutyExhausted (headBand head b) 0 [head, b, s.counted head b s.time.air]

/-- An entry placed in its queue with its charge. -/
def State.placeLaunch (s : State) (e : Launch) (share : Nat) : State :=
  let e := { e with id := s.air.nextId }
  let keep := s.time.air - 86401 * 1000 * airPerMs
  { s with air := { s.air with
    queue := s.air.queue ++ [e], nextId := s.air.nextId + 1,
    charges := (s.air.charges.filter fun c => decide (keep ≤ (c.bucket + 1) * bucketAir)) ++
      [{ head := e.head, band := e.band, bucket := (e.start + e.span - 1) / bucketAir, ms := e.charge, share := share,
         gid := e.gid }] } }

/-- The launch charge in ms of a span (R209). -/
def chargeMs (span : Nat) : Nat := ceilDiv span airPerMs

/-- The entries of one frame placed on the first admissible heads of a list, at most `most`, head i at i × DiversityHz
(R202, R220): the state, how many were placed, and the first refusal. A head outside its band counts as refused for
BAND. -/
def State.placeHeads (s : State) (half share most : Nat) (e : Launch) (heads : List Nat) : State × Nat × Option DeferCause :=
  heads.foldl (fun (acc : State × Nat × Option DeferCause) h =>
    let (s, n, why) := acc
    if most ≤ n then acc
    else if !s.headUp h then (s, n, why)
    else match s.txAntenna h with
      | none => (s, n, why.or (some .queue))
      | some a =>
        let carrier := e.carrier + n * s.rd Rec.AirPolicy.DiversityHz
        if !s.bandHolds e.band carrier half then (s, n, why.or (some .band))
        else match s.refusal h a e.band e.start e.span e.charge share with
          | some c => (if c = .duty then s.dutyEvent h e.band else s, n, why.or (some c))
          | none => (s.placeLaunch { e with head := h, antenna := a, carrier := carrier, amp := s.txAmp h a e.band, primary := n == 0 } share,
              n + 1, why)) (s, 0, none)

/-- The group of entries and its charges withdrawn (R206). -/
def State.withdraw (s : State) (gid : Nat) : State :=
  { s with air := { s.air with
    queue := s.air.queue.filter (fun (e : Launch) => e.gid ≠ gid),
    charges := s.air.charges.filter (fun (c : Charge) => c.gid ≠ gid) } }

/-- A booking withdrawn. -/
def State.unbook (s : State) (id : Nat) : State :=
  { s with rx := { s.rx with booked := s.rx.booked.filter fun (x : Booked) => x.id ≠ id } }

/-- A flood stream changed. -/
def State.modStream (s : State) (n : Nat) (f : Stream → Stream) : State :=
  { s with fl := { s.fl with streams := s.fl.streams.map fun (x : Stream) => if x.number = n then f x else x } }

/-- The unlocked frames of a flood stream withdrawn: the stream goes back to the first of them (R226). A launch names its
frame as round × 2^24 + block. -/
def State.floodBack (s : State) (n : Nat) : State :=
  let mine := s.air.queue.filter fun (e : Launch) => !e.locked && (match e.stream with
    | some x => x.1 == n
    | none => false)
  match leastBy id (mine.filterMap fun (e : Launch) => e.stream.map Prod.snd) with
  | none => s
  | some k =>
    (mine.foldl (fun s e => s.withdraw e.gid) s).modStream n fun x => { x with round := k / 2 ^ 24, block := k % 2 ^ 24, hold := none }

/-- A launch other than a POLL withdrawn: a flood's frame takes those after it along. -/
def State.withdrawLaunch (s : State) (e : Launch) : State :=
  match e.stream with
  | some x => s.floodBack x.1
  | none => s.withdraw e.gid

/-- A stream whose last round has been launched is done: `flood.done` (R218); a time stream closes with it. `gid` is the frame being
launched, if one is.
(Log entry 54: DEDUCED.) -/
def State.floodOver (s : State) (n gid : Nat) : State :=
  match s.fl.streams.find? (fun x => x.number == n) with
  | none => s
  | some x =>
    let queued := s.air.queue.any fun y => (y.stream.map Prod.fst) == some n && y.gid != gid
    if x.rounds ≤ x.round ∧ !queued ∧ x.st ≠ .done then
      let s := s.modStream n fun y => { y with st := .done }
      let s := s.raise .floodDone x.tenant [n, x.frames]
      if x.kind = 0 then { s with fl := { s.fl with streams := s.fl.streams.filter fun (y : Stream) => y.number ≠ n } } else s
    else s

/-- The state after a flood frame has gone on air: its frames and heads counted (R237). -/
def State.floodSent (s : State) (e : Launch) (n : Nat) : State :=
  let s := s.count { name := .flHeads, a := n }
  if !e.primary then s
  else
    let s := (s.count { name := .flFrames, a := n }).modStream n fun x => { x with frames := x.frames + 1 }
    ({ s with fl := { s.fl with lastMs := Map.put s.fl.lastMs n s.time.ms } } : State).floodOver n e.gid

/-- A POLL planned and not locked is cancelled: its entries, charges and booking go, and the poll is deferred. -/
def State.cancelPoll (s : State) (slot : Nat) (cause : DeferCause) : State :=
  let p := s.plan slot
  match p.out with
  | none => s
  | some o => (((s.withdraw o.gid).unbook o.booking).setPlan slot { p with out := none }).deferPoll slot cause

/-! ### COMMANDs (R203, R174) -/

/-- The FloodSetup item of a meter (Table 9-2), under a schedule body. -/
def State.floodSetup (s : State) (f : FloodMeter) : List Byte :=
  let rate := s.rd Rec.FloodSchedule.Rate
  let l := if rate = 2 then 66 else s.rd Rec.FloodSchedule.FloodL
  let hop := leaTime rate (s.rd Rec.FloodSchedule.PreambleBytes + 5 + l) 1000 + s.rd Rec.FloodSchedule.HopGapMs
  itemBytes 0xC4 (le 1 (f.role + f.hop * 4 + rate * 32) ++ le 1 (s.rd Rec.FloodSchedule.FramesPerWindow) ++ le 2 hop ++
    le 4 (s.rd Rec.FloodSchedule.CentreHz) ++ le 4 (s.rd Rec.FloodSchedule.FloodPeriodS) ++
    le 4 (s.rd Rec.FloodSchedule.FloodOffsetS % s.rd Rec.FloodSchedule.FloodPeriodS) ++ le 2 s.fl.setupSeq)

/-- The flood role of a meter. -/
def State.floodMeter (s : State) (slot : Nat) : FloodMeter := Map.getD s.fl.meters slot {}

/-- The campaign whose activate item a meter waits for (R592). -/
def State.activation (s : State) (slot : Nat) : Option Campaign :=
  s.upd.campaigns.find? fun c => c.kind == 3 && !c.done && Map.get? c.meters slot == some 1

/-- The activate item (Table 23-10). -/
def Campaign.activateItem (c : Campaign) : List Byte :=
  itemBytes 0x84 (le 1 c.stream ++ le 1 0 ++ slice c.digest 0 8 ++ le 8 c.activateAt)

/-- What the next COMMAND to a meter carries: a safe command, a token, a FloodSetup and an activation, in that order, as
far as they fit in `room` bytes (DESIGN CHOICE: the spec gives no order).
(Log entry 46: DESIGN CHOICE.) -/
def State.commandItems (s : State) (slot room : Nat) : Carried × List Byte :=
  let add (x : Carried × List Byte) (body : List Byte) (f : Carried → Carried) : Carried × List Byte :=
    if x.2.length + body.length ≤ room then (f x.1, x.2 ++ body) else x
  let x : Carried × List Byte := ({}, [])
  let x := match s.safeSendable slot with
    | some c => if c.kind ≠ 1 ∧ s.lockedOut slot then x else add x (s.safeItem slot c) fun k => { k with safe := some c.seq }
    | none => x
  let x := match s.nextDelivery slot with
    | some t => if t.locked then x else add x t.item fun k => { k with token := some t.seq }
    | none => x
  let f := s.floodMeter slot
  let x := if f.due then add x (s.floodSetup f) fun k => { k with setup := some s.fl.setupSeq } else x
  match s.activation slot with
  | some c => add x c.activateItem fun k => { k with campaign := some c.id }
  | none => x

/-- Whether what a COMMAND carries is still to be sent: its safe command outstanding and sendable, its token not voided. -/
def State.stillDue (s : State) (slot : Nat) (c : Carried) : Bool :=
  (match c.safe with
   | some q => (match s.safeSendable slot with
     | some x => x.seq == q
     | none => false)
   | none => true) &&
  (match c.token with
   | some q => (s.tokensOf slot).any fun t => t.seq == q && t.st == 1
   | none => true)

/-- What a COMMAND going out does to what it carries: a token's attempt, a FloodSetup's tag. -/
def State.carriedSent (s : State) (slot tag : Nat) (c : Carried) : State :=
  let s := match c.token with
    | some q => s.tokenSent slot q tag
    | none => s
  match c.setup with
  | some _ => { s with fl := { s.fl with meters := Map.put s.fl.meters slot { s.floodMeter slot with tag := some tag } } }
  | none => s

/-- A COMMAND to a meter with the items that fit: the DownCtr advance committed and the frame built (R174). None where
nothing waits, the counter is exhausted (R175) or no key is held. -/
def State.makeCommand (s : State) (slot maxL rate delay : Nat) : Option FollowCmd × State :=
  let r := s.meter slot
  let (carried, items) := s.commandItems slot (maxL - 26)
  if items.isEmpty ∨ !r.active then (none, s)
  else if r.downCtr = 0xFFFFFFFF then
    if s.lea.downRaised.contains slot then (none, s)
    else (none, ({ s with lea := { s.lea with downRaised := slot :: s.lea.downRaised } }).raise .leaDownctrExhausted r.tenant
      [slot, r.keyGen])
  else match s.meterKeyFor slot r.tenant r.keyGen with
    | (none, s) => (none, s)
    | (some key, s) =>
      let (tag, s) := s.drawTag
      let ctr := r.downCtr + 1
      let s := s.commitMeter slot { s.meter slot with downCtr := ctr }
      let frame := commandFrame key r.keyGen (s.rd Rec.MeterSec.Address slot) (s.rd Rec.Pair.RegionNumber) tag
        (respCtlOf rate false delay) ctr items
      (some ⟨tag, frame, ctr, carried, s.newestPos⟩, s)

/-! ### Planning a POLL (R199 to R203) -/

/-- The turnaround D of a DelayCode in air time. -/
def turnAir (delay : Nat) : Nat := (10 + 5 * delay) * airPerMs

/-- The carrier group booked for a Lea channel: the lowest within 1 kHz that has a valid member. -/
def State.groupFor (s : State) (hz : Nat) : Option Nat := (List.range 1024).find? fun g => s.groupNear g hz

/-- The booking of the answer to a frame that ends at `e` (R200, R201). -/
def State.answerBooking (s : State) (slot e rate delay : Nat) : Booking :=
  let d := turnAir delay
  let w := 2 * airPerMs + ceilDiv (2 * d) 100 + s.rd Rec.MeterClass.TurnWidenMs (s.planClass slot) * airPerMs
  let g := (s.groupFor (s.rd Rec.LeaChannel.CentreHz (s.rd Rec.MeterPlan.LeaChannel slot))).getD 1023
  let heads := s.listedHeads slot
  let members := s.groupValid g
  { meter := slot, group := g, mode := rate,
    headMask := maskOf ((List.range (min 8 members.length)).filter fun i => heads.contains (s.chanLane (members.getD i 0))),
    openAt := e + d - w, closeAt := e + d + w, maxFrameMs := leaTime rate (9 + leaMaxL rate) 1000,
    tenant := s.meterTenant slot }

/-- A prediction to launch at: the wake instant's centre, the uncertainty to plan with, and whether it is a sweep. -/
structure Aim where
  wp : Int
  u : Nat
  sweep : Bool := false
  deriving DecidableEq, Repr

/-- What the planner finds for a meter: aims in order of preference; and whether they are of a learning poll. -/
structure Aims where
  list : List Aim
  learning : Bool := false
  deriving DecidableEq, Repr

/-- The aims of a predicted meter (R199): the wake instants of the span that the uncertainty allows, or, for a model, the
last one before it that it still allows.
(Log entry 45: DESIGN CHOICE.) -/
def State.predictedAims (s : State) (slot : Nat) (pr : Predict) (period due lead : Nat) (model pending : Bool) : Aims :=
  let k := s.planClass slot
  let n := s.rd Rec.MeterPlan.LeaChannel slot
  let p := s.plan slot
  let scale := 1 + p.misses
  let um := s.uMax k n
  let notBefore := max lead ((p.poll.map PendPoll.notBefore).getD 0)
  let dueAir := s.airOfSecond due
  let start := max dueAir notBefore
  let last := max (dueAir + s.rd Rec.MeterClass.PollSlackS k * 1000 * airPerMs) (start + 2 * period)
  let first := pr.fromAir start
  let ahead (i : Nat) : Bool := decide ((lead : Int) ≤ (s.aimOf k n (pr.wp i) (scale * pr.u i)).2)
  let ok (i : Nat) : Bool := decide (scale * pr.u i ≤ um)
  let span := ((List.range ((last - start) / max period 1 + 2)).map (first + ·)).takeWhile fun i =>
    decide (pr.wp i ≤ last) && ok i
  let good := (span.filter fun i => decide ((start : Int) ≤ pr.wp i) && ahead i).map fun i => ({ wp := pr.wp i, u := scale * pr.u i } : Aim)
  if !good.isEmpty then { list := if pending then good else [] }
  else if !model then { list := [] }
  else
    let now := pr.fromAir lead
    if !ok now then { list := [] }
    else
      let i := now + largestBelow 32 fun x => ok (now + x)
      let i := if ahead i then i else i + 1
      { list := if ok i ∧ ahead i then [{ wp := pr.wp i, u := scale * pr.u i }] else [], learning := true }

/-- The aim of the next sweep POLL (R212): steps of C across the wake period, from the reference or the newest observation,
at most SweepPerDay sweeps a day.
(Log entry 47: DEDUCED.) -/
def State.sweepAim (s : State) (slot lead : Nat) : List Aim :=
  let k := s.planClass slot
  let n := s.rd Rec.MeterPlan.LeaChannel slot
  let p := s.plan slot
  let t := s.rd Rec.MeterClass.WakePeriodMs k * airPerMs
  let c := coverAir (s.rd Rec.MeterClass.Rate k) (s.rd Rec.MeterClass.ListenMs k) (s.preambleMax n)
  let um := s.uMax k n
  let begun := if p.sweepDay = s.today then p.sweeps else 0
  if p.sweepStep = 0 ∧ s.rd Rec.MeterClass.SweepPerDay k ≤ begun then []
  else
    let origin := (match p.ref, p.obs.getLast? with
      | some r, _ => r.1
      | none, some o => o.2
      | none, none => 0) + p.sweepStep * c
    let earliest := max lead ((p.poll.map PendPoll.notBefore).getD 0) + 2 * um
    let wp := if earliest ≤ origin then origin else origin + ceilDiv (earliest - origin) t * t
    let wp := if (lead : Int) ≤ (s.aimOf k n wp um).2 then wp else wp + t
    [{ wp := wp, u := um, sweep := true }]

/-- The aims for a meter (R199, R198, R212): of its model, of FIXED, or of a sweep. -/
def State.aims (s : State) (slot : Nat) : Aims :=
  let k := s.planClass slot
  let p := s.plan slot
  let t := s.rd Rec.MeterClass.WakePeriodMs k * airPerMs
  let lead := s.time.air + s.rd Rec.AirPolicy.PlanLeadMs * airPerMs
  let due := match p.poll with
    | some q => q.due
    | none => p.lastDue + s.rd Rec.MeterClass.PollIntervalS k
  match p.st with
  | .learning | .tracking => s.predictedAims slot (s.predictModel k p.obs) t due lead true p.poll.isSome
  | .fixed =>
    if p.poll.isNone then { list := [] }
    else match p.ref with
      | some (wa, ca) =>
        let a := s.predictedAims slot (s.predictFixed k wa ca) t due lead false true
        if a.list.isEmpty then { list := s.sweepAim slot lead } else a
      | none => { list := s.sweepAim slot lead }
  | .unsynced | .acquiring | .lost => { list := s.sweepAim slot lead }

/-- The follow COMMAND of a POLL (R203, R181): where the class's turnaround allows Follow, items wait, and the reserve
admits the charge of its frame on the head.
(Log entry 46: DESIGN CHOICE.) -/
def State.planFollow (s : State) (slot gid head band rate delay e : Nat) : Option FollowCmd × State :=
  if turnAir delay < 30 * airPerMs then (none, s)
  else
    let maxL := leaMaxL rate
    let pre := s.rd Rec.LeaChannel.DownPreambleMin (s.rd Rec.MeterPlan.LeaChannel slot)
    let (_, items) := s.commandItems slot (maxL - 26)
    if items.isEmpty then (none, s)
    else
      let span := leaAir rate pre (26 + items.length)
      let at' := e + 2 * turnAir delay + leaAir rate 4 (leaMaxL rate) + span
      if !s.dutyAdmits head band at' (chargeMs span) 1 then (none, s)
      else
        let ctrOut := decide ((s.meter slot).downCtr = 0xFFFFFFFF)
        match s.makeCommand slot maxL rate delay with
        | (none, s) => (none, if ctrOut then s.countPoll .airDefer slot DeferCause.lea.code else s)
        | (some f, s) =>
          (some f, { s with air := { s.air with charges := s.air.charges ++
            [{ head := head, band := band, bucket := at' / bucketAir, ms := chargeMs span, share := 1, gid := gid }] } })

/-- The POLL launched at an aim: entries on the admissible heads, the answer booked, and the follow COMMAND committed; or
why not, with the state that a refused booking leaves. -/
def State.launchPoll (s : State) (slot : Nat) (a : Aim) (learning : Bool) : Except (DeferCause × State) State :=
  let s0 := s
  let k := s.planClass slot
  let n := s.rd Rec.MeterPlan.LeaChannel slot
  let p := s.plan slot
  let rate := s.rd Rec.MeterClass.Rate k
  let delay := s.rd Rec.MeterClass.DelayCode k
  let band := s.rd Rec.LeaChannel.Band n
  let (pre, start) := s.aimOf k n a.wp a.u
  let start := start.toNat
  let span := leaAir rate pre 15
  let e := start + span
  let gid := s.air.nextId
  let entry : Launch :=
    { id := 0, gid := gid, head := 0, band := band, antenna := 0, carrier := s.rd Rec.LeaChannel.CentreHz n, start := start,
      span := span, amp := 0, charge := chargeMs span, source := .poll, channel := some n, rate := rate, meter := some slot,
      preamble := pre }
  match s.placeHeads (occHalf rate) 0 (s.rd Rec.AirPolicy.MaxLaunchHeads) entry (s.headList slot) with
  | (_, 0, why) => .error (why.getD .lane, s0)
  | (s, _, _) =>
    match s.book (s.answerBooking slot e rate delay) false with
    | (none, _) => .error (.context, (s0.book (s0.answerBooking slot e rate delay) false).2)
    | (some id, s) =>
      let head := ((s.air.queue.find? fun x => x.gid == gid).map Launch.head).getD 0
      let (follow, s) := s.planFollow slot gid head band rate delay e
      let (tag, s) := s.drawTag
      let own := s.rd Rec.MeterClass.Request k
      let req := if learning then own else (p.poll.map PendPoll.request).getD own
      let frame := pollFrame (s.rd Rec.MeterSec.Address slot) (s.rd Rec.Pair.RegionNumber) tag req (respCtlOf rate follow.isSome delay)
      let s := s.journalPlan slot [1, start, span, chargeMs span, band]
      let pos := s.newestPos
      let s := { s with air := { s.air with queue := s.air.queue.map fun (x : Launch) =>
        if x.gid = gid then { x with tag := tag, frame := whiten frame, position := pos } else x } }
      let cover := coverAir rate (s.rd Rec.MeterClass.ListenMs k) pre
      let centre := start + bitsAir rate 16 + cover / 2 - s.rd Rec.MeterClass.ListenMs k * airPerMs
      let o : OutPoll := { booking := id, gid := gid, tag := tag, rate := rate, delay := delay, endAir := e, u := a.u, centre := centre,
                           cover := cover, follow := follow }
      let steps := ceilDiv (s.rd Rec.MeterClass.WakePeriodMs k * airPerMs) (max cover 1)
      let begun := if p.sweepDay = s.today then p.sweeps else 0
      let st := match p.st with
        | .learning | .tracking => if learning then PlanSt.learning else .tracking
        | x => x
      let p := { s.plan slot with
        out := some o, st := st, sent := (tag, e, a.u) :: p.sent.take 7,
        learning := if learning then tag :: p.learning.take 7 else p.learning,
        poll := p.poll.map fun (q : PendPoll) => { q with notBefore := 0 },
        sweepStep := if a.sweep then (p.sweepStep + 1) % steps else p.sweepStep,
        sweeps := if a.sweep ∧ p.sweepStep = 0 then begun + 1 else begun,
        sweepDay := s.today }
      .ok (s.setPlan slot p)

/-- The first aim that can be launched, or the first reason. An aim whose booking would lie more than 600 s ahead waits.
(Log entry 45: DESIGN CHOICE.) -/
def State.launchFirst (s : State) (slot : Nat) (learning : Bool) : List Aim → Option DeferCause → Except (Option DeferCause × State) State
  | [], why => .error (why, s)
  | a :: l, why =>
    if (s.time.air : Int) + 590000 * airPerMs < a.wp then .error (why, s)
    else match s.launchPoll slot a learning with
      | .ok s => .ok s
      | .error (c, s) => s.launchFirst slot learning l (why.or (some c))

/-- A pending poll is planned (R199, R200, R201, R202): not for a meter polled over Ling, held by R211, or already in
flight; nothing is launched until the chip claims (R214).
(Log entry 45: DESIGN CHOICE.) -/
def execPollPlanned (slot : Nat) (s : State) : Out :=
  let p := s.plan slot
  let k := s.planClass slot
  let n := s.rd Rec.MeterPlan.LeaChannel slot
  let rate := s.rd Rec.MeterClass.Rate k
  let held := (p.poll.map PendPoll.held).getD false
  if !s.planned slot ∨ s.lingOnly slot ∨ !s.serving ∨ p.out.isSome ∨ held then .next s
  else if !s.leaRateOn n rate then .next ((if p.poll.isSome then s.deferPoll slot .lea else s).carryPlan slot)
  else if !s.bandHolds (s.planBand slot) (s.rd Rec.LeaChannel.CentreHz n) (occHalf rate) then
    .next ((if p.poll.isSome then (s.deferPoll slot .band).raiseOnce .airBandMismatch n 0 [n, s.planBand slot] else s).carryPlan slot)
  else
    let a := s.aims slot
    match s.launchFirst slot a.learning a.list none with
    | .ok s => .next (s.carryPlan slot)
    | .error (some c, s) => .next ((if p.poll.isSome then s.deferPoll slot c else s).carryPlan slot)
    | .error (none, s) => .next s

/-! ### Lock and launch (R206, R207) -/

/-- A response not sent (R204): counted, and reported at most once an hour per meter. -/
def State.responseMissed (s : State) (slot mode : Nat) : State :=
  (s.count { name := .airResponseMissed, a := slot }).raiseEvery hourMs .airResponseMissed slot (s.meterTenant slot) [slot, mode]

/-- LaunchLockMs before L an entry locks, if its charge and counter advance have committed; otherwise it is cancelled and
its poll deferred. A COMMAND carrying a safe command passes the check of R608. -/
def execLaunchLock (id : Nat) (s : State) : Out :=
  match s.air.queue.find? (fun e => e.id == id) with
  | none => .next s
  | some e =>
    if e.locked ∨ s.time.air + s.rd Rec.AirPolicy.LaunchLockMs * airPerMs < e.start then .next s
    else if s.posCommitted e.position then
      .next (({ s with air := { s.air with queue := s.air.queue.map fun (x : Launch) =>
        if x.id = id then { x with locked := true } else x } } : State).carryLaunch e)
    else match e.meter, e.source with
      | some m, .poll => .next ((s.cancelPoll m .lock).carryLaunch e)
      | some m, .response => .next (((s.withdrawLaunch e).responseMissed m e.rate).carryLaunch e)
      | _, _ => .next ((s.withdrawLaunch e).carryLaunch e)

/-- A launch of unknown outcome (R207): the poll is planned again as after a miss, which does not count.
(Log entry 51: DESIGN CHOICE.) -/
def State.launchUnknown (s : State) (e : Launch) : State :=
  let s := s.count { name := .airUnknown, a := headBand e.head e.band }
  match e.meter, e.source with
  | some m, .poll =>
    let p := s.plan m
    (match p.out with
     | some o =>
       if o.gid = e.gid ∧ ¬((s.air.queue ++ s.air.onAir).any fun x => x.gid == e.gid) then
         let after := s.time.air + s.rd Rec.AirPolicy.RetryDelayS * 1000 * airPerMs
         s.setPlan m { p with out := none, poll := p.poll.map fun (q : PendPoll) => { q with notBefore := after } }
       else s
     | none => s)
  | _, _ => match e.stream with
    | some (n, _) => s.floodOver n e.gid
    | none => s

/-- A locked launch goes on air at L (R207): counted by source, with its on-air time, under its Lea channel and rate, and
its PollTag recorded. A lane that is no longer ON, timed and obeyed sends nothing, nor does the air region while it restarts (R36); the
charge stands.
(Log entry 51: DESIGN CHOICE.) -/
def execLaunchSend (id : Nat) (s : State) : Out :=
  match s.air.queue.find? (fun e => e.id == id) with
  | none => .next s
  | some e =>
    if !e.locked ∨ s.time.air < e.start then .next s
    else
      let s := { s with air := { s.air with
        queue := s.air.queue.filter (fun (x : Launch) => x.id ≠ id),
        lastEnd := Map.put s.air.lastEnd (e.head, e.band) (e.start + e.span) } }
      if !(s.regionOn 5 && s.laneOn e.head && s.timed e.head && (s.lane e.head).hdr.obeyed) then .next ((s.launchUnknown e).carryLaunch e)
      else
        let hb := headBand e.head e.band
        let s := { s with air := { s.air with onAir := s.air.onAir ++ [e] } }
        let s := (s.count { name := .airLaunch, a := hb, b := e.source.code }).count { name := .airOnMs, a := hb } e.charge
        let s := match e.channel, e.source with
          | some n, .poll => if e.primary then s.count { name := .leaPoll, a := n, b := e.rate } else s
          | some n, .command => if e.primary then s.count { name := .leaCommand, a := n, b := e.rate } else s
          | some n, .flood => if e.primary then s.count { name := .leaBroadcast, a := n, b := e.rate } else s
          | _, _ => s
        let s := match e.stream with
          | some (n, _) => s.floodSent e n
          | none => s
        .next ((match e.meter with
          | some m => if e.primary then s.tagLaunched m e.tag else s
          | none => s).carryLaunch e)

/-! ### Outcomes, misses, follow frames (R157, R203, R212) -/

/-- A miss (R212): counted, the next attempt at least RetryDelayS later, and LOST at MissLimit.
(Log entry 47: DEDUCED.) -/
def State.missed (s : State) (slot : Nat) : State :=
  let p := s.plan slot
  let k := s.planClass slot
  let n := p.misses + 1
  let after := s.time.air + s.rd Rec.AirPolicy.RetryDelayS * 1000 * airPerMs
  let s := s.setPlan slot { p with misses := n, poll := p.poll.map fun (q : PendPoll) => { q with notBefore := after } }
  let s := s.countMeter slot 9
  if n < s.rd Rec.MeterClass.MissLimit k ∨ p.st = .lost ∨ p.st = .unsynced ∨ p.st = .acquiring then s
  else
    let p := s.plan slot
    let commanded := (p.poll.map PendPoll.commanded).getD false
    let s := s.setPlan slot { p with st := .lost, poll := p.poll.map fun (q : PendPoll) => { q with commanded := false } }
    let s := (s.countMeter slot 11).raise .airMeterLost (s.meterTenant slot) [slot, n]
    if commanded then s.raise .airPollDone (s.meterTenant slot) [slot, 1] else s

/-- A booked context's outcome returns (R157): of a POLL's answer or of a COMMAND's ACK. A FRAME_OK answer waits for
security; NO_FRAME, CRC_FAIL, LENGTH_FAIL and a FRAME_OK of another address are misses; any other outcome re-plans the poll
without one. -/
def execBookingOutcome (s : State) : Out :=
  match s.rx.outcomes with
  | [] => .next s
  | x :: rest =>
    let s := { s with rx := { s.rx with outcomes := rest } }
    let slot := x.b.meter
    let p := s.plan slot
    let same := bitOn (leAt x.desc 1 1) 6
    let endAir := leAt x.desc 24 8
    match p.out, p.ack with
    | some o, _ =>
      if o.booking = x.id then
        if x.outcome = 0 ∧ same then .next (s.setPlan slot { p with out := some { o with answered := some endAir } })
        else
          let s := s.setPlan slot { p with out := none }
          .next ((if x.outcome ≤ 3 then s.missed slot else s).carry (.meter slot))
      else match p.ack with
        | some (id, tag) =>
          if id = x.id then
            let s := s.setPlan slot { p with ack := none }
            .next ((if x.outcome = 0 ∧ same then s else s.tokenUnanswered slot tag).carry (.meter slot))
          else .next s
        | none => .next s
    | none, some (id, tag) =>
      if id = x.id then
        let s := s.setPlan slot { p with ack := none }
        .next ((if x.outcome = 0 ∧ same then s else s.tokenUnanswered slot tag).carry (.meter slot))
      else .next s
    | none, none => .next s

/-- At Re + D − LaunchLockMs the follow COMMAND is launched at Re + D, or dropped (R203): its counter value is then skipped
and its charge stands. It goes out locked, from the head that launched the POLL, and its ACK is booked.
(Log entry 46: DESIGN CHOICE.) -/
def execFollowDecision (slot : Nat) (s : State) : Out :=
  let p := s.plan slot
  match p.out with
  | none => .next s
  | some o =>
    match o.follow, o.answered with
    | some f, some re =>
      let start := re + turnAir o.delay
      let lock := s.rd Rec.AirPolicy.LaunchLockMs * airPerMs
      if s.time.air + lock < start then .next s
      else
        let s := s.setPlan slot { p with out := if o.closed then none else some { o with follow := none } }
        let n := s.rd Rec.MeterPlan.LeaChannel slot
        let pre := s.rd Rec.LeaChannel.DownPreambleMin n
        let span := leaAir o.rate pre (leAt f.frame 0 1)
        let charge := s.air.charges.find? fun c => c.gid == o.gid && c.share == 1
        match charge.bind fun c => (s.txAntenna c.head).map fun a => (c, a) with
        | none => .next s
        | some (c, a) =>
          let fits := (s.refusal c.head a c.band start span 0 1).isNone
          if start < s.time.air ∨ !s.posCommitted f.position ∨ !s.stillDue slot f.carried ∨ !s.headUp c.head ∨ !fits then .next s
          else
            let (go, s) := match f.carried.safe with
              | some _ => s.lockSafe slot (start + span)
              | none => (true, s)
            if !go then .next (s.carry (.meter slot))
            else
              let e : Launch :=
                { id := s.air.nextId, gid := s.air.nextId, head := c.head, band := c.band, antenna := a,
                  carrier := s.rd Rec.LeaChannel.CentreHz n, start := start, span := span, amp := s.txAmp c.head a c.band,
                  charge := c.ms, source := .command, channel := some n, rate := o.rate, meter := some slot, tag := f.tag,
                  position := f.position, frame := whiten f.frame, preamble := pre, locked := true }
              let s := { s with air := { s.air with queue := s.air.queue ++ [e], nextId := s.air.nextId + 1 } }
              let s := s.carriedSent slot f.tag f.carried
              let p := s.plan slot
              match s.book (s.answerBooking slot (start + span) o.rate o.delay) false with
              | (some id, s) =>
                .next ((s.setPlan slot { p with ack := some (id, f.tag), sent := (f.tag, start + span, o.u) :: p.sent.take 7 }).carryPlan slot)
              | (none, s) =>
                .next (((s.setPlan slot { p with sent := (f.tag, start + span, o.u) :: p.sent.take 7 }).tokenUnanswered slot f.tag).carryPlan slot)
    | _, _ => .next s

/-! ### Accepted uplinks (R194, R195, R201, R212) -/

/-- The heads of a descriptor with their SNR, best first (R201). -/
def descHeads (d : List Byte) : List (Nat × Int) :=
  sortBy (fun (h : Nat × Int) => -h.2) ((List.range 8).filterMap fun h =>
    let x := leAt d (64 + 8 * h) 1
    if x = 0xFF then none else some (x, toSigned 16 (leAt d (66 + 8 * h) 2)))

/-- Whether a state is one that `air.meter_synced` is raised on leaving. -/
def PlanSt.unsyncedKind : PlanSt → Bool
  | .unsynced | .acquiring | .lost => true
  | _ => false

/-- The codes of Table 8-1 in its order. -/
def PlanSt.code : PlanSt → Nat
  | .unsynced => 0 | .acquiring => 1 | .fixed => 2 | .learning => 3 | .tracking => 4 | .lost => 5

/-- A plan moved to a state, with `air.meter_synced` where it leaves UNSYNCED, ACQUIRING or LOST. -/
def State.planTo (s : State) (slot : Nat) (st : PlanSt) : State :=
  let p := s.plan slot
  let s := s.setPlan slot { p with st := st }
  if p.st.unsyncedKind ∧ ¬st.unsyncedKind then s.raise .airMeterSynced (s.meterTenant slot) [slot, st.code] else s

/-- Security ends a frame of a booked answer without accepting it: the poll is planned again. -/
def State.airRefused (s : State) (slot : Nat) : State :=
  let p := s.plan slot
  match p.out with
  | some o =>
    if o.answered.isNone then s
    else s.setPlan slot { p with out := if o.follow.isNone then none else some { o with closed := true } }
  | none => s

/-- Security accepts an uplink of a meter from the air (R193, R201, R212): misses end, the heads are ranked anew, the
answered poll is done (one that a learning poll preceded stays pending, R199), a FloodSetup whose ACK this is is settled, and a meter without observations whose answer carries no
wake report is planned from a fixed uncertainty (R198). -/
def State.airAccepted (s : State) (slot : Nat) (desc : List Byte) (type tag : Nat) (wake : Bool) : State :=
  let p := s.plan slot
  let answered := type != 10 && (p.sent.any fun x => x.1 == tag) && !p.learning.contains tag
  let out := p.out.bind fun (o : OutPoll) =>
    if o.tag ≠ tag ∨ type = 10 then some o
    else if o.follow.isNone then none
    else some { o with closed := true }
  let ref := match p.out with
    | some o => if o.tag = tag ∧ type ≠ 10 then some (o.centre, o.cover) else none
    | none => none
  let poll := p.poll
  let s := s.setPlan slot { p with
    misses := 0, heads := descHeads desc, out := out, poll := if answered ∧ type = 8 then none else poll,
    ref := if p.st = .fixed ∨ p.obs.isEmpty then ref.or p.ref else p.ref }
  let s := if answered ∧ type = 8 ∧ (poll.map PendPoll.commanded).getD false then s.raise .airPollDone (s.meterTenant slot) [slot, 0] else s
  let f := s.floodMeter slot
  let s := if type = 9 ∧ f.tag = some tag then
      { s with fl := { s.fl with meters := Map.put s.fl.meters slot { f with due := false, tag := none } } } else s
  if ref.isSome ∧ !wake ∧ p.obs.isEmpty ∧ s.planned slot then s.planTo slot .fixed else s

/-- The wake report of an accepted frame (R194, R195): `start` is the frame's StartAirTime.
(Log entry 49: DESIGN CHOICE.) -/
def State.airObserve (s : State) (slot start tag : Nat) (hasTag : Bool) (b : List Byte) : State :=
  let p := s.plan slot
  let cls := s.planClass slot
  let k := leAt b 0 4
  let lag := leAt b 5 4 * 2000
  let sent := if hasTag then p.sent.find? fun x => x.1 == tag else none
  let w := if leAt b 4 1 = 1 then some (start - lag) else sent.map fun x => x.2.1 - lag
  if b.length ≠ 9 ∨ 1 < leAt b 4 1 ∨ 60000000 < leAt b 5 4 ∨ !s.planned slot then s
  else match w with
    | none => s
    | some w =>
      let newest := (p.obs.getLast?.map Prod.fst).getD 0
      let seed (s : State) : State := s.setPlan slot { s.plan slot with obs := [(k, w)], rejects := 0 }
      let learn (s : State) : State := match (s.plan slot).st with
        | .learning | .tracking => s
        | _ => s.planTo slot .learning
      if p.obs.isEmpty then learn ((seed s).journalPlan slot [2, k, w])
      else if k < newest then learn ((seed (s.planTo slot .unsynced)).journalPlan slot [2, k, w])
      else
        let e : Int := (w : Int) - (s.predictModel cls p.obs).wp k
        let limit := match sent with
          | some x => some (x.2.2 + 1000 * s.rd Rec.MeterClass.UFloorUs cls)
          | none => none
        let bad := match limit with
          | some l => decide (2 * l < e.natAbs)
          | none => false
        if bad then
          let s := (s.countMeter slot 10).raise .airModelReject (s.meterTenant slot)
            [slot, slotOf (e / 2), ((sent.map fun x => x.2.2).getD 0)]
          if 1 ≤ p.rejects then learn ((seed s).journalPlan slot [2, k, w])
          else learn (s.setPlan slot { s.plan slot with rejects := p.rejects + 1 })
        else
          let age := s.rd Rec.MeterClass.DriftAgeDays cls * 86400 * 1000 * airPerMs
          let kept := (p.obs.filter fun o => decide (s.time.air ≤ o.2 + age)) ++ [(k, w)]
          let kept := kept.drop (kept.length - s.rd Rec.MeterClass.DriftDepth cls)
          learn ((s.setPlan slot { p with obs := kept, rejects := 0 }).journalPlan slot [3, k, w])

/-- The carrier (Hz) on which a meter heard in a mode on a group listens for its response.
(Log entry 48: UNVERIFIED.) -/
def State.responseHz (s : State) (mode g : Nat) : Nat :=
  Config.responseHz mode (match s.groupValid g with
    | i :: _ => (chanFreq (s.chanBody i) / 2 ^ 32).toNat
    | [] => 0)

/-- R204: after an accepted uplink of a wireless M-Bus meter in S2, T2, C2 or N2 with a command pending, a response is placed at the
centre of the mode's response delay window, from the head that heard the uplink best, against the response reserve; one that cannot be
placed there is missed. The command stays pending.
(Log entry 48: UNVERIFIED.) -/
def State.placeResponse (s : State) (slot mode : Nat) (desc : List Byte) : State :=
  let (c, items) := s.commandItems slot 229
  if c = {} ∨ ¬[5, 7, 9, 10].contains mode then s
  else
    let frame := Config.responseFrame mode (s.rd Rec.MeterSec.Address slot) items
    let span := Config.responseSpan mode frame.length
    let start := leAt desc 24 8 + (Config.responseWindow mode).1 + ((Config.responseWindow mode).2 - (Config.responseWindow mode).1) / 2
    let hz := s.responseHz mode (leAt desc 6 2)
    let half := Config.responseHalfHz mode
    match (List.range 32).find? (fun b => s.bandHolds b hz half), descHeads desc with
    | some b, (h, _) :: _ =>
      let e : Launch :=
        { id := 0, gid := s.air.nextId, head := h, band := b, antenna := 0, carrier := hz, start := start, span := span, amp := 0,
          charge := chargeMs span, source := .response, rate := mode, meter := some slot, frame := frame }
      (match if s.time.air + s.rd Rec.AirPolicy.LaunchLockMs * airPerMs ≤ start then s.placeHeads half 1 1 e [h] else (s, 0, none) with
       | (_, 0, _) => s.responseMissed slot mode
       | (s, _, _) =>
         let s := s.journalPlan slot [6, start, span, e.charge, b]
         let pos := s.newestPos
         ({ s with air := { s.air with queue := s.air.queue.map fun (x : Launch) =>
             if x.gid = e.gid then { x with position := pos } else x } } : State).carryPlan slot)
    | _, _ => s.responseMissed slot mode

/-! ### Commands (Table 8-10) -/

/-- The next wake instant of a meter and its uncertainty. -/
def State.nextWake (s : State) (slot : Nat) : Option (Int × Nat) :=
  let p := s.plan slot
  let k := s.planClass slot
  let pr := match p.st with
    | .learning | .tracking => some (s.predictModel k p.obs)
    | .fixed => p.ref.map fun (r : Nat × Nat) => s.predictFixed k r.1 r.2
    | _ => none
  pr.map fun (q : Predict) => let i := q.fromAir s.time.air; (q.wp i, q.u i)

/-- The state a plan without a model has: ACQUIRING where the class sweeps (Table 8-1).
(Log entry 47: DEDUCED.) -/
def State.unsyncedState (s : State) (slot : Nat) : PlanSt :=
  if 0 < s.rd Rec.MeterClass.SweepPerDay (s.planClass slot) then .acquiring else .unsynced

/-- The state a plan reads as: a change of the class's SweepPerDay moves a meter between UNSYNCED and ACQUIRING. -/
def State.planState (s : State) (slot : Nat) : PlanSt :=
  match (s.plan slot).st with
  | .unsynced | .acquiring => s.unsyncedState slot
  | x => x

/-- AIR.PLAN_READ: ŝ and σ in ns, wake instants in air periods, u in ns; a disabled meter reads state 6. -/
def readAirPlan (slot : Nat) (c : Caller) (s : State) : Reply :=
  let p := s.plan slot
  let k := s.planClass slot
  let f := fitOf (s.rd Rec.MeterClass.WakePeriodMs k * airPerMs) p.obs
  let rate : Int := if f.n < 2 then 0 else if f.xx = 0 then Config.driftRate p.obs / 2 else divRound f.xd (2 * f.xx.toNat)
  let next := s.nextWake slot
  let heads := s.listedHeads slot
  gatedRead (s.meterReadChecks c slot 1)
    { status := .done, slots :=
        [if s.planned slot then (s.planState slot).code else 6, p.obs.length] ++ p.obs.flatMap (fun o => [o.1, o.2]) ++
        [if p.obs.isEmpty then noValue else slotOf rate, if p.obs.isEmpty then noValue else s.sigmaNs k f,
         slotOpt (next.map fun x => slotOf x.1), slotOpt (next.map fun x => x.2), heads.length] ++ heads ++
        (match p.poll with
         | some q => [1, q.due, q.request, q.priority]
         | none => [0]) ++ [p.misses] }

def execAirPlanRead (ch slot : Nat) (s : State) : Out := .next (s.readCommand ch .airPlanRead (readAirPlan slot))

/-- AIR.POLL_NOW: a poll becomes pending now, or the pending one takes the Request's bits and the higher priority. -/
def runAirPollNow (slot request priority : Nat) (c : Caller) (s : State) : Reply × State :=
  gated s [(c.isOperator, .refusedRole), (c.slots 3, .badLength), (decide (request ≤ 0x1F ∧ priority ≤ 3), .badArgument),
      (isMeterSlot slot, .badArgument), (s.meterHere slot, .absentCapacity), s.notReleasing (s.meterTenant slot), (s.planned slot, .notPlanned)] fun s =>
    let p := s.plan slot
    let q : PendPoll := match p.poll with
      | some q => { q with request := q.request ||| request, priority := min q.priority priority, commanded := true }
      | none => { due := s.legalS, request := request, priority := priority, commanded := true }
    ({ status := .deferred }, ((s.setPlan slot { p with poll := some q }).journalPlan slot [0, q.due]).carry (.meter slot))

def execAirPollNow (ch slot request priority : Nat) (s : State) : Out :=
  .next (s.command ch .airPollNow (runAirPollNow slot request priority))

/-- AIR.MODEL_RESET. -/
def runAirModelReset (slot : Nat) (c : Caller) (s : State) : Reply × State :=
  gated s [(c.isOperator, .refusedRole), (c.slots 1, .badLength), (isMeterSlot slot, .badArgument), (s.meterHere slot, .absentCapacity), s.notReleasing (s.meterTenant slot),
      (s.planned slot, .notPlanned)] fun s =>
    let p := s.plan slot
    ({ status := .done }, ((s.setPlan slot { p with st := s.unsyncedState slot, obs := [], ref := none, rejects := 0, misses := 0 }).journalPlan
      slot [4]).carry (.meter slot))

def execAirModelReset (ch slot : Nat) (s : State) : Out := .next (s.command ch .airModelReset (runAirModelReset slot))

/-- The earliest end at which R209 admits a planned charge of `ms`. -/
def State.dutyFree (s : State) (head b ms : Nat) : Option Nat :=
  let first := s.time.air + ms * airPerMs
  let w := s.rd Rec.Band.WindowS b * 1000 * airPerMs
  let times := first :: (s.air.charges.filter fun c => c.head == head && c.band == b).map fun c => max first ((c.bucket + 1) * bucketAir + w)
  leastBy id (times.filter fun t => s.dutyAdmits head b t ms 0)

/-- AIR.DUTY_READ: budget, counted charge, reserve used, flood used (ms), and the earliest start of a 100 ms launch. -/
def readAirDuty (head b : Nat) (c : Caller) (s : State) : Reply :=
  let t := s.time.air
  gatedRead [(c.isObserver, .refusedRole), (c.slots 2, .badLength), (decide (head < 64 ∧ b < 32), .badArgument),
      (s.laneHere head, .absentUnit)]
    { status := .done, slots :=
        [s.dutyBudget b, s.counted head b t, s.counted head b t (some 1), s.counted head b t (some 2),
         slotOpt ((s.dutyFree head b 100).map fun e => e - 100 * airPerMs)] }

def execAirDutyRead (ch head band : Nat) (s : State) : Out := .next (s.readCommand ch .airDutyRead (readAirDuty head band))

/-- AIR.QUEUE_READ: the entries of a queue. -/
def readAirQueue (head b : Nat) (c : Caller) (s : State) : Reply :=
  let l := sortBy (fun (e : Launch) => (e.start : Int)) (s.air.queue.filter fun e => e.head == head && e.band == b)
  gatedRead [(c.isObserver, .refusedRole), (c.slots 2, .badLength), (decide (head < 64 ∧ b < 32), .badArgument),
      (s.laneHere head, .absentUnit)]
    { status := .done, slots := l.length :: l.flatMap fun e => [e.start, e.source.code, e.charge, bit e.locked] }

def execAirQueueRead (ch head band : Nat) (s : State) : Out := .next (s.readCommand ch .airQueueRead (readAirQueue head band))

/-- AIR.LAUNCH_CANCEL: an unlocked launch is withdrawn, its charge refunded and its poll deferred (R206). -/
def runAirLaunchCancel (head b start : Nat) (c : Caller) (s : State) : Reply × State :=
  let e := s.air.queue.find? fun e => e.head == head && e.band == b && e.start == start
  gated s [(c.isService, .refusedRole), (c.slots 3, .badLength), (isLane head && decide (b < 32), .badArgument),
      (s.laneHere head, .absentUnit), (e.isSome, .badArgument),
      (!((e.map fun (x : Launch) => s.air.queue.any fun y => y.gid == x.gid && y.locked).getD false), .launchLocked)] fun s =>
    match e with
    | none => ({ status := .badArgument }, s)
    | some e =>
      ({ status := .done, slots := [e.charge] },
        match e.meter, e.source with
        | some m, .poll => (s.cancelPoll m .queue).carryLaunch e
        | _, _ => (s.withdrawLaunch e).carryLaunch e)

def execAirLaunchCancel (ch head band start : Nat) (s : State) : Out :=
  .next (s.command ch .airLaunchCancel (runAirLaunchCancel head band start))

/-- AIR.TX_TEST: a test carrier PlanLeadMs ahead, charged as a launch.
(Log entry 50: DESIGN CHOICE.) -/
def runAirTxTest (head antenna b carrier durMs : Nat) (c : Caller) (s : State) : Reply × State :=
  let start := s.time.air + s.rd Rec.AirPolicy.PlanLeadMs * airPerMs
  let span := durMs * airPerMs
  let why := s.refusal head antenna b start span durMs 0
  gated s [(c.isService, .refusedRole), (c.slots 5, .badLength),
      (decide (head < 64 ∧ antenna < 8 ∧ b < 32 ∧ 1 ≤ durMs ∧ durMs ≤ 1000), .badArgument), (s.laneHere head, .absentUnit),
      (s.rdB Rec.HeadAir.TxEnable head && bitOn (s.rd Rec.HeadAir.TxAntennaMask head) antenna, .refusedState),
      (s.bandHolds b carrier 0, .bandMismatch), (decide (why ≠ some .duty), .dutyExhausted), (why.isNone && s.serving, .refusedState)] fun s =>
    let s := s.journalPlan 0xFFFFFFFF [5, start, span, durMs, b]
    let e : Launch :=
      { id := 0, gid := s.air.nextId, head := head, band := b, antenna := antenna, carrier := carrier, start := start,
        span := span, amp := s.txAmp head antenna b, charge := durMs, source := .test, position := s.newestPos }
    let s := s.placeLaunch e 0
    ({ status := .deferred }, s.carry .duty)

def execAirTxTest (ch head antenna band carrier duration : Nat) (s : State) : Out :=
  .next (s.command ch .airTxTest (runAirTxTest head antenna band carrier duration))

/-- AIR.COUNTERS_READ: the counters of R217 of a head and band, or of a meter where bit 31 is set. -/
def readAirCounters (target b : Nat) (c : Caller) (s : State) : Reply :=
  let slot := target % 2 ^ 31
  let meter := bitOn target 31
  let hb := headBand target b
  gatedRead [(c.isObserver, .refusedRole), (c.slots 2, .badLength), (if meter then isMeterSlot slot else decide (target < 64 ∧ b < 32), .badArgument),
      (!meter || s.meterHere slot, .absentCapacity), (meter || s.laneHere target, .absentUnit)]
    { status := .done, slots :=
        if meter then [9, 10, 11].map fun j => Map.getD (s.meter slot).counts j 0
        else (List.range 5).map (fun i => s.ctr { name := .airLaunch, a := hb, b := i }) ++ [s.ctr { name := .airOnMs, a := hb }] ++
          (List.range 8).map (fun i => s.ctr { name := .airDefer, a := hb, b := i }) ++
          [s.ctr { name := .airMerged, a := hb }, s.ctr { name := .airLate, a := hb }, s.ctr { name := .airUnknown, a := hb }] }

def execAirCountersRead (ch target band : Nat) (s : State) : Out :=
  .next (s.readCommand ch .airCountersRead (readAirCounters target band))

/-! ### Records (R213, R215, R187) -/

/-- Unlocked launches of some meters cancelled and planned again (R213); a flood frame moves to a later window.
(Log entry 49: DESIGN CHOICE.) -/
def State.cancelWhere (s : State) (p : State → Launch → Bool) : State :=
  let hit := s.air.queue.filter fun e => !(s.air.queue.any fun x => x.gid == e.gid && x.locked) && p s e
  hit.foldl (fun s e =>
    match e.meter, e.source with
    | some m, .poll => s.cancelPoll m .queue
    | _, _ => s.withdrawLaunch e) s

/-- The band record (R215). -/
def ruleBand : RecordRule where
  writer _ c _ _ := c.isOperator
  effect s _ i old b := if old = b then s else s.cancelWhere fun _ e => e.band == i

/-- The head air record (R215). -/
def ruleHeadAir : RecordRule where
  writer _ c _ _ := c.isOperator
  absent s i _ := if s.laneHere i then none else some .absentUnit

/-- The meter class record (R213, R215). -/
def ruleMeterClass : RecordRule where
  writer _ c _ _ := c.isOperator
  effect s _ i old b := if old = b then s else s.cancelWhere fun s e => (e.meter.map fun m => s.planClass m == i).getD false

/-- The first PinHead of a meter plan that names a head the variant lacks (R3, R9). -/
def State.absentPin (s : State) (body : Nat) : Option Fld :=
  ((List.range 8).map Rec.MeterPlan.PinHead).find? fun f => decide (f.of body < 64) && !s.laneHere (f.of body)

/-- The meter plan record (R192, R213): a plan enabled without a model is UNSYNCED, or ACQUIRING where its class sweeps. -/
def ruleMeterPlan : RecordRule where
  writer _ c _ _ := c.isOperator
  absent s i b := match s.absentPin b with
    | some _ => some .absentUnit
    | none => if s.meterHere i then none else some .absentCapacity
  blames s _ b := s.absentPin b
  effect s _ i old b :=
    if old = b then s
    else
      let s := s.cancelWhere fun _ e => e.meter == some i
      let p := s.plan i
      if Rec.MeterPlan.Enabled.on b then
        if Rec.MeterPlan.Enabled.on old then s
        else s.setPlan i { p with
          st := if p.obs.isEmpty ∧ p.ref.isNone then s.unsyncedState i else p.st, lastDue := s.dueAt i s.legalS }
      else s

/-- The air policy record (R215). -/
def ruleAirPolicy : RecordRule where
  writer _ c _ _ := c.isOperator

/-- The Lea channel record (R187, R213): unlocked launches of the channel are cancelled and planned again. -/
def ruleLeaChannel : RecordRule where
  writer _ c _ _ := c.isOperator
  effect s _ i old b := if old = b then s else s.cancelWhere fun _ e => e.channel == some i

def execBandRecord (tenant inst : Nat) (body : List Byte) (s : State) : Out :=
  .next (s.applyRecord ruleBand Schema.Band tenant inst body)

def execHeadAirRecord (tenant inst : Nat) (body : List Byte) (s : State) : Out :=
  .next (s.applyRecord ruleHeadAir Schema.HeadAir tenant inst body)

def execMeterClassRecord (tenant inst : Nat) (body : List Byte) (s : State) : Out :=
  .next (s.applyRecord ruleMeterClass Schema.MeterClass tenant inst body)

def execMeterPlanRecord (tenant inst : Nat) (body : List Byte) (s : State) : Out :=
  .next (s.applyRecord ruleMeterPlan Schema.MeterPlan tenant inst body)

def execAirPolicyRecord (tenant inst : Nat) (body : List Byte) (s : State) : Out :=
  .next (s.applyRecord ruleAirPolicy Schema.AirPolicy tenant inst body)

def execLeaChannelRecord (tenant inst : Nat) (body : List Byte) (s : State) : Out :=
  .next (s.applyRecord ruleLeaChannel Schema.LeaChannel tenant inst body)

/-- LEA.CHANNELS_READ: per channel the applied record, the carrier groups within 1 kHz, and the launches queued. -/
def readLeaChannels (c : Caller) (s : State) : Reply :=
  gatedRead [(c.isObserver, .refusedRole), (c.slots 0, .badLength)]
    { status := .done, slots := (List.range 16).flatMap fun n =>
        let b := s.bodyOf Schema.LeaChannel n
        let gs := (List.range 1024).filter fun g => s.groupNear g (s.rd Rec.LeaChannel.CentreHz n)
        [b % 2 ^ 64, b / 2 ^ 64, gs.length] ++ gs ++ [(s.air.queue.filter fun e => e.channel == some n).length] }

def execLeaChannelsRead (ch : Nat) (s : State) : Out := .next (s.readCommand ch .leaChannelsRead readLeaChannels)

end Sys2Proof.Machine
end

