-- ==== Sys2Proof/Machine/Measure.lean ====
section
/-! DEFINITION. What the line region computes from the samples of a tributary (R394 to R398, R406 to R410): crossings, the sums of an energy
step, resampled windows, RMS and harmonic groups, in integers. Buffers are newest sample first. -/

namespace Sys2Proof.Machine

open Sys2Proof

/-! ### Scales (R394) -/

/-- 2^22 × 10^6: a code times its channel's scale over this is its physical value in mV or mA (R394). -/
def codeUnit : Nat := 2 ^ 22 * 10 ^ 6

/-- The scale of a channel: full scale × (10^6 + GainPpm), negative for a current channel that IInvert reverses (R394). -/
def channelScale (fullScale : Nat) (gainPpm : Int) (invert : Bool) : Int :=
  (fullScale * (1000000 + gainPpm)) * (if invert then -1 else 1)

/-- The largest code that is not over-range (R395). -/
def overLimit : Nat := 3355443

/-- 125 µs in air-time periods. -/
def samplePeriods : Nat := 250000

/-- A channel's code in a sample. -/
def MetroSample.code (x : MetroSample) (c : Nat) : Int := x.codes.getD c 0

/-- A FIR over the newest samples of a channel, where none of them is missing or absent (R397). -/
def firCodes (tap : Nat → Int) (n c : Nat) (l : List MetroSample) : Option Int :=
  let m := l.take n
  if m.length < n ∨ m.any (fun x => x.missing) then none else some (m.mapIdx fun i (x : MetroSample) => tap i * x.code c).sum

/-! ### Crossings (R398) -/

/-- The instant of a crossing between two filtered samples, without the filter's delay of 64 samples, to the nearest ns (R398). -/
def crossInstant (t0 : Nat) (y0 : Int) (t1 : Nat) (y1 : Int) : Nat :=
  let d := y1 - y0
  let exact := ((t0 : Int) - 64 * samplePeriods) * d + ((t1 : Int) - t0) * (-y0)
  (2 * ((exact + d) / (2 * d))).toNat

/-- A phase after the newest sample (R398): filtered, compared with −ZcHystMv (`hyst`, in filtered units), and a rising crossing
detected. A missing sample under the filter gives none (R397).
(Log entry 167: DESIGN CHOICE.) -/
def ZcPhase.sample (z : ZcPhase) (p : Nat) (scale hyst : Int) (l : List MetroSample) : ZcPhase :=
  match firCodes Config.crossTap 129 p l, l.head? with
  | some y, some x =>
    let y := y * scale
    match z.filtered with
    | some (t0, y0) =>
      if z.below ∧ y0 ≤ 0 ∧ 0 < y then
        { z with filtered := some (x.tag, y), below := false, found := z.found ++ [crossInstant t0 y0 x.tag y] }
      else { z with filtered := some (x.tag, y), below := z.below || decide (y < -hyst) }
    | none => { z with filtered := some (x.tag, y), below := z.below || decide (y < -hyst) }
  | _, _ => { z with filtered := none }

/-! ### Energy sums (R396, R409) -/

/-- How many samples the interpolator of R396 delays the voltage by, to be centred on it. -/
def alignPlace : Nat := 8

/-- A current channel delayed by PhaseCorrNs against the sample at place 8 of a buffer (R396): itself at 0, else 16 taps about it. -/
def delayed (ns : Int) (c : Nat) (l : List MetroSample) : Option Int :=
  if ns = 0 then
    match l[alignPlace]? with
    | some x => if x.missing then none else some (x.code c)
    | none => none
  else (firCodes (Config.delayTap ns) 16 c l).map (roundEven 17)

/-- The sums of a phase over a step, in codes: Σ v i, Σ v90 i, Σ v², Σ i², and how many samples these last have. -/
structure PhaseSum where
  p : Int := 0
  q : Int := 0
  vv : Nat := 0
  ii : Nat := 0
  n : Nat := 0
  deriving DecidableEq, Repr

/-- One sample's part in the sums of a phase: the sample at place 8 of a buffer. -/
def PhaseSum.add (a : PhaseSum) (ph : Nat) (ns : Int) (l : List MetroSample) : PhaseSum :=
  match l[alignPlace]? with
  | none => a
  | some x =>
    if x.missing then a
    else
      let v := x.code ph
      let i := x.code (4 + ph)
      let p := match delayed ns (4 + ph) l with
        | some y => v * y
        | none => 0
      let q := match firCodes Config.hilbertTap 255 ph (l.drop alignPlace), delayed ns (4 + ph) (l.drop 127) with
        | some y, some z => roundEven 23 y * z
        | _, _ => 0
      { p := a.p + p, q := a.q + q, vv := a.vv + (v * v).toNat, ii := a.ii + (i * i).toNat, n := a.n + 1 }

/-- The sums of a phase over the samples whose tags belong to a step. -/
def phaseSum (ph : Nat) (ns : Int) (mine : Nat → Bool) : List MetroSample → PhaseSum
  | [] => {}
  | x :: l =>
    let a := phaseSum ph ns mine l
    match (x :: l)[alignPlace]? with
    | some y => if mine y.tag then a.add ph ns (x :: l) else a
    | none => a

/-- The unit of step energies: mWh are V·A × 125 µs over this, with V and A in scaled codes (R409). -/
def energyUnit : Nat := 28800000000 * codeUnit ^ 2

/-- Active and reactive energy of a phase over a step, in parts of a milli-unit (R409). -/
def PhaseSum.active (a : PhaseSum) (kv ki : Int) : Int := a.p * kv * ki
def PhaseSum.reactive (a : PhaseSum) (kv ki : Int) : Int := a.q * kv * ki

/-- Apparent energy: Vrms × Irms × 200 ms, which are 1 600 samples (R409); 0 where every sample is missing. -/
def PhaseSum.apparent (a : PhaseSum) (kv ki : Int) : Int :=
  if a.n = 0 then 0 else (isqrt (a.vv * a.ii * (kv * kv * ki * ki).toNat) * 1600 / a.n : Nat)

/-! ### Windows (R406 to R408) -/

/-- The points of a channel over a window from `a` to `b` resampled to `m` points, from its samples oldest first (R406): the points between
each two samples, by the four about them. -/
def resample (a b m c : Nat) : List MetroSample → List Int
  | w :: l =>
    (match l with
    | x :: y :: z :: _ =>
      let first := if x.tag ≤ a then 0 else ceilDiv ((x.tag - a) * m) (b - a)
      let last := if y.tag ≤ a then 0 else min m (ceilDiv ((y.tag - a) * m) (b - a))
      (List.range (last - first)).map fun k =>
        let n := first + k
        let mu := ((((b : Int) - a) * n + ((a : Int) - x.tag) * m) * 1000000 / (m * ((y.tag : Int) - x.tag))).toNat
        Config.cubic (w.code c) (x.code c) (y.code c) (z.code c) mu
    | _ => []) ++ resample a b m c l
  | [] => []

/-- The RMS of a channel's points in mV or mA, rounded down (R407). -/
def rmsOf (scale : Int) (pts : List Int) : Nat :=
  if pts.isEmpty then 0 else isqrt ((pts.map fun x => (x * x).toNat).sum * (scale * scale).toNat / pts.length) / codeUnit

/-- |X_k|² of the DFT of some points, with 60 fraction bits (R408). -/
def binSq (pts : List Int) (k : Nat) : Nat :=
  let n := pts.length
  let x := (pts.mapIdx fun i (v : Int) =>
    let w := Config.dftWave n (i * k % n)
    ({ re := v * w.1, im := v * w.2 } : Cx)).foldl Cx.add {}
  x.sq

/-- The squares of the harmonic groups 1 to 63 of some points over `nc` cycles, × N² × 2^60 codes² (R408): C_k² is 2 |X_k|² / N². -/
def groupSquares (nc : Nat) (pts : List Int) : List Nat :=
  let bins := (List.range (64 * nc)).map (binSq pts)
  let half := nc / 2
  (List.range 63).map fun h =>
    let k := nc * (h + 1)
    bins.getD (k - half) 0 + bins.getD (k + half) 0 + 2 * ((List.range (nc - 1)).map fun i => bins.getD (k - half + 1 + i) 0).sum

/-- A group in mV or mA, from its square. -/
def groupValue (scale : Int) (points sq : Nat) : Nat :=
  isqrt (sq * (scale * scale).toNat / (points * points * 2 ^ 60)) / codeUnit

/-- THD in 0.01 %: the root of the squares of the valid groups 2 to 63 over group 1 (R408). -/
def thdOf (valid : Nat → Bool) (squares : List Nat) : Nat :=
  let rest := ((squares.mapIdx fun i q => if 0 < i ∧ valid (i + 1) then q else 0)).sum
  let one := squares.headD 0
  if one = 0 then Config.thdOfZero rest else isqrt (rest * 100000000 / one)

end Sys2Proof.Machine
end

