-- ==== Sys2Proof/Machine/Metrology.lean ====
section
/-! DEFINITION. Chapter 16: line metrology (R394 to R424), from the samples that a superframe delivers (State.metroSample) to
crossings, windows, energy steps, registers, intervals and pulses. -/

namespace Sys2Proof.Machine

open Sys2Proof

/-! ### Tributaries -/

/-- A phase of a tributary. -/
def MetroTrib.phase (x : MetroTrib) (p : Nat) : ZcPhase := Map.getD x.phases p {}

/-- A tributary's metrology with a phase set. -/
def MetroTrib.setPhase (x : MetroTrib) (p : Nat) (z : ZcPhase) : MetroTrib := { x with phases := Map.put x.phases p z }

/-- Whether a tributary's metrology chains run: its lane ON with a cell for it (R121). -/
def State.metroChain (s : State) (t : Nat) : Bool :=
  match s.tribLane t with
  | some n => s.regionOn 6 && s.laneOn n && s.tribServed n (t % 256)
  | none => false

/-- The reference phase. -/
def State.zcRef (s : State) (t : Nat) : Nat := s.rd Rec.MetroTrib.ZcRef t

/-- The nominal period in air time. -/
def State.nominalAir (s : State) (t : Nat) : Nat :=
  if s.rdB Rec.MetroTrib.NominalHz t then 1000 * airPerMs / 60 else 20 * airPerMs

/-- Nc (R405). -/
def State.cycles (s : State) (t : Nat) : Nat := if s.rdB Rec.MetroTrib.NominalHz t then 12 else 10

/-- ZcTimeoutMs in air time. -/
def State.zcTimeout (s : State) (t : Nat) : Nat := s.rd Rec.MetroTrib.ZcTimeoutMs t * airPerMs

/-- The line time now (R404): its value, and while the zone is not VALID one more per nominal period since the instant the
value belongs to. -/
def State.lineTime (s : State) (t : Nat) : Nat :=
  let x := s.metro t
  match x.lineAir with
  | some a => if x.zone = .valid then x.lineTime else (x.lineTime + (s.time.air - a) / s.nominalAir t) % 2 ^ 48
  | none => x.lineTime

/-- The frequency of a zone in mHz (R405), while it is VALID: the valid intervals among the last Nc crossings over their total
duration. -/
def State.lineFreq (s : State) (t : Nat) : Option Nat :=
  let x := s.metro t
  let l := x.crossings.take (s.cycles t)
  let spans := ((l.zip l.tail).filter fun e => e.1.2).map fun e => e.1.1 - e.2.1
  if x.zone = .valid ∧ 0 < spans.sum then some (spans.length * 2000000000 * 1000 / spans.sum) else none

/-! ### Zone states (R400 to R403) -/

/-- Whether a zone stands in a state other than VALID for Ling and windows. -/
def State.zoneValid (s : State) (t : Nat) : Bool := decide ((s.metro t).zone = .valid)

/-- A phase loses its crossings (R403). -/
def State.losePhase (s : State) (t p : Nat) : State :=
  let x := s.metro t
  let z := x.phase p
  if z.valid then
    ((s.setMetro t (x.setPhase p { z with valid := false })).count { name := .metroPhaseLoss, a := t, b := p }).raise .metroPhaseLost 0 [t, p]
  else s

/-- The zone of a tributary enters ACQUIRING: every other phase is LOST (R403), and line time runs at the nominal rate
(R404). -/
def State.acquire (s : State) (t : Nat) : State :=
  let x := (s.metro t).freshWindow
  let s := s.setMetro t { x with
    zone := .acquiring, entered := s.time.air, lineAir := some (x.lineAir.getD s.time.air),
    phases := Map.mapV x.phases fun _ (z : ZcPhase) => { z with run := 0 } }
  ([0, 1, 2].filter (· ≠ s.zcRef t)).foldl (fun s p => s.losePhase t p) s

/-- NominalHz has changed (R421): the chains restart with the other final, the zone enters ACQUIRING, and line time is set by the new
period, never below what it was (R404). -/
def State.nominalChanged (s : State) (t : Nat) (was60 : Bool) : State :=
  let x := s.metro t
  let gone := s.time.air - x.lineAir.getD s.time.air
  let reading := if x.zone = .valid then x.lineTime else (x.lineTime + gone / (if was60 then 1000 * airPerMs / 60 else 20 * airPerMs)) % 2 ^ 48
  let s := match s.tribLane t with
    | some n => if s.metroChain t then s.restartTrib n t else s
    | none => s
  let s := if x.zone = .down then s else s.acquire t
  if s.lineTime t < reading then s.setMetro t { s.metro t with lineTime := reading, lineAir := some s.time.air } else s

/-- The zone follows its tributary (R400): DOWN while the tributary is down or its chain does not run, and ACQUIRING when it
comes up. -/
def State.metroUpdate (s : State) (t : Nat) : State :=
  let run := s.tribUp t && s.metroChain t
  let x := s.metro t
  if x.zone = .down then (if run then s.acquire t else s)
  else if run then s
  else s.setMetro t { x.freshWindow with
    zone := .down, entered := s.time.air, phases := Map.mapV x.phases fun _ (z : ZcPhase) => { z with found := [] } }

/-- The zone enters NO_CROSSING (R400, R401): counted, and `metro.no_crossing` raised only if armed.
(Log entry 56: DESIGN CHOICE.) -/
def State.noCrossing (s : State) (t : Nat) : State :=
  let x := (s.metro t).freshWindow
  let s := s.setMetro t { x with zone := .noCrossing, entered := s.time.air, armed := false }
  let s := s.count { name := .metroNoCross, a := t }
  if x.armed then s.raise .metroNoCrossing 0 [t, s.rd Rec.MetroTrib.Zone t,
    slotOpt ((x.phase (s.zcRef t)).instants.head?.map s.stampOfAir)] else s

/-- The zone reaches VALID (R400, R401, R404): line time stands at its nominal count, and the event is armed again.
(Log entry 55: DESIGN CHOICE. Log entry 56: DESIGN CHOICE.) -/
def State.zoneReaches (s : State) (t air : Nat) : State :=
  let x := s.metro t
  let line := s.lineTime t
  let gone := (match (x.phase (s.zcRef t)).instants[7]? with
    | some a => air - a
    | none => air - x.entered) / airPerMs
  let s := s.setMetro t { x with
    zone := .valid, entered := air, armed := true, lineTime := line, lineAir := some air, winCross := [(air, true)] }
  s.raise .metroCrossingRestored 0 [t, s.rd Rec.MetroTrib.Zone t, gone]

/-- A valid or invalid crossing of ZcRef in the open window (R406): the window starts at a valid one. -/
def MetroTrib.windowCross (x : MetroTrib) (air : Nat) (ok : Bool) : MetroTrib :=
  if x.zone = .valid ∧ (ok ∨ !x.winCross.isEmpty) then { x with winCross := (air, ok) :: x.winCross } else x

/-- A rising crossing of a phase, detected at an air instant (R398), is judged (R399 to R405): valid if 15.385 ms to 22.222 ms after the
previous one of its phase; the zone's state and line time follow the reference phase. -/
def State.judgeCrossing (s : State) (trib phase air : Nat) : State :=
  let x := s.metro trib
  let z := x.phase phase
  let back : Bool := match z.last with
    | some a => decide (air ≤ a)
    | none => false
  if x.zone = .down ∨ back then s
  else
    let ok : Bool := match z.last with
      | some a => decide (15385 * 2000 ≤ air - a ∧ air - a ≤ 22222 * 2000)
      | none => false
    let run := if ok ∧ 0 < z.run then z.run + 1 else 1
    let z' := { z with run := run, last := some air, instants := if ok then (air :: z.instants).take 256 else z.instants }
    let s := s.count { name := .metroCross, a := trib, b := phase }
    let s := if ok then s else s.count { name := .metroInvalid, a := trib, b := phase }
    let s := s.setMetro trib (x.setPhase phase z')
    let ref := decide (phase = s.zcRef trib)
    let x := s.metro trib
    let s := if ref then s.setMetro trib { x.windowCross air ok with
        crossings := ((air, ok) :: x.crossings).take 13,
        cycles := if ok then x.cycles + 1 else x.cycles,
        lineTime := if ok ∧ x.zone = .valid then (x.lineTime + 1) % 2 ^ 48 else x.lineTime,
        lineAir := if ok ∧ x.zone = .valid then some air else x.lineAir } else s
    if 8 ≤ run then
      if ref then (if x.zone = .valid then s else s.zoneReaches trib air)
      else if z.valid ∨ !s.zoneValid trib then s
      else (s.setMetro trib ((s.metro trib).setPhase phase { z' with valid := true })).raise .metroPhaseRestored 0 [trib, phase]
    else s

/-- The oldest crossing detected on a phase and not yet judged is judged (R398, R399). -/
def execZeroCrossing (trib phase : Nat) (s : State) : Out :=
  let s := s.metroUpdate trib
  let x := s.metro trib
  let z := x.phase phase
  match z.found with
  | air :: later =>
    if !s.lineHere ∨ s.tributaries ≤ trib ∨ 3 ≤ phase then .next s
    else .next ((s.setMetro trib (x.setPhase phase { z with found := later })).judgeCrossing trib phase air)
  | [] => .next s

/-- ZcTimeoutMs passes for a phase (R400, R403). -/
def State.zcExpire (s : State) (t p : Nat) : State :=
  let s := s.metroUpdate t
  let x := s.metro t
  let last := ((x.phase p).instants.head?).getD 0
  if p = s.zcRef t then
    match x.zone with
    | .valid => if last + s.zcTimeout t ≤ s.time.air then s.noCrossing t else s
    | .acquiring => if x.entered + s.zcTimeout t ≤ s.time.air then s.noCrossing t else s
    | _ => s
  else if last + s.zcTimeout t ≤ s.time.air then s.losePhase t p else s

/-- The last crossing of a phase as it is reported (R403): none while the zone is not VALID; synthesised from the reference
phase and a third of the measured period while the phase is LOST. The second value is the mark. -/
def State.lastCrossing (s : State) (t p : Nat) : Option (Nat × Bool) :=
  let x := s.metro t
  let ref := s.zcRef t
  if x.zone ≠ .valid then none
  else if p = ref ∨ (x.phase p).valid then ((x.phase p).instants.head?).map fun a => (a, false)
  else match (x.phase ref).instants with
    | a :: b :: _ =>
      let third := (a - b) / 3
      let forward := ((p + 3 - ref) % 3 == 1) != s.rdB Rec.MetroTrib.PhaseOrder t
      some (if forward then a + third else a - third, true)
    | _ => none

/-- Whether the interval flag PhaseLost applies now (R403). -/
def State.phaseLostNow (s : State) (t : Nat) : Bool :=
  ([0, 1, 2].filter (· ≠ s.zcRef t)).any fun p => !((s.metro t).phase p).valid

/-! ### Windows (R406 to R408) -/

/-- The pass edge of a tributary's final entry in mHz. -/
def State.passEdge (s : State) (t : Nat) : Nat :=
  match s.tribLane t with
  | some n =>
    let e := romAt (if s.rdB Rec.MetroTrib.NominalHz t then s.rd Rec.LineFilter.MetroFinal60 n else s.rd Rec.LineFilter.MetroFinal50 n)
    e.passTo * 8000
  | none => 0

/-- Whether harmonic group h is valid at a frequency in mHz (R408). -/
def State.groupOk (s : State) (t h freq : Nat) : Bool := decide (h * freq ≤ s.passEdge t)

/-- The scale of a channel of a tributary (R394). -/
def State.metroScale (s : State) (t c : Nat) : Int :=
  let fullScale := if c < 4 then s.rd (Rec.MetroTrib.VFullScaleMv c) t else s.rd (Rec.MetroTrib.IFullScaleMa (c - 4)) t
  channelScale fullScale (s.rdS (Rec.MetroTrib.GainPpm c) t) (decide (4 ≤ c) && bitOn (s.rd Rec.MetroTrib.IInvert t) (c - 4))

/-- The newest 500 ms of samples that the line sample buffer holds (R413). -/
def metroBuffer : Nat := 4000

/-- The samples of a tributary whose tags lie in a span of air time, newest first. -/
def MetroTrib.within (x : MetroTrib) (a b : Nat) : List MetroSample := x.buf.filter fun y => decide (a ≤ y.tag ∧ y.tag ≤ b)

/-- The open window of a VALID zone that has its Nc-th valid crossing after the first: where it begins and ends, whether all of its
crossings are valid, and the crossings from its end on, newest first (R406). -/
def MetroTrib.fullWindow (x : MetroTrib) (nc : Nat) : Option (Nat × Nat × Bool × List (Nat × Bool)) :=
  let l := x.winCross.reverse
  let ends := (l.zipIdx.filter fun e => e.1.2)[nc]?
  match l.head?, ends with
  | some a, some ((b, _), i) => some (a.1, b, decide (i = nc), (l.drop i).reverse)
  | _, _ => none

/-- A window that ends at this row (R406): the points of each channel, whether it is synchronous and whether a sample in it is missing,
with the tributary after it. While the zone is not VALID it is 1 600 samples, not resampled; while it is, the samples up to its last
crossing and the two after it are there. -/
def State.nextWindow (s : State) (t : Nat) : Option ((Nat → List Int) × Bool × Bool × MetroTrib) :=
  let x := s.metro t
  if x.zone = .valid then
    match x.fullWindow (s.cycles t) with
    | none => none
    | some (a, b, sync, left) =>
      let l := x.within (a - 2 * samplePeriods) (b + 3 * samplePeriods)
      let newest := (x.buf.head?.map fun y => y.tag).getD 0
      if newest < b + 2 * samplePeriods then none
      else
        let gone := l.any fun y => y.missing
        let pts (c : Nat) : List Int := resample a b (256 * s.cycles t) c l.reverse
        let lost := gone || decide ((pts 0).length ≠ 256 * s.cycles t)
        some (pts, sync, lost, { x with winCross := left })
  else if x.seen < x.winSeen + 1600 then none
  else
    let l := (x.buf.drop (x.seen - x.winSeen - 1600)).take 1600
    let lost := l.any (fun y => y.missing) || decide (l.length < 1600)
    some (fun c => l.reverse.map fun y => y.code c, false, lost, { x with winSeen := x.winSeen + 1600 })

/-- A measurement window ends (R406 to R408): counted; where no sample was missing its values stand, and enter the averages
of the open interval. -/
def execMetroWindowEnd (trib : Nat) (s : State) : Out :=
  let s := s.metroUpdate trib
  if !s.lineHere ∨ s.tributaries ≤ trib ∨ !s.metroChain trib then .next s
  else match s.nextWindow trib with
    | none => .next s
    | some (pts, sync, lost, x) =>
      let f := s.lineFreq trib
      let s := (s.setMetro trib x).count { name := .metroWindows, a := trib }
      let s := if sync then s.count { name := .metroSync, a := trib } else s
      if lost then .next (s.count { name := .metroEmpty, a := trib })
      else
        let nc := s.cycles trib
        let freq := f.getD 0
        let rms := (List.range 8).map fun c => rmsOf (s.metroScale trib c) (pts c)
        let squares := if sync then (List.range 8).map fun c => groupSquares nc (pts c) else []
        let thd := if sync then (List.range 4).map fun c => thdOf (fun h => s.groupOk trib h freq) (squares.getD c []) else []
        let groups := squares.mapIdx fun c l => l.map (groupValue (s.metroScale trib c) (256 * nc))
        let w : MetroWindow :=
          { rms := rms, freq := f, thd := thd, sync := sync, groups := if sync then groups else x.window.groups,
            groupFreq := if sync then freq else x.window.groupFreq }
        let sums := (List.range 8).foldl (fun m i => Map.upd m i 0 (· + rms.getD i 0)) x.sums
        let thdMax := if sync then (List.range 3).foldl (fun m i => Map.upd m i 0 (max (min (thd.getD i 0) 65535))) x.thdMax else x.thdMax
        .next (s.setMetro trib { x with
          window := w, sums := sums, windows := x.windows + 1, thdMax := thdMax,
          freqSum := x.freqSum + freq, freqCount := x.freqCount + bit f.isSome })

/-! ### Samples (R394 to R398) -/

/-- A sample of a tributary enters the line region: over-range codes are counted, reported at most hourly per channel, and request their
freeze until 64 samples after (R395); the phases' filters take it (R398); the line sample buffer holds it (R413). -/
def State.metroSample (s : State) (t : Nat) (y : MetroSample) : State :=
  let x := s.metro t
  let hot := (List.range 8).filter fun c => decide (overLimit < (y.code c).natAbs)
  let s := hot.foldl (fun s c =>
    (s.count { name := .metroOver, a := t, b := c }).raiseEvery hourMs .metroOverRange (8 * t + c) 0 [t, c, slotOf (y.code c)]) s
  let left := (List.range 8).filterMap fun c =>
    let n := if hot.contains c then 64 else Map.getD x.overLeft c 0 - 1
    if n = 0 then none else some (c, n)
  let buf := pushLine metroBuffer y x.buf
  let hyst : Int := s.rd Rec.MetroTrib.ZcHystMv t * codeUnit * 2 ^ 23
  s.setMetro t ([0, 1, 2].foldl (fun (x : MetroTrib) p => x.setPhase p ((x.phase p).sample p (s.metroScale t p) hyst buf))
    { x with buf := buf, seen := x.seen + 1, overLeft := left })

/-! ### Energy steps (R409 to R413) -/

/-- Energy rounded to whole milli-units of `energyUnit`, to nearest and a tie to the even one, with the remainder (R410). -/
def convergent (v : Int) : Int × Int :=
  let u : Int := energyUnit
  let q := v / u
  let r := v % u
  let up := decide (u < 2 * r) || (2 * r == u && decide (q % 2 = 1))
  if up then (q + 1, r - u) else (q, r)

/-- Energy in parts of a milli-unit booked to register 3 × code + phase (R410). -/
def MetroTrib.book (x : MetroTrib) (reg : Nat) (v : Int) : MetroTrib :=
  let (m, rest) := convergent (v + Map.getD x.rest reg 0)
  let m := m.toNat
  { x with
    rest := Map.put x.rest reg rest,
    regs := Map.upd x.regs reg 0 fun r => (r + m) % 2 ^ 64,
    stepInc := Map.upd x.stepInc reg 0 (· + m),
    inc := Map.upd x.inc reg 0 (· + m) }

/-- One step's P, Q and S of a phase booked (R410). -/
def MetroTrib.bookPhase (x : MetroTrib) (p : Nat) (act rea app : Int) : MetroTrib :=
  let x := if 0 < act then x.book p act else if act < 0 then x.book (3 + p) (-act) else x
  let x := if 0 < rea then x.book (6 + p) rea else if rea < 0 then x.book (9 + p) (-rea) else x
  x.book (12 + p) app

/-- Whether the sample of a tag belongs to the step that ends at the `idx`-th multiple of 200 ms of legal time (R409). -/
def State.inStep (s : State) (idx tag : Nat) : Bool :=
  let l := s.airToLegal tag
  decide (((idx : Int) - 1) * 200000000 ≤ l ∧ l < (idx : Int) * 200000000)

/-- The step a tributary computes next, where it has ended: the one after the last, or the newest where the line sample buffer no longer
holds that one (R413). -/
def State.nextStep (s : State) (t : Nat) : Option Nat :=
  let now := s.time.legalNs / 200000000
  let next := (s.metro t).lastStep + 1
  if now < next then none else some (if now < next + 2 then next else now)

/-- Whether a step's samples have all come, or its deadline of 100 ms has (R413): what has not come by then is missing. -/
def State.stepReady (s : State) (t idx : Nat) : Bool :=
  decide (idx * 200000000 + 100000000 ≤ s.time.legalNs) ||
    (match (s.metro t).buf[alignPlace]? with
     | some y => decide ((idx : Int) * 200000000 ≤ s.airToLegal y.tag)
     | none => false)

/-- A 200 ms step that has ended is computed from its samples (R409, R410) and its energies are booked; `reissued` marks one computed again
after a missed deadline (R413).
(Log entry 171: DESIGN CHOICE.) -/
def execMetroStep (trib : Nat) (reissued : Bool) (s : State) : Out :=
  let s := s.metroUpdate trib
  let x := s.metro trib
  match s.nextStep trib with
  | none => .next s
  | some idx =>
    if !s.lineHere ∨ s.tributaries ≤ trib ∨ !s.metroChain trib ∨ !s.rdB Rec.MetroTrib.Active trib ∨ !s.stepReady trib idx then .next s
    else
      let s := s.count { name := .metroSteps, a := trib }
      let s := if reissued then s.count { name := .metroReissue, a := trib } else s
      let mine := x.buf.filter fun y => s.inStep idx y.tag
      let gone := (mine.filter fun y => y.missing).length + (if mine.length + 1 < 1600 then 1600 - mine.length else 0)
      let hot := mine.any fun y => y.codes.any fun c => decide (overLimit < c.natAbs)
      let flags := maskOf ((if 0 < gone then [0] else []) ++ (if s.zoneValid trib then [] else [1]) ++
        (if hot then [2] else []) ++ (if s.phaseLostNow trib then [3] else []))
      let y := [0, 1, 2].foldl (fun (y : MetroTrib) p =>
        let a := phaseSum p (s.rdS (Rec.MetroTrib.PhaseCorrNs p) trib) (s.inStep idx) x.buf
        let kv := s.metroScale trib p
        let ki := s.metroScale trib (4 + p)
        y.bookPhase p (a.active kv ki) (a.reactive kv ki) (a.apparent kv ki)) x
      .next (s.setMetro trib { y with
        lastStep := idx, steps := x.steps + 1, stepsIn := x.stepsIn + 1, missing := min (x.missing + gone) 7200000, flags := x.flags ||| flags })

/-! ### Step records and pulses (R412, R415, R416) -/

/-- A pulse output. -/
def State.pulse (s : State) (o : Nat) : Pulse := Map.getD s.met.pulses o {}

/-- The state with a pulse output set. -/
def State.setPulse (s : State) (o : Nat) (p : Pulse) : State := { s with met := { s.met with pulses := Map.put s.met.pulses o p } }

/-- What a step record adds to an output (R415): residue, backlog, and the warning.
(Log entry 58: DESIGN CHOICE.) -/
def State.feedPulse (s : State) (t : Nat) (inc : Map Nat Nat) (o : Nat) : State :=
  if !s.rdB Rec.PulseOutput.Enabled o ∨ s.rd Rec.PulseOutput.Tributary o ≠ t then s
  else
    let p := s.pulse o
    let code := s.rd Rec.PulseOutput.Source o
    let add := ((maskBits 3 (s.rd Rec.PulseOutput.PhaseMask o)).map fun i => Map.getD inc (3 * code + i) 0).sum
    let total := min (p.residue + add) (2 ^ 64 - 1)
    let th := s.rd Rec.PulseOutput.ThresholdMilli o
    let backlog := p.backlog + total / th
    let warn := decide (s.rd Rec.PulseOutput.BacklogWarn o ≤ backlog) && !p.warned
    let b := min backlog (1000 / (2 * s.rd Rec.PulseOutput.WidthMs o))
    let left := backlog - b
    let s := s.setPulse o { p with
      was := if s.posCommitted p.position then (p.residue, p.backlog, p.batch) else p.was, residue := total % th, backlog := left, batch := p.batch + b, position := s.newestPos,
      warned := if left = 0 then false else p.warned || warn }
    if warn then s.raise .metroPulseBacklog 0 [o, backlog] else s

/-- What a step record keeps of a tributary. -/
def MetroTrib.acc (x : MetroTrib) : MetroAcc :=
  { regs := x.regs, flags := x.flags, missing := x.missing, cycles := x.cycles, inc := x.inc, sums := x.sums, windows := x.windows,
    freqSum := x.freqSum, freqCount := x.freqCount, thdMax := x.thdMax, stepsIn := x.stepsIn }

/-- What the last committed step record keeps. -/
def State.metroKept (s : State) (t : Nat) : MetroAcc :=
  let x := s.metro t
  match x.pending with
  | some (p, m) => if s.posCommitted p then m else x.committed
  | none => x.committed

/-- The registers as of the last committed step record. -/
def State.metroRegs (s : State) (t : Nat) : Map Nat Nat := (s.metroKept t).regs

/-- Every 5 steps a step record is handed to the ledger region and committed (R412), with the pulse state (R415, R416). -/
def execStepRecordHandoff (trib : Nat) (s : State) : Out :=
  let x := s.metro trib
  if x.steps < 5 then .next s
  else
    let kept := s.metroKept trib
    let words := (List.range 15).map fun i => Map.getD x.stepInc i 0
    let s := s.journal .step 0 trib (.words (words ++ [x.flags, x.missing, x.cycles]))
    let s := s.setMetro trib { x with steps := 0, stepInc := [], committed := kept, pending := some (s.newestPos, x.acc) }
    let s := { s with met := { s.met with waiting := s.met.waiting.map fun w =>
      if w.1 = noValue ∧ w.2.trib = trib then (s.newestPos, w.2) else w } }
    let s : State := (List.range 8).foldl (fun s o => s.feedPulse trib x.stepInc o) s
    .next (s.carry (.tributary trib))

/-- A committed batch of pulses is emitted (R416, R417): by the chip that holds the claim, after its record's commit.
(Log entry 58: DESIGN CHOICE.) -/
def execPulseEmit (output : Nat) (s : State) : Out :=
  let p := s.pulse output
  if !s.serving ∨ (p.batch = 0 ∧ p.test = 0) ∨ !s.posCommitted p.position then .next s
  else .next ((s.setPulse output { p with batch := 0, test := 0 }).count { name := .metroPulses, a := output } (p.batch + p.test))

/-- At a takeover the new active chip takes every committed batch as emitted, with `metro.pulse_unknown` (R417). -/
def State.pulsesUnknown (s : State) : State :=
  (List.range 8).foldl (fun s o =>
    let p := s.pulse o
    if 0 < p.batch then (s.setPulse o { p with batch := 0 }).raise .metroPulseUnknown 0 [o, p.batch] else s) s

/-- The tributaries as boot, takeover and a line region restart leave them (R412, R420): registers and open interval as the last
committed step record gives them, every zone DOWN; the span no step covers counts as missing. -/
def State.metroRestart (s : State) : State :=
  { s with met := { s.met with
    tribs := s.met.tribs.map fun (e : Nat × MetroTrib) =>
    let k := s.metroKept e.1
    (e.1, ({ e.2 with
      buf := [], seen := 0, winSeen := 0, winCross := [], lastStep := s.time.legalNs / 200000000 + 1,
      zone := .down, entered := s.time.air, phases := [], lineAir := none, crossings := [], window := {}, overLeft := [],
      regs := k.regs, rest := [], stepInc := [], steps := 0, committed := k, pending := none, flags := k.flags ||| bit (decide (0 < e.2.lastEnd)) * 32,
      missing := k.missing, cycles := k.cycles, inc := k.inc, sums := k.sums, windows := k.windows, freqSum := k.freqSum,
      freqCount := k.freqCount, thdMax := k.thdMax, stepsIn := k.stepsIn } : MetroTrib)),
    pulses := s.met.pulses.map fun (e : Nat × Pulse) =>
      if s.posCommitted e.2.position then e
      else (e.1, ({ e.2 with residue := e.2.was.1, backlog := e.2.was.2.1, batch := e.2.was.2.2 } : Pulse)) } }

/-! ### Intervals (R414) -/

/-- The 192 bytes of an interval record (Table 16-4). -/
def MetroInterval.bytes (r : MetroInterval) : List Byte :=
  let inc (code : Nat) : List Byte := (List.range 3).flatMap fun p => le 8 (Map.getD r.inc (3 * code + p) 0)
  le 2 r.trib ++ le 2 (r.zone + 4096 * bit r.assigned) ++ le 2 r.flags ++ le 2 0 ++ le 8 r.stop ++ le 4 r.missing ++ le 4 r.cycles ++
    inc 0 ++ inc 1 ++ inc 2 ++ inc 3 ++ inc 4 ++ r.vavg.flatMap (le 4) ++ r.iavg.flatMap (le 4) ++ le 4 r.inavg ++ le 4 r.freq ++
    r.thd.flatMap (le 2) ++ le 10 0

/-- The record of a tributary's open interval, closed at an end: what no step covered counts as missing (R420).
(Log entry 57: DEDUCED.) -/
def MetroTrib.close (x : MetroTrib) (t stop : Nat) : MetroInterval :=
  let avg (i : Nat) : Nat := if x.windows = 0 then 0 else Map.getD x.sums i 0 / x.windows
  let missing := min 7200000 (x.missing + (7200000 - 1600 * x.stepsIn))
  { trib := t, zone := x.zoneNo, assigned := x.zoneAssigned, stop := stop, missing := missing, cycles := x.cycles % 2 ^ 32, inc := x.inc,
    flags := if x.windows = 0 ∨ 0 < missing then x.flags ||| 1 else x.flags,
    vavg := [avg 0, avg 1, avg 2], iavg := [avg 4, avg 5, avg 6], inavg := avg 7,
    freq := if x.freqCount = 0 then 0 else x.freqSum / x.freqCount,
    thd := (List.range 3).map fun i => Map.getD x.thdMax i 0 }

/-- Interval records whose last step record has committed are written; records older than the ArchiveDays of ledger class 0
are reclaimed (R414). Each is an export record of Kind 4 (R623).
(Log entry 57: DEDUCED.)
(Log entry 62: DESIGN CHOICE.) -/
def State.writeIntervals (s : State) : State :=
  let ready := s.met.waiting.filter fun w => s.posCommitted w.1
  let s := ready.foldl (fun s w => s.addExport 4 0 w.2.trib w.2.stop false false w.2.bytes) s
  let oldest := s.legalS - s.rd Rec.ProfileClass.ArchiveDays 0 * 86400
  let s := { s with met := { s.met with
    waiting := s.met.waiting.filter (fun w => !s.posCommitted w.1),
    intervals := (s.met.intervals ++ ready.map Prod.snd).filter fun r => decide (oldest ≤ stampS r.stop) } }
  s.carryAll (ready.map fun w => .interval w.2.trib w.2.stop)

/-- The end of a tributary's open interval: 900 s after the last, so that every boundary closes one (R486); the boundary passed last
where there was none. -/
def State.nextEnd (s : State) (t : Nat) : Nat :=
  if (s.metro t).lastEnd = 0 then s.legalS / 900 * 900 else (s.metro t).lastEnd + 900

/-- At a multiple of 900 s the open interval of an active tributary closes (R414). A change of Zone or ZoneAssigned applies
from here on (R421). The answer holds the closed record. Where steps of the interval await the next step record, the record
waits for it.
(Log entry 57: DEDUCED.) -/
def State.closeInterval (s : State) (t : Nat) : Option MetroInterval × State :=
  let x := s.metro t
  let stop := s.nextEnd t
  if !s.lineHere ∨ s.tributaries ≤ t ∨ !s.rdB Rec.MetroTrib.Active t ∨ s.legalS < stop ∨ stop = 0 then (none, s)
  else
    let r := x.close t (stop * 2 ^ 24)
    let pos := if 0 < x.steps then noValue else match x.pending with
      | some (p, _) => p
      | none => 0
    let s := s.setMetro t { x with
      lastEnd := stop, committed := { regs := x.committed.regs }, pending := x.pending.map fun y => (y.1, { regs := y.2.regs }),
      zoneNo := s.rd Rec.MetroTrib.Zone t, zoneAssigned := s.rdB Rec.MetroTrib.ZoneAssigned t, flags := 0,
      stepsIn := 0, missing := 0, cycles := 0, inc := [], sums := [], windows := 0, freqSum := 0, freqCount := 0, thdMax := [] }
    let s := { s with met := { s.met with waiting := s.met.waiting ++ [(pos, r)] } }
    (some r, s.writeIntervals.carry (.tributary t))

/-! ### Commands (Table 16-8) -/

/-- The checks of a command about a tributary (R3): role, length, line region, capacity. -/
def State.tribChecks (s : State) (c : Caller) (t n : Nat) : List (Bool × Status) :=
  [(c.isObserver, .refusedRole), (c.slots n, .badLength), (isTributary t, .badArgument), (s.lineHere, .absentUnit), (decide (t < s.tributaries), .absentCapacity)]

/-- The zone state codes of Table 16-1. -/
def ZoneSt.code : ZoneSt → Nat
  | .down => 0 | .acquiring => 1 | .valid => 2 | .noCrossing => 3

/-- METRO.VALUES_READ; THD stands for VA, VB, VC and VN. -/
def readMetroValues (t : Nat) (c : Caller) (s : State) : Reply :=
  let x := s.metro t
  let w := x.window
  gatedRead (s.tribChecks c t 1)
    { status := .done, slots :=
        ((List.range 8).map fun i => slotOpt w.rms[i]?) ++ [slotOpt w.freq] ++ ((List.range 4).map fun i => slotOpt w.thd[i]?) ++
        [bit w.sync, x.zone.code] ++
        ([0, 1, 2].map fun p => if p = s.zcRef t then bit (decide (x.zone = .valid)) else bit (x.phase p).valid) ++ [s.lineTime t] ++
        ([0, 1, 2].flatMap fun p => match s.lastCrossing t p with
          | some (a, m) => [a, bit m]
          | none => [noValue, noValue]) }

def execMetroValuesRead (ch trib : Nat) (s : State) : Out := .next (s.readCommand ch .metroValuesRead (readMetroValues trib))

/-- METRO.HARMONICS_READ: G_1 to G_63, each with its valid mark. -/
def readMetroHarmonics (t channel : Nat) (c : Caller) (s : State) : Reply :=
  let w := (s.metro t).window
  gatedRead ((s.tribChecks c t 2).take 2 ++ [(decide (channel < 8), .badArgument)] ++ (s.tribChecks c t 2).drop 2 ++
      [(!w.groups.isEmpty, .refusedState)])
    { status := .done, slots := (List.range 63).flatMap fun h =>
        [((w.groups.getD channel []).getD h 0), bit (s.groupOk t (h + 1) w.groupFreq)] }

def execMetroHarmonicsRead (ch trib channel : Nat) (s : State) : Out :=
  .next (s.readCommand ch .metroHarmonicsRead (readMetroHarmonics trib channel))

/-- The OBIS code of register 3 × code + phase (Table 16-3), in the order IEC 62056-6-1 writes it: group A in the first byte, F in the
sixth (R6, R411). -/
def metroObis (reg : Nat) : Nat :=
  let c := [21, 22, 23, 24, 29].getD (reg / 3) 0 + 20 * (reg % 3)
  ofLe [1, 0, BitVec.ofNat 8 c, 8, 0, 255]

/-- METRO.REGISTERS_READ: each register with its OBIS code, as of the last committed step record. -/
def readMetroRegisters (t : Nat) (c : Caller) (s : State) : Reply :=
  gatedRead (s.tribChecks c t 1)
    { status := .done, slots := (List.range 15).flatMap fun i => [metroObis i, Map.getD (s.metroRegs t) i 0] }

def execMetroRegistersRead (ch trib : Nat) (s : State) : Out :=
  .next (s.readCommand ch .metroRegistersRead (readMetroRegisters trib))

/-- METRO.INTERVAL_READ: records in End order from a first End (calendar stamp). -/
def readMetroInterval (t first count : Nat) (c : Caller) (s : State) : Reply :=
  let l := sortBy (fun (r : MetroInterval) => (r.stop : Int)) (s.met.intervals.filter fun r => r.trib == t && decide (first ≤ r.stop))
  gatedRead ((s.tribChecks c t 3).take 2 ++ [(decide (count ≤ 256), .badArgument)] ++ (s.tribChecks c t 3).drop 2)
    { status := .done, data := le 8 (l.take count).length ++ (l.take count).flatMap MetroInterval.bytes }

def execMetroIntervalRead (ch trib first count : Nat) (s : State) : Out :=
  .next (s.readCommand ch .metroIntervalRead (readMetroInterval trib first count))

/-- METRO.PULSE_READ: applied record, residue, backlog, batch, pulses emitted. -/
def readMetroPulse (o : Nat) (c : Caller) (s : State) : Reply :=
  let p := s.pulse o
  gatedRead [(c.isObserver, .refusedRole), (c.slots 1, .badLength), (decide (o < 8), .badArgument), (s.lineHere, .absentUnit)]
    { status := .done,
      data := le 32 (s.bodyOf Schema.PulseOutput o) ++
        [p.residue, p.backlog, p.batch, s.ctr { name := .metroPulses, a := o }].flatMap (le 8) }

def execMetroPulseRead (ch output : Nat) (s : State) : Out := .next (s.readCommand ch .metroPulseRead (readMetroPulse output))

/-- METRO.PULSE_TEST. -/
def runMetroPulseTest (o count : Nat) (c : Caller) (s : State) : Reply × State :=
  gated s [(c.isService, .refusedRole), (c.slots 2, .badLength), (decide (o < 8 ∧ 1 ≤ count ∧ count ≤ 100), .badArgument),
      (s.lineHere, .absentUnit), (s.serving, .refusedState), (!s.rdB Rec.PulseOutput.Enabled o, .pulseActive)] fun s =>
    ({ status := .deferred }, s.setPulse o { s.pulse o with test := (s.pulse o).test + count })

def execMetroPulseTest (ch output count : Nat) (s : State) : Out :=
  .next (s.command ch .metroPulseTest (runMetroPulseTest output count))

/-- METRO.COUNTERS_READ: the counters of R424 of a tributary, and of the pulse outputs.
(Log entry 139: DESIGN CHOICE.) -/
def readMetroCounters (t : Nat) (c : Caller) (s : State) : Reply :=
  let k (x : CtrName) (b : Nat) : Nat := s.ctr { name := x, a := t, b := b }
  let tally (x : CtrName) (a b : Nat) : List Nat :=
    [s.ctr { name := x, a := a, b := b }, bit (s.saturated { name := x, a := a, b := b })]
  gatedRead (s.tribChecks c t 1)
    { status := .done, slots :=
        [k .metroSteps 0, k .metroWindows 0, k .metroSync 0, k .metroEmpty 0] ++ [0, 1, 2].map (k .metroCross) ++
        [0, 1, 2].map (k .metroInvalid) ++ (List.range 8).map (k .metroOver) ++ [k .metroReissue 0] ++ tally .metroNoCross t 0 ++
        [0, 1, 2].flatMap (tally .metroPhaseLoss t) ++ (List.range 8).flatMap (fun o => tally .metroDiscard o 0) ++
        (List.range 8).map (fun o => s.ctr { name := .metroPulses, a := o }) }

def execMetroCountersRead (ch trib : Nat) (s : State) : Out :=
  .next (s.readCommand ch .metroCountersRead (readMetroCounters trib))

/-! ### Records (R421, R422) -/

/-- The tributary that a zone is assigned to, other than one. -/
def State.zoneTaken (s : State) (z but : Nat) : Bool :=
  (Map.keys s.records).any fun k => k.1 == 0x0E00 && k.2 != but && s.rdB Rec.MetroTrib.ZoneAssigned k.2 && s.rd Rec.MetroTrib.Zone k.2 == z

/-- The metrology tributary record (R421, R427). Active 1 starts an open interval from nothing. -/
def ruleMetroTrib : RecordRule where
  writer _ c _ _ := c.isOperator
  absent s i b := if !s.lineHere then some .absentUnit
    else if s.tributaries ≤ i ∨ s.zones ≤ Rec.MetroTrib.Zone.of b then some .absentCapacity else none
  blames s i _ := if s.lineHere && decide (i < s.tributaries) then some Rec.MetroTrib.Zone else none
  check s _ i old b :=
    let sealedZone (x : Nat) : Bool := Rec.MetroTrib.ZoneAssigned.on x && s.isSealed (s.recTenant Rec.Zone.Active.rid (Rec.MetroTrib.Zone.of x))
    if sealedZone b ∨ sealedZone old then some .refusedState
    else if Rec.MetroTrib.ZoneAssigned.on b ∧ s.zoneTaken (Rec.MetroTrib.Zone.of b) i then some .zoneInUse else none
  effect s _ i old b :=
    let calib := [Rec.MetroTrib.IInvert] ++ (List.range 4).map Rec.MetroTrib.VFullScaleMv ++ (List.range 4).map Rec.MetroTrib.IFullScaleMa ++
      (List.range 8).map Rec.MetroTrib.GainPpm ++ (List.range 4).map Rec.MetroTrib.PhaseCorrNs
    let s := if calib.any fun f => f.of old != f.of b then
        s.setMetro i { s.metro i with flags := (s.metro i).flags ||| 16 } else s
    let s := if Rec.MetroTrib.Active.on b ∧ !Rec.MetroTrib.Active.on old then
        s.setMetro i { s.metro i with
          lastEnd := s.legalS / 900 * 900, flags := 0, stepsIn := 0, missing := 0, cycles := 0, inc := [], sums := [], windows := 0,
          freqSum := 0, freqCount := 0, thdMax := [] } else s
    if Rec.MetroTrib.NominalHz.of old ≠ Rec.MetroTrib.NominalHz.of b then s.nominalChanged i (Rec.MetroTrib.NominalHz.on old) else s

/-- The pulse output record (R422, R418). -/
def rulePulseOutput : RecordRule where
  writer _ c _ _ := c.isOperator
  absent s _ b := if !s.lineHere then some .absentUnit
    else if s.tributaries ≤ Rec.PulseOutput.Tributary.of b then some .absentCapacity else none
  blames s _ _ := if s.lineHere then some Rec.PulseOutput.Tributary else none
  check _ _ _ old b :=
    if Rec.PulseOutput.Enabled.on old ∧ Rec.PulseOutput.Enabled.on b ∧
        ([Rec.PulseOutput.Source, Rec.PulseOutput.PhaseMask, Rec.PulseOutput.Tributary, Rec.PulseOutput.ThresholdMilli].any fun f =>
          f.of old != f.of b) then some .refusedState else none
  effect s _ i old b :=
    if Rec.PulseOutput.Enabled.on old ∧ !Rec.PulseOutput.Enabled.on b then
      let p := s.pulse i
      (s.setPulse i {}).count { name := .metroDiscard, a := i } (p.batch + p.backlog)
    else s

def execMetroTributaryRecord (tenant inst : Nat) (body : List Byte) (s : State) : Out :=
  .next (s.applyRecord ruleMetroTrib Schema.MetroTrib tenant inst body)

def execPulseOutputRecord (tenant inst : Nat) (body : List Byte) (s : State) : Out :=
  .next (s.applyRecord rulePulseOutput Schema.PulseOutput tenant inst body)

end Sys2Proof.Machine
end

