-- ==== Sys2Proof/Machine/Balance.lean ====
section
/-! DEFINITION. Chapter 17: zone balance, loss and theft (R425 to R448). -/

namespace Sys2Proof.Machine

open Sys2Proof

/-! ### State access -/

/-- A quotient rounded convergently (R10). -/
def convRound (a : Int) (b : Nat) : Int :=
  let q := a / (b : Int)
  let r := 2 * (a - q * b)
  if r < b then q else if (b : Int) < r then q + 1 else if q % 2 = 0 then q else q + 1

/-- A zone's balance. -/
def State.balZone (s : State) (z : Nat) : BalZone := Map.getD s.bal.zones z {}

/-- The state with a zone's balance set. -/
def State.setBalZone (s : State) (z : Nat) (x : BalZone) : State := { s with bal := { s.bal with zones := Map.put s.bal.zones z x } }

/-- A meter's balance state. -/
def State.balMeter (s : State) (slot : Nat) : BalMeterSt := Map.getD s.bal.meters slot {}

/-- The state with a meter's balance state set. -/
def State.setBalMeter (s : State) (slot : Nat) (x : BalMeterSt) : State :=
  { s with bal := { s.bal with meters := Map.put s.bal.meters slot x } }

/-- The tenant of a zone. -/
def State.zoneTenant (s : State) (z : Nat) : Nat := s.recTenant Rec.Zone.Active.rid z

/-- The feeder of a zone (R425). -/
def State.feeder (s : State) (z : Nat) : Option Nat :=
  ((Map.keys s.records).find? fun k =>
    k.1 == Rec.MetroTrib.Zone.rid && s.rdB Rec.MetroTrib.ZoneAssigned k.2 && s.rd Rec.MetroTrib.Zone k.2 == z).map Prod.snd

/-- Whether a meter of a tenant may join a zone (R425). -/
def State.mayJoin (s : State) (tenant z : Nat) : Bool :=
  tenant == s.zoneTenant z || (s.zoneTenant z == 0 && !s.isSealed tenant)

/-- Whether a meter is a member of a zone (R425).
(Log entry 59: DEDUCED.) -/
def State.member (s : State) (r : MeterRec) (z : Nat) : Bool := r.active && r.zoneAssigned && r.zone == z && s.mayJoin r.tenant z

/-- The members of a zone. -/
def State.members (s : State) (z : Nat) : List (Nat × MeterRec) := s.led.meters.filter fun e => s.member e.2 z

/-! ### The balance quantity (R428) -/

/-- The balance quantity of a ledger class: C = 1 and D = 8. -/
def State.balQuantity (s : State) (k : Nat) : Option Nat :=
  (List.range 4).find? fun q =>
    let o := s.rd (Rec.LedgerClass.Obis q) k
    decide (o / 2 ^ 16 % 256 = 1 ∧ o / 2 ^ 24 % 256 = 8)

/-- Whether a stream is profiled (R356): mode 1 or 2. -/
def State.profiled (s : State) (k stream : Nat) : Bool := s.streamMode k stream == 1 || s.streamMode k stream == 2

/-- Whether a member of a class is unprofiled. -/
def State.unprofiled (s : State) (k : Nat) : Bool :=
  match s.balQuantity k with
  | some q => !(s.profiled k (2 * q) || s.profiled k (2 * q + 1))
  | none => true

/-- A meter's phase and its source: 1 the record, 2 learned, 0 none (R438). Phase 3 is three-phase. -/
def State.meterPhase (s : State) (slot : Nat) : Option Nat × Nat :=
  let m := s.rd Rec.BalMeter.PhaseMode slot
  if m ≠ 0 then (some (m - 1), 1)
  else match (s.balMeter slot).learned with
    | some p => (some p, 2)
    | none => (none, 0)

/-! ### Credits (R429, R430) -/

/-- What a meter's booked intervals give the balance: spans in calendar seconds with net energy, the interval flags, and
whether a Split pair made it. -/
structure Credit where
  start : Nat
  stop : Nat
  net : Int
  flags : Nat
  split : Bool
  deriving DecidableEq, Repr

/-- The credit of one booked interval; none where it carries no stream of the balance quantity.
(Log entry 60: DEDUCED.) -/
def State.creditOf (s : State) (k q : Nat) (e : Interval × Rated) : Option Credit :=
  let mine := e.1.incs.filter fun i => i.1 == 2 * q || i.1 == 2 * q + 1
  if mine.isEmpty then none
  else
    let net : Int := (mine.map fun i => (if i.1 = 2 * q then (1 : Int) else -1) * (i.2.1 * s.scale k i.1 : Nat)).sum
    let flags := mine.foldl (fun f i => f ||| i.2.2) e.2.flags
    some { start := stampS e.1.start, stop := stampS e.1.stop, net := net, flags := flags, split := bitOn flags 2 }

/-- Part B of a Split pair joined to its Part A: one span with both increments. -/
def joinCredits (l : List (Bool × Credit)) : List Credit :=
  (l.foldl (fun (acc : List (Bool × Credit)) x =>
    match acc with
    | (false, a) :: t =>
      if x.1 ∧ a.split then
        let j : Credit := { a with stop := x.2.stop, net := a.net + x.2.net, flags := a.flags ||| x.2.flags }
        (true, j) :: t
      else x :: acc
    | _ => x :: acc) []).reverse.map Prod.snd

/-- The ends of the balance intervals a span overlaps, with the overlap in seconds. -/
def overlaps (start stop : Nat) : List (Nat × Nat) :=
  (List.range (ceilDiv stop 900 - start / 900)).map fun i =>
    let e := (start / 900 + i + 1) * 900
    (e, min stop e - max start (e - 900))

/-- Net energy spread over overlaps in proportion, the rounding remainder to the latest portion. -/
def portions (net : Int) (len : Nat) (l : List (Nat × Nat)) : List (Nat × Nat × Int) :=
  let body := l.dropLast.map fun e => (e.1, e.2, convRound (net * e.2) len)
  match l.getLast? with
  | some e => body ++ [(e.1, e.2, net - (body.map fun p => p.2.2).sum)]
  | none => body

/-- A portion added to a phase's energy, or to the unphased energy. -/
def BalOpen.phaseAdd (o : BalOpen) (phase : Option Nat) (v : Int) : BalOpen :=
  let add (m : Map Nat Int) (p : Nat) (x : Int) : Map Nat Int := Map.upd m p 0 (· + x)
  match phase with
  | none => { o with unphased := o.unphased + v }
  | some 3 =>
    let third := v.tdiv 3
    { o with phases := add (add (add o.phases 0 (v - 2 * third)) 1 third) 2 third }
  | some p => { o with phases := add o.phases p v }

/-- One portion credited: to the open interval of its end, as late where that interval has been evaluated, or as stray where
it starts before ZoneSince or the meter is credited to no zone. -/
def State.creditPortion (s : State) (slot z : Nat) (spread : Bool) (typ : Int) (p : Nat × Nat × Int) : State :=
  let m := s.balMeter slot
  let x := s.balZone z
  if m.zone ≠ some z ∨ p.1 < m.since + 900 then
    (s.setBalMeter slot { m with stray := min (m.stray + 1) 65535 }).count { name := .balStray, a := z }
  else
    match x.next with
    | none => s
    | some next =>
      let known := x.openIv.any fun o => o.stop == p.1
      if !known ∧ p.1 ≤ next then
        (s.setBalMeter slot { m with late := min (m.late + 1) 65535 }).count { name := .balLate, a := z } p.2.1
      else
        let l := if known then x.openIv else x.openIv ++ [{ stop := p.1 }]
        s.setBalZone z { x with openIv := l.map fun (o : BalOpen) =>
          if o.stop = p.1 then
            { o.phaseAdd (s.meterPhase slot).1 p.2.2 with
              milli := o.milli + p.2.2, seconds := o.seconds + p.2.1,
              covImp := o.covImp + typ.toNat * p.2.1, covExp := o.covExp + (-typ).toNat * p.2.1,
              spread := o.spread || spread }
          else o }

/-- One span credited to the zone the meter belongs to since its ZoneSince (a meter that belongs to none strays in the zone it
names), and Typ updated.
(Log entry 60: DEDUCED.) -/
def State.creditSpan (s : State) (slot : Nat) (r : MeterRec) (c : Credit) : State :=
  let len := c.stop - c.start
  if bitOn c.flags 0 ∨ bitOn c.flags 4 ∨ len = 0 then s
  else
    let z := (s.balMeter slot).zone.getD r.zone
    let typ := (s.balMeter slot).typ.getD (s.rd Rec.Zone.NewMeterTypMilli z)
    let spread := decide (900 < len) || c.split
    let s := (portions c.net len (overlaps c.start c.stop)).foldl (fun s p => s.creditPortion slot z spread typ p) s
    s.setBalMeter slot { s.balMeter slot with typ := some (convRound (typ * (63 * len : Nat) + c.net * 900) (64 * len)) }

/-- The intervals a frame booked, credited to the meter's zone (R425, R429). -/
def State.creditBalance (s : State) (slot : Nat) (r : MeterRec) (done : List (Interval × Rated)) : State :=
  if !s.lineHere ∨ (!r.zoneAssigned ∧ (s.balMeter slot).zone.isNone) ∨ s.unprofiled r.ledgerClass then s
  else match s.balQuantity r.ledgerClass with
    | none => s
    | some q =>
      let cs := joinCredits (done.filterMap fun e => (s.creditOf r.ledgerClass q e).map fun c => (e.1.partB, c))
      let s := if cs.isEmpty ∨ !r.zoneAssigned ∨ s.mayJoin r.tenant r.zone then s
        else s.raiseEvery dayMs .balTenantMismatch slot r.tenant [slot, r.zone]
      cs.foldl (fun s c => s.creditSpan slot r c) s

/-! ### Interval start (R426, R430, R444) -/

/-- The meters credited to a zone from an interval start: members that were not are taken in, others are let go.
(Log entry 59: DEDUCED.) -/
def State.enrol (s : State) (z start : Nat) : State :=
  let s := s.bal.meters.foldl (fun s e =>
    if e.2.zone = some z ∧ !s.member (s.meter e.1) z then s.setBalMeter e.1 { e.2 with zone := none } else s) s
  (s.members z).foldl (fun s e =>
    let m := s.balMeter e.1
    if m.zone = some z then s else s.setBalMeter e.1 { m with zone := some z, since := start }) s

/-- A balance interval of an active zone starts: its members and expected sums are frozen.
(Log entry 59: DEDUCED.) -/
def execBalIntervalStart (zone : Nat) (s : State) : Out :=
  match (s.balZone zone).next with
  | none => .next s
  | some start =>
    if s.legalS < start ∨ !s.rdB Rec.Zone.Active zone ∨ !s.led.ready then .next s
    else
      let was := s.bal.meters
      let s := s.enrol zone start
      let typ (e : Nat × MeterRec) : Int := (s.balMeter e.1).typ.getD (s.rd Rec.Zone.NewMeterTypMilli zone)
      let ms := s.members zone
      let x := s.balZone zone
      let stop := start + 900
      let l := if x.openIv.any fun o => o.stop == stop then x.openIv else x.openIv ++ [{ stop := stop }]
      let s := s.setBalZone zone { x with
        next := some stop,
        openIv := l.map fun (o : BalOpen) => if o.stop = stop then
          { o with frozen := true, members := ms.length,
                   unprofiled := (ms.filter fun e => s.unprofiled e.2.ledgerClass).length,
                   expImp := (ms.map fun e => (typ e).toNat).sum, expExp := (ms.map fun e => (-(typ e)).toNat).sum } else o }
      let moved := (s.bal.meters.filter fun e => decide (Map.get? was e.1 ≠ some e.2)).map fun e => Kept.meter e.1
      .next ((s.journal .balance (s.zoneTenant zone) zone (.words [1, stop, ms.length])).carryAll (.zone zone :: moved))

/-! ### Technical loss (R432) -/

/-- The terms of Table 17-1 are added exactly in units of 2.5 × 10⁻¹⁰ mWh, in which a resistive term is R × I²; this many
units are 1 mWh. -/
def lossUnit : Nat := 4000000000

/-- The resistive term of each phase, in the unit above. -/
def State.phaseTerms (s : State) (z : Nat) (r : MetroInterval) : List Nat :=
  (List.range 3).map fun p => s.rd Rec.Zone.PhaseResMicroOhm z * (r.iavg.getD p 0) ^ 2

/-- The fixed, neutral and proportional terms together, in the unit above. -/
def State.sharedTerms (s : State) (z : Nat) (r : MetroInterval) (ef : Int) : Nat :=
  s.rd Rec.Zone.FixedMw z * (lossUnit / 4) + s.rd Rec.Zone.NeutralResMicroOhm z * r.inavg ^ 2 +
    s.rd Rec.Zone.PropPpm z * (lossUnit / 1000000) * ef.natAbs

/-- Lt in whole mWh. -/
def State.techLoss (s : State) (z : Nat) (r : MetroInterval) (ef : Int) : Nat :=
  (convRound ((s.phaseTerms z r).sum + s.sharedTerms z r ef : Nat) lossUnit).toNat

/-- Lt_p of the three phases: the resistive term and a third of the others, the remainder to phase A. -/
def State.phaseLoss (s : State) (z : Nat) (r : MetroInterval) (ef : Int) : List Nat :=
  let part (p : Nat) : Nat := (convRound (3 * (s.phaseTerms z r).getD p 0 + s.sharedTerms z r ef : Nat) (3 * lossUnit)).toNat
  let lt := s.techLoss z r ef
  [lt - part 1 - part 2, part 1, part 2]

/-! ### Evaluation (R431 to R436) -/

/-- The net energy of each phase of a feeder record (R431). -/
def MetroInterval.net (r : MetroInterval) : List Int :=
  (List.range 3).map fun p => ((Map.getD r.inc p 0 : Nat) : Int) - (Map.getD r.inc (3 + p) 0 : Nat)

/-- The committed feeder record of a zone for an end (R431, R433). -/
def State.feederRecord (s : State) (z stop : Nat) : Option MetroInterval :=
  s.met.intervals.find? fun r => r.assigned && r.zone == z && stampS r.stop == stop

/-- MissingImp and MissingExp (R430).
(Log entry 60: DEDUCED.) -/
def BalOpen.missing (o : BalOpen) : Nat × Nat :=
  ((convRound ((o.expImp * 900 - o.covImp : Nat) : Int) 900).toNat, (convRound ((o.expExp * 900 - o.covExp : Nat) : Int) 900).toNat)

/-- Whether an interval is complete (R433). -/
def State.balComplete (s : State) (z : Nat) (o : BalOpen) : Bool :=
  o.frozen && (s.feederRecord z o.stop).isSome && o.seconds == 900 * o.members && o.unprofiled == 0

/-- The outcome of an interval (Table 17-2), in the order listed. -/
def State.balOutcome (s : State) (z : Nat) (o : BalOpen) (ef : Int) (r : Option MetroInterval) : Nat :=
  if o.members = 0 then 4
  else match s.feeder z, r with
    | some _, some r =>
      if s.rd Rec.Zone.FeederGapPermille z * 7200 < r.missing then 3
      else if s.rd Rec.Zone.MaxMissingPermille z * ef.natAbs < o.missing.1 * 1000 then 1 else 0
    | _, _ => 2

/-- The result of an interval (R434, R435, R441, R443). -/
def State.balResult (s : State) (z : Nat) (o : BalOpen) (held : Bool) : BalResult :=
  let fr := s.feederRecord z o.stop
  let net := (fr.map MetroInterval.net).getD [0, 0, 0]
  let ef := net.sum
  let lt := (fr.map fun r => s.techLoss z r ef).getD 0
  let ltp := (fr.map fun r => s.phaseLoss z r ef).getD [0, 0, 0]
  let outcome := s.balOutcome z o ef fr
  let (mi, me) := o.missing
  let r := ef - o.milli - lt
  -- B + A in thousandths of a milli-unit
  let ba := max (1000 * s.rd Rec.Zone.ThresholdAbsMilli z) (s.rd Rec.Zone.ThresholdPermille z * ef.natAbs) +
    s.rd Rec.Zone.AccPermille z * ef.natAbs
  let verdict := if outcome ≠ 0 then 0
    else if (ba + 1000 * mi : Nat) < 1000 * r then 1
    else if 1000 * r < -((ba + 1000 * me : Nat) : Int) then 2 else 0
  let ff := (fr.map MetroInterval.flags).getD 0
  let gap : Bool := match fr with
    | some r => decide (0 < r.missing)
    | none => false
  { zone := z, tenant := s.zoneTenant z, outcome := outcome, verdict := verdict, members := o.members, stop := o.stop * 2 ^ 24,
    flags := maskOf ((if gap then [0] else []) ++ (if bitOn ff 2 then [1] else []) ++ (if bitOn ff 1 then [2] else []) ++
      (if bitOn ff 4 then [3] else []) ++ (if bitOn ff 5 then [4] else []) ++ (if o.spread then [5] else []) ++
      (if 0 < o.unprofiled then [6] else []) ++ (if held then [7] else [])),
    seconds := o.seconds, feeder := ef, milli := o.milli, tech := lt, residual := r, missImp := mi, missExp := me,
    threshold := (convRound (ba : Nat) 1000).toNat + mi, phaseFeeder := net,
    phaseMilli := (List.range 3).map fun p => Map.getD o.phases p 0, phaseTech := ltp, unphased := o.unphased }

/-- The 160 bytes of a result record (Table 17-4). -/
def BalResult.bytes (r : BalResult) : List Byte :=
  let i64 (v : Int) : List Byte := le 8 (ofSigned 64 v)
  le 2 (r.zone % 4096 + 4096 * r.tenant) ++ le 1 (r.outcome + 16 * r.verdict) ++ le 1 r.flags ++ le 4 r.members ++ le 8 r.stop ++
    le 4 r.seconds ++ le 4 0 ++ i64 r.feeder ++ i64 r.milli ++ le 8 r.tech ++ i64 r.residual ++ le 8 r.missImp ++ le 8 r.missExp ++
    le 8 r.threshold ++ r.phaseFeeder.flatMap i64 ++ r.phaseMilli.flatMap i64 ++ r.phaseTech.flatMap (le 8) ++ i64 r.unphased

/-- The verdicts counted: the Md most recent by End. -/
def State.balWindow (s : State) (z : Nat) : List (Nat × Nat) :=
  let l := (s.balZone z).verdicts
  l.drop (l.length - s.rd Rec.Zone.DetectM z)

/-- How many of the counted verdicts are of one kind. -/
def State.balCount (s : State) (z v : Nat) : Nat := ((s.balWindow z).filter fun e => e.2 == v).length

/-- The members whose tamper of class 0 to 3 last occurred within the counted window (R437). -/
def State.balEvidence (s : State) (z : Nat) : List Nat :=
  match (s.balWindow z).head?, (s.balWindow z).getLast? with
  | some a, some b =>
    ((s.members z).filter fun e => (List.range 4).any fun k =>
      let t := stampS (Map.getD e.2.tamperLast k 0)
      decide (a.1 ≤ t + 900 ∧ t ≤ b.1)).map Prod.fst
  | _, _ => []

/-- The alarms of a zone after an evaluation (R436; verdict 1 the loss alarm, 2 the negative alarm). -/
def State.balDetect (s : State) (z : Nat) : State :=
  let md := s.rd Rec.Zone.DetectM z
  let nd := min (s.rd Rec.Zone.DetectN z) md
  let nc := min (s.rd Rec.Zone.ClearN z) (nd - 1)
  let t := s.zoneTenant z
  let x := s.balZone z
  let n := s.balCount z 1
  let ev := s.balEvidence z
  let s := if nd ≤ n ∧ !x.lossAlarm then
      ((s.setBalZone z { x with lossAlarm := true }).count { name := .balAlarm, a := z }).raise .balLossAlarm t
        ([z, n, md, ev.length] ++ ev.take 8)
    else if n ≤ nc ∧ x.lossAlarm then (s.setBalZone z { x with lossAlarm := false }).raise .balLossClear t [z, n] else s
  let x := s.balZone z
  let n := s.balCount z 2
  if nd ≤ n ∧ !x.negAlarm then
    ((s.setBalZone z { x with negAlarm := true }).count { name := .balAlarm, a := z, b := 1 }).raise .balNegativeAlarm t [z, n, md]
  else if n ≤ nc ∧ x.negAlarm then (s.setBalZone z { x with negAlarm := false }).raise .balNegativeClear t [z, n] else s

/-- A result written: its journal entry, export record, archive, and totals (R435, R443). -/
def State.balWrite (s : State) (r : BalResult) : State :=
  let z := r.zone
  let x := s.balZone z
  let oldest := s.legalS - s.rd Rec.ProfileClass.ArchiveDays 0 * 86400
  let v := r.residual.natAbs
  let s := s.setBalZone z { x with
    openIv := x.openIv.filter (fun o => o.stop * 2 ^ 24 ≠ r.stop),
    verdicts := if r.outcome ≠ 0 then x.verdicts else
      (let l := sortBy (fun e => ((e.1 : Nat) : Int)) (x.verdicts ++ [(r.stop / 2 ^ 24, r.verdict)])
       l.drop (l.length - 192)),
    lossMilli := (if r.verdict = 1 then x.lossMilli + v else x.lossMilli) % 2 ^ 64,
    excessMilli := (if r.verdict = 2 then x.excessMilli + v else x.excessMilli) % 2 ^ 64 }
  let s := s.count { name := .balOutcome, a := z, b := r.outcome }
  let s := if r.outcome = 0 then s.count { name := .balVerdict, a := z, b := r.verdict } else s
  let s := { s with bal := { s.bal with results := (s.bal.results ++ [r]).filter fun y => decide (oldest ≤ stampS y.stop) } }
  let s := s.journal .balance r.tenant z (.words [2, r.stop, r.outcome, r.verdict])
  let s := (s.addExport 3 r.tenant z s.stamp false false r.bytes).carry (.result z r.stop)
  if r.outcome = 1 ∨ r.outcome = 2 ∨ r.outcome = 3 then s.raiseEvery dayMs .balIncomplete z r.tenant [z, r.stop, r.outcome] else s

/-- An interval completes, or its HoldS expires, and it is evaluated (R433 to R436). -/
def execBalEvaluate (zone stop : Nat) (s : State) : Out :=
  if !s.rdB Rec.Zone.Active zone ∨ !s.led.ready then .next s
  else match (s.balZone zone).openIv.find? fun o => o.stop == stop && o.frozen with
    | none => .next s
    | some o =>
      let held := decide (stop + s.rd Rec.Zone.HoldS zone ≤ s.legalS)
      let full := s.balComplete zone o && decide (stop ≤ s.legalS)
      if !held ∧ !full then .next s
      else .next (((s.balWrite (s.balResult zone o (!full))).balDetect zone).carry (.zone zone))

/-! ### Interval close at the feeder (R414) -/

/-- METRO_INTERVAL_CLOSE: the interval closes; its record is handed to the balance once written. -/
def execMetroIntervalClose (trib : Nat) (s : State) : Out := .next (s.closeInterval trib).2

/-! ### Votes (R439, R440) -/

/-- A vote cast by a meter, or a none vote. -/
def State.castVote (s : State) (slot : Nat) (vote : Option Nat) : State :=
  let m := s.balMeter slot
  let r := s.meter slot
  let votes := (vote :: m.votes).take 16
  let least := s.rd Rec.BalPolicy.PhaseMinObs
  let share (p : Nat) : Nat := 1000 * (votes.filter (· == some p)).length
  let learned := if votes.length < least then m.learned
    else match [0, 1, 2].find? fun p => decide (s.rd Rec.BalPolicy.PhaseAgreePermille * votes.length ≤ share p) with
      | some p => some p
      | none => m.learned
  let allNone := decide (least ≤ votes.length) && (votes.take least).all (· == none)
  let s := s.setBalMeter slot { m with
    votes := votes, learned := learned,
    mismatch := if vote.isSome then false else m.mismatch || allNone,
    noneVotes := if vote.isSome then m.noneVotes else min (m.noneVotes + 1) 65535 }
  let s := if learned ≠ m.learned then
      s.raise .balPhaseLearned r.tenant [slot, r.zone, (learned.getD 0)] else s
  if vote.isNone ∧ allNone ∧ !m.mismatch then s.raise .balZoneMismatch r.tenant [slot, r.zone] else s

/-- The tributary whose crossings a member's votes are taken from: the feeder of its zone, while that zone is VALID. -/
def State.voteTrib (s : State) (slot : Nat) : Option Nat :=
  let r := s.meter slot
  if !s.member r r.zone then none
  else match s.feeder r.zone with
    | some t => if s.zoneValid t then some t else none
    | none => none

/-- The vote of an accepted Ling answer: PhaseMatched and CrossingOffsetUs of its descriptor (R439, R251). -/
def State.lingVote (s : State) (slot phase : Nat) (offset : Int) : State :=
  if (s.voteTrib slot).isSome ∧ phase < 3 ∧ offset.natAbs ≤ s.rd Rec.BalPolicy.PhaseWinUs then s.castVote slot (some phase) else s

/-- The time from the nearest rising crossing of a phase to an air instant, in periods; none where the phase is not VALID. -/
def State.crossingGap (s : State) (t p at' : Nat) : Option Int :=
  let x := s.metro t
  if p = s.zcRef t ∨ (x.phase p).valid then
    (leastBy (fun (a : Nat) => ((at' : Int) - (a : Int)).natAbs) (x.phase p).instants).map fun (a : Nat) => (at' : Int) - (a : Int)
  else none

/-- The vote of a crossing report item in a radio frame (Table 17-3, R439). -/
def State.crossingVote (s : State) (slot startAir lag : Nat) : State :=
  if 22222 < lag then s
  else match s.voteTrib slot with
    | none => s
    | some t =>
      let tm := startAir - 2000 * lag
      let near := [0, 1, 2].filter fun p => match s.crossingGap t p tm with
        | some d => decide (d.natAbs ≤ 2000 * s.rd Rec.BalPolicy.PhaseWinUs)
        | none => false
      match near with
      | [p] => s.castVote slot (some p)
      | [] => s.castVote slot none
      | _ => s

/-! ### Commands (R447, R448) -/

/-- The checks of a command about a zone. -/
def State.zoneChecks (s : State) (c : Caller) (z n : Nat) (args : Bool) (owner : Bool) : List (Bool × Status) :=
  [(if owner then c.isOwner (s.zoneTenant z) else c.isObserver && s.sees c (s.zoneTenant z), .refusedRole), (c.slots n, .badLength),
   (args && isZone z, .badArgument), (s.lineHere, .absentUnit), (decide (z < s.zones), .absentCapacity)]

/-- BAL.ZONE_READ. -/
def readBalZone (z : Nat) (c : Caller) (s : State) : Reply :=
  let x := s.balZone z
  let ms := s.members z
  let by' (p : Option Nat) : Nat := (ms.filter fun e => (s.meterPhase e.1).1 == p).length
  let ev := (s.balEvidence z).take 64
  gatedRead (s.zoneChecks c z 1 true false ++ [(s.rdB Rec.Zone.Active z, .noZone)])
    { status := .done, slots :=
        [slotOpt (s.feeder z), ms.length, x.openIv.length, bit x.lossAlarm, bit x.negAlarm, s.balCount z 1, s.balCount z 2,
         x.lossMilli, x.excessMilli, ev.length] ++ ev ++ [by' (some 0), by' (some 1), by' (some 2), by' (some 3), by' none] }

def execBalZoneRead (ch zone : Nat) (s : State) : Out := .next (s.readCommand ch .balZoneRead (readBalZone zone))

/-- The results of a zone from a first End (calendar stamp) on, in End order. -/
def State.balFrom (s : State) (z first : Nat) : List BalResult :=
  sortBy (fun (r : BalResult) => (r.stop : Int)) (s.bal.results.filter fun r => r.zone == z && decide (first ≤ r.stop))

/-- BAL.INTERVAL_READ. -/
def readBalInterval (z first count : Nat) (c : Caller) (s : State) : Reply :=
  let l := (s.balFrom z first).take count
  gatedRead (s.zoneChecks c z 3 (decide (count ≤ 256)) false)
    { status := .done, data := le 8 l.length ++ l.flatMap BalResult.bytes }

def execBalIntervalRead (ch zone first count : Nat) (s : State) : Out :=
  .next (s.readCommand ch .balIntervalRead (readBalInterval zone first count))

/-- BAL.METER_READ: votes newest first, as a count and 0 to 2 or 3 for a none vote. -/
def readBalMeter (slot : Nat) (c : Caller) (s : State) : Reply :=
  let m := s.balMeter slot
  let p := s.meterPhase slot
  gatedRead ([(c.isObserver && s.sees c (s.meterTenant slot), .refusedRole), (c.slots 1, .badLength), (isMeterSlot slot, .badArgument), (s.lineHere, .absentUnit),
      (s.meterHere slot, .absentCapacity)])
    { status := .done, slots :=
        [slotOpt m.zone, slotOpt (m.zone.map fun _ => m.since * 2 ^ 24), slotOf (m.typ.getD (s.rd Rec.Zone.NewMeterTypMilli (s.meter slot).zone)), slotOpt p.1, p.2,
         m.votes.length] ++ (m.votes.map fun v => v.getD 3) ++ [m.stray, m.late] }

def execBalMeterRead (ch slot : Nat) (s : State) : Out := .next (s.readCommand ch .balMeterRead (readBalMeter slot))

/-- Determinant of a 3 × 3 matrix given by rows. -/
def det3 (m : List (List Int)) : Int :=
  let a (i j : Nat) : Int := (m.getD i []).getD j 0
  a 0 0 * (a 1 1 * a 2 2 - a 1 2 * a 2 1) - a 0 1 * (a 1 0 * a 2 2 - a 1 2 * a 2 0) + a 0 2 * (a 1 0 * a 2 1 - a 1 1 * a 2 0)

/-- A signed quotient rounded to nearest. -/
def quotRound (a b : Int) : Int := if b < 0 then divRound (-a) b.natAbs else divRound a b.natAbs

/-- The least-squares fit of Ef − MeterMilli by a constant, the sum of Iavg² and InAvg² (R447): each point is (1, x, n, y). The
answer is the three coefficients as numerators over a common determinant, 0 where the points fix no solution.
(Log entry 61: DESIGN CHOICE.) -/
def fitPoints (pts : List (List Int)) : Int × List Int :=
  let sum (i j : Nat) : Int := (pts.map fun p => p.getD i 0 * p.getD j 0).sum
  let m : List (List Int) := (List.range 3).map fun i => (List.range 3).map fun j => sum i j
  let col (k : Nat) : List (List Int) := (List.range 3).map fun i => (List.range 3).map fun j => if j = k then sum i 3 else sum i j
  (det3 m, [det3 (col 0), det3 (col 1), det3 (col 2)])

/-- The results over which BAL.FIT fits: EVALUATED intervals without flags whose feeder record is kept.
(Log entry 61: DESIGN CHOICE.) -/
def State.fitSet (s : State) (z first count : Nat) : List (BalResult × MetroInterval) :=
  (((s.balFrom z first).take count).filter fun r => r.outcome == 0 && r.flags == 0).filterMap fun r =>
    (s.feederRecord z (stampS r.stop)).map fun f => (r, f)

/-- BAL.FIT: FixedMw, PhaseResMicroOhm, NeutralResMicroOhm and the rms residual in mWh. Where the intervals leave a
coefficient open the spec states no result, and the four values are free.
(Log entry 61: DESIGN CHOICE.) -/
def runBalFit (z first count : Nat) (c : Caller) (s : State) : Reply × State :=
  let l := s.fitSet z first count
  gated s (s.zoneChecks c z 3 (decide (count ≤ 2880)) true ++ [s.notReleasing (s.zoneTenant z), (s.rdB Rec.Zone.Active z, .noZone), (decide (24 ≤ l.length), .fitData)])
    fun s =>
      let pts : List (List Int) := l.map fun e =>
        [1, ((e.2.iavg.map fun i => i * i).sum : Nat), (e.2.inavg * e.2.inavg : Nat), e.1.feeder - e.1.milli]
      let (d, b) := fitPoints pts
      if d = 0 then
        let (v0, s) := s.draw 64
        let (v1, s) := s.draw 64
        let (v2, s) := s.draw 64
        let (v3, s) := s.draw 64
        ({ status := .done, slots := [v0, v1, v2, v3] }, s)
      else
        let k (i : Nat) : Int := b.getD i 0
        let sq : Int := (pts.map fun p => (p.getD 3 0 * d - (k 0 + k 1 * p.getD 1 0 + k 2 * p.getD 2 0)) ^ 2).sum
        let rms := isqrt (sq.toNat / (pts.length * d.natAbs ^ 2))
        ({ status := .done, slots := [slotOf (quotRound (4 * k 0) d), slotOf (quotRound (lossUnit * k 1) d),
           slotOf (quotRound (lossUnit * k 2) d), rms] }, s)

def execBalFit (ch zone first count : Nat) (s : State) : Out := .next (s.command ch .balFit (runBalFit zone first count))

/-- BAL.PHASE_RESET: the votes and the learned phase are cleared (R440). -/
def runBalPhaseReset (slot : Nat) (c : Caller) (s : State) : Reply × State :=
  gated s [(c.isOwner (s.meterTenant slot), .refusedRole), (c.slots 1, .badLength), (isMeterSlot slot, .badArgument), (s.lineHere, .absentUnit),
      (s.meterHere slot, .absentCapacity), s.notReleasing (s.meterTenant slot)] fun s =>
    let s := s.setBalMeter slot { s.balMeter slot with votes := [], learned := none }
    ({ status := .done }, (s.journal .balance (s.meterTenant slot) slot (.words [3, slot])).carry (.meter slot))

def execBalPhaseReset (ch slot : Nat) (s : State) : Out := .next (s.commitCommand ch .balPhaseReset (runBalPhaseReset slot))

/-- BAL.COUNTERS_READ. -/
def readBalCounters (z : Nat) (c : Caller) (s : State) : Reply :=
  let k (x : CtrName) (b : Nat) : Nat := s.ctr { name := x, a := z, b := b }
  gatedRead (s.zoneChecks c z 1 true false)
    { status := .done, slots := (List.range 5).map (k .balOutcome) ++ (List.range 3).map (k .balVerdict) ++
        [k .balLate 0, k .balStray 0, k .balAlarm 0, k .balAlarm 1] }

def execBalCountersRead (ch zone : Nat) (s : State) : Out := .next (s.readCommand ch .balCountersRead (readBalCounters zone))

/-! ### Records (R444 to R446) -/

/-- The zone record (R444). -/
def ruleZone : RecordRule where
  owner _ _ := .header
  writer _ c t _ := c.isOwner t
  absent s i _ := if !s.lineHere then some .absentUnit else if s.zones ≤ i then some .absentCapacity else none
  check s _ i _ _ := if s.isSealed (s.zoneTenant i) then some .refusedState else none
  effect s _ i old b :=
    let x := s.balZone i
    if Rec.Zone.Active.on b ∧ !Rec.Zone.Active.on old then s.setBalZone i { x with next := some ((s.legalS / 900 + 1) * 900) }
    else if !Rec.Zone.Active.on b ∧ Rec.Zone.Active.on old then s.setBalZone i { x with next := none, openIv := [] }
    else s

def execZoneRecord (tenant inst : Nat) (body : List Byte) (s : State) : Out :=
  .next (s.applyRecord ruleZone Schema.Zone tenant inst body)

/-- The balance meter record (R445). -/
def ruleBalMeter : RecordRule where
  owner s i := .object (s.meterTenant i)
  writer _ c t _ := c.isOwner t
  absent s i _ := if !s.lineHere then some .absentUnit else if s.meterHere i then none else some .absentCapacity

def execBalanceMeterRecord (tenant inst : Nat) (body : List Byte) (s : State) : Out :=
  .next (s.applyRecord ruleBalMeter Schema.BalMeter tenant inst body)

/-- The balance policy record (R446). -/
def ruleBalPolicy : RecordRule where
  writer _ c _ _ := c.isOperator
  absent s _ _ := if s.lineHere then none else some .absentUnit

def execBalancePolicyRecord (tenant inst : Nat) (body : List Byte) (s : State) : Out :=
  .next (s.applyRecord ruleBalPolicy Schema.BalPolicy tenant inst body)

end Sys2Proof.Machine
end

