-- ==== Sys2Proof/Machine/Exports.lean ====
section
/-! DEFINITION. Chapter 25: export records as bytes, their release on head-end sessions, sessions closing, and event frames
(R621, R623, R625 to R628). -/

namespace Sys2Proof.Machine

open Sys2Proof

/-! ### Identities (R623) -/

/-- The identity of a record within its region: Position, then Index. -/
def Export.id (e : Export) : Nat × Nat := (e.position, e.index)

/-- Whether one identity precedes another. -/
def idLt (a b : Nat × Nat) : Bool := decide (a.1 < b.1 ∨ (a.1 = b.1 ∧ a.2 < b.2))

/-- Whether one identity precedes another or is the same. -/
def idLe (a b : Nat × Nat) : Bool := !idLt b a

/-- The greater of two identities. -/
def idMax (a b : Nat × Nat) : Nat × Nat := if idLt a b then b else a

/-- An identity as a number, in the order of identities. -/
def idKey (a : Nat × Nat) : Nat := a.1 * 65536 + a.2

/-! ### Bytes (Table 25-2) -/

/-- Head and content of an export record. -/
def Export.body (e : Export) : List Byte :=
  le 4 0x58455745 ++ le 1 1 ++ le 1 e.kind ++ le 1 (e.tenant % 16 + 16 * e.timeState + 128 * bit e.gap) ++ le 1 (bit e.disputed) ++
    le 2 e.region ++ le 2 e.index ++ le 4 e.epoch ++ le 8 e.position ++ le 4 e.object ++ le 4 0 ++ le 8 e.stamp ++
    le 2 e.content.length ++ le 22 0 ++ e.content

/-- An export record with its Mac under a key. -/
def Export.bytes (e : Export) (key : List Byte) : List Byte := e.body ++ (hmac key e.body).take 16

/-! ### Release (R625 to R627) -/

/-- The tenant a session serves. -/
def State.heTenant (s : State) (i : Nat) : Nat := s.recTenant Rec.HeadEnd.Enabled.rid i

/-- Whether a session's Tenant and KindMask select a record. -/
def State.heSelects (s : State) (i : Nat) (e : Export) : Bool :=
  s.heTenant i == e.tenant && bitOn (s.rd Rec.HeadEnd.KindMask i) e.kind

/-- The records of a session after an identity, in order. -/
def State.heAfter (s : State) (i : Nat) (x : Nat × Nat) : List Export :=
  sortBy (fun e => (idKey e.id : Int)) (s.ports.exports.filter fun e => s.heSelects i e && idLt x e.id)

/-- The records sent on a session and not acknowledged. -/
def State.heFlight (s : State) (i : Nat) : Nat :=
  let x := s.headEnd i
  ((s.heAfter i x.cursor).filter fun e => idLe e.id x.sent).length

/-- `port.export_backlog`: once when the unacknowledged records exceed 8 × ExportWindow, and again after they have fallen below
ExportWindow. -/
def State.heBacklog (s : State) (i : Nat) : State :=
  let x := s.headEnd i
  let n := (s.heAfter i x.cursor).length
  let w := s.rd Rec.HeadEnd.ExportWindow i
  if !x.backlog ∧ 8 * w < n then (s.setHeadEnd i { x with backlog := true }).raise .portExportBacklog (s.heTenant i) [i, n]
  else if x.backlog ∧ n < w then s.setHeadEnd i { x with backlog := false }
  else s

/-- One record sent on a session. -/
def State.sendExport (s : State) (i : Nat) (key : List Byte) (e : Export) : State :=
  let x := s.headEnd i
  let s := s.sendFrame i 1 (e.bytes key)
  let s := s.setHeadEnd i { s.headEnd i with sent := e.id, top := idMax x.top e.id }
  (s.count { name := .heSent, a := i }).count { name := .heResent, a := i } (bit (idLe e.id x.top))

/-- The records of a session whose entries have committed, released within its window; without the tenant's export key they are
kept, with `port.export_unkeyed` once per boot.
(Log entry 90: DESIGN CHOICE.) -/
def State.releaseSession (s : State) (i : Nat) : State :=
  let s := s.heBacklog i
  let x := s.headEnd i
  if x.st ≠ .opened then s
  else
    let l := ((s.heAfter i x.sent).takeWhile fun e => s.posCommitted e.position).take (s.rd Rec.HeadEnd.ExportWindow i - s.heFlight i)
    if l.isEmpty then s
    else
      let t := s.heTenant i
      match s.bind t 4 t with
      | (some key, s) => l.foldl (fun s e => s.sendExport i key e) s
      | (none, s) =>
        if s.ports.unkeyedRaised.contains t then s
        else ({ s with ports := { s.ports with unkeyedRaised := s.ports.unkeyedRaised ++ [t] } }).raise .portExportUnkeyed t [t]

/-- The enabled sessions. -/
def State.heEnabled (s : State) : List Nat := (List.range 32).filter fun i => s.rdB Rec.HeadEnd.Enabled i

/-- Release on every session.
(Log entry 90: DESIGN CHOICE.) -/
def State.releaseExports (s : State) : State := s.heEnabled.foldl State.releaseSession s

/-! ### Event frames (R521, R628) -/

/-- The export record of Kind 5 that a type-3 frame carries: the event's Seq and its payload slots.
(Log entry 89: DESIGN CHOICE.) -/
def State.eventExport (s : State) (e : TrailEntry) : Export :=
  { kind := 5, tenant := e.tenant, timeState := s.time.st.code, gap := false, disputed := false, region := s.rd Rec.Pair.RegionNumber,
    index := e.seq % 65536, epoch := s.pair.epoch, position := s.newestPos, object := e.ev.source, stamp := e.stamp,
    content := le 8 e.seq ++ e.payload.flatMap (le 8) }

/-- Events routed to sessions go out as type-3 frames.
(Log entry 89: DESIGN CHOICE.) -/
def State.sendEvents (s : State) : State :=
  let l := s.ports.eventFrames
  let s := { s with ports := { s.ports with eventFrames := [] } }
  l.foldl (fun s x =>
    match s.ev.trail.find? fun e => e.seq == x.2 with
    | none => s
    | some e =>
      let r := s.eventExport e
      match s.bind (s.heTenant x.1) 4 (s.heTenant x.1) with
      | (some key, s) => if (s.headEnd x.1).st = .opened then s.sendFrame x.1 3 (r.bytes key) else s
      | (none, s) => s) s

/-! ### Sessions (R621) -/

/-- The causes of `port.session`, in their order. -/
inductive HeCause where
  | claim | peer | timeout | record | reset
  deriving DecidableEq, Repr

/-- The position of a cause. -/
def HeCause.code : HeCause → Nat
  | .claim => 0 | .peer => 1 | .timeout => 2 | .record => 3 | .reset => 4

/-- The mailbox sessions of tunnelled channels without a path close (R628). -/
def State.closeUnreached (s : State) : State :=
  ((List.range 16).map (16 + ·)).foldl (fun s n =>
    if s.tunnelled n ∧ (s.tunnelPath n).isNone ∧ (s.session n).isSome then s.closeSession n .tunnelClosed else s) s

/-- An open session closes: the mailbox sessions of the channels it serves close with cause tunnel closed (R628), and it is
opened again after 1 s where it is still enabled and the chip serves. Sending resumes from the journaled cursor (R626). -/
def State.closeHead (s : State) (i : Nat) (cause : HeCause) : State :=
  let x := s.headEnd i
  let was := decide (x.st = .opened)
  let s := (s.setHeadEnd i { x with
    st := .waiting, waitS := 1, retryMs := s.time.ms + 1000, cursor := x.journaled, sent := x.journaled }).closeUnreached
  if was then s.raise .portSession (s.heTenant i) [i, 0, cause.code] else s

/-- Every session that is not closed closes, because the chip no longer serves (R621). -/
def State.closeHeads (s : State) (cause : HeCause) : State :=
  (List.range 32).foldl (fun s i =>
    if (s.headEnd i).st = .closed then s
    else let s := s.closeHead i cause
         s.setHeadEnd i { s.headEnd i with st := .closed, waitS := 0 }) s

end Sys2Proof.Machine
end

