-- ==== Sys2Proof/Machine/Flood.lean ====
section
/-! DEFINITION. Chapter 9: flood streams, windows, roles (R218 to R228, R234, R236), and TARIFF.PLAN_FLOOD (R367). -/

namespace Sys2Proof.Machine

open Sys2Proof

/-! ### The schedule (R220, R234) -/

/-- The flood rate. -/
def State.floodRate (s : State) : Nat := s.rd Rec.FloodSchedule.Rate

/-- L of every flood frame: 66 at Lea-L. -/
def State.floodL (s : State) : Nat := if s.floodRate = 2 then 66 else s.rd Rec.FloodSchedule.FloodL

/-- Tf in air time. -/
def State.floodSpan (s : State) : Nat := leaAir s.floodRate (s.rd Rec.FloodSchedule.PreambleBytes) s.floodL

/-- The start of a window in calendar seconds. -/
def State.windowS (s : State) (w : Nat) : Nat :=
  let p := s.rd Rec.FloodSchedule.FloodPeriodS
  w * p + s.rd Rec.FloodSchedule.FloodOffsetS % p

/-- The start of a frame slot of a window in air time. -/
def State.frameSlotAir (s : State) (w f : Nat) : Nat :=
  s.airOfSecond (s.windowS w) +
    f * (s.rd Rec.FloodSchedule.MaxHops + 1) * (s.floodSpan + s.rd Rec.FloodSchedule.HopGapMs * airPerMs)

/-- The payload bytes of a flood frame. -/
def State.floodRoom (s : State) : Nat := s.floodL - 28

/-! ### Frames (Tables 9-3 and 7-6) -/

/-- FloodCtl of a stream. -/
def State.floodCtl (s : State) (x : Stream) : List Byte :=
  itemBytes 0xC0 (le 1 (x.kind + s.rd Rec.FloodSchedule.MaxHops * 16) ++ le 1 (s.rd Rec.FloodSchedule.HopGapMs) ++
    le 1 (s.rd Rec.FloodSchedule.PreambleBytes) ++ le 1 x.segBytes ++ le 3 x.lastBlock ++ le 1 0 ++
    le 2 (s.rd Rec.FloodSchedule.CacheAgeH) ++ le 2 0)

/-- The payload of a stream's next frame, padded to the room of the frame: FloodTime for a time stream, launched at `start`,
and otherwise the Segment. None where it does not fit. -/
def State.floodPayload (s : State) (x : Stream) (start : Nat) : Option (List Byte) :=
  let item := if x.kind = 0 then itemBytes 0xC2 (le 8 (stampOfNs (s.airToLegal start).toNat))
    else itemBytes 0xC1 (Map.getD x.blocks x.block [])
  let p := s.floodCtl x ++ item
  if s.floodRoom < p.length then none else some (p ++ List.replicate (s.floodRoom - p.length) 0)

/-! ### Streams -/

/-- The stream of a number. -/
def State.stream (s : State) (n : Nat) : Option Stream := s.fl.streams.find? fun x => x.number == n

/-- Whether a stream number may not be opened (R219): open, or within CacheAgeH of its last launch or close.
(Log entry 54: DEDUCED.) -/
def State.streamBusy (s : State) (n : Nat) : Bool :=
  (s.stream n).isSome || (match Map.get? s.fl.lastMs n with
    | some t => decide (s.time.ms < t + s.rd Rec.FloodSchedule.CacheAgeH * hourMs)
    | none => false)

/-- A stream opened and journaled (R228). -/
def State.openStream (s : State) (x : Stream) : State :=
  ({ s with fl := { s.fl with streams := s.fl.streams ++ [x] } }).journal .flood x.tenant x.number
    (.words [x.kind, x.keySlot, x.target, x.lastBlock, x.segBytes, x.priority, x.rounds]) |>.carry .floods

/-- The checks of an opening: arguments, then R219, the 64 streams, and the key slot.
(Log entry 52: DESIGN CHOICE.) -/
def State.openChecks (s : State) (x : Stream) : List (Bool × Status) :=
  [(decide (x.number < 256 ∧ x.kind < 4 ∧ 16 ≤ x.keySlot ∧ x.keySlot < 48 ∧ x.lastBlock < 2 ^ 24 ∧ x.priority ≤ 3 ∧ 1 ≤ x.rounds ∧
      x.rounds ≤ 16 ∧ 1 ≤ x.segBytes ∧ x.segBytes ≤ 227 ∧ (x.kind = 0 → x.lastBlock = 0)), .badArgument),
   (!s.streamBusy x.number, .streamBusy), (decide (s.fl.streams.length < 64), .streamFull),
   (s.slotSet x.tenant x.keySlot, .slotEmpty)]

/-- Why a stream cannot be launched now (R226): 0 its key slot is empty, 1 its BcCtr is exhausted. -/
def State.pauseCause (s : State) (x : Stream) : Option Nat :=
  if !s.slotSet x.tenant x.keySlot then some 0
  else if Map.getD s.vault.bcCtr (x.tenant, x.keySlot - 16) 0 = 0xFFFFFFFF then some 1
  else none

/-- A stream pauses (R226, R175). -/
def State.pauseStream (s : State) (x : Stream) (cause : Nat) : State :=
  let s := (s.modStream x.number fun y => { y with st := .paused }).raise .floodPaused x.tenant [x.number, cause]
  let k := (x.tenant, x.keySlot)
  if cause = 1 ∧ !s.lea.bcRaised.contains k then
    ({ s with lea := { s.lea with bcRaised := k :: s.lea.bcRaised } }).raise .leaBcctrExhausted x.tenant [x.tenant, x.keySlot]
  else s

/-- Streams whose key allows it again resume at a window (R226). -/
def State.resumeStreams (s : State) : State :=
  s.fl.streams.foldl (fun s x =>
    if x.st = .paused ∧ (s.pauseCause x).isNone then
      let s := s.modStream x.number fun y => { y with st := .started }
      { s with lea := { s.lea with bcRaised := s.lea.bcRaised.filter (· ≠ (x.tenant, x.keySlot)) } }
    else s) s

/-- The stream a frame slot takes its frame from: by Priority, then round, then block. A stream whose frame moved waits for
its window and slot, but fills slot 0 of that window where nothing else does.
(Log entry 53: DEDUCED.) -/
def State.nextStream (s : State) (w f : Nat) : Option Stream :=
  let live := s.fl.streams.filter fun x => decide (x.st = .started ∧ x.round < x.rounds)
  let free := live.filter fun x => match x.hold with
    | some (v, g) => decide (v < w ∨ (v = w ∧ g ≤ f))
    | none => true
  let late := live.filter fun x => match x.hold with
    | some (v, _) => decide (v ≤ w)
    | none => true
  leastBy (fun (x : Stream) => (x.priority * 16 + x.round) * 2 ^ 24 + x.block) (if free.isEmpty ∧ f = 0 then late else free)

/-- A stream moves past its next frame. -/
def Stream.advance (x : Stream) : Stream :=
  if x.block = x.lastBlock then { x with block := 0, round := x.round + 1, hold := none } else { x with block := x.block + 1, hold := none }

/-- A flood frame that no head admits moves to the same frame slot of the next window (R226). -/
def State.deferFlood (s : State) (x : Stream) (w f : Nat) (cause : DeferCause) : State :=
  let head := ((maskBits 64 (s.rd Rec.FloodSchedule.HeadMask)).head?).getD 0
  let s := s.modStream x.number fun y => { y with hold := some (w + 1, f) }
  (s.count { name := .flDefer, a := x.number }).count
    { name := .airDefer, a := headBand head (s.rd Rec.FloodSchedule.Band), b := cause.code }

/-- A frame of a stream launched in a frame slot: BcCtr advanced and committed (R174), the frame built with Ttl MaxHops, and
entries placed on every head of HeadMask that admits it (R220). -/
def State.launchFlood (s : State) (x : Stream) (w f : Nat) : State :=
  let start := s.frameSlotAir w f
  let rate := s.floodRate
  let band := s.rd Rec.FloodSchedule.Band
  let span := s.floodSpan
  match s.floodPayload x start with
  | none => s.deferFlood x w f .lea
  | some p =>
    let gid := s.air.nextId
    let e : Launch :=
      { id := 0, gid := gid, head := 0, band := band, antenna := 0, carrier := s.rd Rec.FloodSchedule.CentreHz, start := start,
        span := span, amp := 0, charge := chargeMs span, source := .flood, rate := rate, preamble := s.rd Rec.FloodSchedule.PreambleBytes,
        channel := (List.range 16).find? fun n => s.leaActive n &&
          decide (((s.rd Rec.LeaChannel.CentreHz n : Int) - s.rd Rec.FloodSchedule.CentreHz).natAbs ≤ 1000),
        stream := some (x.number, x.round * 2 ^ 24 + x.block) }
    match s.placeHeads (occHalf rate) 2 64 e (maskBits 64 (s.rd Rec.FloodSchedule.HeadMask)) with
    | (_, 0, why) => s.deferFlood x w f (why.getD .lane)
    | (s, _, _) =>
      match s.bind x.tenant x.keySlot x.tenant with
      | (none, s) => (s.withdraw gid).pauseStream x 0
      | (some key, s) =>
        let b := x.keySlot - 16
        let ctr := Map.getD s.vault.bcCtr (x.tenant, b) 0 + 1
        let s := { s with vault := { s.vault with bcCtr := Map.put s.vault.bcCtr (x.tenant, b) ctr } }
        let s := s.journal .flood x.tenant x.number (.words [x.round, x.block, ctr])
        let frame := broadcastFrame key (s.slotGen x.tenant x.keySlot) x.target (s.rd Rec.Pair.RegionNumber)
          (x.number * 2 ^ 24 + x.block) (s.rd Rec.FloodSchedule.MaxHops) ctr p
        let pos := s.newestPos
        let s := { s with air := { s.air with queue := s.air.queue.map fun (y : Launch) =>
          if y.gid = gid then { y with frame := whiten frame, position := pos } else y } }
        s.modStream x.number Stream.advance

/-- Frame slot `slot` of flood window `window` comes due (R220): planned at least PlanLeadMs ahead, once, in order of the
slots; a window is used only if its slot 0 is. -/
def execFloodWindow (window slot : Nat) (s : State) : Out :=
  let ws := s.windowS window
  let lead := s.time.air + s.rd Rec.AirPolicy.PlanLeadMs * airPerMs
  let used := s.fl.filled.contains (ws, slot)
  let before := slot == 0 || s.fl.filled.contains (ws, slot - 1)
  if !s.rdB Rec.FloodSchedule.Active ∨ !s.serving ∨ s.rd Rec.FloodSchedule.FramesPerWindow ≤ slot ∨ ws < s.fl.fromS ∨ used ∨ !before ∨
      s.frameSlotAir window slot < lead then .next s
  else
    let s := if slot = 0 then s.resumeStreams else s
    match s.nextStream window slot with
    | none => .next s
    | some x =>
      match s.pauseCause x with
      | some c => .next ((s.pauseStream x c).carry .floods)
      | none =>
        let s' := s.launchFlood x window slot
        let s' := if s'.air.queue.length = s.air.queue.length then s'
          else { s' with fl := { s'.fl with filled := (ws, slot) :: s'.fl.filled.filter fun y => decide (s.legalS ≤ y.1 + 86400) } }
        .next ((s'.carry .floods).carry .duty)

/-! ### Commands (Table 9-7) -/

/-- FLOOD.STREAM_OPEN. -/
def runFloodStreamOpen (x : Stream) (c : Caller) (s : State) : Reply × State :=
  gated s ([(c.isOperator, Status.refusedRole), (c.slots 8, .badLength)] ++ s.openChecks x) fun s =>
    ({ status := .done }, s.openStream x)

def execFloodStreamOpen (ch stream kind keySlot target lastBlock segBytes priority rounds : Nat) (s : State) : Out :=
  .next (s.command ch .floodStreamOpen (runFloodStreamOpen
    { number := stream, kind := kind, tenant := 0, keySlot := keySlot, target := target, lastBlock := lastBlock,
      segBytes := segBytes, priority := priority, rounds := rounds }))

/-- FLOOD.BLOCK_WRITE: SegBytes in every block but the last (R227). -/
def runFloodBlockWrite (stream block : Nat) (b : List Byte) (c : Caller) (s : State) : Reply × State :=
  let ok := match s.stream stream with
    | some x => decide (block ≤ x.lastBlock ∧ x.kind ≠ 0 ∧ 1 ≤ b.length) &&
        (if block = x.lastBlock then decide (b.length ≤ x.segBytes) else b.length == x.segBytes)
    | none => false
  let opened := match s.stream stream with
    | some x => decide (x.st = .opened)
    | none => false
  gated s [(c.isOperator, .refusedRole), (c.body.length == 16 + b.length, .badLength), (ok, .badArgument), (opened, .refusedState)] fun s =>
    let s := s.modStream stream fun x => { x with blocks := Map.put x.blocks block b }
    ({ status := .done }, (s.journal .flood 0 stream (.words (block :: b.map BitVec.toNat))).carry .floods)

def execFloodBlockWrite (ch stream block : Nat) (bytes : List Byte) (s : State) : Out :=
  .next (s.command ch .floodBlockWrite (runFloodBlockWrite stream block bytes))

/-- Whether every block of a stream has been written. -/
def Stream.full (x : Stream) : Bool := x.kind == 0 || decide (x.lastBlock < x.blocks.length)

/-- FLOOD.STREAM_START (R227). -/
def runFloodStreamStart (stream : Nat) (c : Caller) (s : State) : Reply × State :=
  let ok := match s.stream stream with
    | some x => decide (x.st = .opened) && x.full
    | none => false
  gated s [(c.isOperator, .refusedRole), (c.slots 1, .badLength), (decide (stream < 256), .badArgument), (ok, .refusedState)] fun s =>
    ({ status := .deferred }, ((s.modStream stream fun x => { x with st := .started }).journal .flood 0 stream (.words [1])).carry .floods)

def execFloodStreamStart (ch stream : Nat) (s : State) : Out := .next (s.command ch .floodStreamStart (runFloodStreamStart stream))

/-- A stream closed: its unlocked frames cancelled, and the STREAM_BUSY period begun (R219, R227). -/
def State.closeStream (s : State) (n : Nat) : State :=
  let s := s.floodBack n
  ((({ s with fl := { s.fl with
    streams := s.fl.streams.filter (fun (x : Stream) => x.number ≠ n), lastMs := Map.put s.fl.lastMs n s.time.ms } }).journal
      .flood 0 n (.words [2])).carry .floods).carry .duty

/-- FLOOD.STREAM_CLOSE: how many frames were cancelled. -/
def runFloodStreamClose (stream : Nat) (c : Caller) (s : State) : Reply × State :=
  gated s [(c.isOperator, .refusedRole), (c.slots 1, .badLength), ((s.stream stream).isSome, .badArgument)] fun s =>
    let n := (s.air.queue.filter fun (e : Launch) => !e.locked && e.primary && (e.stream.map Prod.fst) == some stream).length
    ({ status := .done, slots := [n] }, s.closeStream stream)

def execFloodStreamClose (ch stream : Nat) (s : State) : Out := .next (s.command ch .floodStreamClose (runFloodStreamClose stream))

/-- The state codes of a stream: opened, started, paused, done.
(Log entry 54: DEDUCED.) -/
def StreamSt.code : StreamSt → Nat
  | .opened => 0 | .started => 1 | .paused => 2 | .done => 3

/-- The start of the next window (calendar seconds) at least PlanLeadMs ahead. -/
def State.nextWindowS (s : State) : Nat :=
  let p := s.rd Rec.FloodSchedule.FloodPeriodS
  let off := s.rd Rec.FloodSchedule.FloodOffsetS % p
  let t := s.legalS + ceilDiv (s.rd Rec.AirPolicy.PlanLeadMs) 1000
  if t ≤ off then off else ceilDiv (t - off) p * p + off

/-- FLOOD.STATUS_READ: state, round, next block, next window, deferrals; for 0xFF of every open stream, after its number. -/
def readFloodStatus (stream : Nat) (c : Caller) (s : State) : Reply :=
  let row (x : Stream) : List Nat := [x.st.code, x.round, x.block, s.nextWindowS, s.ctr { name := .flDefer, a := x.number }]
  gatedRead [(c.isObserver, .refusedRole), (c.slots 1, .badLength), (stream == 0xFF || (s.stream stream).isSome, .badArgument)]
    { status := .done, slots :=
        if stream = 0xFF then s.fl.streams.length :: s.fl.streams.flatMap fun x => x.number :: row x
        else match s.stream stream with
          | some x => row x
          | none => [] }

def execFloodStatusRead (ch stream : Nat) (s : State) : Out := .next (s.readCommand ch .floodStatusRead (readFloodStatus stream))

/-- FLOOD.METER_SETUP: the role and hop, and a FloodSetup queued (R223).
(Log entry 53: DEDUCED.) -/
def runFloodMeterSetup (slot role hop : Nat) (c : Caller) (s : State) : Reply × State :=
  gated s [(c.isOperator, .refusedRole), (c.slots 3, .badLength), (decide (role ≤ 2 ∧ hop ≤ 7), .badArgument),
      (isMeterSlot slot, .badArgument), (s.meterHere slot, .absentCapacity), s.notReleasing (s.meterTenant slot), (s.planned slot, .notPlanned)] fun s =>
    let s := { s with fl := { s.fl with meters := Map.put s.fl.meters slot ⟨role, hop, true, none⟩ } }
    ({ status := .deferred }, (s.journal .flood 0 slot (.words [3, role, hop])).carry (.meter slot))

def execFloodMeterSetup (ch slot role hop : Nat) (s : State) : Out :=
  .next (s.command ch .floodMeterSetup (runFloodMeterSetup slot role hop))

/-- The lowest stream number that can be opened. -/
def State.freeStream (s : State) : Option Nat := (List.range 256).find? fun n => !s.streamBusy n

/-- FLOOD.TIME_SEND: a time stream of one round to every meter, under the lowest broadcast key slot of tenant 0 that is set,
opened and started (R225).
(Log entry 52: DESIGN CHOICE.) -/
def runFloodTimeSend (c : Caller) (s : State) : Reply × State :=
  let n := s.freeStream
  gated s [(c.isOperator, .refusedRole), (c.slots 0, .badLength), (n.isSome && decide (s.fl.streams.length < 64), .streamFull)] fun s =>
    let k := ((List.range 32).find? fun b => s.slotSet 0 (16 + b)).getD 0
    let n := n.getD 0
    let x : Stream := { number := n, kind := 0, tenant := 0, keySlot := 16 + k, target := 0xFFFFFFFFFFFFFFFF, lastBlock := 0,
                        segBytes := 1, priority := 0, rounds := 1, st := .started }
    ({ status := .deferred, slots := [n] }, s.openStream x)

def execFloodTimeSend (ch : Nat) (s : State) : Out := .next (s.command ch .floodTimeSend runFloodTimeSend)

/-- Bytes cut into blocks of a size. -/
def cutBlocks (size : Nat) (l : List Byte) : Map Nat (List Byte) :=
  (List.range (max 1 (ceilDiv l.length size))).map fun i => (i, (l.drop (i * size)).take size)

/-- The largest SegBytes of the present schedule. -/
def State.segMax (s : State) : Nat := max 1 (min 227 (s.floodRoom - 16))

/-- A started stream of given content. -/
def State.contentStream (s : State) (number kind tenant keySlot target rounds : Nat) (content : List Byte) : Stream :=
  let seg := s.segMax
  let blocks := cutBlocks seg content
  { number := number, kind := kind, tenant := tenant, keySlot := keySlot, target := target, lastBlock := blocks.length - 1,
    segBytes := seg, priority := 1, rounds := rounds, blocks := blocks, st := .started }

/-- TARIFF.PLAN_FLOOD (R367): plan number, 7 reserved bytes, plan body, time-zone body. -/
def runTariffPlanFlood (plan version stream keySlot target rounds : Nat) (c : Caller) (s : State) : Reply × State :=
  let tenant := s.recTenant Rec.TariffPlan.Active.rid plan
  let v := (s.planVersions plan)[version]?
  let x := s.contentStream stream 1 tenant keySlot target rounds
    (le 1 plan ++ le 7 0 ++ (match v with
      | some v => le 992 v.body ++ le 32 v.tz
      | none => []))
  gated s ([(c.isOwner tenant, Status.refusedRole), (c.slots 6, .badLength), (decide (plan < 256 ∧ version < 4), .badArgument)] ++
      [s.notReleasing tenant] ++ (s.openChecks x).take 1 ++ [(v.isSome, .noPlan)] ++ (s.openChecks x).drop 1) fun s =>
    ({ status := .deferred }, s.openStream x)

def execTariffPlanFlood (ch plan version stream keySlot target rounds : Nat) (s : State) : Out :=
  .next (s.command ch .tariffPlanFlood (runTariffPlanFlood plan version stream keySlot target rounds))

/-! ### The schedule record (R234, R223) -/

/-- The flood schedule record: it holds from the first window PlanLeadMs ahead, and a change of what meters follow queues a
FloodSetup under a new SetupSeq for every meter with a role.
(Log entry 53: DEDUCED.) -/
def ruleFloodSchedule : RecordRule where
  writer _ c _ _ := c.isOperator
  effect s _ _ old b :=
    let changed := [Rec.FloodSchedule.Rate, Rec.FloodSchedule.CentreHz, Rec.FloodSchedule.FloodPeriodS,
      Rec.FloodSchedule.FloodOffsetS, Rec.FloodSchedule.FloodL, Rec.FloodSchedule.PreambleBytes, Rec.FloodSchedule.HopGapMs,
      Rec.FloodSchedule.FramesPerWindow].any fun f => f.of old != f.of b
    let s := { s with fl := { s.fl with fromS := s.legalS + ceilDiv (s.rd Rec.AirPolicy.PlanLeadMs) 1000 } }
    if changed then
      { s with fl := { s.fl with
        setupSeq := (s.fl.setupSeq + 1) % 65536,
        meters := Map.mapV s.fl.meters fun _ (m : FloodMeter) => if m.role = 0 then m else { m with due := true, tag := none } } }
    else s

def execFloodScheduleRecord (tenant inst : Nat) (body : List Byte) (s : State) : Out :=
  .next (s.applyRecord ruleFloodSchedule Schema.FloodSchedule tenant inst body)

end Sys2Proof.Machine
end

