-- ==== Sys2Proof/Machine/Ling.lean ====
section
/-! DEFINITION. Chapter 10: the Ling line link (R238 to R271), and the crossing timeouts of chapter 16 that suspend it. The
transmit and receive samples are those of the modem's signal processing; what it measures and decodes is an operand of the
rows that report it. -/

namespace Sys2Proof.Machine

open Sys2Proof

/-! ### Symbols and bits (R238 to R245) -/

/-- Bits of bytes, the most significant of each first. -/
def bitsMsb (l : List Byte) : List Nat := l.flatMap fun b => (List.range 8).map fun i => bitsAt b.toNat (7 - i) 1

/-- The convolutional code: constraint length 7, generators 0o133 and 0o171, rate 1/2.
(Log entry 69: DEDUCED.) -/
def lingCode (l : List Nat) : List Nat :=
  (l.foldl (fun (acc : Nat × List Nat) b =>
    let w := b * 64 + acc.1 / 2
    (w, popCount 7 (w &&& 0o171) % 2 :: popCount 7 (w &&& 0o133) % 2 :: acc.2)) (0, [])).2.reverse

/-- The words of Table 10-2. -/
def syncmWord (r : Nat) : Nat := [0, 0x0F0F0F0F, 0x33333333, 0x55555555, 0x00FF00FF, 0x69696969].getD r 0

/-- HeaderRep (R241). -/
def headerRep (r : Nat) : Nat := 2 ^ max 2 r

/-- Header symbols of a RepCode. -/
def headerSymbols (r : Nat) : Nat := ceilDiv (236 * headerRep r) 32

/-- B: positions per data symbol. -/
def lingB (active map : Nat) : Nat := popCount 32 active + popCount 32 (active &&& map)

/-- The largest power of two not above a number. -/
def powBelow (n : Nat) : Nat := if n = 0 then 0 else 2 ^ Nat.log2 n

/-- The repetition the device uses (R262).
(Log entry 67: DESIGN CHOICE.) -/
def lingRep (repCode b : Nat) : Nat := min (2 ^ repCode) (powBelow b)

/-- N: coded bits of a payload (R242). -/
def lingN (len : Nat) : Nat := 2 * (8 * len + 22)

/-- Data symbols of a payload (R242). -/
def dataSymbols (len rep b : Nat) : Nat := ceilDiv (lingN len * rep) b

/-- Symbols of a frame: preamble, header, data. -/
def lingSymbols (len repCode rep b : Nat) : Nat := 10 + headerSymbols repCode + dataSymbols len rep b

/-- A symbol in air time: 800 µs. -/
def symbolAir : Nat := 800 * 2000

/-- The least a' ≥ a with gcd(a', p) = 1, within `n` steps. -/
def coprimeFrom (p : Nat) : Nat → Nat → Nat
  | 0, a => a
  | n + 1, a => if Nat.gcd a p = 1 then a else coprimeFrom p n (a + 1)

/-- The interleaver's a and b (R245). -/
def interleaver (p seed : Nat) : Nat × Nat :=
  (coprimeFrom p p (p / 4 + seed * 40503 % (p / 2)), seed * 977 % p)

/-- The position of stream bit k. -/
def placeOf (p seed k : Nat) : Nat := let ab := interleaver p seed; (ab.1 * k + ab.2) % p

/-- A coded stream repeated and filled to `p` positions, and placed: the bit at each position (R242, R245). -/
def placed (coded : List Nat) (p seed : Nat) : List Nat :=
  let arr := coded.toArray
  let ab := interleaver p seed
  let out := (List.range p).foldl (fun (o : Array Nat) k => o.setIfInBounds ((ab.1 * k + ab.2) % p) (arr.getD (k % coded.length) 0))
    (Array.replicate p 0)
  out.toList

/-- The bytes of a Ling header (Table 10-3). -/
def lingHeader (dir repCode len seed map active : Nat) : List Byte :=
  let h := le 1 (1 + 4 * dir + 8 * repCode) ++ le 1 (len - 1) ++ le 2 seed ++ le 4 map ++ le 4 active
  h ++ le 2 (leaCrc h)

/-- The coded bits of the header: 14 bytes and 6 tail bits. -/
def headerCoded (h : List Byte) : List Nat := lingCode (bitsMsb h ++ List.replicate 6 0)

/-- The coded bits of the data section: payload and CRC whitened, 6 tail bits (R242). -/
def dataCoded (payload : List Byte) : List Nat :=
  lingCode (bitsMsb (whiten (payload ++ le 2 (leaCrc payload))) ++ List.replicate 6 0)

/-- φ_c in units of π/32. -/
def phi (c : Nat) : Nat := (c - 26) * (c - 26) % 64

/-- One section of differential symbols: from the phases before it, the phases of each symbol by carrier, in units of π/32;
carriers outside `active` have none. -/
def diffSymbols (active map : Nat) : Nat → List Nat → List (Option Nat) → List (List (Option Nat))
  | 0, _, _ => []
  | n + 1, l, last =>
    let (row, rest) := (List.range 32).foldl (fun (acc : List (Option Nat) × List Nat) i =>
      let was := (last.getD i none).getD 0
      if !bitOn active i then (acc.1 ++ [none], acc.2)
      else if bitOn map i then
        let inc := match acc.2.getD 0 0, acc.2.getD 1 0 with
          | 0, 0 => 0
          | 0, _ => 16
          | _, 0 => 48
          | _, _ => 32
        (acc.1 ++ [some ((was + inc) % 64)], acc.2.drop 2)
      else (acc.1 ++ [some ((was + 32 * acc.2.getD 0 0) % 64)], acc.2.drop 1)) ([], l)
    row :: diffSymbols active map n rest row

/-- The phases of every symbol of a frame with its data repeated `rep` times (R239, R240). -/
def lingPhases (header payload : List Byte) (repCode rep map active seed : Nat) : List (List (Option Nat)) :=
  let p0 := (List.range 32).map fun i => some (phi (i + 26))
  let pm := (List.range 32).map fun i => some ((phi (i + 26) + 32 * (1 + bitsAt (syncmWord repCode) i 1)) % 64)
  let hs := headerSymbols repCode
  let head := diffSymbols 0xFFFFFFFF 0 hs (placed (headerCoded header) (32 * hs) 0) pm
  let b := lingB active map
  let ds := dataSymbols payload.length rep b
  let body := diffSymbols active map ds (placed (dataCoded payload) (ds * b) seed) (head.getLastD pm)
  List.replicate 8 p0 ++ List.replicate 2 pm ++ head ++ body

/-- The RepCode of a level (Table 10-4). -/
def levelRep (level : Nat) : Nat := level - 1

/-- The symbols of a downlink frame of the device. -/
def LingFrame.symbols (f : LingFrame) : List (List (Option Nat)) :=
  let rc := levelRep f.level
  lingPhases (lingHeader 0 rc f.payload.length f.seed f.map f.active) f.payload rc (lingRep rc (lingB f.active f.map)) f.map f.active f.seed

/-- Sample n at 400 kSps of a frame of amplitude A with these symbols (R238, R257): in each symbol of 320 samples the 64 of its cyclic
prefix and its 256, A cos of every active carrier's phase added up, under the linear ramp of the frame's first and last 64 samples.
(Log entry 166: DESIGN CHOICE.) -/
def lingSample (amp : Nat) (symbols : List (List (Option Nat))) (n : Nat) : Int :=
  let m := (n % 320 + 192) % 256
  let total := symbols.length * 320
  let wave := ((symbols.getD (n / 320) []).mapIdx fun i p => match p with
    | some k => (Config.dftWave 256 (((i + 26) * m + 4 * k) % 256)).1
    | none => 0).sum
  let v := roundEven 30 (amp * wave)
  let k := min n (total - 1 - n)
  if total ≤ n then 0 else if k < 64 then roundEven 7 ((2 * k + 1 : Nat) * v) else v

/-! ### State access -/

/-- A Ling tributary. -/
def State.lingTrib (s : State) (t : Nat) : LingTrib := Map.getD s.ling.tribs t {}

/-- The state with a Ling tributary set. -/
def State.setLingTrib (s : State) (t : Nat) (x : LingTrib) : State := { s with ling := { s.ling with tribs := Map.put s.ling.tribs t x } }

/-- A Ling meter. -/
def State.lingMeterSt (s : State) (slot : Nat) : LingMeterSt := Map.getD s.ling.meters slot { level := s.rd Rec.LingMeter.Level slot }

/-- The state with a Ling meter set. -/
def State.setLingMeter (s : State) (slot : Nat) (x : LingMeterSt) : State :=
  { s with ling := { s.ling with meters := Map.put s.ling.meters slot x } }

/-- The level of a meter's exchanges (R262, R263). -/
def State.lingLevel (s : State) (slot : Nat) : Nat :=
  let m := s.lingMeterSt slot
  if m.unreachable then 6 else if s.rdB Rec.LingMeter.LevelAuto slot then m.level else s.rd Rec.LingMeter.Level slot

/-- The required Es/N0 of a level in 0.1 dB (Table 10-4). -/
def levelSnr (level : Nat) : Int := [80, 50, 20, -10, -40, -70, -95].getD level 0

/-- The active carriers of a meter (R262): those not below NotchSnr in its last accepted frame, and always the 8 of highest
SNR; every carrier where no frame has been accepted. -/
def State.lingActive (s : State) (slot : Nat) : Nat :=
  let snr := (s.lingMeterSt slot).snr
  if snr.isEmpty then 0xFFFFFFFF
  else
    let at' (i : Nat) : Int := snr.getD i (-32768)
    let best := (sortBy (fun i => -(at' i)) (List.range 32)).take 8
    maskOf ((List.range 32).filter fun i => decide (s.rdS Rec.LingPolicy.NotchSnr ≤ at' i) || best.contains i)

/-- The carriers on DQPSK at level 0 (R262). -/
def State.lingMap (s : State) (slot level : Nat) : Nat :=
  let snr := (s.lingMeterSt slot).snr
  if level ≠ 0 then 0
  else maskOf ((List.range 32).filter fun i => bitOn (s.lingActive slot) i && decide (s.rdS Rec.LingPolicy.QpskMinSnr ≤ snr.getD i (-32768)) &&
    !snr.isEmpty)

/-- The phases a tributary couples to (R247). -/
def State.lingPhasesOf (s : State) (t : Nat) : List Nat :=
  let c := s.rd Rec.LingTrib.Coupling t
  if c = 3 then [0, 1, 2] else [c]

/-- The period of a phase from its last 8 crossings.
(Log entry 63: DESIGN CHOICE.) -/
def State.lingPeriod (s : State) (t p : Nat) : Nat :=
  let l := ((s.metro t).phase p).instants.take 8
  match l.head?, l.getLast? with
  | some a, some b => if b < a then (a - b) / (l.length - 1) else s.nominalAir t
  | _, _ => s.nominalAir t

/-- The first predicted crossing of a phase at or after an air time (R249, R250).
(Log entry 63: DESIGN CHOICE.) -/
def State.nextCrossing (s : State) (t p after : Nat) : Option Nat :=
  let period := s.lingPeriod t p
  (s.lastCrossing t p).map fun c => if after ≤ c.1 then c.1 - (c.1 - after) / period * period else c.1 + ceilDiv (after - c.1) period * period

/-! ### Energy (R257 to R260) -/

/-- One unit of R258 in the scale energies are kept in. -/
def lingUnit : Nat := 32 * 1023 * 1023

/-- The µs of a span that lie in buckets from `lo` on and before `hi` (1 ms buckets, air time span). -/
def spanUs (start stop lo hi : Nat) : Nat := (min stop (hi * airPerMs) - max start (lo * airPerMs)) / 2000

/-- What a frame weighs at A = 1 in buckets [lo, hi): carriers × µs. -/
def frameWeight (start head stop carriers lo hi : Nat) : Nat := 32 * spanUs start head lo hi + carriers * spanUs head stop lo hi

/-- The energy of a frame's samples before an air time by 1 ms bucket (R258): a sample s is s² / (4 092² × 0.4) units, which is 5 s² in the
scale of `lingUnit`. -/
def LingFrame.metered (f : LingFrame) (upTo : Nat) : List (Nat × Nat) :=
  let rows := f.symbols
  let stop := min f.stop upTo
  let first := f.start / airPerMs
  (List.range ((stop - 1) / airPerMs + 1 - first)).map fun i =>
    let n0 := ceilDiv ((first + i) * airPerMs - f.start) 5000
    let n1 := ceilDiv (min ((first + i + 1) * airPerMs) stop - f.start) 5000
    (first + i, ((List.range (n1 - n0)).map fun j => 5 * (lingSample f.amp rows (n0 + j)).natAbs ^ 2).sum)

/-- The energy counted on a phase in the buckets [lo, hi). -/
def LingTrib.counted (x : LingTrib) (p lo hi : Nat) : Nat :=
  ((x.energy.filter fun e => e.2.1 == p && decide (lo ≤ e.1 ∧ e.1 < hi)).map fun e => e.2.2).sum

/-- The largest A² that one window length admits over the buckets of a frame, at 97 % of its cap. -/
def LingTrib.windowA2 (x : LingTrib) (p width cap start head stop carriers : Nat) : Nat :=
  let limit := cap * lingUnit * 97 / 100
  let first := start / airPerMs
  let last := (stop - 1) / airPerMs
  ((List.range (last + 1 - first)).map fun i =>
    let hi := first + i + 1
    let w := frameWeight start head stop carriers (hi - (width + 1)) hi
    if w = 0 then 1023 * 1023 else (limit - x.counted p (hi - (width + 1)) hi) / w).foldl min (1023 * 1023)

/-- The largest A of R259 for a frame on a tributary. While the windows count as full, none.
(Log entry 66: DESIGN CHOICE.) -/
def State.lingAmp (s : State) (t start head stop carriers : Nat) : Nat :=
  let x := s.lingTrib t
  let full : Bool := match x.fullFrom with
    | some f => decide (start < f + 1001 * airPerMs)
    | none => false
  if full then 0
  else
    let a2 := ((s.lingPhasesOf t).map fun p =>
      min (x.windowA2 p 200 (s.rd Rec.LingTrib.Cap200 t) start head stop carriers)
        (x.windowA2 p 1000 (s.rd Rec.LingTrib.Cap1000 t) start head stop carriers)).foldl min (1023 * 1023)
    min (s.rd Rec.LingTrib.AmpLimit t) (isqrt a2)

/-- The energy metered on a phase in the buckets [lo, hi) until now (R258): of the frames before, and of the one on the line. -/
def State.lingMetered (s : State) (t p lo hi : Nat) : Nat :=
  (s.lingTrib t).counted p lo hi + (match (s.lingTrib t).out with
    | some f => if (s.lingPhasesOf t).contains p then
        (((f.metered s.time.air).filter fun e => decide (lo ≤ e.1 ∧ e.1 < hi)).map Prod.snd).sum else 0
    | none => 0)

/-- The metered energy of a phase in the window of `width` ms that ends now. -/
def State.windowEnergy (s : State) (t p width : Nat) : Nat :=
  let hi := s.time.air / airPerMs + 1
  s.lingMetered t p (hi - (width + 1)) hi

/-- The same in whole units. -/
def State.windowUnits (s : State) (t p width : Nat) : Nat := s.windowEnergy t p width / lingUnit

/-! ### Ending an exchange -/

/-- The causes of a Ling deferral (R271). -/
inductive LingCause where
  | slot | synth | governor | noCrossing | tributary
  deriving DecidableEq, Repr

/-- The position of a cause in the list of R271. -/
def LingCause.code : LingCause → Nat
  | .slot => 0 | .synth => 1 | .governor => 2 | .noCrossing => 3 | .tributary => 4

/-- An exchange is deferred: counted, and its poll notes the cause, numbered on from the causes of R210.
(Log entry 64: DESIGN CHOICE.) -/
def State.lingDefer (s : State) (t : Nat) (meter : Option Nat) (c : LingCause) : State :=
  let s := s.count { name := .lingDefer, a := t, b := c.code }
  match meter with
  | some m =>
    let p := s.plan m
    s.setPlan m { p with poll := p.poll.map fun (q : PendPoll) => { q with cause := some (8 + c.code) } }
  | none => s

/-- The exchange of a tributary ends at an air time, after which GapMs passes; the energy of its samples before `upTo` is counted. -/
def State.lingClose (s : State) (t endAir upTo : Nat) : State :=
  let x := s.lingTrib t
  match x.out with
  | none => s
  | some f =>
    let l := f.metered upTo
    let phases := s.lingPhasesOf t
    let s := phases.foldl (fun s p => s.count { name := .lingEnergy, a := t, b := p } ((l.map Prod.snd).sum / lingUnit)) s
    let old := s.time.air / airPerMs - 2000
    s.setLingTrib t { x with
      out := none, freeAt := endAir + s.rd Rec.LingPolicy.GapMs * airPerMs,
      energy := (x.energy.filter fun e => decide (old ≤ e.1)) ++ l.flatMap fun e => phases.map fun p => (e.1, p, e.2) }

/-- A frame on the line is ramped to zero at once (R252, R260, R264): it ends ABORTED and its exchange is deferred; the samples it does not
send count no energy. An exchange whose frame has ended runs its answer windows to their end.
(Log entry 68: DEDUCED.) -/
def State.lingAbort (s : State) (t : Nat) (c : LingCause) : State :=
  let x := s.lingTrib t
  match x.out with
  | none => s
  | some f =>
    if f.stop ≤ s.time.air then s
    else
      let s := (s.lingClose t s.time.air s.time.air).count { name := .lingRx, a := t, b := 5 }
      let s := if f.kind = 1 then s.tokenUnanswered f.meter f.tag else s
      s.lingDefer t (if f.kind = 2 then none else some f.meter) c

/-- A miss of an exchange launched to a meter (R262, R263). -/
def State.lingMissed (s : State) (t : Nat) (f : LingFrame) : State :=
  let m := s.lingMeterSt f.meter
  let s := s.countMeter f.meter 12
  let six := if f.level = 6 then m.misses6 + 1 else 0
  let out := decide (s.rd Rec.LingPolicy.UnreachMisses ≤ six) && !m.unreachable
  let p := s.plan f.meter
  let after := s.time.air + s.rd Rec.AirPolicy.RetryDelayS * 1000 * airPerMs
  let s := s.setPlan f.meter { p with
    misses := p.misses + 1, poll := p.poll.map fun (q : PendPoll) => { q with notBefore := after } }
  let s := s.setLingMeter f.meter { m with
    misses := m.misses + 1, misses6 := six, answered := none, unreachable := m.unreachable || out, due := false,
    lastPollS := if out then s.nowS else m.lastPollS,
    level := if s.rdB Rec.LingMeter.LevelAuto f.meter then min 6 (m.level + 1) else m.level }
  let s := if f.kind = 1 then s.tokenUnanswered f.meter f.tag else s
  if out then (s.countMeter f.meter 13).raise .lingMeterUnreachable (s.meterTenant f.meter) [f.meter, t] else s

/-! ### Transmit states (R264) -/

/-- The transmit unit of a tributary. -/
def State.lingUnitOn (s : State) (t : Nat) : Bool := s.unitOn (.lingTx t)

/-- Whether a tributary is up without a coupling fault. -/
def State.lingFit (s : State) (t : Nat) : Bool :=
  s.regionOn 6 && s.tribUp t && (match s.tribLane t with
    | some n => !bitOn (s.trib n (t % 256)).alarms 3
    | none => false)

/-- A tributary that goes down, or shows a coupling fault, while ON returns to STARTING, and its frame is ramped down. -/
def State.lingUpdate (s : State) (t : Nat) : State :=
  if s.lingUnitOn t ∧ !s.lingFit t then
    let s := s.lingAbort t .tributary
    s.setUnit (.lingTx t) { s.unit (.lingTx t) with st := .starting }
  else s

/-- The device or a command enables Ling transmit, with a reason: 0 command, 1 boot. -/
def State.lingEnable (s : State) (t reason : Nat) : Status × State :=
  let u := s.unit (.lingTx t)
  let (u', st) := enableUnit u
  let s := s.setUnit (.lingTx t) u'
  (st, if u.st = .off ∧ u'.st = .starting then s.setLingTrib t { s.lingTrib t with reason := reason } else s)

/-- The transmit reaches its end state (R41): `ling.tx_stopped`; an enable held starts it again with the reason deferred. -/
def State.lingEnded (s : State) (t : Nat) : State :=
  let s := s.raise .lingTxStopped 0 [t]
  if (s.unit (.lingTx t)).deferred then s.setLingTrib t { s.lingTrib t with reason := 2 } else s

/-- A STARTING transmit meets its conditions and enters ON. -/
def execLingTxReady (trib : Nat) (s : State) : Out :=
  if s.unitSt (.lingTx trib) = .starting ∧ s.lingFit trib ∧ s.zoneValid trib then
    .next ((s.setUnit (.lingTx trib) { s.unit (.lingTx trib) with st := .on, deferred := false }).raise .lingTxStarted 0
      [trib, (s.lingTrib trib).reason])
  else .next s

/-- At a claim or a line region restart: exchanges in flight are lost and re-planned, and the windows count as full
(R265). -/
def State.lingRestart (s : State) : State :=
  { s with ling := { s.ling with
    claimAir := s.time.air,
    tribs := Map.mapV s.ling.tribs fun _ (x : LingTrib) => { x with out := none, fullFrom := some s.time.air },
    meters := Map.mapV s.ling.meters fun _ (m : LingMeterSt) => { m with answered := none, cmd := none } } }

/-- At boot transmit is enabled on every tributary whose TxAuto is 1 (R265). -/
def State.lingBoot (s : State) : State :=
  ((Map.keys s.records).filter fun k => k.1 == Rec.LingTrib.TxAuto.rid && s.rdB Rec.LingTrib.TxAuto k.2).foldl
    (fun s k => (s.lingEnable k.2 1).2) s

/-- ZcTimeoutMs passes without a valid crossing (R400, R403): the zone or phase times out; a zone that leaves VALID suspends
Ling (R252). -/
def execZcTimeout (trib phase : Nat) (s : State) : Out :=
  if !s.lineHere ∨ s.tributaries ≤ trib ∨ 3 ≤ phase then .next s
  else
    let s := s.zcExpire trib phase
    .next (if (s.metro trib).zone = .noCrossing then s.lingAbort trib .noCrossing else s)

/-! ### Launch (R248, R249, R253, R259, R261) -/

/-- What is to be launched: 0 a POLL or 1 a COMMAND to a meter, by priority and due time. -/
structure LingDue where
  priority : Nat
  due : Nat
  meter : Nat
  kind : Nat
  deriving DecidableEq, Repr

/-- The Ling meters of a tributary. -/
def State.lingMetersOf (s : State) (t : Nat) : List Nat :=
  ((Map.keys s.records).filter fun k => k.1 == Rec.LingMeter.Active.rid && s.rdB Rec.LingMeter.Active k.2 &&
    s.rd Rec.LingMeter.Tributary k.2 == t && s.planned k.2).map Prod.snd

/-- What a meter has due: its pending poll (while unreachable only the one of UnreachIntervalS), then a COMMAND for items that
wait.
(Log entry 64: DESIGN CHOICE.) -/
def State.lingDueOf (s : State) (slot : Nat) : Option LingDue :=
  let m := s.lingMeterSt slot
  let p := s.plan slot
  let prio := s.rd Rec.MeterPlan.Priority slot
  if m.answered.isSome then none
  else if m.unreachable then (if m.due then some ⟨(p.poll.map PendPoll.priority).getD prio, (p.poll.map PendPoll.due).getD s.legalS, slot, 0⟩ else none)
  else match p.poll with
    | some q => if q.held ∨ s.time.air < q.notBefore then none else some ⟨q.priority, q.due, slot, 0⟩
    | none =>
      if m.cmdAfter ≤ s.time.air ∧ ((s.commandItems slot 229).2 ≠ [] ∨ m.cmd.isSome) then some ⟨prio, s.legalS, slot, 1⟩ else none

/-- The exchanges due on a tributary, first to launch first (R261). -/
def State.lingQueue (s : State) (t : Nat) : List LingDue :=
  sortBy (fun (d : LingDue) => ((d.priority * 2 ^ 64 + d.due : Nat) : Int)) ((s.lingMetersOf t).filterMap s.lingDueOf)

/-- The receive channels a lane's tributaries hold. -/
def State.lingHeld (s : State) (n : Nat) : Nat :=
  ((s.ling.tribs.filter fun e => e.2.out.isSome && s.tribLane e.1 == some n).map fun e => popCount 4 (s.rd Rec.LingTrib.RxPhases e.1)).sum

/-- The synthesis cells Ling holds at an air time. -/
def State.lingSynth (s : State) : Nat :=
  (s.ling.tribs.filter fun e => (e.2.out.map fun f => decide (s.time.air < f.stop)).getD false).length

/-- Why a tributary cannot launch now, if it cannot: no transmit, no crossings, no receive channel, no synthesis cell. -/
def State.lingBlocked (s : State) (t : Nat) : Option LingCause :=
  match s.tribLane t with
  | none => some .tributary
  | some n =>
    if !s.lingUnitOn t then some .tributary
    else if !s.zoneValid t then some .noCrossing
    else if s.lingCapacity n < s.lingHeld n + popCount 4 (s.rd Rec.LingTrib.RxPhases t) then some .slot
    else if s.rd Rec.LingPolicy.LingSynthMax ≤ s.lingSynth then some .synth
    else none

/-- `ling.slots_short` with its lane and resource. -/
def State.lingShort (s : State) (t : Nat) (c : LingCause) : State :=
  match c, s.tribLane t with
  | .slot, some n => s.raiseEvery 60000 .lingSlotsShort (2 * n) 0 [n, 0]
  | .synth, some n => s.raiseEvery 60000 .lingSlotsShort (2 * n + 1) 0 [n, 1]
  | _, _ => s

/-- A new Seed, different from the tributary's previous one (R246): a draw that equals it is moved on by one.
(Log entry 65: DESIGN CHOICE.) -/
def State.lingSeed (s : State) (t : Nat) : Nat × State :=
  let (v, s) := s.draw 16
  (if (s.lingTrib t).lastSeed = some v then (v + 1) % 65536 else v, s)

/-- A frame put on the line where a crossing is known, a synthesis cell is free and the governor admits it (R248, R249, R259),
or why it is not: the payload is the Lea frame without its CRC.
(Log entry 63: DESIGN CHOICE.) -/
def State.lingPut (s : State) (t : Nat) (kind meter tag level delay : Nat) (payload : List Byte) (carried : Carried) :
    Except LingCause State :=
  let x := s.lingTrib t
  let call := decide (kind = 2)
  let active := if call then 0xFFFFFFFF else s.lingActive meter
  let map := if call then 0 else s.lingMap meter level
  let b := lingB active map
  let rc := levelRep level
  let rep := lingRep rc b
  let off := s.rd Rec.LingTrib.TxOffsetUs t * 2000
  match s.nextCrossing t (s.rd Rec.LingTrib.RefPhase t) (max s.time.air x.freeAt - off) with
  | none => .error .noCrossing
  | some c =>
    let start := c + off
    let head := start + (10 + headerSymbols rc) * symbolAir
    let stop := start + lingSymbols payload.length rc rep b * symbolAir
    let amp := s.lingAmp t start head stop (popCount 32 active)
    if s.synthCells ≤ s.synthPeak start (stop - start) then .error .synth
    else if amp < s.rd Rec.LingTrib.MinTxAmp t then .error .governor
    else
      let e := stop + turnAir delay
      let phase := if call then 0 else s.rd Rec.LingMeter.Phase meter
      let ps := if phase = 0 then [1, 2, 3] else [phase]
      let ws := ps.filterMap fun p => (s.nextCrossing t (p - 1) e).map fun a => (p, a)
      let cycles := if call then s.rd Rec.LingTrib.AlarmSpread t else 1
      let period := s.lingPeriod t (s.rd Rec.LingTrib.RefPhase t)
      let last := (ws.map Prod.snd).foldl max e + (cycles - 1) * period + s.rd Rec.LingPolicy.SearchUs * 2000
      let (seed, s) := s.lingSeed t
      let f : LingFrame :=
        { kind := kind, meter := meter, tag := tag, level := level, amp := amp, start := start, stop := stop, closeAt := last,
          active := active, map := map, seed := seed, payload := payload, windows := ws, period := period, cycles := cycles,
          carried := carried }
      let s := s.setLingTrib t { x with out := some f, lastSeed := some seed }
      .ok (s.count { name := .lingFrames, a := t, b := kind })

/-- A frame that is turned away: deferred under its cause, and reported (R248, R259). -/
def State.lingTurned (s : State) (t : Nat) (meter : Option Nat) (c : LingCause) : State :=
  let s := (s.lingDefer t meter c).lingShort t c
  if c = .governor then s.raiseEvery hourMs .lingGovernorDefer t 0 [t, s.rd Rec.LingTrib.MinTxAmp t] else s

/-- A POLL to a meter. -/
def State.lingPoll (s : State) (t slot : Nat) : State :=
  let k := s.planClass slot
  let delay := s.rd Rec.MeterClass.DelayCode k
  let (tag, s') := s.drawTag
  let req := ((s.plan slot).poll.map PendPoll.request).getD (s.rd Rec.MeterClass.Request k)
  let frame := pollFrame (s.rd Rec.MeterSec.Address slot) (s.rd Rec.Pair.RegionNumber) tag req (respCtlOf 0 false delay)
  match s'.lingPut t 0 slot tag (s.lingLevel slot) delay (frame.take 16) {} with
  | .error c => s.lingTurned t (some slot) c
  | .ok s =>
    let m := s.lingMeterSt slot
    (s.setLingMeter slot { m with due := false, lastPollS := if m.unreachable then s.nowS else m.lastPollS }).tagLaunched slot tag

/-- A COMMAND to a meter (R174, R253): prepared with its counter's commit first, and sent once that has committed and what it
carries is still due. A safe command passes the check of R608.
(Log entry 64: DESIGN CHOICE.) -/
def State.lingCommand (s : State) (t slot : Nat) : State :=
  let delay := s.rd Rec.MeterClass.DelayCode (s.planClass slot)
  let wait := s.time.air + s.rd Rec.AirPolicy.RetryDelayS * 1000 * airPerMs
  let s := match (s.lingMeterSt slot).cmd with
    | some _ => s
    | none =>
      let (f, s) := s.makeCommand slot 255 0 delay
      s.setLingMeter slot { s.lingMeterSt slot with cmd := f, cmdAfter := if f.isSome then 0 else wait }
  match (s.lingMeterSt slot).cmd with
  | none => s
  | some f =>
    if !s.posCommitted f.position then s
    else if !s.stillDue slot f.carried then s.setLingMeter slot { s.lingMeterSt slot with cmd := none }
    else match s.lingPut t 1 slot f.tag (s.lingLevel slot) delay (f.frame.take (f.frame.length - 2)) f.carried with
      | .error c => s.lingTurned t none c
      | .ok s' =>
        let stop := (((s'.lingTrib t).out).map LingFrame.stop).getD 0
        let (go, s') := match f.carried.safe with
          | some _ => s'.lockSafe slot stop
          | none => (true, s')
        if !go then s.setLingMeter slot { s.lingMeterSt slot with cmd := none }
        else
          let s := s'.setLingMeter slot { s'.lingMeterSt slot with cmd := none, cmdAfter := wait }
          (s.tagLaunched slot f.tag).carriedSent slot f.tag f.carried

/-- The first exchange due on a tributary starts at the predicted crossing (R249), or is deferred; nothing is launched before
max(PlanLeadMs, 1 s) after the claim (R265). -/
def execLingLaunch (trib : Nat) (s : State) : Out :=
  let x := s.lingTrib trib
  let from' := s.ling.claimAir + max (s.rd Rec.AirPolicy.PlanLeadMs) 1000 * airPerMs
  if !s.lineHere ∨ s.tributaries ≤ trib ∨ x.out.isSome ∨ !s.serving ∨ s.time.air < from' then .next s
  else match s.lingQueue trib with
    | [] => .next s
    | d :: _ =>
      match s.lingBlocked trib with
      | some c => .next (((s.lingDefer trib (if d.kind = 0 then some d.meter else none) c).lingShort trib c).carry (.meter d.meter))
      | none => .next ((if d.kind = 0 then s.lingPoll trib d.meter else s.lingCommand trib d.meter).carry (.meter d.meter))

/-- AlarmCallS expires and an alarm call is sent at level 6 (R256): a POLL to the address of all ones with Request 0.
(Log entry 65: DESIGN CHOICE.) -/
def execLingAlarmCall (trib : Nat) (s : State) : Out :=
  let x := s.lingTrib trib
  let every := s.rd Rec.LingTrib.AlarmCallS trib
  let from' := s.ling.claimAir + max (s.rd Rec.AirPolicy.PlanLeadMs) 1000 * airPerMs
  if !s.lineHere ∨ s.tributaries ≤ trib ∨ every = 0 ∨ s.nowS < x.lastCallS + every ∨ x.out.isSome ∨ !s.serving ∨ s.time.air < from' then .next s
  else match s.lingBlocked trib with
    | some c => .next ((s.lingDefer trib none c).lingShort trib c)
    | none =>
      let (tag, s') := s.drawTag
      let frame := pollFrame (2 ^ 64 - 1) (s.rd Rec.Pair.RegionNumber) tag 0 (respCtlOf 0 false 0)
      match s'.lingPut trib 2 0xFFFFFFFF tag 6 0 (frame.take 16) {} with
      | .error c => .next (s.lingTurned trib none c)
      | .ok s => .next (s.setLingTrib trib { s.lingTrib trib with lastCallS := s.nowS })

/-- UnreachIntervalS expires: an unreachable meter's poll at level 6 is due (R263). -/
def execLingUnreachPoll (slot : Nat) (s : State) : Out :=
  let m := s.lingMeterSt slot
  if m.unreachable ∧ !m.due ∧ m.lastPollS + s.rd Rec.LingPolicy.UnreachIntervalS ≤ s.nowS ∧ s.lineHere then
    .next ((s.setLingMeter slot { m with due := true }).carry (.meter slot))
  else .next s

/-- The metered energy of a governor window reaches its cap during a frame (R260): window 0 is of 200 ms, 1 of 1 s. -/
def execLingGovernorCut (trib phase window : Nat) (s : State) : Out :=
  let cap := if window = 0 then s.rd Rec.LingTrib.Cap200 trib else s.rd Rec.LingTrib.Cap1000 trib
  match (s.lingTrib trib).out with
  | none => .next s
  | some f =>
    if s.time.air < f.start ∨ f.stop ≤ s.time.air ∨ 1 < window ∨ s.windowEnergy trib phase (if window = 0 then 200 else 1000) < cap * lingUnit ∨
        !(s.lingPhasesOf trib).contains phase then .next s
    else .next (((s.lingAbort trib .governor).count { name := .lingCuts, a := trib }).raise .lingGovernorCut 0 [trib, phase, window])

/-! ### Answers (R250, R251, R254, R255) -/

/-- The answer windows close without a detection: NO_FRAME, a miss, or the end of an alarm call.
(Log entry 68: DEDUCED.) -/
def execLingAnswerWindowEnd (trib : Nat) (s : State) : Out :=
  match (s.lingTrib trib).out with
  | none => .next s
  | some f =>
    if s.time.air < f.closeAt then .next s
    else
      let s := s.lingClose trib f.closeAt f.stop
      .next (if f.kind = 2 then s else (((s.count { name := .lingRx, a := trib, b := 1 }).lingMissed trib f)).carry (.meter f.meter))

/-- The phase whose search window holds an answer's start, if one does.
(Log entry 68: DEDUCED.) -/
def State.lingMatched (s : State) (f : LingFrame) (start : Nat) : Option Nat :=
  let reach := s.rd Rec.LingPolicy.SearchUs * 2000
  (f.windows.find? fun w => (List.range f.cycles).any fun k => decide (((start : Int) - (w.2 + k * f.period : Nat)).natAbs ≤ reach)).map
    Prod.fst

/-- The time from the nearest rising crossing of a phase to an air instant in µs, 0 where none is known. -/
def State.crossingUs (s : State) (t p at' : Nat) : Int :=
  match leastBy (fun (a : Nat) => ((at' : Int) - (a : Int)).natAbs) ((s.metro t).phase p).instants with
  | some a => divRound ((at' : Int) - (a : Int)) 2000
  | none => 0

/-- The outcome of a received frame and its payload (R254): `header` is the 14 bytes received, `air` the decoded payload and
CRC before de-scrambling, `repCode` what the SYNCM symbols give. The Rep of a header is at most B under the rule of R262, so that
of R243's two conditions the active carriers' can fail.
(Log entry 67: DESIGN CHOICE.) -/
def lingCheck (repCode : Nat) (header air : List Byte) : Nat × List Byte :=
  let rc := bitsAt (leAt header 0 1) 3 3
  let active := leAt header 8 4
  let len := leAt header 1 1 + 1
  let p := whiten air
  let f := p.take len
  if header.length ≠ 14 ∨ leAt header 12 2 ≠ leaCrc (header.take 12) ∨ rc ≠ repCode then (2, [])
  else if popCount 32 active < 8 then (3, [])
  else if air.length < len + 2 ∨ leaCrc f ≠ leAt p len 2 then (2, [])
  else
    let l := leAt f 0 1
    if l + 1 ≠ len ∨ l < 21 then (3, [])
    else match leaMinL (leaType f) with
      | none => (3, [])
      | some m => if leaType f < 8 ∨ l < m then (3, []) else (0, f)

/-- The descriptor of a Ling reception (Table 10-5). `snr` is the combined SNR, that of the four phases, and that of the 32
carriers. -/
def State.lingDesc (s : State) (t : Nat) (f : LingFrame) (outcome matched len start stop : Nat) (header : List Byte) (snr : List Int) : List Byte :=
  let at' (i : Nat) : Nat := ofSigned 16 (snr.getD i 0)
  let active := leAt header 8 4
  let rep := lingRep (bitsAt (leAt header 0 1) 3 3) (lingB active (leAt header 4 4))
  let weak := maskOf ((List.range 32).filter fun i => bitOn active i && decide (snr.getD (5 + i) 0 < s.rdS Rec.LingPolicy.NotchSnr))
  le 1 1 ++ le 1 (outcome + 16 * bit (decide (f.kind = 2))) ++ le 1 (f.level + 8 * matched) ++ le 1 (s.rd Rec.LingTrib.RxPhases t) ++
    le 2 t ++ le 2 len ++ le 8 start ++ le 8 stop ++ le 2 (at' 0) ++
    ((List.range 4).flatMap fun p => le 2 (if bitOn (s.rd Rec.LingTrib.RxPhases t) p then at' (1 + p) else 0)) ++
    ((List.range 3).flatMap fun p => le 2 (ofSigned 16 (s.crossingUs t p start))) ++ le 4 active ++ le 4 weak ++
    le 4 (if f.kind = 2 then 0xFFFFFFFF else f.meter) ++ le 2 (leAt header 2 2) ++ le 1 (max 1 rep) ++ le 9 0

/-- PhaseMatched of a polled answer learned where it differs from the configured phase or that is unknown (R251).
(Log entry 68: DEDUCED.) -/
def State.lingLearn (s : State) (f : LingFrame) (matched : Nat) : State :=
  if f.kind = 2 ∨ matched = s.rd Rec.LingMeter.Phase f.meter then s
  else (s.setLingMeter f.meter { s.lingMeterSt f.meter with phase := matched }).raise .lingPhaseLearned (s.meterTenant f.meter) [f.meter, matched]

/-- A received Ling frame is checked and handed on with its descriptor (R254, R255). A polled answer ends its exchange; an
alarm call stays open to the end of its windows. A failed answer to a poll is a miss.
(Log entry 68: DEDUCED.) -/
def execLingFrameDecoded (trib startAir endAir repCode : Nat) (header payload : List Byte) (snr : List Int) (s : State) : Out :=
  match (s.lingTrib trib).out with
  | none => .next s
  | some f =>
    match s.lingMatched f startAir with
    | none => .next s
    | some matched =>
      let (o, fr) := lingCheck repCode header payload
      let s := s.count { name := .lingRx, a := trib, b := o }
      let d := s.lingDesc trib f o matched fr.length startAir endAir header snr
      let s := if f.kind = 2 then s else s.lingClose trib endAir f.stop
      if o ≠ 0 then .next (if f.kind = 2 then s else s.lingMissed trib f)
      else
        let s := s.lingLearn f matched
        let s := if f.kind = 2 then s else
          s.setLingMeter f.meter { s.lingMeterSt f.meter with
            answered := some f.tag, snrAnswer := snr.getD 0 0, snrCarriers := (List.range 32).map fun i => snr.getD (5 + i) (-32768) }
        .next { s with rx := { s.rx with
          toSecurity := s.rx.toSecurity ++ [{ frame := fr, desc := d, mode := 0, origin := if f.kind = 2 then 4 else 3,
                                              hint := if f.kind = 2 then 0xFFFFFFFF else f.meter, startAir := startAir, endAir := endAir,
                                              trib := some trib, level := f.level }] } }

/-- Security accepts a Ling frame of a meter (R193, R262, R263): misses end, the level may step down, the answered poll is done,
and an ALARM raises the meter's pending poll with Priority 0 (R256). -/
def State.lingAccepted (s : State) (slot level type tag : Nat) : State :=
  let m := s.lingMeterSt slot
  let mine := decide (m.answered = some tag) && type != 10
  let p := s.plan slot
  let down := mine && s.rdB Rec.LingMeter.LevelAuto slot && decide (levelSnr level + s.rd Rec.LingPolicy.StepUpDb ≤ m.snrAnswer)
  let poll := match p.poll with
    | some q => if mine ∧ type = 8 then none else if type = 10 then some { q with priority := 0 } else some q
    | none => if type = 10 then some { due := s.legalS, request := s.rd Rec.MeterClass.Request (s.planClass slot), priority := 0 } else none
  let s := s.setPlan slot { p with misses := 0, poll := poll }
  let s := if mine ∧ type = 8 ∧ (p.poll.map PendPoll.commanded).getD false then s.raise .airPollDone (s.meterTenant slot) [slot, 0] else s
  let s := s.setLingMeter slot { m with
    misses := 0, misses6 := 0, unreachable := false, due := false, answered := if mine then none else m.answered,
    level := if down then m.level - 1 else m.level, snr := if mine then m.snrCarriers else m.snr }
  let s := if m.unreachable then s.raise .lingMeterReachable (s.meterTenant slot) [slot, s.lingLevel slot] else s
  let f := s.floodMeter slot
  if type = 9 ∧ f.tag = some tag then
    { s with fl := { s.fl with meters := Map.put s.fl.meters slot { f with due := false, tag := none } } } else s

/-- Security ends a Ling answer without accepting it: its poll may be launched again. -/
def State.lingRefused (s : State) (slot : Nat) : State :=
  let m := s.lingMeterSt slot
  if m.answered.isSome then s.setLingMeter slot { m with answered := none } else s

/-! ### Commands (Table 10-10) -/

/-- LING.TX_ENABLE. -/
def runLingTxEnable (t : Nat) (c : Caller) (s : State) : Reply × State :=
  gated s [(c.isOperator, .refusedRole), (c.slots 1, .badLength), (isTributary t, .badArgument), (s.lineHere, .absentUnit), (decide (t < s.tributaries), .absentCapacity)]
    fun s => let (st, s) := s.lingEnable t 0; ({ status := st }, s)

def execLingTxEnable (ch trib : Nat) (s : State) : Out := .next (s.command ch .lingTxEnable (runLingTxEnable trib))

/-- LING.TX_DISABLE: a frame on the line is ramped down and its exchange deferred. -/
def runLingTxDisable (t : Nat) (c : Caller) (s : State) : Reply × State :=
  gated s [(c.isOperator, .refusedRole), (c.slots 1, .badLength), (isTributary t, .badArgument), (s.lineHere, .absentUnit), (decide (t < s.tributaries), .absentCapacity)]
    fun s =>
      let s := s.lingAbort t .tributary
      let (u, st) := disableUnit s.time.ms (s.unit (.lingTx t))
      ({ status := st }, s.setUnit (.lingTx t) u)

def execLingTxDisable (ch trib : Nat) (s : State) : Out := .next (s.command ch .lingTxDisable (runLingTxDisable trib))

/-- LING.STATUS_READ: state, held enable, crossing state, per phase the 200 ms and 1 s energies, queue depth, channels. -/
def readLingStatus (t : Nat) (c : Caller) (s : State) : Reply :=
  gatedRead (s.tribChecks c t 1)
    { status := .done, slots :=
        [(s.unitSt (.lingTx t)).code, bit (decide (s.unitSt (.lingTx t) = .stopping true)), (s.metro t).zone.code] ++
        ([0, 1, 2].flatMap fun p => [s.windowUnits t p 200, s.windowUnits t p 1000]) ++
        [(s.lingQueue t).length, if (s.lingTrib t).out.isSome then popCount 4 (s.rd Rec.LingTrib.RxPhases t) else 0] }

def execLingStatusRead (ch trib : Nat) (s : State) : Out := .next (s.readCommand ch .lingStatusRead (readLingStatus trib))

/-- LING.METER_READ: level, Map, Active, 32 SNRs, learned phase, misses, unreachable. -/
def readLingMeter (slot : Nat) (c : Caller) (s : State) : Reply :=
  let m := s.lingMeterSt slot
  gatedRead [(c.isObserver && s.sees c (s.meterTenant slot), .refusedRole), (c.slots 1, .badLength), (isMeterSlot slot, .badArgument), (s.lineHere, .absentUnit),
      (s.meterHere slot, .absentCapacity), (s.lingMeter slot, .lingNotAssigned)]
    { status := .done, slots :=
        [s.lingLevel slot, s.lingMap slot (s.lingLevel slot), s.lingActive slot] ++
        ((List.range 32).map fun i => slotOpt ((m.snr[i]?).map slotOf)) ++ [m.phase, m.misses, bit m.unreachable] }

def execLingMeterRead (ch slot : Nat) (s : State) : Out := .next (s.readCommand ch .lingMeterRead (readLingMeter slot))

/-- LING.POLL_NOW. -/
def runLingPollNow (slot request priority : Nat) (c : Caller) (s : State) : Reply × State :=
  gated s [(c.isOperator, .refusedRole), (c.slots 3, .badLength), (decide (request ≤ 0x1F ∧ priority ≤ 3), .badArgument),
      (isMeterSlot slot, .badArgument), (s.lineHere, .absentUnit), (s.meterHere slot, .absentCapacity), s.notReleasing (s.meterTenant slot), (s.lingMeter slot, .lingNotAssigned)] fun s =>
    let p := s.plan slot
    let q : PendPoll := match p.poll with
      | some q => { q with request := q.request ||| request, priority := min q.priority priority, commanded := true }
      | none => { due := s.legalS, request := request, priority := priority, commanded := true }
    ({ status := .deferred }, ((s.setPlan slot { p with poll := some q }).journalPlan slot [0, q.due]).carry (.meter slot))

def execLingPollNow (ch slot request priority : Nat) (s : State) : Out :=
  .next (s.command ch .lingPollNow (runLingPollNow slot request priority))

/-- LING.FRAME_BUILD: the header, the data position of every stream bit in 3 bytes, the phase of each symbol and carrier in
units of π/32 (0xFF: not used), and the duration in µs; cut at the largest body of R56.
(Log entry 67: DESIGN CHOICE.) -/
def readLingFrameBuild (dir repCode map active seed : Nat) (payload : List Byte) (c : Caller) (s : State) : Reply :=
  let b := lingB active map
  let p := dataSymbols payload.length (2 ^ repCode) b * b
  let h := lingHeader dir repCode payload.length seed map active
  let ab := interleaver p seed
  let sym := lingPhases h payload repCode (2 ^ repCode) map active seed
  gatedRead [(c.isService, .refusedRole), (c.body.length == 40 + payload.length, .badLength),
      (decide (dir ≤ 1 ∧ repCode ≤ 5 ∧ map < 2 ^ 32 ∧ active < 2 ^ 32 ∧ seed < 65536), .badArgument), (s.lineHere, .absentUnit),
      (decide (16 ≤ payload.length ∧ payload.length ≤ 256), .lingLength), (decide (8 ≤ popCount 32 active), .lingMap),
      (decide (2 ^ repCode ≤ b), .lingLength)]
    { status := .done, data := (h ++ le 8 p ++ (List.range p).flatMap (fun k => le 3 ((ab.1 * k + ab.2) % p)) ++ le 8 sym.length ++
        sym.flatMap (fun r => r.flatMap fun x => le 1 (x.getD 0xFF)) ++ le 8 (800 * sym.length)).take 262144 }

def execLingFrameBuild (ch dir repCode map active seed : Nat) (payload : List Byte) (s : State) : Out :=
  .next (s.readCommand ch .lingFrameBuild (readLingFrameBuild dir repCode map active seed payload))

/-- LING.COUNTERS_READ. -/
def readLingCounters (target : Nat) (c : Caller) (s : State) : Reply :=
  let k (x : CtrName) (b : Nat) : Nat := s.ctr { name := x, a := target, b := b }
  let slot := target % 2 ^ 31
  let meter := bitOn target 31
  gatedRead [(c.isObserver && (!meter || s.sees c (s.meterTenant slot)), .refusedRole), (c.slots 1, .badLength),
      (if meter then isMeterSlot slot else isTributary target, .badArgument), (s.lineHere, .absentUnit),
      (if meter then s.meterHere slot else decide (target < s.tributaries), .absentCapacity)]
    { status := .done, slots :=
        if meter then [12, 13].map fun j => Map.getD (s.meter slot).counts j 0
        else (List.range 3).map (k .lingFrames) ++ (List.range 6).map (k .lingRx) ++ (List.range 5).map (k .lingDefer) ++
          (List.range 3).map (k .lingEnergy) ++ [k .lingCuts 0] }

def execLingCountersRead (ch target : Nat) (s : State) : Out := .next (s.readCommand ch .lingCountersRead (readLingCounters target))

/-! ### Records (R267 to R269) -/

/-- The Ling tributary record (R267). -/
def ruleLingTrib : RecordRule where
  writer _ c _ _ := c.isOperator
  absent s i _ := if !s.lineHere then some .absentUnit else if s.tributaries ≤ i then some .absentCapacity else none
  check s _ i old b :=
    if (Rec.LingTrib.Coupling.of old ≠ Rec.LingTrib.Coupling.of b ∨ Rec.LingTrib.RxPhases.of old ≠ Rec.LingTrib.RxPhases.of b) ∧
        s.unitSt (.lingTx i) ≠ .off then some .refusedState else none

/-- The Ling meter record (R268): with LevelAuto 1 it sets the starting level. -/
def ruleLingMeter : RecordRule where
  writer _ c _ _ := c.isOperator
  absent s i b := if !s.lineHere then some .absentUnit
    else if !s.meterHere i ∨ s.tributaries ≤ Rec.LingMeter.Tributary.of b then some .absentCapacity else none
  blames s i _ := if s.lineHere && s.meterHere i then some Rec.LingMeter.Tributary else none
  effect s _ i _ b :=
    if Rec.LingMeter.LevelAuto.on b then s.setLingMeter i { s.lingMeterSt i with level := Rec.LingMeter.Level.of b } else s

/-- The Ling policy record (R269). -/
def ruleLingPolicy : RecordRule where
  writer _ c _ _ := c.isOperator
  absent s _ _ := if s.lineHere then none else some .absentUnit

def execLingTributaryRecord (tenant inst : Nat) (body : List Byte) (s : State) : Out :=
  .next (s.applyRecord ruleLingTrib Schema.LingTrib tenant inst body)

def execLingMeterRecord (tenant inst : Nat) (body : List Byte) (s : State) : Out :=
  .next (s.applyRecord ruleLingMeter Schema.LingMeter tenant inst body)

def execLingPolicyRecord (tenant inst : Nat) (body : List Byte) (s : State) : Out :=
  .next (s.applyRecord ruleLingPolicy Schema.LingPolicy tenant inst body)

end Sys2Proof.Machine
end

