-- ==== Sys2Proof/Machine/Wmbus.lean ====
section
/-! DEFINITION. Chapter 11: what stages 1 and 6 read and decrypt of a wireless M-Bus frame (R273, R276, R277, R286). The field
layouts and key derivations are those of EN 13757-4 and EN 13757-7, which the spec names and does not print (PRESUMED,
assumption 71). A frame is L through the last data byte, block CRCs removed (R230). -/

namespace Sys2Proof.Machine

open Sys2Proof

/-- The C-fields of a frame sent by a meter.
(Log entry 71: PRESUMED.) -/
def wmFromMeter (c : Nat) : Bool :=
  [0x44, 0x46, 0x47, 0x48, 0x00, 0x10, 0x20, 0x30, 0x08, 0x18, 0x28, 0x38].contains c

/-- The authentication and fragmentation layer of a frame: where it starts and ends, whether it marks one fragment of several,
its message control field, counter and MAC. -/
structure Afl where
  frag : Bool
  mcl : Option Nat
  counter : Option Nat
  mac : Option (List Byte)
  ml : Option Nat
  deriving DecidableEq, Repr

/-- A parsed wireless M-Bus frame: AFL, the transport layer's start, its address if it has a long header, access number,
configuration field, and where its data start. -/
structure Wm where
  afl : Option Afl
  tpl : Nat
  address : Nat
  acc : Nat
  cf : Nat
  data : Nat
  deriving DecidableEq, Repr

/-- MAC bytes of an authentication type. -/
def macBytes (at' : Nat) : Nat := [0, 0, 0, 2, 4, 8, 12, 16].getD at' 0

/-- The AFL that starts after its CI at `p`.
(Log entry 71: PRESUMED.) -/
def readAfl (f : List Byte) (p : Nat) : Afl :=
  let fcl := leAt f (p + 1) 2
  let q := p + 3
  let (mcl, q) := if bitOn fcl 13 then (some (leAt f q 1), q + 1) else (none, q)
  let q := if bitOn fcl 9 then q + 2 else q
  let (ctr, q) := if bitOn fcl 11 then (some (leAt f q 4), q + 4) else (none, q)
  let n := macBytes ((mcl.getD 0) % 16)
  let (mac, q) := if bitOn fcl 10 then (some (slice f q n), q + n) else (none, q)
  { frag := bitOn fcl 14 || decide (1 < fcl % 256), mcl := mcl, counter := ctr, mac := mac,
    ml := if bitOn fcl 12 then some (leAt f q 2) else none }

/-- A frame parsed.
(Log entry 71: PRESUMED.) -/
def readWm (f : List Byte) : Wm :=
  let ell (p : Nat) : Nat := match leAt f p 1 with
    | 0x8C => p + 3 | 0x8D => p + 9 | 0x8E => p + 11 | 0x8F => p + 17
    | _ => p
  let p := ell 10
  let (afl, p) := if leAt f p 1 = 0x90 then (some (readAfl f (p + 1)), p + 2 + leAt f (p + 1) 1) else (none, p)
  let link := leAt f 2 8
  match leAt f p 1 with
  | 0x7A => { afl := afl, tpl := p, address := link, acc := leAt f (p + 1) 1, cf := leAt f (p + 3) 2, data := p + 5 }
  | 0x72 =>
    { afl := afl, tpl := p, address := leAt f (p + 5) 2 + leAt f (p + 1) 4 * 2 ^ 16 + leAt f (p + 7) 2 * 2 ^ 48,
      acc := leAt f (p + 9) 1, cf := leAt f (p + 11) 2, data := p + 13 }
  | _ => { afl := afl, tpl := p, address := link, acc := 0, cf := 0, data := p + 1 }

/-- The security mode of a configuration field. -/
def Wm.mode (w : Wm) : Nat := bitsAt w.cf 8 5

/-- The kind of a frame: 1 profile 5, 2 profile 7, 3 any other. -/
def Wm.kind (w : Wm) : Nat := if w.mode = 5 then 1 else if w.mode = 7 then 2 else 3

/-- AES in CBC mode, decrypted. -/
def cbcDec (key : List Byte) : Nat → List Byte → List Byte → List Byte
  | 0, _, _ => []
  | n + 1, iv, c => xorBytes (aesDec key (c.take 16)) iv ++ cbcDec key n (c.take 16) (c.drop 16)

/-- Data with its first `n` blocks decrypted. -/
def blocksDec (key iv : List Byte) (n : Nat) (c : List Byte) : List Byte := cbcDec key n iv (c.take (16 * n)) ++ c.drop (16 * n)

/-- Profile 5: the application data after the check bytes; none where they do not verify. -/
def Wm.open5 (w : Wm) (key f : List Byte) : Option (List Byte) :=
  let n := bitsAt w.cf 4 4
  let c := f.drop w.data
  let p := blocksDec key (le 8 w.address ++ List.replicate 8 (BitVec.ofNat 8 w.acc)) n c
  if c.length < 16 * n ∨ p.take 2 ≠ [0x2F, 0x2F] then none else some (p.drop 2)

/-- A message key of security mode 7. -/
def Wm.messageKey (w : Wm) (key : List Byte) (constant : Nat) : List Byte :=
  cmac key (le 1 constant ++ le 4 ((w.afl.bind Afl.counter).getD 0) ++ le 4 (w.address / 2 ^ 16 % 2 ^ 32) ++ List.replicate 7 7)

/-- Profile 7: the application data; none where the AFL MAC does not verify. -/
def Wm.open7 (w : Wm) (key f : List Byte) : Option (List Byte) :=
  match w.afl with
  | none => none
  | some a =>
    match a.mac with
    | none => none
    | some mac =>
      let body := le 1 (a.mcl.getD 0) ++ le 4 (a.counter.getD 0) ++ (match a.ml with
        | some m => le 2 m
        | none => []) ++ f.drop w.tpl
      let n := bitsAt w.cf 4 4
      let c := f.drop (w.data + 1)
      if mac = [] ∨ (cmac (w.messageKey key 1) body).take mac.length ≠ mac ∨ c.length < 16 * n then none
      else some (blocksDec (w.messageKey key 0) (List.replicate 16 0) n c)

end Sys2Proof.Machine
end

