-- ==== Sys2Proof/Machine/Security.lean ====
section
/-! DEFINITION. Chapter 11: frame security and validation (R272 to R299), and the Sward of chapter 9 (R229 to R237). A frame
goes through the pipeline in two steps: stages 1 to 6, and stages 7 to 9. -/

namespace Sys2Proof.Machine

open Sys2Proof

/-! ### Reasons (Table 11-2) -/

/-- The security reasons. -/
inductive Reason where
  | accept | acceptFlagged | quarantine | rejectRule | unknownMeter | suspended | profile | type | swardHit | counterOld
  | counterExhausted | keygen | noKey | tagFail | rebound | quarantineFull | quarantineDup
  deriving DecidableEq, Repr

/-- The code of a reason. -/
def Reason.code : Reason → Nat
  | .accept => 0x00 | .acceptFlagged => 0x01 | .quarantine => 0x02 | .rejectRule => 0x03 | .unknownMeter => 0x10
  | .suspended => 0x11 | .profile => 0x12 | .type => 0x13 | .swardHit => 0x14 | .counterOld => 0x15
  | .counterExhausted => 0x16 | .keygen => 0x17 | .noKey => 0x18 | .tagFail => 0x19 | .rebound => 0x1A
  | .quarantineFull => 0x1B | .quarantineDup => 0x1C

/-- The reasons in the order of Table 11-2. -/
def Reason.all : List Reason :=
  [.accept, .acceptFlagged, .quarantine, .rejectRule, .unknownMeter, .suspended, .profile, .type, .swardHit, .counterOld,
   .counterExhausted, .keygen, .noKey, .tagFail, .rebound, .quarantineFull, .quarantineDup]

/-! ### The meter directory (R275, R276) -/

/-- The buckets of an address under a key: primary and victim. -/
def dirBuckets (kd : List Byte) (address : Nat) : Nat × Nat :=
  let d := sipHash kd (le 8 address)
  (bitsAt d 0 18, bitsAt d 18 15)

/-- The assigned slots. -/
def State.assignedSlots (s : State) : List Nat :=
  ((Map.keys s.records).filter fun k => k.1 == Rec.MeterSec.Assigned.rid && s.rdB Rec.MeterSec.Assigned k.2).map Prod.snd

/-- Where an entry goes: some false in the primary table, some true in the victim table, none where both buckets are full.
(Log entry 74: DESIGN CHOICE.) -/
def dirPlace (kd : List Byte) (entries : List (Nat × Bool)) (address : Nat) : Option Bool :=
  let b := dirBuckets kd address
  if (entries.filter fun e => !e.2 && (dirBuckets kd e.1).1 == b.1).length < 8 then some false
  else if (entries.filter fun e => e.2 && (dirBuckets kd e.1).2 == b.2).length < 8 then some true
  else none

/-- The entries of the directory: addresses, with the table each lies in. -/
def State.dirEntries (s : State) (but : Nat) : List (Nat × Bool) :=
  (s.assignedSlots.filter (· ≠ but)).map fun k => (s.rd Rec.MeterSec.Address k, s.sec.dirVictims.contains k)

/-- Whether an address fits the directory under its present key. -/
def State.dirFits (s : State) (slot address : Nat) : Bool := (dirPlace s.sec.kd (s.dirEntries slot) address).isSome

/-- The entry of an assigned slot inserted; where it does not fit, a rebuild begins that cannot be refused.
(Log entry 74: DESIGN CHOICE.) -/
def State.dirInsert (s : State) (slot : Nat) : State :=
  let v := s.sec.dirVictims.filter (· ≠ slot)
  match dirPlace s.sec.kd (s.dirEntries slot) (s.rd Rec.MeterSec.Address slot) with
  | some victim => { s with sec := { s.sec with dirVictims := if victim then v ++ [slot] else v } }
  | none =>
    { s with sec := { s.sec with
      dirVictims := v, rebuild := match s.sec.rebuild with
        | some r => some { r with forced := true }
        | none => some { beganMs := s.time.ms } } }

/-- The slot an address is assigned to. -/
def State.dirFind (s : State) (address : Nat) : Option Nat := s.assignedSlots.find? fun k => s.rd Rec.MeterSec.Address k == address

/-- Every entry placed anew under a key, in slot order: the slots in the victim table, or none where one does not fit. -/
def dirAll (kd : List Byte) : List (Nat × Nat) → List (Nat × Bool) → List Nat → Option (List Nat)
  | [], _, v => some v
  | (slot, address) :: l, done, v =>
    match dirPlace kd done address with
    | none => none
    | some victim => dirAll kd l (done ++ [(address, victim)]) (if victim then v ++ [slot] else v)

/-- A rebuild under a new key completes or fails (R276): one that fails is tried again; the insert of a record write is refused
after its fourth.
(Log entry 74: DESIGN CHOICE.) -/
def execDirRebuildDone (s : State) : Out :=
  match s.sec.rebuild with
  | none => .next s
  | some r =>
    let (kd, s) := s.drawBytes 16
    let entries := (s.assignedSlots.map fun k => (k, s.rd Rec.MeterSec.Address k)) ++ r.extra.toList
    let s := s.count { name := .secRebuild }
    let n := r.attempts + 1
    match dirAll kd entries [] [] with
    | some v =>
      let s := { s with sec := { s.sec with kd := kd, dirVictims := v.filter fun k => s.assignedSlots.contains k, rebuild := none } }
      .next (s.raise .secDirRebuild 0 [n, s.time.ms - r.beganMs])
    | none =>
      if !r.forced ∧ 4 ≤ n then
        let s := { s with sec := { s.sec with rebuild := none, dirRefused := r.extra.map Prod.fst } }
        .next (s.raise .secDirRebuild 0 [n, s.time.ms - r.beganMs])
      else .next { s with sec := { s.sec with rebuild := some { r with attempts := n } } }

/-- Start of the security region at boot, takeover and restart (R233, R294): new keys, an empty Sward, a directory rebuild that
cannot be refused; no frame is in flight. -/
def State.secRestart (s : State) : State :=
  let (k1, s) := s.drawBytes 16
  let (k2, s) := s.drawBytes 16
  { s with sec := { s.sec with
    k1 := k1, k2 := k2, sward := [], victimSince := none, unseen := [], pipe := [],
    rebuild := some { beganMs := s.time.ms } } }

/-! ### Audit (R272, R467) -/

/-- The bytes of a frame-audit record (Table 18-7).
(Log entry 82: DESIGN CHOICE.) -/
def SecFrame.auditBytes (f : SecFrame) (reason : Reason) (rule stamp position : Nat) (plain : Bool) : List Byte :=
  let p := if plain then f.payload else []
  let b := le 1 1 ++ le 1 reason.code ++ le 1 (f.tenant + 16 * bit f.h.trib.isSome + 32 * bit plain) ++ le 1 rule ++ le 4 f.slot ++
    le 4 (f.counter.getD 0) ++ le 4 f.flags ++ le 8 stamp ++ le 8 position ++ le 2 f.h.frame.length ++ le 2 p.length ++ le 28 0 ++
    slice f.h.desc 0 128 ++ f.h.frame ++ p
  b ++ List.replicate ((64 - b.length % 64) % 64) 0

/-- A frame's audit record journaled, and written to the namespace of its bound tenant (R467).
(Log entry 82: DESIGN CHOICE.) -/
def State.audit (s : State) (f : SecFrame) (reason : Reason) (rule position : Nat) (plain : Bool) : State :=
  if !s.journals then s
  else
    let b := f.auditBytes reason rule s.stamp position plain
    let s := { s with store := { s.store with audits := s.store.audits ++ [({ tenant := f.tenant, stamp := s.stamp, bytes := b } : AuditRec)] } }
    s.journal .audit f.tenant f.slot (.words (bytesSlots b))

/-- A frame's reason counted, per tenant and in the last second, and kept as its meter's last. -/
def State.reasoned (s : State) (f : SecFrame) (reason : Reason) : State :=
  let s := s.count { name := .secReason, a := f.tenant, b := reason.code }
  { s with sec := { s.sec with
    last := if f.slot < 2 ^ 20 then Map.put s.sec.last f.slot reason.code else s.sec.last,
    recent := (reason.code, s.time.ms) :: s.sec.recent.filter fun x => decide (s.time.ms < x.2 + 1000) } }

/-- What a frame that security does not accept leaves to the poll plan and to Ling: the poll it answered stays pending (R193),
and a COMMAND it acknowledged counts as unanswered, unless the frame is a copy of one taken before (`copied`). -/
def State.unaccepted (s : State) (h : HandedFrame) (copied : Bool := false) : State :=
  let s := if h.origin = 0 then s.airRefused h.hint else if h.origin = 3 then s.lingRefused h.hint else s
  if ¬copied ∧ (h.origin = 0 ∨ h.origin = 3) ∧ h.mode ≤ 2 ∧ leaType h.frame = 9 then s.tokenUnanswered h.hint (leaTag h.frame) else s

/-- A frame ends with a reason other than accept (R272). -/
def State.endFrame (s : State) (f : SecFrame) (reason : Reason) (rule : Nat := 0) (plain : Bool := false) : State :=
  ((s.reasoned f reason).audit f reason rule 0 plain).unaccepted f.h (decide (reason = .swardHit))

/-! ### The Sward (R229 to R233) -/

/-- Whether a Sward entry is live. -/
def State.swLive (s : State) (e : SwardEntry) : Bool := decide (s.legalS < e.seenS + s.rd Rec.SwardPolicy.SwardAgeS)

/-- A lookup: whether it hits, and the table after it (R231, R232). Expired entries stay in their ways until a new one is
written over the oldest of them. -/
def State.swardLookup (s : State) (slot tenant : Nat) (f : List Byte) : Bool × State :=
  let d1 := sipHash s.sec.k1 f
  let print := sipHash s.sec.k2 f
  let b := bitsAt d1 0 22
  let v := bitsAt d1 22 17
  let mine (e : SwardEntry) : Bool := e.print == print && e.bucket == (if e.victim then v else b) && s.swLive e
  let s := s.count { name := .swLookup }
  match s.sec.sward.find? mine with
  | some e =>
    let n := min (e.count + 1) 65535
    let fire := decide (s.rd Rec.SwardPolicy.ReplayCount ≤ n) && !e.raised
    let s := s.count { name := .swHit }
    let s := { s with sec := { s.sec with sward := s.sec.sward.map fun (x : SwardEntry) =>
      if x = e then { x with seenS := s.legalS, count := n, raised := x.raised || fire } else x } }
    (true, if fire then s.raise .swardReplay tenant [slot, n] else s)
  | none =>
    let ways (vic : Bool) (k : Nat) : List SwardEntry := s.sec.sward.filter fun e => e.victim == vic && e.bucket == k
    let room (vic : Bool) (k : Nat) : Bool := decide (((ways vic k).filter s.swLive).length < 8)
    let put (s : State) (vic : Bool) (k : Nat) : State :=
      let gone := if (ways vic k).length < 8 then none else (ways vic k).find? fun e => !s.swLive e
      let kept := match gone with
        | some e => s.sec.sward.erase e
        | none => s.sec.sward
      { s with sec := { s.sec with sward := kept ++ [{ victim := vic, bucket := k, print := print, seenS := s.legalS }] } }
    if room false b then (false, put (s.count { name := .swPrimary }) false b)
    else if room true v then (false, put (s.count { name := .swVictim }) true v)
    else
      let s := s.count { name := .swUnseen }
      let u := s.time.ms :: s.sec.unseen.filter fun t => decide (s.time.ms < t + 1000)
      let first := s.sec.victimSince.isNone
      let s := { s with sec := { s.sec with
        unseen := u, victimLast := s.legalS, victimSince := some (s.sec.victimSince.getD s.legalS) } }
      (false, if first then (s.count { name := .swFull }).raise .swardVictimFull 0 [u.length] else s)

/-- SwardAgeS passes without a full miss, and the Sward leaves victim-full (R232). -/
def execSwardVictimClear (s : State) : Out :=
  match s.sec.victimSince with
  | none => .next s
  | some t =>
    if s.legalS < s.sec.victimLast + s.rd Rec.SwardPolicy.SwardAgeS then .next s
    else .next (({ s with sec := { s.sec with victimSince := none } }).raise .swardVictimClear 0 [s.legalS - t])

/-- The fingerprint of a counterless frame (R282). -/
def ringPrint (f : List Byte) : Nat := leAt (sha256 f) 0 8

/-- Whether a counterless frame is in its meter's ring or among its frames in flight. -/
def State.ringHit (s : State) (slot print : Nat) : Bool :=
  ((Map.getD s.led.rings slot []).any fun e => e.1 == print) ||
  ((Map.vals s.led.queues).any fun q => q.any fun e => match e.2 with
    | .frame g => e.1 == slot && g.assigned && g.print == print
    | _ => false)

/-! ### The rule engine (R287 to R290) -/

/-- What rules see of a frame: subjects 1 to 9, 14, 15 and 16, the reception seconds, its items or its application data, and
the snapshots captured. -/
structure RuleInput where
  attr : Nat → Int
  receptionS : Nat
  payload : List Byte
  wmbus : Bool
  snap : Nat → Option Nat

/-- The item a rule addresses: the first of its type, or the application data of a wireless M-Bus frame. -/
def RuleInput.item (x : RuleInput) (t : Nat) : Option (List Byte) :=
  if t = 0xFF ∧ x.wmbus then some x.payload
  else if x.wmbus then none
  else ((itemsOf x.payload).find? fun i => i.1 == t).map Prod.snd

/-- The field a rule addresses, as 64 bits; none where it is absent (R289). -/
def State.ruleField (s : State) (cls i : Nat) (x : RuleInput) : Option Nat :=
  let w := s.rd (Rec.RuleTable.FieldWidth i) cls
  let at' := 8 * s.rd (Rec.RuleTable.FieldOffset i) cls + s.rd (Rec.RuleTable.FieldShift i) cls
  match x.item (s.rd (Rec.RuleTable.ItemType i) cls) with
  | none => none
  | some b =>
    if 8 * b.length < at' + w then none
    else
      let v := bitsAt (ofLe b) at' w
      some (if s.rdB (Rec.RuleTable.FieldSigned i) cls then slotOf (toSigned w v) else v)

/-- The subject value of a rule; none where the rule cannot match (Table 11-6).
(Log entry 73: DESIGN CHOICE.) -/
def State.ruleSubject (s : State) (cls i : Nat) (x : RuleInput) : Option Int :=
  let f := s.ruleField cls i x
  match s.rd (Rec.RuleTable.Subject i) cls with
  | 0 => some 0
  | 10 => some (bit (x.item (s.rd (Rec.RuleTable.ItemType i) cls)).isSome : Nat)
  | 11 => f.map fun v => (v : Int)
  | 12 => f.bind fun v => (x.snap (s.rd (Rec.RuleTable.Snapshot i) cls)).map fun p => (v : Int) - p
  | 13 => f.map fun v => (stampS v : Int) - x.receptionS
  | k => some (x.attr k)

/-- Whether a rule's operator matches a value (Table 11-7), compared signed or unsigned over 64 bits.
(Log entry 73: DESIGN CHOICE.) -/
def ruleMatches (op : Nat) (isSigned : Bool) (v : Int) (a b : Nat) : Bool :=
  let n (y : Int) : Int := if isSigned then toSigned 64 (slotOf y) else (slotOf y : Nat)
  let v' := n v
  let a' := n a
  let b' := n b
  match op with
  | 0 => v' == a' | 1 => v' != a' | 2 => decide (v' < a') | 3 => decide (v' ≤ a') | 4 => decide (a' < v') | 5 => decide (a' ≤ v')
  | 6 => decide (a' ≤ v' ∧ v' ≤ b') | 7 => decide (v' < a' ∨ b' < v')
  | 8 => (slotOf v &&& a) != 0 | 9 => (slotOf v &&& a) == 0
  | _ => false

/-- What the rules decide: outcome (0 accept, 1 accept-flagged, 2 quarantine, 3 reject), flags, the rule that set the outcome
first, the rules that match, and the captures in order. -/
structure RuleResult where
  outcome : Nat := 0
  flags : Nat := 0
  rule : Nat := 0
  matched : List Nat := []
  captures : List (Nat × Nat) := []
  deriving DecidableEq, Repr

/-- One rule evaluated after the result so far; the second value stops the evaluation. -/
def State.ruleStep (s : State) (cls i : Nat) (x : RuleInput) (r : RuleResult) : RuleResult × Bool :=
  if !s.rdB (Rec.RuleTable.Enable i) cls then (r, false)
  else
    let r := match s.ruleField cls i x with
      | some v => if s.rdB (Rec.RuleTable.Capture i) cls then
          { r with captures := r.captures ++ [(s.rd (Rec.RuleTable.Snapshot i) cls, v)] } else r
      | none => r
    let hit : Bool := match s.ruleSubject cls i x with
      | some v => ruleMatches (s.rd (Rec.RuleTable.Operator i) cls) (s.rdB (Rec.RuleTable.Signed i) cls) v
          (s.rd (Rec.RuleTable.OperandA i) cls) (s.rd (Rec.RuleTable.OperandB i) cls)
      | none => false
    if !hit then (r, false)
    else
      let o := s.rd (Rec.RuleTable.Outcome i) cls
      let r := { r with matched := r.matched ++ [i] }
      let r := if r.outcome < o then { r with outcome := o, rule := i } else r
      let r := if o = 1 then { r with flags := r.flags ||| 2 ^ s.rd (Rec.RuleTable.FlagBit i) cls } else r
      (r, s.rdB (Rec.RuleTable.Final i) cls)

/-- The rule table of a class evaluated from a rule on. -/
def State.rulesFrom (s : State) (cls : Nat) (x : RuleInput) : Nat → Nat → RuleResult → RuleResult
  | 0, _, r => r
  | n + 1, i, r =>
    let (r, stop) := s.ruleStep cls i x r
    if stop then r else s.rulesFrom cls x n (i + 1) r

/-- Stage 8 (R288). -/
def State.rules (s : State) (cls : Nat) (x : RuleInput) : RuleResult := s.rulesFrom cls x 64 0 {}

/-- What the rules see of a frame with counter c. -/
def State.ruleInput (s : State) (f : SecFrame) (c : Nat) : RuleInput :=
  let r := s.meter f.slot
  let ling := f.h.trib.isSome
  let d := f.h.desc
  let same := if ling then (match f.h.trib with
    | some t => s.rd Rec.LingMeter.Tributary f.slot == t
    | none => false) else bitOn (leAt d 1 1) 6
  let val (k : Nat) : Int := match k with
    | 1 => if f.kind = 0 then leaType f.h.frame else leAt f.h.frame 1 1
    | 2 => if ling then 15 else f.h.mode
    | 3 => f.auth
    | 4 => bit f.unsol
    | 5 => bit same
    | 6 => (c : Int) - r.lastCounter
    | 7 => bit f.assigned
    | 8 => toSigned 16 (leAt d (if ling then 24 else 32) 2)
    | 9 => if ling then 0 else leAt d 2 1 / 16
    | 14 => f.h.origin
    | 15 => f.h.frame.length
    | 16 => if r.lastAccept = 0 then 0xFFFFFFFF else s.legalS - stampS r.lastAccept
    | _ => 0
  { attr := val, receptionS := stampS (s.stampOfAir f.h.startAir), payload := f.payload, wmbus := f.kind != 0,
    snap := fun i => Map.get? r.snapshots i }

/-! ### Stages 1 to 6 -/

/-- What stage 1 finds in a frame. -/
structure ParsedFrame where
  kind : Nat
  address : Nat
  counter : Option Nat := none
  frag : Bool := false
  tag : Nat := 0
  hasTag : Bool := false
  deriving DecidableEq, Repr

/-- Stage 1 (R273, R277): none is TYPE. -/
def parseFrame (h : HandedFrame) : Option ParsedFrame :=
  if h.mode ≤ 2 then
    let t := leaType h.frame
    if t = 8 ∨ t = 9 ∨ t = 10 then
      some { kind := 0, address := leaAddress h.frame, counter := some (leaCtr h.frame), tag := if t = 10 then 0 else leaTag h.frame,
             hasTag := t != 10 }
    else none
  else if wmFromMeter (leAt h.frame 1 1) then
    let w := readWm h.frame
    some { kind := w.kind, address := w.address, counter := if w.kind = 2 then some (((w.afl.bind Afl.counter)).getD 0) else none,
           frag := (w.afl.map Afl.frag).getD false }
  else none

/-- The AES operations of a frame (Table 11-3): key and decryption. -/
def State.aesOps (s : State) (slot kind : Nat) (f : List Byte) : Nat :=
  let wide := s.rdB Rec.MeterSec.KeyBits slot
  let key := if !s.rdB Rec.MeterSec.KeyMode slot then (if wide then 5 else 3) else (if wide then 24 else 12)
  let w := readWm f
  match kind with
  | 0 =>
    let a := leaPayloadAt f + (if leaType f = 10 then 0 else 2)
    key + 2 + ceilDiv (a + 2) 16 + 2 * ceilDiv (leCipherLen f) 16
  | 1 => key + ceilDiv (f.length - w.data) 16
  | 2 => key + 4 + 2 * ceilDiv (f.length - w.data) 16
  | _ => 0
where
  leCipherLen (f : List Byte) : Nat := (leaCipher f).length

/-- The decrypted payload and AuthKind of a frame (Table 11-4); none is TAG_FAIL. -/
def State.openFrame (s : State) (kind : Nat) (key f : List Byte) : Option (List Byte × Nat) :=
  match kind with
  | 0 => (leaOpen key f (s.rd Rec.Pair.RegionNumber)).map fun p => (p, 2)
  | 1 => ((readWm f).open5 key f).map fun p => (p, 1)
  | 2 => ((readWm f).open7 key f).map fun p => (p, 2)
  | _ => some (f.drop (readWm f).data, 0)

/-- An UNKNOWN_METER frame's event, within UnknownEventPerS of tenant 0 in each second. -/
def State.unknownMeter (s : State) (address mode : Nat) : State :=
  let n := if s.sec.unknownS.1 = s.nowS then s.sec.unknownS.2 else 0
  if n < s.rd Rec.SecPolicy.UnknownEventPerS 0 then
    ({ s with sec := { s.sec with unknownS := (s.nowS, n + 1) } }).raise .secUnknownMeter 0 [address, mode]
  else s

/-- Stage 4 (R278): whether the frame passes, or its reason. -/
def State.counterCheck (s : State) (slot : Nat) (c : Option Nat) : Option Reason :=
  let base := (s.meter slot).lastCounter
  if base = 0xFFFFFFFF then some .counterExhausted
  else match c with
    | some c => if c ≤ max base (s.high slot) then some .counterOld else none
    | none => none

/-- COUNTER_OLD, KEYGEN and TAG_FAIL as a meter's counts (R299). -/
def State.badFrame (s : State) (f : SecFrame) (reason : Reason) : State :=
  match reason with
  | .counterOld => s.countMeter f.slot 3
  | .keygen => s.countMeter f.slot 2
  | .tagFail =>
    let s := s.countMeter f.slot 1
    s.raiseEvery hourMs .secTagFail f.slot f.tenant [f.slot, Map.getD (s.meter f.slot).counts 1 0]
  | _ => s

/-- Stages 5 and 6: the key, and the frame opened (R283 to R286). -/
def State.stageKey (s : State) (f : SecFrame) : Except Reason SecFrame × State :=
  let fr := f.h.frame
  if f.kind = 0 ∧ leaKeyGen fr ≠ f.gen % 8 then (.error .keygen, s)
  else if f.kind = 3 then (.ok { f with payload := fr.drop (readWm fr).data, auth := 0 }, s)
  else match s.meterKeyFor f.slot f.tenant f.gen with
    | (none, s) => (.error .noKey, s)
    | (some key, s) =>
      let s := s.count { name := .secAes, a := f.tenant } (s.aesOps f.slot f.kind fr)
      let s := (s.charge .crypto f.tenant (s.aesOps f.slot f.kind fr)).charge .fabric f.tenant 1
      match s.openFrame f.kind key fr with
      | none => (.error .tagFail, s)
      | some (p, a) => (.ok { f with payload := p, auth := a }, s)

/-- Stages 1 to 6 of a frame (R272 to R286): it enters the pipe, or ends.
(Log entry 70: DESIGN CHOICE.) -/
def State.stagesFirst (s : State) (h : HandedFrame) : State :=
  let blank : SecFrame := { h := h, kind := 0, slot := 0xFFFFFFFF, tenant := 0, gen := 0 }
  match parseFrame h with
  | none => s.endFrame blank .type
  | some p =>
    match s.dirFind p.address with
    | none => (s.endFrame { blank with kind := p.kind, counter := p.counter } .unknownMeter).unknownMeter p.address h.mode
    | some slot =>
      let f : SecFrame :=
        { h := h, kind := p.kind, slot := slot, tenant := s.meterTenant slot, gen := (s.meter slot).keyGen,
          cls := s.rd Rec.MeterSec.Class slot, counter := p.counter, tag := p.tag,
          unsol := p.hasTag && !(s.liveTags slot).contains p.tag,
          print := if p.counter.isSome then 0 else ringPrint h.frame }
      if s.rdB Rec.MeterSec.Suspended slot then s.endFrame f .suspended
      else if !bitOn (s.rd Rec.MeterSec.ProfileMask slot) p.kind ∨ p.frag then s.endFrame f .profile
      else
        let (dup, s) := if p.counter.isSome then s.swardLookup slot f.tenant (if h.mode ≤ 2 then h.frame.take (leAt h.frame 0 1 + 1) else h.frame)
          else (s.ringHit slot f.print, s)
        if dup then s.endFrame f .swardHit
        else match s.counterCheck slot f.counter with
          | some r => (s.badFrame f r).endFrame f r
          | none =>
            match s.stageKey f with
            | (.error r, s) => (s.badFrame f r).endFrame f r
            | (.ok f, s) => { s with sec := { s.sec with pipe := s.sec.pipe ++ [f] } }

/-! ### Stages 7 to 9 -/

/-- The unsolicited counts of a frame that has passed stage 7 (R177). -/
def State.unsolicited (s : State) (f : SecFrame) : State :=
  if !f.unsol then s
  else
    let s := s.countMeter f.slot 0
    let s := if f.h.trib.isSome then s else s.countLea .leaUnsol (leAt f.h.desc 6 2) f.h.mode
    s.raiseEvery hourMs .leaUnsolicited f.slot f.tenant [f.slot, f.tag, leaType f.h.frame]

/-- Whether a frame's binding still holds at stage 9 (R274). -/
def State.boundStill (s : State) (f : SecFrame) : Bool :=
  s.assigned f.slot && s.meterTenant f.slot == f.tenant && (s.meter f.slot).keyGen == f.gen

/-- What an accepted frame brings to the poll plan and to Ling (R193, R194, R204, R212, R256, R262). -/
def State.accepted (s : State) (f : SecFrame) : State :=
  let wake := f.kind == 0 && (itemsOf f.payload).any fun i => i.1 == 0x80
  if f.h.trib.isSome then s.lingAccepted f.slot f.h.level (leaType f.h.frame) f.tag
  else
    let s := s.airAccepted f.slot f.h.desc (if f.kind = 0 then leaType f.h.frame else 10) f.tag wake
    s.placeResponse f.slot f.h.mode f.h.desc

/-- A frame quarantined, or discarded where its entry or tombstone exists or the allowance is used up (R291). -/
def State.quarantineFrame (s : State) (f : SecFrame) (rule : Nat) : State :=
  let c := f.counter.getD 0
  let held := s.sec.quarantine.any fun q => q.f.slot == f.slot && (q.f.counter.getD 0) == c
  let mine := (s.sec.quarantine.filter fun q => q.f.tenant == f.tenant).length
  if held ∨ s.sec.tombs.contains (f.slot, c) then s.endFrame f .quarantineDup rule true
  else if s.rd Rec.SecPolicy.QuarantineCap f.tenant ≤ mine then
    (s.endFrame f .quarantineFull rule true).raiseEvery hourMs .secQuarantineFull f.tenant f.tenant [f.tenant]
  else
    let q : QEntry := { f := f, rule := rule, received := f.time }
    let s := { s with sec := { s.sec with quarantine := s.sec.quarantine ++ [q] } }
    let s := (s.journal .quarantine f.tenant f.slot (.words [1, f.slot, c, rule])).carry (.meter f.slot)
    let s := (s.countMeter f.slot 4).endFrame f .quarantine rule
    s.raiseEvery hourMs .secQuarantined f.slot f.tenant [f.slot, rule, c]

/-- Stages 7 to 9 of a frame (R279, R280, R288, R291).
(Log entry 70: DESIGN CHOICE.) -/
def State.stagesLast (s : State) (f : SecFrame) : State :=
  let top := max (s.meter f.slot).lastCounter (s.high f.slot)
  let stop : Option Reason := match f.counter with
    | some c => if c ≤ top then some .counterOld else none
    | none => if s.ringHit f.slot f.print then some .swardHit else if top = 0xFFFFFFFF then some .counterExhausted else none
  match stop with
  | some r => (s.badFrame f r).endFrame f r
  | none =>
    let f := { f with counter := some (f.counter.getD (top + 1)), assigned := f.counter.isNone }
    let s := s.unsolicited f
    let input := s.ruleInput f (f.counter.getD 0)
    let same := decide (input.attr 5 = 1)
    let res := s.rules f.cls input
    let flags := maskOf ((if f.unsol then [0] else []) ++ (if f.assigned then [1] else []) ++ (if f.auth < 2 then [3] else []) ++
      (if same then [] else [4])) ||| res.flags
    let f := { f with flags := flags, captures := res.captures, time := s.stamp }
    if !s.boundStill f then s.endFrame f .rebound 0 true
    else match res.outcome with
      | 3 => s.endFrame f .rejectRule res.rule true
      | 2 => s.quarantineFrame f res.rule
      | o =>
        let s := s.reasoned f (if o = 1 then .acceptFlagged else .accept)
        (s.enqueue f.tenant f.slot (.frame f)).accepted f

/-- A step of the pipeline: phase 0 takes the oldest frame handed on through stages 1 to 6, unless a directory rebuild holds
frames ahead of stage 2; phase 1 takes a frame of the pipe, by its place in it, through stages 7 to 9.
(Log entry 70: DESIGN CHOICE.) -/
def execSecurityFrame (phase frame : Nat) (s : State) : Out :=
  if phase = 0 then
    match s.rx.toSecurity with
    | [] => .next s
    | h :: rest =>
      if s.sec.rebuild.isSome ∨ s.restarting 7 then .next s
      else .next (({ s with rx := { s.rx with toSecurity := rest } }).stagesFirst h)
  else match s.sec.pipe[frame]? with
    | none => .next s
    | some f => .next (({ s with sec := { s.sec with pipe := s.sec.pipe.eraseIdx frame } }).stagesLast f)

/-! ### Commands (Tables 9-7 and 11-13) -/

/-- SEC.SWARD_STATUS: victim-full, live entries of the primary table and the victim area, counters of R237. -/
def readSwardStatus (c : Caller) (s : State) : Reply :=
  let live := s.sec.sward.filter s.swLive
  let k (x : CtrName) : Nat := s.ctr { name := x }
  gatedRead [(c.isObserver, .refusedRole), (c.slots 0, .badLength)]
    { status := .done, slots :=
        [bit s.sec.victimSince.isSome, (live.filter fun e => !e.victim).length, (live.filter SwardEntry.victim).length,
         k .swLookup, k .swHit, k .swPrimary, k .swVictim, k .swUnseen, k .swFull] }

def execSecSwardStatus (ch : Nat) (s : State) : Out := .next (s.readCommand ch .secSwardStatus readSwardStatus)

/-- SEC.STATUS_READ: frames by reason in the last second in the order of Table 11-2, directory entries, rebuilds, quarantine
entries per tenant (no value out of scope). -/
def readSecStatus (c : Caller) (s : State) : Reply :=
  gatedRead [(c.isObserver, .refusedRole), (c.slots 0, .badLength)]
    { status := .done, slots :=
        (Reason.all.map fun r => (s.sec.recent.filter fun x => x.1 == r.code && decide (s.time.ms < x.2 + 1000)).length) ++
        [s.assignedSlots.length, s.ctr { name := .secRebuild }] ++
        ((List.range 16).map fun t => if s.sees c t then (s.sec.quarantine.filter fun q => q.f.tenant == t).length else noValue) }

def execSecStatusRead (ch : Nat) (s : State) : Out := .next (s.readCommand ch .secStatusRead readSecStatus)

/-- SEC.METER_READ: the binding (assigned, suspended, tenant, address, KeyMode, KeyBits, ProfileMask, class), g, C, H, the four
snapshots, the last reason. -/
def readSecMeter (slot : Nat) (c : Caller) (s : State) : Reply :=
  let r := s.meter slot
  let f (x : Fld) : Nat := s.rd x slot
  gatedRead (s.meterReadChecks c slot 1)
    { status := .done, slots :=
        [f Rec.MeterSec.Assigned, f Rec.MeterSec.Suspended, s.meterTenant slot, f Rec.MeterSec.Address, f Rec.MeterSec.KeyMode,
         f Rec.MeterSec.KeyBits, f Rec.MeterSec.ProfileMask, f Rec.MeterSec.Class, r.keyGen, r.lastCounter,
         if (s.inFlight slot).isEmpty then noValue else s.high slot] ++
        ((List.range 4).map fun i => slotOpt (Map.get? r.snapshots i)) ++ [slotOpt (Map.get? s.sec.last slot)] }

def execSecMeterRead (ch slot : Nat) (s : State) : Out := .next (s.readCommand ch .secMeterRead (readSecMeter slot))

/-- SEC.METER_KEY_SET: the blob is stored with the new generation (R283, R284).
(Log entry 72: DEDUCED.) -/
def runSecMeterKeySet (slot keyBits : Nat) (blob : List Byte) (c : Caller) (s : State) : Reply × State :=
  let t := s.meterTenant slot
  gated s [(c.isOwner t, .refusedRole),
      (c.body.length == 16 + blob.length && blob.length == (if keyBits = 1 then 40 else 24), .badLength),
      (decide (keyBits ≤ 1), .badArgument), (isMeterSlot slot, .badArgument), (s.meterHere slot, .absentCapacity),
      (s.assigned slot && s.rdB Rec.MeterSec.KeyMode slot, .refusedState), s.notReleasing t,
      (decide ((s.meter slot).keyGen < 0xFFFFFFFF), .keygenExhausted)] fun s =>
    match s.bind t 1 t with
    | (none, s) => ({ status := .integrity }, s)
    | (some kek, s) =>
      match keyUnwrap kek blob with
      | none => ({ status := .integrity }, s)
      | some _ =>
        let s := s.advanceKeyGen slot
        let g := (s.meter slot).keyGen
        let s := { s with sec := { s.sec with keys := Map.put s.sec.keys slot (g, blob) } }
        ({ status := .done, slots := [g] }, (s.journal .config t slot (.words [0x0902, slot, g])).carry (.meter slot))

def execSecMeterKeySet (ch slot keyBits : Nat) (blob : List Byte) (s : State) : Out :=
  .next (s.commitCommand ch .secMeterKeySet (runSecMeterKeySet slot keyBits blob))

/-- SEC.METER_KEYGEN_ADVANCE. -/
def runSecKeygenAdvance (slot : Nat) (c : Caller) (s : State) : Reply × State :=
  gated s (s.meterOwnChecks c slot 1 ++ [(s.assigned slot && !s.rdB Rec.MeterSec.KeyMode slot, .refusedState), s.notReleasing (s.meterTenant slot),
      (decide ((s.meter slot).keyGen < 0xFFFFFFFF), .keygenExhausted)]) fun s =>
    let s := s.advanceKeyGen slot
    let g := (s.meter slot).keyGen
    ({ status := .done, slots := [g] }, (s.journal .config (s.meterTenant slot) slot (.words [0x0903, slot, g])).carry (.meter slot))

def execSecMeterKeygenAdvance (ch slot : Nat) (s : State) : Out :=
  .next (s.commitCommand ch .secMeterKeygenAdvance (runSecKeygenAdvance slot))

/-- The head of a quarantine entry (Table 11-8). -/
def QEntry.head (q : QEntry) : List Byte :=
  le 4 q.f.slot ++ le 1 (q.f.tenant + 16 * q.f.auth) ++ le 2 q.rule ++ le 1 q.f.h.desc.length ++ le 4 (q.f.counter.getD 0) ++ le 4 q.f.flags ++
    le 8 q.received ++ le 4 q.f.gen ++ le 2 q.f.payload.length ++ le 2 0

/-- The quarantine entry of a slot and counter. -/
def State.qEntry (s : State) (slot counter : Nat) : Option QEntry :=
  s.sec.quarantine.find? fun q => q.f.slot == slot && (q.f.counter.getD 0) == counter

/-- SEC.QUARANTINE_LIST: heads in order of slot and counter, from a first slot. -/
def readQuarantineList (t first count : Nat) (c : Caller) (s : State) : Reply :=
  let l := sortBy (fun (q : QEntry) => ((q.f.slot * 2 ^ 32 + q.f.counter.getD 0 : Nat) : Int))
    (s.sec.quarantine.filter fun q => q.f.tenant == t && decide (first ≤ q.f.slot))
  gatedRead [(c.isObserver && s.sees c t, .refusedRole), (c.slots 3, .badLength), (decide (t < 16 ∧ count ≤ 256) && isMeterSlot first, .badArgument),
      (s.tenantHere t && s.meterHere first, .absentCapacity)]
    { status := .done, data := le 8 (l.take count).length ++ (l.take count).flatMap QEntry.head }

def execSecQuarantineList (ch tenant first count : Nat) (s : State) : Out :=
  .next (s.readCommand ch .secQuarantineList (readQuarantineList tenant first count))

/-- The tenant a quarantine command is checked against: that of the entry, or of the slot where there is none. -/
def State.qTenant (s : State) (slot counter : Nat) : Nat :=
  match s.qEntry slot counter with
  | some q => q.f.tenant
  | none => s.meterTenant slot

/-- The checks of a command that names a quarantine entry. -/
def State.qChecks (s : State) (c : Caller) (slot counter : Nat) : List (Bool × Status) :=
  [(c.isOwner (s.qTenant slot counter), .refusedRole), (c.slots 2, .badLength), ((s.qEntry slot counter).isSome, .badArgument)]

/-- SEC.QUARANTINE_READ. -/
def readQuarantine (slot counter : Nat) (c : Caller) (s : State) : Reply :=
  gatedRead (s.qChecks c slot counter)
    { status := .done, data := match s.qEntry slot counter with
        | some q => q.head ++ q.f.h.desc ++ q.f.payload
        | none => [] }

def execSecQuarantineRead (ch slot counter : Nat) (s : State) : Out :=
  .next (s.readCommand ch .secQuarantineRead (readQuarantine slot counter))

/-- The quarantine without an entry. -/
def State.qDrop (s : State) (slot counter : Nat) : State :=
  { s with sec := { s.sec with quarantine := s.sec.quarantine.filter fun q => !(q.f.slot == slot && (q.f.counter.getD 0) == counter) } }

/-- Whether an entry may still be released (R292): its binding stands, and its counter, or its bytes where it carried none, are
new. -/
def State.releasable (s : State) (q : QEntry) : Bool :=
  s.boundStill q.f && decide (max (s.meter q.f.slot).lastCounter (s.high q.f.slot) < q.f.counter.getD 0) &&
    !(q.f.assigned && s.ringHit q.f.slot q.f.print)

/-- SEC.QUARANTINE_RELEASE: the entry goes through stage 7 again and to the ledger as accept-flagged (R292). -/
def runQuarantineRelease (slot counter : Nat) (c : Caller) (s : State) : Reply × State :=
  match s.qEntry slot counter with
  | none => gated s (s.qChecks c slot counter) fun s => ({ status := .badArgument }, s)
  | some q =>
    gated s (s.qChecks c slot counter ++ [s.notReleasing q.f.tenant, (s.releasable q, .superseded)]) fun s =>
      let s := ((s.qDrop slot counter).journal .quarantine q.f.tenant slot (.words [2, slot, counter])).carry (.meter slot)
      ({ status := .done }, s.enqueue q.f.tenant slot (.frame ({ q.f with flags := q.f.flags ||| 4 } : SecFrame)))

def execSecQuarantineRelease (ch slot counter : Nat) (s : State) : Out :=
  .next (s.commitCommand ch .secQuarantineRelease (runQuarantineRelease slot counter))

/-- SEC.QUARANTINE_DELETE: a tombstone stays. -/
def runQuarantineDelete (slot counter : Nat) (c : Caller) (s : State) : Reply × State :=
  let t := s.qTenant slot counter
  gated s (s.qChecks c slot counter ++ [s.notReleasing (s.qTenant slot counter)]) fun s =>
    let s := s.qDrop slot counter
    let s := { s with sec := { s.sec with tombs := s.sec.tombs ++ [(slot, counter)] } }
    ({ status := .done }, (s.journal .quarantine t slot (.words [3, slot, counter])).carry (.meter slot))

def execSecQuarantineDelete (ch slot counter : Nat) (s : State) : Out :=
  .next (s.commitCommand ch .secQuarantineDelete (runQuarantineDelete slot counter))

/-- The tenant that owns a validation class. -/
def State.ruleTenant (s : State) (cls : Nat) : Nat := s.recTenant 0x0901 cls

/-- SEC.RULES_TEST: the attributes are subjects 1 to 9, 14, 15, 16 and the reception seconds. The answer: outcome, flag word,
matching rules, captures as a mask and four values.
(Log entry 73: DESIGN CHOICE.) -/
def readRulesTest (cls : Nat) (attrs : List Nat) (mask : Nat) (snaps : List Nat) (payload : List Byte) (c : Caller) (s : State) : Reply :=
  let at' (k : Nat) : Nat := if k ≤ 9 then attrs.getD (k - 1) 0 else attrs.getD (k - 5) 0
  let mode := attrs.getD 1 0
  let x : RuleInput :=
    { attr := fun k => toSigned 64 (at' k), receptionS := attrs.getD 12 0, payload := payload, wmbus := decide (3 ≤ mode) && mode != 15,
      snap := fun i => if bitOn mask i then some (snaps.getD i 0) else none }
  let r := s.rules cls x
  let caps := (List.range 4).map fun i => (r.captures.reverse.find? fun p => p.1 == i).map Prod.snd
  gatedRead [(c.isOwner (s.ruleTenant cls), .refusedRole), (c.body.length == 152 + payload.length, .badLength),
      (decide (cls < 256 ∧ attrs.length = 13 ∧ snaps.length = 4 ∧ mask < 16 ∧ payload.length ≤ 1024), .badArgument)]
    { status := .done, slots := [r.outcome, r.flags, maskOf r.matched, maskOf ((List.range 4).filter fun i => (caps.getD i none).isSome)] ++
        caps.map slotOpt }

def execSecRulesTest (ch cls : Nat) (attrs : List Nat) (mask : Nat) (snaps : List Nat) (payload : List Byte) (s : State) : Out :=
  .next (s.readCommand ch .secRulesTest (readRulesTest cls attrs mask snaps payload))

/-- SEC.COUNTERS_READ: with the slot all ones the counters per tenant in scope and the rebuilds, otherwise a meter's counts. -/
def readSecCounters (slot : Nat) (c : Caller) (s : State) : Reply :=
  let all := decide (slot = 0xFFFFFFFF)
  let r := s.meter slot
  gatedRead [(c.isObserver && (all || s.sees c (s.meterTenant slot)), .refusedRole), (if all then c.slots 0 else c.slots 1, .badLength),
      (all || isMeterSlot slot, .badArgument), (all || s.meterHere slot, .absentCapacity)]
    { status := .done, slots :=
        if all then
          ((List.range 16).flatMap fun t => if s.sees c t then
              (Reason.all.map fun x => s.ctr { name := .secReason, a := t, b := x.code }) ++ [s.ctr { name := .secAes, a := t }]
            else List.replicate 18 noValue) ++ [s.ctr { name := .secRebuild }]
        else [1, 2, 3, 4].map fun j => Map.getD r.counts j 0 }

def execSecCountersRead (ch slot : Nat) (s : State) : Out := .next (s.readCommand ch .secCountersRead (readSecCounters slot))

/-! ### Records (R235, R295 to R297) -/

/-- The Sward policy record (R235). -/
def ruleSwardPolicy : RecordRule where
  writer _ c _ _ := c.isOfficer

/-- A meter whose binding starts anew: g at 1, no key, no tombstones (R176). -/
def State.bindAnew (s : State) (slot : Nat) : State :=
  { s with
    led := { s.led with meters := Map.put s.led.meters slot { s.meter slot with keyGen := 1 } }
    sec := { s.sec with keys := Map.del s.sec.keys slot, tombs := s.sec.tombs.filter (fun t => t.1 ≠ slot) }
    lea := { s.lea with downRaised := s.lea.downRaised.filter (· ≠ slot) } }

/-- The meter security record applied (R295, R349): the directory follows, a change of Address or Tenant or an end of the
assignment closes the meter record and starts g and C anew, and a change of KeyMode is a new key generation. -/
def State.bindMeter (s : State) (tenant slot old b : Nat) : State :=
  let was := Rec.MeterSec.Assigned.on old
  let is := Rec.MeterSec.Assigned.on b
  let r := s.meter slot
  let moved := Rec.MeterSec.Address.of old ≠ Rec.MeterSec.Address.of b
  let s := { s with sec := { s.sec with
    dirVictims := if is then s.sec.dirVictims else s.sec.dirVictims.filter (· ≠ slot),
    dirRefused := if s.sec.dirRefused = some slot then none else s.sec.dirRefused } }
  let s := if is ∧ (!was ∨ moved) then s.dirInsert slot else s
  if was ∧ !is then (s.bindAnew slot).ledgerChange slot (.close 2 none)
  else if !was ∧ is then (s.bindAnew slot).ledgerChange slot (.opening tenant)
  else if was ∧ is ∧ (moved ∨ (r.active ∧ r.tenant ≠ tenant)) then
    (s.bindAnew slot).ledgerChange slot (.close (if moved then 0 else 1) (some tenant))
  else if was ∧ is ∧ Rec.MeterSec.KeyMode.of old ≠ Rec.MeterSec.KeyMode.of b then s.advanceKeyGen slot
  else s

/-- The meter security record (R286, R295). -/
def ruleMeterSec : RecordRule where
  owner _ _ := .header
  writer _ c t _ := c.isOwner t
  absent s i _ := if s.meterHere i then none else some .absentCapacity
  check s t i old b :=
    let r := s.meter i
    let taken : Bool := match s.dirFind (Rec.MeterSec.Address.of b) with
      | some k => decide (k ≠ i)
      | none => false
    if Rec.MeterSec.KeyBits.on b ∧ 2 ≤ Rec.MeterSec.ProfileMask.of b then some .badRecord
    else if Rec.MeterSec.Assigned.on b ∧ taken then some .addressInUse
    else if s.sec.dirRefused = some i then some .dirFull
    else if Rec.MeterSec.Assigned.on b ∧ Rec.MeterSec.Assigned.on old ∧ Rec.MeterSec.KeyMode.of old ≠ Rec.MeterSec.KeyMode.of b ∧
        Rec.MeterSec.Address.of old = Rec.MeterSec.Address.of b ∧ r.tenant = t ∧ r.keyGen = 0xFFFFFFFF then some .keygenExhausted
    else none
  effect s t i old b := s.bindMeter t i old b
  detail s c st i b := match s.dirFind (Rec.MeterSec.Address.of b) with
    | some k => if st = .addressInUse ∧ k ≠ i ∧ s.sees c (s.meterTenant k) then [k] else []
    | none => []

/-- Whether a write of a meter security record would insert an address that does not fit the directory (R276). -/
def State.needsRebuild (s : State) (slot body : Nat) : Bool :=
  Rec.MeterSec.Assigned.on body && !(s.assigned slot && s.rd Rec.MeterSec.Address slot == Rec.MeterSec.Address.of body) &&
    !s.dirFits slot (Rec.MeterSec.Address.of body)

/-- The rule table record (R296): its owner is the tenant of its header. -/
def ruleRuleTable : RecordRule where
  owner _ _ := .header
  writer _ c t _ := c.isOwner t

/-- The security policy record (R297). -/
def ruleSecPolicy : RecordRule where
  writer _ c _ _ := c.isOfficer
  absent s i _ := if s.tenantHere i then none else some .absentCapacity
  check s _ i _ b :=
    let others := (((List.range 16).filter fun t => t ≠ i && s.tenantHere t).map fun t => s.rd Rec.SecPolicy.QuarantineCap t).sum
    if s.isSealed i then some .refusedState
    else if 1048576 < others + Rec.SecPolicy.QuarantineCap.of b then some .quarantineSpace else none

def execSwardPolicyRecord (tenant inst : Nat) (body : List Byte) (s : State) : Out :=
  .next (s.applyRecord ruleSwardPolicy Schema.SwardPolicy tenant inst body)

def execMeterSecurityRecord (tenant inst : Nat) (body : List Byte) (s : State) : Out :=
  .next (s.applyRecord ruleMeterSec Schema.MeterSec tenant inst body)

def execRuleTableRecord (tenant inst : Nat) (body : List Byte) (s : State) : Out :=
  .next (s.applyRecord ruleRuleTable Schema.RuleTable tenant inst body)

def execSecurityPolicyRecord (tenant inst : Nat) (body : List Byte) (s : State) : Out :=
  .next (s.applyRecord ruleSecPolicy Schema.SecPolicy tenant inst body)

end Sys2Proof.Machine
end

