-- ==== Sys2Proof/Machine/Ledger.lean ====
section
/-! DEFINITION. Chapter 13: a frame applied by a record engine, a record restored, and entries that commit on the
partner's acknowledgement (R18, R335, R345 to R348). -/

namespace Sys2Proof.Machine

open Sys2Proof

/-! ### What a frame carries besides the record (R227, R592) -/

/-- A FloodReport item: progress per stream. A meter that reports a campaign's stream complete is due its activation. -/
def State.floodReport (s : State) (slot : Nat) (b : List Byte) : State :=
  if b.length = 0 ∨ b.length % 8 ≠ 0 ∨ 32 < b.length then s
  else (List.range (b.length / 8)).foldl (fun s i =>
    let e := slice b (8 * i) 8
    let n := leAt e 0 1
    let r : FloodReport := { complete := bitOn (leAt e 1 1) 0, contiguous := leAt e 2 3, held := leAt e 5 3, atMs := s.time.ms }
    let cs := s.upd.campaigns.map fun (c : Campaign) =>
      if c.kind = 3 ∧ ¬c.done ∧ c.stream = n ∧ r.complete ∧ (Map.get? c.meters slot).isNone then
        { c with meters := Map.put c.meters slot 1 } else c
    { s with upd := { s.upd with reports := Map.put s.upd.reports (slot, n) r, campaigns := cs } }) s

/-- A firmware activate result item (Table 23-11): the campaign whose stream it names holds the meter's result. -/
def State.activateResult (s : State) (slot : Nat) (b : List Byte) : State :=
  if b.length ≠ 2 ∨ 3 < leAt b 0 1 then s
  else { s with upd := { s.upd with campaigns := s.upd.campaigns.map fun (c : Campaign) =>
    if c.kind = 3 ∧ ¬c.done ∧ c.stream = leAt b 1 1 then { c with meters := Map.put c.meters slot (2 + leAt b 0 1) } else c } }

/-- The items of an accepted Lea or Ling frame that belong to other chapters: wake report, crossing report or Ling crossing,
FloodReport, activate result.
(Log entry 78: DEDUCED.) -/
def State.otherItems (s : State) (slot : Nat) (f : SecFrame) (items : List Item) : State :=
  let first (t : Nat) : Option (List Byte) := (items.find? fun it => it.1 == t).map Prod.snd
  let ling := f.h.trib.isSome
  let s := match first 0x80 with
    | some b => if ling then s else s.airObserve slot f.h.startAir f.tag (leaType f.h.frame != 10) b
    | none => s
  let s := if ling then
      let m := leAt f.h.desc 2 1 / 8 % 4
      if m = 0 then s else s.lingVote slot (m - 1) (toSigned 16 (leAt f.h.desc (34 + 2 * (m - 1)) 2))
    else match first 0x81 with
      | some b => if b.length = 4 then s.crossingVote slot f.h.startAir (leAt b 0 4) else s
      | none => s
  let s := match first 0xC5 with
    | some b => s.floodReport slot b
    | none => s
  match first 0x85 with
  | some b => s.activateResult slot b
  | none => s

/-! ### Applying a frame (R335) -/

/-- The register values of a frame (R333, R334). Only data that came unencrypted is walked for a profile the device does not
decrypt. -/
def State.frameRegs (s : State) (k : Nat) (f : SecFrame) : RegRead :=
  if f.kind = 0 then s.readRegs k (itemsOf f.payload)
  else if f.kind = 3 ∧ (readWm f.h.frame).mode ≠ 0 then {}
  else s.readRecords k f.payload

/-- Register items that are ignored: counted for the class and in Count[5], with `ledger.bad_register`. -/
def Applying.badRegs (a : Applying) (slot : Nat) (l : List (Nat × Nat)) : Applying :=
  l.foldl (fun a e =>
    let s := a.s.count { name := .ledIgnored, a := a.r.ledgerClass }
    { a with r := a.r.bump 5, s := s.raiseEvery hourMs .ledgerBadRegister slot a.r.tenant [slot, e.1, e.2] }) a

/-- Profile items that are ignored (R356). -/
def Applying.badProfile (a : Applying) (slot : Nat) (l : List (Nat × Nat)) : Applying :=
  l.foldl (fun a e =>
    let s := a.s.count { name := .tarIgnored, a := a.r.ledgerClass }
    { a with s := s.raiseEvery hourMs .tariffBadProfile slot a.r.tenant [slot, e.1, e.2] }) a

/-- Clock steps (R358): a split is logged and reported, a merged step counted. -/
def Applying.clockSteps (a : Applying) (slot t9 : Nat) (l : List ClockStep) : Applying :=
  l.foldl (fun a c =>
    if c.split then
      let s := (a.s.count { name := .tarSplits, a := a.r.ledgerClass }).clockLogAdd ⟨slot, a.r.tenant, 0, c.old, c.new, t9⟩
      { a with s := s.raiseEvery hourMs .tariffClockStep slot a.r.tenant [slot, c.old, c.new] }
    else { a with s := a.s.count { name := .tarMerged, a := a.r.ledgerClass } }) a

/-- The total-register values of a frame, then its rate-register values, as R335 orders them. -/
def Applying.totalRegs (a : Applying) (slot : Nat) (l : List (RegTarget × Nat)) : Applying :=
  l.foldl (fun a e => match e.1 with
    | .total stream => a.totalReg slot stream e.2
    | .rate _ _ => a) a

def Applying.rateRegs (a : Applying) (slot time : Nat) (l : List (RegTarget × Nat)) : Applying :=
  l.foldl (fun a e => match e.1 with
    | .total _ => a
    | .rate rs r => a.rateReg slot time rs r e.2) a

/-- The profile intervals of a frame in time order, with those booked. -/
def Applying.intervals (a : Applying) (slot t9 : Nat) (l : List Interval) : Applying × List (Interval × Rated) :=
  let x := l.foldl (Applying.interval slot t9) (a, prevEnds a.r.profileEnd, [])
  (x.1, x.2.2)

/-- The content of a reading export (R624), in ascending ItemType. -/
def Applying.content (a : Applying) (f : SecFrame) : List Byte :=
  (a.totals.flatMap fun t => a.s.rateItems a.r t.1 t.2.1 t.2.2) ++
    exportItem 2 (le 4 (f.counter.getD 0) ++ le 4 f.flags ++ le 1 f.auth) ++
    (match a.credit with
     | some (b, q) => exportItem 3 (le 8 (slotOf b) ++ le 2 q)
     | none => []) ++
    (a.settled.flatMap fun t => exportItem 4 (le 2 t.seq ++ le 1 t.st ++ le 8 t.amount)) ++
    (a.tamper.flatMap fun k => exportItem 5 (le 1 k ++ le 2 (Map.getD a.r.tamperCount k 0) ++ le 1 (bit (bitOn a.r.tamperSat k)) ++
      le 8 (Map.getD a.r.tamperFirst k 0) ++ le 8 (Map.getD a.r.tamperLast k 0))) ++
    (a.relay.flatMap fun x => exportItem 6 (le 1 x.1 ++ le 2 x.2.1 ++ le 1 x.2.2)) ++
    (a.profile.flatMap fun x => exportItem 7 x.bytes)

/-- The reason an accepted frame's audit record carries: rule flags are bits 8 to 31. -/
def SecFrame.acceptReason (f : SecFrame) : Reason := if 256 ≤ f.flags then .acceptFlagged else .accept

/-- The audit record of a frame the ledger has taken, at the Position of its entry. A frame released from quarantine has had its one record,
under QUARANTINE (R272).
(Log entry 78: DEDUCED.) -/
def State.auditTaken (s : State) (f : SecFrame) (position : Nat) : State :=
  if bitOn f.flags 2 then s else s.audit f f.acceptReason 0 position false

/-- The frame ring of a meter after a counterless frame: its newest 16 (R282). -/
def State.ringPut (s : State) (slot : Nat) (f : SecFrame) : State :=
  if f.assigned then
    { s with led := { s.led with rings := Map.upd s.led.rings slot [] fun l => ((f.print, stampS f.time) :: l).take 16 } }
  else s

/-- The engine's local copy after the steps of R335 that come before the counter, with the intervals booked. -/
def State.applyItems (s : State) (slot : Nat) (f : SecFrame) : Applying × List (Interval × Rated) :=
  let r := s.meter slot
  let k := r.ledgerClass
  let items := if f.kind = 0 then itemsOf f.payload else []
  let regs := s.frameRegs k f
  let prof := s.readProfile k (stampS f.time) items
  let a : Applying := { s := s, r := r }
  let a := ((a.badRegs slot regs.ignored).badProfile slot prof.ignored).clockSteps slot f.time prof.steps
  let a := a.totalRegs slot regs.vals
  let (a, done) := a.intervals slot f.time (joinParts prof.parts)
  let a := a.rateRegs slot f.time regs.vals
  let ack := f.kind = 0 ∧ leaType f.h.frame = 9
  let a := a.tokens slot f.time f.tag ack items
  (if ack then a.safeResponse slot items else a, done)

/-- A frame applied (R335, R336): discarded without effect on the ledger where its counter is not new (R17), and otherwise the record, the journal entry and the
export record written together; its audit record, ring entry and archive records follow.
(Log entry 78: DEDUCED.) -/
def State.applyFrame (s : State) (slot : Nat) (f : SecFrame) : State :=
  let c := f.counter.getD 0
  if c ≤ (s.meter slot).lastCounter then
    (s.count { name := .ledOld, a := f.tenant }).auditTaken f 0
  else
    let (a, done) := s.applyItems slot f
    let r := { a.r with
      snapshots := f.captures.foldl (fun m x => Map.put m x.1 x.2) a.r.snapshots, lastCounter := c, lastAccept := f.time }
    let a := { a with r := r }
    let s := a.s.commitMeter slot r
    let pos := s.newestPos
    let s := s.addExport 1 r.tenant slot f.time r.gap (decide (r.disputeMask ≠ 0)) (a.content f)
    let s := (s.ringPut slot f).count { name := .ledApplied, a := f.tenant }
    let s := { s with
      tar := { s.tar with waiting := s.tar.waiting ++ a.profile.map fun x => (pos, x) },
      sec := { s.sec with tombs := s.sec.tombs.filter fun t => !(t.1 == slot && decide (t.2 ≤ c)) } }
    let s := if c = 0xFFFFFFFF then s.raiseOnce .secCounterExhausted (slot * 2 ^ 32 + r.keyGen) r.tenant [slot, r.keyGen] else s
    let s := (s.creditBalance slot r done).otherItems slot f (if f.kind = 0 then itemsOf f.payload else [])
    (if a.profile.isEmpty then s else s.carry (.profile pos)).auditTaken f pos

/-- The oldest work of a tenant's queue whose meter's record can be read (R345, R347), and the queue without it.
(Log entry 77: DEDUCED.) -/
def takeWork (poisoned : List Nat) : List (Nat × LedgerJob) → Option ((Nat × LedgerJob) × List (Nat × LedgerJob))
  | [] => none
  | x :: rest =>
    if poisoned.contains x.1 then (takeWork poisoned rest).map fun y => (y.1, x :: y.2) else some (x, rest)

/-- What an application changed beside the record: the meter's other state, and the zones it is credited to (R442). -/
def State.carryMeter (s : State) (slot : Nat) : State :=
  let r := s.meter slot
  let zones := (s.balMeter slot).zone.toList ++ (if r.zoneAssigned then [r.zone] else [])
  s.carryAll (.meter slot :: zones.eraseDups.map Kept.zone)

/-- LEDGER_APPLY: an engine in service that is not SLOW takes the oldest work of a tenant's queue and applies it (R38, R335, R345);
its output is discarded where the ticket it carries has been revoked (R27). The ledger applies nothing before its records are
restored (R348).
(Log entry 77: DEDUCED.) -/
def execLedgerApply (engine tenant ticket : Nat) (s : State) : Out :=
  if ¬s.led.ready ∨ !s.cellWorks (engineUnit engine) ∨ 32 ≤ engine ∨ s.revokedTicket ticket ∨ s.saveHalts ∨ !s.regionOn 8 ∨
      s.pair.st = .handingOver then .next s
  else match takeWork s.led.poisoned (Map.getD s.led.queues tenant []) with
    | none => .next s
    | some (x, rest) =>
      let s := { s with led := { s.led with queues := Map.put s.led.queues tenant rest } }
      let s := s.charge .engines tenant 1
      match x.2 with
      | .frame f => .next (((s.count { name := .ledEngApp, a := engine }).applyFrame x.1 f).carryMeter x.1).releaseExports
      | j => .next ((s.runJob x.1 j).carryMeter x.1).releaseExports

/-! ### Restoring a record (R347, R348) -/

/-- The image of a meter record in the journal's newest LEDGER entry for it.
(Log entry 76: DESIGN CHOICE.) -/
def State.journalImage (s : State) (slot : Nat) : Option MeterRec :=
  (s.store.journal.reverse.findSome? fun e => match e.body with
    | .image n r _ => if n = slot then some r else none
    | _ => none)

/-- A record as R348 leaves it after a gap: Gap set, baselines, fall-backs, disputes and held resolutions cleared. -/
def MeterRec.gapped (r : MeterRec) : MeterRec :=
  { r with gap := true, baselineTotal := 0, baselineRate := 0, fb := [], fbBroken := 0, disputeMask := 0, resolveMain := 0,
           resolveFb := 0, lastRate := [] }

/-- A table of free values: `n` entries of `w` bits. -/
def State.drawTable (s : State) (n w : Nat) : Map Nat Nat × State :=
  (List.range n).foldl (fun x i =>
    let (v, s) := x.2.draw w
    (Map.put x.1 i v, s)) ([], s)

/-- A record rebuilt because both checkpoint copies are unreadable (R348, R465): from its image in the journal, or, where the
journal holds none, with totals, counters and balance that the spec does not state.
(Log entry 76: DESIGN CHOICE.) -/
def State.rebuildMeter (s : State) (slot : Nat) : State :=
  let r := s.meter slot
  let (r, s) := match s.journalImage slot with
    | some i => (i, s)
    | none =>
      let (total, s) := s.drawTable 64 64
      let (c, s) := s.draw 32
      let (d, s) := s.draw 32
      let (e, s) := s.draw 64
      let (b, s) := s.draw 64
      let (q, s) := s.draw 32
      ({ r with
         total := total, lastCounter := c, downCtr := d, profileEnd := e,
         credit := toSigned 64 b, tokenSeq := q % 2 ^ 16, tokenAck := q / 2 ^ 16 }, s)
  (s.commitMeter slot r.gapped).raise .ledgerGap r.tenant [slot]

/-- RECORD_POISONED: `readable` says whether a checkpoint copy of the record can be read. Checkpoint and journal give the
record exactly (R465); without them the gap procedure applies.
(Log entry 76: DESIGN CHOICE.) -/
def execRecordPoisoned (slot readable : Nat) (s : State) : Out :=
  let r := s.meter slot
  if ¬r.active then .next s
  else
    let s := s.raise .ledgerRecordPoisoned r.tenant [slot]
    let s := { s with led := { s.led with poisoned := s.led.poisoned.filter (· ≠ slot) } }
    .next (if readable = 0 then s.rebuildMeter slot else s)

/-! ### Commit (R18) -/

/-- The entries of a journal that fit the buffer and that `ready` admits, committed in order: `room` is what the buffer still
takes. -/
def commitFill (ready : JEntry → Bool) : Nat → List JEntry → List JEntry
  | _, [] => []
  | room, e :: rest =>
    if e.committed then e :: commitFill ready (room - (if e.copied then 0 else e.size)) rest
    else if ready e ∧ (e.copied ∨ e.size ≤ room) then
      { e with committed := true } :: commitFill ready (room - (if e.copied then 0 else e.size)) rest
    else e :: rest

/-- The entries that `ready` admits commit, where nothing holds the journal: no save runs, an erased save slot is left (R661), the store
does not restart (Table 2-5), and journal and buffer have room (R18, R463). -/
def State.commitReady (s : State) (ready : JEntry → Bool) : State :=
  if s.saveHalts ∨ ¬s.saveRoom ∨ s.restarting 9 ∨ s.journalRoom ≤ s.journalBytes then s
  else ({ s with store := { s.store with journal := commitFill ready journalBuffer s.store.journal } }).writeIntervals.releaseExports

/-- The entries that waited commit where nothing holds them any more: with a partner, those it has acknowledged (R18). -/
def State.commitSweep (s : State) : State :=
  match s.pair.st with
  | .activePaired | .activeHold | .handingOver => s.commitReady fun (e : JEntry) => decide (e.position ≤ s.pair.ackedPos)
  | .activeSolo => s.commitReady fun _ => true
  | _ => s

/-- Once every entry is acknowledged in HANDING_OVER, the final Position is sent (R564 step 3). -/
def State.sendFinal (s : State) : State :=
  if s.pair.st = .handingOver ∧ ¬s.pair.pfSent ∧ s.lastPos ≤ s.pair.ackedPos then
    ({ s with pair := { s.pair with pfSent := true } }).sendPartner 0 10 [s.lastPos]
  else s

/-- The partner acknowledges every entry up to a Position (R552). -/
def State.takeAck (s : State) (position : Nat) : State :=
  let fresh := (s.store.journal.filter fun (e : JEntry) => decide (s.pair.ackedPos < e.position ∧ e.position ≤ position)).length
  let s := s.count { name := .pairAcked } fresh
  let s := { s with
    store := { s.store with journal := s.store.journal.map fun (e : JEntry) => if e.position ≤ position then { e with acked := true } else e }
    pair := { s.pair with ackedPos := max s.pair.ackedPos position } }
  match s.pair.st with
  | .activePaired | .activeHold | .handingOver => s.commitSweep.sendFinal
  | _ => s

/-- JOURNAL_ACK: the partner acknowledges the entries up to a Position. Only entries streamed to it can be acknowledged. -/
def execJournalAck (position : Nat) (s : State) : Out :=
  if s.journals ∧ s.pair.streaming ∧ position ≤ s.newestPos then .next (s.takeAck position) else .next s

end Sys2Proof.Machine
end

