-- ==== Sys2Proof/Machine/Flash.lean ====
section
/-! DEFINITION. Flash and DRAM beneath the store: sectors and journal entries as they are programmed, the block and page maps of the
partitions, the population of dies, and the integrity tags of DRAM lines (R449 to R462, R466, R469 to R471). -/

namespace Sys2Proof.Machine

open Sys2Proof

/-! ### Keys (Table 12-6) -/

/-- The namespace epoch of a tenant. -/
def State.nsEpoch (s : State) (t : Nat) : Nat := Map.getD s.store.nsEpochs t 0

/-- The namespace key of a tenant: EWNS over the tenant and its namespace epoch (Table 12-6). -/
def State.nsKey (s : State) (t : Nat) : List Byte := kdf s.rootKey (ascii [0x45, 0x57, 0x4E, 0x53]) (le 1 t ++ le 4 (s.nsEpoch t)) 256

/-- The DRAM tag key of a tenant: EWDT over the tenant and the boot nonce (Table 12-6). -/
def State.dramKey (s : State) (t : Nat) : List Byte := kdf s.rootKey (ascii [0x45, 0x57, 0x44, 0x54]) (le 1 t ++ s.store.bootNonce) 256

/-! ### Sectors (R451, R453, Table 18-1) -/

/-- The tenant whose namespace a partition is. -/
def partTenant (p : Nat) : Nat := p - 16

/-- The 16 bytes of Meta of a sector. -/
def sectorMeta (seq lblock page sector part : Nat) : List Byte :=
  le 8 seq ++ le 4 lblock ++ le 2 (page % 4096 + sector % 4 * 4096) ++ le 1 part ++ le 1 0

/-- The nonce of a sector: WriteSeq, partition code, and the low 32 bits of the owning namespace's epoch. -/
def State.sectorNonce (s : State) (seq part : Nat) : List Byte := le 8 seq ++ le 1 part ++ le 4 (s.nsEpoch (partTenant part) % 2 ^ 32)

/-- A sector as it is programmed, before its parity: ciphertext, Meta and tag, 4 128 bytes (R451). -/
def State.sealSector (s : State) (seq lblock page sector part : Nat) (data : List Byte) : List Byte :=
  let m := sectorMeta seq lblock page sector part
  let (c, tag) := ccmEnc (s.nsKey (partTenant part)) (s.sectorNonce seq part) m data 16
  c ++ m ++ tag

/-- The data of a sector as LDPC decoding gives it, where its CCM tag verifies under the present epoch (R451, R453, R460). -/
def State.openSector (s : State) (part : Nat) (b : List Byte) : Option (List Byte) :=
  if b.length = 4128 ∧ leAt b 4110 1 = part then
    ccmDec (s.nsKey (partTenant part)) (s.sectorNonce (leAt b 4096 8) part) (slice b 4096 16) (slice b 0 4096) (slice b 4112 16)
  else none

/-! ### Journal entries (R462, Table 18-4) -/

/-- The body of an entry in bytes.
(Log entry 94: DESIGN CHOICE.) -/
def JBody.bytes : JBody → List Byte
  | .config rid inst tenant body _ => le 2 rid ++ le 2 0 ++ le 4 inst ++ le 1 tenant ++ le 7 0 ++ le ((Nat.log2 body + 8) / 8) body
  | .image slot r _ => r.bytes slot
  | .words l => l.flatMap (le 8)

/-- The 32-byte header of an entry. -/
def JEntry.header (e : JEntry) : List Byte :=
  le 8 e.position ++ le 6 e.objSeq ++ le 1 e.kind.code ++ le 1 e.tenant ++ le 4 e.object ++ le 2 e.body.bytes.length ++ le 2 0 ++
    le 8 e.stamp

/-- An entry as both copies hold it: header, the body encrypted under the namespace key of its tenant with the header as associated data,
tag, and padding to 16 bytes (R462). -/
def State.sealEntry (s : State) (e : JEntry) : List Byte :=
  let (c, tag) := ccmEnc (s.nsKey e.tenant) (le 8 e.position ++ le 1 e.tenant ++ le 4 (s.nsEpoch e.tenant)) e.header e.body.bytes 16
  pad16 (e.header ++ c ++ tag)

/-! ### Dies (R449, R450, R458) -/

/-- A die. -/
def State.die (s : State) (c d : Nat) : Die := Map.getD s.store.dies (c, d) {}

/-- The state with a die set. -/
def State.setDie (s : State) (c d : Nat) (x : Die) : State :=
  { s with store := { s.store with dies := Map.put s.store.dies (c, d) x } }

/-- Whether the population has a die. -/
def State.dieHere (s : State) (c d : Nat) : Bool := decide (c < s.flashChannels ∧ d < s.store.diesPer)

/-- The number of a die, as counters and BOOT_STAGE_DONE give it. -/
def dieKey (c d : Nat) : Nat := c * 256 + d

/-- The number of a block in a list: its die's, then 16 bits. -/
def blockKey (c d b : Nat) : Nat := dieKey c d * 65536 + b

/-- The block of a number. -/
def keyBlock (n : Nat) : Nat × Nat × Nat := (n / 65536 / 256, n / 65536 % 256, n % 65536)

/-- What a die's identification reads, as BOOT_STAGE_DONE brings it: the die, the data and spare bytes of a page, planes, pages per
block, SLC mode, read retry, blocks, rated endurance, measured program time in µs, and the blocks with a factory mark. -/
structure ParamPage where
  die : Nat
  data : Nat
  spare : Nat
  planes : Nat
  pages : Nat
  slc : Bool
  retry : Bool
  blocks : Nat
  endurance : Nat
  progUs : Nat
  marks : List Nat
  deriving DecidableEq, Repr

/-- A die's identification from a list of numbers. -/
def ParamPage.ofList (l : List Nat) : ParamPage :=
  let w (i : Nat) : Nat := l.getD i 0
  { die := w 0, data := w 1, spare := w 2, planes := w 3, pages := w 4, slc := decide (w 5 = 1), retry := decide (w 6 = 1),
    blocks := w 7, endurance := w 8, progUs := w 9, marks := l.drop 10 }

/-- The parts of a parameter page that every die in use shares (R450). -/
def ParamPage.config (p : ParamPage) : List Nat := [p.data, p.spare, p.planes, p.pages, p.blocks, p.endurance]

/-- Whether a die qualifies (R449). -/
def ParamPage.fits (p : ParamPage) : Bool :=
  p.data == 16384 && decide (2048 ≤ p.spare) && (p.planes == 2 || p.planes == 4) && decide (256 ≤ p.pages ∧ p.pages ≤ 4096) &&
    p.slc && p.retry

/-- The configuration that most qualifying dies share, the first of those that as many share (R450).
(Log entry 176: DESIGN CHOICE.) -/
def adopted (l : List ParamPage) : Option ParamPage :=
  leastBy (fun (p : ParamPage) => l.length - (l.filter fun q => q.config == p.config).length) l

/-- A die left out of use. -/
def State.leaveDie (s : State) (k : Nat) : State :=
  let x := s.die (k / 256) (k % 256)
  if !s.dieHere (k / 256) (k % 256) || decide (x.st = .failed) then s else s.setDie (k / 256) (k % 256) { x with st := .unused }

/-- A die's factory marks enter the bad-block table at its first format (R458). -/
def State.formatDie (s : State) (p : ParamPage) : State :=
  let x := s.die (p.die / 256) (p.die % 256)
  if x.formatted ∨ !s.dieHere (p.die / 256) (p.die % 256) then s
  else s.setDie (p.die / 256) (p.die % 256) { x with badBlocks := addNew x.badBlocks p.marks, formatted := true }

/-- Die identification: dies that do not qualify stay unused (R449), and so does each die whose parameter page differs from the
configuration that most dies share, which raises store.die_mismatch (R450). -/
def State.identifyDies (s : State) (l : List ParamPage) : State :=
  let good := l.filter ParamPage.fits
  match adopted good with
  | none => s
  | some a =>
    let s := { s with store := { s.store with
      blocksPerDie := a.blocks, pagesPerBlock := a.pages, endurance := a.endurance, progUs := a.progUs } }
    let s := (l.filter fun p => !p.fits).foldl (fun s p => s.leaveDie p.die) s
    let s := (good.filter fun p => p.config != a.config && s.dieHere (p.die / 256) (p.die % 256)).foldl
      (fun s p => (s.leaveDie p.die).raise .storeDieMismatch 0 [p.die / 256, p.die % 256]) s
    (good.filter fun p => p.config == a.config).foldl State.formatDie s

/-! ### Partitions and their blocks (R452, R454, R456) -/

/-- Bytes of a page. -/
def pageBytes : Nat := 16384

/-- The size of one copy of a partition, in GiB; the save partition holds its two slots and has none. -/
def partGiB (body p : Nat) : Nat :=
  if p = 0 then Rec.Partition.SystemGiB.of body else if p = 1 then Rec.Partition.JournalGiB.of body
  else if p = 3 then Rec.Partition.CaptureGiB.of body
  else if 16 ≤ p ∧ p < 32 then (Rec.Partition.NsGiB (p - 16)).of body else 0

/-- The copies of a partition (Table 18-2). -/
def partCopies (p : Nat) : Nat := if p ≤ 1 then 2 else 1

/-- The copy of a mirrored partition that a channel holds: copy 0 on even channels, copy 1 on odd (Table 18-2). -/
def copyOf (part channel : Nat) : Nat := if part ≤ 1 then channel % 2 else 0

/-- The partition codes. -/
def partCodes : List Nat := [0, 1, 2, 3] ++ (List.range 16).map (16 + ·)

/-- The partition record in force. -/
def State.partBody (s : State) : Nat := s.bodyOf Schema.Partition 0

/-- The dies in use. -/
def State.diesInUse (s : State) : Nat :=
  ((List.range s.flashChannels).map fun c => ((List.range s.store.diesPer).filter fun d =>
    let st := (s.die c d).st
    st == .inUse || st == .slow).length).sum

/-- The save dies: two of each present channel, where it has them in use (Table 18-2, R464). -/
def State.saveDies (s : State) : Nat :=
  ((List.range s.flashChannels).map fun c => min 2 ((List.range s.store.diesPer).filter fun d =>
    let st := (s.die c d).st
    st == .inUse || st == .slow).length).sum

/-- The bytes of the usable dies. -/
def State.flashBytes (s : State) (dies : Nat) : Nat := dies * s.store.blocksPerDie * s.store.pagesPerBlock * pageBytes

/-- The blocks of a partition. -/
def State.partBlocks (s : State) (p : Nat) : List ((Nat × Nat × Nat) × BlockSt) := s.store.blocks.filter fun e => e.2.part == p

/-- The pages of a partition that hold live data, and those programmed since their block was erased. -/
def State.partLive (s : State) (p : Nat) : Nat := ((s.partBlocks p).map fun e => e.2.valid).sum
def State.partUsed (s : State) (p : Nat) : Nat := ((s.partBlocks p).map fun e => e.2.used).sum

/-- The blocks that the size of a partition gives it, over all copies. -/
def State.partRoom (s : State) (p : Nat) : Nat :=
  partCopies p * partGiB s.partBody p * 2 ^ 30 / (pageBytes * s.store.pagesPerBlock)

/-- The free blocks of a partition: those its size still gives it.
(Log entry 83: DESIGN CHOICE.) -/
def State.freeBlocks (s : State) (p : Nat) : Nat := s.partRoom p - (s.partBlocks p).length

/-- The dies of a partition's stripe (Table 18-2). -/
def State.stripeDies (s : State) (p : Nat) : Nat :=
  match p with
  | 0 => 1
  | 1 => 4
  | 2 => 2 * s.flashChannels
  | 3 => s.diesInUse
  | _ => s.flashChannels

/-- The class of a partition's reclamation follows its free blocks (R456): commit below 4 per stripe die, for the journal, the system and
the namespaces, and bulk again at 8. -/
def State.reclaimClass (s : State) (p : Nat) : State :=
  let free := s.freeBlocks p
  let up := decide (p ≠ 2 ∧ p ≠ 3 ∧ free < 4 * s.stripeDies p)
  let down := decide (8 * s.stripeDies p ≤ free)
  let was := s.store.promoted.contains p
  { s with store := { s.store with promoted := if up || (was && !down) then addNew s.store.promoted [p] else s.store.promoted.filter (· ≠ p) } }

/-- A block of a partition set, and the class of its reclamation after it. -/
def State.setBlock (s : State) (k : Nat × Nat × Nat) (x : BlockSt) : State :=
  ({ s with store := { s.store with blocks := Map.put s.store.blocks k x } } : State).reclaimClass x.part

/-- Whether a block takes one more page of a partition (R452, R454): it is the partition's and has a page left, or it is free and the
partition's size gives it another block. The save partition's blocks are those of its two slots. -/
def State.takesPage (s : State) (part : Nat) (k : Nat × Nat × Nat) : Bool :=
  let x := s.die k.1 k.2.1
  s.dieHere k.1 k.2.1 && (x.st == .inUse || x.st == .slow) && !x.badBlocks.contains k.2.2 && decide (k.2.2 < s.store.blocksPerDie) &&
    match Map.get? s.store.blocks k with
    | some b => b.part == part && decide (b.used < s.store.pagesPerBlock)
    | none => part == 2 || decide (0 < s.freeBlocks part)

/-- One valid page fewer in a block. -/
def State.loseValid (s : State) (k : Nat × Nat × Nat) : State :=
  match Map.get? s.store.blocks k with
  | some x => s.setBlock k { x with valid := x.valid - 1 }
  | none => s

/-- A logical page of a copy programmed and read back: its map entry switches to the block that now holds it (R454). -/
def State.putPage (s : State) (p : Nat × Nat × Nat) (k : Nat × Nat × Nat) : State :=
  let s := match Map.get? s.store.pages p with
    | some old => s.loseValid old
    | none => s
  let x := (Map.get? s.store.blocks k).getD { part := p.1 }
  let s := s.setBlock k { x with used := x.used + 1, valid := x.valid + 1 }
  { s with store := { s.store with pages := Map.put s.store.pages p k } }

/-- A logical page whose content has been released leaves the map (Table 18-2). -/
def State.freePage (s : State) (p : Nat × Nat × Nat) : State :=
  match Map.get? s.store.pages p with
  | some k => { s.loseValid k with store := { (s.loseValid k).store with pages := Map.del s.store.pages p } }
  | none => s

/-- A block erased: it returns to its die's free pool (R452). -/
def State.eraseBlock (s : State) (k : Nat × Nat × Nat) : State :=
  let x := s.die k.1 k.2.1
  let s := (s.setDie k.1 k.2.1 { x with erases := Map.upd x.erases k.2.2 0 (· + 1) }).count { name := .stErased, a := dieKey k.1 k.2.1 }
  match Map.get? s.store.blocks k with
  | some b => ({ s with store := { s.store with blocks := Map.del s.store.blocks k } } : State).reclaimClass b.part
  | none => s

/-- The pages that a block holds. -/
def State.pagesIn (s : State) (k : Nat × Nat × Nat) : List (Nat × Nat × Nat) := (s.store.pages.filter fun e => e.2 == k).map Prod.fst

/-- Pages copied into the first block of a list that takes each (R455), with what is programmed counted; none where they do not fit. -/
def State.copyPages (s : State) (into : List (Nat × Nat × Nat)) : List (Nat × Nat × Nat) → Option State
  | [] => some s
  | p :: l =>
    match into.find? fun k => s.takesPage p.1 k && copyOf p.1 k.1 == p.2.1 with
    | none => none
    | some k =>
      let s := ((s.putPage p k).count { name := .stReclaim, a := p.1 } pageBytes).count { name := .stProg, a := dieKey k.1 k.2.1 } 4
      State.copyPages { s with store := { s.store with writeSeq := s.store.writeSeq + 4 } } into l

/-- The closed block of a partition with the fewest valid pages, on a die that works (R455). -/
def State.victim (s : State) (p : Nat) : Option (Nat × Nat × Nat) :=
  (leastBy (fun (e : (Nat × Nat × Nat) × BlockSt) => e.2.valid) ((s.partBlocks p).filter fun e =>
    let x := s.die e.1.1 e.1.2.1
    e.2.used == s.store.pagesPerBlock && x.st != .failed && x.st != .unused && !x.badBlocks.contains e.1.2.2)).map Prod.fst

/-- Whether partitions of a body fit dies, with the spare reserve and two save slots of 4 MiB (R476).
(Log entry 86: DEDUCED.) -/
def State.partsFit (s : State) (body dies : Nat) : Bool :=
  let cap := s.flashBytes dies
  let sum := (partCodes.map fun p => partCopies p * partGiB body p).sum * 2 ^ 30
  decide (sum + cap * Rec.Partition.SpareReservePermille.of body / 1000 + 8 * 2 ^ 20 ≤ cap)

/-! ### DRAM lines (R469 to R471, Table 18-8) -/

/-- The sizes in MiB of the areas of Table 18-8, in its order, for 16 or 32 GiB: with 32 GiB the tag store takes 4 GiB and the flash read
cache the rest of the increase (R469). -/
def areaMiB (gib : Nat) : List Nat :=
  [if gib = 32 then 4096 else 2048, 1024, 1024, 256, 256, 336, 2048, 2048, 2048, 528, 36, 512, 256,
    if gib = 32 then 3964 + 14336 else 3964]

/-- The area that holds a physical address, the areas laid out in the table's order from address 0.
(Log entry 84: DESIGN CHOICE.) -/
def State.areaAt (s : State) (address : Nat) : Nat :=
  ((areaMiB s.arch.dramGiB).foldl (fun (x : Nat × Nat) n => (x.1 + n * 2 ^ 20, if x.1 + n * 2 ^ 20 ≤ address then x.2 + 1 else x.2))
    (0, 0)).2

/-- The tag of a 64-byte line under a tenant's key (R470). -/
def lineTag (key : List Byte) (address : Nat) (data : List Byte) : List Byte := (cmac key (le 8 address ++ data)).take 8

/-- The tag of a poisoned line (R471). -/
def poisonTag (key : List Byte) (address : Nat) : List Byte := lineTag key address (List.replicate 64 0xA5)

/-- Whether a read of a line, its 64 bytes and its tag, verifies (R470). -/
def State.lineVerifies (s : State) (tenant address : Nat) (read : List Byte) : Bool :=
  read.length == 72 && decide (read.drop 64 = lineTag (s.dramKey tenant) address (read.take 64))

end Sys2Proof.Machine
end

