-- ==== Sys2Proof/Machine/Store.lean ====
section
/-! DEFINITION. Chapter 18: flash dies and partitions, the journal's copies, checkpoints, reclamation and wear, DRAM integrity,
and the store's commands and records (R449 to R479). -/

namespace Sys2Proof.Machine

open Sys2Proof

/-! ### Dies and partitions (R449 to R456) -/

/-- A block retired into the bad-block table. -/
def State.retireBlock (s : State) (c d block : Nat) : State :=
  let x := s.die c d
  if x.badBlocks.contains block then s
  else (s.setDie c d { x with badBlocks := x.badBlocks ++ [block] }).count { name := .stRetired, a := dieKey c d }

/-- A die that fails (R461), or whose retirement completes: its content is placed anew, and the die leaves use.
(Log entry 81: DEDUCED.) -/
def State.failDie (s : State) (c d cause : Nat) : State :=
  let x := s.die c d
  let st := if cause = 2 then DieSt.unused else .failed
  (s.setDie c d { x with st := st }).raise .storeDieFailed 0 [c, d, cause]

/-- DIE_FAILED: a die stops answering (cause 1), or the data of a retiring die has been moved (cause 2). Three failed operations
in a row (cause 0) are counted where they fail.
(Log entry 81: DEDUCED.) -/
def execDieFailed (channel die cause : Nat) (s : State) : Out :=
  let x := s.die channel die
  if ¬s.dieHere channel die ∨ x.st = .failed ∨ x.st = .unused then .next s
  else if cause = 2 ∧ (x.st ≠ .retiring ∨ s.store.blocks.any fun e => e.1.1 == channel && e.1.2.1 == die && decide (0 < e.2.valid)) then .next s
  else .next (s.failDie channel die (if cause = 2 then 2 else 1))

/-- An operation on a die fails or passes: three failures in a row fail the die. -/
def State.dieOp (s : State) (c d : Nat) (ok : Bool) : State :=
  let x := s.die c d
  let n := if ok then 0 else x.consecFails + 1
  let s := s.setDie c d { x with consecFails := n }
  if n = 3 then s.failDie c d 0 else s

/-- FLASH_PROGRAM_DONE: the program of logical page `page` of a partition into a block (op 0), or the erase of a block that holds no
valid page (op 1), completes, or fails and retires its block. The data of a failed program stays staged and is programmed elsewhere
(R459), so a failure changes no partition. A page moved out of a retired block counts as reclamation (R460).
(Log entry 80: DESIGN CHOICE.) -/
def execFlashProgramDone (channel die block part op page ok : Nat) (s : State) : Out :=
  let x := s.die channel die
  if ¬s.dieHere channel die ∨ x.st = .failed ∨ x.st = .unused ∨ x.badBlocks.contains block then .next s
  else
    let k := dieKey channel die
    let s := s.dieOp channel die (ok ≠ 0)
    if ok = 0 then
      let s := s.retireBlock channel die block
      .next (s.raiseEvery hourMs .storeBlockRetired k 0 [channel, die, s.ctr { name := .stRetired, a := k }])
    else
      let at' := (channel, die, block)
      if op = 1 then
        if (Map.get? s.store.blocks at').any fun b => decide (0 < b.valid) then .next s
        else .next ((s.charge .flash (partTenant part) 1).eraseBlock at')
      else if !partCodes.contains part || !s.takesPage part at' then .next s
      else
        let logical := (part, copyOf part channel, page)
        let old := Map.get? s.store.pages logical
        let moved := old.any fun b => (s.die b.1 b.2.1).badBlocks.contains b.2.2
        let s := (s.charge .flash (partTenant part) 1).putPage logical at'
        let s := if part = 3 ∧ old.isNone then s.captureWritten pageBytes else s
        let s := { s with store := { s.store with writeSeq := s.store.writeSeq + 4 } }
        let s := s.count { name := .stProg, a := k } 4
        .next (s.count { name := if moved then .stReclaim else .stHost, a := part } pageBytes)

/-! ### Unreadable sectors (R460, Table 18-3) -/

/-- A loss entered in the list and reported. -/
def State.lose (s : State) (tenant kind first n : Nat) : State :=
  let e : LostEntry := { tenant := tenant, kind := kind, first := first, count := n, stamp := s.stamp }
  ({ s with store := { s.store with lost := s.store.lost ++ [e] } }).raise .storeDataLost tenant [tenant, kind, n]

/-- The entries of a list that belong to a tenant, without `n` of them from the `first` on. -/
def dropMine {α : Type} (mine : α → Bool) (first n : Nat) : Nat → List α → List α
  | _, [] => []
  | k, x :: l =>
    if mine x then (if first ≤ k ∧ k < first + n then dropMine mine first n (k + 1) l else x :: dropMine mine first n (k + 1) l)
    else x :: dropMine mine first n k l

/-- The open intervals of a zone dropped without a result (R444, R465). -/
def State.dropOpen (s : State) (zone : Nat) : State :=
  { s with bal := { s.bal with zones := Map.upd s.bal.zones zone {} fun (z : BalZone) => { z with openIv := [] } } }

/-- An item that neither checkpoint generation gives (R465): a meter's record becomes a gap, a zone's open intervals are
dropped, and any other item is listed. `first` is twice the object for a meter, twice the object plus one for a zone, all ones for
another item. -/
def State.itemLost (s : State) (tenant first : Nat) : State :=
  if first = noValue then s.lose tenant 2 0 1
  else if first % 2 = 0 then (if (s.meter (first / 2)).active then s.rebuildMeter (first / 2) else s)
  else s.dropOpen (first / 2)

/-- Content that neither recourse gives, by the content kind: 0 system, 1 journal, 2 checkpoint area, 3 profile archive, 4 clock
log, 5 metrology intervals, 6 zone results, 7 final token log entries, 8 frame audit, 9 capture. Kinds 3 to 9 lose `n` of the
tenant's entries from the `first` on (of a capture, `n` samples of the capture `tenant`). -/
def State.loseContent (s : State) (content tenant first n : Nat) : State :=
  match content with
  | 0 => s.lose 0 0 first n
  | 1 => s.itemLost tenant first
  | 2 => s.itemLost tenant first
  | 3 =>
    let s := { s with tar := { s.tar with archive := dropMine (fun (a : ArchRec) => a.tenant == tenant) first n 0 s.tar.archive } }
    s.lose tenant 3 first n
  | 4 =>
    let l := Map.getD s.tar.clockLog tenant []
    let s := { s with tar := { s.tar with clockLog := Map.put s.tar.clockLog tenant (l.take first ++ l.drop (first + n)) } }
    s.lose tenant 4 first n
  | 5 =>
    let s := { s with met := { s.met with intervals := dropMine (fun _ => tenant == 0) first n 0 s.met.intervals } }
    s.lose tenant 5 first n
  | 6 =>
    let s := { s with bal := { s.bal with results := dropMine (fun (r : BalResult) => r.tenant == tenant) first n 0 s.bal.results } }
    s.lose tenant 6 first n
  | 7 =>
    let mine (t : TokenEntry) : Bool := t.tenant == tenant && tokenFinal t.st
    let s := { s with pre := { s.pre with tokens := dropMine mine first n 0 s.pre.tokens } }
    s.lose tenant 7 first n
  | 8 =>
    let s := { s with store := { s.store with audits := dropMine (fun (x : AuditRec) => x.tenant == tenant) first n 0 s.store.audits } }
    s.lose tenant 8 first n
  | _ =>
    let s := { s with filt := { s.filt with captures := s.filt.captures.map fun (c : Capture) =>
      if c.id = tenant then
        { c with
          words := Map.mapV c.words fun _ l => l.mapIdx fun i (x : OutSmp) => if first ≤ i ∧ i < first + n then { x with v := {} } else x,
          gaps := c.gaps ++ [({ first := first, count := n, cause := 1 } : GapEntry)] }
      else c } }
    s.lose 0 9 first n

/-- FLASH_READ_DONE: a sector read is decoded after hard decoding (outcome 0), a read retry (1), soft decoding (2), or by none of them (3),
as on a failed die; `sector` is what decoding gave. Where its CCM tag fails too the sector is unreadable (R460). `mirrored` says whether the other copy, or for a checkpoint item the older generation, is
readable. The block of an unreadable sector is retired.
(Log entry 80: DESIGN CHOICE.)
(Log entry 81: DEDUCED.) -/
def execFlashReadDone (channel die block part outcome content tenant first n mirrored : Nat) (sector : List Byte) (s : State) : Out :=
  if ¬s.dieHere channel die ∨ (s.die channel die).st = .unused then .next s
  else
    let k := dieKey channel die
    let dead := decide ((s.die channel die).st = .failed)
    let o := if dead then 3 else outcome
    let s := s.count { name := .stRead, a := k }
    let s := if 1 ≤ o then s.count { name := .stRetry, a := k } else s
    let s := if 2 ≤ o then s.count { name := .stSoft, a := k } else s
    if o < 3 ∧ (s.openSector part sector).isSome then .next (s.dieOp channel die true)
    else
      let s := s.count { name := .stUnread, a := part }
      let s := if dead then s else (s.dieOp channel die (decide (o < 3))).retireBlock channel die block
      if mirrored ≠ 0 ∧ content ≤ 1 then .next (s.raise .storeCopyRepaired 0 [part, 1])
      else if mirrored ≠ 0 ∧ content = 2 then .next s
      else .next (s.loseContent content tenant first n)

/-! ### The journal's copies (R463) -/

/-- A slot is erased once every entry of its tail is in both copies (R464, R661).
(Log entry 106: DESIGN CHOICE.) -/
def State.eraseSlots (s : State) : State :=
  { s with pow := { s.pow with saveSlots := s.pow.saveSlots.map fun (x : SaveSlot) =>
    if x.erased ∨ s.store.journal.any fun (e : JEntry) => !e.copied && decide (x.first ≤ e.position ∧ e.position ≤ x.last) then x
    else {} } }

/-- Entries programmed and read back in both copies leave the buffer; entries that waited for room follow. -/
def execJournalCopiesProgrammed (position : Nat) (s : State) : Out :=
  if s.restarting 9 then .next s
  else .next ({ s with store := { s.store with journal := s.store.journal.map fun (e : JEntry) =>
    if e.position = position then { e with copied := true } else e } }).eraseSlots.commitSweep

/-! ### Checkpoints (R465, R466) -/

/-- Free journal space, in thousandths. -/
def State.journalFree (s : State) : Nat := (s.journalRoom - s.journalBytes) * 1000 / max s.journalRoom 1

/-- CheckpointIntervalS has passed, or free journal space lies below JournalForcePermille. -/
def execCheckpointStart (s : State) : Out :=
  let due := decide (s.store.ckptMs + 1000 * s.rd Rec.StorePolicy.CheckpointIntervalS 0 ≤ s.time.ms)
  let low := decide (s.journalFree < s.rd Rec.StorePolicy.JournalForcePermille 0)
  if (due ∨ low) ∧ ¬s.restarting 9 then .next s.startCheckpoint else .next s

/-- The journal without what lies below the older committed generation (R463). -/
def State.pruneJournal (s : State) : State :=
  match s.store.generations with
  | [_, old] =>
    let l := s.store.journal.filter fun (e : JEntry) => !(decide (e.position < old.startPos ∧ e.position ≠ s.lastPos) && e.committed && e.copied)
    let s := { s with store := { s.store with journal := l, journalStart := max s.store.journalStart old.startPos } }
    if s.journalBytes < s.journalRoom then { s with store := { s.store with fullRaised := false } } else s
  | _ => s

/-- The objects a checkpoint copies beside the meter records (R465). -/
def State.ckptObjects (s : State) : List Kept :=
  let slots := (Map.keys s.led.meters ++ Map.keys s.air.plans ++ Map.keys s.fl.meters ++ Map.keys s.ling.meters ++ Map.keys s.bal.meters ++
    Map.keys s.safe.meters ++ Map.keys s.sec.keys).eraseDups
  slots.map Kept.meter ++ (Map.keys s.bal.zones).map Kept.zone ++ (Map.keys s.met.tribs).map Kept.tributary ++ [.floods, .duty] ++
    (Map.keys s.ports.sessions).map Kept.cursor

/-- The items of a generation as they are streamed: the meter records, and the objects beside them (R465, R553).
(Log entry 110: DESIGN CHOICE.) -/
def State.ckptItems (s : State) : List (List Nat) :=
  (s.led.meters.map fun e => 0 :: e.1 :: e.2.words) ++ s.ckptObjects.map fun k => k.words ++ s.keptWords k

/-- The journal from an entry on goes to the partner, with what changed with each entry (R561). Of the entry at `ps` itself only the
latter is sent again. -/
def State.streamFrom (s : State) (ps : Nat) (l : List JEntry) : State :=
  l.foldl (fun s e =>
    let s := if e.position ≤ ps then s else (s.count { name := .pairCatchUpBytes } e.size).streamEntry e
    e.also.foldl (fun s k => s.streamKept e.position k) s) s

/-- The bytes an item adds to the digest of its generation. -/
def itemWords (l : List Nat) : List Byte := l.flatMap (le 8)

/-- The tenant whose namespace takes an object of a checkpoint (R465). -/
def State.keptTenant (s : State) : Kept → Nat
  | .meter slot => s.meterTenant slot
  | .zone z => s.zoneTenant z
  | _ => 0

/-- NsDigest of a namespace: SHA-256 over what its area holds, zero where it is empty (Table 18-6). -/
def State.nsDigest (s : State) (t : Nat) : List Byte :=
  let records := (s.led.meters.filter fun e => e.2.tenant == t).flatMap fun e => e.2.bytes e.1
  let objects := (s.ckptObjects.filter fun k => s.keptTenant k == t).flatMap fun k => itemWords (k.words ++ s.keptWords k)
  if records = [] ∧ objects = [] then List.replicate 32 0 else sha256 (records ++ objects)

/-- The checkpoint commit record of a generation (Table 18-6), 560 bytes. -/
def Generation.record (g : Generation) : List Byte :=
  le 4 0x54434B43 ++ le 4 (g.area % 4) ++ le 8 g.gen ++ le 8 g.startPos ++ le 8 g.endPos ++ le 8 g.started ++ g.digest.flatten ++
    le 4 0 ++ le 4 0x54494D43

/-- A generation that counts goes to the partner item by item, with its end message; a catch-up that waited for it goes on with the
journal from its StartPos (R553, R561). -/
def State.streamGeneration (s : State) (g : Generation) : State :=
  if !(s.pair.streaming || s.pair.catchUpGen) then s
  else
    let items := s.ckptItems
    let s := items.foldl (fun s l => (s.count { name := .pairCkptBytes } 1024).sendPartner 0 4 l) s
    let s := s.sendPartner 0 5 [g.gen, g.startPos] (sha256 (items.flatMap itemWords))
    if s.pair.catchUpGen then
      let s := s.streamFrom 0 (s.store.journal.filter fun (e : JEntry) => decide (g.startPos ≤ e.position))
      { s with pair := { s.pair with catchUpGen := false, streaming := true } }
    else s

/-- The running generation counts: the two newest that count are kept, newest first. -/
def execCheckpointCommit (s : State) : Out :=
  match s.store.running with
  | none => .next s
  | some g =>
    if s.restarting 9 then .next s
    else
      let g : Generation := { g with endPos := s.newestPos, committed := true, digest := (List.range 16).map s.nsDigest }
      let ms := s.time.ms - s.store.ckptMs
      let s := { s with
        time := { s.time with savedCross := (s.time.cross.head?.map fun (c : Nat × Nat × Nat) => (c.1, c.2.1)).or s.time.savedCross }
        store := { s.store with running := none, generations := (g :: s.store.generations).take 2 } }
      .next (((s.pruneJournal.commitSweep).streamGeneration g).raise .storeCheckpointDone 0 [g.gen, ms])

/-! ### Reclamation and wear (R455, R457, R366, R414, R468) -/

/-- Archive records of a tenant leave the archive. -/
def State.reclaimArchive (s : State) (gone : ArchRec → Bool) : State :=
  let out := s.tar.archive.filter gone
  let s := { s with tar := { s.tar with
    archive := s.tar.archive.filter fun a => !gone a,
    expired := out.foldl (fun m (a : ArchRec) => Map.upd m a.slot 0 (max a.endS)) s.tar.expired } }
  out.foldl (fun s a => s.count { name := .tarReclaimed, a := a.tenant }) s

/-- Whether an archive record is past the ArchiveDays of its meter's class. -/
def State.archOld (s : State) (a : ArchRec) : Bool :=
  decide (a.endS + s.rd Rec.ProfileClass.ArchiveDays (s.meter a.slot).ledgerClass * 86400 < s.legalS)

/-- Whether a token log entry may go (R389): its state is final, and was settled more than TokenLogDays ago.
(Log entry 175: DEDUCED.) -/
def State.tokenOld (s : State) (e : TokenEntry) : Bool :=
  (e.st == 2 || e.st == 5 || e.st == 6) &&
    decide (stampS e.settledAt + s.rd Rec.PrepayClass.TokenLogDays (s.rd Rec.PrepayMeter.Class e.slot) * 86400 < s.legalS)

/-- Whether an audit record is past the AuditDays of its namespace (R468). -/
def State.auditOld (s : State) (x : AuditRec) : Bool :=
  decide (stampS x.stamp + s.rd (Rec.Partition.AuditDays x.tenant) * 86400 < s.legalS)

/-- The records past their age of a namespace: profile archive, token log (R389), frame audit (R468), zone results, and in tenant 0's the
metrology intervals. -/
def State.reclaimAged (s : State) (t : Nat) : State :=
  let s := s.reclaimArchive fun a => a.tenant == t && s.archOld a
  let s := { s with pre := { s.pre with tokens := s.pre.tokens.filter fun e => !(e.tenant == t && s.tokenOld e) } }
  let oldest := s.legalS - s.rd Rec.ProfileClass.ArchiveDays 0 * 86400
  let s := { s with
    store := { s.store with audits := s.store.audits.filter fun x => !(x.tenant == t && s.auditOld x) }
    bal := { s.bal with results := s.bal.results.filter fun r => r.tenant != t || decide (oldest ≤ stampS r.stop) } }
  if t = 0 then { s with met := { s.met with intervals := s.met.intervals.filter fun r => decide (oldest ≤ stampS r.stop) } } else s

/-- A record of a namespace that carries an age limit (R468). -/
inductive Aged where
  | archive (a : ArchRec)
  | audit (x : AuditRec)
  | interval (r : MetroInterval)
  | result (r : BalResult)
  deriving DecidableEq, Repr

/-- The time of a record, as a calendar stamp. -/
def Aged.stamp : Aged → Nat
  | .archive a => secStamp a.endS
  | .audit x => x.stamp
  | .interval r => r.stop
  | .result r => r.stop

/-- The records with an age limit of a namespace. -/
def State.agedOf (s : State) (t : Nat) : List Aged :=
  ((s.tar.archive.filter fun a => a.tenant == t).map Aged.archive) ++ ((s.store.audits.filter fun x => x.tenant == t).map Aged.audit) ++
    (if t = 0 then s.met.intervals.map Aged.interval else []) ++ ((s.bal.results.filter fun r => r.tenant == t).map Aged.result)

/-- A full namespace gives up its oldest record of any kind that carries an age limit (R366, R468), with both events at most once a day.
(Log entry 83: DESIGN CHOICE.) -/
def State.reclaimOldest (s : State) (t : Nat) : State :=
  let s := s.raiseEvery dayMs .storePartitionFull t t [16 + t]
  match leastBy Aged.stamp (s.agedOf t) with
  | none => s
  | some (.archive a) => (s.reclaimArchive fun b => b == a).raiseEvery dayMs .tariffArchivePressure t t [t]
  | some (.audit x) => { s with store := { s.store with audits := s.store.audits.erase x } }
  | some (.interval r) => { s with met := { s.met with intervals := s.met.intervals.erase r } }
  | some (.result r) => { s with bal := { s.bal with results := s.bal.results.erase r } }

/-- RECLAMATION of a partition (R455): the pages whose content has been released (`freed`, as copy × 2^48 + logical page) leave the map, the
closed block with the fewest valid pages is copied into blocks of `into`, the first that takes each page, and erased. In a namespace,
records past their age are released with it, and where no block is free the oldest.
(Log entry 83: DESIGN CHOICE.) -/
def execReclamation (part : Nat) (freed into : List Nat) (s : State) : Out :=
  if ¬partCodes.contains part then .next s
  else
    let full := decide (16 ≤ part ∧ s.freeBlocks part = 0)
    let s := freed.foldl (fun s n => s.freePage (part, n / 2 ^ 48, n % 2 ^ 48)) s
    match s.victim part with
    | none => .next s
    | some v => match s.copyPages (into.map keyBlock) (s.pagesIn v) with
      | none => .next s
      | some s =>
        let s := s.eraseBlock v
        if part < 16 then .next s
        else
          let s := s.reclaimAged (partTenant part)
          .next (if full then s.reclaimOldest (partTenant part) else s)

/-- The blocks of a die with their erase counts: those in the map, and one of those never erased. -/
def State.eraseCounts (s : State) (c d : Nat) : List (Nat × Nat) :=
  let x := s.die c d
  let good := x.erases.filter fun e => !x.badBlocks.contains e.1
  let fresh := (List.range s.store.blocksPerDie).find? fun b => !Map.has x.erases b && !x.badBlocks.contains b
  match fresh with
  | some b => (b, 0) :: good
  | none => good

/-- The mean erase count of the dies in use, in thousandths of their rated endurance. -/
def State.meanWear (s : State) : Nat :=
  let used := (List.range s.flashChannels).flatMap fun c => ((List.range s.store.diesPer).filter fun d =>
    (s.die c d).st == .inUse || (s.die c d).st == .slow).map fun d => (Map.vals (s.die c d).erases).sum
  used.sum * 1000 / max (used.length * s.store.blocksPerDie * s.store.endurance) 1

/-- The wear threshold passed: WearWarnPermille, and each further 50 thousandths; 0 where none is. -/
def State.wearStep (s : State) : Nat :=
  let w := s.rd Rec.StorePolicy.WearWarnPermille 0
  if s.meanWear < w then 0 else w + (s.meanWear - w) / 50 * 50

/-- The data of a closed block moved into a free block of its die, and the block erased (R457). -/
def State.moveBlock (s : State) (a b : Nat × Nat × Nat) : State :=
  match Map.get? s.store.blocks a with
  | none => s
  | some x =>
    let s := { s with store := { s.store with
      pages := Map.mapV s.store.pages fun _ k => if k = a then b else k
      writeSeq := s.store.writeSeq + 4 * x.valid } }
    ((s.setBlock b x).eraseBlock a).count { name := .stProg, a := dieKey a.1 a.2.1 } (4 * x.valid)

/-- The closed block of a die with the lowest erase count, and its free block with the highest (R457). -/
def State.wearPair (s : State) (c d : Nat) : Option ((Nat × Nat × Nat) × (Nat × Nat × Nat)) :=
  let count (k : Nat × Nat × Nat) : Nat := Map.getD (s.die c d).erases k.2.2 0
  let closed := (s.store.blocks.filter fun e => e.1.1 == c && e.1.2.1 == d && e.2.used == s.store.pagesPerBlock).map Prod.fst
  let free := ((s.eraseCounts c d).map fun e => (c, d, e.1)).filter fun k => !Map.has s.store.blocks k
  match leastBy count closed, leastBy (fun k => (free.map count).foldl max 0 - count k) free with
  | some a, some b => some (a, b)
  | _, _ => none

/-- WEAR_CHECK: a gap beyond WearDelta moves the data of the closed block with the lowest erase count into the free block with the
highest, and erases it. -/
def execWearCheck (channel die : Nat) (s : State) : Out :=
  let x := s.die channel die
  if ¬s.dieHere channel die ∨ x.st = .failed ∨ x.st = .unused then .next s
  else
    let l := s.eraseCounts channel die
    let counts := l.map Prod.snd
    let s := match s.wearPair channel die with
      | some (a, b) =>
        if s.rd Rec.StorePolicy.WearDelta 0 < counts.foldl max 0 - counts.foldl min (counts.headD 0) then s.moveBlock a b else s
      | none => s
    let step := s.wearStep
    if s.store.wearRaised < step then
      .next (({ s with store := { s.store with wearRaised := step } }).raise .storeWear 0 [s.meanWear])
    else .next s

/-! ### DRAM (R469 to R473) -/

/-- The areas of Table 18-8 (`areaMiB`), in its order: 0 tag store, 1 firmware, 2 meter records, 3 frame rings, 4 poll plan and drift models,
5 open balance intervals, 6 alignment pool, 7 history, 8 capture staging, 9 Sward, 10 meter directory, 11 line samples, 12 store
maps, 13 flash read cache. The tenant whose key tags a line. -/
def State.areaTenant (s : State) (area subject : Nat) : Nat :=
  if area = 2 ∨ area = 3 ∨ area = 4 then s.meterTenant subject else if area = 5 then s.zoneTenant subject else 0

/-- What the owner of a line does when it cannot be read (R473): a meter record waits for its restore, a directory line starts a
rebuild, a Sward line reads as a miss, samples are flagged erased, and any other line reads as zeros.
(Log entry 84: DESIGN CHOICE.) -/
def State.lineLost (s : State) (area subject : Nat) : State :=
  match area with
  | 2 => if s.led.poisoned.contains subject then s else { s with led := { s.led with poisoned := s.led.poisoned ++ [subject] } }
  | 3 => { s with led := { s.led with rings := Map.del s.led.rings subject } }
  | 4 => s.setPlan subject {}
  | 5 => s.dropOpen subject
  | 9 => { s with sec := { s.sec with sward := s.sec.sward.eraseIdx subject } }
  | 10 => if s.sec.rebuild.isSome then s else { s with sec := { s.sec with rebuild := some { beganMs := s.time.ms } } }
  | _ => s

/-- `store.integrity`: tenant, area, cause (0 read, 1 poisoned, 2 scrub). A sealed tenant's line is reported to the security
officer as well. -/
def State.integrity (s : State) (area subject cause : Nat) : State :=
  let t := s.areaTenant area subject
  s.raise .storeIntegrity t [t, area, cause] (s.isSealed t)

/-- The line at a physical address, of which `subject` is the object it holds. -/
def State.lineAt (s : State) (channel address subject : Nat) : PoisonedLine :=
  let area := s.areaAt address
  { channel := channel, address := address, area := area, subject := subject, tenant := s.areaTenant area subject }

/-- DRAM_INTEGRITY_FAIL: the controller's accesses to a line whose tag fails (R470, R471). `first` is what a read of the line and its tag
gave, `second` the one more read that follows where `first` fails; where that fails too, or the line is poisoned, the reader receives
INTEGRITY. Access 0 is a read; 1 a partial write, which is then not performed and leaves the line poisoned; 2 a full-line write, which
needs no read and clears a poisoned line (R472). -/
def execDramIntegrityFail (channel address subject access : Nat) (first second : List Byte) (s : State) : Out :=
  let line := s.lineAt channel address subject
  let bad := s.store.poisoned.any fun l => l.address == address
  if 4 ≤ channel ∨ 14 ≤ line.area then .next s
  else if access = 2 then .next { s with store := { s.store with poisoned := s.store.poisoned.filter fun l => l.address != address } }
  else if !bad && s.lineVerifies line.tenant address first then .next s
  else
    let s := s.count { name := .stTagRead, a := channel }
    if !bad && s.lineVerifies line.tenant address second then .next s
    else
      let s := s.count { name := .stTagFail, a := channel }
      let s := (s.integrity line.area subject (if bad then 1 else 0)).lineLost line.area subject
      if access = 1 ∧ !bad then
        .next (({ s with store := { s.store with poisoned := s.store.poisoned ++ [line] } }).count { name := .stPoison, a := line.tenant })
      else .next s

/-- SCRUB_PASS: the scrub has come `progress` thousandths through its pass, and reads the line at an address twice where the first read
fails; nothing where `first` is empty. A line that fails both reads is reported, and one that is not a meter record, directory, Sward,
history or alignment line is rewritten, which clears its poison (R473). -/
def execScrubPass (channel progress address subject : Nat) (first second : List Byte) (s : State) : Out :=
  let done := decide (1000 ≤ progress)
  let s := { s with store := { s.store with
    scrubAt := if done then 0 else progress, scrubPasses := s.store.scrubPasses + bit done } }
  let line := s.lineAt channel address subject
  if first.isEmpty ∨ 4 ≤ channel ∨ 14 ≤ line.area ∨ s.lineVerifies line.tenant address first then .next s
  else
    let s := s.count { name := .stTagRead, a := channel }
    if s.lineVerifies line.tenant address second then .next s
    else
      let s := s.count { name := .stTagFail, a := channel }
      let s := (s.integrity line.area subject 2).lineLost line.area subject
      .next { s with store := { s.store with poisoned := s.store.poisoned.filter fun l => l.address != address } }

/-! ### Commands (Table 18-11) -/

/-- The store's state: 0 not ready, 1 ready, 2 restarting. -/
def State.storeState (s : State) : Nat := if s.restarting 9 then 2 else if 8 ≤ s.pow.stage ∧ s.pow.stage ≤ 0x0A then 1 else 0

/-- STORE.STATUS_READ: state, Position range, buffer fill in bytes, newest committed generation, and per save slot erased, valid. -/
def readStoreStatus (c : Caller) (s : State) : Reply :=
  gatedRead [(c.isObserver, .refusedRole), (c.slots 0, .badLength)]
    { status := .done, slots := [s.storeState, s.store.journalStart, s.newestPos, s.journalFill,
        slotOpt (s.store.generations.head?.map Generation.gen)] ++
        s.pow.saveSlots.flatMap fun (x : SaveSlot) => [bit x.erased, bit (!x.erased)] }

def execStoreStatusRead (ch : Nat) (s : State) : Out := .next (s.readCommand ch .storeStatusRead readStoreStatus)

/-- The code of a die's state. -/
def DieSt.code : DieSt → Nat
  | .inUse => 0 | .unused => 1 | .slow => 2 | .failed => 3 | .retiring => 4

/-- The channels a channel argument names; none where one is absent. -/
def State.channelsOf (s : State) (channel : Nat) : Option (List Nat) :=
  if channel = 0xFF then some (List.range s.flashChannels) else if channel < s.flashChannels then some [channel] else none

/-- STORE.FLASH_READ: per die channel, die, state, blocks, bad blocks, lowest, mean and highest erase count, wear in thousandths.
(Log entry 84: DESIGN CHOICE.) -/
def readStoreFlash (channel : Nat) (c : Caller) (s : State) : Reply :=
  let one (ch d : Nat) : List Nat :=
    let x := s.die ch d
    let l := (s.eraseCounts ch d).map Prod.snd
    let sum := (Map.vals x.erases).sum
    [ch, d, x.st.code, s.store.blocksPerDie, x.badBlocks.length, l.foldl min (l.headD 0), sum / max s.store.blocksPerDie 1,
      l.foldl max 0, sum * 1000 / max (s.store.blocksPerDie * s.store.endurance) 1]
  let l := ((s.channelsOf channel).getD []).flatMap fun ch => (List.range s.store.diesPer).map fun d => one ch d
  gatedRead [(c.isObserver, .refusedRole), (c.slots 1, .badLength), (decide (channel < 16 ∨ channel = 0xFF), .badArgument), ((s.channelsOf channel).isSome, .absentUnit)]
    { status := .done, slots := l.length :: l.flatMap id }

def execStoreFlashRead (ch channel : Nat) (s : State) : Out := .next (s.readCommand ch .storeFlashRead (readStoreFlash channel))

/-- The oldest record of a namespace, as a calendar stamp. -/
def State.oldestRecord (s : State) (t : Nat) : Option Nat :=
  leastBy (fun (x : Nat) => x) (((s.tar.archive.filter fun a => a.tenant == t).map fun a => secStamp a.endS) ++
    ((s.bal.results.filter fun r => r.tenant == t).map BalResult.stop) ++ (if t = 0 then s.met.intervals.map MetroInterval.stop else []) ++
    ((s.store.audits.filter fun x => x.tenant == t).map AuditRec.stamp))

/-- STORE.PARTITIONS_READ: per partition in scope code, bytes of one copy, live bytes, free bytes, oldest record. -/
def readStorePartitions (c : Caller) (s : State) : Reply :=
  let l := partCodes.filter fun p => if p < 16 then s.sees c 0 else s.sees c (partTenant p)
  gatedRead [(c.isObserver, .refusedRole), (c.slots 0, .badLength)]
    { status := .done, slots := l.length :: l.flatMap fun p =>
        [p, partGiB s.partBody p * 2 ^ 30, s.partLive p / partCopies p * pageBytes,
          partGiB s.partBody p * 2 ^ 30 - s.partUsed p / partCopies p * pageBytes,
          if 16 ≤ p then slotOpt (s.oldestRecord (partTenant p)) else noValue] }

def execStorePartitionsRead (ch : Nat) (s : State) : Out := .next (s.readCommand ch .storePartitionsRead readStorePartitions)

/-- STORE.CHECKPOINT_NOW. -/
def runCheckpointNow (c : Caller) (s : State) : Reply × State :=
  gated s [(c.isOperator, .refusedRole), (c.slots 0, .badLength)] fun s => ({ status := .deferred }, s.startCheckpoint)

def execStoreCheckpointNow (ch : Nat) (s : State) : Out := .next (s.command ch .storeCheckpointNow runCheckpointNow)

/-- STORE.DIE_RETIRE: the die keeps serving reads until its data has been moved. -/
def runDieRetire (channel die : Nat) (c : Caller) (s : State) : Reply × State :=
  let x := s.die channel die
  gated s [(c.isService, .refusedRole), (c.slots 2, .badLength), (decide (channel < 16), .badArgument), (s.dieHere channel die, .absentUnit),
      (decide (x.st ≠ .failed), .refusedState), (s.partsFit s.partBody (s.diesInUse - 1), .storeSpace)] fun s =>
    ({ status := .deferred }, s.setDie channel die { x with st := .retiring })

def execStoreDieRetire (ch channel die : Nat) (s : State) : Out := .next (s.command ch .storeDieRetire (runDieRetire channel die))

/-- A namespace under its next epoch: every sector written before is free, so that its blocks are reclaimed without being copied (R453).
(Log entry 85: DEDUCED.) -/
def State.freeNamespace (s : State) (t : Nat) : State :=
  let s := { s with
    store := { s.store with
      nsEpochs := Map.put s.store.nsEpochs t (s.nsEpoch t + 1),
      pages := s.store.pages.filter fun e => e.1.1 != 16 + t,
      blocks := Map.mapV s.store.blocks fun _ (b : BlockSt) => if b.part = 16 + t then { b with used := s.store.pagesPerBlock, valid := 0 } else b,
      audits := s.store.audits.filter fun x => x.tenant != t },
    tar := { s.tar with
      archive := s.tar.archive.filter (fun a => a.tenant ≠ t), waiting := s.tar.waiting.filter (fun w => w.2.tenant ≠ t),
      clockLog := Map.del s.tar.clockLog t },
    pre := { s.pre with tokens := s.pre.tokens.filter fun x => x.tenant ≠ t },
    sec := { s.sec with quarantine := s.sec.quarantine.filter fun q => q.f.tenant ≠ t },
    bal := { s.bal with results := s.bal.results.filter fun r => r.tenant ≠ t },
    ports := { s.ports with exports := s.ports.exports.filter fun e => e.tenant ≠ t } }
  if t = 0 then { s with met := { s.met with intervals := [], waiting := [] } } else s

/-- Whether a meter is assigned to a tenant. -/
def State.hasMeters (s : State) (t : Nat) : Bool := s.assignedSlots.any fun slot => s.meterTenant slot == t

/-- STORE.NAMESPACE_FORMAT.
(Log entry 85: DEDUCED.) -/
def runNamespaceFormat (t : Nat) (c : Caller) (s : State) : Reply × State :=
  gated s [(c.isOfficer, .refusedRole), (c.slots 1, .badLength), (decide (t < 16), .badArgument), (s.tenantHere t, .absentCapacity),
      (!s.isSealed t && !s.hasMeters t && decide (s.nsEpoch t < 0xFFFFFFFF), .refusedState)] fun s =>
    let s := s.freeNamespace t
    ({ status := .done, slots := [s.nsEpoch t] }, s.journal .store t t (.words [s.nsEpoch t]))

def execStoreNamespaceFormat (ch tenant : Nat) (s : State) : Out :=
  .next (s.commitCommand ch .storeNamespaceFormat (runNamespaceFormat tenant))

/-- STORE.DRAM_READ: per channel capacity in GiB, tag failures, poisoned lines in scope, scrub progress in thousandths. -/
def readStoreDram (c : Caller) (s : State) : Reply :=
  gatedRead [(c.isObserver, .refusedRole), (c.slots 0, .badLength)]
    { status := .done, slots := (List.range 4).flatMap fun n =>
        [s.arch.dramGiB / 4, s.ctr { name := .stTagFail, a := n },
          (s.store.poisoned.filter fun p => p.channel == n && s.sees c p.tenant).length, s.store.scrubAt] }

def execStoreDramRead (ch : Nat) (s : State) : Out := .next (s.readCommand ch .storeDramRead readStoreDram)

/-- STORE.LOSS_READ: content kind, first and count of the range, time. -/
def readStoreLoss (tenant first count : Nat) (c : Caller) (s : State) : Reply :=
  let l := ((s.store.lost.filter fun e => e.tenant == tenant).drop first).take count
  gatedRead [(c.isObserver && s.sees c tenant, .refusedRole), (c.slots 3, .badLength), (decide (tenant < 16 ∧ count ≤ 256), .badArgument),
      (s.tenantHere tenant, .absentCapacity)]
    { status := .done, slots := l.length :: l.flatMap fun e => [e.kind, e.first, e.count, e.stamp] }

def execStoreLossRead (ch tenant first count : Nat) (s : State) : Out :=
  .next (s.readCommand ch .storeLossRead (readStoreLoss tenant first count))

/-- STORE.COUNTERS_READ: per die sectors read and programmed, soft decodes, retries, erased and retired blocks; for all channels
also per partition bytes of host data and of reclamation and unreadable sectors, per DRAM channel re-reads and tag failures, and per
tenant poisonings. -/
def readStoreCounters (channel : Nat) (c : Caller) (s : State) : Reply :=
  let k (x : CtrName) (a : Nat) : Nat := s.ctr { name := x, a := a }
  let dies := ((s.channelsOf channel).getD []).flatMap fun ch => (List.range s.store.diesPer).flatMap fun d =>
    let i := dieKey ch d
    [k .stRead i, k .stProg i, k .stSoft i, k .stRetry i, k .stErased i, k .stRetired i]
  let rest := (partCodes.flatMap fun p => [k .stHost p, k .stReclaim p, k .stUnread p]) ++
    ((List.range 4).flatMap fun n => [k .stTagRead n, k .stTagFail n]) ++
    (List.range 16).map fun t => if s.sees c t then k .stPoison t else noValue
  gatedRead [(c.isObserver, .refusedRole), (c.slots 1, .badLength), (decide (channel < 16 ∨ channel = 0xFF), .badArgument), ((s.channelsOf channel).isSome, .absentUnit)]
    { status := .done, slots := if channel = 0xFF then dies ++ rest else dies }

def execStoreCountersRead (ch channel : Nat) (s : State) : Out :=
  .next (s.readCommand ch .storeCountersRead (readStoreCounters channel))

/-! ### Records (R476, R477) -/

/-- Whether a body leaves a partition smaller than its live data divided by what over-provisioning leaves. -/
def State.partsHold (s : State) (body : Nat) : Bool :=
  partCodes.all fun p => decide (p = 2) ||
    decide (s.partLive p / partCopies p * pageBytes * 1000 ≤ partGiB body p * 2 ^ 30 * (1000 - Rec.Partition.OverProvisionPermille.of body))

/-- The entry of a tenant in a partition body. -/
def partEntry (body t : Nat) : Nat × Nat × Nat :=
  ((Rec.Partition.NsGiB t).of body, (Rec.Partition.AuditDays t).of body, (Rec.Partition.MeterKRecords t).of body)

/-- The partition record (R476). -/
def rulePartition : RecordRule where
  writer _ c _ _ := c.isService
  check s _ _ old b :=
    if (List.range 16).any fun t => s.isSealed t && partEntry old t != partEntry b t then some .refusedState
    else if !s.partsFit b s.diesInUse || !s.partsHold b ||
        decide (s.meterSlots < ((List.range 16).map fun t => (Rec.Partition.MeterKRecords t).of b).sum * 1024) then some .storeSpace
    else none
  effect s _ _ _ _ := (partCodes.foldl State.reclaimClass s).commitSweep

def execPartitionRecord (tenant inst : Nat) (body : List Byte) (s : State) : Out :=
  .next (s.applyRecord rulePartition Schema.Partition tenant inst body)

/-- The store policy record (R477). -/
def ruleStorePolicy : RecordRule where
  writer _ c _ _ := c.isService

def execStorePolicyRecord (tenant inst : Nat) (body : List Byte) (s : State) : Out :=
  .next (s.applyRecord ruleStorePolicy Schema.StorePolicy tenant inst body)

end Sys2Proof.Machine
end

