-- ==== Sys2Proof/Machine/Ports.lean ====
section
/-! DEFINITION. Chapter 25: head-end sessions, backhaul ports, the host port's errors, and the ports' commands and records (R618 to
R640). The partner ports' messages are in Partner.lean. -/

namespace Sys2Proof.Machine

open Sys2Proof

/-! ### Opening a session (R620, R621) -/

/-- Whether a backhaul port's link is up. -/
def State.portUp (s : State) (p : Nat) : Bool := s.ports.backhaulUp.contains p

/-- The reconnect wait of an enabled session ends, or it has not been opened yet: a chip that sends Serving 1 opens TLS. -/
def execSessionReconnect (session : Nat) (s : State) : Out :=
  let x := s.headEnd session
  let due := decide (x.st = .closed ∨ (x.st = .waiting ∧ x.retryMs ≤ s.time.ms))
  if session < 32 ∧ s.rdB Rec.HeadEnd.Enabled session ∧ s.pair.serving ∧ due ∧ s.portUp (s.rd Rec.HeadEnd.Port session) then
    .next (s.setHeadEnd session { x with st := .handshake })
  else .next s

/-- The alert the device sends where the server's key is not the one expected: bad_certificate of RFC 8446.
(Log entry 91: PRESUMED.) -/
def badCertificate : Nat := 42

/-- A handshake fails: the wait before the next is 1 s where none went before, and otherwise doubles, up to 60 s. -/
def State.tlsFailed (s : State) (i alert : Nat) : State :=
  let x := s.headEnd i
  let wait := if x.waitS = 0 then 1 else min (2 * x.waitS) 60
  let s := s.setHeadEnd i { x with st := .waiting, waitS := wait, retryMs := s.time.ms + 1000 * wait }
  (s.count { name := .tlsFailures, a := i }).raiseEvery hourMs .portTlsFailed i (s.heTenant i) [i, alert]

/-- TLS_HANDSHAKE_DONE: the session opens where the handshake completed with one of the device's two suites (0x1301, 0x1302) and
the server's SubjectPublicKeyInfo, `spki`, has the digest PeerKeyHash (R620).
(Log entry 91: PRESUMED.) -/
def execTlsHandshakeDone (session ok alert suite : Nat) (spki : List Byte) (s : State) : Out :=
  let x := s.headEnd session
  if x.st ≠ .handshake then .next s
  else if ok = 0 ∨ ¬(suite = 0x1301 ∨ suite = 0x1302) then .next (s.tlsFailed session alert)
  else if ofLe (sha256 spki) ≠ s.rd Rec.HeadEnd.PeerKeyHash session then .next (s.tlsFailed session badCertificate)
  else
    let s := s.setHeadEnd session { x with
      st := .opened, waitS := 0, suite := suite, cursor := x.journaled, sent := x.journaled,
      lastTxMs := s.time.ms, lastRxMs := s.time.ms }
    .next ((s.raise .portSession (s.heTenant session) [session, 1, noValue]).releaseSession session)

/-! ### Frames (R622, R625, R628) -/

/-- An export acknowledgement: every record up to the identity is acknowledged; one of a record not sent, or older than the
cursor, is ignored and counted. -/
def State.exportAck (s : State) (i : Nat) (body : List Byte) : State :=
  let x := s.headEnd i
  let id : Nat × Nat := (leAt body 0 8, leAt body 8 2)
  if body.length ≠ 10 ∨ idLt x.sent id ∨ idLt id x.cursor then s.count { name := .heAckIgnored, a := i }
  else
    let n := ((s.heAfter i x.cursor).filter fun e => idLe e.id id).length
    (((s.setHeadEnd i { x with cursor := id }).count { name := .heAcked, a := i } n)).releaseSession i

/-- A tunnelled mailbox message: taken where the session serves the channel, and the channel is not BUSY (R50, R628). -/
def State.tunnelMessage (s : State) (i : Nat) (body : List Byte) : State :=
  let n := leAt body 0 1
  if body.length < 52 ∨ n < 16 ∨ 32 ≤ n ∨ ¬s.tunnelled n ∨ s.tunnelPath n ≠ some i then s
  else match (s.chan n).st with
    | .idle => (s.modChan n fun c => { c with st := .busy }).receive n (body.drop 4) true
    | _ => s.ignoreWrite n

/-- SESSION_FRAME_RECEIVED: a frame of the header of Table 25-1. One of unknown Type, or with Length above 262 208, closes the
session; frames of the Types the device only sends are dropped. -/
def execSessionFrameReceived (session type length : Nat) (body : List Byte) (s : State) : Out :=
  let x := s.headEnd session
  if x.st ≠ .opened then .next s
  else if type < 1 ∨ 5 < type ∨ 262208 < length then .next (s.closeHead session .peer)
  else
    let p := s.rd Rec.HeadEnd.Port session
    let s := s.setHeadEnd session { x with lastRxMs := s.time.ms }
    let s := (s.count { name := .portFramesIn, a := p }).count { name := .portBytesIn, a := p } (8 + body.length)
    match type with
    | 2 => .next (s.exportAck session body)
    | 4 => .next (s.tunnelMessage session body)
    | _ => .next s

/-- 10 s without sending: a keepalive frame. -/
def execSessionKeepalive (session : Nat) (s : State) : Out :=
  let x := s.headEnd session
  .next (if x.st = .opened ∧ x.lastTxMs + 10000 ≤ s.time.ms then s.sendFrame session 5 [] else s)

/-- 30 s without receiving: the session closes. -/
def execSessionRxTimeout (session : Nat) (s : State) : Out :=
  let x := s.headEnd session
  .next (if x.st = .opened ∧ x.lastRxMs + 30000 ≤ s.time.ms then s.closeHead session .timeout else s)

/-- The retention of the record that every session of its tenant has let go: RetainDays of a session, 31 where none serves it.
(Log entry 93: DESIGN CHOICE.) -/
def State.retainDays (s : State) (e : Export) : Nat :=
  ((s.heEnabled.filter fun i => s.heSelects i e).map fun i => s.rd Rec.HeadEnd.RetainDays i).foldl max 0

/-- Whether a record is older than a number of days. -/
def State.olderThan (s : State) (e : Export) (days : Nat) : Bool := decide (stampS e.stamp + days * 86400 < s.legalS)

/-- The records a session drops unacknowledged because of their age (R626). -/
def State.heDrop (s : State) (i : Nat) : State :=
  let x := s.headEnd i
  let old := (s.heAfter i x.cursor).takeWhile fun e => s.olderThan e (s.rd Rec.HeadEnd.RetainDays i)
  match old.getLast? with
  | none => s
  | some e =>
    let s := s.setHeadEnd i { x with cursor := idMax x.cursor e.id, sent := idMax x.sent e.id }
    let s := s.count { name := .heDropped, a := i } old.length
    s.raiseEvery dayMs .portExportDropped i (s.heTenant i) [i, s.ctr { name := .heDropped, a := i }]

/-- Records no session keeps any more leave.
(Log entry 93: DESIGN CHOICE.) -/
def State.pruneExports (s : State) : State :=
  let gone (e : Export) : Bool := s.olderThan e (let d := s.retainDays e
    if d = 0 then 31 else d)
  let top := (s.ports.exports.filter gone).foldl (fun m e => idMax m e.id) s.ports.pruned
  { s with ports := { s.ports with exports := s.ports.exports.filter (fun e => !gone e), pruned := top } }

/-- Once a second the cursors that moved are journaled (R626), records past their age leave, and release goes on.
(Log entry 90: DESIGN CHOICE.)
(Log entry 94: DESIGN CHOICE.) -/
def execExportCursorJournal (s : State) : Out :=
  let s := s.heEnabled.foldl State.heDrop s
  let s := (List.range 32).foldl (fun s i =>
    let x := s.headEnd i
    if x.cursor = x.journaled ∨ s.saveHalts then s
    else ((s.setHeadEnd i { x with journaled := x.cursor }).journal .store (s.heTenant i) i (.words [i, x.cursor.1, x.cursor.2])).carry
      (.cursor i)) s
  .next s.pruneExports.releaseExports

/-! ### Backhaul ports and the host port (R618, R619, R631) -/

/-- BACKHAUL_FRAME_RECEIVED: a frame of `bytes` bytes with the codewords its reception corrected or failed to correct; one longer than
Mtu + 18 is discarded; `refused` marks a connection attempt the device refuses with an answer. -/
def execBackhaulFrameReceived (port bytes refused corrected uncorrected : Nat) (s : State) : Out :=
  if ¬s.portUp port then .next s
  else
    let s := (s.count { name := .portFecCorr, a := port } corrected).count { name := .portFecUncorr, a := port } uncorrected
    if s.rd Rec.BackhaulPort.Mtu port + 18 < bytes then .next (s.count { name := .portOversize, a := port })
    else
      let s := (s.count { name := .portFramesIn, a := port }).count { name := .portBytesIn, a := port } bytes
      .next (if refused = 0 then s
        else (s.count { name := .portRefused, a := port }).count { name := .portFramesOut, a := port })

/-- The key of a port's link-down count: backhaul 0 to 7, partner 8 and 9, host 10. -/
def linkKey (kind port : Nat) : Nat := if kind = 0 then port else if kind = 1 then 8 + port else 10

/-- `port.link`, with the count of a link that goes down. -/
def State.linkMoved (s : State) (kind port : Nat) (up : Bool) : State :=
  let s := if up then s else s.count { name := .linkDown, a := linkKey kind port }
  s.raise .portLink 0 [kind, port, bit up]

/-- PORT_LINK_CHANGE: the link of a backhaul port (kind 0) or a partner port (kind 1) goes up or down. Backhaul ports come up once
control firmware is ready, partner ports once the store is (R636). -/
def execPortLinkChange (kind port up : Nat) (s : State) : Out :=
  let on := decide (up ≠ 0)
  if kind = 0 then
    if 8 ≤ port ∨ s.portUp port = on ∨ (on ∧ (¬s.rdB Rec.BackhaulPort.Enabled port ∨ s.pow.stage < 7)) then .next s
    else .next (({ s with ports := { s.ports with
      backhaulUp := if on then s.ports.backhaulUp ++ [port] else s.ports.backhaulUp.filter (· ≠ port) } }).linkMoved 0 port on)
  else if kind = 1 ∧ port < 2 ∧ (s.partnerPort port).link ≠ on ∧ (¬on ∨ 8 ≤ s.pow.stage) then
    .next ((s.setPartnerPort port { s.partnerPort port with link := on }).linkMoved 1 port on)
  else .next s

/-- HOST_ERROR (R631): severity 0 a correctable error, 1 an uncorrectable error in a host request, 2 one on the link. -/
def execHostError (severity status : Nat) (s : State) : Out :=
  if severity = 0 then .next (s.count { name := .aerCorr })
  else
    let s := s.count { name := .aerUncorr }
    .next (if severity = 2 then s.raise .portHostError 0 [status] else s)

/-! ### Commands (Table 25-8) -/

/-- Whether the partner key is set (R635). -/
def State.partnerKeyed (s : State) : Bool := s.slotSet 16 3

/-- The code of a host power state. -/
def HostPower.code : HostPower → Nat
  | .d0 => 0 | .l12 => 1 | .d3hot => 2 | .d3cold => 3

/-- PORT.STATUS_READ: per backhaul port link, FEC lock, IPv4 address and prefix, IPv6 address (two slots) and prefix; host link
generation and width (0 where it is down) and power state; per partner port link, last valid heartbeat, keyed. -/
def readPortStatus (c : Caller) (s : State) : Reply :=
  let hb (x : Option Heartbeat) : Nat := slotOpt (x.map Heartbeat.stamp)
  gatedRead [(c.isObserver, .refusedRole), (c.slots 0, .badLength)]
    { status := .done, slots := ((List.range 8).flatMap fun p =>
        let a6 := s.rd Rec.BackhaulPort.Ipv6Addr p
        [bit (s.portUp p), bit (s.portUp p), s.rd Rec.BackhaulPort.Ipv4Addr p, s.rd Rec.BackhaulPort.Ipv4Prefix p, a6 % 2 ^ 64,
          a6 / 2 ^ 64, s.rd Rec.BackhaulPort.Ipv6Prefix p]) ++
        [if s.ports.hostUp then 4 else 0, if s.ports.hostUp then 4 else 0, s.pow.host.code] ++
        [bit s.ports.partner0.link, hb s.pair.partner, bit s.partnerKeyed, bit s.ports.partner1.link, hb s.pair.neighbour,
          bit s.partnerKeyed] }

def execPortStatusRead (ch : Nat) (s : State) : Out := .next (s.readCommand ch .portStatusRead readPortStatus)

/-- The code of a session's state. -/
def HeSt.code : HeSt → Nat
  | .closed => 0 | .waiting => 1 | .handshake => 2 | .opened => 3

/-- The newest identity below the oldest record kept for a session, or the Position of that record. -/
def State.oldestKept (s : State) (i : Nat) : Nat := slotOpt ((s.heAfter i (0, 0)).head?.map Export.position)

/-- PORT.SESSIONS_READ: session, state, TLS suite, cursor, sent, unacknowledged, oldest retained Position. -/
def readPortSessions (session : Nat) (c : Caller) (s : State) : Reply :=
  let l := if session = 0xFF then (List.range 32).filter fun i => s.sees c (s.heTenant i) else [session]
  let one (i : Nat) : List Nat :=
    let x := s.headEnd i
    [i, x.st.code, x.suite, x.cursor.1, x.cursor.2, x.sent.1, x.sent.2, (s.heAfter i x.cursor).length, s.oldestKept i]
  gatedRead [(c.isObserver && (decide (32 ≤ session) || s.sees c (s.heTenant session)), .refusedRole), (c.slots 1, .badLength),
      (decide (session < 32 ∨ session = 0xFF), .badArgument)]
    { status := .done, slots := if session = 0xFF then l.length :: l.flatMap one else l.flatMap one }

def execPortSessionsRead (ch session : Nat) (s : State) : Out := .next (s.readCommand ch .portSessionsRead (readPortSessions session))

/-- The checks of a command the owner of a session sends. -/
def State.heOwnChecks (s : State) (c : Caller) (session n : Nat) : List (Bool × Status) :=
  [(decide (32 ≤ session) || c.isOwner (s.heTenant session), .refusedRole), (c.slots n, .badLength), (decide (session < 32), .badArgument)]

/-- PORT.SESSION_RESET. -/
def runSessionReset (session : Nat) (c : Caller) (s : State) : Reply × State :=
  gated s (s.heOwnChecks c session 1 ++ [s.notReleasing (s.heTenant session)]) fun s =>
    ({ status := .done }, if s.rdB Rec.HeadEnd.Enabled session then s.closeHead session .reset else s)

def execPortSessionReset (ch session : Nat) (s : State) : Out := .next (s.command ch .portSessionReset (runSessionReset session))

/-- EXPORT.REWIND: release resumes after the identity. -/
def runExportRewind (session position index : Nat) (c : Caller) (s : State) : Reply × State :=
  let id : Nat × Nat := (position, index)
  gated s (s.heOwnChecks c session 3 ++ [(idLe id (s.headEnd session).top, .badArgument), s.notReleasing (s.heTenant session), (idLe s.ports.pruned id, .notRetained)]) fun s =>
    let x := s.headEnd session
    ({ status := .done }, (s.setHeadEnd session { x with cursor := id, sent := id }).releaseSession session)

def execExportRewind (ch session position index : Nat) (s : State) : Out :=
  .next (s.command ch .exportRewind (runExportRewind session position index))

/-- PORT.COUNTERS_READ: port kind 0 backhaul, 1 host, 2 partner, 3 session; each tally with its saturation flag. -/
def readPortCounters (kind number : Nat) (c : Caller) (s : State) : Reply :=
  let k (x : CtrName) (a b : Nat) : Nat := s.ctr { name := x, a := a, b := b }
  let tally (x : CtrName) (a : Nat) : List Nat := [k x a 0, bit (s.saturated { name := x, a := a })]
  let here := if kind = 0 then decide (number < 8) else if kind = 1 then decide (number = 0) else if kind = 2 then decide (number < 2)
    else decide (number < 32)
  let out : List Nat := match kind with
    | 0 => ([.portFramesIn, .portBytesIn, .portFramesOut, .portBytesOut, .portFecCorr, .portFecUncorr, .portOversize, .portRefused].map
            fun x => k x number 0) ++ tally .linkDown number
    | 1 => [k .aerCorr 0 0, k .aerUncorr 0 0] ++ tally .linkDown 10
    | 2 => (List.range 13).map (fun t => k .partnerIn number (t + 1)) ++ (List.range 13).map (fun t => k .partnerOut number (t + 1)) ++
        [k .partnerTagFail number 0] ++ tally .linkDown (8 + number) ++ tally .partnerTagTally number
    | _ => ([.heSent, .heAcked, .heResent, .heAckIgnored, .heDropped].map fun x => k x number 0) ++ tally .tlsFailures number
  gatedRead [(c.isObserver && (decide (kind ≠ 3 ∨ 32 ≤ number) || s.sees c (s.heTenant number)), .refusedRole), (c.slots 2, .badLength),
      (decide (kind ≤ 3) && here, .badArgument)]
    { status := .done, slots := out }

def execPortCountersRead (ch kind number : Nat) (s : State) : Out :=
  .next (s.readCommand ch .portCountersRead (readPortCounters kind number))

/-! ### Records (R637, R638) -/

/-- The fields of a backhaul port record whose change cycles the link. -/
def portWiring (b : Nat) : List Nat :=
  [Rec.BackhaulPort.VlanId.of b, Rec.BackhaulPort.Mtu.of b, Rec.BackhaulPort.Ipv4Prefix.of b, Rec.BackhaulPort.Ipv6Prefix.of b,
    Rec.BackhaulPort.Ipv4Addr.of b, Rec.BackhaulPort.Ipv4Gateway.of b, Rec.BackhaulPort.Ipv6Addr.of b, Rec.BackhaulPort.Ipv6Gateway.of b]

/-- The sessions of a port close and are opened again. -/
def State.cycleSessions (s : State) (p : Nat) : State :=
  (s.heEnabled.filter fun i => s.rd Rec.HeadEnd.Port i == p && decide ((s.headEnd i).st = .opened)).foldl
    (fun s i => s.closeHead i .record) s

/-- The backhaul port record (R637). -/
def ruleBackhaulPort : RecordRule where
  writer _ c _ _ := c.isOperator
  effect s _ p old b :=
    if !s.portUp p then s
    else if !Rec.BackhaulPort.Enabled.on b then
      (({ s with ports := { s.ports with backhaulUp := s.ports.backhaulUp.filter (· ≠ p) } }).linkMoved 0 p false).cycleSessions p
    else if portWiring old = portWiring b then s
    else ((s.linkMoved 0 p false).linkMoved 0 p true).cycleSessions p

def execBackhaulPortRecord (tenant inst : Nat) (body : List Byte) (s : State) : Out :=
  .next (s.applyRecord ruleBackhaulPort Schema.BackhaulPort tenant inst body)

/-- The head-end session record (R638). -/
def ruleHeadEnd : RecordRule where
  owner _ _ := .header
  writer _ c t _ := c.isOwner t
  effect s _ i old b :=
    let moved := [Rec.HeadEnd.RemoteAddr, Rec.HeadEnd.RemotePort, Rec.HeadEnd.Port, Rec.HeadEnd.PeerKeyHash].any fun (f : Fld) => f.of old ≠ f.of b
    if (s.headEnd i).st = .closed then s
    else if !Rec.HeadEnd.Enabled.on b then
      let s := s.closeHead i .record
      s.setHeadEnd i { s.headEnd i with st := .closed, waitS := 0 }
    else if moved then s.closeHead i .record else s

def execHeadEndSessionRecord (tenant inst : Nat) (body : List Byte) (s : State) : Out :=
  .next (s.applyRecord ruleHeadEnd Schema.HeadEnd tenant inst body)

end Sys2Proof.Machine
end

