-- ==== Sys2Proof/Machine/Reset.lean ====
section
/-! DEFINITION. Saves, resets and fatal errors: what a reset leaves, the save set, dropping the claim, yielding, region-fatal and
chip-fatal errors, and the tamper alarm (R30, R33 to R37, R322, R326, R558, R643, R660). -/

namespace Sys2Proof.Machine

open Sys2Proof

/-- The causes of a reset, as POWER.STATUS_READ reports them.
(Log entry 96: DESIGN CHOICE.) -/
inductive ResetCause where
  | powerOn | reboot | claimLost | yield | chipFatal | vaultReset | activate | supply
  deriving DecidableEq, Repr

/-- The code of a cause. -/
def ResetCause.code : ResetCause → Nat
  | .powerOn => 0 | .reboot => 1 | .claimLost => 2 | .yield => 3 | .chipFatal => 4 | .vaultReset => 5 | .activate => 6 | .supply => 7

/-! ### The save set (R660, R464) -/

/-- Every launch that is not locked is cancelled (R206, R660): a poll is deferred, a flood's frame goes back to its stream. -/
def State.cancelUnlocked (s : State) : State :=
  (s.air.queue.filter fun (e : Launch) => !e.locked).foldl (fun s e =>
    match e.meter, e.source with
    | some m, .poll => s.cancelPoll m .queue
    | _, _ => s.withdrawLaunch e) s

/-- The pulse outputs are driven inactive: the batch counts as emitted (R660 step 4, R417). -/
def State.pulsesInactive (s : State) : State :=
  (List.range 8).foldl (fun s o =>
    let p := s.pulse o
    if p.batch = 0 then s else (s.setPulse o { p with batch := 0 }).count { name := .metroPulses, a := o } p.batch) s

/-- SAVING begins: the last Position is fixed, unlocked launches are cancelled and the pulse outputs go inactive (R660). -/
def State.startSave (s : State) : State :=
  let first := ((s.store.journal.find? fun (e : JEntry) => !e.copied).map JEntry.position).getD s.store.nextPos
  let s := { s with pow := { s.pow with
    warn := .saving, saveStartMs := s.time.ms, saveFirst := first, saveLast := s.newestPos, savedFailure := true } }
  s.cancelUnlocked.pulsesInactive

/-- A slot list with its first erased slot filled; where none is erased the first is written over. -/
def fillSlot (x : SaveSlot) : List SaveSlot → List SaveSlot
  | [] => []
  | y :: l => if y.erased ∨ ¬l.any SaveSlot.erased then x :: l else y :: fillSlot x l

/-- The number of the slot a save takes. -/
def slotTaken : List SaveSlot → Nat
  | [] => 0
  | y :: l => if y.erased ∨ ¬l.any SaveSlot.erased then 0 else 1 + slotTaken l

/-! ### Rolls (R588 to R590) -/

/-- A roll enters a step. The step is journaled, so that the standby's roll follows (R593).
(Log entry 127: DESIGN CHOICE.) -/
def State.setRoll (s : State) (step : Nat) : State :=
  let acted := (s.upd.roll.map Roll.acted).getD false
  ({ s with upd := { s.upd with roll := some { step := step, sinceMs := s.time.ms, acted := acted } } }).journal .store 0 0 (.words [0x1500, step])

/-- A roll ends: outcome 0 done, 1 failed, 2 aborted; one that is not done halts a wave, and one that is done goes on with it (R589). -/
def State.endRoll (s : State) (outcome : Nat) : State :=
  match s.upd.roll with
  | none => s
  | some r =>
    let s := { s with upd := { s.upd with roll := none } }
    let s := s.journal .store 0 0 (.words [0x1500, 0, outcome])
    let s := if outcome = 1 then s.count { name := .updRollsFailed } else s
    let s := s.raise .updateRollDone 0 [outcome, r.step]
    if !s.rdB Rec.UpdatePolicy.Wave then s
    else if outcome = 0 then { s with upd := { s.upd with waveRequest := true } }
    else s.raise .updateWaveHalted 0 [outcome, r.step]

/-- The heads of a campaign that are not yet updated start again at block 0 (R591, R593). -/
def State.campaignsAgain (s : State) : State :=
  let head (h : HeadProgress) : HeadProgress := if h.result = 0 ∨ h.result = 3 then {} else h
  { s with upd := { s.upd with campaigns := s.upd.campaigns.map fun (c : Campaign) => { c with heads := c.heads.map fun e => (e.1, head e.2) } } }

/-! ### What a reset leaves (R643, R644, R520, R54, R69) -/

/-- The meters and zones that changed with a lost entry as they were before it, where no entry kept changed them later (R21).
(Log entry 150: DESIGN CHOICE.) -/
def State.revertKept (s : State) (e : JEntry) : State :=
  e.undo.foldl (fun s u =>
    if s.store.journal.any fun (k : JEntry) => decide (e.position < k.position) && k.also.contains u.1 then s
    else
      let s := s.keepObject u.1 u.2
      { s with store := { s.store with base := Map.put s.store.base u.1 u.2 } }) s

/-- A lost entry's change undone, where no entry kept changed the same object later.
(Log entry 97: DESIGN CHOICE.) -/
def State.revertEntry (s : State) (e : JEntry) : State :=
  let s := s.revertKept e
  if s.store.journal.any fun (k : JEntry) => decide (e.position < k.position) && k.kind == e.kind && k.object == e.object then s
  else match e.body with
    | .image slot _ old => { s with led := { s.led with meters := Map.put s.led.meters slot old } }
    | .config rid inst _ _ old => { s with records := match old with
        | some r => Map.put s.records (rid, inst) r
        | none => Map.del s.records (rid, inst) }
    | .words _ => s

/-- Entries leave the journal with their changes, newest first, and what waited for them goes too.
(Log entry 97: DESIGN CHOICE.) -/
def State.dropEntries (s : State) (lost : JEntry → Bool) : State :=
  let gone := s.store.journal.filter lost
  let s := { s with store := { s.store with journal := s.store.journal.filter fun e => !lost e } }
  let s := gone.reverse.foldl State.revertEntry s
  let out (p : Nat) : Bool := gone.any fun (e : JEntry) => e.position == p
  { s with
    ports := { s.ports with exports := s.ports.exports.filter fun (e : Export) => !out e.position }
    tar := { s.tar with waiting := s.tar.waiting.filter fun w => !out w.1 }
    met := { s.met with
      waiting := s.met.waiting.filter fun w => !out w.1
      tribs := Map.mapV s.met.tribs fun _ (x : MetroTrib) => { x with pending := match x.pending with
        | some y => if out y.1 then none else some y
        | none => none }
      pulses := Map.mapV s.met.pulses fun _ (p : Pulse) => if out p.position then { p with
        residue := p.was.1, backlog := p.was.2.1, batch := p.was.2.2, position := 0 } else p } }

/-- The line units and lanes as a reset leaves them: transmitters silent, counts of superframes kept. -/
def State.lanesReset (s : State) : State :=
  let cut := s.filt.captures.filter fun (c : Capture) => decide (c.st = .active ∨ c.st = .stopped)
  let s := if cut.isEmpty then s else (s.count { name := .filtTrunc } cut.length).count { name := .filtCapBytes } (cut.map fun c => c.ended.size).sum
  { s with
    lanes := Map.mapV s.lanes fun _ (l : Lane) => ({ txCount := (l.stopTx s.airPs).txCount } : Lane)
    filt := { s.filt with
      chans := [], resv := [], dc := [], fronts := [], chains := [], lines := [],
      captures := (s.filt.captures.filter fun (c : Capture) => c.st != .waiting).map fun (c : Capture) =>
        if c.st = .active ∨ c.st = .stopped then ({ c with truncated := true } : Capture).ended else c }
    rx := { nextId := s.rx.nextId }
    lea := { s.lea with tags := [], unsolMs := [] } }

/-- Nothing is on air or on its way: queues are empty, frames in the pipeline are lost (R21), and every meter without a descriptor
is planned again (R214, R228, R265, R420); the PollTag history is empty (R189). -/
def State.workLost (s : State) : State :=
  let s := s.fl.streams.foldl (fun s x => s.floodBack x.number) s
  let s := s.airRestart.lingRestart.metroRestart
  { s with
    met := { s.met with tribs := Map.mapV s.met.tribs fun _ (x : MetroTrib) => { x with armed := true } }
    lea := { s.lea with tags := [] }
    sec := { s.sec with pipe := [], rebuild := none, dirRefused := none }
    led := { s.led with
      ready := false, poisoned := [],
      queues := Map.mapV s.led.queues fun _ q => q.filter fun e => match e.2 with
        | .frame _ => false
        | _ => true } }

/-- The epoch table, with the present epoch's last committed Position where the chip serves (R563). -/
def State.epochTable (s : State) : List EpochRow :=
  if s.journals then s.pair.epochs.map fun (r : EpochRow) =>
    if r.epoch = s.pair.epoch then { r with lastCommitted := max r.lastCommitted s.committedPos } else r
  else s.pair.epochs

/-- What a chip keeps of its pair state through a reset: Epoch, the epoch table, TakeoverPos and the orphan log (R546, R563). -/
def State.pairKept (s : State) : Pair :=
  { epoch := s.pair.epoch, takeoverPos := s.pair.takeoverPos, epochs := s.epochTable, orphans := s.pair.orphans,
    nextOrphan := s.pair.nextOrphan, orphansUnlisted := s.pair.orphansUnlisted }

/-- A chip reset, of kind 0 power-on or 1 warm: entries of the journal buffer that no save holds are lost; sessions, tickets and
whatever the chip does not keep end, a serving chip's roll is aborted (R593), and the chip stands in stage RESET. Statistics counters and tamper
counts go on, but for HW_HEARTBEAT, HW_BAD_ACCESS, MB_IGNORED and MB_NOTIFY_LOST of the host window, which start at 0 again.
(Log entry 97: DESIGN CHOICE. Log entry 154: DESIGN CHOICE.) -/
def State.chipReset (s : State) (kind : Nat) (cause : ResetCause) : State :=
  let slots := s.pow.saveSlots
  let served := s.journals
  let s := s.workLost.dropEntries fun (e : JEntry) =>
    !e.copied && !slots.any fun (x : SaveSlot) => !x.erased && decide (x.first ≤ e.position ∧ e.position ≤ x.last)
  let s := s.recorderReset s.pow.vaonLost
  let s := s.mail.tickets.foldl (fun s t => s.voidTicket t.ticket .reset) s
  let s := (List.range 32).foldl (fun s n => s.closeSession n .reset) s
  let s := s.lanesReset
  let count := if s.pow.vaonLost then s.pow.bootCountSaved + 1 else s.pow.bootCount + 1
  let s := { s with
    mail := { s.mail with
      mailboxReady := false, serviceReady := false, heartbeat := 0, badAccess := 0, buffers := [], msixTable := [], msixPending := [],
      chans := [], tickets := [] }
    arch := { s.arch with
      regions := [], units := [], work := [], held := [], turn := [], revoked := [], chipFatal := false,
      cells := (s.arch.cells.filter fun e => e.2.fenced).map fun e => (e.1, ({ fenced := true } : CellHealth)) }
    vault := { s.vault with
      st := .loading, sealCause := none, live := [], shadow := [], erasing := [],
      tamperLatched := s.vault.tamperLatched && !s.pow.vaonLost, alarmStamp := if s.pow.vaonLost then 0 else s.vault.alarmStamp }
    time := { s.time with vaonClockValid := s.time.vaonClockValid && !s.pow.vaonLost }
    pair := s.pairKept
    upd := { s.upd with staging := none, bundle := none, lastBundle := [], bundlePassed := [], agree := [], waveRequest := false }
    safe := { s.safe with inputs := [] }
    ports := { s.ports with
      backhaulUp := [], partner0 := {}, partner1 := {}, eventFrames := [], unkeyedRaised := [],
      sessions := Map.mapV s.ports.sessions fun _ (x : HeadEndSession) =>
        ({ cursor := x.journaled, journaled := x.journaled, sent := x.journaled, top := x.top, backlog := x.backlog } : HeadEndSession) }
    store := { s.store with running := none, poisoned := [] }
    pow := { s.pow with
      stage := 0, stageMs := [], stageStart := s.time.ms, bootDetail := 0, failState := 0, paused := false,
      warn := if s.pow.warn = .disarmed then .disarmed else .idle, saveReset := false, resetAfterSave := none,
      resetKind := kind, resetCause := cause.code, resetMs := s.time.ms, bootCount := count % 2 ^ 32, vaonLost := false,
      heldDoorbells := [], held := false, host := .d0, pmeEn := false, pmeStatus := false, wakeN := false, wakeReasons := 0 } }
  if served then s.endRoll 2 else s

/-- The chip enters stage RESET and stays there until something releases it (R679, R680, R691). -/
def State.holdReset (s : State) : State :=
  let s := { s with
    mail := { s.mail with mailboxReady := false, serviceReady := false }
    pair := { s.pair with serving := false }
    arch := { s.arch with units := [] }
    pow := { s.pow with
      stage := 0, warn := .idle, saveReset := false, resetAfterSave := none, paused := false,
      thermTrip := s.pow.thermTrip || s.pow.tripPending, tripPending := false } }
  s.lanesReset

/-! ### Resets that firmware orders (R643, R558) -/

/-- Serving drops to 0 (R545, R548): launches not locked are cancelled, head-end sessions close. -/
def State.dropServing (s : State) : State :=
  let s := { s with pair := { s.pair with serving := false } }
  s.cancelUnlocked.closeHeads .claim

/-- A warm reset is ordered: the store writes the save set first, where there is a journal to save (R558). WARM_RESET carries it
out. -/
def State.orderReset (s : State) (cause : ResetCause) : State :=
  let s := { s with pow := { s.pow with resetAfterSave := some (s.pow.resetAfterSave.getD cause.code) } }
  match s.pow.warn with
  | .armed | .disarmed => s.startSave
  | _ => s

/-- The cause of a code. -/
def resetCauseOf (n : Nat) : ResetCause :=
  (([.powerOn, .reboot, .claimLost, .yield, .chipFatal, .vaultReset, .activate, .supply] : List ResetCause)[n]?).getD .reboot

/-- The active chip yields (R558): it stops committing, sends its newest committed Position, drops Serving and resets. -/
def State.yieldService (s : State) : State :=
  let s := (s.sendPartner 0 7 [s.committedPos]).count { name := .pairYields }
  s.dropServing.orderReset .yield

/-! ### Fatal errors (R30, R33 to R37) -/

/-- A chip-fatal error: Serving drops in hardware; with a ready partner and a running control region the chip yields, and otherwise
it resets. -/
def State.chipFatalError (s : State) (cause : Nat) (control : Bool) : State :=
  let s := ({ s with arch := { s.arch with chipFatal := true } }).raise .chipFatal 0 [cause]
  if control && s.serving && s.readyPartner then s.yieldService else s.dropServing.orderReset .chipFatal

/-- The lanes of a quadrant. -/
def quadrantLanes (q : Nat) : List Nat := (List.range 16).map (16 * q + ·)

/-- A lane whose region restarts or fails: it ends at once, without a stop. -/
def State.laneOut (s : State) (n : Nat) : State :=
  let s := (s.setUnit (.lane n) {}).modLane n fun (l : Lane) => ({ txCount := (l.stopTx s.airPs).txCount } : Lane)
  s.lineRelease n

/-- A quadrant's chains lose what they hold, and reception their branches: frames that relied only on them end, and their history is gone
(Table 2-5). -/
def State.quadrantChains (s : State) (q : Nat) : State :=
  let chans := s.chanInstances.filter fun i => quadrant (Rec.Channel.Lane.of (s.chanBody i)) == q
  let s := s.loseBranches chans
  { s with filt := { s.filt with
    fronts := s.filt.fronts.filter fun e => quadrant e.1.1 != q,
    chains := s.filt.chains.filter fun e => !chans.contains e.1.1,
    lines := s.filt.lines.filter fun e => match s.tribLane e.1 with
      | some n => quadrant n != q
      | none => true } }

/-- What a region loses as its restart begins (Table 2-5).
(Log entry 100: DESIGN CHOICE.) -/
def State.regionDown (s : State) (r : Nat) : State :=
  let s := s.workOut r
  if r < 4 then
    let s := (quadrantLanes r).foldl (fun s n => if s.laneSt n = .off then s else s.laneOut n) s
    s.quadrantChains r
  else match r with
    | 4 => s.rxRestart
    | 5 =>
      let s := s.fl.streams.foldl (fun s x => s.floodBack x.number) s
      { s with air := { s.air with
        queue := s.air.queue.filter fun (e : Launch) => e.locked && decide (e.start ≤ s.time.air),
        plans := Map.mapV s.air.plans fun _ (p : PlanMeter) => { p with out := none, ack := none } } }
    | 6 => s.lingRestart.metroRestart
    | 7 => { s with sec := { s.sec with pipe := [] } }
    | 8 => s.dropEntries fun (e : JEntry) => !e.acked && !e.committed && match e.body with
      | .image _ _ _ => true
      | _ => false
    | _ => s

/-- A region restart begins (R36, R47): `counts` where it follows a region-fatal error.
(Log entry 137: DEDUCED.) -/
def State.startRestart (s : State) (r : Nat) (counts : Bool) : State :=
  let x := Map.getD s.arch.regions r {}
  let lanes := if r < 4 then (quadrantLanes r).filter fun n => s.laneSt n ≠ .off ∧ s.laneSt n ≠ .stopping false else []
  let s := s.regionDown r
  let x : Region := { x with
    st := .restarting, began := s.time.ms, lanes := x.lanes ++ lanes, window := if counts then x.window ++ [s.time.ms] else x.window }
  ({ s with arch := { s.arch with regions := Map.put s.arch.regions r x } }).count { name := .regionRestarts, a := r }

/-- The restarts of a region that count within RestartWindowS. -/
def State.restartsIn (s : State) (r : Nat) : List Nat :=
  (Map.getD s.arch.regions r {}).window.filter fun t => decide (s.time.ms < t + 1000 * s.rd Rec.FaultPolicy.RestartWindowS)

/-- A region beyond RestartLimit is declared failed (R37); one of regions 7 to 10 is chip-fatal.
(Log entry 100: DESIGN CHOICE.) -/
def State.failRegion (s : State) (r cause : Nat) : State :=
  let x := Map.getD s.arch.regions r {}
  let s := s.regionDown r
  let s := ({ s with arch := { s.arch with regions := Map.put s.arch.regions r { x with st := .failed } } }).raise .regionFailed 0 [r]
  if 7 ≤ r then s.chipFatalError cause true else s

/-- A region-fatal error (R33, R34): takeover for regions 7 to 10 with a ready partner, reset for region 10 without one, and
otherwise a restart of the region, within RestartLimit. One in a region of 7 to 9 that is restarting or failed is an error that a
restart does not clear, so it is chip-fatal (Table 2-4); a failed region of 0 to 6 stays fenced, and the error is reported. One that fails its region and so resets the chip (R37) is reported with the action reset.
(Log entry 100: DESIGN CHOICE.) -/
def State.regionFatalError (s : State) (r cause : Nat) : State :=
  if 7 ≤ r && s.serving && s.readyPartner then (s.raise .regionFatal 0 [r, cause, 1]).yieldService
  else if r = 10 ∨ (7 ≤ r ∧ !s.regionOn r) then (s.raise .regionFatal 0 [r, cause, 2]).chipFatalError cause true
  else if (Map.getD s.arch.regions r {}).st = .failed then s.raise .regionFatal 0 [r, cause, 0]
  else
    let fails := decide (s.rd Rec.FaultPolicy.RestartLimit ≤ (s.restartsIn r).length)
    let s := s.raise .regionFatal 0 [r, cause, if fails && decide (7 ≤ r) then 2 else 0]
    if fails then s.failRegion r cause else s.startRestart r true

/-! ### Stages (R645 to R650) -/

/-- The first failure is recorded (R646); MINIMAL (0x0E) takes precedence over HELD (0x0F), R650. -/
def State.bootFail (s : State) (code to' : Nat) : State :=
  { s with pow := { s.pow with
    bootDetail := if s.pow.bootDetail = 0 then code else s.pow.bootDetail,
    failState := if to' = 0x0E ∨ s.pow.failState = 0 then to' else s.pow.failState } }

/-- The present stage ends and another begins. -/
def State.nextStage (s : State) (n : Nat) : State :=
  { s with pow := { s.pow with
    stageMs := Map.put s.pow.stageMs s.pow.stage (s.time.ms - s.pow.stageStart), stage := n, stageStart := s.time.ms } }

/-- The slots of `power.boot_done`. -/
def State.bootDoneSlots (s : State) : List Nat := [s.pow.stage, s.pow.bootDetail, s.time.ms - s.pow.resetMs]

/-- The chip stands in MINIMAL or HELD; `power.boot_done` waits for a session (R649).
(Log entry 99: DESIGN CHOICE.) -/
def State.standFailed (s : State) : State :=
  let s := (if s.serving then s.dropServing else s).nextStage s.pow.failState
  { s with pow := { s.pow with bootDone := some s.bootDoneSlots } }

/-! ### Tamper (R322, R323, R324, R658, R667) and VAULT.RESET (R326) -/

/-- The persistent slots of the domains of TamperEraseMask are erased, their counters kept (R322 step 3). The answer is the mask
of the domains erased.
(Log entry 101: DESIGN CHOICE.) -/
def State.tamperErase (s : State) : State :=
  let mask := s.rd Rec.VaultPolicy.TamperEraseMask
  let s := ((Map.keys s.vault.copies).filter fun k => bitOn mask k.1 && s.slotSet k.1 k.2).foldl
    (fun s k => s.commitSlot k.1 k.2 0 (s.domainCounter k.1) []) s
  let s := { s with vault := { s.vault with erasing := [] } }
  if bitOn mask 16 then { s with mail := { s.mail with
    creds := [], credGens := s.mail.credGens.map fun e => (e.1, max e.2 (s.slotGen 16 (credSlot e.1))) } } else s

/-- Steps 2 to 4 of R322: sessions close, slots are erased, the vault is SEALED. `context` is 0 running, 1 start-up, 2 sleep.
(Log entry 101: DESIGN CHOICE.) -/
def State.tamperSteps (s : State) (loop context aborted : Nat) : State :=
  let s := (List.range 32).foldl (fun s n => s.closeSession n .revoked) s
  let s := s.tamperErase
  let s := { s with vault := { s.vault with st := .sealed, sealCause := some 0, live := [], shadow := [] } }
  s.raise .vaultTamper 0 [loop, context, aborted, s.rd Rec.VaultPolicy.TamperEraseMask] true

/-- TAMPER_ALARM: a tamper loop opens; before SERVICE the chip ends in MINIMAL (R658), at once where CONTROL has been reached. On a running chip the vault erases and seals, which is region-fatal in the control region;
during start-up the vault seals and the boot ends in MINIMAL; in SLEEP the alarm wakes the chip. `aborted` counts the bound
operations that were under way.
(Log entry 101: DESIGN CHOICE.) -/
def execTamperAlarm (loop aborted : Nat) (s : State) : Out :=
  if 1 < loop then .next s else
  let was := s.vault.tamperLatched
  let s := s.count { name := .vaultAlarms }
  let open' := if bitOn s.vault.loopsOpen loop then s.vault.loopsOpen else s.vault.loopsOpen + 2 ^ loop
  let s := { s with vault := { s.vault with loopsOpen := open', tamperLatched := true, alarmStamp := if was then s.vault.alarmStamp else s.stamp } }
  if was then .next s
  else if s.pow.stage = 0x0A ∨ (s.pow.stage = 0x0F ∧ s.vault.st = .opened) then .next ((s.tamperSteps loop 0 aborted).regionFatalError 10 0)
  else if s.pow.stage = 0x0C then .next ((List.range 32).foldl (fun s n => s.closeSession n .revoked) s)
  else if s.vault.st = .opened then
    let s := (s.tamperSteps loop 1 aborted).bootFail 0x0501 0x0E
    .next (if 7 ≤ s.pow.stage then s.standFailed else s)
  else .next s

/-- VAULT.RESET: without a session, on a host-window channel, while the latch is set, both loops are open and no tenant is
sealed. -/
def runVaultReset (c : Caller) (s : State) : Reply × State :=
  gated s [(c.slots 0, .badLength),
      (!s.tunnelled c.ch && s.vault.tamperLatched && decide (s.vault.loopsOpen = 3) && !s.anySealed, .refusedState)] fun s =>
    let s := { s with
      vault := { s.vault with
        banks := [], entries := [], copies := [], live := [], shadow := [], erasing := [], counters := [], exhausted := [], bcCtr := [] }
      mail := { s.mail with creds := [], credGens := [], firstSoSet := false } }
    ({ status := .done }, (s.raise .vaultReset 0 [] true).orderReset .vaultReset)

def execVaultReset (ch : Nat) (s : State) : Out := .next (s.command ch .vaultReset runVaultReset)

end Sys2Proof.Machine
end

