-- ==== Sys2Proof/Machine/Tenants.lean ====
section
/-! DEFINITION. Chapter 21: tenants, sealing and release (R526 to R544). -/

namespace Sys2Proof.Machine

open Sys2Proof

/-- The state with a tenant set. -/
def State.setTenant (s : State) (t : Nat) (x : TenantSt) : State := { s with ten := { s.ten with st := Map.put s.ten.st t x } }

/-- A tenant's change of state is journaled (R527). -/
def State.moveTenant (s : State) (t : Nat) (x : TenantSt) : State :=
  (s.setTenant t x).journal .config t (0x1300 * 65536 + t) (.words [0x1300, t, x.st.code])

/-- Whether a tenant may be sealed (Table 21-1). -/
def State.sealable (s : State) (t : Nat) : Bool := decide (1 ≤ t ∧ t ≤ s.sealedTenants)

/-! ### Sealing (R531, R532) -/

/-- The five shares of a tenant record, and the most that SEALED tenants may hold of each together. -/
def State.shares (s : State) (t : Nat) : List Nat :=
  [s.rd Rec.Tenant.CtxReserve t, s.rd Rec.Tenant.CryptoPermille t, s.rd Rec.Tenant.EnginePermille t, s.rd Rec.Tenant.FlashPermille t,
    s.rd Rec.Tenant.FabricPermille t]
def shareLimits : List Nat := [3072, 750, 750, 750, 750]

/-- Whether the shares of a tenant fit beside those of the SEALED tenants. -/
def State.sharesFit (s : State) (t : Nat) : Bool :=
  (List.range 5).all fun i =>
    decide ((((List.range 16).filter fun k => k == t || s.isSealed k).map fun k => (s.shares k).getD i 0).sum ≤ shareLimits.getD i 0)

/-- The meters assigned to a tenant. -/
def State.metersOf (s : State) (t : Nat) : List Nat := s.assignedSlots.filter fun slot => s.meterTenant slot == t

/-- The 2 MiB units a tenant's meter records need (R469), and the units of the meter record area. -/
def State.unitsOf (s : State) (t : Nat) : Nat :=
  ceilDiv (((s.metersOf t).length + 1024 * s.rd (Rec.Partition.MeterKRecords t)) * 1024) (2 * 2 ^ 20)
def recordUnits : Nat := 512

/-- The regions of the SEALED tenants. -/
def State.regionsFixed (s : State) : List (Nat × Nat) := (Map.vals s.ten.st).filterMap TenantSt.region

/-- The lowest first unit at which `n` units lie clear of the regions fixed.
(Log entry 118: DESIGN CHOICE.) -/
def State.regionAt (s : State) (n : Nat) : Option Nat :=
  leastBy id ((0 :: s.regionsFixed.map fun r => r.1 + r.2).filter fun a =>
    decide (a + n ≤ recordUnits) && s.regionsFixed.all fun r => decide (a + n ≤ r.1 ∨ r.1 + r.2 ≤ a))

/-- Whether free DRAM holds the region of a tenant beside the records of the tenants that are not sealed. -/
def State.regionFits (s : State) (t : Nat) : Bool :=
  let open' := (s.assignedSlots.filter fun slot => s.meterTenant slot != t && !s.isSealed (s.meterTenant slot)).length
  decide ((s.regionsFixed.map Prod.snd).sum + s.unitsOf t + ceilDiv (open' * 1024) (2 * 2 ^ 20) ≤ recordUnits) &&
    (s.regionAt (s.unitsOf t)).isSome

/-- An object as a slot of the answer: its kind (0 meter slot, 1 ledger class, 2 validation class, 3 prepay class, 4 plan, 5 zone)
and its number.
(Log entry 118: DESIGN CHOICE.) -/
def sealObject (kind n : Nat) : Nat := kind * 2 ^ 32 + n

/-- The objects of another owner that a meter of a tenant names (code 7), after the meter.
(Log entry 118: DESIGN CHOICE.) -/
def State.foreignOf (s : State) (t slot : Nat) : List Nat :=
  let ledger := s.rd Rec.LedgerMeter.LedgerClass slot
  let check := s.rd Rec.MeterSec.Class slot
  let plan := s.rd Rec.LedgerMeter.Plan slot
  let pre := s.rd Rec.PrepayMeter.Class slot
  let bad := (if s.recTenant 0x0B00 ledger = t then [] else [sealObject 1 ledger]) ++
    (if s.ruleTenant check = t then [] else [sealObject 2 check]) ++
    (if s.rdB Rec.PrepayMeter.Enabled slot ∧ s.recTenant Rec.PrepayClass.CreditStepMilli.rid pre ≠ t then [sealObject 3 pre] else []) ++
    (if s.recTenant Rec.TariffPlan.EffectiveS.rid plan = t then [] else [sealObject 4 plan])
  if bad.isEmpty then [] else sealObject 0 slot :: bad

/-- The zones of a tenant. -/
def State.zonesOf (s : State) (t : Nat) : List Nat :=
  ((Map.keys s.records).filter fun k => k.1 == Rec.Zone.Active.rid && s.zoneTenant k.2 == t).map Prod.snd

/-- The zones of a tenant that fail code 8: not active, or named by another tenant's meter. -/
def State.badZones (s : State) (t : Nat) : List Nat :=
  (s.zonesOf t).filter fun z => !s.rdB Rec.Zone.Active z ||
    s.assignedSlots.any fun slot => s.meterTenant slot != t && s.rdB Rec.LedgerMeter.ZoneAssigned slot && s.rd Rec.LedgerMeter.Zone slot == z

/-- The failing codes of Table 21-3, and the offending objects. -/
def State.sealCodes (s : State) (t : Nat) : List Nat × List Nat :=
  let admins := (s.mail.creds.filter fun (e : CredKey × Credential) => e.1.1 == 2 && e.1.2.1 == t).length
  let foreign := (s.metersOf t).flatMap (s.foreignOf t)
  let zones := s.badZones t
  let part := s.rd (Rec.Partition.NsGiB t) ≠ 0 ∧ s.partsFit s.partBody s.diesInUse ∧ s.regionFits t
  ((if s.arch.debugClosed then [] else [1]) ++ (if (s.tenant t).st = .opened then [] else [2]) ++
    (if s.slotSet t 2 ∧ s.slotSet t 3 then [] else [3]) ++ (if 2 ≤ admins then [] else [4]) ++ (if s.sharesFit t then [] else [5]) ++
    (if part then [] else [6]) ++ (if foreign.isEmpty then [] else [7]) ++ (if zones.isEmpty then [] else [8]),
   (foreign ++ zones.map (sealObject 5)).take 16)

/-- The slots that list failing codes and offending objects, each list after its count. -/
def sealSlots (x : List Nat × List Nat) : List Nat := x.1.length :: x.1 ++ x.2.length :: x.2

/-- The checks of a command that names a tenant. -/
def State.tenantChecks (s : State) (c : Caller) (t : Nat) (role : Bool) : List (Bool × Status) :=
  [(role, .refusedRole), (c.slots 1, .badLength), (decide (t < 16), .badArgument), (s.tenantHere t, .absentCapacity)]

/-- TENANT.SEAL: the first approval. -/
def runTenantSeal (t : Nat) (c : Caller) (s : State) : Reply × State :=
  gated s (s.tenantChecks c t c.isOfficer ++ [(s.sealable t, .refusedState)]) fun s => s.firstApproval c .tenantSeal [t] t

def execTenantSeal (ch tenant : Nat) (s : State) : Out := .next (s.command ch .tenantSeal (runTenantSeal tenant))

/-- TENANT.SEAL approved: where every precondition holds, the tenant is SEALED at this instant, with its DRAM region (R532). -/
def State.approvedSeal (s : State) (t : Nat) : Reply × State :=
  let x := s.sealCodes t
  if x.1.isEmpty then
    let y : TenantSt := { st := .sealed, sealStamp := s.stamp, region := (s.regionAt (s.unitsOf t)).map fun a => (a, s.unitsOf t) }
    ({ status := .done }, ((s.moveTenant t y).count { name := .tenSealings, a := t }).raise .tenantSealed t (t :: s.shares t))
  else
    ({ status := .sealPrecondition, slots := sealSlots x }, s.raise .tenantSealRefused t (t :: x.1.length :: x.1))

/-- TENANT.CHECK: Table 21-3 evaluated. -/
def readTenantCheck (t : Nat) (c : Caller) (s : State) : Reply :=
  gatedRead (s.tenantChecks c t c.isOfficer) { status := .done, slots := sealSlots (s.sealCodes t) }

def execTenantCheck (ch tenant : Nat) (s : State) : Out := .next (s.readCommand ch .tenantCheck (readTenantCheck tenant))

/-! ### Release (R539) -/

/-- TENANT.RELEASE: the first approval. -/
def runTenantRelease (t : Nat) (c : Caller) (s : State) : Reply × State :=
  gated s (s.tenantChecks c t (c.isTenantAdmin t) ++ [(s.isSealed t, .refusedState)]) fun s =>
    s.firstApproval c .tenantRelease [t] t

def execTenantRelease (ch tenant : Nat) (s : State) : Out := .next (s.command ch .tenantRelease (runTenantRelease tenant))

/-- A meter's assignment ends by the release of its tenant (R539 step 1, R349). -/
def State.releaseMeter (s : State) (slot : Nat) : State :=
  match s.recInst Rec.MeterSec.Assigned.rid slot with
  | none => s
  | some r =>
    let s := s.storeRecord Rec.MeterSec.Assigned.rid slot r.tenant (setBits r.body Rec.MeterSec.Assigned.bit 1 0)
    let s := { s with sec := { s.sec with dirVictims := s.sec.dirVictims.filter (· ≠ slot) } }
    (s.bindAnew slot).ledgerChange slot (.close 3 none)

/-- TENANT.RELEASE approved: the tenant is RELEASING, and every meter of it ends its assignment. -/
def State.approvedRelease (s : State) (t : Nat) : Reply × State :=
  if s.isSealed t then
    let l := s.metersOf t
    let s := s.moveTenant t { s.tenant t with st := .releasing, closed := l.length }
    ({ status := .deferred }, l.foldl State.releaseMeter s)
  else ({ status := .refusedState }, s)

/-- Steps 2 to 5 of a release: keys, namespace, DRAM region and shares. -/
def State.finishRelease (s : State) (t : Nat) : State :=
  let closed := (s.tenant t).closed
  let s := ((List.range 64).filter fun k => s.slotSet t k).foldl (fun s k => s.commitSlot t k 0 (s.domainCounter t) []) s
  let s := ((s.freeNamespace t).moveTenant t {}).count { name := .tenReleases, a := t }
  s.raise .tenantReleased t [t, closed, s.nsEpoch t]

/-- TENANT_RELEASE_DONE: once the ledger has closed every meter of a RELEASING tenant, the release ends and the tenant is OPEN. -/
def execTenantReleaseDone (tenant : Nat) (s : State) : Out :=
  if s.isReleasing tenant ∧ (Map.getD s.led.queues tenant []).isEmpty then .next (s.finishRelease tenant) else .next s

/-! ### The fabric and the DRAM controller (R529, R535) -/

/-- The area of the meter records, whose 2 MiB regions have owners, and where it begins in the table's order (R535, Table 18-8).
(Log entry 84: DESIGN CHOICE.) -/
def recordArea : Nat := 2
def State.recordBase (s : State) : Nat := ((areaMiB s.arch.dramGiB).take recordArea).sum * 2 ^ 20

/-- The owner map of the DRAM controller: the SEALED tenant in whose region an address lies (R535). -/
def State.ownerOf (s : State) (address : Nat) : Option Nat :=
  if s.areaAt address ≠ recordArea then none
  else
    let u := (address - s.recordBase) / (2 * 2 ^ 20)
    (List.range 16).find? fun t => s.isSealed t && (match (s.tenant t).region with
      | some r => decide (r.1 ≤ u ∧ u < r.1 + r.2)
      | none => false)

/-- TENANT_ACCESS_VIOLATION: work that the arbiter charges to `requester` accesses an address: in another, SEALED tenant's region it
is refused before it reaches the line, counted and reported. -/
def execTenantAccessViolation (requester address : Nat) (s : State) : Out :=
  match s.ownerOf address with
  | none => .next s
  | some owner =>
    if owner = requester then .next s
    else .next ((s.count { name := .tenViolations, a := owner }).raise .tenantAccessViolation owner [owner, requester, s.areaAt address])

/-- SHARE_WAIT: work of a sealed tenant has waited for a resource beyond ShareWaitMs (R529). -/
def execShareWait (tenant resource : Nat) (s : State) : Out :=
  match Resource.all[resource]? with
  | none => .next s
  | some r =>
    let w := s.waited r tenant
    if s.isSealed tenant ∧ s.rd Rec.Tenant.ShareWaitMs tenant < w then
      .next ((s.count { name := .tenWaits, a := tenant }).raiseEvery 60000 .tenantShareWait tenant tenant [tenant, resource, w])
    else .next s

/-! ### Reads (Table 21-8) -/

/-- Whether a session may read a tenant's state (Table 21-5). -/
def Caller.seesTenant (c : Caller) (t : Nat) : Bool := c.tenant == 0 || c.tenant == t

/-- Kind of a tenant: 0 operator, 1 sealable, 2 shared. -/
def tenantKind (t : Nat) : Nat := if t = 0 then 0 else if t ≤ 8 then 1 else 2

/-- What TENANT.STATUS_READ says of a tenant: state, kind, five shares, PoolWeight, quanta granted and
lent per resource, first unit and count of its DRAM region, namespace epoch; the last three only where Table 21-5 lets the session see them. -/
def State.tenantRow (s : State) (c : Caller) (t : Nat) : List Nat :=
  let all := c.role == 3 || s.sees c t
  let r := (s.tenant t).region
  [(s.tenant t).st.code, tenantKind t] ++ s.shares t ++ [s.rd Rec.Tenant.PoolWeight t] ++ s.quantaOf ArbRes.granted t ++
    s.quantaOf ArbRes.loans t ++ [slotOpt (if all then r.map Prod.fst else none), slotOpt (if all then r.map Prod.snd else none), slotOpt (if all then some (s.nsEpoch t) else none)]

/-- TENANT.STATUS_READ: per tenant its row, after their count where all are asked for. -/
def readTenantStatus (t : Nat) (c : Caller) (s : State) : Reply :=
  let l := if t = 0xFF then (List.range 16).filter fun k => s.tenantHere k && c.seesTenant k else [t]
  gatedRead [(c.isObserver && (decide (t = 0xFF) || c.seesTenant t), .refusedRole), (c.slots 1, .badLength),
      (decide (t < 16 ∨ t = 0xFF), .badArgument), (decide (t = 0xFF) || s.tenantHere t, .absentCapacity)]
    { status := .done, slots := (if t = 0xFF then [l.length] else []) ++ l.flatMap (s.tenantRow c) }

def execTenantStatusRead (ch tenant : Nat) (s : State) : Out :=
  .next (s.readCommand ch .tenantStatusRead (readTenantStatus tenant))

/-- TENANT.COUNTERS_READ: quanta granted, lent and borrowed per resource, waits, then violations, sealings
and releases, each with its saturation flag. -/
def readTenantCounters (t : Nat) (c : Caller) (s : State) : Reply :=
  let tallies : List CtrName := [.tenViolations, .tenSealings, .tenReleases]
  gatedRead [(c.isObserver && c.seesTenant t, .refusedRole), (c.slots 1, .badLength), (decide (t < 16), .badArgument),
      (s.tenantHere t, .absentCapacity)]
    { status := .done,
      slots := s.quantaOf ArbRes.granted t ++ s.quantaOf ArbRes.loans t ++ s.quantaOf ArbRes.borrowed t ++ [s.ctr { name := .tenWaits, a := t }] ++
        tallies.flatMap fun k => [s.ctr { name := k, a := t }, bit (s.saturated { name := k, a := t })] }

def execTenantCountersRead (ch tenant : Nat) (s : State) : Out :=
  .next (s.readCommand ch .tenantCountersRead (readTenantCounters tenant))

/-- The tenant record (R542). -/
def ruleTenantRecord : RecordRule where
  writer _ c _ _ := c.isOfficer
  absent s i _ := if s.tenantHere i then none else some .absentCapacity
  check s _ i _ _ := if (s.tenant i).st = .opened then none else some .refusedState

def execTenantRecord (tenant inst : Nat) (body : List Byte) (s : State) : Out :=
  .next (s.applyRecord ruleTenantRecord Schema.Tenant tenant inst body)

end Sys2Proof.Machine
end

