-- ==== Sys2Proof/Machine/Faults.lean ====
section
/-! DEFINITION. Chapter 2: error classes, fencing, slow cells, region restarts, units at their end state, and the architecture
commands (R27, R30 to R47). -/

namespace Sys2Proof.Machine

open Sys2Proof

/-! ### Fencing (R31, R32) -/

/-- A block that has just been fenced: its work goes to blocks of its kind, or the error becomes region-fatal (R32); where the
control cores are all fenced, or the vault core is, it is chip-fatal (Table 2-4). The control region still runs beside a fenced
vault core, not beside fenced control cores.
(Log entry 145: DEDUCED.) -/
def State.blockGone (s : State) (r b cause : Nat) : State :=
  let s := s.raise .blockFenced 0 [unitAddr r b 0x3F]
  if r = 10 ∧ b < 2 then s.chipFatalError cause (b = 1)
  else if (s.sameKind r b).all fun x => s.blockFenced r x then s.regionFatalError r cause else s

/-- What losing a cell does in its region: spectrum channels of a quadrant are placed again without a fine cell (R116), and the
lane of a lane cell loses its lock. -/
def State.cellGone (s : State) (a : Nat) : State :=
  let r := addrRegion a
  if r < 4 then
    if addrBlock a < 4 then s.laneCellGone (16 * r + 4 * addrBlock a + addrCell a)
    else s.replaceQuadrant r 0
  else s

/-- A cell is fenced as a contained error and its work reassigned (Table 2-4); the last cell of a block fences the block. The
cause is that of the error, 1 for SLOW entries (R38), 2 for a command and 3 for a stop overrun (R42).
(Log entry 146: DESIGN CHOICE.) -/
def State.fenceCell (s : State) (a cause : Nat) : State :=
  if (s.cell a).fenced then s
  else
    let s := (s.setCell a { s.cell a with fenced := true, slow := false }).raise .cellFenced 0 [a, cause]
    let s := (s.reassign a).cellGone a
    if s.blockFenced (addrRegion a) (addrBlock a) then s.blockGone (addrRegion a) (addrBlock a) cause else s

/-- A block is fenced as a whole. -/
def State.fenceBlock (s : State) (a cause : Nat) : State :=
  let r := addrRegion a
  if s.arch.fencedBlocks.contains a then s
  else
    let s := { s with arch := { s.arch with fencedBlocks := s.arch.fencedBlocks ++ [a] } }
    let fresh := (s.cellsOf r (addrBlock a)).filter fun c => !(s.cell c).fenced
    let s := fresh.foldl (fun s c => s.setCell c { s.cell c with fenced := true, slow := false }) s
    let s := fresh.foldl (fun s c => (s.reassign c).cellGone c) s
    s.blockGone r (addrBlock a) cause

/-- A unit address is fenced: a cell, or with cell 0x3F a block. -/
def State.fenceUnit (s : State) (a cause : Nat) : State :=
  if addrCell a = 0x3F then s.fenceBlock a cause else s.fenceCell a cause

/-! ### Errors (R30, R31) -/

/-- A corrected error counted; CorrectedPerHour of them in an hour raise `cell.corrected_rate` once (Table 2-12). The hour is
the clock hour of legal time.
(Log entry 147: DESIGN CHOICE.) -/
def State.corrected (s : State) (a : Nat) : State :=
  let s := s.count { name := .correctedErrors, a := a }
  let x := s.cell a
  let n := if x.hour = s.hour then x.hourCount + 1 else 1
  let raised := decide (x.hour = s.hour) && x.hourRaised
  let hit := decide (s.rd Rec.FaultPolicy.CorrectedPerHour ≤ n) && !raised
  let s := s.setCell a { x with hour := s.hour, hourCount := n, hourRaised := raised || hit }
  if hit then s.raise .cellCorrectedRate 0 [a, n] else s

/-- ERROR_DETECTED: kind 0 a single-bit error, 1 a parity or ECC error of which `n` retries have failed before one succeeds or all
are spent, 2 a double-bit error on a crossing, whose word is discarded and whose work item `n` (0 where it belonged to none) goes
to another cell as the unit is fenced (R24), 3 an error that is region-fatal, 4 one that is chip-fatal (`n` not 0: the control
region still runs). -/
def execErrorDetected (kind unit n cause : Nat) (s : State) : Out :=
  if kind = 4 then .next (s.chipFatalError cause (n ≠ 0))
  else if ¬s.unitHere unit then .next s
  else match kind with
    | 0 => .next (s.corrected unit)
    | 1 => .next (if n < s.rd Rec.FaultPolicy.CellRetries then s.corrected unit else s.fenceUnit unit cause)
    | 2 =>
      let lost := n ≠ 0 ∧ addrCell unit ≠ 0x3F ∧ !(s.cell unit).fenced ∧ !(s.queueOf unit).any fun (w : WorkItem) => w.item == n
      let s := s.fenceUnit unit cause
      .next (if lost then (s.reissue unit n).count { name := .reissues, a := unit } else s)
    | 3 => .next (s.regionFatalError (addrRegion unit) cause)
    | _ => .next s

/-! ### Work deadlines and slow cells (R27, R38) -/

/-- A cell enters SLOW (R38): it finishes the items it holds and receives no new ones, so the channels whose sample slots a fine
cell serves move to others (R39). SlowToFence entries within RestartWindowS fence it, with cause 1.
(Log entry 146: DESIGN CHOICE.) -/
def State.enterSlow (s : State) (a misses : Nat) : State :=
  let x := s.cell a
  let entries := s.time.ms :: x.slowEntries.filter fun t => decide (s.time.ms < t + 1000 * s.rd Rec.FaultPolicy.RestartWindowS)
  let s := s.setCell a { x with slow := true, slowSince := s.time.ms, misses := [], slowEntries := entries }
  let s := (s.count { name := .slowEntries, a := a }).raise .cellSlow 0 [a, misses]
  let s := if addrRegion a < 4 ∧ 20 ≤ addrBlock a then (s.quadChannels (addrRegion a)).foldl (fun s i => s.moveSlots a i) s else s
  if s.rd Rec.FaultPolicy.SlowToFence ≤ entries.length then s.fenceCell a 1 else s

/-- Whether the deadline of a ticket on a cell can have passed: the cell's kind has a deadline, and the item, where the block
issued it under this ticket, is due (R27, Table 2-3). -/
def State.overdue (s : State) (unit ticket : Nat) : Bool :=
  (s.deadlineMs unit).isSome &&
    match s.arch.work.find? fun (w : WorkItem) => w.ticket == ticket with
    | some w => w.cell == unit && decide (w.dueMs ≤ s.time.ms)
    | none => true

/-- WORK_DEADLINE_MISSED: the ticket is revoked and its item reissued under the next ticket to another cell, or held by the block
(R26, R27); the item of a fine cell is the channel whose sample slot it was; SlowMisses misses within SlowWindowMs make the cell
SLOW. The reissue counts for the cell that missed.
(Log entry 108: DESIGN CHOICE. Log entry 148: DESIGN CHOICE.) -/
def execWorkDeadlineMissed (unit ticket item : Nat) (s : State) : Out :=
  if ¬s.unitHere unit ∨ addrCell unit = 0x3F ∨ s.revokedTicket ticket ∨ (s.cell unit).fenced ∨ !s.overdue unit ticket then .next s
  else
    let item := ((s.arch.work.find? fun (w : WorkItem) => w.ticket == ticket).map WorkItem.item).getD item
    let s := { s with arch := { s.arch with
      revoked := s.arch.revoked ++ [ticket], work := s.arch.work.filter fun (w : WorkItem) => w.ticket ≠ ticket } }
    let s := s.settleWork.reissue unit item
    let s := (s.count { name := .deadlineMisses, a := unit }).count { name := .reissues, a := unit }
    let s := if addrRegion unit = 8 then s.count { name := .ledEngReissue, a := 8 * addrBlock unit + addrCell unit } else s
    let s := if addrRegion unit < 4 ∧ 20 ≤ addrBlock unit then s.moveSlots unit item else s
    let x := s.cell unit
    let misses := s.time.ms :: x.misses.filter fun t => decide (s.time.ms < t + s.rd Rec.FaultPolicy.SlowWindowMs)
    let s := s.setCell unit { x with misses := misses }
    .next (if ¬x.slow ∧ s.rd Rec.FaultPolicy.SlowMisses ≤ misses.length then s.enterSlow unit misses.length else s)

/-- PROBATION_END: a SLOW cell returns to service after ProbationMs. -/
def execProbationEnd (unit : Nat) (s : State) : Out :=
  let x := s.cell unit
  if x.slow ∧ x.slowSince + s.rd Rec.FaultPolicy.ProbationMs ≤ s.time.ms then
    .next (s.setCell unit { x with slow := false }).settleWork
  else .next s

/-! ### Region restarts (R36) -/

/-- What a region takes up again as its restart completes (Table 2-5).
(Log entry 100: DESIGN CHOICE.)
(Log entry 137: DEDUCED.) -/
def State.regionUp (s : State) (r : Nat) (lanes : List Nat) : State :=
  let s := lanes.foldl (fun s n => (s.enableLaneCells n 3).2) s
  if r = 7 then s.secRestart else if r = 9 then s.commitSweep else s

/-- REGION_RESTART_DONE.
(Log entry 2: DESIGN CHOICE.) -/
def execRegionRestartDone (region : Nat) (s : State) : Out :=
  let x := Map.getD s.arch.regions region {}
  if x.st ≠ .restarting then .next s
  else
    let s := { s with arch := { s.arch with regions := Map.put s.arch.regions region { x with st := .on, lanes := [] } } }
    .next ((s.regionUp region x.lanes).raise .regionRestarted 0 [region, s.time.ms - x.began])

/-! ### Units at their end state (R41, R42) -/

/-- The unit of a kind (0 lane, 1 receive context, 2 Ling transmit, 3 DC-block) and number. -/
def unitOf (kind n : Nat) : Option UnitId :=
  match kind with
  | 0 => some (.lane n) | 1 => some (.context n) | 2 => some (.lingTx n) | 3 => some (.dcBlock n) | _ => none

/-- What reaching the end state does for each kind of unit (Table 2-7). -/
def State.ended (s : State) (u : UnitId) : State :=
  match u with
  | .lane n =>
    let s := s.endLane n
    if s.laneSt n = .starting then s.lineReserve n else s.lineRelease n
  | .lingTx t => s.lingEnded t
  | .dcBlock t => s.endDc t
  | .context _ => s

/-- UNIT_END_STATE: a STOPPING unit reaches its end state. -/
def execUnitEndState (kind number : Nat) (s : State) : Out :=
  match unitOf kind number with
  | none => .next s
  | some u =>
    match u, s.unitSt u with
    | .context n, .stopping _ => .next (s.freeContext n)
    | _, .stopping _ => .next ((s.setUnit u (endUnit (s.unit u))).ended u)
    | _, _ => .next s

/-- A receive context fenced in STOPPING: its entry is gone, and what it held is dropped. -/
def State.dropContext (s : State) (n : Nat) : State × Bool :=
  match s.ctx n with
  | none => (s, false)
  | some c =>
    let s := s.abortHeld n
    ({ s with rx := { s.rx with ctxs := Map.del s.rx.ctxs n } }, c.held.isSome)

/-- The cell a unit under the enable rule belongs to. The spec gives Ling transmit of a tributary and a DC-block stage no address:
the first takes Ling block 16 + t / 1 024, cell t / 64 mod 16, and the second the channeliser cell of its lane.
(Log entry 149: DESIGN CHOICE.) -/
def State.unitCell (s : State) (u : UnitId) : Nat :=
  match u with
  | .lane n => unitAddr (n / 16) (n % 16 / 4) (n % 4)
  | .context n => unitAddr 4 32 (n / 64)
  | .lingTx t => unitAddr 6 (16 + t / 1024) (t / 64 % 16)
  | .dcBlock t =>
    let n := match dcTarget t with
      | some (.inl c) => Rec.Channel.Lane.of (s.chanBody c)
      | some (.inr (trib, _)) => (s.tribLane trib).getD 0
      | none => 0
    unitAddr (n / 16) (4 + n % 16) 0

/-- UNIT_STOP_OVERRUN: the stop bound passes first (R42): the unit is fenced as a contained error (Table 2-4), with cause 3 of
`cell.fenced`.
(Log entry 135: DEDUCED. Log entry 146: DESIGN CHOICE.) -/
def execUnitStopOverrun (kind number : Nat) (s : State) : Out :=
  match unitOf kind number with
  | none => .next s
  | some u =>
    let x := s.unit u
    match x.st with
    | .stopping _ =>
      if s.time.ms ≤ x.stopAt + u.stopBound then .next s
      else
        let (x', held) := overrunUnit x
        let s := (s.setUnit u x').raise .unitStopOverrun 0 [u.word, s.time.ms - x.stopAt]
        let s := s.raise .cellFenced 0 [s.unitCell u, 3]
        let (s, dropped) : State × Bool := match u with
          | .context n => s.dropContext n
          | _ => (s.ended u, held)
        .next (if dropped then s.raise .unitEnableDropped 0 [u.word] else s)
    | _ => .next s

/-! ### Commands (Table 2-10) -/

/-- CTRL.CAPS_READ. -/
def readCaps (c : Caller) (s : State) : Reply :=
  gatedRead [(c.isObserver, .refusedRole), (c.slots 0, .badLength)] { status := .done, slots := s.caps }

def execCtrlCapsRead (ch : Nat) (s : State) : Out := .next (s.readCommand ch .ctrlCapsRead readCaps)

/-- The working share of a region in units of 1/1 024: the least over its kinds of blocks.
(Log entry 134: DESIGN CHOICE.) -/
def State.capacity (s : State) (r : Nat) : Nat :=
  if (Map.getD s.arch.regions r {}).st ≠ .on then 0
  else
    let share (k : Nat) : Nat :=
      let cells := ((List.range (s.blocks r).length).filter fun b => (s.block r b).map Prod.fst == some k).flatMap (s.cellsOf r)
      (cells.filter fun a => !(s.cell a).fenced).length * 1024 / max cells.length 1
    ((List.range (s.blockKinds r).length).map share).foldl min 1024

/-- The row of a region: state, fenced blocks, fenced cells, SLOW cells, restarts in window, capacity. -/
def State.healthRow (s : State) (r : Nat) : List Nat :=
  let st := match (Map.getD s.arch.regions r {}).st with
    | .on => 0 | .restarting => 1 | .failed => 2
  let mine := (Map.keys s.arch.cells).filter fun a => addrRegion a == r
  let units := ((s.arch.units.filter fun e => e.2.fenced).map fun e => s.unitCell e.1).filter fun a => addrRegion a == r
  let fenced := ((mine.filter fun a => (s.cell a).fenced) ++ units).eraseDups
  [st, ((List.range (s.blocks r).length).filter (s.blockFenced r)).length, fenced.length,
    (mine.filter fun a => (s.cell a).slow).length, (s.restartsIn r).length, s.capacity r]

/-- CTRL.HEALTH_READ: the rows of the regions asked for, after their count (R504).
(Log entry 143: DEDUCED.) -/
def readHealth (region : Nat) (c : Caller) (s : State) : Reply :=
  let l := if region = 0xFF then (List.range 11).filter s.regionHere else [region]
  gatedRead [(c.isObserver, .refusedRole), (c.slots 1, .badLength), (decide (region = 0xFF ∨ region < 11), .badArgument),
      (decide (region = 0xFF) || s.regionHere region, .absentUnit)]
    { status := .done, slots := l.length :: l.flatMap s.healthRow }

def execCtrlHealthRead (ch region : Nat) (s : State) : Out := .next (s.readCommand ch .ctrlHealthRead (readHealth region))

/-- A number that is a unit address: 16 bits that name a region of Table 2-1 (R3, R45). -/
def isUnitAddr (a : Nat) : Bool := decide (a < 65536 ∧ addrRegion a < 11)

/-- Whether a unit is the last of its kind in its region that is in service: for a block the last block of its kind, or one that
holds the last cells of a kind; for a cell the last cell of its kind (R45). -/
def State.lastOfKind (s : State) (a : Nat) : Bool :=
  let mine := if addrCell a = 0x3F then s.cellsOf (addrRegion a) (addrBlock a) else [a]
  mine.any fun x => ((s.kindCells x).filter fun c => !mine.contains c).all fun c => (s.cell c).fenced

/-- CTRL.UNIT_FENCE. -/
def runUnitFence (a : Nat) (c : Caller) (s : State) : Reply × State :=
  gated s [(c.isService, .refusedRole), (c.slots 1, .badLength), (isUnitAddr a, .badArgument), (s.unitHere a, .absentUnit), (!s.lastOfKind a, .refusedState)] fun s =>
    ({ status := .done }, s.fenceUnit a 2)

def execCtrlUnitFence (ch unit : Nat) (s : State) : Out := .next (s.command ch .ctrlUnitFence (runUnitFence unit))

/-- Whether a unit address is fenced, by a fault, by command or by R42. -/
def State.addrFenced (s : State) (a : Nat) : Bool :=
  if addrCell a = 0x3F then s.blockFenced (addrRegion a) (addrBlock a)
  else (s.cell a).fenced || s.arch.units.any fun e => e.2.fenced && s.unitCell e.1 == a

/-- A unit that has passed its self-test is in service again; spectrum channels that were dropped return (R116). -/
def State.unfence (s : State) (a : Nat) : State :=
  let r := addrRegion a
  let cells := if addrCell a = 0x3F then s.cellsOf r (addrBlock a) else [a]
  let units := s.arch.units.map fun (e : UnitId × EnUnit) => if cells.contains (s.unitCell e.1) then (e.1, { e.2 with fenced := false }) else e
  let s := { s with arch := { s.arch with
    fencedBlocks := s.arch.fencedBlocks.filter (· ≠ unitAddr r (addrBlock a) 0x3F), units := units } }
  let s := cells.foldl (fun s c => s.setCell c { s.cell c with fenced := false, misses := [], slowEntries := [] }) s
  if r < 4 then s.replaceQuadrant r 0 else s

/-- CTRL.UNIT_UNFENCE: `pass` is the outcome of the unit's self-test. -/
def runUnitUnfence (a pass : Nat) (c : Caller) (s : State) : Reply × State :=
  gated s [(c.isService, .refusedRole), (c.slots 1, .badLength), (isUnitAddr a, .badArgument), (s.unitHere a, .absentUnit), (s.addrFenced a, .refusedState)] fun s =>
    if pass = 0 then ({ status := .integrity, slots := [0] }, s) else ({ status := .done, slots := [1] }, s.unfence a)

def execCtrlUnitUnfence (ch unit pass : Nat) (s : State) : Out := .next (s.command ch .ctrlUnitUnfence (runUnitUnfence unit pass))

/-- CTRL.REGION_RESTART: on a restarting region it joins the running restart; on a failed one it clears the window (R37). -/
def runRegionRestart (r : Nat) (c : Caller) (s : State) : Reply × State :=
  gated s [(c.isService, .refusedRole), (c.slots 1, .badLength), (decide (r < 11), .badArgument), (s.regionHere r, .absentUnit),
      (decide (r ≠ 10) && !(decide (7 ≤ r) && s.serving && s.readyPartner), .refusedState)] fun s =>
    let x := Map.getD s.arch.regions r {}
    match x.st with
    | .restarting => ({ status := .deferred }, s)
    | .failed =>
      let s := { s with arch := { s.arch with regions := Map.put s.arch.regions r { x with window := [] } } }
      ({ status := .deferred }, s.startRestart r false)
    | .on => ({ status := .deferred }, s.startRestart r false)

def execCtrlRegionRestart (ch region : Nat) (s : State) : Out := .next (s.command ch .ctrlRegionRestart (runRegionRestart region))

/-- The fault-policy record (R46). -/
def ruleFaultPolicy : RecordRule where
  writer _ c _ _ := c.isService

def execFaultPolicyRecord (tenant inst : Nat) (body : List Byte) (s : State) : Out :=
  .next (s.applyRecord ruleFaultPolicy Schema.FaultPolicy tenant inst body)

end Sys2Proof.Machine
end

