-- ==== Sys2Proof/Machine/Images.lean ====
section
/-! DEFINITION. Chapter 23, images: their checks, staging, activation and trial, passing to neighbours (R577 to R587, R593). -/

namespace Sys2Proof.Machine

open Sys2Proof

/-! ### Held images (R577, R582) -/

/-- The image of a component in a state. -/
def State.imageIn (s : State) (comp : Nat) (st : ImageSt) : Option Image :=
  s.upd.images.find? fun (i : Image) => i.component == comp && i.st == st

/-- The image of a component that runs: the one in trial, or the current one. -/
def State.running (s : State) (comp : Nat) : Option Image := (s.imageIn comp .trial).or (s.imageIn comp .current)

/-- The version of an image; 0 where there is none. -/
def imageVersion (i : Option Image) : Nat := (i.map Image.version).getD 0

/-- The floor of a component. -/
def State.floor (s : State) (comp : Nat) : Nat := Map.getD s.upd.floors comp 0

/-- Whether a component is in trial. -/
def State.inTrial (s : State) (comp : Nat) : Bool :=
  match s.upd.trial with
  | some t => bitOn t.mask comp
  | none => false

/-- Whether a component's staging and deletion are refused (R582, R590). -/
def State.imageLocked (s : State) (comp : Nat) : Bool := decide (comp < 2) && (s.inTrial comp || s.upd.roll.isSome)

/-! ### Checks (Table 23-4) -/

/-- A delta payload rebuilt over its base (R581): `total` is ImageLength. -/
def deltaApply (base : List Byte) (total : Nat) : Nat → List Byte → List Byte → Option (List Byte)
  | 0, _, _ => none
  | fuel + 1, l, out =>
    if l.isEmpty then none
    else match leAt l 0 1 with
      | 0 => if out.length = total then some out else none
      | 1 =>
        let off := leAt l 1 4
        let n := leAt l 5 4
        if l.length < 9 ∨ base.length < off + n ∨ total < out.length + n then none
        else deltaApply base total fuel (l.drop 9) (out ++ slice base off n)
      | 2 =>
        let n := leAt l 1 4
        if l.length < 5 + n ∨ total < out.length + n then none
        else deltaApply base total fuel (l.drop (5 + n)) (out ++ slice l 5 n)
      | 3 =>
        let n := leAt l 1 4
        if l.length < 6 ∨ total < out.length + n then none
        else deltaApply base total fuel (l.drop 6) (out ++ List.replicate n (BitVec.ofNat 8 (leAt l 5 1)))
      | _ => none

/-- The component an image header names. -/
def headerComponent (h : List Byte) : Nat := leAt h 5 1 % 16

/-- Whether an image is meant for this chip (step 2): PartMask, SiliconMin, TestImage. -/
def State.imageTarget (s : State) (h : List Byte) : Bool :=
  let part := match s.arch.variant with
    | .ew9664 => 0 | .ew9664r => 1 | .ew9632 => 2
  decide (2 ≤ headerComponent h) ||
    (bitOn (leAt h 8 4) part && decide (leAt h 6 1 ≤ 16 * s.arch.siliconLetter + s.arch.siliconDigit) &&
      (!bitOn (leAt h 5 1) 5 || !s.arch.debugClosed))

/-- The authority key of vault domain 16. -/
def State.chipAuthority (s : State) : Option (List Byte) :=
  if s.slotSet 16 1 then (s.copy 16 1).map VaultCopy.key else none

/-- The key that VendorSig is made with (R579). -/
def State.vendorKey (s : State) (h : List Byte) : Option (List Byte) :=
  if 2 ≤ headerComponent h then s.chipAuthority
  else some (if bitOn (leAt h 5 1) 5 then Config.testImageKey else Config.imageKey)

/-- A signature over bytes of a header: none where it verifies, and otherwise the status of steps 3 and 4. -/
def sigStatus (key : Option (List Byte)) (msg sig : List Byte) : Option Status :=
  match key with
  | none => some .slotEmpty
  | some k => if ecdsaVerify k msg sig then none else some .imageSignature

/-- The image a header and payload make, or the status of the first check that fails. In RECOVERY steps 4, 6 and 9 fall away and
only full images of components 0 and 1 are taken (R651). -/
def State.checkImage (s : State) (h payload : List Byte) : Except Status (Image × Nat) :=
  let rec' := decide (s.pow.stage = 0x0D)
  let comp := headerComponent h
  let delta := bitOn (leAt h 5 1) 4
  let base := s.upd.images.find? fun (i : Image) => i.digest == slice h 80 32
  let full := if delta then deltaApply ((base.map fun (i : Image) => i.container.drop 256).getD []) (leAt h 32 4) (payload.length + 1) payload []
    else some payload
  if h.length ≠ 256 ∨ leAt h 0 4 ≠ 0x4D495745 ∨ leAt h 4 1 ≠ 1 ∨ 3 < comp ∨ leAt h 36 4 ≠ payload.length ∨
      (decide (slice h 80 32 = List.replicate 32 0)) = delta then .error .badLength
  else if !s.imageTarget h ∨ (rec' ∧ 2 ≤ comp) then .error .imageTarget
  else match sigStatus (s.vendorKey h) (h.take 128) (slice h 128 64) with
    | some st => .error st
    | none =>
      let counter := !rec' && decide (comp < 2) && s.rdB Rec.UpdatePolicy.RequireCounterSign
      let op := if !counter then none
        else if s.chipAuthority.isNone then some .slotEmpty
        else if !bitOn (leAt h 5 1) 6 then some .imageSignature
        else sigStatus s.chipAuthority (h.take 192) (slice h 192 64)
      match op with
      | some st => .error st
      | none =>
        if leAt h 16 4 < s.floor comp then .error .imageRollback
        else if delta ∧ (rec' ∨ base.isNone) then .error .imageBase
        else if 2 ≤ comp ∧ 32 ≤ (s.upd.images.filter fun (i : Image) => i.st == .library).length then .error .imageSpace
        else match full with
          | none => .error .integrity
          | some p =>
            if p.length ≠ leAt h 32 4 ∨ sha256 p ≠ slice h 48 32 then .error .integrity
            else .ok ({ component := comp, st := if comp < 2 then .other else .library, version := leAt h 12 4, security := leAt h 16 4,
                        pairFloor := leAt h 20 4, chainFloor := leAt h 24 4, requiresPeer := leAt h 28 4, model := leAt h 8 4,
                        digest := slice h 48 32, container := h ++ p, delta := if delta then payload else [] }, if delta then p.length else 0)

/-- A verified image is held (R582): it replaces the other generation of its component, or joins the library; in RECOVERY it
becomes both generations (R651). -/
def State.holdImage (s : State) (i : Image) : State :=
  let keep := s.upd.images.filter fun (x : Image) =>
    if i.component < 2 then !(x.component == i.component && (x.st == .other || decide (s.pow.stage = 0x0D))) else x.digest != i.digest
  let more := if i.component < 2 ∧ s.pow.stage = 0x0D then [{ i with st := .current }, i] else [i]
  { s with upd := { s.upd with images := keep ++ more } }

/-- An image is checked and held, or refused. `source` is 0 host, 1 partner, 2 upstream, 3 downstream. -/
def State.takeImage (s : State) (h payload : List Byte) (source : Nat) : Bool × State :=
  match s.checkImage h payload with
  | .error st =>
    let s := s.count { name := .updRefused }
    (false, s.raise .updateImageRefused 0 [headerComponent h, st.code, source])
  | .ok (i, delta) =>
    let s := (s.holdImage i).count { name := .updDeltaBytes } delta
    (true, s.raise .updateImageStaged 0 ([i.component, i.version] ++ bytesSlots i.digest ++ [source]))

/-! ### Compatibility (Table 23-6) -/

/-- Whether a chip image and a vault firmware may run together. -/
def peersFit (chip vault : Option Image) : Bool :=
  match chip, vault with
  | some c, some v => decide (v.requiresPeer ≤ c.version ∧ c.requiresPeer ≤ v.version)
  | _, _ => true

/-- The image of a component after an activation of a mask. -/
def State.afterMask (s : State) (mask comp : Nat) : Option Image :=
  if bitOn mask comp then s.imageIn comp .other else s.running comp

/-- Whether a chip image may run beside the partner's. -/
def State.partnerFits (s : State) (chip : Option Image) : Bool :=
  match s.pair.partner, chip with
  | some p, some c => decide (p.pairFloor ≤ c.version ∧ c.pairFloor ≤ p.imageVersion)
  | _, _ => true

/-- Whether the set an activation would run is permitted. -/
def State.maskFits (s : State) (mask : Nat) : Bool :=
  peersFit (s.afterMask mask 0) (s.afterMask mask 1) && s.partnerFits (s.afterMask mask 0)

/-! ### Trials (R586, R593) -/

/-- The images with the roles of a mask's components changed. -/
def State.setRoles (s : State) (mask : Nat) (f : ImageSt → ImageSt) : State :=
  let role (i : Image) : Image := if i.component < 2 ∧ bitOn mask i.component then { i with st := f i.st } else i
  { s with upd := { s.upd with images := s.upd.images.map role } }

/-- The registers that show the running versions. -/
def State.showVersions (s : State) : State :=
  { s with mail := { s.mail with fwVersion := imageVersion (s.running 0), ucodeVersion := imageVersion (s.running 0) } }

/-- A trial ends in reversion: cause 0 reset, 1 verification, 2 self-test. A roll that it belongs to has failed (R588). -/
def State.revertTrial (s : State) (mask cause : Nat) : State :=
  let s := (s.setRoles mask fun st => if st = .trial then .other else st).count { name := .updReversions }
  let s := { s with upd := { s.upd with trial := none, bootOther := 0 } }
  (s.raise .updateReverted 0 [mask, cause]).endRoll 1

/-- The trial is confirmed: the generations swap roles, and the floors rise. -/
def State.confirmTrial (s : State) (mask : Nat) : State :=
  let s := s.setRoles mask fun st => match st with
    | .trial => .current
    | .current => .other
    | x => x
  let lift (m : Map Nat Nat) (c : Nat) : Map Nat Nat :=
    if bitOn mask c ∧ s.rdB Rec.UpdatePolicy.RaiseFloor then Map.put m c (max (s.floor c) (((s.imageIn c .current).map Image.security).getD 0)) else m
  let s := { s with upd := { s.upd with trial := none, floors := lift (lift s.upd.floors 0) 1 } }
  s.raise .updateConfirmed 0 [mask, imageVersion (s.running 0), imageVersion (s.running 1), s.floor 0, s.floor 1]

/-- What the IMAGE stage does with the boot record: a trial that was not confirmed reverts; a set to be tried starts its trial,
unless it fails (`cause` 1 verification, 2 self-test) or is not permitted. The answer says whether a trial set failed. -/
def State.bootImages (s : State) (cause : Nat) : Bool × State :=
  let s := match s.upd.trial with
    | some t => s.revertTrial t.mask 0
    | none => s
  let mask := s.upd.bootOther
  if mask = 0 then (false, s.showVersions)
  else if cause ≠ 0 ∨ !peersFit (s.afterMask mask 0) (s.afterMask mask 1) then
    (true, (s.revertTrial mask (max cause 1)).showVersions)
  else
    let s := s.setRoles mask fun st => if st = .other then .trial else st
    let s := { s with upd := { s.upd with trial := some { mask := mask }, bootOther := 0 } }
    (false, s.showVersions.raise .updateActivated 0 [mask, imageVersion (s.running 0), imageVersion (s.running 1)])

/-- TRIAL_CONFIRM: the chip has been READY or serving for ConfirmS. -/
def execTrialConfirm (s : State) : Out :=
  match s.upd.trial with
  | some { mask := m, sinceMs := some t } =>
    if s.rdB Rec.UpdatePolicy.AutoConfirm ∧ t + 1000 * s.rd Rec.UpdatePolicy.ConfirmS ≤ s.time.ms then .next (s.confirmTrial m) else .next s
  | _ => .next s

/-- The other generations of a mask are activated: a READY standby departs first (R587), and the chip resets. -/
def State.activate (s : State) (mask : Nat) : State :=
  let s := { s with upd := { s.upd with bootOther := mask } }
  let s := if s.pair.st = .ready then s.sendPartner 0 8 [] else s
  (if s.serving then s.dropServing else s).orderReset .activate

/-! ### Passing along (R583) -/

/-- The header of a delta image as its rebuilt full image carries it: Delta 0, PackageLength the full payload's, BaseDigest 0. -/
def fullHeader (h : List Byte) : List Byte :=
  slice h 0 5 ++ le 1 (setBits (leAt h 5 1) 4 1 0) ++ slice h 6 30 ++ slice h 32 4 ++ slice h 40 40 ++ le 32 0 ++ slice h 112 144

/-- The container that a neighbour gets: a delta as a delta where the neighbour holds its base, and otherwise the full image.
(Log entry 107: DESIGN CHOICE.) -/
def Image.passed (i : Image) (h : Heartbeat) : List Byte :=
  let head := slice i.container 0 256
  if i.delta.isEmpty then i.container
  else if h.inventory.contains (slice head 80 32) then head ++ i.delta
  else fullHeader head ++ i.container.drop 256

/-- Every verified image that a neighbour lacks and may have is offered to it.
(Log entry 107: DESIGN CHOICE.) -/
def State.passImages (s : State) (port : Nat) : State :=
  match (if port = 0 then s.pair.partner else s.pair.neighbour) with
  | none => s
  | some h =>
    let l := s.upd.images.filter fun (i : Image) =>
      !i.container.isEmpty && bitOn (s.rd Rec.UpdatePolicy.PassMask) i.component && !h.inventory.contains i.digest &&
        decide (i.chainFloor ≤ h.imageVersion) && !s.upd.offered.contains (port, i.digest)
    l.foldl (fun s i =>
      let s := (s.sendPartner port 11 (bytesSlots i.digest) (i.passed h)).count { name := .updBytesOut, a := port } (i.passed h).length
      { s with upd := { s.upd with offered := s.upd.offered ++ [(port, i.digest)] } }) s

/-- The image source a partner port stands for: the partner, or the neighbour up or down the chain: port 1 of chip a links upstream, that
of chip b downstream (R15). -/
def State.portSource (s : State) (port : Nat) : Nat :=
  if port = 0 then 1 else if s.rd Rec.Pair.ChipLetter = 0 then 2 else 3

/-- An image container has arrived from a neighbour. One refused from there in the last hour is not taken. -/
def State.imageArrived (s : State) (port : Nat) (container : List Byte) : State :=
  let h := container.take 256
  let d := slice h 48 32
  let s := s.count { name := .updBytesIn, a := port } container.length
  if (s.upd.refusedImages.any fun x => x.1 == port && x.2.1 == d && decide (s.time.ms < x.2.2)) ∨ (s.upd.images.any fun (i : Image) => i.digest == d) ∨
      s.imageLocked (headerComponent h) then s
  else
    let (ok, s) := s.takeImage h (container.drop 256) (s.portSource port)
    if ok then s
    else { s with upd := { s.upd with
      refusedImages := (s.upd.refusedImages.filter fun x => !(x.1 == port && x.2.1 == d)) ++ [(port, d, s.time.ms + hourMs)] } }

/-- IMAGE_RECEIVED. -/
def execImageReceived (port : Nat) (container : List Byte) (s : State) : Out := .next (s.imageArrived port container)

/-! ### Commands (Table 23-13) -/

/-- The code of an image's state: 0 current, 1 other, 2 trial, 3 staging, 4 library. -/
def ImageSt.code : ImageSt → Nat
  | .current => 0 | .other => 1 | .trial => 2 | .library => 4

/-- UPDATE.INVENTORY_READ: count; per image component, state, version, security version, digest; floors of the components;
BundleSeq; roll step (absent where none runs). -/
def readInventory (c : Caller) (s : State) : Reply :=
  let stage := match s.upd.staging with
    | some x => [[headerComponent x.header, 3, leAt x.header 12 4, leAt x.header 16 4] ++ bytesSlots (slice x.header 48 32)]
    | none => []
  let rows := (s.upd.images.map fun (i : Image) => [i.component, i.st.code, i.version, i.security] ++ bytesSlots (slice i.digest 0 32)) ++ stage
  gatedRead [(c.isObserver, .refusedRole), (c.slots 0, .badLength)]
    { status := .done, slots := rows.length :: rows.flatMap id ++ (List.range 4).map s.floor ++ [s.upd.bundleSeq, slotOpt (s.upd.roll.map Roll.step)] }

def execUpdateInventoryRead (ch : Nat) (s : State) : Out := .next (s.readCommand ch .updateInventoryRead readInventory)

/-- Whether a caller may stage: the service role, or in RECOVERY anyone (R651). -/
def State.mayStage (s : State) (c : Caller) : Bool := c.isService || decide (s.pow.stage = 0x0D)

/-- UPDATE.STAGE_BEGIN: a staging area is opened in place of the one before. -/
def runStageBegin (h : List Byte) (c : Caller) (s : State) : Reply × State :=
  let comp := headerComponent h
  gated s [(s.mayStage c, .refusedRole), (c.body.length == 256 && h.length == 256, .badLength),
      (!s.imageLocked comp, .refusedState),
      (decide (comp < 2) || decide ((s.upd.images.filter fun (i : Image) => i.st == .library).length < 32), .imageSpace)] fun s =>
    let id := s.upd.nextStaging
    ({ status := .done, slots := [id] },
      { s with upd := { s.upd with staging := some { id := id, header := h, payload := [] }, nextStaging := id + 1 } })

def execUpdateStageBegin (ch : Nat) (header : List Byte) (s : State) : Out :=
  .next (s.command ch .updateStageBegin (runStageBegin header))

/-- Bytes written at an offset, zeros before them where nothing was. -/
def writeAt (l : List Byte) (off : Nat) (d : List Byte) : List Byte := slice l 0 off ++ d ++ l.drop (off + d.length)

/-- UPDATE.STAGE_WRITE. -/
def runStageWrite (id off : Nat) (d : List Byte) (c : Caller) (s : State) : Reply × State :=
  let st := s.upd.staging.filter fun (x : Staging) => x.id == id
  let fits := match st with
    | some x => decide (off + d.length ≤ leAt x.header 36 4)
    | none => false
  gated s [(s.mayStage c, .refusedRole), (c.body.length == 16 + d.length && decide (d.length ≤ 262144), .badLength), (fits, .badArgument)] fun s =>
    ({ status := .done }, { s with upd := { s.upd with staging := st.map fun (x : Staging) => { x with payload := writeAt x.payload off d } } })

def execUpdateStageWrite (ch id offset : Nat) (data : List Byte) (s : State) : Out :=
  .next (s.command ch .updateStageWrite (runStageWrite id offset data))

/-- UPDATE.STAGE_VERIFY: the staged image is checked and held, or refused; the staging area is empty after it.
(Log entry 107: DESIGN CHOICE.) -/
def runStageVerify (id : Nat) (c : Caller) (s : State) : Reply × State :=
  match s.upd.staging.filter fun (x : Staging) => x.id == id with
  | none => gated s [(s.mayStage c, .refusedRole), (c.slots 1, .badLength)] fun s => ({ status := .badArgument }, s)
  | some x =>
    gated s [(s.mayStage c, .refusedRole), (c.slots 1, .badLength), (!s.imageLocked (headerComponent x.header), .refusedState)] fun s =>
      let s := { s with upd := { s.upd with staging := none } }
      ({ status := .deferred }, (s.takeImage x.header x.payload 0).2)

def execUpdateStageVerify (ch id : Nat) (s : State) : Out := .next (s.command ch .updateStageVerify (runStageVerify id))

/-- UPDATE.ACTIVATE. -/
def runUpdateActivate (mask force : Nat) (c : Caller) (s : State) : Reply × State :=
  let held := (maskBits 2 mask).all fun k => (s.imageIn k .other).isSome
  gated s [(c.isService, .refusedRole), (c.slots 2, .badLength), (decide (0 < mask ∧ mask < 4 ∧ force < 2), .badArgument),
      (held && decide (s.pair.st ≠ .activePaired) && s.upd.roll.isNone && s.upd.trial.isNone, .refusedState),
      (s.maskFits mask, .incompatible), (decide (s.pair.st ≠ .activeSolo ∨ force = 1), .solo)] fun s =>
    ({ status := .deferred }, s.activate mask)

def execUpdateActivate (ch mask force : Nat) (s : State) : Out := .next (s.command ch .updateActivate (runUpdateActivate mask force))

/-- UPDATE.CONFIRM. -/
def runUpdateConfirm (c : Caller) (s : State) : Reply × State :=
  match s.upd.trial with
  | none => gated s [(c.isService, .refusedRole), (c.slots 0, .badLength)] fun s => ({ status := .refusedState }, s)
  | some t => gated s [(c.isService, .refusedRole), (c.slots 0, .badLength)] fun s => ({ status := .done }, s.confirmTrial t.mask)

def execUpdateConfirm (ch : Nat) (s : State) : Out := .next (s.command ch .updateConfirm runUpdateConfirm)

/-- UPDATE.IMAGE_DELETE. -/
def runImageDelete (d : List Byte) (c : Caller) (s : State) : Reply × State :=
  match s.upd.images.find? fun (i : Image) => i.digest == d with
  | none => gated s [(c.isService, .refusedRole), (c.body.length == 32, .badLength)] fun s => ({ status := .badArgument }, s)
  | some i =>
    let used := s.upd.campaigns.any fun (x : Campaign) => !x.done && x.digest == d
    gated s [(c.isService, .refusedRole), (c.body.length == 32, .badLength),
        ((i.st == .other || i.st == .library) && !s.imageLocked i.component && !used, .refusedState)] fun s =>
      ({ status := .done, slots := [i.container.length] },
        { s with upd := { s.upd with images := s.upd.images.filter fun (x : Image) => !(x == i) } })

def execUpdateImageDelete (ch : Nat) (digest : List Byte) (s : State) : Out :=
  .next (s.command ch .updateImageDelete (runImageDelete digest))

end Sys2Proof.Machine
end

