-- ==== Sys2Proof/Machine/Power.lean ====
section
/-! DEFINITION. Chapters 26 and 27: resets, boot stages, power-fail warning, sleep, host-link power states, thermal trip (R641 to
R674, R679, R680, R691). -/

namespace Sys2Proof.Machine

open Sys2Proof

/-! ### Boot stages (R645 to R658) -/

/-- The chip reaches SERVICE. -/
def State.reachService (s : State) : State :=
  let s := s.nextStage 0x0A
  let s := { s with mail := { s.mail with serviceReady := true } }
  s.raise .powerBootDone 0 s.bootDoneSlots

/-- ROM: fuses, supply monitors (R646, R679), and the debug fuse blown under R655 and R657; `vpp` says whether VPP_FUSE is in range.
(Log entry 99: DESIGN CHOICE.) -/
def State.bootRom (s : State) (detail : Nat) (vpp : Bool) : State :=
  let first := if s.pow.bootDetail = 0 then detail else s.pow.bootDetail
  if detail = 0x0101 then { s with pow := { s.pow with bootDetail := first } }
  else if detail = 0x0102 then { s with pow := { s.pow with bootDetail := first, held := true } }
  else
    let s := if s.pow.closeFlag ∧ ¬s.arch.debugClosed then
        if vpp then { s with arch := { s.arch with debugClosed := true }, pow := { s.pow with closeFlag := false, fuseReport := some 0 } }
        else { s with pow := { s.pow with fuseReport := some 1 } }
      else s
    s.nextStage 2

/-- SELFTEST: the cells that fail are fenced, the others are back in service; a region among 0 to 6 left without a required kind of
block fails (R647, R652). -/
def State.bootSelftest (s : State) (detail : Nat) (cells regions : List Nat) : State :=
  let s := if detail = 0x0201 then s.bootFail detail 0x0F else s
  let bad := regions.filter fun r => decide (r < 7) && s.regionHere r
  let s := { s with
    arch := { s.arch with
      cells := (cells.filter s.unitHere).map fun a => (a, ({ fenced := true } : CellHealth)), fencedBlocks := [],
      regions := bad.map fun r => (r, ({ st := .failed } : Region)) }
    pow := { s.pow with testFail := !cells.isEmpty || !bad.isEmpty, testRegions := bad, testMs := s.time.ms - s.pow.stageStart } }
  s.nextStage 3

/-- IMAGE: the boot record's generations are verified (R593); without any the chip goes to RECOVERY. -/
def State.bootImage (s : State) (detail cause : Nat) : State :=
  if detail = 0x0301 then
    let s := (s.bootFail detail 0x0D).nextStage 0x0D
    { s with mail := { s.mail with mailboxReady := true } }
  else
    let (failed, s) := s.bootImages (if detail = 0x0302 then max cause 1 else 0)
    let s := if failed ∧ s.pow.bootDetail = 0 then { s with pow := { s.pow with bootDetail := 0x0302 } } else s
    s.nextStage 4

/-- DRAM: every line is written with zeros and a fresh tag under the keys of a new boot nonce (R470), which is random; `gib` is what was
detected; `slow` the channels trained at a lower rate (R684).
(Log entry 104: DESIGN CHOICE.) -/
def State.bootDram (s : State) (detail gib : Nat) (slow : List Nat) : State :=
  let s := if detail = 0x0401 then s.bootFail detail 0x0F else s
  let (nonce, s) := s.drawBytes 16
  let s := { s with
    arch := { s.arch with dramGiB := if gib = 32 then 32 else 16 }
    store := { s.store with bootNonce := nonce, poisoned := [] } }
  (slow.foldl (fun s _ => s.raise .storeIntegrity 0 [0, noValue, 0]) s).nextStage 5

/-- VAULT: `loops` are the tamper loops found open. A latched alarm's erase is completed; the latch clears where both loops are
closed (R324), and otherwise the vault stays SEALED (R658). -/
def State.bootVault (s : State) (detail loops : Nat) : State :=
  let s := { s with vault := { s.vault with loopsOpen := loops % 4 } }
  let s := s.loadVault
  let s := if s.vault.tamperLatched then s.tamperErase else s
  let s := if s.vault.tamperLatched ∧ s.vault.loopsOpen = 0 then
      ({ s with vault := { s.vault with tamperLatched := false } }).raise .vaultTamperCleared 0 [s.vault.alarmStamp]
    else s
  let s := if s.vault.tamperLatched then
      let s := s.bootFail 0x0501 0x0E
      ({ s with vault := { s.vault with st := .sealed, sealCause := some 0, live := [] } }).raise .vaultTamper 0
        [if s.vault.loopsOpen = 2 then 1 else 0, 1, 0, s.rd Rec.VaultPolicy.TamperEraseMask] true
    else if detail = 0x0502 then
      let s := s.bootFail detail 0x0E
      { s with vault := { s.vault with st := .sealed, sealCause := some 1, live := [] } }
    else { s with vault := { s.vault with st := .opened } }
  s.nextStage 6

/-- The lanes, channels and Ling transmits that start at boot (R105, R135, R265). -/
def State.startUnits (s : State) : State :=
  let s := (List.range 4).foldl (fun s q => s.replaceQuadrant q 0) s
  let s := { s with filt := { s.filt with chans := Map.mapV s.filt.chans fun _ (x : ChanFilt) => { x with restored := true } } }
  let s := (s.chanInstances.filter fun i => s.chanActive i && Rec.Channel.DcAuto.on (s.chanBody i)).foldl (fun s i => (s.dcEnable i 1).2) s
  let s := ((List.range 64).filter fun n => s.laneHere n && s.regionOn (n / 16) && s.rdB Rec.Lane.AutoEnable n).foldl
    (fun s n => (s.enableLaneCells n 1).2) s
  s.lingBoot

/-- The outcome of blowing the debug fuse is reported (R655). -/
def State.reportFuse (s : State) : State :=
  match s.pow.fuseReport with
  | some o => ({ s with pow := { s.pow with fuseReport := none } }).raise .powerFuse 0 [o]
  | none => s

/-- A self-test failure is reported (R647). -/
def State.reportSelftest (s : State) : State :=
  if s.pow.testFail then s.raise .powerSelftestFail 0 [s.arch.cells.length, s.pow.testRegions.length] else s

/-- A save that a monitor started before the reset is reported (R663). -/
def State.reportMonitor (s : State) : State :=
  match s.pow.monitorSave with
  | some (m, a, b) => ({ s with pow := { s.pow with monitorSave := none } }).raise .powerMonitorSave 0 [m, a, b]
  | none => s

/-- The save slots that the last boot left are restored (R664). -/
def State.restoreSlots (s : State) : State :=
  (((List.range s.pow.saveSlots.length).zip s.pow.saveSlots).filter fun (e : Nat × SaveSlot) =>
    !e.2.erased && e.2.bootCount + 1 == s.pow.bootCount).foldl
    (fun s e => s.raise .powerSaveRestored 0 [e.2.first, e.2.last, e.1]) s

/-- The warning logic is armed at the end of STORE (R659). -/
def State.armWarning (s : State) : State :=
  let w : WarnSt := match s.pow.warn with
    | .idle => .armed
    | x => x
  { s with pow := { s.pow with warn := w, bootCountSaved := s.pow.bootCount } }

/-- A population too slow for the save time is reported (R464). -/
def State.reportSlowSave (s : State) : State :=
  if s.saveDies < 16 ∨ 400 < s.store.progUs then s.raise .storeSaveSlow 0 [s.saveDies, s.store.progUs] else s

/-- A partner port without its key is reported (R635). -/
def State.reportUnkeyed (s : State) : State := if s.slotSet 16 3 then s else s.raise .portPartnerUnkeyed 0 []

/-- The chip waits PairWaitS for its partner (R550). -/
def State.waitForPartner (s : State) : State :=
  { s with pair := { s.pair with waitEndMs := some (s.time.ms + 1000 * s.rd Rec.Pair.PairWaitS) } }

/-- After CONTROL the boot goes on, or the chip that failed stands in MINIMAL or HELD (R648). -/
def State.afterControl (s : State) : State := if s.pow.failState = 0 then s.nextStage 7 else s.standFailed

/-- CONTROL: the mailbox is ready, legal time is seeded, lanes start, and what boot has to report is raised. A chip that failed
stands in MINIMAL or HELD from here. -/
def State.bootControl (s : State) : State :=
  ({ s with mail := { s.mail with mailboxReady := true } }).seedLegal.reportFuse.reportSelftest.startUnits.afterControl

/-- STORE: the dies are identified, WriteSeq resumes 2^24 above the last persisted value (R451), the boot count is written, the newest save slots are restored, the warning logic is armed, and
the chip waits for its partner (R449, R450, R474, R550, R644, R659, R663, R664). -/
def State.bootStore (s : State) (detail : Nat) (dies : List ParamPage) : State :=
  if detail = 0x0701 then (s.bootFail detail 0x0F).standFailed
  else
    let s := (s.identifyDies dies).armWarning.reportMonitor.restoreSlots.reportSlowSave.reportUnkeyed.eraseSlots.secRestart
    ({ s with store := { s.store with ckptMs := s.time.ms, writeSeq := s.store.writeSeq + 2 ^ 24 } }).nextStage 8 |>.waitForPartner

/-- BOOT_STAGE_DONE: the present stage ends with a code of Table 26-3. `measured` is what the stage reads: VPP_FUSE in range (ROM), the
cause of a failed trial set (IMAGE: 1 verification, 2 self-test), GiB of DRAM (DRAM), open tamper loops (VAULT). `cells` are the
cells that fail self-test (SELFTEST) or the channels at a lower rate (DRAM); `regions` the regions left without a required block
(SELFTEST); `dies` what the identification of each die reads (STORE, `ParamPage.ofList`). A paused boot, and a ROM that has halted, do not go on (with a rail out of range ROM halts with 0x0102 until SUPPLY_IN_RANGE); PAIR and RESTORE end by the pair's rows.
(Log entry 99: DESIGN CHOICE.) -/
def execBootStageDone (detail measured : Nat) (cells regions : List Nat) (dies : List (List Nat)) (s : State) : Out :=
  if s.pow.paused then .next s
  else match s.pow.stage with
    | 1 =>
      let detail := if detail ≠ 0x0101 ∧ !s.pow.railsOut.isEmpty then 0x0102 else detail
      if s.pow.bootDetail = 0x0101 ∨ s.pow.held then .next s else .next (s.bootRom detail (measured ≠ 0))
    | 2 => .next (s.bootSelftest detail cells regions)
    | 3 => .next (s.bootImage detail measured)
    | 4 => .next (s.bootDram detail measured cells)
    | 5 => .next (s.bootVault detail measured)
    | 6 => .next s.bootControl
    | 7 => .next (s.bootStore detail (dies.map ParamPage.ofList))
    | _ => .next s

/-! ### Resets (R641, R643, R644, R679, R680) -/

/-- Stage ROM begins. -/
def State.enterRom (s : State) (kind : Nat) : State :=
  (s.nextStage 1).count { name := .bootsByKind, a := kind }

/-- POWER_ON_RESET: PORST_N is released, once a save that defers the reset has ended (R680); `vaon` is 0 where VAON was lost. The thermal-trip latch clears (R691).
(Log entry 96: DESIGN CHOICE.) -/
def execPowerOnReset (vaon : Nat) (s : State) : Out :=
  if ¬s.pow.porstLow ∨ s.pow.warn = .saving then .next s
  else
    let s := { s with pow := { s.pow with
      porstLow := false, thermTrip := false, tripPending := false, vaonLost := s.pow.vaonLost || decide (vaon = 0), warn := .idle,
      pfwLow := false } }
    .next ((s.chipReset 0 .powerOn).enterRom 0)

/-- Whether a chip-fatal error has been raised and trigger 32 has not yet seen it (R512). -/
def State.fatalWaits (s : State) : Bool := s.ev.queue.any fun (r : Raised) => r.ev == .chipFatal

/-- WARM_RESET: a reset that firmware has ordered happens, once the save it waits for has ended (R558, R643) and a chip-fatal error
has its snapshot (R512).
(Log entry 96: DESIGN CHOICE.)
(Log entry 138: DEDUCED.) -/
def execWarmReset (s : State) : Out :=
  match s.pow.resetAfterSave with
  | none => .next s
  | some c =>
    if s.pow.warn = .saving ∨ s.pow.saveReset ∨ s.fatalWaits then .next s
    else
      let s := (s.chipReset 1 (resetCauseOf c)).enterRom 1
      .next { s with pow := { s.pow with paused := s.pow.pfwLow && decide (s.pow.warn = .idle), pfwSinceMs := s.time.ms } }

/-- PORST_ASSERT: the chip enters RESET, or, while SAVING, does so when the save ends (R680). -/
def execPorstAssert (s : State) : Out :=
  let s := { s with pow := { s.pow with porstLow := true } }
  if s.pow.warn = .saving then .next { s with pow := { s.pow with saveReset := true } } else .next s.holdReset

/-- MONITOR_RESET: a rail below its reset threshold holds the chip in RESET; rail 0 is VAON, whose loss clears what it keeps
(R679, R644). -/
def execMonitorReset (rail : Nat) (s : State) : Out :=
  let s := { s with pow := { s.pow with
    railsOut := if s.pow.railsOut.contains rail then s.pow.railsOut else s.pow.railsOut ++ [rail],
    vaonLost := s.pow.vaonLost || decide (rail = 0), held := true } }
  .next s.holdReset

/-- SUPPLY_IN_RANGE: every rail is back in range: a chip held in RESET boots, and a ROM halted with 0x0102 goes on with its work
(R646, R679). -/
def execSupplyInRange (s : State) : Out :=
  let s := { s with pow := { s.pow with railsOut := [], inRangeMs := s.time.ms, savedFailure := s.pow.savedFailure && s.pow.pfwLow } }
  if s.pow.held ∧ s.pow.stage = 0 ∧ ¬s.pow.porstLow ∧ ¬s.pow.thermTrip then .next ((s.chipReset 0 .supply).enterRom 0)
  else if s.pow.stage = 1 then .next { s with pow := { s.pow with held := false } }
  else .next s

/-! ### Power-fail warning (R659 to R664) -/

/-- PFW_ASSERT: an accepted assertion starts a save while ARMED, and pauses a boot while IDLE; in SLEEP and while DISARMED it is
recorded only. -/
def execPfwAssert (s : State) : Out :=
  if s.pow.pfwLow then .next s
  else
    let s := { s with pow := { s.pow with pfwLow := true, pfwSinceMs := s.time.ms } }
    if s.pow.stage = 0x0C then .next s
    else match s.pow.warn with
      | .armed => .next s.startSave
      | .idle => if 1 ≤ s.pow.stage ∧ s.pow.stage < 8 then .next { s with pow := { s.pow with paused := true } } else .next s
      | _ => .next s

/-- Commits resume (R661, R662). -/
def State.resume (s : State) (w : WarnSt) : State :=
  ({ s with pow := { s.pow with warn := w } }).commitSweep

/-- SAVE_DONE: the save set is written, which took `us`. A reset that waited follows; with PFW_N de-asserted meanwhile, commits
resume at once. -/
def execSaveDone (us : Nat) (s : State) : Out :=
  if s.pow.warn ≠ .saving then .next s
  else
    let n := slotTaken s.pow.saveSlots
    let x : SaveSlot := { erased := false, first := s.pow.saveFirst, last := s.pow.saveLast, bootCount := s.pow.bootCount }
    let s := { s with
      time := { s.time with savedCross := (s.time.cross.head?.map fun (c : Nat × Nat × Nat) => (c.1, c.2.1)).or s.time.savedCross }
      pow := { s.pow with warn := .holding, saveEndMs := s.time.ms, saveSlots := fillSlot x s.pow.saveSlots } }
    let s := (s.count { name := .saves }).raise .powerWarning 0 [us, x.first, x.last, n]
    if s.pow.saveReset then .next s.holdReset
    else if s.pow.resetAfterSave.isSome ∨ s.pow.pfwLow then .next s
    else .next (s.resume .armed)

/-- PFW_DEASSERT: commits resume after a save; a paused boot goes on; a disarmed logic is armed again. -/
def execPfwDeassert (s : State) : Out :=
  if ¬s.pow.pfwLow then .next s
  else
    let s := { s with pow := { s.pow with pfwLow := false, paused := false, savedFailure := s.pow.savedFailure && !s.pow.railsOut.isEmpty } }
    match s.pow.warn with
    | .holding =>
      if s.pow.resetAfterSave.isSome then .next s
      else .next ((s.resume .armed).raise .powerWarningCleared 0 [s.time.ms - s.pow.saveEndMs])
    | .disarmed => .next { s with pow := { s.pow with warn := if 8 ≤ s.pow.stage then .armed else .idle } }
    | _ => .next s

/-- INPUT_FAULT_TIMEOUT: PFW_N has stayed asserted for 2 s with every rail in range. -/
def execInputFaultTimeout (s : State) : Out :=
  let from' := max s.pow.inRangeMs (if s.pow.warn = .holding then s.pow.saveEndMs else s.pow.pfwSinceMs)
  if ¬s.pow.pfwLow ∨ ¬s.pow.railsOut.isEmpty ∨ s.time.ms < from' + 2000 ∨ ¬(s.pow.warn = .holding ∨ (s.pow.warn = .idle ∧ s.pow.paused)) ∨
      s.pow.resetAfterSave.isSome then .next s
  else
    let s := { s with pow := { s.pow with paused := false } }
    .next (((s.resume .disarmed).count { name := .inputFaults }).raise .powerInputFault 0 [s.time.ms - s.pow.pfwSinceMs])

/-- MONITOR_WARNING: a rail falls below its warning threshold (R663). Nothing is saved before the journal exists, nor twice for one
failure. -/
def execMonitorWarning (rail : Nat) (s : State) : Out :=
  let had := s.pow.savedFailure
  let s := { s with pow := { s.pow with railsOut := if s.pow.railsOut.contains rail then s.pow.railsOut else s.pow.railsOut ++ [rail] } }
  if had ∨ s.pow.stage < 8 ∨ s.pow.stage = 0x0C then .next s
  else match s.pow.warn with
    | .armed | .disarmed =>
      let s := s.startSave.count { name := .monitorSaves }
      .next { s with pow := { s.pow with monitorSave := some (rail, s.pow.saveFirst, s.pow.saveLast) } }
    | _ => .next s

/-- THERMAL_TRIP: Serving drops, the save set is written once, and the chip holds itself in RESET with THERMTRIP_N latched
(R691).
(Log entry 103: DESIGN CHOICE.) -/
def execThermalTrip (_sensor : Nat) (s : State) : Out :=
  let s := { s with pow := { s.pow with tripPending := true } }
  let s := ({ s with arch := { s.arch with chipFatal := true } }).raise .chipFatal 0 [11]
  let s := if s.serving then s.dropServing else s
  match s.pow.warn with
  | .armed | .disarmed =>
    let s := s.startSave
    .next { s with pow := { s.pow with saveReset := true } }
  | .saving => .next { s with pow := { s.pow with saveReset := true } }
  | _ => .next s.holdReset

/-! ### Sleep (R665 to R667) -/

/-- POWER.SLEEP: journal and maps are written, lanes and ports go to OFF, and the chip enters SLEEP. -/
def runPowerSleep (c : Caller) (s : State) : Reply × State :=
  let idle : Bool := match s.pair.st with
    | .syncing | .notReady | .ready => true
    | _ => false
  gated s [(c.isService, .refusedRole), (c.slots 0, .badLength), (!s.serving && idle, .serving)] fun s =>
    let s := if s.pair.st = .ready then s.sendPartner 0 8 [] else s
    let s := { s with store := { s.store with journal := s.store.journal.map fun (e : JEntry) => { e with copied := true } } }
    let s := s.eraseSlots.commitSweep
    let s := (List.range 64).foldl (fun s n => if s.laneSt n = .off then s else (s.laneOut n).raise .laneStopped 0 [n]) s
    let s := { s with
      mail := { s.mail with mailboxReady := false, serviceReady := false }
      arch := { s.arch with units := [] }
      ports := { s.ports with backhaulUp := [], partner0 := { s.ports.partner0 with link := false }, partner1 := { s.ports.partner1 with link := false } }
      pow := { s.pow with sleepMs := s.time.ms, sleepWakeS := s.rd Rec.PowerPolicy.SleepWakeS } }
    ({ status := .deferred }, ((s.nextStage 0x0C).count { name := .sleeps }).raise .powerSleep 0 [])

def execPowerSleep (ch : Nat) (s : State) : Out := .next (s.command ch .powerSleep (runPowerSleep))

/-- Whether a cause of waking holds: 0 doorbell, 1 timer, 2 tamper, 3 reboot. -/
def State.wakes (s : State) (cause : Nat) : Bool :=
  match cause with
  | 0 => !s.pow.heldDoorbells.isEmpty
  | 1 => decide (s.pow.sleepWakeS ≠ 0 ∧ s.pow.sleepMs + 1000 * s.pow.sleepWakeS ≤ s.time.ms)
  | 2 => s.vault.tamperLatched
  | 3 => s.pow.resetAfterSave.isSome
  | _ => false

/-- A doorbell held in SLEEP is executed (R666). -/
def State.heldDoorbell (s : State) (ch : Nat) : State :=
  match execMbDoorbell ch s with
  | .next t => t
  | _ => s

/-- SLEEP_WAKE: the chip leaves SLEEP, its regions restart, and PAIR runs as at boot; a tamper alarm then takes its steps
(R323, R666, R667). -/
def execSleepWake (cause : Nat) (s : State) : Out :=
  if s.pow.stage ≠ 0x0C ∨ ¬s.wakes cause then .next s
  else
    let held := s.pow.heldDoorbells
    let s := s.workLost.nextStage 8
    let s := { s with
      mail := { s.mail with mailboxReady := true }
      pow := { s.pow with heldDoorbells := [] }
      pair := s.pairKept }
    let s := (s.waitForPartner.secRestart.startUnits).raise .powerSleepWake 0 [cause]
    let s := held.foldl State.heldDoorbell s
    .next (if s.vault.tamperLatched then
        (s.tamperSteps (if s.vault.loopsOpen = 2 then 1 else 0) 2 0).regionFatalError 10 0
      else s)

/-! ### The host link (R630, R668 to R670) -/

/-- The host-window channels with an open session. -/
def State.hostSessions (s : State) : List Nat := (List.range 32).filter fun n => !s.tunnelled n && (s.session n).isSome

/-- HOST_LINK_RESET: link down (0), hot reset (1), FLR (2) and D3cold (3) close the sessions of host-window channels only. -/
def execHostLinkReset (kind : Nat) (s : State) : Out :=
  if 3 < kind then .next s
  else
    let s := s.hostSessions.foldl (fun s n => s.closeSession n .hostPort) s
    let s := if kind = 0 ∧ s.ports.hostUp then s.count { name := .linkDown, a := 10 } else s
    .next { s with
      mail := { s.mail with msixTable := [], msixPending := [] }
      ports := { s.ports with hostUp := decide (kind ≠ 0 ∧ kind ≠ 3) }
      pow := { s.pow with host := if kind = 3 then .d3cold else .d0, pmeEn := false, pmeStatus := false, wakeN := false, wakeReasons := 0 } }

/-- The notifications that wait on host-window channels. -/
def State.hostNotes (s : State) : Nat := (s.hostSessions.map fun n => (s.chan n).notes.length).sum

/-- D3HOT_ENTRY: the host puts the function in D3hot; WakeMask applies as it stands now (R671). -/
def execD3hotEntry (pmeEn : Nat) (s : State) : Out :=
  if s.pow.host = .d3hot then .next s
  else
    let st := s.stamp
    .next (({ s with pow := { s.pow with
      host := .d3hot, pmeEn := decide (pmeEn ≠ 0), wakeMask := s.rd Rec.PowerPolicy.WakeMask, wakeReasons := 0, d3Stamp := st,
      d3Queued := s.hostNotes } }).count { name := .hostStates })

/-- WAKE_CONDITION: a reason of Table 26-8, 1 to 5, arises in D3hot. The first selected one signals; later ones are added. -/
def execWakeCondition (reason : Nat) (s : State) : Out :=
  if s.pow.host ≠ .d3hot ∨ ¬s.pow.pmeEn ∨ reason = 0 ∨ 5 < reason ∨ ¬bitOn s.pow.wakeMask reason then .next s
  else
    let first := decide (s.pow.wakeReasons = 0)
    let s := { s with pow := { s.pow with
      wakeReasons := s.pow.wakeReasons ||| 2 ^ reason, pmeStatus := true, wakeN := s.pow.wakeN || first } }
    .next (if first then s.count { name := .wakeSignals } else s)

/-- LINK_TRAINING_START: WAKE_N is released. -/
def execLinkTrainingStart (s : State) : Out := .next { s with pow := { s.pow with wakeN := false } }

/-- A notification placed at the head of a channel's queue.
(Log entry 105: DESIGN CHOICE.) -/
def State.notifyHead (s : State) (n : Nat) (nt : Note) : State :=
  ((s.modChan n fun c => { c with notes := nt :: c.notes }).present n).signalNote n

/-- D0_RETURN: one `power.wake` notification goes to the head of every host-window channel's queue, and vectors held are sent.
(Log entry 105: DESIGN CHOICE.) -/
def execD0Return (s : State) : Out :=
  if s.pow.host ≠ .d3hot then .next s
  else
    let payload := [if s.pow.wakeReasons = 0 then 1 else s.pow.wakeReasons, s.pow.d3Stamp, s.hostNotes - s.pow.d3Queued]
    let vecs := s.mail.msixPending
    let s := { s with
      mail := { s.mail with msixPending := [] }
      pow := { s.pow with host := .d0, pmeEn := false, wakeN := false, wakeReasons := 0 } }
    let s := vecs.foldl State.signal s
    let st := s.stamp
    let s := s.issued st
    .next ((s.hostSessions.foldl (fun s n => s.notifyHead n ⟨Ev.powerWake.source, st, payload⟩) s).raise .powerWake 0 payload)

/-! ### Commands (Table 26-10) -/

/-- The code of a warning state. -/
def WarnSt.code : WarnSt → Nat
  | .idle => 0 | .armed => 1 | .saving => 2 | .holding => 3 | .disarmed => 4

/-- POWER.STATUS_READ: `readings` are the monitor readings, which the chip measures: the nine rails in mV, then the die sensors.
(Log entry 103: DESIGN CHOICE.) -/
def readPowerStatus (readings : List Int) (c : Caller) (s : State) : Reply :=
  gatedRead [(c.isObserver, .refusedRole), (c.slots 0, .badLength)]
    { status := .done, slots := [s.pow.stage, s.pow.bootDetail] ++
        (List.range 11).map (fun n => slotOpt (Map.get? s.pow.stageMs n)) ++
        [s.pow.resetKind, s.pow.resetCause, s.pow.bootCount, s.pow.warn.code, bit (!s.pow.pfwLow), readings.length] ++
        readings.map (ofSigned 64) ++ [s.pow.host.code, s.pow.wakeReasons, bit s.arch.debugClosed] }

def execPowerStatusRead (ch : Nat) (readings : List Int) (s : State) : Out :=
  .next (s.readCommand ch .powerStatusRead (readPowerStatus readings))

/-- POWER.SELFTEST_READ: the count of the regions asked for, then per region cells tested, count and addresses of the cells fenced, duration
in ms.
(Log entry 143: DEDUCED.) -/
def readSelftest (region : Nat) (c : Caller) (s : State) : Reply :=
  let l := if region = 0xFF then (List.range 11).filter s.regionHere else [region]
  gatedRead [(c.isObserver, .refusedRole), (c.slots 1, .badLength), (decide (region = 0xFF ∨ region < 11), .badArgument),
      (decide (region = 0xFF) || s.regionHere region, .absentUnit)]
    { status := .done, slots := l.length :: l.flatMap fun r =>
        let bad := (Map.keys s.arch.cells).filter fun a => addrRegion a == r && (s.cell a).fenced
        [s.regionCells r, bad.length] ++ bad ++ [s.pow.testMs] }

def execPowerSelftestRead (ch region : Nat) (s : State) : Out :=
  .next (s.readCommand ch .powerSelftestRead (readSelftest region))

/-- POWER.REBOOT: a serving chip with a READY partner yields; otherwise it saves and resets (R673). -/
def runPowerReboot (force : Nat) (c : Caller) (s : State) : Reply × State :=
  gated s [(c.isService || decide (s.pow.stage = 0x0D), .refusedRole), (c.slots 1, .badLength), (decide (force ≤ 1), .badArgument),
      (!s.serving || decide (force = 1), .serving)] fun s =>
    ({ status := .deferred },
      if s.serving && s.readyPartner then s.yieldService
      else (if s.serving then s.dropServing else s).orderReset .reboot)

def execPowerReboot (ch force : Nat) (s : State) : Out := .next (s.command ch .powerReboot (runPowerReboot force))

/-- POWER.DEBUG_CLOSE: the close flag is set in the boot record (R655). -/
def runDebugClose (serial : Nat) (c : Caller) (s : State) : Reply × State :=
  gated s [(c.isOfficer, .refusedRole), (c.slots 1, .badLength), (decide (serial = s.mail.serial), .badArgument),
      (!s.arch.debugClosed, .refusedState)] fun s =>
    ({ status := .done }, { s with pow := { s.pow with closeFlag := true } })

def execPowerDebugClose (ch serial : Nat) (s : State) : Out := .next (s.command ch .powerDebugClose (runDebugClose serial))

/-- POWER.COUNTERS_READ: boots by kind (power-on, warm), D3hot and L1.2 entries (the latter a free value of the time of reading); then with its saturation flag each of saves, input
faults, monitor saves, wake signals, sleeps.
(Log entry 103: DESIGN CHOICE.) -/
def readPowerCounters (c : Caller) (s : State) : Reply :=
  let k (n : CtrName) (a : Nat) : Nat := s.ctr { name := n, a := a }
  let tallies : List CtrName := [.saves, .inputFaults, .monitorSaves, .wakeSignals, .sleeps]
  gatedRead [(c.isObserver, .refusedRole), (c.slots 0, .badLength)]
    { status := .done, slots := [k .bootsByKind 0, k .bootsByKind 1, k .hostStates 0,
        Config.measured Cmd.powerCountersRead.code 1 s.time.ms % 2 ^ 48] ++
        tallies.flatMap fun n => [k n 0, bit (s.saturated { name := n })] }

def execPowerCountersRead (ch : Nat) (s : State) : Out := .next (s.readCommand ch .powerCountersRead readPowerCounters)

/-- The power policy record (R671). -/
def rulePowerPolicy : RecordRule where
  writer _ c _ _ := c.isService

def execPowerPolicyRecord (tenant inst : Nat) (body : List Byte) (s : State) : Out :=
  .next (s.applyRecord rulePowerPolicy Schema.PowerPolicy tenant inst body)

end Sys2Proof.Machine
end

