-- ==== Sys2Proof/Machine/Pair.lean ====
section
/-! DEFINITION. Chapter 22: claims, election, loss of the partner, takeover, handover, forced claim (R545 to R569). -/

namespace Sys2Proof.Machine

open Sys2Proof

/-! ### Claim words and witness lanes (R545, R547) -/

/-- ChipB, Epoch and Serving of a claim word (Table 22-1). -/
def wordChipB (w : Nat) : Nat := w % 2
def wordEpoch (w : Nat) : Nat := bitsAt w 31 32
def wordServing (w : Nat) : Bool := bitOn w 63

/-- Whether a word is the partner's live claim. -/
def State.partnerWord (s : State) (w : Nat) : Bool := wordServing w && wordChipB w != s.rd Rec.Pair.ChipLetter

/-- The witness lanes: ON, with valid upstream headers. -/
def State.witnessLanes (s : State) : List Nat :=
  (Map.keys s.pair.witness).filter fun n => s.laneOn n && (s.lane n).sfLock

/-- What a witness lane last reported. -/
def State.witnessOf (s : State) (n : Nat) : Witness := Map.getD s.pair.witness n {}

/-- The lowest witness lane on which the partner's claim has been seen live within WitnessQuietMs. -/
def State.partnerSeen (s : State) : Option Nat :=
  leastBy id (s.witnessLanes.filter fun n =>
    s.partnerWord (s.witnessOf n).word ||
      (match (s.witnessOf n).partnerLiveMs with
       | some t => decide (s.time.ms < t + s.rd Rec.Pair.WitnessQuietMs)
       | none => false))

/-- Whether enough witness lanes are there, and none shows the partner's claim. -/
def State.witnessed (s : State) : Bool :=
  decide (s.rd Rec.Pair.WitnessMin ≤ s.witnessLanes.length) && s.partnerSeen.isNone

/-- Whether at least WitnessMin witness lanes have reported this chip's own word for SoloGuardMs without a break (R556). -/
def State.ownWitnessed (s : State) : Bool :=
  decide (s.rd Rec.Pair.WitnessMin ≤ (s.witnessLanes.filter fun n =>
    (s.witnessOf n).word == s.claimWord && decide ((s.witnessOf n).sinceMs + s.rd Rec.Pair.SoloGuardMs ≤ s.time.ms)).length)

/-- A head reports a claim word on a lane. -/
def State.heardClaim (s : State) (n w : Nat) : State :=
  let old := Map.get? s.pair.witness n
  let since := match old with
    | some x => if x.word = w then x.sinceMs else s.time.ms
    | none => s.time.ms
  let live := if s.partnerWord w then some s.time.ms else old.bind Witness.partnerLiveMs
  { s with pair := { s.pair with
    witness := Map.put s.pair.witness n { word := w, sinceMs := since, partnerLiveMs := live }
    highestReported := max s.pair.highestReported (wordEpoch w) } }

/-! ### States (Table 22-2) -/

/-- Whether the partner's heartbeat is live. -/
def State.heartbeatLive (s : State) : Bool :=
  match s.pair.partner with
  | some h => decide (s.time.ms < h.atMs + s.rd Rec.Pair.PartnerLossMs)
  | none => false

/-- The chip enters a pair state. A trial counts its time from READY or service on, without a break (R586). -/
def State.pairTo (s : State) (st : PairSt) : State :=
  let up : Bool := match st with
    | .booting | .syncing | .notReady => false
    | _ => true
  let mark (t : Trial) : Trial := { t with sinceMs := if up then some (t.sinceMs.getD s.time.ms) else none }
  let s := if st = .activeSolo ∧ s.pair.st ≠ .activeSolo then s.count { name := .pairSolo } else s
  { s with
    pair := { s.pair with st := st }
    upd := { s.upd with trial := s.upd.trial.map mark } }

/-- ACTIVE_SOLO, with the cause of `pair.solo`: 0 partner lost, 1 departure, 2 partner not ready. What waited commits. -/
def State.goSolo (s : State) (cause : Nat) : State :=
  let s := (s.pairTo .activeSolo).raise .pairSolo 0 [cause]
  ({ s with pair := { s.pair with streaming := false, catchUpGen := false, readySinceMs := none } }).commitSweep

/-- The chip becomes a standby in SYNCING or NOT_READY; at boot, PAIR ends with it and the chip reaches SERVICE (R550). -/
def State.standBy (s : State) (st : PairSt) : State :=
  let s := s.pairTo st
  let s := { s with pair := { s.pair with waitEndMs := none, asked := false, streamItems := [] } }
  if s.pow.stage = 8 then s.reachService else s

/-- NOT_READY, with the lane on which the partner was seen live (R550, R557). -/
def State.linkLost (s : State) : State := (s.standBy .notReady).raise .pairLinkLost 0 [slotOpt s.partnerSeen]

/-! ### Rolls and handovers that end (R564, R588 to R590) -/

/-- A handover ends without the partner's service: commits and admission go on, and no automatic take-back is tried for
TakeBackHoldS. A roll that it belongs to has failed (R564, R588). -/
def State.failHandover (s : State) : State :=
  let step := s.pair.handoverStep
  if step = 0 then s
  else
    let s := if s.pair.st = .handingOver then s.pairTo .activePaired else s
    let s := { s with pair := { s.pair with
      handoverStep := 0, pfSent := false, noTakeBackUntil := s.time.ms + 1000 * s.rd Rec.Pair.TakeBackHoldS } }
    (s.commitSweep.raise .pairTakebackFailed 0 [step]).endRoll 1

/-- A handover begins with a checkpoint (R564 step 1). -/
def State.startHandover (s : State) : State :=
  let s := s.startCheckpoint
  let g := (s.store.running.map Generation.gen).getD 0
  { s with pair := { s.pair with handoverStep := 1, handoverGen := g } }

/-! ### Losing the partner (R556, R557) -/

/-- PARTNER_LOSS: PartnerLossMs without a valid heartbeat.
(Log entry 113: DEDUCED.) -/
def execPartnerLoss (s : State) : Out :=
  match s.pair.partner with
  | none => .next s
  | some h =>
    if s.heartbeatLive then .next s
    else match s.pair.st with
      | .activePaired =>
        let s := s.failHandover.pairTo .activeHold
        let s := { s with pair := { s.pair with isolatedRaised := false, readySinceMs := none } }
        .next (s.raise .pairPartnerLost 0 [h.stamp])
      | .ready =>
        if s.pair.claimDue.isSome then .next s
        else if s.witnessed ∧ ¬(s.pair.conflict ∧ s.ports.partner0.link) then
          .next { s with pair := { s.pair with claimDue := some 0, claimMs := h.atMs } }
        else .next s.linkLost
      | .syncing => .next (if s.pair.claimDue.isSome then s else s.standBy .notReady)
      | _ => .next s

/-- SOLO_GUARD_EXPIRY: the guard has passed since the last heartbeat: witnessed, the active goes on alone; otherwise it stays in
ACTIVE_HOLD and says so once. -/
def execSoloGuardExpiry (s : State) : Out :=
  match s.pair.st, s.pair.partner with
  | .activeHold, some h =>
    if s.time.ms < h.atMs + s.rd Rec.Pair.PartnerLossMs + s.rd Rec.Pair.SoloGuardMs then .next s
    else if s.rd Rec.Pair.WitnessMin = 0 ∨ s.ownWitnessed then .next (s.goSolo 0)
    else if s.pair.isolatedRaised then .next s
    else .next (({ s with pair := { s.pair with isolatedRaised := true } }).raise .pairIsolated 0 [s.witnessLanes.length])
  | _, _ => .next s

/-- PAIR_WAIT_EXPIRY: PairWaitS has passed at boot without a heartbeat: the chip starts alone where it is witnessed, becomes NOT_READY
where the partner's claim is seen live, and goes on waiting with too few witness lanes (R550).
(Log entry 114: DEDUCED.) -/
def execPairWaitExpiry (s : State) : Out :=
  match s.pair.waitEndMs with
  | none => .next s
  | some t =>
    if s.pair.st ≠ .booting ∨ s.pow.stage ≠ 8 ∨ s.time.ms < t ∨ s.pair.claimDue.isSome then .next s
    else if s.partnerSeen.isSome then .next s.linkLost
    else if s.witnessed ∧ ¬(s.pair.conflict ∧ s.ports.partner0.link) then
      .next { s with pair := { s.pair with claimDue := some 2, claimMs := s.time.ms } }
    else .next s

/-- PARTNER_YIELD: a serving chip with a ready partner yields (R558). -/
def execPartnerYield (s : State) : Out :=
  if s.serving ∧ s.readyPartner ∧ s.pow.resetAfterSave.isNone then .next s.yieldService else .next s

/-! ### Claim and takeover (R546, R559) -/

/-- The Epoch that a start of service takes, if there is one left (R546). -/
def State.nextEpoch (s : State) : Option Nat :=
  let e := max s.pair.epoch (max ((s.pair.partner.map Heartbeat.epoch).getD 0) s.pair.highestReported)
  if e < 0xFFFFFFFF then some (e + 1) else none

/-- The epoch table as a start of service leaves it: the epoch before ends at TakeoverPos, the new one begins 2^40 above it, and
the 16 newest stay (R559 step 2, R563). -/
def epochsWith (l : List EpochRow) (before epoch tp : Nat) : List EpochRow :=
  let l := if l.any fun (r : EpochRow) => r.epoch == before then
      l.map fun (r : EpochRow) => if r.epoch = before then { r with lastCommitted := tp } else r
    else l ++ [{ epoch := before, first := 0, lastCommitted := tp }]
  let l := (l.filter fun (r : EpochRow) => r.epoch != epoch) ++ [{ epoch := epoch, first := tp + 2 ^ 40, lastCommitted := tp }]
  l.drop (l.length - 16)

/-- Epoch, Serving, TakeoverPos and the new epoch's first Position (R559 steps 1 and 2). -/
def State.raiseClaim (s : State) (cause epoch : Nat) : State :=
  let before := max s.pair.epoch ((s.pair.partner.map Heartbeat.epoch).getD 0)
  let tp := s.lastPos
  let s := s.pairTo .takingOver
  { s with
    pair := { s.pair with
      claimDue := none, claimCause := cause, epoch := epoch, serving := true, takeoverPos := tp, waitEndMs := none,
      epochs := epochsWith s.pair.epochs before epoch tp, streaming := decide (cause = 4), catchUpGen := false, asked := false,
      streamItems := [], partnerGenerations := [], ackedPos := tp, handoverStep := 0, isolatedRaised := false, replayLongRaised := false }
    store := { s.store with nextPos := tp + 2 ^ 40 } }

/-- A close that had not locked at the old chip ends at a takeover (R612). -/
def State.cancelCloses (s : State) : State :=
  ((s.safe.meters.filter fun e => match e.2.out with
    | some c => decide (c.kind ≠ 1) && !c.locked
    | none => false).map Prod.fst).foldl (fun s slot => s.cancelSafe slot .takeover) s

/-- Every domain restarts as its own rules say (R559 steps 3 to 5); a flood frame that had locked counts as sent (R228); after a boot the batches of pulses are this chip's own. -/
def State.restoreDomains (s : State) (boot : Bool) : State :=
  let s := s.leavePartner.seedAir.workLost.campaignsAgain
  let s := if boot then s else (s.secRestart.pulsesUnknown).cancelCloses
  let s := s.fl.streams.foldl (fun s x => s.floodOver x.number 0) s
  { s with air := { s.air with reserveSpent := s.time.air } }

/-- An Epoch that cannot rise: the chip does not start (R546); at boot it stands in HELD. -/
def State.epochExhausted (s : State) : State :=
  let s := { s with pair := { s.pair with claimDue := none } }
  let s := s.raise .pairEpochExhausted 0 []
  if s.pow.stage = 8 then (s.bootFail 0x0801 0x0F).standFailed else s.standBy .notReady

/-- CLAIM_START: a decided start of service begins. A takeover ends a roll (R590).
(Log entry 112: DESIGN CHOICE.) -/
def execClaimStart (s : State) : Out :=
  match s.pair.claimDue with
  | none => .next s
  | some cause =>
    match s.nextEpoch with
    | none => .next s.epochExhausted
    | some e =>
      let s := (s.raiseClaim cause e).restoreDomains (cause = 2)
      let s := if s.pow.stage = 8 then s.nextStage 9 else s
      if cause < 2 then
        .next (((s.count { name := .pairTakeovers }).raise .pairTakeoverStarted 0 [cause, e, s.pair.takeoverPos]).endRoll 2)
      else .next s

/-- What a forced claim cannot know of the former active is passed by (R565, R566).
(Log entry 116: DESIGN CHOICE.) -/
def State.forceMeters (s : State) : State :=
  let stampAt := ((s.store.journal.getLast?.map JEntry.stamp).getD s.time.newestJournalStamp)
  let n := 65536 + 64 * (s.legalS - stampS stampAt)
  let up (v : Nat) : Nat := min (v + n) 0xFFFFFFFF
  let s := (s.led.meters.filter fun e => e.2.active).foldl (fun s e =>
    s.commitMeter e.1 { e.2 with gap := true, downCtr := up e.2.downCtr }) s
  let keys := (List.range 16).flatMap fun d => ((List.range 32).filter fun b => s.slotSet d (16 + b)).map fun b => (d, b)
  let ctrs := keys.foldl (fun m k => Map.upd m k 0 up) s.vault.bcCtr
  let pre := (Map.keys s.records).filterMap fun k =>
    if k.1 = Rec.PrepayMeter.Enabled.rid ∧ s.rdB Rec.PrepayMeter.Enabled k.2 then some k.2 else none
  let relays := (Map.keys s.records).filterMap fun k =>
    if k.1 = Rec.SafeMeter.Enabled.rid ∧ s.rdB Rec.SafeMeter.Enabled k.2 then some k.2 else none
  let s := { s with
    vault := { s.vault with bcCtr := ctrs }
    pre := { s.pre with held := (s.pre.held ++ pre).eraseDups } }
  relays.foldl (fun s slot =>
    let s := s.cancelSafe slot .takeover
    let x := s.safeMeter slot
    s.setSafe slot { x with lastSeq := (x.lastSeq + 16384) % 65536 }) s

/-- A forced claim is made good, and then reported (R565, R566).
(Log entry 116: DESIGN CHOICE.) -/
def State.finishForced (s : State) : State :=
  let heard := slotOpt (s.pair.partner.map Heartbeat.committed)
  let at' := s.pair.takeoverPos
  (s.forceMeters.count { name := .pairForced }).raise .pairForced 0 [at', heard]

/-- The journal replayed from a generation's StartPos, in bytes. -/
def State.replayed (s : State) (g : Option Generation) : Nat :=
  let from' := (g.map Generation.startPos).getD 0
  ((s.store.journal.filter fun (e : JEntry) => decide (from' ≤ e.position)).map JEntry.size).sum

/-- The generation a restore uses: the newest that counts, or the older one. -/
def State.restoreGen (s : State) (older : Bool) : Option Generation := if older then s.store.generations[1]? else s.store.generations.head?

/-- The restored chip enters ACTIVE_PAIRED with a READY partner, and otherwise ACTIVE_SOLO; the ledger accepts frames. -/
def State.enterService (s : State) : State :=
  let s := s.pairTo (if s.readyPartner ∧ s.pair.streaming then .activePaired else .activeSolo)
  let s := { s with led := { s.led with ready := true } }
  let s := if s.pow.stage = 9 then s.reachService else s
  s.commitSweep

/-- TAKEOVER_DONE: the restore completes. `gaps` are the meters unreadable in both generations, `older` says that the older generation
had to be read (R559, R560). A boot's start of service is no takeover.
(Log entry 112: DESIGN CHOICE.) -/
def execTakeoverDone (older : Nat) (gaps : List Nat) (s : State) : Out :=
  if s.pair.st ≠ .takingOver then .next s
  else
    let g := s.restoreGen (decide (older ≠ 0))
    let bytes := s.replayed g
    let bad := (gaps.filter fun n => (s.meter n).active).eraseDups
    let s := bad.foldl (fun s n => s.rebuildMeter n) s.enterService
    let s := if s.pair.claimCause = 3 then s.finishForced else s
    let s := if s.pair.claimCause = 4 then s.raise .pairTakeback 0 [s.time.ms - s.pair.claimMs, s.pair.takeoverPos] else s
    let s := if s.pair.claimCause = 4 ∧ s.upd.roll.isSome then s.setRoll 4 else s
    if s.pair.claimCause = 2 then .next s
    else .next (s.raise .pairTakeoverDone 0 [s.time.ms - s.pair.claimMs, slotOpt (g.map Generation.gen), bytes, bad.length])

/-! ### Losing the claim (R548, R564 step 5) -/

/-- The former active of a handover enters READY without a reset: uncommitted work is lost, the ledger's DRAM is released, approval
tickets are void (R69) and sessions close, since none survives the change of chips (R54). Its newest
generation stands for the new epoch, which begins at its own last Position.
(Log entry 112: DESIGN CHOICE.)
(Log entry 159: DEDUCED.)
(Log entry 115: DEDUCED.) -/
def State.becomeReady (s : State) (epoch : Nat) : State :=
  let ms := s.time.ms - s.pair.handoverMs
  let pf := s.lastPos
  let s := (s.dropServing.dropEntries fun (e : JEntry) => !e.committed).workLost
  let s := s.pairTo .ready
  let s := s.mail.tickets.foldl (fun s t => s.voidTicket t.ticket .reset) s
  let s := (List.range 32).foldl (fun s n => s.closeSession n .reset) s
  let g := match s.store.generations with
    | x :: l => { x with epoch := epoch } :: l
    | [] => []
  let s := { s with
    pair := { s.pair with
      handoverStep := 0, pfSent := false, streaming := false, readySinceMs := none, asked := true, partnerGenerations := [] }
    store := { s.store with generations := g, running := none } }
  let s := if s.upd.roll.isSome then s.setRoll 4 else s
  s.raise .pairTakeback 0 [ms, pf]

/-- A serving chip that sees a greater word gives up its claim: it commits and launches nothing more and resets (R548); approval
tickets are void (R69), and a roll ends (R590). -/
def State.loseClaim (s : State) (w lane : Nat) : State :=
  let own := s.claimWord
  let s := (s.count { name := .pairClaimsLost }).raise .pairClaimLost 0 [own, w, lane]
  let s := (s.mail.tickets.foldl (fun s t => s.voidTicket t.ticket .reset) s).endRoll 2
  s.dropServing.orderReset .claimLost

/-- A word reported on a witness lane is judged (R548).
(Log entry 115: DEDUCED.) -/
def State.judgeClaim (s : State) (n w : Nat) : State :=
  if s.serving ∧ s.claimWord < w then
    if s.pair.st = .handingOver ∧ s.pair.pfSent then s.becomeReady (wordEpoch w) else s.loseClaim w n
  else s

/-! ### Readiness and catch-up (R555, R561) -/

/-- The generation that code 3 asks for: one of the partner's Epoch that counts here. -/
def State.epochGen (s : State) (h : Heartbeat) : Bool := s.store.generations.any fun (g : Generation) => g.committed && g.epoch == h.epoch

/-- Codes 5 to 7 of Table 22-3, which both chips can judge. -/
def State.matchCodes (s : State) (h : Heartbeat) : List Nat :=
  let caps := s.caps
  let digests := s.vaultDigests == h.vaultDigests && !((Map.getD s.upd.agree 0 {}).raised.any fun d => decide (d < 25))
  (if caps.take 7 = h.caps.take 7 ∧ bitOn (caps.getD 7 0) 0 = bitOn (h.caps.getD 7 0) 0 then [] else [5]) ++
    (if digests then [] else [6]) ++ (if s.partnerFits (s.running 0) then [] else [7])

/-- The failing codes of Table 22-3 at a standby. A partner that is handing over to it still serves in the pair.
(Log entry 115: DEDUCED.) -/
def State.failingCodes (s : State) : List Nat :=
  match s.pair.partner with
  | none => [1, 2, 3, 4]
  | some h =>
    (if s.heartbeatLive then [] else [1]) ++ (if h.state = .activePaired ∨ h.state = .handingOver then [] else [2]) ++ (if s.epochGen h then [] else [3]) ++
      (if h.sent ≤ s.lastPos then [] else [4]) ++ s.matchCodes h

/-- READY_CHANGE: the conditions of READY come to hold or fail at a standby. Where the heartbeat or the link is gone, R557 decides.
(Log entry 113: DEDUCED.) -/
def execReadyChange (s : State) : Out :=
  let codes := s.failingCodes
  let epoch := (s.pair.partner.map Heartbeat.epoch).getD 0
  match s.pair.st with
  | .syncing => .next (if codes.isEmpty then (s.pairTo .ready).raise .pairReady 0 [epoch, s.lastPos] else s)
  | .ready =>
    if codes.isEmpty ∨ s.pair.claimDue.isSome ∨ ¬s.heartbeatLive ∨ ¬s.ports.partner0.link then .next s else .next ((s.standBy .syncing).raise .pairNotReady 0 (codes.length :: codes))
  | _ => .next s

/-- CATCH_UP_DONE: the partner has acknowledged the newest entry, and the other conditions hold as the active sees them: entries from
here on wait for it (R561). -/
def execCatchUpDone (s : State) : Out :=
  match s.pair.st, s.pair.partner with
  | .activeSolo, some h =>
    let gen := (s.store.generations.any fun (g : Generation) => g.epoch == s.pair.epoch && s.pair.partnerGenerations.contains g.gen)
    if s.pair.streaming ∧ s.heartbeatLive ∧ s.lastPos ≤ s.pair.ackedPos ∧ gen ∧ (s.matchCodes h).isEmpty ∧
        (h.state = .syncing ∨ h.state = .ready) then .next (s.pairTo .activePaired)
    else .next s
  | _, _ => .next s

/-! ### Take-back and handover (R564) -/

/-- Whether PreferredChip names the partner. -/
def State.partnerPreferred (s : State) : Bool := decide (s.rd Rec.Pair.PreferredChip = 2 - s.rd Rec.Pair.ChipLetter)

/-- TAKEBACK_DUE: the preferred chip has been READY for TakeBackHoldS without a break. -/
def execTakebackDue (s : State) : Out :=
  match s.pair.st, s.pair.readySinceMs with
  | .activePaired, some t =>
    if s.rdB Rec.Pair.TakeBack ∧ s.partnerPreferred ∧ s.readyPartner ∧ t + 1000 * s.rd Rec.Pair.TakeBackHoldS ≤ s.time.ms ∧
        s.pair.noTakeBackUntil ≤ s.time.ms ∧ s.pair.handoverStep = 0 then .next s.startHandover
    else .next s
  | _, _ => .next s

/-- Whether the partner's applied Position lags by no more than 50 ms of entries: no entry stamped before that waits for its
acknowledgement (R564 step 3), since the standby applies an entry as it acknowledges it. -/
def State.lagFits (s : State) : Bool :=
  s.store.journal.all fun (e : JEntry) => decide (e.position ≤ s.pair.ackedPos) || decide (s.stamp ≤ e.stamp + 50 * 2 ^ 24 / 1000)

/-- HANDOVER: the active's handover moves on: its checkpoint counts at the partner; the partner, which has loaded it, lags by at most
50 ms of entries, and admission stops; and the final Position is sent once every entry is acknowledged. -/
def execHandover (s : State) : Out :=
  match s.pair.handoverStep with
  | 1 => .next (if s.pair.partnerGenerations.contains s.pair.handoverGen then { s with pair := { s.pair with handoverStep := 2 } } else s)
  | 2 =>
    if !s.lagFits ∨ s.pair.st ≠ .activePaired then .next s
    else
      let s := s.pairTo .handingOver
      let s := { s with pair := { s.pair with handoverStep := 3, handoverMs := s.time.ms, pfSent := false } }
      .next s.sendFinal
  | 3 => .next s.sendFinal
  | _ => .next s

/-- HANDOVER_TIMEOUT: 2 s after step 3 the partner does not serve. -/
def execHandoverTimeout (s : State) : Out :=
  if s.pair.st = .handingOver ∧ s.pair.handoverMs + 2000 ≤ s.time.ms then .next s.failHandover else .next s

/-! ### Commands (Table 22-7) -/

/-- The code of a pair state, in the order of Table 22-2. -/
def PairSt.code : PairSt → Nat
  | .booting => 0 | .syncing => 1 | .ready => 2 | .notReady => 3 | .takingOver => 4
  | .activePaired => 5 | .activeHold => 6 | .activeSolo => 7 | .handingOver => 8

/-- The claim word of a heartbeat's sender. -/
def Heartbeat.word (h : Heartbeat) : Nat := bit h.chipB + h.epoch * 2 ^ 31 + bit h.serving * 2 ^ 63

/-- PAIR.STATUS_READ: state, own and partner's claim word, Epoch, committed and acknowledged Position, TakeoverPos; then four lists
after their counts: generations that count here and at the partner, failing codes (none on a serving chip), witness lanes; journal to replay. -/
def readPairStatus (c : Caller) (s : State) : Reply :=
  let acked := if s.journals then s.pair.ackedPos else s.lastPos
  let codes := if s.journals then [] else s.failingCodes
  let lanes := s.witnessLanes
  let here := (s.store.generations.filter Generation.committed).map Generation.gen
  let there := s.pair.partnerGenerations
  gatedRead [(c.isObserver, .refusedRole), (c.slots 0, .badLength)]
    { status := .done,
      slots := [s.pair.st.code, s.claimWord, slotOpt (if s.heartbeatLive then s.pair.partner.map Heartbeat.word else none), s.pair.epoch,
        s.committedPos, acked, s.pair.takeoverPos] ++ here.length :: here ++ there.length :: there ++ codes.length :: codes ++ lanes.length :: lanes ++ [s.toReplay] }

def execPairStatusRead (ch : Nat) (s : State) : Out := .next (s.readCommand ch .pairStatusRead readPairStatus)

/-- PAIR.SWITCHOVER. -/
def runPairSwitchover (c : Caller) (s : State) : Reply × State :=
  gated s [(c.isOperator, .refusedRole), (c.slots 0, .badLength),
      (decide (s.pair.st = .activePaired ∧ s.pair.handoverStep = 0), .refusedState), (s.readyPartner, .notReady)] fun s =>
    ({ status := .deferred }, s.startHandover)

def execPairSwitchover (ch : Nat) (s : State) : Out := .next (s.command ch .pairSwitchover runPairSwitchover)

/-- PAIR.FORCE_CLAIM (R565). -/
def runForceClaim (c : Caller) (s : State) : Reply × State :=
  gated s [(c.isService, .refusedRole), (c.slots 0, .badLength),
      (decide (s.pair.st = .notReady ∨ s.pair.st = .syncing), .refusedState),
      (!s.heartbeatLive && s.partnerSeen.isNone, .partnerServing)] fun s =>
    ({ status := .deferred }, { s with pair := { s.pair with claimDue := some 3, claimMs := s.time.ms } })

def execPairForceClaim (ch : Nat) (s : State) : Out := .next (s.command ch .pairForceClaim runForceClaim)

/-- PAIR.ORPHANS_READ: count; per entry its number, meter slot, frame counter, Position, Stamp; count not listed. -/
def readOrphans (first n : Nat) (c : Caller) (s : State) : Reply :=
  let l := (s.pair.orphans.filter fun (o : Orphan) => decide (first ≤ o.number) && c.seesEvent o.tenant).take n
  gatedRead [(c.isObserver, .refusedRole), (c.slots 2, .badLength), (decide (1 ≤ n ∧ n ≤ 256), .badArgument)]
    { status := .done,
      slots := l.length :: (l.flatMap fun (o : Orphan) => [o.number, o.meter, o.counter, o.position, o.stamp]) ++ [s.pair.orphansUnlisted] }

def execPairOrphansRead (ch first n : Nat) (s : State) : Out := .next (s.readCommand ch .pairOrphansRead (readOrphans first n))

/-- PAIR.ORPHANS_CLEAR: entries up to a number are removed. -/
def runOrphansClear (upTo : Nat) (c : Caller) (s : State) : Reply × State :=
  gated s [(c.isOperator, .refusedRole), (c.slots 1, .badLength), (decide (upTo < s.pair.nextOrphan), .badArgument)] fun s =>
    let l := s.pair.orphans.filter fun (o : Orphan) => decide (upTo < o.number)
    ({ status := .done, slots := [s.pair.orphans.length - l.length] }, { s with pair := { s.pair with orphans := l } })

def execPairOrphansClear (ch upTo : Nat) (s : State) : Out := .next (s.command ch .pairOrphansClear (runOrphansClear upTo))

/-- PAIR.COUNTERS_READ: the statistics counters of R569, then its tallies, each with its saturation flag. -/
def readPairCounters (c : Caller) (s : State) : Reply :=
  let stats : List CtrName := [.pairStreamed, .pairAcked, .pairCkptBytes, .pairCatchUpBytes, .pairHbSent, .pairHbMissed]
  let tallies : List CtrName := [.pairTakeovers, .pairYields, .pairClaimsLost, .pairSolo, .pairForced, .pairOrphans]
  gatedRead [(c.isObserver, .refusedRole), (c.slots 0, .badLength)]
    { status := .done,
      slots := (stats.map fun k => s.ctr { name := k }) ++ tallies.flatMap fun k => [s.ctr { name := k }, bit (s.saturated { name := k })] }

def execPairCountersRead (ch : Nat) (s : State) : Out := .next (s.readCommand ch .pairCountersRead readPairCounters)

/-! ### The pair record (R567) -/

/-- The pair record: ChipLetter and RegionNumber stand while the chip serves. -/
def rulePair : RecordRule where
  writer _ c _ _ := c.isService
  check s _ _ old body :=
    if s.serving ∧ (Rec.Pair.ChipLetter.of old ≠ Rec.Pair.ChipLetter.of body ∨ Rec.Pair.RegionNumber.of old ≠ Rec.Pair.RegionNumber.of body)
    then some .refusedState else none

def execPairRecord (tenant inst : Nat) (body : List Byte) (s : State) : Out := .next (s.applyRecord rulePair Schema.Pair tenant inst body)

end Sys2Proof.Machine
end

