-- ==== Sys2Proof/Machine/Update.lean ====
section
/-! DEFINITION. Chapter 23: configuration agreement, rolls, head and meter firmware campaigns (R570 to R574, R584, R588 to R596). -/

namespace Sys2Proof.Machine

open Sys2Proof

/-! ### Agreement between chips (R573) -/

/-- The digest of a domain: configuration domains 1 to 24, and vault domain v as 128 + v.
(Log entry 121: DESIGN CHOICE.) -/
def State.domainDigest (s : State) (d : Nat) : List Byte :=
  if d < 128 then s.configDigest d else (s.vaultDigests[d - 128]?).getD []

/-- The digest of a domain that a heartbeat carries. -/
def Heartbeat.domainDigest (h : Heartbeat) (d : Nat) : List Byte :=
  if d < 128 then (h.digests[d - 1]?).getD [] else (h.vaultDigests[d - 128]?).getD []

/-- The neighbour a port stands for: 0 partner, 1 upstream, 2 downstream.
(Log entry 121: DESIGN CHOICE.) -/
def State.neighbourCode (s : State) (port : Nat) : Nat := s.portSource port - 1

/-- What a neighbour's last heartbeat said. -/
def State.neighbourOf (s : State) (n : Nat) : Option Heartbeat := if n = 0 then s.pair.partner else s.pair.neighbour

/-- The domains compared with a neighbour: all with the partner, and along the chain those set in both ChainDomainMasks. -/
def State.comparedDomains (s : State) (n : Nat) (h : Heartbeat) : List Nat :=
  if n = 0 then (List.range 24).map (· + 1) ++ (List.range 17).map (128 + ·)
  else ((List.range 24).map (· + 1)).filter fun d => bitOn (s.rd Rec.UpdatePolicy.ChainDomainMask) (d - 1) && bitOn h.chainMask (d - 1)

/-- What is known of a neighbour's agreement. -/
def State.agreement (s : State) (n : Nat) : Agreement := Map.getD s.upd.agree n {}

/-- The state with a neighbour's agreement set. -/
def State.setAgreement (s : State) (n : Nat) (x : Agreement) : State := { s with upd := { s.upd with agree := Map.put s.upd.agree n x } }

/-- One domain compared with a neighbour's heartbeat: unequal digests start their time, equal ones end it and raise
`config.agreed` where a mismatch stood. -/
def State.compareDomain (s : State) (n : Nat) (h : Heartbeat) (d : Nat) : State :=
  let x := s.agreement n
  if s.domainDigest d ≠ h.domainDigest d then
    if Map.has x.since d then s else s.setAgreement n { x with since := Map.put x.since d s.time.ms }
  else
    let s := s.setAgreement n { since := Map.del x.since d, raised := x.raised.filter (· ≠ d) }
    if x.raised.contains d then s.raise .configAgreed 0 [d, n] else s

/-- A heartbeat's digests are compared. -/
def State.compareDigests (s : State) (n : Nat) (h : Heartbeat) : State :=
  (s.comparedDomains n h).foldl (fun s d => s.compareDomain n h d) s

/-- DIGEST_HOLD_EXPIRY: a domain's digests have been unequal for DigestHoldS. -/
def execDigestHoldExpiry (neighbour domain : Nat) (s : State) : Out :=
  let x := s.agreement neighbour
  match Map.get? x.since domain, s.neighbourOf neighbour with
  | some t, some h =>
    if x.raised.contains domain ∨ s.time.ms < t + 1000 * s.rd Rec.UpdatePolicy.DigestHoldS then .next s
    else
      let s := (s.setAgreement neighbour { x with raised := x.raised ++ [domain] }).count { name := .updMismatch, a := domain }
      .next (s.raise .configMismatch 0 ([domain, neighbour] ++ bytesSlots (s.domainDigest domain) ++ bytesSlots (h.domainDigest domain)))
  | _, _ => .next s

/-- The SHA-256 of the table of record versions: this image supports version 1 of every record.
(Log entry 122: DESIGN CHOICE.) -/
def schemaHash : List Byte :=
  sha256 ((sortBy (fun (c : Schema) => (c.id : Int)) Schema.all).flatMap fun c => le 2 c.id ++ le 1 1)

/-- Whether a neighbour reports another table, so that the common schema is in use (R574).
(Log entry 122: DESIGN CHOICE.) -/
def commonSchema (h : Option Heartbeat) : Bool :=
  match h with
  | some h => h.schemaHash != schemaHash
  | none => false

/-- CONFIG.DIGEST_READ: own 24 digests; of the partner and of the chain neighbour, whether one is known and its 24 digests; the domains
that differ from each, with their count; whether the common schema is in use with each. -/
def readConfigDigest (c : Caller) (s : State) : Reply :=
  let of (h : Option Heartbeat) : List Nat := match h with
    | some h => 1 :: h.digests.flatMap fun d => bytesSlots (slice d 0 32)
    | none => [0]
  let chain := (s.agreement 1).raised ++ (s.agreement 2).raised
  gatedRead [(c.isObserver, .refusedRole), (c.slots 0, .badLength)]
    { status := .done,
      slots := s.configDigests.flatMap bytesSlots ++ of s.pair.partner ++ of s.pair.neighbour ++
        (s.agreement 0).raised.length :: (s.agreement 0).raised ++ chain.length :: chain ++
        [bit (commonSchema s.pair.partner), bit (commonSchema s.pair.neighbour)] }

def execConfigDigestRead (ch : Nat) (s : State) : Out := .next (s.readCommand ch .configDigestRead readConfigDigest)

/-- CONFIG.RECORDS_READ: count; per instance in scope, in digest order from the `first` on, RecordId, Instance, Tenant and SHA-256 of
its canonical bytes.
(Log entry 124: DESIGN CHOICE.) -/
def readConfigRecords (domain first n : Nat) (c : Caller) (s : State) : Reply :=
  let l := ((s.domainOrdered domain).filter fun p => s.sees c (s.recTenant p.1.id p.2)).drop first |>.take n
  gatedRead [(c.isObserver, .refusedRole), (c.slots 3, .badLength), (decide (1 ≤ domain ∧ domain ≤ 24 ∧ 1 ≤ n ∧ n ≤ 256), .badArgument)]
    { status := .done,
      slots := l.length :: l.flatMap fun p => [p.1.id, p.2, s.recTenant p.1.id p.2] ++ bytesSlots (sha256 (s.canonical p.1 p.2)) }

def execConfigRecordsRead (ch domain first count : Nat) (s : State) : Out :=
  .next (s.readCommand ch .configRecordsRead (readConfigRecords domain first count))

/-! ### The chain link (R584) -/

/-- CHAIN_LINK_LOSS: ChainLossMs without a heartbeat on a port 1 that has carried one since boot. -/
def execChainLinkLoss (s : State) : Out :=
  match s.pair.neighbour with
  | none => .next s
  | some h =>
    if s.upd.chainLost ∨ s.time.ms < h.atMs + s.rd Rec.UpdatePolicy.ChainLossMs then .next s
    else .next (({ s with upd := { s.upd with chainLost := true } }).raise .updateChainLink 0 [1, 0])

/-! ### Rolls (R588) -/

/-- Whether the two chips hold the same other generations and every mix of the old and the new set is permitted (Table 23-6). -/
def State.rollFits (s : State) : Bool :=
  match s.imageIn 0 .other, s.imageIn 1 .other, s.running 0, s.pair.partner with
  | some c, some v, some o, some h =>
    h.inventory.contains c.digest && h.inventory.contains v.digest && peersFit (some c) (some v) && s.partnerFits (some c) &&
      decide (c.pairFloor ≤ o.version ∧ o.pairFloor ≤ c.version)
  | _, _, _, _ => false

/-- UPDATE.PAIR_ROLL. -/
def runPairRoll (c : Caller) (s : State) : Reply × State :=
  gated s [(c.isService, .refusedRole), (c.slots 0, .badLength),
      (decide (s.pair.st = .activePaired) && s.readyPartner && s.upd.roll.isNone && s.upd.trial.isNone, .refusedState),
      (s.rollFits, .incompatible)] fun s => ({ status := .deferred }, s.setRoll 1)

def execUpdatePairRoll (ch : Nat) (s : State) : Out := .next (s.command ch .updatePairRoll runPairRoll)

/-- A READY standby activates in a roll: in step 1, and the former active in step 5. -/
def State.rollActivate (s : State) : State :=
  match s.upd.roll with
  | some r =>
    if (r.step = 1 ∨ r.step = 5) ∧ !r.acted ∧ s.pair.st = .ready then
      ({ s with upd := { s.upd with roll := some { r with acted := true } } }).activate 3
    else s
  | none => s

/-- A step of the active's roll arrives with the journal stream: 0 with its outcome ends the roll, and the wave goes on where it ended
done (R589). -/
def State.rollStep (s : State) (step outcome : Nat) : State :=
  if step = 0 then
    { s with upd := { s.upd with
      roll := none, waveRequest := s.upd.waveRequest || (decide (outcome = 0) && s.rdB Rec.UpdatePolicy.Wave) } }
  else
    let acted := (s.upd.roll.map Roll.acted).getD false
    ({ s with upd := { s.upd with roll := some { step := step, sinceMs := s.time.ms, acted := acted } } }).rollActivate

/-- The roll of a serving chip moves on: the standby departed, became READY on the new set, took service, confirmed; then the same for
the former active.
(Log entry 127: DESIGN CHOICE.) -/
def State.rollServing (s : State) (r : Roll) : State :=
  let h := s.pair.partner
  let paired := decide (s.pair.st = .activePaired) && s.readyPartner
  let version := (h.map Heartbeat.imageVersion).getD 0
  match r.step with
  | 1 => if s.pair.st = .activeSolo then s.setRoll 2 else s
  | 2 =>
    if !paired then s
    else if version ≠ imageVersion (s.imageIn 0 .other) then s.endRoll 1
    else if s.pair.handoverStep = 0 then s.startHandover.setRoll 3
    else s
  | 4 => if s.upd.trial.isNone then s.setRoll 5 else s
  | 5 => if s.pair.st = .activeSolo then s.setRoll 6 else s
  | 6 =>
    if !paired then s
    else if version ≠ imageVersion (s.running 0) then s.endRoll 1
    else match s.pair.readySinceMs with
      | some t => if t + 1000 * s.rd Rec.UpdatePolicy.ConfirmS ≤ s.time.ms then s.endRoll 0 else s
      | none => s
  | _ => s

/-- ROLL_STEP_DONE: the roll moves to its next step, or ends; a standby that has become READY activates, and one that has confirmed in
step 6 is done.
(Log entry 127: DESIGN CHOICE.) -/
def execRollStepDone (s : State) : Out :=
  match s.upd.roll with
  | none => .next s
  | some r =>
    if s.journals then .next (s.rollServing r)
    else if 5 ≤ r.step ∧ r.acted ∧ s.pair.st = .ready ∧ s.upd.trial.isNone ∧ s.upd.bootOther = 0 then .next (s.endRoll 0)
    else .next s.rollActivate

/-- ROLL_READY_TIMEOUT: 300 s after its activation the standby is not READY. -/
def execRollReadyTimeout (s : State) : Out :=
  match s.upd.roll with
  | some r => if r.step = 2 ∧ s.journals ∧ ¬s.readyPartner ∧ r.sinceMs + 300000 ≤ s.time.ms then .next (s.endRoll 1) else .next s
  | none => .next s

/-! ### Campaigns -/

/-- A campaign by its identity. -/
def State.campaign (s : State) (id : Nat) : Option Campaign := s.upd.campaigns.find? fun (c : Campaign) => c.id == id

/-- The state with a campaign changed. -/
def State.modCampaign (s : State) (id : Nat) (f : Campaign → Campaign) : State :=
  { s with upd := { s.upd with campaigns := s.upd.campaigns.map fun (c : Campaign) => if c.id = id then f c else c } }

/-- The held library image of a digest and component. -/
def State.libraryImage (s : State) (comp : Nat) (d : List Byte) : Option Image :=
  s.upd.images.find? fun (i : Image) => i.component == comp && i.st == .library && i.digest == d

/-- How many heads or meters of a campaign have a result. -/
def Campaign.updated (c : Campaign) : Nat :=
  if c.kind = 2 then (c.heads.filter fun e => e.2.result == 1).length else (c.meters.filter fun e => e.2 == 2).length
def Campaign.failed (c : Campaign) : Nat :=
  if c.kind = 2 then (c.heads.filter fun e => e.2.result == 2).length else (c.meters.filter fun e => e.2 != 2).length

/-- A campaign ends. -/
def State.endCampaign (s : State) (id : Nat) : State :=
  match s.campaign id with
  | none => s
  | some c =>
    let s := (s.modCampaign id fun c => { c with done := true }).journal .store 0 id (.words [0x1507, 3, id])
    s.raise .updateCampaignDone 0 [id, c.updated, c.failed, c.skipped.length]

/-- A new campaign, journaled (R593). -/
def State.addCampaign (s : State) (c : Campaign) : State :=
  let s := { s with upd := { s.upd with campaigns := s.upd.campaigns ++ [c], nextCampaign := c.id + 1 } }
  s.journal .store 0 c.id (.words ([0x1507, 1, c.id, c.kind] ++ bytesSlots c.digest ++
    [c.stream, c.keySlot, c.target, c.rounds, c.activateAt, c.heads.length] ++ Map.keys c.heads ++ c.skipped))

/-- A campaign as the journal stream carries it. -/
def campaignOf (l : List Nat) : Campaign :=
  let w (i : Nat) : Nat := l.getD i 0
  { id := w 0, kind := w 1, digest := ((l.drop 2).take 4).flatMap (le 8), stream := w 6, keySlot := w 7, target := w 8,
    rounds := w 9, activateAt := w 10, heads := ((l.drop 12).take (w 11)).map fun n => (n, {}), skipped := l.drop (12 + w 11) }

/-! ### Head campaigns (R591) -/

/-- Blocks in a container. -/
def blockCount (container : List Byte) : Nat := ceilDiv container.length 4084

/-- The body of an image block (Table 23-9); block `blockCount` activates. -/
def imageBlock (container : List Byte) (i : Nat) : List Byte :=
  let d := (container.drop (4084 * i)).take 4084
  le 4 i ++ le 4 (blockCount container) ++ le 2 d.length ++ le 2 0 ++ d

/-- Whether a head is of an image's Model. -/
def HeadId.fits (h : HeadId) (model : Nat) : Bool := decide (h.kind + 256 * h.hwRev = model % 65536)

/-- A head's progress in a campaign. -/
def State.setHead (s : State) (id lane : Nat) (h : HeadProgress) : State :=
  s.modCampaign id fun c => { c with heads := Map.put c.heads lane h }

/-- A head has its result, which is journaled; with the last one the campaign ends. -/
def State.headResult (s : State) (id lane : Nat) (h : HeadProgress) (result : Nat) : State :=
  let s := (s.setHead id lane { h with result := result, wait := false }).journal .store 0 id (.words [0x1507, 2, id, lane, result])
  match s.campaign id with
  | some c => if c.heads.all fun e => decide (e.2.result = 1 ∨ e.2.result = 2) then s.endCampaign id else s
  | none => s

/-- A block goes to a head. -/
def State.sendBlock (s : State) (id lane : Nat) (h : HeadProgress) (container : List Byte) : State :=
  let s := (s.sendControl lane 8 0 (imageBlock container h.next) .campaign).count { name := .updHeadBlocks }
  s.setHead id lane { h with started := true, wait := true }

/-- Whether a lane's sending may begin: fewer than HeadParallel heads are under way, and every lower lane has begun. -/
def State.headTurn (s : State) (c : Campaign) (lane : Nat) : Bool :=
  decide ((c.heads.filter fun e => e.2.started && e.2.result == 0).length < s.rd Rec.UpdatePolicy.HeadParallel) &&
    c.heads.all fun e => decide (lane ≤ e.1) || e.2.started || !s.laneOn e.1

/-- One head's step: begin, go on after a reply, activate, and judge after the restart. A block whose request ended with the lane is
sent again.
(Log entry 125: DESIGN CHOICE.) -/
def State.headStep (s : State) (c : Campaign) (lane : Nat) (h : HeadProgress) (i : Image) : State :=
  let n := blockCount i.container
  let waiting := (s.lane lane).reqs.any fun (r : CtrlReq) => decide (r.owner = .campaign)
  if h.result = 3 then
    match (s.lane lane).head with
    | some x => if h.atMs ≤ (s.lane lane).startMs ∧ s.laneOn lane then s.headResult c.id lane h (if x.fw = i.version then 1 else 2) else s
    | none => s
  else if h.result ≠ 0 ∨ !s.laneOn lane then s
  else if h.bad then s.headResult c.id lane h 2
  else if !h.started then if s.headTurn c lane then s.sendBlock c.id lane h i.container else s
  else if h.wait then if waiting then s else s.sendBlock c.id lane h i.container
  else if h.next = n then s.setHead c.id lane { h with result := 3, atMs := s.time.ms }
  else s.sendBlock c.id lane { h with next := h.next + 1 } i.container

/-- HEAD_CAMPAIGN_STEP: only the chip that holds the claim sends.
(Log entry 125: DESIGN CHOICE.) -/
def execHeadCampaignStep (campaign lane : Nat) (s : State) : Out :=
  match s.campaign campaign with
  | none => .next s
  | some c =>
    match Map.get? c.heads lane, s.libraryImage 2 c.digest with
    | some h, some i => if c.kind = 2 ∧ !c.done ∧ s.serving then .next (s.headStep c lane h i) else .next s
    | _, _ => .next s

/-- UPDATE.HEAD_CAMPAIGN: lanes that are not ON, or whose head is of another Model, are skipped.
(Log entry 125: DESIGN CHOICE.) -/
def runHeadCampaign (d : List Byte) (lanes : Nat) (c : Caller) (s : State) : Reply × State :=
  let img := s.libraryImage 2 d
  let ls := maskBits 64 lanes
  let model := (img.map Image.model).getD 0
  let fits (n : Nat) : Bool := s.laneOn n && (match (s.lane n).head with
    | some h => h.fits model
    | none => false)
  gated s [(c.isService, .refusedRole), (c.body.length == 40 && d.length == 32, .badLength),
      (img.isSome && decide (0 < lanes ∧ lanes < 2 ^ 64), .badArgument), (ls.all s.laneHere, .absentUnit), (s.serving, .refusedState)] fun s =>
    let id := s.upd.nextCampaign
    let s := s.addCampaign
      { id := id, kind := 2, digest := d, heads := (ls.filter fits).map fun n => (n, {}), skipped := ls.filter fun n => !fits n }
    ({ status := .deferred }, if ls.any fits then s else s.endCampaign id)

def execUpdateHeadCampaign (ch : Nat) (digest : List Byte) (lanes : Nat) (s : State) : Out :=
  .next (s.command ch .updateHeadCampaign (runHeadCampaign digest lanes))

/-! ### Meter campaigns (R592) -/

/-- Whether an address matches a Target pattern: a byte of 0xFF matches any value. -/
def targetMatches (target addr : Nat) : Bool :=
  (List.range 8).all fun i => decide (bitsAt target (8 * i) 8 = 0xFF ∨ bitsAt target (8 * i) 8 = bitsAt addr (8 * i) 8)

/-- What the target meters of a campaign have reported of its stream. -/
def State.campaignReports (s : State) (c : Campaign) : List (Nat × FloodReport) :=
  s.upd.reports.filterMap fun e =>
    if e.1.2 = c.stream ∧ targetMatches c.target (s.rd Rec.MeterSec.Address e.1.1) then some (e.1.1, e.2) else none

/-- The lowest contiguous count among the target meters that have reported within 24 h and lack blocks.
(Log entry 126: DESIGN CHOICE.) -/
def State.repairFrom (s : State) (c : Campaign) : Option Nat :=
  let lack := (s.campaignReports c).filter fun e => !e.2.complete && decide (s.time.ms < e.2.atMs + dayMs)
  (leastBy (fun e => e.2.contiguous) lack).map fun e => e.2.contiguous

/-- Whether every target meter that reported has answered Result 0.
(Log entry 126: DESIGN CHOICE.) -/
def State.campaignAnswered (s : State) (c : Campaign) : Bool :=
  let l := s.campaignReports c
  !l.isEmpty && l.all fun e => Map.get? c.meters e.1 == some 2

/-- METER_CAMPAIGN_ROUND: after the planned rounds a repair round runs, or the campaign is completed.
(Log entry 126: DESIGN CHOICE.) -/
def execMeterCampaignRound (campaign : Nat) (s : State) : Out :=
  match s.campaign campaign with
  | none => .next s
  | some c =>
    let ended : Bool := match s.stream c.stream with
      | some x => decide (x.rounds ≤ x.round)
      | none => true
    let recent : Bool := match Map.get? s.fl.lastMs c.stream with
      | some t => decide (s.time.ms < t + s.rd Rec.FloodSchedule.CacheAgeH * hourMs)
      | none => false
    let spent := decide (s.rd Rec.UpdatePolicy.RepairRounds ≤ c.repairs) || !recent
    if c.kind ≠ 3 ∨ c.done ∨ ¬s.serving ∨ ¬ended then .next s
    else if s.campaignAnswered c then .next (s.endCampaign campaign)
    else if spent then .next (s.endCampaign campaign)
    else match s.repairFrom c, s.stream c.stream with
      | some from', some x =>
          let s := s.modCampaign campaign fun c => { c with repairs := c.repairs + 1 }
          .next (s.modStream c.stream fun y => { y with rounds := x.round + 1, block := min from' x.lastBlock, st := .started })
      | some _, none => .next (s.endCampaign campaign)
      | none, _ => .next s

/-- UPDATE.METER_CAMPAIGN. -/
def runMeterCampaign (d : List Byte) (stream keySlot target rounds activateAt : Nat) (c : Caller) (s : State) : Reply × State :=
  let img := s.libraryImage 3 d
  let x := s.contentStream stream 2 0 keySlot target rounds (((img.map Image.container).getD []).drop 256)
  gated s ([(c.isOperator, Status.refusedRole), (c.body.length == 72 && d.length == 32, .badLength), (img.isSome, .badArgument)] ++
      s.openChecks x) fun s =>
    let s := { s with upd := { s.upd with reports := s.upd.reports.filter fun e => e.1.2 ≠ stream } }
    let id := s.upd.nextCampaign
    ({ status := .deferred }, (s.openStream x).addCampaign
      { id := id, kind := 3, digest := d, stream := stream, keySlot := keySlot, target := target, rounds := rounds, activateAt := activateAt })

def execUpdateMeterCampaign (ch : Nat) (digest : List Byte) (stream keySlot target rounds activateAt : Nat) (s : State) : Out :=
  .next (s.command ch .updateMeterCampaign (runMeterCampaign digest stream keySlot target rounds activateAt))

/-- UPDATE.CAMPAIGN_READ: kind, whether it is done, count; per head lane, blocks replied and result, or per meter slot, blocks held and
result; count and list of the skipped; updated, failed, skipped. -/
def readCampaign (id : Nat) (c : Caller) (s : State) : Reply :=
  match s.campaign id with
  | none => gatedRead [(c.isObserver, .refusedRole), (c.slots 1, .badLength)] { status := .badArgument }
  | some x =>
    let rows := if x.kind = 2 then x.heads.map fun e => [e.1, e.2.next, e.2.result]
      else (s.campaignReports x).map fun e => [e.1, e.2.held, slotOpt (((Map.get? x.meters e.1).filter fun r => decide (1 < r)).map (· - 2))]
    gatedRead [(c.isObserver, .refusedRole), (c.slots 1, .badLength)]
      { status := .done,
        slots := [x.kind, bit x.done] ++ rows.length :: rows.flatMap (fun r => r) ++ x.skipped.length :: x.skipped ++
          [x.updated, x.failed, x.skipped.length] }

def execUpdateCampaignRead (ch campaign : Nat) (s : State) : Out := .next (s.readCommand ch .updateCampaignRead (readCampaign campaign))

/-! ### What the journal stream carries of this chapter (R593) -/

/-- The words of a STORE entry applied at the standby: roll steps, campaigns and their progress, the bundle sequence.
(Log entry 111: DESIGN CHOICE.) -/
def State.applyWords (s : State) (l : List Nat) : State :=
  match l with
  | 0x1500 :: step :: more => s.rollStep step (more.headD 2)
  | 0x1507 :: 1 :: more =>
    let c := campaignOf more
    { s with upd := { s.upd with
      campaigns := (s.upd.campaigns.filter fun (x : Campaign) => x.id ≠ c.id) ++ [c], nextCampaign := max s.upd.nextCampaign (c.id + 1) } }
  | [0x1507, 2, id, lane, result] => s.modCampaign id fun c => { c with heads := Map.put c.heads lane { result := result } }
  | [0x1507, 3, id] => s.modCampaign id fun c => { c with done := true }
  | [0x150D, seq] => { s with upd := { s.upd with bundleSeq := max s.upd.bundleSeq seq } }
  | _ => s

/-! ### Counters and the policy record (R594, R596) -/

/-- UPDATE.COUNTERS_READ: image bytes received and passed on ports 0 and 1, delta bytes, head blocks; then with its saturation flag
each tally: refused images, reversions, failed rolls, refused bundles, mismatches per domain. -/
def readUpdateCounters (c : Caller) (s : State) : Reply :=
  let stats : List Ctr := [{ name := .updBytesIn }, { name := .updBytesIn, a := 1 }, { name := .updBytesOut }, { name := .updBytesOut, a := 1 },
    { name := .updDeltaBytes }, { name := .updHeadBlocks }]
  let tallies : List Ctr := [{ name := .updRefused }, { name := .updReversions }, { name := .updRollsFailed }, { name := .updBundlesRefused }] ++
    ((List.range 24).map fun d => ({ name := .updMismatch, a := d + 1 } : Ctr)) ++
    (List.range 17).map fun d => ({ name := .updMismatch, a := 128 + d } : Ctr)
  gatedRead [(c.isObserver, .refusedRole), (c.slots 0, .badLength)]
    { status := .done, slots := stats.map s.ctr ++ tallies.flatMap fun k => [s.ctr k, bit (s.saturated k)] }

def execUpdateCountersRead (ch : Nat) (s : State) : Out := .next (s.readCommand ch .updateCountersRead readUpdateCounters)

/-- The update policy record. -/
def ruleUpdatePolicy : RecordRule where
  writer _ c _ _ := c.isOfficer

def execUpdatePolicyRecord (tenant inst : Nat) (body : List Byte) (s : State) : Out :=
  .next (s.applyRecord ruleUpdatePolicy Schema.UpdatePolicy tenant inst body)

end Sys2Proof.Machine
end

