-- ==== Sys2Proof/Machine/Observe.lean ====
section
/-! DEFINITION. The event fabric where it reads other chapters: admission (R505), selectors (R513), the header words of regions
(Table 20-4), firing by command, and the records of chapter 20 (R521 to R523). -/

namespace Sys2Proof.Machine

open Sys2Proof

/-! ### Selectors (R513) -/

/-- The observer read commands without an argument. -/
def plainReads (k : Cmd) : Option (Caller → State → Reply) :=
  match k with
  | .leaChannelsRead => some readLeaChannels
  | .barrowList => some readBarrowList
  | .evtCountersRead => some readEvtCounters
  | .ctrlCapsRead => some readCaps
  | .updateInventoryRead => some readInventory
  | .ctrlSessionInfo => some readSessionInfo
  | .ctrlApprovalList => some readApprovalList
  | .pairStatusRead => some readPairStatus
  | .pairCountersRead => some readPairCounters
  | .portStatusRead => some readPortStatus
  | .powerCountersRead => some readPowerCounters
  | .rxStatusRead => some readRxStatus
  | .ledgerEnginesRead => some readLedgerEngines
  | .secSwardStatus => some readSwardStatus
  | .secStatusRead => some readSecStatus
  | .storeStatusRead => some readStoreStatus
  | .storePartitionsRead => some readStorePartitions
  | .storeDramRead => some readStoreDram
  | .timeStatusRead => some readTimeStatus
  | .timeReferencesRead => some readTimeReferences
  | .timeCountersRead => some readTimeCounters
  | .configDigestRead => some readConfigDigest
  | .updateCountersRead => some readUpdateCounters
  | .vaultStatusRead => some readVaultStatus
  | _ => none

/-- The observer read commands with one argument. -/
def targetReads (k : Cmd) : Option (Nat → Caller → State → Reply) :=
  match k with
  | .airPlanRead => some readAirPlan
  | .balZoneRead => some readBalZone
  | .balMeterRead => some readBalMeter
  | .balCountersRead => some readBalCounters
  | .ctrlHealthRead => some readHealth
  | .filtChannelRead => some readFiltChannel
  | .filtTilesRead => some readFiltTiles
  | .filtCountersRead => some readFiltCounters
  | .filtRomRead => some readFiltRom
  | .floodStatusRead => some readFloodStatus
  | .laneStatusRead => some readLaneStatus
  | .laneCountersRead => some readLaneCounters
  | .laneHeadInfo => some readLaneHeadInfo
  | .leaCountersRead => some readLeaCounters
  | .lingStatusRead => some readLingStatus
  | .lingMeterRead => some readLingMeter
  | .lingCountersRead => some readLingCounters
  | .metroValuesRead => some readMetroValues
  | .filtDcRead => some readFiltDc
  | .metroRegistersRead => some readMetroRegisters
  | .metroPulseRead => some readMetroPulse
  | .metroCountersRead => some readMetroCounters
  | .portSessionsRead => some readPortSessions
  | .powerSelftestRead => some readSelftest
  | .prepayStateRead => some readPrepayState
  | .tamperRead => some readTamper
  | .prepayCountersRead => some readPrepayCounters
  | .rxContextRead => some readRxContext
  | .rxGroupRead => some readRxGroup
  | .rxCountersRead => some readRxCounters
  | .ledgerMeterRead => some readLedgerMeter
  | .ledgerCountersRead => some readLedgerCounters
  | .safeCommandRead => some readSafeCommand
  | .safeLockoutRead => some readSafeLockout
  | .safeCountersRead => some readSafeCounters
  | .secMeterRead => some readSecMeter
  | .secCountersRead => some readSecCounters
  | .storeFlashRead => some readStoreFlash
  | .storeCountersRead => some readStoreCounters
  | .tariffCountersRead => some readTariffCounters
  | .updateCampaignRead => some readCampaign
  | .vaultSlotsRead => some readVaultSlots
  | .vaultDigestRead => some readVaultDigest
  | .vaultCountersRead => some readVaultCounters
  | _ => none

/-- The observer read commands with several arguments, which a selector cannot give. -/
def longReads : List Cmd :=
  [.ctrlRecordRead, .balIntervalRead, .prepayTokenList, .secQuarantineList, .configRecordsRead, .evtSourcesRead,
   .evtTrailRead, .barrowClearlogRead, .storeLossRead, .pairOrphansRead, .tariffPlanRead, .tariffEvaluate,
   .tariffProfileRead, .tariffClocklogRead, .timeConvert, .portCountersRead, .metroHarmonicsRead, .metroIntervalRead,
   .ledgerTotalsRead, .ledgerDisputeList, .airDutyRead, .airQueueRead, .airCountersRead]

/-- A value that the chip measures as it is read by a selector.
(Log entry 119: DESIGN CHOICE.) -/
def State.measured (s : State) (k : Cmd) (i : Nat) : Nat := Config.measured k.code i s.freeCtr

/-- The caller of a selector: the observer's scope of tenant 0, on no channel.
(Log entry 123: DEDUCED.) -/
def selectorCaller (body : List Byte) : Caller := ⟨32, 0, 0, 0, 0, true, body⟩

/-- What a command returns for a selector: observer reads their results, another command the status that refuses it.
(Log entry 123: DEDUCED.) -/
def State.selected (s : State) (k : Cmd) (arg : Nat) : Reply :=
  let none' := selectorCaller []
  let one := selectorCaller (le 8 arg)
  let quanta (n : Nat) : List Nat := (List.range n).map (s.measured k)
  match plainReads k, targetReads k, k with
  | some f, _, _ => f none' s
  | none, some f, _ => f arg one s
  | none, none, .tenantStatusRead => readTenantStatus arg one s
  | none, none, .tenantCountersRead => readTenantCounters arg one s
  | none, none, .powerStatusRead => readPowerStatus ((quanta 21).map (toSigned 16)) none' s
  | none, none, .ctrlPing => { status := .done }
  | none, none, .vaultIdentityRead => readVaultIdentity none' s
  | none, none, .ctrlSessionClose => { status := .noSession }
  | none, none, k => { status := if longReads.contains k then .badLength else .refusedRole }

/-- A chosen word of a snapshot (R513): Command in bits 15:0 of the selector, Argument in 47:16, Word in 63:48. -/
def State.look (s : State) (sel : Nat) : WordEntry :=
  match Cmd.ofCode (bitsAt sel 0 16) with
  | none => { selector := sel, value := 0, status := .unknownCommand }
  | some k =>
    let y := s.selected k (bitsAt sel 16 32)
    let b := y.body
    let w := 4 * bitsAt sel 48 16
    { selector := sel, value := if y.status = .done ∧ w + 4 ≤ b.length then leAt b w 4 else 0, status := y.status }

/-- The word of a region in a snapshot's header (Table 20-4). -/
def State.regionWord (s : State) (r : Nat) : Nat :=
  if !s.regionHere r then 3
  else
    let h := s.healthRow r
    h.getD 0 0 + min (h.getD 1 0) 63 * 4 + min (h.getD 3 0) 255 * 2 ^ 8 + h.getD 5 0 * 2 ^ 16

/-! ### Admission (R505, R507, R512) -/

/-- EVENT_ADMITTED: the oldest raised event is admitted, routed and recorded, and head-end sessions take the event frames. -/
def execEventAdmitted (s : State) : Out := .next (s.takeEvent State.look State.regionWord).sendEvents

/-- BARROW.TRIGGER_NOW. -/
def execBarrowTriggerNow (ch trigger : Nat) (s : State) : Out :=
  .next (s.command ch .barrowTriggerNow (runBarrowTriggerNow State.look State.regionWord trigger))

/-! ### Records (R521 to R523) -/

/-- The event routing record. -/
def ruleEventRouting : RecordRule where
  writer _ c _ _ := c.isOperator

def execEventRoutingRecord (tenant inst : Nat) (body : List Byte) (s : State) : Out :=
  .next (s.applyRecord ruleEventRouting Schema.EventRouting tenant inst body)

/-- The trigger record: a write restarts the trigger's window and holdoff. -/
def ruleTrigger : RecordRule where
  writer _ c _ _ := c.isOperator
  effect s _ inst _ _ := s.restartTrigger inst

def execTriggerRecord (tenant inst : Nat) (body : List Byte) (s : State) : Out :=
  .next (s.applyRecord ruleTrigger Schema.Trigger tenant inst body)

/-- The recorder policy record. -/
def ruleRecorderPolicy : RecordRule where
  writer _ c _ _ := c.isOfficer

def execRecorderPolicyRecord (tenant inst : Nat) (body : List Byte) (s : State) : Out :=
  .next (s.applyRecord ruleRecorderPolicy Schema.RecorderPolicy tenant inst body)

end Sys2Proof.Machine
end

