-- ==== Sys2Proof/Machine/Approve.lean ====
section
/-! DEFINITION. The second approval of a two-approval command (R68 to R70), and the initiation of BARROW.CLEAR (R518). -/

namespace Sys2Proof.Machine

open Sys2Proof

/-- Whether the recorder can be cleared once more (R519). -/
def State.clearable (s : State) : Bool := decide (s.clearSeq ≤ 0xFFFFFFFF)

/-- BARROW.CLEAR: the first approval. -/
def runBarrowClear (c : Caller) (s : State) : Reply × State :=
  gated s [(c.isOfficer, .refusedRole), (c.slots 0, .badLength), (s.clearable, .refusedState)] fun s => s.firstApproval c .barrowClear [] 0

def execBarrowClear (ch : Nat) (s : State) : Out := .next (s.command ch .barrowClear runBarrowClear)

/-- An approved command: steps 9 to 11 run again, and then it executes. -/
def State.executeApproved (s : State) (x : Ticket) (c : Caller) : Reply × State :=
  let a (i : Nat) : Nat := x.args.getD i 0
  match x.cmd with
  | .safeClose => s.approvedClose (a 0) (a 1)
  | .tenantSeal => s.approvedSeal (a 0)
  | .tenantRelease => s.approvedRelease (a 0)
  | _ => gated s [(s.clearable, .refusedState)] fun s => s.clearBarrow x.slot c.slot

/-- Whether a status says that the command executed: done, accepted, or ended by its own precondition (step 13).
(Log entry 130: DEDUCED.) -/
def Status.executed (y : Status) : Bool := decide (y = .done ∨ y = .deferred ∨ y = .sealPrecondition)

/-- The status of an approved command goes to its initiator as a notification of `approval.done` (R68).
(Log entry 130: DEDUCED.) -/
def State.tellInitiator (s : State) (x : Ticket) (y : Status) (slot : Nat) : State :=
  match s.session x.ch with
  | some z => if z.id = x.sessionId then s.notify x.ch ⟨Ev.approvalDone.source, s.stamp, [x.ticket, y.code, x.slot, slot]⟩ else s
  | none => s

/-- The approval of a live ticket: a command that executes raises `approval.done`, which goes to every security officer for recorder
clearing and sealing (R508); one that is refused voids its ticket.
(Log entry 130: DEDUCED.) -/
def State.approve (s : State) (x : Ticket) (c : Caller) : Reply × State :=
  let o := s.executeApproved x c
  if o.1.status.executed then
    let t := (o.2.dropTicket x.ticket).raise .approvalDone x.tenant [x.ticket, o.1.status.code, x.slot, c.slot]
      (decide (x.cmd = .barrowClear ∨ x.cmd = .tenantSeal))
    (o.1, t.tellInitiator x o.1.status c.slot)
  else (o.1, (s.voidTicket x.ticket .refused).tellInitiator x o.1.status c.slot)

/-- CTRL.APPROVE: the ticket's role and tenant from another credential slot, then the digest of the original body. -/
def runApprove (ticket : Nat) (digest : List Byte) (c : Caller) (s : State) : Reply × State :=
  match s.ticket ticket with
  | none => gated s [(c.isObserver, .refusedRole), (c.body.length == 40 && digest.length == 32, .badLength)] fun s => ({ status := .refusedState }, s)
  | some x =>
    gated s [(c.tagged && c.role == x.role && c.tenant == x.tenant && c.slot != x.slot, .refusedRole),
        (c.body.length == 40 && digest.length == 32, .badLength), (digest == x.digest, .badArgument)] fun s => s.approve x c

def execCtrlApprove (ch ticket : Nat) (digest : List Byte) (s : State) : Out :=
  .next (s.commitCommand ch .ctrlApprove (runApprove ticket digest))

end Sys2Proof.Machine
end

