-- ==== Sys2Proof/Machine/Records.lean ====
section
/-! DEFINITION. The record commands of Table 3-11, every record's rule, the session policy record, and configuration bundles (R71 to
R78, R575, R576, R696). -/

namespace Sys2Proof.Machine

open Sys2Proof

/-! ### The session policy record (R78) -/

/-- The session policy record: a change of TunnelMask closes the sessions of the channels it rebinds. -/
def ruleSessionPolicy : RecordRule where
  writer _ c _ _ := c.isOfficer
  effect s _ _ old b := s.rebind (Rec.SessionPolicy.TunnelMask.of old) (Rec.SessionPolicy.TunnelMask.of b)

def execSessionPolicyRecord (tenant inst : Nat) (body : List Byte) (s : State) : Out :=
  .next (s.applyRecord ruleSessionPolicy Schema.SessionPolicy tenant inst body)

/-! ### Every record -/

/-- Every record with its rule. -/
def recordRules : List (Schema × RecordRule) :=
  [(.FaultPolicy, ruleFaultPolicy), (.SessionPolicy, ruleSessionPolicy), (.Lane, ruleLane), (.Channel, ruleChannelRx),
   (.LineFilter, ruleLineFilter), (.RxChannel, ruleRxChannel), (.RxPolicy, ruleRxPolicy), (.LeaChannel, ruleLeaChannel),
   (.LeaPolicy, ruleLeaPolicy), (.Band, ruleBand), (.HeadAir, ruleHeadAir), (.MeterClass, ruleMeterClass),
   (.MeterPlan, ruleMeterPlan), (.AirPolicy, ruleAirPolicy), (.FloodSchedule, ruleFloodSchedule), (.SwardPolicy, ruleSwardPolicy),
   (.LingTrib, ruleLingTrib), (.LingMeter, ruleLingMeter), (.LingPolicy, ruleLingPolicy), (.MeterSec, ruleMeterSec),
   (.SecPolicy, ruleSecPolicy), (.VaultPolicy, ruleVaultPolicy), (.LedgerClass, ruleLedgerClass), (.LedgerMeter, ruleLedgerMeter),
   (.TariffPlan, ruleTariffPlan), (.TimeZone, ruleTimeZone), (.ProfileClass, ruleProfileClass), (.PrepayClass, rulePrepayClass)] ++
  [(.PrepayMeter, rulePrepayMeter), (.MetroTrib, ruleMetroTrib), (.PulseOutput, rulePulseOutput), (.Zone, ruleZone),
   (.BalMeter, ruleBalMeter), (.BalPolicy, ruleBalPolicy), (.Partition, rulePartition), (.StorePolicy, ruleStorePolicy),
   (.TimeRef, ruleTimeRef), (.TimePolicy, ruleTimePolicy), (.EventRouting, ruleEventRouting), (.Trigger, ruleTrigger),
   (.Tenant, ruleTenantRecord), (.Pair, rulePair), (.UpdatePolicy, ruleUpdatePolicy), (.LockoutInput, ruleLockoutInput),
   (.SafeMeter, ruleSafeMeter), (.SafetyPolicy, ruleSafetyPolicy), (.BackhaulPort, ruleBackhaulPort), (.HeadEnd, ruleHeadEnd),
   (.PowerPolicy, rulePowerPolicy), (.RuleTable, ruleRuleTable), (.RecorderPolicy, ruleRecorderPolicy)]

/-- The record of an identifier. -/
def recordRule (rid : Nat) : Option (Schema × RecordRule) := recordRules.find? fun p => p.1.id == rid

/-- The tenant that owns an instance (R696): none where it has never been written. -/
def State.recordOwner (s : State) (rule : RecordRule) (rid inst : Nat) : Option Nat :=
  (s.recInst rid inst).map fun r => match rule.owner s inst with
    | .chip => 0
    | .object t => t
    | .header => r.tenant

/-! ### CTRL.RECORD_WRITE -/

/-- The header of a record (Table 3-8). -/
structure RecordHeader where
  rid : Nat
  version : Nat
  validate : Bool
  inst : Nat
  len : Nat
  tenant : Nat
  deriving DecidableEq, Repr

/-- A header as its 16 bytes give it.
(Log entry 131: DEDUCED.) -/
def headerOfRecord (b : List Byte) : RecordHeader :=
  { rid := leAt b 0 2, version := leAt b 2 1, validate := bitOn (leAt b 3 1) 0, inst := leAt b 4 4, len := leAt b 8 2, tenant := leAt b 10 1 % 16 }

/-- The report of a refused field, where there is one. -/
def refusalReport (e : Option ReportEntry) (validate : Bool) : List Byte :=
  match e with
  | some e => reportBytes [e] validate
  | none => []

/-- The body that a write would apply, for what a refusal lists. -/
def State.wouldBe (s : State) (c : Schema) (inst len : Nat) (b : List Byte) : Nat :=
  match judgeFields len (ofLe b) ((s.recInst c.id inst).map RecInst.body) c.fields with
  | .ok (body, _) => body
  | .error _ => 0

/-- Steps 7 to 13 of a record write once its record is known. A meter security record whose address does not fit the directory waits
for a rebuild (R276, R298).
(Log entry 13: DEDUCED.) -/
def State.writeRecord (s : State) (h : RecordHeader) (b : List Byte) (sc : Schema) (rule : RecordRule) (c : Caller) :
    Option Reply × State :=
  if !s.mayWrite rule h.rid c h.tenant h.inst then (some { status := .refusedRole }, s)
  else if b.length ≠ h.len ∨ sc.bodyLen < h.len then (some { status := .badLength }, s)
  else if rule.owner s h.inst = .chip ∧ h.tenant ≠ 0 then (some { status := .badArgument }, s)
  else if h.version = 0 then (some { status := .badArgument }, s)
  else if 1 < h.version then (some { status := .badRecord }, s)
  else match s.judgeRecord rule sc h.tenant h.inst h.len b with
    | .refuse st e =>
      let s' := if st = .dirFull then { s with sec := { s.sec with dirRefused := none } } else s
      (some { status := st, slots := if st.early then [] else rule.detail s c st h.inst (s.wouldBe sc h.inst h.len b), data := refusalReport e h.validate }, s')
    | .accept body es =>
      let y : Reply := { status := reportStatus es, data := if es.isEmpty then [] else reportBytes es h.validate }
      if h.validate then (some y, s)
      else if h.rid = Rec.MeterSec.Assigned.rid ∧ s.needsRebuild h.inst body then
        match s.sec.rebuild with
        | some _ => (none, s)
        | none => (none, { s with sec := { s.sec with
            rebuild := some { beganMs := s.time.ms, extra := some (h.inst, Rec.MeterSec.Address.of body) } } })
      else (some y, s.applyBody rule sc h.tenant h.inst body)

/-- CTRL.RECORD_WRITE: header and body. -/
def runRecordWrite (record : List Byte) (c : Caller) (s : State) : Option Reply × State :=
  let h := headerOfRecord record
  if !c.tagged then (some { status := .refusedRole }, s)
  else if c.body.length ≠ record.length ∨ record.length < 16 then (some { status := .badLength }, s)
  else match recordRule h.rid with
    | none => (some { status := if record.length = 16 + h.len then .badRecord else .badLength }, s)
    | some (sc, rule) => s.writeRecord h (record.drop 16) sc rule c

def execCtrlRecordWrite (ch : Nat) (record : List Byte) (s : State) : Out :=
  .next (s.commitLater ch .ctrlRecordWrite (runRecordWrite record))

/-! ### CTRL.RECORD_READ and CTRL.RECORD_DEFAULT -/

/-- A record as applied: header and body. -/
def State.recordBytes (s : State) (sc : Schema) (inst tenant : Nat) : List Byte :=
  le 2 sc.id ++ le 1 1 ++ le 1 0 ++ le 4 inst ++ le 2 sc.bodyLen ++ le 2 tenant ++ le 4 0 ++ le sc.bodyLen (s.bodyOf sc inst)

/-- CTRL.RECORD_READ. -/
def readRecord (rid inst tenant : Nat) (c : Caller) (s : State) : Reply :=
  let role := c.isObserver && s.sees c tenant
  match recordRule rid with
  | none => gatedRead [(role, .refusedRole), (c.slots 3, .badLength)] { status := .badRecord }
  | some (sc, rule) =>
    let owner := s.recordOwner rule rid inst
    let absent := rule.absent s inst (s.bodyOf sc inst)
    gatedRead [(role, .refusedRole), (c.slots 3, .badLength),
        (decide (tenant < 16 ∧ inst < sc.instances) && (owner.getD tenant == tenant), .badArgument), (absent.isNone, absent.getD .done),
        (s.tenantHere tenant, .absentCapacity)]
      { status := .done, data := s.recordBytes sc inst tenant }

def execCtrlRecordRead (ch rid inst tenant : Nat) (s : State) : Out := .next (s.readCommand ch .ctrlRecordRead (readRecord rid inst tenant))

/-- CTRL.RECORD_DEFAULT: every field that has a default returns to it; an instance never written stays so. -/
def runRecordDefault (rid inst tenant : Nat) (c : Caller) (s : State) : Reply × State :=
  match recordRule rid with
  | none => gated s [(c.isObserver, .refusedRole), (c.slots 3, .badLength)] fun s => ({ status := .badRecord }, s)
  | some (sc, rule) =>
    let owner := s.recordOwner rule rid inst
    let old := s.bodyOf sc inst
    let body := sc.defaulted old
    let absent := rule.absent s inst body
    let refused := if owner.isNone then none else rule.check s tenant inst old body
    let right := rule.writer s c tenant inst && (match rule.owner s inst with
      | .object t => decide (t = tenant)
      | _ => true)
    gated s [(right, .refusedRole), (c.slots 3, .badLength),
        (decide (tenant < 16 ∧ inst < sc.instances) && (owner.getD tenant == tenant), .badArgument), (absent.isNone, absent.getD .done),
        (!s.isReleasing tenant, .refusedState), (refused.isNone, refused.getD .done)] fun s =>
      ({ status := .done }, if owner.isNone then s else s.applyBody rule sc tenant inst body)

def execCtrlRecordDefault (ch rid inst tenant : Nat) (s : State) : Out :=
  .next (s.commitCommand ch .ctrlRecordDefault (runRecordDefault rid inst tenant))

/-! ### Bundles (R575) -/

/-- A record of a bundle: its header and body bytes. -/
def bundleRecords : Nat → List Byte → Option (List (RecordHeader × List Byte))
  | 0, l => if l.isEmpty then some [] else none
  | n + 1, l =>
    let h := headerOfRecord l
    if l.length < 16 + h.len then none
    else (bundleRecords n (l.drop (16 + h.len))).map ((h, slice l 16 h.len) :: ·)

/-- Whether a bundle's record is skipped: its domain is not in ChainDomainMask, its tenant is SEALED, or it is the pair record.
(Log entry 128: DESIGN CHOICE.) -/
def State.skipsRecord (s : State) (h : RecordHeader) : Bool :=
  !bitOn (s.rd Rec.UpdatePolicy.ChainDomainMask) (h.rid / 256 - 1) || s.isSealed h.tenant || decide (h.rid = 0x1400)

/-- The report entry of a skipped record: Kind 1, with the record's identifier and instance as the value requested. -/
def skippedEntry (h : RecordHeader) : ReportEntry := ⟨0, 1, 0, h.rid * 2 ^ 32 + h.inst, 0⟩

/-- The records of a bundle applied as one set: the state after them, the report, and how many were applied and skipped; none where one
of them is refused.
(Log entry 128: DESIGN CHOICE.) -/
def State.applyBundle (skip : RecordHeader → Bool) (s : State) : List (RecordHeader × List Byte) → Option (State × List ReportEntry × Nat × Nat)
  | [] => some (s, [], 0, 0)
  | (h, b) :: l =>
    if skip h then
      (s.applyBundle skip l).map fun r => (r.1, skippedEntry h :: r.2.1, r.2.2.1, r.2.2.2 + 1)
    else match recordRule h.rid with
      | none => none
      | some (sc, rule) =>
        let owned : Bool := match rule.owner s h.inst with
          | .chip => decide (h.tenant = 0)
          | .object t => decide (h.tenant = t)
          | .header => (s.recordOwner rule h.rid h.inst).getD h.tenant == h.tenant
        if h.version ≠ 1 ∨ h.validate ∨ !owned then none
        else match s.judgeRecord rule sc h.tenant h.inst h.len b with
          | .refuse _ _ => none
          | .accept body es =>
            ((s.applyBody rule sc h.tenant h.inst body).applyBundle skip l).map fun r => (r.1, es ++ r.2.1, r.2.2.1 + 1, r.2.2.2)

/-- BundleSeq of a bundle. -/
def bundleSeqOf (b : List Byte) : Nat := leAt b 8 4

/-- A bundle's checks in order, up to its records. -/
def State.checkBundle (s : State) (b : List Byte) : Except Status (List (RecordHeader × List Byte)) :=
  let n := b.length - 64
  match sigStatus s.chipAuthority (b.take n) (b.drop n) with
  | some st => .error st
  | none =>
    if bundleSeqOf b ≤ s.upd.bundleSeq then .error .bundleSeq
    else if b.length < 80 ∨ leAt b 0 4 ≠ 0x42435745 ∨ leAt b 4 1 ≠ 1 ∨ leAt b 12 2 = 0 ∨ 4096 < leAt b 12 2 ∨ 1048656 < b.length then .error .badRecord
    else match bundleRecords (leAt b 12 2) (slice b 16 (n - 16)) with
      | none => .error .badRecord
      | some l => .ok l

/-- The newest accepted bundle goes to each neighbour whose heartbeat shows a lower BundleSeq, once. -/
def State.passBundle (s : State) : State :=
  let b := s.upd.lastBundle
  if b.isEmpty then s
  else [0, 1].foldl (fun s p =>
    let lower : Bool := match (if p = 0 then s.pair.partner else s.pair.neighbour) with
      | some h => decide (h.bundleSeq < bundleSeqOf b)
      | none => false
    if lower && !s.upd.bundlePassed.contains p && (s.partnerPort p).link then
      let s := s.sendPartner p 12 [bundleSeqOf b] b
      { s with upd := { s.upd with bundlePassed := s.upd.bundlePassed ++ [p] } }
    else s) s

/-- A bundle from a command (`port` none) or a neighbour is checked, and applied where the chip serves; a standby's records and BundleSeq
follow the active's journal, and it passes the bundle on too.
(Log entry 128: DESIGN CHOICE.) -/
def State.takeBundle (s : State) (b : List Byte) (port : Option Nat) : Except Status (List ReportEntry) × State :=
  let refuse (st : Status) : Except Status (List ReportEntry) × State :=
    let s := s.count { name := .updBundlesRefused }
    match port with
    | some p => (.error st, s.raise .configBundleRefused 0 [bundleSeqOf b, st.code, s.portSource p])
    | none => (.error st, s)
  match s.checkBundle b with
  | .error st => refuse st
  | .ok l =>
    let keep (s : State) : State := { s with upd := { s.upd with lastBundle := b, bundlePassed := port.toList } }
    if !s.journals then (.ok [], (keep s).passBundle)
    else match s.applyBundle s.skipsRecord l with
      | none => refuse .badRecord
      | some (s', es, n, k) =>
        let s' := { s' with upd := { s'.upd with bundleSeq := bundleSeqOf b } }
        let s' := s'.journal .store 0 0 (.words [0x150D, bundleSeqOf b])
        (.ok es, (keep (s'.raise .configBundleApplied 0 [bundleSeqOf b, n, k])).passBundle)

/-! ### CONFIG.BUNDLE_SUBMIT (R576) -/

/-- The assembly of a session, or none. -/
def State.dropAssembly (s : State) : State := { s with upd := { s.upd with bundle := none } }

/-- A part of a bundle: CONTINUE while parts are missing; the part that completes it runs the checks of R575. -/
def runBundleSubmit (total off : Nat) (part : List Byte) (c : Caller) (s : State) : Reply × State :=
  let other : Bool := match s.upd.bundle with
    | some a => decide (a.sessionId ≠ c.sessionId)
    | none => false
  let large := decide (1048656 < total ∨ total < off + part.length)
  gated s [(c.isOfficer, .refusedRole), (c.body.length == 8 + part.length && decide (part.length ≤ 262136), .badLength),
      (!(other && large), .badArgument), (!other, .refusedState)] fun s =>
    let a : BundleAsm := s.upd.bundle.getD { sessionId := c.sessionId, total := total, bytes := [], lastMs := s.time.ms }
    if large ∨ total ≠ a.total ∨ off ≠ a.bytes.length then ({ status := .badArgument }, s.dropAssembly)
    else
      let bytes := a.bytes ++ part
      if bytes.length < total then
        ({ status := .continue' }, { s with upd := { s.upd with bundle := some { a with bytes := bytes, lastMs := s.time.ms } } })
      else match s.dropAssembly.takeBundle bytes none with
        | (.error st, s) => ({ status := st }, s)
        | (.ok es, s) => ({ status := reportStatus es, data := if es.isEmpty then [] else reportBytes es false }, s)

def execConfigBundleSubmit (ch total offset : Nat) (part : List Byte) (s : State) : Out :=
  .next (s.commitCommand ch .configBundleSubmit (runBundleSubmit total offset part))

/-- BUNDLE_ASSEMBLY_TIMEOUT: an assembly that has received no part for 60 s is discarded. -/
def execBundleAssemblyTimeout (s : State) : Out :=
  match s.upd.bundle with
  | some a => if a.lastMs + 60000 ≤ s.time.ms then .next s.dropAssembly else .next s
  | none => .next s

end Sys2Proof.Machine
end

