-- ==== Sys2Proof/Machine/Partner.lean ====
section
/-! DEFINITION. The partner ports: heartbeats, the checks of a message, and what each Type does (R550 to R555, R558, R561 to R564,
R572, R573, R583, R587, R589, R632 to R635). -/

namespace Sys2Proof.Machine

open Sys2Proof

/-! ### Heartbeats (R634) -/

/-- The pair state of a code. -/
def PairSt.ofCode (n : Nat) : PairSt :=
  (([.booting, .syncing, .ready, .notReady, .takingOver, .activePaired, .activeHold, .activeSolo, .handingOver] : List PairSt)[n]?).getD .booting

/-- The numbers a heartbeat carries: pair state, claim word, committed, sent and acknowledged Position, CAP0 to CAP7,
ChainDomainMask, version and PairFloor of the running chip image, BundleSeq.
(Log entry 110: DESIGN CHOICE.) -/
def State.heartbeatWords (s : State) : List Nat :=
  [s.pair.st.code, s.claimWord, s.committedPos, s.lastPos, if s.journals then s.pair.ackedPos else s.lastPos] ++ s.caps ++
    [s.rd Rec.UpdatePolicy.ChainDomainMask, imageVersion (s.running 0), ((s.running 0).map Image.pairFloor).getD 0, s.upd.bundleSeq]

/-- The bytes it carries: 24 configuration digests, the schema table's hash, on port 0 the 17 vault digests, then the inventory.
(Log entry 110: DESIGN CHOICE.) -/
def State.heartbeatData (s : State) (port : Nat) : List Byte :=
  s.configDigests.flatMap (fun d => slice d 0 32) ++ schemaHash ++
    (if port = 0 then s.vaultDigests.flatMap fun d => slice d 0 32 else []) ++ s.upd.images.flatMap fun (i : Image) => slice i.digest 0 32

/-- Bytes cut into digests of 32. -/
def digestsOf (l : List Byte) : List (List Byte) := (List.range (l.length / 32)).map fun i => slice l (32 * i) 32

/-- A heartbeat as it arrives on a port. -/
def State.heartbeatOf (s : State) (port region : Nat) (words : List Nat) (data : List Byte) : Heartbeat :=
  let w (i : Nat) : Nat := words.getD i 0
  let d := digestsOf data
  { atMs := s.time.ms, stamp := s.stamp, state := .ofCode (w 0), chipB := decide (wordChipB (w 1) = 1), serving := wordServing (w 1),
    epoch := wordEpoch (w 1), committed := w 2, sent := w 3, acked := w 4, region := region, caps := (words.drop 5).take 8,
    digests := d.take 24, schemaHash := (d[24]?).getD [], vaultDigests := if port = 0 then (d.drop 25).take 17 else [],
    chainMask := w 13, imageVersion := w 14, pairFloor := w 15, bundleSeq := w 16, inventory := d.drop (if port = 0 then 42 else 25) }

/-- A heartbeat on one linked port; one that has not had its counterpart within 5 ms counts a miss, and after a roll that ended done the
chain's heartbeat brings the roll request (R589).
(Log entry 132: DESIGN CHOICE.) -/
def State.beat (s : State) (port : Nat) : State :=
  if !(s.partnerPort port).link then s
  else
    let s := (s.sendPartner port 1 s.heartbeatWords (s.heartbeatData port)).count { name := .pairHbSent, a := port }
    let heard : Bool := match (if port = 0 then s.pair.partner else s.pair.neighbour) with
      | some h => decide (s.time.ms ≤ h.atMs + 5)
      | none => false
    let s := if heard then s else s.count { name := .pairHbMissed, a := port }
    if port = 1 ∧ s.upd.waveRequest then
      let set := [0, 1].flatMap fun c => slice (((s.running c).map Image.digest).getD []) 0 32
      { s.sendPartner 1 13 [] set with upd := { s.upd with waveRequest := false } }
    else s

/-- HEARTBEAT_SEND. -/
def execHeartbeatSend (s : State) : Out := .next ((s.beat 0).beat 1)

/-! ### Election and the partner's state (R550, R551, R556, R561) -/

/-- Whether this chip starts where neither serves: the greater (Epoch, committed Position), then PreferredChip, then chip a. -/
def State.winsElection (s : State) (h : Heartbeat) : Bool :=
  let own := s.pair.epoch * 2 ^ 64 + s.committedPos
  let its := h.epoch * 2 ^ 64 + h.committed
  let letter := s.rd Rec.Pair.ChipLetter
  let pref := s.rd Rec.Pair.PreferredChip
  decide (its < own) || (decide (own = its) && decide (letter = if pref = 0 then 0 else pref - 1))

/-- Neither chip serves: one starts, the other becomes the standby.
(Log entry 114: DEDUCED.) -/
def State.elect (s : State) (h : Heartbeat) : State :=
  if s.pair.conflict ∨ s.pair.claimDue.isSome then s
  else if s.winsElection h then { s with pair := { s.pair with claimDue := some 2, claimMs := s.time.ms } }
  else if s.pair.st = .syncing then s
  else s.standBy .syncing

/-- A syncing chip asks an active partner for its catch-up: newest counted generation and highest acknowledged Position. -/
def State.askCatchUp (s : State) : State :=
  let s := s.sendPartner 0 9 [slotOpt (s.store.generations.head?.map Generation.gen), s.lastPos]
  { s with pair := { s.pair with asked := true } }

/-- What a valid heartbeat on port 0 does to this chip's state. `was` says whether the partner was READY before it.
(Log entry 113: DEDUCED.)
(Log entry 114: DEDUCED.) -/
def State.hearPartner (s : State) (h : Heartbeat) (was : Bool) : State :=
  match s.pair.st with
  | .booting =>
    if s.pow.stage ≠ 8 ∨ s.pair.waitEndMs.isNone then s
    else if h.serving then s.standBy .syncing
    else s.elect h
  | .notReady => if h.serving then s.standBy .syncing else s.elect h
  | .syncing => if !h.serving then s.elect h else if s.pair.asked ∨ h.state ≠ .activeSolo then s else s.askCatchUp
  | .activeHold => if h.state = .ready then (s.pairTo .activePaired).commitSweep else s.goSolo 2
  | .activePaired => if was ∧ h.state ≠ .ready then s.failHandover.goSolo 2 else s
  | .handingOver => if s.pair.pfSent ∧ h.serving ∧ s.claimWord < h.word then s.becomeReady h.epoch else s
  | _ => s

/-- The pair conflict of R551, raised as it begins. -/
def State.judgeConflict (s : State) (chipB : Bool) (region : Nat) : State :=
  let letter := s.rd Rec.Pair.ChipLetter
  let own := s.rd Rec.Pair.RegionNumber
  let bad := decide (bit chipB = letter ∨ region ≠ own)
  let was := s.pair.conflict
  let s := { s with pair := { s.pair with conflict := bad } }
  if bad ∧ ¬was then s.raise .pairConfigConflict 0 [letter, own, bit chipB, region] else s

/-- A heartbeat on port 0: valid where its Region is this chip's. -/
def State.partnerBeat (s : State) (chipB : Bool) (region : Nat) (words : List Nat) (data : List Byte) : State :=
  let s := s.judgeConflict chipB region
  if region ≠ s.rd Rec.Pair.RegionNumber then s
  else
    let h := s.heartbeatOf 0 region words data
    let was := decide ((s.pair.partner.map Heartbeat.state) = some .ready)
    let since := if h.state ≠ .ready ∨ ¬s.journals then none else some (s.pair.readySinceMs.getD s.time.ms)
    let s := { s with pair := { s.pair with partner := some h, readySinceMs := since } }
    ((s.hearPartner h was).compareDigests 0 h |>.passImages 0).passBundle

/-- A heartbeat on port 1: valid where its Region is another. -/
def State.chainBeat (s : State) (region : Nat) (words : List Nat) (data : List Byte) : State :=
  if region = s.rd Rec.Pair.RegionNumber then s
  else
    let h := s.heartbeatOf 1 region words data
    let lost := s.upd.chainLost
    let s := { s with
      pair := { s.pair with neighbour := some h }
      upd := { s.upd with chainLost := false } }
    let s := if lost then s.raise .updateChainLink 0 [1, 1] else s
    ((s.compareDigests (s.neighbourCode 1) h).passImages 1).passBundle

/-! ### The journal stream at a standby (R552, R572) -/

/-- A configuration record as the stream carries it, applied as the active applied it; what its ledger changes do arrives as images of
its own. -/
def State.applyStreamed (s : State) (rid inst tenant body : Nat) : State :=
  match recordRule rid with
  | none => s
  | some (sc, rule) =>
    if rid = 0x1400 then s
    else
      let led := s.led
      let s := s.applyBody rule sc tenant inst body
      { s with led := led }

/-- The tenant states by code. -/
def tenStOf (n : Nat) : TenSt := match n with
  | 1 => .sealed | 2 => .releasing | _ => .opened

/-- What an entry's body does at the standby, and the body as its own journal keeps it.
(Log entry 111: DESIGN CHOICE.) -/
def State.applyEntry (s : State) (tenant stamp : Nat) (b : List Nat) : JBody × State :=
  match b with
  | [0, rid, inst, ten, body] => (.config rid inst ten body (s.recInst rid inst), s.applyStreamed rid inst ten body)
  | 1 :: slot :: r =>
    let r := MeterRec.ofWords r
    (.image slot r (s.meter slot), { s with led := { s.led with meters := Map.put s.led.meters slot r } })
  | [2, 0x1300, t, code] =>
    (.words [0x1300, t, code], s.setTenant t { s.tenant t with st := tenStOf code, sealStamp := if code = 1 then stamp else (s.tenant tenant).sealStamp })
  | 2 :: l => (.words l, s.applyWords l)
  | l => (.words l, s)

/-- A streamed entry enters the standby's journal and is acknowledged (R552); one it holds already is only acknowledged.
(Log entry 109: DESIGN CHOICE.) -/
def State.takeEntry (s : State) (l : List Nat) : State :=
  let w (i : Nat) : Nat := l.getD i 0
  let p := w 0
  if s.journals then s
  else if p ≤ s.lastPos then s.sendPartner 0 3 [s.lastPos]
  else
    let o := s.applyEntry (w 3) (w 5) (l.drop 6)
    let s := o.2
    let e : JEntry := { position := p, objSeq := w 1, kind := .ofCode (w 2), tenant := w 3, object := w 4, stamp := w 5, body := o.1,
                        acked := true, committed := true }
    let s := { s with
      store := { s.store with journal := s.store.journal ++ [e], nextPos := p + 1 }
      time := { s.time with newestJournalStamp := max (w 5) s.time.newestJournalStamp } }
    s.sendPartner 0 3 [p]

/-- An object that changed with an entry this chip holds (Table 22-5): its numbers are taken over, and the newest entry names it.
(Log entry 111: DESIGN CHOICE.) -/
def State.takeKept (s : State) (l : List Nat) : State :=
  match l with
  | p :: tag :: a :: b :: words =>
    if s.journals ∨ s.lastPos < p then s
    else match Kept.ofWords tag a b with
      | some k => (s.keepObject k words).nameKept k
      | none => s
  | _ => s

/-! ### Orphans (R563) -/

/-- The rows of an epoch table as a catch-up start carries them. -/
def epochRows : List Nat → List EpochRow
  | e :: f :: c :: l => { epoch := e, first := f, lastCommitted := c } :: epochRows l
  | _ => []

/-- Whether an entry lies above the last committed Position of its own epoch, as a table records it.
(Log entry 116: DESIGN CHOICE.) -/
def orphaned (rows : List EpochRow) (e : JEntry) : Bool :=
  match (rows.filter fun (r : EpochRow) => decide (r.first ≤ e.position)).getLast? with
  | some r => decide (r.lastCommitted < e.position)
  | none => false

/-- The orphan log's entry for a committed LEDGER entry. -/
def orphanOf (n : Nat) (e : JEntry) : Option Orphan :=
  match e.body with
  | .image slot r _ => some { number := n, meter := slot, counter := r.lastCounter, position := e.position, stamp := e.stamp, tenant := e.tenant }
  | _ => none

/-- An orphan joins the log, which holds 65 536 entries; further ones are counted. -/
def State.logOrphan (s : State) (e : JEntry) : State :=
  let s := s.count { name := .pairOrphans }
  match orphanOf s.pair.nextOrphan e with
  | none => s
  | some o =>
    if s.pair.orphans.length < 65536 then
      { s with pair := { s.pair with orphans := s.pair.orphans ++ [o], nextOrphan := s.pair.nextOrphan + 1 } }
    else { s with pair := { s.pair with orphansUnlisted := s.pair.orphansUnlisted + 1 } }

/-- A catch-up begins: the chip discards its orphans, listing those that had committed, and takes the active's epoch table and Epoch. -/
def State.startCatchUp (s : State) (rows : List EpochRow) : State :=
  if s.journals ∨ s.pair.st ≠ .syncing then s
  else
    let gone := s.store.journal.filter (orphaned rows)
    let listed := gone.filter JEntry.committed
    let s := listed.foldl State.logOrphan s
    let s := s.dropEntries (orphaned rows)
    let s := if listed.isEmpty then s else s.raise .pairOrphaned 0 [listed.length, s.pair.epoch]
    let epoch := max s.pair.epoch ((s.pair.partner.map Heartbeat.epoch).getD 0)
    { s with pair := { s.pair with epochs := rows, epoch := epoch } }

/-! ### Checkpoints and catch-up (R553, R561) -/

/-- The images kept in the journal from a Position on, replayed over a generation's meter records (R346).
(Log entry 109: DESIGN CHOICE.) -/
def State.replayOver (s : State) (startPos : Nat) (m : Map Nat MeterRec) : Map Nat MeterRec :=
  (s.store.journal.filter fun (e : JEntry) => decide (startPos ≤ e.position)).foldl (fun m (e : JEntry) => match e.body with
    | .image slot r _ =>
      let old := Map.getD m slot ({} : MeterRec)
      let d := (e.objSeq + 2 ^ 48 - old.journalSeq) % 2 ^ 48
      if 1 ≤ d ∧ d < 2 ^ 47 then Map.put m slot r else m
    | _ => m) m

/-- An item of a generation that is no meter record. -/
def State.takeItem (s : State) (l : List Nat) : State := match l with
  | tag :: a :: b :: words => match Kept.ofWords tag a b with
    | some k => s.keepObject k words
    | none => s
  | _ => s

/-- The items of a streamed generation have all arrived, and its digest agrees: it counts here.
(Log entry 109: DESIGN CHOICE.)
(Log entry 117: DESIGN CHOICE.) -/
def State.endGeneration (s : State) (gen startPos : Nat) (digest : List Byte) : State :=
  let items := s.pair.streamItems
  let s := { s with pair := { s.pair with streamItems := [] } }
  if s.journals ∨ sha256 (items.flatMap itemWords) ≠ digest then s
  else
    let g : Generation :=
      { gen := gen, startPos := startPos, endPos := s.lastPos, started := s.stamp, committed := true,
        epoch := (s.pair.partner.map Heartbeat.epoch).getD 0 }
    let s := items.foldl State.takeItem s
    let records := items.filterMap fun (l : List Nat) => match l with
      | 0 :: slot :: r => some (slot, MeterRec.ofWords r)
      | _ => none
    let s := { s with
      led := { s.led with meters := s.replayOver startPos records }
      store := { s.store with generations := (g :: s.store.generations).take 2, nextGen := max s.store.nextGen (gen + 1) } }
    s.pruneJournal.sendPartner 0 9 [gen, s.lastPos]

/-- A catch-up request at the active: it streams the entries after Ps where it still holds them, and otherwise a checkpoint first.
While it already streams, the message only says which generation counts.
(Log entry 117: DESIGN CHOICE.) -/
def State.giveCatchUp (s : State) (gen ps : Nat) : State :=
  if !s.journals then s
  else
    let gens := if gen = noValue then [] else (gen :: s.pair.partnerGenerations.filter (· ≠ gen)).take 2
    let s := { s with pair := { s.pair with partnerGenerations := gens } }
    if s.pair.streaming ∨ s.pair.catchUpGen ∨ s.pair.st ≠ .activeSolo then s
    else
      let s := s.sendPartner 0 2 (1 :: ps :: s.epochTable.flatMap fun (r : EpochRow) => [r.epoch, r.first, r.lastCommitted])
      let s := { s with pair := { s.pair with ackedPos := ps } }
      let current := s.store.generations.any fun (g : Generation) => g.gen == gen && g.epoch == s.pair.epoch
      if ps + 1 < s.store.journalStart then
        { s.startCheckpoint with pair := { s.pair with catchUpGen := true } }
      else
        let l := s.store.journal.filter fun (e : JEntry) => decide (ps ≤ e.position)
        let s := { s with pair := { s.pair with streaming := true } }
        let s := s.streamFrom ps l
        if current then s else s.startCheckpoint

/-! ### The other messages -/

/-- A yield: a READY standby that holds every entry up to the Position takes over at once (R558). -/
def State.hearYield (s : State) (pos : Nat) : State :=
  if s.pair.st = .ready ∧ pos ≤ s.lastPos ∧ s.pair.claimDue.isNone ∧ ¬(s.pair.conflict ∧ s.ports.partner0.link) then
    { s with pair := { s.pair with claimDue := some 1, claimMs := s.time.ms } }
  else s

/-- A departure: the active goes on alone at once (R587). -/
def State.hearDeparture (s : State) : State :=
  match s.pair.st with
  | .activePaired | .activeHold | .handingOver => s.failHandover.goSolo 1
  | _ => s

/-- A handover's final Position: the standby that has applied up to it raises its claim (R564 step 4). -/
def State.hearFinal (s : State) (pf : Nat) : State :=
  if s.pair.st = .ready ∧ pf ≤ s.lastPos ∧ s.pair.claimDue.isNone then
    { s with pair := { s.pair with claimDue := some 4, claimMs := s.time.ms } }
  else s

/-- A roll request: a pair whose other generations are those named starts its roll; one that runs them already ignores it (R589). -/
def State.hearRoll (s : State) (data : List Byte) : State :=
  let names (st : Nat → Option Image) : List Byte := [0, 1].flatMap fun c => slice (((st c).map Image.digest).getD []) 0 32
  if s.pair.st = .activePaired ∧ s.readyPartner ∧ s.upd.roll.isNone ∧ s.upd.trial.isNone ∧ names s.running ≠ data ∧
      names (fun c => s.imageIn c .other) = data ∧ s.rollFits then s.setRoll 1
  else s

/-- What a whole message does by its Type (Table 25-5), on the port the table gives it. A time exchange is the row
PARTNER_TIME_EXCHANGE. -/
def State.takeMessage (s : State) (port type : Nat) (chipB : Bool) (region : Nat) (words : List Nat) (data : List Byte) : State :=
  let w (i : Nat) : Nat := words.getD i 0
  match port, type with
  | 0, 1 => s.partnerBeat chipB region words data
  | 1, 1 => s.chainBeat region words data
  | 0, 2 => match w 0 with
    | 0 => s.takeEntry (words.drop 1)
    | 1 => s.startCatchUp (epochRows (words.drop 2))
    | _ => s.takeKept (words.drop 1)
  | 0, 3 => if s.journals ∧ s.pair.streaming ∧ w 0 ≤ s.newestPos then s.takeAck (w 0) else s
  | 0, 4 => if s.journals then s else { s with pair := { s.pair with streamItems := s.pair.streamItems ++ [words] } }
  | 0, 5 => s.endGeneration (w 0) (w 1) data
  | 0, 7 => s.hearYield (w 0)
  | 0, 8 => s.hearDeparture
  | 0, 9 => s.giveCatchUp (w 0) (w 1)
  | 0, 10 => s.hearFinal (w 0)
  | 1, 13 => s.hearRoll data
  | _, 11 => s.imageArrived port data
  | _, 12 => (s.takeBundle data (some port)).2
  | _, _ => s

/-! ### Acceptance (R633, R635) -/

/-- The sender of a frame: ChipLetter, Region and SenderBoot. -/
def PartnerHead.sender (h : PartnerHead) : Nat × Nat × Nat := (bit h.chipB, h.region, h.boot)

/-- Whether a frame is accepted: it is as long as its header says, its tag verifies (a keyed chip takes only tags under the partner
key, an unkeyed one only zero tags), and Seq rises for its sender in that SenderBoot.
(Log entry 129: DESIGN CHOICE.) -/
def State.acceptsMessage (s : State) (port : Nat) (frame : List Byte) : Bool :=
  let h := PartnerHead.ofBytes frame
  frame.length == 48 + h.length && decide (h.length ≤ partnerPart) &&
    decide (frame.drop (32 + h.length) = s.partnerTag (frame.take (32 + h.length))) &&
    (match Map.get? (s.partnerPort port).seqs h.sender with
      | some q => decide (q < h.seq)
      | none => true)

/-- A discarded message is counted, and `port.partner_tag` raised at most once per port per minute. -/
def State.refuseMessage (s : State) (port : Nat) : State :=
  let x := s.partnerPort port
  let n := if x.tagMinute = s.minute then x.tagFails + 1 else 1
  let s := s.setPartnerPort port { x with tagFails := n, tagMinute := s.minute }
  let s := (s.count { name := .partnerTagFail, a := port }).count { name := .partnerTagTally, a := port }
  if n = 1 then s.raise .portPartnerTag 0 [port, n] else s

/-- A frame of a message: fragments are gathered in their order, and the last one completes the message.
(Log entry 129: DESIGN CHOICE.) -/
def State.takeFragment (s : State) (port : Nat) (h : PartnerHead) (part : List Byte) : State :=
  let x := s.partnerPort port
  if h.frag ≠ 0 ∧ h.frag ≠ x.frags then s.setPartnerPort port { x with frags := 0, fragBody := [] }
  else
    let body := (if h.frag = 0 then [] else x.fragBody) ++ part
    if h.more then s.setPartnerPort port { x with frags := h.frag + 1, fragBody := body }
    else
      let s := s.setPartnerPort port { x with frags := 0, fragBody := [] }
      s.takeMessage port h.type h.chipB h.region (partnerBody body).1 (partnerBody body).2

/-- PARTNER_MESSAGE_RECEIVED: one frame, its header, body and tag; one of no Type of Table 25-5 is dropped.
(Log entry 95: DESIGN CHOICE.)
(Log entry 129: DESIGN CHOICE.) -/
def execPartnerMessageReceived (port : Nat) (frame : List Byte) (s : State) : Out :=
  let h := PartnerHead.ofBytes frame
  if 1 < port ∨ ¬(s.partnerPort port).link ∨ h.type = 0 ∨ 13 < h.type then .next s
  else if !s.acceptsMessage port frame then .next (s.refuseMessage port)
  else
    let s := s.setPartnerPort port { s.partnerPort port with seqs := Map.put (s.partnerPort port).seqs h.sender h.seq }
    let s := s.count { name := .partnerIn, a := port, b := h.type }
    .next (s.takeFragment port h (slice frame 32 h.length))

end Sys2Proof.Machine
end

