-- ==== Sys2Proof/Machine/Stream.lean ====
section
/-! DEFINITION. The samples of a superframe on their way (R82, R85, R87, R88, R109 to R122, R126 to R129, R148): from the containers of a
spectrum lane through the shared stages and the channels' chains to captures, histories and contexts, and from the bits of a
line lane's tributaries to their 8 kSps samples. -/

namespace Sys2Proof.Machine

open Sys2Proof

/-! ### Counters and events (R109, R137) -/

/-- What a chain has done with a sample is counted for its slot or bitstream: saturations by stage, and an output with its flags; and
`filt.saturation` says the first stage that saturated, at most once per 60 s and channel. -/
def State.countChain (s : State) (key subject : Nat) (sats : List Nat) (out : Option SmpFlags) : State :=
  let s := (sats.zipIdx.filter fun e => decide (0 < e.1)).foldl (fun s e => s.count { name := .filtSat, a := key, b := e.2 } e.1) s
  let s := match sats.zipIdx.find? fun e => decide (0 < e.1) with
    | some e => s.raiseEvery 60000 .filtSaturation subject 0 [subject % 2 ^ 20, e.2, e.1]
    | none => s
  match out with
  | none => s
  | some f =>
    let s := s.count { name := .filtOut, a := key }
    (([f.gap, f.erased, f.settling].zipIdx).filter fun e => e.1).foldl (fun s e => s.count { name := .filtFlagged, a := key, b := e.2 }) s

/-! ### Reception's side (R142, R145, R148) -/

/-- 64 ms of history, in air-time periods (R148). -/
def historyAir : Nat := 128000000

/-- A branch's sample enters the history buffer of its slot, which holds the newest 64 ms (R148). -/
def State.historySample (s : State) (p : Nat × Nat) (x : OutSmp) : State :=
  if s.memberValid p.1 && s.rdB Rec.RxChannel.History p.1 && s.regionOn 4 then
    let l := x :: (Map.getD s.rx.hist p []).takeWhile fun y => decide (x.tag < y.tag + historyAir)
    { s with rx := { s.rx with hist := Map.put s.rx.hist p l } }
  else s

/-- How many samples of a branch the hold of a context has reserved (R144, R145). -/
def RxCtx.room (c : RxCtx) : Nat := (holdEnd c.b c.pol.alignMs - c.b.openAt) / modeSpacing c.b.mode + 1

/-- A branch's sample enters a context's alignment buffer, where it has room; the first one ends STARTING of a booked context (R141,
R145). -/
def RxCtx.take (c : RxCtx) (p : Nat × Nat) (x : OutSmp) : RxCtx :=
  if !(c.st = .starting ∨ c.st = .search ∨ c.st = .track) ∨ !c.branches.contains p then c
  else
    let l := Map.getD c.buf p []
    let st := if c.st = .starting ∧ c.origin ≠ 1 then .search else c.st
    if c.room ≤ l.length ∧ c.origin ≠ 1 then { c with st := st, exhausted := true } else { c with st := st, buf := Map.put c.buf p (x :: l) }

/-- A branch's sample reaches reception: the histories and every context that uses the branch. -/
def State.branchSample (s : State) (p : Nat × Nat) (x : OutSmp) : State :=
  let s := s.historySample p x
  s.rx.ctxs.foldl (fun s e =>
    let c := e.2.take p x
    let s := if c = e.2 then s else s.setCtx e.1 c
    if c.st = .search ∧ e.2.st = .starting then s.setUnit (.context e.1) { s.unit (.context e.1) with st := .on } else s) s

/-! ### Spectrum lanes (R110 to R120) -/

/-- A sub-band sample of tag `t` through the chain of a channel's slot, as the newest antenna sample is that of period `p` (R117, R119,
R120): mixer, decimation, gain, DC-block and delivery.
(Log entry 163: DESIGN CHOICE.) -/
def State.channelSample (s : State) (i a lane p rem : Nat) (x : Smp) (front : List Nat) : State :=
  let body := s.chanBody i
  let t := p - frontDelay
  let k := chanSpec body
  let y := ncoMix (Rec.Channel.FreqWord.int body) t x
  let (c, out, sats) := (Map.getD s.filt.chains (i, a) {}).step k (t / 64) y
  let s := { s with filt := { s.filt with chains := Map.put s.filt.chains (i, a) c } }
  let sats := front ++ [bit y.f.sat] ++ sats
  match out with
  | none => s.countChain (chanKey i a) i sats none
  | some z =>
    let g := gainOut (Rec.Channel.GainWord.of body) 18 z
    let g := { g with f := { g.f with settling := g.f.settling || decide (p < (s.chanFilt i).settleEnd) } }
    let (y, s) := s.dcSample i a false g
    let d := deliver 18 16 y
    let o : OutSmp := { tag := p - chanDelay body, rem := rem, v := d.v, f := d.f }
    let s := s.countChain (chanKey i a) i (sats ++ [bit g.f.sat, bit d.f.sat]) (some d.f)
    (s.captureSample 2 lane i a o).branchSample (i, a) o

/-- The sub-bands that the newest antenna sample of a head completes (R110, R114): one sample of every selected tile, to its captures and
to the channels that use it. -/
def State.tileSamples (s : State) (lane a p : Nat) : State :=
  let f := Map.getD s.filt.fronts (lane, a) {}
  let front := ((f.half.take 32).filter fun y => y.f.sat).length
  (s.tiles lane 65536).foldl (fun s k =>
    let x := subBand f.half (p / 2) k
    let s := s.captureSample 1 lane k a { tag := p - frontDelay, rem := f.rem, v := x.v, f := x.f }
    let mine := s.chanInstances.filter fun i =>
      s.chanActive i && !(s.chanFilt i).dropped && !(s.chanFilt i).restored && Rec.Channel.Lane.of (s.chanBody i) == lane &&
        Rec.Channel.SubBand.of (s.chanBody i) == k && (s.chanFilt i).slots.any fun q => q.1 == a
    mine.foldl (fun s i => s.channelSample i a lane p f.rem x [front, bit x.f.sat]) s) s

/-- One antenna sample of a head, of period `p` (R110): to raw captures and the shared stages. -/
def State.antennaSample (s : State) (lane a p rem : Nat) (v : Int) (f : SmpFlags) : State :=
  let s := s.captureSample 0 lane 0 a { tag := p, rem := rem, v := { re := v }, f := f }
  let r := (Map.getD s.filt.fronts (lane, a) {}).step p v f
  let s := { s with filt := { s.filt with fronts := Map.put s.filt.fronts (lane, a) r.1 } }
  if frontDue p then s.tileSamples lane a p else s

/-- The antennas of a lane whose samples are delivered: fitted, and in its mask (R87). -/
def State.laneStreams (s : State) (n : Nat) : List Nat :=
  let fitted := match (s.lane n).head with
    | some h => h.antennas
    | none => 0
  (List.range 8).filter fun a => bitOn fitted a && bitOn (s.rd Rec.Lane.AntennaMask n) a

/-- The samples of one stream of a superframe (R85, R95): in the order of their periods, from the one that follows the last where the air
time of sample 0 lies within a period of it; where it does not, the stages begin anew with gaps behind them. A sample of an
untimed lane is 0 with the gap flag, one of an erased container erased (R87, R103).
(Log entry 172: DESIGN CHOICE.) -/
def State.takeStream (s : State) (n a : Nat) (area : List Byte) (tRx : Nat) : State :=
  let air := s.sampleAir n a tRx
  let timed := s.timed n
  let old := Map.get? s.filt.fronts (n, a)
  let near : Bool := match old with
    | some f => decide ((air.1 - f.next).natAbs ≤ 1)
    | none => false
  let start : Nat := if near then (old.map Front.next).getD 0 else air.1.toNat
  let rem := if near ∧ (start : Int) ≠ air.1 then (old.map Front.rem).getD 0 else air.2.toNat
  let chans := s.chanInstances.filter fun i => Rec.Channel.Lane.of (s.chanBody i) == n
  let s := if near then s else { s with filt := { s.filt with
    fronts := Map.put s.filt.fronts (n, a) (Front.gapped start rem),
    chains := chans.foldl (fun m i => if Map.has m (i, a) then Map.put m (i, a) (Chain.gapped (chanSpec (s.chanBody i))) else m) s.filt.chains } }
  let erased := (s.lane n).erased
  let here (k : Nat) : Bool := decide (48 * (k / 32 * 8 + a + 1) ≤ area.length)
  ((List.range 20480).filter here).foldl (fun s k =>
    let f : SmpFlags := { gap := !timed, erased := erased.contains (k / 32 * 8 + a) }
    s.antennaSample n a (start + k) rem (if timed && !f.erased then streamSample area a k else 0) f) s

/-- The samples of a superframe of an ON spectrum lane. -/
def State.takeSpectrum (s : State) (n : Nat) (b : List Byte) (tRx : Nat) : State :=
  (s.laneStreams n).foldl (fun s a => s.takeStream n a ((b.drop 10240)) tRx) s

/-! ### Line lanes (R121, R122) -/

/-- The air time in ps of bit 0 of a line superframe's bitstreams: R95 with the hub's SampleLeadPs; a line hub has no antenna delay
(R121). -/
def State.lineAirPs (s : State) (n tRx : Nat) : Int :=
  let lead : Nat := match (s.lane n).head with
    | some h => h.sampleLead
    | none => 0
  (tRx : Int) - s.laneU n - lead

/-- One bit of each bitstream of a tributary through its chain, the m-th since the chains started: the eight outputs, when they fall due. -/
def State.lineBit (s : State) (trib m : Nat) (k : ChainSpec) (v : Nat → Int) (f : SmpFlags) : State × List Smp :=
  let x := Map.getD s.filt.lines trib {}
  let r := (List.range 8).map fun st => (st, (Map.getD x.streams st {}).step k m { v := { re := v st }, f := f })
  let s := { s with filt := { s.filt with lines := Map.put s.filt.lines trib { x with streams := r.map fun e => (e.1, e.2.1) } } }
  let s := r.foldl (fun s e => s.countChain (streamKey trib e.1) (2 ^ 20 + trib) ([0, 0, 0] ++ e.2.2.2) none) s
  (s, r.filterMap fun e => e.2.2.1)

/-- The eight samples of a tributary at 8 kSps pass their DC-blocks and enter the line region (R113, R121, R126, R397): the sample is missing
as that of VA is. Whether one is over-range, which asks for a freeze from itself on (R395), is judged after its DC-block. -/
def State.lineSamples (s : State) (trib tag : Nat) (l : List Smp) : State :=
  let settling := decide (s.time.air < (Map.getD s.filt.lines trib {}).settleEnd)
  let r := l.zipIdx.foldl (fun (acc : State × List Smp) e =>
    let s := acc.1
    let t := lineTarget trib e.2
    let x := { e.1 with f := { e.1.f with settling := e.1.f.settling || settling } }
    let held := if s.unitOn (.dcBlock t) then Map.getD (s.dcOf t).est 0 {} else {}
    let off := decide (overLimit < (dcOut (dcFrac t) held x.v).re.natAbs)
    let (y, s) := s.dcSample t 0 (s.metroFreeze trib e.2 || off) x
    let y := { y with v := { re := clampWord 24 y.v.re } }
    (s.countChain (streamKey trib e.2) (2 ^ 20 + trib) [] (some y.f), acc.2 ++ [y])) (s, [])
  r.1.metroSample trib
    { tag := tag, codes := r.2.map fun y => y.v.re, missing := ((r.2.head?).map fun y => y.f.missing).getD true }

/-- The Ling receive samples of a tributary's open channels (R122): 16-bit words widened to 18 through the final entry LingIndex at 400 kSps.
(Log entry 172: DESIGN CHOICE.) -/
def State.lingSamples (s : State) (n trib : Nat) (slot : List Byte) (ok : Bool) (f : SmpFlags) (air : Nat) : State :=
  if (s.lingTrib trib).out.isNone then s
  else
    let e := s.rd Rec.LineFilter.LingIndex n
    let count := if ok then min 6 (leAt slot 2 1) else 4
    (maskBits 4 (s.rd Rec.LingTrib.RxPhases trib)).foldl (fun s p =>
      (List.range count).foldl (fun s i =>
        let x := Map.getD s.filt.lines trib {}
        let v := if ok then toSigned 16 (leAt slot (112 + 12 * p + 2 * i) 2) * 4 else 0
        let line := pushLine (romAt e).taps { v := { re := v }, f := f } (Map.getD x.ling p [])
        let y := firOut (romCoef 18 e) 18 17 line
        let tag := air + 5000 * i - 5000 * (romAt e).delay
        let o : OutSmp := { tag := tag, v := y.v, f := y.f }
        { s with filt := { s.filt with lines := Map.put s.filt.lines trib { x with
          ling := Map.put x.ling p line, lingOut := Map.put x.lingOut p (pushLine 400 o (Map.getD x.lingOut p [])) } } }) s) s

/-- A tributary's slot of a superframe: its DsBits bits of each bitstream, bit 0 of the first byte first; where the slot is erased, the
tributary down or the lane untimed, the bits that a superframe has on average, as missing samples (R88, R89, R103).
(Log entry 172: DESIGN CHOICE.) -/
def State.takeTrib (s : State) (n t : Nat) (b : List Byte) (tRx : Nat) : State :=
  let trib := s.tribId n t
  let x := Map.getD s.filt.lines trib {}
  let slot := slice b (10240 + 960 * t) 960
  let f : SmpFlags := { gap := !(s.tribUp trib && s.timed n), erased := (s.lane n).erased.contains t }
  let ok := !f.gap && !f.erased
  let even := 64 * 20480 * (x.frames + 1) / 15625
  let count := if ok then min 96 (leAt slot 1 1) else even - x.bits
  let k := s.lineSpec n trib
  let ps := s.lineAirPs n tRx
  let words := (List.range 8).map fun st => leAt slot (16 + 12 * st) 12
  let s := { s with filt := { s.filt with lines := Map.put s.filt.lines trib { x with bits := x.bits + count, frames := x.frames + 1 } } }
  let s := (List.range count).foldl (fun s j =>
    let v (st : Nat) : Int := if !ok then 0 else if bitOn (words.getD st 0) j then 1 else -1
    let r := s.lineBit trib (x.bits + j) k v f
    if r.2.isEmpty then r.1
    else r.1.lineSamples trib (((ps + j * 7812500 / 64) / 500).toNat - lineDelay k.hbs k.fin) r.2) s
  s.lingSamples n trib slot ok f (ps / 500).toNat

/-- The slots of a superframe of an ON line lane, of the tributaries that have a metrology cell, as far as it carries them; each zone then
follows its tributary (R400). -/
def State.takeLine (s : State) (n : Nat) (b : List Byte) (tRx : Nat) : State :=
  ((List.range (min 256 ((b.length - 10240) / 960))).filter fun t => s.tribServed n t).foldl
    (fun s t => (s.takeTrib n t b tRx).metroUpdate (s.tribId n t)) s

/-- What a superframe's sample area brings: nothing while the lane is not ON; a channel that a boot restored starts once its lane is
timed (R135). -/
def State.takeSamples (s : State) (n : Nat) (b : List Byte) (tRx : Nat) : State :=
  if !s.laneOn n then s
  else if s.lineMode n then s.takeLine n b tRx
  else (s.startRestored n).takeSpectrum n b tRx

end Sys2Proof.Machine
end

