-- ==== Sys2Proof/Machine/Superframe.lean ====
section
/-! DEFINITION. SUPERFRAME_RECEIVED: what a superframe does to its lane (R84), its samples (R82), and what its Claim field says to the
pair (R547, R548). -/

namespace Sys2Proof.Machine

open Sys2Proof

/-- The Claim field of a valid header on an ON lane is heard, and judged where the chip serves (R547, R548). -/
def State.hearSuperframe (s : State) (lane : Nat) (header : List Byte) : State :=
  if s.laneOn lane && headerValid header then
    let w := leAt header 20 8
    (s.heardClaim lane w).judgeClaim lane w
  else s

/-- SUPERFRAME_RECEIVED: the superframe's bytes, its distance in bits from the one before, its arrival (ps), and the FEC results.
(Log entry 22: DESIGN CHOICE.) -/
def execSuperframeReceived (lane : Nat) (bytes : List Byte) (spacing tRx : Nat) (fec : List Nat) (s : State) : Out :=
  .next (((s.takeSuperframe lane bytes spacing tRx fec).takeSamples lane bytes tRx).hearSuperframe lane (bytes.take 64))

end Sys2Proof.Machine
end

