-- ==== Sys2Proof/Machine/Tick.lean ====
section
/-! DEFINITION. The model's millisecond: the clocks, the arbitration round, Zhepel's heartbeat (R48), and the superframes that the lanes send
(R82, R83, R86, R88, R90, R95). -/

namespace Sys2Proof.Machine

open Sys2Proof

/-! ### Transmit samples (R86, R95) -/

/-- The launches whose samples may be on their way: those on air, and those locked that a lane will send. -/
def State.sending (s : State) (n : Nat) : List Launch :=
  if s.regionOn 5 && s.laneOn n && s.timed n && (s.lane n).hdr.obeyed then
    (s.air.onAir ++ s.air.queue.filter fun (e : Launch) => e.locked).filter fun e => e.head == n
  else []

/-- A launch's sample at an air period (R166, R205): the GFSK signal of its frame with preamble and sync word, or a test's carrier. -/
def Launch.sample (e : Launch) (air : Nat) : Int :=
  if air < e.start ∨ e.start + e.span ≤ air then 0
  else if e.source = .test then Config.carrierSample e.carrier e.amp e.start air
  else if e.source = .response then Config.responseSample e.rate e.frame e.carrier e.amp e.start air
  else Config.gfskSample (leaSymbols e.rate (downlinkAir e.preamble e.frame)) (leaBaud e.rate) (leaDeviation e.rate) e.carrier e.amp e.start air

/-- The air period at which sample 0 of a stream of a superframe sent at `ps` leaves its antenna, to the nearest (R95). -/
def State.leavesAt (s : State) (n stream ps : Nat) : Nat := (((ps : Int) + s.txAheadPs n stream + 250) / 500).toNat

/-- A container of 32 transmit samples of a stream (R85, R86). -/
def State.txContainer (s : State) (n stream ps first : Nat) : List Byte :=
  let air := s.leavesAt n stream ps + first
  let l := s.sending n
  le 48 ((List.range 32).map fun j =>
    ofSigned 12 (clampWord 12 ((l.filter fun e => e.antenna == stream).map fun e => e.sample (air + j)).sum) * 2 ^ (12 * j)).sum

/-- The streams that carry transmit samples in a superframe sent at `ps` (R86). -/
def State.txMask (s : State) (n ps : Nat) : Nat :=
  maskOf ((List.range 8).filter fun a =>
    let air := s.leavesAt n a ps
    (s.sending n).any fun e => e.antenna == a && decide (e.start < air + 20480 ∧ air < e.start + e.span))

/-- The sample area of a downstream superframe in spectrum mode. -/
def State.txSpectrum (s : State) (n ps : Nat) : List Byte :=
  let mask := s.txMask n ps
  (List.range 5120).flatMap fun c => if bitOn mask (c % 8) then s.txContainer n (c % 8) ps (c / 8 * 32) else List.replicate 48 0

/-- A tributary's downstream slot (Table 4-4): where a frame is on its line, the 4 or 5 Ling samples of the superframe's time for each
coupled phase (R88, R247). -/
def State.txSlot (s : State) (n t count ps : Nat) : List Byte :=
  let trib := s.tribId n t
  match (s.lingTrib trib).out with
  | none => List.replicate 960 0
  | some f =>
    let first := count * 4096 / 1000
    let k := (count + 1) * 4096 / 1000 - first
    let lead : Nat := match (s.lane n).head with
      | some h => h.txLead
      | none => 0
    let air := (((ps : Int) + s.laneD n + lead) / 500).toNat
    if !s.lingUnitOn trib ∨ air + 20480 ≤ f.start ∨ f.stop ≤ air then List.replicate 960 0
    else
      let rows := f.symbols
      let word (i : Nat) : Nat :=
        let a := air + 5000 * i
        if i < k ∧ f.start ≤ a then ofSigned 16 (lingSample f.amp rows ((a - f.start + 2500) / 5000)) else 0
      let words (p : Nat) : List Byte :=
        if (s.lingPhasesOf trib).contains p then (List.range 6).flatMap fun i => le 2 (word i) else List.replicate 12 0
      le 1 k ++ le 15 0 ++ words 0 ++ words 1 ++ words 2 ++ List.replicate 908 0

/-- The sample area of a downstream superframe in line mode. -/
def State.txLine (s : State) (n count ps : Nat) : List Byte := (List.range 256).flatMap fun t => s.txSlot n t count ps

/-- A lane whose transmitter runs forms the superframe that leaves now (R82, R83): its count and stamp, the chip's claim word, the control
messages that fit, and its samples. The messages it takes leave the queue.
(Log entry 173: DESIGN CHOICE.) -/
def State.formDown (s : State) (n : Nat) : State :=
  let l := s.lane n
  match l.txFromPs with
  | none => s
  | some f =>
    let sent := l.sent s.airPs
    let ps := f + (sent - l.txCount) * superframePs
    let (now, later) := packMessages ctrlArea l.outbox
    let line := s.lineMode n
    let head := downHeader (if line then 0 else s.txMask n ps) (sent % 2 ^ 32) s.claimWord (ps / 500)
    let ctrl := now.flatten
    let area := if line then s.txLine n sent ps else s.txSpectrum n ps
    s.setLane n { l with
      outbox := later,
      down := some { count := sent, stamp := ps, bytes := head ++ ctrl ++ List.replicate (ctrlArea - ctrl.length) 0 ++ area } }

/-- A launch whose lane has left ON, timed or obeyed, or whose region is down, sends no more samples: its outcome is unknown (R207). -/
def State.cutShort (s : State) : State :=
  let gone := s.air.onAir.filter fun (e : Launch) => !(s.sending e.head).contains e
  let s := { s with air := { s.air with onAir := s.air.onAir.filter fun (e : Launch) => (s.sending e.head).contains e } }
  gone.foldl (fun s e => (s.launchUnknown e).carryLaunch e) s

/-- Every 1 ms: the clocks advance by 250 000 ticks, the lanes send, and while firmware runs Zhepel increments HW_HEARTBEAT (R48).
(Log entry 4: DESIGN CHOICE.) -/
def execHeartbeatTick (s : State) : Out :=
  let s := s.advance 250000
  let s := { s with
    time := { s.time with ms := s.time.ms + 1 }
    air := { s.air with onAir := s.air.onAir.filter fun (e : Launch) => decide (s.time.air < e.start + e.span) } }
  let s := s.cutShort.nextRound
  let s := ((Map.keys s.lanes).filter fun n => (s.lane n).txFromPs.isSome).foldl State.formDown s
  .next (if s.mail.mailboxReady ∧ s.pow.stage ≠ 0x0C then
      { s with mail := { s.mail with heartbeat := (s.mail.heartbeat + 1) % 2 ^ 32 } }
    else s)

end Sys2Proof.Machine
end

