-- ==== Sys2Proof/Machine/Dispatch.lean ====
section
/-! DEFINITION. The dispatch of every command to its meaning. -/

namespace Sys2Proof.Machine

def exec (i : Instr) (s : State) : Host.Outcome State Fault Refusal :=
  match i with
  | .errorDetected kind unit n cause => Sys2Proof.Machine.execErrorDetected kind unit n cause s
  | .workDeadlineMissed unit ticket item => Sys2Proof.Machine.execWorkDeadlineMissed unit ticket item s
  | .probationEnd unit => Sys2Proof.Machine.execProbationEnd unit s
  | .regionRestartDone region => Sys2Proof.Machine.execRegionRestartDone region s
  | .unitEndState kind number => Sys2Proof.Machine.execUnitEndState kind number s
  | .unitStopOverrun kind number => Sys2Proof.Machine.execUnitStopOverrun kind number s
  | .ctrlCapsRead ch => Sys2Proof.Machine.execCtrlCapsRead ch s
  | .ctrlHealthRead ch region => Sys2Proof.Machine.execCtrlHealthRead ch region s
  | .ctrlUnitFence ch unit => Sys2Proof.Machine.execCtrlUnitFence ch unit s
  | .ctrlUnitUnfence ch unit pass => Sys2Proof.Machine.execCtrlUnitUnfence ch unit pass s
  | .ctrlRegionRestart ch region => Sys2Proof.Machine.execCtrlRegionRestart ch region s
  | .faultPolicyRecord tenant inst body => Sys2Proof.Machine.execFaultPolicyRecord tenant inst body s
  | .hostBadAccess => Sys2Proof.Machine.execHostBadAccess s
  | .registerWrite off value => Sys2Proof.Machine.execRegisterWrite off value s
  | .heartbeatTick => Sys2Proof.Machine.execHeartbeatTick s
  | .mbDoorbell ch => Sys2Proof.Machine.execMbDoorbell ch s
  | .commandResponseReady ch => Sys2Proof.Machine.execCommandResponseReady ch s
  | .mbRespAck ch => Sys2Proof.Machine.execMbRespAck ch s
  | .mbNotifyAck ch => Sys2Proof.Machine.execMbNotifyAck ch s
  | .mbReset ch => Sys2Proof.Machine.execMbReset ch s
  | .channelResetDone ch => Sys2Proof.Machine.execChannelResetDone ch s
  | .ctrlPing ch => Sys2Proof.Machine.execCtrlPing ch s
  | .ctrlSessionHello ch role tenant slot => Sys2Proof.Machine.execCtrlSessionHello ch role tenant slot s
  | .ctrlSessionProve ch id nh ph => Sys2Proof.Machine.execCtrlSessionProve ch id nh ph s
  | .ctrlSessionClose ch => Sys2Proof.Machine.execCtrlSessionClose ch s
  | .ctrlSessionInfo ch => Sys2Proof.Machine.execCtrlSessionInfo ch s
  | .ctrlApprove ch ticket digest => Sys2Proof.Machine.execCtrlApprove ch ticket digest s
  | .ctrlApprovalList ch => Sys2Proof.Machine.execCtrlApprovalList ch s
  | .ctrlApprovalCancel ch ticket => Sys2Proof.Machine.execCtrlApprovalCancel ch ticket s
  | .ctrlRecordWrite ch record => Sys2Proof.Machine.execCtrlRecordWrite ch record s
  | .ctrlRecordRead ch rid inst tenant => Sys2Proof.Machine.execCtrlRecordRead ch rid inst tenant s
  | .ctrlRecordDefault ch rid inst tenant => Sys2Proof.Machine.execCtrlRecordDefault ch rid inst tenant s
  | .ctrlCredentialSet ch role tenant slot kind secret => Sys2Proof.Machine.execCtrlCredentialSet ch role tenant slot kind secret s
  | .ctrlCredentialRevoke ch role tenant slot => Sys2Proof.Machine.execCtrlCredentialRevoke ch role tenant slot s
  | .ctrlCredentialList ch role tenant => Sys2Proof.Machine.execCtrlCredentialList ch role tenant s
  | .sessionIdleTimeout ch => Sys2Proof.Machine.execSessionIdleTimeout ch s
  | .ticketExpired ticket => Sys2Proof.Machine.execTicketExpired ticket s
  | .backoffEnd ch => Sys2Proof.Machine.execBackoffEnd ch s
  | .sessionPolicyRecord tenant inst body => Sys2Proof.Machine.execSessionPolicyRecord tenant inst body s
  | .superframeReceived lane bytes spacing tRx fec => Sys2Proof.Machine.execSuperframeReceived lane bytes spacing tRx fec s
  | .fecSecondTick lane => Sys2Proof.Machine.execFecSecondTick lane s
  | .freqWindowEnd lane => Sys2Proof.Machine.execFreqWindowEnd lane s
  | .controlMessageReceived lane => Sys2Proof.Machine.execControlMessageReceived lane s
  | .controlMessageResend lane seq => Sys2Proof.Machine.execControlMessageResend lane seq s
  | .laneStartStepDone lane => Sys2Proof.Machine.execLaneStartStepDone lane s
  | .laneStartStepFailed lane => Sys2Proof.Machine.execLaneStartStepFailed lane s
  | .laneRetryExpiry lane => Sys2Proof.Machine.execLaneRetryExpiry lane s
  | .laneStartTimeout lane => Sys2Proof.Machine.execLaneStartTimeout lane s
  | .laneLockLost lane cause => Sys2Proof.Machine.execLaneLockLost lane cause s
  | .laneEnable ch lane => Sys2Proof.Machine.execLaneEnable ch lane s
  | .laneDisable ch lane => Sys2Proof.Machine.execLaneDisable ch lane s
  | .laneStatusRead ch lane => Sys2Proof.Machine.execLaneStatusRead ch lane s
  | .laneCountersRead ch lane => Sys2Proof.Machine.execLaneCountersRead ch lane s
  | .laneHeadInfo ch lane => Sys2Proof.Machine.execLaneHeadInfo ch lane s
  | .laneHeadControl ch lane trib msgType body => Sys2Proof.Machine.execLaneHeadControl ch lane trib msgType body s
  | .laneTest ch lane pattern duration errors => Sys2Proof.Machine.execLaneTest ch lane pattern duration errors s
  | .laneRecord tenant inst body => Sys2Proof.Machine.execLaneRecord tenant inst body s
  | .dcBlockReady target => Sys2Proof.Machine.execDcBlockReady target s
  | .dcFreezeLong target => Sys2Proof.Machine.execDcFreezeLong target s
  | .captureBegin id => Sys2Proof.Machine.execCaptureBegin id s
  | .captureDone id => Sys2Proof.Machine.execCaptureDone id s
  | .filtChannelRead ch channel => Sys2Proof.Machine.execFiltChannelRead ch channel s
  | .filtTilesRead ch lane => Sys2Proof.Machine.execFiltTilesRead ch lane s
  | .filtDcEnable ch target => Sys2Proof.Machine.execFiltDcEnable ch target s
  | .filtDcDisable ch target => Sys2Proof.Machine.execFiltDcDisable ch target s
  | .filtDcFreeze ch target freeze => Sys2Proof.Machine.execFiltDcFreeze ch target freeze s
  | .filtDcRead ch target => Sys2Proof.Machine.execFiltDcRead ch target s
  | .filtCountersRead ch target => Sys2Proof.Machine.execFiltCountersRead ch target s
  | .filtRomRead ch index => Sys2Proof.Machine.execFiltRomRead ch index s
  | .filtCaptureStart ch kind lane mask sub start instant duration => Sys2Proof.Machine.execFiltCaptureStart ch kind lane mask sub start instant duration s
  | .filtCaptureStop ch id => Sys2Proof.Machine.execFiltCaptureStop ch id s
  | .filtCaptureList ch => Sys2Proof.Machine.execFiltCaptureList ch s
  | .filtCaptureRead ch id off len => Sys2Proof.Machine.execFiltCaptureRead ch id off len s
  | .filtCaptureDelete ch id => Sys2Proof.Machine.execFiltCaptureDelete ch id s
  | .channelRecord tenant inst body => Sys2Proof.Machine.execChannelRecord tenant inst body s
  | .lineFilterRecord tenant inst body => Sys2Proof.Machine.execLineFilterRecord tenant inst body s
  | .bookingRequest meter group headMask mode openAt closeAt maxFrameMs freqExpect freqSpan tenant => Sys2Proof.Machine.execBookingRequest meter group headMask mode openAt closeAt maxFrameMs freqExpect freqSpan tenant s
  | .contextOpenDue id => Sys2Proof.Machine.execContextOpenDue id s
  | .watcherDetection group channel antenna mode startAir metric => Sys2Proof.Machine.execWatcherDetection group channel antenna mode startAir metric s
  | .detectionDrop group => Sys2Proof.Machine.execDetectionDrop group s
  | .retroCatchUp ctx => Sys2Proof.Machine.execRetroCatchUp ctx s
  | .contextFrameDetected ctx startAir freqHz formatB metrics gains noise tau => Sys2Proof.Machine.execContextFrameDetected ctx startAir freqHz formatB metrics gains noise tau s
  | .contextNoFrame ctx => Sys2Proof.Machine.execContextNoFrame ctx s
  | .alignDeadline ctx endAir => Sys2Proof.Machine.execAlignDeadline ctx endAir s
  | .decodeDone ctx lead soft combinedSnr bestLevel => Sys2Proof.Machine.execDecodeDone ctx lead soft combinedSnr bestLevel s
  | .contextFree ctx => Sys2Proof.Machine.execContextFree ctx s
  | .rxStatusRead ch => Sys2Proof.Machine.execRxStatusRead ch s
  | .rxContextRead ch ctx => Sys2Proof.Machine.execRxContextRead ch ctx s
  | .rxContextAbort ch ctx => Sys2Proof.Machine.execRxContextAbort ch ctx s
  | .rxGroupRead ch group => Sys2Proof.Machine.execRxGroupRead ch group s
  | .rxCountersRead ch target => Sys2Proof.Machine.execRxCountersRead ch target s
  | .rxListen ch group mode headMask start window maxFrameMs => Sys2Proof.Machine.execRxListen ch group mode headMask start window maxFrameMs s
  | .receiveChannelRecord tenant inst body => Sys2Proof.Machine.execReceiveChannelRecord tenant inst body s
  | .receptionPolicyRecord tenant inst body => Sys2Proof.Machine.execReceptionPolicyRecord tenant inst body s
  | .leaChannelsRead ch => Sys2Proof.Machine.execLeaChannelsRead ch s
  | .leaCountersRead ch channel => Sys2Proof.Machine.execLeaCountersRead ch channel s
  | .leaPollBuild ch address region pollTag request respCtl rate preamble => Sys2Proof.Machine.execLeaPollBuild ch address region pollTag request respCtl rate preamble s
  | .leaFrameDecode ch direction rate frame => Sys2Proof.Machine.execLeaFrameDecode ch direction rate frame s
  | .leaChannelRecord tenant inst body => Sys2Proof.Machine.execLeaChannelRecord tenant inst body s
  | .leaPolicyRecord tenant inst body => Sys2Proof.Machine.execLeaPolicyRecord tenant inst body s
  | .pollDue slot => Sys2Proof.Machine.execPollDue slot s
  | .pollPlanned slot => Sys2Proof.Machine.execPollPlanned slot s
  | .bookingOutcome => Sys2Proof.Machine.execBookingOutcome s
  | .launchLock id => Sys2Proof.Machine.execLaunchLock id s
  | .launchSend id => Sys2Proof.Machine.execLaunchSend id s
  | .followDecision slot => Sys2Proof.Machine.execFollowDecision slot s
  | .pollLate slot => Sys2Proof.Machine.execPollLate slot s
  | .recoveryRelease => Sys2Proof.Machine.execRecoveryRelease s
  | .airPlanRead ch slot => Sys2Proof.Machine.execAirPlanRead ch slot s
  | .airPollNow ch slot request priority => Sys2Proof.Machine.execAirPollNow ch slot request priority s
  | .airModelReset ch slot => Sys2Proof.Machine.execAirModelReset ch slot s
  | .airDutyRead ch head band => Sys2Proof.Machine.execAirDutyRead ch head band s
  | .airQueueRead ch head band => Sys2Proof.Machine.execAirQueueRead ch head band s
  | .airLaunchCancel ch head band start => Sys2Proof.Machine.execAirLaunchCancel ch head band start s
  | .airTxTest ch head antenna band carrier duration => Sys2Proof.Machine.execAirTxTest ch head antenna band carrier duration s
  | .airCountersRead ch target band => Sys2Proof.Machine.execAirCountersRead ch target band s
  | .bandRecord tenant inst body => Sys2Proof.Machine.execBandRecord tenant inst body s
  | .headAirRecord tenant inst body => Sys2Proof.Machine.execHeadAirRecord tenant inst body s
  | .meterClassRecord tenant inst body => Sys2Proof.Machine.execMeterClassRecord tenant inst body s
  | .meterPlanRecord tenant inst body => Sys2Proof.Machine.execMeterPlanRecord tenant inst body s
  | .airPolicyRecord tenant inst body => Sys2Proof.Machine.execAirPolicyRecord tenant inst body s
  | .floodWindow window slot => Sys2Proof.Machine.execFloodWindow window slot s
  | .floodStreamOpen ch stream kind keySlot target lastBlock segBytes priority rounds => Sys2Proof.Machine.execFloodStreamOpen ch stream kind keySlot target lastBlock segBytes priority rounds s
  | .floodBlockWrite ch stream block bytes => Sys2Proof.Machine.execFloodBlockWrite ch stream block bytes s
  | .floodStreamStart ch stream => Sys2Proof.Machine.execFloodStreamStart ch stream s
  | .floodStreamClose ch stream => Sys2Proof.Machine.execFloodStreamClose ch stream s
  | .floodStatusRead ch stream => Sys2Proof.Machine.execFloodStatusRead ch stream s
  | .floodMeterSetup ch slot role hop => Sys2Proof.Machine.execFloodMeterSetup ch slot role hop s
  | .floodTimeSend ch => Sys2Proof.Machine.execFloodTimeSend ch s
  | .secSwardStatus ch => Sys2Proof.Machine.execSecSwardStatus ch s
  | .swardVictimClear => Sys2Proof.Machine.execSwardVictimClear s
  | .floodScheduleRecord tenant inst body => Sys2Proof.Machine.execFloodScheduleRecord tenant inst body s
  | .swardPolicyRecord tenant inst body => Sys2Proof.Machine.execSwardPolicyRecord tenant inst body s
  | .lingLaunch trib => Sys2Proof.Machine.execLingLaunch trib s
  | .lingGovernorCut trib phase window => Sys2Proof.Machine.execLingGovernorCut trib phase window s
  | .lingAnswerWindowEnd trib => Sys2Proof.Machine.execLingAnswerWindowEnd trib s
  | .lingFrameDecoded trib startAir endAir repCode header payload snr => Sys2Proof.Machine.execLingFrameDecoded trib startAir endAir repCode header payload snr s
  | .lingAlarmCall trib => Sys2Proof.Machine.execLingAlarmCall trib s
  | .lingUnreachPoll slot => Sys2Proof.Machine.execLingUnreachPoll slot s
  | .lingTxReady trib => Sys2Proof.Machine.execLingTxReady trib s
  | .lingTxEnable ch trib => Sys2Proof.Machine.execLingTxEnable ch trib s
  | .lingTxDisable ch trib => Sys2Proof.Machine.execLingTxDisable ch trib s
  | .lingStatusRead ch trib => Sys2Proof.Machine.execLingStatusRead ch trib s
  | .lingMeterRead ch slot => Sys2Proof.Machine.execLingMeterRead ch slot s
  | .lingPollNow ch slot request priority => Sys2Proof.Machine.execLingPollNow ch slot request priority s
  | .lingFrameBuild ch dir repCode map active seed payload => Sys2Proof.Machine.execLingFrameBuild ch dir repCode map active seed payload s
  | .lingCountersRead ch target => Sys2Proof.Machine.execLingCountersRead ch target s
  | .lingTributaryRecord tenant inst body => Sys2Proof.Machine.execLingTributaryRecord tenant inst body s
  | .lingMeterRecord tenant inst body => Sys2Proof.Machine.execLingMeterRecord tenant inst body s
  | .lingPolicyRecord tenant inst body => Sys2Proof.Machine.execLingPolicyRecord tenant inst body s
  | .securityFrame phase frame => Sys2Proof.Machine.execSecurityFrame phase frame s
  | .dirRebuildDone => Sys2Proof.Machine.execDirRebuildDone s
  | .secStatusRead ch => Sys2Proof.Machine.execSecStatusRead ch s
  | .secMeterRead ch slot => Sys2Proof.Machine.execSecMeterRead ch slot s
  | .secMeterKeySet ch slot keyBits blob => Sys2Proof.Machine.execSecMeterKeySet ch slot keyBits blob s
  | .secMeterKeygenAdvance ch slot => Sys2Proof.Machine.execSecMeterKeygenAdvance ch slot s
  | .secQuarantineList ch tenant first count => Sys2Proof.Machine.execSecQuarantineList ch tenant first count s
  | .secQuarantineRead ch slot counter => Sys2Proof.Machine.execSecQuarantineRead ch slot counter s
  | .secQuarantineRelease ch slot counter => Sys2Proof.Machine.execSecQuarantineRelease ch slot counter s
  | .secQuarantineDelete ch slot counter => Sys2Proof.Machine.execSecQuarantineDelete ch slot counter s
  | .secRulesTest ch cls attrs mask snaps payload => Sys2Proof.Machine.execSecRulesTest ch cls attrs mask snaps payload s
  | .secCountersRead ch slot => Sys2Proof.Machine.execSecCountersRead ch slot s
  | .meterSecurityRecord tenant inst body => Sys2Proof.Machine.execMeterSecurityRecord tenant inst body s
  | .ruleTableRecord tenant inst body => Sys2Proof.Machine.execRuleTableRecord tenant inst body s
  | .securityPolicyRecord tenant inst body => Sys2Proof.Machine.execSecurityPolicyRecord tenant inst body s
  | .keySwitch domain slot => Sys2Proof.Machine.execKeySwitch domain slot s
  | .keyEraseDrained domain slot => Sys2Proof.Machine.execKeyEraseDrained domain slot s
  | .rngHealthFault healthy test => Sys2Proof.Machine.execRngHealthFault healthy test s
  | .tamperAlarm loop aborted => Sys2Proof.Machine.execTamperAlarm loop aborted s
  | .vaultStatusRead ch => Sys2Proof.Machine.execVaultStatusRead ch s
  | .vaultSlotsRead ch domain => Sys2Proof.Machine.execVaultSlotsRead ch domain s
  | .vaultUpdate ch msg => Sys2Proof.Machine.execVaultUpdate ch msg s
  | .vaultAuthoritySet ch domain key => Sys2Proof.Machine.execVaultAuthoritySet ch domain key s
  | .vaultTransportSet ch domain wrapped => Sys2Proof.Machine.execVaultTransportSet ch domain wrapped s
  | .vaultIdentityRead ch => Sys2Proof.Machine.execVaultIdentityRead ch s
  | .vaultReset ch => Sys2Proof.Machine.execVaultReset ch s
  | .vaultDigestRead ch domain => Sys2Proof.Machine.execVaultDigestRead ch domain s
  | .vaultCountersRead ch domain => Sys2Proof.Machine.execVaultCountersRead ch domain s
  | .vaultPolicyRecord tenant inst body => Sys2Proof.Machine.execVaultPolicyRecord tenant inst body s
  | .ledgerApply engine tenant ticket => Sys2Proof.Machine.execLedgerApply engine tenant ticket s
  | .recordPoisoned slot readable => Sys2Proof.Machine.execRecordPoisoned slot readable s
  | .journalAck position => Sys2Proof.Machine.execJournalAck position s
  | .ledgerMeterRead ch slot => Sys2Proof.Machine.execLedgerMeterRead ch slot s
  | .ledgerTotalsRead ch slot quantity => Sys2Proof.Machine.execLedgerTotalsRead ch slot quantity s
  | .ledgerDisputeList ch tenant first count => Sys2Proof.Machine.execLedgerDisputeList ch tenant first count s
  | .ledgerDisputeResolve ch slot rateStream mask choice => Sys2Proof.Machine.execLedgerDisputeResolve ch slot rateStream mask choice s
  | .ledgerRebase ch slot totals rates => Sys2Proof.Machine.execLedgerRebase ch slot totals rates s
  | .ledgerGapClear ch slot => Sys2Proof.Machine.execLedgerGapClear ch slot s
  | .ledgerEnginesRead ch => Sys2Proof.Machine.execLedgerEnginesRead ch s
  | .ledgerCountersRead ch target => Sys2Proof.Machine.execLedgerCountersRead ch target s
  | .ledgerClassRecord tenant inst body => Sys2Proof.Machine.execLedgerClassRecord tenant inst body s
  | .ledgerMeterRecord tenant inst body => Sys2Proof.Machine.execLedgerMeterRecord tenant inst body s
  | .tariffVersionActive plan => Sys2Proof.Machine.execTariffVersionActive plan s
  | .archiveWrite => Sys2Proof.Machine.execArchiveWrite s
  | .tariffPlanRead ch plan version => Sys2Proof.Machine.execTariffPlanRead ch plan version s
  | .tariffEvaluate ch plan stamp => Sys2Proof.Machine.execTariffEvaluate ch plan stamp s
  | .tariffProfileRead ch slot first count => Sys2Proof.Machine.execTariffProfileRead ch slot first count s
  | .tariffClocklogRead ch tenant first count => Sys2Proof.Machine.execTariffClocklogRead ch tenant first count s
  | .tariffPlanFlood ch plan version stream keySlot target rounds => Sys2Proof.Machine.execTariffPlanFlood ch plan version stream keySlot target rounds s
  | .tariffCountersRead ch target => Sys2Proof.Machine.execTariffCountersRead ch target s
  | .tariffPlanRecord tenant inst body => Sys2Proof.Machine.execTariffPlanRecord tenant inst body s
  | .timeZoneRecord tenant inst body => Sys2Proof.Machine.execTimeZoneRecord tenant inst body s
  | .profileClassRecord tenant inst body => Sys2Proof.Machine.execProfileClassRecord tenant inst body s
  | .prepayTokenIssue ch slot kind amount deliver => Sys2Proof.Machine.execPrepayTokenIssue ch slot kind amount deliver s
  | .prepayTokenRead ch slot seq => Sys2Proof.Machine.execPrepayTokenRead ch slot seq s
  | .prepayTokenList ch slot first count => Sys2Proof.Machine.execPrepayTokenList ch slot first count s
  | .prepayTokenVoid ch slot seq => Sys2Proof.Machine.execPrepayTokenVoid ch slot seq s
  | .prepayStateRead ch slot => Sys2Proof.Machine.execPrepayStateRead ch slot s
  | .prepayTokenCheck ch slot digits => Sys2Proof.Machine.execPrepayTokenCheck ch slot digits s
  | .tamperRead ch slot => Sys2Proof.Machine.execTamperRead ch slot s
  | .prepayCountersRead ch target => Sys2Proof.Machine.execPrepayCountersRead ch target s
  | .prepayClassRecord tenant inst body => Sys2Proof.Machine.execPrepayClassRecord tenant inst body s
  | .prepayMeterRecord tenant inst body => Sys2Proof.Machine.execPrepayMeterRecord tenant inst body s
  | .zeroCrossing trib phase => Sys2Proof.Machine.execZeroCrossing trib phase s
  | .zcTimeout trib phase => Sys2Proof.Machine.execZcTimeout trib phase s
  | .metroWindowEnd trib => Sys2Proof.Machine.execMetroWindowEnd trib s
  | .metroStep trib reissued => Sys2Proof.Machine.execMetroStep trib reissued s
  | .stepRecordHandoff trib => Sys2Proof.Machine.execStepRecordHandoff trib s
  | .metroIntervalClose trib => Sys2Proof.Machine.execMetroIntervalClose trib s
  | .pulseEmit output => Sys2Proof.Machine.execPulseEmit output s
  | .metroValuesRead ch trib => Sys2Proof.Machine.execMetroValuesRead ch trib s
  | .metroHarmonicsRead ch trib channel => Sys2Proof.Machine.execMetroHarmonicsRead ch trib channel s
  | .metroRegistersRead ch trib => Sys2Proof.Machine.execMetroRegistersRead ch trib s
  | .metroIntervalRead ch trib first count => Sys2Proof.Machine.execMetroIntervalRead ch trib first count s
  | .metroPulseRead ch output => Sys2Proof.Machine.execMetroPulseRead ch output s
  | .metroPulseTest ch output count => Sys2Proof.Machine.execMetroPulseTest ch output count s
  | .metroCountersRead ch trib => Sys2Proof.Machine.execMetroCountersRead ch trib s
  | .metroTributaryRecord tenant inst body => Sys2Proof.Machine.execMetroTributaryRecord tenant inst body s
  | .pulseOutputRecord tenant inst body => Sys2Proof.Machine.execPulseOutputRecord tenant inst body s
  | .balIntervalStart zone => Sys2Proof.Machine.execBalIntervalStart zone s
  | .balEvaluate zone stop => Sys2Proof.Machine.execBalEvaluate zone stop s
  | .balZoneRead ch zone => Sys2Proof.Machine.execBalZoneRead ch zone s
  | .balIntervalRead ch zone first count => Sys2Proof.Machine.execBalIntervalRead ch zone first count s
  | .balMeterRead ch slot => Sys2Proof.Machine.execBalMeterRead ch slot s
  | .balFit ch zone first count => Sys2Proof.Machine.execBalFit ch zone first count s
  | .balPhaseReset ch slot => Sys2Proof.Machine.execBalPhaseReset ch slot s
  | .balCountersRead ch zone => Sys2Proof.Machine.execBalCountersRead ch zone s
  | .zoneRecord tenant inst body => Sys2Proof.Machine.execZoneRecord tenant inst body s
  | .balanceMeterRecord tenant inst body => Sys2Proof.Machine.execBalanceMeterRecord tenant inst body s
  | .balancePolicyRecord tenant inst body => Sys2Proof.Machine.execBalancePolicyRecord tenant inst body s
  | .flashProgramDone channel die block part op page ok => Sys2Proof.Machine.execFlashProgramDone channel die block part op page ok s
  | .flashReadDone channel die block part outcome content tenant first n mirrored sector => Sys2Proof.Machine.execFlashReadDone channel die block part outcome content tenant first n mirrored sector s
  | .dieFailed channel die cause => Sys2Proof.Machine.execDieFailed channel die cause s
  | .journalCopiesProgrammed position => Sys2Proof.Machine.execJournalCopiesProgrammed position s
  | .checkpointStart => Sys2Proof.Machine.execCheckpointStart s
  | .checkpointCommit => Sys2Proof.Machine.execCheckpointCommit s
  | .reclamation part freed into => Sys2Proof.Machine.execReclamation part freed into s
  | .wearCheck channel die => Sys2Proof.Machine.execWearCheck channel die s
  | .dramIntegrityFail channel address subject access first second => Sys2Proof.Machine.execDramIntegrityFail channel address subject access first second s
  | .scrubPass channel progress address subject first second => Sys2Proof.Machine.execScrubPass channel progress address subject first second s
  | .storeStatusRead ch => Sys2Proof.Machine.execStoreStatusRead ch s
  | .storeFlashRead ch channel => Sys2Proof.Machine.execStoreFlashRead ch channel s
  | .storePartitionsRead ch => Sys2Proof.Machine.execStorePartitionsRead ch s
  | .storeCheckpointNow ch => Sys2Proof.Machine.execStoreCheckpointNow ch s
  | .storeDieRetire ch channel die => Sys2Proof.Machine.execStoreDieRetire ch channel die s
  | .storeNamespaceFormat ch tenant => Sys2Proof.Machine.execStoreNamespaceFormat ch tenant s
  | .storeDramRead ch => Sys2Proof.Machine.execStoreDramRead ch s
  | .storeLossRead ch tenant first count => Sys2Proof.Machine.execStoreLossRead ch tenant first count s
  | .storeCountersRead ch channel => Sys2Proof.Machine.execStoreCountersRead ch channel s
  | .partitionRecord tenant inst body => Sys2Proof.Machine.execPartitionRecord tenant inst body s
  | .storePolicyRecord tenant inst body => Sys2Proof.Machine.execStorePolicyRecord tenant inst body s
  | .legalSecond => Sys2Proof.Machine.execLegalSecond s
  | .timeSample ref t1 t2 t3 t4 leap leapDay => Sys2Proof.Machine.execTimeSample ref t1 t2 t3 t4 leap leapDay s
  | .ppsEdge at' => Sys2Proof.Machine.execPpsEdge at' s
  | .partnerTimeExchange t1 t2 t3 t4 a1 a2 a3 a4 => Sys2Proof.Machine.execPartnerTimeExchange t1 t2 t3 t4 a1 a2 a3 a4 s
  | .holdoverTimeout => Sys2Proof.Machine.execHoldoverTimeout s
  | .leapSmear => Sys2Proof.Machine.execLeapSmear s
  | .timeStatusRead ch => Sys2Proof.Machine.execTimeStatusRead ch s
  | .timeReferencesRead ch => Sys2Proof.Machine.execTimeReferencesRead ch s
  | .timeStep ch ns => Sys2Proof.Machine.execTimeStep ch ns s
  | .timeLeapSet ch day sign => Sys2Proof.Machine.execTimeLeapSet ch day sign s
  | .timeConvert ch dir value => Sys2Proof.Machine.execTimeConvert ch dir value s
  | .timeCountersRead ch => Sys2Proof.Machine.execTimeCountersRead ch s
  | .timeReferenceRecord tenant inst body => Sys2Proof.Machine.execTimeReferenceRecord tenant inst body s
  | .timePolicyRecord tenant inst body => Sys2Proof.Machine.execTimePolicyRecord tenant inst body s
  | .eventAdmitted => Sys2Proof.Machine.execEventAdmitted s
  | .snapshotComplete id => Sys2Proof.Machine.execSnapshotComplete id s
  | .snapshotSpill id => Sys2Proof.Machine.execSnapshotSpill id s
  | .barrowHoldExpired => Sys2Proof.Machine.execBarrowHoldExpired s
  | .evtSourcesRead ch first n => Sys2Proof.Machine.execEvtSourcesRead ch first n s
  | .evtTrailRead ch first n => Sys2Proof.Machine.execEvtTrailRead ch first n s
  | .barrowList ch => Sys2Proof.Machine.execBarrowList ch s
  | .barrowHold ch => Sys2Proof.Machine.execBarrowHold ch s
  | .barrowRead ch id off len => Sys2Proof.Machine.execBarrowRead ch id off len s
  | .barrowRelease ch => Sys2Proof.Machine.execBarrowRelease ch s
  | .barrowTriggerNow ch trigger => Sys2Proof.Machine.execBarrowTriggerNow ch trigger s
  | .barrowClear ch => Sys2Proof.Machine.execBarrowClear ch s
  | .barrowClearlogRead ch first n => Sys2Proof.Machine.execBarrowClearlogRead ch first n s
  | .evtCountersRead ch => Sys2Proof.Machine.execEvtCountersRead ch s
  | .eventRoutingRecord tenant inst body => Sys2Proof.Machine.execEventRoutingRecord tenant inst body s
  | .triggerRecord tenant inst body => Sys2Proof.Machine.execTriggerRecord tenant inst body s
  | .recorderPolicyRecord tenant inst body => Sys2Proof.Machine.execRecorderPolicyRecord tenant inst body s
  | .tenantStatusRead ch tenant => Sys2Proof.Machine.execTenantStatusRead ch tenant s
  | .tenantSeal ch tenant => Sys2Proof.Machine.execTenantSeal ch tenant s
  | .tenantCheck ch tenant => Sys2Proof.Machine.execTenantCheck ch tenant s
  | .tenantRelease ch tenant => Sys2Proof.Machine.execTenantRelease ch tenant s
  | .tenantReleaseDone tenant => Sys2Proof.Machine.execTenantReleaseDone tenant s
  | .tenantCountersRead ch tenant => Sys2Proof.Machine.execTenantCountersRead ch tenant s
  | .tenantAccessViolation requester address => Sys2Proof.Machine.execTenantAccessViolation requester address s
  | .shareWait tenant resource => Sys2Proof.Machine.execShareWait tenant resource s
  | .tenantRecord tenant inst body => Sys2Proof.Machine.execTenantRecord tenant inst body s
  | .pairWaitExpiry => Sys2Proof.Machine.execPairWaitExpiry s
  | .partnerLoss => Sys2Proof.Machine.execPartnerLoss s
  | .soloGuardExpiry => Sys2Proof.Machine.execSoloGuardExpiry s
  | .partnerYield => Sys2Proof.Machine.execPartnerYield s
  | .claimStart => Sys2Proof.Machine.execClaimStart s
  | .takeoverDone older gaps => Sys2Proof.Machine.execTakeoverDone older gaps s
  | .readyChange => Sys2Proof.Machine.execReadyChange s
  | .catchUpDone => Sys2Proof.Machine.execCatchUpDone s
  | .takebackDue => Sys2Proof.Machine.execTakebackDue s
  | .handover => Sys2Proof.Machine.execHandover s
  | .handoverTimeout => Sys2Proof.Machine.execHandoverTimeout s
  | .pairStatusRead ch => Sys2Proof.Machine.execPairStatusRead ch s
  | .pairSwitchover ch => Sys2Proof.Machine.execPairSwitchover ch s
  | .pairForceClaim ch => Sys2Proof.Machine.execPairForceClaim ch s
  | .pairOrphansRead ch first n => Sys2Proof.Machine.execPairOrphansRead ch first n s
  | .pairOrphansClear ch upTo => Sys2Proof.Machine.execPairOrphansClear ch upTo s
  | .pairCountersRead ch => Sys2Proof.Machine.execPairCountersRead ch s
  | .pairRecord tenant inst body => Sys2Proof.Machine.execPairRecord tenant inst body s
  | .digestHoldExpiry neighbour domain => Sys2Proof.Machine.execDigestHoldExpiry neighbour domain s
  | .imageReceived port container => Sys2Proof.Machine.execImageReceived port container s
  | .trialConfirm => Sys2Proof.Machine.execTrialConfirm s
  | .rollStepDone => Sys2Proof.Machine.execRollStepDone s
  | .chainLinkLoss => Sys2Proof.Machine.execChainLinkLoss s
  | .headCampaignStep campaign lane => Sys2Proof.Machine.execHeadCampaignStep campaign lane s
  | .meterCampaignRound campaign => Sys2Proof.Machine.execMeterCampaignRound campaign s
  | .updateInventoryRead ch => Sys2Proof.Machine.execUpdateInventoryRead ch s
  | .updateStageBegin ch header => Sys2Proof.Machine.execUpdateStageBegin ch header s
  | .updateStageWrite ch id offset data => Sys2Proof.Machine.execUpdateStageWrite ch id offset data s
  | .updateStageVerify ch id => Sys2Proof.Machine.execUpdateStageVerify ch id s
  | .updateActivate ch mask force => Sys2Proof.Machine.execUpdateActivate ch mask force s
  | .updateConfirm ch => Sys2Proof.Machine.execUpdateConfirm ch s
  | .updatePairRoll ch => Sys2Proof.Machine.execUpdatePairRoll ch s
  | .updateHeadCampaign ch digest lanes => Sys2Proof.Machine.execUpdateHeadCampaign ch digest lanes s
  | .updateMeterCampaign ch digest stream keySlot target rounds activateAt => Sys2Proof.Machine.execUpdateMeterCampaign ch digest stream keySlot target rounds activateAt s
  | .updateCampaignRead ch campaign => Sys2Proof.Machine.execUpdateCampaignRead ch campaign s
  | .updateImageDelete ch digest => Sys2Proof.Machine.execUpdateImageDelete ch digest s
  | .configDigestRead ch => Sys2Proof.Machine.execConfigDigestRead ch s
  | .configRecordsRead ch domain first count => Sys2Proof.Machine.execConfigRecordsRead ch domain first count s
  | .configBundleSubmit ch total offset part => Sys2Proof.Machine.execConfigBundleSubmit ch total offset part s
  | .bundleAssemblyTimeout => Sys2Proof.Machine.execBundleAssemblyTimeout s
  | .updateCountersRead ch => Sys2Proof.Machine.execUpdateCountersRead ch s
  | .updatePolicyRecord tenant inst body => Sys2Proof.Machine.execUpdatePolicyRecord tenant inst body s
  | .lockoutSample levels => Sys2Proof.Machine.execLockoutSample levels s
  | .lockoutDiscrepancyTimeout input => Sys2Proof.Machine.execLockoutDiscrepancyTimeout input s
  | .releaseHoldEnd input => Sys2Proof.Machine.execReleaseHoldEnd input s
  | .safeDeadline slot => Sys2Proof.Machine.execSafeDeadline slot s
  | .safeLockoutRead ch input => Sys2Proof.Machine.execSafeLockoutRead ch input s
  | .safeOpen ch slot => Sys2Proof.Machine.execSafeOpen ch slot s
  | .safeClose ch slot armed => Sys2Proof.Machine.execSafeClose ch slot armed s
  | .safeCommandRead ch slot => Sys2Proof.Machine.execSafeCommandRead ch slot s
  | .safeCancel ch slot => Sys2Proof.Machine.execSafeCancel ch slot s
  | .safeCountersRead ch input => Sys2Proof.Machine.execSafeCountersRead ch input s
  | .lockoutInputRecord tenant inst body => Sys2Proof.Machine.execLockoutInputRecord tenant inst body s
  | .safeMeterRecord tenant inst body => Sys2Proof.Machine.execSafeMeterRecord tenant inst body s
  | .safetyPolicyRecord tenant inst body => Sys2Proof.Machine.execSafetyPolicyRecord tenant inst body s
  | .sessionReconnect session => Sys2Proof.Machine.execSessionReconnect session s
  | .tlsHandshakeDone session ok alert suite spki => Sys2Proof.Machine.execTlsHandshakeDone session ok alert suite spki s
  | .sessionFrameReceived session type length body => Sys2Proof.Machine.execSessionFrameReceived session type length body s
  | .sessionKeepalive session => Sys2Proof.Machine.execSessionKeepalive session s
  | .sessionRxTimeout session => Sys2Proof.Machine.execSessionRxTimeout session s
  | .exportCursorJournal => Sys2Proof.Machine.execExportCursorJournal s
  | .backhaulFrameReceived port bytes refused corrected uncorrected => Sys2Proof.Machine.execBackhaulFrameReceived port bytes refused corrected uncorrected s
  | .portLinkChange kind port up => Sys2Proof.Machine.execPortLinkChange kind port up s
  | .hostLinkReset kind => Sys2Proof.Machine.execHostLinkReset kind s
  | .hostError severity status => Sys2Proof.Machine.execHostError severity status s
  | .partnerMessageReceived port frame => Sys2Proof.Machine.execPartnerMessageReceived port frame s
  | .heartbeatSend => Sys2Proof.Machine.execHeartbeatSend s
  | .portStatusRead ch => Sys2Proof.Machine.execPortStatusRead ch s
  | .portSessionsRead ch session => Sys2Proof.Machine.execPortSessionsRead ch session s
  | .portSessionReset ch session => Sys2Proof.Machine.execPortSessionReset ch session s
  | .exportRewind ch session position index => Sys2Proof.Machine.execExportRewind ch session position index s
  | .portCountersRead ch kind number => Sys2Proof.Machine.execPortCountersRead ch kind number s
  | .backhaulPortRecord tenant inst body => Sys2Proof.Machine.execBackhaulPortRecord tenant inst body s
  | .headEndSessionRecord tenant inst body => Sys2Proof.Machine.execHeadEndSessionRecord tenant inst body s
  | .powerOnReset vaon => Sys2Proof.Machine.execPowerOnReset vaon s
  | .warmReset => Sys2Proof.Machine.execWarmReset s
  | .bootStageDone detail measured cells regions dies => Sys2Proof.Machine.execBootStageDone detail measured cells regions dies s
  | .pfwAssert => Sys2Proof.Machine.execPfwAssert s
  | .saveDone us => Sys2Proof.Machine.execSaveDone us s
  | .pfwDeassert => Sys2Proof.Machine.execPfwDeassert s
  | .inputFaultTimeout => Sys2Proof.Machine.execInputFaultTimeout s
  | .monitorWarning rail => Sys2Proof.Machine.execMonitorWarning rail s
  | .monitorReset rail => Sys2Proof.Machine.execMonitorReset rail s
  | .sleepWake cause => Sys2Proof.Machine.execSleepWake cause s
  | .d3hotEntry pmeEn => Sys2Proof.Machine.execD3hotEntry pmeEn s
  | .wakeCondition reason => Sys2Proof.Machine.execWakeCondition reason s
  | .linkTrainingStart => Sys2Proof.Machine.execLinkTrainingStart s
  | .d0Return => Sys2Proof.Machine.execD0Return s
  | .thermalTrip sensor => Sys2Proof.Machine.execThermalTrip sensor s
  | .powerStatusRead ch readings => Sys2Proof.Machine.execPowerStatusRead ch readings s
  | .powerSelftestRead ch region => Sys2Proof.Machine.execPowerSelftestRead ch region s
  | .powerSleep ch => Sys2Proof.Machine.execPowerSleep ch s
  | .powerReboot ch force => Sys2Proof.Machine.execPowerReboot ch force s
  | .powerDebugClose ch serial => Sys2Proof.Machine.execPowerDebugClose ch serial s
  | .powerCountersRead ch => Sys2Proof.Machine.execPowerCountersRead ch s
  | .powerPolicyRecord tenant inst body => Sys2Proof.Machine.execPowerPolicyRecord tenant inst body s
  | .porstAssert => Sys2Proof.Machine.execPorstAssert s
  | .supplyInRange => Sys2Proof.Machine.execSupplyInRange s
  | .rollReadyTimeout => Sys2Proof.Machine.execRollReadyTimeout s

end Sys2Proof.Machine
end

