-- ==== Sys2Proof/Safety.lean ====
section
/-! DEFINITION. What counts as a safe run, in the terms the claims use: the canonical form of the host window's
buffers, and steps that do not stop. -/

namespace Sys2Proof.Machine

/-- The buffers of the host window are in canonical form. -/
def State.buffersWf (s : State) : Bool := bufWf s.mail.buffers

/-- The step answers a next state. -/
def State.runs (s : State) : Prop := ∃ t, step s = .next t

end Sys2Proof.Machine
end

