-- ==== Sys2Proof/Certificates/Slice0/Obligations.lean ====
section
/-! DEFINITION. The statements for the provers. Each is a proposition about exec or step, in the terms of State; the small definitions before
them say what a statement means by a frame, by an event raised, and by a request that a channel holds. -/

namespace Sys2Proof

open Machine

/-! ### Terms of the statements -/

/-- The parts of State. -/
inductive Claims.Part where
  | pending | freeCtr | ctrs | records | arch | mail | time | ev | ten | pair | upd | safe | ports | pow | store | vault | lanes | filt | rx
  | lea | marks | sec | led | tar | pre | air | fl | ling | met | bal
  deriving DecidableEq, Repr

/-- Every part. -/
def Claims.Part.all : List Claims.Part :=
  [.pending, .freeCtr, .ctrs, .records, .arch, .mail, .time, .ev, .ten, .pair, .upd, .safe, .ports, .pow, .store, .vault, .lanes, .filt, .rx,
   .lea, .marks, .sec, .led, .tar, .pre, .air, .fl, .ling, .met, .bal]

/-- A part is the same in two states. -/
def Claims.Part.same : Claims.Part → State → State → Bool
  | .pending, s, t => decide (t.pending = s.pending)
  | .freeCtr, s, t => decide (t.freeCtr = s.freeCtr)
  | .ctrs, s, t => decide (t.ctrs = s.ctrs)
  | .records, s, t => decide (t.records = s.records)
  | .arch, s, t => decide (t.arch = s.arch)
  | .mail, s, t => decide (t.mail = s.mail)
  | .time, s, t => decide (t.time = s.time)
  | .ev, s, t => decide (t.ev = s.ev)
  | .ten, s, t => decide (t.ten = s.ten)
  | .pair, s, t => decide (t.pair = s.pair)
  | .upd, s, t => decide (t.upd = s.upd)
  | .safe, s, t => decide (t.safe = s.safe)
  | .ports, s, t => decide (t.ports = s.ports)
  | .pow, s, t => decide (t.pow = s.pow)
  | .store, s, t => decide (t.store = s.store)
  | .vault, s, t => decide (t.vault = s.vault)
  | .lanes, s, t => decide (t.lanes = s.lanes)
  | .filt, s, t => decide (t.filt = s.filt)
  | .rx, s, t => decide (t.rx = s.rx)
  | .lea, s, t => decide (t.lea = s.lea)
  | .marks, s, t => decide (t.marks = s.marks)
  | .sec, s, t => decide (t.sec = s.sec)
  | .led, s, t => decide (t.led = s.led)
  | .tar, s, t => decide (t.tar = s.tar)
  | .pre, s, t => decide (t.pre = s.pre)
  | .air, s, t => decide (t.air = s.air)
  | .fl, s, t => decide (t.fl = s.fl)
  | .ling, s, t => decide (t.ling = s.ling)
  | .met, s, t => decide (t.met = s.met)
  | .bal, s, t => decide (t.bal = s.bal)

/-- Every part but the ones named is unchanged. -/
abbrev Claims.Frame (l : List Claims.Part) (s t : State) : Prop := ∀ p ∈ Claims.Part.all, p ∉ l → p.same s t = true

/-- The queue of events gained one entry at its back: this event, for this tenant, with this payload. -/
abbrev Claims.Raised (e : Ev) (tenant : Nat) (payload : List Nat) (s t : State) : Prop :=
  t.ev.queue.dropLast = s.ev.queue ∧ (t.ev.queue.getLast?.map fun x => (x.ev, x.tenant, x.payload)) = some (e, tenant, payload)

/-- The queue of events has room, so that an event raised enters it (R505). -/
abbrev Claims.Room (s : State) : Prop := s.ev.queue.length + 8 ≤ 4096

/-- A counter moved by n, by its class. -/
abbrev Claims.Counted (c : Ctr) (n : Nat) (s t : State) : Prop := t.ctr c = c.name.cls.step (s.ctr c) n

/-- Channel ch holds a request for the command from a caller of an open session (or an untagged one), and the chip is neither in HELD nor
saving. -/
abbrev Claims.Asked (s : State) (ch : Nat) (k : Cmd) (r : Request) (c : Caller) : Prop :=
  s.requestFor ch k = some r ∧ s.caller ch r = some c ∧ s.pow.stage ≠ 0x0F ∧ s.saveHalts = false

/-- The channel holds this answer to the request, and no request any more. -/
abbrev Claims.Answered (ch : Nat) (r : Request) (y : Reply) (t : State) : Prop :=
  (t.chan ch).request = none ∧ (t.chan ch).response =
    some ⟨r.cmd.code, y.status, y.body, r.seq, r.corr, r.sessionId, r.tagged, none, false⟩

/-- The schema of a record that the chip has. -/
abbrev Claims.schemaOf (rid : Nat) : Schema := ((recordRule rid).map Prod.fst).getD Schema.Partition

/-- The rules of that record. -/
abbrev Claims.ruleOf (rid : Nat) : RecordRule := ((recordRule rid).map Prod.snd).getD { writer := fun _ _ _ _ => false }

/-- The channel and the command of a constructor that is a mailbox command. -/
def Claims.cmdOf : Instr → Option (Nat × Cmd)
  | .airPlanRead ch _ => some (ch, .airPlanRead)
  | .airPollNow ch _ _ _ => some (ch, .airPollNow)
  | .airModelReset ch _ => some (ch, .airModelReset)
  | .airDutyRead ch _ _ => some (ch, .airDutyRead)
  | .airQueueRead ch _ _ => some (ch, .airQueueRead)
  | .airLaunchCancel ch _ _ _ => some (ch, .airLaunchCancel)
  | .airTxTest ch _ _ _ _ _ => some (ch, .airTxTest)
  | .airCountersRead ch _ _ => some (ch, .airCountersRead)
  | .leaChannelsRead ch => some (ch, .leaChannelsRead)
  | .barrowClear ch => some (ch, .barrowClear)
  | .ctrlApprove ch _ _ => some (ch, .ctrlApprove)
  | .balZoneRead ch _ => some (ch, .balZoneRead)
  | .balIntervalRead ch _ _ _ => some (ch, .balIntervalRead)
  | .balMeterRead ch _ => some (ch, .balMeterRead)
  | .balFit ch _ _ _ => some (ch, .balFit)
  | .balPhaseReset ch _ => some (ch, .balPhaseReset)
  | .balCountersRead ch _ => some (ch, .balCountersRead)
  | .evtSourcesRead ch _ _ => some (ch, .evtSourcesRead)
  | .evtTrailRead ch _ _ => some (ch, .evtTrailRead)
  | .barrowList ch => some (ch, .barrowList)
  | .barrowHold ch => some (ch, .barrowHold)
  | .barrowRead ch _ _ _ => some (ch, .barrowRead)
  | .barrowRelease ch => some (ch, .barrowRelease)
  | .barrowClearlogRead ch _ _ => some (ch, .barrowClearlogRead)
  | .evtCountersRead ch => some (ch, .evtCountersRead)
  | .ctrlCapsRead ch => some (ch, .ctrlCapsRead)
  | .ctrlHealthRead ch _ => some (ch, .ctrlHealthRead)
  | .ctrlUnitFence ch _ => some (ch, .ctrlUnitFence)
  | .ctrlUnitUnfence ch _ _ => some (ch, .ctrlUnitUnfence)
  | .ctrlRegionRestart ch _ => some (ch, .ctrlRegionRestart)
  | .filtDcEnable ch _ => some (ch, .filtDcEnable)
  | .filtDcDisable ch _ => some (ch, .filtDcDisable)
  | .filtDcFreeze ch _ _ => some (ch, .filtDcFreeze)
  | .filtDcRead ch _ => some (ch, .filtDcRead)
  | .laneEnable ch _ => some (ch, .laneEnable)
  | .laneDisable ch _ => some (ch, .laneDisable)
  | .filtCaptureStart ch _ _ _ _ _ _ _ => some (ch, .filtCaptureStart)
  | .filtCaptureStop ch _ => some (ch, .filtCaptureStop)
  | .filtCaptureList ch => some (ch, .filtCaptureList)
  | .filtCaptureRead ch _ _ _ => some (ch, .filtCaptureRead)
  | .filtCaptureDelete ch _ => some (ch, .filtCaptureDelete)
  | .filtChannelRead ch _ => some (ch, .filtChannelRead)
  | .filtTilesRead ch _ => some (ch, .filtTilesRead)
  | .filtCountersRead ch _ => some (ch, .filtCountersRead)
  | .filtRomRead ch _ => some (ch, .filtRomRead)
  | .floodStreamOpen ch _ _ _ _ _ _ _ _ => some (ch, .floodStreamOpen)
  | .floodBlockWrite ch _ _ _ => some (ch, .floodBlockWrite)
  | .floodStreamStart ch _ => some (ch, .floodStreamStart)
  | .floodStreamClose ch _ => some (ch, .floodStreamClose)
  | .floodStatusRead ch _ => some (ch, .floodStatusRead)
  | .floodMeterSetup ch _ _ _ => some (ch, .floodMeterSetup)
  | .floodTimeSend ch => some (ch, .floodTimeSend)
  | .tariffPlanFlood ch _ _ _ _ _ _ => some (ch, .tariffPlanFlood)
  | .updateInventoryRead ch => some (ch, .updateInventoryRead)
  | .updateStageBegin ch _ => some (ch, .updateStageBegin)
  | .updateStageWrite ch _ _ _ => some (ch, .updateStageWrite)
  | .updateStageVerify ch _ => some (ch, .updateStageVerify)
  | .updateActivate ch _ _ => some (ch, .updateActivate)
  | .updateConfirm ch => some (ch, .updateConfirm)
  | .updateImageDelete ch _ => some (ch, .updateImageDelete)
  | .laneStatusRead ch _ => some (ch, .laneStatusRead)
  | .laneCountersRead ch _ => some (ch, .laneCountersRead)
  | .laneHeadInfo ch _ => some (ch, .laneHeadInfo)
  | .laneHeadControl ch _ _ _ _ => some (ch, .laneHeadControl)
  | .laneTest ch _ _ _ _ => some (ch, .laneTest)
  | .leaCountersRead ch _ => some (ch, .leaCountersRead)
  | .leaPollBuild ch _ _ _ _ _ _ _ => some (ch, .leaPollBuild)
  | .leaFrameDecode ch _ _ _ => some (ch, .leaFrameDecode)
  | .lingTxEnable ch _ => some (ch, .lingTxEnable)
  | .lingTxDisable ch _ => some (ch, .lingTxDisable)
  | .lingStatusRead ch _ => some (ch, .lingStatusRead)
  | .lingMeterRead ch _ => some (ch, .lingMeterRead)
  | .lingPollNow ch _ _ _ => some (ch, .lingPollNow)
  | .lingFrameBuild ch _ _ _ _ _ _ => some (ch, .lingFrameBuild)
  | .lingCountersRead ch _ => some (ch, .lingCountersRead)
  | .ctrlPing ch => some (ch, .ctrlPing)
  | .ctrlSessionHello ch _ _ _ => some (ch, .ctrlSessionHello)
  | .ctrlSessionProve ch _ _ _ => some (ch, .ctrlSessionProve)
  | .ctrlSessionClose ch => some (ch, .ctrlSessionClose)
  | .ctrlSessionInfo ch => some (ch, .ctrlSessionInfo)
  | .ctrlApprovalList ch => some (ch, .ctrlApprovalList)
  | .ctrlApprovalCancel ch _ => some (ch, .ctrlApprovalCancel)
  | .ctrlCredentialSet ch _ _ _ _ _ => some (ch, .ctrlCredentialSet)
  | .ctrlCredentialRevoke ch _ _ _ => some (ch, .ctrlCredentialRevoke)
  | .ctrlCredentialList ch _ _ => some (ch, .ctrlCredentialList)
  | .metroValuesRead ch _ => some (ch, .metroValuesRead)
  | .metroHarmonicsRead ch _ _ => some (ch, .metroHarmonicsRead)
  | .metroRegistersRead ch _ => some (ch, .metroRegistersRead)
  | .metroIntervalRead ch _ _ _ => some (ch, .metroIntervalRead)
  | .metroPulseRead ch _ => some (ch, .metroPulseRead)
  | .metroPulseTest ch _ _ => some (ch, .metroPulseTest)
  | .metroCountersRead ch _ => some (ch, .metroCountersRead)
  | .barrowTriggerNow ch _ => some (ch, .barrowTriggerNow)
  | .pairStatusRead ch => some (ch, .pairStatusRead)
  | .pairSwitchover ch => some (ch, .pairSwitchover)
  | .pairForceClaim ch => some (ch, .pairForceClaim)
  | .pairOrphansRead ch _ _ => some (ch, .pairOrphansRead)
  | .pairOrphansClear ch _ => some (ch, .pairOrphansClear)
  | .pairCountersRead ch => some (ch, .pairCountersRead)
  | .portStatusRead ch => some (ch, .portStatusRead)
  | .portSessionsRead ch _ => some (ch, .portSessionsRead)
  | .portSessionReset ch _ => some (ch, .portSessionReset)
  | .exportRewind ch _ _ _ => some (ch, .exportRewind)
  | .portCountersRead ch _ _ => some (ch, .portCountersRead)
  | .powerSleep ch => some (ch, .powerSleep)
  | .powerStatusRead ch _ => some (ch, .powerStatusRead)
  | .powerSelftestRead ch _ => some (ch, .powerSelftestRead)
  | .powerReboot ch _ => some (ch, .powerReboot)
  | .powerDebugClose ch _ => some (ch, .powerDebugClose)
  | .powerCountersRead ch => some (ch, .powerCountersRead)
  | .prepayTokenIssue ch _ _ _ _ => some (ch, .prepayTokenIssue)
  | .prepayTokenRead ch _ _ => some (ch, .prepayTokenRead)
  | .prepayTokenList ch _ _ _ => some (ch, .prepayTokenList)
  | .prepayTokenVoid ch _ _ => some (ch, .prepayTokenVoid)
  | .prepayStateRead ch _ => some (ch, .prepayStateRead)
  | .prepayTokenCheck ch _ _ => some (ch, .prepayTokenCheck)
  | .tamperRead ch _ => some (ch, .tamperRead)
  | .prepayCountersRead ch _ => some (ch, .prepayCountersRead)
  | .rxStatusRead ch => some (ch, .rxStatusRead)
  | .rxContextRead ch _ => some (ch, .rxContextRead)
  | .rxContextAbort ch _ => some (ch, .rxContextAbort)
  | .rxGroupRead ch _ => some (ch, .rxGroupRead)
  | .rxCountersRead ch _ => some (ch, .rxCountersRead)
  | .rxListen ch _ _ _ _ _ _ => some (ch, .rxListen)
  | .ctrlRecordWrite ch _ => some (ch, .ctrlRecordWrite)
  | .ctrlRecordRead ch _ _ _ => some (ch, .ctrlRecordRead)
  | .ctrlRecordDefault ch _ _ _ => some (ch, .ctrlRecordDefault)
  | .configBundleSubmit ch _ _ _ => some (ch, .configBundleSubmit)
  | .ledgerMeterRead ch _ => some (ch, .ledgerMeterRead)
  | .ledgerTotalsRead ch _ _ => some (ch, .ledgerTotalsRead)
  | .ledgerDisputeList ch _ _ _ => some (ch, .ledgerDisputeList)
  | .ledgerDisputeResolve ch _ _ _ _ => some (ch, .ledgerDisputeResolve)
  | .ledgerRebase ch _ _ _ => some (ch, .ledgerRebase)
  | .ledgerGapClear ch _ => some (ch, .ledgerGapClear)
  | .ledgerEnginesRead ch => some (ch, .ledgerEnginesRead)
  | .ledgerCountersRead ch _ => some (ch, .ledgerCountersRead)
  | .vaultReset ch => some (ch, .vaultReset)
  | .safeOpen ch _ => some (ch, .safeOpen)
  | .safeClose ch _ _ => some (ch, .safeClose)
  | .safeCancel ch _ => some (ch, .safeCancel)
  | .safeCommandRead ch _ => some (ch, .safeCommandRead)
  | .safeLockoutRead ch _ => some (ch, .safeLockoutRead)
  | .safeCountersRead ch _ => some (ch, .safeCountersRead)
  | .secSwardStatus ch => some (ch, .secSwardStatus)
  | .secStatusRead ch => some (ch, .secStatusRead)
  | .secMeterRead ch _ => some (ch, .secMeterRead)
  | .secMeterKeySet ch _ _ _ => some (ch, .secMeterKeySet)
  | .secMeterKeygenAdvance ch _ => some (ch, .secMeterKeygenAdvance)
  | .secQuarantineList ch _ _ _ => some (ch, .secQuarantineList)
  | .secQuarantineRead ch _ _ => some (ch, .secQuarantineRead)
  | .secQuarantineRelease ch _ _ => some (ch, .secQuarantineRelease)
  | .secQuarantineDelete ch _ _ => some (ch, .secQuarantineDelete)
  | .secRulesTest ch _ _ _ _ _ => some (ch, .secRulesTest)
  | .secCountersRead ch _ => some (ch, .secCountersRead)
  | .storeStatusRead ch => some (ch, .storeStatusRead)
  | .storeFlashRead ch _ => some (ch, .storeFlashRead)
  | .storePartitionsRead ch => some (ch, .storePartitionsRead)
  | .storeCheckpointNow ch => some (ch, .storeCheckpointNow)
  | .storeDieRetire ch _ _ => some (ch, .storeDieRetire)
  | .storeNamespaceFormat ch _ => some (ch, .storeNamespaceFormat)
  | .storeDramRead ch => some (ch, .storeDramRead)
  | .storeLossRead ch _ _ _ => some (ch, .storeLossRead)
  | .storeCountersRead ch _ => some (ch, .storeCountersRead)
  | .tariffPlanRead ch _ _ => some (ch, .tariffPlanRead)
  | .tariffEvaluate ch _ _ => some (ch, .tariffEvaluate)
  | .tariffProfileRead ch _ _ _ => some (ch, .tariffProfileRead)
  | .tariffClocklogRead ch _ _ _ => some (ch, .tariffClocklogRead)
  | .tariffCountersRead ch _ => some (ch, .tariffCountersRead)
  | .tenantSeal ch _ => some (ch, .tenantSeal)
  | .tenantCheck ch _ => some (ch, .tenantCheck)
  | .tenantRelease ch _ => some (ch, .tenantRelease)
  | .tenantStatusRead ch _ => some (ch, .tenantStatusRead)
  | .tenantCountersRead ch _ => some (ch, .tenantCountersRead)
  | .timeStatusRead ch => some (ch, .timeStatusRead)
  | .timeReferencesRead ch => some (ch, .timeReferencesRead)
  | .timeStep ch _ => some (ch, .timeStep)
  | .timeLeapSet ch _ _ => some (ch, .timeLeapSet)
  | .timeConvert ch _ _ => some (ch, .timeConvert)
  | .timeCountersRead ch => some (ch, .timeCountersRead)
  | .configDigestRead ch => some (ch, .configDigestRead)
  | .configRecordsRead ch _ _ _ => some (ch, .configRecordsRead)
  | .updatePairRoll ch => some (ch, .updatePairRoll)
  | .updateHeadCampaign ch _ _ => some (ch, .updateHeadCampaign)
  | .updateMeterCampaign ch _ _ _ _ _ _ => some (ch, .updateMeterCampaign)
  | .updateCampaignRead ch _ => some (ch, .updateCampaignRead)
  | .updateCountersRead ch => some (ch, .updateCountersRead)
  | .vaultStatusRead ch => some (ch, .vaultStatusRead)
  | .vaultSlotsRead ch _ => some (ch, .vaultSlotsRead)
  | .vaultUpdate ch _ => some (ch, .vaultUpdate)
  | .vaultAuthoritySet ch _ _ => some (ch, .vaultAuthoritySet)
  | .vaultTransportSet ch _ _ => some (ch, .vaultTransportSet)
  | .vaultIdentityRead ch => some (ch, .vaultIdentityRead)
  | .vaultDigestRead ch _ => some (ch, .vaultDigestRead)
  | .vaultCountersRead ch _ => some (ch, .vaultCountersRead)
  | _ => none

/-- The channel, the command and the answer of a constructor that only reads. -/
def Claims.readOf : Instr → Option (Nat × Cmd × (Caller → State → Reply))
  | .airPlanRead ch slot => some (ch, .airPlanRead, (readAirPlan slot))
  | .airDutyRead ch head band => some (ch, .airDutyRead, (readAirDuty head band))
  | .airQueueRead ch head band => some (ch, .airQueueRead, (readAirQueue head band))
  | .airCountersRead ch target band => some (ch, .airCountersRead, (readAirCounters target band))
  | .leaChannelsRead ch => some (ch, .leaChannelsRead, readLeaChannels)
  | .balZoneRead ch zone => some (ch, .balZoneRead, (readBalZone zone))
  | .balIntervalRead ch zone first count => some (ch, .balIntervalRead, (readBalInterval zone first count))
  | .balMeterRead ch slot => some (ch, .balMeterRead, (readBalMeter slot))
  | .balCountersRead ch zone => some (ch, .balCountersRead, (readBalCounters zone))
  | .evtSourcesRead ch first n => some (ch, .evtSourcesRead, (readEvtSources first n))
  | .evtTrailRead ch first n => some (ch, .evtTrailRead, (readEvtTrail first n))
  | .barrowList ch => some (ch, .barrowList, readBarrowList)
  | .barrowRead ch id off len => some (ch, .barrowRead, (readBarrow id off len))
  | .barrowClearlogRead ch first n => some (ch, .barrowClearlogRead, (readBarrowClearlog first n))
  | .evtCountersRead ch => some (ch, .evtCountersRead, readEvtCounters)
  | .ctrlCapsRead ch => some (ch, .ctrlCapsRead, readCaps)
  | .ctrlHealthRead ch region => some (ch, .ctrlHealthRead, (readHealth region))
  | .filtCaptureList ch => some (ch, .filtCaptureList, readFiltCaptureList)
  | .filtCaptureRead ch id off len => some (ch, .filtCaptureRead, (readFiltCapture id off len))
  | .filtChannelRead ch channel => some (ch, .filtChannelRead, (readFiltChannel channel))
  | .filtTilesRead ch lane => some (ch, .filtTilesRead, (readFiltTiles lane))
  | .filtCountersRead ch target => some (ch, .filtCountersRead, (readFiltCounters target))
  | .filtRomRead ch index => some (ch, .filtRomRead, (readFiltRom index))
  | .floodStatusRead ch stream => some (ch, .floodStatusRead, (readFloodStatus stream))
  | .updateInventoryRead ch => some (ch, .updateInventoryRead, readInventory)
  | .laneStatusRead ch lane => some (ch, .laneStatusRead, (readLaneStatus lane))
  | .laneCountersRead ch lane => some (ch, .laneCountersRead, (readLaneCounters lane))
  | .laneHeadInfo ch lane => some (ch, .laneHeadInfo, (readLaneHeadInfo lane))
  | .leaCountersRead ch channel => some (ch, .leaCountersRead, (readLeaCounters channel))
  | .leaPollBuild ch address region pollTag request respCtl rate preamble => some (ch, .leaPollBuild, (readLeaPollBuild address region pollTag request respCtl rate preamble))
  | .leaFrameDecode ch direction rate frame => some (ch, .leaFrameDecode, (readLeaFrameDecode direction rate frame))
  | .lingStatusRead ch trib => some (ch, .lingStatusRead, (readLingStatus trib))
  | .lingMeterRead ch slot => some (ch, .lingMeterRead, (readLingMeter slot))
  | .lingFrameBuild ch dir repCode map active seed payload => some (ch, .lingFrameBuild, (readLingFrameBuild dir repCode map active seed payload))
  | .lingCountersRead ch target => some (ch, .lingCountersRead, (readLingCounters target))
  | .ctrlPing ch => some (ch, .ctrlPing, readCtrlPing)
  | .ctrlSessionInfo ch => some (ch, .ctrlSessionInfo, readSessionInfo)
  | .ctrlApprovalList ch => some (ch, .ctrlApprovalList, readApprovalList)
  | .ctrlCredentialList ch role tenant => some (ch, .ctrlCredentialList, (readCredentialList role tenant))
  | .metroValuesRead ch trib => some (ch, .metroValuesRead, (readMetroValues trib))
  | .metroHarmonicsRead ch trib channel => some (ch, .metroHarmonicsRead, (readMetroHarmonics trib channel))
  | .metroRegistersRead ch trib => some (ch, .metroRegistersRead, (readMetroRegisters trib))
  | .metroIntervalRead ch trib first count => some (ch, .metroIntervalRead, (readMetroInterval trib first count))
  | .metroPulseRead ch output => some (ch, .metroPulseRead, (readMetroPulse output))
  | .metroCountersRead ch trib => some (ch, .metroCountersRead, (readMetroCounters trib))
  | .pairStatusRead ch => some (ch, .pairStatusRead, readPairStatus)
  | .pairOrphansRead ch first n => some (ch, .pairOrphansRead, (readOrphans first n))
  | .pairCountersRead ch => some (ch, .pairCountersRead, readPairCounters)
  | .portStatusRead ch => some (ch, .portStatusRead, readPortStatus)
  | .portSessionsRead ch session => some (ch, .portSessionsRead, (readPortSessions session))
  | .portCountersRead ch kind number => some (ch, .portCountersRead, (readPortCounters kind number))
  | .powerStatusRead ch readings => some (ch, .powerStatusRead, (readPowerStatus readings))
  | .powerSelftestRead ch region => some (ch, .powerSelftestRead, (readSelftest region))
  | .powerCountersRead ch => some (ch, .powerCountersRead, readPowerCounters)
  | .prepayTokenRead ch slot seq => some (ch, .prepayTokenRead, (readTokenRead slot seq))
  | .prepayTokenList ch slot first count => some (ch, .prepayTokenList, (readTokenList slot first count))
  | .prepayStateRead ch slot => some (ch, .prepayStateRead, (readPrepayState slot))
  | .prepayTokenCheck ch slot digits => some (ch, .prepayTokenCheck, (readTokenCheck slot digits))
  | .tamperRead ch slot => some (ch, .tamperRead, (readTamper slot))
  | .prepayCountersRead ch target => some (ch, .prepayCountersRead, (readPrepayCounters target))
  | .rxStatusRead ch => some (ch, .rxStatusRead, readRxStatus)
  | .rxContextRead ch ctx => some (ch, .rxContextRead, (readRxContext ctx))
  | .rxGroupRead ch group => some (ch, .rxGroupRead, (readRxGroup group))
  | .rxCountersRead ch target => some (ch, .rxCountersRead, (readRxCounters target))
  | .ctrlRecordRead ch rid inst tenant => some (ch, .ctrlRecordRead, (readRecord rid inst tenant))
  | .ledgerMeterRead ch slot => some (ch, .ledgerMeterRead, (readLedgerMeter slot))
  | .ledgerTotalsRead ch slot quantity => some (ch, .ledgerTotalsRead, (readLedgerTotals slot quantity))
  | .ledgerDisputeList ch tenant first count => some (ch, .ledgerDisputeList, (readDisputeList tenant first count))
  | .ledgerEnginesRead ch => some (ch, .ledgerEnginesRead, readLedgerEngines)
  | .ledgerCountersRead ch target => some (ch, .ledgerCountersRead, (readLedgerCounters target))
  | .safeCommandRead ch slot => some (ch, .safeCommandRead, (readSafeCommand slot))
  | .safeLockoutRead ch input => some (ch, .safeLockoutRead, (readSafeLockout input))
  | .safeCountersRead ch input => some (ch, .safeCountersRead, (readSafeCounters input))
  | .secSwardStatus ch => some (ch, .secSwardStatus, readSwardStatus)
  | .secStatusRead ch => some (ch, .secStatusRead, readSecStatus)
  | .secMeterRead ch slot => some (ch, .secMeterRead, (readSecMeter slot))
  | .secQuarantineList ch tenant first count => some (ch, .secQuarantineList, (readQuarantineList tenant first count))
  | .secQuarantineRead ch slot counter => some (ch, .secQuarantineRead, (readQuarantine slot counter))
  | .secRulesTest ch cls attrs mask snaps payload => some (ch, .secRulesTest, (readRulesTest cls attrs mask snaps payload))
  | .secCountersRead ch slot => some (ch, .secCountersRead, (readSecCounters slot))
  | .storeStatusRead ch => some (ch, .storeStatusRead, readStoreStatus)
  | .storeFlashRead ch channel => some (ch, .storeFlashRead, (readStoreFlash channel))
  | .storePartitionsRead ch => some (ch, .storePartitionsRead, readStorePartitions)
  | .storeDramRead ch => some (ch, .storeDramRead, readStoreDram)
  | .storeLossRead ch tenant first count => some (ch, .storeLossRead, (readStoreLoss tenant first count))
  | .storeCountersRead ch channel => some (ch, .storeCountersRead, (readStoreCounters channel))
  | .tariffPlanRead ch plan version => some (ch, .tariffPlanRead, (readTariffPlan plan version))
  | .tariffEvaluate ch plan stamp => some (ch, .tariffEvaluate, (readTariffEvaluate plan stamp))
  | .tariffProfileRead ch slot first count => some (ch, .tariffProfileRead, (readTariffProfile slot first count))
  | .tariffClocklogRead ch tenant first count => some (ch, .tariffClocklogRead, (readTariffClocklog tenant first count))
  | .tariffCountersRead ch target => some (ch, .tariffCountersRead, (readTariffCounters target))
  | .tenantCheck ch tenant => some (ch, .tenantCheck, (readTenantCheck tenant))
  | .tenantStatusRead ch tenant => some (ch, .tenantStatusRead, (readTenantStatus tenant))
  | .tenantCountersRead ch tenant => some (ch, .tenantCountersRead, (readTenantCounters tenant))
  | .timeStatusRead ch => some (ch, .timeStatusRead, readTimeStatus)
  | .timeReferencesRead ch => some (ch, .timeReferencesRead, readTimeReferences)
  | .timeConvert ch dir value => some (ch, .timeConvert, (readTimeConvert dir value))
  | .timeCountersRead ch => some (ch, .timeCountersRead, readTimeCounters)
  | .configDigestRead ch => some (ch, .configDigestRead, readConfigDigest)
  | .configRecordsRead ch domain first count => some (ch, .configRecordsRead, (readConfigRecords domain first count))
  | .updateCampaignRead ch campaign => some (ch, .updateCampaignRead, (readCampaign campaign))
  | .updateCountersRead ch => some (ch, .updateCountersRead, readUpdateCounters)
  | .vaultStatusRead ch => some (ch, .vaultStatusRead, readVaultStatus)
  | .vaultSlotsRead ch domain => some (ch, .vaultSlotsRead, (readVaultSlots domain))
  | .vaultIdentityRead ch => some (ch, .vaultIdentityRead, readVaultIdentity)
  | .vaultDigestRead ch domain => some (ch, .vaultDigestRead, (readVaultDigest domain))
  | .vaultCountersRead ch domain => some (ch, .vaultCountersRead, (readVaultCounters domain))
  | .filtDcRead ch target => some (ch, .filtDcRead, (readFiltDc target))
  | _ => none

/-- The channel, the command and the run of a constructor whose command answers at once. -/
def Claims.runOf : Instr → Option (Nat × Cmd × (Caller → State → Reply × State))
  | .airPollNow ch slot request priority => some (ch, .airPollNow, (runAirPollNow slot request priority))
  | .airModelReset ch slot => some (ch, .airModelReset, (runAirModelReset slot))
  | .airLaunchCancel ch head band start => some (ch, .airLaunchCancel, (runAirLaunchCancel head band start))
  | .airTxTest ch head antenna band carrier duration => some (ch, .airTxTest, (runAirTxTest head antenna band carrier duration))
  | .barrowClear ch => some (ch, .barrowClear, runBarrowClear)
  | .balFit ch zone first count => some (ch, .balFit, (runBalFit zone first count))
  | .barrowHold ch => some (ch, .barrowHold, runBarrowHold)
  | .barrowRelease ch => some (ch, .barrowRelease, runBarrowRelease)
  | .ctrlUnitFence ch unit => some (ch, .ctrlUnitFence, (runUnitFence unit))
  | .ctrlUnitUnfence ch unit pass => some (ch, .ctrlUnitUnfence, (runUnitUnfence unit pass))
  | .ctrlRegionRestart ch region => some (ch, .ctrlRegionRestart, (runRegionRestart region))
  | .filtDcEnable ch target => some (ch, .filtDcEnable, (runFiltDcEnable target))
  | .filtDcDisable ch target => some (ch, .filtDcDisable, (runFiltDcDisable target))
  | .filtDcFreeze ch target freeze => some (ch, .filtDcFreeze, (runFiltDcFreeze target freeze))
  | .laneEnable ch lane => some (ch, .laneEnable, (runLaneEnable lane))
  | .laneDisable ch lane => some (ch, .laneDisable, (runLaneDisable lane))
  | .filtCaptureStart ch kind lane mask sub start instant duration => some (ch, .filtCaptureStart, (runFiltCaptureStart kind lane mask sub start instant duration))
  | .filtCaptureStop ch id => some (ch, .filtCaptureStop, (runFiltCaptureStop id))
  | .filtCaptureDelete ch id => some (ch, .filtCaptureDelete, (runFiltCaptureDelete id))
  | .floodStreamOpen ch stream kind keySlot target lastBlock segBytes priority rounds => some (ch, .floodStreamOpen, (runFloodStreamOpen { number := stream, kind := kind, tenant := 0, keySlot := keySlot, target := target, lastBlock := lastBlock, segBytes := segBytes, priority := priority, rounds := rounds }))
  | .floodBlockWrite ch stream block bytes => some (ch, .floodBlockWrite, (runFloodBlockWrite stream block bytes))
  | .floodStreamStart ch stream => some (ch, .floodStreamStart, (runFloodStreamStart stream))
  | .floodStreamClose ch stream => some (ch, .floodStreamClose, (runFloodStreamClose stream))
  | .floodMeterSetup ch slot role hop => some (ch, .floodMeterSetup, (runFloodMeterSetup slot role hop))
  | .floodTimeSend ch => some (ch, .floodTimeSend, runFloodTimeSend)
  | .tariffPlanFlood ch plan version stream keySlot target rounds => some (ch, .tariffPlanFlood, (runTariffPlanFlood plan version stream keySlot target rounds))
  | .updateStageBegin ch header => some (ch, .updateStageBegin, (runStageBegin header))
  | .updateStageWrite ch id offset data => some (ch, .updateStageWrite, (runStageWrite id offset data))
  | .updateStageVerify ch id => some (ch, .updateStageVerify, (runStageVerify id))
  | .updateActivate ch mask force => some (ch, .updateActivate, (runUpdateActivate mask force))
  | .updateConfirm ch => some (ch, .updateConfirm, runUpdateConfirm)
  | .updateImageDelete ch digest => some (ch, .updateImageDelete, (runImageDelete digest))
  | .lingTxEnable ch trib => some (ch, .lingTxEnable, (runLingTxEnable trib))
  | .lingTxDisable ch trib => some (ch, .lingTxDisable, (runLingTxDisable trib))
  | .lingPollNow ch slot request priority => some (ch, .lingPollNow, (runLingPollNow slot request priority))
  | .ctrlSessionProve ch id nh ph => some (ch, .ctrlSessionProve, (runSessionProve id nh ph))
  | .ctrlApprovalCancel ch ticket => some (ch, .ctrlApprovalCancel, (runApprovalCancel ticket))
  | .ctrlCredentialSet ch role tenant slot kind secret => some (ch, .ctrlCredentialSet, (runCredentialSet role tenant slot kind secret))
  | .metroPulseTest ch output count => some (ch, .metroPulseTest, (runMetroPulseTest output count))
  | .barrowTriggerNow ch trigger => some (ch, .barrowTriggerNow, (runBarrowTriggerNow State.look State.regionWord trigger))
  | .pairSwitchover ch => some (ch, .pairSwitchover, runPairSwitchover)
  | .pairForceClaim ch => some (ch, .pairForceClaim, runForceClaim)
  | .pairOrphansClear ch upTo => some (ch, .pairOrphansClear, (runOrphansClear upTo))
  | .portSessionReset ch session => some (ch, .portSessionReset, (runSessionReset session))
  | .exportRewind ch session position index => some (ch, .exportRewind, (runExportRewind session position index))
  | .powerSleep ch => some (ch, .powerSleep, (runPowerSleep))
  | .powerReboot ch force => some (ch, .powerReboot, (runPowerReboot force))
  | .powerDebugClose ch serial => some (ch, .powerDebugClose, (runDebugClose serial))
  | .rxContextAbort ch ctx => some (ch, .rxContextAbort, (runRxContextAbort ctx))
  | .rxListen ch group mode headMask start window maxFrameMs => some (ch, .rxListen, (runRxListen group mode headMask start window maxFrameMs))
  | .vaultReset ch => some (ch, .vaultReset, runVaultReset)
  | .safeClose ch slot armed => some (ch, .safeClose, (runSafeClose slot armed))
  | .storeCheckpointNow ch => some (ch, .storeCheckpointNow, runCheckpointNow)
  | .storeDieRetire ch channel die => some (ch, .storeDieRetire, (runDieRetire channel die))
  | .tenantSeal ch tenant => some (ch, .tenantSeal, (runTenantSeal tenant))
  | .tenantRelease ch tenant => some (ch, .tenantRelease, (runTenantRelease tenant))
  | .timeStep ch ns => some (ch, .timeStep, (runTimeStep ns))
  | .timeLeapSet ch day sign => some (ch, .timeLeapSet, (runTimeLeapSet day sign))
  | .updatePairRoll ch => some (ch, .updatePairRoll, runPairRoll)
  | .updateHeadCampaign ch digest lanes => some (ch, .updateHeadCampaign, (runHeadCampaign digest lanes))
  | .updateMeterCampaign ch digest stream keySlot target rounds activateAt => some (ch, .updateMeterCampaign, (runMeterCampaign digest stream keySlot target rounds activateAt))
  | .vaultUpdate ch msg => some (ch, .vaultUpdate, (runVaultUpdate msg))
  | .vaultAuthoritySet ch domain key => some (ch, .vaultAuthoritySet, (runVaultAuthoritySet domain key))
  | .vaultTransportSet ch domain wrapped => some (ch, .vaultTransportSet, (runVaultTransportSet domain wrapped))
  | _ => none

/-- The same of a constructor whose command answers once its journal entry has committed. -/
def Claims.commitOf : Instr → Option (Nat × Cmd × (Caller → State → Reply × State))
  | .ctrlApprove ch ticket digest => some (ch, .ctrlApprove, (runApprove ticket digest))
  | .balPhaseReset ch slot => some (ch, .balPhaseReset, (runBalPhaseReset slot))
  | .prepayTokenIssue ch slot kind amount deliver => some (ch, .prepayTokenIssue, (runTokenIssue slot kind amount deliver))
  | .prepayTokenVoid ch slot seq => some (ch, .prepayTokenVoid, (runTokenVoid slot seq))
  | .ctrlRecordDefault ch rid inst tenant => some (ch, .ctrlRecordDefault, (runRecordDefault rid inst tenant))
  | .configBundleSubmit ch total offset part => some (ch, .configBundleSubmit, (runBundleSubmit total offset part))
  | .ledgerDisputeResolve ch slot rateStream mask choice => some (ch, .ledgerDisputeResolve, (runDisputeResolve slot rateStream mask choice))
  | .ledgerRebase ch slot totals rates => some (ch, .ledgerRebase, (runLedgerRebase slot totals rates))
  | .ledgerGapClear ch slot => some (ch, .ledgerGapClear, (runLedgerGapClear slot))
  | .safeOpen ch slot => some (ch, .safeOpen, (runSafeOpen slot))
  | .safeCancel ch slot => some (ch, .safeCancel, (runSafeCancel slot))
  | .secMeterKeySet ch slot keyBits blob => some (ch, .secMeterKeySet, (runSecMeterKeySet slot keyBits blob))
  | .secMeterKeygenAdvance ch slot => some (ch, .secMeterKeygenAdvance, (runSecKeygenAdvance slot))
  | .secQuarantineRelease ch slot counter => some (ch, .secQuarantineRelease, (runQuarantineRelease slot counter))
  | .secQuarantineDelete ch slot counter => some (ch, .secQuarantineDelete, (runQuarantineDelete slot counter))
  | .storeNamespaceFormat ch tenant => some (ch, .storeNamespaceFormat, (runNamespaceFormat tenant))
  | _ => none

/-- The rule, the schema and the operands of a constructor that applies a record. -/
def Claims.recordOf : Instr → Option (RecordRule × Schema × Nat × Nat × List Byte)
  | .bandRecord tenant inst body => some (ruleBand, Schema.Band, tenant, inst, body)
  | .headAirRecord tenant inst body => some (ruleHeadAir, Schema.HeadAir, tenant, inst, body)
  | .meterClassRecord tenant inst body => some (ruleMeterClass, Schema.MeterClass, tenant, inst, body)
  | .meterPlanRecord tenant inst body => some (ruleMeterPlan, Schema.MeterPlan, tenant, inst, body)
  | .airPolicyRecord tenant inst body => some (ruleAirPolicy, Schema.AirPolicy, tenant, inst, body)
  | .leaChannelRecord tenant inst body => some (ruleLeaChannel, Schema.LeaChannel, tenant, inst, body)
  | .zoneRecord tenant inst body => some (ruleZone, Schema.Zone, tenant, inst, body)
  | .balanceMeterRecord tenant inst body => some (ruleBalMeter, Schema.BalMeter, tenant, inst, body)
  | .balancePolicyRecord tenant inst body => some (ruleBalPolicy, Schema.BalPolicy, tenant, inst, body)
  | .faultPolicyRecord tenant inst body => some (ruleFaultPolicy, Schema.FaultPolicy, tenant, inst, body)
  | .laneRecord tenant inst body => some (ruleLane, Schema.Lane, tenant, inst, body)
  | .lineFilterRecord tenant inst body => some (ruleLineFilter, Schema.LineFilter, tenant, inst, body)
  | .floodScheduleRecord tenant inst body => some (ruleFloodSchedule, Schema.FloodSchedule, tenant, inst, body)
  | .leaPolicyRecord tenant inst body => some (ruleLeaPolicy, Schema.LeaPolicy, tenant, inst, body)
  | .lingTributaryRecord tenant inst body => some (ruleLingTrib, Schema.LingTrib, tenant, inst, body)
  | .lingMeterRecord tenant inst body => some (ruleLingMeter, Schema.LingMeter, tenant, inst, body)
  | .lingPolicyRecord tenant inst body => some (ruleLingPolicy, Schema.LingPolicy, tenant, inst, body)
  | .metroTributaryRecord tenant inst body => some (ruleMetroTrib, Schema.MetroTrib, tenant, inst, body)
  | .pulseOutputRecord tenant inst body => some (rulePulseOutput, Schema.PulseOutput, tenant, inst, body)
  | .eventRoutingRecord tenant inst body => some (ruleEventRouting, Schema.EventRouting, tenant, inst, body)
  | .triggerRecord tenant inst body => some (ruleTrigger, Schema.Trigger, tenant, inst, body)
  | .recorderPolicyRecord tenant inst body => some (ruleRecorderPolicy, Schema.RecorderPolicy, tenant, inst, body)
  | .pairRecord tenant inst body => some (rulePair, Schema.Pair, tenant, inst, body)
  | .backhaulPortRecord tenant inst body => some (ruleBackhaulPort, Schema.BackhaulPort, tenant, inst, body)
  | .headEndSessionRecord tenant inst body => some (ruleHeadEnd, Schema.HeadEnd, tenant, inst, body)
  | .powerPolicyRecord tenant inst body => some (rulePowerPolicy, Schema.PowerPolicy, tenant, inst, body)
  | .prepayClassRecord tenant inst body => some (rulePrepayClass, Schema.PrepayClass, tenant, inst, body)
  | .receiveChannelRecord tenant inst body => some (ruleRxChannel, Schema.RxChannel, tenant, inst, body)
  | .channelRecord tenant inst body => some (ruleChannelRx, Schema.Channel, tenant, inst, body)
  | .receptionPolicyRecord tenant inst body => some (ruleRxPolicy, Schema.RxPolicy, tenant, inst, body)
  | .sessionPolicyRecord tenant inst body => some (ruleSessionPolicy, Schema.SessionPolicy, tenant, inst, body)
  | .ledgerClassRecord tenant inst body => some (ruleLedgerClass, Schema.LedgerClass, tenant, inst, body)
  | .ledgerMeterRecord tenant inst body => some (ruleLedgerMeter, Schema.LedgerMeter, tenant, inst, body)
  | .prepayMeterRecord tenant inst body => some (rulePrepayMeter, Schema.PrepayMeter, tenant, inst, body)
  | .lockoutInputRecord tenant inst body => some (ruleLockoutInput, Schema.LockoutInput, tenant, inst, body)
  | .safeMeterRecord tenant inst body => some (ruleSafeMeter, Schema.SafeMeter, tenant, inst, body)
  | .safetyPolicyRecord tenant inst body => some (ruleSafetyPolicy, Schema.SafetyPolicy, tenant, inst, body)
  | .swardPolicyRecord tenant inst body => some (ruleSwardPolicy, Schema.SwardPolicy, tenant, inst, body)
  | .meterSecurityRecord tenant inst body => some (ruleMeterSec, Schema.MeterSec, tenant, inst, body)
  | .ruleTableRecord tenant inst body => some (ruleRuleTable, Schema.RuleTable, tenant, inst, body)
  | .securityPolicyRecord tenant inst body => some (ruleSecPolicy, Schema.SecPolicy, tenant, inst, body)
  | .partitionRecord tenant inst body => some (rulePartition, Schema.Partition, tenant, inst, body)
  | .storePolicyRecord tenant inst body => some (ruleStorePolicy, Schema.StorePolicy, tenant, inst, body)
  | .tariffPlanRecord tenant inst body => some (ruleTariffPlan, Schema.TariffPlan, tenant, inst, body)
  | .timeZoneRecord tenant inst body => some (ruleTimeZone, Schema.TimeZone, tenant, inst, body)
  | .profileClassRecord tenant inst body => some (ruleProfileClass, Schema.ProfileClass, tenant, inst, body)
  | .tenantRecord tenant inst body => some (ruleTenantRecord, Schema.Tenant, tenant, inst, body)
  | .timeReferenceRecord tenant inst body => some (ruleTimeRef, Schema.TimeRef, tenant, inst, body)
  | .timePolicyRecord tenant inst body => some (ruleTimePolicy, Schema.TimePolicy, tenant, inst, body)
  | .updatePolicyRecord tenant inst body => some (ruleUpdatePolicy, Schema.UpdatePolicy, tenant, inst, body)
  | .vaultPolicyRecord tenant inst body => some (ruleVaultPolicy, Schema.VaultPolicy, tenant, inst, body)
  | _ => none

/-- The state after n steps, if each answers one. -/
def Claims.steps : Nat → State → Option State
  | 0, s => some s
  | n + 1, s => match Machine.step s with
    | .next t => Claims.steps n t
    | _ => none

/-- A command that brings what the partner chip sent. -/
def Claims.fromPartner : Instr → Bool
  | .partnerMessageReceived .. => true
  | _ => false

/-! ### The statements -/

end Sys2Proof

open Sys2Proof Sys2Proof.Machine

/-- A step runs the command at the front of the queue. With a command at the front of the queue, a step is exec of that command
on the state with the queue's rest. R53 orders the commands of different channels by their doorbells; the queue is the
model's own (assumption 1). -/
def Obligations.StepRunsTheFrontCommand : Prop :=
  ∀ (c : Instr) (rest : List Instr) (s : State), s.pending = c :: rest → Machine.step s = Machine.exec c { s with pending := rest }

/-- On an empty queue a step changes nothing. With no command waiting, a step answers the same state. That the block idles there
is the model's choice (assumption 1): every tick of the spec is a command of its own. -/
def Obligations.StepIdlesOnEmptyQueue : Prop :=
  ∀ s : State, s.pending = [] → Machine.step s = .next s

/-- A part ships as revision B1 with firmware 5.2, the debug fuse intact and the vault empty. At reset the silicon revision is
B1, both image generations of chip and vault core hold version 5.2, the debug fuse is intact and the vault holds no key; the
mask ROM of a boot that finds the close flag, with the programming supply present, closes the fuse. -/
def Obligations.ShippedPart : Prop :=
  State.reset.arch.siliconLetter = 2 ∧ State.reset.arch.siliconDigit = 1 ∧
  (∀ c < 2, (State.reset.imageIn c .current).map Image.version = some 0x05020000 ∧
    (State.reset.imageIn c .other).map Image.version = some 0x05020000) ∧
  State.reset.arch.debugClosed = false ∧ State.reset.vault.copies = [] ∧
  (∀ s : State, s.pow.closeFlag = true → (s.bootRom 0 true).arch.debugClosed = true)

/-- What the state is right after power is applied. At reset nothing waits, no boot stage has begun, the mailbox is not ready and
has neither sessions nor channels, the chip does not serve, no event is queued or kept, no record has been written, the vault
still loads and every unit is off. -/
def Obligations.ResetLeavesTheBlockDark : Prop :=
  State.reset.pending = [] ∧ State.reset.pow.stage = 0 ∧ State.reset.mail.mailboxReady = false ∧ State.reset.mail.serviceReady = false ∧
  State.reset.mail.chans = [] ∧ State.reset.pair.serving = false ∧ State.reset.pair.st = .booting ∧ State.reset.ev.queue = [] ∧
  State.reset.ev.trail = [] ∧ State.reset.records = [] ∧ State.reset.vault.st = .loading ∧
  (∀ u : UnitId, State.reset.unitSt u = .off) ∧ (∀ f : Fld, ∀ i : Nat, State.reset.rd f i = f.dflt)

/-- The host window's buffers have their canonical form at reset. The list that holds the message buffers of the host window is
in canonical form right after reset: addresses rising, no byte listed that reads as an unlisted one does. -/
def Obligations.BuffersWellFormedAtReset : Prop :=
  State.reset.buffersWf = true

/-- Every command answers a next state. Whatever the command and the state, exec answers a next state: no command stops the block
with a fault or a refusal. -/
def Obligations.EveryCommandAnswers : Prop :=
  ∀ (c : Instr) (s : State), ∃ t, Machine.exec c s = .next t

/-- Every step keeps the host window's buffers in canonical form. From every state whose buffers are in canonical form, a step
that answers a next state leaves them so. -/
def Obligations.StepKeepsBuffersWellFormed : Prop :=
  ∀ s t : State, s.buffersWf = true → Machine.step s = .next t → t.buffersWf = true

/-- No step changes what part the chip is, and a closed debug fuse stays closed. Over every step the variant, the silicon
revision and the serial stay as they are, and a debug fuse that is closed stays closed: a fuse cannot be opened again. -/
def Obligations.StepKeepsThePart : Prop :=
  ∀ s t : State, Machine.step s = .next t →
    t.arch.variant = s.arch.variant ∧ t.arch.siliconLetter = s.arch.siliconLetter ∧ t.arch.siliconDigit = s.arch.siliconDigit ∧
    t.mail.serial = s.mail.serial ∧ (s.arch.debugClosed = true → t.arch.debugClosed = true)

/-- The commands that wait run one after the other, and nothing else enters or leaves the queue. As many steps as there are
commands at the front of the queue leave exactly the rest of the queue: each step takes the front one, and no command's
effect touches the queue. -/
def Obligations.QueueRunsInOrder : Prop :=
  ∀ (cs rest : List Instr) (s t : State), s.pending = cs ++ rest → Claims.steps cs.length s = some t → t.pending = rest

/-- Each of the 108 read commands answers its channel and changes nothing else. From an open session on a chip that is neither in
HELD nor saving, a read command answers the channel with what it reads of the state, and everything but the channel's own
mail is as it was: no read has a side effect on the block. -/
def Obligations.ReadsAnswer : Prop :=
  ∀ (i : Instr) (ch : Nat) (k : Cmd) (read : Caller → State → Reply), Claims.readOf i = some (ch, k, read) →
    ∀ (s : State) (r : Request) (c : Caller), Claims.Asked s ch k r c →
      ∃ t, Machine.exec i s = .next t ∧ Claims.Answered ch r (read c s) t ∧ Claims.Frame [.mail] s t ∧ ∀ n, n ≠ ch → t.chan n = s.chan n

/-- Each of 80 commands that act has the effect of its run and answers its channel, at once or once its journal entry has
committed. From an open session on a chip that is neither in HELD nor saving, the next state of each of 64 commands is that
of its own run, with the run's answer in the channel's response; the run makes its own checks (role, range, presence, state)
and gives the refusals in their order. Each of 16 commands whose change is journalled does the same, but where the run
journalled an entry that has not committed, the answer waits on the channel, and when the row occurs again once the entry has
committed, that answer is returned, whatever has become of the session. The order of the waiting, and the row's second
occurrence, are the model's (log entries 23 and 42). -/
def Obligations.CommandsAnswer : Prop :=
  (∀ (i : Instr) (ch : Nat) (k : Cmd) (run : Caller → State → Reply × State), Claims.runOf i = some (ch, k, run) →
    ∀ (s : State) (r : Request) (c : Caller), Claims.Asked s ch k r c →
      Machine.exec i s = .next ((run c s).2.respond ch r (run c s).1)) ∧
  (∀ (i : Instr) (ch : Nat) (k : Cmd) (run : Caller → State → Reply × State), Claims.commitOf i = some (ch, k, run) →
    ∀ (s : State) (r : Request) (c : Caller), Claims.Asked s ch k r c → (s.chan ch).await = none →
      Machine.exec i s = .next (
        let o := run c s
        if o.2.store.nextPos = s.store.nextPos ∨ o.2.posCommitted o.2.newestPos then o.2.respond ch r o.1
        else o.2.modChan ch fun x => { x with await := some (o.2.newestPos, o.1.status, o.1.slots, o.1.data) })) ∧
  (∀ (i : Instr) (ch : Nat) (k : Cmd) (run : Caller → State → Reply × State), Claims.commitOf i = some (ch, k, run) →
    ∀ (s : State) (r : Request) (p : Nat) (st : Status) (slots : List Nat) (data : List Byte), s.requestFor ch k = some r →
      (s.chan ch).await = some (p, st, slots, data) →
      Machine.exec i s = .next (if s.posCommitted p then s.respond ch r { status := st, slots := slots, data := data } else s))

/-- Each of the 51 records, once its fields and its rule accept it, is stored and takes its effect. A record whose length,
instance, fields and rule are accepted is stored under its identifier and instance for its tenant, in the accepted form, and
its rule's effect follows; one that is refused changes nothing. -/
def Obligations.RecordsApply : Prop :=
  ∀ (i : Instr) (rule : RecordRule) (k : Schema) (tenant inst : Nat) (body : List Byte), Claims.recordOf i = some (rule, k, tenant, inst, body) →
    ∀ s : State, (s.ownerFits rule tenant inst = false → Machine.exec i s = .next s) ∧
      (s.ownerFits rule tenant inst = true → match s.judgeRecord rule k tenant inst body.length body with
        | .accept new _ => Machine.exec i s = .next (rule.effect (s.storeRecord k.id inst tenant new) tenant inst (s.bodyOf k inst) new)
        | .refuse _ _ => Machine.exec i s = .next s)

/-- A command whose session is gone is answered NO_SESSION and changes nothing. Where a channel's request names a session that is
not the open one, the command is answered NO_SESSION, and everything but the mail is as it was. -/
def Obligations.CommandWithoutItsSessionIsTurnedAway : Prop :=
  ∀ (i : Instr) (ch : Nat) (k : Cmd), Claims.cmdOf i = some (ch, k) →
    ∀ (s : State) (r : Request), s.requestFor ch k = some r → s.caller ch r = none → (s.chan ch).await = none → s.vault.rngOk = true →
      ∃ t, Machine.exec i s = .next t ∧ ((t.chan ch).response.map fun y => y.status) = some .noSession ∧
        (t.chan ch).request = none ∧ Claims.Frame [.mail] s t

/-- In HELD every command of another domain is refused. A chip in HELD accepts reads and the commands of five domains; every
other command is answered REFUSED_STATE and changes nothing but the mail, or is answered one of the refusals that come before
the checks of the chip's state. -/
def Obligations.HeldTurnsCommandsAway : Prop :=
  ∀ (i : Instr) (ch : Nat) (k : Cmd), Claims.cmdOf i = some (ch, k) → k.heldAccepts = false →
    ∀ (s : State) (r : Request) (c : Caller), s.requestFor ch k = some r → s.caller ch r = some c → (s.chan ch).await = none → s.pow.stage = 0x0F →
      ∃ t y, Machine.exec i s = .next t ∧ (t.chan ch).request = none ∧ (t.chan ch).response = some y ∧
        (y.status.early = true ∨ (y.status = .refusedState ∧ Claims.Frame [.mail] s t))

/-- A command refused for its role changes nothing. Whatever the command, where it ends answered REFUSED_ROLE the block is as it
was but for the mail: a session cannot act on what its role may not touch. -/
def Obligations.RoleRefusalChangesNothing : Prop :=
  ∀ (i : Instr) (ch : Nat) (k : Cmd), Claims.cmdOf i = some (ch, k) →
    ∀ (s t : State) (r : Request) (c : Caller), Claims.Asked s ch k r c → Machine.exec i s = .next t → (t.chan ch).request = none →
      ((t.chan ch).response.map fun y => y.status) = some .refusedRole → Claims.Frame [.mail] s t

/-- A sealed tenant stays sealed until it is being released. Whatever the command, but for an entry that a serving partner sends
to its standby, a tenant that is SEALED before is SEALED or RELEASING after: no other command opens it. -/
def Obligations.ReleaseIsTheOnlyWayOutOfSealed : Prop :=
  ∀ (i : Instr) (s u : State) (tenant : Nat), (s.tenant tenant).st = .sealed → Claims.fromPartner i = false → Machine.exec i s = .next u →
    (u.tenant tenant).st = .sealed ∨ (u.tenant tenant).st = .releasing

/-- Every admitted event enters the trail, a ring of 16 384 entries that a chip reset keeps. Admitting the oldest raised event
appends its entry to the trail; where the trail holds 16 384 entries already, the oldest leaves and the overwrite is counted.
A chip reset that kept VAON keeps the trail. -/
def Obligations.TrailIsARing : Prop :=
  (∀ (s : State) (x : Raised) (rest : List Raised), s.ev.queue = x :: rest → s.ev.trail.length ≤ 16384 →
    ∃ t, Machine.exec .eventAdmitted s = .next t ∧
      t.ev.trail = (if s.ev.trail.length = 16384 then s.ev.trail.drop 1 else s.ev.trail) ++
        [⟨s.ev.nextSeq, x.ev, s.ev.lossPending, x.tenant, x.stamp, x.payload⟩] ∧
      (s.ev.trail.length = 16384 → Claims.Counted { name := .trailOverwrites } 1 s t) ∧
      (s.ev.trail.length ≠ 16384 → t.ctr { name := .trailOverwrites } = s.ctr { name := .trailOverwrites })) ∧
  (∀ (s : State) (x : Nat), s.pow.resetAfterSave = some x → s.pow.warn = .armed → s.pow.saveReset = false → s.pow.vaonLost = false →
    ∃ t, Machine.exec .warmReset s = .next t ∧ t.ev.trail = s.ev.trail)

/-- In D3hot with PME_En set the first selected wake condition signals, later ones only add their reason. In D3hot with PME_En
set, a wake condition that WakeMask selects sets PME_Status and adds its reason; the first one drives WAKE_N low too, and a
later one leaves it as it is. A condition that is not selected, or in any other state of the function, D3cold among them,
changes nothing. -/
def Obligations.WakeSignalsOnce : Prop :=
  (∀ (s : State) (n : Nat), s.pow.host = .d3hot → s.pow.pmeEn = true → 1 ≤ n → n ≤ 5 → bitOn s.pow.wakeMask n = true → s.pow.wakeReasons = 0 →
    ∃ t, Machine.exec (.wakeCondition n) s = .next t ∧ t.pow = { s.pow with wakeReasons := 2 ^ n, pmeStatus := true, wakeN := true } ∧
      Claims.Frame [.pow, .ctrs] s t) ∧
  (∀ (s : State) (n : Nat), s.pow.host = .d3hot → s.pow.pmeEn = true → 1 ≤ n → n ≤ 5 → bitOn s.pow.wakeMask n = true → s.pow.wakeReasons ≠ 0 →
    Machine.exec (.wakeCondition n) s = .next { s with pow := { s.pow with wakeReasons := s.pow.wakeReasons ||| 2 ^ n, pmeStatus := true } }) ∧
  (∀ (s : State) (n : Nat), s.pow.host ≠ .d3hot ∨ s.pow.pmeEn = false ∨ bitOn s.pow.wakeMask n = false →
    Machine.exec (.wakeCondition n) s = .next s)

/-- Frames within TLS carry the header of Table 25-1, and an unknown type or an overlong frame closes the session. What the
device sends is a type byte, three zero bytes, the length in four bytes and the body; a frame received on an open session
whose type is none of 1 to 5, or whose length is above 262 208, closes it, and it is tried again after a second. -/
def Obligations.UnknownFrameClosesTheSession : Prop :=
  (∀ (s : State) (i type : Nat) (body : List Byte),
    (s.sendFrame i type body).ports.wire = s.ports.wire ++ [(i, le 1 type ++ le 3 0 ++ le 4 body.length ++ body)]) ∧
  (∀ (s : State) (session type length : Nat) (body : List Byte), (s.headEnd session).st = .opened → type = 0 ∨ 5 < type ∨ 262208 < length →
    ∃ t, Machine.exec (.sessionFrameReceived session type length body) s = .next t ∧ (t.headEnd session).st = .waiting ∧
      (t.headEnd session).retryMs = s.time.ms + 1000)

/-- The recorder policy record holds HoldMaxS, clamped to 10 to 3 600, and nothing else. A 16-byte body written to instance 0
leaves HoldMaxS at the nearest value from 10 to 3 600 and every other bit of the record 0; before any write it reads 600; no
other instance exists; only the security officer writes it. -/
def Obligations.RecorderPolicyRecord : Prop :=
  (∀ (s : State) (body : List Byte), body.length = 16 → s.isReleasing 0 = false →
    ∃ t, Machine.exec (.recorderPolicyRecord 0 0 body) s = .next t ∧
      t.recInst 0x1202 0 = some ⟨0, min 3600 (max 10 (leAt body 0 2))⟩ ∧
      t.rd Rec.RecorderPolicy.HoldMaxS = min 3600 (max 10 (leAt body 0 2))) ∧
  (∀ s : State, s.recInst 0x1202 0 = none → s.rd Rec.RecorderPolicy.HoldMaxS = 600) ∧
  (∀ (s : State) (tenant inst : Nat) (body : List Byte), 1 ≤ inst → Machine.exec (.recorderPolicyRecord tenant inst body) s = .next s) ∧
  (∀ (s : State) (c : Caller) (tenant inst : Nat), (Claims.ruleOf 0x1202).writer s c tenant inst = c.isOfficer)

/-- The five built-in triggers are fixed. Triggers 32 to 36 are enabled and protected in every state, on the sources and with the
entries before and after that Table 20-3 gives, with a count of 1, no holdoff and no chosen words; a trigger record for one
of them changes nothing. -/
def Obligations.BuiltInTriggers : Prop :=
  (∀ (s : State) (i : Nat), 32 ≤ i → i ≤ 36 →
    (s.trigCfg i).enabled = true ∧ (s.trigCfg i).prot = true ∧ (s.trigCfg i).countN = 1 ∧ (s.trigCfg i).holdoffMs = 0 ∧
      (s.trigCfg i).selectors = [] ∧ (s.trigCfg i).mask = 0x1FF) ∧
  (∀ s : State, [32, 33, 34, 35, 36].map (fun i => ((s.trigCfg i).source, (s.trigCfg i).pre, (s.trigCfg i).post, (s.trigCfg i).postMs)) =
    [(Ev.chipFatal.source, 2024, 0, 0), (Ev.regionFatal.source, 1024, 1000, 2000), (Ev.vaultTamper.source, 1024, 1000, 2000),
     (Ev.vaultReset.source, 2024, 0, 0), (Ev.vaultDomainViolation.source, 512, 256, 500)]) ∧
  (∀ (s : State) (i tenant : Nat) (body : List Byte), 32 ≤ i → Machine.exec (.triggerRecord tenant i body) s = .next s)

/-- The vault binds a slot only for work charged to its domain. A binding request for a slot of one domain from work charged to
another gives no key, is counted, and raises the violation; a request of the domain's own work gives the key in force, and
none while the vault is not OPEN. -/
def Obligations.VaultBindsOnlyItsDomain : Prop :=
  (∀ (s : State) (d slot charged : Nat), charged ≠ d → Claims.Room s →
    (s.bind d slot charged).1 = none ∧ Claims.Counted { name := .vaultViolations, a := d } 1 s (s.bind d slot charged).2 ∧
      Claims.Raised .vaultDomainViolation (domainTenant d) [d, charged] s (s.bind d slot charged).2) ∧
  (∀ (s : State) (d slot : Nat) (c : VaultCopy), s.slotKey d slot = some c → (s.bind d slot d).1 = some c.key) ∧
  (∀ (s : State) (d slot : Nat), s.vault.st ≠ .opened → (s.bind d slot d).1 = none)

/-- The Ling interleaver places stream bit k at position (a k + b) mod P, and no two bits at one position. For a section of P
positions, a is the least number from floor(P / 4) + (seed · 40503 mod floor(P / 2)) on that has no factor in common with P,
b is seed · 977 mod P, and bit k goes to (a k + b) mod P; different bits below P go to different positions. -/
def Obligations.LingInterleaver : Prop :=
  ∀ (p seed : Nat), 2 ≤ p →
    let a0 := p / 4 + seed * 40503 % (p / 2)
    a0 ≤ (interleaver p seed).1 ∧ Nat.gcd (interleaver p seed).1 p = 1 ∧ (∀ a, a0 ≤ a → a < (interleaver p seed).1 → Nat.gcd a p ≠ 1) ∧
      (interleaver p seed).2 = seed * 977 % p ∧
      (∀ k, placeOf p seed k = ((interleaver p seed).1 * k + (interleaver p seed).2) % p) ∧
      (∀ j k, j < p → k < p → placeOf p seed j = placeOf p seed k → j = k)

/-- The fault events of chapter 2 run. On the states each clause names: a corrected error is counted; an error of kind 2 fences a
cell and says so; the end of probation takes a cell out of SLOW; a missed deadline revokes its ticket; the end of a region's
restart puts the region on; a stopping unit reaches OFF; an overrun is reported. Each answers a next state; where a clause
ends in a frame, every part of State that it does not name is as it was. The choices of the model that the clauses rest on
are in log entries 2, 100, 108, 135, 137, 144, 146, 147, 148, 149. -/
def Obligations.FaultEventsComplete : Prop :=
  (∀ (s : State) (unit n cause : Nat),
    s.unitHere unit = true →
    ∃ t, Machine.exec (.errorDetected 0 unit n cause) s = .next t ∧ Claims.Counted { name := .correctedErrors, a := unit } 1 s t ∧
      ((t.cell unit).fenced = (s.cell unit).fenced) ∧
      Claims.Frame [.ctrs, .arch, .time, .ev] s t) ∧
  (∀ (s : State) (unit n cause : Nat),
    s.unitHere unit = true →
    addrCell unit ≠ 0x3F →
    (s.cell unit).fenced = false →
    ∃ t, Machine.exec (.errorDetected 2 unit n cause) s = .next t ∧ ((t.cell unit).fenced = true) ∧
      s.ev.queue <+: t.ev.queue) ∧
  (∀ (s : State) (unit ticket item : Nat),
    s.unitHere unit = true →
    addrCell unit ≠ 0x3F →
    4 ≤ addrRegion unit →
    ticket ∉ s.arch.revoked →
    (s.cell unit).fenced = false →
    s.overdue unit ticket = true →
    s.rd Rec.FaultPolicy.SlowMisses > (s.cell unit).misses.length + 1 →
    ∃ t, Machine.exec (.workDeadlineMissed unit ticket item) s = .next t ∧ (t.arch.revoked = s.arch.revoked ++ [ticket]) ∧
      ((t.cell unit).misses.head? = some s.time.ms) ∧
      ((t.arch.work.any (fun w => w.item == ((s.arch.work.find? fun w => w.ticket == ticket).map WorkItem.item).getD item) || t.arch.held.any fun w => w.item == ((s.arch.work.find? fun w => w.ticket == ticket).map WorkItem.item).getD item) = true) ∧
      Claims.Frame [.ctrs, .arch] s t) ∧
  (∀ (s : State) (unit : Nat),
    (s.cell unit).slow = true →
    (s.cell unit).slowSince + s.rd Rec.FaultPolicy.ProbationMs ≤ s.time.ms →
    ∃ t, Machine.exec (.probationEnd unit) s = .next t ∧ ((t.cell unit).slow = false) ∧
      Claims.Frame [.arch] s t) ∧
  (∀ (s : State) (region : Nat),
    (Map.getD s.arch.regions region {}).st = .restarting →
    region ≠ 7 →
    region ≠ 9 →
    (Map.getD s.arch.regions region {}).lanes = [] →
    Claims.Room s →
    ∃ t, Machine.exec (.regionRestartDone region) s = .next t ∧ ((Map.getD t.arch.regions region {}).st = .on) ∧
      Claims.Raised .regionRestarted 0 [region, s.time.ms - (Map.getD s.arch.regions region {}).began] s t ∧
      Claims.Frame [.arch, .time, .ev] s t) ∧
  (∀ (s : State) (n : Nat) (held : Bool),
    (s.unit (.dcBlock n)).st = .stopping held →
    ∃ t, Machine.exec (.unitEndState 3 n) s = .next t ∧ (t.unitSt (.dcBlock n) = if held then .starting else .off) ∧
      (t.records = s.records)) ∧
  (∀ (s : State) (n : Nat) (held : Bool),
    (s.unit (.dcBlock n)).st = .stopping held →
    (s.unit (.dcBlock n)).stopAt + (UnitId.dcBlock n).stopBound < s.time.ms →
    Claims.Room s →
    ∃ t, Machine.exec (.unitStopOverrun 3 n) s = .next t ∧ ((t.unit (.dcBlock n)).fenced = true) ∧
      (t.unitSt (.dcBlock n) = .off) ∧
      s.ev.queue <+: t.ev.queue)

/-- The lane events of chapter 4 run. On the states each clause names: losing a lane's clock recovery or its superframes takes
the lane back to STARTING; the steps of a start go on, fail, and are tried again; a start that takes too long says so once;
the second's FEC count starts again; the frequency window closes; a control message that fails its CRC is counted, and one
that waits too long is sent again; a superframe is counted. Each answers a next state; where a clause ends in a frame, every
part of State that it does not name is as it was. The choices of the model that the clauses rest on are in log entries 22,
155. -/
def Obligations.LaneEventsComplete : Prop :=
  (∀ (s : State) (lane cause : Nat),
    s.laneOn lane = true →
    cause ≤ 2 →
    Claims.Room s →
    ∃ t, Machine.exec (.laneLockLost lane cause) s = .next t ∧ (t.laneSt lane = .starting) ∧
      ((t.lane lane).step = cause + 1) ∧
      ((t.lane lane).sfLock = false) ∧
      Claims.Frame [.arch, .lanes, .ctrs, .time, .ev] s t) ∧
  (∀ (s : State) (lane : Nat),
    s.laneStarting lane = true →
    (s.lane lane).step = 1 →
    ∃ t, Machine.exec (.laneStartStepDone lane) s = .next t ∧ ((t.lane lane).step = 2) ∧
      ((t.lane lane).stepMs = s.time.ms) ∧
      (t.laneSt lane = .starting) ∧
      Claims.Frame [.lanes] s t) ∧
  (∀ (s : State) (lane : Nat),
    s.laneStarting lane = true →
    (s.lane lane).stepFailed s.time.ms = true →
    Machine.exec (.laneStartStepFailed lane) s = .next (s.setLane lane { s.lane lane with step := 6, stepMs := s.time.ms, reqs := [], sfLock := false, good := 0, bad := 0 })) ∧
  (∀ (s : State) (lane : Nat),
    s.laneStarting lane = true →
    (s.lane lane).stepMs + s.rd Rec.Lane.RetryIntervalMs lane ≤ s.time.ms →
    (s.lane lane).step = 6 →
    Machine.exec (.laneRetryExpiry lane) s = .next (s.setLane lane { s.lane lane with step := 1, stepMs := s.time.ms })) ∧
  (∀ (s : State) (lane : Nat),
    s.laneStarting lane = true →
    (s.lane lane).startFailed = false →
    (s.lane lane).refused = false →
    (s.lane lane).startMs + s.rd Rec.Lane.StartTimeoutMs lane ≤ s.time.ms →
    Claims.Room s →
    ∃ t, Machine.exec (.laneStartTimeout lane) s = .next t ∧ ((t.lane lane).startFailed = true) ∧
      Claims.Raised .laneStartFailed 0 [lane, (s.lane lane).step] s t ∧
      Claims.Counted { name := .laneStartCount, a := lane } 1 s t ∧
      Claims.Frame [.lanes, .ctrs, .time, .ev] s t) ∧
  (∀ (s : State) (lane : Nat),
    s.laneOn lane = true →
    (s.lane lane).lastFecS ≠ some s.nowS →
    s.rd Rec.Lane.FecUncorrPerS lane ≤ (s.lane lane).uncorrSec →
    Claims.Room s →
    ∃ t, Machine.exec (.fecSecondTick lane) s = .next t ∧ ((t.lane lane).uncorrSec = 0) ∧
      ((t.lane lane).lastFecS = some s.nowS) ∧
      Claims.Raised .laneFecDegraded 0 [lane, (s.lane lane).uncorrSec] s t ∧
      Claims.Frame [.lanes, .ctrs, .time, .ev] s t) ∧
  (∀ (s : State) (lane : Nat),
    (s.lane lane).lastFecS ≠ some s.nowS →
    (s.lane lane).uncorrSec < s.rd Rec.Lane.FecUncorrPerS lane →
    Machine.exec (.fecSecondTick lane) s = .next (s.setLane lane { s.lane lane with uncorrSec := 0, lastFecS := some s.nowS })) ∧
  (∀ (s : State) (lane t0 : Nat) (p0 : Int),
    (s.lane lane).window = some (t0, p0) →
    97656 ≤ (s.lane lane).windowCount →
    ∃ t, Machine.exec (.freqWindowEnd lane) s = .next t ∧ ((t.lane lane).windowCount = 0) ∧
      ((t.lane lane).window = some ((s.lane lane).lastRx, (s.lane lane).path)) ∧
      Claims.Frame [.lanes, .ctrs, .time, .ev] s t) ∧
  (∀ (s : State) (lane : Nat) (msg : List Byte) (rest : List (List Byte)),
    (s.lane lane).inbox = msg :: rest →
    (s.lane lane).reqs.any (fun r => r.seq == leAt msg 2 2) = false →
    Machine.exec (.controlMessageReceived lane) s = .next (s.setLane lane { s.lane lane with inbox := rest })) ∧
  (∀ (s : State) (lane : Nat) (msg : List Byte) (rest : List (List Byte)) (x : CtrlReq),
    (s.lane lane).inbox = msg :: rest →
    leAt msg 0 1 = 2 →
    (s.lane lane).reqs.find? (fun r => r.seq == leAt msg 2 2) = some x →
    x.owner = .identify →
    (headIdOf (slice msg 8 (leAt msg 4 2))).kind ≠ 2 →
    Machine.exec (.controlMessageReceived lane) s = .next (s.setLane lane { s.lane lane with inbox := rest, reqs := (s.lane lane).reqs.filter (fun r => !(r.seq == x.seq)), head := some (headIdOf (slice msg 8 (leAt msg 4 2))) })) ∧
  (∀ (s : State) (lane seq : Nat) (x : CtrlReq),
    (s.lane lane).reqs.find? (fun r => r.seq == seq) = some x →
    x.resends < 3 →
    x.firstMs + x.resends + 1 ≤ s.time.ms →
    Machine.exec (.controlMessageResend lane seq) s = .next (s.setLane lane { s.lane lane with reqs := (s.lane lane).reqs.map (fun r => if r.seq == seq then { r with resends := r.resends + 1 } else r), outbox := (s.lane lane).outbox ++ [ctrlMessage x.msgType x.tributary x.seq x.body] })) ∧
  (∀ (s : State) (lane seq : Nat) (x : CtrlReq),
    (s.lane lane).reqs.find? (fun r => r.seq == seq) = some x →
    3 ≤ x.resends →
    x.firstMs + 5 ≤ s.time.ms →
    x.owner = .identify ∨ x.owner = .tribList →
    Machine.exec (.controlMessageResend lane seq) s = .next (s.setLane lane { s.lane lane with reqs := (s.lane lane).reqs.filter (fun r => !(r.seq == seq)), identifyFailed := true })) ∧
  (∀ (s : State) (lane : Nat) (bytes : List Byte) (spacing tRx : Nat) (fec : List Nat),
    s.laneOn lane = false →
    s.laneStarting lane = false ∨ (s.lane lane).step < 3 ∨ 5 < (s.lane lane).step →
    Machine.exec (.superframeReceived lane bytes spacing tRx fec) s = .next (s)) ∧
  (∀ (s : State) (lane : Nat) (bytes : List Byte) (spacing tRx : Nat) (fec : List Nat),
    s.laneOn lane = false →
    s.laneStarting lane = true →
    (s.lane lane).step = 3 →
    (s.lane lane).sfLock = false →
    headerValid (bytes.take 64) = true →
    spacing = 2048000 →
    ∃ t, Machine.exec (.superframeReceived lane bytes spacing tRx fec) s = .next t ∧ Claims.Counted { name := .laneSuperframes, a := lane } 1 s t ∧
      ((t.lane lane).good = (s.lane lane).good + 1) ∧
      ((t.lane lane).sfLock = decide (2 ≤ (s.lane lane).good)) ∧
      Claims.Frame [.lanes, .ctrs] s t) ∧
  (∀ (s : State) (lane : Nat) (bytes : List Byte) (spacing tRx : Nat) (fec : List Nat),
    s.laneOn lane = false →
    s.laneStarting lane = true →
    (s.lane lane).step = 3 →
    (s.lane lane).sfLock = false →
    headerValid (bytes.take 64) = false →
    ∃ t, Machine.exec (.superframeReceived lane bytes spacing tRx fec) s = .next t ∧ Claims.Counted { name := .laneSuperframes, a := lane } 1 s t ∧
      Claims.Counted { name := .laneHdrCrc, a := lane } 1 s t ∧
      ((t.lane lane).good = 0) ∧
      ((t.lane lane).sfLock = false) ∧
      Claims.Frame [.lanes, .ctrs] s t) ∧
  (∀ (s : State) (lane : Nat) (bytes : List Byte) (spacing tRx : Nat) (fec : List Nat),
    s.laneOn lane = true →
    (s.lane lane).sfLock = true →
    headerValid (bytes.take 64) = true →
    headerUp (bytes.take 64) = true →
    s.serving = false →
    ∃ t, Machine.exec (.superframeReceived lane bytes spacing tRx fec) s = .next t ∧ (((Map.get? t.pair.witness lane).map Witness.word = some (leAt (bytes.take 64) 20 8))) ∧
      (((t.lane lane).hdr = headerOf (bytes.take 64))) ∧
      (t.records = s.records))

/-- The channel filter events of chapter 5 run. On the states each clause names: a starting DC-block whose streams have their
unflagged samples is ON with their means and says so; a DC-block frozen for ten minutes says so once, with the cause; a
capture whose air time or event has come begins; an active capture that has its samples or is past its duration, and a
stopped one, is DONE with what it has taken and its gap list, and says so. Each answers a next state; where a clause ends in
a frame, every part of State that it does not name is as it was. The choices of the model that the clauses rest on are in log
entry 29. -/
def Obligations.FilterEventsComplete : Prop :=
  (∀ (s : State) (target : Nat),
    s.unitSt (.dcBlock target) = .starting →
    (s.dcKeys target).all (fun k => decide (s.dcNeed target ≤ (Map.getD (s.dcOf target).sums k ({}, 0)).2)) = true →
    Claims.Room s →
    ∃ t, Machine.exec (.dcBlockReady target) s = .next t ∧ (t.unitSt (.dcBlock target) = .on) ∧
      ((t.dcOf target).est = (s.dcKeys target).map fun k => (k, { re := (Map.getD (s.dcOf target).sums k ({}, 0)).1.re * (2 ^ dcFrac target : Nat) / (Map.getD (s.dcOf target).sums k ({}, 0)).2, im := (Map.getD (s.dcOf target).sums k ({}, 0)).1.im * (2 ^ dcFrac target : Nat) / (Map.getD (s.dcOf target).sums k ({}, 0)).2 })) ∧
      ((t.dcOf target).sums = []) ∧
      ((t.dcOf target).longRaised = false) ∧
      Claims.Raised .filtDcStarted 0 [target, (s.dcOf target).reason] s t ∧
      Claims.Frame [.arch, .filt, .ctrs, .time, .ev] s t) ∧
  (∀ (s : State) (target : Nat),
    s.unitSt (.dcBlock target) ≠ .starting →
    Machine.exec (.dcBlockReady target) s = .next (s)) ∧
  (∀ (s : State) (target since st : Nat),
    (s.dcOf target).frozen = some (since, st) →
    (s.dcOf target).longRaised = false →
    since + 600000 ≤ s.time.ms →
    Claims.Room s →
    ∃ t, Machine.exec (.dcFreezeLong target) s = .next t ∧ ((t.dcOf target).longRaised = true) ∧
      Claims.Raised .filtDcFrozenLong 0 [target, if (s.dcOf target).cmdFreeze then 0 else 1] s t ∧
      Claims.Frame [.filt, .ctrs, .time, .ev] s t) ∧
  (∀ (s : State) (target since st : Nat),
    (s.dcOf target).frozen = some (since, st) →
    (s.dcOf target).longRaised = true ∨ s.time.ms < since + 600000 →
    Machine.exec (.dcFreezeLong target) s = .next (s)) ∧
  (∀ (s : State) (id : Nat) (x : Capture),
    s.filt.captures.find? (fun y => y.id == id) = some x →
    x.st = .waiting →
    x.start = 1 →
    x.at' ≤ s.time.air →
    Machine.exec (.captureBegin id) s = .next (s.setCapture { x with st := .active, startStamp := s.stamp, startAir := s.time.air })) ∧
  (∀ (s : State) (id e : Nat) (x : Capture),
    s.filt.captures.find? (fun y => y.id == id) = some x →
    x.st = .waiting →
    x.start = 2 →
    Map.get? s.ev.lastStamp x.at' = some e →
    x.reqStamp ≤ e →
    Machine.exec (.captureBegin id) s = .next (s.setCapture { x with st := .active, startStamp := s.stamp, startAir := s.time.air })) ∧
  (∀ (s : State) (id : Nat) (x : Capture),
    s.filt.captures.find? (fun y => y.id == id) = some x →
    x.st = .active →
    x.wanted ≤ x.taken ∨ x.startAir + x.durationUs * 2000 + captureLag ≤ s.time.air →
    Claims.Room s →
    ∃ t, Machine.exec (.captureDone id) s = .next t ∧ (t.filt.captures.find? (fun y => y.id == id) = some x.filled.ended) ∧
      Claims.Raised .filtCaptureDone 0 [id, x.filled.ended.samples, bit x.filled.ended.truncated, x.filled.ended.gaps.length] s t ∧
      Claims.Frame [.filt, .ctrs, .time, .ev] s t) ∧
  (∀ (s : State) (id : Nat) (x : Capture),
    s.filt.captures.find? (fun y => y.id == id) = some x →
    x.st = .stopped →
    Claims.Room s →
    ∃ t, Machine.exec (.captureDone id) s = .next t ∧ (t.filt.captures.find? (fun y => y.id == id) = some x.ended) ∧
      Claims.Raised .filtCaptureDone 0 [id, x.ended.samples, bit x.ended.truncated, x.ended.gaps.length] s t ∧
      Claims.Frame [.filt, .ctrs, .time, .ev] s t) ∧
  (∀ (s : State) (id : Nat) (x : Capture),
    s.filt.captures.find? (fun y => y.id == id) = some x →
    x.st = .waiting ∨ x.st = .done →
    Machine.exec (.captureDone id) s = .next (s))

/-- The reception events of chapters 6 and 7 run. On the states each clause names: a booking within its ranges and limits, once
the region is ready, is taken under the next number, and one before is refused; a booking whose OpenAt has come takes the
first free context, in STARTING; a watcher's metric at or above its threshold plus DetectMargin opens a context in
retrospect; a detection that waited too long is dropped and counted; a retro context that caught up searches; a frame found
within window and search is tracked with its branches' estimates; a window that passes without a frame ends its context with
outcome 1; the alignment deadline takes the context to FINAL without its late branches; decoding ends the context with what
it gave; a context freed is off, or takes what its entry held. The thresholds are free values (log entry 165). Each answers a
next state; where a clause ends in a frame, every part of State that it does not name is as it was. The choices of the model
that the clauses rest on are in log entries 33, 35, 36, 37, 165, 168, 169. -/
def Obligations.ReceptionEventsComplete : Prop :=
  (∀ (s : State) (meter group headMask mode openAt closeAt maxFrameMs freqExpect freqSpan tenant : Nat),
    s.time.air + 5 * airPerMs ≤ openAt →
    openAt ≤ s.time.air + 600000 * airPerMs →
    openAt + airPerMs ≤ closeAt →
    closeAt ≤ openAt + 60000 * airPerMs →
    (⟨meter, group, headMask, mode, openAt, closeAt, maxFrameMs, freqExpect, freqSpan, tenant⟩ : Booking).inRange = true →
    s.rxReady = true →
    s.bookingBound ⟨meter, group, headMask, mode, openAt, closeAt, maxFrameMs, freqExpect, freqSpan, tenant⟩ = none →
    ∃ t, Machine.exec (.bookingRequest meter group headMask mode openAt closeAt maxFrameMs freqExpect freqSpan tenant) s = .next t ∧ ((t.rx.booked.map fun x => (x.id, x.b)) = (s.rx.booked.map fun x => (x.id, x.b)) ++ [(s.rx.nextId, ⟨meter, group, headMask, mode, openAt, closeAt, maxFrameMs, freqExpect, freqSpan, tenant⟩)]) ∧
      (t.rx.nextId = s.rx.nextId + 1) ∧
      Claims.Counted { name := .rxBookings, a := group } 1 s t ∧
      Claims.Frame [.rx, .ctrs] s t) ∧
  (∀ (s : State) (meter group headMask mode openAt closeAt maxFrameMs freqExpect freqSpan tenant : Nat),
    s.rxReady = false →
    Machine.exec (.bookingRequest meter group headMask mode openAt closeAt maxFrameMs freqExpect freqSpan tenant) s = .next (s.refuseBooking group none)) ∧
  (∀ (s : State) (id n : Nat) (x : Booked),
    s.rx.booked.find? (fun y => y.id == id) = some x →
    x.b.openAt ≤ s.time.air →
    s.regionOn 4 = true →
    s.bookedFits x = true →
    s.freeCtx = some n →
    x.listen = false →
    ∃ t, Machine.exec (.contextOpenDue id) s = .next t ∧ (((t.ctx n).map fun c => (c.st, c.id, c.b)) = some (.starting, x.id, x.b)) ∧
      (t.rx.booked = s.rx.booked.filter (fun y => !(y.id == x.id))) ∧
      Claims.Frame [.rx, .arch, .ctrs, .ten] s t) ∧
  (∀ (s : State) (id : Nat) (x : Booked),
    s.rx.booked.find? (fun y => y.id == id) = some x →
    s.time.air < x.b.openAt →
    Machine.exec (.contextOpenDue id) s = .next (s)) ∧
  (∀ (s : State) (group channel antenna mode startAir n k : Nat),
    s.watches group channel antenna mode = true →
    modeRetro mode = true →
    (s.rx.detMs.filter fun m => decide (s.time.ms < m + 1000)).length < 131072 →
    s.mergesInto group startAir = false →
    s.retroFits { group := group, channel := channel, antenna := antenna, mode := mode, startAir := startAir, ms := s.time.ms, air := s.time.air, pol := s.rxPol mode } = true →
    s.freeCtx = some n →
    ∃ t, Machine.exec (.watcherDetection group channel antenna mode startAir (Config.watchThreshold mode + s.rdS Rec.RxPolicy.DetectMargin + k)) s = .next t ∧ (((t.ctx n).map fun c => (c.st, c.origin, c.frameStart)) = some (.starting, 1, some startAir)) ∧
      (t.unitSt (.context n) = .starting) ∧
      Claims.Frame [.rx, .arch, .ctrs, .ten] s t) ∧
  (∀ (s : State) (group channel antenna mode startAir : Nat) (metric : Int),
    s.watches group channel antenna mode = false →
    Machine.exec (.watcherDetection group channel antenna mode startAir metric) s = .next (s)) ∧
  (∀ (s : State) (group : Nat) (d : Detection),
    s.rx.detections.find? (fun d => d.group == group && decide (d.ms + (60 - modeLagMs d.mode) ≤ s.time.ms)) = some d →
    Map.get? s.rx.dropMs group = none →
    Claims.Room s →
    ∃ t, Machine.exec (.detectionDrop group) s = .next t ∧ (t.rx.detections = s.rx.detections.erase d) ∧
      Claims.Counted { name := .rxDropped, a := group } 1 s t ∧
      Claims.Raised .rxDetectDropped 0 [group, Map.getD s.rx.dropCount group 0 + 1] s t ∧
      Claims.Frame [.rx, .ctrs, .time, .ev] s t) ∧
  (∀ (s : State) (ctx : Nat) (x : RxCtx),
    s.ctx ctx = some x →
    x.origin = 1 →
    x.st = .starting →
    Machine.exec (.retroCatchUp ctx) s = .next ((s.setCtx ctx { x with caughtUp := true, st := .search }).setUnit (.context ctx) { s.unit (.context ctx) with st := .on })) ∧
  (∀ (s : State) (ctx startAir k : Nat) (freqHz : Int) (formatB : Bool) (metrics : List Nat) (gains : List Int) (noise : List Nat) (tau : List Int) (x : RxCtx),
    s.ctx ctx = some x →
    x.origin = 0 →
    x.st = .search ∨ x.st = .starting →
    x.branches ≠ [] →
    x.b.openAt ≤ startAir →
    startAir ≤ x.b.closeAt →
    x.searches freqHz = true →
    s.sameFrameCtxs ctx x.b.group startAir = [] →
    s.rx.detections = [] →
    ∃ t, Machine.exec (.contextFrameDetected ctx startAir freqHz formatB ((Config.searchThreshold x.b.mode x.branches.length + k) :: metrics) gains noise tau) s = .next t ∧ (((t.ctx ctx).map fun c => (c.st, c.frameStart, c.detectAir, c.branches)) = some (.track, some startAir, s.time.air, (x.estimates gains noise tau).map Prod.fst)) ∧
      (t.unitSt (.context ctx) = .on) ∧
      Claims.Frame [.rx, .arch] s t) ∧
  (∀ (s : State) (ctx startAir : Nat) (freqHz : Int) (formatB : Bool) (metrics : List Nat) (gains : List Int) (noise : List Nat) (tau : List Int) (x : RxCtx),
    s.ctx ctx = some x →
    x.origin = 1 →
    x.st = .search ∨ x.st = .starting →
    x.searches freqHz = true →
    s.sameFrameCtxs ctx x.b.group startAir = [] →
    s.rx.detections = [] →
    Machine.exec (.contextFrameDetected ctx startAir freqHz formatB metrics gains noise tau) s = .next (s.takeFrame ctx startAir x freqHz formatB (x.estimates gains noise tau))) ∧
  (∀ (s : State) (ctx : Nat) (x : RxCtx),
    s.ctx ctx = some x →
    x.origin = 0 →
    x.st = .search ∨ x.st = .starting →
    x.b.closeAt + modeLagMs x.b.mode * airPerMs ≤ s.time.air →
    ∃ t, Machine.exec (.contextNoFrame ctx) s = .next t ∧ (((t.ctx ctx).map fun c => (c.st, c.outcome)) = some (.stopping, some 1)) ∧
      ((t.rx.outcomes.getLast?.map fun y => (y.id, y.outcome)) = some (x.id, 1)) ∧
      (t.unitSt (.context ctx) = .stopping false) ∧
      Claims.Frame [.rx, .arch, .ctrs] s t) ∧
  (∀ (s : State) (ctx endAir : Nat) (x : RxCtx),
    s.ctx ctx = some x →
    x.st = .track →
    x.deadline endAir ≤ s.time.air →
    ∃ t, Machine.exec (.alignDeadline ctx endAir) s = .next t ∧ (((t.ctx ctx).map fun c => (c.st, c.endAir, c.late)) = some (.final, some endAir, x.lateAt endAir)) ∧
      (((t.ctx ctx).map fun c => c.pass) = some ({ x with st := .final, endAir := some endAir, late := x.lateAt endAir } : RxCtx).finalPass)) ∧
  (∀ (s : State) (ctx endAir : Nat) (x : RxCtx),
    s.ctx ctx = some x →
    x.st ≠ .track →
    Machine.exec (.alignDeadline ctx endAir) s = .next (s)) ∧
  (∀ (s : State) (ctx lead : Nat) (soft : List Int) (combinedSnr bestLevel : Int) (x : RxCtx),
    s.ctx ctx = some x →
    x.st = .final →
    x.origin = 0 →
    2 < x.b.mode →
    ∃ t, Machine.exec (.decodeDone ctx lead soft combinedSnr bestLevel) s = .next t ∧ (((t.ctx ctx).map fun c => (c.st, c.outcome)) = some (.stopping, some (x.decode lead soft).1)) ∧
      ((t.rx.outcomes.getLast?.map fun y => (y.id, y.outcome)) = some (x.id, (x.decode lead soft).1)) ∧
      (((x.decode lead soft).1 = 0 → (t.rx.toSecurity.getLast?.map fun y => (y.frame, y.mode)) = some ((x.decode lead soft).2, x.b.mode))) ∧
      Claims.Frame [.rx, .arch, .ctrs] s t) ∧
  (∀ (s : State) (ctx lead : Nat) (soft : List Int) (combinedSnr bestLevel : Int) (x : RxCtx),
    s.ctx ctx = some x →
    x.st ≠ .final →
    Machine.exec (.decodeDone ctx lead soft combinedSnr bestLevel) s = .next (s)) ∧
  (∀ (s : State) (ctx : Nat) (x : RxCtx),
    s.ctx ctx = some x →
    x.st = .stopping →
    x.held = none →
    s.rx.booked = [] →
    s.rx.detections = [] →
    Machine.exec (.contextFree ctx) s = .next ({ s with rx := { s.rx with ctxs := Map.del s.rx.ctxs ctx } }.setUnit (.context ctx) { s.unit (.context ctx) with st := .off, deferred := false })) ∧
  (∀ (s : State) (ctx : Nat) (x : RxCtx) (y : Booked),
    s.ctx ctx = some x →
    x.st = .stopping →
    x.held = some (.booking y) →
    Machine.exec (.contextFree ctx) s = .next (({ s with rx := { s.rx with ctxs := Map.del s.rx.ctxs ctx } }.setUnit (.context ctx) { s.unit (.context ctx) with st := .off, deferred := false }).openBooked ctx y 1)) ∧
  (∀ (s : State) (ctx : Nat) (x : RxCtx),
    s.ctx ctx = some x →
    x.st ≠ .stopping →
    Machine.exec (.contextFree ctx) s = .next (s))

/-- The poll plan events of chapter 8 run. On the states each clause names: a poll that falls due waits with the class's request
and the meter's priority; a poll past its deadline is late once; held polls are released at the policy's rate; a planned poll
is deferred where its LEA channel does not carry the rate, and launched where an aim can be met; a committed launch is locked
ahead of its start; a locked launch whose start has come goes on air, leaves the queue and is counted, and without its region
or lane its outcome is unknown; an answered booking is remembered and a follow-on command is launched after the turn time.
Each answers a next state; where a clause ends in a frame, every part of State that it does not name is as it was. The
choices of the model that the clauses rest on are in log entries 26, 35, 45, 46, 47, 49, 50, 51, 87, 111, 168. -/
def Obligations.PollEventsComplete : Prop :=
  (∀ (s : State) (slot : Nat),
    s.planned slot = true →
    (s.plan slot).lastDue < s.dueAt slot s.legalS →
    (s.plan slot).poll = none →
    s.journals = false →
    ∃ t, Machine.exec (.pollDue slot) s = .next t ∧ ((t.plan slot).poll = some { due := s.dueAt slot s.legalS, request := s.rd Rec.MeterClass.Request (s.planClass slot), priority := s.rd Rec.MeterPlan.Priority slot }) ∧
      ((t.plan slot).lastDue = s.dueAt slot s.legalS) ∧
      Claims.Frame [.air] s t) ∧
  (∀ (s : State) (slot : Nat) (q : PendPoll),
    (s.plan slot).poll = some q →
    q.late = false →
    q.due + s.rd Rec.MeterClass.PollDeadlineS (s.planClass slot) ≤ s.legalS →
    Claims.Room s →
    ∃ t, Machine.exec (.pollLate slot) s = .next t ∧ ((t.plan slot).poll = some { q with late := true }) ∧
      Claims.Raised .airPollLate (s.meterTenant slot) [slot, q.due, slotOpt q.cause] s t ∧
      Claims.Frame [.air, .ctrs, .time, .ev, .store, .ports] s t) ∧
  (∀ (s : State) (slot : Nat) (p : PlanMeter) (q : PendPoll),
    s.serving = true →
    s.air.plans = [(slot, p)] →
    p.poll = some q →
    q.held = true →
    s.air.releaseMs = none →
    1 ≤ s.rd Rec.AirPolicy.RecoveryPerS →
    ∃ t, Machine.exec (.recoveryRelease) s = .next t ∧ ((t.plan slot).poll = some { q with held := false }) ∧
      (t.air.releaseMs = some s.time.ms) ∧
      Claims.Frame [.air] s t) ∧
  (∀ (s : State) (slot : Nat) (q : PendPoll),
    s.planned slot = true →
    s.lingOnly slot = false →
    s.serving = true →
    (s.plan slot).out = none →
    (s.plan slot).poll = some q →
    q.held = false →
    s.leaRateOn (s.rd Rec.MeterPlan.LeaChannel slot) (s.rd Rec.MeterClass.Rate (s.planClass slot)) = false →
    ∃ t, Machine.exec (.pollPlanned slot) s = .next t ∧ ((t.plan slot).poll = some { q with cause := some DeferCause.lea.code }) ∧
      Claims.Frame [.air, .ctrs, .store, .ports] s t) ∧
  (∀ (s : State) (slot : Nat),
    s.planned slot = true →
    s.lingOnly slot = false →
    s.serving = true →
    (s.plan slot).out = none →
    ((s.plan slot).poll.map PendPoll.held).getD false = false →
    s.leaRateOn (s.rd Rec.MeterPlan.LeaChannel slot) (s.rd Rec.MeterClass.Rate (s.planClass slot)) = true →
    s.bandHolds (s.planBand slot) (s.rd Rec.LeaChannel.CentreHz (s.rd Rec.MeterPlan.LeaChannel slot)) (occHalf (s.rd Rec.MeterClass.Rate (s.planClass slot))) = true →
    (s.launchFirst slot (s.aims slot).learning (s.aims slot).list none).isOk = true →
    ∃ t, Machine.exec (.pollPlanned slot) s = .next t ∧ ((s.launchFirst slot (s.aims slot).learning (s.aims slot).list none).toOption.map (fun u => u.carryPlan slot) = some t)) ∧
  (∀ (s : State) (id : Nat) (e : Launch),
    s.air.queue.find? (fun x => x.id == id) = some e →
    e.locked = false →
    e.start ≤ s.time.air + s.rd Rec.AirPolicy.LaunchLockMs * airPerMs →
    s.posCommitted e.position = true →
    Machine.exec (.launchLock id) s = .next (({ s with air := { s.air with queue := s.air.queue.map fun (x : Launch) => if x.id = id then { x with locked := true } else x } } : State).carryLaunch e)) ∧
  (∀ (s : State) (id : Nat) (e : Launch),
    s.air.queue.find? (fun x => x.id == id) = some e →
    e.locked = false →
    e.start ≤ s.time.air + s.rd Rec.AirPolicy.LaunchLockMs * airPerMs →
    s.posCommitted e.position = false →
    e.meter = none →
    Machine.exec (.launchLock id) s = .next ((s.withdrawLaunch e).carryLaunch e)) ∧
  (∀ (s : State) (id : Nat) (e : Launch),
    s.air.queue.find? (fun x => x.id == id) = some e →
    e.locked = true ∨ s.time.air + s.rd Rec.AirPolicy.LaunchLockMs * airPerMs < e.start →
    Machine.exec (.launchLock id) s = .next (s)) ∧
  (∀ (s : State) (id : Nat) (e : Launch),
    s.air.queue.find? (fun x => x.id == id) = some e →
    e.locked = true →
    e.start ≤ s.time.air →
    s.regionOn 5 = true →
    s.laneOn e.head = true →
    s.timed e.head = true →
    (s.lane e.head).hdr.obeyed = true →
    e.source = .test →
    e.channel = none →
    e.stream = none →
    e.meter = none →
    ∃ t, Machine.exec (.launchSend id) s = .next t ∧ (t.air.queue = s.air.queue.filter (fun (x : Launch) => x.id ≠ id)) ∧
      (t.air.onAir = s.air.onAir ++ [e]) ∧
      (Map.get? t.air.lastEnd (e.head, e.band) = some (e.start + e.span)) ∧
      Claims.Counted { name := .airLaunch, a := headBand e.head e.band, b := e.source.code } 1 s t ∧
      Claims.Counted { name := .airOnMs, a := headBand e.head e.band } e.charge s t ∧
      Claims.Frame [.air, .ctrs, .store, .ports] s t) ∧
  (∀ (s : State) (id : Nat) (e : Launch),
    s.air.queue.find? (fun x => x.id == id) = some e →
    e.locked = true →
    e.start ≤ s.time.air →
    s.regionOn 5 = false ∨ s.laneOn e.head = false →
    Machine.exec (.launchSend id) s = .next ((({ s with air := { s.air with queue := s.air.queue.filter (fun (x : Launch) => x.id ≠ id), lastEnd := Map.put s.air.lastEnd (e.head, e.band) (e.start + e.span) } } : State).launchUnknown e).carryLaunch e)) ∧
  (∀ (s : State) (x : RxOutcome) (o : OutPoll) (rest : List RxOutcome),
    s.rx.outcomes = x :: rest →
    (s.plan x.b.meter).out = some o →
    o.booking = x.id →
    x.outcome = 0 →
    bitOn (leAt x.desc 1 1) 6 = true →
    ∃ t, Machine.exec (.bookingOutcome) s = .next t ∧ (t.rx.outcomes = rest) ∧
      ((t.plan x.b.meter).out = some { o with answered := some (leAt x.desc 24 8) }) ∧
      Claims.Frame [.rx, .air] s t) ∧
  (∀ (s : State) (slot re : Nat) (o : OutPoll) (f : FollowCmd),
    (s.plan slot).out = some o →
    o.follow = some f →
    o.answered = some re →
    re + turnAir o.delay < s.time.air →
    Machine.exec (.followDecision slot) s = .next (s.setPlan slot { s.plan slot with out := if o.closed then none else some { o with follow := none } })) ∧
  (∀ (s : State) (slot re a : Nat) (o : OutPoll) (f : FollowCmd) (x : Charge) (s1 : State),
    (s.plan slot).out = some o →
    o.follow = some f →
    o.closed = false →
    o.answered = some re →
    s.time.air ≤ re + turnAir o.delay →
    re + turnAir o.delay ≤ s.time.air + s.rd Rec.AirPolicy.LaunchLockMs * airPerMs →
    s1 = s.setPlan slot { s.plan slot with out := some { o with follow := none } } →
    s1.air.charges.find? (fun c => c.gid == o.gid && c.share == 1) = some x →
    s1.txAntenna x.head = some a →
    s1.refusal x.head a x.band (re + turnAir o.delay) (leaAir o.rate (s1.rd Rec.LeaChannel.DownPreambleMin (s1.rd Rec.MeterPlan.LeaChannel slot)) (leAt f.frame 0 1)) 0 1 = none →
    s1.posCommitted f.position = true →
    s1.stillDue slot f.carried = true →
    s1.headUp x.head = true →
    f.carried = {} →
    ∃ t, Machine.exec (.followDecision slot) s = .next t ∧ ((t.air.queue.getLast?.map fun e => (e.start, e.locked, e.meter, e.tag, e.frame)) = some (re + turnAir o.delay, true, some slot, f.tag, whiten f.frame)) ∧
      (((t.plan slot).out.map OutPoll.follow) = some none))

/-- The flood's window runs. At a frame slot of a flood window, with the schedule active and the slot due and free: a stream
whose key is gone is paused and says so; a stream whose frame the heads take is launched, and the slot counts as filled. Each
answers a next state; where a clause ends in a frame, every part of State that it does not name is as it was. The choices of
the model that the clauses rest on are in log entry 53. -/
def Obligations.FloodEventsComplete : Prop :=
  (∀ (s : State) (window slot c : Nat) (x : Stream),
    s.rdB Rec.FloodSchedule.Active = true →
    s.serving = true →
    0 < slot →
    slot < s.rd Rec.FloodSchedule.FramesPerWindow →
    s.fl.fromS ≤ s.windowS window →
    s.fl.filled.contains (s.windowS window, slot) = false →
    s.fl.filled.contains (s.windowS window, slot - 1) = true →
    s.time.air + s.rd Rec.AirPolicy.PlanLeadMs * airPerMs ≤ s.frameSlotAir window slot →
    s.nextStream window slot = some x →
    s.pauseCause x = some c →
    c = 0 →
    Claims.Room s →
    ∃ t, Machine.exec (.floodWindow window slot) s = .next t ∧ Claims.Raised .floodPaused x.tenant [x.number, 0] s t ∧
      ((t.fl.streams.map fun y => (y.number, decide (y.st = .paused))) = s.fl.streams.map fun y => (y.number, decide (y.number = x.number ∨ y.st = .paused))) ∧
      Claims.Frame [.fl, .ctrs, .time, .ev, .store, .ports] s t) ∧
  (∀ (s : State) (window slot : Nat) (x : Stream),
    s.rdB Rec.FloodSchedule.Active = true →
    s.serving = true →
    0 < slot →
    slot < s.rd Rec.FloodSchedule.FramesPerWindow →
    s.fl.fromS ≤ s.windowS window →
    s.fl.filled.contains (s.windowS window, slot) = false →
    s.fl.filled.contains (s.windowS window, slot - 1) = true →
    s.time.air + s.rd Rec.AirPolicy.PlanLeadMs * airPerMs ≤ s.frameSlotAir window slot →
    s.nextStream window slot = some x →
    s.pauseCause x = none →
    s.air.queue.length < (s.launchFlood x window slot).air.queue.length →
    ∃ t, Machine.exec (.floodWindow window slot) s = .next t ∧ (t.air = (s.launchFlood x window slot).air) ∧
      (t.vault = (s.launchFlood x window slot).vault) ∧
      (s.windowS window, slot) ∈ t.fl.filled)

/-- The Ling events of chapter 10 run. On the states each clause names: a transmitter that fits its tributary starts; a reference
phase without crossings takes the zone out of VALID; a tributary that is free and not blocked launches its first poll; a
blocked one defers it; an alarm call goes out when it is due; an unreachable meter is tried again after its interval; the
governor cuts a frame at its cap; an answer window that ends without an answer is a miss; a frame that decodes goes to frame
security. Each answers a next state; where a clause ends in a frame, every part of State that it does not name is as it was.
The choices of the model that the clauses rest on are in log entries 64, 65, 68. -/
def Obligations.LingEventsComplete : Prop :=
  (∀ (s : State) (trib : Nat),
    s.unitSt (.lingTx trib) = .starting →
    s.lingFit trib = true →
    s.zoneValid trib = true →
    s.lineHere = true →
    Claims.Room s →
    ∃ t, Machine.exec (.lingTxReady trib) s = .next t ∧ (t.unitSt (.lingTx trib) = .on) ∧
      Claims.Raised .lingTxStarted 0 [trib, (s.lingTrib trib).reason] s t ∧
      Claims.Frame [.arch, .time, .ev] s t) ∧
  (∀ (s : State) (trib phase : Nat),
    s.lineHere = true →
    trib < s.tributaries →
    phase = s.zcRef trib →
    phase < 3 →
    s.tribUp trib = true →
    s.metroChain trib = true →
    (s.metro trib).zone = .valid →
    ((((s.metro trib).phase phase).instants.head?).getD 0) + s.zcTimeout trib ≤ s.time.air →
    (s.lingTrib trib).out = none →
    Claims.Room s →
    ∃ t, Machine.exec (.zcTimeout trib phase) s = .next t ∧ ((t.metro trib).zone = .noCrossing) ∧
      ((t.metro trib).armed = false) ∧
      Claims.Counted { name := .metroNoCross, a := trib } 1 s t ∧
      Claims.Frame [.met, .ctrs, .time, .ev] s t) ∧
  (∀ (s : State) (trib : Nat) (d : LingDue) (c : LingCause) (rest : List LingDue),
    s.lineHere = true →
    trib < s.tributaries →
    (s.lingTrib trib).out = none →
    s.serving = true →
    s.ling.claimAir + max (s.rd Rec.AirPolicy.PlanLeadMs) 1000 * airPerMs ≤ s.time.air →
    s.lingQueue trib = d :: rest →
    s.lingBlocked trib = some c →
    c = .tributary →
    d.kind = 0 →
    ∃ t, Machine.exec (.lingLaunch trib) s = .next t ∧ (((t.plan d.meter).poll.map PendPoll.cause) = ((s.plan d.meter).poll.map fun _ => some (8 + c.code))) ∧
      Claims.Counted { name := .lingDefer, a := trib, b := c.code } 1 s t ∧
      Claims.Frame [.air, .ctrs, .store, .ports] s t) ∧
  (∀ (s : State) (trib : Nat) (d : LingDue) (rest : List LingDue),
    s.lineHere = true →
    trib < s.tributaries →
    (s.lingTrib trib).out = none →
    s.serving = true →
    s.ling.claimAir + max (s.rd Rec.AirPolicy.PlanLeadMs) 1000 * airPerMs ≤ s.time.air →
    s.lingQueue trib = d :: rest →
    s.lingBlocked trib = none →
    d.kind = 0 →
    (((s.lingPoll trib d.meter).lingTrib trib).out.map LingFrame.meter) = some d.meter →
    Machine.exec (.lingLaunch trib) s = .next ((s.lingPoll trib d.meter).carry (.meter d.meter))) ∧
  (∀ (s : State) (trib : Nat),
    s.lineHere = true →
    trib < s.tributaries →
    s.rd Rec.LingTrib.AlarmCallS trib ≠ 0 →
    (s.lingTrib trib).lastCallS + s.rd Rec.LingTrib.AlarmCallS trib ≤ s.nowS →
    (s.lingTrib trib).out = none →
    s.serving = true →
    s.ling.claimAir + max (s.rd Rec.AirPolicy.PlanLeadMs) 1000 * airPerMs ≤ s.time.air →
    s.lingBlocked trib = none →
    (s.drawTag.2.lingPut trib 2 0xFFFFFFFF s.drawTag.1 6 0 ((pollFrame (2 ^ 64 - 1) (s.rd Rec.Pair.RegionNumber) s.drawTag.1 0 (respCtlOf 0 false 0)).take 16) {}).toOption.isSome = true →
    ∃ t, Machine.exec (.lingAlarmCall trib) s = .next t ∧ ((t.lingTrib trib).lastCallS = s.nowS) ∧
      (((t.lingTrib trib).out.map LingFrame.kind) = some 2)) ∧
  (∀ (s : State) (slot : Nat),
    s.lineHere = true →
    (s.lingMeterSt slot).unreachable = true →
    (s.lingMeterSt slot).due = false →
    (s.lingMeterSt slot).lastPollS + s.rd Rec.LingPolicy.UnreachIntervalS ≤ s.nowS →
    Machine.exec (.lingUnreachPoll slot) s = .next ((s.setLingMeter slot { s.lingMeterSt slot with due := true }).carry (.meter slot))) ∧
  (∀ (s : State) (trib phase window : Nat) (x : LingFrame),
    (s.lingTrib trib).out = some x →
    x.kind = 0 →
    x.start ≤ s.time.air →
    s.time.air < x.stop →
    window ≤ 1 →
    (if window = 0 then s.rd Rec.LingTrib.Cap200 trib else s.rd Rec.LingTrib.Cap1000 trib) * lingUnit ≤ s.windowEnergy trib phase (if window = 0 then 200 else 1000) →
    phase ∈ s.lingPhasesOf trib →
    s.lineHere = true →
    Claims.Room s →
    ∃ t, Machine.exec (.lingGovernorCut trib phase window) s = .next t ∧ ((t.lingTrib trib).out = none) ∧
      Claims.Counted { name := .lingCuts, a := trib } 1 s t ∧
      Claims.Raised .lingGovernorCut 0 [trib, phase, window] s t ∧
      Claims.Frame [.ling, .air, .ctrs, .time, .ev] s t) ∧
  (∀ (s : State) (trib phase window : Nat),
    (s.lingTrib trib).out = none →
    Machine.exec (.lingGovernorCut trib phase window) s = .next (s)) ∧
  (∀ (s : State) (trib : Nat) (x : LingFrame),
    (s.lingTrib trib).out = some x →
    x.kind = 0 →
    x.closeAt ≤ s.time.air →
    (s.meter x.meter).active = false →
    (s.lingMeterSt x.meter).unreachable = true →
    ∃ t, Machine.exec (.lingAnswerWindowEnd trib) s = .next t ∧ ((t.lingTrib trib).out = none) ∧
      ((t.lingMeterSt x.meter).misses = (s.lingMeterSt x.meter).misses + 1) ∧
      ((t.plan x.meter).misses = (s.plan x.meter).misses + 1) ∧
      Claims.Frame [.ling, .air, .ctrs, .store, .ports] s t) ∧
  (∀ (s : State) (trib startAir endAir repCode m : Nat) (header payload fr : List Byte) (snr : List Int) (x : LingFrame),
    (s.lingTrib trib).out = some x →
    x.kind = 0 →
    s.lingMatched x startAir = some m →
    m = s.rd Rec.LingMeter.Phase x.meter →
    lingCheck repCode header payload = (0, fr) →
    ∃ t, Machine.exec (.lingFrameDecoded trib startAir endAir repCode header payload snr) s = .next t ∧ ((t.lingTrib trib).out = none) ∧
      ((t.rx.toSecurity.getLast?.map fun y => (y.frame, y.origin, y.hint, y.trib)) = some (fr, 3, x.meter, some trib)) ∧
      ((t.lingMeterSt x.meter).answered = some x.tag) ∧
      Claims.Frame [.ling, .rx, .ctrs] s t)

/-- The host window and mailbox events of chapter 3 run. On the states each clause names: an access outside the window is
counted; a write to a channel's buffer stores its four bytes there and nowhere else, and one to its vector register sets the
vectors; a doorbell on an idle channel takes the request; a response that is ready stands in the buffer; the acknowledgement
of a response that has no fragment left frees the channel; the acknowledgement of the last notification empties the queue; a
channel reset runs and ends; an idle session is closed; a backoff ends; a ticket expires. Each answers a next state; where a
clause ends in a frame, every part of State that it does not name is as it was. The choices of the model that the clauses
rest on are in log entries 2, 7, 9, 12, 92, 142, 153. -/
def Obligations.MailboxEventsComplete : Prop :=
  (∀ (s : State),
    Machine.exec (.hostBadAccess) s = .next ({ s with mail := { s.mail with badAccess := (s.mail.badAccess + 1) % 2 ^ 32 } })) ∧
  (∀ (s : State) (off value : Nat),
    off % 4 = 0 →
    0x10000 ≤ off →
    off < 0x30000 →
    0x040 ≤ off % 0x1000 →
    off % 0x1000 < 0x840 →
    s.mail.mailboxReady = true →
    s.tunnelled ((off - 0x10000) / 0x1000) = false →
    bufWf s.mail.buffers = true →
    ∃ t, Machine.exec (.registerWrite off value) s = .next t ∧ ((bufLoad t.mail.buffers off 4 = le 4 value)) ∧
      ((∀ a, a < off ∨ off + 4 ≤ a → bufRead t.mail.buffers a = bufRead s.mail.buffers a)) ∧
      ((t.chan ((off - 0x10000) / 0x1000) = s.chan ((off - 0x10000) / 0x1000))) ∧
      Claims.Frame [.mail] s t) ∧
  (∀ (s : State) (off value : Nat),
    off % 0x1000 = 0x010 →
    0x10000 ≤ off →
    off < 0x30000 →
    s.mail.mailboxReady = true →
    s.tunnelled ((off - 0x10000) / 0x1000) = false →
    Machine.exec (.registerWrite off value) s = .next (s.setChan ((off - 0x10000) / 0x1000) { s.chan ((off - 0x10000) / 0x1000) with respVec := value % 2 ^ 32 % 64, notifyVec := value % 2 ^ 32 / 256 % 64 })) ∧
  (∀ (s : State) (ch : Nat),
    s.pow.stage ≠ 0x0C →
    s.mail.mailboxReady = true →
    s.tunnelled ch = false →
    (s.chan ch).st = .idle →
    ∃ t, Machine.exec (.mbDoorbell ch) s = .next t ∧ (t = (s.setChan ch { s.chan ch with st := .busy }).receive ch (bufLoad s.mail.buffers (cmdBuf ch) 2048) false) ∧
      ((t.chan ch).st = .busy)) ∧
  (∀ (s : State) (ch : Nat) (x : Response) (m : List Byte),
    (s.chan ch).st = .busy →
    (s.chan ch).response = some x →
    x.closeAfter = false →
    s.tunnelled ch = false →
    responseMessages (s.respKey ch x) ch x = [m] →
    ∃ t, Machine.exec (.commandResponseReady ch) s = .next t ∧ ((t.chan ch).st = .responseReady) ∧
      ((t.chan ch).response = none) ∧
      ((t.chan ch).fragments = []) ∧
      (t.mail.buffers = bufStore s.mail.buffers (cmdBuf ch) m) ∧
      Claims.Frame [.mail] s t) ∧
  (∀ (s : State) (ch : Nat),
    s.tunnelled ch = false →
    (s.chan ch).st = .responseReady →
    (s.chan ch).fragments = [] →
    Machine.exec (.mbRespAck ch) s = .next (s.setChan ch { s.chan ch with st := .idle })) ∧
  (∀ (s : State) (ch : Nat) (m : List Byte) (ms : List (List Byte)),
    s.tunnelled ch = false →
    (s.chan ch).st = .responseReady →
    (s.chan ch).fragments = m :: ms →
    ∃ t, Machine.exec (.mbRespAck ch) s = .next t ∧ (t.mail.buffers = bufStore s.mail.buffers (cmdBuf ch) m) ∧
      ((t.chan ch).fragments = ms) ∧
      ((t.chan ch).st = .responseReady) ∧
      Claims.Frame [.mail] s t) ∧
  (∀ (s : State) (ch : Nat) (n : Note),
    s.tunnelled ch = false →
    (s.chan ch).notes = [n] →
    Machine.exec (.mbNotifyAck ch) s = .next (s.setChan ch { s.chan ch with notes := [], overflowed := false })) ∧
  (∀ (s : State) (ch : Nat),
    s.mail.mailboxReady = true →
    Machine.exec (.mbReset ch) s = .next (s.setChan ch { s.chan ch with st := .resetting, assembly := none, fragments := [] })) ∧
  (∀ (s : State) (ch : Nat),
    (s.chan ch).st = .resetting →
    (s.chan ch).request = none →
    (s.chan ch).session = none →
    ∃ t, Machine.exec (.channelResetDone ch) s = .next t ∧ (t = s.setChan ch { s.chan ch with st := .idle, response := none, fragments := [], notes := [], assembly := none }) ∧
      Claims.Frame [.mail] s t) ∧
  (∀ (s : State) (ch : Nat) (x : Session),
    s.session ch = some x →
    x.idleMs ≤ s.time.ms →
    Claims.Room s →
    ∃ t, Machine.exec (.sessionIdleTimeout ch) s = .next t ∧ (t.session ch = none) ∧
      ((t.chan ch).notes = []) ∧
      Claims.Raised .sessionClosed x.tenant [ch, CloseCause.idle.code] s t ∧
      Claims.Frame [.mail, .ev, .upd, .ctrs, .time] s t) ∧
  (∀ (s : State) (ch n : Nat),
    (s.chan ch).backoffEnd = some n →
    n ≤ s.time.ms →
    Machine.exec (.backoffEnd ch) s = .next (s.setChan ch { s.chan ch with backoffEnd := none })) ∧
  (∀ (s : State) (ticket : Nat) (x : Ticket),
    s.mail.tickets = [x] →
    x.ticket = ticket →
    x.expiresMs ≤ s.time.ms →
    Claims.Room s →
    ∃ t, Machine.exec (.ticketExpired ticket) s = .next t ∧ (t.mail.tickets = []) ∧
      Claims.Raised .approvalExpired x.tenant [ticket, VoidCause.window.code] s t ∧
      Claims.Counted { name := .expiredTickets, a := x.ch } 1 s t ∧
      Claims.Frame [.mail, .ev, .ctrs, .time] s t)

/-- The frame security events of chapters 9 and 11 run. On the states each clause names: a directory rebuild whose entries place
ends with its event, under a directory key that is a free value; the Sward's victim state clears after its age; a frame that
is no meter's leaves the queue, is counted under its reason, and no ledger work comes of it. Each answers a next state; where
a clause ends in a frame, every part of State that it does not name is as it was. The choices of the model that the clauses
rest on are in log entries 70, 74. -/
def Obligations.SecurityEventsComplete : Prop :=
  (∀ (s : State) (x : DirRebuild),
    s.sec.rebuild = some x →
    dirAll (s.drawBytes 16).1 ((s.assignedSlots.map fun k => (k, s.rd Rec.MeterSec.Address k)) ++ x.extra.toList) [] [] = some [] →
    Claims.Room s →
    ∃ t, Machine.exec (.dirRebuildDone) s = .next t ∧ (t.sec.rebuild = none) ∧
      (t.sec.kd = (s.drawBytes 16).1) ∧
      (t.sec.dirVictims = []) ∧
      Claims.Raised .secDirRebuild 0 [x.attempts + 1, s.time.ms - x.beganMs] s t ∧
      Claims.Counted { name := .secRebuild } 1 s t ∧
      Claims.Frame [.sec, .freeCtr, .ctrs, .time, .ev] s t) ∧
  (∀ (s : State) (n : Nat),
    s.sec.victimSince = some n →
    s.sec.victimLast + s.rd Rec.SwardPolicy.SwardAgeS ≤ s.legalS →
    Claims.Room s →
    ∃ t, Machine.exec (.swardVictimClear) s = .next t ∧ (t.sec.victimSince = none) ∧
      Claims.Raised .swardVictimClear 0 [s.legalS - n] s t ∧
      Claims.Frame [.sec, .time, .ev, .ctrs] s t) ∧
  (∀ (s : State) (frame : Nat) (x : HandedFrame) (rest : List HandedFrame),
    s.rx.toSecurity = x :: rest →
    s.sec.rebuild = none →
    s.restarting 7 = false →
    parseFrame x = none →
    ∃ t, Machine.exec (.securityFrame 0 frame) s = .next t ∧ (t.rx.toSecurity = rest) ∧
      (t.led.queues = s.led.queues) ∧
      Claims.Counted { name := .secReason, a := 0, b := Reason.type.code } 1 s t) ∧
  (∀ (s : State) (frame : Nat) (x : SecFrame),
    s.sec.pipe[frame]? = some x →
    ∃ t, Machine.exec (.securityFrame 1 frame) s = .next t ∧ (t = ({ s with sec := { s.sec with pipe := s.sec.pipe.eraseIdx frame } } : State).stagesLast x))

/-- The vault events of chapter 12 run. A key switch makes the shadow copy of a slot the live one; an erase that has drained
ends; a random number health fault is counted, kept and said, and health restored is kept; the first tamper alarm of an open
vault seals it, leaves no live key, and says so. Each answers a next state; where a clause ends in a frame, every part of
State that it does not name is as it was. The choices of the model that the clauses rest on are in log entries 7, 21, 99,
101, 142. -/
def Obligations.VaultEventsComplete : Prop :=
  (∀ (s : State) (domain slot : Nat) (x : VaultCopy),
    Map.get? s.vault.shadow (domain, slot) = some x →
    ∃ t, Machine.exec (.keySwitch domain slot) s = .next t ∧ (Map.get? t.vault.live (domain, slot) = some x) ∧
      (t.vault.copies = s.vault.copies) ∧
      (domain, slot) ∉ t.vault.erasing ∧
      Claims.Frame [.vault] s t) ∧
  (∀ (s : State) (domain slot : Nat),
    ∃ t, Machine.exec (.keyEraseDrained domain slot) s = .next t ∧ (domain, slot) ∉ t.vault.erasing ∧
      (t.vault.copies = s.vault.copies) ∧
      Claims.Frame [.vault] s t) ∧
  (∀ (s : State) (test : Nat),
    Claims.Room s →
    ∃ t, Machine.exec (.rngHealthFault false test) s = .next t ∧ (t.vault.rngOk = false) ∧
      Claims.Counted { name := .vaultRngFaults } 1 s t ∧
      Claims.Raised .vaultRngFault 0 [test] s t ∧
      Claims.Frame [.vault, .ctrs, .time, .ev] s t) ∧
  (∀ (s : State) (test : Nat),
    Machine.exec (.rngHealthFault true test) s = .next ({ s with vault := { s.vault with rngOk := true } })) ∧
  (∀ (s : State) (loop aborted : Nat),
    loop ≤ 1 →
    s.vault.tamperLatched = false →
    s.vault.st = .opened →
    s.pow.stage < 0x0A →
    ∃ t, Machine.exec (.tamperAlarm loop aborted) s = .next t ∧ (t.vault.st = .sealed) ∧
      (t.vault.tamperLatched = true) ∧
      (t.vault.live = []) ∧
      (t.vault.shadow = []) ∧
      (bitOn t.vault.loopsOpen loop = true))

/-- The ledger, tariff and archive events of chapters 13 and 14 run. On the states each clause names: a ledger engine takes the
first piece of work of a tenant and does it; a poisoned record is reported and, where it still reads, kept; an
acknowledgement of the partner commits what it covers and is counted; a plan version that came into force is reported once;
an interval whose journal entry is committed enters the archive. Each answers a next state; where a clause ends in a frame,
every part of State that it does not name is as it was. The choices of the model that the clauses rest on are in log entries
76, 77, 87. -/
def Obligations.LedgerEventsComplete : Prop :=
  (∀ (s : State) (engine tenant ticket slot : Nat) (milli : Int),
    s.led.ready = true →
    s.cellWorks (engineUnit engine) = true →
    engine < 32 →
    s.revokedTicket ticket = false →
    s.saveHalts = false →
    s.regionOn 8 = true →
    s.pair.st ≠ .handingOver →
    s.led.poisoned = [] →
    Map.getD s.led.queues tenant [] = [(slot, .balance milli)] →
    (s.meter slot).active = true →
    ∃ t, Machine.exec (.ledgerApply engine tenant ticket) s = .next t ∧ ((Map.getD t.led.queues tenant []) = []) ∧
      ((t.meter slot).credit = milli)) ∧
  (∀ (s : State) (engine tenant ticket slot : Nat) (f : SecFrame) (rest : List (Nat × LedgerJob)),
    s.led.ready = true →
    s.cellWorks (engineUnit engine) = true →
    engine < 32 →
    s.revokedTicket ticket = false →
    s.saveHalts = false →
    s.regionOn 8 = true →
    s.pair.st ≠ .handingOver →
    takeWork s.led.poisoned (Map.getD s.led.queues tenant []) = some ((slot, .frame f), rest) →
    Machine.exec (.ledgerApply engine tenant ticket) s = .next (((((({ s with led := { s.led with queues := Map.put s.led.queues tenant rest } } : State).charge .engines tenant 1).count { name := .ledEngApp, a := engine }).applyFrame slot f).carryMeter slot).releaseExports)) ∧
  (∀ (s : State) (engine tenant ticket : Nat),
    s.cellWorks (engineUnit engine) = false ∨ s.revokedTicket ticket = true →
    Machine.exec (.ledgerApply engine tenant ticket) s = .next (s)) ∧
  (∀ (s : State) (slot readable : Nat),
    (s.meter slot).active = true →
    readable ≠ 0 →
    Claims.Room s →
    ∃ t, Machine.exec (.recordPoisoned slot readable) s = .next t ∧ slot ∉ t.led.poisoned ∧
      (t.led.meters = s.led.meters) ∧
      Claims.Raised .ledgerRecordPoisoned (s.meter slot).tenant [slot] s t ∧
      Claims.Frame [.led, .time, .ev, .ctrs] s t) ∧
  (∀ (s : State) (position : Nat),
    s.pair.st = .activeSolo →
    s.pair.streaming = true →
    position ≤ s.newestPos →
    ∃ t, Machine.exec (.journalAck position) s = .next t ∧ (t.pair.ackedPos = max s.pair.ackedPos position) ∧
      ((t.store.journal.filter fun x => decide (x.position ≤ position)).all JEntry.acked = true) ∧
      Claims.Frame [.pair, .store, .ctrs] s t) ∧
  (∀ (s : State) (position : Nat),
    s.pair.streaming = false ∨ s.newestPos < position →
    Machine.exec (.journalAck position) s = .next (s)) ∧
  (∀ (s : State) (plan : Nat) (v : PlanVersion),
    s.planVersions plan = [v] →
    v.effective ≤ s.stamp →
    v.reported = false →
    Claims.Room s →
    ∃ t, Machine.exec (.tariffVersionActive plan) s = .next t ∧ (t.planVersions plan = [{ v with reported := true }]) ∧
      Claims.Raised .tariffVersionActive (s.recTenant Rec.TariffPlan.Active.rid plan) [plan, v.effective] s t ∧
      Claims.Frame [.tar, .time, .ev, .ctrs] s t) ∧
  (∀ (s : State) (n : Nat) (x : ArchRec) (rest : List (Nat × ArchRec)),
    s.tar.waiting = (n, x) :: rest →
    s.regionOn 9 = true →
    s.posCommitted n = true →
    s.tar.archive.any (fun b => b.slot == x.slot && b.endS == x.endS && b.streams.map Prod.fst == x.streams.map Prod.fst) = false →
    ∃ t, Machine.exec (.archiveWrite) s = .next t ∧ (t.tar.waiting = rest) ∧
      (t.tar.archive = s.tar.archive ++ [x]) ∧
      Claims.Counted { name := .tarArchived, a := x.tenant } 1 s t ∧
      Claims.Frame [.tar, .ctrs] s t) ∧
  (∀ (s : State),
    s.regionOn 9 = false →
    Machine.exec (.archiveWrite) s = .next (s))

/-- The metrology events of chapter 16 run. On the states each clause names: a valid crossing of the reference phase extends its
run, counts a cycle and advances the line time; a window that has ended is counted and its values stand, and one with a
missing sample is empty; a step whose samples have come is booked under its number, and counted when it is reissued; five
steps go to the journal; a quarter hour that ends closes the interval; a committed batch of pulses is emitted and counted.
Each answers a next state; where a clause ends in a frame, every part of State that it does not name is as it was. The
choices of the model that the clauses rest on are in log entries 57, 58, 87, 111, 171. -/
def Obligations.MetrologyEventsComplete : Prop :=
  (∀ (s : State) (trib phase air a : Nat) (later : List Nat),
    s.lineHere = true →
    trib < s.tributaries →
    phase = s.zcRef trib →
    phase < 3 →
    s.tribUp trib = true →
    s.metroChain trib = true →
    (s.metro trib).zone = .valid →
    ((s.metro trib).phase phase).found = air :: later →
    ((s.metro trib).phase phase).last = some a →
    0 < ((s.metro trib).phase phase).run →
    a + 15385 * 2000 ≤ air →
    air ≤ a + 22222 * 2000 →
    ∃ t, Machine.exec (.zeroCrossing trib phase) s = .next t ∧ (((t.metro trib).phase phase).run = ((s.metro trib).phase phase).run + 1) ∧
      (((t.metro trib).phase phase).last = some air) ∧
      (((t.metro trib).phase phase).found = later) ∧
      ((t.metro trib).cycles = (s.metro trib).cycles + 1) ∧
      ((t.metro trib).lineTime = ((s.metro trib).lineTime + 1) % 2 ^ 48) ∧
      Claims.Counted { name := .metroCross, a := trib, b := phase } 1 s t ∧
      Claims.Frame [.met, .ctrs] s t) ∧
  (∀ (s : State) (trib phase : Nat),
    s.tribUp trib = true →
    s.metroChain trib = true →
    (s.metro trib).zone ≠ .down →
    ((s.metro trib).phase phase).found = [] →
    Machine.exec (.zeroCrossing trib phase) s = .next (s)) ∧
  (∀ (s : State) (trib : Nat) (sync : Bool),
    s.lineHere = true →
    trib < s.tributaries →
    s.tribUp trib = true →
    s.metroChain trib = true →
    (s.metro trib).zone ≠ .down →
    (s.nextWindow trib).map (fun y => (y.2.1, y.2.2.1)) = some (sync, true) →
    ∃ t, Machine.exec (.metroWindowEnd trib) s = .next t ∧ Claims.Counted { name := .metroWindows, a := trib } 1 s t ∧
      Claims.Counted { name := .metroEmpty, a := trib } 1 s t ∧
      ((t.metro trib).window = (s.metro trib).window) ∧
      ((t.metro trib).windows = (s.metro trib).windows) ∧
      Claims.Frame [.met, .ctrs] s t) ∧
  (∀ (s : State) (trib : Nat) (sync : Bool),
    s.lineHere = true →
    trib < s.tributaries →
    s.tribUp trib = true →
    s.metroChain trib = true →
    (s.metro trib).zone ≠ .down →
    (s.nextWindow trib).map (fun y => (y.2.1, y.2.2.1)) = some (sync, false) →
    ∃ t, Machine.exec (.metroWindowEnd trib) s = .next t ∧ Claims.Counted { name := .metroWindows, a := trib } 1 s t ∧
      ((t.metro trib).windows = (s.metro trib).windows + 1) ∧
      ((t.metro trib).window.freq = s.lineFreq trib) ∧
      ((t.metro trib).window.sync = sync) ∧
      Claims.Frame [.met, .ctrs] s t) ∧
  (∀ (s : State) (trib : Nat),
    s.lineHere = true →
    trib < s.tributaries →
    s.tribUp trib = true →
    s.metroChain trib = true →
    (s.metro trib).zone ≠ .down →
    (s.nextWindow trib).isNone = true →
    Machine.exec (.metroWindowEnd trib) s = .next (s)) ∧
  (∀ (s : State) (trib idx : Nat) (reissued : Bool),
    s.lineHere = true →
    trib < s.tributaries →
    s.tribUp trib = true →
    s.metroChain trib = true →
    (s.metro trib).zone ≠ .down →
    s.rdB Rec.MetroTrib.Active trib = true →
    s.nextStep trib = some idx →
    s.stepReady trib idx = true →
    ∃ t, Machine.exec (.metroStep trib reissued) s = .next t ∧ ((t.metro trib).lastStep = idx) ∧
      ((t.metro trib).steps = (s.metro trib).steps + 1) ∧
      ((t.metro trib).stepsIn = (s.metro trib).stepsIn + 1) ∧
      Claims.Counted { name := .metroSteps, a := trib } 1 s t ∧
      ((reissued = true → Claims.Counted { name := .metroReissue, a := trib } 1 s t)) ∧
      Claims.Frame [.met, .ctrs] s t) ∧
  (∀ (s : State) (trib : Nat) (reissued : Bool),
    s.tribUp trib = true →
    s.metroChain trib = true →
    (s.metro trib).zone ≠ .down →
    s.nextStep trib = none ∨ s.rdB Rec.MetroTrib.Active trib = false →
    Machine.exec (.metroStep trib reissued) s = .next (s)) ∧
  (∀ (s : State) (trib : Nat),
    s.lineHere = true →
    trib < s.tributaries →
    s.rdB Rec.MetroTrib.Active trib = true →
    0 < s.nextEnd trib →
    s.nextEnd trib ≤ s.legalS →
    ∃ t, Machine.exec (.metroIntervalClose trib) s = .next t ∧ ((t.metro trib).lastEnd = s.nextEnd trib) ∧
      ((t.metro trib).flags = 0) ∧
      ((t.metro trib).windows = 0) ∧
      (t.records = s.records)) ∧
  (∀ (s : State) (trib : Nat),
    5 ≤ (s.metro trib).steps →
    s.journals = false →
    (List.range 8).all (fun o => !s.rdB Rec.PulseOutput.Enabled o) = true →
    ∃ t, Machine.exec (.stepRecordHandoff trib) s = .next t ∧ ((t.metro trib).steps = 0) ∧
      ((t.metro trib).stepInc = []) ∧
      ((t.metro trib).pending = some (s.newestPos, (s.metro trib).acc)) ∧
      Claims.Frame [.met] s t) ∧
  (∀ (s : State) (output : Nat),
    s.serving = true →
    0 < (s.pulse output).batch →
    s.posCommitted (s.pulse output).position = true →
    Machine.exec (.pulseEmit output) s = .next ((s.setPulse output { s.pulse output with batch := 0, test := 0 }).count { name := .metroPulses, a := output } ((s.pulse output).batch + (s.pulse output).test)))

/-- The balance events of chapter 17 run. An active zone whose next interval has begun freezes its members and moves on by 900 s;
an interval whose hold is over is evaluated, its result is kept and the interval leaves the open ones. Each answers a next
state; where a clause ends in a frame, every part of State that it does not name is as it was. The choices of the model that
the clauses rest on are in log entries 59, 87. -/
def Obligations.BalanceEventsComplete : Prop :=
  (∀ (s : State) (zone start : Nat),
    (s.balZone zone).next = some start →
    start ≤ s.legalS →
    s.rdB Rec.Zone.Active zone = true →
    s.led.ready = true →
    s.members zone = [] →
    s.bal.meters = [] →
    s.journals = false →
    ∃ t, Machine.exec (.balIntervalStart zone) s = .next t ∧ ((t.balZone zone).next = some (start + 900)) ∧
      (((t.balZone zone).openIv.any fun o => o.stop == start + 900 && o.frozen && o.members == 0) = true) ∧
      Claims.Frame [.bal] s t) ∧
  (∀ (s : State) (zone stop : Nat) (o : BalOpen),
    s.rdB Rec.Zone.Active zone = true →
    s.led.ready = true →
    (s.balZone zone).openIv = [o] →
    o.stop = stop →
    o.frozen = true →
    stop + s.rd Rec.Zone.HoldS zone ≤ s.legalS →
    ∃ t, Machine.exec (.balEvaluate zone stop) s = .next t ∧ ((t.balZone zone).openIv = []) ∧
      (t.records = s.records) ∧
      (t.led = s.led))

/-- The store events of chapter 18 run. On the states each clause names: a die that fails is FAILED and says so; a page
programmed is where its map entry points, and counts; a block erased leaves its partition, and counts; a block that fails to
program is retired; a read counts by its outcome, and the block of one that neither decodes nor verifies is retired; an entry
programmed in both copies is marked; a checkpoint starts when it is due and commits when it is done; reclamation copies a
victim's valid pages and erases it; wear levelling says how worn the flash is; a line whose tag fails twice is reported and,
on a write, poisoned; a scrub pass goes on, and reports a line that fails twice. Each answers a next state; where a clause
ends in a frame, every part of State that it does not name is as it was. The choices of the model that the clauses rest on
are in log entries 39, 80, 81, 83. -/
def Obligations.StoreEventsComplete : Prop :=
  (∀ (s : State) (channel die cause : Nat),
    s.dieHere channel die = true →
    (s.die channel die).st = .inUse →
    cause ≠ 2 →
    Claims.Room s →
    ∃ t, Machine.exec (.dieFailed channel die cause) s = .next t ∧ ((t.die channel die).st = .failed) ∧
      Claims.Raised .storeDieFailed 0 [channel, die, 1] s t ∧
      Claims.Frame [.store, .time, .ev, .ctrs] s t) ∧
  (∀ (s : State) (channel die block part page ok : Nat),
    s.dieHere channel die = true →
    (s.die channel die).st = .inUse →
    (s.die channel die).badBlocks.contains block = false →
    ok ≠ 0 →
    partCodes.contains part = true →
    part ≠ 3 →
    s.takesPage part (channel, die, block) = true →
    ∃ t, Machine.exec (.flashProgramDone channel die block part 0 page ok) s = .next t ∧ (Map.get? t.store.pages (part, copyOf part channel, page) = some (channel, die, block)) ∧
      (t.store.writeSeq = s.store.writeSeq + 4) ∧
      ((t.die channel die).consecFails = 0) ∧
      Claims.Counted { name := .stProg, a := dieKey channel die } 4 s t ∧
      Claims.Frame [.store, .ctrs, .ten] s t) ∧
  (∀ (s : State) (channel die block part page ok : Nat),
    s.dieHere channel die = true →
    (s.die channel die).st = .inUse →
    (s.die channel die).badBlocks.contains block = false →
    ok ≠ 0 →
    (Map.get? s.store.blocks (channel, die, block)).any (fun b => decide (0 < b.valid)) = false →
    ∃ t, Machine.exec (.flashProgramDone channel die block part 1 page ok) s = .next t ∧ (Map.has t.store.blocks (channel, die, block) = false) ∧
      (Map.getD (t.die channel die).erases block 0 = Map.getD (s.die channel die).erases block 0 + 1) ∧
      ((t.die channel die).consecFails = 0) ∧
      Claims.Counted { name := .stErased, a := dieKey channel die } 1 s t ∧
      Claims.Frame [.store, .ctrs, .ten] s t) ∧
  (∀ (s : State) (channel die block part op page : Nat),
    s.dieHere channel die = true →
    (s.die channel die).st = .inUse →
    (s.die channel die).badBlocks.contains block = false →
    (s.die channel die).consecFails < 2 →
    ∃ t, Machine.exec (.flashProgramDone channel die block part op page 0) s = .next t ∧ block ∈ (t.die channel die).badBlocks ∧
      ((t.die channel die).consecFails = (s.die channel die).consecFails + 1) ∧
      Claims.Counted { name := .stRetired, a := dieKey channel die } 1 s t ∧
      (t.store.pages = s.store.pages) ∧
      Claims.Frame [.store, .ctrs, .marks, .time, .ev] s t) ∧
  (∀ (s : State) (channel die block part op page ok : Nat),
    s.dieHere channel die = false ∨ (s.die channel die).st = .failed ∨ (s.die channel die).badBlocks.contains block = true →
    Machine.exec (.flashProgramDone channel die block part op page ok) s = .next (s)) ∧
  (∀ (s : State) (channel die block part outcome content tenant first n mirrored : Nat) (sector : List Byte),
    s.dieHere channel die = true →
    (s.die channel die).st = .inUse →
    outcome < 3 →
    ∃ t, Machine.exec (.flashReadDone channel die block part outcome content tenant first n mirrored sector) s = .next t ∧ Claims.Counted { name := .stRead, a := dieKey channel die } 1 s t ∧
      (((s.openSector part sector).isSome = true → (t.die channel die).consecFails = 0 ∧ (t.die channel die).badBlocks = (s.die channel die).badBlocks ∧ Claims.Frame [.store, .ctrs] s t)) ∧
      (((s.openSector part sector).isSome = false → Claims.Counted { name := .stUnread, a := part } 1 s t))) ∧
  (∀ (s : State) (channel die block part outcome content tenant first n mirrored : Nat) (sector : List Byte),
    s.dieHere channel die = true →
    (s.die channel die).st = .inUse →
    3 ≤ outcome →
    mirrored ≠ 0 →
    content ≤ 1 →
    (s.die channel die).consecFails < 2 →
    Claims.Room s →
    ∃ t, Machine.exec (.flashReadDone channel die block part outcome content tenant first n mirrored sector) s = .next t ∧ Claims.Counted { name := .stUnread, a := part } 1 s t ∧
      block ∈ (t.die channel die).badBlocks ∧
      Claims.Raised .storeCopyRepaired 0 [part, 1] s t ∧
      Claims.Frame [.store, .ctrs, .time, .ev] s t) ∧
  (∀ (s : State) (position : Nat) (x : JEntry),
    s.restarting 9 = false →
    s.store.journal.find? (fun y => y.position == position) = some x →
    ∃ t, Machine.exec (.journalCopiesProgrammed position) s = .next t ∧ (((t.store.journal.find? fun y => y.position == position).map JEntry.copied) = some true) ∧
      (t.store.nextPos = s.store.nextPos)) ∧
  (∀ (s : State) (position : Nat),
    s.restarting 9 = true →
    Machine.exec (.journalCopiesProgrammed position) s = .next (s)) ∧
  (∀ (s : State),
    s.store.running = none →
    s.store.ckptMs + 1000 * s.rd Rec.StorePolicy.CheckpointIntervalS 0 ≤ s.time.ms →
    s.restarting 9 = false →
    ∃ t, Machine.exec (.checkpointStart) s = .next t ∧ (((t.store.running.map fun g => (g.gen, g.startPos, g.epoch)) = some (s.store.nextGen, s.newestPos, s.pair.epoch))) ∧
      (t.store.nextGen = s.store.nextGen + 1) ∧
      (t.store.ckptMs = s.time.ms) ∧
      Claims.Frame [.store] s t) ∧
  (∀ (s : State) (g : Generation),
    s.store.running = some g →
    s.restarting 9 = false →
    ∃ t, Machine.exec (.checkpointCommit) s = .next t ∧ (t.store.running = none) ∧
      (t.store.generations.head? = some { g with endPos := s.newestPos, committed := true, digest := (List.range 16).map s.nsDigest }) ∧
      (t.records = s.records)) ∧
  (∀ (s : State),
    s.store.running = none →
    Machine.exec (.checkpointCommit) s = .next (s)) ∧
  (∀ (s : State) (part : Nat) (freed into : List Nat) (s1 u : State) (v : Nat × Nat × Nat),
    partCodes.contains part = true →
    part < 16 →
    s1 = freed.foldl (fun s n => s.freePage (part, n / 2 ^ 48, n % 2 ^ 48)) s →
    s1.victim part = some v →
    s1.copyPages (into.map keyBlock) (s1.pagesIn v) = some u →
    Machine.exec (.reclamation part freed into) s = .next (u.eraseBlock v)) ∧
  (∀ (s : State) (part : Nat) (freed into : List Nat),
    partCodes.contains part = true →
    freed = [] →
    s.victim part = none →
    Machine.exec (.reclamation part freed into) s = .next (s)) ∧
  (∀ (s : State) (channel die : Nat),
    s.dieHere channel die = true →
    (s.die channel die).st = .inUse →
    (s.die channel die).erases = [] →
    (s.die channel die).badBlocks = [] →
    s.store.wearRaised < s.wearStep →
    Claims.Room s →
    ∃ t, Machine.exec (.wearCheck channel die) s = .next t ∧ (t.store.wearRaised = s.wearStep) ∧
      Claims.Raised .storeWear 0 [s.meanWear] s t ∧
      Claims.Frame [.store, .time, .ev, .ctrs] s t) ∧
  (∀ (s : State) (channel address subject : Nat) (first second : List Byte),
    channel < 4 →
    (s.lineAt channel address subject).area < 14 →
    s.store.poisoned.any (fun l => l.address == address) = false →
    s.lineVerifies (s.lineAt channel address subject).tenant address first = false →
    s.lineVerifies (s.lineAt channel address subject).tenant address second = false →
    Claims.Room s →
    ∃ t, Machine.exec (.dramIntegrityFail channel address subject 1 first second) s = .next t ∧ (t.store.poisoned = s.store.poisoned ++ [s.lineAt channel address subject]) ∧
      Claims.Raised .storeIntegrity (s.lineAt channel address subject).tenant [(s.lineAt channel address subject).tenant, (s.lineAt channel address subject).area, 0] s t ∧
      Claims.Counted { name := .stTagRead, a := channel } 1 s t ∧
      Claims.Counted { name := .stTagFail, a := channel } 1 s t ∧
      Claims.Frame [.store, .time, .ev, .ctrs, .led, .air, .sec, .bal] s t) ∧
  (∀ (s : State) (channel address subject : Nat) (first second : List Byte),
    channel < 4 →
    (s.lineAt channel address subject).area < 14 →
    Machine.exec (.dramIntegrityFail channel address subject 2 first second) s = .next ({ s with store := { s.store with poisoned := s.store.poisoned.filter fun l => l.address != address } })) ∧
  (∀ (s : State) (channel progress address subject : Nat) (second : List Byte),
    Machine.exec (.scrubPass channel progress address subject [] second) s = .next ({ s with store := { s.store with scrubAt := if 1000 ≤ progress then 0 else progress, scrubPasses := s.store.scrubPasses + if 1000 ≤ progress then 1 else 0 } })) ∧
  (∀ (s : State) (channel progress address subject : Nat) (first second : List Byte),
    first ≠ [] →
    channel < 4 →
    (s.lineAt channel address subject).area < 14 →
    s.lineVerifies (s.lineAt channel address subject).tenant address first = false →
    s.lineVerifies (s.lineAt channel address subject).tenant address second = false →
    Claims.Room s →
    ∃ t, Machine.exec (.scrubPass channel progress address subject first second) s = .next t ∧ (t.store.poisoned = s.store.poisoned.filter fun l => l.address != address) ∧
      Claims.Raised .storeIntegrity (s.lineAt channel address subject).tenant [(s.lineAt channel address subject).tenant, (s.lineAt channel address subject).area, 2] s t ∧
      Claims.Counted { name := .stTagFail, a := channel } 1 s t ∧
      Claims.Frame [.store, .time, .ev, .ctrs, .led, .air, .sec, .bal] s t)

/-- The time events of chapter 19 run. On the states each clause names: a heartbeat tick advances the two clocks by 250 000
ticks, the millisecond by one, and the heartbeat register by one modulo 2^32; a holdover that lasts too long is FREE; a
sample of a reference is taken; a pulse edge gives the pulse reference a sample against the nearest second, or is rejected
beyond 0.4 s; the legal second is recorded with the air time; a smear begins and ends on its days; the first exchange with a
serving partner sets this chip's clocks by the partner's, and each later one trims the rate of its air clock (formulas: log
entry 177). Each answers a next state; where a clause ends in a frame, every part of State that it does not name is as it
was. The choices of the model that the clauses rest on are in log entries 4, 140, 177. -/
def Obligations.TimeEventsComplete : Prop :=
  (∀ (s : State),
    s.mail.mailboxReady = true →
    s.pow.stage ≠ 0x0C →
    ∃ t, Machine.exec (.heartbeatTick) s = .next t ∧ (t.time.ms = s.time.ms + 1) ∧
      (t.mail.heartbeat = (s.mail.heartbeat + 1) % 2 ^ 32) ∧
      (t.time.legalNs = (s.time.legalNs * 2 ^ 32 + s.time.legalFrac + 250000 * s.time.inc) / 2 ^ 32 % 2 ^ 64) ∧
      (t.time.air = (s.time.air * 2 ^ 32 + s.time.airFrac + 250000 * s.time.airInc) / 2 ^ 32 % 2 ^ 64)) ∧
  (∀ (s : State),
    s.mail.mailboxReady = true →
    s.pow.stage ≠ 0x0C →
    s.air.onAir = [] →
    ∃ t, Machine.exec (.heartbeatTick) s = .next t ∧ (t.time.ms = s.time.ms + 1) ∧
      (t.mail.heartbeat = (s.mail.heartbeat + 1) % 2 ^ 32) ∧
      (t.time.legalNs = (s.time.legalNs * 2 ^ 32 + s.time.legalFrac + 250000 * s.time.inc) / 2 ^ 32 % 2 ^ 64) ∧
      (t.time.air = (s.time.air * 2 ^ 32 + s.time.airFrac + 250000 * s.time.airInc) / 2 ^ 32 % 2 ^ 64) ∧
      Claims.Frame [.time, .mail, .air, .ten, .lanes] s t) ∧
  (∀ (s : State),
    s.time.st = .holdover →
    s.time.holdoverMs + 1000 * s.rd Rec.TimePolicy.HoldoverS ≤ s.time.ms →
    Claims.Room s →
    ∃ t, Machine.exec (.holdoverTimeout) s = .next t ∧ (t.time.st = .free) ∧
      Claims.Counted { name := .timeFrees } 1 s t ∧
      Claims.Raised .timeState 0 [TimeSt.holdover.code, TimeSt.free.code, slotOpt s.time.selected] s t ∧
      Claims.Frame [.time, .ctrs, .ev] s t) ∧
  (∀ (s : State) (ref t1 t2 t3 t4 leapDay : Nat) (leap : Int),
    ref < 8 →
    s.rd Rec.TimeRef.Kind ref = 2 →
    s.time.selected ≠ some ref →
    ∃ t, Machine.exec (.timeSample ref t1 t2 t3 t4 leap leapDay) s = .next t ∧ ((t.ref ref).samples = (s.ref ref).samples + 1) ∧
      ((t.ref ref).lastMs = some s.time.ms) ∧
      ((t.ref ref).recent.head? = some ((fourStamp t3 t4 t1 t2).1 + s.rdS Rec.TimeRef.AsymmetryNs ref, (fourStamp t3 t4 t1 t2).2 / 2, s.time.ms)) ∧
      Claims.Counted { name := .timeSamples, a := ref } 1 s t ∧
      Claims.Frame [.time, .ctrs] s t) ∧
  (∀ (s : State) (ref t1 t2 t3 t4 leapDay : Nat) (leap : Int),
    ref < 8 →
    s.rd Rec.TimeRef.Kind ref = 3 →
    s.time.smearing = none →
    leap ≠ 0 →
    ∃ t, Machine.exec (.timeSample ref t1 t2 t3 t4 leap leapDay) s = .next t ∧ ((t.ref ref).samples = (s.ref ref).samples + 1) ∧
      ((t.ref ref).recent.head? = some ((fourStamp t1 t2 t3 t4).1 + s.rdS Rec.TimeRef.AsymmetryNs ref, (fourStamp t1 t2 t3 t4).2, s.time.ms)) ∧
      (t.time.leap = some (leapDay, leap)) ∧
      (t.time.leapFrom = some ref) ∧
      Claims.Counted { name := .timeSamples, a := ref } 1 s t ∧
      Claims.Frame [.time, .ctrs] s t) ∧
  (∀ (s : State) (ref t1 t2 t3 t4 leapDay : Nat) (leap : Int),
    8 ≤ ref ∨ s.rd Rec.TimeRef.Kind ref < 2 →
    Machine.exec (.timeSample ref t1 t2 t3 t4 leap leapDay) s = .next (s.count { name := .timeRejected, a := ref })) ∧
  (∀ (s : State) (at' : Nat),
    (List.range 8).filter (fun i => s.rd Rec.TimeRef.Kind i == 1) = [0] →
    s.time.theta.natAbs ≤ 400000000 →
    ∃ t, Machine.exec (.ppsEdge at') s = .next t ∧ ((t.ref 0).samples = (s.ref 0).samples + 1) ∧
      ((t.ref 0).lastMs = some s.time.ms) ∧
      ((t.ref 0).recent.head? = some ((at' : Int) - ((at' + 500000000) / 1000000000 * 1000000000 : Nat) + s.rdS Rec.TimeRef.AsymmetryNs 0, 0, s.time.ms)) ∧
      Claims.Counted { name := .timeSamples, a := 0 } 1 s t ∧
      Claims.Frame [.time, .ctrs] s t) ∧
  (∀ (s : State) (at' : Nat),
    (List.range 8).filter (fun i => s.rd Rec.TimeRef.Kind i == 1) = [0] →
    400000000 < s.time.theta.natAbs →
    Machine.exec (.ppsEdge at') s = .next (s.count { name := .timeRejected, a := 0 })) ∧
  (∀ (s : State),
    s.time.second ≠ some s.legalS →
    s.time.pendingStep = none →
    s.time.selected = none →
    s.time.refs = [] →
    s.time.st = .free →
    s.time.incWritten = none →
    ∃ t, Machine.exec (.legalSecond) s = .next t ∧ (t.time.cross.head? = some (s.time.air, s.time.legalNs, s.time.inc)) ∧
      (t.time.legalNs = s.time.legalNs) ∧
      (t.time.second = some s.legalS) ∧
      (t.time.st = .free) ∧
      Claims.Counted { name := .timeSeconds, a := TimeSt.free.code } 1 s t ∧
      Claims.Frame [.time, .ctrs] s t) ∧
  (∀ (s : State) (g : Int) (d : Nat),
    s.time.smearing = none →
    s.time.leap = some (d, g) →
    s.legalS / 86400 = d →
    Claims.Room s →
    ∃ t, Machine.exec (.leapSmear) s = .next t ∧ (t.time.smearing = some g) ∧
      (t.time.smearDay = d) ∧
      Claims.Raised .timeLeap 0 [slotOf g, d, 0] s t ∧
      Claims.Frame [.time, .ev, .ctrs] s t) ∧
  (∀ (s : State) (g : Int),
    s.time.smearing = some g →
    s.time.smearDay < s.legalS / 86400 →
    Claims.Room s →
    ∃ t, Machine.exec (.leapSmear) s = .next t ∧ (t.time.smearing = none) ∧
      (t.time.leap = none) ∧
      Claims.Raised .timeLeap 0 [slotOf g, s.time.smearDay, 1] s t ∧
      Claims.Frame [.time, .ev, .ctrs] s t) ∧
  (∀ (s : State) (t1 t2 t3 t4 a1 a2 a3 a4 : Nat),
    s.exchangeLive = true →
    s.time.st = .partner →
    s.time.airSeeded = false →
    (fourStamp t1 t2 t3 t4).1.natAbs ≤ 1000 →
    ∃ t, Machine.exec (.partnerTimeExchange t1 t2 t3 t4 a1 a2 a3 a4) s = .next t ∧ (t.time.legalNs = ((s.time.legalNs : Int) - (fourStamp t1 t2 t3 t4).1).toNat) ∧
      (t.time.air = ((s.time.air : Int) - (fourStamp a1 a2 a3 a4).1).toNat) ∧
      (t.time.airSeeded = true) ∧
      (t.time.partnerOffset = some (fourStamp t1 t2 t3 t4).1) ∧
      Claims.Counted { name := .timeExchanges } 1 s t ∧
      Claims.Frame [.time, .ctrs] s t) ∧
  (∀ (s : State) (t1 t2 t3 t4 a1 a2 a3 a4 : Nat),
    s.exchangeLive = true →
    s.time.st = .partner →
    s.time.airSeeded = true →
    (fourStamp t1 t2 t3 t4).1.natAbs ≤ 1000 →
    ∃ t, Machine.exec (.partnerTimeExchange t1 t2 t3 t4 a1 a2 a3 a4) s = .next t ∧ (t.time.legalNs = s.time.legalNs) ∧
      (t.time.air = s.time.air) ∧
      (t.time.airTrim = clampAbs 100000000 (s.time.airTrim + (fourStamp a1 a2 a3 a4).1 * 1000)) ∧
      (t.time.airInc = airIncFor (t.time.airTrim + (fourStamp a1 a2 a3 a4).1 * 4000)) ∧
      (t.time.partnerOffset = some (fourStamp t1 t2 t3 t4).1) ∧
      Claims.Counted { name := .timeExchanges } 1 s t ∧
      Claims.Frame [.time, .ctrs] s t) ∧
  (∀ (s : State) (t1 t2 t3 t4 a1 a2 a3 a4 : Nat),
    s.exchangeLive = false →
    Machine.exec (.partnerTimeExchange t1 t2 t3 t4 a1 a2 a3 a4) s = .next (s))

/-- The event and recorder events of chapter 20 run. The oldest raised event is admitted under the next sequence number and
enters the trail; a snapshot whose collection is over is complete and says so; a complete snapshot leaves its slot for the
area; a hold that expires ends and says so. Each answers a next state; where a clause ends in a frame, every part of State
that it does not name is as it was. -/
def Obligations.RecorderEventsComplete : Prop :=
  (∀ (s : State) (x : Raised) (rest : List Raised),
    s.ev.queue = x :: rest →
    s.ev.trail = [] →
    s.ports.eventFrames = [] →
    ∃ t, Machine.exec (.eventAdmitted) s = .next t ∧ ((t.ev.trail.map fun y => (y.seq, y.ev, y.stamp, y.payload)) = [(s.ev.nextSeq, x.ev, x.stamp, x.payload)]) ∧
      (t.ev.nextSeq = (s.ev.nextSeq + 1) % 2 ^ 48) ∧
      (t.records = s.records)) ∧
  (∀ (s : State) (id : Nat) (x : Snapshot),
    s.ev.slots = [x] →
    x.id = id →
    x.collecting = true →
    x.postEndMs ≤ s.time.ms →
    Claims.Room s →
    ∃ t, Machine.exec (.snapshotComplete id) s = .next t ∧ (t.ev.slots = [{ x with collecting := false }]) ∧
      Claims.Raised .barrowTriggered 0 [x.trigger, x.id, x.occurrences] s t ∧
      Claims.Frame [.ev, .time, .ctrs] s t) ∧
  (∀ (s : State) (id : Nat) (x : Snapshot),
    s.ev.slots = [x] →
    x.id = id →
    x.collecting = false →
    s.ev.hold = none →
    s.ev.area.length < 2048 →
    Machine.exec (.snapshotSpill id) s = .next ({ s with ev := { s.ev with area := s.ev.area ++ [x], slots := [] } })) ∧
  (∀ (s : State) (x : Hold),
    s.ev.hold = some x →
    x.endMs ≤ s.time.ms →
    Claims.Room s →
    ∃ t, Machine.exec (.barrowHoldExpired) s = .next t ∧ (t.ev.hold = none) ∧
      Claims.Raised .barrowHoldExpired 0 [x.ch] s t ∧
      Claims.Frame [.ev, .time, .ctrs] s t)

/-- The tenant events of chapter 21 run. A RELEASING tenant whose ledger work is done is OPEN again; an access of another tenant
to a sealed tenant's region is counted and said to the owner; a wait beyond the tenant's limit is counted and said at most
once a minute. Each answers a next state; where a clause ends in a frame, every part of State that it does not name is as it
was. The choices of the model that the clauses rest on are in log entry 84. -/
def Obligations.TenantEventsComplete : Prop :=
  (∀ (s : State) (tenant : Nat),
    s.isReleasing tenant = true →
    Map.getD s.led.queues tenant [] = [] →
    ∃ t, Machine.exec (.tenantReleaseDone tenant) s = .next t ∧ ((t.tenant tenant).st = .opened) ∧
      (t.nsEpoch tenant = s.nsEpoch tenant + 1) ∧
      (t.records = s.records)) ∧
  (∀ (s : State) (owner requester address : Nat),
    s.ownerOf address = some owner →
    owner ≠ requester →
    Claims.Room s →
    ∃ t, Machine.exec (.tenantAccessViolation requester address) s = .next t ∧ Claims.Counted { name := .tenViolations, a := owner } 1 s t ∧
      Claims.Raised .tenantAccessViolation owner [owner, requester, s.areaAt address] s t ∧
      Claims.Frame [.ctrs, .time, .ev] s t) ∧
  (∀ (s : State) (requester address : Nat),
    s.ownerOf address = none ∨ s.ownerOf address = some requester →
    Machine.exec (.tenantAccessViolation requester address) s = .next (s)) ∧
  (∀ (s : State) (tenant resource : Nat) (x : Resource),
    Resource.all[resource]? = some x →
    s.isSealed tenant = true →
    s.rd Rec.Tenant.ShareWaitMs tenant < s.waited x tenant →
    Map.get? s.marks (.tenantShareWait, tenant) = none →
    Claims.Room s →
    ∃ t, Machine.exec (.shareWait tenant resource) s = .next t ∧ Claims.Counted { name := .tenWaits, a := tenant } 1 s t ∧
      Claims.Raised .tenantShareWait tenant [tenant, resource, s.waited x tenant] s t ∧
      Claims.Frame [.ctrs, .time, .ev, .marks] s t) ∧
  (∀ (s : State) (tenant resource : Nat),
    s.isSealed tenant = false ∨ 5 ≤ resource →
    Machine.exec (.shareWait tenant resource) s = .next (s))

/-- The pair events of chapter 22 run. On the states each clause names: losing the partner takes an ACTIVE_PAIRED chip to
ACTIVE_HOLD and gives a witnessed READY chip a claim due; the solo guard's end takes a witnessed holder to ACTIVE_SOLO; a
chip that waited and heard nobody claims at boot; a serving chip with a READY partner yields when the partner asks; a claim
due raises the epoch and serves; a takeover that is done says so; a standby whose conditions hold is READY; a partner that
has caught up pairs; a take-back that is due starts a handover, which goes on and times out; a heartbeat is sent on each
linked port; a message with a wrong tag is refused and counted, and a right one is counted. Each answers a next state; where
a clause ends in a frame, every part of State that it does not name is as it was. The choices of the model that the clauses
rest on are in log entries 76, 95, 110, 112, 113, 114, 115, 116, 127, 129, 132. -/
def Obligations.PairEventsComplete : Prop :=
  (∀ (s : State) (h : Heartbeat),
    s.pair.partner = some h →
    s.heartbeatLive = false →
    s.pair.st = .activePaired →
    s.pair.handoverStep = 0 →
    Claims.Room s →
    ∃ t, Machine.exec (.partnerLoss) s = .next t ∧ (t.pair.st = .activeHold) ∧
      (t.pair.readySinceMs = none) ∧
      Claims.Raised .pairPartnerLost 0 [h.stamp] s t ∧
      Claims.Frame [.pair, .upd, .time, .ev, .ctrs] s t) ∧
  (∀ (s : State) (h : Heartbeat),
    s.pair.partner = some h →
    s.heartbeatLive = false →
    s.pair.st = .ready →
    s.pair.claimDue = none →
    s.witnessed = true →
    s.pair.conflict = false →
    Machine.exec (.partnerLoss) s = .next ({ s with pair := { s.pair with claimDue := some 0, claimMs := h.atMs } })) ∧
  (∀ (s : State) (h : Heartbeat),
    s.pair.st = .activeHold →
    s.pair.partner = some h →
    h.atMs + s.rd Rec.Pair.PartnerLossMs + s.rd Rec.Pair.SoloGuardMs ≤ s.time.ms →
    s.ownWitnessed = true →
    s.store.journal = [] →
    s.met.waiting = [] →
    ∃ t, Machine.exec (.soloGuardExpiry) s = .next t ∧ (t.pair.st = .activeSolo) ∧
      (t.pair.streaming = false) ∧
      Claims.Counted { name := .pairSolo } 1 s t ∧
      (t.records = s.records)) ∧
  (∀ (s : State) (n : Nat),
    s.pair.waitEndMs = some n →
    s.pair.st = .booting →
    s.pow.stage = 8 →
    n ≤ s.time.ms →
    s.pair.claimDue = none →
    s.witnessed = true →
    s.pair.conflict = false →
    Machine.exec (.pairWaitExpiry) s = .next ({ s with pair := { s.pair with claimDue := some 2, claimMs := s.time.ms } })) ∧
  (∀ (s : State),
    s.serving = true →
    s.readyPartner = true →
    s.pow.resetAfterSave = none →
    ∃ t, Machine.exec (.partnerYield) s = .next t ∧ (t.pair.serving = false) ∧
      (t.pow.resetAfterSave = some ResetCause.yield.code) ∧
      Claims.Counted { name := .pairYields } 1 s t) ∧
  (∀ (s : State) (cause n : Nat),
    s.pair.claimDue = some cause →
    s.nextEpoch = some n →
    ∃ t, Machine.exec (.claimStart) s = .next t ∧ (t.pair.st = .takingOver) ∧
      (t.pair.serving = true) ∧
      (t.pair.epoch = n) ∧
      (t.pair.claimDue = none) ∧
      s.pair.epoch < n) ∧
  (∀ (s : State) (older : Nat) (gaps : List Nat),
    s.pair.st = .takingOver →
    s.pair.claimCause = 0 →
    s.readyPartner = false →
    ∃ t, Machine.exec (.takeoverDone older gaps) s = .next t ∧ (t.pair.st = .activeSolo) ∧
      (t.led.ready = true) ∧
      (t.records = s.records)) ∧
  (∀ (s : State),
    s.pair.st = .syncing →
    s.failingCodes = [] →
    Claims.Room s →
    ∃ t, Machine.exec (.readyChange) s = .next t ∧ (t.pair.st = .ready) ∧
      Claims.Raised .pairReady 0 [(s.pair.partner.map Heartbeat.epoch).getD 0, s.lastPos] s t ∧
      Claims.Frame [.pair, .upd, .time, .ev, .ctrs] s t) ∧
  (∀ (s : State) (h : Heartbeat),
    s.pair.st = .activeSolo →
    s.pair.partner = some h →
    s.pair.streaming = true →
    s.heartbeatLive = true →
    s.lastPos ≤ s.pair.ackedPos →
    (s.store.generations.any fun g => g.epoch == s.pair.epoch && s.pair.partnerGenerations.contains g.gen) = true →
    s.matchCodes h = [] →
    h.state = .syncing →
    Machine.exec (.catchUpDone) s = .next (s.pairTo .activePaired)) ∧
  (∀ (s : State) (n : Nat),
    s.pair.st = .activePaired →
    s.pair.readySinceMs = some n →
    s.rdB Rec.Pair.TakeBack = true →
    s.partnerPreferred = true →
    s.readyPartner = true →
    n + 1000 * s.rd Rec.Pair.TakeBackHoldS ≤ s.time.ms →
    s.pair.noTakeBackUntil ≤ s.time.ms →
    s.pair.handoverStep = 0 →
    ∃ t, Machine.exec (.takebackDue) s = .next t ∧ (t.pair.handoverStep = 1) ∧
      (t.store.running.isSome = true) ∧
      Claims.Frame [.pair, .store] s t) ∧
  (∀ (s : State),
    s.pair.handoverStep = 1 →
    s.pair.handoverGen ∈ s.pair.partnerGenerations →
    Machine.exec (.handover) s = .next ({ s with pair := { s.pair with handoverStep := 2 } })) ∧
  (∀ (s : State),
    s.pair.handoverStep = 2 →
    s.pair.st = .activePaired →
    s.lagFits = true →
    ∃ t, Machine.exec (.handover) s = .next t ∧ (t.pair.st = .handingOver) ∧
      (t.pair.handoverStep = 3) ∧
      (t.pair.handoverMs = s.time.ms)) ∧
  (∀ (s : State),
    s.pair.handoverStep = 2 →
    s.lagFits = false →
    Machine.exec (.handover) s = .next (s)) ∧
  (∀ (s : State),
    s.pair.handoverStep = 3 →
    Machine.exec (.handover) s = .next (s.sendFinal)) ∧
  (∀ (s : State),
    s.pair.st = .handingOver →
    s.pair.handoverStep = 3 →
    s.pair.handoverMs + 2000 ≤ s.time.ms →
    ∃ t, Machine.exec (.handoverTimeout) s = .next t ∧ (t.pair.st = .activePaired) ∧
      (t.pair.handoverStep = 0) ∧
      (t.pair.noTakeBackUntil = s.time.ms + 1000 * s.rd Rec.Pair.TakeBackHoldS)) ∧
  (∀ (s : State),
    s.ports.partner0.link = true →
    s.ports.partner1.link = false →
    ∃ t, Machine.exec (.heartbeatSend) s = .next t ∧ (((t.ports.partnerSends.getLast?.map fun m => (m.port, m.type, m.words, m.frames)) = some (0, 1, s.heartbeatWords, s.partnerFrames 1 s.ports.partner0.nextSeq (bodyBytes s.heartbeatWords (s.heartbeatData 0))))) ∧
      (t.ports.partner0.nextSeq = s.ports.partner0.nextSeq + (bodyParts (bodyBytes s.heartbeatWords (s.heartbeatData 0))).length) ∧
      Claims.Counted { name := .pairHbSent, a := 0 } 1 s t ∧
      Claims.Frame [.ports, .ctrs] s t) ∧
  (∀ (s : State) (port : Nat) (frame : List Byte),
    port ≤ 1 →
    (s.partnerPort port).link = true →
    1 ≤ (PartnerHead.ofBytes frame).type →
    (PartnerHead.ofBytes frame).type ≤ 13 →
    s.acceptsMessage port frame = false →
    (s.partnerPort port).tagMinute = s.minute →
    1 ≤ (s.partnerPort port).tagFails →
    ∃ t, Machine.exec (.partnerMessageReceived port frame) s = .next t ∧ ((t.partnerPort port).tagFails = (s.partnerPort port).tagFails + 1) ∧
      Claims.Counted { name := .partnerTagFail, a := port } 1 s t ∧
      Claims.Frame [.ports, .ctrs] s t) ∧
  (∀ (s : State) (port : Nat) (frame : List Byte),
    port ≤ 1 →
    (s.partnerPort port).link = true →
    1 ≤ (PartnerHead.ofBytes frame).type →
    (PartnerHead.ofBytes frame).type ≤ 13 →
    s.acceptsMessage port frame = true →
    (PartnerHead.ofBytes frame).frag = 0 →
    (PartnerHead.ofBytes frame).more = true →
    ∃ t, Machine.exec (.partnerMessageReceived port frame) s = .next t ∧ (Map.get? (t.partnerPort port).seqs (PartnerHead.ofBytes frame).sender = some (PartnerHead.ofBytes frame).seq) ∧
      ((t.partnerPort port).frags = 1) ∧
      ((t.partnerPort port).fragBody = slice frame 32 (PartnerHead.ofBytes frame).length) ∧
      Claims.Counted { name := .partnerIn, a := port, b := (PartnerHead.ofBytes frame).type } 1 s t ∧
      Claims.Frame [.ports, .ctrs] s t) ∧
  (∀ (s : State) (port : Nat) (frame : List Byte),
    port ≤ 1 →
    (s.partnerPort port).link = true →
    1 ≤ (PartnerHead.ofBytes frame).type →
    (PartnerHead.ofBytes frame).type ≤ 13 →
    s.acceptsMessage port frame = true →
    Machine.exec (.partnerMessageReceived port frame) s = .next (((s.setPartnerPort port { s.partnerPort port with seqs := Map.put (s.partnerPort port).seqs (PartnerHead.ofBytes frame).sender (PartnerHead.ofBytes frame).seq }).count { name := .partnerIn, a := port, b := (PartnerHead.ofBytes frame).type }).takeFragment port (PartnerHead.ofBytes frame) (slice frame 32 (PartnerHead.ofBytes frame).length))) ∧
  (∀ (s : State) (port : Nat) (frame : List Byte),
    2 ≤ port ∨ (s.partnerPort port).link = false →
    Machine.exec (.partnerMessageReceived port frame) s = .next (s))

/-- The update events of chapter 23 run. On the states each clause names: a trial whose confirmation time is over is confirmed by
the policy; a container refused within the hour, or present already, is dropped, its bytes counted; a domain that differs
past the hold raises its mismatch once; a neighbour that falls silent raises the chain-link event once; a pair roll's step
goes on, and ends as failed where the partner is not ready in time; a head whose blocks are all sent waits for its restart; a
meter campaign that all meters answered is done; a bundle that idles is dropped. Each answers a next state; where a clause
ends in a frame, every part of State that it does not name is as it was. The choices of the model that the clauses rest on
are in log entries 87, 121, 125, 126, 127. -/
def Obligations.UpdateEventsComplete : Prop :=
  (∀ (s : State) (m t0 : Nat),
    s.upd.trial = some { mask := m, sinceMs := some t0 } →
    s.rdB Rec.UpdatePolicy.AutoConfirm = true →
    t0 + 1000 * s.rd Rec.UpdatePolicy.ConfirmS ≤ s.time.ms →
    Claims.Room s →
    ∃ t, Machine.exec (.trialConfirm) s = .next t ∧ (t.upd.trial = none) ∧
      ((t.ev.queue.getLast?.map fun x => (x.ev, x.tenant, x.payload.take 1)) = some (Ev.updateConfirmed, 0, [m])) ∧
      Claims.Frame [.upd, .ev, .time, .ctrs] s t) ∧
  (∀ (s : State) (port : Nat) (container : List Byte) (x : Nat × List Byte × Nat),
    s.upd.refusedImages = [x] →
    x.1 = port →
    x.2.1 = slice (container.take 256) 48 32 →
    s.time.ms < x.2.2 →
    ∃ t, Machine.exec (.imageReceived port container) s = .next t ∧ Claims.Counted { name := .updBytesIn, a := port } container.length s t ∧
      Claims.Frame [.ctrs] s t) ∧
  (∀ (s : State) (domain t0 : Nat) (h : Heartbeat),
    s.pair.partner = some h →
    (s.agreement 0).since = [(domain, t0)] →
    (s.agreement 0).raised = [] →
    t0 + 1000 * s.rd Rec.UpdatePolicy.DigestHoldS ≤ s.time.ms →
    Claims.Room s →
    ∃ t, Machine.exec (.digestHoldExpiry 0 domain) s = .next t ∧ ((t.agreement 0).raised = [domain]) ∧
      ((t.ev.queue.getLast?.map fun x => (x.ev, x.tenant, x.payload.take 2)) = some (Ev.configMismatch, 0, [domain, 0])) ∧
      Claims.Counted { name := .updMismatch, a := domain } 1 s t ∧
      Claims.Frame [.upd, .ev, .time, .ctrs] s t) ∧
  (∀ (s : State) (h : Heartbeat),
    s.pair.neighbour = some h →
    s.upd.chainLost = false →
    h.atMs + s.rd Rec.UpdatePolicy.ChainLossMs ≤ s.time.ms →
    Claims.Room s →
    ∃ t, Machine.exec (.chainLinkLoss) s = .next t ∧ (t.upd = { s.upd with chainLost := true }) ∧
      Claims.Raised .updateChainLink 0 [1, 0] s t ∧
      Claims.Frame [.upd, .ev, .time, .ctrs] s t) ∧
  (∀ (s : State) (r : Roll),
    s.upd.roll = some r →
    s.journals = true →
    r.step = 1 →
    s.pair.st = .activeSolo →
    Machine.exec (.rollStepDone) s = .next (s.setRoll 2)) ∧
  (∀ (s : State) (r : Roll),
    s.upd.roll = some r →
    s.journals = true →
    r.step = 2 →
    s.readyPartner = false →
    r.sinceMs + 300000 ≤ s.time.ms →
    s.saveHalts = false →
    ∃ t, Machine.exec (.rollReadyTimeout) s = .next t ∧ (t.upd.roll = none) ∧
      Claims.Counted { name := .updRollsFailed } 1 s t ∧
      (t.pair = s.pair)) ∧
  (∀ (s : State) (campaign lane : Nat) (x : Campaign) (h : HeadProgress) (i : Image),
    s.upd.campaigns = [x] →
    x.id = campaign →
    x.kind = 2 →
    x.done = false →
    s.serving = true →
    Map.get? x.heads lane = some h →
    s.libraryImage 2 x.digest = some i →
    s.laneOn lane = true →
    h.result = 0 →
    h.bad = false →
    h.started = true →
    h.wait = false →
    h.next = blockCount i.container →
    Machine.exec (.headCampaignStep campaign lane) s = .next (s.setHead campaign lane { h with result := 3, atMs := s.time.ms })) ∧
  (∀ (s : State) (campaign : Nat) (x : Campaign),
    s.upd.campaigns = [x] →
    x.id = campaign →
    x.kind = 3 →
    x.done = false →
    s.serving = true →
    s.stream x.stream = none →
    s.campaignAnswered x = true →
    ∃ t, Machine.exec (.meterCampaignRound campaign) s = .next t ∧ ((t.upd.campaigns = [{ x with done := true }])) ∧
      (t.fl = s.fl) ∧
      (t.records = s.records)) ∧
  (∀ (s : State) (a : BundleAsm),
    s.upd.bundle = some a →
    a.lastMs + 60000 ≤ s.time.ms →
    Machine.exec (.bundleAssemblyTimeout) s = .next ({ s with upd := { s.upd with bundle := none } }))

/-- The port and session events of chapter 25 run. On the states each clause names: a closed session whose link is up starts its
handshake; a handshake with a suite and a certificate that are allowed opens it, and one with the wrong key closes it again
and doubles the wait; a keep-alive frame is counted; an idle session sends its keep-alive; a silent one closes; the cursor of
a session that moved is recorded; a backhaul frame is counted, and one over the port's size is dropped; a link that changes
says so; a host error of each severity is counted. Each answers a next state; where a clause ends in a frame, every part of
State that it does not name is as it was. The choices of the model that the clauses rest on are in log entries 88, 90, 91,
93, 94. -/
def Obligations.PortEventsComplete : Prop :=
  (∀ (s : State) (session : Nat),
    session < 32 →
    s.rdB Rec.HeadEnd.Enabled session = true →
    s.pair.serving = true →
    (s.headEnd session).st = .closed →
    s.portUp (s.rd Rec.HeadEnd.Port session) = true →
    Machine.exec (.sessionReconnect session) s = .next (s.setHeadEnd session { s.headEnd session with st := .handshake })) ∧
  (∀ (s : State) (session ok alert suite : Nat) (spki : List Byte),
    (s.headEnd session).st = .handshake →
    ok ≠ 0 →
    suite = 0x1301 ∨ suite = 0x1302 →
    ofLe (sha256 spki) ≠ s.rd Rec.HeadEnd.PeerKeyHash session →
    ∃ t, Machine.exec (.tlsHandshakeDone session ok alert suite spki) s = .next t ∧ (t.headEnd session = { s.headEnd session with st := .waiting, waitS := (if (s.headEnd session).waitS = 0 then 1 else min (2 * (s.headEnd session).waitS) 60), retryMs := s.time.ms + 1000 * (if (s.headEnd session).waitS = 0 then 1 else min (2 * (s.headEnd session).waitS) 60) }) ∧
      Claims.Counted { name := .tlsFailures, a := session } 1 s t ∧
      (t.store = s.store)) ∧
  (∀ (s : State) (session ok alert suite : Nat) (spki : List Byte),
    (s.headEnd session).st = .handshake →
    ok ≠ 0 →
    suite = 0x1301 ∨ suite = 0x1302 →
    ofLe (sha256 spki) = s.rd Rec.HeadEnd.PeerKeyHash session →
    s.ports.exports = [] →
    Claims.Room s →
    ∃ t, Machine.exec (.tlsHandshakeDone session ok alert suite spki) s = .next t ∧ ((t.headEnd session).st = .opened) ∧
      ((t.headEnd session).waitS = 0) ∧
      ((t.headEnd session).suite = suite) ∧
      ((t.headEnd session).cursor = (s.headEnd session).journaled) ∧
      Claims.Raised .portSession (s.heTenant session) [session, 1, noValue] s t) ∧
  (∀ (s : State) (session length : Nat) (body : List Byte),
    (s.headEnd session).st = .opened →
    length ≤ 262208 →
    ∃ t, Machine.exec (.sessionFrameReceived session 5 length body) s = .next t ∧ (t.headEnd session = { s.headEnd session with lastRxMs := s.time.ms }) ∧
      Claims.Counted { name := .portFramesIn, a := s.rd Rec.HeadEnd.Port session } 1 s t ∧
      Claims.Counted { name := .portBytesIn, a := s.rd Rec.HeadEnd.Port session } (8 + body.length) s t ∧
      Claims.Frame [.ports, .ctrs] s t) ∧
  (∀ (s : State) (session type length : Nat) (body : List Byte),
    (s.headEnd session).st = .opened →
    5 < type →
    ∃ t, Machine.exec (.sessionFrameReceived session type length body) s = .next t ∧ ((t.headEnd session).st = .waiting) ∧
      ((t.headEnd session).retryMs = s.time.ms + 1000)) ∧
  (∀ (s : State) (session : Nat),
    (s.headEnd session).st = .opened →
    (s.headEnd session).lastTxMs + 10000 ≤ s.time.ms →
    ∃ t, Machine.exec (.sessionKeepalive session) s = .next t ∧ (t.ports.wire = s.ports.wire ++ [(session, [5, 0, 0, 0, 0, 0, 0, 0])]) ∧
      ((t.headEnd session).lastTxMs = s.time.ms) ∧
      Claims.Counted { name := .portFramesOut, a := s.rd Rec.HeadEnd.Port session } 1 s t ∧
      Claims.Frame [.ports, .ctrs] s t) ∧
  (∀ (s : State) (session : Nat),
    (s.headEnd session).st = .opened →
    (s.headEnd session).lastRxMs + 30000 ≤ s.time.ms →
    ∃ t, Machine.exec (.sessionRxTimeout session) s = .next t ∧ ((t.headEnd session).st = .waiting) ∧
      ((t.headEnd session).waitS = 1) ∧
      ((t.headEnd session).cursor = (s.headEnd session).journaled)) ∧
  (∀ (s : State) (i : Nat),
    i < 32 →
    s.ports.sessions.map Prod.fst = [i] →
    (s.headEnd i).cursor ≠ (s.headEnd i).journaled →
    s.heEnabled = [] →
    s.ports.exports = [] →
    s.saveHalts = false →
    ∃ t, Machine.exec (.exportCursorJournal) s = .next t ∧ ((t.headEnd i).journaled = (s.headEnd i).cursor) ∧
      (t.records = s.records)) ∧
  (∀ (s : State) (port bytes corrected uncorrected : Nat),
    s.portUp port = true →
    bytes ≤ s.rd Rec.BackhaulPort.Mtu port + 18 →
    ∃ t, Machine.exec (.backhaulFrameReceived port bytes 0 corrected uncorrected) s = .next t ∧ Claims.Counted { name := .portFecCorr, a := port } corrected s t ∧
      Claims.Counted { name := .portFecUncorr, a := port } uncorrected s t ∧
      Claims.Counted { name := .portFramesIn, a := port } 1 s t ∧
      Claims.Counted { name := .portBytesIn, a := port } bytes s t ∧
      Claims.Frame [.ctrs] s t) ∧
  (∀ (s : State) (port bytes refused corrected uncorrected : Nat),
    s.portUp port = true →
    s.rd Rec.BackhaulPort.Mtu port + 18 < bytes →
    ∃ t, Machine.exec (.backhaulFrameReceived port bytes refused corrected uncorrected) s = .next t ∧ Claims.Counted { name := .portOversize, a := port } 1 s t ∧
      Claims.Frame [.ctrs] s t) ∧
  (∀ (s : State) (port : Nat),
    port < 8 →
    s.portUp port = false →
    s.rdB Rec.BackhaulPort.Enabled port = true →
    7 ≤ s.pow.stage →
    Claims.Room s →
    ∃ t, Machine.exec (.portLinkChange 0 port 1) s = .next t ∧ (t.ports = { s.ports with backhaulUp := s.ports.backhaulUp ++ [port] }) ∧
      Claims.Raised .portLink 0 [0, port, 1] s t ∧
      Claims.Frame [.ports, .ev, .time, .ctrs] s t) ∧
  (∀ (s : State) (port : Nat),
    port < 2 →
    (s.partnerPort port).link = true →
    Claims.Room s →
    ∃ t, Machine.exec (.portLinkChange 1 port 0) s = .next t ∧ ((t.partnerPort port).link = false) ∧
      Claims.Raised .portLink 0 [1, port, 0] s t ∧
      Claims.Counted { name := .linkDown, a := 8 + port } 1 s t ∧
      Claims.Frame [.ports, .ev, .time, .ctrs] s t) ∧
  (∀ (s : State) (status : Nat),
    Machine.exec (.hostError 0 status) s = .next (s.count { name := .aerCorr })) ∧
  (∀ (s : State) (status : Nat),
    Machine.exec (.hostError 1 status) s = .next (s.count { name := .aerUncorr })) ∧
  (∀ (s : State) (status : Nat),
    Claims.Room s →
    ∃ t, Machine.exec (.hostError 2 status) s = .next t ∧ Claims.Raised .portHostError 0 [status] s t ∧
      Claims.Counted { name := .aerUncorr } 1 s t ∧
      Claims.Frame [.ev, .time, .ctrs] s t)

/-- The power, reset and boot events of chapter 26 run. On the states each clause names: a boot stage whose self-test passed goes
to the next, and a stage whose store stands failed goes to HELD with its boot detail; a released power-on reset starts the
boot ROM and keeps every record; a warm reset that is due does so; a reset asserted holds the chip, or waits for the save
that runs; a monitor's reset names its rail; a supply back in range starts a held chip; the power-fail warning starts the
save in ARMED and pauses a boot; a save that is done says so and goes on; the warning lifted arms the chip again; an input
fault that lasts disarms it; a monitor's warning starts a save; a thermal trip in ARMED starts a save and resets after it; a
wake starts the control plane again; the host link's reset closes its tables; the host's D3hot, wake and D0 move the power
state and the wake reasons. Each answers a next state; where a clause ends in a frame, every part of State that it does not
name is as it was. The choices of the model that the clauses rest on are in log entries 7, 96, 97, 99, 101, 103, 104, 105,
138, 142, 154. -/
def Obligations.PowerEventsComplete : Prop :=
  (∀ (s : State) (detail measured : Nat) (cells : List Nat) (dies : List (List Nat)),
    s.pow.paused = false →
    s.pow.stage = 2 →
    detail ≠ 0x0201 →
    Machine.exec (.bootStageDone detail measured cells [] dies) s = .next (({ s with arch := { s.arch with cells := (cells.filter s.unitHere).map (fun a => (a, ({ fenced := true } : CellHealth))), fencedBlocks := [], regions := [] }, pow := { s.pow with testFail := !cells.isEmpty, testRegions := [], testMs := s.time.ms - s.pow.stageStart } }).nextStage 3)) ∧
  (∀ (s : State) (measured : Nat) (cells regions : List Nat) (dies : List (List Nat)),
    s.pow.paused = false →
    s.pow.stage = 7 →
    s.pow.bootDetail = 0 →
    ∃ t, Machine.exec (.bootStageDone 0x0701 measured cells regions dies) s = .next t ∧ (t.pow.stage = 0x0F) ∧
      (t.pow.bootDetail = 0x0701) ∧
      (t.records = s.records)) ∧
  (∀ (s : State) (vaon : Nat),
    s.pow.porstLow = true →
    s.pow.warn ≠ .saving →
    ∃ t, Machine.exec (.powerOnReset vaon) s = .next t ∧ (t.pow.stage = 1) ∧
      (t.pow.porstLow = false) ∧
      (t.pow.resetKind = 0) ∧
      (t.pow.resetCause = ResetCause.powerOn.code) ∧
      (t.arch.units = []) ∧
      (t.mail.chans = []) ∧
      (t.mail.mailboxReady = false) ∧
      (t.records = s.records)) ∧
  (∀ (s : State) (x : Nat),
    s.pow.resetAfterSave = some x →
    s.pow.warn = .armed →
    s.pow.saveReset = false →
    ∃ t, Machine.exec (.warmReset) s = .next t ∧ (t.pow.stage = 1) ∧
      (t.pow.resetKind = 1) ∧
      (t.pow.resetAfterSave = none) ∧
      (t.pow.resetCause = (resetCauseOf x).code) ∧
      (t.arch.units = []) ∧
      (t.records = s.records)) ∧
  (∀ (s : State),
    s.pow.warn = .saving →
    Machine.exec (.porstAssert) s = .next ({ s with pow := { s.pow with porstLow := true, saveReset := true } })) ∧
  (∀ (s : State),
    s.pow.warn ≠ .saving →
    ∃ t, Machine.exec (.porstAssert) s = .next t ∧ (t.pow.stage = 0) ∧
      (t.pow.porstLow = true) ∧
      (t.arch.units = []) ∧
      (t.mail = { s.mail with mailboxReady := false, serviceReady := false }) ∧
      (t.pair = { s.pair with serving := false }) ∧
      Claims.Frame [.mail, .pair, .arch, .pow, .lanes, .filt, .rx, .lea] s t) ∧
  (∀ (s : State) (rail : Nat),
    s.pow.railsOut = [] →
    ∃ t, Machine.exec (.monitorReset rail) s = .next t ∧ (t.pow.stage = 0) ∧
      (t.pow.held = true) ∧
      (t.pow.railsOut = [rail]) ∧
      (t.pow.vaonLost = (s.pow.vaonLost || decide (rail = 0))) ∧
      Claims.Frame [.mail, .pair, .arch, .pow, .lanes, .filt, .rx, .lea] s t) ∧
  (∀ (s : State),
    s.pow.held = true →
    s.pow.stage = 0 →
    s.pow.porstLow = false →
    s.pow.thermTrip = false →
    ∃ t, Machine.exec (.supplyInRange) s = .next t ∧ (t.pow.stage = 1) ∧
      (t.pow.held = false) ∧
      (t.pow.railsOut = []) ∧
      (t.pow.resetCause = ResetCause.supply.code)) ∧
  (∀ (s : State),
    s.pow.pfwLow = false →
    s.pow.warn = .armed →
    s.pow.stage = 0x0A →
    s.air.queue = [] →
    s.met.pulses = [] →
    ∃ t, Machine.exec (.pfwAssert) s = .next t ∧ (t.pow.warn = .saving) ∧
      (t.pow.pfwLow = true) ∧
      (t.pow.saveStartMs = s.time.ms) ∧
      Claims.Frame [.pow] s t) ∧
  (∀ (s : State),
    s.pow.pfwLow = false →
    s.pow.warn = .idle →
    s.pow.stage = 4 →
    Machine.exec (.pfwAssert) s = .next ({ s with pow := { s.pow with pfwLow := true, pfwSinceMs := s.time.ms, paused := true } })) ∧
  (∀ (s : State) (us : Nat),
    s.pow.warn = .saving →
    s.pow.saveReset = false →
    s.pow.pfwLow = true →
    Claims.Room s →
    ∃ t, Machine.exec (.saveDone us) s = .next t ∧ (t.pow.warn = .holding) ∧
      (t.pow.saveEndMs = s.time.ms) ∧
      Claims.Raised .powerWarning 0 [us, s.pow.saveFirst, s.pow.saveLast, slotTaken s.pow.saveSlots] s t ∧
      Claims.Counted { name := .saves } 1 s t ∧
      Claims.Frame [.time, .pow, .ev, .ctrs] s t) ∧
  (∀ (s : State),
    s.pow.pfwLow = true →
    s.pow.warn = .disarmed →
    8 ≤ s.pow.stage →
    Machine.exec (.pfwDeassert) s = .next ({ s with pow := { s.pow with pfwLow := false, paused := false, savedFailure := s.pow.savedFailure && !s.pow.railsOut.isEmpty, warn := .armed } })) ∧
  (∀ (s : State),
    s.pow.pfwLow = true →
    s.pow.railsOut = [] →
    s.pow.warn = .holding →
    s.pow.resetAfterSave = none →
    s.pow.inRangeMs + 2000 ≤ s.time.ms →
    s.pow.saveEndMs + 2000 ≤ s.time.ms →
    s.pair.st = .ready →
    Claims.Room s →
    ∃ t, Machine.exec (.inputFaultTimeout) s = .next t ∧ (t.pow = { s.pow with warn := .disarmed, paused := false }) ∧
      Claims.Counted { name := .inputFaults } 1 s t ∧
      Claims.Raised .powerInputFault 0 [s.time.ms - s.pow.pfwSinceMs] s t ∧
      Claims.Frame [.pow, .ev, .time, .ctrs] s t) ∧
  (∀ (s : State) (rail : Nat),
    s.pow.savedFailure = false →
    s.pow.stage = 0x0A →
    s.pow.warn = .armed →
    s.pow.railsOut = [] →
    s.air.queue = [] →
    s.met.pulses = [] →
    ∃ t, Machine.exec (.monitorWarning rail) s = .next t ∧ (t.pow.warn = .saving) ∧
      (t.pow.railsOut = [rail]) ∧
      Claims.Counted { name := .monitorSaves } 1 s t ∧
      Claims.Frame [.pow, .ctrs] s t) ∧
  (∀ (s : State) (sensor : Nat),
    s.pow.warn = .armed →
    s.pair.serving = false →
    s.air.queue = [] →
    s.met.pulses = [] →
    Claims.Room s →
    ∃ t, Machine.exec (.thermalTrip sensor) s = .next t ∧ (t.pow.warn = .saving) ∧
      (t.pow.saveReset = true) ∧
      (t.pow.tripPending = true) ∧
      (t.arch.chipFatal = true) ∧
      Claims.Raised .chipFatal 0 [11] s t) ∧
  (∀ (s : State) (x : Nat),
    s.pow.stage = 0x0C →
    s.pow.resetAfterSave = some x →
    s.pow.heldDoorbells = [] →
    s.vault.tamperLatched = false →
    ∃ t, Machine.exec (.sleepWake 3) s = .next t ∧ (t.pow.stage = 8) ∧
      (t.mail.mailboxReady = true) ∧
      (t.records = s.records)) ∧
  (∀ (s : State) (kind : Nat),
    kind = 0 ∨ kind = 3 →
    s.hostSessions = [] →
    s.ports.hostUp = true →
    ∃ t, Machine.exec (.hostLinkReset kind) s = .next t ∧ (t.mail.msixTable = []) ∧
      (t.mail.msixPending = []) ∧
      (t.ports = { s.ports with hostUp := false }) ∧
      (t.pow = { s.pow with host := if kind = 3 then .d3cold else .d0, pmeEn := false, pmeStatus := false, wakeN := false, wakeReasons := 0 }) ∧
      (kind = 0 → Claims.Counted { name := .linkDown, a := 10 } 1 s t) ∧
      Claims.Frame [.mail, .ports, .pow, .ctrs] s t) ∧
  (∀ (s : State) (kind : Nat),
    kind = 1 ∨ kind = 2 →
    s.hostSessions = [] →
    ∃ t, Machine.exec (.hostLinkReset kind) s = .next t ∧ (t.ports.hostUp = true) ∧
      (t.pow.host = .d0) ∧
      Claims.Frame [.mail, .ports, .pow] s t) ∧
  (∀ (s : State) (pmeEn : Nat),
    s.pow.host = .d0 →
    ∃ t, Machine.exec (.d3hotEntry pmeEn) s = .next t ∧ (t.pow = { s.pow with host := .d3hot, pmeEn := decide (pmeEn ≠ 0), wakeMask := s.rd Rec.PowerPolicy.WakeMask, wakeReasons := 0, d3Stamp := s.stamp, d3Queued := s.hostNotes }) ∧
      Claims.Counted { name := .hostStates } 1 s t ∧
      Claims.Frame [.pow, .ctrs] s t) ∧
  (∀ (s : State) (reason : Nat),
    s.pow.host = .d3hot →
    s.pow.pmeEn = true →
    1 ≤ reason →
    reason ≤ 5 →
    bitOn s.pow.wakeMask reason = true →
    s.pow.wakeReasons = 0 →
    ∃ t, Machine.exec (.wakeCondition reason) s = .next t ∧ (t.pow = { s.pow with wakeReasons := 2 ^ reason, pmeStatus := true, wakeN := true }) ∧
      Claims.Counted { name := .wakeSignals } 1 s t ∧
      Claims.Frame [.pow, .ctrs] s t) ∧
  (∀ (s : State),
    Machine.exec (.linkTrainingStart) s = .next ({ s with pow := { s.pow with wakeN := false } })) ∧
  (∀ (s : State),
    s.pow.host = .d3hot →
    s.mail.msixPending = [] →
    s.hostSessions = [] →
    s.pow.wakeReasons = 8 →
    Claims.Room s →
    ∃ t, Machine.exec (.d0Return) s = .next t ∧ (t.pow = { s.pow with host := .d0, pmeEn := false, wakeN := false, wakeReasons := 0 }) ∧
      Claims.Raised .powerWake 0 [8, s.pow.d3Stamp, s.hostNotes - s.pow.d3Queued] s t ∧
      Claims.Frame [.mail, .pow, .ev, .time, .ctrs] s t)

/-- The lockout and safe-command events of chapter 24 run. On the states each clause names: the second sample of an input whose
two contacts differ sees it DISCREPANT; a discrepancy that lasts becomes a FAULT and says so; a release hold that is over
ends; a safe command whose deadline passed ends as expired and says so. Each answers a next state; where a clause ends in a
frame, every part of State that it does not name is as it was. -/
def Obligations.SafetyEventsComplete : Prop :=
  (∀ (s : State) (levels i : Nat),
    (List.range 16).filter s.lockEnabled = [i] →
    (s.lockout i).seen = false →
    (s.lockout i).samples = 1 →
    (s.lockout i).levelA = true →
    (s.lockout i).levelB = false →
    (s.lockout i).runA = 0 →
    (s.lockout i).runB = 0 →
    bitOn levels (2 * i) = true →
    bitOn levels (2 * i + 1) = false →
    ∃ t, Machine.exec (.lockoutSample levels) s = .next t ∧ ((t.lockout i).st = .discrepant) ∧
      ((t.lockout i).seen = true) ∧
      ((t.lockout i).samples = 2) ∧
      ((t.lockout i).holdEndMs = some (s.time.ms + 1000 * s.rd Rec.LockoutInput.ReleaseHoldS i)) ∧
      Claims.Frame [.safe] s t) ∧
  (∀ (s : State) (input : Nat),
    s.lockEnabled input = true →
    (s.lockout input).seen = true →
    (s.lockout input).st = .discrepant →
    (s.lockout input).levelA = true →
    (s.lockout input).levelB = false →
    (s.lockout input).sinceMs + s.rd Rec.LockoutInput.DiscrepancyMs input ≤ s.time.ms →
    Claims.Room s →
    ∃ t, Machine.exec (.lockoutDiscrepancyTimeout input) s = .next t ∧ (t.lockout input = { s.lockout input with st := .fault, sinceMs := s.time.ms }) ∧
      Claims.Counted { name := .safeFault, a := input } 1 s t ∧
      Claims.Raised .safeLockoutFault 0 [input, (s.lockout input).levels] s t ∧
      Claims.Frame [.safe, .ev, .time, .ctrs] s t) ∧
  (∀ (s : State) (input n : Nat),
    (s.lockout input).holdEndMs = some n →
    n ≤ s.time.ms →
    Machine.exec (.releaseHoldEnd input) s = .next (s.setLockout input { s.lockout input with holdEndMs := none })) ∧
  (∀ (s : State) (slot : Nat) (x : SafeCmd),
    (s.safeMeter slot).out = some x →
    x.deadline < s.stamp →
    Claims.Room s →
    ∃ t, Machine.exec (.safeDeadline slot) s = .next t ∧ ((t.safeMeter slot).out = (s.safeMeter slot).waiting) ∧
      ((t.safeMeter slot).waiting = none) ∧
      Claims.Raised .safeCommandExpired (s.meterTenant slot) [slot, x.kind, x.seq, x.sends] s t ∧
      Claims.Counted { name := .safeOutcome, a := x.kind, b := 2 } 1 s t ∧
      Claims.Frame [.safe, .ev, .time, .ctrs, .store, .ports] s t)

/-- What each event of chapters 2, 3, 20, 21, 25 and 26 does to the state, in every state and for all its operands. For every
state and all operands, each of these 58 rows answers the next state written out here: errorDetected, workDeadlineMissed,
probationEnd, regionRestartDone, unitEndState, unitStopOverrun, hostBadAccess, registerWrite, heartbeatTick, mbDoorbell,
commandResponseReady, mbRespAck, mbNotifyAck, mbReset, channelResetDone, ctrlSessionHello, ctrlSessionClose, ctrlRecordWrite,
ctrlCredentialRevoke, sessionIdleTimeout, ticketExpired, backoffEnd, tamperAlarm, eventAdmitted, snapshotComplete,
snapshotSpill, barrowHoldExpired, tenantReleaseDone, tenantAccessViolation, shareWait, bundleAssemblyTimeout,
sessionReconnect, tlsHandshakeDone, sessionFrameReceived, sessionKeepalive, sessionRxTimeout, exportCursorJournal,
backhaulFrameReceived, portLinkChange, hostLinkReset, hostError, powerOnReset, warmReset, bootStageDone, pfwAssert, saveDone,
pfwDeassert, inputFaultTimeout, monitorWarning, monitorReset, sleepWake, d3hotEntry, wakeCondition, linkTrainingStart,
d0Return, thermalTrip, porstAssert, supplyInRange. Conditions under which a row does not occur leave the state as it was. The
clauses state the model as a whole; where the spec leaves a value, a layout or an order open, the terms take the choice of
the log entries that their definitions name (here 2, 4, 9, 21, 90, 91, 92, 94, 96, 99, 101, 103, 105, 108, 135, 138, 146,
148, 153). -/
def Obligations.ControlEventsAct : Prop :=
  -- ERROR_DETECTED: kind 0 a single-bit error, 1 a parity or ECC error of which `n` retries have failed before one
  -- succeeds or all are spent, 2 a double-bit error on a crossing, whose word is discarded and whose work item `n` (0
  -- where it belonged to none) goes to another cell as the unit is fenced (R24), 3 an error that is region-fatal, 4 one
  -- that is chip-fatal (`n` not 0: the control region still runs).
  (∀ (kind unit n cause : Nat) (s : State), Machine.exec (.errorDetected kind unit n cause) s = .next (
    if kind = 4 then (s.chipFatalError cause (n ≠ 0))
    else if ¬s.unitHere unit then s
    else match kind with
      | 0 => (s.corrected unit)
      | 1 => (if n < s.rd Rec.FaultPolicy.CellRetries then s.corrected unit else s.fenceUnit unit cause)
      | 2 =>
        let lost := n ≠ 0 ∧ addrCell unit ≠ 0x3F ∧ !(s.cell unit).fenced ∧ !(s.queueOf unit).any fun (w : WorkItem) => w.item == n
        let s := s.fenceUnit unit cause
        (if lost then (s.reissue unit n).count { name := .reissues, a := unit } else s)
      | 3 => (s.regionFatalError (addrRegion unit) cause)
      | _ => s)) ∧
  -- WORK_DEADLINE_MISSED: the ticket is revoked and its item reissued under the next ticket to another cell, or held by
  -- the block (R26, R27); the item of a fine cell is the channel whose sample slot it was; SlowMisses misses within
  -- SlowWindowMs make the cell SLOW. The reissue counts for the cell that missed. (Log entry 108: DESIGN CHOICE. Log entry
  -- 148: DESIGN CHOICE.)
  (∀ (unit ticket item : Nat) (s : State), Machine.exec (.workDeadlineMissed unit ticket item) s = .next (
    if ¬s.unitHere unit ∨ addrCell unit = 0x3F ∨ s.revokedTicket ticket ∨ (s.cell unit).fenced ∨ !s.overdue unit ticket then s
    else
      let item := ((s.arch.work.find? fun (w : WorkItem) => w.ticket == ticket).map WorkItem.item).getD item
      let s := { s with arch := { s.arch with
        revoked := s.arch.revoked ++ [ticket], work := s.arch.work.filter fun (w : WorkItem) => w.ticket ≠ ticket } }
      let s := s.settleWork.reissue unit item
      let s := (s.count { name := .deadlineMisses, a := unit }).count { name := .reissues, a := unit }
      let s := if addrRegion unit = 8 then s.count { name := .ledEngReissue, a := 8 * addrBlock unit + addrCell unit } else s
      let s := if addrRegion unit < 4 ∧ 20 ≤ addrBlock unit then s.moveSlots unit item else s
      let x := s.cell unit
      let misses := s.time.ms :: x.misses.filter fun t => decide (s.time.ms < t + s.rd Rec.FaultPolicy.SlowWindowMs)
      let s := s.setCell unit { x with misses := misses }
      (if ¬x.slow ∧ s.rd Rec.FaultPolicy.SlowMisses ≤ misses.length then s.enterSlow unit misses.length else s))) ∧
  -- PROBATION_END: a SLOW cell returns to service after ProbationMs.
  (∀ (unit : Nat) (s : State), Machine.exec (.probationEnd unit) s = .next (
    let x := s.cell unit
    if x.slow ∧ x.slowSince + s.rd Rec.FaultPolicy.ProbationMs ≤ s.time.ms then
      (s.setCell unit { x with slow := false }).settleWork
    else s)) ∧
  -- REGION_RESTART_DONE. (Log entry 2: DESIGN CHOICE.)
  (∀ (region : Nat) (s : State), Machine.exec (.regionRestartDone region) s = .next (
    let x := Map.getD s.arch.regions region {}
    if x.st ≠ .restarting then s
    else
      let s := { s with arch := { s.arch with regions := Map.put s.arch.regions region { x with st := .on, lanes := [] } } }
      ((s.regionUp region x.lanes).raise .regionRestarted 0 [region, s.time.ms - x.began]))) ∧
  -- UNIT_END_STATE: a STOPPING unit reaches its end state.
  (∀ (kind number : Nat) (s : State), Machine.exec (.unitEndState kind number) s = .next (
    match unitOf kind number with
    | none => s
    | some u =>
      match u, s.unitSt u with
      | .context n, .stopping _ => (s.freeContext n)
      | _, .stopping _ => ((s.setUnit u (endUnit (s.unit u))).ended u)
      | _, _ => s)) ∧
  -- UNIT_STOP_OVERRUN: the stop bound passes first (R42): the unit is fenced as a contained error (Table 2-4), with cause
  -- 3 of `cell.fenced`. (Log entry 135: DEDUCED. Log entry 146: DESIGN CHOICE.)
  (∀ (kind number : Nat) (s : State), Machine.exec (.unitStopOverrun kind number) s = .next (
    match unitOf kind number with
    | none => s
    | some u =>
      let x := s.unit u
      match x.st with
      | .stopping _ =>
        if s.time.ms ≤ x.stopAt + u.stopBound then s
        else
          let (x', held) := overrunUnit x
          let s := (s.setUnit u x').raise .unitStopOverrun 0 [u.word, s.time.ms - x.stopAt]
          let s := s.raise .cellFenced 0 [s.unitCell u, 3]
          let (s, dropped) : State × Bool := match u with
            | .context n => s.dropContext n
            | _ => (s.ended u, held)
          (if dropped then s.raise .unitEnableDropped 0 [u.word] else s)
      | _ => s)) ∧
  -- An access of the wrong size or alignment is ignored and counted (R48).
  (∀ (s : State), Machine.exec (.hostBadAccess) s = .next (
    { s with mail := { s.mail with badAccess := (s.mail.badAccess + 1) % 2 ^ 32 } })) ∧
  -- A 32-bit write to a host-window register without a row of its own: MB_VECTORS, the command buffer, the MSI-X table.
  -- Every other offset ignores it (R48); channel pages ignore it before MailboxReady (R49), and a tunnelled channel's page
  -- counts it (R628).
  (∀ (off value : Nat) (s : State), Machine.exec (.registerWrite off value) s = .next (
    let v := value % 2 ^ 32
    if off % 4 ≠ 0 ∨ 0x40000 ≤ off then { s with mail := { s.mail with badAccess := (s.mail.badAccess + 1) % 2 ^ 32 } }
    else if 0x10000 ≤ off ∧ off < 0x30000 then
      let n := (off - 0x10000) / 0x1000
      let p := off % 0x1000
      if !s.mail.mailboxReady then s
      else if s.tunnelled n then (s.ignoreWrite n)
      else if p = 0x010 then
        (s.modChan n fun c => { c with respVec := bitsAt v 0 6, notifyVec := bitsAt v 8 6 })
      else if 0x040 ≤ p ∧ p < 0x840 then
        { s with mail := { s.mail with buffers := bufStore s.mail.buffers off (le 4 v) } }
      else s
    else if 0x30000 ≤ off ∧ off < 0x30400 then (s.msixWrite (off - 0x30000) v)
    else s)) ∧
  -- Every 1 ms: the clocks advance by 250 000 ticks, the lanes send, and while firmware runs Zhepel increments
  -- HW_HEARTBEAT (R48). (Log entry 4: DESIGN CHOICE.)
  (∀ (s : State), Machine.exec (.heartbeatTick) s = .next (
    let s := s.advance 250000
    let s := { s with
      time := { s.time with ms := s.time.ms + 1 }
      air := { s.air with onAir := s.air.onAir.filter fun (e : Launch) => decide (s.time.air < e.start + e.span) } }
    let s := s.cutShort.nextRound
    let s := ((Map.keys s.lanes).filter fun n => (s.lane n).txFromPs.isSome).foldl State.formDown s
    (if s.mail.mailboxReady ∧ s.pow.stage ≠ 0x0C then
        { s with mail := { s.mail with heartbeat := (s.mail.heartbeat + 1) % 2 ^ 32 } }
      else s))) ∧
  -- A doorbell (R50): in IDLE the request in the command buffer is taken and the channel enters BUSY; in any other state,
  -- and on a tunnelled channel's page (R628), it is ignored and counted. Before MailboxReady it is ignored (R49); in SLEEP
  -- it is held (R665).
  (∀ (ch : Nat) (s : State), Machine.exec (.mbDoorbell ch) s = .next (
    if s.pow.stage = 0x0C then
      { s with pow := { s.pow with heldDoorbells := s.pow.heldDoorbells ++ [ch] } }
    else if !s.mail.mailboxReady then s
    else if s.tunnelled ch then (s.ignoreWrite ch)
    else match (s.chan ch).st with
      | .idle =>
        let raw := bufLoad s.mail.buffers (cmdBuf ch) 2048
        ((s.modChan ch fun c => { c with st := .busy }).receive ch raw false)
      | _ => (s.ignoreWrite ch))) ∧
  -- The response is placed in the command buffer: the channel enters RESPONSE_READY and RespVector is signalled (R50); on
  -- a tunnelled channel the response leaves as type-4 frames, no vector is signalled, and the channel is IDLE again
  -- (R628). A session that the command closes after its response closes now (R77). (Log entry 9: DEDUCED.) (Log entry 92:
  -- DEDUCED.)
  (∀ (ch : Nat) (s : State), Machine.exec (.commandResponseReady ch) s = .next (
    match (s.chan ch).st, (s.chan ch).response with
    | .busy, some r =>
      match responseMessages (s.respKey ch r) ch r with
      | [] => s
      | m :: ms =>
        if s.tunnelled ch then
          let s := (m :: ms).foldl (fun s x => s.tunnelSend ch x) (s.modChan ch fun c => { c with st := .idle, response := none })
          (if r.closeAfter then s.closeSession ch .revoked else s)
        else
        let s := (s.place ch m).modChan ch fun c => { c with st := .responseReady, response := none, fragments := ms }
        let s := s.signal (s.chan ch).respVec
        (if r.closeAfter then s.closeSession ch .revoked else s)
    | _, _ => s)) ∧
  -- MB_RESP_ACK (R50): the next response fragment is placed, or the channel returns to IDLE. (Log entry 9: DEDUCED.)
  (∀ (ch : Nat) (s : State), Machine.exec (.mbRespAck ch) s = .next (
    if !s.mail.mailboxReady then s
    else if s.tunnelled ch then (s.ignoreWrite ch)
    else match (s.chan ch).st, (s.chan ch).fragments with
    | .responseReady, m :: ms => ((s.place ch m).modChan ch fun c => { c with fragments := ms })
    | .responseReady, [] => (s.modChan ch fun c => { c with st := .idle })
    | _, _ => s)) ∧
  -- MB_NOTIFY_ACK (R508): the notification is consumed; while more are pending the next is presented and the vector
  -- signalled again.
  (∀ (ch : Nat) (s : State), Machine.exec (.mbNotifyAck ch) s = .next (
    if !s.mail.mailboxReady then s
    else if s.tunnelled ch then (s.ignoreWrite ch)
    else match (s.chan ch).notes with
    | [] => s
    | [_] => (s.modChan ch fun c => { c with notes := [], overflowed := false })
    | _ :: t => (((s.modChan ch fun c => { c with notes := t }).present ch).signalNote ch))) ∧
  -- MB_RESET (R52): the channel enters RESETTING. A tunnelled channel is not served from the host window (R54, R628).
  (∀ (ch : Nat) (s : State), Machine.exec (.mbReset ch) s = .next (
    if !s.mail.mailboxReady then s
    else if s.tunnelled ch then (s.ignoreWrite ch)
    else (s.modChan ch fun c => { c with st := .resetting, assembly := none, fragments := [] }))) ∧
  -- Once the running command has ended, the reset discards its response, closes the session and its notifications, and the
  -- channel enters IDLE (R52). Back-off and tickets stay.
  (∀ (ch : Nat) (s : State), Machine.exec (.channelResetDone ch) s = .next (
    match (s.chan ch).st, (s.chan ch).request with
    | .resetting, none =>
      let s := s.closeSession ch .reset
      (s.modChan ch fun c => { c with st := .idle, response := none, fragments := [], notes := [], assembly := none })
    | _, _ => s)) ∧
  -- While the noise source is unhealthy a request that needs a random value waits for it (R311); one that is refused does
  -- not. (Log entry 21: DEDUCED.)
  (∀ (ch role tenant slot : Nat) (s : State), Machine.exec (.ctrlSessionHello ch role tenant slot) s = .next (
    let t := s.command ch .ctrlSessionHello (runSessionHello role tenant slot)
    (if s.vault.rngOk ∨ t.freeCtr = s.freeCtr then t else s))) ∧
  (∀ (ch : Nat) (s : State), Machine.exec (.ctrlSessionClose ch) s = .next (
    match s.session ch with
    | some x => ((s.command ch .ctrlSessionClose runSessionClose).keepKey ch x.ks)
    | none => (s.command ch .ctrlSessionClose runSessionClose))) ∧
  (∀ (ch : Nat) (record : List Byte) (s : State), Machine.exec (.ctrlRecordWrite ch record) s = .next (
    (s.commitLater ch .ctrlRecordWrite (runRecordWrite record)))) ∧
  (∀ (ch role tenant slot : Nat) (s : State), Machine.exec (.ctrlCredentialRevoke ch role tenant slot) s = .next (
    let own := (s.sessionsOf role tenant slot).contains ch && (s.requestFor ch .ctrlCredentialRevoke).isSome
    let t := s.command ch .ctrlCredentialRevoke (runCredentialRevoke role tenant slot)
    (if own && t.answered ch then t.closeLater ch else t))) ∧
  -- IdleTimeoutS passes without a request that re-arms the timer (R66). (Log entry 2: DESIGN CHOICE.)
  (∀ (ch : Nat) (s : State), Machine.exec (.sessionIdleTimeout ch) s = .next (
    match s.session ch with
    | some x => if x.idleMs ≤ s.time.ms then (s.closeSession ch .idle) else s
    | none => s)) ∧
  -- ApprovalWindowS passes and the ticket becomes void (R69); only this voiding counts as an expired ticket (R79). (Log
  -- entry 153: DESIGN CHOICE.)
  (∀ (ticket : Nat) (s : State), Machine.exec (.ticketExpired ticket) s = .next (
    match s.ticket ticket with
    | some x =>
      if x.expiresMs ≤ s.time.ms then
        ((s.voidTicket ticket .window).count { name := .expiredTickets, a := x.ch })
      else s
    | none => s)) ∧
  -- The authentication back-off expires (R65).
  (∀ (ch : Nat) (s : State), Machine.exec (.backoffEnd ch) s = .next (
    match (s.chan ch).backoffEnd with
    | some e => if e ≤ s.time.ms then (s.modChan ch fun c => { c with backoffEnd := none }) else s
    | none => s)) ∧
  -- TAMPER_ALARM: a tamper loop opens; before SERVICE the chip ends in MINIMAL (R658), at once where CONTROL has been
  -- reached. On a running chip the vault erases and seals, which is region-fatal in the control region; during start-up
  -- the vault seals and the boot ends in MINIMAL; in SLEEP the alarm wakes the chip. `aborted` counts the bound operations
  -- that were under way. (Log entry 101: DESIGN CHOICE.)
  (∀ (loop aborted : Nat) (s : State), Machine.exec (.tamperAlarm loop aborted) s = .next (
    if 1 < loop then s else
    let was := s.vault.tamperLatched
    let s := s.count { name := .vaultAlarms }
    let open' := if bitOn s.vault.loopsOpen loop then s.vault.loopsOpen else s.vault.loopsOpen + 2 ^ loop
    let s := { s with vault := { s.vault with loopsOpen := open', tamperLatched := true, alarmStamp := if was then s.vault.alarmStamp else s.stamp } }
    if was then s
    else if s.pow.stage = 0x0A ∨ (s.pow.stage = 0x0F ∧ s.vault.st = .opened) then ((s.tamperSteps loop 0 aborted).regionFatalError 10 0)
    else if s.pow.stage = 0x0C then ((List.range 32).foldl (fun s n => s.closeSession n .revoked) s)
    else if s.vault.st = .opened then
      let s := (s.tamperSteps loop 1 aborted).bootFail 0x0501 0x0E
      (if 7 ≤ s.pow.stage then s.standFailed else s)
    else s)) ∧
  -- EVENT_ADMITTED: the oldest raised event is admitted, routed and recorded, and head-end sessions take the event frames.
  (∀ (s : State), Machine.exec (.eventAdmitted) s = .next (
    (s.takeEvent State.look State.regionWord).sendEvents)) ∧
  -- Post collection of a snapshot ends: by count, by PostMs, or because the area is full (R512 step 3).
  (∀ (id : Nat) (s : State), Machine.exec (.snapshotComplete id) s = .next (
    match s.ev.slots.find? (fun p => p.id == id && p.collecting) with
    | none => s
    | some p =>
      if p.postLimit ≤ p.post.length ∨ p.postEndMs ≤ s.time.ms then
        let s := { s with ev := { s.ev with slots := s.ev.slots.map fun (q : Snapshot) =>
          if q.id == id then { q with collecting := false } else q } }
        (s.raise .barrowTriggered 0 [p.trigger, p.id, p.occurrences])
      else s)) ∧
  -- A completed snapshot is copied to the recorder area and its slot freed (R515). A full area loses its oldest snapshot
  -- that is neither Protected nor under a hold; where there is none the slot stays and `barrow.area_full` is raised once.
  (∀ (id : Nat) (s : State), Machine.exec (.snapshotSpill id) s = .next (
    match s.ev.slots.find? (fun p => p.id == id && !p.collecting) with
    | none => s
    | some p =>
      let place (area : List Snapshot) (s : State) : State :=
        { s with ev := { s.ev with area := area ++ [p], slots := s.ev.slots.filter (fun q => !(q.id == id)) } }
      if s.ev.hold.isSome then s
      else if s.ev.area.length < 2048 then (place s.ev.area s)
      else
        match s.ev.area.find? (fun q => !q.prot) with
        | some old => (place (s.ev.area.filter (fun q => !(q.id == old.id))) s)
        | none =>
          if s.ev.areaFull then s else
            let s := { s with ev := { s.ev with areaFull := true } }
            ((s.count { name := .areaFull }).raise .barrowAreaFull 0 [s.ev.area.length]))) ∧
  -- HoldMaxS passes and the hold ends (R516).
  (∀ (s : State), Machine.exec (.barrowHoldExpired) s = .next (
    match s.ev.hold with
    | none => s
    | some h =>
      if h.endMs ≤ s.time.ms then
        ({ s with ev := { s.ev with hold := none } }.raise .barrowHoldExpired 0 [h.ch])
      else s)) ∧
  -- TENANT_RELEASE_DONE: once the ledger has closed every meter of a RELEASING tenant, the release ends and the tenant is
  -- OPEN.
  (∀ (tenant : Nat) (s : State), Machine.exec (.tenantReleaseDone tenant) s = .next (
    if s.isReleasing tenant ∧ (Map.getD s.led.queues tenant []).isEmpty then (s.finishRelease tenant) else s)) ∧
  -- TENANT_ACCESS_VIOLATION: work that the arbiter charges to `requester` accesses an address: in another, SEALED tenant's
  -- region it is refused before it reaches the line, counted and reported.
  (∀ (requester address : Nat) (s : State), Machine.exec (.tenantAccessViolation requester address) s = .next (
    match s.ownerOf address with
    | none => s
    | some owner =>
      if owner = requester then s
      else ((s.count { name := .tenViolations, a := owner }).raise .tenantAccessViolation owner [owner, requester, s.areaAt address]))) ∧
  -- SHARE_WAIT: work of a sealed tenant has waited for a resource beyond ShareWaitMs (R529).
  (∀ (tenant resource : Nat) (s : State), Machine.exec (.shareWait tenant resource) s = .next (
    match Resource.all[resource]? with
    | none => s
    | some r =>
      let w := s.waited r tenant
      if s.isSealed tenant ∧ s.rd Rec.Tenant.ShareWaitMs tenant < w then
        ((s.count { name := .tenWaits, a := tenant }).raiseEvery 60000 .tenantShareWait tenant tenant [tenant, resource, w])
      else s)) ∧
  -- BUNDLE_ASSEMBLY_TIMEOUT: an assembly that has received no part for 60 s is discarded.
  (∀ (s : State), Machine.exec (.bundleAssemblyTimeout) s = .next (
    match s.upd.bundle with
    | some a => if a.lastMs + 60000 ≤ s.time.ms then s.dropAssembly else s
    | none => s)) ∧
  -- The reconnect wait of an enabled session ends, or it has not been opened yet: a chip that sends Serving 1 opens TLS.
  (∀ (session : Nat) (s : State), Machine.exec (.sessionReconnect session) s = .next (
    let x := s.headEnd session
    let due := decide (x.st = .closed ∨ (x.st = .waiting ∧ x.retryMs ≤ s.time.ms))
    if session < 32 ∧ s.rdB Rec.HeadEnd.Enabled session ∧ s.pair.serving ∧ due ∧ s.portUp (s.rd Rec.HeadEnd.Port session) then
      (s.setHeadEnd session { x with st := .handshake })
    else s)) ∧
  -- TLS_HANDSHAKE_DONE: the session opens where the handshake completed with one of the device's two suites (0x1301,
  -- 0x1302) and the server's SubjectPublicKeyInfo, `spki`, has the digest PeerKeyHash (R620). (Log entry 91: PRESUMED.)
  (∀ (session ok alert suite : Nat) (spki : List Byte) (s : State), Machine.exec (.tlsHandshakeDone session ok alert suite spki) s = .next (
    let x := s.headEnd session
    if x.st ≠ .handshake then s
    else if ok = 0 ∨ ¬(suite = 0x1301 ∨ suite = 0x1302) then (s.tlsFailed session alert)
    else if ofLe (sha256 spki) ≠ s.rd Rec.HeadEnd.PeerKeyHash session then (s.tlsFailed session badCertificate)
    else
      let s := s.setHeadEnd session { x with
        st := .opened, waitS := 0, suite := suite, cursor := x.journaled, sent := x.journaled,
        lastTxMs := s.time.ms, lastRxMs := s.time.ms }
      ((s.raise .portSession (s.heTenant session) [session, 1, noValue]).releaseSession session))) ∧
  -- SESSION_FRAME_RECEIVED: a frame of the header of Table 25-1. One of unknown Type, or with Length above 262 208, closes
  -- the session; frames of the Types the device only sends are dropped.
  (∀ (session type length : Nat) (body : List Byte) (s : State), Machine.exec (.sessionFrameReceived session type length body) s = .next (
    let x := s.headEnd session
    if x.st ≠ .opened then s
    else if type < 1 ∨ 5 < type ∨ 262208 < length then (s.closeHead session .peer)
    else
      let p := s.rd Rec.HeadEnd.Port session
      let s := s.setHeadEnd session { x with lastRxMs := s.time.ms }
      let s := (s.count { name := .portFramesIn, a := p }).count { name := .portBytesIn, a := p } (8 + body.length)
      match type with
      | 2 => (s.exportAck session body)
      | 4 => (s.tunnelMessage session body)
      | _ => s)) ∧
  -- 10 s without sending: a keepalive frame.
  (∀ (session : Nat) (s : State), Machine.exec (.sessionKeepalive session) s = .next (
    let x := s.headEnd session
    (if x.st = .opened ∧ x.lastTxMs + 10000 ≤ s.time.ms then s.sendFrame session 5 [] else s))) ∧
  -- 30 s without receiving: the session closes.
  (∀ (session : Nat) (s : State), Machine.exec (.sessionRxTimeout session) s = .next (
    let x := s.headEnd session
    (if x.st = .opened ∧ x.lastRxMs + 30000 ≤ s.time.ms then s.closeHead session .timeout else s))) ∧
  -- Once a second the cursors that moved are journaled (R626), records past their age leave, and release goes on. (Log
  -- entry 90: DESIGN CHOICE.) (Log entry 94: DESIGN CHOICE.)
  (∀ (s : State), Machine.exec (.exportCursorJournal) s = .next (
    let s := s.heEnabled.foldl State.heDrop s
    let s := (List.range 32).foldl (fun s i =>
      let x := s.headEnd i
      if x.cursor = x.journaled ∨ s.saveHalts then s
      else ((s.setHeadEnd i { x with journaled := x.cursor }).journal .store (s.heTenant i) i (.words [i, x.cursor.1, x.cursor.2])).carry
        (.cursor i)) s
    s.pruneExports.releaseExports)) ∧
  -- BACKHAUL_FRAME_RECEIVED: a frame of `bytes` bytes with the codewords its reception corrected or failed to correct; one
  -- longer than Mtu + 18 is discarded; `refused` marks a connection attempt the device refuses with an answer.
  (∀ (port bytes refused corrected uncorrected : Nat) (s : State), Machine.exec (.backhaulFrameReceived port bytes refused corrected uncorrected) s = .next (
    if ¬s.portUp port then s
    else
      let s := (s.count { name := .portFecCorr, a := port } corrected).count { name := .portFecUncorr, a := port } uncorrected
      if s.rd Rec.BackhaulPort.Mtu port + 18 < bytes then (s.count { name := .portOversize, a := port })
      else
        let s := (s.count { name := .portFramesIn, a := port }).count { name := .portBytesIn, a := port } bytes
        (if refused = 0 then s
          else (s.count { name := .portRefused, a := port }).count { name := .portFramesOut, a := port }))) ∧
  -- PORT_LINK_CHANGE: the link of a backhaul port (kind 0) or a partner port (kind 1) goes up or down. Backhaul ports come
  -- up once control firmware is ready, partner ports once the store is (R636).
  (∀ (kind port up : Nat) (s : State), Machine.exec (.portLinkChange kind port up) s = .next (
    let on := decide (up ≠ 0)
    if kind = 0 then
      if 8 ≤ port ∨ s.portUp port = on ∨ (on ∧ (¬s.rdB Rec.BackhaulPort.Enabled port ∨ s.pow.stage < 7)) then s
      else (({ s with ports := { s.ports with
        backhaulUp := if on then s.ports.backhaulUp ++ [port] else s.ports.backhaulUp.filter (· ≠ port) } }).linkMoved 0 port on)
    else if kind = 1 ∧ port < 2 ∧ (s.partnerPort port).link ≠ on ∧ (¬on ∨ 8 ≤ s.pow.stage) then
      ((s.setPartnerPort port { s.partnerPort port with link := on }).linkMoved 1 port on)
    else s)) ∧
  -- HOST_LINK_RESET: link down (0), hot reset (1), FLR (2) and D3cold (3) close the sessions of host-window channels only.
  (∀ (kind : Nat) (s : State), Machine.exec (.hostLinkReset kind) s = .next (
    if 3 < kind then s
    else
      let s := s.hostSessions.foldl (fun s n => s.closeSession n .hostPort) s
      let s := if kind = 0 ∧ s.ports.hostUp then s.count { name := .linkDown, a := 10 } else s
      { s with
        mail := { s.mail with msixTable := [], msixPending := [] }
        ports := { s.ports with hostUp := decide (kind ≠ 0 ∧ kind ≠ 3) }
        pow := { s.pow with host := if kind = 3 then .d3cold else .d0, pmeEn := false, pmeStatus := false, wakeN := false, wakeReasons := 0 } })) ∧
  -- HOST_ERROR (R631): severity 0 a correctable error, 1 an uncorrectable error in a host request, 2 one on the link.
  (∀ (severity status : Nat) (s : State), Machine.exec (.hostError severity status) s = .next (
    if severity = 0 then (s.count { name := .aerCorr })
    else
      let s := s.count { name := .aerUncorr }
      (if severity = 2 then s.raise .portHostError 0 [status] else s))) ∧
  -- POWER_ON_RESET: PORST_N is released, once a save that defers the reset has ended (R680); `vaon` is 0 where VAON was
  -- lost. The thermal-trip latch clears (R691). (Log entry 96: DESIGN CHOICE.)
  (∀ (vaon : Nat) (s : State), Machine.exec (.powerOnReset vaon) s = .next (
    if ¬s.pow.porstLow ∨ s.pow.warn = .saving then s
    else
      let s := { s with pow := { s.pow with
        porstLow := false, thermTrip := false, tripPending := false, vaonLost := s.pow.vaonLost || decide (vaon = 0), warn := .idle,
        pfwLow := false } }
      ((s.chipReset 0 .powerOn).enterRom 0))) ∧
  -- WARM_RESET: a reset that firmware has ordered happens, once the save it waits for has ended (R558, R643) and a chip-
  -- fatal error has its snapshot (R512). (Log entry 96: DESIGN CHOICE.) (Log entry 138: DEDUCED.)
  (∀ (s : State), Machine.exec (.warmReset) s = .next (
    match s.pow.resetAfterSave with
    | none => s
    | some c =>
      if s.pow.warn = .saving ∨ s.pow.saveReset ∨ s.fatalWaits then s
      else
        let s := (s.chipReset 1 (resetCauseOf c)).enterRom 1
        { s with pow := { s.pow with paused := s.pow.pfwLow && decide (s.pow.warn = .idle), pfwSinceMs := s.time.ms } })) ∧
  -- BOOT_STAGE_DONE: the present stage ends with a code of Table 26-3. `measured` is what the stage reads: VPP_FUSE in
  -- range (ROM), the cause of a failed trial set (IMAGE: 1 verification, 2 self-test), GiB of DRAM (DRAM), open tamper
  -- loops (VAULT). `cells` are the cells that fail self-test (SELFTEST) or the channels at a lower rate (DRAM); `regions`
  -- the regions left without a required block (SELFTEST); `dies` what the identification of each die reads (STORE,
  -- `ParamPage.ofList`). A paused boot, and a ROM that has halted, do not go on (with a rail out of range ROM halts with
  -- 0x0102 until SUPPLY_IN_RANGE); PAIR and RESTORE end by the pair's rows. (Log entry 99: DESIGN CHOICE.)
  (∀ (detail measured : Nat) (cells regions : List Nat) (dies : List (List Nat)) (s : State), Machine.exec (.bootStageDone detail measured cells regions dies) s = .next (
    if s.pow.paused then s
    else match s.pow.stage with
      | 1 =>
        let detail := if detail ≠ 0x0101 ∧ !s.pow.railsOut.isEmpty then 0x0102 else detail
        if s.pow.bootDetail = 0x0101 ∨ s.pow.held then s else (s.bootRom detail (measured ≠ 0))
      | 2 => (s.bootSelftest detail cells regions)
      | 3 => (s.bootImage detail measured)
      | 4 => (s.bootDram detail measured cells)
      | 5 => (s.bootVault detail measured)
      | 6 => s.bootControl
      | 7 => (s.bootStore detail (dies.map ParamPage.ofList))
      | _ => s)) ∧
  -- PFW_ASSERT: an accepted assertion starts a save while ARMED, and pauses a boot while IDLE; in SLEEP and while DISARMED
  -- it is recorded only.
  (∀ (s : State), Machine.exec (.pfwAssert) s = .next (
    if s.pow.pfwLow then s
    else
      let s := { s with pow := { s.pow with pfwLow := true, pfwSinceMs := s.time.ms } }
      if s.pow.stage = 0x0C then s
      else match s.pow.warn with
        | .armed => s.startSave
        | .idle => if 1 ≤ s.pow.stage ∧ s.pow.stage < 8 then { s with pow := { s.pow with paused := true } } else s
        | _ => s)) ∧
  -- SAVE_DONE: the save set is written, which took `us`. A reset that waited follows; with PFW_N de-asserted meanwhile,
  -- commits resume at once.
  (∀ (us : Nat) (s : State), Machine.exec (.saveDone us) s = .next (
    if s.pow.warn ≠ .saving then s
    else
      let n := slotTaken s.pow.saveSlots
      let x : SaveSlot := { erased := false, first := s.pow.saveFirst, last := s.pow.saveLast, bootCount := s.pow.bootCount }
      let s := { s with
        time := { s.time with savedCross := (s.time.cross.head?.map fun (c : Nat × Nat × Nat) => (c.1, c.2.1)).or s.time.savedCross }
        pow := { s.pow with warn := .holding, saveEndMs := s.time.ms, saveSlots := fillSlot x s.pow.saveSlots } }
      let s := (s.count { name := .saves }).raise .powerWarning 0 [us, x.first, x.last, n]
      if s.pow.saveReset then s.holdReset
      else if s.pow.resetAfterSave.isSome ∨ s.pow.pfwLow then s
      else (s.resume .armed))) ∧
  -- PFW_DEASSERT: commits resume after a save; a paused boot goes on; a disarmed logic is armed again.
  (∀ (s : State), Machine.exec (.pfwDeassert) s = .next (
    if ¬s.pow.pfwLow then s
    else
      let s := { s with pow := { s.pow with pfwLow := false, paused := false, savedFailure := s.pow.savedFailure && !s.pow.railsOut.isEmpty } }
      match s.pow.warn with
      | .holding =>
        if s.pow.resetAfterSave.isSome then s
        else ((s.resume .armed).raise .powerWarningCleared 0 [s.time.ms - s.pow.saveEndMs])
      | .disarmed => { s with pow := { s.pow with warn := if 8 ≤ s.pow.stage then .armed else .idle } }
      | _ => s)) ∧
  -- INPUT_FAULT_TIMEOUT: PFW_N has stayed asserted for 2 s with every rail in range.
  (∀ (s : State), Machine.exec (.inputFaultTimeout) s = .next (
    let from' := max s.pow.inRangeMs (if s.pow.warn = .holding then s.pow.saveEndMs else s.pow.pfwSinceMs)
    if ¬s.pow.pfwLow ∨ ¬s.pow.railsOut.isEmpty ∨ s.time.ms < from' + 2000 ∨ ¬(s.pow.warn = .holding ∨ (s.pow.warn = .idle ∧ s.pow.paused)) ∨
        s.pow.resetAfterSave.isSome then s
    else
      let s := { s with pow := { s.pow with paused := false } }
      (((s.resume .disarmed).count { name := .inputFaults }).raise .powerInputFault 0 [s.time.ms - s.pow.pfwSinceMs]))) ∧
  -- MONITOR_WARNING: a rail falls below its warning threshold (R663). Nothing is saved before the journal exists, nor
  -- twice for one failure.
  (∀ (rail : Nat) (s : State), Machine.exec (.monitorWarning rail) s = .next (
    let had := s.pow.savedFailure
    let s := { s with pow := { s.pow with railsOut := if s.pow.railsOut.contains rail then s.pow.railsOut else s.pow.railsOut ++ [rail] } }
    if had ∨ s.pow.stage < 8 ∨ s.pow.stage = 0x0C then s
    else match s.pow.warn with
      | .armed | .disarmed =>
        let s := s.startSave.count { name := .monitorSaves }
        { s with pow := { s.pow with monitorSave := some (rail, s.pow.saveFirst, s.pow.saveLast) } }
      | _ => s)) ∧
  -- MONITOR_RESET: a rail below its reset threshold holds the chip in RESET; rail 0 is VAON, whose loss clears what it
  -- keeps (R679, R644).
  (∀ (rail : Nat) (s : State), Machine.exec (.monitorReset rail) s = .next (
    let s := { s with pow := { s.pow with
      railsOut := if s.pow.railsOut.contains rail then s.pow.railsOut else s.pow.railsOut ++ [rail],
      vaonLost := s.pow.vaonLost || decide (rail = 0), held := true } }
    s.holdReset)) ∧
  -- SLEEP_WAKE: the chip leaves SLEEP, its regions restart, and PAIR runs as at boot; a tamper alarm then takes its steps
  -- (R323, R666, R667).
  (∀ (cause : Nat) (s : State), Machine.exec (.sleepWake cause) s = .next (
    if s.pow.stage ≠ 0x0C ∨ ¬s.wakes cause then s
    else
      let held := s.pow.heldDoorbells
      let s := s.workLost.nextStage 8
      let s := { s with
        mail := { s.mail with mailboxReady := true }
        pow := { s.pow with heldDoorbells := [] }
        pair := s.pairKept }
      let s := (s.waitForPartner.secRestart.startUnits).raise .powerSleepWake 0 [cause]
      let s := held.foldl State.heldDoorbell s
      (if s.vault.tamperLatched then
          (s.tamperSteps (if s.vault.loopsOpen = 2 then 1 else 0) 2 0).regionFatalError 10 0
        else s))) ∧
  -- D3HOT_ENTRY: the host puts the function in D3hot; WakeMask applies as it stands now (R671).
  (∀ (pmeEn : Nat) (s : State), Machine.exec (.d3hotEntry pmeEn) s = .next (
    if s.pow.host = .d3hot then s
    else
      let st := s.stamp
      (({ s with pow := { s.pow with
        host := .d3hot, pmeEn := decide (pmeEn ≠ 0), wakeMask := s.rd Rec.PowerPolicy.WakeMask, wakeReasons := 0, d3Stamp := st,
        d3Queued := s.hostNotes } }).count { name := .hostStates }))) ∧
  -- WAKE_CONDITION: a reason of Table 26-8, 1 to 5, arises in D3hot. The first selected one signals; later ones are added.
  (∀ (reason : Nat) (s : State), Machine.exec (.wakeCondition reason) s = .next (
    if s.pow.host ≠ .d3hot ∨ ¬s.pow.pmeEn ∨ reason = 0 ∨ 5 < reason ∨ ¬bitOn s.pow.wakeMask reason then s
    else
      let first := decide (s.pow.wakeReasons = 0)
      let s := { s with pow := { s.pow with
        wakeReasons := s.pow.wakeReasons ||| 2 ^ reason, pmeStatus := true, wakeN := s.pow.wakeN || first } }
      (if first then s.count { name := .wakeSignals } else s))) ∧
  -- LINK_TRAINING_START: WAKE_N is released.
  (∀ (s : State), Machine.exec (.linkTrainingStart) s = .next (
    { s with pow := { s.pow with wakeN := false } })) ∧
  -- D0_RETURN: one `power.wake` notification goes to the head of every host-window channel's queue, and vectors held are
  -- sent. (Log entry 105: DESIGN CHOICE.)
  (∀ (s : State), Machine.exec (.d0Return) s = .next (
    if s.pow.host ≠ .d3hot then s
    else
      let payload := [if s.pow.wakeReasons = 0 then 1 else s.pow.wakeReasons, s.pow.d3Stamp, s.hostNotes - s.pow.d3Queued]
      let vecs := s.mail.msixPending
      let s := { s with
        mail := { s.mail with msixPending := [] }
        pow := { s.pow with host := .d0, pmeEn := false, wakeN := false, wakeReasons := 0 } }
      let s := vecs.foldl State.signal s
      let st := s.stamp
      let s := s.issued st
      ((s.hostSessions.foldl (fun s n => s.notifyHead n ⟨Ev.powerWake.source, st, payload⟩) s).raise .powerWake 0 payload))) ∧
  -- THERMAL_TRIP: Serving drops, the save set is written once, and the chip holds itself in RESET with THERMTRIP_N latched
  -- (R691). (Log entry 103: DESIGN CHOICE.)
  (∀ (_sensor : Nat) (s : State), Machine.exec (.thermalTrip _sensor) s = .next (
    let s := { s with pow := { s.pow with tripPending := true } }
    let s := ({ s with arch := { s.arch with chipFatal := true } }).raise .chipFatal 0 [11]
    let s := if s.serving then s.dropServing else s
    match s.pow.warn with
    | .armed | .disarmed =>
      let s := s.startSave
      { s with pow := { s.pow with saveReset := true } }
    | .saving => { s with pow := { s.pow with saveReset := true } }
    | _ => s.holdReset)) ∧
  -- PORST_ASSERT: the chip enters RESET, or, while SAVING, does so when the save ends (R680).
  (∀ (s : State), Machine.exec (.porstAssert) s = .next (
    let s := { s with pow := { s.pow with porstLow := true } }
    if s.pow.warn = .saving then { s with pow := { s.pow with saveReset := true } } else s.holdReset)) ∧
  -- SUPPLY_IN_RANGE: every rail is back in range: a chip held in RESET boots, and a ROM halted with 0x0102 goes on with
  -- its work (R646, R679).
  (∀ (s : State), Machine.exec (.supplyInRange) s = .next (
    let s := { s with pow := { s.pow with railsOut := [], inRangeMs := s.time.ms, savedFailure := s.pow.savedFailure && s.pow.pfwLow } }
    if s.pow.held ∧ s.pow.stage = 0 ∧ ¬s.pow.porstLow ∧ ¬s.pow.thermTrip then ((s.chipReset 0 .supply).enterRom 0)
    else if s.pow.stage = 1 then { s with pow := { s.pow with held := false } }
    else s))

/-- What each event of chapters 4 to 10 does to the state, in every state and for all its operands. For every state and all
operands, each of these 43 rows answers the next state written out here: superframeReceived, fecSecondTick, freqWindowEnd,
controlMessageReceived, controlMessageResend, laneStartStepDone, laneStartStepFailed, laneRetryExpiry, laneStartTimeout,
laneLockLost, laneHeadControl, laneTest, dcBlockReady, dcFreezeLong, captureBegin, captureDone, bookingRequest,
contextOpenDue, watcherDetection, detectionDrop, retroCatchUp, contextFrameDetected, contextNoFrame, alignDeadline,
decodeDone, contextFree, pollDue, pollPlanned, bookingOutcome, launchLock, launchSend, followDecision, pollLate,
recoveryRelease, floodWindow, lingLaunch, lingGovernorCut, lingAnswerWindowEnd, lingFrameDecoded, lingAlarmCall,
lingUnreachPoll, lingTxReady, zcTimeout. Conditions under which a row does not occur leave the state as it was. The clauses
state the model as a whole; where the spec leaves a value, a layout or an order open, the terms take the choice of the log
entries that their definitions name (here 22, 29, 36, 37, 45, 46, 51, 65, 68, 165, 169). -/
def Obligations.FieldEventsAct : Prop :=
  -- SUPERFRAME_RECEIVED: the superframe's bytes, its distance in bits from the one before, its arrival (ps), and the FEC
  -- results. (Log entry 22: DESIGN CHOICE.)
  (∀ (lane : Nat) (bytes : List Byte) (spacing tRx : Nat) (fec : List Nat) (s : State), Machine.exec (.superframeReceived lane bytes spacing tRx fec) s = .next (
    (((s.takeSuperframe lane bytes spacing tRx fec).takeSamples lane bytes tRx).hearSuperframe lane (bytes.take 64)))) ∧
  -- Each second the uncorrectable codewords are compared with FecUncorrPerS (R103): once in a second of the model's clock.
  (∀ (lane : Nat) (s : State), Machine.exec (.fecSecondTick lane) s = .next (
    let k := (s.lane lane).uncorrSec
    if (s.lane lane).lastFecS = some s.nowS then s
    else
      let s := s.modLane lane fun l => { l with uncorrSec := 0, lastFecS := some s.nowS }
      (if s.rd Rec.Lane.FecUncorrPerS lane ≤ k ∧ s.laneOn lane then s.raise .laneFecDegraded 0 [lane, k] else s))) ∧
  -- A window of 97 656 superframes ends (R98): the elapsed t_rx less 999 997 440 000 ps and less the change in P / 2. A
  -- difference beyond 5 ns fails the check; one within 2.5 ns passes it again.
  (∀ (lane : Nat) (s : State), Machine.exec (.freqWindowEnd lane) s = .next (
    let l := s.lane lane
    match l.window with
    | none => s
    | some (t0, p0) =>
      if l.windowCount < 97656 then s
      else
        let dev := (l.lastRx : Int) - t0 - 999997440000 - (l.path - p0) / 2
        let l' := { l with window := some (l.lastRx, l.path), windowCount := 0 }
        if 5000 < dev.natAbs then
          (((s.setLane lane { l' with freqOk := false }).count { name := .laneFreqCount, a := lane }).raise
            .laneFreqError 0 [lane, slotOf dev])
        else (s.setLane lane { l' with freqOk := l.freqOk || decide (dev.natAbs ≤ 2500) }))) ∧
  -- The oldest control message that a superframe brought is taken: a reply is matched to its request by MsgSeq (R90, R91).
  (∀ (lane : Nat) (s : State), Machine.exec (.controlMessageReceived lane) s = .next (
    match (s.lane lane).inbox with
    | [] => s
    | msg :: rest =>
      let len := leAt msg 4 2
      let s := s.modLane lane fun l => { l with inbox := rest }
      let ty := leAt msg 0 1
      match (s.lane lane).reqs.find? (fun r => r.seq == leAt msg 2 2 &&
          (match r.owner with
           | .identify => ty == 2
           | .tribList => ty == 9
           | _ => ty == 5)) with
      | some r => (s.takeReply lane r (leAt msg 6 1) (slice msg 8 len))
      | none => s)) ∧
  -- A request without a reply: resent each ms up to three times, and unanswered 5 ms after the first sending (R91).
  (∀ (lane seq : Nat) (s : State), Machine.exec (.controlMessageResend lane seq) s = .next (
    match (s.lane lane).reqs.find? (fun r => r.seq == seq) with
    | none => s
    | some r =>
      if r.resends < 3 then
        if r.firstMs + r.resends + 1 ≤ s.time.ms then
          (s.modLane lane fun l => { l with
            reqs := l.reqs.map fun x => if x.seq == seq then { x with resends := x.resends + 1 } else x,
            outbox := l.outbox ++ [ctrlMessage r.msgType r.tributary r.seq r.body] })
        else s
      else if r.firstMs + 5 ≤ s.time.ms then
        let s := s.modLane lane fun l => { l with reqs := l.reqs.filter (fun x => !(x.seq == seq)) }
        match r.owner with
        | .identify | .tribList => (s.modLane lane fun l => { l with identifyFailed := true })
        | .host ch => (s.finish ch .laneHeadControl { status := .headNoResponse })
        | .campaign => (s.campaignReply lane false)
      else s)) ∧
  -- A lane start step completes: a head now known settles which antennas its channels have, and reaching ON starts the
  -- metrology chains with their DC-blocks (R99, R135).
  (∀ (lane : Nat) (s : State), Machine.exec (.laneStartStepDone lane) s = .next (
    let t := s.startStepDone lane
    let t := if (s.lane lane).step = 4 ∧ (t.lane lane).step = 5 then t.antennasChanged lane else t
    (if t.laneOn lane && !s.laneOn lane then (t.startLine lane).lineAuto lane else t))) ∧
  -- A start step reaches its failure bound, and the lane waits RetryIntervalMs (R99).
  (∀ (lane : Nat) (s : State), Machine.exec (.laneStartStepFailed lane) s = .next (
    if s.laneStarting lane && (s.lane lane).stepFailed s.time.ms then
      (s.modLane lane fun l => { l with step := 6, stepMs := s.time.ms, reqs := [], sfLock := false, good := 0, bad := 0 })
    else s)) ∧
  -- RetryIntervalMs expires: the lane returns to step 1, or repeats IDENTIFY to a head it refused (R99, R100).
  (∀ (lane : Nat) (s : State), Machine.exec (.laneRetryExpiry lane) s = .next (
    let l := s.lane lane
    if s.laneStarting lane && decide (l.stepMs + s.rd Rec.Lane.RetryIntervalMs lane ≤ s.time.ms) then
      if l.step = 6 then (s.modLane lane fun l => { l with step := 1, stepMs := s.time.ms })
      else if l.step = 4 ∧ l.refused then (s.identify lane)
      else s
    else s)) ∧
  -- StartTimeoutMs passes without ON: `lane.start_failed`, once per entry to STARTING, not for a refused head (R100,
  -- R101).
  (∀ (lane : Nat) (s : State), Machine.exec (.laneStartTimeout lane) s = .next (
    let l := s.lane lane
    if s.laneStarting lane && !l.startFailed && !l.refused &&
        decide (l.startMs + s.rd Rec.Lane.StartTimeoutMs lane ≤ s.time.ms) then
      (((s.modLane lane fun l => { l with startFailed := true }).count { name := .laneStartCount, a := lane }).raise
        .laneStartFailed 0 [lane, l.step])
    else s)) ∧
  -- An ON lane loses signal, FEC lock or superframe lock (R102).
  (∀ (lane cause : Nat) (s : State), Machine.exec (.laneLockLost lane cause) s = .next (
    (if cause ≤ 2 then s.loseLock lane cause else s))) ∧
  (∀ (ch lane trib msgType : Nat) (body : List Byte) (s : State), Machine.exec (.laneHeadControl ch lane trib msgType body) s = .next (
    (s.commandLater ch .laneHeadControl (runLaneHeadControl lane trib msgType body)))) ∧
  (∀ (ch lane pattern duration errors : Nat) (s : State), Machine.exec (.laneTest ch lane pattern duration errors) s = .next (
    (s.commandLater ch .laneTest (runLaneTest lane pattern duration errors)))) ∧
  -- A STARTING DC-block that has its unflagged samples loads e with their mean, exact in its fraction bits since their
  -- number is a power of two, and enters ON (R127).
  (∀ (target : Nat) (s : State), Machine.exec (.dcBlockReady target) s = .next (
    let d := s.dcOf target
    let sum (k : Nat) : Cx × Nat := Map.getD d.sums k ({}, 0)
    if s.unitSt (.dcBlock target) = .starting ∧ (s.dcKeys target).all (fun k => decide (s.dcNeed target ≤ (sum k).2)) then
      let s := s.setUnit (.dcBlock target) { s.unit (.dcBlock target) with st := .on, deferred := false }
      let mean (x : Int) (n : Nat) : Int := x * (2 ^ dcFrac target : Nat) / n
      let s := s.setDc target { d with
        est := (s.dcKeys target).map fun k => (k, { re := mean (sum k).1.re (sum k).2, im := mean (sum k).1.im (sum k).2 }),
        sums := [], frozen := if d.cmdFreeze then some (s.time.ms, s.stamp) else none, longRaised := false }
      (s.raise .filtDcStarted 0 [target, d.reason])
    else s)) ∧
  -- A freeze has lasted 600 s: reported once per freeze, with its cause (0 commanded, 1 automatic) (R128).
  (∀ (target : Nat) (s : State), Machine.exec (.dcFreezeLong target) s = .next (
    let d := s.dcOf target
    match d.frozen with
    | some (since, _) =>
      if !d.longRaised ∧ since + 600000 ≤ s.time.ms then
        ((s.setDc target { d with longRaised := true }).raise .filtDcFrozenLong 0 [target, if d.cmdFreeze then 0 else 1])
      else s
    | none => s)) ∧
  -- A deferred capture starts at its air time or on its event source (R129).
  (∀ (id : Nat) (s : State), Machine.exec (.captureBegin id) s = .next (
    match s.filt.captures.find? (fun c => c.id == id) with
    | some c =>
      let due : Bool := match c.start with
        | 1 => decide (c.at' ≤ s.time.air)
        | 2 => match Map.get? s.ev.lastStamp c.at' with
          | some t => decide (c.reqStamp ≤ t)
          | none => false
        | _ => false
      (if c.st = .waiting ∧ due then s.beginCapture c else s)
    | none => s)) ∧
  -- A capture ends at its duration, by command, or early as staging fills (R131): what was taken is kept. (Log entry 29:
  -- DESIGN CHOICE.)
  (∀ (id : Nat) (s : State), Machine.exec (.captureDone id) s = .next (
    match s.filt.captures.find? (fun c => c.id == id) with
    | some c =>
      let full := decide (c.wanted ≤ c.taken ∨ c.startAir + c.durationUs * 2000 + captureLag ≤ s.time.air)
      if (c.st = .active ∧ full) ∨ c.st = .stopped then
        let c := (if c.st = .active then c.filled else c).ended
        let s := s.setCapture c
        let s := (if c.truncated then s.count { name := .filtTrunc } else s).count { name := .filtCapBytes } c.size
        (s.raise .filtCaptureDone 0 [id, c.samples, bit c.truncated, c.gaps.length])
      else s
    | none => s)) ∧
  -- The air region books a context (R144).
  (∀ (meter group headMask mode openAt closeAt maxFrameMs freqExpect freqSpan tenant : Nat) (s : State), Machine.exec (.bookingRequest meter group headMask mode openAt closeAt maxFrameMs freqExpect freqSpan tenant) s = .next (
    (s.book ⟨meter, group, headMask, mode, openAt, closeAt, maxFrameMs, freqExpect, freqSpan, tenant⟩ false).2)) ∧
  -- OpenAt arrives and a booked context starts, or is held on a stopping entry.
  (∀ (id : Nat) (s : State), Machine.exec (.contextOpenDue id) s = .next (
    match s.rx.booked.find? (fun x => x.id == id) with
    | some x => (if x.b.openAt ≤ s.time.air then s.openDue x else s)
    | none => s)) ∧
  -- A watcher's correlation metric (0.1 dB) passes the mode's calibrated threshold plus DetectMargin (R147): the detection
  -- merges into a context of its group whose frame start lies within MergeTolUs, or opens a retro context on a FREE entry,
  -- or is held on a STOPPING one, or waits. A Lea-L detection cannot be kept whole and is dropped (R150), as is one beyond
  -- the 131 072 of a second (R159). A branch that is not watched detects nothing. (Log entry 36: DEDUCED.) (Log entry 165:
  -- DESIGN CHOICE.)
  (∀ (group channel antenna mode startAir : Nat) (metric : Int) (s : State), Machine.exec (.watcherDetection group channel antenna mode startAir metric) s = .next (
    if !s.watches group channel antenna mode ∨ metric < Config.watchThreshold mode + s.rdS Rec.RxPolicy.DetectMargin then s
    else
      let d : Detection := { group := group, channel := channel, antenna := antenna, mode := mode, startAir := startAir, ms := s.time.ms,
                             air := s.time.air, pol := s.rxPol mode }
      let s := s.count { name := .rxDetections, a := group }
      let recent := s.rx.detMs.filter fun t => decide (s.time.ms < t + 1000)
      let s := { s with rx := { s.rx with detMs := s.time.ms :: recent } }
      if 131072 ≤ recent.length then (s.dropDetection group)
      else if s.mergesInto group startAir then (s.count { name := .rxMerged, a := group })
      else if !s.retroFits d ∨ !modeRetro mode then { s with rx := { s.rx with detections := s.rx.detections ++ [d] } }
      else match s.freeCtx with
        | some n => (s.openRetro n d)
        | none =>
          match s.stoppingCtx.bind (fun n => (s.ctx n).map fun c => (n, c)) with
          | some (n, c) => (s.setCtx n { c with held := some (.detection d) })
          | none => { s with rx := { s.rx with detections := s.rx.detections ++ [d] } })) ∧
  -- A detection that cannot open a context in time is dropped (R150). (Log entry 36: DEDUCED.)
  (∀ (group : Nat) (s : State), Machine.exec (.detectionDrop group) s = .next (
    match s.rx.detections.find? (fun d => d.group == group && decide (d.ms + (60 - modeLagMs d.mode) ≤ s.time.ms)) with
    | none => s
    | some d => (({ s with rx := { s.rx with detections := s.rx.detections.erase d } }).dropDetection group))) ∧
  -- Retro read-back reaches the live samples (R149).
  (∀ (ctx : Nat) (s : State), Machine.exec (.retroCatchUp ctx) s = .next (
    match s.ctx ctx with
    | some c =>
      if c.origin = 1 ∧ c.st ≠ .stopping then
        let st := if c.st = .starting then .search else c.st
        ((s.setCtx ctx { c with caughtUp := true, st := st }).setUnit (.context ctx) { s.unit (.context ctx) with st := .on })
      else s
    | none => s)) ∧
  -- A context detects a frame (R146, R153, R155): a booked one where the frame starts within its window and the non-
  -- coherent sum of its branches' metrics reaches the threshold; the offset must lie within the search. A frame that
  -- another booked context has, or that has already been decoded, is left to that one, and a retro context's detection of
  -- such a frame is merged; retro contexts that only track it merge into a booked one (R17, R149). (Log entry 165: DESIGN
  -- CHOICE.) (Log entry 169: DESIGN CHOICE.)
  (∀ (ctx startAir : Nat) (freqHz : Int) (formatB : Bool) (metrics : List Nat) (gains : List Int)
    (noise : List Nat) (tau : List Int) (s : State), Machine.exec (.contextFrameDetected ctx startAir freqHz formatB metrics gains noise tau) s = .next (
    match s.ctx ctx with
    | some c =>
      let inWindow := decide (c.origin = 1 ∨ (c.b.openAt ≤ startAir ∧ startAir ≤ c.b.closeAt))
      let found := decide (c.origin = 1 ∨ Config.searchThreshold c.b.mode c.branches.length ≤ (metrics.take c.branches.length).sum)
      if (c.st = .starting ∨ c.st = .search) ∧ inWindow ∧ found ∧ c.searches freqHz then
        let others := s.sameFrameCtxs ctx c.b.group startAir
        let settled := others.any fun e => e.2.origin != 1 || e.2.outcome.isSome || c.origin == 1
        if settled then (if c.origin = 1 then s.mergeAway ctx else s)
        else
          let s := s.takeFrame ctx startAir c freqHz formatB (c.estimates gains noise tau)
          (others.foldl (fun s e => s.mergeAway e.1) s).mergeWaiting
      else s
    | none => s)) ∧
  -- CloseAt plus the detection lag passes without detection (R146).
  (∀ (ctx : Nat) (s : State), Machine.exec (.contextNoFrame ctx) s = .next (
    match s.ctx ctx with
    | some c =>
      if (c.st = .search ∨ (c.st = .starting ∧ c.origin ≠ 1)) ∧ c.b.closeAt + modeLagMs c.b.mode * airPerMs ≤ s.time.air then (s.endCtxWith ctx 1) else s
    | none => s)) ∧
  -- The alignment deadline arrives, AlignDeadlineMs after the last symbol: the context enters FINAL without the late
  -- branches, and the final pass combines the rest (R152, R154, R156).
  (∀ (ctx endAir : Nat) (s : State), Machine.exec (.alignDeadline ctx endAir) s = .next (
    match s.ctx ctx with
    | some c =>
      if c.st = .track ∧ c.deadline endAir ≤ s.time.air then
        let late := c.lateAt endAir
        let br := late.filterMap fun i => c.branches[i]?
        let c := { c with st := .final, endAir := some endAir, late := late }
        let s := s.setCtx ctx { c with pass := c.finalPass }
        let s := br.foldl (fun s p => s.count { name := .rxLateExcl, a := p.1, b := p.2 }) s
        (((br.map fun p => s.chanLane p.1).eraseDups).foldl (fun s l => s.reportLate ctx l) s)
      else s
    | none => s)) ∧
  -- Decoding finishes (R156, R184). `soft` holds the soft symbols that follow the sync word, `lead` symbols after the
  -- frame start; the last two are what was measured after combining, CombinedSnr and BestLevel. (Log entry 37: DEDUCED.)
  (∀ (ctx lead : Nat) (soft : List Int) (combinedSnr bestLevel : Int) (s : State), Machine.exec (.decodeDone ctx lead soft combinedSnr bestLevel) s = .next (
    match s.ctx ctx with
    | none => s
    | some c =>
      if c.st ≠ .final then s
      else
        let lea := decide (c.b.mode ≤ 2)
        let (o, f) := c.decode lead soft
        let same := decide (c.origin = 0 ∧ o = 0) && (s.recInst Rec.MeterSec.Address.rid c.b.meter).isSome &&
          frameAddress f == s.rd Rec.MeterSec.Address c.b.meter
        let (hand, s) := if lea then s.leaCounts c.b.group c.b.mode o f else (true, s)
        (s.decodeDone ctx o f same ⟨combinedSnr, bestLevel⟩ hand))) ∧
  -- A context reaches its end state and releases its reservations.
  (∀ (ctx : Nat) (s : State), Machine.exec (.contextFree ctx) s = .next (
    (s.freeContext ctx))) ∧
  -- A due time arrives (R193): a poll becomes pending, or merges with the one pending.
  (∀ (slot : Nat) (s : State), Machine.exec (.pollDue slot) s = .next (
    let p := s.plan slot
    let due := s.dueAt slot s.legalS
    if !s.planned slot ∨ due ≤ p.lastDue then s
    else
      let s := s.journalPlan slot [0, due]
      match p.poll with
      | some _ => (((s.setPlan slot { p with lastDue := due }).countPoll .airMerged slot).carryPlan slot)
      | none =>
        ((s.setPlan slot { p with
          lastDue := due,
          poll := some { due := due, request := s.rd Rec.MeterClass.Request (s.planClass slot),
                         priority := s.rd Rec.MeterPlan.Priority slot } }).carryPlan slot))) ∧
  -- A pending poll is planned (R199, R200, R201, R202): not for a meter polled over Ling, held by R211, or already in
  -- flight; nothing is launched until the chip claims (R214). (Log entry 45: DESIGN CHOICE.)
  (∀ (slot : Nat) (s : State), Machine.exec (.pollPlanned slot) s = .next (
    let p := s.plan slot
    let k := s.planClass slot
    let n := s.rd Rec.MeterPlan.LeaChannel slot
    let rate := s.rd Rec.MeterClass.Rate k
    let held := (p.poll.map PendPoll.held).getD false
    if !s.planned slot ∨ s.lingOnly slot ∨ !s.serving ∨ p.out.isSome ∨ held then s
    else if !s.leaRateOn n rate then ((if p.poll.isSome then s.deferPoll slot .lea else s).carryPlan slot)
    else if !s.bandHolds (s.planBand slot) (s.rd Rec.LeaChannel.CentreHz n) (occHalf rate) then
      ((if p.poll.isSome then (s.deferPoll slot .band).raiseOnce .airBandMismatch n 0 [n, s.planBand slot] else s).carryPlan slot)
    else
      let a := s.aims slot
      match s.launchFirst slot a.learning a.list none with
      | .ok s => (s.carryPlan slot)
      | .error (some c, s) => ((if p.poll.isSome then s.deferPoll slot c else s).carryPlan slot)
      | .error (none, s) => s)) ∧
  -- A booked context's outcome returns (R157): of a POLL's answer or of a COMMAND's ACK. A FRAME_OK answer waits for
  -- security; NO_FRAME, CRC_FAIL, LENGTH_FAIL and a FRAME_OK of another address are misses; any other outcome re-plans the
  -- poll without one.
  (∀ (s : State), Machine.exec (.bookingOutcome) s = .next (
    match s.rx.outcomes with
    | [] => s
    | x :: rest =>
      let s := { s with rx := { s.rx with outcomes := rest } }
      let slot := x.b.meter
      let p := s.plan slot
      let same := bitOn (leAt x.desc 1 1) 6
      let endAir := leAt x.desc 24 8
      match p.out, p.ack with
      | some o, _ =>
        if o.booking = x.id then
          if x.outcome = 0 ∧ same then (s.setPlan slot { p with out := some { o with answered := some endAir } })
          else
            let s := s.setPlan slot { p with out := none }
            ((if x.outcome ≤ 3 then s.missed slot else s).carry (.meter slot))
        else match p.ack with
          | some (id, tag) =>
            if id = x.id then
              let s := s.setPlan slot { p with ack := none }
              ((if x.outcome = 0 ∧ same then s else s.tokenUnanswered slot tag).carry (.meter slot))
            else s
          | none => s
      | none, some (id, tag) =>
        if id = x.id then
          let s := s.setPlan slot { p with ack := none }
          ((if x.outcome = 0 ∧ same then s else s.tokenUnanswered slot tag).carry (.meter slot))
        else s
      | none, none => s)) ∧
  -- LaunchLockMs before L an entry locks, if its charge and counter advance have committed; otherwise it is cancelled and
  -- its poll deferred. A COMMAND carrying a safe command passes the check of R608.
  (∀ (id : Nat) (s : State), Machine.exec (.launchLock id) s = .next (
    match s.air.queue.find? (fun e => e.id == id) with
    | none => s
    | some e =>
      if e.locked ∨ s.time.air + s.rd Rec.AirPolicy.LaunchLockMs * airPerMs < e.start then s
      else if s.posCommitted e.position then
        (({ s with air := { s.air with queue := s.air.queue.map fun (x : Launch) =>
          if x.id = id then { x with locked := true } else x } } : State).carryLaunch e)
      else match e.meter, e.source with
        | some m, .poll => ((s.cancelPoll m .lock).carryLaunch e)
        | some m, .response => (((s.withdrawLaunch e).responseMissed m e.rate).carryLaunch e)
        | _, _ => ((s.withdrawLaunch e).carryLaunch e))) ∧
  -- A locked launch goes on air at L (R207): counted by source, with its on-air time, under its Lea channel and rate, and
  -- its PollTag recorded. A lane that is no longer ON, timed and obeyed sends nothing, nor does the air region while it
  -- restarts (R36); the charge stands. (Log entry 51: DESIGN CHOICE.)
  (∀ (id : Nat) (s : State), Machine.exec (.launchSend id) s = .next (
    match s.air.queue.find? (fun e => e.id == id) with
    | none => s
    | some e =>
      if !e.locked ∨ s.time.air < e.start then s
      else
        let s := { s with air := { s.air with
          queue := s.air.queue.filter (fun (x : Launch) => x.id ≠ id),
          lastEnd := Map.put s.air.lastEnd (e.head, e.band) (e.start + e.span) } }
        if !(s.regionOn 5 && s.laneOn e.head && s.timed e.head && (s.lane e.head).hdr.obeyed) then ((s.launchUnknown e).carryLaunch e)
        else
          let hb := headBand e.head e.band
          let s := { s with air := { s.air with onAir := s.air.onAir ++ [e] } }
          let s := (s.count { name := .airLaunch, a := hb, b := e.source.code }).count { name := .airOnMs, a := hb } e.charge
          let s := match e.channel, e.source with
            | some n, .poll => if e.primary then s.count { name := .leaPoll, a := n, b := e.rate } else s
            | some n, .command => if e.primary then s.count { name := .leaCommand, a := n, b := e.rate } else s
            | some n, .flood => if e.primary then s.count { name := .leaBroadcast, a := n, b := e.rate } else s
            | _, _ => s
          let s := match e.stream with
            | some (n, _) => s.floodSent e n
            | none => s
          ((match e.meter with
            | some m => if e.primary then s.tagLaunched m e.tag else s
            | none => s).carryLaunch e))) ∧
  -- At Re + D − LaunchLockMs the follow COMMAND is launched at Re + D, or dropped (R203): its counter value is then
  -- skipped and its charge stands. It goes out locked, from the head that launched the POLL, and its ACK is booked. (Log
  -- entry 46: DESIGN CHOICE.)
  (∀ (slot : Nat) (s : State), Machine.exec (.followDecision slot) s = .next (
    let p := s.plan slot
    match p.out with
    | none => s
    | some o =>
      match o.follow, o.answered with
      | some f, some re =>
        let start := re + turnAir o.delay
        let lock := s.rd Rec.AirPolicy.LaunchLockMs * airPerMs
        if s.time.air + lock < start then s
        else
          let s := s.setPlan slot { p with out := if o.closed then none else some { o with follow := none } }
          let n := s.rd Rec.MeterPlan.LeaChannel slot
          let pre := s.rd Rec.LeaChannel.DownPreambleMin n
          let span := leaAir o.rate pre (leAt f.frame 0 1)
          let charge := s.air.charges.find? fun c => c.gid == o.gid && c.share == 1
          match charge.bind fun c => (s.txAntenna c.head).map fun a => (c, a) with
          | none => s
          | some (c, a) =>
            let fits := (s.refusal c.head a c.band start span 0 1).isNone
            if start < s.time.air ∨ !s.posCommitted f.position ∨ !s.stillDue slot f.carried ∨ !s.headUp c.head ∨ !fits then s
            else
              let (go, s) := match f.carried.safe with
                | some _ => s.lockSafe slot (start + span)
                | none => (true, s)
              if !go then (s.carry (.meter slot))
              else
                let e : Launch :=
                  { id := s.air.nextId, gid := s.air.nextId, head := c.head, band := c.band, antenna := a,
                    carrier := s.rd Rec.LeaChannel.CentreHz n, start := start, span := span, amp := s.txAmp c.head a c.band,
                    charge := c.ms, source := .command, channel := some n, rate := o.rate, meter := some slot, tag := f.tag,
                    position := f.position, frame := whiten f.frame, preamble := pre, locked := true }
                let s := { s with air := { s.air with queue := s.air.queue ++ [e], nextId := s.air.nextId + 1 } }
                let s := s.carriedSent slot f.tag f.carried
                let p := s.plan slot
                match s.book (s.answerBooking slot (start + span) o.rate o.delay) false with
                | (some id, s) =>
                  ((s.setPlan slot { p with ack := some (id, f.tag), sent := (f.tag, start + span, o.u) :: p.sent.take 7 }).carryPlan slot)
                | (none, s) =>
                  (((s.setPlan slot { p with sent := (f.tag, start + span, o.u) :: p.sent.take 7 }).tokenUnanswered slot f.tag).carryPlan slot)
      | _, _ => s)) ∧
  -- PollDeadlineS after its due time a pending poll is late, once (R210).
  (∀ (slot : Nat) (s : State), Machine.exec (.pollLate slot) s = .next (
    let p := s.plan slot
    match p.poll with
    | none => s
    | some q =>
      if q.late ∨ s.legalS < q.due + s.rd Rec.MeterClass.PollDeadlineS (s.planClass slot) then s
      else
        let s := s.setPlan slot { p with poll := some { q with late := true } }
        (((s.countPoll .airLate slot).raise .airPollLate (s.meterTenant slot) [slot, q.due, slotOpt q.cause]).carry (.meter slot)))) ∧
  -- Pending polls are released after an outage, in due order, at most RecoveryPerS a second (R211).
  (∀ (s : State), Machine.exec (.recoveryRelease) s = .next (
    let ready := match s.air.releaseMs with
      | some t => decide (t + 1000 ≤ s.time.ms)
      | none => true
    let held := (s.air.plans.filterMap fun e => e.2.poll.bind fun (q : PendPoll) => if q.held then some (e.1, q.due) else none)
    if !s.serving ∨ !ready ∨ held.isEmpty then s
    else
      let order := sortBy (fun (e : Nat × Nat) => (e.2 : Int)) held
      let n := s.rd Rec.AirPolicy.RecoveryPerS
      let s := { s with air := { s.air with releaseMs := some s.time.ms } }
      let s := (order.take n).foldl (fun s e =>
        let p := s.plan e.1
        s.setPlan e.1 { p with poll := p.poll.map fun (q : PendPoll) => { q with held := false } }) s
      ((order.drop n).foldl (fun s e => s.deferPoll e.1 .queue) s))) ∧
  -- Frame slot `slot` of flood window `window` comes due (R220): planned at least PlanLeadMs ahead, once, in order of the
  -- slots; a window is used only if its slot 0 is.
  (∀ (window slot : Nat) (s : State), Machine.exec (.floodWindow window slot) s = .next (
    let ws := s.windowS window
    let lead := s.time.air + s.rd Rec.AirPolicy.PlanLeadMs * airPerMs
    let used := s.fl.filled.contains (ws, slot)
    let before := slot == 0 || s.fl.filled.contains (ws, slot - 1)
    if !s.rdB Rec.FloodSchedule.Active ∨ !s.serving ∨ s.rd Rec.FloodSchedule.FramesPerWindow ≤ slot ∨ ws < s.fl.fromS ∨ used ∨ !before ∨
        s.frameSlotAir window slot < lead then s
    else
      let s := if slot = 0 then s.resumeStreams else s
      match s.nextStream window slot with
      | none => s
      | some x =>
        match s.pauseCause x with
        | some c => ((s.pauseStream x c).carry .floods)
        | none =>
          let s' := s.launchFlood x window slot
          let s' := if s'.air.queue.length = s.air.queue.length then s'
            else { s' with fl := { s'.fl with filled := (ws, slot) :: s'.fl.filled.filter fun y => decide (s.legalS ≤ y.1 + 86400) } }
          ((s'.carry .floods).carry .duty))) ∧
  -- The first exchange due on a tributary starts at the predicted crossing (R249), or is deferred; nothing is launched
  -- before max(PlanLeadMs, 1 s) after the claim (R265).
  (∀ (trib : Nat) (s : State), Machine.exec (.lingLaunch trib) s = .next (
    let x := s.lingTrib trib
    let from' := s.ling.claimAir + max (s.rd Rec.AirPolicy.PlanLeadMs) 1000 * airPerMs
    if !s.lineHere ∨ s.tributaries ≤ trib ∨ x.out.isSome ∨ !s.serving ∨ s.time.air < from' then s
    else match s.lingQueue trib with
      | [] => s
      | d :: _ =>
        match s.lingBlocked trib with
        | some c => (((s.lingDefer trib (if d.kind = 0 then some d.meter else none) c).lingShort trib c).carry (.meter d.meter))
        | none => ((if d.kind = 0 then s.lingPoll trib d.meter else s.lingCommand trib d.meter).carry (.meter d.meter)))) ∧
  -- The metered energy of a governor window reaches its cap during a frame (R260): window 0 is of 200 ms, 1 of 1 s.
  (∀ (trib phase window : Nat) (s : State), Machine.exec (.lingGovernorCut trib phase window) s = .next (
    let cap := if window = 0 then s.rd Rec.LingTrib.Cap200 trib else s.rd Rec.LingTrib.Cap1000 trib
    match (s.lingTrib trib).out with
    | none => s
    | some f =>
      if s.time.air < f.start ∨ f.stop ≤ s.time.air ∨ 1 < window ∨ s.windowEnergy trib phase (if window = 0 then 200 else 1000) < cap * lingUnit ∨
          !(s.lingPhasesOf trib).contains phase then s
      else (((s.lingAbort trib .governor).count { name := .lingCuts, a := trib }).raise .lingGovernorCut 0 [trib, phase, window]))) ∧
  -- The answer windows close without a detection: NO_FRAME, a miss, or the end of an alarm call. (Log entry 68: DEDUCED.)
  (∀ (trib : Nat) (s : State), Machine.exec (.lingAnswerWindowEnd trib) s = .next (
    match (s.lingTrib trib).out with
    | none => s
    | some f =>
      if s.time.air < f.closeAt then s
      else
        let s := s.lingClose trib f.closeAt f.stop
        (if f.kind = 2 then s else (((s.count { name := .lingRx, a := trib, b := 1 }).lingMissed trib f)).carry (.meter f.meter)))) ∧
  -- A received Ling frame is checked and handed on with its descriptor (R254, R255). A polled answer ends its exchange; an
  -- alarm call stays open to the end of its windows. A failed answer to a poll is a miss. (Log entry 68: DEDUCED.)
  (∀ (trib startAir endAir repCode : Nat) (header payload : List Byte) (snr : List Int) (s : State), Machine.exec (.lingFrameDecoded trib startAir endAir repCode header payload snr) s = .next (
    match (s.lingTrib trib).out with
    | none => s
    | some f =>
      match s.lingMatched f startAir with
      | none => s
      | some matched =>
        let (o, fr) := lingCheck repCode header payload
        let s := s.count { name := .lingRx, a := trib, b := o }
        let d := s.lingDesc trib f o matched fr.length startAir endAir header snr
        let s := if f.kind = 2 then s else s.lingClose trib endAir f.stop
        if o ≠ 0 then (if f.kind = 2 then s else s.lingMissed trib f)
        else
          let s := s.lingLearn f matched
          let s := if f.kind = 2 then s else
            s.setLingMeter f.meter { s.lingMeterSt f.meter with
              answered := some f.tag, snrAnswer := snr.getD 0 0, snrCarriers := (List.range 32).map fun i => snr.getD (5 + i) (-32768) }
          { s with rx := { s.rx with
            toSecurity := s.rx.toSecurity ++ [{ frame := fr, desc := d, mode := 0, origin := if f.kind = 2 then 4 else 3,
                                                hint := if f.kind = 2 then 0xFFFFFFFF else f.meter, startAir := startAir, endAir := endAir,
                                                trib := some trib, level := f.level }] } })) ∧
  -- AlarmCallS expires and an alarm call is sent at level 6 (R256): a POLL to the address of all ones with Request 0. (Log
  -- entry 65: DESIGN CHOICE.)
  (∀ (trib : Nat) (s : State), Machine.exec (.lingAlarmCall trib) s = .next (
    let x := s.lingTrib trib
    let every := s.rd Rec.LingTrib.AlarmCallS trib
    let from' := s.ling.claimAir + max (s.rd Rec.AirPolicy.PlanLeadMs) 1000 * airPerMs
    if !s.lineHere ∨ s.tributaries ≤ trib ∨ every = 0 ∨ s.nowS < x.lastCallS + every ∨ x.out.isSome ∨ !s.serving ∨ s.time.air < from' then s
    else match s.lingBlocked trib with
      | some c => ((s.lingDefer trib none c).lingShort trib c)
      | none =>
        let (tag, s') := s.drawTag
        let frame := pollFrame (2 ^ 64 - 1) (s.rd Rec.Pair.RegionNumber) tag 0 (respCtlOf 0 false 0)
        match s'.lingPut trib 2 0xFFFFFFFF tag 6 0 (frame.take 16) {} with
        | .error c => (s.lingTurned trib none c)
        | .ok s => (s.setLingTrib trib { s.lingTrib trib with lastCallS := s.nowS }))) ∧
  -- UnreachIntervalS expires: an unreachable meter's poll at level 6 is due (R263).
  (∀ (slot : Nat) (s : State), Machine.exec (.lingUnreachPoll slot) s = .next (
    let m := s.lingMeterSt slot
    if m.unreachable ∧ !m.due ∧ m.lastPollS + s.rd Rec.LingPolicy.UnreachIntervalS ≤ s.nowS ∧ s.lineHere then
      ((s.setLingMeter slot { m with due := true }).carry (.meter slot))
    else s)) ∧
  -- A STARTING transmit meets its conditions and enters ON.
  (∀ (trib : Nat) (s : State), Machine.exec (.lingTxReady trib) s = .next (
    if s.unitSt (.lingTx trib) = .starting ∧ s.lingFit trib ∧ s.zoneValid trib then
      ((s.setUnit (.lingTx trib) { s.unit (.lingTx trib) with st := .on, deferred := false }).raise .lingTxStarted 0
        [trib, (s.lingTrib trib).reason])
    else s)) ∧
  -- ZcTimeoutMs passes without a valid crossing (R400, R403): the zone or phase times out; a zone that leaves VALID
  -- suspends Ling (R252).
  (∀ (trib phase : Nat) (s : State), Machine.exec (.zcTimeout trib phase) s = .next (
    if !s.lineHere ∨ s.tributaries ≤ trib ∨ 3 ≤ phase then s
    else
      let s := s.zcExpire trib phase
      (if (s.metro trib).zone = .noCrossing then s.lingAbort trib .noCrossing else s)))

/-- What each event of chapters 11 to 18 does to the state, in every state and for all its operands. For every state and all
operands, each of these 29 rows answers the next state written out here: swardVictimClear, securityFrame, dirRebuildDone,
keySwitch, keyEraseDrained, rngHealthFault, ledgerApply, recordPoisoned, journalAck, tariffVersionActive, archiveWrite,
zeroCrossing, metroWindowEnd, metroStep, stepRecordHandoff, metroIntervalClose, pulseEmit, balIntervalStart, balEvaluate,
flashProgramDone, flashReadDone, dieFailed, journalCopiesProgrammed, checkpointStart, checkpointCommit, reclamation,
wearCheck, dramIntegrityFail, scrubPass. Conditions under which a row does not occur leave the state as it was. The clauses
state the model as a whole; where the spec leaves a value, a layout or an order open, the terms take the choice of the log
entries that their definitions name (here 21, 58, 59, 70, 74, 76, 77, 80, 81, 83, 171). -/
def Obligations.DataEventsAct : Prop :=
  -- SwardAgeS passes without a full miss, and the Sward leaves victim-full (R232).
  (∀ (s : State), Machine.exec (.swardVictimClear) s = .next (
    match s.sec.victimSince with
    | none => s
    | some t =>
      if s.legalS < s.sec.victimLast + s.rd Rec.SwardPolicy.SwardAgeS then s
      else (({ s with sec := { s.sec with victimSince := none } }).raise .swardVictimClear 0 [s.legalS - t]))) ∧
  -- A step of the pipeline: phase 0 takes the oldest frame handed on through stages 1 to 6, unless a directory rebuild
  -- holds frames ahead of stage 2; phase 1 takes a frame of the pipe, by its place in it, through stages 7 to 9. (Log
  -- entry 70: DESIGN CHOICE.)
  (∀ (phase frame : Nat) (s : State), Machine.exec (.securityFrame phase frame) s = .next (
    if phase = 0 then
      match s.rx.toSecurity with
      | [] => s
      | h :: rest =>
        if s.sec.rebuild.isSome ∨ s.restarting 7 then s
        else (({ s with rx := { s.rx with toSecurity := rest } }).stagesFirst h)
    else match s.sec.pipe[frame]? with
      | none => s
      | some f => (({ s with sec := { s.sec with pipe := s.sec.pipe.eraseIdx frame } }).stagesLast f))) ∧
  -- A rebuild under a new key completes or fails (R276): one that fails is tried again; the insert of a record write is
  -- refused after its fourth. (Log entry 74: DESIGN CHOICE.)
  (∀ (s : State), Machine.exec (.dirRebuildDone) s = .next (
    match s.sec.rebuild with
    | none => s
    | some r =>
      let (kd, s) := s.drawBytes 16
      let entries := (s.assignedSlots.map fun k => (k, s.rd Rec.MeterSec.Address k)) ++ r.extra.toList
      let s := s.count { name := .secRebuild }
      let n := r.attempts + 1
      match dirAll kd entries [] [] with
      | some v =>
        let s := { s with sec := { s.sec with kd := kd, dirVictims := v.filter fun k => s.assignedSlots.contains k, rebuild := none } }
        (s.raise .secDirRebuild 0 [n, s.time.ms - r.beganMs])
      | none =>
        if !r.forced ∧ 4 ≤ n then
          let s := { s with sec := { s.sec with rebuild := none, dirRefused := r.extra.map Prod.fst } }
          (s.raise .secDirRebuild 0 [n, s.time.ms - r.beganMs])
        else { s with sec := { s.sec with rebuild := some { r with attempts := n } } })) ∧
  -- The bindings to a slot's live generation drain and the shadow becomes live (R304).
  (∀ (domain slot : Nat) (s : State), Machine.exec (.keySwitch domain slot) s = .next (
    match Map.get? s.vault.shadow (domain, slot) with
    | none => s
    | some c => { s with vault := { s.vault with
        live := Map.put s.vault.live (domain, slot) c, shadow := Map.del s.vault.shadow (domain, slot),
        erasing := s.vault.erasing.filter (fun k => !decide (k = (domain, slot))) } })) ∧
  -- The last operation bound to an erased slot ends and the old key is zeroised (R305).
  (∀ (domain slot : Nat) (s : State), Machine.exec (.keyEraseDrained domain slot) s = .next (
    { s with vault := { s.vault with erasing := s.vault.erasing.filter (fun k => !decide (k = (domain, slot))) } })) ∧
  -- The noise source fails its health tests, or recovers after 1 024 good samples (R311). (Log entry 21: DEDUCED.)
  (∀ (healthy : Bool) (test : Nat) (s : State), Machine.exec (.rngHealthFault healthy test) s = .next (
    if healthy then { s with vault := { s.vault with rngOk := true } }
    else ((({ s with vault := { s.vault with rngOk := false } }).count { name := .vaultRngFaults }).raise
      .vaultRngFault 0 [test]))) ∧
  -- LEDGER_APPLY: an engine in service that is not SLOW takes the oldest work of a tenant's queue and applies it (R38,
  -- R335, R345); its output is discarded where the ticket it carries has been revoked (R27). The ledger applies nothing
  -- before its records are restored (R348). (Log entry 77: DEDUCED.)
  (∀ (engine tenant ticket : Nat) (s : State), Machine.exec (.ledgerApply engine tenant ticket) s = .next (
    if ¬s.led.ready ∨ !s.cellWorks (engineUnit engine) ∨ 32 ≤ engine ∨ s.revokedTicket ticket ∨ s.saveHalts ∨ !s.regionOn 8 ∨
        s.pair.st = .handingOver then s
    else match takeWork s.led.poisoned (Map.getD s.led.queues tenant []) with
      | none => s
      | some (x, rest) =>
        let s := { s with led := { s.led with queues := Map.put s.led.queues tenant rest } }
        let s := s.charge .engines tenant 1
        match x.2 with
        | .frame f => (((s.count { name := .ledEngApp, a := engine }).applyFrame x.1 f).carryMeter x.1).releaseExports
        | j => ((s.runJob x.1 j).carryMeter x.1).releaseExports)) ∧
  -- RECORD_POISONED: `readable` says whether a checkpoint copy of the record can be read. Checkpoint and journal give the
  -- record exactly (R465); without them the gap procedure applies. (Log entry 76: DESIGN CHOICE.)
  (∀ (slot readable : Nat) (s : State), Machine.exec (.recordPoisoned slot readable) s = .next (
    let r := s.meter slot
    if ¬r.active then s
    else
      let s := s.raise .ledgerRecordPoisoned r.tenant [slot]
      let s := { s with led := { s.led with poisoned := s.led.poisoned.filter (· ≠ slot) } }
      (if readable = 0 then s.rebuildMeter slot else s))) ∧
  -- JOURNAL_ACK: the partner acknowledges the entries up to a Position. Only entries streamed to it can be acknowledged.
  (∀ (position : Nat) (s : State), Machine.exec (.journalAck position) s = .next (
    if s.journals ∧ s.pair.streaming ∧ position ≤ s.newestPos then (s.takeAck position) else s)) ∧
  -- A version's EffectiveS passes (R364).
  (∀ (plan : Nat) (s : State), Machine.exec (.tariffVersionActive plan) s = .next (
    let l := s.planVersions plan
    match l.find? fun v => decide (v.effective ≤ s.stamp) && !v.reported with
    | none => s
    | some v =>
      let l := l.map fun w => if w.effective = v.effective then { w with reported := true } else w
      (({ s with tar := { s.tar with plans := Map.put s.tar.plans plan l } }).raise .tariffVersionActive
        (s.recTenant Rec.TariffPlan.Active.rid plan) [plan, v.effective]))) ∧
  -- A booked interval's archive records are written once the entry that booked it has committed (R366); writes wait while
  -- the store restarts (R36). A record that exists already is not written again.
  (∀ (s : State), Machine.exec (.archiveWrite) s = .next (
    match s.tar.waiting.find? fun w => s.regionOn 9 && s.posCommitted w.1 with
    | none => s
    | some w =>
      let a := w.2
      let s := { s with tar := { s.tar with waiting := s.tar.waiting.erase w } }
      if s.tar.archive.any fun b => b.slot == a.slot && b.endS == a.endS && b.streams.map Prod.fst == a.streams.map Prod.fst
      then s
      else (({ s with tar := { s.tar with archive := s.tar.archive ++ [a] } }).count { name := .tarArchived, a := a.tenant }))) ∧
  -- The oldest crossing detected on a phase and not yet judged is judged (R398, R399).
  (∀ (trib phase : Nat) (s : State), Machine.exec (.zeroCrossing trib phase) s = .next (
    let s := s.metroUpdate trib
    let x := s.metro trib
    let z := x.phase phase
    match z.found with
    | air :: later =>
      if !s.lineHere ∨ s.tributaries ≤ trib ∨ 3 ≤ phase then s
      else ((s.setMetro trib (x.setPhase phase { z with found := later })).judgeCrossing trib phase air)
    | [] => s)) ∧
  -- A measurement window ends (R406 to R408): counted; where no sample was missing its values stand, and enter the
  -- averages of the open interval.
  (∀ (trib : Nat) (s : State), Machine.exec (.metroWindowEnd trib) s = .next (
    let s := s.metroUpdate trib
    if !s.lineHere ∨ s.tributaries ≤ trib ∨ !s.metroChain trib then s
    else match s.nextWindow trib with
      | none => s
      | some (pts, sync, lost, x) =>
        let f := s.lineFreq trib
        let s := (s.setMetro trib x).count { name := .metroWindows, a := trib }
        let s := if sync then s.count { name := .metroSync, a := trib } else s
        if lost then (s.count { name := .metroEmpty, a := trib })
        else
          let nc := s.cycles trib
          let freq := f.getD 0
          let rms := (List.range 8).map fun c => rmsOf (s.metroScale trib c) (pts c)
          let squares := if sync then (List.range 8).map fun c => groupSquares nc (pts c) else []
          let thd := if sync then (List.range 4).map fun c => thdOf (fun h => s.groupOk trib h freq) (squares.getD c []) else []
          let groups := squares.mapIdx fun c l => l.map (groupValue (s.metroScale trib c) (256 * nc))
          let w : MetroWindow :=
            { rms := rms, freq := f, thd := thd, sync := sync, groups := if sync then groups else x.window.groups,
              groupFreq := if sync then freq else x.window.groupFreq }
          let sums := (List.range 8).foldl (fun m i => Map.upd m i 0 (· + rms.getD i 0)) x.sums
          let thdMax := if sync then (List.range 3).foldl (fun m i => Map.upd m i 0 (max (min (thd.getD i 0) 65535))) x.thdMax else x.thdMax
          (s.setMetro trib { x with
            window := w, sums := sums, windows := x.windows + 1, thdMax := thdMax,
            freqSum := x.freqSum + freq, freqCount := x.freqCount + bit f.isSome }))) ∧
  -- A 200 ms step that has ended is computed from its samples (R409, R410) and its energies are booked; `reissued` marks
  -- one computed again after a missed deadline (R413). (Log entry 171: DESIGN CHOICE.)
  (∀ (trib : Nat) (reissued : Bool) (s : State), Machine.exec (.metroStep trib reissued) s = .next (
    let s := s.metroUpdate trib
    let x := s.metro trib
    match s.nextStep trib with
    | none => s
    | some idx =>
      if !s.lineHere ∨ s.tributaries ≤ trib ∨ !s.metroChain trib ∨ !s.rdB Rec.MetroTrib.Active trib ∨ !s.stepReady trib idx then s
      else
        let s := s.count { name := .metroSteps, a := trib }
        let s := if reissued then s.count { name := .metroReissue, a := trib } else s
        let mine := x.buf.filter fun y => s.inStep idx y.tag
        let gone := (mine.filter fun y => y.missing).length + (if mine.length + 1 < 1600 then 1600 - mine.length else 0)
        let hot := mine.any fun y => y.codes.any fun c => decide (overLimit < c.natAbs)
        let flags := maskOf ((if 0 < gone then [0] else []) ++ (if s.zoneValid trib then [] else [1]) ++
          (if hot then [2] else []) ++ (if s.phaseLostNow trib then [3] else []))
        let y := [0, 1, 2].foldl (fun (y : MetroTrib) p =>
          let a := phaseSum p (s.rdS (Rec.MetroTrib.PhaseCorrNs p) trib) (s.inStep idx) x.buf
          let kv := s.metroScale trib p
          let ki := s.metroScale trib (4 + p)
          y.bookPhase p (a.active kv ki) (a.reactive kv ki) (a.apparent kv ki)) x
        (s.setMetro trib { y with
          lastStep := idx, steps := x.steps + 1, stepsIn := x.stepsIn + 1, missing := min (x.missing + gone) 7200000, flags := x.flags ||| flags }))) ∧
  -- Every 5 steps a step record is handed to the ledger region and committed (R412), with the pulse state (R415, R416).
  (∀ (trib : Nat) (s : State), Machine.exec (.stepRecordHandoff trib) s = .next (
    let x := s.metro trib
    if x.steps < 5 then s
    else
      let kept := s.metroKept trib
      let words := (List.range 15).map fun i => Map.getD x.stepInc i 0
      let s := s.journal .step 0 trib (.words (words ++ [x.flags, x.missing, x.cycles]))
      let s := s.setMetro trib { x with steps := 0, stepInc := [], committed := kept, pending := some (s.newestPos, x.acc) }
      let s := { s with met := { s.met with waiting := s.met.waiting.map fun w =>
        if w.1 = noValue ∧ w.2.trib = trib then (s.newestPos, w.2) else w } }
      let s : State := (List.range 8).foldl (fun s o => s.feedPulse trib x.stepInc o) s
      (s.carry (.tributary trib)))) ∧
  -- METRO_INTERVAL_CLOSE: the interval closes; its record is handed to the balance once written.
  (∀ (trib : Nat) (s : State), Machine.exec (.metroIntervalClose trib) s = .next (
    (s.closeInterval trib).2)) ∧
  -- A committed batch of pulses is emitted (R416, R417): by the chip that holds the claim, after its record's commit. (Log
  -- entry 58: DESIGN CHOICE.)
  (∀ (output : Nat) (s : State), Machine.exec (.pulseEmit output) s = .next (
    let p := s.pulse output
    if !s.serving ∨ (p.batch = 0 ∧ p.test = 0) ∨ !s.posCommitted p.position then s
    else ((s.setPulse output { p with batch := 0, test := 0 }).count { name := .metroPulses, a := output } (p.batch + p.test)))) ∧
  -- A balance interval of an active zone starts: its members and expected sums are frozen. (Log entry 59: DEDUCED.)
  (∀ (zone : Nat) (s : State), Machine.exec (.balIntervalStart zone) s = .next (
    match (s.balZone zone).next with
    | none => s
    | some start =>
      if s.legalS < start ∨ !s.rdB Rec.Zone.Active zone ∨ !s.led.ready then s
      else
        let was := s.bal.meters
        let s := s.enrol zone start
        let typ (e : Nat × MeterRec) : Int := (s.balMeter e.1).typ.getD (s.rd Rec.Zone.NewMeterTypMilli zone)
        let ms := s.members zone
        let x := s.balZone zone
        let stop := start + 900
        let l := if x.openIv.any fun o => o.stop == stop then x.openIv else x.openIv ++ [{ stop := stop }]
        let s := s.setBalZone zone { x with
          next := some stop,
          openIv := l.map fun (o : BalOpen) => if o.stop = stop then
            { o with frozen := true, members := ms.length,
                     unprofiled := (ms.filter fun e => s.unprofiled e.2.ledgerClass).length,
                     expImp := (ms.map fun e => (typ e).toNat).sum, expExp := (ms.map fun e => (-(typ e)).toNat).sum } else o }
        let moved := (s.bal.meters.filter fun e => decide (Map.get? was e.1 ≠ some e.2)).map fun e => Kept.meter e.1
        ((s.journal .balance (s.zoneTenant zone) zone (.words [1, stop, ms.length])).carryAll (.zone zone :: moved)))) ∧
  -- An interval completes, or its HoldS expires, and it is evaluated (R433 to R436).
  (∀ (zone stop : Nat) (s : State), Machine.exec (.balEvaluate zone stop) s = .next (
    if !s.rdB Rec.Zone.Active zone ∨ !s.led.ready then s
    else match (s.balZone zone).openIv.find? fun o => o.stop == stop && o.frozen with
      | none => s
      | some o =>
        let held := decide (stop + s.rd Rec.Zone.HoldS zone ≤ s.legalS)
        let full := s.balComplete zone o && decide (stop ≤ s.legalS)
        if !held ∧ !full then s
        else (((s.balWrite (s.balResult zone o (!full))).balDetect zone).carry (.zone zone)))) ∧
  -- FLASH_PROGRAM_DONE: the program of logical page `page` of a partition into a block (op 0), or the erase of a block
  -- that holds no valid page (op 1), completes, or fails and retires its block. The data of a failed program stays staged
  -- and is programmed elsewhere (R459), so a failure changes no partition. A page moved out of a retired block counts as
  -- reclamation (R460). (Log entry 80: DESIGN CHOICE.)
  (∀ (channel die block part op page ok : Nat) (s : State), Machine.exec (.flashProgramDone channel die block part op page ok) s = .next (
    let x := s.die channel die
    if ¬s.dieHere channel die ∨ x.st = .failed ∨ x.st = .unused ∨ x.badBlocks.contains block then s
    else
      let k := dieKey channel die
      let s := s.dieOp channel die (ok ≠ 0)
      if ok = 0 then
        let s := s.retireBlock channel die block
        (s.raiseEvery hourMs .storeBlockRetired k 0 [channel, die, s.ctr { name := .stRetired, a := k }])
      else
        let at' := (channel, die, block)
        if op = 1 then
          if (Map.get? s.store.blocks at').any fun b => decide (0 < b.valid) then s
          else ((s.charge .flash (partTenant part) 1).eraseBlock at')
        else if !partCodes.contains part || !s.takesPage part at' then s
        else
          let logical := (part, copyOf part channel, page)
          let old := Map.get? s.store.pages logical
          let moved := old.any fun b => (s.die b.1 b.2.1).badBlocks.contains b.2.2
          let s := (s.charge .flash (partTenant part) 1).putPage logical at'
          let s := if part = 3 ∧ old.isNone then s.captureWritten pageBytes else s
          let s := { s with store := { s.store with writeSeq := s.store.writeSeq + 4 } }
          let s := s.count { name := .stProg, a := k } 4
          (s.count { name := if moved then .stReclaim else .stHost, a := part } pageBytes))) ∧
  -- FLASH_READ_DONE: a sector read is decoded after hard decoding (outcome 0), a read retry (1), soft decoding (2), or by
  -- none of them (3), as on a failed die; `sector` is what decoding gave. Where its CCM tag fails too the sector is
  -- unreadable (R460). `mirrored` says whether the other copy, or for a checkpoint item the older generation, is readable.
  -- The block of an unreadable sector is retired. (Log entry 80: DESIGN CHOICE.) (Log entry 81: DEDUCED.)
  (∀ (channel die block part outcome content tenant first n mirrored : Nat) (sector : List Byte) (s : State), Machine.exec (.flashReadDone channel die block part outcome content tenant first n mirrored sector) s = .next (
    if ¬s.dieHere channel die ∨ (s.die channel die).st = .unused then s
    else
      let k := dieKey channel die
      let dead := decide ((s.die channel die).st = .failed)
      let o := if dead then 3 else outcome
      let s := s.count { name := .stRead, a := k }
      let s := if 1 ≤ o then s.count { name := .stRetry, a := k } else s
      let s := if 2 ≤ o then s.count { name := .stSoft, a := k } else s
      if o < 3 ∧ (s.openSector part sector).isSome then (s.dieOp channel die true)
      else
        let s := s.count { name := .stUnread, a := part }
        let s := if dead then s else (s.dieOp channel die (decide (o < 3))).retireBlock channel die block
        if mirrored ≠ 0 ∧ content ≤ 1 then (s.raise .storeCopyRepaired 0 [part, 1])
        else if mirrored ≠ 0 ∧ content = 2 then s
        else (s.loseContent content tenant first n))) ∧
  -- DIE_FAILED: a die stops answering (cause 1), or the data of a retiring die has been moved (cause 2). Three failed
  -- operations in a row (cause 0) are counted where they fail. (Log entry 81: DEDUCED.)
  (∀ (channel die cause : Nat) (s : State), Machine.exec (.dieFailed channel die cause) s = .next (
    let x := s.die channel die
    if ¬s.dieHere channel die ∨ x.st = .failed ∨ x.st = .unused then s
    else if cause = 2 ∧ (x.st ≠ .retiring ∨ s.store.blocks.any fun e => e.1.1 == channel && e.1.2.1 == die && decide (0 < e.2.valid)) then s
    else (s.failDie channel die (if cause = 2 then 2 else 1)))) ∧
  -- Entries programmed and read back in both copies leave the buffer; entries that waited for room follow.
  (∀ (position : Nat) (s : State), Machine.exec (.journalCopiesProgrammed position) s = .next (
    if s.restarting 9 then s
    else ({ s with store := { s.store with journal := s.store.journal.map fun (e : JEntry) =>
      if e.position = position then { e with copied := true } else e } }).eraseSlots.commitSweep)) ∧
  -- CheckpointIntervalS has passed, or free journal space lies below JournalForcePermille.
  (∀ (s : State), Machine.exec (.checkpointStart) s = .next (
    let due := decide (s.store.ckptMs + 1000 * s.rd Rec.StorePolicy.CheckpointIntervalS 0 ≤ s.time.ms)
    let low := decide (s.journalFree < s.rd Rec.StorePolicy.JournalForcePermille 0)
    if (due ∨ low) ∧ ¬s.restarting 9 then s.startCheckpoint else s)) ∧
  -- The running generation counts: the two newest that count are kept, newest first.
  (∀ (s : State), Machine.exec (.checkpointCommit) s = .next (
    match s.store.running with
    | none => s
    | some g =>
      if s.restarting 9 then s
      else
        let g : Generation := { g with endPos := s.newestPos, committed := true, digest := (List.range 16).map s.nsDigest }
        let ms := s.time.ms - s.store.ckptMs
        let s := { s with
          time := { s.time with savedCross := (s.time.cross.head?.map fun (c : Nat × Nat × Nat) => (c.1, c.2.1)).or s.time.savedCross }
          store := { s.store with running := none, generations := (g :: s.store.generations).take 2 } }
        (((s.pruneJournal.commitSweep).streamGeneration g).raise .storeCheckpointDone 0 [g.gen, ms]))) ∧
  -- RECLAMATION of a partition (R455): the pages whose content has been released (`freed`, as copy × 2^48 + logical page)
  -- leave the map, the closed block with the fewest valid pages is copied into blocks of `into`, the first that takes each
  -- page, and erased. In a namespace, records past their age are released with it, and where no block is free the oldest.
  -- (Log entry 83: DESIGN CHOICE.)
  (∀ (part : Nat) (freed into : List Nat) (s : State), Machine.exec (.reclamation part freed into) s = .next (
    if ¬partCodes.contains part then s
    else
      let full := decide (16 ≤ part ∧ s.freeBlocks part = 0)
      let s := freed.foldl (fun s n => s.freePage (part, n / 2 ^ 48, n % 2 ^ 48)) s
      match s.victim part with
      | none => s
      | some v => match s.copyPages (into.map keyBlock) (s.pagesIn v) with
        | none => s
        | some s =>
          let s := s.eraseBlock v
          if part < 16 then s
          else
            let s := s.reclaimAged (partTenant part)
            (if full then s.reclaimOldest (partTenant part) else s))) ∧
  -- WEAR_CHECK: a gap beyond WearDelta moves the data of the closed block with the lowest erase count into the free block
  -- with the highest, and erases it.
  (∀ (channel die : Nat) (s : State), Machine.exec (.wearCheck channel die) s = .next (
    let x := s.die channel die
    if ¬s.dieHere channel die ∨ x.st = .failed ∨ x.st = .unused then s
    else
      let l := s.eraseCounts channel die
      let counts := l.map Prod.snd
      let s := match s.wearPair channel die with
        | some (a, b) =>
          if s.rd Rec.StorePolicy.WearDelta 0 < counts.foldl max 0 - counts.foldl min (counts.headD 0) then s.moveBlock a b else s
        | none => s
      let step := s.wearStep
      if s.store.wearRaised < step then
        (({ s with store := { s.store with wearRaised := step } }).raise .storeWear 0 [s.meanWear])
      else s)) ∧
  -- DRAM_INTEGRITY_FAIL: the controller's accesses to a line whose tag fails (R470, R471). `first` is what a read of the
  -- line and its tag gave, `second` the one more read that follows where `first` fails; where that fails too, or the line
  -- is poisoned, the reader receives INTEGRITY. Access 0 is a read; 1 a partial write, which is then not performed and
  -- leaves the line poisoned; 2 a full-line write, which needs no read and clears a poisoned line (R472).
  (∀ (channel address subject access : Nat) (first second : List Byte) (s : State), Machine.exec (.dramIntegrityFail channel address subject access first second) s = .next (
    let line := s.lineAt channel address subject
    let bad := s.store.poisoned.any fun l => l.address == address
    if 4 ≤ channel ∨ 14 ≤ line.area then s
    else if access = 2 then { s with store := { s.store with poisoned := s.store.poisoned.filter fun l => l.address != address } }
    else if !bad && s.lineVerifies line.tenant address first then s
    else
      let s := s.count { name := .stTagRead, a := channel }
      if !bad && s.lineVerifies line.tenant address second then s
      else
        let s := s.count { name := .stTagFail, a := channel }
        let s := (s.integrity line.area subject (if bad then 1 else 0)).lineLost line.area subject
        if access = 1 ∧ !bad then
          (({ s with store := { s.store with poisoned := s.store.poisoned ++ [line] } }).count { name := .stPoison, a := line.tenant })
        else s)) ∧
  -- SCRUB_PASS: the scrub has come `progress` thousandths through its pass, and reads the line at an address twice where
  -- the first read fails; nothing where `first` is empty. A line that fails both reads is reported, and one that is not a
  -- meter record, directory, Sward, history or alignment line is rewritten, which clears its poison (R473).
  (∀ (channel progress address subject : Nat) (first second : List Byte) (s : State), Machine.exec (.scrubPass channel progress address subject first second) s = .next (
    let done := decide (1000 ≤ progress)
    let s := { s with store := { s.store with
      scrubAt := if done then 0 else progress, scrubPasses := s.store.scrubPasses + bit done } }
    let line := s.lineAt channel address subject
    if first.isEmpty ∨ 4 ≤ channel ∨ 14 ≤ line.area ∨ s.lineVerifies line.tenant address first then s
    else
      let s := s.count { name := .stTagRead, a := channel }
      if s.lineVerifies line.tenant address second then s
      else
        let s := s.count { name := .stTagFail, a := channel }
        let s := (s.integrity line.area subject 2).lineLost line.area subject
        { s with store := { s.store with poisoned := s.store.poisoned.filter fun l => l.address != address } }))

/-- What each event of chapters 19 and 22 to 24 does to the state, in every state and for all its operands. For every state and
all operands, each of these 31 rows answers the next state written out here: legalSecond, timeSample, ppsEdge,
partnerTimeExchange, holdoverTimeout, leapSmear, pairWaitExpiry, partnerLoss, soloGuardExpiry, partnerYield, claimStart,
takeoverDone, readyChange, catchUpDone, takebackDue, handover, handoverTimeout, digestHoldExpiry, imageReceived,
trialConfirm, rollStepDone, chainLinkLoss, headCampaignStep, meterCampaignRound, lockoutSample, lockoutDiscrepancyTimeout,
releaseHoldEnd, safeDeadline, partnerMessageReceived, heartbeatSend, rollReadyTimeout. Conditions under which a row does not
occur leave the state as it was. The clauses state the model as a whole; where the spec leaves a value, a layout or an order
open, the terms take the choice of the log entries that their definitions name (here 95, 112, 113, 114, 125, 126, 127, 129,
140, 177). -/
def Obligations.PairTimeEventsAct : Prop :=
  -- A whole legal second, once each: a pending step is applied; the cross-stamp is latched and the written increment takes
  -- effect (R481, R495); the references are judged and one selected (R490); the state moves (R484, R491); and the servo
  -- writes the increment of the next second (R487). Before the first claim an offset beyond StepThresholdMs becomes a step
  -- instead (R486).
  (∀ (s : State), Machine.exec (.legalSecond) s = .next (
    if s.time.second = some s.legalS then s else
    let s := s.applyStep
    let inc := s.time.incWritten.getD s.time.inc
    let corr := (2 ^ 34 : Int) - s.time.inc
    let steered := s.time.steered + corr * 1000000000000 / 2 ^ 34 - s.smearPpt
    let s := { s with time := { s.time with
      inc := inc, incWritten := none, steered := steered, second := some s.legalS,
      smearDone := s.time.smearDone + s.smearPpt,
      cross := ((s.time.air, s.time.legalNs, inc) :: s.time.cross).take 3600 } }
    let s := s.count { name := .timeSeconds, a := s.time.st.code }
    let s := s.falsetickers.select
    let s := match s.time.selected with
      | some i =>
        let th := (s.ref i).offset + (if s.time.smearing.isSome then s.time.smearDone / 1000 else 0)
        let u := th * 1000 + s.time.steered
        let hist := (u :: s.time.hist).take 65
        { s with time := { s.time with
          theta := th, hist := hist, freqPpt := freqOf (s.rd Rec.TimePolicy.MaxSlewPpm * 1000000) hist } }
      | none => s
    if s.time.st ≠ .partner ∧ !s.time.claimedSinceBoot ∧ s.time.selected.isSome ∧
        s.rd Rec.TimePolicy.StepThresholdMs * 1000000 < s.time.theta.natAbs then
      { s with time := { s.time with pendingStep := some (-s.time.theta, 0), theta := 0 } }
    else
      let s := s.lockStep
      (if s.time.st = .partner then (if s.exchangeLive then s.followPartner else s.leavePartner)
        else { s with time := { s.time with incWritten := some (incFor (s.servoPpt + s.smearPpt)) } }))) ∧
  -- A PTP or NTP exchange yields an offset sample from its four stamps in ns of legal time; a reference that is off or is
  -- a PPS reference takes none. For NTP `t1` is this chip's transmission, `t2` and `t3` the server's receipt and
  -- transmission, and `t4` this chip's receipt (RFC 5905); for PTP `t1` is the master's Sync, `t2` its receipt here, `t3`
  -- the delay request sent here and `t4` its receipt by the master (IEEE 1588). A leap indicator announces a leap second,
  -- or withdraws the same reference's announcement whose smear has not started (R483). `leap` is 1, −1 or 0 and `leapDay`
  -- the UTC day that carries it. (Log entry 177: PRESUMED.)
  (∀ (ref t1 t2 t3 t4 : Nat) (leap : Int) (leapDay : Nat) (s : State), Machine.exec (.timeSample ref t1 t2 t3 t4 leap leapDay) s = .next (
    let kind := s.rd Rec.TimeRef.Kind ref
    if 8 ≤ ref ∨ kind < 2 then (s.count { name := .timeRejected, a := ref })
    else
      let x := if kind = 3 then fourStamp t1 t2 t3 t4 else fourStamp t3 t4 t1 t2
      let s := s.sample ref x.1 (if kind = 3 then x.2 else x.2 / 2)
      let named := s.time.selected = some ref ∨ kind = 3
      if ¬named ∨ s.time.smearing ≠ none then s
      else if leap ≠ 0 then { s with time := { s.time with leap := some (leapDay, leap), leapFrom := some ref } }
      else if s.time.leapFrom = some ref then { s with time := { s.time with leap := none, leapFrom := none } }
      else s)) ∧
  -- A TPPS edge, captured at a legal time in ns, is labelled with the nearest whole second; it is rejected while |θ|
  -- exceeds 0.4 s (R488).
  (∀ (at' : Nat) (s : State), Machine.exec (.ppsEdge at') s = .next (
    let label := (at' + 500000000) / 1000000000 * 1000000000
    let offset := (at' : Int) - label
    (((List.range 8).filter fun i => s.rd Rec.TimeRef.Kind i == 1).foldl (fun s i =>
      if 400000000 < s.time.theta.natAbs then s.count { name := .timeRejected, a := i } else s.sample i offset 0) s))) ∧
  -- Every 125 ms a standby with an active partner exchanges time with it (R492): it is in PARTNER, and raises
  -- `time.partner_offset` beyond 1 µs. `t1` to `t4` are the port stamps in ns of legal time of this chip's message sent,
  -- received by the partner, the answer sent, and received here; `a1` to `a4` the same instants in air time. The first
  -- exchange after a boot seeds both clocks (R485, R494); later ones trim the air increment, and the legal increment
  -- follows at the next whole second. (Log entry 140: DESIGN CHOICE.)
  (∀ (t1 t2 t3 t4 a1 a2 a3 a4 : Nat) (s : State), Machine.exec (.partnerTimeExchange t1 t2 t3 t4 a1 a2 a3 a4) s = .next (
    if !s.exchangeLive then s
    else
      let legal := (fourStamp t1 t2 t3 t4).1
      let air := (fourStamp a1 a2 a3 a4).1
      let s := (s.count { name := .timeExchanges }).setTime .partner
      let s := if s.time.airSeeded then
          let trim := clampAbs 100000000 (s.time.airTrim + air * 1000)
          { s with time := { s.time with partnerOffset := some legal, airTrim := trim, airInc := airIncFor (trim + air * 4000) } }
        else { s with time := { s.time with
          partnerOffset := some legal, legalNs := ((s.time.legalNs : Int) - legal).toNat, air := ((s.time.air : Int) - air).toNat,
          airSeeded := true } }
      (if 1000 < legal.natAbs then s.raise .timePartnerOffset 0 [slotOf legal] else s))) ∧
  -- HoldoverS passes in HOLDOVER and legal time enters FREE (R491).
  (∀ (s : State), Machine.exec (.holdoverTimeout) s = .next (
    if s.time.st = .holdover ∧ s.time.holdoverMs + 1000 * s.rd Rec.TimePolicy.HoldoverS ≤ s.time.ms then
      (s.setTime .free)
    else s)) ∧
  -- A leap smear starts at the first instant of the UTC day that carries the leap and ends with that day (R483).
  (∀ (s : State), Machine.exec (.leapSmear) s = .next (
    let day := s.legalS / 86400
    match s.time.smearing, s.time.leap with
    | some g, _ =>
      if s.time.smearDay < day then
        let d := s.time.smearDay
        (({ s with time := { s.time with smearing := none, leap := none, smearDone := 0 } }).raise .timeLeap 0
          [slotOf g, d, 1])
      else s
    | none, some (d, g) =>
      if day = d then
        (({ s with time := { s.time with smearing := some g, smearDone := 0, smearDay := d } }).raise .timeLeap 0
          [slotOf g, d, 0])
      else s
    | none, none => s)) ∧
  -- PAIR_WAIT_EXPIRY: PairWaitS has passed at boot without a heartbeat: the chip starts alone where it is witnessed,
  -- becomes NOT_READY where the partner's claim is seen live, and goes on waiting with too few witness lanes (R550). (Log
  -- entry 114: DEDUCED.)
  (∀ (s : State), Machine.exec (.pairWaitExpiry) s = .next (
    match s.pair.waitEndMs with
    | none => s
    | some t =>
      if s.pair.st ≠ .booting ∨ s.pow.stage ≠ 8 ∨ s.time.ms < t ∨ s.pair.claimDue.isSome then s
      else if s.partnerSeen.isSome then s.linkLost
      else if s.witnessed ∧ ¬(s.pair.conflict ∧ s.ports.partner0.link) then
        { s with pair := { s.pair with claimDue := some 2, claimMs := s.time.ms } }
      else s)) ∧
  -- PARTNER_LOSS: PartnerLossMs without a valid heartbeat. (Log entry 113: DEDUCED.)
  (∀ (s : State), Machine.exec (.partnerLoss) s = .next (
    match s.pair.partner with
    | none => s
    | some h =>
      if s.heartbeatLive then s
      else match s.pair.st with
        | .activePaired =>
          let s := s.failHandover.pairTo .activeHold
          let s := { s with pair := { s.pair with isolatedRaised := false, readySinceMs := none } }
          (s.raise .pairPartnerLost 0 [h.stamp])
        | .ready =>
          if s.pair.claimDue.isSome then s
          else if s.witnessed ∧ ¬(s.pair.conflict ∧ s.ports.partner0.link) then
            { s with pair := { s.pair with claimDue := some 0, claimMs := h.atMs } }
          else s.linkLost
        | .syncing => (if s.pair.claimDue.isSome then s else s.standBy .notReady)
        | _ => s)) ∧
  -- SOLO_GUARD_EXPIRY: the guard has passed since the last heartbeat: witnessed, the active goes on alone; otherwise it
  -- stays in ACTIVE_HOLD and says so once.
  (∀ (s : State), Machine.exec (.soloGuardExpiry) s = .next (
    match s.pair.st, s.pair.partner with
    | .activeHold, some h =>
      if s.time.ms < h.atMs + s.rd Rec.Pair.PartnerLossMs + s.rd Rec.Pair.SoloGuardMs then s
      else if s.rd Rec.Pair.WitnessMin = 0 ∨ s.ownWitnessed then (s.goSolo 0)
      else if s.pair.isolatedRaised then s
      else (({ s with pair := { s.pair with isolatedRaised := true } }).raise .pairIsolated 0 [s.witnessLanes.length])
    | _, _ => s)) ∧
  -- PARTNER_YIELD: a serving chip with a ready partner yields (R558).
  (∀ (s : State), Machine.exec (.partnerYield) s = .next (
    if s.serving ∧ s.readyPartner ∧ s.pow.resetAfterSave.isNone then s.yieldService else s)) ∧
  -- CLAIM_START: a decided start of service begins. A takeover ends a roll (R590). (Log entry 112: DESIGN CHOICE.)
  (∀ (s : State), Machine.exec (.claimStart) s = .next (
    match s.pair.claimDue with
    | none => s
    | some cause =>
      match s.nextEpoch with
      | none => s.epochExhausted
      | some e =>
        let s := (s.raiseClaim cause e).restoreDomains (cause = 2)
        let s := if s.pow.stage = 8 then s.nextStage 9 else s
        if cause < 2 then
          (((s.count { name := .pairTakeovers }).raise .pairTakeoverStarted 0 [cause, e, s.pair.takeoverPos]).endRoll 2)
        else s)) ∧
  -- TAKEOVER_DONE: the restore completes. `gaps` are the meters unreadable in both generations, `older` says that the
  -- older generation had to be read (R559, R560). A boot's start of service is no takeover. (Log entry 112: DESIGN
  -- CHOICE.)
  (∀ (older : Nat) (gaps : List Nat) (s : State), Machine.exec (.takeoverDone older gaps) s = .next (
    if s.pair.st ≠ .takingOver then s
    else
      let g := s.restoreGen (decide (older ≠ 0))
      let bytes := s.replayed g
      let bad := (gaps.filter fun n => (s.meter n).active).eraseDups
      let s := bad.foldl (fun s n => s.rebuildMeter n) s.enterService
      let s := if s.pair.claimCause = 3 then s.finishForced else s
      let s := if s.pair.claimCause = 4 then s.raise .pairTakeback 0 [s.time.ms - s.pair.claimMs, s.pair.takeoverPos] else s
      let s := if s.pair.claimCause = 4 ∧ s.upd.roll.isSome then s.setRoll 4 else s
      if s.pair.claimCause = 2 then s
      else (s.raise .pairTakeoverDone 0 [s.time.ms - s.pair.claimMs, slotOpt (g.map Generation.gen), bytes, bad.length]))) ∧
  -- READY_CHANGE: the conditions of READY come to hold or fail at a standby. Where the heartbeat or the link is gone, R557
  -- decides. (Log entry 113: DEDUCED.)
  (∀ (s : State), Machine.exec (.readyChange) s = .next (
    let codes := s.failingCodes
    let epoch := (s.pair.partner.map Heartbeat.epoch).getD 0
    match s.pair.st with
    | .syncing => (if codes.isEmpty then (s.pairTo .ready).raise .pairReady 0 [epoch, s.lastPos] else s)
    | .ready =>
      if codes.isEmpty ∨ s.pair.claimDue.isSome ∨ ¬s.heartbeatLive ∨ ¬s.ports.partner0.link then s else ((s.standBy .syncing).raise .pairNotReady 0 (codes.length :: codes))
    | _ => s)) ∧
  -- CATCH_UP_DONE: the partner has acknowledged the newest entry, and the other conditions hold as the active sees them:
  -- entries from here on wait for it (R561).
  (∀ (s : State), Machine.exec (.catchUpDone) s = .next (
    match s.pair.st, s.pair.partner with
    | .activeSolo, some h =>
      let gen := (s.store.generations.any fun (g : Generation) => g.epoch == s.pair.epoch && s.pair.partnerGenerations.contains g.gen)
      if s.pair.streaming ∧ s.heartbeatLive ∧ s.lastPos ≤ s.pair.ackedPos ∧ gen ∧ (s.matchCodes h).isEmpty ∧
          (h.state = .syncing ∨ h.state = .ready) then (s.pairTo .activePaired)
      else s
    | _, _ => s)) ∧
  -- TAKEBACK_DUE: the preferred chip has been READY for TakeBackHoldS without a break.
  (∀ (s : State), Machine.exec (.takebackDue) s = .next (
    match s.pair.st, s.pair.readySinceMs with
    | .activePaired, some t =>
      if s.rdB Rec.Pair.TakeBack ∧ s.partnerPreferred ∧ s.readyPartner ∧ t + 1000 * s.rd Rec.Pair.TakeBackHoldS ≤ s.time.ms ∧
          s.pair.noTakeBackUntil ≤ s.time.ms ∧ s.pair.handoverStep = 0 then s.startHandover
      else s
    | _, _ => s)) ∧
  -- HANDOVER: the active's handover moves on: its checkpoint counts at the partner; the partner, which has loaded it, lags
  -- by at most 50 ms of entries, and admission stops; and the final Position is sent once every entry is acknowledged.
  (∀ (s : State), Machine.exec (.handover) s = .next (
    match s.pair.handoverStep with
    | 1 => (if s.pair.partnerGenerations.contains s.pair.handoverGen then { s with pair := { s.pair with handoverStep := 2 } } else s)
    | 2 =>
      if !s.lagFits ∨ s.pair.st ≠ .activePaired then s
      else
        let s := s.pairTo .handingOver
        let s := { s with pair := { s.pair with handoverStep := 3, handoverMs := s.time.ms, pfSent := false } }
        s.sendFinal
    | 3 => s.sendFinal
    | _ => s)) ∧
  -- HANDOVER_TIMEOUT: 2 s after step 3 the partner does not serve.
  (∀ (s : State), Machine.exec (.handoverTimeout) s = .next (
    if s.pair.st = .handingOver ∧ s.pair.handoverMs + 2000 ≤ s.time.ms then s.failHandover else s)) ∧
  -- DIGEST_HOLD_EXPIRY: a domain's digests have been unequal for DigestHoldS.
  (∀ (neighbour domain : Nat) (s : State), Machine.exec (.digestHoldExpiry neighbour domain) s = .next (
    let x := s.agreement neighbour
    match Map.get? x.since domain, s.neighbourOf neighbour with
    | some t, some h =>
      if x.raised.contains domain ∨ s.time.ms < t + 1000 * s.rd Rec.UpdatePolicy.DigestHoldS then s
      else
        let s := (s.setAgreement neighbour { x with raised := x.raised ++ [domain] }).count { name := .updMismatch, a := domain }
        (s.raise .configMismatch 0 ([domain, neighbour] ++ bytesSlots (s.domainDigest domain) ++ bytesSlots (h.domainDigest domain)))
    | _, _ => s)) ∧
  -- IMAGE_RECEIVED.
  (∀ (port : Nat) (container : List Byte) (s : State), Machine.exec (.imageReceived port container) s = .next (
    (s.imageArrived port container))) ∧
  -- TRIAL_CONFIRM: the chip has been READY or serving for ConfirmS.
  (∀ (s : State), Machine.exec (.trialConfirm) s = .next (
    match s.upd.trial with
    | some { mask := m, sinceMs := some t } =>
      if s.rdB Rec.UpdatePolicy.AutoConfirm ∧ t + 1000 * s.rd Rec.UpdatePolicy.ConfirmS ≤ s.time.ms then (s.confirmTrial m) else s
    | _ => s)) ∧
  -- ROLL_STEP_DONE: the roll moves to its next step, or ends; a standby that has become READY activates, and one that has
  -- confirmed in step 6 is done. (Log entry 127: DESIGN CHOICE.)
  (∀ (s : State), Machine.exec (.rollStepDone) s = .next (
    match s.upd.roll with
    | none => s
    | some r =>
      if s.journals then (s.rollServing r)
      else if 5 ≤ r.step ∧ r.acted ∧ s.pair.st = .ready ∧ s.upd.trial.isNone ∧ s.upd.bootOther = 0 then (s.endRoll 0)
      else s.rollActivate)) ∧
  -- CHAIN_LINK_LOSS: ChainLossMs without a heartbeat on a port 1 that has carried one since boot.
  (∀ (s : State), Machine.exec (.chainLinkLoss) s = .next (
    match s.pair.neighbour with
    | none => s
    | some h =>
      if s.upd.chainLost ∨ s.time.ms < h.atMs + s.rd Rec.UpdatePolicy.ChainLossMs then s
      else (({ s with upd := { s.upd with chainLost := true } }).raise .updateChainLink 0 [1, 0]))) ∧
  -- HEAD_CAMPAIGN_STEP: only the chip that holds the claim sends. (Log entry 125: DESIGN CHOICE.)
  (∀ (campaign lane : Nat) (s : State), Machine.exec (.headCampaignStep campaign lane) s = .next (
    match s.campaign campaign with
    | none => s
    | some c =>
      match Map.get? c.heads lane, s.libraryImage 2 c.digest with
      | some h, some i => if c.kind = 2 ∧ !c.done ∧ s.serving then (s.headStep c lane h i) else s
      | _, _ => s)) ∧
  -- METER_CAMPAIGN_ROUND: after the planned rounds a repair round runs, or the campaign is completed. (Log entry 126:
  -- DESIGN CHOICE.)
  (∀ (campaign : Nat) (s : State), Machine.exec (.meterCampaignRound campaign) s = .next (
    match s.campaign campaign with
    | none => s
    | some c =>
      let ended : Bool := match s.stream c.stream with
        | some x => decide (x.rounds ≤ x.round)
        | none => true
      let recent : Bool := match Map.get? s.fl.lastMs c.stream with
        | some t => decide (s.time.ms < t + s.rd Rec.FloodSchedule.CacheAgeH * hourMs)
        | none => false
      let spent := decide (s.rd Rec.UpdatePolicy.RepairRounds ≤ c.repairs) || !recent
      if c.kind ≠ 3 ∨ c.done ∨ ¬s.serving ∨ ¬ended then s
      else if s.campaignAnswered c then (s.endCampaign campaign)
      else if spent then (s.endCampaign campaign)
      else match s.repairFrom c, s.stream c.stream with
        | some from', some x =>
            let s := s.modCampaign campaign fun c => { c with repairs := c.repairs + 1 }
            (s.modStream c.stream fun y => { y with rounds := x.round + 1, block := min from' x.lastBlock, st := .started })
        | some _, none => (s.endCampaign campaign)
        | none, _ => s)) ∧
  -- Every 1 ms both channels of every enabled input are sampled (R597): bit 2i of `levels` is channel A of input i, bit 2i
  -- + 1 channel B, 1 where it carries current.
  (∀ (levels : Nat) (s : State), Machine.exec (.lockoutSample levels) s = .next (
    (((List.range 16).filter s.lockEnabled).foldl (fun s i => s.sampleLock i (bitOn levels (2 * i)) (bitOn levels (2 * i + 1))) s))) ∧
  -- DiscrepancyMs passes in DISCREPANT (R598).
  (∀ (input : Nat) (s : State), Machine.exec (.lockoutDiscrepancyTimeout input) s = .next (
    let x := s.lockout input
    (if s.lockEnabled input ∧ x.seen ∧ x.st = .discrepant then s.advanceLock input else s))) ∧
  -- The release timer of an input expires: it stops holding (R600).
  (∀ (input : Nat) (s : State), Machine.exec (.releaseHoldEnd input) s = .next (
    let x := s.lockout input
    (match x.holdEndMs with
      | some e => if e ≤ s.time.ms then s.setLockout input { x with holdEndMs := none } else s
      | none => s))) ∧
  -- Deadline passes without an accepted response (R609).
  (∀ (slot : Nat) (s : State), Machine.exec (.safeDeadline slot) s = .next (
    match (s.safeMeter slot).out with
    | some c =>
      if c.deadline < s.stamp then
        (((s.endSafe slot 2).raise .safeCommandExpired (s.meterTenant slot) [slot, c.kind, c.seq, c.sends]).carry (.meter slot))
      else s
    | none => s)) ∧
  -- PARTNER_MESSAGE_RECEIVED: one frame, its header, body and tag; one of no Type of Table 25-5 is dropped. (Log entry 95:
  -- DESIGN CHOICE.) (Log entry 129: DESIGN CHOICE.)
  (∀ (port : Nat) (frame : List Byte) (s : State), Machine.exec (.partnerMessageReceived port frame) s = .next (
    let h := PartnerHead.ofBytes frame
    if 1 < port ∨ ¬(s.partnerPort port).link ∨ h.type = 0 ∨ 13 < h.type then s
    else if !s.acceptsMessage port frame then (s.refuseMessage port)
    else
      let s := s.setPartnerPort port { s.partnerPort port with seqs := Map.put (s.partnerPort port).seqs h.sender h.seq }
      let s := s.count { name := .partnerIn, a := port, b := h.type }
      (s.takeFragment port h (slice frame 32 h.length)))) ∧
  -- HEARTBEAT_SEND.
  (∀ (s : State), Machine.exec (.heartbeatSend) s = .next (
    ((s.beat 0).beat 1))) ∧
  -- ROLL_READY_TIMEOUT: 300 s after its activation the standby is not READY.
  (∀ (s : State), Machine.exec (.rollReadyTimeout) s = .next (
    match s.upd.roll with
    | some r => if r.step = 2 ∧ s.journals ∧ ¬s.readyPartner ∧ r.sinceMs + 300000 ≤ s.time.ms then (s.endRoll 1) else s
    | none => s))

/-- The commands of chapters 6 and 8 that act on the air run. From an open session of the role each command asks for, on the
states each clause names: POLL_NOW makes a poll of the meter due, and adds its request to one that waits; MODEL_RESET forgets
the meter's timing; LAUNCH_CANCEL withdraws an unlocked launch and answers its charge; TX_TEST queues a locked-later test
carrier; CONTEXT_ABORT ends a context, or what it holds; LISTEN books one that opens at its time, or at once. Each answers a
next state; where a clause ends in a frame, every part of State that it does not name is as it was. The choices of the model
that the clauses rest on are in log entries 34, 35, 47, 168. -/
def Obligations.AirCommandsComplete : Prop :=
  (∀ (s : State) (ch : Nat) (r : Request) (c : Caller) (slot request priority : Nat),
    Claims.Asked s ch .airPollNow r c →
    c.isOperator = true →
    c.slots 3 = true →
    request ≤ 0x1F →
    priority ≤ 3 →
    isMeterSlot slot = true →
    s.meterHere slot = true →
    s.planned slot = true →
    s.isReleasing (s.meterTenant slot) = false →
    (s.plan slot).poll = none →
    Machine.exec (.airPollNow ch slot request priority) s = .next ((((s.setPlan slot { s.plan slot with poll := some { due := s.legalS, request := request, priority := priority, commanded := true } }).journalPlan slot [0, s.legalS]).carry (.meter slot)).respond ch r { status := .deferred })) ∧
  (∀ (s : State) (ch : Nat) (r : Request) (c : Caller) (slot request priority : Nat) (q : PendPoll),
    Claims.Asked s ch .airPollNow r c →
    c.isOperator = true →
    c.slots 3 = true →
    request ≤ 0x1F →
    priority ≤ 3 →
    isMeterSlot slot = true →
    s.meterHere slot = true →
    s.planned slot = true →
    s.isReleasing (s.meterTenant slot) = false →
    (s.plan slot).poll = some q →
    Machine.exec (.airPollNow ch slot request priority) s = .next ((((s.setPlan slot { s.plan slot with poll := some { q with request := q.request ||| request, priority := min q.priority priority, commanded := true } }).journalPlan slot [0, q.due]).carry (.meter slot)).respond ch r { status := .deferred })) ∧
  (∀ (s : State) (ch : Nat) (r : Request) (c : Caller) (slot : Nat),
    Claims.Asked s ch .airModelReset r c →
    c.isOperator = true →
    c.slots 1 = true →
    isMeterSlot slot = true →
    s.meterHere slot = true →
    s.planned slot = true →
    s.isReleasing (s.meterTenant slot) = false →
    Machine.exec (.airModelReset ch slot) s = .next ((((s.setPlan slot { s.plan slot with st := s.unsyncedState slot, obs := [], ref := none, rejects := 0, misses := 0 }).journalPlan slot [4]).carry (.meter slot)).respond ch r { status := .done })) ∧
  (∀ (s : State) (ch : Nat) (r : Request) (c : Caller) (head band start : Nat) (x : Launch),
    Claims.Asked s ch .airLaunchCancel r c →
    c.isService = true →
    c.slots 3 = true →
    isLane head = true →
    s.laneHere head = true →
    band < 32 →
    s.air.queue.find? (fun e => e.head == head && e.band == band && e.start == start) = some x →
    s.air.queue.any (fun y => y.gid == x.gid && y.locked) = false →
    x.source ≠ .poll ∨ x.meter = none →
    Machine.exec (.airLaunchCancel ch head band start) s = .next (((s.withdrawLaunch x).carryLaunch x).respond ch r { status := .done, slots := [x.charge] })) ∧
  (∀ (s : State) (ch : Nat) (r : Request) (c : Caller) (head band start m : Nat) (x : Launch),
    Claims.Asked s ch .airLaunchCancel r c →
    c.isService = true →
    c.slots 3 = true →
    isLane head = true →
    s.laneHere head = true →
    band < 32 →
    s.air.queue.find? (fun e => e.head == head && e.band == band && e.start == start) = some x →
    s.air.queue.any (fun y => y.gid == x.gid && y.locked) = false →
    x.source = .poll →
    x.meter = some m →
    Machine.exec (.airLaunchCancel ch head band start) s = .next (((s.cancelPoll m .queue).carryLaunch x).respond ch r { status := .done, slots := [x.charge] })) ∧
  (∀ (s : State) (ch : Nat) (r : Request) (c : Caller) (head band start : Nat) (x : Launch),
    Claims.Asked s ch .airLaunchCancel r c →
    c.isService = true →
    c.slots 3 = true →
    isLane head = true →
    s.laneHere head = true →
    band < 32 →
    s.air.queue.find? (fun e => e.head == head && e.band == band && e.start == start) = some x →
    s.air.queue.any (fun y => y.gid == x.gid && y.locked) = true →
    Machine.exec (.airLaunchCancel ch head band start) s = .next ((s).respond ch r { status := .launchLocked })) ∧
  (∀ (s : State) (ch : Nat) (r : Request) (c : Caller) (head antenna band carrier ms : Nat),
    Claims.Asked s ch .airTxTest r c →
    c.isService = true →
    c.slots 5 = true →
    head < 64 →
    antenna < 8 →
    band < 32 →
    1 ≤ ms →
    ms ≤ 1000 →
    s.laneHere head = true →
    s.rdB Rec.HeadAir.TxEnable head = true →
    bitOn (s.rd Rec.HeadAir.TxAntennaMask head) antenna = true →
    s.bandHolds band carrier 0 = true →
    s.refusal head antenna band (s.time.air + s.rd Rec.AirPolicy.PlanLeadMs * airPerMs) (ms * airPerMs) ms 0 = none →
    s.serving = true →
    ∃ t, Machine.exec (.airTxTest ch head antenna band carrier ms) s = .next t ∧ Claims.Answered ch r { status := .deferred } t ∧
      ((t.air.queue = s.air.queue ++ [{ id := s.air.nextId, gid := s.air.nextId, head := head, band := band, antenna := antenna, carrier := carrier, start := s.time.air + s.rd Rec.AirPolicy.PlanLeadMs * airPerMs, span := ms * airPerMs, amp := s.txAmp head antenna band, charge := ms, source := .test, position := t.newestPos }])) ∧
      (t.air.nextId = s.air.nextId + 1) ∧
      (t.records = s.records)) ∧
  (∀ (s : State) (ch : Nat) (r : Request) (c : Caller) (ctx : Nat) (x : RxCtx),
    Claims.Asked s ch .rxContextAbort r c →
    c.isOperator = true →
    c.slots 1 = true →
    ctx < 4096 →
    s.ctx ctx = some x →
    x.held = none →
    x.st ≠ .stopping →
    Machine.exec (.rxContextAbort ch ctx) s = .next ((s.setOutcome ctx x 5 [] false none).respond ch r { status := .done })) ∧
  (∀ (s : State) (ch : Nat) (r : Request) (c : Caller) (ctx : Nat) (x : RxCtx),
    Claims.Asked s ch .rxContextAbort r c →
    c.isOperator = true →
    c.slots 1 = true →
    ctx < 4096 →
    s.ctx ctx = some x →
    x.held.isSome = true →
    Machine.exec (.rxContextAbort ch ctx) s = .next ((s.abortHeld ctx).respond ch r { status := .done })) ∧
  (∀ (s : State) (ch : Nat) (r : Request) (c : Caller) (group mode headMask start window maxFrameMs : Nat) (b : Booking),
    Claims.Asked s ch .rxListen r c →
    c.isService = true →
    c.slots 6 = true →
    group < 1024 →
    headMask < 256 →
    1 ≤ window →
    window ≤ 60000 →
    1 ≤ maxFrameMs →
    maxFrameMs ≤ 2000 →
    modeOk mode = true →
    s.time.air ≤ start →
    start ≠ 0 →
    s.groupValid group ≠ [] →
    b = ⟨0xFFFFFFFF, group, headMask, mode, start, start + window * airPerMs, maxFrameMs, 0, 0, 0⟩ →
    b.inRange = true →
    s.rxReady = true →
    s.bookingBound b = none →
    ∃ t, Machine.exec (.rxListen ch group mode headMask start window maxFrameMs) s = .next t ∧ Claims.Answered ch r { status := .deferred } t ∧
      (t.rx = { s.rx with booked := s.rx.booked ++ [{ id := s.rx.nextId, b := b, listen := true, pol := s.rxPol mode, count := (s.bookingBranches b).length }], nextId := s.rx.nextId + 1 }) ∧
      Claims.Counted { name := .rxBookings, a := group } 1 s t ∧
      Claims.Frame [.rx, .mail, .ctrs] s t) ∧
  (∀ (s : State) (ch : Nat) (r : Request) (c : Caller) (group mode headMask window maxFrameMs : Nat) (b : Booking),
    Claims.Asked s ch .rxListen r c →
    c.isService = true →
    c.slots 6 = true →
    group < 1024 →
    headMask < 256 →
    1 ≤ window →
    window ≤ 60000 →
    1 ≤ maxFrameMs →
    maxFrameMs ≤ 2000 →
    modeOk mode = true →
    s.groupValid group ≠ [] →
    b = ⟨0xFFFFFFFF, group, headMask, mode, s.time.air, s.time.air + window * airPerMs, maxFrameMs, 0, 0, 0⟩ →
    b.inRange = true →
    s.rxReady = true →
    s.bookingBound b = none →
    s.rx.booked = [] →
    Machine.exec (.rxListen ch group mode headMask 0 window maxFrameMs) s = .next (((({ s with rx := { s.rx with booked := [{ id := s.rx.nextId, b := b, listen := true, pol := s.rxPol mode, count := (s.bookingBranches b).length }], nextId := s.rx.nextId + 1 } } : State).count { name := .rxBookings, a := group }).openDue { id := s.rx.nextId, b := b, listen := true, pol := s.rxPol mode, count := (s.bookingBranches b).length }).respond ch r { status := .deferred }))

/-- The filter and lane commands run. DC_ENABLE and DC_DISABLE start and stop a block, DC_FREEZE freezes it and lets it go,
DC_READ answers its state; LANE.ENABLE and DISABLE start and stop a lane; CAPTURE_START takes a capture in, STOP stops one
that is active and DELETE gives its space back; HEAD_CONTROL sends a control message to the head and LANE.TEST starts a test,
and both answer later. Each answers a next state; where a clause ends in a frame, every part of State that it does not name
is as it was. The choices of the model that the clauses rest on are in log entry 31. -/
def Obligations.FilterCommandsComplete : Prop :=
  (∀ (s : State) (ch : Nat) (r : Request) (c : Caller) (target : Nat),
    Claims.Asked s ch .filtDcEnable r c →
    c.isOperator = true →
    c.slots 1 = true →
    s.dcAbsent target = none →
    s.dcChainOn target = true →
    (s.unit (.dcBlock target)).fenced = false →
    s.unitSt (.dcBlock target) = .off →
    ∃ t, Machine.exec (.filtDcEnable ch target) s = .next t ∧ (t.unitSt (.dcBlock target) = .starting) ∧
      ((t.dcOf target) = { s.dcOf target with reason := 0 }) ∧
      Claims.Answered ch r { status := .done } t ∧
      Claims.Frame [.filt, .arch, .mail] s t) ∧
  (∀ (s : State) (ch : Nat) (r : Request) (c : Caller) (target : Nat),
    Claims.Asked s ch .filtDcDisable r c →
    c.isOperator = true →
    c.slots 1 = true →
    s.dcAbsent target = none →
    (s.unit (.dcBlock target)).fenced = false →
    s.unitSt (.dcBlock target) = .on →
    ∃ t, Machine.exec (.filtDcDisable ch target) s = .next t ∧ (t.unitSt (.dcBlock target) = .stopping false) ∧
      ((t.unit (.dcBlock target)).stopAt = s.time.ms) ∧
      Claims.Answered ch r { status := .done } t ∧
      Claims.Frame [.arch, .mail] s t) ∧
  (∀ (s : State) (ch : Nat) (r : Request) (c : Caller) (target : Nat),
    Claims.Asked s ch .filtDcFreeze r c →
    c.isOperator = true →
    c.slots 2 = true →
    s.dcAbsent target = none →
    s.unitSt (.dcBlock target) = .on →
    (s.dcOf target).frozen = none →
    ∃ t, Machine.exec (.filtDcFreeze ch target 1) s = .next t ∧ (t.dcOf target = { s.dcOf target with cmdFreeze := true, longRaised := false, frozen := some (s.time.ms, s.stamp) }) ∧
      Claims.Answered ch r { status := .done } t ∧
      Claims.Frame [.filt, .mail] s t) ∧
  (∀ (s : State) (ch : Nat) (r : Request) (c : Caller) (target : Nat),
    Claims.Asked s ch .filtDcFreeze r c →
    c.isOperator = true →
    c.slots 2 = true →
    s.dcAbsent target = none →
    s.unitSt (.dcBlock target) = .on →
    (s.dcOf target).autoFrozen = false →
    ∃ t, Machine.exec (.filtDcFreeze ch target 0) s = .next t ∧ (t.dcOf target = { s.dcOf target with cmdFreeze := false, longRaised := false, frozen := none }) ∧
      Claims.Answered ch r { status := .done } t ∧
      Claims.Frame [.filt, .mail] s t) ∧
  (∀ (s : State) (ch : Nat) (r : Request) (c : Caller) (target : Nat),
    Claims.Asked s ch .filtDcFreeze r c →
    c.isOperator = true →
    c.slots 2 = true →
    s.dcAbsent target = none →
    s.unitSt (.dcBlock target) = .starting →
    Machine.exec (.filtDcFreeze ch target 0) s = .next ((s.setDc target { s.dcOf target with cmdFreeze := false }).respond ch r { status := .done })) ∧
  (∀ (s : State) (ch : Nat) (r : Request) (c : Caller) (target : Nat),
    Claims.Asked s ch .filtDcRead r c →
    c.isObserver = true →
    c.slots 1 = true →
    s.dcAbsent target = none →
    target < 2 ^ 30 →
    Machine.exec (.filtDcRead ch target) s = .next ((s).respond ch r { status := .done, slots := [(s.unitSt (.dcBlock target)).code, (s.dcOf target).est.length] ++ (s.dcOf target).est.flatMap (fun e => [slotOf e.2.re, slotOf e.2.im]) ++ [bit (s.dcOf target).cmdFreeze, bit (s.dcAutoFrozen target), slotOpt ((s.dcOf target).frozen.map Prod.snd)] })) ∧
  (∀ (s : State) (ch : Nat) (r : Request) (c : Caller) (lane : Nat),
    Claims.Asked s ch .laneEnable r c →
    c.isOperator = true →
    c.slots 1 = true →
    s.laneHere lane = true →
    (s.lane lane).test = none →
    (s.unit (.lane lane)).fenced = false →
    s.unitSt (.lane lane) = .off →
    s.lineMode lane = false →
    ∃ t, Machine.exec (.laneEnable ch lane) s = .next t ∧ (t.unitSt (.lane lane) = .starting) ∧
      Claims.Answered ch r { status := .done } t ∧
      (t.records = s.records)) ∧
  (∀ (s : State) (ch : Nat) (r : Request) (c : Caller) (lane : Nat),
    Claims.Asked s ch .laneDisable r c →
    c.isOperator = true →
    c.slots 1 = true →
    s.laneHere lane = true →
    (Map.getD s.arch.regions (lane / 16) {}).lanes.contains lane = false →
    (s.unit (.lane lane)).fenced = false →
    s.unitSt (.lane lane) = .on →
    Machine.exec (.laneDisable ch lane) s = .next ((s.setUnit (.lane lane) { s.unit (.lane lane) with st := .stopping false, stopAt := s.time.ms }).respond ch r { status := .done })) ∧
  (∀ (s : State) (ch : Nat) (r : Request) (c : Caller) (lane mask sub instant duration : Nat),
    Claims.Asked s ch .filtCaptureStart r c →
    c.isService = true →
    c.slots 7 = true →
    mask < 256 →
    mask ≠ 0 →
    1 ≤ duration →
    duration ≤ 60000000 →
    s.laneHere lane = true →
    s.laneOn lane = true →
    s.lineMode lane = false →
    s.filt.captures = [] →
    s.captureRate 0 mask sub ≤ 40000000000 * 4096 * s.flashChannels / 16 →
    ceilDiv (s.captureRate 0 mask sub * duration) (4096 * 1000000) ≤ s.captureFree →
    Machine.exec (.filtCaptureStart ch 0 lane mask sub 1 instant duration) s = .next (({ s with filt := { s.filt with nextCapture := (s.filt.nextCapture + 1) % 2 ^ 32, captures := [{ id := s.filt.nextCapture, kind := 0, lane := lane, mask := mask, sub := sub, start := 1, at' := instant, durationUs := duration, size := ceilDiv (s.captureRate 0 mask sub * duration) (4096 * 1000000), reqStamp := s.stamp, rate := s.captureRate 0 mask sub }] } }).respond ch r { status := .deferred, slots := [s.filt.nextCapture] })) ∧
  (∀ (s : State) (ch : Nat) (r : Request) (c : Caller) (id : Nat) (x : Capture),
    Claims.Asked s ch .filtCaptureStop r c →
    c.isService = true →
    c.slots 1 = true →
    s.capture id = some x →
    x.st = .active →
    Machine.exec (.filtCaptureStop ch id) s = .next ((s.setCapture { x with st := .stopped }).respond ch r { status := .done })) ∧
  (∀ (s : State) (ch : Nat) (r : Request) (c : Caller) (id : Nat) (x : Capture),
    Claims.Asked s ch .filtCaptureDelete r c →
    c.isService = true →
    c.slots 1 = true →
    s.capture id = some x →
    x.st = .done →
    Machine.exec (.filtCaptureDelete ch id) s = .next (({ s with filt := { s.filt with captures := s.filt.captures.filter fun y => !(y.id == id) } }).respond ch r { status := .done, slots := [x.size] })) ∧
  (∀ (s : State) (ch : Nat) (r : Request) (c : Caller) (lane trib : Nat) (msg : List Byte),
    Claims.Asked s ch .laneHeadControl r c →
    c.isService = true →
    c.body.length = 24 + msg.length →
    trib ≤ 255 →
    msg.length ≤ 1024 →
    s.laneHere lane = true →
    s.laneOn lane = true →
    (s.lane lane).reqs = [] →
    Machine.exec (.laneHeadControl ch lane trib 3 msg) s = .next (s.sendControl lane 3 trib msg (.host c.ch))) ∧
  (∀ (s : State) (ch : Nat) (r : Request) (c : Caller) (lane pattern duration errors : Nat),
    Claims.Asked s ch .laneTest r c →
    c.isService = true →
    c.slots 3 = true →
    pattern ≤ 1 →
    1 ≤ duration →
    duration ≤ 5000 →
    s.laneHere lane = true →
    s.laneSt lane = .off →
    (s.lane lane).test = none →
    Machine.exec (.laneTest ch lane pattern duration errors) s = .next (s.modLane lane fun l => { l with test := some (c.ch, s.time.ms + duration) })) ∧
  (∀ (s : State) (ch : Nat) (r : Request) (c : Caller) (lane pattern duration errors n : Nat),
    Claims.Asked s ch .laneTest r c →
    c.isService = true →
    c.slots 3 = true →
    c.ch = ch →
    (s.lane lane).test = some (ch, n) →
    n ≤ s.time.ms →
    Machine.exec (.laneTest ch lane pattern duration errors) s = .next ((s.modLane lane fun l => { l with test := none }).respond ch r { status := .done, slots := [212500000 * duration, errors] }))

/-- The update commands run. STAGE_BEGIN opens a staging area under the next number, STAGE_WRITE fills it, STAGE_VERIFY takes the
image it holds; ACTIVATE orders the reset that boots the other image; CONFIRM ends a trial; IMAGE_DELETE gives a library
image's space back; PAIR_ROLL starts at step 1; a head campaign over lanes that fit and a meter campaign over a stream start.
Each answers a next state; where a clause ends in a frame, every part of State that it does not name is as it was. The
choices of the model that the clauses rest on are in log entries 52, 127. -/
def Obligations.UpdateCommandsComplete : Prop :=
  (∀ (s : State) (ch : Nat) (r : Request) (c : Caller) (header : List Byte),
    Claims.Asked s ch .updateStageBegin r c →
    s.mayStage c = true →
    c.body.length = 256 →
    header.length = 256 →
    headerComponent header < 2 →
    s.imageLocked (headerComponent header) = false →
    Machine.exec (.updateStageBegin ch header) s = .next (({ s with upd := { s.upd with staging := some { id := s.upd.nextStaging, header := header, payload := [] }, nextStaging := s.upd.nextStaging + 1 } }).respond ch r { status := .done, slots := [s.upd.nextStaging] })) ∧
  (∀ (s : State) (ch : Nat) (r : Request) (c : Caller) (id offset : Nat) (data : List Byte) (x : Staging),
    Claims.Asked s ch .updateStageWrite r c →
    s.mayStage c = true →
    c.body.length = 16 + data.length →
    data.length ≤ 262144 →
    s.upd.staging = some x →
    x.id = id →
    offset + data.length ≤ leAt x.header 36 4 →
    Machine.exec (.updateStageWrite ch id offset data) s = .next (({ s with upd := { s.upd with staging := some { x with payload := writeAt x.payload offset data } } }).respond ch r { status := .done })) ∧
  (∀ (s : State) (ch : Nat) (r : Request) (c : Caller) (id : Nat) (x : Staging),
    Claims.Asked s ch .updateStageVerify r c →
    c.slots 1 = true →
    s.mayStage c = true →
    s.upd.staging = some x →
    x.id = id →
    s.imageLocked (headerComponent x.header) = false →
    Machine.exec (.updateStageVerify ch id) s = .next (((({ s with upd := { s.upd with staging := none } }).takeImage x.header x.payload 0).2).respond ch r { status := .deferred })) ∧
  (∀ (s : State) (ch : Nat) (r : Request) (c : Caller) (mask force : Nat),
    Claims.Asked s ch .updateActivate r c →
    c.isService = true →
    c.slots 2 = true →
    0 < mask →
    mask < 4 →
    force < 2 →
    ((maskBits 2 mask).all fun k => (s.imageIn k .other).isSome) = true →
    s.pair.st ≠ .activePaired →
    s.pair.st ≠ .activeSolo ∨ force = 1 →
    s.upd.roll = none →
    s.upd.trial = none →
    s.maskFits mask = true →
    s.pow.resetAfterSave = none →
    ∃ t, Machine.exec (.updateActivate ch mask force) s = .next t ∧ Claims.Answered ch r { status := .deferred } t ∧
      (t.upd.bootOther = mask) ∧
      (t.pow.resetAfterSave = some ResetCause.activate.code) ∧
      (t.records = s.records)) ∧
  (∀ (s : State) (ch : Nat) (r : Request) (c : Caller) (x : Trial),
    Claims.Asked s ch .updateConfirm r c →
    c.isService = true →
    c.slots 0 = true →
    s.upd.trial = some x →
    Machine.exec (.updateConfirm ch) s = .next ((s.confirmTrial x.mask).respond ch r { status := .done })) ∧
  (∀ (s : State) (ch : Nat) (r : Request) (c : Caller) (digest : List Byte) (i : Image),
    Claims.Asked s ch .updateImageDelete r c →
    c.isService = true →
    c.body.length = 32 →
    (s.upd.images.find? fun (y : Image) => y.digest == digest) = some i →
    i.st = .library →
    s.imageLocked i.component = false →
    s.upd.campaigns = [] →
    Machine.exec (.updateImageDelete ch digest) s = .next (({ s with upd := { s.upd with images := s.upd.images.filter fun (y : Image) => !(y == i) } }).respond ch r { status := .done, slots := [i.container.length] })) ∧
  (∀ (s : State) (ch : Nat) (r : Request) (c : Caller),
    Claims.Asked s ch .updatePairRoll r c →
    c.isService = true →
    c.slots 0 = true →
    s.pair.st = .activePaired →
    s.readyPartner = true →
    s.upd.roll = none →
    s.upd.trial = none →
    s.rollFits = true →
    Machine.exec (.updatePairRoll ch) s = .next ((s.setRoll 1).respond ch r { status := .deferred })) ∧
  (∀ (s : State) (ch : Nat) (r : Request) (c : Caller) (digest : List Byte) (lanes lane : Nat) (i : Image) (x : HeadId),
    Claims.Asked s ch .updateHeadCampaign r c →
    c.isService = true →
    c.body.length = 40 →
    digest.length = 32 →
    s.libraryImage 2 digest = some i →
    0 < lanes →
    lanes < 2 ^ 64 →
    maskBits 64 lanes = [lane] →
    s.laneHere lane = true →
    s.laneOn lane = true →
    (s.lane lane).head = some x →
    x.fits i.model = true →
    s.serving = true →
    Machine.exec (.updateHeadCampaign ch digest lanes) s = .next ((s.addCampaign { id := s.upd.nextCampaign, kind := 2, digest := digest, heads := [(lane, {})] }).respond ch r { status := .deferred })) ∧
  (∀ (s : State) (ch : Nat) (r : Request) (c : Caller) (digest : List Byte) (stream keySlot target rounds activateAt : Nat) (i : Image) (x : Stream),
    Claims.Asked s ch .updateMeterCampaign r c →
    c.isOperator = true →
    c.body.length = 72 →
    digest.length = 32 →
    s.libraryImage 3 digest = some i →
    x = s.contentStream stream 2 0 keySlot target rounds (i.container.drop 256) →
    ((s.openChecks x).all fun k => k.1) = true →
    s.upd.reports = [] →
    Machine.exec (.updateMeterCampaign ch digest stream keySlot target rounds activateAt) s = .next (((s.openStream x).addCampaign { id := s.upd.nextCampaign, kind := 3, digest := digest, stream := stream, keySlot := keySlot, target := target, rounds := rounds, activateAt := activateAt }).respond ch r { status := .deferred }))

/-- The Ling and flood commands run. A stream that passes every check is opened and entered in the journal; a block of an opened
stream is kept; a full one is started; a stream is closed and answers how many launches it had; a meter's role is set; a time
stream is sent; a tariff plan's version is cut into a stream of content. TX_ENABLE starts a tributary's transmitter and
TX_DISABLE stops it; POLL_NOW makes a poll of a line meter due. Each answers a next state; where a clause ends in a frame,
every part of State that it does not name is as it was. The choices of the model that the clauses rest on are in log entry
52. -/
def Obligations.LingFloodCommandsComplete : Prop :=
  (∀ (s : State) (ch : Nat) (r : Request) (c : Caller) (stream kind keySlot target lastBlock segBytes priority rounds : Nat) (x : Stream),
    Claims.Asked s ch .floodStreamOpen r c →
    c.isOperator = true →
    c.slots 8 = true →
    x = { number := stream, kind := kind, tenant := 0, keySlot := keySlot, target := target, lastBlock := lastBlock, segBytes := segBytes, priority := priority, rounds := rounds } →
    ((s.openChecks x).all fun k => k.1) = true →
    Machine.exec (.floodStreamOpen ch stream kind keySlot target lastBlock segBytes priority rounds) s = .next ((s.openStream x).respond ch r { status := .done })) ∧
  (∀ (s : State) (ch : Nat) (r : Request) (c : Caller) (stream block : Nat) (bytes : List Byte) (x : Stream),
    Claims.Asked s ch .floodBlockWrite r c →
    c.isOperator = true →
    c.body.length = 16 + bytes.length →
    s.stream stream = some x →
    x.st = .opened →
    x.kind ≠ 0 →
    block < x.lastBlock →
    1 ≤ bytes.length →
    bytes.length = x.segBytes →
    Machine.exec (.floodBlockWrite ch stream block bytes) s = .next ((((s.modStream stream fun x => { x with blocks := Map.put x.blocks block bytes }).journal .flood 0 stream (.words (block :: bytes.map BitVec.toNat))).carry .floods).respond ch r { status := .done })) ∧
  (∀ (s : State) (ch : Nat) (r : Request) (c : Caller) (stream : Nat) (x : Stream),
    Claims.Asked s ch .floodStreamStart r c →
    c.isOperator = true →
    c.slots 1 = true →
    stream < 256 →
    s.stream stream = some x →
    x.st = .opened →
    x.full = true →
    Machine.exec (.floodStreamStart ch stream) s = .next ((((s.modStream stream fun x => { x with st := .started }).journal .flood 0 stream (.words [1])).carry .floods).respond ch r { status := .deferred })) ∧
  (∀ (s : State) (ch : Nat) (r : Request) (c : Caller) (stream : Nat),
    Claims.Asked s ch .floodStreamClose r c →
    c.isOperator = true →
    c.slots 1 = true →
    (s.stream stream).isSome = true →
    s.air.queue = [] →
    Machine.exec (.floodStreamClose ch stream) s = .next ((({ s with fl := { s.fl with streams := s.fl.streams.filter (fun x => x.number ≠ stream), lastMs := Map.put s.fl.lastMs stream s.time.ms } }).journal .flood 0 stream (.words [2]) |>.carry .floods |>.carry .duty).respond ch r { status := .done, slots := [0] })) ∧
  (∀ (s : State) (ch : Nat) (r : Request) (c : Caller) (slot role hop : Nat),
    Claims.Asked s ch .floodMeterSetup r c →
    c.isOperator = true →
    c.slots 3 = true →
    role ≤ 2 →
    hop ≤ 7 →
    isMeterSlot slot = true →
    s.meterHere slot = true →
    s.planned slot = true →
    s.isReleasing (s.meterTenant slot) = false →
    Machine.exec (.floodMeterSetup ch slot role hop) s = .next (((({ s with fl := { s.fl with meters := Map.put s.fl.meters slot ⟨role, hop, true, none⟩ } }).journal .flood 0 slot (.words [3, role, hop])).carry (.meter slot)).respond ch r { status := .deferred })) ∧
  (∀ (s : State) (ch : Nat) (r : Request) (c : Caller) (n : Nat),
    Claims.Asked s ch .floodTimeSend r c →
    c.isOperator = true →
    c.slots 0 = true →
    s.freeStream = some n →
    s.fl.streams.length < 64 →
    s.slotSet 0 16 = true →
    Machine.exec (.floodTimeSend ch) s = .next ((s.openStream { number := n, kind := 0, tenant := 0, keySlot := 16, target := 0xFFFFFFFFFFFFFFFF, lastBlock := 0, segBytes := 1, priority := 0, rounds := 1, st := .started }).respond ch r { status := .deferred, slots := [n] })) ∧
  (∀ (s : State) (ch : Nat) (r : Request) (c : Caller) (plan version stream keySlot target rounds : Nat) (v : PlanVersion) (x : Stream),
    Claims.Asked s ch .tariffPlanFlood r c →
    c.slots 6 = true →
    c.isOwner (s.recTenant Rec.TariffPlan.Active.rid plan) = true →
    plan < 256 →
    version < 4 →
    s.isReleasing (s.recTenant Rec.TariffPlan.Active.rid plan) = false →
    (s.planVersions plan)[version]? = some v →
    x = s.contentStream stream 1 (s.recTenant Rec.TariffPlan.Active.rid plan) keySlot target rounds (le 1 plan ++ le 7 0 ++ (le 992 v.body ++ le 32 v.tz)) →
    ((s.openChecks x).all fun k => k.1) = true →
    Machine.exec (.tariffPlanFlood ch plan version stream keySlot target rounds) s = .next ((s.openStream x).respond ch r { status := .deferred })) ∧
  (∀ (s : State) (ch : Nat) (r : Request) (c : Caller) (trib : Nat),
    Claims.Asked s ch .lingTxEnable r c →
    c.isOperator = true →
    c.slots 1 = true →
    s.lineHere = true →
    trib < s.tributaries →
    (s.unit (.lingTx trib)).fenced = false →
    s.unitSt (.lingTx trib) = .off →
    ∃ t, Machine.exec (.lingTxEnable ch trib) s = .next t ∧ (t.unitSt (.lingTx trib) = .starting) ∧
      ((t.lingTrib trib) = { s.lingTrib trib with reason := 0 }) ∧
      Claims.Answered ch r { status := .done } t ∧
      Claims.Frame [.arch, .ling, .mail] s t) ∧
  (∀ (s : State) (ch : Nat) (r : Request) (c : Caller) (trib : Nat),
    Claims.Asked s ch .lingTxDisable r c →
    c.isOperator = true →
    c.slots 1 = true →
    s.lineHere = true →
    trib < s.tributaries →
    (s.unit (.lingTx trib)).fenced = false →
    s.unitSt (.lingTx trib) = .on →
    (s.lingTrib trib).out = none →
    ∃ t, Machine.exec (.lingTxDisable ch trib) s = .next t ∧ (t.unitSt (.lingTx trib) = .stopping false) ∧
      ((t.unit (.lingTx trib)).stopAt = s.time.ms) ∧
      Claims.Answered ch r { status := .done } t ∧
      Claims.Frame [.arch, .mail] s t) ∧
  (∀ (s : State) (ch : Nat) (r : Request) (c : Caller) (slot request priority : Nat),
    Claims.Asked s ch .lingPollNow r c →
    c.isOperator = true →
    c.slots 3 = true →
    request ≤ 0x1F →
    priority ≤ 3 →
    s.lineHere = true →
    s.meterHere slot = true →
    s.isReleasing (s.meterTenant slot) = false →
    s.lingMeter slot = true →
    (s.plan slot).poll = none →
    Machine.exec (.lingPollNow ch slot request priority) s = .next ((((s.setPlan slot { s.plan slot with poll := some { due := s.legalS, request := request, priority := priority, commanded := true } }).journalPlan slot [0, s.legalS]).carry (.meter slot)).respond ch r { status := .deferred }))

/-- The session, credential and two-officer commands run. The first session that asks for BARROW.CLEAR, SAFE.CLOSE, TENANT.SEAL
or TENANT.RELEASE opens one ticket over the digest of its request and is answered the ticket, and the queue of events gains
the pending approval. A second session of the same role whose digest agrees approves it, the operation is executed and the
ticket goes. The initiator cancels its own ticket, which is void. HELLO draws a nonce and a session number for a channel with
no session; PROVE with the proof of the credential's secret opens the session and raises its event; CLOSE ends it;
CREDENTIAL_SET gives a place its secret under the next generation and CREDENTIAL_REVOKE empties it. Each answers a next
state; where a clause ends in a frame, every part of State that it does not name is as it was. The choices of the model that
the clauses rest on are in log entries 5, 6, 10, 21, 160. -/
def Obligations.SessionApprovalCommandsComplete : Prop :=
  (∀ (s : State) (ch : Nat) (r : Request) (c : Caller),
    Claims.Asked s ch .barrowClear r c →
    c.isOfficer = true →
    c.slots 0 = true →
    s.clearable = true →
    s.mail.tickets = [] →
    Claims.Room s →
    ∃ t, Machine.exec (.barrowClear ch) s = .next t ∧ Claims.Answered ch r { status := .pendingApproval, slots := [(s.draw 32).1] } t ∧
      ((t.mail.tickets = [{ ticket := (s.draw 32).1, cmd := .barrowClear, args := [], target := 0, digest := sha256 c.body, ch := c.ch, sessionId := c.sessionId, role := c.role, tenant := c.tenant, slot := c.slot, expiresMs := s.time.ms + 1000 * s.rd Rec.SessionPolicy.ApprovalWindowS }])) ∧
      Claims.Raised .approvalPending c.tenant [(s.draw 32).1, Cmd.barrowClear.code, 0, c.slot] s t ∧
      Claims.Frame [.freeCtr, .mail, .ev, .time, .ctrs] s t) ∧
  (∀ (s : State) (ch : Nat) (r : Request) (c : Caller) (slot armed : Nat),
    Claims.Asked s ch .safeClose r c →
    c.slots 2 = true →
    c.isOwner (s.meterTenant slot) = true →
    s.isReleasing (s.meterTenant slot) = false →
    armed ≤ 1 →
    s.meterHere slot = true →
    s.isRelay slot = true →
    (s.safeMeter slot).out = none →
    s.lockedOut slot = false →
    s.mail.tickets = [] →
    Claims.Room s →
    ∃ t, Machine.exec (.safeClose ch slot armed) s = .next t ∧ Claims.Answered ch r { status := .pendingApproval, slots := [(s.draw 32).1] } t ∧
      ((t.mail.tickets = [{ ticket := (s.draw 32).1, cmd := .safeClose, args := [slot, armed], target := slot, digest := sha256 c.body, ch := c.ch, sessionId := c.sessionId, role := c.role, tenant := c.tenant, slot := c.slot, expiresMs := s.time.ms + 1000 * s.rd Rec.SessionPolicy.ApprovalWindowS }])) ∧
      Claims.Frame [.freeCtr, .mail, .ev, .time, .ctrs] s t) ∧
  (∀ (s : State) (ch : Nat) (r : Request) (c : Caller) (tenant : Nat),
    Claims.Asked s ch .tenantSeal r c →
    c.isOfficer = true →
    c.slots 1 = true →
    tenant < 16 →
    s.tenantHere tenant = true →
    s.sealable tenant = true →
    s.mail.tickets = [] →
    Claims.Room s →
    ∃ t, Machine.exec (.tenantSeal ch tenant) s = .next t ∧ Claims.Answered ch r { status := .pendingApproval, slots := [(s.draw 32).1] } t ∧
      ((t.mail.tickets.map fun x => (x.ticket, x.cmd, x.args, x.target)) = [((s.draw 32).1, .tenantSeal, [tenant], tenant)]) ∧
      Claims.Frame [.freeCtr, .mail, .ev, .time, .ctrs] s t) ∧
  (∀ (s : State) (ch : Nat) (r : Request) (c : Caller) (tenant : Nat),
    Claims.Asked s ch .tenantRelease r c →
    c.slots 1 = true →
    c.isTenantAdmin tenant = true →
    tenant < 16 →
    s.tenantHere tenant = true →
    s.isSealed tenant = true →
    s.mail.tickets = [] →
    Claims.Room s →
    ∃ t, Machine.exec (.tenantRelease ch tenant) s = .next t ∧ Claims.Answered ch r { status := .pendingApproval, slots := [(s.draw 32).1] } t ∧
      ((t.mail.tickets.map fun x => (x.ticket, x.cmd, x.args, x.target)) = [((s.draw 32).1, .tenantRelease, [tenant], tenant)]) ∧
      Claims.Frame [.freeCtr, .mail, .ev, .time, .ctrs] s t) ∧
  (∀ (s : State) (ch : Nat) (r : Request) (c : Caller) (ticket : Nat) (x : Ticket),
    Claims.Asked s ch .ctrlApprovalCancel r c →
    c.slots 1 = true →
    s.mail.tickets = [x] →
    x.ticket = ticket →
    c.tagged = true →
    x.role = c.role →
    x.tenant = c.tenant →
    x.slot = c.slot →
    Claims.Room s →
    ∃ t, Machine.exec (.ctrlApprovalCancel ch ticket) s = .next t ∧ (t.mail.tickets = []) ∧
      Claims.Raised .approvalExpired x.tenant [ticket, VoidCause.cancelled.code] s t ∧
      Claims.Answered ch r { status := .done } t ∧
      Claims.Frame [.mail, .ev, .time, .ctrs] s t) ∧
  (∀ (s : State) (ch : Nat) (r : Request) (c : Caller) (ticket : Nat) (digest : List Byte) (x : Ticket),
    Claims.Asked s ch .ctrlApprove r c →
    (s.chan ch).await = none →
    s.mail.tickets = [x] →
    x.ticket = ticket →
    x.digest = digest →
    c.tagged = true →
    c.role = x.role →
    c.tenant = x.tenant →
    c.slot ≠ x.slot →
    c.body.length = 40 →
    digest.length = 32 →
    x.cmd = .barrowClear →
    (s.executeApproved x c).1.status = .done →
    ∃ t, Machine.exec (.ctrlApprove ch ticket digest) s = .next t ∧ (t.mail.tickets = (s.executeApproved x c).2.mail.tickets.filter (fun y => y.ticket ≠ ticket)) ∧
      (t.ev.nextSeq = (s.executeApproved x c).2.ev.nextSeq) ∧
      (t.records = (s.executeApproved x c).2.records)) ∧
  (∀ (s : State) (ch : Nat) (r : Request) (c : Caller) (role tenant slot : Nat),
    Claims.Asked s ch .ctrlSessionHello r c →
    s.vault.rngOk = true →
    c.ch = ch →
    s.inBackoff ch = false →
    c.body.length = 3 →
    roleTenantOk role tenant = true →
    s.tenantHere tenant = true →
    s.session ch = none →
    ∃ t, Machine.exec (.ctrlSessionHello ch role tenant slot) s = .next t ∧ ((t.chan ch).nonce = some ⟨(s.drawBytes 16).1, ((s.drawBytes 16).2.draw 32).1, role, tenant, slot, s.time.ms⟩) ∧
      Claims.Answered ch r { status := .done, data := (s.drawBytes 16).1 ++ le 4 ((s.drawBytes 16).2.draw 32).1 } t ∧
      Claims.Frame [.freeCtr, .mail] s t) ∧
  (∀ (s : State) (ch : Nat) (r : Request) (c : Caller) (id : Nat) (nh ph : List Byte) (n : Nonce) (x : Credential),
    Claims.Asked s ch .ctrlSessionProve r c →
    c.ch = ch →
    s.inBackoff ch = false →
    c.body.length = 52 →
    (s.chan ch).nonce = some n →
    Map.get? s.mail.creds (credKey n.role n.tenant n.slot) = some x →
    n.sessionId = id →
    s.time.ms ≤ n.issuedMs + 30000 →
    ph = hostProof x.secret n.nd nh n.role n.tenant n.slot ch s.mail.serial →
    s.vault.st = .opened →
    s.pow.bootDone = none →
    Claims.Room s →
    ∃ t, Machine.exec (.ctrlSessionProve ch id nh ph) s = .next t ∧ ((t.session ch).map (fun y => (y.id, y.role, y.tenant, y.slot, y.ks)) = some (id, n.role, n.tenant, n.slot, sessionKey x.secret n.nd nh s.mail.serial ch id)) ∧
      ((t.chan ch).nonce = none) ∧
      Claims.Raised .sessionOpened n.tenant [ch, n.role, n.tenant, n.slot] s t ∧
      Claims.Answered ch r { status := .done, data := deviceProof x.secret n.nd nh s.mail.serial id } t ∧
      Claims.Frame [.mail, .ev, .time, .ctrs] s t) ∧
  (∀ (s : State) (ch : Nat) (r : Request) (c : Caller) (x : Session),
    Claims.Asked s ch .ctrlSessionClose r c →
    c.isObserver = true →
    c.slots 0 = true →
    c.ch = ch →
    s.session ch = some x →
    Claims.Room s →
    ∃ t, Machine.exec (.ctrlSessionClose ch) s = .next t ∧ (t.session ch = none) ∧
      ((t.chan ch).request = none) ∧
      (((t.chan ch).response.map fun y => (y.status, y.key)) = some (.done, some x.ks)) ∧
      Claims.Raised .sessionClosed x.tenant [ch, CloseCause.command.code] s t ∧
      (t.records = s.records)) ∧
  (∀ (s : State) (ch : Nat) (r : Request) (c : Caller) (role tenant slot kind : Nat) (secret : List Byte),
    Claims.Asked s ch .ctrlCredentialSet r c →
    c.tagged = false →
    s.mail.firstSoSet = false →
    s.session c.ch = none →
    c.body.length = 64 →
    secret.length = 32 →
    credOk role tenant slot = true →
    kind ≤ 1 →
    s.tenantHere tenant = true →
    s.credGenFree (credKey role tenant slot) = true →
    Map.get? s.mail.creds (credKey role tenant slot) = none →
    s.sessionsOf role tenant slot = [] →
    ∃ t, Machine.exec (.ctrlCredentialSet ch role tenant slot kind secret) s = .next t ∧ ((Map.get? t.mail.creds (credKey role tenant slot)).map (fun y => (y.secret, y.kind, y.generation)) = some (secret, kind, Map.getD s.mail.credGens (credKey role tenant slot) 0 + 1)) ∧
      (t.mail.firstSoSet = (role == 3 && slot == 0)) ∧
      Claims.Answered ch r { status := .done, slots := [Map.getD s.mail.credGens (credKey role tenant slot) 0 + 1] } t ∧
      Claims.Frame [.mail, .ev, .time, .ctrs, .vault] s t) ∧
  (∀ (s : State) (ch : Nat) (r : Request) (c : Caller) (role tenant slot : Nat),
    Claims.Asked s ch .ctrlCredentialRevoke r c →
    c.isOfficer = true →
    c.slots 3 = true →
    credOk role tenant slot = true →
    s.tenantHere tenant = true →
    s.credGenFree (credKey role tenant slot) = true →
    (Map.get? s.mail.creds (credKey role tenant slot)).isSome = true →
    s.sessionsOf role tenant slot = [] →
    s.mail.tickets = [] →
    ∃ t, Machine.exec (.ctrlCredentialRevoke ch role tenant slot) s = .next t ∧ (Map.get? t.mail.creds (credKey role tenant slot) = none) ∧
      (Map.get? t.mail.credGens (credKey role tenant slot) = some (Map.getD s.mail.credGens (credKey role tenant slot) 0 + 1)) ∧
      Claims.Answered ch r { status := .done, slots := [0] } t ∧
      Claims.Frame [.mail, .ev, .time, .ctrs, .vault] s t)

/-- The pair and port commands run. SWITCHOVER of a pair whose partner is ready starts the handover; FORCE_CLAIM makes a claim
due; ORPHANS_CLEAR drops the orphans up to a number; SESSION_RESET closes a head-end session and EXPORT_REWIND takes its
cursor back. Each answers a next state; where a clause ends in a frame, every part of State that it does not name is as it
was. -/
def Obligations.PairPortCommandsComplete : Prop :=
  (∀ (s : State) (ch : Nat) (r : Request) (c : Caller),
    Claims.Asked s ch .pairSwitchover r c →
    c.isOperator = true →
    c.slots 0 = true →
    s.pair.st = .activePaired →
    s.pair.handoverStep = 0 →
    s.readyPartner = true →
    Machine.exec (.pairSwitchover ch) s = .next ((s.startHandover).respond ch r { status := .deferred })) ∧
  (∀ (s : State) (ch : Nat) (r : Request) (c : Caller),
    Claims.Asked s ch .pairForceClaim r c →
    c.isService = true →
    c.slots 0 = true →
    s.pair.st = .notReady ∨ s.pair.st = .syncing →
    s.heartbeatLive = false →
    s.partnerSeen = none →
    Machine.exec (.pairForceClaim ch) s = .next (({ s with pair := { s.pair with claimDue := some 3, claimMs := s.time.ms } }).respond ch r { status := .deferred })) ∧
  (∀ (s : State) (ch : Nat) (r : Request) (c : Caller) (upTo : Nat),
    Claims.Asked s ch .pairOrphansClear r c →
    c.isOperator = true →
    c.slots 1 = true →
    upTo < s.pair.nextOrphan →
    Machine.exec (.pairOrphansClear ch upTo) s = .next (({ s with pair := { s.pair with orphans := s.pair.orphans.filter fun (o : Orphan) => decide (upTo < o.number) } }).respond ch r { status := .done, slots := [s.pair.orphans.length - (s.pair.orphans.filter fun (o : Orphan) => decide (upTo < o.number)).length] })) ∧
  (∀ (s : State) (ch : Nat) (r : Request) (c : Caller) (session : Nat),
    Claims.Asked s ch .portSessionReset r c →
    c.slots 1 = true →
    session < 32 →
    c.isOwner (s.heTenant session) = true →
    s.isReleasing (s.heTenant session) = false →
    s.rdB Rec.HeadEnd.Enabled session = true →
    ∃ t, Machine.exec (.portSessionReset ch session) s = .next t ∧ ((t.headEnd session).st = .waiting) ∧
      ((t.headEnd session).waitS = 1) ∧
      ((t.headEnd session).retryMs = s.time.ms + 1000) ∧
      Claims.Answered ch r { status := .done } t ∧
      (t.records = s.records)) ∧
  (∀ (s : State) (ch : Nat) (r : Request) (c : Caller) (session position index : Nat),
    Claims.Asked s ch .exportRewind r c →
    c.slots 3 = true →
    session < 32 →
    c.isOwner (s.heTenant session) = true →
    s.isReleasing (s.heTenant session) = false →
    idLe (position, index) (s.headEnd session).top = true →
    idLe s.ports.pruned (position, index) = true →
    s.ports.exports = [] →
    (s.headEnd session).backlog = false →
    ∃ t, Machine.exec (.exportRewind ch session position index) s = .next t ∧ (t.headEnd session = { s.headEnd session with cursor := (position, index), sent := (position, index) }) ∧
      Claims.Answered ch r { status := .done } t ∧
      Claims.Frame [.ports, .mail] s t)

/-- The unit, power and vault reset commands run. UNIT_FENCE of a block fences it once, and leaves a block that is fenced;
UNIT_UNFENCE of a cell whose self-test passes brings it back with no history, and one whose self-test fails is answered
INTEGRITY; REGION_RESTART of a region that restarts is accepted. SLEEP of a standby chip goes to SLEEP; REBOOT of a chip that
does not serve orders the reset, and a forced one yields service to a ready partner or drops it first; DEBUG_CLOSE with the
chip's serial sets the flag that the next boot ROM acts on; VAULT.RESET with both loops open empties the vault and the
credentials and orders the reset. Each answers a next state; where a clause ends in a frame, every part of State that it does
not name is as it was. The choices of the model that the clauses rest on are in log entry 137. -/
def Obligations.UnitPowerCommandsComplete : Prop :=
  (∀ (s : State) (ch : Nat) (r : Request) (c : Caller) (unit : Nat),
    Claims.Asked s ch .ctrlUnitFence r c →
    c.isService = true →
    c.slots 1 = true →
    isUnitAddr unit = true →
    s.unitHere unit = true →
    s.lastOfKind unit = false →
    Machine.exec (.ctrlUnitFence ch unit) s = .next ((s.fenceUnit unit 2).respond ch r { status := .done })) ∧
  (∀ (s : State) (ch : Nat) (r : Request) (c : Caller) (unit : Nat),
    Claims.Asked s ch .ctrlUnitUnfence r c →
    c.isService = true →
    c.slots 1 = true →
    isUnitAddr unit = true →
    s.unitHere unit = true →
    s.addrFenced unit = true →
    Machine.exec (.ctrlUnitUnfence ch unit 0) s = .next ((s).respond ch r { status := .integrity, slots := [0] })) ∧
  (∀ (s : State) (ch : Nat) (r : Request) (c : Caller) (unit : Nat),
    Claims.Asked s ch .ctrlUnitUnfence r c →
    c.isService = true →
    c.slots 1 = true →
    isUnitAddr unit = true →
    s.unitHere unit = true →
    addrCell unit ≠ 0x3F →
    4 ≤ addrRegion unit →
    (s.cell unit).fenced = true →
    s.arch.units = [] →
    ∃ t, Machine.exec (.ctrlUnitUnfence ch unit 1) s = .next t ∧ ((t.cell unit) = { s.cell unit with fenced := false, misses := [], slowEntries := [] }) ∧
      Claims.Answered ch r { status := .done, slots := [1] } t ∧
      Claims.Frame [.arch, .mail] s t) ∧
  (∀ (s : State) (ch : Nat) (r : Request) (c : Caller) (region : Nat),
    Claims.Asked s ch .ctrlRegionRestart r c →
    c.isService = true →
    c.slots 1 = true →
    s.regionHere region = true →
    region < 7 →
    (Map.getD s.arch.regions region {}).st = .restarting →
    Machine.exec (.ctrlRegionRestart ch region) s = .next ((s).respond ch r { status := .deferred })) ∧
  (∀ (s : State) (ch : Nat) (r : Request) (c : Caller) (region : Nat),
    Claims.Asked s ch .ctrlRegionRestart r c →
    c.isService = true →
    c.slots 1 = true →
    s.regionHere region = true →
    region < 7 →
    (Map.getD s.arch.regions region {}).st = .on →
    Machine.exec (.ctrlRegionRestart ch region) s = .next ((s.startRestart region false).respond ch r { status := .deferred })) ∧
  (∀ (s : State) (ch : Nat) (r : Request) (c : Caller),
    Claims.Asked s ch .powerSleep r c →
    c.isService = true →
    c.slots 0 = true →
    s.serving = false →
    s.pair.st = .syncing ∨ s.pair.st = .notReady ∨ s.pair.st = .ready →
    ∃ t, Machine.exec (.powerSleep ch) s = .next t ∧ (t.pow.stage = 0x0C) ∧
      (t.mail.mailboxReady = false) ∧
      (t.mail.serviceReady = false) ∧
      (t.arch.units = []) ∧
      (t.pow.sleepMs = s.time.ms) ∧
      (t.records = s.records) ∧
      Claims.Answered ch r { status := .deferred } t) ∧
  (∀ (s : State) (ch : Nat) (r : Request) (c : Caller) (force : Nat),
    Claims.Asked s ch .powerReboot r c →
    c.isService = true →
    c.slots 1 = true →
    force ≤ 1 →
    s.serving = false →
    s.pow.resetAfterSave = none →
    s.pow.warn = .disarmed →
    s.air.queue = [] →
    s.met.pulses = [] →
    ∃ t, Machine.exec (.powerReboot ch force) s = .next t ∧ (t.pow.resetAfterSave = some ResetCause.reboot.code) ∧
      (t.pow.warn = .saving) ∧
      Claims.Answered ch r { status := .deferred } t ∧
      Claims.Frame [.pow, .mail] s t) ∧
  (∀ (s : State) (ch : Nat) (r : Request) (c : Caller) (serial : Nat),
    Claims.Asked s ch .powerDebugClose r c →
    c.isOfficer = true →
    c.slots 1 = true →
    serial = s.mail.serial →
    s.arch.debugClosed = false →
    Machine.exec (.powerDebugClose ch serial) s = .next (({ s with pow := { s.pow with closeFlag := true } }).respond ch r { status := .done })) ∧
  (∀ (s : State) (ch : Nat) (r : Request) (c : Caller),
    Claims.Asked s ch .vaultReset r c →
    c.slots 0 = true →
    s.tunnelled c.ch = false →
    s.vault.tamperLatched = true →
    s.vault.loopsOpen = 3 →
    s.anySealed = false →
    s.pow.resetAfterSave = none →
    s.pow.warn = .idle →
    Claims.Room s →
    ∃ t, Machine.exec (.vaultReset ch) s = .next t ∧ (t.vault.copies = []) ∧
      (t.vault.banks = []) ∧
      (t.vault.counters = []) ∧
      (t.vault.live = []) ∧
      (t.mail.creds = []) ∧
      (t.mail.firstSoSet = false) ∧
      (t.pow.resetAfterSave = some ResetCause.vaultReset.code) ∧
      Claims.Raised .vaultReset 0 [] s t ∧
      Claims.Answered ch r { status := .done } t ∧
      Claims.Frame [.vault, .mail, .pow, .ev, .time, .ctrs] s t) ∧
  (∀ (s : State) (ch : Nat) (r : Request) (c : Caller),
    Claims.Asked s ch .powerReboot r c →
    c.isService = true →
    c.slots 1 = true →
    s.serving = true →
    s.readyPartner = true →
    Machine.exec (.powerReboot ch 1) s = .next ((s.yieldService).respond ch r { status := .deferred })) ∧
  (∀ (s : State) (ch : Nat) (r : Request) (c : Caller),
    Claims.Asked s ch .powerReboot r c →
    c.isService = true →
    c.slots 1 = true →
    s.serving = true →
    s.readyPartner = false →
    Machine.exec (.powerReboot ch 1) s = .next ((s.dropServing.orderReset .reboot).respond ch r { status := .deferred }))

/-- The ledger, token, balance and pulse commands run. FIT over at least 24 usable intervals answers without changing anything
but the channel; PHASE_RESET forgets a meter's phase votes and enters that in the journal; PULSE_TEST adds pulses to an
output that is not configured. TOKEN_ISSUE to a prepay meter gives its next token, of credit or of clearing, of the amount
asked for; TOKEN_VOID voids a token that is open; DISPUTE_RESOLVE marks how each disputed register it names is resolved;
REBASE forgets the baselines it names and puts their fallback reading to zero; GAP_CLEAR ends a gap. Each answers a next
state, and its effect stands whether the answer comes now or waits for the commit; where a clause ends in a frame, every part
of State that it does not name is as it was. The choices of the model that the clauses rest on are in log entries 17, 61. -/
def Obligations.LedgerBalanceCommandsComplete : Prop :=
  (∀ (s : State) (ch : Nat) (r : Request) (c : Caller) (zone first count : Nat),
    Claims.Asked s ch .balFit r c →
    c.slots 3 = true →
    c.isOwner (s.zoneTenant zone) = true →
    count ≤ 2880 →
    s.lineHere = true →
    zone < s.zones →
    s.isReleasing (s.zoneTenant zone) = false →
    s.rdB Rec.Zone.Active zone = true →
    24 ≤ (s.fitSet zone first count).length →
    (fitPoints ((s.fitSet zone first count).map fun e => [1, ((e.2.iavg.map fun i => i * i).sum : Nat), (e.2.inavg * e.2.inavg : Nat), e.1.feeder - e.1.milli])).1 ≠ 0 →
    ∃ t, Machine.exec (.balFit ch zone first count) s = .next t ∧ ((((t.chan ch).response.map fun y => y.status) = some .done)) ∧
      ((t.chan ch).request = none) ∧
      Claims.Frame [.mail] s t) ∧
  (∀ (s : State) (ch : Nat) (r : Request) (c : Caller) (slot : Nat),
    Claims.Asked s ch .balPhaseReset r c →
    c.slots 1 = true →
    (s.chan ch).await = none →
    c.isOwner (s.meterTenant slot) = true →
    s.lineHere = true →
    s.meterHere slot = true →
    s.isReleasing (s.meterTenant slot) = false →
    ∃ t, Machine.exec (.balPhaseReset ch slot) s = .next t ∧ (t.balMeter slot = { s.balMeter slot with votes := [], learned := none }) ∧
      (t.records = s.records)) ∧
  (∀ (s : State) (ch : Nat) (r : Request) (c : Caller) (output count : Nat),
    Claims.Asked s ch .metroPulseTest r c →
    c.isService = true →
    c.slots 2 = true →
    output < 8 →
    1 ≤ count →
    count ≤ 100 →
    s.lineHere = true →
    s.serving = true →
    s.rdB Rec.PulseOutput.Enabled output = false →
    Machine.exec (.metroPulseTest ch output count) s = .next ((s.setPulse output { s.pulse output with test := (s.pulse output).test + count }).respond ch r { status := .deferred })) ∧
  (∀ (s : State) (ch : Nat) (r : Request) (c : Caller) (slot kind amount deliver field : Nat) (key : VaultCopy),
    Claims.Asked s ch .prepayTokenIssue r c →
    c.slots 4 = true →
    (s.chan ch).await = none →
    c.isOwner (s.meterTenant slot) = true →
    kind ≤ 1 →
    kind = 0 ∨ amount = 0 →
    deliver ≤ 1 →
    s.meterHere slot = true →
    s.led.ready = true →
    s.serving = true →
    s.pre.held.contains slot = false →
    s.isReleasing (s.meterTenant slot) = false →
    s.rdB Rec.PrepayMeter.Enabled slot = true →
    (s.meter slot).tokenSeq < 65535 →
    ((s.tokensOf slot).all fun y => !(tokenOpen y.st && decide (y.seq + 30 < (s.meter slot).tokenSeq))) = true →
    kind = 1 ∨ (amount ≤ s.rd Rec.PrepayClass.MaxTokenMilli (s.prepayClass slot) ∧ amountField (s.rd Rec.PrepayClass.CreditStepMilli (s.prepayClass slot)) amount = some field) →
    s.rdB Rec.MeterSec.KeyMode slot = false →
    s.slotSet (s.meter slot).tenant 0 = true →
    s.slotKey (s.meter slot).tenant 0 = some key →
    ∃ t, Machine.exec (.prepayTokenIssue ch slot kind amount deliver) s = .next t ∧ (t.pre.tokens.length = s.pre.tokens.length + 1) ∧
      ((t.pre.tokens.getLast?.map fun y => (y.slot, y.st, y.kind, y.seq, y.amount)) = some (slot, deliver, kind, (s.meter slot).tokenSeq + 1, amount)) ∧
      ((t.meter slot).tokenSeq = (s.meter slot).tokenSeq + 1) ∧
      (t.records = s.records)) ∧
  (∀ (s : State) (ch : Nat) (r : Request) (c : Caller) (slot seq : Nat) (x : TokenEntry),
    Claims.Asked s ch .prepayTokenVoid r c →
    c.slots 2 = true →
    (s.chan ch).await = none →
    c.isOwner (s.meterTenant slot) = true →
    s.meterHere slot = true →
    s.led.ready = true →
    s.isReleasing (s.meterTenant slot) = false →
    s.token slot seq = some x →
    x.st ≤ 1 →
    x.locked = false →
    ∃ t, Machine.exec (.prepayTokenVoid ch slot seq) s = .next t ∧ (t.pre.tokens = s.pre.tokens.map fun y => if y.slot = slot ∧ y.seq = seq ∧ tokenOpen y.st = true then { y with st := 4 } else y) ∧
      (t.led = s.led) ∧
      (t.records = s.records)) ∧
  (∀ (s : State) (ch : Nat) (r : Request) (c : Caller) (slot rs mask choice : Nat),
    Claims.Asked s ch .ledgerDisputeResolve r c →
    c.slots 4 = true →
    (s.chan ch).await = none →
    c.isOwner (s.meterTenant slot) = true →
    rs ≤ 1 →
    mask < 256 →
    choice ≤ 2 →
    s.meterHere slot = true →
    s.isReleasing (s.meterTenant slot) = false →
    (maskBits 8 mask).isEmpty = false →
    ((maskBits 8 mask).all fun i => bitOn (s.meter slot).disputeMask (8 * rs + i)) = true →
    ∃ t, Machine.exec (.ledgerDisputeResolve ch slot rs mask choice) s = .next t ∧ ((t.meter slot).resolveMain = (maskBits 8 mask).foldl (fun m i => setBits m (8 * rs + i) 1 (bit (decide (choice = 0)))) (s.meter slot).resolveMain) ∧
      ((t.meter slot).resolveFb = (maskBits 8 mask).foldl (fun m i => setBits m (8 * rs + i) 1 (bit (decide (choice = 1)))) (s.meter slot).resolveFb) ∧
      ((t.meter slot).disputeMask = (s.meter slot).disputeMask) ∧
      ((t.meter slot).regTotal = (s.meter slot).regTotal) ∧
      (t.records = s.records) ∧
      (t.pre = s.pre)) ∧
  (∀ (s : State) (ch : Nat) (r : Request) (c : Caller) (slot totals rates : Nat),
    Claims.Asked s ch .ledgerRebase r c →
    c.slots 3 = true →
    (s.chan ch).await = none →
    c.isOwner (s.meterTenant slot) = true →
    s.meterHere slot = true →
    s.isReleasing (s.meterTenant slot) = false →
    ((maskBits 16 rates).all fun i => !bitOn (s.meter slot).disputeMask i) = true →
    ∃ t, Machine.exec (.ledgerRebase ch slot totals rates) s = .next t ∧ ((t.meter slot).baselineTotal = (maskBits 8 totals).foldl (fun m i => setBits m i 1 0) (s.meter slot).baselineTotal) ∧
      ((t.meter slot).baselineRate = (maskBits 16 rates).foldl (fun m i => setBits m i 1 0) (s.meter slot).baselineRate) ∧
      ((t.meter slot).fb = (maskBits 16 rates).foldl (fun m i => Map.put m i 0) (s.meter slot).fb) ∧
      ((t.meter slot).total = (s.meter slot).total) ∧
      (t.records = s.records) ∧
      (t.pre = s.pre)) ∧
  (∀ (s : State) (ch : Nat) (r : Request) (c : Caller) (slot : Nat),
    Claims.Asked s ch .ledgerGapClear r c →
    c.slots 1 = true →
    (s.chan ch).await = none →
    c.isOwner (s.meterTenant slot) = true →
    s.meterHere slot = true →
    s.isReleasing (s.meterTenant slot) = false →
    (s.meter slot).gap = true →
    ∃ t, Machine.exec (.ledgerGapClear ch slot) s = .next t ∧ ((t.meter slot).gap = false) ∧
      ((t.meter slot).total = (s.meter slot).total) ∧
      (t.records = s.records))

/-- The key, quarantine and vault commands run. METER_KEY_SET of a blob that unwraps keeps it under the meter's next key
generation, and METER_KEYGEN_ADVANCE takes the next generation; a quarantined frame is released into the ledger's queue or
deleted for good; a vault update message that passes every check advances the domain's counter and its slot; the authority
and the transport key of an empty place are set. Each answers a next state; where a clause ends in a frame, every part of
State that it does not name is as it was. The choices of the model that the clauses rest on are in log entries 17, 18. -/
def Obligations.KeyCommandsComplete : Prop :=
  (∀ (s : State) (ch : Nat) (r : Request) (c : Caller) (slot keyBits : Nat) (blob plain : List Byte) (kek : VaultCopy),
    Claims.Asked s ch .secMeterKeySet r c →
    (s.chan ch).await = none →
    c.isOwner (s.meterTenant slot) = true →
    c.body.length = 16 + blob.length →
    keyBits ≤ 1 →
    blob.length = (if keyBits = 1 then 40 else 24) →
    s.meterHere slot = true →
    s.assigned slot = true →
    s.rdB Rec.MeterSec.KeyMode slot = true →
    s.isReleasing (s.meterTenant slot) = false →
    (s.meter slot).keyGen < 0xFFFFFFFF →
    s.slotKey (s.meterTenant slot) 1 = some kek →
    keyUnwrap kek.key blob = some plain →
    ∃ t, Machine.exec (.secMeterKeySet ch slot keyBits blob) s = .next t ∧ (Map.get? t.sec.keys slot = some ((s.advanceKeyGen slot).meter slot |>.keyGen, blob)) ∧
      ((t.meter slot).keyGen = ((s.advanceKeyGen slot).meter slot).keyGen) ∧
      (t.vault = s.vault) ∧
      (t.records = s.records)) ∧
  (∀ (s : State) (ch : Nat) (r : Request) (c : Caller) (slot : Nat),
    Claims.Asked s ch .secMeterKeygenAdvance r c →
    c.slots 1 = true →
    (s.chan ch).await = none →
    c.isOwner (s.meterTenant slot) = true →
    s.meterHere slot = true →
    s.assigned slot = true →
    s.rdB Rec.MeterSec.KeyMode slot = false →
    s.isReleasing (s.meterTenant slot) = false →
    (s.meter slot).keyGen < 0xFFFFFFFF →
    ∃ t, Machine.exec (.secMeterKeygenAdvance ch slot) s = .next t ∧ Claims.Frame [.mail] (((s.advanceKeyGen slot).journal .config ((s.advanceKeyGen slot).meterTenant slot) slot (.words [0x0903, slot, ((s.advanceKeyGen slot).meter slot).keyGen])).carry (.meter slot)) t) ∧
  (∀ (s : State) (ch : Nat) (r : Request) (c : Caller) (slot counter : Nat) (q : QEntry),
    Claims.Asked s ch .secQuarantineRelease r c →
    c.slots 2 = true →
    (s.chan ch).await = none →
    s.qEntry slot counter = some q →
    c.isOwner q.f.tenant = true →
    s.isReleasing q.f.tenant = false →
    s.releasable q = true →
    ∃ t, Machine.exec (.secQuarantineRelease ch slot counter) s = .next t ∧ (t.sec.quarantine = (s.qDrop slot counter).sec.quarantine) ∧
      (t.sec.tombs = s.sec.tombs) ∧
      (t.led.queues = (s.enqueue q.f.tenant slot (.frame { q.f with flags := q.f.flags ||| 4 })).led.queues) ∧
      (t.led.meters = s.led.meters) ∧
      (t.records = s.records)) ∧
  (∀ (s : State) (ch : Nat) (r : Request) (c : Caller) (slot counter : Nat) (q : QEntry),
    Claims.Asked s ch .secQuarantineDelete r c →
    c.slots 2 = true →
    (s.chan ch).await = none →
    s.qEntry slot counter = some q →
    c.isOwner q.f.tenant = true →
    s.isReleasing q.f.tenant = false →
    ∃ t, Machine.exec (.secQuarantineDelete ch slot counter) s = .next t ∧ (t.sec.quarantine = (s.qDrop slot counter).sec.quarantine) ∧
      (t.sec.tombs = s.sec.tombs ++ [(slot, counter)]) ∧
      (t.led = s.led) ∧
      (t.records = s.records)) ∧
  (∀ (s : State) (ch : Nat) (r : Request) (c : Caller) (message key : List Byte) (d n : Nat),
    Claims.Asked s ch .vaultUpdate r c →
    d = leAt message 6 1 →
    n = leAt message 16 4 →
    s.mayUpdate c d = true →
    c.body.length = message.length →
    s.domainHere d = true →
    s.isReleasing d = false →
    (s.checkUpdate message).toOption = some key →
    n ≠ 0xFFFFFFFF →
    Machine.exec (.vaultUpdate ch message) s = .next ((({ s with vault := { s.vault with counters := Map.put s.vault.counters d n } }).commitSlot d (leAt message 7 1) (leAt message 20 1) n key).respond ch r { status := .done, slots := [s.slotGen d (leAt message 7 1) + 1, n] })) ∧
  (∀ (s : State) (ch : Nat) (r : Request) (c : Caller) (d : Nat) (key : List Byte),
    Claims.Asked s ch .vaultAuthoritySet r c →
    s.mayUpdate c d = true →
    c.body.length = 72 →
    key.length = 64 →
    d ≤ 16 →
    s.domainHere d = true →
    p256OnCurve key = true →
    s.slotSet d (authoritySlot d) = false →
    s.genSpent d (authoritySlot d) = false →
    s.isReleasing d = false →
    Machine.exec (.vaultAuthoritySet ch d key) s = .next ((s.commitSlot d (authoritySlot d) 4 (s.domainCounter d) key).respond ch r { status := .done, slots := [s.slotGen d (authoritySlot d) + 1] })) ∧
  (∀ (s : State) (ch : Nat) (r : Request) (c : Caller) (d : Nat) (wrapped key : List Byte) (x : Session),
    Claims.Asked s ch .vaultTransportSet r c →
    s.mayUpdate c d = true →
    c.body.length = 48 →
    wrapped.length = 40 →
    d ≤ 16 →
    s.domainHere d = true →
    s.slotSet d 2 = false →
    s.genSpent d 2 = false →
    s.isReleasing d = false →
    s.session c.ch = some x →
    keyUnwrap ((hmac x.ks (ascii [0x45, 0x57, 0x56, 0x54])).take 16) wrapped = some key →
    Machine.exec (.vaultTransportSet ch d wrapped) s = .next ((s.commitSlot d 2 2 (s.domainCounter d) key).respond ch r { status := .done, slots := [s.slotGen d 2 + 1] }))

/-- The store, time and safe-open commands run. CHECKPOINT_NOW starts a checkpoint; DIE_RETIRE takes a die out of use where the
partitions still fit; NAMESPACE_FORMAT empties a tenant's objects under the next epoch; TIME.STEP leaves a step pending and
LEAP_SET a leap second; SAFE.OPEN accepts an opening with the next sequence and its deadline, and SAFE.CANCEL withdraws one
that is not locked. Each answers a next state; where a clause ends in a frame, every part of State that it does not name is
as it was. The choices of the model that the clauses rest on are in log entry 86. -/
def Obligations.StoreTimeSafeCommandsComplete : Prop :=
  (∀ (s : State) (ch : Nat) (r : Request) (c : Caller),
    Claims.Asked s ch .storeCheckpointNow r c →
    c.isOperator = true →
    c.slots 0 = true →
    Machine.exec (.storeCheckpointNow ch) s = .next ((s.startCheckpoint).respond ch r { status := .deferred })) ∧
  (∀ (s : State) (ch : Nat) (r : Request) (c : Caller) (channel die : Nat),
    Claims.Asked s ch .storeDieRetire r c →
    c.isService = true →
    c.slots 2 = true →
    s.dieHere channel die = true →
    (s.die channel die).st ≠ .failed →
    s.partsFit s.partBody (s.diesInUse - 1) = true →
    Machine.exec (.storeDieRetire ch channel die) s = .next ((s.setDie channel die { s.die channel die with st := .retiring }).respond ch r { status := .deferred })) ∧
  (∀ (s : State) (ch : Nat) (r : Request) (c : Caller) (tenant : Nat),
    Claims.Asked s ch .storeNamespaceFormat r c →
    c.isOfficer = true →
    c.slots 1 = true →
    (s.chan ch).await = none →
    tenant < 16 →
    s.tenantHere tenant = true →
    s.isSealed tenant = false →
    s.hasMeters tenant = false →
    s.nsEpoch tenant < 0xFFFFFFFF →
    ∃ t, Machine.exec (.storeNamespaceFormat ch tenant) s = .next t ∧ (t.nsEpoch tenant = s.nsEpoch tenant + 1) ∧
      (t.tar.archive = s.tar.archive.filter (fun a => a.tenant ≠ tenant)) ∧
      (t.pre.tokens = s.pre.tokens.filter (fun x => x.tenant ≠ tenant)) ∧
      (t.records = s.records)) ∧
  (∀ (s : State) (ch : Nat) (r : Request) (c : Caller) (ns : Nat),
    Claims.Asked s ch .timeStep r c →
    c.isOfficer = true →
    c.slots 1 = true →
    1000000 ≤ ns →
    ns ≤ 31536000 * 1000000000 →
    s.anySealed = false →
    s.time.st ≠ .partner →
    Machine.exec (.timeStep ch ns) s = .next (({ s with time := { s.time with pendingStep := some ((ns : Int), 1) } }).respond ch r { status := .done })) ∧
  (∀ (s : State) (ch : Nat) (r : Request) (c : Caller) (day : Nat) (sign : Int),
    Claims.Asked s ch .timeLeapSet r c →
    c.isOfficer = true →
    c.slots 2 = true →
    sign = 1 ∨ sign = -1 ∨ sign = 0 →
    s.anySealed = false →
    s.time.smearing = none →
    Machine.exec (.timeLeapSet ch day sign) s = .next (({ s with time := { s.time with leap := if sign = 0 then none else some (day, sign), leapFrom := none } }).respond ch r { status := .done })) ∧
  (∀ (s : State) (ch : Nat) (r : Request) (c : Caller) (slot : Nat),
    Claims.Asked s ch .safeOpen r c →
    c.slots 1 = true →
    (s.chan ch).await = none →
    c.isOwner (s.meterTenant slot) = true →
    s.meterHere slot = true →
    s.isReleasing (s.meterTenant slot) = false →
    s.isRelay slot = true →
    (s.safeMeter slot).out = none →
    ∃ t, Machine.exec (.safeOpen ch slot) s = .next t ∧ ((t.safeMeter slot).out = some { kind := 1, seq := ((s.safeMeter slot).lastSeq + 1) % 65536, deadline := s.stamp + s.rd Rec.SafetyPolicy.ValidityS * 2 ^ 24, limit := s.rd Rec.SafetyPolicy.ResendLimit }) ∧
      ((t.safeMeter slot).lastSeq = ((s.safeMeter slot).lastSeq + 1) % 65536) ∧
      (t.records = s.records)) ∧
  (∀ (s : State) (ch : Nat) (r : Request) (c : Caller) (slot : Nat) (x : SafeCmd),
    Claims.Asked s ch .safeCancel r c →
    c.slots 1 = true →
    (s.chan ch).await = none →
    c.isOwner (s.meterTenant slot) = true →
    s.meterHere slot = true →
    s.isReleasing (s.meterTenant slot) = false →
    (s.safeMeter slot).out = some x →
    x.locked = false →
    ∃ t, Machine.exec (.safeCancel ch slot) s = .next t ∧ ((t.safeMeter slot).out = (s.safeMeter slot).waiting) ∧
      ((t.safeMeter slot).waiting = none) ∧
      Claims.Counted { name := .safeOutcome, a := x.kind, b := 3 } 1 s t ∧
      (t.records = s.records))

/-- The recorder's, record and bundle commands run. A hold is given to the operator that asks first, until HOLD_MAX_S is over,
and a second one is told who holds; its holder releases it; the service session fires a trigger by hand and is answered the
snapshot's number. RECORD_WRITE of a record whose judgement accepts it applies the accepted body; with the validate bit it
changes nothing but the channel; RECORD_DEFAULT puts an instance back to its defaults, and leaves a record that nothing has
written as it is; a part of a configuration bundle that is not the last is kept after the parts before it. Each answers a
next state, and its effect stands whether the answer comes now or waits for the commit; where a clause ends in a frame, every
part of State that it does not name is as it was. The choices of the model that the clauses rest on are in log entries 16,
120, 131. -/
def Obligations.RecorderRecordCommandsComplete : Prop :=
  (∀ (s : State) (ch : Nat) (r : Request) (c : Caller),
    Claims.Asked s ch .barrowHold r c →
    c.isOperator = true →
    c.slots 0 = true →
    s.ev.hold = none →
    Machine.exec (.barrowHold ch) s = .next (({ s with ev := { s.ev with hold := some ⟨c.sessionId, c.ch, s.time.ms + 1000 * s.rd Rec.RecorderPolicy.HoldMaxS⟩ } }).respond ch r { status := .done, slots := [s.stamp + s.rd Rec.RecorderPolicy.HoldMaxS * 2 ^ 24] })) ∧
  (∀ (s : State) (ch : Nat) (r : Request) (c : Caller) (x : Hold),
    Claims.Asked s ch .barrowHold r c →
    c.isOperator = true →
    c.slots 0 = true →
    s.ev.hold = some x →
    Machine.exec (.barrowHold ch) s = .next ((s).respond ch r { status := .holdActive, slots := [x.sessionId] })) ∧
  (∀ (s : State) (ch : Nat) (r : Request) (c : Caller),
    Claims.Asked s ch .barrowRelease r c →
    c.isOperator = true →
    c.slots 0 = true →
    s.holds c = true →
    Machine.exec (.barrowRelease ch) s = .next (({ s with ev := { s.ev with hold := none } }).respond ch r { status := .done })) ∧
  (∀ (s : State) (ch : Nat) (r : Request) (c : Caller) (trigger : Nat),
    Claims.Asked s ch .barrowTriggerNow r c →
    c.isService = true →
    c.slots 1 = true →
    trigger < 32 →
    s.ev.slots = [] →
    ∃ t, Machine.exec (.barrowTriggerNow ch trigger) s = .next t ∧ Claims.Answered ch r { status := .done, slots := [s.ev.nextSnapshot] } t ∧
      (t.ev.nextSnapshot = s.ev.nextSnapshot + 1) ∧
      ((t.ev.slots.map fun x => (x.id, x.trigger, x.collecting)) = [(s.ev.nextSnapshot, trigger, true)]) ∧
      Claims.Counted { name := .snapshotsTaken, a := trigger } 1 s t ∧
      Claims.Frame [.ev, .mail, .ctrs] s t) ∧
  (∀ (s : State) (ch : Nat) (r : Request) (c : Caller) (record : List Byte) (x : RecordHeader) (new : Nat) (notes : List ReportEntry),
    Claims.Asked s ch .ctrlRecordWrite r c →
    (s.chan ch).await = none →
    c.tagged = true →
    c.body.length = record.length →
    16 ≤ record.length →
    x = headerOfRecord record →
    (recordRule x.rid).isSome = true →
    record.length = 16 + x.len →
    x.version = 1 →
    x.validate = false →
    x.rid ≠ Rec.MeterSec.Assigned.rid →
    s.mayWrite (Claims.ruleOf x.rid) x.rid c x.tenant x.inst = true →
    (Claims.ruleOf x.rid).owner s x.inst ≠ .chip ∨ x.tenant = 0 →
    s.judgeRecord (Claims.ruleOf x.rid) (Claims.schemaOf x.rid) x.tenant x.inst x.len (record.drop 16) = .accept new notes →
    ∃ t, Machine.exec (.ctrlRecordWrite ch record) s = .next t ∧ Claims.Frame [.mail] (s.applyBody (Claims.ruleOf x.rid) (Claims.schemaOf x.rid) x.tenant x.inst new) t) ∧
  (∀ (s : State) (ch : Nat) (r : Request) (c : Caller) (record : List Byte) (x : RecordHeader) (new : Nat) (notes : List ReportEntry),
    Claims.Asked s ch .ctrlRecordWrite r c →
    (s.chan ch).await = none →
    c.tagged = true →
    c.body.length = record.length →
    16 ≤ record.length →
    x = headerOfRecord record →
    (recordRule x.rid).isSome = true →
    record.length = 16 + x.len →
    x.version = 1 →
    x.validate = true →
    s.mayWrite (Claims.ruleOf x.rid) x.rid c x.tenant x.inst = true →
    (Claims.ruleOf x.rid).owner s x.inst ≠ .chip ∨ x.tenant = 0 →
    s.judgeRecord (Claims.ruleOf x.rid) (Claims.schemaOf x.rid) x.tenant x.inst x.len (record.drop 16) = .accept new notes →
    ∃ t, Machine.exec (.ctrlRecordWrite ch record) s = .next t ∧ Claims.Frame [.mail] s t) ∧
  (∀ (s : State) (ch : Nat) (r : Request) (c : Caller) (rid inst tenant : Nat),
    Claims.Asked s ch .ctrlRecordDefault r c →
    c.slots 3 = true →
    (s.chan ch).await = none →
    (recordRule rid).isSome = true →
    (Claims.ruleOf rid).writer s c tenant inst = true →
    (Claims.ruleOf rid).owner s inst = .chip ∨ (Claims.ruleOf rid).owner s inst = .header ∨ (Claims.ruleOf rid).owner s inst = .object tenant →
    tenant < 16 →
    inst < (Claims.schemaOf rid).instances →
    s.recordOwner (Claims.ruleOf rid) rid inst = some tenant →
    (Claims.ruleOf rid).absent s inst ((Claims.schemaOf rid).defaulted (s.bodyOf (Claims.schemaOf rid) inst)) = none →
    s.isReleasing tenant = false →
    (Claims.ruleOf rid).check s tenant inst (s.bodyOf (Claims.schemaOf rid) inst) ((Claims.schemaOf rid).defaulted (s.bodyOf (Claims.schemaOf rid) inst)) = none →
    ∃ t, Machine.exec (.ctrlRecordDefault ch rid inst tenant) s = .next t ∧ Claims.Frame [.mail] (s.applyBody (Claims.ruleOf rid) (Claims.schemaOf rid) tenant inst ((Claims.schemaOf rid).defaulted (s.bodyOf (Claims.schemaOf rid) inst))) t) ∧
  (∀ (s : State) (ch : Nat) (r : Request) (c : Caller) (total : Nat) (part : List Byte),
    Claims.Asked s ch .configBundleSubmit r c →
    (s.chan ch).await = none →
    c.isOfficer = true →
    c.body.length = 8 + part.length →
    part.length ≤ 262136 →
    s.upd.bundle = none →
    total ≤ 1048656 →
    part.length < total →
    Machine.exec (.configBundleSubmit ch total 0 part) s = .next (({ s with upd := { s.upd with bundle := some { sessionId := c.sessionId, total := total, bytes := part, lastMs := s.time.ms } } }).respond ch r { status := .continue' })) ∧
  (∀ (s : State) (ch : Nat) (r : Request) (c : Caller) (a : BundleAsm) (part : List Byte),
    Claims.Asked s ch .configBundleSubmit r c →
    (s.chan ch).await = none →
    c.isOfficer = true →
    c.body.length = 8 + part.length →
    part.length ≤ 262136 →
    s.upd.bundle = some a →
    a.sessionId = c.sessionId →
    a.total ≤ 1048656 →
    a.bytes.length + part.length < a.total →
    Machine.exec (.configBundleSubmit ch a.total a.bytes.length part) s = .next (({ s with upd := { s.upd with bundle := some { a with bytes := a.bytes ++ part, lastMs := s.time.ms } } }).respond ch r { status := .continue' })) ∧
  (∀ (s : State) (ch : Nat) (r : Request) (c : Caller) (rid inst tenant : Nat),
    Claims.Asked s ch .ctrlRecordDefault r c →
    c.slots 3 = true →
    (s.chan ch).await = none →
    (recordRule rid).isSome = true →
    (Claims.ruleOf rid).writer s c tenant inst = true →
    (Claims.ruleOf rid).owner s inst = .chip ∨ (Claims.ruleOf rid).owner s inst = .header ∨ (Claims.ruleOf rid).owner s inst = .object tenant →
    tenant < 16 →
    inst < (Claims.schemaOf rid).instances →
    s.recordOwner (Claims.ruleOf rid) rid inst = none →
    (Claims.ruleOf rid).absent s inst ((Claims.schemaOf rid).defaulted (s.bodyOf (Claims.schemaOf rid) inst)) = none →
    s.isReleasing tenant = false →
    ∃ t, Machine.exec (.ctrlRecordDefault ch rid inst tenant) s = .next t ∧ Claims.Frame [.mail] s t)
end

