-- ==== Sys2Proof/Laws/State.lean ====
section
/-! SUPPORT. What each named update of State leaves as it was, one field an equation, and what it reads back. Each lemma is a conjunction, which
simp takes apart into its equations. -/

namespace Sys2Proof.Machine

open Sys2Proof

/-! ### Tables -/

theorem Map.get?_put {κ α : Type} [DecidableEq κ] (m : Map κ α) (k j : κ) (v : α) :
    Map.get? (Map.put m k v) j = if k = j then some v else Map.get? m j := by
  induction m with
  | nil => by_cases h : k = j <;> simp [Map.put, Map.get?, h]
  | cons e t ih =>
    obtain ⟨a, b⟩ := e
    by_cases h : a = k
    · subst h
      by_cases h2 : a = j <;> simp [Map.put, Map.get?, h2]
    · by_cases h2 : a = j
      · subst h2
        have : ¬k = a := fun e => h e.symm
        simp [Map.put, Map.get?, h, this]
      · simp [Map.put, Map.get?, h, h2, ih]

@[simp] theorem Map.get?_put_self {κ α : Type} [DecidableEq κ] (m : Map κ α) (k : κ) (v : α) : Map.get? (Map.put m k v) k = some v := by
  simp [Map.get?_put]

@[simp] theorem Map.getD_put_self {κ α : Type} [DecidableEq κ] (m : Map κ α) (k : κ) (v d : α) : Map.getD (Map.put m k v) k d = v := by
  simp [Map.getD]

theorem Map.getD_put {κ α : Type} [DecidableEq κ] (m : Map κ α) (k j : κ) (v d : α) :
    Map.getD (Map.put m k v) j d = if k = j then v else Map.getD m j d := by
  unfold Map.getD
  rw [Map.get?_put]
  split <;> rfl

/-! ### Setters -/

/-- setUnit changes arch alone. -/
@[simp] theorem State.setUnit_frame (s : State) (u : UnitId) (x : EnUnit) :
    (s.setUnit u x).pending = s.pending ∧ (s.setUnit u x).freeCtr = s.freeCtr ∧ (s.setUnit u x).ctrs = s.ctrs ∧ (s.setUnit u x).records = s.records ∧
    (s.setUnit u x).mail = s.mail ∧ (s.setUnit u x).time = s.time ∧ (s.setUnit u x).ev = s.ev ∧ (s.setUnit u x).ten = s.ten ∧
    (s.setUnit u x).pair = s.pair ∧ (s.setUnit u x).upd = s.upd ∧ (s.setUnit u x).safe = s.safe ∧ (s.setUnit u x).ports = s.ports ∧
    (s.setUnit u x).pow = s.pow ∧ (s.setUnit u x).store = s.store ∧ (s.setUnit u x).vault = s.vault ∧ (s.setUnit u x).lanes = s.lanes ∧
    (s.setUnit u x).filt = s.filt ∧ (s.setUnit u x).rx = s.rx ∧ (s.setUnit u x).lea = s.lea ∧ (s.setUnit u x).marks = s.marks ∧
    (s.setUnit u x).sec = s.sec ∧ (s.setUnit u x).led = s.led ∧ (s.setUnit u x).tar = s.tar ∧ (s.setUnit u x).pre = s.pre ∧
    (s.setUnit u x).air = s.air ∧ (s.setUnit u x).fl = s.fl ∧ (s.setUnit u x).ling = s.ling ∧ (s.setUnit u x).met = s.met ∧
    (s.setUnit u x).bal = s.bal := by
  refine ⟨?_, ?_, ?_, ?_, ?_, ?_, ?_, ?_, ?_, ?_, ?_, ?_, ?_, ?_, ?_, ?_, ?_, ?_, ?_, ?_, ?_, ?_, ?_, ?_, ?_, ?_, ?_, ?_, ?_⟩ <;> rfl

/-- setChan changes mail alone. -/
@[simp] theorem State.setChan_frame (s : State) (n : Nat) (c : Channel) :
    (s.setChan n c).pending = s.pending ∧ (s.setChan n c).freeCtr = s.freeCtr ∧ (s.setChan n c).ctrs = s.ctrs ∧ (s.setChan n c).records = s.records ∧
    (s.setChan n c).arch = s.arch ∧ (s.setChan n c).time = s.time ∧ (s.setChan n c).ev = s.ev ∧ (s.setChan n c).ten = s.ten ∧
    (s.setChan n c).pair = s.pair ∧ (s.setChan n c).upd = s.upd ∧ (s.setChan n c).safe = s.safe ∧ (s.setChan n c).ports = s.ports ∧
    (s.setChan n c).pow = s.pow ∧ (s.setChan n c).store = s.store ∧ (s.setChan n c).vault = s.vault ∧ (s.setChan n c).lanes = s.lanes ∧
    (s.setChan n c).filt = s.filt ∧ (s.setChan n c).rx = s.rx ∧ (s.setChan n c).lea = s.lea ∧ (s.setChan n c).marks = s.marks ∧
    (s.setChan n c).sec = s.sec ∧ (s.setChan n c).led = s.led ∧ (s.setChan n c).tar = s.tar ∧ (s.setChan n c).pre = s.pre ∧
    (s.setChan n c).air = s.air ∧ (s.setChan n c).fl = s.fl ∧ (s.setChan n c).ling = s.ling ∧ (s.setChan n c).met = s.met ∧
    (s.setChan n c).bal = s.bal := by
  refine ⟨?_, ?_, ?_, ?_, ?_, ?_, ?_, ?_, ?_, ?_, ?_, ?_, ?_, ?_, ?_, ?_, ?_, ?_, ?_, ?_, ?_, ?_, ?_, ?_, ?_, ?_, ?_, ?_, ?_⟩ <;> rfl

/-- modChan changes mail alone. -/
@[simp] theorem State.modChan_frame (s : State) (n : Nat) (f : Channel → Channel) :
    (s.modChan n f).pending = s.pending ∧ (s.modChan n f).freeCtr = s.freeCtr ∧ (s.modChan n f).ctrs = s.ctrs ∧ (s.modChan n f).records = s.records ∧
    (s.modChan n f).arch = s.arch ∧ (s.modChan n f).time = s.time ∧ (s.modChan n f).ev = s.ev ∧ (s.modChan n f).ten = s.ten ∧
    (s.modChan n f).pair = s.pair ∧ (s.modChan n f).upd = s.upd ∧ (s.modChan n f).safe = s.safe ∧ (s.modChan n f).ports = s.ports ∧
    (s.modChan n f).pow = s.pow ∧ (s.modChan n f).store = s.store ∧ (s.modChan n f).vault = s.vault ∧ (s.modChan n f).lanes = s.lanes ∧
    (s.modChan n f).filt = s.filt ∧ (s.modChan n f).rx = s.rx ∧ (s.modChan n f).lea = s.lea ∧ (s.modChan n f).marks = s.marks ∧
    (s.modChan n f).sec = s.sec ∧ (s.modChan n f).led = s.led ∧ (s.modChan n f).tar = s.tar ∧ (s.modChan n f).pre = s.pre ∧
    (s.modChan n f).air = s.air ∧ (s.modChan n f).fl = s.fl ∧ (s.modChan n f).ling = s.ling ∧ (s.modChan n f).met = s.met ∧
    (s.modChan n f).bal = s.bal := by
  refine ⟨?_, ?_, ?_, ?_, ?_, ?_, ?_, ?_, ?_, ?_, ?_, ?_, ?_, ?_, ?_, ?_, ?_, ?_, ?_, ?_, ?_, ?_, ?_, ?_, ?_, ?_, ?_, ?_, ?_⟩ <;> rfl

/-- setLane changes lanes alone. -/
@[simp] theorem State.setLane_frame (s : State) (n : Nat) (l : Lane) :
    (s.setLane n l).pending = s.pending ∧ (s.setLane n l).freeCtr = s.freeCtr ∧ (s.setLane n l).ctrs = s.ctrs ∧ (s.setLane n l).records = s.records ∧
    (s.setLane n l).arch = s.arch ∧ (s.setLane n l).mail = s.mail ∧ (s.setLane n l).time = s.time ∧ (s.setLane n l).ev = s.ev ∧
    (s.setLane n l).ten = s.ten ∧ (s.setLane n l).pair = s.pair ∧ (s.setLane n l).upd = s.upd ∧ (s.setLane n l).safe = s.safe ∧
    (s.setLane n l).ports = s.ports ∧ (s.setLane n l).pow = s.pow ∧ (s.setLane n l).store = s.store ∧ (s.setLane n l).vault = s.vault ∧
    (s.setLane n l).filt = s.filt ∧ (s.setLane n l).rx = s.rx ∧ (s.setLane n l).lea = s.lea ∧ (s.setLane n l).marks = s.marks ∧
    (s.setLane n l).sec = s.sec ∧ (s.setLane n l).led = s.led ∧ (s.setLane n l).tar = s.tar ∧ (s.setLane n l).pre = s.pre ∧
    (s.setLane n l).air = s.air ∧ (s.setLane n l).fl = s.fl ∧ (s.setLane n l).ling = s.ling ∧ (s.setLane n l).met = s.met ∧
    (s.setLane n l).bal = s.bal := by
  refine ⟨?_, ?_, ?_, ?_, ?_, ?_, ?_, ?_, ?_, ?_, ?_, ?_, ?_, ?_, ?_, ?_, ?_, ?_, ?_, ?_, ?_, ?_, ?_, ?_, ?_, ?_, ?_, ?_, ?_⟩ <;> rfl

/-- modLane changes lanes alone. -/
@[simp] theorem State.modLane_frame (s : State) (n : Nat) (f : Lane → Lane) :
    (s.modLane n f).pending = s.pending ∧ (s.modLane n f).freeCtr = s.freeCtr ∧ (s.modLane n f).ctrs = s.ctrs ∧ (s.modLane n f).records = s.records ∧
    (s.modLane n f).arch = s.arch ∧ (s.modLane n f).mail = s.mail ∧ (s.modLane n f).time = s.time ∧ (s.modLane n f).ev = s.ev ∧
    (s.modLane n f).ten = s.ten ∧ (s.modLane n f).pair = s.pair ∧ (s.modLane n f).upd = s.upd ∧ (s.modLane n f).safe = s.safe ∧
    (s.modLane n f).ports = s.ports ∧ (s.modLane n f).pow = s.pow ∧ (s.modLane n f).store = s.store ∧ (s.modLane n f).vault = s.vault ∧
    (s.modLane n f).filt = s.filt ∧ (s.modLane n f).rx = s.rx ∧ (s.modLane n f).lea = s.lea ∧ (s.modLane n f).marks = s.marks ∧
    (s.modLane n f).sec = s.sec ∧ (s.modLane n f).led = s.led ∧ (s.modLane n f).tar = s.tar ∧ (s.modLane n f).pre = s.pre ∧
    (s.modLane n f).air = s.air ∧ (s.modLane n f).fl = s.fl ∧ (s.modLane n f).ling = s.ling ∧ (s.modLane n f).met = s.met ∧
    (s.modLane n f).bal = s.bal := by
  refine ⟨?_, ?_, ?_, ?_, ?_, ?_, ?_, ?_, ?_, ?_, ?_, ?_, ?_, ?_, ?_, ?_, ?_, ?_, ?_, ?_, ?_, ?_, ?_, ?_, ?_, ?_, ?_, ?_, ?_⟩ <;> rfl

/-- setTenant changes ten alone. -/
@[simp] theorem State.setTenant_frame (s : State) (t : Nat) (x : TenantSt) :
    (s.setTenant t x).pending = s.pending ∧ (s.setTenant t x).freeCtr = s.freeCtr ∧ (s.setTenant t x).ctrs = s.ctrs ∧ (s.setTenant t x).records = s.records ∧
    (s.setTenant t x).arch = s.arch ∧ (s.setTenant t x).mail = s.mail ∧ (s.setTenant t x).time = s.time ∧ (s.setTenant t x).ev = s.ev ∧
    (s.setTenant t x).pair = s.pair ∧ (s.setTenant t x).upd = s.upd ∧ (s.setTenant t x).safe = s.safe ∧ (s.setTenant t x).ports = s.ports ∧
    (s.setTenant t x).pow = s.pow ∧ (s.setTenant t x).store = s.store ∧ (s.setTenant t x).vault = s.vault ∧ (s.setTenant t x).lanes = s.lanes ∧
    (s.setTenant t x).filt = s.filt ∧ (s.setTenant t x).rx = s.rx ∧ (s.setTenant t x).lea = s.lea ∧ (s.setTenant t x).marks = s.marks ∧
    (s.setTenant t x).sec = s.sec ∧ (s.setTenant t x).led = s.led ∧ (s.setTenant t x).tar = s.tar ∧ (s.setTenant t x).pre = s.pre ∧
    (s.setTenant t x).air = s.air ∧ (s.setTenant t x).fl = s.fl ∧ (s.setTenant t x).ling = s.ling ∧ (s.setTenant t x).met = s.met ∧
    (s.setTenant t x).bal = s.bal := by
  refine ⟨?_, ?_, ?_, ?_, ?_, ?_, ?_, ?_, ?_, ?_, ?_, ?_, ?_, ?_, ?_, ?_, ?_, ?_, ?_, ?_, ?_, ?_, ?_, ?_, ?_, ?_, ?_, ?_, ?_⟩ <;> rfl

/-- setPlan changes air alone. -/
@[simp] theorem State.setPlan_frame (s : State) (slot : Nat) (p : PlanMeter) :
    (s.setPlan slot p).pending = s.pending ∧ (s.setPlan slot p).freeCtr = s.freeCtr ∧ (s.setPlan slot p).ctrs = s.ctrs ∧ (s.setPlan slot p).records = s.records ∧
    (s.setPlan slot p).arch = s.arch ∧ (s.setPlan slot p).mail = s.mail ∧ (s.setPlan slot p).time = s.time ∧ (s.setPlan slot p).ev = s.ev ∧
    (s.setPlan slot p).ten = s.ten ∧ (s.setPlan slot p).pair = s.pair ∧ (s.setPlan slot p).upd = s.upd ∧ (s.setPlan slot p).safe = s.safe ∧
    (s.setPlan slot p).ports = s.ports ∧ (s.setPlan slot p).pow = s.pow ∧ (s.setPlan slot p).store = s.store ∧ (s.setPlan slot p).vault = s.vault ∧
    (s.setPlan slot p).lanes = s.lanes ∧ (s.setPlan slot p).filt = s.filt ∧ (s.setPlan slot p).rx = s.rx ∧ (s.setPlan slot p).lea = s.lea ∧
    (s.setPlan slot p).marks = s.marks ∧ (s.setPlan slot p).sec = s.sec ∧ (s.setPlan slot p).led = s.led ∧ (s.setPlan slot p).tar = s.tar ∧
    (s.setPlan slot p).pre = s.pre ∧ (s.setPlan slot p).fl = s.fl ∧ (s.setPlan slot p).ling = s.ling ∧ (s.setPlan slot p).met = s.met ∧
    (s.setPlan slot p).bal = s.bal := by
  refine ⟨?_, ?_, ?_, ?_, ?_, ?_, ?_, ?_, ?_, ?_, ?_, ?_, ?_, ?_, ?_, ?_, ?_, ?_, ?_, ?_, ?_, ?_, ?_, ?_, ?_, ?_, ?_, ?_, ?_⟩ <;> rfl

/-- setBalZone changes bal alone. -/
@[simp] theorem State.setBalZone_frame (s : State) (z : Nat) (x : BalZone) :
    (s.setBalZone z x).pending = s.pending ∧ (s.setBalZone z x).freeCtr = s.freeCtr ∧ (s.setBalZone z x).ctrs = s.ctrs ∧ (s.setBalZone z x).records = s.records ∧
    (s.setBalZone z x).arch = s.arch ∧ (s.setBalZone z x).mail = s.mail ∧ (s.setBalZone z x).time = s.time ∧ (s.setBalZone z x).ev = s.ev ∧
    (s.setBalZone z x).ten = s.ten ∧ (s.setBalZone z x).pair = s.pair ∧ (s.setBalZone z x).upd = s.upd ∧ (s.setBalZone z x).safe = s.safe ∧
    (s.setBalZone z x).ports = s.ports ∧ (s.setBalZone z x).pow = s.pow ∧ (s.setBalZone z x).store = s.store ∧ (s.setBalZone z x).vault = s.vault ∧
    (s.setBalZone z x).lanes = s.lanes ∧ (s.setBalZone z x).filt = s.filt ∧ (s.setBalZone z x).rx = s.rx ∧ (s.setBalZone z x).lea = s.lea ∧
    (s.setBalZone z x).marks = s.marks ∧ (s.setBalZone z x).sec = s.sec ∧ (s.setBalZone z x).led = s.led ∧ (s.setBalZone z x).tar = s.tar ∧
    (s.setBalZone z x).pre = s.pre ∧ (s.setBalZone z x).air = s.air ∧ (s.setBalZone z x).fl = s.fl ∧ (s.setBalZone z x).ling = s.ling ∧
    (s.setBalZone z x).met = s.met := by
  refine ⟨?_, ?_, ?_, ?_, ?_, ?_, ?_, ?_, ?_, ?_, ?_, ?_, ?_, ?_, ?_, ?_, ?_, ?_, ?_, ?_, ?_, ?_, ?_, ?_, ?_, ?_, ?_, ?_, ?_⟩ <;> rfl

/-- setBalMeter changes bal alone. -/
@[simp] theorem State.setBalMeter_frame (s : State) (slot : Nat) (x : BalMeterSt) :
    (s.setBalMeter slot x).pending = s.pending ∧ (s.setBalMeter slot x).freeCtr = s.freeCtr ∧ (s.setBalMeter slot x).ctrs = s.ctrs ∧ (s.setBalMeter slot x).records = s.records ∧
    (s.setBalMeter slot x).arch = s.arch ∧ (s.setBalMeter slot x).mail = s.mail ∧ (s.setBalMeter slot x).time = s.time ∧ (s.setBalMeter slot x).ev = s.ev ∧
    (s.setBalMeter slot x).ten = s.ten ∧ (s.setBalMeter slot x).pair = s.pair ∧ (s.setBalMeter slot x).upd = s.upd ∧ (s.setBalMeter slot x).safe = s.safe ∧
    (s.setBalMeter slot x).ports = s.ports ∧ (s.setBalMeter slot x).pow = s.pow ∧ (s.setBalMeter slot x).store = s.store ∧ (s.setBalMeter slot x).vault = s.vault ∧
    (s.setBalMeter slot x).lanes = s.lanes ∧ (s.setBalMeter slot x).filt = s.filt ∧ (s.setBalMeter slot x).rx = s.rx ∧ (s.setBalMeter slot x).lea = s.lea ∧
    (s.setBalMeter slot x).marks = s.marks ∧ (s.setBalMeter slot x).sec = s.sec ∧ (s.setBalMeter slot x).led = s.led ∧ (s.setBalMeter slot x).tar = s.tar ∧
    (s.setBalMeter slot x).pre = s.pre ∧ (s.setBalMeter slot x).air = s.air ∧ (s.setBalMeter slot x).fl = s.fl ∧ (s.setBalMeter slot x).ling = s.ling ∧
    (s.setBalMeter slot x).met = s.met := by
  refine ⟨?_, ?_, ?_, ?_, ?_, ?_, ?_, ?_, ?_, ?_, ?_, ?_, ?_, ?_, ?_, ?_, ?_, ?_, ?_, ?_, ?_, ?_, ?_, ?_, ?_, ?_, ?_, ?_, ?_⟩ <;> rfl

/-- setTrig changes ev alone. -/
@[simp] theorem State.setTrig_frame (s : State) (i : Nat) (t : TrigSt) :
    (s.setTrig i t).pending = s.pending ∧ (s.setTrig i t).freeCtr = s.freeCtr ∧ (s.setTrig i t).ctrs = s.ctrs ∧ (s.setTrig i t).records = s.records ∧
    (s.setTrig i t).arch = s.arch ∧ (s.setTrig i t).mail = s.mail ∧ (s.setTrig i t).time = s.time ∧ (s.setTrig i t).ten = s.ten ∧
    (s.setTrig i t).pair = s.pair ∧ (s.setTrig i t).upd = s.upd ∧ (s.setTrig i t).safe = s.safe ∧ (s.setTrig i t).ports = s.ports ∧
    (s.setTrig i t).pow = s.pow ∧ (s.setTrig i t).store = s.store ∧ (s.setTrig i t).vault = s.vault ∧ (s.setTrig i t).lanes = s.lanes ∧
    (s.setTrig i t).filt = s.filt ∧ (s.setTrig i t).rx = s.rx ∧ (s.setTrig i t).lea = s.lea ∧ (s.setTrig i t).marks = s.marks ∧
    (s.setTrig i t).sec = s.sec ∧ (s.setTrig i t).led = s.led ∧ (s.setTrig i t).tar = s.tar ∧ (s.setTrig i t).pre = s.pre ∧
    (s.setTrig i t).air = s.air ∧ (s.setTrig i t).fl = s.fl ∧ (s.setTrig i t).ling = s.ling ∧ (s.setTrig i t).met = s.met ∧
    (s.setTrig i t).bal = s.bal := by
  refine ⟨?_, ?_, ?_, ?_, ?_, ?_, ?_, ?_, ?_, ?_, ?_, ?_, ?_, ?_, ?_, ?_, ?_, ?_, ?_, ?_, ?_, ?_, ?_, ?_, ?_, ?_, ?_, ?_, ?_⟩ <;> rfl

/-- setChanFilt changes filt alone. -/
@[simp] theorem State.setChanFilt_frame (s : State) (i : Nat) (x : ChanFilt) :
    (s.setChanFilt i x).pending = s.pending ∧ (s.setChanFilt i x).freeCtr = s.freeCtr ∧ (s.setChanFilt i x).ctrs = s.ctrs ∧ (s.setChanFilt i x).records = s.records ∧
    (s.setChanFilt i x).arch = s.arch ∧ (s.setChanFilt i x).mail = s.mail ∧ (s.setChanFilt i x).time = s.time ∧ (s.setChanFilt i x).ev = s.ev ∧
    (s.setChanFilt i x).ten = s.ten ∧ (s.setChanFilt i x).pair = s.pair ∧ (s.setChanFilt i x).upd = s.upd ∧ (s.setChanFilt i x).safe = s.safe ∧
    (s.setChanFilt i x).ports = s.ports ∧ (s.setChanFilt i x).pow = s.pow ∧ (s.setChanFilt i x).store = s.store ∧ (s.setChanFilt i x).vault = s.vault ∧
    (s.setChanFilt i x).lanes = s.lanes ∧ (s.setChanFilt i x).rx = s.rx ∧ (s.setChanFilt i x).lea = s.lea ∧ (s.setChanFilt i x).marks = s.marks ∧
    (s.setChanFilt i x).sec = s.sec ∧ (s.setChanFilt i x).led = s.led ∧ (s.setChanFilt i x).tar = s.tar ∧ (s.setChanFilt i x).pre = s.pre ∧
    (s.setChanFilt i x).air = s.air ∧ (s.setChanFilt i x).fl = s.fl ∧ (s.setChanFilt i x).ling = s.ling ∧ (s.setChanFilt i x).met = s.met ∧
    (s.setChanFilt i x).bal = s.bal := by
  refine ⟨?_, ?_, ?_, ?_, ?_, ?_, ?_, ?_, ?_, ?_, ?_, ?_, ?_, ?_, ?_, ?_, ?_, ?_, ?_, ?_, ?_, ?_, ?_, ?_, ?_, ?_, ?_, ?_, ?_⟩ <;> rfl

/-- setDc changes filt alone. -/
@[simp] theorem State.setDc_frame (s : State) (t : Nat) (d : DcSt) :
    (s.setDc t d).pending = s.pending ∧ (s.setDc t d).freeCtr = s.freeCtr ∧ (s.setDc t d).ctrs = s.ctrs ∧ (s.setDc t d).records = s.records ∧
    (s.setDc t d).arch = s.arch ∧ (s.setDc t d).mail = s.mail ∧ (s.setDc t d).time = s.time ∧ (s.setDc t d).ev = s.ev ∧
    (s.setDc t d).ten = s.ten ∧ (s.setDc t d).pair = s.pair ∧ (s.setDc t d).upd = s.upd ∧ (s.setDc t d).safe = s.safe ∧
    (s.setDc t d).ports = s.ports ∧ (s.setDc t d).pow = s.pow ∧ (s.setDc t d).store = s.store ∧ (s.setDc t d).vault = s.vault ∧
    (s.setDc t d).lanes = s.lanes ∧ (s.setDc t d).rx = s.rx ∧ (s.setDc t d).lea = s.lea ∧ (s.setDc t d).marks = s.marks ∧
    (s.setDc t d).sec = s.sec ∧ (s.setDc t d).led = s.led ∧ (s.setDc t d).tar = s.tar ∧ (s.setDc t d).pre = s.pre ∧
    (s.setDc t d).air = s.air ∧ (s.setDc t d).fl = s.fl ∧ (s.setDc t d).ling = s.ling ∧ (s.setDc t d).met = s.met ∧
    (s.setDc t d).bal = s.bal := by
  refine ⟨?_, ?_, ?_, ?_, ?_, ?_, ?_, ?_, ?_, ?_, ?_, ?_, ?_, ?_, ?_, ?_, ?_, ?_, ?_, ?_, ?_, ?_, ?_, ?_, ?_, ?_, ?_, ?_, ?_⟩ <;> rfl

/-- setCapture changes filt alone. -/
@[simp] theorem State.setCapture_frame (s : State) (c : Capture) :
    (s.setCapture c).pending = s.pending ∧ (s.setCapture c).freeCtr = s.freeCtr ∧ (s.setCapture c).ctrs = s.ctrs ∧ (s.setCapture c).records = s.records ∧
    (s.setCapture c).arch = s.arch ∧ (s.setCapture c).mail = s.mail ∧ (s.setCapture c).time = s.time ∧ (s.setCapture c).ev = s.ev ∧
    (s.setCapture c).ten = s.ten ∧ (s.setCapture c).pair = s.pair ∧ (s.setCapture c).upd = s.upd ∧ (s.setCapture c).safe = s.safe ∧
    (s.setCapture c).ports = s.ports ∧ (s.setCapture c).pow = s.pow ∧ (s.setCapture c).store = s.store ∧ (s.setCapture c).vault = s.vault ∧
    (s.setCapture c).lanes = s.lanes ∧ (s.setCapture c).rx = s.rx ∧ (s.setCapture c).lea = s.lea ∧ (s.setCapture c).marks = s.marks ∧
    (s.setCapture c).sec = s.sec ∧ (s.setCapture c).led = s.led ∧ (s.setCapture c).tar = s.tar ∧ (s.setCapture c).pre = s.pre ∧
    (s.setCapture c).air = s.air ∧ (s.setCapture c).fl = s.fl ∧ (s.setCapture c).ling = s.ling ∧ (s.setCapture c).met = s.met ∧
    (s.setCapture c).bal = s.bal := by
  refine ⟨?_, ?_, ?_, ?_, ?_, ?_, ?_, ?_, ?_, ?_, ?_, ?_, ?_, ?_, ?_, ?_, ?_, ?_, ?_, ?_, ?_, ?_, ?_, ?_, ?_, ?_, ?_, ?_, ?_⟩ <;> rfl

/-- setLingTrib changes ling alone. -/
@[simp] theorem State.setLingTrib_frame (s : State) (t : Nat) (x : LingTrib) :
    (s.setLingTrib t x).pending = s.pending ∧ (s.setLingTrib t x).freeCtr = s.freeCtr ∧ (s.setLingTrib t x).ctrs = s.ctrs ∧ (s.setLingTrib t x).records = s.records ∧
    (s.setLingTrib t x).arch = s.arch ∧ (s.setLingTrib t x).mail = s.mail ∧ (s.setLingTrib t x).time = s.time ∧ (s.setLingTrib t x).ev = s.ev ∧
    (s.setLingTrib t x).ten = s.ten ∧ (s.setLingTrib t x).pair = s.pair ∧ (s.setLingTrib t x).upd = s.upd ∧ (s.setLingTrib t x).safe = s.safe ∧
    (s.setLingTrib t x).ports = s.ports ∧ (s.setLingTrib t x).pow = s.pow ∧ (s.setLingTrib t x).store = s.store ∧ (s.setLingTrib t x).vault = s.vault ∧
    (s.setLingTrib t x).lanes = s.lanes ∧ (s.setLingTrib t x).filt = s.filt ∧ (s.setLingTrib t x).rx = s.rx ∧ (s.setLingTrib t x).lea = s.lea ∧
    (s.setLingTrib t x).marks = s.marks ∧ (s.setLingTrib t x).sec = s.sec ∧ (s.setLingTrib t x).led = s.led ∧ (s.setLingTrib t x).tar = s.tar ∧
    (s.setLingTrib t x).pre = s.pre ∧ (s.setLingTrib t x).air = s.air ∧ (s.setLingTrib t x).fl = s.fl ∧ (s.setLingTrib t x).met = s.met ∧
    (s.setLingTrib t x).bal = s.bal := by
  refine ⟨?_, ?_, ?_, ?_, ?_, ?_, ?_, ?_, ?_, ?_, ?_, ?_, ?_, ?_, ?_, ?_, ?_, ?_, ?_, ?_, ?_, ?_, ?_, ?_, ?_, ?_, ?_, ?_, ?_⟩ <;> rfl

/-- setLingMeter changes ling alone. -/
@[simp] theorem State.setLingMeter_frame (s : State) (slot : Nat) (x : LingMeterSt) :
    (s.setLingMeter slot x).pending = s.pending ∧ (s.setLingMeter slot x).freeCtr = s.freeCtr ∧ (s.setLingMeter slot x).ctrs = s.ctrs ∧ (s.setLingMeter slot x).records = s.records ∧
    (s.setLingMeter slot x).arch = s.arch ∧ (s.setLingMeter slot x).mail = s.mail ∧ (s.setLingMeter slot x).time = s.time ∧ (s.setLingMeter slot x).ev = s.ev ∧
    (s.setLingMeter slot x).ten = s.ten ∧ (s.setLingMeter slot x).pair = s.pair ∧ (s.setLingMeter slot x).upd = s.upd ∧ (s.setLingMeter slot x).safe = s.safe ∧
    (s.setLingMeter slot x).ports = s.ports ∧ (s.setLingMeter slot x).pow = s.pow ∧ (s.setLingMeter slot x).store = s.store ∧ (s.setLingMeter slot x).vault = s.vault ∧
    (s.setLingMeter slot x).lanes = s.lanes ∧ (s.setLingMeter slot x).filt = s.filt ∧ (s.setLingMeter slot x).rx = s.rx ∧ (s.setLingMeter slot x).lea = s.lea ∧
    (s.setLingMeter slot x).marks = s.marks ∧ (s.setLingMeter slot x).sec = s.sec ∧ (s.setLingMeter slot x).led = s.led ∧ (s.setLingMeter slot x).tar = s.tar ∧
    (s.setLingMeter slot x).pre = s.pre ∧ (s.setLingMeter slot x).air = s.air ∧ (s.setLingMeter slot x).fl = s.fl ∧ (s.setLingMeter slot x).met = s.met ∧
    (s.setLingMeter slot x).bal = s.bal := by
  refine ⟨?_, ?_, ?_, ?_, ?_, ?_, ?_, ?_, ?_, ?_, ?_, ?_, ?_, ?_, ?_, ?_, ?_, ?_, ?_, ?_, ?_, ?_, ?_, ?_, ?_, ?_, ?_, ?_, ?_⟩ <;> rfl

/-- setHeadEnd changes ports alone. -/
@[simp] theorem State.setHeadEnd_frame (s : State) (i : Nat) (x : HeadEndSession) :
    (s.setHeadEnd i x).pending = s.pending ∧ (s.setHeadEnd i x).freeCtr = s.freeCtr ∧ (s.setHeadEnd i x).ctrs = s.ctrs ∧ (s.setHeadEnd i x).records = s.records ∧
    (s.setHeadEnd i x).arch = s.arch ∧ (s.setHeadEnd i x).mail = s.mail ∧ (s.setHeadEnd i x).time = s.time ∧ (s.setHeadEnd i x).ev = s.ev ∧
    (s.setHeadEnd i x).ten = s.ten ∧ (s.setHeadEnd i x).pair = s.pair ∧ (s.setHeadEnd i x).upd = s.upd ∧ (s.setHeadEnd i x).safe = s.safe ∧
    (s.setHeadEnd i x).pow = s.pow ∧ (s.setHeadEnd i x).store = s.store ∧ (s.setHeadEnd i x).vault = s.vault ∧ (s.setHeadEnd i x).lanes = s.lanes ∧
    (s.setHeadEnd i x).filt = s.filt ∧ (s.setHeadEnd i x).rx = s.rx ∧ (s.setHeadEnd i x).lea = s.lea ∧ (s.setHeadEnd i x).marks = s.marks ∧
    (s.setHeadEnd i x).sec = s.sec ∧ (s.setHeadEnd i x).led = s.led ∧ (s.setHeadEnd i x).tar = s.tar ∧ (s.setHeadEnd i x).pre = s.pre ∧
    (s.setHeadEnd i x).air = s.air ∧ (s.setHeadEnd i x).fl = s.fl ∧ (s.setHeadEnd i x).ling = s.ling ∧ (s.setHeadEnd i x).met = s.met ∧
    (s.setHeadEnd i x).bal = s.bal := by
  refine ⟨?_, ?_, ?_, ?_, ?_, ?_, ?_, ?_, ?_, ?_, ?_, ?_, ?_, ?_, ?_, ?_, ?_, ?_, ?_, ?_, ?_, ?_, ?_, ?_, ?_, ?_, ?_, ?_, ?_⟩ <;> rfl

/-- setMetro changes met alone. -/
@[simp] theorem State.setMetro_frame (s : State) (t : Nat) (x : MetroTrib) :
    (s.setMetro t x).pending = s.pending ∧ (s.setMetro t x).freeCtr = s.freeCtr ∧ (s.setMetro t x).ctrs = s.ctrs ∧ (s.setMetro t x).records = s.records ∧
    (s.setMetro t x).arch = s.arch ∧ (s.setMetro t x).mail = s.mail ∧ (s.setMetro t x).time = s.time ∧ (s.setMetro t x).ev = s.ev ∧
    (s.setMetro t x).ten = s.ten ∧ (s.setMetro t x).pair = s.pair ∧ (s.setMetro t x).upd = s.upd ∧ (s.setMetro t x).safe = s.safe ∧
    (s.setMetro t x).ports = s.ports ∧ (s.setMetro t x).pow = s.pow ∧ (s.setMetro t x).store = s.store ∧ (s.setMetro t x).vault = s.vault ∧
    (s.setMetro t x).lanes = s.lanes ∧ (s.setMetro t x).filt = s.filt ∧ (s.setMetro t x).rx = s.rx ∧ (s.setMetro t x).lea = s.lea ∧
    (s.setMetro t x).marks = s.marks ∧ (s.setMetro t x).sec = s.sec ∧ (s.setMetro t x).led = s.led ∧ (s.setMetro t x).tar = s.tar ∧
    (s.setMetro t x).pre = s.pre ∧ (s.setMetro t x).air = s.air ∧ (s.setMetro t x).fl = s.fl ∧ (s.setMetro t x).ling = s.ling ∧
    (s.setMetro t x).bal = s.bal := by
  refine ⟨?_, ?_, ?_, ?_, ?_, ?_, ?_, ?_, ?_, ?_, ?_, ?_, ?_, ?_, ?_, ?_, ?_, ?_, ?_, ?_, ?_, ?_, ?_, ?_, ?_, ?_, ?_, ?_, ?_⟩ <;> rfl

/-- setPulse changes met alone. -/
@[simp] theorem State.setPulse_frame (s : State) (p : Nat) (x : Pulse) :
    (s.setPulse p x).pending = s.pending ∧ (s.setPulse p x).freeCtr = s.freeCtr ∧ (s.setPulse p x).ctrs = s.ctrs ∧ (s.setPulse p x).records = s.records ∧
    (s.setPulse p x).arch = s.arch ∧ (s.setPulse p x).mail = s.mail ∧ (s.setPulse p x).time = s.time ∧ (s.setPulse p x).ev = s.ev ∧
    (s.setPulse p x).ten = s.ten ∧ (s.setPulse p x).pair = s.pair ∧ (s.setPulse p x).upd = s.upd ∧ (s.setPulse p x).safe = s.safe ∧
    (s.setPulse p x).ports = s.ports ∧ (s.setPulse p x).pow = s.pow ∧ (s.setPulse p x).store = s.store ∧ (s.setPulse p x).vault = s.vault ∧
    (s.setPulse p x).lanes = s.lanes ∧ (s.setPulse p x).filt = s.filt ∧ (s.setPulse p x).rx = s.rx ∧ (s.setPulse p x).lea = s.lea ∧
    (s.setPulse p x).marks = s.marks ∧ (s.setPulse p x).sec = s.sec ∧ (s.setPulse p x).led = s.led ∧ (s.setPulse p x).tar = s.tar ∧
    (s.setPulse p x).pre = s.pre ∧ (s.setPulse p x).air = s.air ∧ (s.setPulse p x).fl = s.fl ∧ (s.setPulse p x).ling = s.ling ∧
    (s.setPulse p x).bal = s.bal := by
  refine ⟨?_, ?_, ?_, ?_, ?_, ?_, ?_, ?_, ?_, ?_, ?_, ?_, ?_, ?_, ?_, ?_, ?_, ?_, ?_, ?_, ?_, ?_, ?_, ?_, ?_, ?_, ?_, ?_, ?_⟩ <;> rfl

/-- setCtx changes rx alone. -/
@[simp] theorem State.setCtx_frame (s : State) (n : Nat) (c : RxCtx) :
    (s.setCtx n c).pending = s.pending ∧ (s.setCtx n c).freeCtr = s.freeCtr ∧ (s.setCtx n c).ctrs = s.ctrs ∧ (s.setCtx n c).records = s.records ∧
    (s.setCtx n c).arch = s.arch ∧ (s.setCtx n c).mail = s.mail ∧ (s.setCtx n c).time = s.time ∧ (s.setCtx n c).ev = s.ev ∧
    (s.setCtx n c).ten = s.ten ∧ (s.setCtx n c).pair = s.pair ∧ (s.setCtx n c).upd = s.upd ∧ (s.setCtx n c).safe = s.safe ∧
    (s.setCtx n c).ports = s.ports ∧ (s.setCtx n c).pow = s.pow ∧ (s.setCtx n c).store = s.store ∧ (s.setCtx n c).vault = s.vault ∧
    (s.setCtx n c).lanes = s.lanes ∧ (s.setCtx n c).filt = s.filt ∧ (s.setCtx n c).lea = s.lea ∧ (s.setCtx n c).marks = s.marks ∧
    (s.setCtx n c).sec = s.sec ∧ (s.setCtx n c).led = s.led ∧ (s.setCtx n c).tar = s.tar ∧ (s.setCtx n c).pre = s.pre ∧
    (s.setCtx n c).air = s.air ∧ (s.setCtx n c).fl = s.fl ∧ (s.setCtx n c).ling = s.ling ∧ (s.setCtx n c).met = s.met ∧
    (s.setCtx n c).bal = s.bal := by
  refine ⟨?_, ?_, ?_, ?_, ?_, ?_, ?_, ?_, ?_, ?_, ?_, ?_, ?_, ?_, ?_, ?_, ?_, ?_, ?_, ?_, ?_, ?_, ?_, ?_, ?_, ?_, ?_, ?_, ?_⟩ <;> rfl

/-- setLockout changes safe alone. -/
@[simp] theorem State.setLockout_frame (s : State) (i : Nat) (x : Lockout) :
    (s.setLockout i x).pending = s.pending ∧ (s.setLockout i x).freeCtr = s.freeCtr ∧ (s.setLockout i x).ctrs = s.ctrs ∧ (s.setLockout i x).records = s.records ∧
    (s.setLockout i x).arch = s.arch ∧ (s.setLockout i x).mail = s.mail ∧ (s.setLockout i x).time = s.time ∧ (s.setLockout i x).ev = s.ev ∧
    (s.setLockout i x).ten = s.ten ∧ (s.setLockout i x).pair = s.pair ∧ (s.setLockout i x).upd = s.upd ∧ (s.setLockout i x).ports = s.ports ∧
    (s.setLockout i x).pow = s.pow ∧ (s.setLockout i x).store = s.store ∧ (s.setLockout i x).vault = s.vault ∧ (s.setLockout i x).lanes = s.lanes ∧
    (s.setLockout i x).filt = s.filt ∧ (s.setLockout i x).rx = s.rx ∧ (s.setLockout i x).lea = s.lea ∧ (s.setLockout i x).marks = s.marks ∧
    (s.setLockout i x).sec = s.sec ∧ (s.setLockout i x).led = s.led ∧ (s.setLockout i x).tar = s.tar ∧ (s.setLockout i x).pre = s.pre ∧
    (s.setLockout i x).air = s.air ∧ (s.setLockout i x).fl = s.fl ∧ (s.setLockout i x).ling = s.ling ∧ (s.setLockout i x).met = s.met ∧
    (s.setLockout i x).bal = s.bal := by
  refine ⟨?_, ?_, ?_, ?_, ?_, ?_, ?_, ?_, ?_, ?_, ?_, ?_, ?_, ?_, ?_, ?_, ?_, ?_, ?_, ?_, ?_, ?_, ?_, ?_, ?_, ?_, ?_, ?_, ?_⟩ <;> rfl

/-- setSafe changes safe alone. -/
@[simp] theorem State.setSafe_frame (s : State) (slot : Nat) (x : SafeMeter) :
    (s.setSafe slot x).pending = s.pending ∧ (s.setSafe slot x).freeCtr = s.freeCtr ∧ (s.setSafe slot x).ctrs = s.ctrs ∧ (s.setSafe slot x).records = s.records ∧
    (s.setSafe slot x).arch = s.arch ∧ (s.setSafe slot x).mail = s.mail ∧ (s.setSafe slot x).time = s.time ∧ (s.setSafe slot x).ev = s.ev ∧
    (s.setSafe slot x).ten = s.ten ∧ (s.setSafe slot x).pair = s.pair ∧ (s.setSafe slot x).upd = s.upd ∧ (s.setSafe slot x).ports = s.ports ∧
    (s.setSafe slot x).pow = s.pow ∧ (s.setSafe slot x).store = s.store ∧ (s.setSafe slot x).vault = s.vault ∧ (s.setSafe slot x).lanes = s.lanes ∧
    (s.setSafe slot x).filt = s.filt ∧ (s.setSafe slot x).rx = s.rx ∧ (s.setSafe slot x).lea = s.lea ∧ (s.setSafe slot x).marks = s.marks ∧
    (s.setSafe slot x).sec = s.sec ∧ (s.setSafe slot x).led = s.led ∧ (s.setSafe slot x).tar = s.tar ∧ (s.setSafe slot x).pre = s.pre ∧
    (s.setSafe slot x).air = s.air ∧ (s.setSafe slot x).fl = s.fl ∧ (s.setSafe slot x).ling = s.ling ∧ (s.setSafe slot x).met = s.met ∧
    (s.setSafe slot x).bal = s.bal := by
  refine ⟨?_, ?_, ?_, ?_, ?_, ?_, ?_, ?_, ?_, ?_, ?_, ?_, ?_, ?_, ?_, ?_, ?_, ?_, ?_, ?_, ?_, ?_, ?_, ?_, ?_, ?_, ?_, ?_, ?_⟩ <;> rfl

/-- setDie changes store alone. -/
@[simp] theorem State.setDie_frame (s : State) (c d : Nat) (x : Die) :
    (s.setDie c d x).pending = s.pending ∧ (s.setDie c d x).freeCtr = s.freeCtr ∧ (s.setDie c d x).ctrs = s.ctrs ∧ (s.setDie c d x).records = s.records ∧
    (s.setDie c d x).arch = s.arch ∧ (s.setDie c d x).mail = s.mail ∧ (s.setDie c d x).time = s.time ∧ (s.setDie c d x).ev = s.ev ∧
    (s.setDie c d x).ten = s.ten ∧ (s.setDie c d x).pair = s.pair ∧ (s.setDie c d x).upd = s.upd ∧ (s.setDie c d x).safe = s.safe ∧
    (s.setDie c d x).ports = s.ports ∧ (s.setDie c d x).pow = s.pow ∧ (s.setDie c d x).vault = s.vault ∧ (s.setDie c d x).lanes = s.lanes ∧
    (s.setDie c d x).filt = s.filt ∧ (s.setDie c d x).rx = s.rx ∧ (s.setDie c d x).lea = s.lea ∧ (s.setDie c d x).marks = s.marks ∧
    (s.setDie c d x).sec = s.sec ∧ (s.setDie c d x).led = s.led ∧ (s.setDie c d x).tar = s.tar ∧ (s.setDie c d x).pre = s.pre ∧
    (s.setDie c d x).air = s.air ∧ (s.setDie c d x).fl = s.fl ∧ (s.setDie c d x).ling = s.ling ∧ (s.setDie c d x).met = s.met ∧
    (s.setDie c d x).bal = s.bal := by
  refine ⟨?_, ?_, ?_, ?_, ?_, ?_, ?_, ?_, ?_, ?_, ?_, ?_, ?_, ?_, ?_, ?_, ?_, ?_, ?_, ?_, ?_, ?_, ?_, ?_, ?_, ?_, ?_, ?_, ?_⟩ <;> rfl

/-- setBlock changes store alone. -/
@[simp] theorem State.setBlock_frame (s : State) (k : Nat × Nat × Nat) (x : BlockSt) :
    (s.setBlock k x).pending = s.pending ∧ (s.setBlock k x).freeCtr = s.freeCtr ∧ (s.setBlock k x).ctrs = s.ctrs ∧ (s.setBlock k x).records = s.records ∧
    (s.setBlock k x).arch = s.arch ∧ (s.setBlock k x).mail = s.mail ∧ (s.setBlock k x).time = s.time ∧ (s.setBlock k x).ev = s.ev ∧
    (s.setBlock k x).ten = s.ten ∧ (s.setBlock k x).pair = s.pair ∧ (s.setBlock k x).upd = s.upd ∧ (s.setBlock k x).safe = s.safe ∧
    (s.setBlock k x).ports = s.ports ∧ (s.setBlock k x).pow = s.pow ∧ (s.setBlock k x).vault = s.vault ∧ (s.setBlock k x).lanes = s.lanes ∧
    (s.setBlock k x).filt = s.filt ∧ (s.setBlock k x).rx = s.rx ∧ (s.setBlock k x).lea = s.lea ∧ (s.setBlock k x).marks = s.marks ∧
    (s.setBlock k x).sec = s.sec ∧ (s.setBlock k x).led = s.led ∧ (s.setBlock k x).tar = s.tar ∧ (s.setBlock k x).pre = s.pre ∧
    (s.setBlock k x).air = s.air ∧ (s.setBlock k x).fl = s.fl ∧ (s.setBlock k x).ling = s.ling ∧ (s.setBlock k x).met = s.met ∧
    (s.setBlock k x).bal = s.bal := by
  refine ⟨?_, ?_, ?_, ?_, ?_, ?_, ?_, ?_, ?_, ?_, ?_, ?_, ?_, ?_, ?_, ?_, ?_, ?_, ?_, ?_, ?_, ?_, ?_, ?_, ?_, ?_, ?_, ?_, ?_⟩ <;> rfl

/-- charge changes ten alone. -/
@[simp] theorem State.charge_frame (s : State) (r : Resource) (t n : Nat) :
    (s.charge r t n).pending = s.pending ∧ (s.charge r t n).freeCtr = s.freeCtr ∧ (s.charge r t n).ctrs = s.ctrs ∧ (s.charge r t n).records = s.records ∧
    (s.charge r t n).arch = s.arch ∧ (s.charge r t n).mail = s.mail ∧ (s.charge r t n).time = s.time ∧ (s.charge r t n).ev = s.ev ∧
    (s.charge r t n).pair = s.pair ∧ (s.charge r t n).upd = s.upd ∧ (s.charge r t n).safe = s.safe ∧ (s.charge r t n).ports = s.ports ∧
    (s.charge r t n).pow = s.pow ∧ (s.charge r t n).store = s.store ∧ (s.charge r t n).vault = s.vault ∧ (s.charge r t n).lanes = s.lanes ∧
    (s.charge r t n).filt = s.filt ∧ (s.charge r t n).rx = s.rx ∧ (s.charge r t n).lea = s.lea ∧ (s.charge r t n).marks = s.marks ∧
    (s.charge r t n).sec = s.sec ∧ (s.charge r t n).led = s.led ∧ (s.charge r t n).tar = s.tar ∧ (s.charge r t n).pre = s.pre ∧
    (s.charge r t n).air = s.air ∧ (s.charge r t n).fl = s.fl ∧ (s.charge r t n).ling = s.ling ∧ (s.charge r t n).met = s.met ∧
    (s.charge r t n).bal = s.bal := by
  refine ⟨?_, ?_, ?_, ?_, ?_, ?_, ?_, ?_, ?_, ?_, ?_, ?_, ?_, ?_, ?_, ?_, ?_, ?_, ?_, ?_, ?_, ?_, ?_, ?_, ?_, ?_, ?_, ?_, ?_⟩ <;> rfl

/-- nextRound changes ten alone. -/
@[simp] theorem State.nextRound_frame (s : State)  :
    (s.nextRound).pending = s.pending ∧ (s.nextRound).freeCtr = s.freeCtr ∧ (s.nextRound).ctrs = s.ctrs ∧ (s.nextRound).records = s.records ∧
    (s.nextRound).arch = s.arch ∧ (s.nextRound).mail = s.mail ∧ (s.nextRound).time = s.time ∧ (s.nextRound).ev = s.ev ∧
    (s.nextRound).pair = s.pair ∧ (s.nextRound).upd = s.upd ∧ (s.nextRound).safe = s.safe ∧ (s.nextRound).ports = s.ports ∧
    (s.nextRound).pow = s.pow ∧ (s.nextRound).store = s.store ∧ (s.nextRound).vault = s.vault ∧ (s.nextRound).lanes = s.lanes ∧
    (s.nextRound).filt = s.filt ∧ (s.nextRound).rx = s.rx ∧ (s.nextRound).lea = s.lea ∧ (s.nextRound).marks = s.marks ∧
    (s.nextRound).sec = s.sec ∧ (s.nextRound).led = s.led ∧ (s.nextRound).tar = s.tar ∧ (s.nextRound).pre = s.pre ∧
    (s.nextRound).air = s.air ∧ (s.nextRound).fl = s.fl ∧ (s.nextRound).ling = s.ling ∧ (s.nextRound).met = s.met ∧
    (s.nextRound).bal = s.bal := by
  refine ⟨?_, ?_, ?_, ?_, ?_, ?_, ?_, ?_, ?_, ?_, ?_, ?_, ?_, ?_, ?_, ?_, ?_, ?_, ?_, ?_, ?_, ?_, ?_, ?_, ?_, ?_, ?_, ?_, ?_⟩ <;> rfl

/-- setRef changes time alone. -/
@[simp] theorem State.setRef_frame (s : State) (i : Nat) (r : RefSt) :
    (s.setRef i r).pending = s.pending ∧ (s.setRef i r).freeCtr = s.freeCtr ∧ (s.setRef i r).ctrs = s.ctrs ∧ (s.setRef i r).records = s.records ∧
    (s.setRef i r).arch = s.arch ∧ (s.setRef i r).mail = s.mail ∧ (s.setRef i r).ev = s.ev ∧ (s.setRef i r).ten = s.ten ∧
    (s.setRef i r).pair = s.pair ∧ (s.setRef i r).upd = s.upd ∧ (s.setRef i r).safe = s.safe ∧ (s.setRef i r).ports = s.ports ∧
    (s.setRef i r).pow = s.pow ∧ (s.setRef i r).store = s.store ∧ (s.setRef i r).vault = s.vault ∧ (s.setRef i r).lanes = s.lanes ∧
    (s.setRef i r).filt = s.filt ∧ (s.setRef i r).rx = s.rx ∧ (s.setRef i r).lea = s.lea ∧ (s.setRef i r).marks = s.marks ∧
    (s.setRef i r).sec = s.sec ∧ (s.setRef i r).led = s.led ∧ (s.setRef i r).tar = s.tar ∧ (s.setRef i r).pre = s.pre ∧
    (s.setRef i r).air = s.air ∧ (s.setRef i r).fl = s.fl ∧ (s.setRef i r).ling = s.ling ∧ (s.setRef i r).met = s.met ∧
    (s.setRef i r).bal = s.bal := by
  refine ⟨?_, ?_, ?_, ?_, ?_, ?_, ?_, ?_, ?_, ?_, ?_, ?_, ?_, ?_, ?_, ?_, ?_, ?_, ?_, ?_, ?_, ?_, ?_, ?_, ?_, ?_, ?_, ?_, ?_⟩ <;> rfl

/-- setCell changes arch alone. -/
@[simp] theorem State.setCell_frame (s : State) (a : Nat) (x : CellHealth) :
    (s.setCell a x).pending = s.pending ∧ (s.setCell a x).freeCtr = s.freeCtr ∧ (s.setCell a x).ctrs = s.ctrs ∧ (s.setCell a x).records = s.records ∧
    (s.setCell a x).mail = s.mail ∧ (s.setCell a x).time = s.time ∧ (s.setCell a x).ev = s.ev ∧ (s.setCell a x).ten = s.ten ∧
    (s.setCell a x).pair = s.pair ∧ (s.setCell a x).upd = s.upd ∧ (s.setCell a x).safe = s.safe ∧ (s.setCell a x).ports = s.ports ∧
    (s.setCell a x).pow = s.pow ∧ (s.setCell a x).store = s.store ∧ (s.setCell a x).vault = s.vault ∧ (s.setCell a x).lanes = s.lanes ∧
    (s.setCell a x).filt = s.filt ∧ (s.setCell a x).rx = s.rx ∧ (s.setCell a x).lea = s.lea ∧ (s.setCell a x).marks = s.marks ∧
    (s.setCell a x).sec = s.sec ∧ (s.setCell a x).led = s.led ∧ (s.setCell a x).tar = s.tar ∧ (s.setCell a x).pre = s.pre ∧
    (s.setCell a x).air = s.air ∧ (s.setCell a x).fl = s.fl ∧ (s.setCell a x).ling = s.ling ∧ (s.setCell a x).met = s.met ∧
    (s.setCell a x).bal = s.bal := by
  refine ⟨?_, ?_, ?_, ?_, ?_, ?_, ?_, ?_, ?_, ?_, ?_, ?_, ?_, ?_, ?_, ?_, ?_, ?_, ?_, ?_, ?_, ?_, ?_, ?_, ?_, ?_, ?_, ?_, ?_⟩ <;> rfl

/-- setAgreement changes upd alone. -/
@[simp] theorem State.setAgreement_frame (s : State) (n : Nat) (x : Agreement) :
    (s.setAgreement n x).pending = s.pending ∧ (s.setAgreement n x).freeCtr = s.freeCtr ∧ (s.setAgreement n x).ctrs = s.ctrs ∧ (s.setAgreement n x).records = s.records ∧
    (s.setAgreement n x).arch = s.arch ∧ (s.setAgreement n x).mail = s.mail ∧ (s.setAgreement n x).time = s.time ∧ (s.setAgreement n x).ev = s.ev ∧
    (s.setAgreement n x).ten = s.ten ∧ (s.setAgreement n x).pair = s.pair ∧ (s.setAgreement n x).safe = s.safe ∧ (s.setAgreement n x).ports = s.ports ∧
    (s.setAgreement n x).pow = s.pow ∧ (s.setAgreement n x).store = s.store ∧ (s.setAgreement n x).vault = s.vault ∧ (s.setAgreement n x).lanes = s.lanes ∧
    (s.setAgreement n x).filt = s.filt ∧ (s.setAgreement n x).rx = s.rx ∧ (s.setAgreement n x).lea = s.lea ∧ (s.setAgreement n x).marks = s.marks ∧
    (s.setAgreement n x).sec = s.sec ∧ (s.setAgreement n x).led = s.led ∧ (s.setAgreement n x).tar = s.tar ∧ (s.setAgreement n x).pre = s.pre ∧
    (s.setAgreement n x).air = s.air ∧ (s.setAgreement n x).fl = s.fl ∧ (s.setAgreement n x).ling = s.ling ∧ (s.setAgreement n x).met = s.met ∧
    (s.setAgreement n x).bal = s.bal := by
  refine ⟨?_, ?_, ?_, ?_, ?_, ?_, ?_, ?_, ?_, ?_, ?_, ?_, ?_, ?_, ?_, ?_, ?_, ?_, ?_, ?_, ?_, ?_, ?_, ?_, ?_, ?_, ?_, ?_, ?_⟩ <;> rfl

/-- modCampaign changes upd alone. -/
@[simp] theorem State.modCampaign_frame (s : State) (n : Nat) (f : Campaign → Campaign) :
    (s.modCampaign n f).pending = s.pending ∧ (s.modCampaign n f).freeCtr = s.freeCtr ∧ (s.modCampaign n f).ctrs = s.ctrs ∧ (s.modCampaign n f).records = s.records ∧
    (s.modCampaign n f).arch = s.arch ∧ (s.modCampaign n f).mail = s.mail ∧ (s.modCampaign n f).time = s.time ∧ (s.modCampaign n f).ev = s.ev ∧
    (s.modCampaign n f).ten = s.ten ∧ (s.modCampaign n f).pair = s.pair ∧ (s.modCampaign n f).safe = s.safe ∧ (s.modCampaign n f).ports = s.ports ∧
    (s.modCampaign n f).pow = s.pow ∧ (s.modCampaign n f).store = s.store ∧ (s.modCampaign n f).vault = s.vault ∧ (s.modCampaign n f).lanes = s.lanes ∧
    (s.modCampaign n f).filt = s.filt ∧ (s.modCampaign n f).rx = s.rx ∧ (s.modCampaign n f).lea = s.lea ∧ (s.modCampaign n f).marks = s.marks ∧
    (s.modCampaign n f).sec = s.sec ∧ (s.modCampaign n f).led = s.led ∧ (s.modCampaign n f).tar = s.tar ∧ (s.modCampaign n f).pre = s.pre ∧
    (s.modCampaign n f).air = s.air ∧ (s.modCampaign n f).fl = s.fl ∧ (s.modCampaign n f).ling = s.ling ∧ (s.modCampaign n f).met = s.met ∧
    (s.modCampaign n f).bal = s.bal := by
  refine ⟨?_, ?_, ?_, ?_, ?_, ?_, ?_, ?_, ?_, ?_, ?_, ?_, ?_, ?_, ?_, ?_, ?_, ?_, ?_, ?_, ?_, ?_, ?_, ?_, ?_, ?_, ?_, ?_, ?_⟩ <;> rfl

/-- modStream changes fl alone. -/
@[simp] theorem State.modStream_frame (s : State) (n : Nat) (f : Stream → Stream) :
    (s.modStream n f).pending = s.pending ∧ (s.modStream n f).freeCtr = s.freeCtr ∧ (s.modStream n f).ctrs = s.ctrs ∧ (s.modStream n f).records = s.records ∧
    (s.modStream n f).arch = s.arch ∧ (s.modStream n f).mail = s.mail ∧ (s.modStream n f).time = s.time ∧ (s.modStream n f).ev = s.ev ∧
    (s.modStream n f).ten = s.ten ∧ (s.modStream n f).pair = s.pair ∧ (s.modStream n f).upd = s.upd ∧ (s.modStream n f).safe = s.safe ∧
    (s.modStream n f).ports = s.ports ∧ (s.modStream n f).pow = s.pow ∧ (s.modStream n f).store = s.store ∧ (s.modStream n f).vault = s.vault ∧
    (s.modStream n f).lanes = s.lanes ∧ (s.modStream n f).filt = s.filt ∧ (s.modStream n f).rx = s.rx ∧ (s.modStream n f).lea = s.lea ∧
    (s.modStream n f).marks = s.marks ∧ (s.modStream n f).sec = s.sec ∧ (s.modStream n f).led = s.led ∧ (s.modStream n f).tar = s.tar ∧
    (s.modStream n f).pre = s.pre ∧ (s.modStream n f).air = s.air ∧ (s.modStream n f).ling = s.ling ∧ (s.modStream n f).met = s.met ∧
    (s.modStream n f).bal = s.bal := by
  refine ⟨?_, ?_, ?_, ?_, ?_, ?_, ?_, ?_, ?_, ?_, ?_, ?_, ?_, ?_, ?_, ?_, ?_, ?_, ?_, ?_, ?_, ?_, ?_, ?_, ?_, ?_, ?_, ?_, ?_⟩ <;> rfl

/-- issued changes time alone. -/
@[simp] theorem State.issued_frame (s : State) (st : Nat) :
    (s.issued st).pending = s.pending ∧ (s.issued st).freeCtr = s.freeCtr ∧ (s.issued st).ctrs = s.ctrs ∧ (s.issued st).records = s.records ∧
    (s.issued st).arch = s.arch ∧ (s.issued st).mail = s.mail ∧ (s.issued st).ev = s.ev ∧ (s.issued st).ten = s.ten ∧
    (s.issued st).pair = s.pair ∧ (s.issued st).upd = s.upd ∧ (s.issued st).safe = s.safe ∧ (s.issued st).ports = s.ports ∧
    (s.issued st).pow = s.pow ∧ (s.issued st).store = s.store ∧ (s.issued st).vault = s.vault ∧ (s.issued st).lanes = s.lanes ∧
    (s.issued st).filt = s.filt ∧ (s.issued st).rx = s.rx ∧ (s.issued st).lea = s.lea ∧ (s.issued st).marks = s.marks ∧
    (s.issued st).sec = s.sec ∧ (s.issued st).led = s.led ∧ (s.issued st).tar = s.tar ∧ (s.issued st).pre = s.pre ∧
    (s.issued st).air = s.air ∧ (s.issued st).fl = s.fl ∧ (s.issued st).ling = s.ling ∧ (s.issued st).met = s.met ∧
    (s.issued st).bal = s.bal := by
  refine ⟨?_, ?_, ?_, ?_, ?_, ?_, ?_, ?_, ?_, ?_, ?_, ?_, ?_, ?_, ?_, ?_, ?_, ?_, ?_, ?_, ?_, ?_, ?_, ?_, ?_, ?_, ?_, ?_, ?_⟩ <;> rfl

/-- count changes ctrs alone. -/
@[simp] theorem State.count_frame (s : State) (c : Ctr) (n : Nat) :
    (s.count c n).pending = s.pending ∧ (s.count c n).freeCtr = s.freeCtr ∧ (s.count c n).records = s.records ∧ (s.count c n).arch = s.arch ∧
    (s.count c n).mail = s.mail ∧ (s.count c n).time = s.time ∧ (s.count c n).ev = s.ev ∧ (s.count c n).ten = s.ten ∧
    (s.count c n).pair = s.pair ∧ (s.count c n).upd = s.upd ∧ (s.count c n).safe = s.safe ∧ (s.count c n).ports = s.ports ∧
    (s.count c n).pow = s.pow ∧ (s.count c n).store = s.store ∧ (s.count c n).vault = s.vault ∧ (s.count c n).lanes = s.lanes ∧
    (s.count c n).filt = s.filt ∧ (s.count c n).rx = s.rx ∧ (s.count c n).lea = s.lea ∧ (s.count c n).marks = s.marks ∧
    (s.count c n).sec = s.sec ∧ (s.count c n).led = s.led ∧ (s.count c n).tar = s.tar ∧ (s.count c n).pre = s.pre ∧
    (s.count c n).air = s.air ∧ (s.count c n).fl = s.fl ∧ (s.count c n).ling = s.ling ∧ (s.count c n).met = s.met ∧
    (s.count c n).bal = s.bal := by
  refine ⟨?_, ?_, ?_, ?_, ?_, ?_, ?_, ?_, ?_, ?_, ?_, ?_, ?_, ?_, ?_, ?_, ?_, ?_, ?_, ?_, ?_, ?_, ?_, ?_, ?_, ?_, ?_, ?_, ?_⟩ <;> rfl

/-- dropTicket changes mail alone. -/
@[simp] theorem State.dropTicket_frame (s : State) (t : Nat) :
    (s.dropTicket t).pending = s.pending ∧ (s.dropTicket t).freeCtr = s.freeCtr ∧ (s.dropTicket t).ctrs = s.ctrs ∧ (s.dropTicket t).records = s.records ∧
    (s.dropTicket t).arch = s.arch ∧ (s.dropTicket t).time = s.time ∧ (s.dropTicket t).ev = s.ev ∧ (s.dropTicket t).ten = s.ten ∧
    (s.dropTicket t).pair = s.pair ∧ (s.dropTicket t).upd = s.upd ∧ (s.dropTicket t).safe = s.safe ∧ (s.dropTicket t).ports = s.ports ∧
    (s.dropTicket t).pow = s.pow ∧ (s.dropTicket t).store = s.store ∧ (s.dropTicket t).vault = s.vault ∧ (s.dropTicket t).lanes = s.lanes ∧
    (s.dropTicket t).filt = s.filt ∧ (s.dropTicket t).rx = s.rx ∧ (s.dropTicket t).lea = s.lea ∧ (s.dropTicket t).marks = s.marks ∧
    (s.dropTicket t).sec = s.sec ∧ (s.dropTicket t).led = s.led ∧ (s.dropTicket t).tar = s.tar ∧ (s.dropTicket t).pre = s.pre ∧
    (s.dropTicket t).air = s.air ∧ (s.dropTicket t).fl = s.fl ∧ (s.dropTicket t).ling = s.ling ∧ (s.dropTicket t).met = s.met ∧
    (s.dropTicket t).bal = s.bal := by
  refine ⟨?_, ?_, ?_, ?_, ?_, ?_, ?_, ?_, ?_, ?_, ?_, ?_, ?_, ?_, ?_, ?_, ?_, ?_, ?_, ?_, ?_, ?_, ?_, ?_, ?_, ?_, ?_, ?_, ?_⟩ <;> rfl

/-- respond changes mail alone. -/
@[simp] theorem State.respond_frame (s : State) (n : Nat) (r : Request) (y : Reply) :
    (s.respond n r y).pending = s.pending ∧ (s.respond n r y).freeCtr = s.freeCtr ∧ (s.respond n r y).ctrs = s.ctrs ∧ (s.respond n r y).records = s.records ∧
    (s.respond n r y).arch = s.arch ∧ (s.respond n r y).time = s.time ∧ (s.respond n r y).ev = s.ev ∧ (s.respond n r y).ten = s.ten ∧
    (s.respond n r y).pair = s.pair ∧ (s.respond n r y).upd = s.upd ∧ (s.respond n r y).safe = s.safe ∧ (s.respond n r y).ports = s.ports ∧
    (s.respond n r y).pow = s.pow ∧ (s.respond n r y).store = s.store ∧ (s.respond n r y).vault = s.vault ∧ (s.respond n r y).lanes = s.lanes ∧
    (s.respond n r y).filt = s.filt ∧ (s.respond n r y).rx = s.rx ∧ (s.respond n r y).lea = s.lea ∧ (s.respond n r y).marks = s.marks ∧
    (s.respond n r y).sec = s.sec ∧ (s.respond n r y).led = s.led ∧ (s.respond n r y).tar = s.tar ∧ (s.respond n r y).pre = s.pre ∧
    (s.respond n r y).air = s.air ∧ (s.respond n r y).fl = s.fl ∧ (s.respond n r y).ling = s.ling ∧ (s.respond n r y).met = s.met ∧
    (s.respond n r y).bal = s.bal := by
  refine ⟨?_, ?_, ?_, ?_, ?_, ?_, ?_, ?_, ?_, ?_, ?_, ?_, ?_, ?_, ?_, ?_, ?_, ?_, ?_, ?_, ?_, ?_, ?_, ?_, ?_, ?_, ?_, ?_, ?_⟩ <;> rfl

/-! ### What a setter reads back -/

@[simp] theorem State.unit_setUnit (s : State) (u : UnitId) (x : EnUnit) : (s.setUnit u x).unit u = x := by simp [State.unit, State.setUnit]

@[simp] theorem State.unitSt_setUnit (s : State) (u : UnitId) (x : EnUnit) : (s.setUnit u x).unitSt u = x.st := by simp [State.unitSt]

theorem State.unit_setUnit_ne (s : State) (u v : UnitId) (x : EnUnit) (h : u ≠ v) : (s.setUnit u x).unit v = s.unit v := by
  simp [State.unit, State.setUnit, Map.getD_put, h]

@[simp] theorem State.chan_setChan (s : State) (n : Nat) (c : Channel) : (s.setChan n c).chan n = c := by simp [State.chan, State.setChan]

theorem State.chan_setChan_ne (s : State) (n m : Nat) (c : Channel) (h : n ≠ m) : (s.setChan n c).chan m = s.chan m := by
  simp [State.chan, State.setChan, Map.getD_put, h]

@[simp] theorem State.chan_modChan (s : State) (n : Nat) (f : Channel → Channel) : (s.modChan n f).chan n = f (s.chan n) := by
  simp [State.modChan]

theorem State.chan_modChan_ne (s : State) (n m : Nat) (f : Channel → Channel) (h : n ≠ m) : (s.modChan n f).chan m = s.chan m := by
  simp [State.modChan, State.chan_setChan_ne _ _ _ _ h]

@[simp] theorem State.lane_setLane (s : State) (n : Nat) (l : Lane) : (s.setLane n l).lane n = l := by simp [State.lane, State.setLane]

@[simp] theorem State.lane_modLane (s : State) (n : Nat) (f : Lane → Lane) : (s.modLane n f).lane n = f (s.lane n) := by simp [State.modLane]

@[simp] theorem State.tenant_setTenant (s : State) (t : Nat) (x : TenantSt) : (s.setTenant t x).tenant t = x := by
  simp [State.tenant, State.setTenant]

@[simp] theorem State.trig_setTrig (s : State) (i : Nat) (t : TrigSt) : (s.setTrig i t).trig i = t := by simp [State.trig, State.setTrig]

@[simp] theorem State.safeMeter_setSafe (s : State) (slot : Nat) (x : SafeMeter) : (s.setSafe slot x).safeMeter slot = x := by
  simp [State.safeMeter, State.setSafe]

@[simp] theorem State.ctr_count (s : State) (c : Ctr) (n : Nat) : (s.count c n).ctr c = c.name.cls.step (s.ctr c) n := by
  simp [State.ctr, State.count]

theorem State.ctr_count_ne (s : State) (c d : Ctr) (n : Nat) (h : c ≠ d) : (s.count c n).ctr d = s.ctr d := by
  simp [State.ctr, State.count, Map.getD_put, h]

end Sys2Proof.Machine
end

