-- ==== Sys2Proof/Laws/Ops.lean ====
section
/-! SUPPORT. What each shared operation can do, said once: events, the journal, messages to the partner, free values, checks, the frame of
a mailbox command, records, and the buffers of the host window. -/

namespace Sys2Proof.Machine

open Sys2Proof

/-! ### Events, free values -/

/-- What raising an event can do: nothing for a source of an absent line region, an entry at the back of the queue with its stamp, or a
drop that is counted. -/
theorem State.raise_eq (s : State) (e : Ev) (t : Nat) (p : List Nat) (o : Bool) :
    s.raise e t p o = s ∨
    s.raise e t p o = { s.issued s.stamp with
      ev := { (s.issued s.stamp).ev with queue := (s.issued s.stamp).ev.queue ++ [⟨e, t, s.stamp, p, o⟩] } } ∨
    (4096 ≤ s.ev.queue.length ∧ s.raise e t p o =
      { s.count { name := .evDropped, a := e.source } with
        ev := { (s.count { name := .evDropped, a := e.source }).ev with lossPending := true } }) := by
  unfold State.raise
  split
  · exact .inl rfl
  · split
    · exact .inr (.inl rfl)
    · exact .inr (.inr ⟨by omega, rfl⟩)

/-- A view of the state that is blind to ctrs, time, ev sees no effect of raise. -/
theorem State.raise_blind {α : Type} {f : State → α} (hctrs : ∀ (s : State) x, f { s with ctrs := x } = f s) (htime : ∀ (s : State) x, f { s with time := x } = f s) (hev : ∀ (s : State) x, f { s with ev := x } = f s)
    (s : State) (e : Ev) (t : Nat) (p : List Nat) (o : Bool) : f (s.raise e t p o) = f s := by
  rcases s.raise_eq e t p o with h | h | ⟨_, h⟩
  · rw [h]
  · rw [h]
    exact (hev _ _).trans (htime _ _)
  · rw [h]
    exact (hev _ _).trans (hctrs _ _)

/-- raise changes nothing but ctrs, time, ev. -/
@[simp] theorem State.raise_frame (s : State) (e : Ev) (t : Nat) (p : List Nat) (o : Bool) :
    (s.raise e t p o).pending = s.pending ∧ (s.raise e t p o).freeCtr = s.freeCtr ∧ (s.raise e t p o).records = s.records ∧ (s.raise e t p o).arch = s.arch ∧
    (s.raise e t p o).mail = s.mail ∧ (s.raise e t p o).ten = s.ten ∧ (s.raise e t p o).pair = s.pair ∧ (s.raise e t p o).upd = s.upd ∧
    (s.raise e t p o).safe = s.safe ∧ (s.raise e t p o).ports = s.ports ∧ (s.raise e t p o).pow = s.pow ∧ (s.raise e t p o).store = s.store ∧
    (s.raise e t p o).vault = s.vault ∧ (s.raise e t p o).lanes = s.lanes ∧ (s.raise e t p o).filt = s.filt ∧ (s.raise e t p o).rx = s.rx ∧
    (s.raise e t p o).lea = s.lea ∧ (s.raise e t p o).marks = s.marks ∧ (s.raise e t p o).sec = s.sec ∧ (s.raise e t p o).led = s.led ∧
    (s.raise e t p o).tar = s.tar ∧ (s.raise e t p o).pre = s.pre ∧ (s.raise e t p o).air = s.air ∧ (s.raise e t p o).fl = s.fl ∧
    (s.raise e t p o).ling = s.ling ∧ (s.raise e t p o).met = s.met ∧ (s.raise e t p o).bal = s.bal :=
  ⟨State.raise_blind (f := State.pending) (fun _ _ => rfl) (fun _ _ => rfl) (fun _ _ => rfl) s e t p o,
   State.raise_blind (f := State.freeCtr) (fun _ _ => rfl) (fun _ _ => rfl) (fun _ _ => rfl) s e t p o,
   State.raise_blind (f := State.records) (fun _ _ => rfl) (fun _ _ => rfl) (fun _ _ => rfl) s e t p o,
   State.raise_blind (f := State.arch) (fun _ _ => rfl) (fun _ _ => rfl) (fun _ _ => rfl) s e t p o,
   State.raise_blind (f := State.mail) (fun _ _ => rfl) (fun _ _ => rfl) (fun _ _ => rfl) s e t p o,
   State.raise_blind (f := State.ten) (fun _ _ => rfl) (fun _ _ => rfl) (fun _ _ => rfl) s e t p o,
   State.raise_blind (f := State.pair) (fun _ _ => rfl) (fun _ _ => rfl) (fun _ _ => rfl) s e t p o,
   State.raise_blind (f := State.upd) (fun _ _ => rfl) (fun _ _ => rfl) (fun _ _ => rfl) s e t p o,
   State.raise_blind (f := State.safe) (fun _ _ => rfl) (fun _ _ => rfl) (fun _ _ => rfl) s e t p o,
   State.raise_blind (f := State.ports) (fun _ _ => rfl) (fun _ _ => rfl) (fun _ _ => rfl) s e t p o,
   State.raise_blind (f := State.pow) (fun _ _ => rfl) (fun _ _ => rfl) (fun _ _ => rfl) s e t p o,
   State.raise_blind (f := State.store) (fun _ _ => rfl) (fun _ _ => rfl) (fun _ _ => rfl) s e t p o,
   State.raise_blind (f := State.vault) (fun _ _ => rfl) (fun _ _ => rfl) (fun _ _ => rfl) s e t p o,
   State.raise_blind (f := State.lanes) (fun _ _ => rfl) (fun _ _ => rfl) (fun _ _ => rfl) s e t p o,
   State.raise_blind (f := State.filt) (fun _ _ => rfl) (fun _ _ => rfl) (fun _ _ => rfl) s e t p o,
   State.raise_blind (f := State.rx) (fun _ _ => rfl) (fun _ _ => rfl) (fun _ _ => rfl) s e t p o,
   State.raise_blind (f := State.lea) (fun _ _ => rfl) (fun _ _ => rfl) (fun _ _ => rfl) s e t p o,
   State.raise_blind (f := State.marks) (fun _ _ => rfl) (fun _ _ => rfl) (fun _ _ => rfl) s e t p o,
   State.raise_blind (f := State.sec) (fun _ _ => rfl) (fun _ _ => rfl) (fun _ _ => rfl) s e t p o,
   State.raise_blind (f := State.led) (fun _ _ => rfl) (fun _ _ => rfl) (fun _ _ => rfl) s e t p o,
   State.raise_blind (f := State.tar) (fun _ _ => rfl) (fun _ _ => rfl) (fun _ _ => rfl) s e t p o,
   State.raise_blind (f := State.pre) (fun _ _ => rfl) (fun _ _ => rfl) (fun _ _ => rfl) s e t p o,
   State.raise_blind (f := State.air) (fun _ _ => rfl) (fun _ _ => rfl) (fun _ _ => rfl) s e t p o,
   State.raise_blind (f := State.fl) (fun _ _ => rfl) (fun _ _ => rfl) (fun _ _ => rfl) s e t p o,
   State.raise_blind (f := State.ling) (fun _ _ => rfl) (fun _ _ => rfl) (fun _ _ => rfl) s e t p o,
   State.raise_blind (f := State.met) (fun _ _ => rfl) (fun _ _ => rfl) (fun _ _ => rfl) s e t p o,
   State.raise_blind (f := State.bal) (fun _ _ => rfl) (fun _ _ => rfl) (fun _ _ => rfl) s e t p o⟩

/-- Raising an event keeps every entry that waits. -/
theorem State.raise_prefix (s : State) (e : Ev) (t : Nat) (p : List Nat) (o : Bool) : s.ev.queue <+: (s.raise e t p o).ev.queue := by
  rcases s.raise_eq e t p o with h | h | ⟨_, h⟩
  · exact (congrArg (fun x : State => s.ev.queue <+: x.ev.queue) h).mpr List.prefix_rfl
  · rw [h]
    simp only [State.issued_frame]
    exact List.prefix_append _ _
  · rw [h]
    simp only [State.count_frame]
    exact List.prefix_rfl

/-- A stamp issued is never below the one before. -/
theorem State.lastStamp_issued (s : State) (st : Nat) : s.time.lastStamp ≤ (s.issued st).time.lastStamp := by
  simp only [State.issued]
  omega

/-- A view of the state that is blind to freeCtr sees no effect of draw. -/
theorem State.draw_blind {α : Type} {f : State → α} (hfreeCtr : ∀ (s : State) x, f { s with freeCtr := x } = f s)
    (s : State) (w : Nat) : f ((s.draw w).2) = f s := by
  exact hfreeCtr _ _

/-- draw changes nothing but freeCtr. -/
@[simp] theorem State.draw_frame (s : State) (w : Nat) :
    ((s.draw w).2).pending = s.pending ∧ ((s.draw w).2).ctrs = s.ctrs ∧ ((s.draw w).2).records = s.records ∧ ((s.draw w).2).arch = s.arch ∧
    ((s.draw w).2).mail = s.mail ∧ ((s.draw w).2).time = s.time ∧ ((s.draw w).2).ev = s.ev ∧ ((s.draw w).2).ten = s.ten ∧
    ((s.draw w).2).pair = s.pair ∧ ((s.draw w).2).upd = s.upd ∧ ((s.draw w).2).safe = s.safe ∧ ((s.draw w).2).ports = s.ports ∧
    ((s.draw w).2).pow = s.pow ∧ ((s.draw w).2).store = s.store ∧ ((s.draw w).2).vault = s.vault ∧ ((s.draw w).2).lanes = s.lanes ∧
    ((s.draw w).2).filt = s.filt ∧ ((s.draw w).2).rx = s.rx ∧ ((s.draw w).2).lea = s.lea ∧ ((s.draw w).2).marks = s.marks ∧
    ((s.draw w).2).sec = s.sec ∧ ((s.draw w).2).led = s.led ∧ ((s.draw w).2).tar = s.tar ∧ ((s.draw w).2).pre = s.pre ∧
    ((s.draw w).2).air = s.air ∧ ((s.draw w).2).fl = s.fl ∧ ((s.draw w).2).ling = s.ling ∧ ((s.draw w).2).met = s.met ∧
    ((s.draw w).2).bal = s.bal :=
  ⟨State.draw_blind (f := State.pending) (fun _ _ => rfl) s w,
   State.draw_blind (f := State.ctrs) (fun _ _ => rfl) s w,
   State.draw_blind (f := State.records) (fun _ _ => rfl) s w,
   State.draw_blind (f := State.arch) (fun _ _ => rfl) s w,
   State.draw_blind (f := State.mail) (fun _ _ => rfl) s w,
   State.draw_blind (f := State.time) (fun _ _ => rfl) s w,
   State.draw_blind (f := State.ev) (fun _ _ => rfl) s w,
   State.draw_blind (f := State.ten) (fun _ _ => rfl) s w,
   State.draw_blind (f := State.pair) (fun _ _ => rfl) s w,
   State.draw_blind (f := State.upd) (fun _ _ => rfl) s w,
   State.draw_blind (f := State.safe) (fun _ _ => rfl) s w,
   State.draw_blind (f := State.ports) (fun _ _ => rfl) s w,
   State.draw_blind (f := State.pow) (fun _ _ => rfl) s w,
   State.draw_blind (f := State.store) (fun _ _ => rfl) s w,
   State.draw_blind (f := State.vault) (fun _ _ => rfl) s w,
   State.draw_blind (f := State.lanes) (fun _ _ => rfl) s w,
   State.draw_blind (f := State.filt) (fun _ _ => rfl) s w,
   State.draw_blind (f := State.rx) (fun _ _ => rfl) s w,
   State.draw_blind (f := State.lea) (fun _ _ => rfl) s w,
   State.draw_blind (f := State.marks) (fun _ _ => rfl) s w,
   State.draw_blind (f := State.sec) (fun _ _ => rfl) s w,
   State.draw_blind (f := State.led) (fun _ _ => rfl) s w,
   State.draw_blind (f := State.tar) (fun _ _ => rfl) s w,
   State.draw_blind (f := State.pre) (fun _ _ => rfl) s w,
   State.draw_blind (f := State.air) (fun _ _ => rfl) s w,
   State.draw_blind (f := State.fl) (fun _ _ => rfl) s w,
   State.draw_blind (f := State.ling) (fun _ _ => rfl) s w,
   State.draw_blind (f := State.met) (fun _ _ => rfl) s w,
   State.draw_blind (f := State.bal) (fun _ _ => rfl) s w⟩

/-- A drawn value fits its width. -/
theorem State.draw_lt (s : State) (w : Nat) : (s.draw w).1 < 2 ^ w := Nat.mod_lt _ (Nat.two_pow_pos w)

/-- A view of the state that is blind to freeCtr sees no effect of drawBytes. -/
theorem State.drawBytes_blind {α : Type} {f : State → α} (hfreeCtr : ∀ (s : State) x, f { s with freeCtr := x } = f s)
    (s : State) (n : Nat) : f ((s.drawBytes n).2) = f s := by
  exact hfreeCtr _ _

/-- drawBytes changes nothing but freeCtr. -/
@[simp] theorem State.drawBytes_frame (s : State) (n : Nat) :
    ((s.drawBytes n).2).pending = s.pending ∧ ((s.drawBytes n).2).ctrs = s.ctrs ∧ ((s.drawBytes n).2).records = s.records ∧ ((s.drawBytes n).2).arch = s.arch ∧
    ((s.drawBytes n).2).mail = s.mail ∧ ((s.drawBytes n).2).time = s.time ∧ ((s.drawBytes n).2).ev = s.ev ∧ ((s.drawBytes n).2).ten = s.ten ∧
    ((s.drawBytes n).2).pair = s.pair ∧ ((s.drawBytes n).2).upd = s.upd ∧ ((s.drawBytes n).2).safe = s.safe ∧ ((s.drawBytes n).2).ports = s.ports ∧
    ((s.drawBytes n).2).pow = s.pow ∧ ((s.drawBytes n).2).store = s.store ∧ ((s.drawBytes n).2).vault = s.vault ∧ ((s.drawBytes n).2).lanes = s.lanes ∧
    ((s.drawBytes n).2).filt = s.filt ∧ ((s.drawBytes n).2).rx = s.rx ∧ ((s.drawBytes n).2).lea = s.lea ∧ ((s.drawBytes n).2).marks = s.marks ∧
    ((s.drawBytes n).2).sec = s.sec ∧ ((s.drawBytes n).2).led = s.led ∧ ((s.drawBytes n).2).tar = s.tar ∧ ((s.drawBytes n).2).pre = s.pre ∧
    ((s.drawBytes n).2).air = s.air ∧ ((s.drawBytes n).2).fl = s.fl ∧ ((s.drawBytes n).2).ling = s.ling ∧ ((s.drawBytes n).2).met = s.met ∧
    ((s.drawBytes n).2).bal = s.bal :=
  ⟨State.drawBytes_blind (f := State.pending) (fun _ _ => rfl) s n,
   State.drawBytes_blind (f := State.ctrs) (fun _ _ => rfl) s n,
   State.drawBytes_blind (f := State.records) (fun _ _ => rfl) s n,
   State.drawBytes_blind (f := State.arch) (fun _ _ => rfl) s n,
   State.drawBytes_blind (f := State.mail) (fun _ _ => rfl) s n,
   State.drawBytes_blind (f := State.time) (fun _ _ => rfl) s n,
   State.drawBytes_blind (f := State.ev) (fun _ _ => rfl) s n,
   State.drawBytes_blind (f := State.ten) (fun _ _ => rfl) s n,
   State.drawBytes_blind (f := State.pair) (fun _ _ => rfl) s n,
   State.drawBytes_blind (f := State.upd) (fun _ _ => rfl) s n,
   State.drawBytes_blind (f := State.safe) (fun _ _ => rfl) s n,
   State.drawBytes_blind (f := State.ports) (fun _ _ => rfl) s n,
   State.drawBytes_blind (f := State.pow) (fun _ _ => rfl) s n,
   State.drawBytes_blind (f := State.store) (fun _ _ => rfl) s n,
   State.drawBytes_blind (f := State.vault) (fun _ _ => rfl) s n,
   State.drawBytes_blind (f := State.lanes) (fun _ _ => rfl) s n,
   State.drawBytes_blind (f := State.filt) (fun _ _ => rfl) s n,
   State.drawBytes_blind (f := State.rx) (fun _ _ => rfl) s n,
   State.drawBytes_blind (f := State.lea) (fun _ _ => rfl) s n,
   State.drawBytes_blind (f := State.marks) (fun _ _ => rfl) s n,
   State.drawBytes_blind (f := State.sec) (fun _ _ => rfl) s n,
   State.drawBytes_blind (f := State.led) (fun _ _ => rfl) s n,
   State.drawBytes_blind (f := State.tar) (fun _ _ => rfl) s n,
   State.drawBytes_blind (f := State.pre) (fun _ _ => rfl) s n,
   State.drawBytes_blind (f := State.air) (fun _ _ => rfl) s n,
   State.drawBytes_blind (f := State.fl) (fun _ _ => rfl) s n,
   State.drawBytes_blind (f := State.ling) (fun _ _ => rfl) s n,
   State.drawBytes_blind (f := State.met) (fun _ _ => rfl) s n,
   State.drawBytes_blind (f := State.bal) (fun _ _ => rfl) s n⟩

/-- A view of the state that is blind to ctrs, time, ev, marks sees no effect of raiseEvery. -/
theorem State.raiseEvery_blind {α : Type} {f : State → α} (hctrs : ∀ (s : State) x, f { s with ctrs := x } = f s) (htime : ∀ (s : State) x, f { s with time := x } = f s) (hev : ∀ (s : State) x, f { s with ev := x } = f s) (hmarks : ∀ (s : State) x, f { s with marks := x } = f s)
    (s : State) (per : Nat) (e : Ev) (k t : Nat) (p : List Nat) : f (s.raiseEvery per e k t p) = f s := by
  unfold State.raiseEvery
  dsimp only
  repeat' split
  all_goals first
    | rfl
    | exact (State.raise_blind hctrs htime hev _ _ _ _ _).trans (hmarks _ _)

/-- raiseEvery changes nothing but ctrs, time, ev, marks. -/
@[simp] theorem State.raiseEvery_frame (s : State) (per : Nat) (e : Ev) (k t : Nat) (p : List Nat) :
    (s.raiseEvery per e k t p).pending = s.pending ∧ (s.raiseEvery per e k t p).freeCtr = s.freeCtr ∧ (s.raiseEvery per e k t p).records = s.records ∧ (s.raiseEvery per e k t p).arch = s.arch ∧
    (s.raiseEvery per e k t p).mail = s.mail ∧ (s.raiseEvery per e k t p).ten = s.ten ∧ (s.raiseEvery per e k t p).pair = s.pair ∧ (s.raiseEvery per e k t p).upd = s.upd ∧
    (s.raiseEvery per e k t p).safe = s.safe ∧ (s.raiseEvery per e k t p).ports = s.ports ∧ (s.raiseEvery per e k t p).pow = s.pow ∧ (s.raiseEvery per e k t p).store = s.store ∧
    (s.raiseEvery per e k t p).vault = s.vault ∧ (s.raiseEvery per e k t p).lanes = s.lanes ∧ (s.raiseEvery per e k t p).filt = s.filt ∧ (s.raiseEvery per e k t p).rx = s.rx ∧
    (s.raiseEvery per e k t p).lea = s.lea ∧ (s.raiseEvery per e k t p).sec = s.sec ∧ (s.raiseEvery per e k t p).led = s.led ∧ (s.raiseEvery per e k t p).tar = s.tar ∧
    (s.raiseEvery per e k t p).pre = s.pre ∧ (s.raiseEvery per e k t p).air = s.air ∧ (s.raiseEvery per e k t p).fl = s.fl ∧ (s.raiseEvery per e k t p).ling = s.ling ∧
    (s.raiseEvery per e k t p).met = s.met ∧ (s.raiseEvery per e k t p).bal = s.bal :=
  ⟨State.raiseEvery_blind (f := State.pending) (fun _ _ => rfl) (fun _ _ => rfl) (fun _ _ => rfl) (fun _ _ => rfl) s per e k t p,
   State.raiseEvery_blind (f := State.freeCtr) (fun _ _ => rfl) (fun _ _ => rfl) (fun _ _ => rfl) (fun _ _ => rfl) s per e k t p,
   State.raiseEvery_blind (f := State.records) (fun _ _ => rfl) (fun _ _ => rfl) (fun _ _ => rfl) (fun _ _ => rfl) s per e k t p,
   State.raiseEvery_blind (f := State.arch) (fun _ _ => rfl) (fun _ _ => rfl) (fun _ _ => rfl) (fun _ _ => rfl) s per e k t p,
   State.raiseEvery_blind (f := State.mail) (fun _ _ => rfl) (fun _ _ => rfl) (fun _ _ => rfl) (fun _ _ => rfl) s per e k t p,
   State.raiseEvery_blind (f := State.ten) (fun _ _ => rfl) (fun _ _ => rfl) (fun _ _ => rfl) (fun _ _ => rfl) s per e k t p,
   State.raiseEvery_blind (f := State.pair) (fun _ _ => rfl) (fun _ _ => rfl) (fun _ _ => rfl) (fun _ _ => rfl) s per e k t p,
   State.raiseEvery_blind (f := State.upd) (fun _ _ => rfl) (fun _ _ => rfl) (fun _ _ => rfl) (fun _ _ => rfl) s per e k t p,
   State.raiseEvery_blind (f := State.safe) (fun _ _ => rfl) (fun _ _ => rfl) (fun _ _ => rfl) (fun _ _ => rfl) s per e k t p,
   State.raiseEvery_blind (f := State.ports) (fun _ _ => rfl) (fun _ _ => rfl) (fun _ _ => rfl) (fun _ _ => rfl) s per e k t p,
   State.raiseEvery_blind (f := State.pow) (fun _ _ => rfl) (fun _ _ => rfl) (fun _ _ => rfl) (fun _ _ => rfl) s per e k t p,
   State.raiseEvery_blind (f := State.store) (fun _ _ => rfl) (fun _ _ => rfl) (fun _ _ => rfl) (fun _ _ => rfl) s per e k t p,
   State.raiseEvery_blind (f := State.vault) (fun _ _ => rfl) (fun _ _ => rfl) (fun _ _ => rfl) (fun _ _ => rfl) s per e k t p,
   State.raiseEvery_blind (f := State.lanes) (fun _ _ => rfl) (fun _ _ => rfl) (fun _ _ => rfl) (fun _ _ => rfl) s per e k t p,
   State.raiseEvery_blind (f := State.filt) (fun _ _ => rfl) (fun _ _ => rfl) (fun _ _ => rfl) (fun _ _ => rfl) s per e k t p,
   State.raiseEvery_blind (f := State.rx) (fun _ _ => rfl) (fun _ _ => rfl) (fun _ _ => rfl) (fun _ _ => rfl) s per e k t p,
   State.raiseEvery_blind (f := State.lea) (fun _ _ => rfl) (fun _ _ => rfl) (fun _ _ => rfl) (fun _ _ => rfl) s per e k t p,
   State.raiseEvery_blind (f := State.sec) (fun _ _ => rfl) (fun _ _ => rfl) (fun _ _ => rfl) (fun _ _ => rfl) s per e k t p,
   State.raiseEvery_blind (f := State.led) (fun _ _ => rfl) (fun _ _ => rfl) (fun _ _ => rfl) (fun _ _ => rfl) s per e k t p,
   State.raiseEvery_blind (f := State.tar) (fun _ _ => rfl) (fun _ _ => rfl) (fun _ _ => rfl) (fun _ _ => rfl) s per e k t p,
   State.raiseEvery_blind (f := State.pre) (fun _ _ => rfl) (fun _ _ => rfl) (fun _ _ => rfl) (fun _ _ => rfl) s per e k t p,
   State.raiseEvery_blind (f := State.air) (fun _ _ => rfl) (fun _ _ => rfl) (fun _ _ => rfl) (fun _ _ => rfl) s per e k t p,
   State.raiseEvery_blind (f := State.fl) (fun _ _ => rfl) (fun _ _ => rfl) (fun _ _ => rfl) (fun _ _ => rfl) s per e k t p,
   State.raiseEvery_blind (f := State.ling) (fun _ _ => rfl) (fun _ _ => rfl) (fun _ _ => rfl) (fun _ _ => rfl) s per e k t p,
   State.raiseEvery_blind (f := State.met) (fun _ _ => rfl) (fun _ _ => rfl) (fun _ _ => rfl) (fun _ _ => rfl) s per e k t p,
   State.raiseEvery_blind (f := State.bal) (fun _ _ => rfl) (fun _ _ => rfl) (fun _ _ => rfl) (fun _ _ => rfl) s per e k t p⟩

/-- A view of the state that is blind to ctrs, time, ev, marks sees no effect of raiseOnce. -/
theorem State.raiseOnce_blind {α : Type} {f : State → α} (hctrs : ∀ (s : State) x, f { s with ctrs := x } = f s) (htime : ∀ (s : State) x, f { s with time := x } = f s) (hev : ∀ (s : State) x, f { s with ev := x } = f s) (hmarks : ∀ (s : State) x, f { s with marks := x } = f s)
    (s : State) (e : Ev) (k t : Nat) (p : List Nat) : f (s.raiseOnce e k t p) = f s := by
  unfold State.raiseOnce
  split
  · rfl
  · exact (State.raise_blind hctrs htime hev _ _ _ _ _).trans (hmarks _ _)

/-- raiseOnce changes nothing but ctrs, time, ev, marks. -/
@[simp] theorem State.raiseOnce_frame (s : State) (e : Ev) (k t : Nat) (p : List Nat) :
    (s.raiseOnce e k t p).pending = s.pending ∧ (s.raiseOnce e k t p).freeCtr = s.freeCtr ∧ (s.raiseOnce e k t p).records = s.records ∧ (s.raiseOnce e k t p).arch = s.arch ∧
    (s.raiseOnce e k t p).mail = s.mail ∧ (s.raiseOnce e k t p).ten = s.ten ∧ (s.raiseOnce e k t p).pair = s.pair ∧ (s.raiseOnce e k t p).upd = s.upd ∧
    (s.raiseOnce e k t p).safe = s.safe ∧ (s.raiseOnce e k t p).ports = s.ports ∧ (s.raiseOnce e k t p).pow = s.pow ∧ (s.raiseOnce e k t p).store = s.store ∧
    (s.raiseOnce e k t p).vault = s.vault ∧ (s.raiseOnce e k t p).lanes = s.lanes ∧ (s.raiseOnce e k t p).filt = s.filt ∧ (s.raiseOnce e k t p).rx = s.rx ∧
    (s.raiseOnce e k t p).lea = s.lea ∧ (s.raiseOnce e k t p).sec = s.sec ∧ (s.raiseOnce e k t p).led = s.led ∧ (s.raiseOnce e k t p).tar = s.tar ∧
    (s.raiseOnce e k t p).pre = s.pre ∧ (s.raiseOnce e k t p).air = s.air ∧ (s.raiseOnce e k t p).fl = s.fl ∧ (s.raiseOnce e k t p).ling = s.ling ∧
    (s.raiseOnce e k t p).met = s.met ∧ (s.raiseOnce e k t p).bal = s.bal :=
  ⟨State.raiseOnce_blind (f := State.pending) (fun _ _ => rfl) (fun _ _ => rfl) (fun _ _ => rfl) (fun _ _ => rfl) s e k t p,
   State.raiseOnce_blind (f := State.freeCtr) (fun _ _ => rfl) (fun _ _ => rfl) (fun _ _ => rfl) (fun _ _ => rfl) s e k t p,
   State.raiseOnce_blind (f := State.records) (fun _ _ => rfl) (fun _ _ => rfl) (fun _ _ => rfl) (fun _ _ => rfl) s e k t p,
   State.raiseOnce_blind (f := State.arch) (fun _ _ => rfl) (fun _ _ => rfl) (fun _ _ => rfl) (fun _ _ => rfl) s e k t p,
   State.raiseOnce_blind (f := State.mail) (fun _ _ => rfl) (fun _ _ => rfl) (fun _ _ => rfl) (fun _ _ => rfl) s e k t p,
   State.raiseOnce_blind (f := State.ten) (fun _ _ => rfl) (fun _ _ => rfl) (fun _ _ => rfl) (fun _ _ => rfl) s e k t p,
   State.raiseOnce_blind (f := State.pair) (fun _ _ => rfl) (fun _ _ => rfl) (fun _ _ => rfl) (fun _ _ => rfl) s e k t p,
   State.raiseOnce_blind (f := State.upd) (fun _ _ => rfl) (fun _ _ => rfl) (fun _ _ => rfl) (fun _ _ => rfl) s e k t p,
   State.raiseOnce_blind (f := State.safe) (fun _ _ => rfl) (fun _ _ => rfl) (fun _ _ => rfl) (fun _ _ => rfl) s e k t p,
   State.raiseOnce_blind (f := State.ports) (fun _ _ => rfl) (fun _ _ => rfl) (fun _ _ => rfl) (fun _ _ => rfl) s e k t p,
   State.raiseOnce_blind (f := State.pow) (fun _ _ => rfl) (fun _ _ => rfl) (fun _ _ => rfl) (fun _ _ => rfl) s e k t p,
   State.raiseOnce_blind (f := State.store) (fun _ _ => rfl) (fun _ _ => rfl) (fun _ _ => rfl) (fun _ _ => rfl) s e k t p,
   State.raiseOnce_blind (f := State.vault) (fun _ _ => rfl) (fun _ _ => rfl) (fun _ _ => rfl) (fun _ _ => rfl) s e k t p,
   State.raiseOnce_blind (f := State.lanes) (fun _ _ => rfl) (fun _ _ => rfl) (fun _ _ => rfl) (fun _ _ => rfl) s e k t p,
   State.raiseOnce_blind (f := State.filt) (fun _ _ => rfl) (fun _ _ => rfl) (fun _ _ => rfl) (fun _ _ => rfl) s e k t p,
   State.raiseOnce_blind (f := State.rx) (fun _ _ => rfl) (fun _ _ => rfl) (fun _ _ => rfl) (fun _ _ => rfl) s e k t p,
   State.raiseOnce_blind (f := State.lea) (fun _ _ => rfl) (fun _ _ => rfl) (fun _ _ => rfl) (fun _ _ => rfl) s e k t p,
   State.raiseOnce_blind (f := State.sec) (fun _ _ => rfl) (fun _ _ => rfl) (fun _ _ => rfl) (fun _ _ => rfl) s e k t p,
   State.raiseOnce_blind (f := State.led) (fun _ _ => rfl) (fun _ _ => rfl) (fun _ _ => rfl) (fun _ _ => rfl) s e k t p,
   State.raiseOnce_blind (f := State.tar) (fun _ _ => rfl) (fun _ _ => rfl) (fun _ _ => rfl) (fun _ _ => rfl) s e k t p,
   State.raiseOnce_blind (f := State.pre) (fun _ _ => rfl) (fun _ _ => rfl) (fun _ _ => rfl) (fun _ _ => rfl) s e k t p,
   State.raiseOnce_blind (f := State.air) (fun _ _ => rfl) (fun _ _ => rfl) (fun _ _ => rfl) (fun _ _ => rfl) s e k t p,
   State.raiseOnce_blind (f := State.fl) (fun _ _ => rfl) (fun _ _ => rfl) (fun _ _ => rfl) (fun _ _ => rfl) s e k t p,
   State.raiseOnce_blind (f := State.ling) (fun _ _ => rfl) (fun _ _ => rfl) (fun _ _ => rfl) (fun _ _ => rfl) s e k t p,
   State.raiseOnce_blind (f := State.met) (fun _ _ => rfl) (fun _ _ => rfl) (fun _ _ => rfl) (fun _ _ => rfl) s e k t p,
   State.raiseOnce_blind (f := State.bal) (fun _ _ => rfl) (fun _ _ => rfl) (fun _ _ => rfl) (fun _ _ => rfl) s e k t p⟩

/-! ### The partner and the journal -/

/-- A view of the state that is blind to ports sees no effect of setPartnerPort. -/
theorem State.setPartnerPort_blind {α : Type} {f : State → α} (hports : ∀ (s : State) x, f { s with ports := x } = f s)
    (s : State) (n : Nat) (x : PartnerPort) : f (s.setPartnerPort n x) = f s := by
  exact hports _ _

/-- setPartnerPort changes nothing but ports. -/
@[simp] theorem State.setPartnerPort_frame (s : State) (n : Nat) (x : PartnerPort) :
    (s.setPartnerPort n x).pending = s.pending ∧ (s.setPartnerPort n x).freeCtr = s.freeCtr ∧ (s.setPartnerPort n x).ctrs = s.ctrs ∧ (s.setPartnerPort n x).records = s.records ∧
    (s.setPartnerPort n x).arch = s.arch ∧ (s.setPartnerPort n x).mail = s.mail ∧ (s.setPartnerPort n x).time = s.time ∧ (s.setPartnerPort n x).ev = s.ev ∧
    (s.setPartnerPort n x).ten = s.ten ∧ (s.setPartnerPort n x).pair = s.pair ∧ (s.setPartnerPort n x).upd = s.upd ∧ (s.setPartnerPort n x).safe = s.safe ∧
    (s.setPartnerPort n x).pow = s.pow ∧ (s.setPartnerPort n x).store = s.store ∧ (s.setPartnerPort n x).vault = s.vault ∧ (s.setPartnerPort n x).lanes = s.lanes ∧
    (s.setPartnerPort n x).filt = s.filt ∧ (s.setPartnerPort n x).rx = s.rx ∧ (s.setPartnerPort n x).lea = s.lea ∧ (s.setPartnerPort n x).marks = s.marks ∧
    (s.setPartnerPort n x).sec = s.sec ∧ (s.setPartnerPort n x).led = s.led ∧ (s.setPartnerPort n x).tar = s.tar ∧ (s.setPartnerPort n x).pre = s.pre ∧
    (s.setPartnerPort n x).air = s.air ∧ (s.setPartnerPort n x).fl = s.fl ∧ (s.setPartnerPort n x).ling = s.ling ∧ (s.setPartnerPort n x).met = s.met ∧
    (s.setPartnerPort n x).bal = s.bal :=
  ⟨State.setPartnerPort_blind (f := State.pending) (fun _ _ => rfl) s n x,
   State.setPartnerPort_blind (f := State.freeCtr) (fun _ _ => rfl) s n x,
   State.setPartnerPort_blind (f := State.ctrs) (fun _ _ => rfl) s n x,
   State.setPartnerPort_blind (f := State.records) (fun _ _ => rfl) s n x,
   State.setPartnerPort_blind (f := State.arch) (fun _ _ => rfl) s n x,
   State.setPartnerPort_blind (f := State.mail) (fun _ _ => rfl) s n x,
   State.setPartnerPort_blind (f := State.time) (fun _ _ => rfl) s n x,
   State.setPartnerPort_blind (f := State.ev) (fun _ _ => rfl) s n x,
   State.setPartnerPort_blind (f := State.ten) (fun _ _ => rfl) s n x,
   State.setPartnerPort_blind (f := State.pair) (fun _ _ => rfl) s n x,
   State.setPartnerPort_blind (f := State.upd) (fun _ _ => rfl) s n x,
   State.setPartnerPort_blind (f := State.safe) (fun _ _ => rfl) s n x,
   State.setPartnerPort_blind (f := State.pow) (fun _ _ => rfl) s n x,
   State.setPartnerPort_blind (f := State.store) (fun _ _ => rfl) s n x,
   State.setPartnerPort_blind (f := State.vault) (fun _ _ => rfl) s n x,
   State.setPartnerPort_blind (f := State.lanes) (fun _ _ => rfl) s n x,
   State.setPartnerPort_blind (f := State.filt) (fun _ _ => rfl) s n x,
   State.setPartnerPort_blind (f := State.rx) (fun _ _ => rfl) s n x,
   State.setPartnerPort_blind (f := State.lea) (fun _ _ => rfl) s n x,
   State.setPartnerPort_blind (f := State.marks) (fun _ _ => rfl) s n x,
   State.setPartnerPort_blind (f := State.sec) (fun _ _ => rfl) s n x,
   State.setPartnerPort_blind (f := State.led) (fun _ _ => rfl) s n x,
   State.setPartnerPort_blind (f := State.tar) (fun _ _ => rfl) s n x,
   State.setPartnerPort_blind (f := State.pre) (fun _ _ => rfl) s n x,
   State.setPartnerPort_blind (f := State.air) (fun _ _ => rfl) s n x,
   State.setPartnerPort_blind (f := State.fl) (fun _ _ => rfl) s n x,
   State.setPartnerPort_blind (f := State.ling) (fun _ _ => rfl) s n x,
   State.setPartnerPort_blind (f := State.met) (fun _ _ => rfl) s n x,
   State.setPartnerPort_blind (f := State.bal) (fun _ _ => rfl) s n x⟩

/-- A view of the state that is blind to ctrs, ports sees no effect of sendPartner. -/
theorem State.sendPartner_blind {α : Type} {f : State → α} (hctrs : ∀ (s : State) x, f { s with ctrs := x } = f s) (hports : ∀ (s : State) x, f { s with ports := x } = f s)
    (s : State) (n type : Nat) (w : List Nat) (d : List Byte) : f (s.sendPartner n type w d) = f s := by
  unfold State.sendPartner
  dsimp only
  split
  · exact (hctrs _ _).trans ((hports _ _).trans (hports _ _))
  · rfl

/-- sendPartner changes nothing but ctrs, ports. -/
@[simp] theorem State.sendPartner_frame (s : State) (n type : Nat) (w : List Nat) (d : List Byte) :
    (s.sendPartner n type w d).pending = s.pending ∧ (s.sendPartner n type w d).freeCtr = s.freeCtr ∧ (s.sendPartner n type w d).records = s.records ∧ (s.sendPartner n type w d).arch = s.arch ∧
    (s.sendPartner n type w d).mail = s.mail ∧ (s.sendPartner n type w d).time = s.time ∧ (s.sendPartner n type w d).ev = s.ev ∧ (s.sendPartner n type w d).ten = s.ten ∧
    (s.sendPartner n type w d).pair = s.pair ∧ (s.sendPartner n type w d).upd = s.upd ∧ (s.sendPartner n type w d).safe = s.safe ∧ (s.sendPartner n type w d).pow = s.pow ∧
    (s.sendPartner n type w d).store = s.store ∧ (s.sendPartner n type w d).vault = s.vault ∧ (s.sendPartner n type w d).lanes = s.lanes ∧ (s.sendPartner n type w d).filt = s.filt ∧
    (s.sendPartner n type w d).rx = s.rx ∧ (s.sendPartner n type w d).lea = s.lea ∧ (s.sendPartner n type w d).marks = s.marks ∧ (s.sendPartner n type w d).sec = s.sec ∧
    (s.sendPartner n type w d).led = s.led ∧ (s.sendPartner n type w d).tar = s.tar ∧ (s.sendPartner n type w d).pre = s.pre ∧ (s.sendPartner n type w d).air = s.air ∧
    (s.sendPartner n type w d).fl = s.fl ∧ (s.sendPartner n type w d).ling = s.ling ∧ (s.sendPartner n type w d).met = s.met ∧ (s.sendPartner n type w d).bal = s.bal :=
  ⟨State.sendPartner_blind (f := State.pending) (fun _ _ => rfl) (fun _ _ => rfl) s n type w d,
   State.sendPartner_blind (f := State.freeCtr) (fun _ _ => rfl) (fun _ _ => rfl) s n type w d,
   State.sendPartner_blind (f := State.records) (fun _ _ => rfl) (fun _ _ => rfl) s n type w d,
   State.sendPartner_blind (f := State.arch) (fun _ _ => rfl) (fun _ _ => rfl) s n type w d,
   State.sendPartner_blind (f := State.mail) (fun _ _ => rfl) (fun _ _ => rfl) s n type w d,
   State.sendPartner_blind (f := State.time) (fun _ _ => rfl) (fun _ _ => rfl) s n type w d,
   State.sendPartner_blind (f := State.ev) (fun _ _ => rfl) (fun _ _ => rfl) s n type w d,
   State.sendPartner_blind (f := State.ten) (fun _ _ => rfl) (fun _ _ => rfl) s n type w d,
   State.sendPartner_blind (f := State.pair) (fun _ _ => rfl) (fun _ _ => rfl) s n type w d,
   State.sendPartner_blind (f := State.upd) (fun _ _ => rfl) (fun _ _ => rfl) s n type w d,
   State.sendPartner_blind (f := State.safe) (fun _ _ => rfl) (fun _ _ => rfl) s n type w d,
   State.sendPartner_blind (f := State.pow) (fun _ _ => rfl) (fun _ _ => rfl) s n type w d,
   State.sendPartner_blind (f := State.store) (fun _ _ => rfl) (fun _ _ => rfl) s n type w d,
   State.sendPartner_blind (f := State.vault) (fun _ _ => rfl) (fun _ _ => rfl) s n type w d,
   State.sendPartner_blind (f := State.lanes) (fun _ _ => rfl) (fun _ _ => rfl) s n type w d,
   State.sendPartner_blind (f := State.filt) (fun _ _ => rfl) (fun _ _ => rfl) s n type w d,
   State.sendPartner_blind (f := State.rx) (fun _ _ => rfl) (fun _ _ => rfl) s n type w d,
   State.sendPartner_blind (f := State.lea) (fun _ _ => rfl) (fun _ _ => rfl) s n type w d,
   State.sendPartner_blind (f := State.marks) (fun _ _ => rfl) (fun _ _ => rfl) s n type w d,
   State.sendPartner_blind (f := State.sec) (fun _ _ => rfl) (fun _ _ => rfl) s n type w d,
   State.sendPartner_blind (f := State.led) (fun _ _ => rfl) (fun _ _ => rfl) s n type w d,
   State.sendPartner_blind (f := State.tar) (fun _ _ => rfl) (fun _ _ => rfl) s n type w d,
   State.sendPartner_blind (f := State.pre) (fun _ _ => rfl) (fun _ _ => rfl) s n type w d,
   State.sendPartner_blind (f := State.air) (fun _ _ => rfl) (fun _ _ => rfl) s n type w d,
   State.sendPartner_blind (f := State.fl) (fun _ _ => rfl) (fun _ _ => rfl) s n type w d,
   State.sendPartner_blind (f := State.ling) (fun _ _ => rfl) (fun _ _ => rfl) s n type w d,
   State.sendPartner_blind (f := State.met) (fun _ _ => rfl) (fun _ _ => rfl) s n type w d,
   State.sendPartner_blind (f := State.bal) (fun _ _ => rfl) (fun _ _ => rfl) s n type w d⟩

/-- A view of the state that is blind to store sees no effect of startCheckpoint. -/
theorem State.startCheckpoint_blind {α : Type} {f : State → α} (hstore : ∀ (s : State) x, f { s with store := x } = f s)
    (s : State)  : f (s.startCheckpoint) = f s := by
  unfold State.startCheckpoint
  split
  · rfl
  · exact hstore _ _

/-- startCheckpoint changes nothing but store. -/
@[simp] theorem State.startCheckpoint_frame (s : State)  :
    (s.startCheckpoint).pending = s.pending ∧ (s.startCheckpoint).freeCtr = s.freeCtr ∧ (s.startCheckpoint).ctrs = s.ctrs ∧ (s.startCheckpoint).records = s.records ∧
    (s.startCheckpoint).arch = s.arch ∧ (s.startCheckpoint).mail = s.mail ∧ (s.startCheckpoint).time = s.time ∧ (s.startCheckpoint).ev = s.ev ∧
    (s.startCheckpoint).ten = s.ten ∧ (s.startCheckpoint).pair = s.pair ∧ (s.startCheckpoint).upd = s.upd ∧ (s.startCheckpoint).safe = s.safe ∧
    (s.startCheckpoint).ports = s.ports ∧ (s.startCheckpoint).pow = s.pow ∧ (s.startCheckpoint).vault = s.vault ∧ (s.startCheckpoint).lanes = s.lanes ∧
    (s.startCheckpoint).filt = s.filt ∧ (s.startCheckpoint).rx = s.rx ∧ (s.startCheckpoint).lea = s.lea ∧ (s.startCheckpoint).marks = s.marks ∧
    (s.startCheckpoint).sec = s.sec ∧ (s.startCheckpoint).led = s.led ∧ (s.startCheckpoint).tar = s.tar ∧ (s.startCheckpoint).pre = s.pre ∧
    (s.startCheckpoint).air = s.air ∧ (s.startCheckpoint).fl = s.fl ∧ (s.startCheckpoint).ling = s.ling ∧ (s.startCheckpoint).met = s.met ∧
    (s.startCheckpoint).bal = s.bal :=
  ⟨State.startCheckpoint_blind (f := State.pending) (fun _ _ => rfl) s ,
   State.startCheckpoint_blind (f := State.freeCtr) (fun _ _ => rfl) s ,
   State.startCheckpoint_blind (f := State.ctrs) (fun _ _ => rfl) s ,
   State.startCheckpoint_blind (f := State.records) (fun _ _ => rfl) s ,
   State.startCheckpoint_blind (f := State.arch) (fun _ _ => rfl) s ,
   State.startCheckpoint_blind (f := State.mail) (fun _ _ => rfl) s ,
   State.startCheckpoint_blind (f := State.time) (fun _ _ => rfl) s ,
   State.startCheckpoint_blind (f := State.ev) (fun _ _ => rfl) s ,
   State.startCheckpoint_blind (f := State.ten) (fun _ _ => rfl) s ,
   State.startCheckpoint_blind (f := State.pair) (fun _ _ => rfl) s ,
   State.startCheckpoint_blind (f := State.upd) (fun _ _ => rfl) s ,
   State.startCheckpoint_blind (f := State.safe) (fun _ _ => rfl) s ,
   State.startCheckpoint_blind (f := State.ports) (fun _ _ => rfl) s ,
   State.startCheckpoint_blind (f := State.pow) (fun _ _ => rfl) s ,
   State.startCheckpoint_blind (f := State.vault) (fun _ _ => rfl) s ,
   State.startCheckpoint_blind (f := State.lanes) (fun _ _ => rfl) s ,
   State.startCheckpoint_blind (f := State.filt) (fun _ _ => rfl) s ,
   State.startCheckpoint_blind (f := State.rx) (fun _ _ => rfl) s ,
   State.startCheckpoint_blind (f := State.lea) (fun _ _ => rfl) s ,
   State.startCheckpoint_blind (f := State.marks) (fun _ _ => rfl) s ,
   State.startCheckpoint_blind (f := State.sec) (fun _ _ => rfl) s ,
   State.startCheckpoint_blind (f := State.led) (fun _ _ => rfl) s ,
   State.startCheckpoint_blind (f := State.tar) (fun _ _ => rfl) s ,
   State.startCheckpoint_blind (f := State.pre) (fun _ _ => rfl) s ,
   State.startCheckpoint_blind (f := State.air) (fun _ _ => rfl) s ,
   State.startCheckpoint_blind (f := State.fl) (fun _ _ => rfl) s ,
   State.startCheckpoint_blind (f := State.ling) (fun _ _ => rfl) s ,
   State.startCheckpoint_blind (f := State.met) (fun _ _ => rfl) s ,
   State.startCheckpoint_blind (f := State.bal) (fun _ _ => rfl) s ⟩

/-- A view of the state that is blind to ctrs, ports sees no effect of streamEntry. -/
theorem State.streamEntry_blind {α : Type} {f : State → α} (hctrs : ∀ (s : State) x, f { s with ctrs := x } = f s) (hports : ∀ (s : State) x, f { s with ports := x } = f s)
    (s : State) (e : JEntry) : f (s.streamEntry e) = f s := by
  exact (State.sendPartner_blind hctrs hports _ _ _ _ _).trans (hctrs _ _)

/-- streamEntry changes nothing but ctrs, ports. -/
@[simp] theorem State.streamEntry_frame (s : State) (e : JEntry) :
    (s.streamEntry e).pending = s.pending ∧ (s.streamEntry e).freeCtr = s.freeCtr ∧ (s.streamEntry e).records = s.records ∧ (s.streamEntry e).arch = s.arch ∧
    (s.streamEntry e).mail = s.mail ∧ (s.streamEntry e).time = s.time ∧ (s.streamEntry e).ev = s.ev ∧ (s.streamEntry e).ten = s.ten ∧
    (s.streamEntry e).pair = s.pair ∧ (s.streamEntry e).upd = s.upd ∧ (s.streamEntry e).safe = s.safe ∧ (s.streamEntry e).pow = s.pow ∧
    (s.streamEntry e).store = s.store ∧ (s.streamEntry e).vault = s.vault ∧ (s.streamEntry e).lanes = s.lanes ∧ (s.streamEntry e).filt = s.filt ∧
    (s.streamEntry e).rx = s.rx ∧ (s.streamEntry e).lea = s.lea ∧ (s.streamEntry e).marks = s.marks ∧ (s.streamEntry e).sec = s.sec ∧
    (s.streamEntry e).led = s.led ∧ (s.streamEntry e).tar = s.tar ∧ (s.streamEntry e).pre = s.pre ∧ (s.streamEntry e).air = s.air ∧
    (s.streamEntry e).fl = s.fl ∧ (s.streamEntry e).ling = s.ling ∧ (s.streamEntry e).met = s.met ∧ (s.streamEntry e).bal = s.bal :=
  ⟨State.streamEntry_blind (f := State.pending) (fun _ _ => rfl) (fun _ _ => rfl) s e,
   State.streamEntry_blind (f := State.freeCtr) (fun _ _ => rfl) (fun _ _ => rfl) s e,
   State.streamEntry_blind (f := State.records) (fun _ _ => rfl) (fun _ _ => rfl) s e,
   State.streamEntry_blind (f := State.arch) (fun _ _ => rfl) (fun _ _ => rfl) s e,
   State.streamEntry_blind (f := State.mail) (fun _ _ => rfl) (fun _ _ => rfl) s e,
   State.streamEntry_blind (f := State.time) (fun _ _ => rfl) (fun _ _ => rfl) s e,
   State.streamEntry_blind (f := State.ev) (fun _ _ => rfl) (fun _ _ => rfl) s e,
   State.streamEntry_blind (f := State.ten) (fun _ _ => rfl) (fun _ _ => rfl) s e,
   State.streamEntry_blind (f := State.pair) (fun _ _ => rfl) (fun _ _ => rfl) s e,
   State.streamEntry_blind (f := State.upd) (fun _ _ => rfl) (fun _ _ => rfl) s e,
   State.streamEntry_blind (f := State.safe) (fun _ _ => rfl) (fun _ _ => rfl) s e,
   State.streamEntry_blind (f := State.pow) (fun _ _ => rfl) (fun _ _ => rfl) s e,
   State.streamEntry_blind (f := State.store) (fun _ _ => rfl) (fun _ _ => rfl) s e,
   State.streamEntry_blind (f := State.vault) (fun _ _ => rfl) (fun _ _ => rfl) s e,
   State.streamEntry_blind (f := State.lanes) (fun _ _ => rfl) (fun _ _ => rfl) s e,
   State.streamEntry_blind (f := State.filt) (fun _ _ => rfl) (fun _ _ => rfl) s e,
   State.streamEntry_blind (f := State.rx) (fun _ _ => rfl) (fun _ _ => rfl) s e,
   State.streamEntry_blind (f := State.lea) (fun _ _ => rfl) (fun _ _ => rfl) s e,
   State.streamEntry_blind (f := State.marks) (fun _ _ => rfl) (fun _ _ => rfl) s e,
   State.streamEntry_blind (f := State.sec) (fun _ _ => rfl) (fun _ _ => rfl) s e,
   State.streamEntry_blind (f := State.led) (fun _ _ => rfl) (fun _ _ => rfl) s e,
   State.streamEntry_blind (f := State.tar) (fun _ _ => rfl) (fun _ _ => rfl) s e,
   State.streamEntry_blind (f := State.pre) (fun _ _ => rfl) (fun _ _ => rfl) s e,
   State.streamEntry_blind (f := State.air) (fun _ _ => rfl) (fun _ _ => rfl) s e,
   State.streamEntry_blind (f := State.fl) (fun _ _ => rfl) (fun _ _ => rfl) s e,
   State.streamEntry_blind (f := State.ling) (fun _ _ => rfl) (fun _ _ => rfl) s e,
   State.streamEntry_blind (f := State.met) (fun _ _ => rfl) (fun _ _ => rfl) s e,
   State.streamEntry_blind (f := State.bal) (fun _ _ => rfl) (fun _ _ => rfl) s e⟩

/-- A view of the state that is blind to ctrs, time, ev, pair, store sees no effect of watchReplay. -/
theorem State.watchReplay_blind {α : Type} {f : State → α} (hctrs : ∀ (s : State) x, f { s with ctrs := x } = f s) (htime : ∀ (s : State) x, f { s with time := x } = f s) (hev : ∀ (s : State) x, f { s with ev := x } = f s) (hpair : ∀ (s : State) x, f { s with pair := x } = f s) (hstore : ∀ (s : State) x, f { s with store := x } = f s)
    (s : State)  : f (s.watchReplay) = f s := by
  have hc : ∀ s : State, f s.startCheckpoint = f s := fun s => s.startCheckpoint_blind hstore
  unfold State.watchReplay
  dsimp only
  split <;> split
  · exact (State.raise_blind hctrs htime hev _ _ _ _ _).trans ((hpair _ _).trans (hc s))
  · exact hc s
  · exact (State.raise_blind hctrs htime hev _ _ _ _ _).trans (hpair _ _)
  · rfl

/-- watchReplay changes nothing but ctrs, time, ev, pair, store. -/
@[simp] theorem State.watchReplay_frame (s : State)  :
    (s.watchReplay).pending = s.pending ∧ (s.watchReplay).freeCtr = s.freeCtr ∧ (s.watchReplay).records = s.records ∧ (s.watchReplay).arch = s.arch ∧
    (s.watchReplay).mail = s.mail ∧ (s.watchReplay).ten = s.ten ∧ (s.watchReplay).upd = s.upd ∧ (s.watchReplay).safe = s.safe ∧
    (s.watchReplay).ports = s.ports ∧ (s.watchReplay).pow = s.pow ∧ (s.watchReplay).vault = s.vault ∧ (s.watchReplay).lanes = s.lanes ∧
    (s.watchReplay).filt = s.filt ∧ (s.watchReplay).rx = s.rx ∧ (s.watchReplay).lea = s.lea ∧ (s.watchReplay).marks = s.marks ∧
    (s.watchReplay).sec = s.sec ∧ (s.watchReplay).led = s.led ∧ (s.watchReplay).tar = s.tar ∧ (s.watchReplay).pre = s.pre ∧
    (s.watchReplay).air = s.air ∧ (s.watchReplay).fl = s.fl ∧ (s.watchReplay).ling = s.ling ∧ (s.watchReplay).met = s.met ∧
    (s.watchReplay).bal = s.bal :=
  ⟨State.watchReplay_blind (f := State.pending) (fun _ _ => rfl) (fun _ _ => rfl) (fun _ _ => rfl) (fun _ _ => rfl) (fun _ _ => rfl) s ,
   State.watchReplay_blind (f := State.freeCtr) (fun _ _ => rfl) (fun _ _ => rfl) (fun _ _ => rfl) (fun _ _ => rfl) (fun _ _ => rfl) s ,
   State.watchReplay_blind (f := State.records) (fun _ _ => rfl) (fun _ _ => rfl) (fun _ _ => rfl) (fun _ _ => rfl) (fun _ _ => rfl) s ,
   State.watchReplay_blind (f := State.arch) (fun _ _ => rfl) (fun _ _ => rfl) (fun _ _ => rfl) (fun _ _ => rfl) (fun _ _ => rfl) s ,
   State.watchReplay_blind (f := State.mail) (fun _ _ => rfl) (fun _ _ => rfl) (fun _ _ => rfl) (fun _ _ => rfl) (fun _ _ => rfl) s ,
   State.watchReplay_blind (f := State.ten) (fun _ _ => rfl) (fun _ _ => rfl) (fun _ _ => rfl) (fun _ _ => rfl) (fun _ _ => rfl) s ,
   State.watchReplay_blind (f := State.upd) (fun _ _ => rfl) (fun _ _ => rfl) (fun _ _ => rfl) (fun _ _ => rfl) (fun _ _ => rfl) s ,
   State.watchReplay_blind (f := State.safe) (fun _ _ => rfl) (fun _ _ => rfl) (fun _ _ => rfl) (fun _ _ => rfl) (fun _ _ => rfl) s ,
   State.watchReplay_blind (f := State.ports) (fun _ _ => rfl) (fun _ _ => rfl) (fun _ _ => rfl) (fun _ _ => rfl) (fun _ _ => rfl) s ,
   State.watchReplay_blind (f := State.pow) (fun _ _ => rfl) (fun _ _ => rfl) (fun _ _ => rfl) (fun _ _ => rfl) (fun _ _ => rfl) s ,
   State.watchReplay_blind (f := State.vault) (fun _ _ => rfl) (fun _ _ => rfl) (fun _ _ => rfl) (fun _ _ => rfl) (fun _ _ => rfl) s ,
   State.watchReplay_blind (f := State.lanes) (fun _ _ => rfl) (fun _ _ => rfl) (fun _ _ => rfl) (fun _ _ => rfl) (fun _ _ => rfl) s ,
   State.watchReplay_blind (f := State.filt) (fun _ _ => rfl) (fun _ _ => rfl) (fun _ _ => rfl) (fun _ _ => rfl) (fun _ _ => rfl) s ,
   State.watchReplay_blind (f := State.rx) (fun _ _ => rfl) (fun _ _ => rfl) (fun _ _ => rfl) (fun _ _ => rfl) (fun _ _ => rfl) s ,
   State.watchReplay_blind (f := State.lea) (fun _ _ => rfl) (fun _ _ => rfl) (fun _ _ => rfl) (fun _ _ => rfl) (fun _ _ => rfl) s ,
   State.watchReplay_blind (f := State.marks) (fun _ _ => rfl) (fun _ _ => rfl) (fun _ _ => rfl) (fun _ _ => rfl) (fun _ _ => rfl) s ,
   State.watchReplay_blind (f := State.sec) (fun _ _ => rfl) (fun _ _ => rfl) (fun _ _ => rfl) (fun _ _ => rfl) (fun _ _ => rfl) s ,
   State.watchReplay_blind (f := State.led) (fun _ _ => rfl) (fun _ _ => rfl) (fun _ _ => rfl) (fun _ _ => rfl) (fun _ _ => rfl) s ,
   State.watchReplay_blind (f := State.tar) (fun _ _ => rfl) (fun _ _ => rfl) (fun _ _ => rfl) (fun _ _ => rfl) (fun _ _ => rfl) s ,
   State.watchReplay_blind (f := State.pre) (fun _ _ => rfl) (fun _ _ => rfl) (fun _ _ => rfl) (fun _ _ => rfl) (fun _ _ => rfl) s ,
   State.watchReplay_blind (f := State.air) (fun _ _ => rfl) (fun _ _ => rfl) (fun _ _ => rfl) (fun _ _ => rfl) (fun _ _ => rfl) s ,
   State.watchReplay_blind (f := State.fl) (fun _ _ => rfl) (fun _ _ => rfl) (fun _ _ => rfl) (fun _ _ => rfl) (fun _ _ => rfl) s ,
   State.watchReplay_blind (f := State.ling) (fun _ _ => rfl) (fun _ _ => rfl) (fun _ _ => rfl) (fun _ _ => rfl) (fun _ _ => rfl) s ,
   State.watchReplay_blind (f := State.met) (fun _ _ => rfl) (fun _ _ => rfl) (fun _ _ => rfl) (fun _ _ => rfl) (fun _ _ => rfl) s ,
   State.watchReplay_blind (f := State.bal) (fun _ _ => rfl) (fun _ _ => rfl) (fun _ _ => rfl) (fun _ _ => rfl) (fun _ _ => rfl) s ⟩

/-- A chip that does not serve journals nothing (Table 22-2). -/
theorem State.journal_idle (s : State) (k : JKind) (t n : Nat) (b : JBody) (q : Nat) (h : s.journals = false) : s.journal k t n b q = s := by
  simp [State.journal, h]

/-- A view of the state that is blind to time, store sees no effect of addEntry. -/
theorem State.addEntry_blind {α : Type} {f : State → α} (htime : ∀ (s : State) x, f { s with time := x } = f s) (hstore : ∀ (s : State) x, f { s with store := x } = f s)
    (s : State) (e : JEntry) : f (s.addEntry e) = f s := by
  exact (htime { s.issued e.stamp with store := { (s.issued e.stamp).store with
    journal := (s.issued e.stamp).store.journal ++ [e], nextPos := (s.issued e.stamp).store.nextPos + 1 } } _).trans ((hstore (s.issued e.stamp) _).trans (htime s _))

/-- addEntry changes nothing but time, store. -/
@[simp] theorem State.addEntry_frame (s : State) (e : JEntry) :
    (s.addEntry e).pending = s.pending ∧ (s.addEntry e).freeCtr = s.freeCtr ∧ (s.addEntry e).ctrs = s.ctrs ∧ (s.addEntry e).records = s.records ∧
    (s.addEntry e).arch = s.arch ∧ (s.addEntry e).mail = s.mail ∧ (s.addEntry e).ev = s.ev ∧ (s.addEntry e).ten = s.ten ∧
    (s.addEntry e).pair = s.pair ∧ (s.addEntry e).upd = s.upd ∧ (s.addEntry e).safe = s.safe ∧ (s.addEntry e).ports = s.ports ∧
    (s.addEntry e).pow = s.pow ∧ (s.addEntry e).vault = s.vault ∧ (s.addEntry e).lanes = s.lanes ∧ (s.addEntry e).filt = s.filt ∧
    (s.addEntry e).rx = s.rx ∧ (s.addEntry e).lea = s.lea ∧ (s.addEntry e).marks = s.marks ∧ (s.addEntry e).sec = s.sec ∧
    (s.addEntry e).led = s.led ∧ (s.addEntry e).tar = s.tar ∧ (s.addEntry e).pre = s.pre ∧ (s.addEntry e).air = s.air ∧
    (s.addEntry e).fl = s.fl ∧ (s.addEntry e).ling = s.ling ∧ (s.addEntry e).met = s.met ∧ (s.addEntry e).bal = s.bal :=
  ⟨State.addEntry_blind (f := State.pending) (fun _ _ => rfl) (fun _ _ => rfl) s e,
   State.addEntry_blind (f := State.freeCtr) (fun _ _ => rfl) (fun _ _ => rfl) s e,
   State.addEntry_blind (f := State.ctrs) (fun _ _ => rfl) (fun _ _ => rfl) s e,
   State.addEntry_blind (f := State.records) (fun _ _ => rfl) (fun _ _ => rfl) s e,
   State.addEntry_blind (f := State.arch) (fun _ _ => rfl) (fun _ _ => rfl) s e,
   State.addEntry_blind (f := State.mail) (fun _ _ => rfl) (fun _ _ => rfl) s e,
   State.addEntry_blind (f := State.ev) (fun _ _ => rfl) (fun _ _ => rfl) s e,
   State.addEntry_blind (f := State.ten) (fun _ _ => rfl) (fun _ _ => rfl) s e,
   State.addEntry_blind (f := State.pair) (fun _ _ => rfl) (fun _ _ => rfl) s e,
   State.addEntry_blind (f := State.upd) (fun _ _ => rfl) (fun _ _ => rfl) s e,
   State.addEntry_blind (f := State.safe) (fun _ _ => rfl) (fun _ _ => rfl) s e,
   State.addEntry_blind (f := State.ports) (fun _ _ => rfl) (fun _ _ => rfl) s e,
   State.addEntry_blind (f := State.pow) (fun _ _ => rfl) (fun _ _ => rfl) s e,
   State.addEntry_blind (f := State.vault) (fun _ _ => rfl) (fun _ _ => rfl) s e,
   State.addEntry_blind (f := State.lanes) (fun _ _ => rfl) (fun _ _ => rfl) s e,
   State.addEntry_blind (f := State.filt) (fun _ _ => rfl) (fun _ _ => rfl) s e,
   State.addEntry_blind (f := State.rx) (fun _ _ => rfl) (fun _ _ => rfl) s e,
   State.addEntry_blind (f := State.lea) (fun _ _ => rfl) (fun _ _ => rfl) s e,
   State.addEntry_blind (f := State.marks) (fun _ _ => rfl) (fun _ _ => rfl) s e,
   State.addEntry_blind (f := State.sec) (fun _ _ => rfl) (fun _ _ => rfl) s e,
   State.addEntry_blind (f := State.led) (fun _ _ => rfl) (fun _ _ => rfl) s e,
   State.addEntry_blind (f := State.tar) (fun _ _ => rfl) (fun _ _ => rfl) s e,
   State.addEntry_blind (f := State.pre) (fun _ _ => rfl) (fun _ _ => rfl) s e,
   State.addEntry_blind (f := State.air) (fun _ _ => rfl) (fun _ _ => rfl) s e,
   State.addEntry_blind (f := State.fl) (fun _ _ => rfl) (fun _ _ => rfl) s e,
   State.addEntry_blind (f := State.ling) (fun _ _ => rfl) (fun _ _ => rfl) s e,
   State.addEntry_blind (f := State.met) (fun _ _ => rfl) (fun _ _ => rfl) s e,
   State.addEntry_blind (f := State.bal) (fun _ _ => rfl) (fun _ _ => rfl) s e⟩

/-- A view of the state that is blind to ctrs, time, ev, store sees no effect of watchRoom. -/
theorem State.watchRoom_blind {α : Type} {f : State → α} (hctrs : ∀ (s : State) x, f { s with ctrs := x } = f s) (htime : ∀ (s : State) x, f { s with time := x } = f s) (hev : ∀ (s : State) x, f { s with ev := x } = f s) (hstore : ∀ (s : State) x, f { s with store := x } = f s)
    (s : State)  : f (s.watchRoom) = f s := by
  unfold State.watchRoom
  split
  · exact (State.raise_blind hctrs htime hev _ _ _ _ _).trans (hstore _ _)
  · rfl

/-- watchRoom changes nothing but ctrs, time, ev, store. -/
@[simp] theorem State.watchRoom_frame (s : State)  :
    (s.watchRoom).pending = s.pending ∧ (s.watchRoom).freeCtr = s.freeCtr ∧ (s.watchRoom).records = s.records ∧ (s.watchRoom).arch = s.arch ∧
    (s.watchRoom).mail = s.mail ∧ (s.watchRoom).ten = s.ten ∧ (s.watchRoom).pair = s.pair ∧ (s.watchRoom).upd = s.upd ∧
    (s.watchRoom).safe = s.safe ∧ (s.watchRoom).ports = s.ports ∧ (s.watchRoom).pow = s.pow ∧ (s.watchRoom).vault = s.vault ∧
    (s.watchRoom).lanes = s.lanes ∧ (s.watchRoom).filt = s.filt ∧ (s.watchRoom).rx = s.rx ∧ (s.watchRoom).lea = s.lea ∧
    (s.watchRoom).marks = s.marks ∧ (s.watchRoom).sec = s.sec ∧ (s.watchRoom).led = s.led ∧ (s.watchRoom).tar = s.tar ∧
    (s.watchRoom).pre = s.pre ∧ (s.watchRoom).air = s.air ∧ (s.watchRoom).fl = s.fl ∧ (s.watchRoom).ling = s.ling ∧
    (s.watchRoom).met = s.met ∧ (s.watchRoom).bal = s.bal :=
  ⟨State.watchRoom_blind (f := State.pending) (fun _ _ => rfl) (fun _ _ => rfl) (fun _ _ => rfl) (fun _ _ => rfl) s ,
   State.watchRoom_blind (f := State.freeCtr) (fun _ _ => rfl) (fun _ _ => rfl) (fun _ _ => rfl) (fun _ _ => rfl) s ,
   State.watchRoom_blind (f := State.records) (fun _ _ => rfl) (fun _ _ => rfl) (fun _ _ => rfl) (fun _ _ => rfl) s ,
   State.watchRoom_blind (f := State.arch) (fun _ _ => rfl) (fun _ _ => rfl) (fun _ _ => rfl) (fun _ _ => rfl) s ,
   State.watchRoom_blind (f := State.mail) (fun _ _ => rfl) (fun _ _ => rfl) (fun _ _ => rfl) (fun _ _ => rfl) s ,
   State.watchRoom_blind (f := State.ten) (fun _ _ => rfl) (fun _ _ => rfl) (fun _ _ => rfl) (fun _ _ => rfl) s ,
   State.watchRoom_blind (f := State.pair) (fun _ _ => rfl) (fun _ _ => rfl) (fun _ _ => rfl) (fun _ _ => rfl) s ,
   State.watchRoom_blind (f := State.upd) (fun _ _ => rfl) (fun _ _ => rfl) (fun _ _ => rfl) (fun _ _ => rfl) s ,
   State.watchRoom_blind (f := State.safe) (fun _ _ => rfl) (fun _ _ => rfl) (fun _ _ => rfl) (fun _ _ => rfl) s ,
   State.watchRoom_blind (f := State.ports) (fun _ _ => rfl) (fun _ _ => rfl) (fun _ _ => rfl) (fun _ _ => rfl) s ,
   State.watchRoom_blind (f := State.pow) (fun _ _ => rfl) (fun _ _ => rfl) (fun _ _ => rfl) (fun _ _ => rfl) s ,
   State.watchRoom_blind (f := State.vault) (fun _ _ => rfl) (fun _ _ => rfl) (fun _ _ => rfl) (fun _ _ => rfl) s ,
   State.watchRoom_blind (f := State.lanes) (fun _ _ => rfl) (fun _ _ => rfl) (fun _ _ => rfl) (fun _ _ => rfl) s ,
   State.watchRoom_blind (f := State.filt) (fun _ _ => rfl) (fun _ _ => rfl) (fun _ _ => rfl) (fun _ _ => rfl) s ,
   State.watchRoom_blind (f := State.rx) (fun _ _ => rfl) (fun _ _ => rfl) (fun _ _ => rfl) (fun _ _ => rfl) s ,
   State.watchRoom_blind (f := State.lea) (fun _ _ => rfl) (fun _ _ => rfl) (fun _ _ => rfl) (fun _ _ => rfl) s ,
   State.watchRoom_blind (f := State.marks) (fun _ _ => rfl) (fun _ _ => rfl) (fun _ _ => rfl) (fun _ _ => rfl) s ,
   State.watchRoom_blind (f := State.sec) (fun _ _ => rfl) (fun _ _ => rfl) (fun _ _ => rfl) (fun _ _ => rfl) s ,
   State.watchRoom_blind (f := State.led) (fun _ _ => rfl) (fun _ _ => rfl) (fun _ _ => rfl) (fun _ _ => rfl) s ,
   State.watchRoom_blind (f := State.tar) (fun _ _ => rfl) (fun _ _ => rfl) (fun _ _ => rfl) (fun _ _ => rfl) s ,
   State.watchRoom_blind (f := State.pre) (fun _ _ => rfl) (fun _ _ => rfl) (fun _ _ => rfl) (fun _ _ => rfl) s ,
   State.watchRoom_blind (f := State.air) (fun _ _ => rfl) (fun _ _ => rfl) (fun _ _ => rfl) (fun _ _ => rfl) s ,
   State.watchRoom_blind (f := State.fl) (fun _ _ => rfl) (fun _ _ => rfl) (fun _ _ => rfl) (fun _ _ => rfl) s ,
   State.watchRoom_blind (f := State.ling) (fun _ _ => rfl) (fun _ _ => rfl) (fun _ _ => rfl) (fun _ _ => rfl) s ,
   State.watchRoom_blind (f := State.met) (fun _ _ => rfl) (fun _ _ => rfl) (fun _ _ => rfl) (fun _ _ => rfl) s ,
   State.watchRoom_blind (f := State.bal) (fun _ _ => rfl) (fun _ _ => rfl) (fun _ _ => rfl) (fun _ _ => rfl) s ⟩

/-- A view of the state that is blind to ctrs, time, ev, ports, pair, store sees no effect of passEntry. -/
theorem State.passEntry_blind {α : Type} {f : State → α} (hctrs : ∀ (s : State) x, f { s with ctrs := x } = f s) (htime : ∀ (s : State) x, f { s with time := x } = f s) (hev : ∀ (s : State) x, f { s with ev := x } = f s) (hports : ∀ (s : State) x, f { s with ports := x } = f s) (hpair : ∀ (s : State) x, f { s with pair := x } = f s) (hstore : ∀ (s : State) x, f { s with store := x } = f s)
    (s : State) (e : JEntry) : f (s.passEntry e) = f s := by
  unfold State.passEntry
  split
  · exact (State.watchReplay_blind hctrs htime hev hpair hstore _).trans (State.streamEntry_blind hctrs hports _ _)
  · rfl

/-- passEntry changes nothing but ctrs, time, ev, ports, pair, store. -/
@[simp] theorem State.passEntry_frame (s : State) (e : JEntry) :
    (s.passEntry e).pending = s.pending ∧ (s.passEntry e).freeCtr = s.freeCtr ∧ (s.passEntry e).records = s.records ∧ (s.passEntry e).arch = s.arch ∧
    (s.passEntry e).mail = s.mail ∧ (s.passEntry e).ten = s.ten ∧ (s.passEntry e).upd = s.upd ∧ (s.passEntry e).safe = s.safe ∧
    (s.passEntry e).pow = s.pow ∧ (s.passEntry e).vault = s.vault ∧ (s.passEntry e).lanes = s.lanes ∧ (s.passEntry e).filt = s.filt ∧
    (s.passEntry e).rx = s.rx ∧ (s.passEntry e).lea = s.lea ∧ (s.passEntry e).marks = s.marks ∧ (s.passEntry e).sec = s.sec ∧
    (s.passEntry e).led = s.led ∧ (s.passEntry e).tar = s.tar ∧ (s.passEntry e).pre = s.pre ∧ (s.passEntry e).air = s.air ∧
    (s.passEntry e).fl = s.fl ∧ (s.passEntry e).ling = s.ling ∧ (s.passEntry e).met = s.met ∧ (s.passEntry e).bal = s.bal :=
  ⟨State.passEntry_blind (f := State.pending) (fun _ _ => rfl) (fun _ _ => rfl) (fun _ _ => rfl) (fun _ _ => rfl) (fun _ _ => rfl) (fun _ _ => rfl) s e,
   State.passEntry_blind (f := State.freeCtr) (fun _ _ => rfl) (fun _ _ => rfl) (fun _ _ => rfl) (fun _ _ => rfl) (fun _ _ => rfl) (fun _ _ => rfl) s e,
   State.passEntry_blind (f := State.records) (fun _ _ => rfl) (fun _ _ => rfl) (fun _ _ => rfl) (fun _ _ => rfl) (fun _ _ => rfl) (fun _ _ => rfl) s e,
   State.passEntry_blind (f := State.arch) (fun _ _ => rfl) (fun _ _ => rfl) (fun _ _ => rfl) (fun _ _ => rfl) (fun _ _ => rfl) (fun _ _ => rfl) s e,
   State.passEntry_blind (f := State.mail) (fun _ _ => rfl) (fun _ _ => rfl) (fun _ _ => rfl) (fun _ _ => rfl) (fun _ _ => rfl) (fun _ _ => rfl) s e,
   State.passEntry_blind (f := State.ten) (fun _ _ => rfl) (fun _ _ => rfl) (fun _ _ => rfl) (fun _ _ => rfl) (fun _ _ => rfl) (fun _ _ => rfl) s e,
   State.passEntry_blind (f := State.upd) (fun _ _ => rfl) (fun _ _ => rfl) (fun _ _ => rfl) (fun _ _ => rfl) (fun _ _ => rfl) (fun _ _ => rfl) s e,
   State.passEntry_blind (f := State.safe) (fun _ _ => rfl) (fun _ _ => rfl) (fun _ _ => rfl) (fun _ _ => rfl) (fun _ _ => rfl) (fun _ _ => rfl) s e,
   State.passEntry_blind (f := State.pow) (fun _ _ => rfl) (fun _ _ => rfl) (fun _ _ => rfl) (fun _ _ => rfl) (fun _ _ => rfl) (fun _ _ => rfl) s e,
   State.passEntry_blind (f := State.vault) (fun _ _ => rfl) (fun _ _ => rfl) (fun _ _ => rfl) (fun _ _ => rfl) (fun _ _ => rfl) (fun _ _ => rfl) s e,
   State.passEntry_blind (f := State.lanes) (fun _ _ => rfl) (fun _ _ => rfl) (fun _ _ => rfl) (fun _ _ => rfl) (fun _ _ => rfl) (fun _ _ => rfl) s e,
   State.passEntry_blind (f := State.filt) (fun _ _ => rfl) (fun _ _ => rfl) (fun _ _ => rfl) (fun _ _ => rfl) (fun _ _ => rfl) (fun _ _ => rfl) s e,
   State.passEntry_blind (f := State.rx) (fun _ _ => rfl) (fun _ _ => rfl) (fun _ _ => rfl) (fun _ _ => rfl) (fun _ _ => rfl) (fun _ _ => rfl) s e,
   State.passEntry_blind (f := State.lea) (fun _ _ => rfl) (fun _ _ => rfl) (fun _ _ => rfl) (fun _ _ => rfl) (fun _ _ => rfl) (fun _ _ => rfl) s e,
   State.passEntry_blind (f := State.marks) (fun _ _ => rfl) (fun _ _ => rfl) (fun _ _ => rfl) (fun _ _ => rfl) (fun _ _ => rfl) (fun _ _ => rfl) s e,
   State.passEntry_blind (f := State.sec) (fun _ _ => rfl) (fun _ _ => rfl) (fun _ _ => rfl) (fun _ _ => rfl) (fun _ _ => rfl) (fun _ _ => rfl) s e,
   State.passEntry_blind (f := State.led) (fun _ _ => rfl) (fun _ _ => rfl) (fun _ _ => rfl) (fun _ _ => rfl) (fun _ _ => rfl) (fun _ _ => rfl) s e,
   State.passEntry_blind (f := State.tar) (fun _ _ => rfl) (fun _ _ => rfl) (fun _ _ => rfl) (fun _ _ => rfl) (fun _ _ => rfl) (fun _ _ => rfl) s e,
   State.passEntry_blind (f := State.pre) (fun _ _ => rfl) (fun _ _ => rfl) (fun _ _ => rfl) (fun _ _ => rfl) (fun _ _ => rfl) (fun _ _ => rfl) s e,
   State.passEntry_blind (f := State.air) (fun _ _ => rfl) (fun _ _ => rfl) (fun _ _ => rfl) (fun _ _ => rfl) (fun _ _ => rfl) (fun _ _ => rfl) s e,
   State.passEntry_blind (f := State.fl) (fun _ _ => rfl) (fun _ _ => rfl) (fun _ _ => rfl) (fun _ _ => rfl) (fun _ _ => rfl) (fun _ _ => rfl) s e,
   State.passEntry_blind (f := State.ling) (fun _ _ => rfl) (fun _ _ => rfl) (fun _ _ => rfl) (fun _ _ => rfl) (fun _ _ => rfl) (fun _ _ => rfl) s e,
   State.passEntry_blind (f := State.met) (fun _ _ => rfl) (fun _ _ => rfl) (fun _ _ => rfl) (fun _ _ => rfl) (fun _ _ => rfl) (fun _ _ => rfl) s e,
   State.passEntry_blind (f := State.bal) (fun _ _ => rfl) (fun _ _ => rfl) (fun _ _ => rfl) (fun _ _ => rfl) (fun _ _ => rfl) (fun _ _ => rfl) s e⟩

/-- A view of the state that is blind to ctrs, time, ev, ports, pair, store sees no effect of journal. -/
theorem State.journal_blind {α : Type} {f : State → α} (hctrs : ∀ (s : State) x, f { s with ctrs := x } = f s) (htime : ∀ (s : State) x, f { s with time := x } = f s) (hev : ∀ (s : State) x, f { s with ev := x } = f s) (hports : ∀ (s : State) x, f { s with ports := x } = f s) (hpair : ∀ (s : State) x, f { s with pair := x } = f s) (hstore : ∀ (s : State) x, f { s with store := x } = f s)
    (s : State) (k : JKind) (t n : Nat) (b : JBody) (q : Nat) : f (s.journal k t n b q) = f s := by
  unfold State.journal
  split
  · rfl
  · exact (State.passEntry_blind hctrs htime hev hports hpair hstore _ _).trans
      ((State.watchRoom_blind hctrs htime hev hstore _).trans (State.addEntry_blind htime hstore _ _))

/-- journal changes nothing but ctrs, time, ev, ports, pair, store. -/
@[simp] theorem State.journal_frame (s : State) (k : JKind) (t n : Nat) (b : JBody) (q : Nat) :
    (s.journal k t n b q).pending = s.pending ∧ (s.journal k t n b q).freeCtr = s.freeCtr ∧ (s.journal k t n b q).records = s.records ∧ (s.journal k t n b q).arch = s.arch ∧
    (s.journal k t n b q).mail = s.mail ∧ (s.journal k t n b q).ten = s.ten ∧ (s.journal k t n b q).upd = s.upd ∧ (s.journal k t n b q).safe = s.safe ∧
    (s.journal k t n b q).pow = s.pow ∧ (s.journal k t n b q).vault = s.vault ∧ (s.journal k t n b q).lanes = s.lanes ∧ (s.journal k t n b q).filt = s.filt ∧
    (s.journal k t n b q).rx = s.rx ∧ (s.journal k t n b q).lea = s.lea ∧ (s.journal k t n b q).marks = s.marks ∧ (s.journal k t n b q).sec = s.sec ∧
    (s.journal k t n b q).led = s.led ∧ (s.journal k t n b q).tar = s.tar ∧ (s.journal k t n b q).pre = s.pre ∧ (s.journal k t n b q).air = s.air ∧
    (s.journal k t n b q).fl = s.fl ∧ (s.journal k t n b q).ling = s.ling ∧ (s.journal k t n b q).met = s.met ∧ (s.journal k t n b q).bal = s.bal :=
  ⟨State.journal_blind (f := State.pending) (fun _ _ => rfl) (fun _ _ => rfl) (fun _ _ => rfl) (fun _ _ => rfl) (fun _ _ => rfl) (fun _ _ => rfl) s k t n b q,
   State.journal_blind (f := State.freeCtr) (fun _ _ => rfl) (fun _ _ => rfl) (fun _ _ => rfl) (fun _ _ => rfl) (fun _ _ => rfl) (fun _ _ => rfl) s k t n b q,
   State.journal_blind (f := State.records) (fun _ _ => rfl) (fun _ _ => rfl) (fun _ _ => rfl) (fun _ _ => rfl) (fun _ _ => rfl) (fun _ _ => rfl) s k t n b q,
   State.journal_blind (f := State.arch) (fun _ _ => rfl) (fun _ _ => rfl) (fun _ _ => rfl) (fun _ _ => rfl) (fun _ _ => rfl) (fun _ _ => rfl) s k t n b q,
   State.journal_blind (f := State.mail) (fun _ _ => rfl) (fun _ _ => rfl) (fun _ _ => rfl) (fun _ _ => rfl) (fun _ _ => rfl) (fun _ _ => rfl) s k t n b q,
   State.journal_blind (f := State.ten) (fun _ _ => rfl) (fun _ _ => rfl) (fun _ _ => rfl) (fun _ _ => rfl) (fun _ _ => rfl) (fun _ _ => rfl) s k t n b q,
   State.journal_blind (f := State.upd) (fun _ _ => rfl) (fun _ _ => rfl) (fun _ _ => rfl) (fun _ _ => rfl) (fun _ _ => rfl) (fun _ _ => rfl) s k t n b q,
   State.journal_blind (f := State.safe) (fun _ _ => rfl) (fun _ _ => rfl) (fun _ _ => rfl) (fun _ _ => rfl) (fun _ _ => rfl) (fun _ _ => rfl) s k t n b q,
   State.journal_blind (f := State.pow) (fun _ _ => rfl) (fun _ _ => rfl) (fun _ _ => rfl) (fun _ _ => rfl) (fun _ _ => rfl) (fun _ _ => rfl) s k t n b q,
   State.journal_blind (f := State.vault) (fun _ _ => rfl) (fun _ _ => rfl) (fun _ _ => rfl) (fun _ _ => rfl) (fun _ _ => rfl) (fun _ _ => rfl) s k t n b q,
   State.journal_blind (f := State.lanes) (fun _ _ => rfl) (fun _ _ => rfl) (fun _ _ => rfl) (fun _ _ => rfl) (fun _ _ => rfl) (fun _ _ => rfl) s k t n b q,
   State.journal_blind (f := State.filt) (fun _ _ => rfl) (fun _ _ => rfl) (fun _ _ => rfl) (fun _ _ => rfl) (fun _ _ => rfl) (fun _ _ => rfl) s k t n b q,
   State.journal_blind (f := State.rx) (fun _ _ => rfl) (fun _ _ => rfl) (fun _ _ => rfl) (fun _ _ => rfl) (fun _ _ => rfl) (fun _ _ => rfl) s k t n b q,
   State.journal_blind (f := State.lea) (fun _ _ => rfl) (fun _ _ => rfl) (fun _ _ => rfl) (fun _ _ => rfl) (fun _ _ => rfl) (fun _ _ => rfl) s k t n b q,
   State.journal_blind (f := State.marks) (fun _ _ => rfl) (fun _ _ => rfl) (fun _ _ => rfl) (fun _ _ => rfl) (fun _ _ => rfl) (fun _ _ => rfl) s k t n b q,
   State.journal_blind (f := State.sec) (fun _ _ => rfl) (fun _ _ => rfl) (fun _ _ => rfl) (fun _ _ => rfl) (fun _ _ => rfl) (fun _ _ => rfl) s k t n b q,
   State.journal_blind (f := State.led) (fun _ _ => rfl) (fun _ _ => rfl) (fun _ _ => rfl) (fun _ _ => rfl) (fun _ _ => rfl) (fun _ _ => rfl) s k t n b q,
   State.journal_blind (f := State.tar) (fun _ _ => rfl) (fun _ _ => rfl) (fun _ _ => rfl) (fun _ _ => rfl) (fun _ _ => rfl) (fun _ _ => rfl) s k t n b q,
   State.journal_blind (f := State.pre) (fun _ _ => rfl) (fun _ _ => rfl) (fun _ _ => rfl) (fun _ _ => rfl) (fun _ _ => rfl) (fun _ _ => rfl) s k t n b q,
   State.journal_blind (f := State.air) (fun _ _ => rfl) (fun _ _ => rfl) (fun _ _ => rfl) (fun _ _ => rfl) (fun _ _ => rfl) (fun _ _ => rfl) s k t n b q,
   State.journal_blind (f := State.fl) (fun _ _ => rfl) (fun _ _ => rfl) (fun _ _ => rfl) (fun _ _ => rfl) (fun _ _ => rfl) (fun _ _ => rfl) s k t n b q,
   State.journal_blind (f := State.ling) (fun _ _ => rfl) (fun _ _ => rfl) (fun _ _ => rfl) (fun _ _ => rfl) (fun _ _ => rfl) (fun _ _ => rfl) s k t n b q,
   State.journal_blind (f := State.met) (fun _ _ => rfl) (fun _ _ => rfl) (fun _ _ => rfl) (fun _ _ => rfl) (fun _ _ => rfl) (fun _ _ => rfl) s k t n b q,
   State.journal_blind (f := State.bal) (fun _ _ => rfl) (fun _ _ => rfl) (fun _ _ => rfl) (fun _ _ => rfl) (fun _ _ => rfl) (fun _ _ => rfl) s k t n b q⟩

/-- A chip that does not serve carries nothing. -/
theorem State.carry_idle (s : State) (k : Kept) (h : s.journals = false) : s.carry k = s := by
  simp [State.carry, h]

/-- A view of the state that is blind to ctrs, ports sees no effect of streamKept. -/
theorem State.streamKept_blind {α : Type} {f : State → α} (hctrs : ∀ (s : State) x, f { s with ctrs := x } = f s) (hports : ∀ (s : State) x, f { s with ports := x } = f s)
    (s : State) (n : Nat) (k : Kept) : f (s.streamKept n k) = f s := by
  exact State.sendPartner_blind hctrs hports _ _ _ _ _

/-- streamKept changes nothing but ctrs, ports. -/
@[simp] theorem State.streamKept_frame (s : State) (n : Nat) (k : Kept) :
    (s.streamKept n k).pending = s.pending ∧ (s.streamKept n k).freeCtr = s.freeCtr ∧ (s.streamKept n k).records = s.records ∧ (s.streamKept n k).arch = s.arch ∧
    (s.streamKept n k).mail = s.mail ∧ (s.streamKept n k).time = s.time ∧ (s.streamKept n k).ev = s.ev ∧ (s.streamKept n k).ten = s.ten ∧
    (s.streamKept n k).pair = s.pair ∧ (s.streamKept n k).upd = s.upd ∧ (s.streamKept n k).safe = s.safe ∧ (s.streamKept n k).pow = s.pow ∧
    (s.streamKept n k).store = s.store ∧ (s.streamKept n k).vault = s.vault ∧ (s.streamKept n k).lanes = s.lanes ∧ (s.streamKept n k).filt = s.filt ∧
    (s.streamKept n k).rx = s.rx ∧ (s.streamKept n k).lea = s.lea ∧ (s.streamKept n k).marks = s.marks ∧ (s.streamKept n k).sec = s.sec ∧
    (s.streamKept n k).led = s.led ∧ (s.streamKept n k).tar = s.tar ∧ (s.streamKept n k).pre = s.pre ∧ (s.streamKept n k).air = s.air ∧
    (s.streamKept n k).fl = s.fl ∧ (s.streamKept n k).ling = s.ling ∧ (s.streamKept n k).met = s.met ∧ (s.streamKept n k).bal = s.bal :=
  ⟨State.streamKept_blind (f := State.pending) (fun _ _ => rfl) (fun _ _ => rfl) s n k,
   State.streamKept_blind (f := State.freeCtr) (fun _ _ => rfl) (fun _ _ => rfl) s n k,
   State.streamKept_blind (f := State.records) (fun _ _ => rfl) (fun _ _ => rfl) s n k,
   State.streamKept_blind (f := State.arch) (fun _ _ => rfl) (fun _ _ => rfl) s n k,
   State.streamKept_blind (f := State.mail) (fun _ _ => rfl) (fun _ _ => rfl) s n k,
   State.streamKept_blind (f := State.time) (fun _ _ => rfl) (fun _ _ => rfl) s n k,
   State.streamKept_blind (f := State.ev) (fun _ _ => rfl) (fun _ _ => rfl) s n k,
   State.streamKept_blind (f := State.ten) (fun _ _ => rfl) (fun _ _ => rfl) s n k,
   State.streamKept_blind (f := State.pair) (fun _ _ => rfl) (fun _ _ => rfl) s n k,
   State.streamKept_blind (f := State.upd) (fun _ _ => rfl) (fun _ _ => rfl) s n k,
   State.streamKept_blind (f := State.safe) (fun _ _ => rfl) (fun _ _ => rfl) s n k,
   State.streamKept_blind (f := State.pow) (fun _ _ => rfl) (fun _ _ => rfl) s n k,
   State.streamKept_blind (f := State.store) (fun _ _ => rfl) (fun _ _ => rfl) s n k,
   State.streamKept_blind (f := State.vault) (fun _ _ => rfl) (fun _ _ => rfl) s n k,
   State.streamKept_blind (f := State.lanes) (fun _ _ => rfl) (fun _ _ => rfl) s n k,
   State.streamKept_blind (f := State.filt) (fun _ _ => rfl) (fun _ _ => rfl) s n k,
   State.streamKept_blind (f := State.rx) (fun _ _ => rfl) (fun _ _ => rfl) s n k,
   State.streamKept_blind (f := State.lea) (fun _ _ => rfl) (fun _ _ => rfl) s n k,
   State.streamKept_blind (f := State.marks) (fun _ _ => rfl) (fun _ _ => rfl) s n k,
   State.streamKept_blind (f := State.sec) (fun _ _ => rfl) (fun _ _ => rfl) s n k,
   State.streamKept_blind (f := State.led) (fun _ _ => rfl) (fun _ _ => rfl) s n k,
   State.streamKept_blind (f := State.tar) (fun _ _ => rfl) (fun _ _ => rfl) s n k,
   State.streamKept_blind (f := State.pre) (fun _ _ => rfl) (fun _ _ => rfl) s n k,
   State.streamKept_blind (f := State.air) (fun _ _ => rfl) (fun _ _ => rfl) s n k,
   State.streamKept_blind (f := State.fl) (fun _ _ => rfl) (fun _ _ => rfl) s n k,
   State.streamKept_blind (f := State.ling) (fun _ _ => rfl) (fun _ _ => rfl) s n k,
   State.streamKept_blind (f := State.met) (fun _ _ => rfl) (fun _ _ => rfl) s n k,
   State.streamKept_blind (f := State.bal) (fun _ _ => rfl) (fun _ _ => rfl) s n k⟩

/-- A view of the state that is blind to ctrs, ports, store sees no effect of carry. -/
theorem State.carry_blind {α : Type} {f : State → α} (hctrs : ∀ (s : State) x, f { s with ctrs := x } = f s) (hports : ∀ (s : State) x, f { s with ports := x } = f s) (hstore : ∀ (s : State) x, f { s with store := x } = f s)
    (s : State) (k : Kept) : f (s.carry k) = f s := by
  unfold State.carry
  split
  · rfl
  · dsimp only
    split
    · exact (State.streamKept_blind hctrs hports _ _ _).trans (hstore _ _)
    · exact hstore _ _

/-- carry changes nothing but ctrs, ports, store. -/
@[simp] theorem State.carry_frame (s : State) (k : Kept) :
    (s.carry k).pending = s.pending ∧ (s.carry k).freeCtr = s.freeCtr ∧ (s.carry k).records = s.records ∧ (s.carry k).arch = s.arch ∧
    (s.carry k).mail = s.mail ∧ (s.carry k).time = s.time ∧ (s.carry k).ev = s.ev ∧ (s.carry k).ten = s.ten ∧
    (s.carry k).pair = s.pair ∧ (s.carry k).upd = s.upd ∧ (s.carry k).safe = s.safe ∧ (s.carry k).pow = s.pow ∧
    (s.carry k).vault = s.vault ∧ (s.carry k).lanes = s.lanes ∧ (s.carry k).filt = s.filt ∧ (s.carry k).rx = s.rx ∧
    (s.carry k).lea = s.lea ∧ (s.carry k).marks = s.marks ∧ (s.carry k).sec = s.sec ∧ (s.carry k).led = s.led ∧
    (s.carry k).tar = s.tar ∧ (s.carry k).pre = s.pre ∧ (s.carry k).air = s.air ∧ (s.carry k).fl = s.fl ∧
    (s.carry k).ling = s.ling ∧ (s.carry k).met = s.met ∧ (s.carry k).bal = s.bal :=
  ⟨State.carry_blind (f := State.pending) (fun _ _ => rfl) (fun _ _ => rfl) (fun _ _ => rfl) s k,
   State.carry_blind (f := State.freeCtr) (fun _ _ => rfl) (fun _ _ => rfl) (fun _ _ => rfl) s k,
   State.carry_blind (f := State.records) (fun _ _ => rfl) (fun _ _ => rfl) (fun _ _ => rfl) s k,
   State.carry_blind (f := State.arch) (fun _ _ => rfl) (fun _ _ => rfl) (fun _ _ => rfl) s k,
   State.carry_blind (f := State.mail) (fun _ _ => rfl) (fun _ _ => rfl) (fun _ _ => rfl) s k,
   State.carry_blind (f := State.time) (fun _ _ => rfl) (fun _ _ => rfl) (fun _ _ => rfl) s k,
   State.carry_blind (f := State.ev) (fun _ _ => rfl) (fun _ _ => rfl) (fun _ _ => rfl) s k,
   State.carry_blind (f := State.ten) (fun _ _ => rfl) (fun _ _ => rfl) (fun _ _ => rfl) s k,
   State.carry_blind (f := State.pair) (fun _ _ => rfl) (fun _ _ => rfl) (fun _ _ => rfl) s k,
   State.carry_blind (f := State.upd) (fun _ _ => rfl) (fun _ _ => rfl) (fun _ _ => rfl) s k,
   State.carry_blind (f := State.safe) (fun _ _ => rfl) (fun _ _ => rfl) (fun _ _ => rfl) s k,
   State.carry_blind (f := State.pow) (fun _ _ => rfl) (fun _ _ => rfl) (fun _ _ => rfl) s k,
   State.carry_blind (f := State.vault) (fun _ _ => rfl) (fun _ _ => rfl) (fun _ _ => rfl) s k,
   State.carry_blind (f := State.lanes) (fun _ _ => rfl) (fun _ _ => rfl) (fun _ _ => rfl) s k,
   State.carry_blind (f := State.filt) (fun _ _ => rfl) (fun _ _ => rfl) (fun _ _ => rfl) s k,
   State.carry_blind (f := State.rx) (fun _ _ => rfl) (fun _ _ => rfl) (fun _ _ => rfl) s k,
   State.carry_blind (f := State.lea) (fun _ _ => rfl) (fun _ _ => rfl) (fun _ _ => rfl) s k,
   State.carry_blind (f := State.marks) (fun _ _ => rfl) (fun _ _ => rfl) (fun _ _ => rfl) s k,
   State.carry_blind (f := State.sec) (fun _ _ => rfl) (fun _ _ => rfl) (fun _ _ => rfl) s k,
   State.carry_blind (f := State.led) (fun _ _ => rfl) (fun _ _ => rfl) (fun _ _ => rfl) s k,
   State.carry_blind (f := State.tar) (fun _ _ => rfl) (fun _ _ => rfl) (fun _ _ => rfl) s k,
   State.carry_blind (f := State.pre) (fun _ _ => rfl) (fun _ _ => rfl) (fun _ _ => rfl) s k,
   State.carry_blind (f := State.air) (fun _ _ => rfl) (fun _ _ => rfl) (fun _ _ => rfl) s k,
   State.carry_blind (f := State.fl) (fun _ _ => rfl) (fun _ _ => rfl) (fun _ _ => rfl) s k,
   State.carry_blind (f := State.ling) (fun _ _ => rfl) (fun _ _ => rfl) (fun _ _ => rfl) s k,
   State.carry_blind (f := State.met) (fun _ _ => rfl) (fun _ _ => rfl) (fun _ _ => rfl) s k,
   State.carry_blind (f := State.bal) (fun _ _ => rfl) (fun _ _ => rfl) (fun _ _ => rfl) s k⟩

/-- A view of the state that is blind to ctrs, ports, store sees no effect of carryAll. -/
theorem State.carryAll_blind {α : Type} {f : State → α} (hctrs : ∀ (s : State) x, f { s with ctrs := x } = f s) (hports : ∀ (s : State) x, f { s with ports := x } = f s) (hstore : ∀ (s : State) x, f { s with store := x } = f s)
    (s : State) (l : List Kept) : f (s.carryAll l) = f s := by
  induction l generalizing s with
  | nil => rfl
  | cons k l ih => exact (ih (s.carry k)).trans (State.carry_blind hctrs hports hstore s k)

/-- carryAll changes nothing but ctrs, ports, store. -/
@[simp] theorem State.carryAll_frame (s : State) (l : List Kept) :
    (s.carryAll l).pending = s.pending ∧ (s.carryAll l).freeCtr = s.freeCtr ∧ (s.carryAll l).records = s.records ∧ (s.carryAll l).arch = s.arch ∧
    (s.carryAll l).mail = s.mail ∧ (s.carryAll l).time = s.time ∧ (s.carryAll l).ev = s.ev ∧ (s.carryAll l).ten = s.ten ∧
    (s.carryAll l).pair = s.pair ∧ (s.carryAll l).upd = s.upd ∧ (s.carryAll l).safe = s.safe ∧ (s.carryAll l).pow = s.pow ∧
    (s.carryAll l).vault = s.vault ∧ (s.carryAll l).lanes = s.lanes ∧ (s.carryAll l).filt = s.filt ∧ (s.carryAll l).rx = s.rx ∧
    (s.carryAll l).lea = s.lea ∧ (s.carryAll l).marks = s.marks ∧ (s.carryAll l).sec = s.sec ∧ (s.carryAll l).led = s.led ∧
    (s.carryAll l).tar = s.tar ∧ (s.carryAll l).pre = s.pre ∧ (s.carryAll l).air = s.air ∧ (s.carryAll l).fl = s.fl ∧
    (s.carryAll l).ling = s.ling ∧ (s.carryAll l).met = s.met ∧ (s.carryAll l).bal = s.bal :=
  ⟨State.carryAll_blind (f := State.pending) (fun _ _ => rfl) (fun _ _ => rfl) (fun _ _ => rfl) s l,
   State.carryAll_blind (f := State.freeCtr) (fun _ _ => rfl) (fun _ _ => rfl) (fun _ _ => rfl) s l,
   State.carryAll_blind (f := State.records) (fun _ _ => rfl) (fun _ _ => rfl) (fun _ _ => rfl) s l,
   State.carryAll_blind (f := State.arch) (fun _ _ => rfl) (fun _ _ => rfl) (fun _ _ => rfl) s l,
   State.carryAll_blind (f := State.mail) (fun _ _ => rfl) (fun _ _ => rfl) (fun _ _ => rfl) s l,
   State.carryAll_blind (f := State.time) (fun _ _ => rfl) (fun _ _ => rfl) (fun _ _ => rfl) s l,
   State.carryAll_blind (f := State.ev) (fun _ _ => rfl) (fun _ _ => rfl) (fun _ _ => rfl) s l,
   State.carryAll_blind (f := State.ten) (fun _ _ => rfl) (fun _ _ => rfl) (fun _ _ => rfl) s l,
   State.carryAll_blind (f := State.pair) (fun _ _ => rfl) (fun _ _ => rfl) (fun _ _ => rfl) s l,
   State.carryAll_blind (f := State.upd) (fun _ _ => rfl) (fun _ _ => rfl) (fun _ _ => rfl) s l,
   State.carryAll_blind (f := State.safe) (fun _ _ => rfl) (fun _ _ => rfl) (fun _ _ => rfl) s l,
   State.carryAll_blind (f := State.pow) (fun _ _ => rfl) (fun _ _ => rfl) (fun _ _ => rfl) s l,
   State.carryAll_blind (f := State.vault) (fun _ _ => rfl) (fun _ _ => rfl) (fun _ _ => rfl) s l,
   State.carryAll_blind (f := State.lanes) (fun _ _ => rfl) (fun _ _ => rfl) (fun _ _ => rfl) s l,
   State.carryAll_blind (f := State.filt) (fun _ _ => rfl) (fun _ _ => rfl) (fun _ _ => rfl) s l,
   State.carryAll_blind (f := State.rx) (fun _ _ => rfl) (fun _ _ => rfl) (fun _ _ => rfl) s l,
   State.carryAll_blind (f := State.lea) (fun _ _ => rfl) (fun _ _ => rfl) (fun _ _ => rfl) s l,
   State.carryAll_blind (f := State.marks) (fun _ _ => rfl) (fun _ _ => rfl) (fun _ _ => rfl) s l,
   State.carryAll_blind (f := State.sec) (fun _ _ => rfl) (fun _ _ => rfl) (fun _ _ => rfl) s l,
   State.carryAll_blind (f := State.led) (fun _ _ => rfl) (fun _ _ => rfl) (fun _ _ => rfl) s l,
   State.carryAll_blind (f := State.tar) (fun _ _ => rfl) (fun _ _ => rfl) (fun _ _ => rfl) s l,
   State.carryAll_blind (f := State.pre) (fun _ _ => rfl) (fun _ _ => rfl) (fun _ _ => rfl) s l,
   State.carryAll_blind (f := State.air) (fun _ _ => rfl) (fun _ _ => rfl) (fun _ _ => rfl) s l,
   State.carryAll_blind (f := State.fl) (fun _ _ => rfl) (fun _ _ => rfl) (fun _ _ => rfl) s l,
   State.carryAll_blind (f := State.ling) (fun _ _ => rfl) (fun _ _ => rfl) (fun _ _ => rfl) s l,
   State.carryAll_blind (f := State.met) (fun _ _ => rfl) (fun _ _ => rfl) (fun _ _ => rfl) s l,
   State.carryAll_blind (f := State.bal) (fun _ _ => rfl) (fun _ _ => rfl) (fun _ _ => rfl) s l⟩

/-! ### Checks -/

/-- A command whose checks all hold runs. -/
theorem gated_pass (s : State) (l : List (Bool × Status)) (run : State → Reply × State) (h : ∀ c ∈ l, c.1 = true) : gated s l run = run s := by
  have : l.find? (fun c => !c.1) = none := by
    rw [List.find?_eq_none]
    intro c hc
    simp [h c hc]
  simp [gated, this]

/-- A command that a check refuses changes nothing, and answers that check's status. -/
theorem gated_cases (s : State) (l : List (Bool × Status)) (run : State → Reply × State) :
    (∃ c ∈ l, c.1 = false ∧ gated s l run = ({ status := c.2 }, s)) ∨ ((∀ c ∈ l, c.1 = true) ∧ gated s l run = run s) := by
  cases h : l.find? (fun c => !c.1) with
  | none =>
    rw [List.find?_eq_none] at h
    refine Or.inr ⟨fun c hc => by simpa using h c hc, ?_⟩
    exact gated_pass s l run fun c hc => by simpa using h c hc
  | some c =>
    have hm := List.mem_of_find?_eq_some h
    have hp := List.find?_some h
    exact Or.inl ⟨c, hm, by simpa using hp, by simp [gated, h]⟩

/-- The same for a command that only reads. -/
theorem gatedRead_pass (l : List (Bool × Status)) (y : Reply) (h : ∀ c ∈ l, c.1 = true) : gatedRead l y = y := by
  have : l.find? (fun c => !c.1) = none := by
    rw [List.find?_eq_none]
    intro c hc
    simp [h c hc]
  simp [gatedRead, this]

/-! ### The frame of a mailbox command -/

/-- A chip that is neither in HELD nor saving gates nothing. -/
theorem State.chipGate_open (s : State) (cmd : Cmd) (o : Reply × State) (h : s.pow.stage ≠ 0x0F) (hs : s.saveHalts = false) :
    s.chipGate cmd o = o := by
  simp [State.chipGate, h, hs]

/-- A command that only reads passes the chip's gate. -/
theorem State.chipGate_read (s : State) (cmd : Cmd) (y : Reply) (h : cmd.heldAccepts = true) : s.chipGate cmd (y, s) = (y, s) := by
  simp [State.chipGate, h]

/-- A channel without a request for the command: the command does not occur. -/
theorem State.command_none (s : State) (n : Nat) (cmd : Cmd) (run : Caller → State → Reply × State) (h : s.requestFor n cmd = none) :
    s.command n cmd run = s := by
  simp [State.command, h]

/-- A command of an open session is answered with what its run gives, as the chip's gate leaves it. -/
theorem State.command_some (s : State) (n : Nat) (cmd : Cmd) (run : Caller → State → Reply × State) (r : Request) (c : Caller)
    (h : s.requestFor n cmd = some r) (hc : s.caller n r = some c) :
    s.command n cmd run = (s.chipGate cmd (run c s)).2.respond n r (s.chipGate cmd (run c s)).1 := by
  simp [State.command, h, hc]

/-- A read answers what it reads, and changes its own channel alone. -/
theorem State.readCommand_some (s : State) (n : Nat) (cmd : Cmd) (read : Caller → State → Reply) (r : Request) (c : Caller)
    (h : s.requestFor n cmd = some r) (hc : s.caller n r = some c) (hk : cmd.heldAccepts = true) :
    s.readCommand n cmd read = s.respond n r (read c s) := by
  simp [State.readCommand, State.command_some s n cmd _ r c h hc, State.chipGate_read, hk]

/-- The response that an answer leaves on its channel. -/
theorem State.response_respond (s : State) (n : Nat) (r : Request) (y : Reply) :
    ((s.respond n r y).chan n).response =
      some ⟨r.cmd.code, y.status, y.body, r.seq, r.corr, r.sessionId, r.tagged, none, false⟩ := by
  simp [State.respond]

/-! ### Records -/

/-- Storing a record sets its instance, and the journal alone moves with it. -/
theorem State.storeRecord_records (s : State) (rid inst tenant body : Nat) :
    (s.storeRecord rid inst tenant body).records = Map.put s.records (rid, inst) ⟨tenant, body⟩ := by
  simp [State.storeRecord]

/-- A record that is accepted is applied. -/
theorem State.applyRecord_accept (s : State) (rule : RecordRule) (c : Schema) (tenant inst : Nat) (b : List Byte) (body : Nat)
    (es : List ReportEntry) (ho : s.ownerFits rule tenant inst = true) (h : s.judgeRecord rule c tenant inst b.length b = .accept body es) :
    s.applyRecord rule c tenant inst b = s.applyBody rule c tenant inst body := by
  simp [State.applyRecord, ho, h]

/-- A record whose header tenant it cannot have changes nothing. -/
theorem State.applyRecord_tenant (s : State) (rule : RecordRule) (c : Schema) (tenant inst : Nat) (b : List Byte)
    (h : s.ownerFits rule tenant inst = false) : s.applyRecord rule c tenant inst b = s := by
  simp [State.applyRecord, h]

/-- A record that is refused changes nothing. -/
theorem State.applyRecord_refuse (s : State) (rule : RecordRule) (c : Schema) (tenant inst : Nat) (b : List Byte) (st : Status)
    (e : Option ReportEntry) (h : s.judgeRecord rule c tenant inst b.length b = .refuse st e) : s.applyRecord rule c tenant inst b = s := by
  simp [State.applyRecord, h]

/-! ### The buffers of the host window -/

/-- Cells above an address, in rising order and none of them 0. -/
def bufFrom (lo : Nat) : List Host.Cell → Prop
  | [] => True
  | (a, v) :: l => lo ≤ a ∧ v ≠ 0 ∧ bufFrom (a + 1) l

theorem bufFrom_mono {lo hi : Nat} (h : lo ≤ hi) : (l : List Host.Cell) → bufFrom hi l → bufFrom lo l
  | [], _ => trivial
  | (_, _) :: _, ⟨h1, h2, h3⟩ => ⟨Nat.le_trans h h1, h2, h3⟩

theorem bufWf_iff : (l : List Host.Cell) → (bufWf l = true ↔ bufFrom 0 l)
  | [] => by simp [bufWf, bufFrom]
  | [(a, v)] => by simp [bufWf, bufFrom]
  | (a, v) :: (b, w) :: l => by
    have ih := bufWf_iff ((b, w) :: l)
    simp only [bufWf, Bool.and_eq_true, decide_eq_true_eq, ih, bufFrom]
    constructor
    · rintro ⟨⟨h1, h2⟩, _, h4, h5⟩
      exact ⟨Nat.zero_le _, h1, h2, h4, h5⟩
    · rintro ⟨_, h2, h3, h4, h5⟩
      exact ⟨⟨h2, h3⟩, Nat.zero_le _, h4, h5⟩

theorem bufFrom_write (k : Nat) (v : Byte) : (l : List Host.Cell) → (lo : Nat) → lo ≤ k → bufFrom lo l → bufFrom lo (bufWrite l k v)
  | [], lo, h, _ => by
    by_cases hv : v = 0
    · simp [bufWrite, hv, bufFrom]
    · have : ¬v = 0#8 := hv
      simp [bufWrite, this, bufFrom, h]
  | (a, b) :: l, lo, h, ⟨h1, h2, h3⟩ => by
    unfold bufWrite
    split
    · rename_i hk
      split
      · exact ⟨h1, h2, h3⟩
      · rename_i hv
        exact ⟨h, hv, hk, h2, h3⟩
    · split
      · rename_i hk he
        subst he
        split
        · exact bufFrom_mono (by omega) l h3
        · rename_i hv
          exact ⟨h1, hv, h3⟩
      · rename_i hk he
        exact ⟨h1, h2, bufFrom_write k v l (a + 1) (by omega) h3⟩

/-- A write keeps the canonical form. -/
theorem bufWf_write (l : List Host.Cell) (k : Nat) (v : Byte) (h : bufWf l = true) : bufWf (bufWrite l k v) = true :=
  (bufWf_iff _).2 (bufFrom_write k v l 0 (Nat.zero_le _) ((bufWf_iff l).1 h))

/-- Bytes stored from an address on keep it too. -/
theorem bufWf_store : (b : List Byte) → (l : List Host.Cell) → (k : Nat) → bufWf l = true → bufWf (bufStore l k b) = true
  | [], _, _, h => by simpa [bufStore] using h
  | v :: b, l, k, h => by
    simp only [bufStore]
    exact bufWf_store b _ _ (bufWf_write l k v h)

theorem bufRead_below (k : Nat) : (l : List Host.Cell) → (lo : Nat) → k < lo → bufFrom lo l → bufRead l k = 0
  | [], _, _, _ => rfl
  | (a, b) :: l, lo, hk, ⟨h1, _, h3⟩ => by
    have : ¬a = k := by omega
    simp only [bufRead, this, if_false]
    exact bufRead_below k l (a + 1) (by omega) h3

theorem bufRead_write_from (k : Nat) (v : Byte) (j : Nat) : (l : List Host.Cell) → (lo : Nat) → bufFrom lo l →
    bufRead (bufWrite l k v) j = if j = k then v else bufRead l j
  | [], _, _ => by
    have hk : (k = j) = (j = k) := propext ⟨Eq.symm, Eq.symm⟩
    by_cases hv : v = 0#8 <;> by_cases hj : j = k <;> simp [bufWrite, bufRead, hv, hj, hk]
  | (a, b) :: l, lo, ⟨h1, h2, h3⟩ => by
    have below : ∀ i, i ≤ a → bufRead l i = 0 := fun i hi => bufRead_below i l (a + 1) (by omega) h3
    unfold bufWrite
    split
    · rename_i hk
      split
      · rename_i hv
        by_cases hj : j = k
        · subst hj
          have : ¬a = j := by omega
          simp [bufRead, this, below j (by omega), hv]
        · simp [hj]
      · by_cases hj : j = k
        · simp [bufRead, hj]
        · have : ¬k = j := fun e => hj e.symm
          simp [bufRead, hj, this]
    · split
      · rename_i hk he
        subst he
        split
        · rename_i hv
          by_cases hj : j = k
          · subst hj
            simp [below j (Nat.le_refl _), hv]
          · have : ¬k = j := fun e => hj e.symm
            simp [bufRead, hj, this]
        · by_cases hj : j = k
          · simp [bufRead, hj]
          · have : ¬k = j := fun e => hj e.symm
            simp [bufRead, hj, this]
      · rename_i hk he
        have ih := bufRead_write_from k v j l (a + 1) h3
        by_cases ha : a = j
        · subst ha
          have : ¬a = k := fun e => he e.symm
          simp [bufRead, this]
        · simp [bufRead, ha, ih]

/-- A byte reads what was written to it, and every other byte reads as before. -/
theorem bufRead_write (l : List Host.Cell) (k j : Nat) (v : Byte) (h : bufWf l = true) :
    bufRead (bufWrite l k v) j = if j = k then v else bufRead l j := bufRead_write_from k v j l 0 ((bufWf_iff l).1 h)

/-- Storing bytes leaves every other byte of the window as it was. -/
theorem bufRead_store_other (j : Nat) : (b : List Byte) → (l : List Host.Cell) → (k : Nat) → bufWf l = true → j < k ∨ k + b.length ≤ j →
    bufRead (bufStore l k b) j = bufRead l j
  | [], _, _, _, _ => rfl
  | v :: b, l, k, h, hj => by
    simp only [List.length_cons] at hj
    have hne : ¬j = k := by omega
    simp only [bufStore]
    rw [bufRead_store_other j b _ _ (bufWf_write l k v h) (by omega), bufRead_write l k j v h]
    simp [hne]

end Sys2Proof.Machine
end

