-- ==== Sys2Proof/WellFormed.lean ====
section
/-! DEFINITION. Well-formed commands: every operand fits the field that carries it. -/

namespace Sys2Proof

/-- A number that fits a field of the given count of values. -/
def fits (v n : Nat) : Bool := decide (v < n)

/-- A number that fits an 8-byte slot. -/
def isSlot (v : Nat) : Bool := decide (v < 2 ^ 64)

/-- A signed number that fits an 8-byte slot. -/
def isInt (v : Int) : Bool := decide (-(2 ^ 63) ≤ v ∧ v < 2 ^ 63)

/-- A list of numbers that fit 8-byte slots. -/
def areSlots (l : List Nat) : Bool := l.all isSlot

/-- A list of signed numbers that fit 8-byte slots. -/
def areInts (l : List Int) : Bool := l.all isInt

/-- Lists of numbers that fit 8-byte slots. -/
def areLists (l : List (List Nat)) : Bool := l.all areSlots

/-- Bytes no longer than the largest body of a command. -/
def isBody (l : List Byte) : Bool := decide (l.length ≤ 262144)

/-- Well-formedness of a command. -/
def Instr.wf : Instr → Bool
  | .errorDetected kind unit n cause => fits kind 4294967296 && isSlot unit && isSlot n && isSlot cause
  | .workDeadlineMissed unit ticket item => isSlot unit && isSlot ticket && isSlot item
  | .probationEnd unit => isSlot unit
  | .regionRestartDone region => fits region 11
  | .unitEndState kind number => fits kind 4294967296 && isSlot number
  | .unitStopOverrun kind number => fits kind 4294967296 && isSlot number
  | .ctrlCapsRead ch => fits ch 32
  | .ctrlHealthRead ch region => fits ch 32 && fits region 11
  | .ctrlUnitFence ch unit => fits ch 32 && isSlot unit
  | .ctrlUnitUnfence ch unit pass => fits ch 32 && isSlot unit && isSlot pass
  | .ctrlRegionRestart ch region => fits ch 32 && fits region 11
  | .faultPolicyRecord tenant inst body => fits tenant 16 && fits inst 65536 && isBody body
  | .hostBadAccess => true
  | .registerWrite off value => isSlot off && isSlot value
  | .heartbeatTick => true
  | .mbDoorbell ch => fits ch 32
  | .commandResponseReady ch => fits ch 32
  | .mbRespAck ch => fits ch 32
  | .mbNotifyAck ch => fits ch 32
  | .mbReset ch => fits ch 32
  | .channelResetDone ch => fits ch 32
  | .ctrlPing ch => fits ch 32
  | .ctrlSessionHello ch role tenant slot => fits ch 32 && fits role 256 && fits tenant 16 && fits slot 4294967296
  | .ctrlSessionProve ch id nh ph => fits ch 32 && isSlot id && isBody nh && isBody ph
  | .ctrlSessionClose ch => fits ch 32
  | .ctrlSessionInfo ch => fits ch 32
  | .ctrlApprove ch ticket digest => fits ch 32 && isSlot ticket && isBody digest
  | .ctrlApprovalList ch => fits ch 32
  | .ctrlApprovalCancel ch ticket => fits ch 32 && isSlot ticket
  | .ctrlRecordWrite ch record => fits ch 32 && isBody record
  | .ctrlRecordRead ch rid inst tenant => fits ch 32 && isSlot rid && fits inst 65536 && fits tenant 16
  | .ctrlRecordDefault ch rid inst tenant => fits ch 32 && isSlot rid && fits inst 65536 && fits tenant 16
  | .ctrlCredentialSet ch role tenant slot kind secret => fits ch 32 && fits role 256 && fits tenant 16 && fits slot 4294967296 && fits kind 4294967296 && isBody secret
  | .ctrlCredentialRevoke ch role tenant slot => fits ch 32 && fits role 256 && fits tenant 16 && fits slot 4294967296
  | .ctrlCredentialList ch role tenant => fits ch 32 && fits role 256 && fits tenant 16
  | .sessionIdleTimeout ch => fits ch 32
  | .ticketExpired ticket => isSlot ticket
  | .backoffEnd ch => fits ch 32
  | .sessionPolicyRecord tenant inst body => fits tenant 16 && fits inst 65536 && isBody body
  | .superframeReceived lane bytes spacing tRx fec => fits lane 256 && isBody bytes && isSlot spacing && isSlot tRx && areSlots fec
  | .fecSecondTick lane => fits lane 256
  | .freqWindowEnd lane => fits lane 256
  | .controlMessageReceived lane => fits lane 256
  | .controlMessageResend lane seq => fits lane 256 && isSlot seq
  | .laneStartStepDone lane => fits lane 256
  | .laneStartStepFailed lane => fits lane 256
  | .laneRetryExpiry lane => fits lane 256
  | .laneStartTimeout lane => fits lane 256
  | .laneLockLost lane cause => fits lane 256 && isSlot cause
  | .laneEnable ch lane => fits ch 32 && fits lane 256
  | .laneDisable ch lane => fits ch 32 && fits lane 256
  | .laneStatusRead ch lane => fits ch 32 && fits lane 256
  | .laneCountersRead ch lane => fits ch 32 && fits lane 256
  | .laneHeadInfo ch lane => fits ch 32 && fits lane 256
  | .laneHeadControl ch lane trib msgType body => fits ch 32 && fits lane 256 && fits trib 4096 && isSlot msgType && isBody body
  | .laneTest ch lane pattern duration errors => fits ch 32 && fits lane 256 && isSlot pattern && isSlot duration && isSlot errors
  | .laneRecord tenant inst body => fits tenant 16 && fits inst 65536 && isBody body
  | .dcBlockReady target => isSlot target
  | .dcFreezeLong target => isSlot target
  | .captureBegin id => isSlot id
  | .captureDone id => isSlot id
  | .filtChannelRead ch channel => fits ch 32 && isSlot channel
  | .filtTilesRead ch lane => fits ch 32 && fits lane 256
  | .filtDcEnable ch target => fits ch 32 && isSlot target
  | .filtDcDisable ch target => fits ch 32 && isSlot target
  | .filtDcFreeze ch target freeze => fits ch 32 && isSlot target && isSlot freeze
  | .filtDcRead ch target => fits ch 32 && isSlot target
  | .filtCountersRead ch target => fits ch 32 && isSlot target
  | .filtRomRead ch index => fits ch 32 && isSlot index
  | .filtCaptureStart ch kind lane mask sub start instant duration => fits ch 32 && fits kind 4294967296 && fits lane 256 && isSlot mask && isSlot sub && isSlot start && isSlot instant && isSlot duration
  | .filtCaptureStop ch id => fits ch 32 && isSlot id
  | .filtCaptureList ch => fits ch 32
  | .filtCaptureRead ch id off len => fits ch 32 && isSlot id && isSlot off && isSlot len
  | .filtCaptureDelete ch id => fits ch 32 && isSlot id
  | .channelRecord tenant inst body => fits tenant 16 && fits inst 65536 && isBody body
  | .lineFilterRecord tenant inst body => fits tenant 16 && fits inst 65536 && isBody body
  | .bookingRequest meter group headMask mode openAt closeAt maxFrameMs freqExpect freqSpan tenant => isSlot meter && isSlot group && isSlot headMask && isSlot mode && isSlot openAt && isSlot closeAt && isSlot maxFrameMs && isSlot freqExpect && isSlot freqSpan && fits tenant 16
  | .contextOpenDue id => isSlot id
  | .watcherDetection group channel antenna mode startAir metric => isSlot group && isSlot channel && isSlot antenna && isSlot mode && isSlot startAir && isInt metric
  | .detectionDrop group => isSlot group
  | .retroCatchUp ctx => fits ctx 4096
  | .contextFrameDetected ctx startAir freqHz _ metrics gains noise tau => fits ctx 4096 && isSlot startAir && isInt freqHz && areSlots metrics && areInts gains && areSlots noise && areInts tau
  | .contextNoFrame ctx => fits ctx 4096
  | .alignDeadline ctx endAir => fits ctx 4096 && isSlot endAir
  | .decodeDone ctx lead soft combinedSnr bestLevel => fits ctx 4096 && isSlot lead && areInts soft && isInt combinedSnr && isInt bestLevel
  | .contextFree ctx => fits ctx 4096
  | .rxStatusRead ch => fits ch 32
  | .rxContextRead ch ctx => fits ch 32 && fits ctx 4096
  | .rxContextAbort ch ctx => fits ch 32 && fits ctx 4096
  | .rxGroupRead ch group => fits ch 32 && isSlot group
  | .rxCountersRead ch target => fits ch 32 && isSlot target
  | .rxListen ch group mode headMask start window maxFrameMs => fits ch 32 && isSlot group && isSlot mode && isSlot headMask && isSlot start && isSlot window && isSlot maxFrameMs
  | .receiveChannelRecord tenant inst body => fits tenant 16 && fits inst 65536 && isBody body
  | .receptionPolicyRecord tenant inst body => fits tenant 16 && fits inst 65536 && isBody body
  | .leaChannelsRead ch => fits ch 32
  | .leaCountersRead ch channel => fits ch 32 && isSlot channel
  | .leaPollBuild ch address region pollTag request respCtl rate preamble => fits ch 32 && isSlot address && fits region 11 && isSlot pollTag && isSlot request && isSlot respCtl && isSlot rate && isSlot preamble
  | .leaFrameDecode ch direction rate frame => fits ch 32 && isSlot direction && isSlot rate && isBody frame
  | .leaChannelRecord tenant inst body => fits tenant 16 && fits inst 65536 && isBody body
  | .leaPolicyRecord tenant inst body => fits tenant 16 && fits inst 65536 && isBody body
  | .pollDue slot => fits slot 4294967296
  | .pollPlanned slot => fits slot 4294967296
  | .bookingOutcome => true
  | .launchLock id => isSlot id
  | .launchSend id => isSlot id
  | .followDecision slot => fits slot 4294967296
  | .pollLate slot => fits slot 4294967296
  | .recoveryRelease => true
  | .airPlanRead ch slot => fits ch 32 && fits slot 4294967296
  | .airPollNow ch slot request priority => fits ch 32 && fits slot 4294967296 && isSlot request && isSlot priority
  | .airModelReset ch slot => fits ch 32 && fits slot 4294967296
  | .airDutyRead ch head band => fits ch 32 && isSlot head && isSlot band
  | .airQueueRead ch head band => fits ch 32 && isSlot head && isSlot band
  | .airLaunchCancel ch head band start => fits ch 32 && isSlot head && isSlot band && isSlot start
  | .airTxTest ch head antenna band carrier duration => fits ch 32 && isSlot head && isSlot antenna && isSlot band && isSlot carrier && isSlot duration
  | .airCountersRead ch target band => fits ch 32 && isSlot target && isSlot band
  | .bandRecord tenant inst body => fits tenant 16 && fits inst 65536 && isBody body
  | .headAirRecord tenant inst body => fits tenant 16 && fits inst 65536 && isBody body
  | .meterClassRecord tenant inst body => fits tenant 16 && fits inst 65536 && isBody body
  | .meterPlanRecord tenant inst body => fits tenant 16 && fits inst 65536 && isBody body
  | .airPolicyRecord tenant inst body => fits tenant 16 && fits inst 65536 && isBody body
  | .floodWindow window slot => isSlot window && fits slot 4294967296
  | .floodStreamOpen ch stream kind keySlot target lastBlock segBytes priority rounds => fits ch 32 && isSlot stream && fits kind 4294967296 && isSlot keySlot && isSlot target && isSlot lastBlock && isSlot segBytes && isSlot priority && isSlot rounds
  | .floodBlockWrite ch stream block bytes => fits ch 32 && isSlot stream && isSlot block && isBody bytes
  | .floodStreamStart ch stream => fits ch 32 && isSlot stream
  | .floodStreamClose ch stream => fits ch 32 && isSlot stream
  | .floodStatusRead ch stream => fits ch 32 && isSlot stream
  | .floodMeterSetup ch slot role hop => fits ch 32 && fits slot 4294967296 && fits role 256 && isSlot hop
  | .floodTimeSend ch => fits ch 32
  | .secSwardStatus ch => fits ch 32
  | .swardVictimClear => true
  | .floodScheduleRecord tenant inst body => fits tenant 16 && fits inst 65536 && isBody body
  | .swardPolicyRecord tenant inst body => fits tenant 16 && fits inst 65536 && isBody body
  | .lingLaunch trib => fits trib 4096
  | .lingGovernorCut trib phase window => fits trib 4096 && isSlot phase && isSlot window
  | .lingAnswerWindowEnd trib => fits trib 4096
  | .lingFrameDecoded trib startAir endAir repCode header payload snr => fits trib 4096 && isSlot startAir && isSlot endAir && isSlot repCode && isBody header && isBody payload && areInts snr
  | .lingAlarmCall trib => fits trib 4096
  | .lingUnreachPoll slot => fits slot 4294967296
  | .lingTxReady trib => fits trib 4096
  | .lingTxEnable ch trib => fits ch 32 && fits trib 4096
  | .lingTxDisable ch trib => fits ch 32 && fits trib 4096
  | .lingStatusRead ch trib => fits ch 32 && fits trib 4096
  | .lingMeterRead ch slot => fits ch 32 && fits slot 4294967296
  | .lingPollNow ch slot request priority => fits ch 32 && fits slot 4294967296 && isSlot request && isSlot priority
  | .lingFrameBuild ch dir repCode map active seed payload => fits ch 32 && isSlot dir && isSlot repCode && isSlot map && isSlot active && isSlot seed && isBody payload
  | .lingCountersRead ch target => fits ch 32 && isSlot target
  | .lingTributaryRecord tenant inst body => fits tenant 16 && fits inst 65536 && isBody body
  | .lingMeterRecord tenant inst body => fits tenant 16 && fits inst 65536 && isBody body
  | .lingPolicyRecord tenant inst body => fits tenant 16 && fits inst 65536 && isBody body
  | .securityFrame phase frame => isSlot phase && isSlot frame
  | .dirRebuildDone => true
  | .secStatusRead ch => fits ch 32
  | .secMeterRead ch slot => fits ch 32 && fits slot 4294967296
  | .secMeterKeySet ch slot keyBits blob => fits ch 32 && fits slot 4294967296 && isSlot keyBits && isBody blob
  | .secMeterKeygenAdvance ch slot => fits ch 32 && fits slot 4294967296
  | .secQuarantineList ch tenant first count => fits ch 32 && fits tenant 16 && isSlot first && isSlot count
  | .secQuarantineRead ch slot counter => fits ch 32 && fits slot 4294967296 && isSlot counter
  | .secQuarantineRelease ch slot counter => fits ch 32 && fits slot 4294967296 && isSlot counter
  | .secQuarantineDelete ch slot counter => fits ch 32 && fits slot 4294967296 && isSlot counter
  | .secRulesTest ch cls attrs mask snaps payload => fits ch 32 && isSlot cls && areSlots attrs && isSlot mask && areSlots snaps && isBody payload
  | .secCountersRead ch slot => fits ch 32 && fits slot 4294967296
  | .meterSecurityRecord tenant inst body => fits tenant 16 && fits inst 65536 && isBody body
  | .ruleTableRecord tenant inst body => fits tenant 16 && fits inst 65536 && isBody body
  | .securityPolicyRecord tenant inst body => fits tenant 16 && fits inst 65536 && isBody body
  | .keySwitch domain slot => isSlot domain && fits slot 4294967296
  | .keyEraseDrained domain slot => isSlot domain && fits slot 4294967296
  | .rngHealthFault _ test => isSlot test
  | .tamperAlarm loop aborted => isSlot loop && isSlot aborted
  | .vaultStatusRead ch => fits ch 32
  | .vaultSlotsRead ch domain => fits ch 32 && isSlot domain
  | .vaultUpdate ch msg => fits ch 32 && isBody msg
  | .vaultAuthoritySet ch domain key => fits ch 32 && isSlot domain && isBody key
  | .vaultTransportSet ch domain wrapped => fits ch 32 && isSlot domain && isBody wrapped
  | .vaultIdentityRead ch => fits ch 32
  | .vaultReset ch => fits ch 32
  | .vaultDigestRead ch domain => fits ch 32 && isSlot domain
  | .vaultCountersRead ch domain => fits ch 32 && isSlot domain
  | .vaultPolicyRecord tenant inst body => fits tenant 16 && fits inst 65536 && isBody body
  | .ledgerApply engine tenant ticket => isSlot engine && fits tenant 16 && isSlot ticket
  | .recordPoisoned slot readable => fits slot 4294967296 && isSlot readable
  | .journalAck position => isSlot position
  | .ledgerMeterRead ch slot => fits ch 32 && fits slot 4294967296
  | .ledgerTotalsRead ch slot quantity => fits ch 32 && fits slot 4294967296 && isSlot quantity
  | .ledgerDisputeList ch tenant first count => fits ch 32 && fits tenant 16 && isSlot first && isSlot count
  | .ledgerDisputeResolve ch slot rateStream mask choice => fits ch 32 && fits slot 4294967296 && isSlot rateStream && isSlot mask && isSlot choice
  | .ledgerRebase ch slot totals rates => fits ch 32 && fits slot 4294967296 && isSlot totals && isSlot rates
  | .ledgerGapClear ch slot => fits ch 32 && fits slot 4294967296
  | .ledgerEnginesRead ch => fits ch 32
  | .ledgerCountersRead ch target => fits ch 32 && isSlot target
  | .ledgerClassRecord tenant inst body => fits tenant 16 && fits inst 65536 && isBody body
  | .ledgerMeterRecord tenant inst body => fits tenant 16 && fits inst 65536 && isBody body
  | .tariffVersionActive plan => isSlot plan
  | .archiveWrite => true
  | .tariffPlanRead ch plan version => fits ch 32 && isSlot plan && isSlot version
  | .tariffEvaluate ch plan stamp => fits ch 32 && isSlot plan && isSlot stamp
  | .tariffProfileRead ch slot first count => fits ch 32 && fits slot 4294967296 && isSlot first && isSlot count
  | .tariffClocklogRead ch tenant first count => fits ch 32 && fits tenant 16 && isSlot first && isSlot count
  | .tariffPlanFlood ch plan version stream keySlot target rounds => fits ch 32 && isSlot plan && isSlot version && isSlot stream && isSlot keySlot && isSlot target && isSlot rounds
  | .tariffCountersRead ch target => fits ch 32 && isSlot target
  | .tariffPlanRecord tenant inst body => fits tenant 16 && fits inst 65536 && isBody body
  | .timeZoneRecord tenant inst body => fits tenant 16 && fits inst 65536 && isBody body
  | .profileClassRecord tenant inst body => fits tenant 16 && fits inst 65536 && isBody body
  | .prepayTokenIssue ch slot kind amount deliver => fits ch 32 && fits slot 4294967296 && fits kind 4294967296 && isSlot amount && isSlot deliver
  | .prepayTokenRead ch slot seq => fits ch 32 && fits slot 4294967296 && isSlot seq
  | .prepayTokenList ch slot first count => fits ch 32 && fits slot 4294967296 && isSlot first && isSlot count
  | .prepayTokenVoid ch slot seq => fits ch 32 && fits slot 4294967296 && isSlot seq
  | .prepayStateRead ch slot => fits ch 32 && fits slot 4294967296
  | .prepayTokenCheck ch slot digits => fits ch 32 && fits slot 4294967296 && isSlot digits
  | .tamperRead ch slot => fits ch 32 && fits slot 4294967296
  | .prepayCountersRead ch target => fits ch 32 && isSlot target
  | .prepayClassRecord tenant inst body => fits tenant 16 && fits inst 65536 && isBody body
  | .prepayMeterRecord tenant inst body => fits tenant 16 && fits inst 65536 && isBody body
  | .zeroCrossing trib phase => fits trib 4096 && isSlot phase
  | .zcTimeout trib phase => fits trib 4096 && isSlot phase
  | .metroWindowEnd trib => fits trib 4096
  | .metroStep trib _ => fits trib 4096
  | .stepRecordHandoff trib => fits trib 4096
  | .metroIntervalClose trib => fits trib 4096
  | .pulseEmit output => isSlot output
  | .metroValuesRead ch trib => fits ch 32 && fits trib 4096
  | .metroHarmonicsRead ch trib channel => fits ch 32 && fits trib 4096 && isSlot channel
  | .metroRegistersRead ch trib => fits ch 32 && fits trib 4096
  | .metroIntervalRead ch trib first count => fits ch 32 && fits trib 4096 && isSlot first && isSlot count
  | .metroPulseRead ch output => fits ch 32 && isSlot output
  | .metroPulseTest ch output count => fits ch 32 && isSlot output && isSlot count
  | .metroCountersRead ch trib => fits ch 32 && fits trib 4096
  | .metroTributaryRecord tenant inst body => fits tenant 16 && fits inst 65536 && isBody body
  | .pulseOutputRecord tenant inst body => fits tenant 16 && fits inst 65536 && isBody body
  | .balIntervalStart zone => isSlot zone
  | .balEvaluate zone stop => isSlot zone && isSlot stop
  | .balZoneRead ch zone => fits ch 32 && isSlot zone
  | .balIntervalRead ch zone first count => fits ch 32 && isSlot zone && isSlot first && isSlot count
  | .balMeterRead ch slot => fits ch 32 && fits slot 4294967296
  | .balFit ch zone first count => fits ch 32 && isSlot zone && isSlot first && isSlot count
  | .balPhaseReset ch slot => fits ch 32 && fits slot 4294967296
  | .balCountersRead ch zone => fits ch 32 && isSlot zone
  | .zoneRecord tenant inst body => fits tenant 16 && fits inst 65536 && isBody body
  | .balanceMeterRecord tenant inst body => fits tenant 16 && fits inst 65536 && isBody body
  | .balancePolicyRecord tenant inst body => fits tenant 16 && fits inst 65536 && isBody body
  | .flashProgramDone channel die block part op page ok => isSlot channel && isSlot die && isSlot block && isSlot part && isSlot op && isSlot page && isSlot ok
  | .flashReadDone channel die block part outcome content tenant first n mirrored sector => isSlot channel && isSlot die && isSlot block && isSlot part && isSlot outcome && isSlot content && fits tenant 16 && isSlot first && isSlot n && isSlot mirrored && isBody sector
  | .dieFailed channel die cause => isSlot channel && isSlot die && isSlot cause
  | .journalCopiesProgrammed position => isSlot position
  | .checkpointStart => true
  | .checkpointCommit => true
  | .reclamation part freed into => isSlot part && areSlots freed && areSlots into
  | .wearCheck channel die => isSlot channel && isSlot die
  | .dramIntegrityFail channel address subject access first second => isSlot channel && isSlot address && isSlot subject && isSlot access && isBody first && isBody second
  | .scrubPass channel progress address subject first second => isSlot channel && isSlot progress && isSlot address && isSlot subject && isBody first && isBody second
  | .storeStatusRead ch => fits ch 32
  | .storeFlashRead ch channel => fits ch 32 && isSlot channel
  | .storePartitionsRead ch => fits ch 32
  | .storeCheckpointNow ch => fits ch 32
  | .storeDieRetire ch channel die => fits ch 32 && isSlot channel && isSlot die
  | .storeNamespaceFormat ch tenant => fits ch 32 && fits tenant 16
  | .storeDramRead ch => fits ch 32
  | .storeLossRead ch tenant first count => fits ch 32 && fits tenant 16 && isSlot first && isSlot count
  | .storeCountersRead ch channel => fits ch 32 && isSlot channel
  | .partitionRecord tenant inst body => fits tenant 16 && fits inst 65536 && isBody body
  | .storePolicyRecord tenant inst body => fits tenant 16 && fits inst 65536 && isBody body
  | .legalSecond => true
  | .timeSample ref t1 t2 t3 t4 leap leapDay => isSlot ref && isSlot t1 && isSlot t2 && isSlot t3 && isSlot t4 && isInt leap && isSlot leapDay
  | .ppsEdge at' => isSlot at'
  | .partnerTimeExchange t1 t2 t3 t4 a1 a2 a3 a4 => isSlot t1 && isSlot t2 && isSlot t3 && isSlot t4 && isSlot a1 && isSlot a2 && isSlot a3 && isSlot a4
  | .holdoverTimeout => true
  | .leapSmear => true
  | .timeStatusRead ch => fits ch 32
  | .timeReferencesRead ch => fits ch 32
  | .timeStep ch ns => fits ch 32 && isSlot ns
  | .timeLeapSet ch day sign => fits ch 32 && isSlot day && isInt sign
  | .timeConvert ch dir value => fits ch 32 && isSlot dir && isSlot value
  | .timeCountersRead ch => fits ch 32
  | .timeReferenceRecord tenant inst body => fits tenant 16 && fits inst 65536 && isBody body
  | .timePolicyRecord tenant inst body => fits tenant 16 && fits inst 65536 && isBody body
  | .eventAdmitted => true
  | .snapshotComplete id => isSlot id
  | .snapshotSpill id => isSlot id
  | .barrowHoldExpired => true
  | .evtSourcesRead ch first n => fits ch 32 && isSlot first && isSlot n
  | .evtTrailRead ch first n => fits ch 32 && isSlot first && isSlot n
  | .barrowList ch => fits ch 32
  | .barrowHold ch => fits ch 32
  | .barrowRead ch id off len => fits ch 32 && isSlot id && isSlot off && isSlot len
  | .barrowRelease ch => fits ch 32
  | .barrowTriggerNow ch trigger => fits ch 32 && isSlot trigger
  | .barrowClear ch => fits ch 32
  | .barrowClearlogRead ch first n => fits ch 32 && isSlot first && isSlot n
  | .evtCountersRead ch => fits ch 32
  | .eventRoutingRecord tenant inst body => fits tenant 16 && fits inst 65536 && isBody body
  | .triggerRecord tenant inst body => fits tenant 16 && fits inst 65536 && isBody body
  | .recorderPolicyRecord tenant inst body => fits tenant 16 && fits inst 65536 && isBody body
  | .tenantStatusRead ch tenant => fits ch 32 && fits tenant 16
  | .tenantSeal ch tenant => fits ch 32 && fits tenant 16
  | .tenantCheck ch tenant => fits ch 32 && fits tenant 16
  | .tenantRelease ch tenant => fits ch 32 && fits tenant 16
  | .tenantReleaseDone tenant => fits tenant 16
  | .tenantCountersRead ch tenant => fits ch 32 && fits tenant 16
  | .tenantAccessViolation requester address => isSlot requester && isSlot address
  | .shareWait tenant resource => fits tenant 16 && isSlot resource
  | .tenantRecord tenant inst body => fits tenant 16 && fits inst 65536 && isBody body
  | .pairWaitExpiry => true
  | .partnerLoss => true
  | .soloGuardExpiry => true
  | .partnerYield => true
  | .claimStart => true
  | .takeoverDone older gaps => isSlot older && areSlots gaps
  | .readyChange => true
  | .catchUpDone => true
  | .takebackDue => true
  | .handover => true
  | .handoverTimeout => true
  | .pairStatusRead ch => fits ch 32
  | .pairSwitchover ch => fits ch 32
  | .pairForceClaim ch => fits ch 32
  | .pairOrphansRead ch first n => fits ch 32 && isSlot first && isSlot n
  | .pairOrphansClear ch upTo => fits ch 32 && isSlot upTo
  | .pairCountersRead ch => fits ch 32
  | .pairRecord tenant inst body => fits tenant 16 && fits inst 65536 && isBody body
  | .digestHoldExpiry neighbour domain => isSlot neighbour && isSlot domain
  | .imageReceived port container => fits port 2 && isBody container
  | .trialConfirm => true
  | .rollStepDone => true
  | .chainLinkLoss => true
  | .headCampaignStep campaign lane => isSlot campaign && fits lane 256
  | .meterCampaignRound campaign => isSlot campaign
  | .updateInventoryRead ch => fits ch 32
  | .updateStageBegin ch header => fits ch 32 && isBody header
  | .updateStageWrite ch id offset data => fits ch 32 && isSlot id && isSlot offset && isBody data
  | .updateStageVerify ch id => fits ch 32 && isSlot id
  | .updateActivate ch mask force => fits ch 32 && isSlot mask && isSlot force
  | .updateConfirm ch => fits ch 32
  | .updatePairRoll ch => fits ch 32
  | .updateHeadCampaign ch digest lanes => fits ch 32 && isBody digest && isSlot lanes
  | .updateMeterCampaign ch digest stream keySlot target rounds activateAt => fits ch 32 && isBody digest && isSlot stream && isSlot keySlot && isSlot target && isSlot rounds && isSlot activateAt
  | .updateCampaignRead ch campaign => fits ch 32 && isSlot campaign
  | .updateImageDelete ch digest => fits ch 32 && isBody digest
  | .configDigestRead ch => fits ch 32
  | .configRecordsRead ch domain first count => fits ch 32 && isSlot domain && isSlot first && isSlot count
  | .configBundleSubmit ch total offset part => fits ch 32 && isSlot total && isSlot offset && isBody part
  | .bundleAssemblyTimeout => true
  | .updateCountersRead ch => fits ch 32
  | .updatePolicyRecord tenant inst body => fits tenant 16 && fits inst 65536 && isBody body
  | .lockoutSample levels => isSlot levels
  | .lockoutDiscrepancyTimeout input => isSlot input
  | .releaseHoldEnd input => isSlot input
  | .safeDeadline slot => fits slot 4294967296
  | .safeLockoutRead ch input => fits ch 32 && isSlot input
  | .safeOpen ch slot => fits ch 32 && fits slot 4294967296
  | .safeClose ch slot armed => fits ch 32 && fits slot 4294967296 && isSlot armed
  | .safeCommandRead ch slot => fits ch 32 && fits slot 4294967296
  | .safeCancel ch slot => fits ch 32 && fits slot 4294967296
  | .safeCountersRead ch input => fits ch 32 && isSlot input
  | .lockoutInputRecord tenant inst body => fits tenant 16 && fits inst 65536 && isBody body
  | .safeMeterRecord tenant inst body => fits tenant 16 && fits inst 65536 && isBody body
  | .safetyPolicyRecord tenant inst body => fits tenant 16 && fits inst 65536 && isBody body
  | .sessionReconnect session => isSlot session
  | .tlsHandshakeDone session ok alert suite spki => isSlot session && isSlot ok && isSlot alert && isSlot suite && isBody spki
  | .sessionFrameReceived session type length body => isSlot session && isSlot type && isSlot length && isBody body
  | .sessionKeepalive session => isSlot session
  | .sessionRxTimeout session => isSlot session
  | .exportCursorJournal => true
  | .backhaulFrameReceived port bytes refused corrected uncorrected => fits port 2 && isSlot bytes && isSlot refused && isSlot corrected && isSlot uncorrected
  | .portLinkChange kind port up => fits kind 4294967296 && fits port 2 && isSlot up
  | .hostLinkReset kind => fits kind 4294967296
  | .hostError severity status => isSlot severity && isSlot status
  | .partnerMessageReceived port frame => fits port 2 && isBody frame
  | .heartbeatSend => true
  | .portStatusRead ch => fits ch 32
  | .portSessionsRead ch session => fits ch 32 && isSlot session
  | .portSessionReset ch session => fits ch 32 && isSlot session
  | .exportRewind ch session position index => fits ch 32 && isSlot session && isSlot position && isSlot index
  | .portCountersRead ch kind number => fits ch 32 && fits kind 4294967296 && isSlot number
  | .backhaulPortRecord tenant inst body => fits tenant 16 && fits inst 65536 && isBody body
  | .headEndSessionRecord tenant inst body => fits tenant 16 && fits inst 65536 && isBody body
  | .powerOnReset vaon => isSlot vaon
  | .warmReset => true
  | .bootStageDone detail measured cells regions dies => isSlot detail && isSlot measured && areSlots cells && areSlots regions && areLists dies
  | .pfwAssert => true
  | .saveDone us => isSlot us
  | .pfwDeassert => true
  | .inputFaultTimeout => true
  | .monitorWarning rail => isSlot rail
  | .monitorReset rail => isSlot rail
  | .sleepWake cause => isSlot cause
  | .d3hotEntry pmeEn => isSlot pmeEn
  | .wakeCondition reason => isSlot reason
  | .linkTrainingStart => true
  | .d0Return => true
  | .thermalTrip sensor => isSlot sensor
  | .powerStatusRead ch readings => fits ch 32 && areInts readings
  | .powerSelftestRead ch region => fits ch 32 && fits region 11
  | .powerSleep ch => fits ch 32
  | .powerReboot ch force => fits ch 32 && isSlot force
  | .powerDebugClose ch serial => fits ch 32 && isSlot serial
  | .powerCountersRead ch => fits ch 32
  | .powerPolicyRecord tenant inst body => fits tenant 16 && fits inst 65536 && isBody body
  | .porstAssert => true
  | .supplyInRange => true
  | .rollReadyTimeout => true

end Sys2Proof
end

