-- ==== Sys2Proof/Tests/Slice0.lean ====
section
/-! SUPPORT. The model's own tests: ill-formed commands that WellFormed refuses, worked examples of the spec, and for each statement states and
operands that meet what it assumes. -/

set_option Elab.async false

namespace Sys2Proof

open Machine

/-! ### States for tests -/

/-- A chip in SERVICE, alone and serving. -/
def W.on : State :=
  { mail := { mailboxReady := true, serviceReady := true }
    time := { ms := 100000000, legalNs := 1700000000000000000, air := 200000000000000 }
    pair := { st := .activeSolo, serving := true, epoch := 1 }
    led := { ready := true }
    pow := { stage := 0x0A, warn := .armed, porstLow := false } }

/-- A field of a record written. -/
def W.put (s : State) (f : Fld) (inst v : Nat) (tenant : Nat := 0) : State :=
  let body := match s.recInst f.rid inst with
    | some r => r.body
    | none => ((Schema.find f.rid).map Schema.defaultBody).getD 0
  { s with records := Map.put s.records (f.rid, inst) ⟨tenant, setBits body f.bit f.width v⟩ }

/-- A request on channel 0 from a session of a role and tenant. -/
def W.ask (s : State) (k : Cmd) (role tenant : Nat) (body : List Byte) : State :=
  s.setChan 0 { respVec := 0, notifyVec := 1, st := .busy, session := some { id := 7, role := role, tenant := tenant, slot := 0 },
                request := some { cmd := k, body := body, sessionId := 7 } }

/-- The request that channel 0 holds. -/
def W.req (s : State) (k : Cmd) : Request := (s.chan 0).request.getD { cmd := k, body := [] }

/-- Its caller. -/
def W.who (s : State) (r : Request) : Caller := (s.caller 0 r).getD ⟨0, 0, 0, 0, 0, false, []⟩

/-- A body of n slots. -/
def W.body (n : Nat) : List Byte := List.replicate (8 * n) 0

/-- A unit in a state. -/
def W.unit (s : State) (u : UnitId) (st : UnitSt) : State := s.setUnit u { s.unit u with st := st }

/-- The address of the first ledger engine. -/
def W.engine : Nat := unitAddr 8 0 0

/-- A control message that answers an identify request: type 2, sequence 4, eight bytes of body, CRC-32C (R113). -/
def W.message : List Byte :=
  let m := [2, 0, 4, 0, 8, 0, 0, 0] ++ List.replicate 8 (0 : Byte)
  m ++ le 4 (crc32c m)

/-- A superframe header whose CRC holds. -/
def W.header : List Byte :=
  let h := le 4 0x5D3A96C1 ++ [1, 1] ++ List.replicate 54 (0 : Byte)
  h ++ le 4 (crc32c h)

/-- Channel 0 on lane 0, decimating by 256, watched by group 1 on antenna 2 for mode 0; its lane is timed. -/
def W.watched : State :=
  let s := W.unit W.on (.lane 0) .on
  let s := s.setLane 0 { sfLock := true, hdr := { lock := 2, samplesValid := true }, paths := List.replicate 1024 0 }
  let s := W.put (W.put s Rec.Channel.Active 0 1) Rec.Channel.CicLog2 0 7
  let s := W.put (W.put (W.put s Rec.RxChannel.Member 0 1) Rec.RxChannel.Group 0 1) Rec.RxChannel.ModeMask 0 1
  let s := W.put (W.put s Rec.RxChannel.WatchMask 0 4) Rec.RxChannel.History 0 1
  s.setChanFilt 0 { slots := [(2, 0)] }

/-- The same chip with head 0 able to transmit in band 0, LEA channel 0 active, and meter 5 planned on head 0 with one sweep a day. -/
def W.radio : State :=
  let s := W.watched.setLane 0 { sfLock := true, hdr := { lock := 2, samplesValid := true, obeyed := true }, paths := List.replicate 1024 0 }
  let s := W.put (W.put (W.put s Rec.HeadAir.TxEnable 0 1) Rec.Band.Active 0 1) Rec.LeaChannel.Active 0 1
  let s := W.put (W.put (W.put s Rec.MeterPlan.Enabled 5 1) Rec.MeterPlan.PinHeads 5 1) (Rec.MeterPlan.PinHead 0) 5 0
  W.put (W.put s Rec.MeterClass.SweepPerDay 0 1) Rec.MeterSec.Assigned 5 1

/-- Meter 5 with a poll that is due. -/
def W.due : State := W.radio.setPlan 5 { poll := some { due := 1699999000, request := 11, priority := 2 } }

/-- A launch of a test carrier. -/
def W.launch : Launch :=
  { id := 4, gid := 4, head := 0, band := 0, antenna := 0, carrier := 868300000, start := 100, span := 50, amp := 1, charge := 7, source := .test, locked := true }

/-- A command that follows a poll. -/
def W.command : FollowCmd := { tag := 8, frame := [26], ctr := 1, carried := {}, position := 0 }

/-- A poll on the air, answered at an air time, with that command to follow. -/
def W.outPoll (re : Nat) : OutPoll :=
  { booking := 3, gid := 2, tag := 9, rate := 1, delay := 4, endAir := 100, u := 1, centre := 1, cover := 1, answered := some re,
    follow := some W.command }

/-- Meter 5 with such a poll. -/
def W.follow (re : Nat) : State :=
  let s := W.radio.setPlan 5 { out := some (W.outPoll re) }
  { s with air := { s.air with charges := [⟨0, 0, 0, 1, 1, 2⟩] }, store := { nextPos := 1 } }

/-- What the first aim of meter 5 gives. -/
def W.launched : State :=
  match W.due.launchFirst 5 (W.due.aims 5).learning (W.due.aims 5).list none with
  | .ok s => s
  | .error _ => W.due

/-- A chip whose flood schedule runs on head 0, with a started time stream whose key the vault holds. -/
def W.flood : State :=
  let s := W.put (W.put (W.put W.radio Rec.FloodSchedule.Active 0 1) Rec.FloodSchedule.HeadMask 0 1) Rec.FloodSchedule.Band 0 0
  let s := W.put s Rec.FloodSchedule.CentreHz 0 868300000
  let s := ({ s with vault := { s.vault with st := .opened } }).commitSlot 0 16 5 1 (List.replicate 16 7)
  { s with fl := { s.fl with streams :=
    [{ number := 1, kind := 0, tenant := 0, keySlot := 16, target := 0, lastBlock := 0, segBytes := 1, priority := 0, rounds := 1, st := .started }] } }

/-- A line lane whose tributary 0 is up, metered, with its crossings valid and its Ling transmitter on. -/
def W.line : State :=
  let s := W.put (W.unit W.on (.lane 0) .on) Rec.Lane.Mode 0 1
  let s := s.setLane 0 { sfLock := true, hdr := { lock := 2, samplesValid := true }, paths := List.replicate 1024 0, tribs := [(0, { present := true, lock := 2 })] }
  let s := { s with filt := { s.filt with resv := [(0, (List.range 16, List.range 2))] } }
  let a := s.time.air
  let z : ZcPhase := { run := 20, last := some (a - 4000000), valid := true, instants := (List.range 13).map fun i => a - 4000000 - 40000000 * i }
  let s := s.setMetro 0 { zone := .valid, phases := [(0, z)], crossings := (List.range 13).map fun i => (a - 4000000 - 40000000 * i, true) }
  W.put (W.unit s (.lingTx 0) .on) Rec.MetroTrib.Active 0 1

/-- Meter 5 on that tributary, with a poll that is due. -/
def W.lingDue : State :=
  let s := W.put (W.put W.line Rec.LingMeter.Active 5 1) Rec.MeterPlan.Enabled 5 1
  s.setPlan 5 { poll := some { due := 1699999000, request := 11, priority := 2 } }

/-- A Ling poll on the line. -/
def W.lingFrame (start stop : Nat) : LingFrame :=
  { kind := 0, meter := 5, tag := 9, level := 3, amp := 300, start := start, stop := stop, closeAt := stop + 10, active := 0xFFFFFFFF, map := 0,
    seed := 1, payload := [], windows := [(1, 1000)], period := 40000000, cycles := 1 }

/-- A frame of 24 bytes of type 8. -/
def W.lingAnswer : List Byte := [23, 8] ++ List.replicate 22 0

/-- Its Ling header, with every carrier active and repetition code 2. -/
def W.lingHeader : List Byte :=
  let h : List Byte := [16, 23] ++ le 2 0 ++ le 4 0 ++ le 4 0xFFFFFFFF
  let h := h ++ List.replicate (12 - h.length) 0
  h ++ le 2 (leaCrc h)

/-- The heartbeat of a partner that serves, heard just now. -/
def W.beat : Heartbeat := { atMs := 100000000, state := .activePaired, serving := true, epoch := 1 }

/-- The heartbeat of a partner that is ready, heard just now. -/
def W.readyBeat : Heartbeat := { atMs := 100000000, state := .ready, epoch := 1 }


/-- The header of the first frame of a stream message, of one byte. -/
def W.partnerHead : PartnerHead :=
  { type := 2, chipB := false, more := true, region := 0, boot := 1, seq := 1, frag := 0, length := 1 }

/-- A standby whose partner serves alone, with a generation of its epoch. -/
def W.syncing : State :=
  let s := { W.on with pair := { st := .syncing, epoch := 1, partner := some { W.beat with vaultDigests := W.on.vaultDigests } } }
  let s := { s with store := { s.store with generations := [{ gen := 3, startPos := 0, endPos := 0, started := 0, epoch := 1, committed := true }] } }
  { s with pair := { s.pair with partner := s.pair.partner.map fun (h : Heartbeat) => { h with caps := s.caps } } }

/-- A chip serving alone whose partner has caught up. -/
def W.caughtUp : State :=
  let s : State := { W.syncing with pair := { W.syncing.pair with
    st := .activeSolo, serving := true, streaming := true, ackedPos := 9, partnerGenerations := [3],
    partner := W.syncing.pair.partner.map fun (h : Heartbeat) => { h with state := .syncing, serving := false } } }
  { s with pair := { s.pair with partner := s.pair.partner.map fun (h : Heartbeat) => { h with caps := s.caps } } }

/-- A pair whose preferred chip is the ready one, with the take-back enabled. -/
def W.takeBack : State :=
  let s := { W.on with pair := { W.on.pair with st := .activePaired, partner := some W.readyBeat } }
  let s := W.put s Rec.Pair.TakeBack 0 1
  W.put s Rec.Pair.PreferredChip 0 (2 - s.rd Rec.Pair.ChipLetter)

/-- A ticket of the operator's slot 0. -/
def W.ticket : Ticket :=
  { ticket := 77, cmd := .tenantRelease, args := [2], target := 2, digest := List.replicate 32 1, ch := 1, sessionId := 9, role := 1, tenant := 0,
    slot := 0, expiresMs := 200000000 }

/-- A chip with meter 5 enabled for safe commands. -/
def W.relay : State := W.put W.on Rec.SafeMeter.Enabled 5 1

/-- A chip with tenant 2 sealed. -/
def W.sealed : State := { W.on with ten := { st := [(2, { st := .sealed })] } }

/-- Zone 3 with thirty usable results and the feeder's intervals beside them. -/
def W.fit : State :=
  let s := W.put W.on Rec.Zone.Active 3 1
  { s with
    bal := { s.bal with results := (List.range 30).map fun i =>
      { zone := 3, tenant := 0, outcome := 0, verdict := 0, flags := 0, members := 1, stop := (i + 1) * 2 ^ 24, seconds := 900, feeder := 1000 + 3 * i, milli := 900, tech := 0,
        residual := 0, missImp := 0, missExp := 0, threshold := 0, phaseFeeder := [], phaseMilli := [], phaseTech := [], unphased := 0 } }
    met := { s.met with intervals := (List.range 30).map fun i =>
      { trib := 0, zone := 3, assigned := true, flags := 0, stop := (i + 1) * 2 ^ 24, missing := 0, cycles := 1, inc := [], vavg := [], iavg := [i, i * i, 3], inavg := i % 5,
        freq := 0, thd := [] } } }

/-- An opened stream of two blocks with its first one still to write. -/
def W.stream : State :=
  { W.on with fl := { W.on.fl with streams :=
    [{ number := 4, kind := 1, tenant := 0, keySlot := 16, target := 9, lastBlock := 1, segBytes := 4, priority := 1, rounds := 2 }] } }

/-- An opened stream whose one block is written. -/
def W.full : Stream :=
  { number := 4, kind := 1, tenant := 0, keySlot := 16, target := 9, lastBlock := 0, segBytes := 4, priority := 1, rounds := 2, blocks := [(0, [1, 2])] }

/-- A head of kind 1. -/
def W.head : HeadId := ⟨1, 0, 0, 0, 0, 0, 0, 0⟩

/-- A pair whose ready partner holds the image that is staged here. -/
def W.roll : State :=
  { W.on with pair := { W.on.pair with st := .activePaired, partner := some { W.readyBeat with inventory := [List.replicate 32 0] } } }

/-- An untagged request on channel 0, with no session. -/
def W.plain (s : State) (k : Cmd) (body : List Byte) : State :=
  s.setChan 0 { respVec := 0, notifyVec := 1, st := .busy, request := some { cmd := k, body := body, tagged := false } }

/-- A channel with a nonce for the operator's place 0, whose secret is known, and a proof to check. -/
def W.prove : State :=
  let s := { W.on with
    mail := { W.on.mail with creds := [((1, 0, 0), { secret := [5], kind := 0, generation := 1, setStamp := 0 })], serial := 0 }
    vault := { W.on.vault with st := .opened } }
  s.setChan 0 { respVec := 0, notifyVec := 1, st := .busy, nonce := some ⟨[3], 9, 1, 0, 0, 100000000⟩,
                request := some { cmd := .ctrlSessionProve, body := List.replicate 52 0, tagged := false } }

/-- Meter 5 on prepayment, with the root of its keys in the vault. -/
def W.prepay : State :=
  let s := W.put (W.put (W.put W.on Rec.PrepayMeter.Enabled 5 1) Rec.PrepayClass.CreditStepMilli 0 10) Rec.PrepayClass.MaxTokenMilli 0 1000
  ({ s with vault := { s.vault with st := .opened } }).commitSlot 0 0 2 1 (List.replicate 32 7)

/-- Meter 5 with keys of its own, and the key that wraps them in the vault. -/
def W.keyed : State :=
  let s := W.put (W.put W.on Rec.MeterSec.Assigned 5 1) Rec.MeterSec.KeyMode 5 1
  ({ s with vault := { s.vault with st := .opened } }).commitSlot 0 1 2 1 (List.replicate 16 3)

/-- A quarantined frame of meter 5 whose counter is 9. -/
def W.held : QEntry :=
  ⟨{ h := ⟨[], [], 0, 0, 0, 0, 0, none, 0⟩, kind := 1, slot := 5, tenant := 0, gen := 1, counter := some 9 }, 0, 5⟩

/-- A chip whose domain 0 has an authority and a key in slot 16. -/
def W.authority : State :=
  let s := W.on.commitSlot 0 3 4 1 (be 32 0xb25315531ecc7d37e8c01c4c7d4a5017c1b9328f0ddcc641c0eede6fe1bdd7b9 ++
    be 32 0xba7b3c276d2d331da5ce8344e92c983d0aa604907ab8316fcd15365aeb921578)
  s.commitSlot 0 16 1 1 (List.replicate 16 9)

/-- An update message that erases slot 16 of domain 0, with counter 2 and that authority's signature. -/
def W.update : List Byte :=
  le 4 0x4B555745 ++ [1, 0x11, 0, 16] ++ le 8 0 ++ le 4 2 ++ List.replicate 12 0 ++
    be 32 0x65aeeba75ac92022b79c4edf3bc7be3d475fa7e1dd56b40cb6ddccb973958be5 ++
    be 32 0x65aeeba75ac92022b79c4edf3bc7be3d475fa7e1dd56b40cb6ddccb973958be5
/-- A queue with a command at its front. -/
theorem witness_StepRunsTheFrontCommand : ({ W.on with pending := [.linkTrainingStart] } : State).pending = .linkTrainingStart :: [] := rfl

/-- A queue with nothing in it. -/
theorem witness_StepIdlesOnEmptyQueue : W.on.pending = [] := rfl

/-- A chip whose close flag is set. -/
theorem witness_ShippedPart : ({ W.on with pow := { W.on.pow with closeFlag := true } } : State).pow.closeFlag = true := rfl

/-- A state whose buffers hold a byte in canonical form, and a step of it. -/
theorem witness_StepKeepsBuffersWellFormed :
    let s : State := { W.on with mail := { W.on.mail with buffers := [(5, 7)] }, pending := [.linkTrainingStart] }
    s.buffersWf = true ∧ Machine.step s = .next { s with pending := [], pow := { s.pow with wakeN := false } } := ⟨by decide +kernel, rfl⟩

/-- A chip whose debug fuse is closed, and a step of it. -/
theorem witness_StepKeepsThePart :
    let s : State := { W.on with arch := { W.on.arch with debugClosed := true }, pending := [.linkTrainingStart] }
    s.arch.debugClosed = true ∧ Machine.step s = .next { s with pending := [], pow := { s.pow with wakeN := false } } := ⟨rfl, rfl⟩

/-- Two commands that wait before a third, and the two steps that run them. -/
theorem witness_QueueRunsInOrder :
    let s : State := { W.on with pending := [.linkTrainingStart, .linkTrainingStart, .porstAssert] }
    s.pending = [.linkTrainingStart, .linkTrainingStart] ++ [.porstAssert] ∧
      Claims.steps 2 s = some { s with pending := [.porstAssert], pow := { s.pow with wakeN := false } } := ⟨rfl, rfl⟩

/-- Any read can be asked from a session. -/
theorem witness_ReadsAnswer : let s := W.ask W.on .airPlanRead 1 0 (W.body 1)
    Claims.readOf (.airPlanRead 0 5) = some (0, .airPlanRead, readAirPlan 5) ∧
      Claims.Asked s 0 .airPlanRead (W.req s .airPlanRead) (W.who s (W.req s .airPlanRead)) := ⟨rfl, by decide +kernel⟩

/-- A command that acts can be asked from a session. -/
theorem witness_CommandsAnswer_0 : let s := W.ask W.on .airModelReset 1 0 (W.body 1)
    Claims.runOf (.airModelReset 0 5) = some (0, .airModelReset, runAirModelReset 5) ∧
      Claims.Asked s 0 .airModelReset (W.req s .airModelReset) (W.who s (W.req s .airModelReset)) := ⟨rfl, by decide +kernel⟩

/-- So can one whose change is journalled. -/
theorem witness_CommandsAnswer_1 : let s := W.ask W.on .balPhaseReset 1 0 (W.body 1)
    Claims.commitOf (.balPhaseReset 0 5) = some (0, .balPhaseReset, runBalPhaseReset 5) ∧
      Claims.Asked s 0 .balPhaseReset (W.req s .balPhaseReset) (W.who s (W.req s .balPhaseReset)) ∧ (s.chan 0).await = none :=
  ⟨rfl, by decide +kernel⟩

/-- One whose answer waits for its entry. -/
theorem witness_CommandsAnswer_2 :
    let s := (W.ask W.on .balPhaseReset 1 0 (W.body 1)).modChan 0 fun x => { x with await := some (1, .done, [], []) }
    Claims.commitOf (.balPhaseReset 0 5) = some (0, .balPhaseReset, runBalPhaseReset 5) ∧
      s.requestFor 0 .balPhaseReset = some (W.req s .balPhaseReset) ∧ (s.chan 0).await = some (1, .done, [], []) := ⟨rfl, by decide +kernel⟩

/-- A record that is accepted. -/
theorem witness_RecordsApply :
    Claims.recordOf (.recorderPolicyRecord 0 0 (le 16 700)) = some (ruleRecorderPolicy, Schema.RecorderPolicy, 0, 0, le 16 700) ∧
      W.on.judgeRecord ruleRecorderPolicy Schema.RecorderPolicy 0 0 16 (le 16 700) = .accept 700 [] := ⟨rfl, by decide +kernel⟩

/-- A request whose session has gone. -/
theorem witness_CommandWithoutItsSessionIsTurnedAway :
    let r : Request := { cmd := .airPlanRead, body := W.body 1, sessionId := 7 }
    let s := W.on.setChan 0 { respVec := 0, notifyVec := 1, st := .busy, request := some r }
    Claims.cmdOf (.airPlanRead 0 5) = some (0, .airPlanRead) ∧ s.requestFor 0 .airPlanRead = some r ∧ s.caller 0 r = none ∧
      (s.chan 0).await = none ∧ s.vault.rngOk = true :=
  ⟨rfl, by decide +kernel⟩

/-- A chip in HELD with a command it does not accept. -/
theorem witness_HeldTurnsCommandsAway :
    let s := W.ask { W.on with pow := { W.on.pow with stage := 0x0F } } .airModelReset 1 0 (W.body 1)
    let r := W.req s .airModelReset
    Claims.cmdOf (.airModelReset 0 5) = some (0, .airModelReset) ∧ Cmd.heldAccepts .airModelReset = false ∧
      s.requestFor 0 .airModelReset = some r ∧ s.caller 0 r = some (W.who s r) ∧ (s.chan 0).await = none ∧ s.pow.stage = 0x0F := ⟨rfl, by decide +kernel⟩

/-- An observer that asks for an operator's command. -/
theorem witness_RoleRefusalChangesNothing :
    let s := W.ask W.on .airModelReset 0 0 (W.body 1)
    let r := W.req s .airModelReset
    let t := s.respond 0 r { status := .refusedRole }
    Claims.cmdOf (.airModelReset 0 5) = some (0, .airModelReset) ∧ Claims.Asked s 0 .airModelReset r (W.who s r) ∧
      Machine.exec (.airModelReset 0 5) s = .next t ∧ (t.chan 0).request = none ∧
      ((t.chan 0).response.map fun y => y.status) = some .refusedRole :=
  ⟨rfl, by decide +kernel, congrArg Host.Outcome.next (by decide +kernel), by decide +kernel, by decide +kernel⟩

/-- A sealed tenant, and a command that runs beside it. -/
theorem witness_ReleaseIsTheOnlyWayOutOfSealed :
    (W.sealed.tenant 2).st = .sealed ∧ Claims.fromPartner .linkTrainingStart = false ∧
      Machine.exec .linkTrainingStart W.sealed = .next { W.sealed with pow := { W.sealed.pow with wakeN := false } } := ⟨rfl, rfl, rfl⟩

/-- A raised event before a trail that is not full. -/
theorem witness_TrailIsARing_0 : let s : State := { W.on with ev := { queue := [⟨.barrowHoldExpired, 0, 5, [3], false⟩] } }
    s.ev.queue = ⟨.barrowHoldExpired, 0, 5, [3], false⟩ :: [] ∧ s.ev.trail.length ≤ 16384 := by decide +kernel

/-- A chip with a reset due and VAON kept. -/
theorem witness_TrailIsARing_1 : let s : State := { W.on with pow := { W.on.pow with resetAfterSave := some 2, vaonLost := false } }
    s.pow.resetAfterSave = some 2 ∧ s.pow.warn = .armed ∧ s.pow.saveReset = false ∧ s.pow.vaonLost = false := by decide +kernel

/-- A first condition, a later one, and one in D3cold. -/
theorem witness_WakeSignalsOnce :
    let s : State := { W.on with pow := { W.on.pow with host := .d3hot, pmeEn := true } }
    let l : State := { s with pow := { s.pow with wakeReasons := 2 } }
    let c : State := { s with pow := { s.pow with host := .d3cold } }
    (s.pow.host = .d3hot ∧ s.pow.pmeEn = true ∧ bitOn s.pow.wakeMask 5 = true ∧ s.pow.wakeReasons = 0) ∧
      (l.pow.host = .d3hot ∧ l.pow.pmeEn = true ∧ bitOn l.pow.wakeMask 1 = true ∧ l.pow.wakeReasons ≠ 0) ∧ c.pow.host ≠ .d3hot := by
  decide +kernel

/-- An open session, and the three ways a frame is not taken, each at the edge of its range. -/
theorem witness_UnknownFrameClosesTheSession :
    let s : State := { W.on with ports := { sessions := [(3, { st := .opened })] } }
    (s.headEnd 3).st = .opened ∧ 5 < 6 ∧ 262208 < 262209 := by decide +kernel

/-- A body at each end of the range, on a chip whose tenant 0 is not releasing and that has no such record yet. -/
theorem witness_RecorderPolicyRecord :
    (le 16 10).length = 16 ∧ (le 16 3600).length = 16 ∧ W.on.isReleasing 0 = false ∧ W.on.recInst 0x1202 0 = none := by decide +kernel

/-- Work of tenant 1 that asks for a slot of domain 0, a slot that is set, and a vault that still loads. -/
theorem witness_VaultBindsOnlyItsDomain :
    (1 : Nat) ≠ 0 ∧ Claims.Room W.on ∧ (W.prepay.slotKey 0 0).isSome = true ∧ State.reset.vault.st ≠ .opened := by decide +kernel

/-- The smallest section the statement covers, and two bits of it that go to one position only if they are one. -/
theorem witness_LingInterleaver : 2 ≤ 2 ∧ placeOf 2 5 1 = placeOf 2 5 1 ∧ placeOf 2 5 0 ≠ placeOf 2 5 1 := by decide +kernel

/-- What clause 1 of FaultEventsComplete assumes can be met. -/
theorem witness_FaultEventsComplete_0 :
    let s : State := W.on; let unit : Nat := 0; (s.unitHere unit = true) := by decide +kernel

/-- What clause 2 of FaultEventsComplete assumes can be met. -/
theorem witness_FaultEventsComplete_1 :
    let s : State := W.on; let unit : Nat := 0; (s.unitHere unit = true) ∧ (addrCell unit ≠ 0x3F) ∧ ((s.cell unit).fenced = false) := by decide +kernel

/-- What clause 3 of FaultEventsComplete assumes can be met. -/
theorem witness_FaultEventsComplete_2 :
    let s : State := W.on; let unit : Nat := W.engine; let ticket : Nat := 9; (s.unitHere unit = true) ∧ (addrCell unit ≠ 0x3F) ∧ (4 ≤ addrRegion unit) ∧ (ticket ∉ s.arch.revoked) ∧ ((s.cell unit).fenced = false) ∧ (s.overdue unit ticket = true) ∧ (s.rd Rec.FaultPolicy.SlowMisses > (s.cell unit).misses.length + 1) := by decide +kernel

/-- What clause 4 of FaultEventsComplete assumes can be met. -/
theorem witness_FaultEventsComplete_3 :
    let s : State := W.on.setCell 0 { slow := true, slowSince := 5 }; let unit : Nat := 0; ((s.cell unit).slow = true) ∧ ((s.cell unit).slowSince + s.rd Rec.FaultPolicy.ProbationMs ≤ s.time.ms) := by decide +kernel

/-- What clause 5 of FaultEventsComplete assumes can be met. -/
theorem witness_FaultEventsComplete_4 :
    let s : State := { W.on with arch := { regions := [(2, { st := .restarting, began := 90000000 })] } }; let region : Nat := 2; ((Map.getD s.arch.regions region {}).st = .restarting) ∧ (region ≠ 7) ∧ (region ≠ 9) ∧ ((Map.getD s.arch.regions region {}).lanes = []) ∧ (Claims.Room s) := by decide +kernel

/-- What clause 6 of FaultEventsComplete assumes can be met. -/
theorem witness_FaultEventsComplete_5 :
    let s : State := W.unit W.on (.dcBlock 4) (.stopping false); let n : Nat := 4; let held : Bool := false; ((s.unit (.dcBlock n)).st = .stopping held) := by decide +kernel

/-- What clause 7 of FaultEventsComplete assumes can be met. -/
theorem witness_FaultEventsComplete_6 :
    let s : State := W.unit W.on (.dcBlock 4) (.stopping false); let n : Nat := 4; let held : Bool := false; ((s.unit (.dcBlock n)).st = .stopping held) ∧ ((s.unit (.dcBlock n)).stopAt + (UnitId.dcBlock n).stopBound < s.time.ms) ∧ (Claims.Room s) := by decide +kernel

/-- What clause 1 of LaneEventsComplete assumes can be met. -/
theorem witness_LaneEventsComplete_0 :
    let s : State := W.unit W.on (.lane 3) .on; let lane : Nat := 3; let cause : Nat := 2; (s.laneOn lane = true) ∧ (cause ≤ 2) ∧ (Claims.Room s) := by decide +kernel

/-- What clause 2 of LaneEventsComplete assumes can be met. -/
theorem witness_LaneEventsComplete_1 :
    let s : State := (W.unit W.on (.lane 3) .starting).setLane 3 { step := 1 }; let lane : Nat := 3; (s.laneStarting lane = true) ∧ ((s.lane lane).step = 1) := by decide +kernel

/-- What clause 3 of LaneEventsComplete assumes can be met. -/
theorem witness_LaneEventsComplete_2 :
    let s : State := (W.unit W.on (.lane 3) .starting).setLane 3 { step := 4, identifyFailed := true }; let lane : Nat := 3; (s.laneStarting lane = true) ∧ ((s.lane lane).stepFailed s.time.ms = true) := by decide +kernel

/-- What clause 4 of LaneEventsComplete assumes can be met. -/
theorem witness_LaneEventsComplete_3 :
    let s : State := (W.unit W.on (.lane 3) .starting).setLane 3 { step := 6 }; let lane : Nat := 3; (s.laneStarting lane = true) ∧ ((s.lane lane).stepMs + s.rd Rec.Lane.RetryIntervalMs lane ≤ s.time.ms) ∧ ((s.lane lane).step = 6) := by decide +kernel

/-- What clause 5 of LaneEventsComplete assumes can be met. -/
theorem witness_LaneEventsComplete_4 :
    let s : State := (W.unit W.on (.lane 3) .starting).setLane 3 { step := 2 }; let lane : Nat := 3; (s.laneStarting lane = true) ∧ ((s.lane lane).startFailed = false) ∧ ((s.lane lane).refused = false) ∧ ((s.lane lane).startMs + s.rd Rec.Lane.StartTimeoutMs lane ≤ s.time.ms) ∧ (Claims.Room s) := by decide +kernel

/-- What clause 6 of LaneEventsComplete assumes can be met. -/
theorem witness_LaneEventsComplete_5 :
    let s : State := (W.unit W.on (.lane 3) .on).setLane 3 { uncorrSec := 100000 }; let lane : Nat := 3; (s.laneOn lane = true) ∧ ((s.lane lane).lastFecS ≠ some s.nowS) ∧ (s.rd Rec.Lane.FecUncorrPerS lane ≤ (s.lane lane).uncorrSec) ∧ (Claims.Room s) := by decide +kernel

/-- What clause 7 of LaneEventsComplete assumes can be met. -/
theorem witness_LaneEventsComplete_6 :
    let s : State := (W.unit W.on (.lane 3) .on).setLane 3 { uncorrSec := 0 }; let lane : Nat := 3; ((s.lane lane).lastFecS ≠ some s.nowS) ∧ ((s.lane lane).uncorrSec < s.rd Rec.Lane.FecUncorrPerS lane) := by decide +kernel

/-- What clause 8 of LaneEventsComplete assumes can be met. -/
theorem witness_LaneEventsComplete_7 :
    let s : State := W.on.setLane 3 { window := some (5, 0), windowCount := 97656, lastRx := 999997440005 }; let lane : Nat := 3; let t0 : Nat := 5; let p0 : Int := 0; ((s.lane lane).window = some (t0, p0)) ∧ (97656 ≤ (s.lane lane).windowCount) := by decide +kernel

/-- What clause 9 of LaneEventsComplete assumes can be met. -/
theorem witness_LaneEventsComplete_8 :
    let s : State := (W.unit W.on (.lane 3) .on).setLane 3 { inbox := [W.message] }; let lane : Nat := 3; let msg : List Byte := W.message; let rest : List (List Byte) := []; ((s.lane lane).inbox = msg :: rest) ∧ ((s.lane lane).reqs.any (fun r => r.seq == leAt msg 2 2) = false) := by decide +kernel

/-- What clause 10 of LaneEventsComplete assumes can be met. -/
theorem witness_LaneEventsComplete_9 :
    let s : State := (W.unit W.on (.lane 3) .on).setLane 3 { inbox := [W.message], reqs := [{ seq := 4, msgType := 1, owner := .identify }] }; let lane : Nat := 3; let msg : List Byte := W.message; let rest : List (List Byte) := []; let x : CtrlReq := { seq := 4, msgType := 1, owner := .identify }; ((s.lane lane).inbox = msg :: rest) ∧ (leAt msg 0 1 = 2) ∧ ((s.lane lane).reqs.find? (fun r => r.seq == leAt msg 2 2) = some x) ∧ (x.owner = .identify) ∧ ((headIdOf (slice msg 8 (leAt msg 4 2))).kind ≠ 2) := by decide +kernel

/-- What clause 11 of LaneEventsComplete assumes can be met. -/
theorem witness_LaneEventsComplete_10 :
    let s : State := W.on.setLane 3 { reqs := [{ seq := 4, msgType := 1, owner := .identify }] }; let lane : Nat := 3; let seq : Nat := 4; let x : CtrlReq := { seq := 4, msgType := 1, owner := .identify }; ((s.lane lane).reqs.find? (fun r => r.seq == seq) = some x) ∧ (x.resends < 3) ∧ (x.firstMs + x.resends + 1 ≤ s.time.ms) := by decide +kernel

/-- What clause 12 of LaneEventsComplete assumes can be met. -/
theorem witness_LaneEventsComplete_11 :
    let s : State := W.on.setLane 3 { reqs := [{ seq := 4, msgType := 1, owner := .identify, resends := 3 }] }; let lane : Nat := 3; let seq : Nat := 4; let x : CtrlReq := { seq := 4, msgType := 1, owner := .identify, resends := 3 }; ((s.lane lane).reqs.find? (fun r => r.seq == seq) = some x) ∧ (3 ≤ x.resends) ∧ (x.firstMs + 5 ≤ s.time.ms) ∧ (x.owner = .identify ∨ x.owner = .tribList) := by decide +kernel

/-- What clause 13 of LaneEventsComplete assumes can be met. -/
theorem witness_LaneEventsComplete_12 :
    let s : State := W.on; let lane : Nat := 3; (s.laneOn lane = false) ∧ (s.laneStarting lane = false ∨ (s.lane lane).step < 3 ∨ 5 < (s.lane lane).step) := by decide +kernel

/-- What clause 14 of LaneEventsComplete assumes can be met. -/
theorem witness_LaneEventsComplete_13 :
    let s : State := (W.unit W.on (.lane 3) .starting).setLane 3 { step := 3, good := 2 }; let lane : Nat := 3; let bytes : List Byte := W.header; let spacing : Nat := 2048000; (s.laneOn lane = false) ∧ (s.laneStarting lane = true) ∧ ((s.lane lane).step = 3) ∧ ((s.lane lane).sfLock = false) ∧ (headerValid (bytes.take 64) = true) ∧ (spacing = 2048000) := by decide +kernel

/-- What clause 15 of LaneEventsComplete assumes can be met. -/
theorem witness_LaneEventsComplete_14 :
    let s : State := (W.unit W.on (.lane 3) .starting).setLane 3 { step := 3 }; let lane : Nat := 3; let bytes : List Byte := []; (s.laneOn lane = false) ∧ (s.laneStarting lane = true) ∧ ((s.lane lane).step = 3) ∧ ((s.lane lane).sfLock = false) ∧ (headerValid (bytes.take 64) = false) := by decide +kernel

/-- What clause 16 of LaneEventsComplete assumes can be met. -/
theorem witness_LaneEventsComplete_15 :
    let s : State := { (W.unit W.on (.lane 3) .on).setLane 3 { sfLock := true } with pair := {} }; let lane : Nat := 3; let bytes : List Byte := W.header; (s.laneOn lane = true) ∧ ((s.lane lane).sfLock = true) ∧ (headerValid (bytes.take 64) = true) ∧ (headerUp (bytes.take 64) = true) ∧ (s.serving = false) := by decide +kernel

/-- What clause 1 of FilterEventsComplete assumes can be met. -/
theorem witness_FilterEventsComplete_0 :
    let s : State := (W.unit (W.watched) (.dcBlock 0) .starting).setDc 0 { sums := [(2, ({ re := 8192 }, 4096))] }; let target : Nat := 0; (s.unitSt (.dcBlock target) = .starting) ∧ ((s.dcKeys target).all (fun k => decide (s.dcNeed target ≤ (Map.getD (s.dcOf target).sums k ({}, 0)).2)) = true) ∧ (Claims.Room s) := by decide +kernel

/-- What clause 2 of FilterEventsComplete assumes can be met. -/
theorem witness_FilterEventsComplete_1 :
    let s : State := W.on; let target : Nat := 9; (s.unitSt (.dcBlock target) ≠ .starting) := by decide +kernel

/-- What clause 3 of FilterEventsComplete assumes can be met. -/
theorem witness_FilterEventsComplete_2 :
    let s : State := W.on.setDc 9 { cmdFreeze := true, frozen := some (5, 0) }; let target : Nat := 9; let since : Nat := 5; let st : Nat := 0; ((s.dcOf target).frozen = some (since, st)) ∧ ((s.dcOf target).longRaised = false) ∧ (since + 600000 ≤ s.time.ms) ∧ (Claims.Room s) := by decide +kernel

/-- What clause 4 of FilterEventsComplete assumes can be met. -/
theorem witness_FilterEventsComplete_3 :
    let s : State := W.on.setDc 9 { cmdFreeze := true, longRaised := true, frozen := some (5, 0) }; let target : Nat := 9; let since : Nat := 5; let st : Nat := 0; ((s.dcOf target).frozen = some (since, st)) ∧ ((s.dcOf target).longRaised = true ∨ s.time.ms < since + 600000) := by decide +kernel

/-- What clause 5 of FilterEventsComplete assumes can be met. -/
theorem witness_FilterEventsComplete_4 :
    let s : State := { W.on with filt := { captures := [{ id := 2, kind := 0, lane := 1, mask := 1, sub := 0, start := 1, at' := 5, durationUs := 10, size := 1 }] } }; let id : Nat := 2; let x : Capture := { id := 2, kind := 0, lane := 1, mask := 1, sub := 0, start := 1, at' := 5, durationUs := 10, size := 1 }; (s.filt.captures.find? (fun y => y.id == id) = some x) ∧ (x.st = .waiting) ∧ (x.start = 1) ∧ (x.at' ≤ s.time.air) := by decide +kernel

/-- What clause 6 of FilterEventsComplete assumes can be met. -/
theorem witness_FilterEventsComplete_5 :
    let s : State := { W.on with filt := { captures := [{ id := 2, kind := 0, lane := 1, mask := 1, sub := 0, start := 2, at' := 5, durationUs := 10, size := 1 }] }, ev := { lastStamp := [(5, 9)] } }; let id : Nat := 2; let e : Nat := 9; let x : Capture := { id := 2, kind := 0, lane := 1, mask := 1, sub := 0, start := 2, at' := 5, durationUs := 10, size := 1 }; (s.filt.captures.find? (fun y => y.id == id) = some x) ∧ (x.st = .waiting) ∧ (x.start = 2) ∧ (Map.get? s.ev.lastStamp x.at' = some e) ∧ (x.reqStamp ≤ e) := by decide +kernel

/-- What clause 7 of FilterEventsComplete assumes can be met. -/
theorem witness_FilterEventsComplete_6 :
    let s : State := { W.on with filt := { captures := [{ id := 2, kind := 0, lane := 1, mask := 1, sub := 0, start := 1, at' := 5, durationUs := 10, size := 1, st := .active }] } }; let id : Nat := 2; let x : Capture := { id := 2, kind := 0, lane := 1, mask := 1, sub := 0, start := 1, at' := 5, durationUs := 10, size := 1, st := .active }; (s.filt.captures.find? (fun y => y.id == id) = some x) ∧ (x.st = .active) ∧ (x.wanted ≤ x.taken ∨ x.startAir + x.durationUs * 2000 + captureLag ≤ s.time.air) ∧ (Claims.Room s) := by decide +kernel

/-- What clause 8 of FilterEventsComplete assumes can be met. -/
theorem witness_FilterEventsComplete_7 :
    let s : State := { W.on with filt := { captures := [{ id := 2, kind := 0, lane := 1, mask := 1, sub := 0, start := 1, at' := 5, durationUs := 10, size := 1, st := .stopped }] } }; let id : Nat := 2; let x : Capture := { id := 2, kind := 0, lane := 1, mask := 1, sub := 0, start := 1, at' := 5, durationUs := 10, size := 1, st := .stopped }; (s.filt.captures.find? (fun y => y.id == id) = some x) ∧ (x.st = .stopped) ∧ (Claims.Room s) := by decide +kernel

/-- What clause 9 of FilterEventsComplete assumes can be met. -/
theorem witness_FilterEventsComplete_8 :
    let s : State := { W.on with filt := { captures := [{ id := 2, kind := 0, lane := 1, mask := 1, sub := 0, start := 1, at' := 5, durationUs := 10, size := 1 }] } }; let id : Nat := 2; let x : Capture := { id := 2, kind := 0, lane := 1, mask := 1, sub := 0, start := 1, at' := 5, durationUs := 10, size := 1 }; (s.filt.captures.find? (fun y => y.id == id) = some x) ∧ (x.st = .waiting ∨ x.st = .done) := by decide +kernel

/-- What clause 1 of ReceptionEventsComplete assumes can be met. -/
theorem witness_ReceptionEventsComplete_0 :
    let s : State := W.on; let meter : Nat := 4; let group : Nat := 1; let headMask : Nat := 255; let mode : Nat := 0; let openAt : Nat := s.time.air + 10 * airPerMs; let closeAt : Nat := s.time.air + 20 * airPerMs; let maxFrameMs : Nat := 10; let freqExpect : Nat := 0; let freqSpan : Nat := 0; let tenant : Nat := 0; (s.time.air + 5 * airPerMs ≤ openAt) ∧ (openAt ≤ s.time.air + 600000 * airPerMs) ∧ (openAt + airPerMs ≤ closeAt) ∧ (closeAt ≤ openAt + 60000 * airPerMs) ∧ ((⟨meter, group, headMask, mode, openAt, closeAt, maxFrameMs, freqExpect, freqSpan, tenant⟩ : Booking).inRange = true) ∧ (s.rxReady = true) ∧ (s.bookingBound ⟨meter, group, headMask, mode, openAt, closeAt, maxFrameMs, freqExpect, freqSpan, tenant⟩ = none) := by decide +kernel

/-- What clause 2 of ReceptionEventsComplete assumes can be met. -/
theorem witness_ReceptionEventsComplete_1 :
    let s : State := { W.on with mail := {} }; (s.rxReady = false) := by decide +kernel

/-- What clause 3 of ReceptionEventsComplete assumes can be met. -/
theorem witness_ReceptionEventsComplete_2 :
    let s : State := { W.on with rx := { booked := [{ id := 5, b := ⟨4, 1, 255, 0, 10, 20, 10, 0, 0, 0⟩ }] } }; let id : Nat := 5; let n : Nat := 0; let x : Booked := { id := 5, b := ⟨4, 1, 255, 0, 10, 20, 10, 0, 0, 0⟩ }; (s.rx.booked.find? (fun y => y.id == id) = some x) ∧ (x.b.openAt ≤ s.time.air) ∧ (s.regionOn 4 = true) ∧ (s.bookedFits x = true) ∧ (s.freeCtx = some n) ∧ (x.listen = false) := by decide +kernel

/-- What clause 4 of ReceptionEventsComplete assumes can be met. -/
theorem witness_ReceptionEventsComplete_3 :
    let s : State := { W.on with time := {}, rx := { booked := [{ id := 5, b := ⟨4, 1, 255, 0, 10, 20, 10, 0, 0, 0⟩ }] } }; let id : Nat := 5; let x : Booked := { id := 5, b := ⟨4, 1, 255, 0, 10, 20, 10, 0, 0, 0⟩ }; (s.rx.booked.find? (fun y => y.id == id) = some x) ∧ (s.time.air < x.b.openAt) := by decide +kernel

/-- What clause 5 of ReceptionEventsComplete assumes can be met. -/
theorem witness_ReceptionEventsComplete_4 :
    let s : State := W.watched; let group : Nat := 1; let channel : Nat := 0; let antenna : Nat := 2; let mode : Nat := 0; let startAir : Nat := 199999999990000; let n : Nat := 0; (s.watches group channel antenna mode = true) ∧ (modeRetro mode = true) ∧ ((s.rx.detMs.filter fun m => decide (s.time.ms < m + 1000)).length < 131072) ∧ (s.mergesInto group startAir = false) ∧ (s.retroFits { group := group, channel := channel, antenna := antenna, mode := mode, startAir := startAir, ms := s.time.ms, air := s.time.air, pol := s.rxPol mode } = true) ∧ (s.freeCtx = some n) := by decide +kernel

/-- What clause 6 of ReceptionEventsComplete assumes can be met. -/
theorem witness_ReceptionEventsComplete_5 :
    let s : State := W.on; let group : Nat := 1; let channel : Nat := 0; let antenna : Nat := 2; let mode : Nat := 0; (s.watches group channel antenna mode = false) := by decide +kernel

/-- What clause 7 of ReceptionEventsComplete assumes can be met. -/
theorem witness_ReceptionEventsComplete_6 :
    let s : State := { W.on with rx := { detections := [{ group := 1, channel := 0, antenna := 2, mode := 0, startAir := 0, ms := 5 }] } }; let group : Nat := 1; let d : Detection := { group := 1, channel := 0, antenna := 2, mode := 0, startAir := 0, ms := 5 }; (s.rx.detections.find? (fun d => d.group == group && decide (d.ms + (60 - modeLagMs d.mode) ≤ s.time.ms)) = some d) ∧ (Map.get? s.rx.dropMs group = none) ∧ (Claims.Room s) := by decide +kernel

/-- What clause 8 of ReceptionEventsComplete assumes can be met. -/
theorem witness_ReceptionEventsComplete_7 :
    let s : State := W.on.setCtx 3 { st := .starting, id := 0, b := ⟨4, 1, 255, 0, 10, 20, 10, 0, 0, 0⟩, origin := 1 }; let ctx : Nat := 3; let x : RxCtx := { st := .starting, id := 0, b := ⟨4, 1, 255, 0, 10, 20, 10, 0, 0, 0⟩, origin := 1 }; (s.ctx ctx = some x) ∧ (x.origin = 1) ∧ (x.st = .starting) := by decide +kernel

/-- What clause 9 of ReceptionEventsComplete assumes can be met. -/
theorem witness_ReceptionEventsComplete_8 :
    let s : State := W.on.setCtx 3 { st := .search, id := 8, b := ⟨4, 1, 255, 0, 10, 20, 10, 0, 0, 0⟩, origin := 0, branches := [(1, 2)] }; let ctx : Nat := 3; let startAir : Nat := 10; let freqHz : Int := 0; let x : RxCtx := { st := .search, id := 8, b := ⟨4, 1, 255, 0, 10, 20, 10, 0, 0, 0⟩, origin := 0, branches := [(1, 2)] }; (s.ctx ctx = some x) ∧ (x.origin = 0) ∧ (x.st = .search ∨ x.st = .starting) ∧ (x.branches ≠ []) ∧ (x.b.openAt ≤ startAir) ∧ (startAir ≤ x.b.closeAt) ∧ (x.searches freqHz = true) ∧ (s.sameFrameCtxs ctx x.b.group startAir = []) ∧ (s.rx.detections = []) := by decide +kernel

/-- What clause 10 of ReceptionEventsComplete assumes can be met. -/
theorem witness_ReceptionEventsComplete_9 :
    let s : State := W.on.setCtx 3 { st := .search, id := 8, b := ⟨4, 1, 255, 0, 10, 20, 10, 0, 0, 0⟩, origin := 1, branches := [(1, 2)] }; let ctx : Nat := 3; let startAir : Nat := 10; let freqHz : Int := 0; let x : RxCtx := { st := .search, id := 8, b := ⟨4, 1, 255, 0, 10, 20, 10, 0, 0, 0⟩, origin := 1, branches := [(1, 2)] }; (s.ctx ctx = some x) ∧ (x.origin = 1) ∧ (x.st = .search ∨ x.st = .starting) ∧ (x.searches freqHz = true) ∧ (s.sameFrameCtxs ctx x.b.group startAir = []) ∧ (s.rx.detections = []) := by decide +kernel

/-- What clause 11 of ReceptionEventsComplete assumes can be met. -/
theorem witness_ReceptionEventsComplete_10 :
    let s : State := W.on.setCtx 3 { st := .search, id := 8, b := ⟨4, 1, 255, 0, 10, 20, 10, 0, 0, 0⟩, origin := 0 }; let ctx : Nat := 3; let x : RxCtx := { st := .search, id := 8, b := ⟨4, 1, 255, 0, 10, 20, 10, 0, 0, 0⟩, origin := 0 }; (s.ctx ctx = some x) ∧ (x.origin = 0) ∧ (x.st = .search ∨ x.st = .starting) ∧ (x.b.closeAt + modeLagMs x.b.mode * airPerMs ≤ s.time.air) := by decide +kernel

/-- What clause 12 of ReceptionEventsComplete assumes can be met. -/
theorem witness_ReceptionEventsComplete_11 :
    let s : State := W.on.setCtx 3 { st := .track, id := 8, b := ⟨4, 1, 255, 0, 10, 20, 10, 0, 0, 0⟩, origin := 0 }; let ctx : Nat := 3; let endAir : Nat := 20; let x : RxCtx := { st := .track, id := 8, b := ⟨4, 1, 255, 0, 10, 20, 10, 0, 0, 0⟩, origin := 0 }; (s.ctx ctx = some x) ∧ (x.st = .track) ∧ (x.deadline endAir ≤ s.time.air) := by decide +kernel

/-- What clause 13 of ReceptionEventsComplete assumes can be met. -/
theorem witness_ReceptionEventsComplete_12 :
    let s : State := W.on.setCtx 3 { st := .search, id := 8, b := ⟨4, 1, 255, 0, 10, 20, 10, 0, 0, 0⟩, origin := 0, branches := [(1, 2)] }; let ctx : Nat := 3; let x : RxCtx := { st := .search, id := 8, b := ⟨4, 1, 255, 0, 10, 20, 10, 0, 0, 0⟩, origin := 0, branches := [(1, 2)] }; (s.ctx ctx = some x) ∧ (x.st ≠ .track) := by decide +kernel

/-- What clause 14 of ReceptionEventsComplete assumes can be met. -/
theorem witness_ReceptionEventsComplete_13 :
    let s : State := W.on.setCtx 3 { st := .final, id := 8, b := ⟨4, 1, 255, 5, 10, 20, 10, 0, 0, 0⟩, origin := 0 }; let ctx : Nat := 3; let x : RxCtx := { st := .final, id := 8, b := ⟨4, 1, 255, 5, 10, 20, 10, 0, 0, 0⟩, origin := 0 }; (s.ctx ctx = some x) ∧ (x.st = .final) ∧ (x.origin = 0) ∧ (2 < x.b.mode) := by decide +kernel

/-- What clause 15 of ReceptionEventsComplete assumes can be met. -/
theorem witness_ReceptionEventsComplete_14 :
    let s : State := W.on.setCtx 3 { st := .search, id := 8, b := ⟨4, 1, 255, 0, 10, 20, 10, 0, 0, 0⟩, origin := 0, branches := [(1, 2)] }; let ctx : Nat := 3; let x : RxCtx := { st := .search, id := 8, b := ⟨4, 1, 255, 0, 10, 20, 10, 0, 0, 0⟩, origin := 0, branches := [(1, 2)] }; (s.ctx ctx = some x) ∧ (x.st ≠ .final) := by decide +kernel

/-- What clause 16 of ReceptionEventsComplete assumes can be met. -/
theorem witness_ReceptionEventsComplete_15 :
    let s : State := W.on.setCtx 3 { st := .stopping, id := 8, b := ⟨4, 1, 255, 0, 10, 20, 10, 0, 0, 0⟩, origin := 0 }; let ctx : Nat := 3; let x : RxCtx := { st := .stopping, id := 8, b := ⟨4, 1, 255, 0, 10, 20, 10, 0, 0, 0⟩, origin := 0 }; (s.ctx ctx = some x) ∧ (x.st = .stopping) ∧ (x.held = none) ∧ (s.rx.booked = []) ∧ (s.rx.detections = []) := by decide +kernel

/-- What clause 17 of ReceptionEventsComplete assumes can be met. -/
theorem witness_ReceptionEventsComplete_16 :
    let s : State := W.on.setCtx 3 { st := .stopping, id := 8, b := ⟨4, 1, 255, 0, 10, 20, 10, 0, 0, 0⟩, origin := 0, held := some (.booking { id := 5, b := ⟨4, 1, 255, 0, 10, 20, 10, 0, 0, 0⟩ }) }; let ctx : Nat := 3; let x : RxCtx := { st := .stopping, id := 8, b := ⟨4, 1, 255, 0, 10, 20, 10, 0, 0, 0⟩, origin := 0, held := some (.booking { id := 5, b := ⟨4, 1, 255, 0, 10, 20, 10, 0, 0, 0⟩ }) }; let y : Booked := { id := 5, b := ⟨4, 1, 255, 0, 10, 20, 10, 0, 0, 0⟩ }; (s.ctx ctx = some x) ∧ (x.st = .stopping) ∧ (x.held = some (.booking y)) := by decide +kernel

/-- What clause 18 of ReceptionEventsComplete assumes can be met. -/
theorem witness_ReceptionEventsComplete_17 :
    let s : State := W.on.setCtx 3 { st := .search, id := 8, b := ⟨4, 1, 255, 0, 10, 20, 10, 0, 0, 0⟩, origin := 0, branches := [(1, 2)] }; let ctx : Nat := 3; let x : RxCtx := { st := .search, id := 8, b := ⟨4, 1, 255, 0, 10, 20, 10, 0, 0, 0⟩, origin := 0, branches := [(1, 2)] }; (s.ctx ctx = some x) ∧ (x.st ≠ .stopping) := by decide +kernel

/-- What clause 1 of PollEventsComplete assumes can be met. -/
theorem witness_PollEventsComplete_0 :
    let s : State := { W.radio with pair := {} }; let slot : Nat := 5; (s.planned slot = true) ∧ ((s.plan slot).lastDue < s.dueAt slot s.legalS) ∧ ((s.plan slot).poll = none) ∧ (s.journals = false) := by decide +kernel

/-- What clause 2 of PollEventsComplete assumes can be met. -/
theorem witness_PollEventsComplete_1 :
    let s : State := W.radio.setPlan 5 { poll := some { due := 1, request := 11, priority := 2 } }; let slot : Nat := 5; let q : PendPoll := { due := 1, request := 11, priority := 2 }; ((s.plan slot).poll = some q) ∧ (q.late = false) ∧ (q.due + s.rd Rec.MeterClass.PollDeadlineS (s.planClass slot) ≤ s.legalS) ∧ (Claims.Room s) := by decide +kernel

/-- What clause 3 of PollEventsComplete assumes can be met. -/
theorem witness_PollEventsComplete_2 :
    let s : State := { W.radio with air := { plans := [(5, { poll := some { due := 1, request := 11, priority := 2, held := true } })] } }; let slot : Nat := 5; let p : PlanMeter := { poll := some { due := 1, request := 11, priority := 2, held := true } }; let q : PendPoll := { due := 1, request := 11, priority := 2, held := true }; (s.serving = true) ∧ (s.air.plans = [(slot, p)]) ∧ (p.poll = some q) ∧ (q.held = true) ∧ (s.air.releaseMs = none) ∧ (1 ≤ s.rd Rec.AirPolicy.RecoveryPerS) := by decide +kernel

/-- What clause 4 of PollEventsComplete assumes can be met. -/
theorem witness_PollEventsComplete_3 :
    let s : State := W.put W.due Rec.LeaChannel.Active 0 0; let slot : Nat := 5; let q : PendPoll := { due := 1699999000, request := 11, priority := 2 }; (s.planned slot = true) ∧ (s.lingOnly slot = false) ∧ (s.serving = true) ∧ ((s.plan slot).out = none) ∧ ((s.plan slot).poll = some q) ∧ (q.held = false) ∧ (s.leaRateOn (s.rd Rec.MeterPlan.LeaChannel slot) (s.rd Rec.MeterClass.Rate (s.planClass slot)) = false) := by decide +kernel

/-- What clause 5 of PollEventsComplete assumes can be met. -/
theorem witness_PollEventsComplete_4 :
    let s : State := W.due; let slot : Nat := 5; (s.planned slot = true) ∧ (s.lingOnly slot = false) ∧ (s.serving = true) ∧ ((s.plan slot).out = none) ∧ (((s.plan slot).poll.map PendPoll.held).getD false = false) ∧ (s.leaRateOn (s.rd Rec.MeterPlan.LeaChannel slot) (s.rd Rec.MeterClass.Rate (s.planClass slot)) = true) ∧ (s.bandHolds (s.planBand slot) (s.rd Rec.LeaChannel.CentreHz (s.rd Rec.MeterPlan.LeaChannel slot)) (occHalf (s.rd Rec.MeterClass.Rate (s.planClass slot))) = true) ∧ ((s.launchFirst slot (s.aims slot).learning (s.aims slot).list none).isOk = true) := by decide +kernel

/-- What clause 6 of PollEventsComplete assumes can be met. -/
theorem witness_PollEventsComplete_5 :
    let s : State := { W.on with air := { queue := [{ W.launch with locked := false }] }, store := { nextPos := 1 } }; let id : Nat := 4; let e : Launch := { W.launch with locked := false }; (s.air.queue.find? (fun x => x.id == id) = some e) ∧ (e.locked = false) ∧ (e.start ≤ s.time.air + s.rd Rec.AirPolicy.LaunchLockMs * airPerMs) ∧ (s.posCommitted e.position = true) := by decide +kernel

/-- What clause 7 of PollEventsComplete assumes can be met. -/
theorem witness_PollEventsComplete_6 :
    let s : State := { W.on with air := { queue := [{ W.launch with locked := false, position := 9 }] }, store := { nextPos := 10, journal := [{ position := 9, kind := .store, tenant := 0, object := 0, stamp := 5, body := .words [1] }] } }; let id : Nat := 4; let e : Launch := { W.launch with locked := false, position := 9 }; (s.air.queue.find? (fun x => x.id == id) = some e) ∧ (e.locked = false) ∧ (e.start ≤ s.time.air + s.rd Rec.AirPolicy.LaunchLockMs * airPerMs) ∧ (s.posCommitted e.position = false) ∧ (e.meter = none) := by decide +kernel

/-- What clause 8 of PollEventsComplete assumes can be met. -/
theorem witness_PollEventsComplete_7 :
    let s : State := { W.on with air := { queue := [W.launch] } }; let id : Nat := 4; let e : Launch := W.launch; (s.air.queue.find? (fun x => x.id == id) = some e) ∧ (e.locked = true ∨ s.time.air + s.rd Rec.AirPolicy.LaunchLockMs * airPerMs < e.start) := by decide +kernel

/-- What clause 9 of PollEventsComplete assumes can be met. -/
theorem witness_PollEventsComplete_8 :
    let s : State := { W.radio with air := { queue := [W.launch] } }; let id : Nat := 4; let e : Launch := W.launch; (s.air.queue.find? (fun x => x.id == id) = some e) ∧ (e.locked = true) ∧ (e.start ≤ s.time.air) ∧ (s.regionOn 5 = true) ∧ (s.laneOn e.head = true) ∧ (s.timed e.head = true) ∧ ((s.lane e.head).hdr.obeyed = true) ∧ (e.source = .test) ∧ (e.channel = none) ∧ (e.stream = none) ∧ (e.meter = none) := by decide +kernel

/-- What clause 10 of PollEventsComplete assumes can be met. -/
theorem witness_PollEventsComplete_9 :
    let s : State := { W.on with air := { queue := [W.launch] } }; let id : Nat := 4; let e : Launch := W.launch; (s.air.queue.find? (fun x => x.id == id) = some e) ∧ (e.locked = true) ∧ (e.start ≤ s.time.air) ∧ (s.regionOn 5 = false ∨ s.laneOn e.head = false) := by decide +kernel

/-- What clause 11 of PollEventsComplete assumes can be met. -/
theorem witness_PollEventsComplete_10 :
    let s : State := { W.follow 5 with rx := { outcomes := [⟨3, 0, ⟨5, 1, 1, 1, 0, 0, 0, 0, 0, 0⟩, none, [], [0, 64]⟩] } }; let x : RxOutcome := ⟨3, 0, ⟨5, 1, 1, 1, 0, 0, 0, 0, 0, 0⟩, none, [], [0, 64]⟩; let o : OutPoll := W.outPoll 5; let rest : List RxOutcome := []; (s.rx.outcomes = x :: rest) ∧ ((s.plan x.b.meter).out = some o) ∧ (o.booking = x.id) ∧ (x.outcome = 0) ∧ (bitOn (leAt x.desc 1 1) 6 = true) := by decide +kernel

/-- What clause 12 of PollEventsComplete assumes can be met. -/
theorem witness_PollEventsComplete_11 :
    let s : State := W.follow 5; let slot : Nat := 5; let re : Nat := 5; let o : OutPoll := W.outPoll 5; let f : FollowCmd := W.command; ((s.plan slot).out = some o) ∧ (o.follow = some f) ∧ (o.answered = some re) ∧ (re + turnAir o.delay < s.time.air) := by decide +kernel

/-- What clause 13 of PollEventsComplete assumes can be met. -/
theorem witness_PollEventsComplete_12 :
    let s : State := W.follow (W.radio.time.air - 29 * airPerMs); let slot : Nat := 5; let re : Nat := W.radio.time.air - 29 * airPerMs; let a : Nat := 0; let o : OutPoll := W.outPoll (W.radio.time.air - 29 * airPerMs); let f : FollowCmd := W.command; let x : Charge := ⟨0, 0, 0, 1, 1, 2⟩; let s1 : State := s.setPlan slot { s.plan slot with out := some { o with follow := none } }; ((s.plan slot).out = some o) ∧ (o.follow = some f) ∧ (o.closed = false) ∧ (o.answered = some re) ∧ (s.time.air ≤ re + turnAir o.delay) ∧ (re + turnAir o.delay ≤ s.time.air + s.rd Rec.AirPolicy.LaunchLockMs * airPerMs) ∧ (s1 = s.setPlan slot { s.plan slot with out := some { o with follow := none } }) ∧ (s1.air.charges.find? (fun c => c.gid == o.gid && c.share == 1) = some x) ∧ (s1.txAntenna x.head = some a) ∧ (s1.refusal x.head a x.band (re + turnAir o.delay) (leaAir o.rate (s1.rd Rec.LeaChannel.DownPreambleMin (s1.rd Rec.MeterPlan.LeaChannel slot)) (leAt f.frame 0 1)) 0 1 = none) ∧ (s1.posCommitted f.position = true) ∧ (s1.stillDue slot f.carried = true) ∧ (s1.headUp x.head = true) ∧ (f.carried = {}) := by decide +kernel

/-- What clause 1 of FloodEventsComplete assumes can be met. -/
theorem witness_FloodEventsComplete_0 :
    let s : State := { W.flood with vault := {}, fl := { W.flood.fl with filled := [(1700001300, 0)] } }; let window : Nat := 5666671; let slot : Nat := 1; let c : Nat := 0; let x : Stream := { number := 1, kind := 0, tenant := 0, keySlot := 16, target := 0, lastBlock := 0, segBytes := 1, priority := 0, rounds := 1, st := .started }; (s.rdB Rec.FloodSchedule.Active = true) ∧ (s.serving = true) ∧ (0 < slot) ∧ (slot < s.rd Rec.FloodSchedule.FramesPerWindow) ∧ (s.fl.fromS ≤ s.windowS window) ∧ (s.fl.filled.contains (s.windowS window, slot) = false) ∧ (s.fl.filled.contains (s.windowS window, slot - 1) = true) ∧ (s.time.air + s.rd Rec.AirPolicy.PlanLeadMs * airPerMs ≤ s.frameSlotAir window slot) ∧ (s.nextStream window slot = some x) ∧ (s.pauseCause x = some c) ∧ (c = 0) ∧ (Claims.Room s) := by decide +kernel

/-- What clause 2 of FloodEventsComplete assumes can be met. -/
theorem witness_FloodEventsComplete_1 :
    let s : State := { W.flood with fl := { W.flood.fl with filled := [(1700001300, 0)] } }; let window : Nat := 5666671; let slot : Nat := 1; let x : Stream := { number := 1, kind := 0, tenant := 0, keySlot := 16, target := 0, lastBlock := 0, segBytes := 1, priority := 0, rounds := 1, st := .started }; (s.rdB Rec.FloodSchedule.Active = true) ∧ (s.serving = true) ∧ (0 < slot) ∧ (slot < s.rd Rec.FloodSchedule.FramesPerWindow) ∧ (s.fl.fromS ≤ s.windowS window) ∧ (s.fl.filled.contains (s.windowS window, slot) = false) ∧ (s.fl.filled.contains (s.windowS window, slot - 1) = true) ∧ (s.time.air + s.rd Rec.AirPolicy.PlanLeadMs * airPerMs ≤ s.frameSlotAir window slot) ∧ (s.nextStream window slot = some x) ∧ (s.pauseCause x = none) ∧ (s.air.queue.length < (s.launchFlood x window slot).air.queue.length) := by decide +kernel

/-- What clause 1 of LingEventsComplete assumes can be met. -/
theorem witness_LingEventsComplete_0 :
    let s : State := W.unit W.line (.lingTx 0) .starting; let trib : Nat := 0; (s.unitSt (.lingTx trib) = .starting) ∧ (s.lingFit trib = true) ∧ (s.zoneValid trib = true) ∧ (s.lineHere = true) ∧ (Claims.Room s) := by decide +kernel

/-- What clause 2 of LingEventsComplete assumes can be met. -/
theorem witness_LingEventsComplete_1 :
    let s : State := { W.line with time := { W.line.time with air := W.line.time.air + 200000000 } }; let trib : Nat := 0; let phase : Nat := 0; (s.lineHere = true) ∧ (trib < s.tributaries) ∧ (phase = s.zcRef trib) ∧ (phase < 3) ∧ (s.tribUp trib = true) ∧ (s.metroChain trib = true) ∧ ((s.metro trib).zone = .valid) ∧ (((((s.metro trib).phase phase).instants.head?).getD 0) + s.zcTimeout trib ≤ s.time.air) ∧ ((s.lingTrib trib).out = none) ∧ (Claims.Room s) := by decide +kernel

/-- What clause 3 of LingEventsComplete assumes can be met. -/
theorem witness_LingEventsComplete_2 :
    let s : State := W.unit W.lingDue (.lingTx 0) .off; let trib : Nat := 0; let d : LingDue := ⟨2, 1699999000, 5, 0⟩; let c : LingCause := .tributary; let rest : List LingDue := []; (s.lineHere = true) ∧ (trib < s.tributaries) ∧ ((s.lingTrib trib).out = none) ∧ (s.serving = true) ∧ (s.ling.claimAir + max (s.rd Rec.AirPolicy.PlanLeadMs) 1000 * airPerMs ≤ s.time.air) ∧ (s.lingQueue trib = d :: rest) ∧ (s.lingBlocked trib = some c) ∧ (c = .tributary) ∧ (d.kind = 0) := by decide +kernel

/-- What clause 4 of LingEventsComplete assumes can be met. -/
theorem witness_LingEventsComplete_3 :
    let s : State := W.lingDue; let trib : Nat := 0; let d : LingDue := ⟨2, 1699999000, 5, 0⟩; let rest : List LingDue := []; (s.lineHere = true) ∧ (trib < s.tributaries) ∧ ((s.lingTrib trib).out = none) ∧ (s.serving = true) ∧ (s.ling.claimAir + max (s.rd Rec.AirPolicy.PlanLeadMs) 1000 * airPerMs ≤ s.time.air) ∧ (s.lingQueue trib = d :: rest) ∧ (s.lingBlocked trib = none) ∧ (d.kind = 0) ∧ ((((s.lingPoll trib d.meter).lingTrib trib).out.map LingFrame.meter) = some d.meter) := by decide +kernel

/-- What clause 5 of LingEventsComplete assumes can be met. -/
theorem witness_LingEventsComplete_4 :
    let s : State := W.line; let trib : Nat := 0; (s.lineHere = true) ∧ (trib < s.tributaries) ∧ (s.rd Rec.LingTrib.AlarmCallS trib ≠ 0) ∧ ((s.lingTrib trib).lastCallS + s.rd Rec.LingTrib.AlarmCallS trib ≤ s.nowS) ∧ ((s.lingTrib trib).out = none) ∧ (s.serving = true) ∧ (s.ling.claimAir + max (s.rd Rec.AirPolicy.PlanLeadMs) 1000 * airPerMs ≤ s.time.air) ∧ (s.lingBlocked trib = none) ∧ ((s.drawTag.2.lingPut trib 2 0xFFFFFFFF s.drawTag.1 6 0 ((pollFrame (2 ^ 64 - 1) (s.rd Rec.Pair.RegionNumber) s.drawTag.1 0 (respCtlOf 0 false 0)).take 16) {}).toOption.isSome = true) := by decide +kernel

/-- What clause 6 of LingEventsComplete assumes can be met. -/
theorem witness_LingEventsComplete_5 :
    let s : State := W.lingDue.setLingMeter 5 { unreachable := true }; let slot : Nat := 5; (s.lineHere = true) ∧ ((s.lingMeterSt slot).unreachable = true) ∧ ((s.lingMeterSt slot).due = false) ∧ ((s.lingMeterSt slot).lastPollS + s.rd Rec.LingPolicy.UnreachIntervalS ≤ s.nowS) := by decide +kernel

/-- What clause 7 of LingEventsComplete assumes can be met. -/
theorem witness_LingEventsComplete_6 :
    let s : State := W.line.setLingTrib 0 { out := some (W.lingFrame W.line.time.air (W.line.time.air + 5)), energy := [(W.line.time.air / airPerMs, 1, 10 ^ 20)] }; let trib : Nat := 0; let phase : Nat := 1; let window : Nat := 0; let x : LingFrame := W.lingFrame W.line.time.air (W.line.time.air + 5); ((s.lingTrib trib).out = some x) ∧ (x.kind = 0) ∧ (x.start ≤ s.time.air) ∧ (s.time.air < x.stop) ∧ (window ≤ 1) ∧ ((if window = 0 then s.rd Rec.LingTrib.Cap200 trib else s.rd Rec.LingTrib.Cap1000 trib) * lingUnit ≤ s.windowEnergy trib phase (if window = 0 then 200 else 1000)) ∧ (phase ∈ s.lingPhasesOf trib) ∧ (s.lineHere = true) ∧ (Claims.Room s) := by decide +kernel

/-- What clause 8 of LingEventsComplete assumes can be met. -/
theorem witness_LingEventsComplete_7 :
    let s : State := W.line; let trib : Nat := 0; ((s.lingTrib trib).out = none) := by decide +kernel

/-- What clause 9 of LingEventsComplete assumes can be met. -/
theorem witness_LingEventsComplete_8 :
    let s : State := (W.line.setLingTrib 0 { out := some (W.lingFrame 5 10) }).setLingMeter 5 { unreachable := true }; let trib : Nat := 0; let x : LingFrame := W.lingFrame 5 10; ((s.lingTrib trib).out = some x) ∧ (x.kind = 0) ∧ (x.closeAt ≤ s.time.air) ∧ ((s.meter x.meter).active = false) ∧ ((s.lingMeterSt x.meter).unreachable = true) := by decide +kernel

/-- What clause 10 of LingEventsComplete assumes can be met. -/
theorem witness_LingEventsComplete_9 :
    let s : State := W.put (W.line.setLingTrib 0 { out := some (W.lingFrame 5 10) }) Rec.LingMeter.Phase 5 1; let trib : Nat := 0; let startAir : Nat := 1000; let repCode : Nat := 2; let m : Nat := 1; let header : List Byte := W.lingHeader; let payload : List Byte := whiten (W.lingAnswer ++ le 2 (leaCrc W.lingAnswer)); let fr : List Byte := W.lingAnswer; let x : LingFrame := W.lingFrame 5 10; ((s.lingTrib trib).out = some x) ∧ (x.kind = 0) ∧ (s.lingMatched x startAir = some m) ∧ (m = s.rd Rec.LingMeter.Phase x.meter) ∧ (lingCheck repCode header payload = (0, fr)) := by decide +kernel

/-- What clause 2 of MailboxEventsComplete assumes can be met. -/
theorem witness_MailboxEventsComplete_1 :
    let s : State := W.on; let off : Nat := 0x10040; (off % 4 = 0) ∧ (0x10000 ≤ off) ∧ (off < 0x30000) ∧ (0x040 ≤ off % 0x1000) ∧ (off % 0x1000 < 0x840) ∧ (s.mail.mailboxReady = true) ∧ (s.tunnelled ((off - 0x10000) / 0x1000) = false) ∧ (bufWf s.mail.buffers = true) := by decide +kernel

/-- What clause 3 of MailboxEventsComplete assumes can be met. -/
theorem witness_MailboxEventsComplete_2 :
    let s : State := W.on; let off : Nat := 0x11010; (off % 0x1000 = 0x010) ∧ (0x10000 ≤ off) ∧ (off < 0x30000) ∧ (s.mail.mailboxReady = true) ∧ (s.tunnelled ((off - 0x10000) / 0x1000) = false) := by decide +kernel

/-- What clause 4 of MailboxEventsComplete assumes can be met. -/
theorem witness_MailboxEventsComplete_3 :
    let s : State := W.on; let ch : Nat := 2; (s.pow.stage ≠ 0x0C) ∧ (s.mail.mailboxReady = true) ∧ (s.tunnelled ch = false) ∧ ((s.chan ch).st = .idle) := by decide +kernel

/-- What clause 5 of MailboxEventsComplete assumes can be met. -/
theorem witness_MailboxEventsComplete_4 :
    let s : State := W.on.setChan 2 { respVec := 4, notifyVec := 5, st := .busy, response := some { code := 1, status := .done, tagged := false } }; let ch : Nat := 2; let x : Response := { code := 1, status := .done, tagged := false }; let m : List Byte := ((responseMessages none 2 { code := 1, status := .done, tagged := false }).head?).getD []; ((s.chan ch).st = .busy) ∧ ((s.chan ch).response = some x) ∧ (x.closeAfter = false) ∧ (s.tunnelled ch = false) ∧ (responseMessages (s.respKey ch x) ch x = [m]) := by decide +kernel

/-- What clause 6 of MailboxEventsComplete assumes can be met. -/
theorem witness_MailboxEventsComplete_5 :
    let s : State := W.on.setChan 2 { respVec := 4, notifyVec := 5, st := .responseReady }; let ch : Nat := 2; (s.tunnelled ch = false) ∧ ((s.chan ch).st = .responseReady) ∧ ((s.chan ch).fragments = []) := by decide +kernel

/-- What clause 7 of MailboxEventsComplete assumes can be met. -/
theorem witness_MailboxEventsComplete_6 :
    let s : State := W.on.setChan 2 { respVec := 4, notifyVec := 5, st := .responseReady, fragments := [[1], [2]] }; let ch : Nat := 2; let m : List Byte := [1]; let ms : List (List Byte) := [[2]]; (s.tunnelled ch = false) ∧ ((s.chan ch).st = .responseReady) ∧ ((s.chan ch).fragments = m :: ms) := by decide +kernel

/-- What clause 8 of MailboxEventsComplete assumes can be met. -/
theorem witness_MailboxEventsComplete_7 :
    let s : State := W.on.setChan 2 { respVec := 4, notifyVec := 5, notes := [⟨1, 2, [3]⟩] }; let ch : Nat := 2; let n : Note := ⟨1, 2, [3]⟩; (s.tunnelled ch = false) ∧ ((s.chan ch).notes = [n]) := by decide +kernel

/-- What clause 9 of MailboxEventsComplete assumes can be met. -/
theorem witness_MailboxEventsComplete_8 :
    let s : State := W.on; (s.mail.mailboxReady = true) := by decide +kernel

/-- What clause 10 of MailboxEventsComplete assumes can be met. -/
theorem witness_MailboxEventsComplete_9 :
    let s : State := W.on.setChan 2 { respVec := 4, notifyVec := 5, st := .resetting }; let ch : Nat := 2; ((s.chan ch).st = .resetting) ∧ ((s.chan ch).request = none) ∧ ((s.chan ch).session = none) := by decide +kernel

/-- What clause 11 of MailboxEventsComplete assumes can be met. -/
theorem witness_MailboxEventsComplete_10 :
    let s : State := W.on.setChan 2 { respVec := 4, notifyVec := 5, session := some ⟨7, 1, 0, 0, [], 0, 1, 0, 5⟩ }; let ch : Nat := 2; let x : Session := ⟨7, 1, 0, 0, [], 0, 1, 0, 5⟩; (s.session ch = some x) ∧ (x.idleMs ≤ s.time.ms) ∧ (Claims.Room s) := by decide +kernel

/-- What clause 12 of MailboxEventsComplete assumes can be met. -/
theorem witness_MailboxEventsComplete_11 :
    let s : State := W.on.setChan 2 { respVec := 4, notifyVec := 5, backoffEnd := some 9 }; let ch : Nat := 2; let n : Nat := 9; ((s.chan ch).backoffEnd = some n) ∧ (n ≤ s.time.ms) := by decide +kernel

/-- What clause 13 of MailboxEventsComplete assumes can be met. -/
theorem witness_MailboxEventsComplete_12 :
    let s : State := { W.on with mail := { W.on.mail with tickets := [⟨3, .safeClose, [], 0, [], 1, 7, 1, 0, 0, 9⟩] } }; let ticket : Nat := 3; let x : Ticket := ⟨3, .safeClose, [], 0, [], 1, 7, 1, 0, 0, 9⟩; (s.mail.tickets = [x]) ∧ (x.ticket = ticket) ∧ (x.expiresMs ≤ s.time.ms) ∧ (Claims.Room s) := by decide +kernel

/-- What clause 1 of SecurityEventsComplete assumes can be met. -/
theorem witness_SecurityEventsComplete_0 :
    let s : State := { W.on with sec := { rebuild := some { beganMs := 5 } } }; let x : DirRebuild := { beganMs := 5 }; (s.sec.rebuild = some x) ∧ (dirAll (s.drawBytes 16).1 ((s.assignedSlots.map fun k => (k, s.rd Rec.MeterSec.Address k)) ++ x.extra.toList) [] [] = some []) ∧ (Claims.Room s) := by decide +kernel

/-- What clause 2 of SecurityEventsComplete assumes can be met. -/
theorem witness_SecurityEventsComplete_1 :
    let s : State := { W.on with sec := { victimSince := some 9 } }; let n : Nat := 9; (s.sec.victimSince = some n) ∧ (s.sec.victimLast + s.rd Rec.SwardPolicy.SwardAgeS ≤ s.legalS) ∧ (Claims.Room s) := by decide +kernel

/-- What clause 3 of SecurityEventsComplete assumes can be met. -/
theorem witness_SecurityEventsComplete_2 :
    let s : State := { W.on with rx := { toSecurity := [{ frame := [1, 0], desc := [], mode := 0, origin := 0, hint := 0xFFFFFFFF, startAir := 0, endAir := 0 }] } }; let frame : Nat := 0; let x : HandedFrame := { frame := [1, 0], desc := [], mode := 0, origin := 0, hint := 0xFFFFFFFF, startAir := 0, endAir := 0 }; let rest : List HandedFrame := []; (s.rx.toSecurity = x :: rest) ∧ (s.sec.rebuild = none) ∧ (s.restarting 7 = false) ∧ (parseFrame x = none) := by decide +kernel

/-- What clause 4 of SecurityEventsComplete assumes can be met. -/
theorem witness_SecurityEventsComplete_3 :
    let s : State := { W.on with sec := { pipe := [{ h := { frame := [1, 0], desc := [], mode := 0, origin := 0, hint := 0xFFFFFFFF, startAir := 0, endAir := 0 }, kind := 0, slot := 5, tenant := 0, gen := 1, counter := some 3 }] } }; let frame : Nat := 0; let x : SecFrame := { h := { frame := [1, 0], desc := [], mode := 0, origin := 0, hint := 0xFFFFFFFF, startAir := 0, endAir := 0 }, kind := 0, slot := 5, tenant := 0, gen := 1, counter := some 3 }; (s.sec.pipe[frame]? = some x) := by decide +kernel

/-- What clause 1 of VaultEventsComplete assumes can be met. -/
theorem witness_VaultEventsComplete_0 :
    let s : State := { W.on with vault := { shadow := [((1, 4), ⟨1, 2, 3, [], false, 0⟩)] } }; let domain : Nat := 1; let slot : Nat := 4; let x : VaultCopy := ⟨1, 2, 3, [], false, 0⟩; (Map.get? s.vault.shadow (domain, slot) = some x) := by decide +kernel

/-- What clause 3 of VaultEventsComplete assumes can be met. -/
theorem witness_VaultEventsComplete_2 :
    let s : State := W.on; (Claims.Room s) := by decide +kernel

/-- What clause 5 of VaultEventsComplete assumes can be met. -/
theorem witness_VaultEventsComplete_4 :
    let s : State := { W.on with pow := { stage := 6 }, vault := { st := .opened } }; let loop : Nat := 1; (loop ≤ 1) ∧ (s.vault.tamperLatched = false) ∧ (s.vault.st = .opened) ∧ (s.pow.stage < 0x0A) := by decide +kernel

/-- What clause 1 of LedgerEventsComplete assumes can be met. -/
theorem witness_LedgerEventsComplete_0 :
    let s : State := { W.on with led := { ready := true, meters := [(5, { active := true })], queues := [(0, [(5, .balance (-7))])] } }; let engine : Nat := 0; let tenant : Nat := 0; let ticket : Nat := 9; let slot : Nat := 5; let milli : Int := -7; (s.led.ready = true) ∧ (s.cellWorks (engineUnit engine) = true) ∧ (engine < 32) ∧ (s.revokedTicket ticket = false) ∧ (s.saveHalts = false) ∧ (s.regionOn 8 = true) ∧ (s.pair.st ≠ .handingOver) ∧ (s.led.poisoned = []) ∧ (Map.getD s.led.queues tenant [] = [(slot, .balance milli)]) ∧ ((s.meter slot).active = true) := by decide +kernel

/-- What clause 2 of LedgerEventsComplete assumes can be met. -/
theorem witness_LedgerEventsComplete_1 :
    let s : State := { W.on with led := { ready := true, meters := [(5, { active := true })], queues := [(0, [(5, .frame W.held.f)])] } }; let engine : Nat := 0; let tenant : Nat := 0; let ticket : Nat := 9; let slot : Nat := 5; let f : SecFrame := W.held.f; let rest : List (Nat × LedgerJob) := []; (s.led.ready = true) ∧ (s.cellWorks (engineUnit engine) = true) ∧ (engine < 32) ∧ (s.revokedTicket ticket = false) ∧ (s.saveHalts = false) ∧ (s.regionOn 8 = true) ∧ (s.pair.st ≠ .handingOver) ∧ (takeWork s.led.poisoned (Map.getD s.led.queues tenant []) = some ((slot, .frame f), rest)) := by decide +kernel

/-- What clause 3 of LedgerEventsComplete assumes can be met. -/
theorem witness_LedgerEventsComplete_2 :
    let s : State := { W.on with arch := { revoked := [9] } }; let engine : Nat := 0; let ticket : Nat := 9; (s.cellWorks (engineUnit engine) = false ∨ s.revokedTicket ticket = true) := by decide +kernel

/-- What clause 4 of LedgerEventsComplete assumes can be met. -/
theorem witness_LedgerEventsComplete_3 :
    let s : State := { W.on with led := { ready := true, meters := [(5, { active := true })], poisoned := [5] } }; let slot : Nat := 5; let readable : Nat := 1; ((s.meter slot).active = true) ∧ (readable ≠ 0) ∧ (Claims.Room s) := by decide +kernel

/-- What clause 5 of LedgerEventsComplete assumes can be met. -/
theorem witness_LedgerEventsComplete_4 :
    let s : State := { W.on with pair := { W.on.pair with streaming := true }, store := { nextPos := 9 } }; let position : Nat := 4; (s.pair.st = .activeSolo) ∧ (s.pair.streaming = true) ∧ (position ≤ s.newestPos) := by decide +kernel

/-- What clause 6 of LedgerEventsComplete assumes can be met. -/
theorem witness_LedgerEventsComplete_5 :
    let s : State := W.on; let position : Nat := 4; (s.pair.streaming = false ∨ s.newestPos < position) := by decide +kernel

/-- What clause 7 of LedgerEventsComplete assumes can be met. -/
theorem witness_LedgerEventsComplete_6 :
    let s : State := { W.on with tar := { plans := [(2, [⟨5, 0, 0, false⟩])] } }; let plan : Nat := 2; let v : PlanVersion := ⟨5, 0, 0, false⟩; (s.planVersions plan = [v]) ∧ (v.effective ≤ s.stamp) ∧ (v.reported = false) ∧ (Claims.Room s) := by decide +kernel

/-- What clause 8 of LedgerEventsComplete assumes can be met. -/
theorem witness_LedgerEventsComplete_7 :
    let s : State := { W.on with tar := { waiting := [(1, ⟨5, 2, 0, 0, 900, 0, [], 0⟩)] }, store := { nextPos := 2 } }; let n : Nat := 1; let x : ArchRec := ⟨5, 2, 0, 0, 900, 0, [], 0⟩; let rest : List (Nat × ArchRec) := []; (s.tar.waiting = (n, x) :: rest) ∧ (s.regionOn 9 = true) ∧ (s.posCommitted n = true) ∧ (s.tar.archive.any (fun b => b.slot == x.slot && b.endS == x.endS && b.streams.map Prod.fst == x.streams.map Prod.fst) = false) := by decide +kernel

/-- What clause 9 of LedgerEventsComplete assumes can be met. -/
theorem witness_LedgerEventsComplete_8 :
    let s : State := { W.on with arch := { regions := [(9, { st := .restarting })] } }; (s.regionOn 9 = false) := by decide +kernel

/-- What clause 1 of MetrologyEventsComplete assumes can be met. -/
theorem witness_MetrologyEventsComplete_0 :
    let s : State := W.line.setMetro 0 ((W.line.metro 0).setPhase 0 { (W.line.metro 0).phase 0 with found := [W.line.time.air + 36000000] }); let trib : Nat := 0; let phase : Nat := 0; let air : Nat := s.time.air + 36000000; let a : Nat := s.time.air - 4000000; let later : List Nat := []; (s.lineHere = true) ∧ (trib < s.tributaries) ∧ (phase = s.zcRef trib) ∧ (phase < 3) ∧ (s.tribUp trib = true) ∧ (s.metroChain trib = true) ∧ ((s.metro trib).zone = .valid) ∧ (((s.metro trib).phase phase).found = air :: later) ∧ (((s.metro trib).phase phase).last = some a) ∧ (0 < ((s.metro trib).phase phase).run) ∧ (a + 15385 * 2000 ≤ air) ∧ (air ≤ a + 22222 * 2000) := by decide +kernel

/-- What clause 2 of MetrologyEventsComplete assumes can be met. -/
theorem witness_MetrologyEventsComplete_1 :
    let s : State := W.line; let trib : Nat := 0; let phase : Nat := 0; (s.tribUp trib = true) ∧ (s.metroChain trib = true) ∧ ((s.metro trib).zone ≠ .down) ∧ (((s.metro trib).phase phase).found = []) := by decide +kernel

/-- What clause 3 of MetrologyEventsComplete assumes can be met. -/
theorem witness_MetrologyEventsComplete_2 :
    let s : State := W.line.setMetro 0 { W.line.metro 0 with zone := .noCrossing, seen := 1600 }; let trib : Nat := 0; let sync : Bool := false; (s.lineHere = true) ∧ (trib < s.tributaries) ∧ (s.tribUp trib = true) ∧ (s.metroChain trib = true) ∧ ((s.metro trib).zone ≠ .down) ∧ ((s.nextWindow trib).map (fun y => (y.2.1, y.2.2.1)) = some (sync, true)) := by decide +kernel

/-- What clause 4 of MetrologyEventsComplete assumes can be met. -/
theorem witness_MetrologyEventsComplete_3 :
    let s : State := W.line.setMetro 0 { W.line.metro 0 with zone := .noCrossing, seen := 1600, buf := List.replicate 1600 { tag := 0, codes := [], missing := false } }; let trib : Nat := 0; let sync : Bool := false; (s.lineHere = true) ∧ (trib < s.tributaries) ∧ (s.tribUp trib = true) ∧ (s.metroChain trib = true) ∧ ((s.metro trib).zone ≠ .down) ∧ ((s.nextWindow trib).map (fun y => (y.2.1, y.2.2.1)) = some (sync, false)) := by decide +kernel

/-- What clause 5 of MetrologyEventsComplete assumes can be met. -/
theorem witness_MetrologyEventsComplete_4 :
    let s : State := W.line.setMetro 0 { W.line.metro 0 with zone := .noCrossing }; let trib : Nat := 0; (s.lineHere = true) ∧ (trib < s.tributaries) ∧ (s.tribUp trib = true) ∧ (s.metroChain trib = true) ∧ ((s.metro trib).zone ≠ .down) ∧ ((s.nextWindow trib).isNone = true) := by decide +kernel

/-- What clause 6 of MetrologyEventsComplete assumes can be met. -/
theorem witness_MetrologyEventsComplete_5 :
    let s : State := { W.line with time := { W.line.time with legalNs := W.line.time.legalNs + 100000000 } }; let trib : Nat := 0; let idx : Nat := 8500000000; (s.lineHere = true) ∧ (trib < s.tributaries) ∧ (s.tribUp trib = true) ∧ (s.metroChain trib = true) ∧ ((s.metro trib).zone ≠ .down) ∧ (s.rdB Rec.MetroTrib.Active trib = true) ∧ (s.nextStep trib = some idx) ∧ (s.stepReady trib idx = true) := by decide +kernel

/-- What clause 7 of MetrologyEventsComplete assumes can be met. -/
theorem witness_MetrologyEventsComplete_6 :
    let s : State := W.put W.line Rec.MetroTrib.Active 0 0; let trib : Nat := 0; (s.tribUp trib = true) ∧ (s.metroChain trib = true) ∧ ((s.metro trib).zone ≠ .down) ∧ (s.nextStep trib = none ∨ s.rdB Rec.MetroTrib.Active trib = false) := by decide +kernel

/-- What clause 8 of MetrologyEventsComplete assumes can be met. -/
theorem witness_MetrologyEventsComplete_7 :
    let s : State := W.line; let trib : Nat := 0; (s.lineHere = true) ∧ (trib < s.tributaries) ∧ (s.rdB Rec.MetroTrib.Active trib = true) ∧ (0 < s.nextEnd trib) ∧ (s.nextEnd trib ≤ s.legalS) := by decide +kernel

/-- What clause 9 of MetrologyEventsComplete assumes can be met. -/
theorem witness_MetrologyEventsComplete_8 :
    let s : State := { W.line.setMetro 0 { W.line.metro 0 with steps := 5 } with pair := {} }; let trib : Nat := 0; (5 ≤ (s.metro trib).steps) ∧ (s.journals = false) ∧ ((List.range 8).all (fun o => !s.rdB Rec.PulseOutput.Enabled o) = true) := by decide +kernel

/-- What clause 10 of MetrologyEventsComplete assumes can be met. -/
theorem witness_MetrologyEventsComplete_9 :
    let s : State := { W.on.setPulse 2 { batch := 4, position := 3 } with store := { nextPos := 4 } }; let output : Nat := 2; (s.serving = true) ∧ (0 < (s.pulse output).batch) ∧ (s.posCommitted (s.pulse output).position = true) := by decide +kernel

/-- What clause 1 of BalanceEventsComplete assumes can be met. -/
theorem witness_BalanceEventsComplete_0 :
    let s : State := { (W.put W.on Rec.Zone.Active 3 1) with pair := {}, bal := { zones := [(3, { next := some 1699999200 })] } }; let zone : Nat := 3; let start : Nat := 1699999200; ((s.balZone zone).next = some start) ∧ (start ≤ s.legalS) ∧ (s.rdB Rec.Zone.Active zone = true) ∧ (s.led.ready = true) ∧ (s.members zone = []) ∧ (s.bal.meters = []) ∧ (s.journals = false) := by decide +kernel

/-- What clause 2 of BalanceEventsComplete assumes can be met. -/
theorem witness_BalanceEventsComplete_1 :
    let s : State := { (W.put (W.put W.on Rec.Zone.Active 3 1) Rec.Zone.HoldS 3 0) with pair := {}, bal := { zones := [(3, { openIv := [{ stop := 1699999200, frozen := true }] })] } }; let zone : Nat := 3; let stop : Nat := 1699999200; let o : BalOpen := { stop := 1699999200, frozen := true }; (s.rdB Rec.Zone.Active zone = true) ∧ (s.led.ready = true) ∧ ((s.balZone zone).openIv = [o]) ∧ (o.stop = stop) ∧ (o.frozen = true) ∧ (stop + s.rd Rec.Zone.HoldS zone ≤ s.legalS) := by decide +kernel

/-- What clause 1 of StoreEventsComplete assumes can be met. -/
theorem witness_StoreEventsComplete_0 :
    let s : State := W.on; let channel : Nat := 3; let die : Nat := 3; let cause : Nat := 0; (s.dieHere channel die = true) ∧ ((s.die channel die).st = .inUse) ∧ (cause ≠ 2) ∧ (Claims.Room s) := by decide +kernel

/-- What clause 2 of StoreEventsComplete assumes can be met. -/
theorem witness_StoreEventsComplete_1 :
    let s : State := W.on; let channel : Nat := 3; let die : Nat := 3; let block : Nat := 9; let part : Nat := 1; let ok : Nat := 1; (s.dieHere channel die = true) ∧ ((s.die channel die).st = .inUse) ∧ ((s.die channel die).badBlocks.contains block = false) ∧ (ok ≠ 0) ∧ (partCodes.contains part = true) ∧ (part ≠ 3) ∧ (s.takesPage part (channel, die, block) = true) := by decide +kernel

/-- What clause 3 of StoreEventsComplete assumes can be met. -/
theorem witness_StoreEventsComplete_2 :
    let s : State := { W.on with store := { W.on.store with blocks := [((3, 3, 9), { part := 1, used := 4, valid := 0 })] } }; let channel : Nat := 3; let die : Nat := 3; let block : Nat := 9; let ok : Nat := 1; (s.dieHere channel die = true) ∧ ((s.die channel die).st = .inUse) ∧ ((s.die channel die).badBlocks.contains block = false) ∧ (ok ≠ 0) ∧ ((Map.get? s.store.blocks (channel, die, block)).any (fun b => decide (0 < b.valid)) = false) := by decide +kernel

/-- What clause 4 of StoreEventsComplete assumes can be met. -/
theorem witness_StoreEventsComplete_3 :
    let s : State := W.on; let channel : Nat := 3; let die : Nat := 3; let block : Nat := 9; (s.dieHere channel die = true) ∧ ((s.die channel die).st = .inUse) ∧ ((s.die channel die).badBlocks.contains block = false) ∧ ((s.die channel die).consecFails < 2) := by decide +kernel

/-- What clause 5 of StoreEventsComplete assumes can be met. -/
theorem witness_StoreEventsComplete_4 :
    let s : State := W.on; let channel : Nat := 99; let die : Nat := 3; let block : Nat := 9; (s.dieHere channel die = false ∨ (s.die channel die).st = .failed ∨ (s.die channel die).badBlocks.contains block = true) := by decide +kernel

/-- What clause 6 of StoreEventsComplete assumes can be met. -/
theorem witness_StoreEventsComplete_5 :
    let s : State := W.on; let channel : Nat := 3; let die : Nat := 3; let outcome : Nat := 2; (s.dieHere channel die = true) ∧ ((s.die channel die).st = .inUse) ∧ (outcome < 3) := by decide +kernel

/-- What clause 7 of StoreEventsComplete assumes can be met. -/
theorem witness_StoreEventsComplete_6 :
    let s : State := W.on; let channel : Nat := 3; let die : Nat := 3; let outcome : Nat := 3; let content : Nat := 1; let mirrored : Nat := 1; (s.dieHere channel die = true) ∧ ((s.die channel die).st = .inUse) ∧ (3 ≤ outcome) ∧ (mirrored ≠ 0) ∧ (content ≤ 1) ∧ ((s.die channel die).consecFails < 2) ∧ (Claims.Room s) := by decide +kernel

/-- What clause 8 of StoreEventsComplete assumes can be met. -/
theorem witness_StoreEventsComplete_7 :
    let s : State := { W.on with store := { nextPos := 4, journal := [{ position := 3, kind := .store, tenant := 0, object := 0, stamp := 5, body := .words [] }] } }; let position : Nat := 3; let x : JEntry := { position := 3, kind := .store, tenant := 0, object := 0, stamp := 5, body := .words [] }; (s.restarting 9 = false) ∧ (s.store.journal.find? (fun y => y.position == position) = some x) := by decide +kernel

/-- What clause 9 of StoreEventsComplete assumes can be met. -/
theorem witness_StoreEventsComplete_8 :
    let s : State := { W.on with arch := { regions := [(9, { st := .restarting })] } }; (s.restarting 9 = true) := by decide +kernel

/-- What clause 10 of StoreEventsComplete assumes can be met. -/
theorem witness_StoreEventsComplete_9 :
    let s : State := W.on; (s.store.running = none) ∧ (s.store.ckptMs + 1000 * s.rd Rec.StorePolicy.CheckpointIntervalS 0 ≤ s.time.ms) ∧ (s.restarting 9 = false) := by decide +kernel

/-- What clause 11 of StoreEventsComplete assumes can be met. -/
theorem witness_StoreEventsComplete_10 :
    let s : State := { W.on with store := { nextPos := 4, running := some { gen := 1, startPos := 0, endPos := 0, started := 5, epoch := 1 } } }; let g : Generation := { gen := 1, startPos := 0, endPos := 0, started := 5, epoch := 1 }; (s.store.running = some g) ∧ (s.restarting 9 = false) := by decide +kernel

/-- What clause 12 of StoreEventsComplete assumes can be met. -/
theorem witness_StoreEventsComplete_11 :
    let s : State := W.on; (s.store.running = none) := by decide +kernel

/-- What clause 13 of StoreEventsComplete assumes can be met. -/
theorem witness_StoreEventsComplete_12 :
    let s : State := { W.on with store := { W.on.store with pagesPerBlock := 4, blocks := [((3, 3, 9), { part := 1, used := 4, valid := 0 })] } }; let part : Nat := 1; let freed : List Nat := []; let into : List Nat := []; let s1 : State := { W.on with store := { W.on.store with pagesPerBlock := 4, blocks := [((3, 3, 9), { part := 1, used := 4, valid := 0 })] } }; let u : State := { W.on with store := { W.on.store with pagesPerBlock := 4, blocks := [((3, 3, 9), { part := 1, used := 4, valid := 0 })] } }; let v : Nat × Nat × Nat := (3, 3, 9); (partCodes.contains part = true) ∧ (part < 16) ∧ (s1 = freed.foldl (fun s n => s.freePage (part, n / 2 ^ 48, n % 2 ^ 48)) s) ∧ (s1.victim part = some v) ∧ (s1.copyPages (into.map keyBlock) (s1.pagesIn v) = some u) := by decide +kernel

/-- What clause 14 of StoreEventsComplete assumes can be met. -/
theorem witness_StoreEventsComplete_13 :
    let s : State := W.on; let part : Nat := 1; let freed : List Nat := []; (partCodes.contains part = true) ∧ (freed = []) ∧ (s.victim part = none) := by decide +kernel

/-- What clause 15 of StoreEventsComplete assumes can be met. -/
theorem witness_StoreEventsComplete_14 :
    let s : State := { W.on with store := { endurance := 1, blocksPerDie := 1, dies := [((0, 0), { erases := [(0, 3000)] }), ((0, 1), { erases := [(0, 3000)] }), ((1, 0), { erases := [(0, 3000)] })] } }; let channel : Nat := 3; let die : Nat := 3; (s.dieHere channel die = true) ∧ ((s.die channel die).st = .inUse) ∧ ((s.die channel die).erases = []) ∧ ((s.die channel die).badBlocks = []) ∧ (s.store.wearRaised < s.wearStep) ∧ (Claims.Room s) := by decide +kernel

/-- What clause 16 of StoreEventsComplete assumes can be met. -/
theorem witness_StoreEventsComplete_15 :
    let s : State := W.on; let channel : Nat := 3; let address : Nat := 0; let subject : Nat := 0; let first : List Byte := []; let second : List Byte := []; (channel < 4) ∧ ((s.lineAt channel address subject).area < 14) ∧ (s.store.poisoned.any (fun l => l.address == address) = false) ∧ (s.lineVerifies (s.lineAt channel address subject).tenant address first = false) ∧ (s.lineVerifies (s.lineAt channel address subject).tenant address second = false) ∧ (Claims.Room s) := by decide +kernel

/-- What clause 17 of StoreEventsComplete assumes can be met. -/
theorem witness_StoreEventsComplete_16 :
    let s : State := W.on; let channel : Nat := 3; let address : Nat := 0; let subject : Nat := 0; (channel < 4) ∧ ((s.lineAt channel address subject).area < 14) := by decide +kernel

/-- What clause 19 of StoreEventsComplete assumes can be met. -/
theorem witness_StoreEventsComplete_18 :
    let s : State := W.on; let channel : Nat := 3; let address : Nat := 0; let subject : Nat := 0; let first : List Byte := [1]; let second : List Byte := []; (first ≠ []) ∧ (channel < 4) ∧ ((s.lineAt channel address subject).area < 14) ∧ (s.lineVerifies (s.lineAt channel address subject).tenant address first = false) ∧ (s.lineVerifies (s.lineAt channel address subject).tenant address second = false) ∧ (Claims.Room s) := by decide +kernel

/-- What clause 1 of TimeEventsComplete assumes can be met. -/
theorem witness_TimeEventsComplete_0 :
    let s : State := W.on; (s.mail.mailboxReady = true) ∧ (s.pow.stage ≠ 0x0C) := by decide +kernel

/-- What clause 2 of TimeEventsComplete assumes can be met. -/
theorem witness_TimeEventsComplete_1 :
    let s : State := W.on; (s.mail.mailboxReady = true) ∧ (s.pow.stage ≠ 0x0C) ∧ (s.air.onAir = []) := by decide +kernel

/-- What clause 3 of TimeEventsComplete assumes can be met. -/
theorem witness_TimeEventsComplete_2 :
    let s : State := { W.on with time := { W.on.time with st := .holdover } }; (s.time.st = .holdover) ∧ (s.time.holdoverMs + 1000 * s.rd Rec.TimePolicy.HoldoverS ≤ s.time.ms) ∧ (Claims.Room s) := by decide +kernel

/-- What clause 4 of TimeEventsComplete assumes can be met. -/
theorem witness_TimeEventsComplete_3 :
    let s : State := W.put W.on Rec.TimeRef.Kind 7 2; let ref : Nat := 7; (ref < 8) ∧ (s.rd Rec.TimeRef.Kind ref = 2) ∧ (s.time.selected ≠ some ref) := by decide +kernel

/-- What clause 5 of TimeEventsComplete assumes can be met. -/
theorem witness_TimeEventsComplete_4 :
    let s : State := W.put W.on Rec.TimeRef.Kind 7 3; let ref : Nat := 7; let leap : Int := 1; (ref < 8) ∧ (s.rd Rec.TimeRef.Kind ref = 3) ∧ (s.time.smearing = none) ∧ (leap ≠ 0) := by decide +kernel

/-- What clause 6 of TimeEventsComplete assumes can be met. -/
theorem witness_TimeEventsComplete_5 :
    let s : State := W.on; let ref : Nat := 8; (8 ≤ ref ∨ s.rd Rec.TimeRef.Kind ref < 2) := by decide +kernel

/-- What clause 7 of TimeEventsComplete assumes can be met. -/
theorem witness_TimeEventsComplete_6 :
    let s : State := W.put W.on Rec.TimeRef.Kind 0 1; ((List.range 8).filter (fun i => s.rd Rec.TimeRef.Kind i == 1) = [0]) ∧ (s.time.theta.natAbs ≤ 400000000) := by decide +kernel

/-- What clause 8 of TimeEventsComplete assumes can be met. -/
theorem witness_TimeEventsComplete_7 :
    let s : State := W.put { W.on with time := { W.on.time with theta := 500000000 } } Rec.TimeRef.Kind 0 1; ((List.range 8).filter (fun i => s.rd Rec.TimeRef.Kind i == 1) = [0]) ∧ (400000000 < s.time.theta.natAbs) := by decide +kernel

/-- What clause 9 of TimeEventsComplete assumes can be met. -/
theorem witness_TimeEventsComplete_8 :
    let s : State := W.on; (s.time.second ≠ some s.legalS) ∧ (s.time.pendingStep = none) ∧ (s.time.selected = none) ∧ (s.time.refs = []) ∧ (s.time.st = .free) ∧ (s.time.incWritten = none) := by decide +kernel

/-- What clause 10 of TimeEventsComplete assumes can be met. -/
theorem witness_TimeEventsComplete_9 :
    let s : State := { W.on with time := { W.on.time with leap := some (19675, 1) } }; let g : Int := 1; let d : Nat := 19675; (s.time.smearing = none) ∧ (s.time.leap = some (d, g)) ∧ (s.legalS / 86400 = d) ∧ (Claims.Room s) := by decide +kernel

/-- What clause 11 of TimeEventsComplete assumes can be met. -/
theorem witness_TimeEventsComplete_10 :
    let s : State := { W.on with time := { W.on.time with smearing := some 1, smearDay := 19674 } }; let g : Int := 1; (s.time.smearing = some g) ∧ (s.time.smearDay < s.legalS / 86400) ∧ (Claims.Room s) := by decide +kernel

/-- What clause 12 of TimeEventsComplete assumes can be met. -/
theorem witness_TimeEventsComplete_11 :
    let s : State := { W.on with time := { W.on.time with st := .partner }, pair := { st := .ready, partner := some W.beat }, ports := { partner0 := { link := true } } }; let t1 : Nat := 10; let t2 : Nat := 15; let t3 : Nat := 16; let t4 : Nat := 25; (s.exchangeLive = true) ∧ (s.time.st = .partner) ∧ (s.time.airSeeded = false) ∧ ((fourStamp t1 t2 t3 t4).1.natAbs ≤ 1000) := by decide +kernel

/-- What clause 13 of TimeEventsComplete assumes can be met. -/
theorem witness_TimeEventsComplete_12 :
    let s : State := { W.on with time := { W.on.time with st := .partner, airSeeded := true }, pair := { st := .ready, partner := some W.beat }, ports := { partner0 := { link := true } } }; let t1 : Nat := 10; let t2 : Nat := 15; let t3 : Nat := 16; let t4 : Nat := 25; (s.exchangeLive = true) ∧ (s.time.st = .partner) ∧ (s.time.airSeeded = true) ∧ ((fourStamp t1 t2 t3 t4).1.natAbs ≤ 1000) := by decide +kernel

/-- What clause 14 of TimeEventsComplete assumes can be met. -/
theorem witness_TimeEventsComplete_13 :
    let s : State := W.on; (s.exchangeLive = false) := by decide +kernel

/-- What clause 1 of RecorderEventsComplete assumes can be met. -/
theorem witness_RecorderEventsComplete_0 :
    let s : State := { W.on with ev := { queue := [⟨.barrowHoldExpired, 0, 5, [3], false⟩] } }; let x : Raised := ⟨.barrowHoldExpired, 0, 5, [3], false⟩; let rest : List Raised := []; (s.ev.queue = x :: rest) ∧ (s.ev.trail = []) ∧ (s.ports.eventFrames = []) := by decide +kernel

/-- What clause 2 of RecorderEventsComplete assumes can be met. -/
theorem witness_RecorderEventsComplete_1 :
    let s : State := { W.on with ev := { slots := [{ id := 4, trigger := 1, prot := false, trigSeq := 5, trigStamp := 6 }] } }; let id : Nat := 4; let x : Snapshot := { id := 4, trigger := 1, prot := false, trigSeq := 5, trigStamp := 6 }; (s.ev.slots = [x]) ∧ (x.id = id) ∧ (x.collecting = true) ∧ (x.postEndMs ≤ s.time.ms) ∧ (Claims.Room s) := by decide +kernel

/-- What clause 3 of RecorderEventsComplete assumes can be met. -/
theorem witness_RecorderEventsComplete_2 :
    let s : State := { W.on with ev := { slots := [{ id := 4, trigger := 1, prot := false, trigSeq := 5, trigStamp := 6, collecting := false }] } }; let id : Nat := 4; let x : Snapshot := { id := 4, trigger := 1, prot := false, trigSeq := 5, trigStamp := 6, collecting := false }; (s.ev.slots = [x]) ∧ (x.id = id) ∧ (x.collecting = false) ∧ (s.ev.hold = none) ∧ (s.ev.area.length < 2048) := by decide +kernel

/-- What clause 4 of RecorderEventsComplete assumes can be met. -/
theorem witness_RecorderEventsComplete_3 :
    let s : State := { W.on with ev := { hold := some ⟨7, 2, 5⟩ } }; let x : Hold := ⟨7, 2, 5⟩; (s.ev.hold = some x) ∧ (x.endMs ≤ s.time.ms) ∧ (Claims.Room s) := by decide +kernel

/-- What clause 1 of TenantEventsComplete assumes can be met. -/
theorem witness_TenantEventsComplete_0 :
    let s : State := { W.on with ten := { st := [(3, { st := .releasing })] } }; let tenant : Nat := 3; (s.isReleasing tenant = true) ∧ (Map.getD s.led.queues tenant [] = []) := by decide +kernel

/-- What clause 2 of TenantEventsComplete assumes can be met. -/
theorem witness_TenantEventsComplete_1 :
    let s : State := { W.on with ten := { st := [(3, { st := .sealed, region := some (4, 8) })] } }; let owner : Nat := 3; let requester : Nat := 0; let address : Nat := s.recordBase + 5 * 2 * 2 ^ 20; (s.ownerOf address = some owner) ∧ (owner ≠ requester) ∧ (Claims.Room s) := by decide +kernel

/-- What clause 3 of TenantEventsComplete assumes can be met. -/
theorem witness_TenantEventsComplete_2 :
    let s : State := W.on; let requester : Nat := 0; let address : Nat := 0; (s.ownerOf address = none ∨ s.ownerOf address = some requester) := by decide +kernel

/-- What clause 4 of TenantEventsComplete assumes can be met. -/
theorem witness_TenantEventsComplete_3 :
    let s : State := { W.on with ten := { st := [(3, { st := .sealed })], arb := [(Resource.crypto.code, { waiting := [(3, 1)] })] } }; let tenant : Nat := 3; let resource : Nat := 1; let x : Resource := .crypto; (Resource.all[resource]? = some x) ∧ (s.isSealed tenant = true) ∧ (s.rd Rec.Tenant.ShareWaitMs tenant < s.waited x tenant) ∧ (Map.get? s.marks (.tenantShareWait, tenant) = none) ∧ (Claims.Room s) := by decide +kernel

/-- What clause 5 of TenantEventsComplete assumes can be met. -/
theorem witness_TenantEventsComplete_4 :
    let s : State := W.on; let tenant : Nat := 3; let resource : Nat := 1; (s.isSealed tenant = false ∨ 5 ≤ resource) := by decide +kernel

/-- What clause 1 of PairEventsComplete assumes can be met. -/
theorem witness_PairEventsComplete_0 :
    let s : State := { W.on with pair := { W.on.pair with st := .activePaired, partner := some { W.beat with atMs := 5 } } }; let h : Heartbeat := { W.beat with atMs := 5 }; (s.pair.partner = some h) ∧ (s.heartbeatLive = false) ∧ (s.pair.st = .activePaired) ∧ (s.pair.handoverStep = 0) ∧ (Claims.Room s) := by decide +kernel

/-- What clause 2 of PairEventsComplete assumes can be met. -/
theorem witness_PairEventsComplete_1 :
    let s : State := { (W.put W.on Rec.Pair.WitnessMin 0 0) with pair := { st := .ready, partner := some { W.beat with atMs := 5 } } }; let h : Heartbeat := { W.beat with atMs := 5 }; (s.pair.partner = some h) ∧ (s.heartbeatLive = false) ∧ (s.pair.st = .ready) ∧ (s.pair.claimDue = none) ∧ (s.witnessed = true) ∧ (s.pair.conflict = false) := by decide +kernel

/-- What clause 3 of PairEventsComplete assumes can be met. -/
theorem witness_PairEventsComplete_2 :
    let s : State := { (W.put W.on Rec.Pair.WitnessMin 0 0) with pair := { W.on.pair with st := .activeHold, partner := some { W.beat with atMs := 5 } } }; let h : Heartbeat := { W.beat with atMs := 5 }; (s.pair.st = .activeHold) ∧ (s.pair.partner = some h) ∧ (h.atMs + s.rd Rec.Pair.PartnerLossMs + s.rd Rec.Pair.SoloGuardMs ≤ s.time.ms) ∧ (s.ownWitnessed = true) ∧ (s.store.journal = []) ∧ (s.met.waiting = []) := by decide +kernel

/-- What clause 4 of PairEventsComplete assumes can be met. -/
theorem witness_PairEventsComplete_3 :
    let s : State := { (W.put W.on Rec.Pair.WitnessMin 0 0) with pair := { waitEndMs := some 5 }, pow := { W.on.pow with stage := 8 } }; let n : Nat := 5; (s.pair.waitEndMs = some n) ∧ (s.pair.st = .booting) ∧ (s.pow.stage = 8) ∧ (n ≤ s.time.ms) ∧ (s.pair.claimDue = none) ∧ (s.witnessed = true) ∧ (s.pair.conflict = false) := by decide +kernel

/-- What clause 5 of PairEventsComplete assumes can be met. -/
theorem witness_PairEventsComplete_4 :
    let s : State := { W.on with pair := { W.on.pair with st := .activePaired, partner := some W.readyBeat } }; (s.serving = true) ∧ (s.readyPartner = true) ∧ (s.pow.resetAfterSave = none) := by decide +kernel

/-- What clause 6 of PairEventsComplete assumes can be met. -/
theorem witness_PairEventsComplete_5 :
    let s : State := { W.on with pair := { st := .booting, epoch := 4, claimDue := some 2 }, pow := { W.on.pow with stage := 8 } }; let cause : Nat := 2; let n : Nat := 5; (s.pair.claimDue = some cause) ∧ (s.nextEpoch = some n) := by decide +kernel

/-- What clause 7 of PairEventsComplete assumes can be met. -/
theorem witness_PairEventsComplete_6 :
    let s : State := { W.on with pair := { st := .takingOver, serving := true, epoch := 2 } }; (s.pair.st = .takingOver) ∧ (s.pair.claimCause = 0) ∧ (s.readyPartner = false) := by decide +kernel

/-- What clause 8 of PairEventsComplete assumes can be met. -/
theorem witness_PairEventsComplete_7 :
    let s : State := W.syncing; (s.pair.st = .syncing) ∧ (s.failingCodes = []) ∧ (Claims.Room s) := by decide +kernel

/-- What clause 9 of PairEventsComplete assumes can be met. -/
theorem witness_PairEventsComplete_8 :
    let s : State := W.caughtUp; let h : Heartbeat := (s.pair.partner).getD W.beat; (s.pair.st = .activeSolo) ∧ (s.pair.partner = some h) ∧ (s.pair.streaming = true) ∧ (s.heartbeatLive = true) ∧ (s.lastPos ≤ s.pair.ackedPos) ∧ ((s.store.generations.any fun g => g.epoch == s.pair.epoch && s.pair.partnerGenerations.contains g.gen) = true) ∧ (s.matchCodes h = []) ∧ (h.state = .syncing) := by decide +kernel

/-- What clause 10 of PairEventsComplete assumes can be met. -/
theorem witness_PairEventsComplete_9 :
    let s : State := { W.takeBack with pair := { W.takeBack.pair with readySinceMs := some 0 } }; let n : Nat := 0; (s.pair.st = .activePaired) ∧ (s.pair.readySinceMs = some n) ∧ (s.rdB Rec.Pair.TakeBack = true) ∧ (s.partnerPreferred = true) ∧ (s.readyPartner = true) ∧ (n + 1000 * s.rd Rec.Pair.TakeBackHoldS ≤ s.time.ms) ∧ (s.pair.noTakeBackUntil ≤ s.time.ms) ∧ (s.pair.handoverStep = 0) := by decide +kernel

/-- What clause 11 of PairEventsComplete assumes can be met. -/
theorem witness_PairEventsComplete_10 :
    let s : State := { W.on with pair := { W.on.pair with handoverStep := 1, handoverGen := 6, partnerGenerations := [6] } }; (s.pair.handoverStep = 1) ∧ (s.pair.handoverGen ∈ s.pair.partnerGenerations) := by decide +kernel

/-- What clause 12 of PairEventsComplete assumes can be met. -/
theorem witness_PairEventsComplete_11 :
    let s : State := { W.on with pair := { W.on.pair with st := .activePaired, handoverStep := 2 } }; (s.pair.handoverStep = 2) ∧ (s.pair.st = .activePaired) ∧ (s.lagFits = true) := by decide +kernel

/-- What clause 13 of PairEventsComplete assumes can be met. -/
theorem witness_PairEventsComplete_12 :
    let s : State := { W.on with pair := { W.on.pair with st := .activePaired, handoverStep := 2 }, store := { nextPos := 10, journal := [{ position := 9, kind := .store, tenant := 0, object := 0, stamp := 5, body := .words [1] }] } }; (s.pair.handoverStep = 2) ∧ (s.lagFits = false) := by decide +kernel

/-- What clause 14 of PairEventsComplete assumes can be met. -/
theorem witness_PairEventsComplete_13 :
    let s : State := { W.on with pair := { W.on.pair with st := .handingOver, handoverStep := 3 } }; (s.pair.handoverStep = 3) := by decide +kernel

/-- What clause 15 of PairEventsComplete assumes can be met. -/
theorem witness_PairEventsComplete_14 :
    let s : State := { W.on with pair := { W.on.pair with st := .handingOver, handoverStep := 3 } }; (s.pair.st = .handingOver) ∧ (s.pair.handoverStep = 3) ∧ (s.pair.handoverMs + 2000 ≤ s.time.ms) := by decide +kernel

/-- What clause 16 of PairEventsComplete assumes can be met. -/
theorem witness_PairEventsComplete_15 :
    let s : State := { W.on with ports := { partner0 := { link := true } } }; (s.ports.partner0.link = true) ∧ (s.ports.partner1.link = false) := by decide +kernel

/-- What clause 17 of PairEventsComplete assumes can be met. -/
theorem witness_PairEventsComplete_16 :
    let s : State := { W.on with ports := { partner0 := { link := true, tagFails := 1, tagMinute := W.on.minute } } }; let port : Nat := 0; let frame : List Byte := W.partnerHead.bytes ++ [5]; (port ≤ 1) ∧ ((s.partnerPort port).link = true) ∧ (1 ≤ (PartnerHead.ofBytes frame).type) ∧ ((PartnerHead.ofBytes frame).type ≤ 13) ∧ (s.acceptsMessage port frame = false) ∧ ((s.partnerPort port).tagMinute = s.minute) ∧ (1 ≤ (s.partnerPort port).tagFails) := by decide +kernel

/-- What clause 18 of PairEventsComplete assumes can be met. -/
theorem witness_PairEventsComplete_17 :
    let s : State := { W.on with ports := { partner0 := { link := true } } }; let port : Nat := 0; let frame : List Byte := W.partnerHead.bytes ++ [5] ++ List.replicate 16 0; (port ≤ 1) ∧ ((s.partnerPort port).link = true) ∧ (1 ≤ (PartnerHead.ofBytes frame).type) ∧ ((PartnerHead.ofBytes frame).type ≤ 13) ∧ (s.acceptsMessage port frame = true) ∧ ((PartnerHead.ofBytes frame).frag = 0) ∧ ((PartnerHead.ofBytes frame).more = true) := by decide +kernel

/-- What clause 19 of PairEventsComplete assumes can be met. -/
theorem witness_PairEventsComplete_18 :
    let s : State := { W.on with ports := { partner0 := { link := true } } }; let port : Nat := 0; let frame : List Byte := W.partnerHead.bytes ++ [5] ++ List.replicate 16 0; (port ≤ 1) ∧ ((s.partnerPort port).link = true) ∧ (1 ≤ (PartnerHead.ofBytes frame).type) ∧ ((PartnerHead.ofBytes frame).type ≤ 13) ∧ (s.acceptsMessage port frame = true) := by decide +kernel

/-- What clause 20 of PairEventsComplete assumes can be met. -/
theorem witness_PairEventsComplete_19 :
    let s : State := W.on; let port : Nat := 0; (2 ≤ port ∨ (s.partnerPort port).link = false) := by decide +kernel

/-- What clause 1 of UpdateEventsComplete assumes can be met. -/
theorem witness_UpdateEventsComplete_0 :
    let s : State := { (W.put W.on Rec.UpdatePolicy.AutoConfirm 0 1) with upd := { trial := some { mask := 1, sinceMs := some 0 } } }; let m : Nat := 1; let t0 : Nat := 0; (s.upd.trial = some { mask := m, sinceMs := some t0 }) ∧ (s.rdB Rec.UpdatePolicy.AutoConfirm = true) ∧ (t0 + 1000 * s.rd Rec.UpdatePolicy.ConfirmS ≤ s.time.ms) ∧ (Claims.Room s) := by decide +kernel

/-- What clause 2 of UpdateEventsComplete assumes can be met. -/
theorem witness_UpdateEventsComplete_1 :
    let s : State := { W.on with upd := { refusedImages := [(2, List.replicate 32 0, 100000001)] } }; let port : Nat := 2; let container : List Byte := List.replicate 300 0; let x : Nat × List Byte × Nat := (2, List.replicate 32 0, 100000001); (s.upd.refusedImages = [x]) ∧ (x.1 = port) ∧ (x.2.1 = slice (container.take 256) 48 32) ∧ (s.time.ms < x.2.2) := by decide +kernel

/-- What clause 3 of UpdateEventsComplete assumes can be met. -/
theorem witness_UpdateEventsComplete_2 :
    let s : State := { W.on with pair := { W.on.pair with partner := some W.beat }, upd := { agree := [(0, { since := [(3, 0)] })] } }; let domain : Nat := 3; let t0 : Nat := 0; let h : Heartbeat := W.beat; (s.pair.partner = some h) ∧ ((s.agreement 0).since = [(domain, t0)]) ∧ ((s.agreement 0).raised = []) ∧ (t0 + 1000 * s.rd Rec.UpdatePolicy.DigestHoldS ≤ s.time.ms) ∧ (Claims.Room s) := by decide +kernel

/-- What clause 4 of UpdateEventsComplete assumes can be met. -/
theorem witness_UpdateEventsComplete_3 :
    let s : State := { W.on with pair := { W.on.pair with neighbour := some { W.beat with atMs := 5 } } }; let h : Heartbeat := { W.beat with atMs := 5 }; (s.pair.neighbour = some h) ∧ (s.upd.chainLost = false) ∧ (h.atMs + s.rd Rec.UpdatePolicy.ChainLossMs ≤ s.time.ms) ∧ (Claims.Room s) := by decide +kernel

/-- What clause 5 of UpdateEventsComplete assumes can be met. -/
theorem witness_UpdateEventsComplete_4 :
    let s : State := { W.on with upd := { roll := some { step := 1, sinceMs := 0 } } }; let r : Roll := { step := 1, sinceMs := 0 }; (s.upd.roll = some r) ∧ (s.journals = true) ∧ (r.step = 1) ∧ (s.pair.st = .activeSolo) := by decide +kernel

/-- What clause 6 of UpdateEventsComplete assumes can be met. -/
theorem witness_UpdateEventsComplete_5 :
    let s : State := { W.on with upd := { roll := some { step := 2, sinceMs := 0 } } }; let r : Roll := { step := 2, sinceMs := 0 }; (s.upd.roll = some r) ∧ (s.journals = true) ∧ (r.step = 2) ∧ (s.readyPartner = false) ∧ (r.sinceMs + 300000 ≤ s.time.ms) ∧ (s.saveHalts = false) := by decide +kernel

/-- What clause 7 of UpdateEventsComplete assumes can be met. -/
theorem witness_UpdateEventsComplete_6 :
    let s : State := { (W.unit W.on (.lane 0) .on) with upd := { images := [{ component := 2, version := 4, security := 1, digest := [5], st := .library, container := List.replicate 256 0 }], campaigns := [{ id := 6, kind := 2, digest := [5], heads := [(0, { started := true, next := blockCount (List.replicate 256 0) })] }] } }; let campaign : Nat := 6; let lane : Nat := 0; let x : Campaign := { id := 6, kind := 2, digest := [5], heads := [(0, { started := true, next := blockCount (List.replicate 256 0) })] }; let h : HeadProgress := { started := true, next := blockCount (List.replicate 256 0) }; let i : Image := { component := 2, version := 4, security := 1, digest := [5], st := .library, container := List.replicate 256 0 }; (s.upd.campaigns = [x]) ∧ (x.id = campaign) ∧ (x.kind = 2) ∧ (x.done = false) ∧ (s.serving = true) ∧ (Map.get? x.heads lane = some h) ∧ (s.libraryImage 2 x.digest = some i) ∧ (s.laneOn lane = true) ∧ (h.result = 0) ∧ (h.bad = false) ∧ (h.started = true) ∧ (h.wait = false) ∧ (h.next = blockCount i.container) := by decide +kernel

/-- What clause 8 of UpdateEventsComplete assumes can be met. -/
theorem witness_UpdateEventsComplete_7 :
    let s : State := { W.on with upd := { campaigns := [{ id := 6, kind := 3, digest := [5], stream := 4, meters := [(9, 2)] }], reports := [((9, 4), { contiguous := 3, held := 3, complete := true, atMs := 5 })] } }; let campaign : Nat := 6; let x : Campaign := { id := 6, kind := 3, digest := [5], stream := 4, meters := [(9, 2)] }; (s.upd.campaigns = [x]) ∧ (x.id = campaign) ∧ (x.kind = 3) ∧ (x.done = false) ∧ (s.serving = true) ∧ (s.stream x.stream = none) ∧ (s.campaignAnswered x = true) := by decide +kernel

/-- What clause 9 of UpdateEventsComplete assumes can be met. -/
theorem witness_UpdateEventsComplete_8 :
    let s : State := { W.on with upd := { bundle := some { sessionId := 7, total := 9, bytes := [], lastMs := 5 } } }; let a : BundleAsm := { sessionId := 7, total := 9, bytes := [], lastMs := 5 }; (s.upd.bundle = some a) ∧ (a.lastMs + 60000 ≤ s.time.ms) := by decide +kernel

/-- What clause 1 of PortEventsComplete assumes can be met. -/
theorem witness_PortEventsComplete_0 :
    let s : State := { (W.put W.on Rec.HeadEnd.Enabled 3 1) with ports := { backhaulUp := [0] } }; let session : Nat := 3; (session < 32) ∧ (s.rdB Rec.HeadEnd.Enabled session = true) ∧ (s.pair.serving = true) ∧ ((s.headEnd session).st = .closed) ∧ (s.portUp (s.rd Rec.HeadEnd.Port session) = true) := by decide +kernel

/-- What clause 2 of PortEventsComplete assumes can be met. -/
theorem witness_PortEventsComplete_1 :
    let s : State := { W.on with ports := { sessions := [(3, { st := .handshake })] } }; let session : Nat := 3; let ok : Nat := 1; let suite : Nat := 0x1301; let spki : List Byte := [1]; ((s.headEnd session).st = .handshake) ∧ (ok ≠ 0) ∧ (suite = 0x1301 ∨ suite = 0x1302) ∧ (ofLe (sha256 spki) ≠ s.rd Rec.HeadEnd.PeerKeyHash session) := by decide +kernel

/-- What clause 3 of PortEventsComplete assumes can be met. -/
theorem witness_PortEventsComplete_2 :
    let s : State := { (W.put W.on Rec.HeadEnd.PeerKeyHash 3 (ofLe (sha256 [1]))) with ports := { sessions := [(3, { st := .handshake })] } }; let session : Nat := 3; let ok : Nat := 1; let suite : Nat := 0x1301; let spki : List Byte := [1]; ((s.headEnd session).st = .handshake) ∧ (ok ≠ 0) ∧ (suite = 0x1301 ∨ suite = 0x1302) ∧ (ofLe (sha256 spki) = s.rd Rec.HeadEnd.PeerKeyHash session) ∧ (s.ports.exports = []) ∧ (Claims.Room s) := by decide +kernel

/-- What clause 4 of PortEventsComplete assumes can be met. -/
theorem witness_PortEventsComplete_3 :
    let s : State := { W.on with ports := { sessions := [(3, { st := .opened })] } }; let session : Nat := 3; let length : Nat := 0; ((s.headEnd session).st = .opened) ∧ (length ≤ 262208) := by decide +kernel

/-- What clause 5 of PortEventsComplete assumes can be met. -/
theorem witness_PortEventsComplete_4 :
    let s : State := { W.on with ports := { sessions := [(3, { st := .opened })] } }; let session : Nat := 3; let type : Nat := 6; ((s.headEnd session).st = .opened) ∧ (5 < type) := by decide +kernel

/-- What clause 6 of PortEventsComplete assumes can be met. -/
theorem witness_PortEventsComplete_5 :
    let s : State := { W.on with ports := { sessions := [(3, { st := .opened })] } }; let session : Nat := 3; ((s.headEnd session).st = .opened) ∧ ((s.headEnd session).lastTxMs + 10000 ≤ s.time.ms) := by decide +kernel

/-- What clause 7 of PortEventsComplete assumes can be met. -/
theorem witness_PortEventsComplete_6 :
    let s : State := { W.on with ports := { sessions := [(3, { st := .opened })] } }; let session : Nat := 3; ((s.headEnd session).st = .opened) ∧ ((s.headEnd session).lastRxMs + 30000 ≤ s.time.ms) := by decide +kernel

/-- What clause 8 of PortEventsComplete assumes can be met. -/
theorem witness_PortEventsComplete_7 :
    let s : State := { W.on with ports := { sessions := [(3, { st := .opened, cursor := (1, 9) })] } }; let i : Nat := 3; (i < 32) ∧ (s.ports.sessions.map Prod.fst = [i]) ∧ ((s.headEnd i).cursor ≠ (s.headEnd i).journaled) ∧ (s.heEnabled = []) ∧ (s.ports.exports = []) ∧ (s.saveHalts = false) := by decide +kernel

/-- What clause 9 of PortEventsComplete assumes can be met. -/
theorem witness_PortEventsComplete_8 :
    let s : State := { W.on with ports := { backhaulUp := [2] } }; let port : Nat := 2; let bytes : Nat := 60; (s.portUp port = true) ∧ (bytes ≤ s.rd Rec.BackhaulPort.Mtu port + 18) := by decide +kernel

/-- What clause 10 of PortEventsComplete assumes can be met. -/
theorem witness_PortEventsComplete_9 :
    let s : State := { W.on with ports := { backhaulUp := [2] } }; let port : Nat := 2; let bytes : Nat := 100000; (s.portUp port = true) ∧ (s.rd Rec.BackhaulPort.Mtu port + 18 < bytes) := by decide +kernel

/-- What clause 11 of PortEventsComplete assumes can be met. -/
theorem witness_PortEventsComplete_10 :
    let s : State := W.put W.on Rec.BackhaulPort.Enabled 2 1; let port : Nat := 2; (port < 8) ∧ (s.portUp port = false) ∧ (s.rdB Rec.BackhaulPort.Enabled port = true) ∧ (7 ≤ s.pow.stage) ∧ (Claims.Room s) := by decide +kernel

/-- What clause 12 of PortEventsComplete assumes can be met. -/
theorem witness_PortEventsComplete_11 :
    let s : State := { W.on with ports := { partner0 := { link := true }, partner1 := { link := true } } }; let port : Nat := 1; (port < 2) ∧ ((s.partnerPort port).link = true) ∧ (Claims.Room s) := by decide +kernel

/-- What clause 15 of PortEventsComplete assumes can be met. -/
theorem witness_PortEventsComplete_14 :
    let s : State := W.on; (Claims.Room s) := by decide +kernel

/-- What clause 1 of PowerEventsComplete assumes can be met. -/
theorem witness_PowerEventsComplete_0 :
    let s : State := { W.on with pow := { stage := 2 } }; let detail : Nat := 0; (s.pow.paused = false) ∧ (s.pow.stage = 2) ∧ (detail ≠ 0x0201) := by decide +kernel

/-- What clause 2 of PowerEventsComplete assumes can be met. -/
theorem witness_PowerEventsComplete_1 :
    let s : State := { W.on with pow := { stage := 7 } }; (s.pow.paused = false) ∧ (s.pow.stage = 7) ∧ (s.pow.bootDetail = 0) := by decide +kernel

/-- What clause 3 of PowerEventsComplete assumes can be met. -/
theorem witness_PowerEventsComplete_2 :
    let s : State := { W.on with pow := { stage := 0, porstLow := true } }; (s.pow.porstLow = true) ∧ (s.pow.warn ≠ .saving) := by decide +kernel

/-- What clause 4 of PowerEventsComplete assumes can be met. -/
theorem witness_PowerEventsComplete_3 :
    let s : State := { W.on with pow := { W.on.pow with resetAfterSave := some 2 } }; let x : Nat := 2; (s.pow.resetAfterSave = some x) ∧ (s.pow.warn = .armed) ∧ (s.pow.saveReset = false) := by decide +kernel

/-- What clause 5 of PowerEventsComplete assumes can be met. -/
theorem witness_PowerEventsComplete_4 :
    let s : State := { W.on with pow := { W.on.pow with warn := .saving } }; (s.pow.warn = .saving) := by decide +kernel

/-- What clause 6 of PowerEventsComplete assumes can be met. -/
theorem witness_PowerEventsComplete_5 :
    let s : State := W.on; (s.pow.warn ≠ .saving) := by decide +kernel

/-- What clause 7 of PowerEventsComplete assumes can be met. -/
theorem witness_PowerEventsComplete_6 :
    let s : State := W.on; (s.pow.railsOut = []) := by decide +kernel

/-- What clause 8 of PowerEventsComplete assumes can be met. -/
theorem witness_PowerEventsComplete_7 :
    let s : State := { W.on with pow := { stage := 0, held := true, porstLow := false } }; (s.pow.held = true) ∧ (s.pow.stage = 0) ∧ (s.pow.porstLow = false) ∧ (s.pow.thermTrip = false) := by decide +kernel

/-- What clause 9 of PowerEventsComplete assumes can be met. -/
theorem witness_PowerEventsComplete_8 :
    let s : State := W.on; (s.pow.pfwLow = false) ∧ (s.pow.warn = .armed) ∧ (s.pow.stage = 0x0A) ∧ (s.air.queue = []) ∧ (s.met.pulses = []) := by decide +kernel

/-- What clause 10 of PowerEventsComplete assumes can be met. -/
theorem witness_PowerEventsComplete_9 :
    let s : State := { W.on with pow := { stage := 4 } }; (s.pow.pfwLow = false) ∧ (s.pow.warn = .idle) ∧ (s.pow.stage = 4) := by decide +kernel

/-- What clause 11 of PowerEventsComplete assumes can be met. -/
theorem witness_PowerEventsComplete_10 :
    let s : State := { W.on with pow := { W.on.pow with warn := .saving, pfwLow := true } }; (s.pow.warn = .saving) ∧ (s.pow.saveReset = false) ∧ (s.pow.pfwLow = true) ∧ (Claims.Room s) := by decide +kernel

/-- What clause 12 of PowerEventsComplete assumes can be met. -/
theorem witness_PowerEventsComplete_11 :
    let s : State := { W.on with pow := { W.on.pow with warn := .disarmed, pfwLow := true } }; (s.pow.pfwLow = true) ∧ (s.pow.warn = .disarmed) ∧ (8 ≤ s.pow.stage) := by decide +kernel

/-- What clause 13 of PowerEventsComplete assumes can be met. -/
theorem witness_PowerEventsComplete_12 :
    let s : State := { W.on with pair := { st := .ready }, pow := { W.on.pow with warn := .holding, pfwLow := true } }; (s.pow.pfwLow = true) ∧ (s.pow.railsOut = []) ∧ (s.pow.warn = .holding) ∧ (s.pow.resetAfterSave = none) ∧ (s.pow.inRangeMs + 2000 ≤ s.time.ms) ∧ (s.pow.saveEndMs + 2000 ≤ s.time.ms) ∧ (s.pair.st = .ready) ∧ (Claims.Room s) := by decide +kernel

/-- What clause 14 of PowerEventsComplete assumes can be met. -/
theorem witness_PowerEventsComplete_13 :
    let s : State := W.on; (s.pow.savedFailure = false) ∧ (s.pow.stage = 0x0A) ∧ (s.pow.warn = .armed) ∧ (s.pow.railsOut = []) ∧ (s.air.queue = []) ∧ (s.met.pulses = []) := by decide +kernel

/-- What clause 15 of PowerEventsComplete assumes can be met. -/
theorem witness_PowerEventsComplete_14 :
    let s : State := { W.on with pair := { st := .ready } }; (s.pow.warn = .armed) ∧ (s.pair.serving = false) ∧ (s.air.queue = []) ∧ (s.met.pulses = []) ∧ (Claims.Room s) := by decide +kernel

/-- What clause 16 of PowerEventsComplete assumes can be met. -/
theorem witness_PowerEventsComplete_15 :
    let s : State := { W.on with pow := { W.on.pow with stage := 0x0C, resetAfterSave := some 2 } }; let x : Nat := 2; (s.pow.stage = 0x0C) ∧ (s.pow.resetAfterSave = some x) ∧ (s.pow.heldDoorbells = []) ∧ (s.vault.tamperLatched = false) := by decide +kernel

/-- What clause 17 of PowerEventsComplete assumes can be met. -/
theorem witness_PowerEventsComplete_16 :
    let s : State := { W.on with ports := { hostUp := true } }; let kind : Nat := 0; (kind = 0 ∨ kind = 3) ∧ (s.hostSessions = []) ∧ (s.ports.hostUp = true) := by decide +kernel

/-- What clause 18 of PowerEventsComplete assumes can be met. -/
theorem witness_PowerEventsComplete_17 :
    let s : State := W.on; let kind : Nat := 1; (kind = 1 ∨ kind = 2) ∧ (s.hostSessions = []) := by decide +kernel

/-- What clause 19 of PowerEventsComplete assumes can be met. -/
theorem witness_PowerEventsComplete_18 :
    let s : State := W.on; (s.pow.host = .d0) := by decide +kernel

/-- What clause 20 of PowerEventsComplete assumes can be met. -/
theorem witness_PowerEventsComplete_19 :
    let s : State := { W.on with pow := { W.on.pow with host := .d3hot, pmeEn := true } }; let reason : Nat := 3; (s.pow.host = .d3hot) ∧ (s.pow.pmeEn = true) ∧ (1 ≤ reason) ∧ (reason ≤ 5) ∧ (bitOn s.pow.wakeMask reason = true) ∧ (s.pow.wakeReasons = 0) := by decide +kernel

/-- What clause 22 of PowerEventsComplete assumes can be met. -/
theorem witness_PowerEventsComplete_21 :
    let s : State := { W.on with pow := { W.on.pow with host := .d3hot, wakeReasons := 8 } }; (s.pow.host = .d3hot) ∧ (s.mail.msixPending = []) ∧ (s.hostSessions = []) ∧ (s.pow.wakeReasons = 8) ∧ (Claims.Room s) := by decide +kernel

/-- What clause 1 of SafetyEventsComplete assumes can be met. -/
theorem witness_SafetyEventsComplete_0 :
    let s : State := (W.put W.on Rec.LockoutInput.Enabled 3 1).setLockout 3 { samples := 1, levelA := true }; let levels : Nat := 64; let i : Nat := 3; ((List.range 16).filter s.lockEnabled = [i]) ∧ ((s.lockout i).seen = false) ∧ ((s.lockout i).samples = 1) ∧ ((s.lockout i).levelA = true) ∧ ((s.lockout i).levelB = false) ∧ ((s.lockout i).runA = 0) ∧ ((s.lockout i).runB = 0) ∧ (bitOn levels (2 * i) = true) ∧ (bitOn levels (2 * i + 1) = false) := by decide +kernel

/-- What clause 2 of SafetyEventsComplete assumes can be met. -/
theorem witness_SafetyEventsComplete_1 :
    let s : State := (W.put W.on Rec.LockoutInput.Enabled 3 1).setLockout 3 { seen := true, st := .discrepant, levelA := true }; let input : Nat := 3; (s.lockEnabled input = true) ∧ ((s.lockout input).seen = true) ∧ ((s.lockout input).st = .discrepant) ∧ ((s.lockout input).levelA = true) ∧ ((s.lockout input).levelB = false) ∧ ((s.lockout input).sinceMs + s.rd Rec.LockoutInput.DiscrepancyMs input ≤ s.time.ms) ∧ (Claims.Room s) := by decide +kernel

/-- What clause 3 of SafetyEventsComplete assumes can be met. -/
theorem witness_SafetyEventsComplete_2 :
    let s : State := W.on.setLockout 3 { holdEndMs := some 5 }; let input : Nat := 3; let n : Nat := 5; ((s.lockout input).holdEndMs = some n) ∧ (n ≤ s.time.ms) := by decide +kernel

/-- What clause 4 of SafetyEventsComplete assumes can be met. -/
theorem witness_SafetyEventsComplete_3 :
    let s : State := { W.on with safe := { meters := [(5, { out := some { kind := 1, seq := 4, deadline := 9, sends := 2 } })] } }; let slot : Nat := 5; let x : SafeCmd := { kind := 1, seq := 4, deadline := 9, sends := 2 }; ((s.safeMeter slot).out = some x) ∧ (x.deadline < s.stamp) ∧ (Claims.Room s) := by decide +kernel

/-- What clause 1 of AirCommandsComplete assumes can be met. -/
theorem witness_AirCommandsComplete_0 :
    let s : State := W.ask (W.radio) .airPollNow 1 0 (W.body 3); let ch : Nat := 0; let r : Request := W.req s .airPollNow; let c : Caller := W.who s r; let slot : Nat := 5; let request : Nat := 3; let priority : Nat := 1; (Claims.Asked s ch .airPollNow r c) ∧ (c.isOperator = true) ∧ (c.slots 3 = true) ∧ (request ≤ 0x1F) ∧ (priority ≤ 3) ∧ (isMeterSlot slot = true) ∧ (s.meterHere slot = true) ∧ (s.planned slot = true) ∧ (s.isReleasing (s.meterTenant slot) = false) ∧ ((s.plan slot).poll = none) := by decide +kernel

/-- What clause 2 of AirCommandsComplete assumes can be met. -/
theorem witness_AirCommandsComplete_1 :
    let s : State := W.ask (W.due) .airPollNow 1 0 (W.body 3); let ch : Nat := 0; let r : Request := W.req s .airPollNow; let c : Caller := W.who s r; let slot : Nat := 5; let request : Nat := 3; let priority : Nat := 1; let q : PendPoll := { due := 1699999000, request := 11, priority := 2 }; (Claims.Asked s ch .airPollNow r c) ∧ (c.isOperator = true) ∧ (c.slots 3 = true) ∧ (request ≤ 0x1F) ∧ (priority ≤ 3) ∧ (isMeterSlot slot = true) ∧ (s.meterHere slot = true) ∧ (s.planned slot = true) ∧ (s.isReleasing (s.meterTenant slot) = false) ∧ ((s.plan slot).poll = some q) := by decide +kernel

/-- What clause 3 of AirCommandsComplete assumes can be met. -/
theorem witness_AirCommandsComplete_2 :
    let s : State := W.ask (W.radio) .airModelReset 1 0 (W.body 1); let ch : Nat := 0; let r : Request := W.req s .airModelReset; let c : Caller := W.who s r; let slot : Nat := 5; (Claims.Asked s ch .airModelReset r c) ∧ (c.isOperator = true) ∧ (c.slots 1 = true) ∧ (isMeterSlot slot = true) ∧ (s.meterHere slot = true) ∧ (s.planned slot = true) ∧ (s.isReleasing (s.meterTenant slot) = false) := by decide +kernel

/-- What clause 4 of AirCommandsComplete assumes can be met. -/
theorem witness_AirCommandsComplete_3 :
    let s : State := W.ask ({ W.radio with air := { queue := [{ W.launch with locked := false }] } }) .airLaunchCancel 4 0 (W.body 3); let ch : Nat := 0; let r : Request := W.req s .airLaunchCancel; let c : Caller := W.who s r; let head : Nat := 0; let band : Nat := 0; let start : Nat := 100; let x : Launch := { W.launch with locked := false }; (Claims.Asked s ch .airLaunchCancel r c) ∧ (c.isService = true) ∧ (c.slots 3 = true) ∧ (isLane head = true) ∧ (s.laneHere head = true) ∧ (band < 32) ∧ (s.air.queue.find? (fun e => e.head == head && e.band == band && e.start == start) = some x) ∧ (s.air.queue.any (fun y => y.gid == x.gid && y.locked) = false) ∧ (x.source ≠ .poll ∨ x.meter = none) := by decide +kernel

/-- What clause 5 of AirCommandsComplete assumes can be met. -/
theorem witness_AirCommandsComplete_4 :
    let s : State := W.ask ({ W.radio with air := { queue := [{ W.launch with locked := false, source := .poll, meter := some 5 }] } }) .airLaunchCancel 4 0 (W.body 3); let ch : Nat := 0; let r : Request := W.req s .airLaunchCancel; let c : Caller := W.who s r; let head : Nat := 0; let band : Nat := 0; let start : Nat := 100; let m : Nat := 5; let x : Launch := { W.launch with locked := false, source := .poll, meter := some 5 }; (Claims.Asked s ch .airLaunchCancel r c) ∧ (c.isService = true) ∧ (c.slots 3 = true) ∧ (isLane head = true) ∧ (s.laneHere head = true) ∧ (band < 32) ∧ (s.air.queue.find? (fun e => e.head == head && e.band == band && e.start == start) = some x) ∧ (s.air.queue.any (fun y => y.gid == x.gid && y.locked) = false) ∧ (x.source = .poll) ∧ (x.meter = some m) := by decide +kernel

/-- What clause 6 of AirCommandsComplete assumes can be met. -/
theorem witness_AirCommandsComplete_5 :
    let s : State := W.ask ({ W.radio with air := { queue := [W.launch] } }) .airLaunchCancel 4 0 (W.body 3); let ch : Nat := 0; let r : Request := W.req s .airLaunchCancel; let c : Caller := W.who s r; let head : Nat := 0; let band : Nat := 0; let start : Nat := 100; let x : Launch := W.launch; (Claims.Asked s ch .airLaunchCancel r c) ∧ (c.isService = true) ∧ (c.slots 3 = true) ∧ (isLane head = true) ∧ (s.laneHere head = true) ∧ (band < 32) ∧ (s.air.queue.find? (fun e => e.head == head && e.band == band && e.start == start) = some x) ∧ (s.air.queue.any (fun y => y.gid == x.gid && y.locked) = true) := by decide +kernel

/-- What clause 7 of AirCommandsComplete assumes can be met. -/
theorem witness_AirCommandsComplete_6 :
    let s : State := W.ask (W.put W.radio (Rec.HeadAir.TxAntennaMask) 0 3) .airTxTest 4 0 (W.body 5); let ch : Nat := 0; let r : Request := W.req s .airTxTest; let c : Caller := W.who s r; let head : Nat := 0; let antenna : Nat := 1; let band : Nat := 0; let carrier : Nat := 868300000; let ms : Nat := 50; (Claims.Asked s ch .airTxTest r c) ∧ (c.isService = true) ∧ (c.slots 5 = true) ∧ (head < 64) ∧ (antenna < 8) ∧ (band < 32) ∧ (1 ≤ ms) ∧ (ms ≤ 1000) ∧ (s.laneHere head = true) ∧ (s.rdB Rec.HeadAir.TxEnable head = true) ∧ (bitOn (s.rd Rec.HeadAir.TxAntennaMask head) antenna = true) ∧ (s.bandHolds band carrier 0 = true) ∧ (s.refusal head antenna band (s.time.air + s.rd Rec.AirPolicy.PlanLeadMs * airPerMs) (ms * airPerMs) ms 0 = none) ∧ (s.serving = true) := by decide +kernel

/-- What clause 8 of AirCommandsComplete assumes can be met. -/
theorem witness_AirCommandsComplete_7 :
    let s : State := W.ask (W.on.setCtx 3 { st := .search, id := 8, b := ⟨4, 1, 255, 0, 10, 20, 10, 0, 0, 0⟩, origin := 0 }) .rxContextAbort 1 0 (W.body 1); let ch : Nat := 0; let r : Request := W.req s .rxContextAbort; let c : Caller := W.who s r; let ctx : Nat := 3; let x : RxCtx := { st := .search, id := 8, b := ⟨4, 1, 255, 0, 10, 20, 10, 0, 0, 0⟩, origin := 0 }; (Claims.Asked s ch .rxContextAbort r c) ∧ (c.isOperator = true) ∧ (c.slots 1 = true) ∧ (ctx < 4096) ∧ (s.ctx ctx = some x) ∧ (x.held = none) ∧ (x.st ≠ .stopping) := by decide +kernel

/-- What clause 9 of AirCommandsComplete assumes can be met. -/
theorem witness_AirCommandsComplete_8 :
    let s : State := W.ask (W.on.setCtx 3 { st := .stopping, id := 8, b := ⟨4, 1, 255, 0, 10, 20, 10, 0, 0, 0⟩, origin := 0, held := some (.booking { id := 9, b := ⟨4, 1, 255, 0, 10, 20, 10, 0, 0, 0⟩ }) }) .rxContextAbort 1 0 (W.body 1); let ch : Nat := 0; let r : Request := W.req s .rxContextAbort; let c : Caller := W.who s r; let ctx : Nat := 3; let x : RxCtx := { st := .stopping, id := 8, b := ⟨4, 1, 255, 0, 10, 20, 10, 0, 0, 0⟩, origin := 0, held := some (.booking { id := 9, b := ⟨4, 1, 255, 0, 10, 20, 10, 0, 0, 0⟩ }) }; (Claims.Asked s ch .rxContextAbort r c) ∧ (c.isOperator = true) ∧ (c.slots 1 = true) ∧ (ctx < 4096) ∧ (s.ctx ctx = some x) ∧ (x.held.isSome = true) := by decide +kernel

/-- What clause 10 of AirCommandsComplete assumes can be met. -/
theorem witness_AirCommandsComplete_9 :
    let s : State := W.ask (W.watched) .rxListen 4 0 (W.body 6); let ch : Nat := 0; let r : Request := W.req s .rxListen; let c : Caller := W.who s r; let group : Nat := 1; let mode : Nat := 0; let headMask : Nat := 255; let start : Nat := W.on.time.air + 100; let window : Nat := 50; let maxFrameMs : Nat := 20; let b : Booking := ⟨0xFFFFFFFF, 1, 255, 0, W.on.time.air + 100, W.on.time.air + 100 + 50 * airPerMs, 20, 0, 0, 0⟩; (Claims.Asked s ch .rxListen r c) ∧ (c.isService = true) ∧ (c.slots 6 = true) ∧ (group < 1024) ∧ (headMask < 256) ∧ (1 ≤ window) ∧ (window ≤ 60000) ∧ (1 ≤ maxFrameMs) ∧ (maxFrameMs ≤ 2000) ∧ (modeOk mode = true) ∧ (s.time.air ≤ start) ∧ (start ≠ 0) ∧ (s.groupValid group ≠ []) ∧ (b = ⟨0xFFFFFFFF, group, headMask, mode, start, start + window * airPerMs, maxFrameMs, 0, 0, 0⟩) ∧ (b.inRange = true) ∧ (s.rxReady = true) ∧ (s.bookingBound b = none) := by decide +kernel

/-- What clause 11 of AirCommandsComplete assumes can be met. -/
theorem witness_AirCommandsComplete_10 :
    let s : State := W.ask (W.watched) .rxListen 4 0 (W.body 6); let ch : Nat := 0; let r : Request := W.req s .rxListen; let c : Caller := W.who s r; let group : Nat := 1; let mode : Nat := 0; let headMask : Nat := 255; let window : Nat := 50; let maxFrameMs : Nat := 20; let b : Booking := ⟨0xFFFFFFFF, 1, 255, 0, W.on.time.air, W.on.time.air + 50 * airPerMs, 20, 0, 0, 0⟩; (Claims.Asked s ch .rxListen r c) ∧ (c.isService = true) ∧ (c.slots 6 = true) ∧ (group < 1024) ∧ (headMask < 256) ∧ (1 ≤ window) ∧ (window ≤ 60000) ∧ (1 ≤ maxFrameMs) ∧ (maxFrameMs ≤ 2000) ∧ (modeOk mode = true) ∧ (s.groupValid group ≠ []) ∧ (b = ⟨0xFFFFFFFF, group, headMask, mode, s.time.air, s.time.air + window * airPerMs, maxFrameMs, 0, 0, 0⟩) ∧ (b.inRange = true) ∧ (s.rxReady = true) ∧ (s.bookingBound b = none) ∧ (s.rx.booked = []) := by decide +kernel

/-- What clause 1 of FilterCommandsComplete assumes can be met. -/
theorem witness_FilterCommandsComplete_0 :
    let s : State := W.ask (W.watched) .filtDcEnable 1 0 (W.body 1); let ch : Nat := 0; let r : Request := W.req s .filtDcEnable; let c : Caller := W.who s r; let target : Nat := 0; (Claims.Asked s ch .filtDcEnable r c) ∧ (c.isOperator = true) ∧ (c.slots 1 = true) ∧ (s.dcAbsent target = none) ∧ (s.dcChainOn target = true) ∧ ((s.unit (.dcBlock target)).fenced = false) ∧ (s.unitSt (.dcBlock target) = .off) := by decide +kernel

/-- What clause 2 of FilterCommandsComplete assumes can be met. -/
theorem witness_FilterCommandsComplete_1 :
    let s : State := W.ask (W.unit W.watched (.dcBlock 0) .on) .filtDcDisable 1 0 (W.body 1); let ch : Nat := 0; let r : Request := W.req s .filtDcDisable; let c : Caller := W.who s r; let target : Nat := 0; (Claims.Asked s ch .filtDcDisable r c) ∧ (c.isOperator = true) ∧ (c.slots 1 = true) ∧ (s.dcAbsent target = none) ∧ ((s.unit (.dcBlock target)).fenced = false) ∧ (s.unitSt (.dcBlock target) = .on) := by decide +kernel

/-- What clause 3 of FilterCommandsComplete assumes can be met. -/
theorem witness_FilterCommandsComplete_2 :
    let s : State := W.ask (W.unit W.watched (.dcBlock 0) .on) .filtDcFreeze 1 0 (W.body 2); let ch : Nat := 0; let r : Request := W.req s .filtDcFreeze; let c : Caller := W.who s r; let target : Nat := 0; (Claims.Asked s ch .filtDcFreeze r c) ∧ (c.isOperator = true) ∧ (c.slots 2 = true) ∧ (s.dcAbsent target = none) ∧ (s.unitSt (.dcBlock target) = .on) ∧ ((s.dcOf target).frozen = none) := by decide +kernel

/-- What clause 4 of FilterCommandsComplete assumes can be met. -/
theorem witness_FilterCommandsComplete_3 :
    let s : State := W.ask (W.unit W.watched (.dcBlock 0) .on) .filtDcFreeze 1 0 (W.body 2); let ch : Nat := 0; let r : Request := W.req s .filtDcFreeze; let c : Caller := W.who s r; let target : Nat := 0; (Claims.Asked s ch .filtDcFreeze r c) ∧ (c.isOperator = true) ∧ (c.slots 2 = true) ∧ (s.dcAbsent target = none) ∧ (s.unitSt (.dcBlock target) = .on) ∧ ((s.dcOf target).autoFrozen = false) := by decide +kernel

/-- What clause 5 of FilterCommandsComplete assumes can be met. -/
theorem witness_FilterCommandsComplete_4 :
    let s : State := W.ask (W.unit W.watched (.dcBlock 0) .starting) .filtDcFreeze 1 0 (W.body 2); let ch : Nat := 0; let r : Request := W.req s .filtDcFreeze; let c : Caller := W.who s r; let target : Nat := 0; (Claims.Asked s ch .filtDcFreeze r c) ∧ (c.isOperator = true) ∧ (c.slots 2 = true) ∧ (s.dcAbsent target = none) ∧ (s.unitSt (.dcBlock target) = .starting) := by decide +kernel

/-- What clause 6 of FilterCommandsComplete assumes can be met. -/
theorem witness_FilterCommandsComplete_5 :
    let s : State := W.ask (W.watched) .filtDcRead 0 0 (W.body 1); let ch : Nat := 0; let r : Request := W.req s .filtDcRead; let c : Caller := W.who s r; let target : Nat := 0; (Claims.Asked s ch .filtDcRead r c) ∧ (c.isObserver = true) ∧ (c.slots 1 = true) ∧ (s.dcAbsent target = none) ∧ (target < 2 ^ 30) := by decide +kernel

/-- What clause 7 of FilterCommandsComplete assumes can be met. -/
theorem witness_FilterCommandsComplete_6 :
    let s : State := W.ask (W.on) .laneEnable 1 0 (W.body 1); let ch : Nat := 0; let r : Request := W.req s .laneEnable; let c : Caller := W.who s r; let lane : Nat := 3; (Claims.Asked s ch .laneEnable r c) ∧ (c.isOperator = true) ∧ (c.slots 1 = true) ∧ (s.laneHere lane = true) ∧ ((s.lane lane).test = none) ∧ ((s.unit (.lane lane)).fenced = false) ∧ (s.unitSt (.lane lane) = .off) ∧ (s.lineMode lane = false) := by decide +kernel

/-- What clause 8 of FilterCommandsComplete assumes can be met. -/
theorem witness_FilterCommandsComplete_7 :
    let s : State := W.ask (W.watched) .laneDisable 1 0 (W.body 1); let ch : Nat := 0; let r : Request := W.req s .laneDisable; let c : Caller := W.who s r; let lane : Nat := 0; (Claims.Asked s ch .laneDisable r c) ∧ (c.isOperator = true) ∧ (c.slots 1 = true) ∧ (s.laneHere lane = true) ∧ ((Map.getD s.arch.regions (lane / 16) {}).lanes.contains lane = false) ∧ ((s.unit (.lane lane)).fenced = false) ∧ (s.unitSt (.lane lane) = .on) := by decide +kernel

/-- What clause 9 of FilterCommandsComplete assumes can be met. -/
theorem witness_FilterCommandsComplete_8 :
    let s : State := W.ask (W.put W.watched Rec.Partition.CaptureGiB 0 64) .filtCaptureStart 4 0 (W.body 7); let ch : Nat := 0; let r : Request := W.req s .filtCaptureStart; let c : Caller := W.who s r; let lane : Nat := 0; let mask : Nat := 1; let sub : Nat := 0; let duration : Nat := 1000; (Claims.Asked s ch .filtCaptureStart r c) ∧ (c.isService = true) ∧ (c.slots 7 = true) ∧ (mask < 256) ∧ (mask ≠ 0) ∧ (1 ≤ duration) ∧ (duration ≤ 60000000) ∧ (s.laneHere lane = true) ∧ (s.laneOn lane = true) ∧ (s.lineMode lane = false) ∧ (s.filt.captures = []) ∧ (s.captureRate 0 mask sub ≤ 40000000000 * 4096 * s.flashChannels / 16) ∧ (ceilDiv (s.captureRate 0 mask sub * duration) (4096 * 1000000) ≤ s.captureFree) := by decide +kernel

/-- What clause 10 of FilterCommandsComplete assumes can be met. -/
theorem witness_FilterCommandsComplete_9 :
    let s : State := W.ask ({ W.on with filt := { captures := [{ id := 4, kind := 0, lane := 0, mask := 1, sub := 0, start := 1, at' := 0, durationUs := 9, size := 8, st := .active }] } }) .filtCaptureStop 4 0 (W.body 1); let ch : Nat := 0; let r : Request := W.req s .filtCaptureStop; let c : Caller := W.who s r; let id : Nat := 4; let x : Capture := { id := 4, kind := 0, lane := 0, mask := 1, sub := 0, start := 1, at' := 0, durationUs := 9, size := 8, st := .active }; (Claims.Asked s ch .filtCaptureStop r c) ∧ (c.isService = true) ∧ (c.slots 1 = true) ∧ (s.capture id = some x) ∧ (x.st = .active) := by decide +kernel

/-- What clause 11 of FilterCommandsComplete assumes can be met. -/
theorem witness_FilterCommandsComplete_10 :
    let s : State := W.ask ({ W.on with filt := { captures := [{ id := 4, kind := 0, lane := 0, mask := 1, sub := 0, start := 1, at' := 0, durationUs := 9, size := 8, st := .done }] } }) .filtCaptureDelete 4 0 (W.body 1); let ch : Nat := 0; let r : Request := W.req s .filtCaptureDelete; let c : Caller := W.who s r; let id : Nat := 4; let x : Capture := { id := 4, kind := 0, lane := 0, mask := 1, sub := 0, start := 1, at' := 0, durationUs := 9, size := 8, st := .done }; (Claims.Asked s ch .filtCaptureDelete r c) ∧ (c.isService = true) ∧ (c.slots 1 = true) ∧ (s.capture id = some x) ∧ (x.st = .done) := by decide +kernel

/-- What clause 12 of FilterCommandsComplete assumes can be met. -/
theorem witness_FilterCommandsComplete_11 :
    let s : State := W.ask W.watched .laneHeadControl 4 0 (List.replicate 25 0); let ch : Nat := 0; let r : Request := W.req s .laneHeadControl; let c : Caller := W.who s r; let lane : Nat := 0; let trib : Nat := 0; let msg : List Byte := [1]; (Claims.Asked s ch .laneHeadControl r c) ∧ (c.isService = true) ∧ (c.body.length = 24 + msg.length) ∧ (trib ≤ 255) ∧ (msg.length ≤ 1024) ∧ (s.laneHere lane = true) ∧ (s.laneOn lane = true) ∧ ((s.lane lane).reqs = []) := by decide +kernel

/-- What clause 13 of FilterCommandsComplete assumes can be met. -/
theorem witness_FilterCommandsComplete_12 :
    let s : State := W.ask (W.on) .laneTest 4 0 (W.body 3); let ch : Nat := 0; let r : Request := W.req s .laneTest; let c : Caller := W.who s r; let lane : Nat := 3; let pattern : Nat := 1; let duration : Nat := 100; (Claims.Asked s ch .laneTest r c) ∧ (c.isService = true) ∧ (c.slots 3 = true) ∧ (pattern ≤ 1) ∧ (1 ≤ duration) ∧ (duration ≤ 5000) ∧ (s.laneHere lane = true) ∧ (s.laneSt lane = .off) ∧ ((s.lane lane).test = none) := by decide +kernel

/-- What clause 14 of FilterCommandsComplete assumes can be met. -/
theorem witness_FilterCommandsComplete_13 :
    let s : State := W.ask (W.on.setLane 3 { test := some (0, 5) }) .laneTest 4 0 (W.body 3); let ch : Nat := 0; let r : Request := W.req s .laneTest; let c : Caller := W.who s r; let lane : Nat := 3; let n : Nat := 5; (Claims.Asked s ch .laneTest r c) ∧ (c.isService = true) ∧ (c.slots 3 = true) ∧ (c.ch = ch) ∧ ((s.lane lane).test = some (ch, n)) ∧ (n ≤ s.time.ms) := by decide +kernel

/-- What clause 1 of UpdateCommandsComplete assumes can be met. -/
theorem witness_UpdateCommandsComplete_0 :
    let s : State := W.ask W.on .updateStageBegin 4 0 (List.replicate 256 0); let ch : Nat := 0; let r : Request := W.req s .updateStageBegin; let c : Caller := W.who s r; let header : List Byte := List.replicate 256 0; (Claims.Asked s ch .updateStageBegin r c) ∧ (s.mayStage c = true) ∧ (c.body.length = 256) ∧ (header.length = 256) ∧ (headerComponent header < 2) ∧ (s.imageLocked (headerComponent header) = false) := by decide +kernel

/-- What clause 2 of UpdateCommandsComplete assumes can be met. -/
theorem witness_UpdateCommandsComplete_1 :
    let s : State := W.ask { W.on with upd := { staging := some { id := 3, header := List.replicate 256 1, payload := [] } } } .updateStageWrite 4 0 (List.replicate 18 0); let ch : Nat := 0; let r : Request := W.req s .updateStageWrite; let c : Caller := W.who s r; let id : Nat := 3; let offset : Nat := 0; let data : List Byte := [8, 9]; let x : Staging := { id := 3, header := List.replicate 256 1, payload := [] }; (Claims.Asked s ch .updateStageWrite r c) ∧ (s.mayStage c = true) ∧ (c.body.length = 16 + data.length) ∧ (data.length ≤ 262144) ∧ (s.upd.staging = some x) ∧ (x.id = id) ∧ (offset + data.length ≤ leAt x.header 36 4) := by decide +kernel

/-- What clause 3 of UpdateCommandsComplete assumes can be met. -/
theorem witness_UpdateCommandsComplete_2 :
    let s : State := W.ask ({ W.on with upd := { staging := some { id := 3, header := List.replicate 256 1, payload := [] } } }) .updateStageVerify 4 0 (W.body 1); let ch : Nat := 0; let r : Request := W.req s .updateStageVerify; let c : Caller := W.who s r; let id : Nat := 3; let x : Staging := { id := 3, header := List.replicate 256 1, payload := [] }; (Claims.Asked s ch .updateStageVerify r c) ∧ (c.slots 1 = true) ∧ (s.mayStage c = true) ∧ (s.upd.staging = some x) ∧ (x.id = id) ∧ (s.imageLocked (headerComponent x.header) = false) := by decide +kernel

/-- What clause 4 of UpdateCommandsComplete assumes can be met. -/
theorem witness_UpdateCommandsComplete_3 :
    let s : State := W.ask (W.on) .updateActivate 4 0 (W.body 2); let ch : Nat := 0; let r : Request := W.req s .updateActivate; let c : Caller := W.who s r; let mask : Nat := 1; let force : Nat := 1; (Claims.Asked s ch .updateActivate r c) ∧ (c.isService = true) ∧ (c.slots 2 = true) ∧ (0 < mask) ∧ (mask < 4) ∧ (force < 2) ∧ (((maskBits 2 mask).all fun k => (s.imageIn k .other).isSome) = true) ∧ (s.pair.st ≠ .activePaired) ∧ (s.pair.st ≠ .activeSolo ∨ force = 1) ∧ (s.upd.roll = none) ∧ (s.upd.trial = none) ∧ (s.maskFits mask = true) ∧ (s.pow.resetAfterSave = none) := by decide +kernel

/-- What clause 5 of UpdateCommandsComplete assumes can be met. -/
theorem witness_UpdateCommandsComplete_4 :
    let s : State := W.ask ({ W.on with upd := { trial := some { mask := 1 } } }) .updateConfirm 4 0 (W.body 0); let ch : Nat := 0; let r : Request := W.req s .updateConfirm; let c : Caller := W.who s r; let x : Trial := { mask := 1 }; (Claims.Asked s ch .updateConfirm r c) ∧ (c.isService = true) ∧ (c.slots 0 = true) ∧ (s.upd.trial = some x) := by decide +kernel

/-- What clause 6 of UpdateCommandsComplete assumes can be met. -/
theorem witness_UpdateCommandsComplete_5 :
    let s : State := W.ask { W.on with upd := { images := [{ component := 2, version := 4, digest := [5], st := .library, container := [1, 2] }] } } .updateImageDelete 4 0 (List.replicate 32 0); let ch : Nat := 0; let r : Request := W.req s .updateImageDelete; let c : Caller := W.who s r; let digest : List Byte := [5]; let i : Image := { component := 2, version := 4, digest := [5], st := .library, container := [1, 2] }; (Claims.Asked s ch .updateImageDelete r c) ∧ (c.isService = true) ∧ (c.body.length = 32) ∧ ((s.upd.images.find? fun (y : Image) => y.digest == digest) = some i) ∧ (i.st = .library) ∧ (s.imageLocked i.component = false) ∧ (s.upd.campaigns = []) := by decide +kernel

/-- What clause 7 of UpdateCommandsComplete assumes can be met. -/
theorem witness_UpdateCommandsComplete_6 :
    let s : State := W.ask (W.roll) .updatePairRoll 4 0 (W.body 0); let ch : Nat := 0; let r : Request := W.req s .updatePairRoll; let c : Caller := W.who s r; (Claims.Asked s ch .updatePairRoll r c) ∧ (c.isService = true) ∧ (c.slots 0 = true) ∧ (s.pair.st = .activePaired) ∧ (s.readyPartner = true) ∧ (s.upd.roll = none) ∧ (s.upd.trial = none) ∧ (s.rollFits = true) := by decide +kernel

/-- What clause 8 of UpdateCommandsComplete assumes can be met. -/
theorem witness_UpdateCommandsComplete_7 :
    let s : State := W.ask ({ (W.unit W.on (.lane 0) .on) with upd := { images := [{ component := 2, version := 4, model := 1, digest := List.replicate 32 5, st := .library }] } }.setLane 0 { sfLock := true, hdr := { lock := 2, samplesValid := true }, head := some W.head }) .updateHeadCampaign 4 0 (List.replicate 40 0); let ch : Nat := 0; let r : Request := W.req s .updateHeadCampaign; let c : Caller := W.who s r; let digest : List Byte := List.replicate 32 5; let lanes : Nat := 1; let lane : Nat := 0; let i : Image := { component := 2, version := 4, model := 1, digest := List.replicate 32 5, st := .library }; let x : HeadId := W.head; (Claims.Asked s ch .updateHeadCampaign r c) ∧ (c.isService = true) ∧ (c.body.length = 40) ∧ (digest.length = 32) ∧ (s.libraryImage 2 digest = some i) ∧ (0 < lanes) ∧ (lanes < 2 ^ 64) ∧ (maskBits 64 lanes = [lane]) ∧ (s.laneHere lane = true) ∧ (s.laneOn lane = true) ∧ ((s.lane lane).head = some x) ∧ (x.fits i.model = true) ∧ (s.serving = true) := by decide +kernel

/-- What clause 9 of UpdateCommandsComplete assumes can be met. -/
theorem witness_UpdateCommandsComplete_8 :
    let s : State := W.ask { W.flood with upd := { images := [{ component := 3, version := 4, digest := List.replicate 32 5, st := .library, container := List.replicate 300 0 }] } } .updateMeterCampaign 1 0 (List.replicate 72 0); let ch : Nat := 0; let r : Request := W.req s .updateMeterCampaign; let c : Caller := W.who s r; let digest : List Byte := List.replicate 32 5; let stream : Nat := 4; let keySlot : Nat := 16; let target : Nat := 9; let rounds : Nat := 2; let i : Image := { component := 3, version := 4, digest := List.replicate 32 5, st := .library, container := List.replicate 300 0 }; let x : Stream := s.contentStream 4 2 0 16 9 2 ((List.replicate 300 (0 : Byte)).drop 256); (Claims.Asked s ch .updateMeterCampaign r c) ∧ (c.isOperator = true) ∧ (c.body.length = 72) ∧ (digest.length = 32) ∧ (s.libraryImage 3 digest = some i) ∧ (x = s.contentStream stream 2 0 keySlot target rounds (i.container.drop 256)) ∧ (((s.openChecks x).all fun k => k.1) = true) ∧ (s.upd.reports = []) := by decide +kernel

/-- What clause 1 of LingFloodCommandsComplete assumes can be met. -/
theorem witness_LingFloodCommandsComplete_0 :
    let s : State := W.ask (W.flood) .floodStreamOpen 1 0 (W.body 8); let ch : Nat := 0; let r : Request := W.req s .floodStreamOpen; let c : Caller := W.who s r; let stream : Nat := 4; let kind : Nat := 1; let keySlot : Nat := 16; let target : Nat := 9; let lastBlock : Nat := 1; let segBytes : Nat := 100; let priority : Nat := 1; let rounds : Nat := 2; let x : Stream := { number := 4, kind := 1, tenant := 0, keySlot := 16, target := 9, lastBlock := 1, segBytes := 100, priority := 1, rounds := 2 }; (Claims.Asked s ch .floodStreamOpen r c) ∧ (c.isOperator = true) ∧ (c.slots 8 = true) ∧ (x = { number := stream, kind := kind, tenant := 0, keySlot := keySlot, target := target, lastBlock := lastBlock, segBytes := segBytes, priority := priority, rounds := rounds }) ∧ (((s.openChecks x).all fun k => k.1) = true) := by decide +kernel

/-- What clause 2 of LingFloodCommandsComplete assumes can be met. -/
theorem witness_LingFloodCommandsComplete_1 :
    let s : State := W.ask W.stream .floodBlockWrite 1 0 (List.replicate 20 0); let ch : Nat := 0; let r : Request := W.req s .floodBlockWrite; let c : Caller := W.who s r; let stream : Nat := 4; let block : Nat := 0; let bytes : List Byte := [1, 2, 3, 4]; let x : Stream := (W.stream.stream 4).getD { number := 4, kind := 1, tenant := 0, keySlot := 16, target := 9, lastBlock := 1, segBytes := 4, priority := 1, rounds := 2 }; (Claims.Asked s ch .floodBlockWrite r c) ∧ (c.isOperator = true) ∧ (c.body.length = 16 + bytes.length) ∧ (s.stream stream = some x) ∧ (x.st = .opened) ∧ (x.kind ≠ 0) ∧ (block < x.lastBlock) ∧ (1 ≤ bytes.length) ∧ (bytes.length = x.segBytes) := by decide +kernel

/-- What clause 3 of LingFloodCommandsComplete assumes can be met. -/
theorem witness_LingFloodCommandsComplete_2 :
    let s : State := W.ask (W.on |> fun s => { s with fl := { s.fl with streams := [W.full] } }) .floodStreamStart 1 0 (W.body 1); let ch : Nat := 0; let r : Request := W.req s .floodStreamStart; let c : Caller := W.who s r; let stream : Nat := 4; let x : Stream := W.full; (Claims.Asked s ch .floodStreamStart r c) ∧ (c.isOperator = true) ∧ (c.slots 1 = true) ∧ (stream < 256) ∧ (s.stream stream = some x) ∧ (x.st = .opened) ∧ (x.full = true) := by decide +kernel

/-- What clause 4 of LingFloodCommandsComplete assumes can be met. -/
theorem witness_LingFloodCommandsComplete_3 :
    let s : State := W.ask (W.flood) .floodStreamClose 1 0 (W.body 1); let ch : Nat := 0; let r : Request := W.req s .floodStreamClose; let c : Caller := W.who s r; let stream : Nat := 1; (Claims.Asked s ch .floodStreamClose r c) ∧ (c.isOperator = true) ∧ (c.slots 1 = true) ∧ ((s.stream stream).isSome = true) ∧ (s.air.queue = []) := by decide +kernel

/-- What clause 5 of LingFloodCommandsComplete assumes can be met. -/
theorem witness_LingFloodCommandsComplete_4 :
    let s : State := W.ask (W.radio) .floodMeterSetup 1 0 (W.body 3); let ch : Nat := 0; let r : Request := W.req s .floodMeterSetup; let c : Caller := W.who s r; let slot : Nat := 5; let role : Nat := 1; let hop : Nat := 2; (Claims.Asked s ch .floodMeterSetup r c) ∧ (c.isOperator = true) ∧ (c.slots 3 = true) ∧ (role ≤ 2) ∧ (hop ≤ 7) ∧ (isMeterSlot slot = true) ∧ (s.meterHere slot = true) ∧ (s.planned slot = true) ∧ (s.isReleasing (s.meterTenant slot) = false) := by decide +kernel

/-- What clause 6 of LingFloodCommandsComplete assumes can be met. -/
theorem witness_LingFloodCommandsComplete_5 :
    let s : State := W.ask (W.flood) .floodTimeSend 1 0 (W.body 0); let ch : Nat := 0; let r : Request := W.req s .floodTimeSend; let c : Caller := W.who s r; let n : Nat := (W.flood.freeStream).getD 0; (Claims.Asked s ch .floodTimeSend r c) ∧ (c.isOperator = true) ∧ (c.slots 0 = true) ∧ (s.freeStream = some n) ∧ (s.fl.streams.length < 64) ∧ (s.slotSet 0 16 = true) := by decide +kernel

/-- What clause 7 of LingFloodCommandsComplete assumes can be met. -/
theorem witness_LingFloodCommandsComplete_6 :
    let s : State := W.ask ({ W.flood with tar := { W.flood.tar with plans := [(3, [{ effective := 5, body := 77, tz := 1 }])] } }) .tariffPlanFlood 1 0 (W.body 6); let ch : Nat := 0; let r : Request := W.req s .tariffPlanFlood; let c : Caller := W.who s r; let plan : Nat := 3; let version : Nat := 0; let stream : Nat := 4; let keySlot : Nat := 16; let target : Nat := 9; let rounds : Nat := 2; let v : PlanVersion := { effective := 5, body := 77, tz := 1 }; let x : Stream := s.contentStream 4 1 0 16 9 2 (le 1 3 ++ le 7 0 ++ (le 992 77 ++ le 32 1)); (Claims.Asked s ch .tariffPlanFlood r c) ∧ (c.slots 6 = true) ∧ (c.isOwner (s.recTenant Rec.TariffPlan.Active.rid plan) = true) ∧ (plan < 256) ∧ (version < 4) ∧ (s.isReleasing (s.recTenant Rec.TariffPlan.Active.rid plan) = false) ∧ ((s.planVersions plan)[version]? = some v) ∧ (x = s.contentStream stream 1 (s.recTenant Rec.TariffPlan.Active.rid plan) keySlot target rounds (le 1 plan ++ le 7 0 ++ (le 992 v.body ++ le 32 v.tz))) ∧ (((s.openChecks x).all fun k => k.1) = true) := by decide +kernel

/-- What clause 8 of LingFloodCommandsComplete assumes can be met. -/
theorem witness_LingFloodCommandsComplete_7 :
    let s : State := W.ask (W.unit W.line (.lingTx 0) .off) .lingTxEnable 1 0 (W.body 1); let ch : Nat := 0; let r : Request := W.req s .lingTxEnable; let c : Caller := W.who s r; let trib : Nat := 0; (Claims.Asked s ch .lingTxEnable r c) ∧ (c.isOperator = true) ∧ (c.slots 1 = true) ∧ (s.lineHere = true) ∧ (trib < s.tributaries) ∧ ((s.unit (.lingTx trib)).fenced = false) ∧ (s.unitSt (.lingTx trib) = .off) := by decide +kernel

/-- What clause 9 of LingFloodCommandsComplete assumes can be met. -/
theorem witness_LingFloodCommandsComplete_8 :
    let s : State := W.ask (W.line) .lingTxDisable 1 0 (W.body 1); let ch : Nat := 0; let r : Request := W.req s .lingTxDisable; let c : Caller := W.who s r; let trib : Nat := 0; (Claims.Asked s ch .lingTxDisable r c) ∧ (c.isOperator = true) ∧ (c.slots 1 = true) ∧ (s.lineHere = true) ∧ (trib < s.tributaries) ∧ ((s.unit (.lingTx trib)).fenced = false) ∧ (s.unitSt (.lingTx trib) = .on) ∧ ((s.lingTrib trib).out = none) := by decide +kernel

/-- What clause 10 of LingFloodCommandsComplete assumes can be met. -/
theorem witness_LingFloodCommandsComplete_9 :
    let s : State := W.ask (W.put W.line Rec.LingMeter.Active 5 1) .lingPollNow 1 0 (W.body 3); let ch : Nat := 0; let r : Request := W.req s .lingPollNow; let c : Caller := W.who s r; let slot : Nat := 5; let request : Nat := 3; let priority : Nat := 1; (Claims.Asked s ch .lingPollNow r c) ∧ (c.isOperator = true) ∧ (c.slots 3 = true) ∧ (request ≤ 0x1F) ∧ (priority ≤ 3) ∧ (s.lineHere = true) ∧ (s.meterHere slot = true) ∧ (s.isReleasing (s.meterTenant slot) = false) ∧ (s.lingMeter slot = true) ∧ ((s.plan slot).poll = none) := by decide +kernel

/-- What clause 1 of SessionApprovalCommandsComplete assumes can be met. -/
theorem witness_SessionApprovalCommandsComplete_0 :
    let s : State := W.ask (W.on) .barrowClear 3 0 (W.body 0); let ch : Nat := 0; let r : Request := W.req s .barrowClear; let c : Caller := W.who s r; (Claims.Asked s ch .barrowClear r c) ∧ (c.isOfficer = true) ∧ (c.slots 0 = true) ∧ (s.clearable = true) ∧ (s.mail.tickets = []) ∧ (Claims.Room s) := by decide +kernel

/-- What clause 2 of SessionApprovalCommandsComplete assumes can be met. -/
theorem witness_SessionApprovalCommandsComplete_1 :
    let s : State := W.ask (W.relay) .safeClose 1 0 (W.body 2); let ch : Nat := 0; let r : Request := W.req s .safeClose; let c : Caller := W.who s r; let slot : Nat := 5; let armed : Nat := 1; (Claims.Asked s ch .safeClose r c) ∧ (c.slots 2 = true) ∧ (c.isOwner (s.meterTenant slot) = true) ∧ (s.isReleasing (s.meterTenant slot) = false) ∧ (armed ≤ 1) ∧ (s.meterHere slot = true) ∧ (s.isRelay slot = true) ∧ ((s.safeMeter slot).out = none) ∧ (s.lockedOut slot = false) ∧ (s.mail.tickets = []) ∧ (Claims.Room s) := by decide +kernel

/-- What clause 3 of SessionApprovalCommandsComplete assumes can be met. -/
theorem witness_SessionApprovalCommandsComplete_2 :
    let s : State := W.ask (W.on) .tenantSeal 3 0 (W.body 1); let ch : Nat := 0; let r : Request := W.req s .tenantSeal; let c : Caller := W.who s r; let tenant : Nat := 2; (Claims.Asked s ch .tenantSeal r c) ∧ (c.isOfficer = true) ∧ (c.slots 1 = true) ∧ (tenant < 16) ∧ (s.tenantHere tenant = true) ∧ (s.sealable tenant = true) ∧ (s.mail.tickets = []) ∧ (Claims.Room s) := by decide +kernel

/-- What clause 4 of SessionApprovalCommandsComplete assumes can be met. -/
theorem witness_SessionApprovalCommandsComplete_3 :
    let s : State := W.ask (W.sealed) .tenantRelease 2 2 (W.body 1); let ch : Nat := 0; let r : Request := W.req s .tenantRelease; let c : Caller := W.who s r; let tenant : Nat := 2; (Claims.Asked s ch .tenantRelease r c) ∧ (c.slots 1 = true) ∧ (c.isTenantAdmin tenant = true) ∧ (tenant < 16) ∧ (s.tenantHere tenant = true) ∧ (s.isSealed tenant = true) ∧ (s.mail.tickets = []) ∧ (Claims.Room s) := by decide +kernel

/-- What clause 5 of SessionApprovalCommandsComplete assumes can be met. -/
theorem witness_SessionApprovalCommandsComplete_4 :
    let s : State := W.ask ({ W.on with mail := { W.on.mail with tickets := [W.ticket] } }) .ctrlApprovalCancel 1 0 (W.body 1); let ch : Nat := 0; let r : Request := W.req s .ctrlApprovalCancel; let c : Caller := W.who s r; let ticket : Nat := 77; let x : Ticket := W.ticket; (Claims.Asked s ch .ctrlApprovalCancel r c) ∧ (c.slots 1 = true) ∧ (s.mail.tickets = [x]) ∧ (x.ticket = ticket) ∧ (c.tagged = true) ∧ (x.role = c.role) ∧ (x.tenant = c.tenant) ∧ (x.slot = c.slot) ∧ (Claims.Room s) := by decide +kernel

/-- What clause 6 of SessionApprovalCommandsComplete assumes can be met. -/
theorem witness_SessionApprovalCommandsComplete_5 :
    let s : State := W.ask { W.on with mail := { W.on.mail with tickets := [{ W.ticket with cmd := .barrowClear, slot := 3, role := 3 }] } } .ctrlApprove 3 0 (List.replicate 40 0); let ch : Nat := 0; let r : Request := W.req s .ctrlApprove; let c : Caller := W.who s r; let ticket : Nat := 77; let digest : List Byte := W.ticket.digest; let x : Ticket := { W.ticket with cmd := .barrowClear, slot := 3, role := 3 }; (Claims.Asked s ch .ctrlApprove r c) ∧ ((s.chan ch).await = none) ∧ (s.mail.tickets = [x]) ∧ (x.ticket = ticket) ∧ (x.digest = digest) ∧ (c.tagged = true) ∧ (c.role = x.role) ∧ (c.tenant = x.tenant) ∧ (c.slot ≠ x.slot) ∧ (c.body.length = 40) ∧ (digest.length = 32) ∧ (x.cmd = .barrowClear) ∧ ((s.executeApproved x c).1.status = .done) := by decide +kernel

/-- What clause 7 of SessionApprovalCommandsComplete assumes can be met. -/
theorem witness_SessionApprovalCommandsComplete_6 :
    let s : State := W.plain W.on .ctrlSessionHello [1, 0, 0]; let ch : Nat := 0; let r : Request := W.req s .ctrlSessionHello; let c : Caller := W.who s r; let role : Nat := 1; let tenant : Nat := 0; (Claims.Asked s ch .ctrlSessionHello r c) ∧ (s.vault.rngOk = true) ∧ (c.ch = ch) ∧ (s.inBackoff ch = false) ∧ (c.body.length = 3) ∧ (roleTenantOk role tenant = true) ∧ (s.tenantHere tenant = true) ∧ (s.session ch = none) := by decide +kernel

/-- What clause 8 of SessionApprovalCommandsComplete assumes can be met. -/
theorem witness_SessionApprovalCommandsComplete_7 :
    let s : State := W.prove; let ch : Nat := 0; let r : Request := W.req s .ctrlSessionProve; let c : Caller := W.who s r; let id : Nat := 9; let nh : List Byte := [1]; let ph : List Byte := hostProof [5] [3] [1] 1 0 0 0 0; let n : Nonce := ⟨[3], 9, 1, 0, 0, 100000000⟩; let x : Credential := { secret := [5], kind := 0, generation := 1, setStamp := 0 }; (Claims.Asked s ch .ctrlSessionProve r c) ∧ (c.ch = ch) ∧ (s.inBackoff ch = false) ∧ (c.body.length = 52) ∧ ((s.chan ch).nonce = some n) ∧ (Map.get? s.mail.creds (credKey n.role n.tenant n.slot) = some x) ∧ (n.sessionId = id) ∧ (s.time.ms ≤ n.issuedMs + 30000) ∧ (ph = hostProof x.secret n.nd nh n.role n.tenant n.slot ch s.mail.serial) ∧ (s.vault.st = .opened) ∧ (s.pow.bootDone = none) ∧ (Claims.Room s) := by decide +kernel

/-- What clause 9 of SessionApprovalCommandsComplete assumes can be met. -/
theorem witness_SessionApprovalCommandsComplete_8 :
    let s : State := W.ask W.on .ctrlSessionClose 1 0 []; let ch : Nat := 0; let r : Request := W.req s .ctrlSessionClose; let c : Caller := W.who s r; let x : Session := { id := 7, role := 1, tenant := 0, slot := 0 }; (Claims.Asked s ch .ctrlSessionClose r c) ∧ (c.isObserver = true) ∧ (c.slots 0 = true) ∧ (c.ch = ch) ∧ (s.session ch = some x) ∧ (Claims.Room s) := by decide +kernel

/-- What clause 10 of SessionApprovalCommandsComplete assumes can be met. -/
theorem witness_SessionApprovalCommandsComplete_9 :
    let s : State := W.plain W.on .ctrlCredentialSet (List.replicate 64 0); let ch : Nat := 0; let r : Request := W.req s .ctrlCredentialSet; let c : Caller := W.who s r; let role : Nat := 3; let tenant : Nat := 0; let slot : Nat := 0; let kind : Nat := 0; let secret : List Byte := List.replicate 32 7; (Claims.Asked s ch .ctrlCredentialSet r c) ∧ (c.tagged = false) ∧ (s.mail.firstSoSet = false) ∧ (s.session c.ch = none) ∧ (c.body.length = 64) ∧ (secret.length = 32) ∧ (credOk role tenant slot = true) ∧ (kind ≤ 1) ∧ (s.tenantHere tenant = true) ∧ (s.credGenFree (credKey role tenant slot) = true) ∧ (Map.get? s.mail.creds (credKey role tenant slot) = none) ∧ (s.sessionsOf role tenant slot = []) := by decide +kernel

/-- What clause 11 of SessionApprovalCommandsComplete assumes can be met. -/
theorem witness_SessionApprovalCommandsComplete_10 :
    let s : State := W.ask ({ W.on with mail := { W.on.mail with creds := [((1, 0, 0), { secret := [5], kind := 0, generation := 1, setStamp := 0 })] } }) .ctrlCredentialRevoke 3 0 (W.body 3); let ch : Nat := 0; let r : Request := W.req s .ctrlCredentialRevoke; let c : Caller := W.who s r; let role : Nat := 1; let tenant : Nat := 0; let slot : Nat := 0; (Claims.Asked s ch .ctrlCredentialRevoke r c) ∧ (c.isOfficer = true) ∧ (c.slots 3 = true) ∧ (credOk role tenant slot = true) ∧ (s.tenantHere tenant = true) ∧ (s.credGenFree (credKey role tenant slot) = true) ∧ ((Map.get? s.mail.creds (credKey role tenant slot)).isSome = true) ∧ (s.sessionsOf role tenant slot = []) ∧ (s.mail.tickets = []) := by decide +kernel

/-- What clause 1 of PairPortCommandsComplete assumes can be met. -/
theorem witness_PairPortCommandsComplete_0 :
    let s : State := W.ask ({ W.on with pair := { W.on.pair with st := .activePaired, partner := some W.readyBeat } }) .pairSwitchover 1 0 (W.body 0); let ch : Nat := 0; let r : Request := W.req s .pairSwitchover; let c : Caller := W.who s r; (Claims.Asked s ch .pairSwitchover r c) ∧ (c.isOperator = true) ∧ (c.slots 0 = true) ∧ (s.pair.st = .activePaired) ∧ (s.pair.handoverStep = 0) ∧ (s.readyPartner = true) := by decide +kernel

/-- What clause 2 of PairPortCommandsComplete assumes can be met. -/
theorem witness_PairPortCommandsComplete_1 :
    let s : State := W.ask ({ W.on with pair := { st := .syncing } }) .pairForceClaim 4 0 (W.body 0); let ch : Nat := 0; let r : Request := W.req s .pairForceClaim; let c : Caller := W.who s r; (Claims.Asked s ch .pairForceClaim r c) ∧ (c.isService = true) ∧ (c.slots 0 = true) ∧ (s.pair.st = .notReady ∨ s.pair.st = .syncing) ∧ (s.heartbeatLive = false) ∧ (s.partnerSeen = none) := by decide +kernel

/-- What clause 3 of PairPortCommandsComplete assumes can be met. -/
theorem witness_PairPortCommandsComplete_2 :
    let s : State := W.ask ({ W.on with pair := { W.on.pair with nextOrphan := 5, orphans := [⟨3, 1, 1, 1, 1, 0⟩, ⟨4, 1, 1, 1, 1, 0⟩] } }) .pairOrphansClear 1 0 (W.body 1); let ch : Nat := 0; let r : Request := W.req s .pairOrphansClear; let c : Caller := W.who s r; let upTo : Nat := 3; (Claims.Asked s ch .pairOrphansClear r c) ∧ (c.isOperator = true) ∧ (c.slots 1 = true) ∧ (upTo < s.pair.nextOrphan) := by decide +kernel

/-- What clause 4 of PairPortCommandsComplete assumes can be met. -/
theorem witness_PairPortCommandsComplete_3 :
    let s : State := W.ask ({ (W.put W.on Rec.HeadEnd.Enabled 3 1) with ports := { sessions := [(3, { st := .opened })] } }) .portSessionReset 1 0 (W.body 1); let ch : Nat := 0; let r : Request := W.req s .portSessionReset; let c : Caller := W.who s r; let session : Nat := 3; (Claims.Asked s ch .portSessionReset r c) ∧ (c.slots 1 = true) ∧ (session < 32) ∧ (c.isOwner (s.heTenant session) = true) ∧ (s.isReleasing (s.heTenant session) = false) ∧ (s.rdB Rec.HeadEnd.Enabled session = true) := by decide +kernel

/-- What clause 5 of PairPortCommandsComplete assumes can be met. -/
theorem witness_PairPortCommandsComplete_4 :
    let s : State := W.ask ({ W.on with ports := { sessions := [(3, { st := .opened, cursor := (9, 0), top := (9, 0) })] } }) .exportRewind 1 0 (W.body 3); let ch : Nat := 0; let r : Request := W.req s .exportRewind; let c : Caller := W.who s r; let session : Nat := 3; let position : Nat := 4; let index : Nat := 0; (Claims.Asked s ch .exportRewind r c) ∧ (c.slots 3 = true) ∧ (session < 32) ∧ (c.isOwner (s.heTenant session) = true) ∧ (s.isReleasing (s.heTenant session) = false) ∧ (idLe (position, index) (s.headEnd session).top = true) ∧ (idLe s.ports.pruned (position, index) = true) ∧ (s.ports.exports = []) ∧ ((s.headEnd session).backlog = false) := by decide +kernel

/-- What clause 1 of UnitPowerCommandsComplete assumes can be met. -/
theorem witness_UnitPowerCommandsComplete_0 :
    let s : State := W.ask (W.on) .ctrlUnitFence 4 0 (W.body 1); let ch : Nat := 0; let r : Request := W.req s .ctrlUnitFence; let c : Caller := W.who s r; let unit : Nat := 0; (Claims.Asked s ch .ctrlUnitFence r c) ∧ (c.isService = true) ∧ (c.slots 1 = true) ∧ (isUnitAddr unit = true) ∧ (s.unitHere unit = true) ∧ (s.lastOfKind unit = false) := by decide +kernel

/-- What clause 2 of UnitPowerCommandsComplete assumes can be met. -/
theorem witness_UnitPowerCommandsComplete_1 :
    let s : State := W.ask (W.on.setCell 0 { fenced := true }) .ctrlUnitUnfence 4 0 (W.body 1); let ch : Nat := 0; let r : Request := W.req s .ctrlUnitUnfence; let c : Caller := W.who s r; let unit : Nat := 0; (Claims.Asked s ch .ctrlUnitUnfence r c) ∧ (c.isService = true) ∧ (c.slots 1 = true) ∧ (isUnitAddr unit = true) ∧ (s.unitHere unit = true) ∧ (s.addrFenced unit = true) := by decide +kernel

/-- What clause 3 of UnitPowerCommandsComplete assumes can be met. -/
theorem witness_UnitPowerCommandsComplete_2 :
    let s : State := W.ask (W.on.setCell (unitAddr 7 0 0) { fenced := true }) .ctrlUnitUnfence 4 0 (W.body 1); let ch : Nat := 0; let r : Request := W.req s .ctrlUnitUnfence; let c : Caller := W.who s r; let unit : Nat := unitAddr 7 0 0; (Claims.Asked s ch .ctrlUnitUnfence r c) ∧ (c.isService = true) ∧ (c.slots 1 = true) ∧ (isUnitAddr unit = true) ∧ (s.unitHere unit = true) ∧ (addrCell unit ≠ 0x3F) ∧ (4 ≤ addrRegion unit) ∧ ((s.cell unit).fenced = true) ∧ (s.arch.units = []) := by decide +kernel

/-- What clause 4 of UnitPowerCommandsComplete assumes can be met. -/
theorem witness_UnitPowerCommandsComplete_3 :
    let s : State := W.ask ({ W.on with arch := { regions := [(2, { st := .restarting })] } }) .ctrlRegionRestart 4 0 (W.body 1); let ch : Nat := 0; let r : Request := W.req s .ctrlRegionRestart; let c : Caller := W.who s r; let region : Nat := 2; (Claims.Asked s ch .ctrlRegionRestart r c) ∧ (c.isService = true) ∧ (c.slots 1 = true) ∧ (s.regionHere region = true) ∧ (region < 7) ∧ ((Map.getD s.arch.regions region {}).st = .restarting) := by decide +kernel

/-- What clause 5 of UnitPowerCommandsComplete assumes can be met. -/
theorem witness_UnitPowerCommandsComplete_4 :
    let s : State := W.ask (W.on) .ctrlRegionRestart 4 0 (W.body 1); let ch : Nat := 0; let r : Request := W.req s .ctrlRegionRestart; let c : Caller := W.who s r; let region : Nat := 2; (Claims.Asked s ch .ctrlRegionRestart r c) ∧ (c.isService = true) ∧ (c.slots 1 = true) ∧ (s.regionHere region = true) ∧ (region < 7) ∧ ((Map.getD s.arch.regions region {}).st = .on) := by decide +kernel

/-- What clause 6 of UnitPowerCommandsComplete assumes can be met. -/
theorem witness_UnitPowerCommandsComplete_5 :
    let s : State := W.ask ({ W.on with pair := { st := .notReady } }) .powerSleep 4 0 (W.body 0); let ch : Nat := 0; let r : Request := W.req s .powerSleep; let c : Caller := W.who s r; (Claims.Asked s ch .powerSleep r c) ∧ (c.isService = true) ∧ (c.slots 0 = true) ∧ (s.serving = false) ∧ (s.pair.st = .syncing ∨ s.pair.st = .notReady ∨ s.pair.st = .ready) := by decide +kernel

/-- What clause 7 of UnitPowerCommandsComplete assumes can be met. -/
theorem witness_UnitPowerCommandsComplete_6 :
    let s : State := W.ask ({ W.on with pair := { st := .notReady }, pow := { W.on.pow with warn := .disarmed } }) .powerReboot 4 0 (W.body 1); let ch : Nat := 0; let r : Request := W.req s .powerReboot; let c : Caller := W.who s r; let force : Nat := 0; (Claims.Asked s ch .powerReboot r c) ∧ (c.isService = true) ∧ (c.slots 1 = true) ∧ (force ≤ 1) ∧ (s.serving = false) ∧ (s.pow.resetAfterSave = none) ∧ (s.pow.warn = .disarmed) ∧ (s.air.queue = []) ∧ (s.met.pulses = []) := by decide +kernel

/-- What clause 8 of UnitPowerCommandsComplete assumes can be met. -/
theorem witness_UnitPowerCommandsComplete_7 :
    let s : State := W.ask (W.on) .powerDebugClose 3 0 (W.body 1); let ch : Nat := 0; let r : Request := W.req s .powerDebugClose; let c : Caller := W.who s r; let serial : Nat := W.on.mail.serial; (Claims.Asked s ch .powerDebugClose r c) ∧ (c.isOfficer = true) ∧ (c.slots 1 = true) ∧ (serial = s.mail.serial) ∧ (s.arch.debugClosed = false) := by decide +kernel

/-- What clause 9 of UnitPowerCommandsComplete assumes can be met. -/
theorem witness_UnitPowerCommandsComplete_8 :
    let s : State := W.plain { W.on with vault := { tamperLatched := true, loopsOpen := 3 }, pow := { W.on.pow with warn := .idle } } .vaultReset []; let ch : Nat := 0; let r : Request := W.req s .vaultReset; let c : Caller := W.who s r; (Claims.Asked s ch .vaultReset r c) ∧ (c.slots 0 = true) ∧ (s.tunnelled c.ch = false) ∧ (s.vault.tamperLatched = true) ∧ (s.vault.loopsOpen = 3) ∧ (s.anySealed = false) ∧ (s.pow.resetAfterSave = none) ∧ (s.pow.warn = .idle) ∧ (Claims.Room s) := by decide +kernel

/-- What clause 10 of UnitPowerCommandsComplete assumes can be met. -/
theorem witness_UnitPowerCommandsComplete_9 :
    let s : State := W.ask ({ W.on with pair := { W.on.pair with partner := some W.readyBeat } }) .powerReboot 4 0 (W.body 1); let ch : Nat := 0; let r : Request := W.req s .powerReboot; let c : Caller := W.who s r; (Claims.Asked s ch .powerReboot r c) ∧ (c.isService = true) ∧ (c.slots 1 = true) ∧ (s.serving = true) ∧ (s.readyPartner = true) := by decide +kernel

/-- What clause 11 of UnitPowerCommandsComplete assumes can be met. -/
theorem witness_UnitPowerCommandsComplete_10 :
    let s : State := W.ask (W.on) .powerReboot 4 0 (W.body 1); let ch : Nat := 0; let r : Request := W.req s .powerReboot; let c : Caller := W.who s r; (Claims.Asked s ch .powerReboot r c) ∧ (c.isService = true) ∧ (c.slots 1 = true) ∧ (s.serving = true) ∧ (s.readyPartner = false) := by decide +kernel

/-- What clause 1 of LedgerBalanceCommandsComplete assumes can be met. -/
theorem witness_LedgerBalanceCommandsComplete_0 :
    let s : State := W.ask (W.fit) .balFit 1 0 (W.body 3); let ch : Nat := 0; let r : Request := W.req s .balFit; let c : Caller := W.who s r; let zone : Nat := 3; let first : Nat := 0; let count : Nat := 30; (Claims.Asked s ch .balFit r c) ∧ (c.slots 3 = true) ∧ (c.isOwner (s.zoneTenant zone) = true) ∧ (count ≤ 2880) ∧ (s.lineHere = true) ∧ (zone < s.zones) ∧ (s.isReleasing (s.zoneTenant zone) = false) ∧ (s.rdB Rec.Zone.Active zone = true) ∧ (24 ≤ (s.fitSet zone first count).length) ∧ ((fitPoints ((s.fitSet zone first count).map fun e => [1, ((e.2.iavg.map fun i => i * i).sum : Nat), (e.2.inavg * e.2.inavg : Nat), e.1.feeder - e.1.milli])).1 ≠ 0) := by decide +kernel

/-- What clause 2 of LedgerBalanceCommandsComplete assumes can be met. -/
theorem witness_LedgerBalanceCommandsComplete_1 :
    let s : State := W.ask ({ W.on with bal := { W.on.bal with meters := [(5, { learned := some 1 })] } }) .balPhaseReset 1 0 (W.body 1); let ch : Nat := 0; let r : Request := W.req s .balPhaseReset; let c : Caller := W.who s r; let slot : Nat := 5; (Claims.Asked s ch .balPhaseReset r c) ∧ (c.slots 1 = true) ∧ ((s.chan ch).await = none) ∧ (c.isOwner (s.meterTenant slot) = true) ∧ (s.lineHere = true) ∧ (s.meterHere slot = true) ∧ (s.isReleasing (s.meterTenant slot) = false) := by decide +kernel

/-- What clause 3 of LedgerBalanceCommandsComplete assumes can be met. -/
theorem witness_LedgerBalanceCommandsComplete_2 :
    let s : State := W.ask (W.on) .metroPulseTest 4 0 (W.body 2); let ch : Nat := 0; let r : Request := W.req s .metroPulseTest; let c : Caller := W.who s r; let output : Nat := 3; let count : Nat := 10; (Claims.Asked s ch .metroPulseTest r c) ∧ (c.isService = true) ∧ (c.slots 2 = true) ∧ (output < 8) ∧ (1 ≤ count) ∧ (count ≤ 100) ∧ (s.lineHere = true) ∧ (s.serving = true) ∧ (s.rdB Rec.PulseOutput.Enabled output = false) := by decide +kernel

/-- What clause 4 of LedgerBalanceCommandsComplete assumes can be met. -/
theorem witness_LedgerBalanceCommandsComplete_3 :
    let s : State := W.ask (W.prepay) .prepayTokenIssue 1 0 (W.body 4); let ch : Nat := 0; let r : Request := W.req s .prepayTokenIssue; let c : Caller := W.who s r; let slot : Nat := 5; let kind : Nat := 0; let amount : Nat := W.prepay.rd Rec.PrepayClass.CreditStepMilli 0; let deliver : Nat := 1; let field : Nat := 1; let key : VaultCopy := (W.prepay.slotKey 0 0).getD ⟨2, 1, 1, [], false, 0⟩; (Claims.Asked s ch .prepayTokenIssue r c) ∧ (c.slots 4 = true) ∧ ((s.chan ch).await = none) ∧ (c.isOwner (s.meterTenant slot) = true) ∧ (kind ≤ 1) ∧ (kind = 0 ∨ amount = 0) ∧ (deliver ≤ 1) ∧ (s.meterHere slot = true) ∧ (s.led.ready = true) ∧ (s.serving = true) ∧ (s.pre.held.contains slot = false) ∧ (s.isReleasing (s.meterTenant slot) = false) ∧ (s.rdB Rec.PrepayMeter.Enabled slot = true) ∧ ((s.meter slot).tokenSeq < 65535) ∧ (((s.tokensOf slot).all fun y => !(tokenOpen y.st && decide (y.seq + 30 < (s.meter slot).tokenSeq))) = true) ∧ (kind = 1 ∨ (amount ≤ s.rd Rec.PrepayClass.MaxTokenMilli (s.prepayClass slot) ∧ amountField (s.rd Rec.PrepayClass.CreditStepMilli (s.prepayClass slot)) amount = some field)) ∧ (s.rdB Rec.MeterSec.KeyMode slot = false) ∧ (s.slotSet (s.meter slot).tenant 0 = true) ∧ (s.slotKey (s.meter slot).tenant 0 = some key) := by decide +kernel

/-- What clause 5 of LedgerBalanceCommandsComplete assumes can be met. -/
theorem witness_LedgerBalanceCommandsComplete_4 :
    let s : State := W.ask ({ W.on with pre := { tokens := [{ slot := 5, tenant := 0, st := 1, kind := 0, seq := 3, amount := 4, issuedAt := 9 }] } }) .prepayTokenVoid 1 0 (W.body 2); let ch : Nat := 0; let r : Request := W.req s .prepayTokenVoid; let c : Caller := W.who s r; let slot : Nat := 5; let seq : Nat := 3; let x : TokenEntry := { slot := 5, tenant := 0, st := 1, kind := 0, seq := 3, amount := 4, issuedAt := 9 }; (Claims.Asked s ch .prepayTokenVoid r c) ∧ (c.slots 2 = true) ∧ ((s.chan ch).await = none) ∧ (c.isOwner (s.meterTenant slot) = true) ∧ (s.meterHere slot = true) ∧ (s.led.ready = true) ∧ (s.isReleasing (s.meterTenant slot) = false) ∧ (s.token slot seq = some x) ∧ (x.st ≤ 1) ∧ (x.locked = false) := by decide +kernel

/-- What clause 6 of LedgerBalanceCommandsComplete assumes can be met. -/
theorem witness_LedgerBalanceCommandsComplete_5 :
    let s : State := W.ask ({ W.on with led := { W.on.led with meters := [(5, { disputeMask := 1024 })] } }) .ledgerDisputeResolve 1 0 (W.body 4); let ch : Nat := 0; let r : Request := W.req s .ledgerDisputeResolve; let c : Caller := W.who s r; let slot : Nat := 5; let rs : Nat := 1; let mask : Nat := 4; let choice : Nat := 1; (Claims.Asked s ch .ledgerDisputeResolve r c) ∧ (c.slots 4 = true) ∧ ((s.chan ch).await = none) ∧ (c.isOwner (s.meterTenant slot) = true) ∧ (rs ≤ 1) ∧ (mask < 256) ∧ (choice ≤ 2) ∧ (s.meterHere slot = true) ∧ (s.isReleasing (s.meterTenant slot) = false) ∧ ((maskBits 8 mask).isEmpty = false) ∧ (((maskBits 8 mask).all fun i => bitOn (s.meter slot).disputeMask (8 * rs + i)) = true) := by decide +kernel

/-- What clause 7 of LedgerBalanceCommandsComplete assumes can be met. -/
theorem witness_LedgerBalanceCommandsComplete_6 :
    let s : State := W.ask ({ W.on with led := { W.on.led with meters := [(5, { baselineTotal := 7, baselineRate := 9 })] } }) .ledgerRebase 1 0 (W.body 3); let ch : Nat := 0; let r : Request := W.req s .ledgerRebase; let c : Caller := W.who s r; let slot : Nat := 5; let rates : Nat := 8; (Claims.Asked s ch .ledgerRebase r c) ∧ (c.slots 3 = true) ∧ ((s.chan ch).await = none) ∧ (c.isOwner (s.meterTenant slot) = true) ∧ (s.meterHere slot = true) ∧ (s.isReleasing (s.meterTenant slot) = false) ∧ (((maskBits 16 rates).all fun i => !bitOn (s.meter slot).disputeMask i) = true) := by decide +kernel

/-- What clause 8 of LedgerBalanceCommandsComplete assumes can be met. -/
theorem witness_LedgerBalanceCommandsComplete_7 :
    let s : State := W.ask ({ W.on with led := { W.on.led with meters := [(5, { gap := true })] } }) .ledgerGapClear 1 0 (W.body 1); let ch : Nat := 0; let r : Request := W.req s .ledgerGapClear; let c : Caller := W.who s r; let slot : Nat := 5; (Claims.Asked s ch .ledgerGapClear r c) ∧ (c.slots 1 = true) ∧ ((s.chan ch).await = none) ∧ (c.isOwner (s.meterTenant slot) = true) ∧ (s.meterHere slot = true) ∧ (s.isReleasing (s.meterTenant slot) = false) ∧ ((s.meter slot).gap = true) := by decide +kernel

/-- What clause 1 of KeyCommandsComplete assumes can be met. -/
theorem witness_KeyCommandsComplete_0 :
    let s : State := W.ask W.keyed .secMeterKeySet 1 0 (List.replicate 40 0); let ch : Nat := 0; let r : Request := W.req s .secMeterKeySet; let c : Caller := W.who s r; let slot : Nat := 5; let keyBits : Nat := 0; let blob : List Byte := be 24 0x17f5196bcb16bfa8870b2e54fb934b8a86bc8b8acfde2fe3; let plain : List Byte := List.replicate 16 4; let kek : VaultCopy := (W.keyed.slotKey 0 1).getD ⟨2, 1, 1, [], false, 0⟩; (Claims.Asked s ch .secMeterKeySet r c) ∧ ((s.chan ch).await = none) ∧ (c.isOwner (s.meterTenant slot) = true) ∧ (c.body.length = 16 + blob.length) ∧ (keyBits ≤ 1) ∧ (blob.length = (if keyBits = 1 then 40 else 24)) ∧ (s.meterHere slot = true) ∧ (s.assigned slot = true) ∧ (s.rdB Rec.MeterSec.KeyMode slot = true) ∧ (s.isReleasing (s.meterTenant slot) = false) ∧ ((s.meter slot).keyGen < 0xFFFFFFFF) ∧ (s.slotKey (s.meterTenant slot) 1 = some kek) ∧ (keyUnwrap kek.key blob = some plain) := by decide +kernel

/-- What clause 2 of KeyCommandsComplete assumes can be met. -/
theorem witness_KeyCommandsComplete_1 :
    let s : State := W.ask (W.put W.on Rec.MeterSec.Assigned 5 1) .secMeterKeygenAdvance 1 0 (W.body 1); let ch : Nat := 0; let r : Request := W.req s .secMeterKeygenAdvance; let c : Caller := W.who s r; let slot : Nat := 5; (Claims.Asked s ch .secMeterKeygenAdvance r c) ∧ (c.slots 1 = true) ∧ ((s.chan ch).await = none) ∧ (c.isOwner (s.meterTenant slot) = true) ∧ (s.meterHere slot = true) ∧ (s.assigned slot = true) ∧ (s.rdB Rec.MeterSec.KeyMode slot = false) ∧ (s.isReleasing (s.meterTenant slot) = false) ∧ ((s.meter slot).keyGen < 0xFFFFFFFF) := by decide +kernel

/-- What clause 3 of KeyCommandsComplete assumes can be met. -/
theorem witness_KeyCommandsComplete_2 :
    let s : State := W.ask ({ (W.put W.on Rec.MeterSec.Assigned 5 1) with sec := { quarantine := [W.held] } }) .secQuarantineRelease 1 0 (W.body 2); let ch : Nat := 0; let r : Request := W.req s .secQuarantineRelease; let c : Caller := W.who s r; let slot : Nat := 5; let counter : Nat := 9; let q : QEntry := W.held; (Claims.Asked s ch .secQuarantineRelease r c) ∧ (c.slots 2 = true) ∧ ((s.chan ch).await = none) ∧ (s.qEntry slot counter = some q) ∧ (c.isOwner q.f.tenant = true) ∧ (s.isReleasing q.f.tenant = false) ∧ (s.releasable q = true) := by decide +kernel

/-- What clause 4 of KeyCommandsComplete assumes can be met. -/
theorem witness_KeyCommandsComplete_3 :
    let s : State := W.ask ({ W.on with sec := { quarantine := [W.held] } }) .secQuarantineDelete 1 0 (W.body 2); let ch : Nat := 0; let r : Request := W.req s .secQuarantineDelete; let c : Caller := W.who s r; let slot : Nat := 5; let counter : Nat := 9; let q : QEntry := W.held; (Claims.Asked s ch .secQuarantineDelete r c) ∧ (c.slots 2 = true) ∧ ((s.chan ch).await = none) ∧ (s.qEntry slot counter = some q) ∧ (c.isOwner q.f.tenant = true) ∧ (s.isReleasing q.f.tenant = false) := by decide +kernel

/-- What clause 5 of KeyCommandsComplete assumes can be met. -/
theorem witness_KeyCommandsComplete_4 :
    let s : State := W.ask W.authority .vaultUpdate 3 0 (List.replicate 96 0); let ch : Nat := 0; let r : Request := W.req s .vaultUpdate; let c : Caller := W.who s r; let message : List Byte := W.update; let key : List Byte := []; let d : Nat := 0; let n : Nat := 2; (Claims.Asked s ch .vaultUpdate r c) ∧ (d = leAt message 6 1) ∧ (n = leAt message 16 4) ∧ (s.mayUpdate c d = true) ∧ (c.body.length = message.length) ∧ (s.domainHere d = true) ∧ (s.isReleasing d = false) ∧ ((s.checkUpdate message).toOption = some key) ∧ (n ≠ 0xFFFFFFFF) := by decide +kernel

/-- What clause 6 of KeyCommandsComplete assumes can be met. -/
theorem witness_KeyCommandsComplete_5 :
    let s : State := W.ask W.on .vaultAuthoritySet 3 0 (List.replicate 72 0); let ch : Nat := 0; let r : Request := W.req s .vaultAuthoritySet; let c : Caller := W.who s r; let d : Nat := 0; let key : List Byte := be 32 p256G.1 ++ be 32 p256G.2; (Claims.Asked s ch .vaultAuthoritySet r c) ∧ (s.mayUpdate c d = true) ∧ (c.body.length = 72) ∧ (key.length = 64) ∧ (d ≤ 16) ∧ (s.domainHere d = true) ∧ (p256OnCurve key = true) ∧ (s.slotSet d (authoritySlot d) = false) ∧ (s.genSpent d (authoritySlot d) = false) ∧ (s.isReleasing d = false) := by decide +kernel

/-- What clause 7 of KeyCommandsComplete assumes can be met. -/
theorem witness_KeyCommandsComplete_6 :
    let s : State := W.ask W.on .vaultTransportSet 3 0 (List.replicate 48 0); let ch : Nat := 0; let r : Request := W.req s .vaultTransportSet; let c : Caller := W.who s r; let d : Nat := 0; let wrapped : List Byte := be 40 0x6c324a65558b6552ab9b19e95cf721a3aa9b174ad645cd08e9c7aadea05415ed724c11ff2cdc5c5d; let key : List Byte := List.replicate 32 6; let x : Session := { id := 7, role := 3, tenant := 0, slot := 0 }; (Claims.Asked s ch .vaultTransportSet r c) ∧ (s.mayUpdate c d = true) ∧ (c.body.length = 48) ∧ (wrapped.length = 40) ∧ (d ≤ 16) ∧ (s.domainHere d = true) ∧ (s.slotSet d 2 = false) ∧ (s.genSpent d 2 = false) ∧ (s.isReleasing d = false) ∧ (s.session c.ch = some x) ∧ (keyUnwrap ((hmac x.ks (ascii [0x45, 0x57, 0x56, 0x54])).take 16) wrapped = some key) := by decide +kernel

/-- What clause 1 of StoreTimeSafeCommandsComplete assumes can be met. -/
theorem witness_StoreTimeSafeCommandsComplete_0 :
    let s : State := W.ask (W.on) .storeCheckpointNow 1 0 (W.body 0); let ch : Nat := 0; let r : Request := W.req s .storeCheckpointNow; let c : Caller := W.who s r; (Claims.Asked s ch .storeCheckpointNow r c) ∧ (c.isOperator = true) ∧ (c.slots 0 = true) := by decide +kernel

/-- What clause 2 of StoreTimeSafeCommandsComplete assumes can be met. -/
theorem witness_StoreTimeSafeCommandsComplete_1 :
    let s : State := W.ask (W.on) .storeDieRetire 4 0 (W.body 2); let ch : Nat := 0; let r : Request := W.req s .storeDieRetire; let c : Caller := W.who s r; let channel : Nat := 0; let die : Nat := 0; (Claims.Asked s ch .storeDieRetire r c) ∧ (c.isService = true) ∧ (c.slots 2 = true) ∧ (s.dieHere channel die = true) ∧ ((s.die channel die).st ≠ .failed) ∧ (s.partsFit s.partBody (s.diesInUse - 1) = true) := by decide +kernel

/-- What clause 3 of StoreTimeSafeCommandsComplete assumes can be met. -/
theorem witness_StoreTimeSafeCommandsComplete_2 :
    let s : State := W.ask (W.on) .storeNamespaceFormat 3 0 (W.body 1); let ch : Nat := 0; let r : Request := W.req s .storeNamespaceFormat; let c : Caller := W.who s r; let tenant : Nat := 2; (Claims.Asked s ch .storeNamespaceFormat r c) ∧ (c.isOfficer = true) ∧ (c.slots 1 = true) ∧ ((s.chan ch).await = none) ∧ (tenant < 16) ∧ (s.tenantHere tenant = true) ∧ (s.isSealed tenant = false) ∧ (s.hasMeters tenant = false) ∧ (s.nsEpoch tenant < 0xFFFFFFFF) := by decide +kernel

/-- What clause 4 of StoreTimeSafeCommandsComplete assumes can be met. -/
theorem witness_StoreTimeSafeCommandsComplete_3 :
    let s : State := W.ask (W.on) .timeStep 3 0 (W.body 1); let ch : Nat := 0; let r : Request := W.req s .timeStep; let c : Caller := W.who s r; let ns : Nat := 1000000; (Claims.Asked s ch .timeStep r c) ∧ (c.isOfficer = true) ∧ (c.slots 1 = true) ∧ (1000000 ≤ ns) ∧ (ns ≤ 31536000 * 1000000000) ∧ (s.anySealed = false) ∧ (s.time.st ≠ .partner) := by decide +kernel

/-- What clause 5 of StoreTimeSafeCommandsComplete assumes can be met. -/
theorem witness_StoreTimeSafeCommandsComplete_4 :
    let s : State := W.ask (W.on) .timeLeapSet 3 0 (W.body 2); let ch : Nat := 0; let r : Request := W.req s .timeLeapSet; let c : Caller := W.who s r; let sign : Int := 1; (Claims.Asked s ch .timeLeapSet r c) ∧ (c.isOfficer = true) ∧ (c.slots 2 = true) ∧ (sign = 1 ∨ sign = -1 ∨ sign = 0) ∧ (s.anySealed = false) ∧ (s.time.smearing = none) := by decide +kernel

/-- What clause 6 of StoreTimeSafeCommandsComplete assumes can be met. -/
theorem witness_StoreTimeSafeCommandsComplete_5 :
    let s : State := W.ask (W.relay) .safeOpen 1 0 (W.body 1); let ch : Nat := 0; let r : Request := W.req s .safeOpen; let c : Caller := W.who s r; let slot : Nat := 5; (Claims.Asked s ch .safeOpen r c) ∧ (c.slots 1 = true) ∧ ((s.chan ch).await = none) ∧ (c.isOwner (s.meterTenant slot) = true) ∧ (s.meterHere slot = true) ∧ (s.isReleasing (s.meterTenant slot) = false) ∧ (s.isRelay slot = true) ∧ ((s.safeMeter slot).out = none) := by decide +kernel

/-- What clause 7 of StoreTimeSafeCommandsComplete assumes can be met. -/
theorem witness_StoreTimeSafeCommandsComplete_6 :
    let s : State := W.ask ({ W.on with safe := { meters := [(5, { out := some { kind := 1, seq := 4, deadline := 9 } })] } }) .safeCancel 1 0 (W.body 1); let ch : Nat := 0; let r : Request := W.req s .safeCancel; let c : Caller := W.who s r; let slot : Nat := 5; let x : SafeCmd := { kind := 1, seq := 4, deadline := 9 }; (Claims.Asked s ch .safeCancel r c) ∧ (c.slots 1 = true) ∧ ((s.chan ch).await = none) ∧ (c.isOwner (s.meterTenant slot) = true) ∧ (s.meterHere slot = true) ∧ (s.isReleasing (s.meterTenant slot) = false) ∧ ((s.safeMeter slot).out = some x) ∧ (x.locked = false) := by decide +kernel

/-- What clause 1 of RecorderRecordCommandsComplete assumes can be met. -/
theorem witness_RecorderRecordCommandsComplete_0 :
    let s : State := W.ask (W.on) .barrowHold 1 0 (W.body 0); let ch : Nat := 0; let r : Request := W.req s .barrowHold; let c : Caller := W.who s r; (Claims.Asked s ch .barrowHold r c) ∧ (c.isOperator = true) ∧ (c.slots 0 = true) ∧ (s.ev.hold = none) := by decide +kernel

/-- What clause 2 of RecorderRecordCommandsComplete assumes can be met. -/
theorem witness_RecorderRecordCommandsComplete_1 :
    let s : State := W.ask ({ W.on with ev := { hold := some ⟨9, 2, 5⟩ } }) .barrowHold 1 0 (W.body 0); let ch : Nat := 0; let r : Request := W.req s .barrowHold; let c : Caller := W.who s r; let x : Hold := ⟨9, 2, 5⟩; (Claims.Asked s ch .barrowHold r c) ∧ (c.isOperator = true) ∧ (c.slots 0 = true) ∧ (s.ev.hold = some x) := by decide +kernel

/-- What clause 3 of RecorderRecordCommandsComplete assumes can be met. -/
theorem witness_RecorderRecordCommandsComplete_2 :
    let s : State := W.ask ({ W.on with ev := { hold := some ⟨7, 0, 200000000⟩ } }) .barrowRelease 1 0 (W.body 0); let ch : Nat := 0; let r : Request := W.req s .barrowRelease; let c : Caller := W.who s r; (Claims.Asked s ch .barrowRelease r c) ∧ (c.isOperator = true) ∧ (c.slots 0 = true) ∧ (s.holds c = true) := by decide +kernel

/-- What clause 4 of RecorderRecordCommandsComplete assumes can be met. -/
theorem witness_RecorderRecordCommandsComplete_3 :
    let s : State := W.ask (W.on) .barrowTriggerNow 4 0 (W.body 1); let ch : Nat := 0; let r : Request := W.req s .barrowTriggerNow; let c : Caller := W.who s r; let trigger : Nat := 4; (Claims.Asked s ch .barrowTriggerNow r c) ∧ (c.isService = true) ∧ (c.slots 1 = true) ∧ (trigger < 32) ∧ (s.ev.slots = []) := by decide +kernel

/-- What clause 5 of RecorderRecordCommandsComplete assumes can be met. -/
theorem witness_RecorderRecordCommandsComplete_4 :
    let s : State := W.ask W.on .ctrlRecordWrite 3 0 (le 2 Schema.RecorderPolicy.id ++ [1, 0] ++ le 4 0 ++ le 2 Schema.RecorderPolicy.bodyLen ++ List.replicate 6 0 ++ le Schema.RecorderPolicy.bodyLen Schema.RecorderPolicy.defaultBody); let ch : Nat := 0; let r : Request := W.req s .ctrlRecordWrite; let c : Caller := W.who s r; let record : List Byte := (le 2 Schema.RecorderPolicy.id ++ [1, 0] ++ le 4 0 ++ le 2 Schema.RecorderPolicy.bodyLen ++ List.replicate 6 0 ++ le Schema.RecorderPolicy.bodyLen Schema.RecorderPolicy.defaultBody); let x : RecordHeader := headerOfRecord record; let new : Nat := Schema.RecorderPolicy.defaultBody; let notes : List ReportEntry := []; (Claims.Asked s ch .ctrlRecordWrite r c) ∧ ((s.chan ch).await = none) ∧ (c.tagged = true) ∧ (c.body.length = record.length) ∧ (16 ≤ record.length) ∧ (x = headerOfRecord record) ∧ ((recordRule x.rid).isSome = true) ∧ (record.length = 16 + x.len) ∧ (x.version = 1) ∧ (x.validate = false) ∧ (x.rid ≠ Rec.MeterSec.Assigned.rid) ∧ (s.mayWrite (Claims.ruleOf x.rid) x.rid c x.tenant x.inst = true) ∧ ((Claims.ruleOf x.rid).owner s x.inst ≠ .chip ∨ x.tenant = 0) ∧ (s.judgeRecord (Claims.ruleOf x.rid) (Claims.schemaOf x.rid) x.tenant x.inst x.len (record.drop 16) = .accept new notes) := by decide +kernel

/-- What clause 6 of RecorderRecordCommandsComplete assumes can be met. -/
theorem witness_RecorderRecordCommandsComplete_5 :
    let s : State := W.ask W.on .ctrlRecordWrite 3 0 (le 2 Schema.RecorderPolicy.id ++ [1, 1] ++ le 4 0 ++ le 2 Schema.RecorderPolicy.bodyLen ++ List.replicate 6 0 ++ le Schema.RecorderPolicy.bodyLen Schema.RecorderPolicy.defaultBody); let ch : Nat := 0; let r : Request := W.req s .ctrlRecordWrite; let c : Caller := W.who s r; let record : List Byte := (le 2 Schema.RecorderPolicy.id ++ [1, 1] ++ le 4 0 ++ le 2 Schema.RecorderPolicy.bodyLen ++ List.replicate 6 0 ++ le Schema.RecorderPolicy.bodyLen Schema.RecorderPolicy.defaultBody); let x : RecordHeader := headerOfRecord record; let new : Nat := Schema.RecorderPolicy.defaultBody; let notes : List ReportEntry := []; (Claims.Asked s ch .ctrlRecordWrite r c) ∧ ((s.chan ch).await = none) ∧ (c.tagged = true) ∧ (c.body.length = record.length) ∧ (16 ≤ record.length) ∧ (x = headerOfRecord record) ∧ ((recordRule x.rid).isSome = true) ∧ (record.length = 16 + x.len) ∧ (x.version = 1) ∧ (x.validate = true) ∧ (s.mayWrite (Claims.ruleOf x.rid) x.rid c x.tenant x.inst = true) ∧ ((Claims.ruleOf x.rid).owner s x.inst ≠ .chip ∨ x.tenant = 0) ∧ (s.judgeRecord (Claims.ruleOf x.rid) (Claims.schemaOf x.rid) x.tenant x.inst x.len (record.drop 16) = .accept new notes) := by decide +kernel

/-- What clause 7 of RecorderRecordCommandsComplete assumes can be met. -/
theorem witness_RecorderRecordCommandsComplete_6 :
    let s : State := W.ask ({ W.on with records := [((Schema.RecorderPolicy.id, 0), ⟨0, Schema.RecorderPolicy.defaultBody⟩)] }) .ctrlRecordDefault 3 0 (W.body 3); let ch : Nat := 0; let r : Request := W.req s .ctrlRecordDefault; let c : Caller := W.who s r; let rid : Nat := Schema.RecorderPolicy.id; let inst : Nat := 0; let tenant : Nat := 0; (Claims.Asked s ch .ctrlRecordDefault r c) ∧ (c.slots 3 = true) ∧ ((s.chan ch).await = none) ∧ ((recordRule rid).isSome = true) ∧ ((Claims.ruleOf rid).writer s c tenant inst = true) ∧ ((Claims.ruleOf rid).owner s inst = .chip ∨ (Claims.ruleOf rid).owner s inst = .header ∨ (Claims.ruleOf rid).owner s inst = .object tenant) ∧ (tenant < 16) ∧ (inst < (Claims.schemaOf rid).instances) ∧ (s.recordOwner (Claims.ruleOf rid) rid inst = some tenant) ∧ ((Claims.ruleOf rid).absent s inst ((Claims.schemaOf rid).defaulted (s.bodyOf (Claims.schemaOf rid) inst)) = none) ∧ (s.isReleasing tenant = false) ∧ ((Claims.ruleOf rid).check s tenant inst (s.bodyOf (Claims.schemaOf rid) inst) ((Claims.schemaOf rid).defaulted (s.bodyOf (Claims.schemaOf rid) inst)) = none) := by decide +kernel

/-- What clause 8 of RecorderRecordCommandsComplete assumes can be met. -/
theorem witness_RecorderRecordCommandsComplete_7 :
    let s : State := W.ask W.on .configBundleSubmit 3 0 (List.replicate 10 0); let ch : Nat := 0; let r : Request := W.req s .configBundleSubmit; let c : Caller := W.who s r; let total : Nat := 9; let part : List Byte := [1, 2]; (Claims.Asked s ch .configBundleSubmit r c) ∧ ((s.chan ch).await = none) ∧ (c.isOfficer = true) ∧ (c.body.length = 8 + part.length) ∧ (part.length ≤ 262136) ∧ (s.upd.bundle = none) ∧ (total ≤ 1048656) ∧ (part.length < total) := by decide +kernel

/-- What clause 9 of RecorderRecordCommandsComplete assumes can be met. -/
theorem witness_RecorderRecordCommandsComplete_8 :
    let s : State := W.ask { W.on with upd := { W.on.upd with bundle := some { sessionId := 7, total := 9, bytes := [4], lastMs := 0 } } } .configBundleSubmit 3 0 (List.replicate 10 0); let ch : Nat := 0; let r : Request := W.req s .configBundleSubmit; let c : Caller := W.who s r; let a : BundleAsm := { sessionId := 7, total := 9, bytes := [4], lastMs := 0 }; let part : List Byte := [1, 2]; (Claims.Asked s ch .configBundleSubmit r c) ∧ ((s.chan ch).await = none) ∧ (c.isOfficer = true) ∧ (c.body.length = 8 + part.length) ∧ (part.length ≤ 262136) ∧ (s.upd.bundle = some a) ∧ (a.sessionId = c.sessionId) ∧ (a.total ≤ 1048656) ∧ (a.bytes.length + part.length < a.total) := by decide +kernel

/-- What clause 10 of RecorderRecordCommandsComplete assumes can be met. -/
theorem witness_RecorderRecordCommandsComplete_9 :
    let s : State := W.ask (W.on) .ctrlRecordDefault 3 0 (W.body 3); let ch : Nat := 0; let r : Request := W.req s .ctrlRecordDefault; let c : Caller := W.who s r; let rid : Nat := Schema.RecorderPolicy.id; let inst : Nat := 0; let tenant : Nat := 0; (Claims.Asked s ch .ctrlRecordDefault r c) ∧ (c.slots 3 = true) ∧ ((s.chan ch).await = none) ∧ ((recordRule rid).isSome = true) ∧ ((Claims.ruleOf rid).writer s c tenant inst = true) ∧ ((Claims.ruleOf rid).owner s inst = .chip ∨ (Claims.ruleOf rid).owner s inst = .header ∨ (Claims.ruleOf rid).owner s inst = .object tenant) ∧ (tenant < 16) ∧ (inst < (Claims.schemaOf rid).instances) ∧ (s.recordOwner (Claims.ruleOf rid) rid inst = none) ∧ ((Claims.ruleOf rid).absent s inst ((Claims.schemaOf rid).defaulted (s.bodyOf (Claims.schemaOf rid) inst)) = none) ∧ (s.isReleasing tenant = false) := by decide +kernel

/-! ### Ill-formed commands -/

/-- A channel beyond 31. -/
theorem test_wf_channel : Instr.wf (.ctrlPing 32) = false ∧ Instr.wf (.ctrlPing 31) = true := by decide +kernel

/-- A region beyond 10. -/
theorem test_wf_region : Instr.wf (.regionRestartDone 11) = false ∧ Instr.wf (.regionRestartDone 10) = true := by decide +kernel

/-- A tenant beyond 15, and an instance beyond 65 535. -/
theorem test_wf_tenant : Instr.wf (.faultPolicyRecord 16 0 []) = false ∧ Instr.wf (.faultPolicyRecord 0 65536 []) = false := by decide +kernel

/-- A lane beyond a byte. -/
theorem test_wf_lane : Instr.wf (.superframeReceived 256 [] 0 0 []) = false := by decide +kernel

/-- A number that does not fit a slot, alone and in a list. -/
theorem test_wf_slot : Instr.wf (.probationEnd (2 ^ 64)) = false ∧ Instr.wf (.superframeReceived 0 [] 0 0 [2 ^ 64]) = false := by decide +kernel

/-- A signed number that does not fit a slot. -/
theorem test_wf_int : Instr.wf (.timeLeapSet 0 0 (2 ^ 63)) = false ∧ Instr.wf (.timeLeapSet 0 0 (-1)) = true := by decide +kernel

/-- A role beyond a byte, and a slot of a credential beyond 32 bits. -/
theorem test_wf_role : Instr.wf (.ctrlSessionHello 0 256 0 0) = false ∧ Instr.wf (.ctrlSessionHello 0 0 0 4294967296) = false := by decide +kernel

/-- A body too long. -/
theorem test_wf_body : isBody (List.replicate 262145 0) = false := by
  unfold isBody
  rw [List.length_replicate]
  decide +kernel

/-! ### Examples of the spec and of the standards it names -/

/-- FIPS 197, example C.1. -/
theorem test_aes : ofBe (aesEnc (bytes (List.range 16)) (bytes ((List.range 16).map (17 * ·)))) = 0x69c4e0d86a7b0430d8cdb78070b4c55a := by decide +kernel

/-- FIPS 180-4: the digest of "abc". -/
theorem test_sha256 : ofBe (sha256 [0x61, 0x62, 0x63]) = 0xba7816bf8f01cfea414140de5dae2223b00361a396177a9cb410ff61f20015ad := by decide +kernel

/-- R546's example: the claim words of chapter 22. -/
theorem test_claim_word :
    (W.put { W.on with pair := { st := .activeSolo, serving := true, epoch := 41 } } Rec.Pair.ChipLetter 0 0).claimWord = 0x8000001480000000 ∧
      (W.put { W.on with pair := { st := .ready, epoch := 41 } } Rec.Pair.ChipLetter 0 1).claimWord = 0x0000001480000001 := by decide +kernel

/-- Chapter 10's example: a POLL of 16 bytes takes 78 symbols, a READING of 40 takes 126, and the largest payload 4 386. -/
theorem test_ling_symbols :
    lingSymbols 16 2 4 32 = 78 ∧ lingSymbols 40 2 4 32 = 126 ∧ dataSymbols 256 8 8 = 4140 := by decide +kernel

/-- Chapter 10's example: seed 14 961 in 2 752 positions. -/
theorem test_interleaver :
    interleaver 2752 0x3A71 = (1815, 1025) ∧ placeOf 2752 0x3A71 0 = 1025 ∧ placeOf 2752 0x3A71 684 = 1333 ∧ placeOf 2752 0x3A71 1 = 88 := by
  decide +kernel

/-- Chapter 15's example: the low bits of the token, its amount field and its digits. -/
theorem test_token :
    amountField 10 20000 = some 0x07D0 ∧ tokenLow 2000 0 517 = 67766224 ∧ tokenDigits 3773257686321104 = [3773, 2576, 8632, 1104] := by decide +kernel

/-- Chapter 17's example: the technical loss of zone 1 803. -/
theorem test_tech_loss :
    let s := W.put (W.put (W.put (W.put W.on Rec.Zone.FixedMw 1803 318000) Rec.Zone.PhaseResMicroOhm 1803 12000) Rec.Zone.NeutralResMicroOhm 1803 15000)
      Rec.Zone.PropPpm 1803 0
    s.techLoss 1803 { trib := 1803, zone := 1803, assigned := true, flags := 0, stop := 0, missing := 0, cycles := 1, inc := [], vavg := [],
                      iavg := [472600, 433000, 499200], inavg := 61000, freq := 0, thd := [] } 81485000 = 2073575 := by decide +kernel

/-- Chapter 3's example: a short fault-policy write, its fields clamped and forced as Table 3-10 lists. -/
theorem test_fault_policy :
    (match W.on.judgeRecord ruleFaultPolicy Schema.FaultPolicy 0 0 8 [0x25, 0x00, 0x32, 0x00, 0xD0, 0x07, 0x28, 0x02] with
     | .accept b _ => [bitsAt b 0 4, bitsAt b 4 4, bitsAt b 8 8, bitsAt b 16 16, bitsAt b 32 16, bitsAt b 48 8, bitsAt b 56 8, bitsAt b 64 16]
     | .refuse _ _ => []) = [3, 0, 1, 100, 2000, 32, 2, 3600] := by decide +kernel

/-- R109: rounding half to even, and saturation of what does not fit. -/
theorem test_narrow :
    roundEven 1 5 = 2 ∧ roundEven 1 3 = 2 ∧ roundEven 1 (-3) = -2 ∧ narrow 18 2 600000 = (131071, true) := by decide +kernel

/-- The check value of CRC-16/EN-13757: 0xC2B7 of "123456789". -/
theorem test_wm_crc : wmCrc [0x31, 0x32, 0x33, 0x34, 0x35, 0x36, 0x37, 0x38, 0x39] = 0xC2B7 := by decide +kernel

/-- R110: two periods later the fs/4 mix has turned by half a turn. -/
theorem test_fs4 : fs4Mix 4 7 = { re := 7 } ∧ fs4Mix 6 7 = { re := -7 } ∧ fs4Mix 5 7 = { im := -7 } := by decide +kernel

end Sys2Proof
end

section
/-! Rules of the shared operations in the terms of the statements: what a frame composes to, and what raising an event adds. -/

namespace Sys2Proof

open Machine

/-! ### Frames -/

theorem Claims.Frame.refl (l : List Claims.Part) (s : State) : Claims.Frame l s s := by
  intro p _ _
  cases p <;> simp [Claims.Part.same]

theorem Claims.Part.same_trans {p : Claims.Part} {s t u : State} (h : p.same s t = true) (k : p.same t u = true) : p.same s u = true := by
  cases p <;> simp_all [Claims.Part.same]

theorem Claims.Frame.trans {l : List Claims.Part} {s t u : State} (h : Claims.Frame l s t) (k : Claims.Frame l t u) : Claims.Frame l s u :=
  fun p hp hl => Claims.Part.same_trans (h p hp hl) (k p hp hl)

/-- A frame may name more parts than change. -/
theorem Claims.Frame.mono {l m : List Claims.Part} {s t : State} (h : Claims.Frame l s t) (hl : l ⊆ m) : Claims.Frame m s t :=
  fun p hp hm => h p hp fun k => hm (hl k)

theorem Claims.Frame.ctrs (s : State) (m : Map Ctr Nat) : Claims.Frame [.ctrs] s { s with ctrs := m } := by
  intro p _ hl
  cases p <;> simp_all [Claims.Part.same]

theorem Claims.Frame.ten (s : State) (x : Tenants) : Claims.Frame [.ten] s { s with ten := x } := by
  intro p _ hl
  cases p <;> simp_all [Claims.Part.same]

theorem Claims.Frame.arch (s : State) (x : Arch) : Claims.Frame [.arch] s { s with arch := x } := by
  intro p _ hl
  cases p <;> simp_all [Claims.Part.same]

theorem Claims.Frame.rx (s : State) (x : Rx) : Claims.Frame [.rx] s { s with rx := x } := by
  intro p _ hl
  cases p <;> simp_all [Claims.Part.same]

theorem Claims.Frame.raise (s : State) (e : Ev) (t : Nat) (p : List Nat) (o : Bool) : Claims.Frame [.ctrs, .time, .ev] s (s.raise e t p o) := by
  intro p _ hl
  cases p <;> simp_all [Claims.Part.same]

end Sys2Proof
end

section
/-! What raising an event, counting and the operations of reception (chapter 6) do, each said once. -/

namespace Sys2Proof.Machine

open Sys2Proof

/-! ### Events and counters -/

/-- An event of a source that is never absent enters a queue that has room (R503, R505). -/
theorem State.raise_room (s : State) (e : Ev) (t : Nat) (p : List Nat) (o : Bool) (he : e.source < 144 ∨ 176 ≤ e.source)
    (hq : Claims.Room s) :
    s.raise e t p o = { s.issued s.stamp with ev := { s.ev with queue := s.ev.queue ++ [⟨e, t, s.stamp, p, o⟩] } } := by
  have hl : ¬(144 ≤ e.source ∧ e.source < 176 ∧ s.lineHere = false) := by omega
  have hq' : s.ev.queue.length < 4096 := Nat.lt_of_lt_of_le (Nat.lt_add_of_pos_right (by decide)) hq
  simp [State.raise, hl, hq']

/-- Such an event is the one entry that the queue gains, and no counter moves. -/
theorem State.raised_raise (s : State) (e : Ev) (t : Nat) (p : List Nat) (o : Bool) (he : e.source < 144 ∨ 176 ≤ e.source)
    (hq : Claims.Room s) : Claims.Raised e t p s (s.raise e t p o) ∧ (s.raise e t p o).ctrs = s.ctrs := by
  rw [s.raise_room e t p o he hq]
  exact ⟨⟨by simp, by simp⟩, by simp⟩

/-- Counting once for each of a list changes the counters alone. -/
theorem State.foldl_count {α : Type} (k : α → Ctr) (l : List α) (s : State) :
    ∃ m, l.foldl (fun s p => s.count (k p)) s = { s with ctrs := m } := by
  induction l generalizing s with
  | nil => exact ⟨s.ctrs, rfl⟩
  | cons a l ih =>
    obtain ⟨m, hm⟩ := ih (s.count (k a))
    exact ⟨m, hm⟩

/-- What every step of a fold keeps, the fold keeps. -/
theorem foldl_keeps {α β σ : Type} (f : σ → β) (g : σ → α → σ) (h : ∀ s a, f (g s a) = f s) (l : List α) (s : σ) : f (l.foldl g s) = f s := by
  induction l generalizing s with
  | nil => rfl
  | cons a l ih => exact (ih (g s a)).trans (h s a)

/-! ### Contexts -/

@[simp] theorem State.ctx_setCtx (s : State) (n : Nat) (c : RxCtx) : (s.setCtx n c).ctx n = some c := Map.get?_put_self _ _ _

@[simp] theorem State.ctx_setUnit (s : State) (n : Nat) (u : UnitId) (x : EnUnit) : (s.setUnit u x).ctx n = s.ctx n := rfl

@[simp] theorem State.ctx_count (s : State) (k : Ctr) (i n : Nat) : (s.count k i).ctx n = s.ctx n := rfl

/-- A context that opens is set and its unit started, and otherwise moves only counters and what the arbiter keeps (R145). -/
theorem State.openCtx_eq (s : State) (n : Nat) (c : RxCtx) :
    ∃ m k, s.openCtx n c = (({ s with ctrs := m, ten := k } : State).setCtx n c).setUnit (.context n)
      { s.unit (.context n) with st := if c.st = .starting then .starting else .on } := by
  obtain ⟨k, hk⟩ : ∃ k, (if c.origin = 0 then s.charge .contexts c.b.tenant 1 else s.chargePool .contexts 1) = { s with ten := k } := by
    split
    · exact ⟨_, rfl⟩
    · exact ⟨_, rfl⟩
  obtain ⟨m, hm⟩ := State.foldl_count (fun p : Nat × Nat => { name := .rxUsed, a := p.1, b := p.2 }) c.branches { s with ten := k }
  refine ⟨m, k, ?_⟩
  unfold State.openCtx
  rw [hk]
  dsimp only
  rw [hm]
  rfl

theorem State.rx_openCtx (s : State) (n : Nat) (c : RxCtx) : (s.openCtx n c).rx = { s.rx with ctxs := Map.put s.rx.ctxs n c } := by
  obtain ⟨m, k, h⟩ := s.openCtx_eq n c
  rw [h]
  rfl

theorem State.ctx_openCtx (s : State) (n : Nat) (c : RxCtx) : (s.openCtx n c).ctx n = some c := by
  simp [State.ctx, State.rx_openCtx]

theorem State.unitSt_openCtx (s : State) (n : Nat) (c : RxCtx) :
    (s.openCtx n c).unitSt (.context n) = if c.st = .starting then .starting else .on := by
  obtain ⟨m, k, h⟩ := s.openCtx_eq n c
  simp [h]

/-- Where no detection waits, none is merged (R149). -/
theorem State.mergeWaiting_none (s : State) (h : s.rx.detections = []) : s.mergeWaiting = s := by
  unfold State.mergeWaiting
  simp only [h, List.filter_nil, List.foldl_nil]
  rw [← h]

/-- The report of late branches leaves the contexts (R152). -/
theorem State.ctx_reportLate (s : State) (n lane m : Nat) : (s.reportLate n lane).ctx m = s.ctx m := by
  unfold State.reportLate
  cases Map.get? s.rx.lateMs lane with
  | none => simp [State.ctx]
  | some at' =>
    dsimp only
    split
    · simp [State.ctx]
    · rfl

/-! ### Bookings (R144, R145) -/

/-- Before the region is ready a booking is refused for no quantity. -/
theorem State.book_unready (s : State) (b : Booking) (l : Bool) (h : s.rxReady = false) : s.book b l = (none, s.refuseBooking b.group none) := by
  simp [State.book, h]

/-- A booking ahead in time, within its ranges and the limits, is taken under the next number. -/
theorem State.book_taken (s : State) (b : Booking)
    (ha : s.time.air + 5 * airPerMs ≤ b.openAt) (ha' : b.openAt ≤ s.time.air + 600000 * airPerMs)
    (hw : b.openAt + airPerMs ≤ b.closeAt) (hw' : b.closeAt ≤ b.openAt + 60000 * airPerMs)
    (hr : b.inRange = true) (hy : s.rxReady = true) (hb : s.bookingBound b = none) :
    (s.book b false).2 = ({ s with rx := { s.rx with
      booked := s.rx.booked ++ [{ id := s.rx.nextId, b := b, pol := s.rxPol b.mode, count := (s.bookingBranches b).length }],
      nextId := s.rx.nextId + 1 } } : State).count { name := .rxBookings, a := b.group } := by
  simp [State.book, ha, ha', hw, hw', hr, hy, hb]

/-! ### Detections (R150) -/

/-- The first detection a group drops is reported at once. -/
theorem State.dropDetection_first (s : State) (g : Nat) (h : Map.get? s.rx.dropMs g = none) :
    s.dropDetection g = ({ s.count { name := .rxDropped, a := g } with rx := { s.rx with
      dropCount := Map.put s.rx.dropCount g 0, dropMs := Map.put s.rx.dropMs g s.time.ms } } : State).raise .rxDetectDropped 0
        [g, Map.getD s.rx.dropCount g 0 + 1] := by
  simp [State.dropDetection, h]

/-! ### Outcomes (R157) -/

/-- The outcome of a booked context: it stops, counts, reports to the air region, and hands on a frame that passed its check. -/
theorem State.setOutcome_booked (s : State) (n : Nat) (c : RxCtx) (o : Nat) (f : List Byte) (same : Bool) (x : Option RxMeas) (hand : Bool)
    (hc : c.origin = 0) :
    ∃ m, s.setOutcome n c o f same x hand =
      let d := s.descriptor n c o same f.length x
      let t := (({ s with ctrs := m } : State).setCtx n { c with st := .stopping, outcome := some o, desc := d }).setUnit (.context n)
        { s.unit (.context n) with st := .stopping false, stopAt := s.time.ms }
      { t with rx := { t.rx with
          outcomes := s.rx.outcomes ++ [⟨c.id, o, c.b, c.frameStart, f, d⟩],
          toSecurity := if o = 0 ∧ hand = true then
              s.rx.toSecurity ++ [{ frame := f, desc := d, mode := c.b.mode, origin := c.origin, hint := c.b.meter,
                                    startAir := c.frameStart.getD c.b.openAt, endAir := c.endAir.getD 0 }]
            else s.rx.toSecurity } } := by
  have hl : c.origin ≠ 2 := by omega
  unfold State.setOutcome
  simp only [if_pos hc, if_neg hl]
  by_cases ho : o = 0
  · by_cases hf : o = 0 ∧ hand = true
    · simp only [if_pos ho, if_pos hf]
      exact ⟨_, rfl⟩
    · simp only [if_pos ho, if_neg hf]
      exact ⟨_, rfl⟩
  · simp only [ho, false_and, if_false]
    exact ⟨_, rfl⟩

end Sys2Proof.Machine
end

section
/-! The reception events of chapters 6 and 7 (O27): what each operation leaves, each row on the states its clause names, and the statement. -/

namespace Sys2Proof

open Machine

/-! ### Frames of the operations of reception -/

theorem Claims.Frame.openCtx (s : State) (n : Nat) (c : RxCtx) : Claims.Frame [.rx, .arch, .ctrs, .ten] s (s.openCtx n c) := by
  obtain ⟨m, k, h⟩ := s.openCtx_eq n c
  rw [h]
  intro p _ hl
  cases p <;> simp_all [Claims.Part.same]

theorem Claims.Frame.takeFrame (s : State) (n startAir : Nat) (c : RxCtx) (freqHz : Int) (formatB : Bool)
    (l : List ((Nat × Nat) × BranchEst)) : Claims.Frame [.rx, .arch] s (s.takeFrame n startAir c freqHz formatB l) := by
  intro p _ hl
  cases p <;> simp_all [Claims.Part.same, State.takeFrame]

theorem Claims.Frame.setOutcome_booked (s : State) (n : Nat) (c : RxCtx) (o : Nat) (f : List Byte) (same : Bool) (x : Option RxMeas)
    (hand : Bool) (hc : c.origin = 0) : Claims.Frame [.rx, .arch, .ctrs] s (s.setOutcome n c o f same x hand) := by
  obtain ⟨m, h⟩ := s.setOutcome_booked n c o f same x hand hc
  rw [h]
  intro p _ hl
  cases p <;> simp_all [Claims.Part.same]

/-! ### What a context and the queues read after an operation -/

namespace Machine

/-- A booking opened for the air region leaves the list of those that wait (R142). -/
theorem State.openBooked_booked (s : State) (n r : Nat) (x : Booked) (hl : x.listen = false) :
    (((s.openBooked n x r).ctx n).map fun c => (c.st, c.id, c.b)) = some (.starting, x.id, x.b) ∧
    (s.openBooked n x r).rx.booked = s.rx.booked.filter (fun y => !(y.id == x.id)) ∧
    Claims.Frame [.rx, .arch, .ctrs, .ten] s (s.openBooked n x r) := by
  have h : s.openBooked n x r = _ := if_neg (by simp [hl])
  rw [h]
  refine ⟨by simp [State.ctx_openCtx], by simp [State.rx_openCtx], ?_⟩
  exact ((Claims.Frame.rx s _).mono (by simp)).trans (Claims.Frame.openCtx _ _ _)

/-- A booked context that stops: its state and outcome, the outcome the air region is told, and the frame handed on (R157). -/
theorem State.setOutcome_booked_reads (s : State) (n : Nat) (c : RxCtx) (o : Nat) (f : List Byte) (same : Bool) (x : Option RxMeas)
    (hc : c.origin = 0) :
    (((s.setOutcome n c o f same x).ctx n).map fun c => (c.st, c.outcome)) = some (.stopping, some o) ∧
    ((s.setOutcome n c o f same x).rx.outcomes.getLast?.map fun y => (y.id, y.outcome)) = some (c.id, o) ∧
    (s.setOutcome n c o f same x).unitSt (.context n) = .stopping false ∧
    (o = 0 → ((s.setOutcome n c o f same x).rx.toSecurity.getLast?.map fun y => (y.frame, y.mode)) = some (f, c.b.mode)) := by
  obtain ⟨m, h⟩ := s.setOutcome_booked n c o f same x true hc
  rw [h]
  refine ⟨?_, ?_, ?_, fun ho => ?_⟩
  · simp [State.ctx, State.setUnit, State.setCtx]
  · simp
  · simp [State.unitSt, State.unit, State.setUnit, State.setCtx]
  · simp [ho]

/-- The first detection that a group drops: the waiting ones stay, the drop is counted and reported (R150). -/
theorem State.dropDetection_reads (s : State) (g : Nat) (h : Map.get? s.rx.dropMs g = none) (hr : Claims.Room s) :
    ∃ t, s.dropDetection g = t ∧ t.rx.detections = s.rx.detections ∧ Claims.Counted { name := .rxDropped, a := g } 1 s t ∧
      Claims.Raised .rxDetectDropped 0 [g, Map.getD s.rx.dropCount g 0 + 1] s t ∧ Claims.Frame [.rx, .ctrs, .time, .ev] s t := by
  let u : State := { s.count { name := .rxDropped, a := g } with rx := { s.rx with
    dropCount := Map.put s.rx.dropCount g 0, dropMs := Map.put s.rx.dropMs g s.time.ms } }
  obtain ⟨hraised, hctrs⟩ := u.raised_raise .rxDetectDropped 0 [g, Map.getD s.rx.dropCount g 0 + 1] false (by decide) hr
  refine ⟨_, s.dropDetection_first g h, ?_, ?_, hraised, ?_⟩
  · simp
  · exact (congrArg (fun m => Map.getD m _ 0) hctrs).trans (State.ctr_count _ _ _)
  · exact (((Claims.Frame.ctrs s _).mono (by simp)).trans ((Claims.Frame.rx _ _).mono (by simp))).trans ((Claims.Frame.raise _ _ _ _ _).mono (by simp))

/-! ### The rows on the states their clauses name -/

/-- A watched branch's metric at the threshold opens a context in retrospect on the free entry (R147, R149). -/
theorem execWatcherDetection_opens (s : State) (group channel antenna mode startAir n k : Nat)
    (hw : s.watches group channel antenna mode = true) (hm : modeRetro mode = true)
    (hl : (s.rx.detMs.filter fun m => decide (s.time.ms < m + 1000)).length < 131072) (hg : s.mergesInto group startAir = false)
    (hf : s.retroFits { group := group, channel := channel, antenna := antenna, mode := mode, startAir := startAir, ms := s.time.ms,
                        air := s.time.air, pol := s.rxPol mode } = true)
    (hn : s.freeCtx = some n) :
    execWatcherDetection group channel antenna mode startAir (Config.watchThreshold mode + s.rdS Rec.RxPolicy.DetectMargin + k) s =
      .next (({ s.count { name := .rxDetections, a := group } with rx := { s.rx with
        detMs := s.time.ms :: s.rx.detMs.filter fun m => decide (s.time.ms < m + 1000) } } : State).openRetro n
          { group := group, channel := channel, antenna := antenna, mode := mode, startAir := startAir, ms := s.time.ms,
            air := s.time.air, pol := s.rxPol mode }) := by
  have hi : ¬(((!s.watches group channel antenna mode) = true) ∨
      Config.watchThreshold mode + s.rdS Rec.RxPolicy.DetectMargin + k < Config.watchThreshold mode + s.rdS Rec.RxPolicy.DetectMargin) := by
    rintro (h | h)
    · simp [hw] at h
    · omega
  have hr : ¬((!s.retroFits { group := group, channel := channel, antenna := antenna, mode := mode, startAir := startAir, ms := s.time.ms,
                              air := s.time.air, pol := s.rxPol mode }) = true ∨ (!modeRetro mode) = true) := by
    simp [hf, hm]
  unfold execWatcherDetection
  refine Eq.trans (if_neg hi) (Eq.trans (if_neg (Nat.not_le.mpr hl)) (Eq.trans (if_neg (Bool.eq_false_iff.mp hg)) (Eq.trans (if_neg hr) ?_)))
  split
  next n' h =>
    obtain rfl : n' = n := Option.some.inj (h.symm.trans hn)
    rfl
  next h => exact absurd (h.symm.trans hn) nofun

/-- A frame within the window and the search that no other context has is tracked (R146, R153). -/
theorem execContextFrameDetected_takes (s : State) (n startAir : Nat) (freqHz : Int) (formatB : Bool) (metrics : List Nat) (gains : List Int)
    (noise : List Nat) (tau : List Int) (x : RxCtx) (hx : s.ctx n = some x) (hs : x.st = .search ∨ x.st = .starting)
    (hw : x.origin = 1 ∨ x.b.openAt ≤ startAir ∧ startAir ≤ x.b.closeAt)
    (hf : x.origin = 1 ∨ Config.searchThreshold x.b.mode x.branches.length ≤ (metrics.take x.branches.length).sum)
    (hq : x.searches freqHz = true) (ho : s.sameFrameCtxs n x.b.group startAir = []) (hd : s.rx.detections = []) :
    execContextFrameDetected n startAir freqHz formatB metrics gains noise tau s =
      .next (s.takeFrame n startAir x freqHz formatB (x.estimates gains noise tau)) := by
  have hd' : (s.takeFrame n startAir x freqHz formatB (x.estimates gains noise tau)).rx.detections = [] := hd
  simp [execContextFrameDetected, hx, hs.symm, hw, hf, hq, ho, State.mergeWaiting_none _ hd']

/-- A booked context whose window has passed ends with outcome 1 (R146). -/
theorem execContextNoFrame_ends (s : State) (n : Nat) (x : RxCtx) (hx : s.ctx n = some x) (ho : x.origin = 0)
    (hs : x.st = .search ∨ x.st = .starting) (hd : x.b.closeAt + modeLagMs x.b.mode * airPerMs ≤ s.time.air) :
    execContextNoFrame n s = .next (s.setOutcome n x 1 [] false none) := by
  have hs' : x.st = .search ∨ x.st = .starting ∧ x.origin ≠ 1 := hs.imp_right fun h => ⟨h, by omega⟩
  have hn : x.st ≠ .stopping := by rcases hs with h | h <;> simp [h]
  simp [execContextNoFrame, hx, hs', hd, State.endCtxWith, hn]

/-- A detection that waited too long is dropped (R150). -/
theorem execDetectionDrop_drops (s : State) (group : Nat) (d : Detection)
    (hd : s.rx.detections.find? (fun d => d.group == group && decide (d.ms + (60 - modeLagMs d.mode) ≤ s.time.ms)) = some d) :
    execDetectionDrop group s = .next (({ s with rx := { s.rx with detections := s.rx.detections.erase d } } : State).dropDetection group) := by
  simp [execDetectionDrop, hd]

/-- At its deadline a tracking context is FINAL, without its late branches and with its final pass (R152, R154). -/
theorem execAlignDeadline_finals (s : State) (n endAir : Nat) (x : RxCtx) (hx : s.ctx n = some x) (hs : x.st = .track)
    (hd : x.deadline endAir ≤ s.time.air) :
    ∃ t, execAlignDeadline n endAir s = .next t ∧
      t.ctx n = some { x with
        st := .final, endAir := some endAir, late := x.lateAt endAir,
        pass := ({ x with st := .final, endAir := some endAir, late := x.lateAt endAir } : RxCtx).finalPass } := by
  simp only [execAlignDeadline, hx]
  refine ⟨_, if_pos ⟨hs, hd⟩, ?_⟩
  have hreport := foldl_keeps (State.ctx · n) (fun s l => s.reportLate n l) fun s l => s.ctx_reportLate n l n
  have hcount := foldl_keeps (State.ctx · n) (fun s (p : Nat × Nat) => s.count { name := .rxLateExcl, a := p.1, b := p.2 })
    fun s _ => s.ctx_count _ _ n
  exact (hreport _ _).trans ((hcount _ _).trans (State.ctx_setCtx _ _ _))

/-- What the decoder of a wireless M-Bus context gave is its outcome (R156). -/
theorem execDecodeDone_booked (s : State) (n lead : Nat) (soft : List Int) (combinedSnr bestLevel : Int) (x : RxCtx) (hx : s.ctx n = some x)
    (hs : x.st = .final) (hm : 2 < x.b.mode) :
    ∃ m same, execDecodeDone n lead soft combinedSnr bestLevel s = .next (({ s with ctrs := m } : State).setOutcome n x (x.decode lead soft).1
      (if (x.decode lead soft).1 = 0 then (x.decode lead soft).2 else []) same (some ⟨combinedSnr, bestLevel⟩)) := by
  obtain ⟨m, h⟩ := State.foldl_count (fun p : Nat × Nat => { name := .rxWeakExcl, a := p.1, b := p.2 })
    (x.pass.weak.filterMap fun i => x.branches[i]?) s
  have hl : decide (x.b.mode ≤ 2) = false := decide_eq_false (by omega)
  refine ⟨m, decide (x.origin = 0 ∧ (x.decode lead soft).1 = 0) && (s.recInst Rec.MeterSec.Address.rid x.b.meter).isSome &&
    frameAddress (x.decode lead soft).2 == s.rd Rec.MeterSec.Address x.b.meter, ?_⟩
  simp only [execDecodeDone, State.decodeDone, hl, Bool.false_eq_true, if_false, hx, hs, ne_eq, not_true, if_true]
  rw [← h]

/-- A context freed with nothing held and nothing waiting leaves its entry FREE and its unit off (R141). -/
theorem State.freeContext_idle (s : State) (n : Nat) (x : RxCtx) (hx : s.ctx n = some x) (hs : x.st = .stopping) (hh : x.held = none)
    (hb : s.rx.booked = []) (hd : s.rx.detections = []) :
    s.freeContext n = { s with rx := { s.rx with ctxs := Map.del s.rx.ctxs n } }.setUnit (.context n)
      { s.unit (.context n) with st := .off, deferred := false } := by
  simp only [State.freeContext, hx, hs, hh, if_true]
  split
  · rfl
  · split
    next h => simp [hb] at h
    next =>
      rw [State.mergeWaiting_none]
      · split
        next h => simp [hd] at h
        next => rfl
      · exact hd

end Machine

/-- Settles O27. -/
theorem receptionEventsComplete : Obligations.ReceptionEventsComplete := by
  unfold Obligations.ReceptionEventsComplete
  refine ⟨?_, ?_, ?_, ?_, ?_, ?_, ?_, ?_, ?_, ?_, ?_, ?_, ?_, ?_, ?_, ?_, ?_, ?_⟩
  · intro s meter group headMask mode openAt closeAt maxFrameMs freqExpect freqSpan tenant ha ha' hw hw' hr hy hb
    have h := s.book_taken _ ha ha' hw hw' hr hy hb
    refine ⟨_, congrArg Host.Outcome.next h, ?_, ?_, ?_, ?_⟩
    · simp
    · simp
    · exact State.ctr_count _ _ _
    · exact ((Claims.Frame.rx s _).mono (by simp)).trans ((Claims.Frame.ctrs _ _).mono (by simp))
  · intro s meter group headMask mode openAt closeAt maxFrameMs freqExpect freqSpan tenant hy
    exact congrArg (fun o => Host.Outcome.next o.2)
      (s.book_unready ⟨meter, group, headMask, mode, openAt, closeAt, maxFrameMs, freqExpect, freqSpan, tenant⟩ false hy)
  · intro s id n x hx hd hr hf hn hl
    refine ⟨s.openBooked n x 0, ?_, s.openBooked_booked n 0 x hl⟩
    show execContextOpenDue id s = _
    simp [execContextOpenDue, hx, hd, State.openDue, hr, hf, hn]
  · intro s id x hx hd
    show execContextOpenDue id s = _
    simp [execContextOpenDue, hx, Nat.not_le.mpr hd]
  · intro s group channel antenna mode startAir n k hw hm hl hg hf hn
    refine ⟨_, execWatcherDetection_opens s group channel antenna mode startAir n k hw hm hl hg hf hn, ?_, ?_, ?_⟩
    · simp [State.openRetro, State.ctx_openCtx]
    · simp [State.openRetro, State.unitSt_openCtx]
    · exact (((Claims.Frame.ctrs s _).mono (by simp)).trans ((Claims.Frame.rx _ _).mono (by simp))).trans (Claims.Frame.openCtx _ _ _)
  · intro s group channel antenna mode startAir metric hw
    show execWatcherDetection group channel antenna mode startAir metric s = _
    simp [execWatcherDetection, hw]
  · intro s group d hd hg hr
    obtain ⟨t, ht, hrx, hcount, hraised, hframe⟩ := State.dropDetection_reads { s with rx := { s.rx with detections := s.rx.detections.erase d } } group hg hr
    exact ⟨t, (execDetectionDrop_drops s group d hd).trans (congrArg _ ht), hrx, hcount, hraised, ((Claims.Frame.rx s _).mono (by simp)).trans hframe⟩
  · intro s n x hx ho hs
    show execRetroCatchUp n s = _
    simp [execRetroCatchUp, hx, ho, hs]
  · intro s n startAir k freqHz formatB metrics gains noise tau x hx ho hs hb hw hw' hq hn hd
    have hf : Config.searchThreshold x.b.mode x.branches.length ≤
        (((Config.searchThreshold x.b.mode x.branches.length + k) :: metrics).take x.branches.length).sum := by
      obtain ⟨b, l, h⟩ := List.exists_cons_of_ne_nil hb
      simp only [h, List.length_cons, List.take_succ_cons, List.sum_cons]
      omega
    refine ⟨_, execContextFrameDetected_takes s n startAir freqHz formatB _ gains noise tau x hx hs (.inr ⟨hw, hw'⟩) (.inr hf) hq hn hd,
      ?_, ?_, Claims.Frame.takeFrame _ _ _ _ _ _ _⟩
    · simp [State.takeFrame, ho]
    · simp [State.takeFrame]
  · intro s n startAir freqHz formatB metrics gains noise tau x hx ho hs hq hn hd
    exact execContextFrameDetected_takes s n startAir freqHz formatB metrics gains noise tau x hx hs (.inl ho) (.inl ho) hq hn hd
  · intro s n x hx ho hs hd
    obtain ⟨hc, hr, hu, -⟩ := s.setOutcome_booked_reads n x 1 [] false none ho
    exact ⟨_, execContextNoFrame_ends s n x hx ho hs hd, hc, hr, hu, Claims.Frame.setOutcome_booked s n x 1 [] false none true ho⟩
  · intro s n endAir x hx hs hd
    obtain ⟨t, ht, hc⟩ := execAlignDeadline_finals s n endAir x hx hs hd
    exact ⟨t, ht, by simp [hc], by simp [hc]⟩
  · intro s n endAir x hx hs
    show execAlignDeadline n endAir s = _
    simp [execAlignDeadline, hx, hs]
  · intro s n lead soft combinedSnr bestLevel x hx hs ho hm
    obtain ⟨m, same, h⟩ := execDecodeDone_booked s n lead soft combinedSnr bestLevel x hx hs hm
    obtain ⟨hc, hr, -, hf⟩ := State.setOutcome_booked_reads { s with ctrs := m } n x (x.decode lead soft).1
      (if (x.decode lead soft).1 = 0 then (x.decode lead soft).2 else []) same (some ⟨combinedSnr, bestLevel⟩) ho
    refine ⟨_, h, hc, hr, fun hz => (hf hz).trans (by rw [if_pos hz]), ?_⟩
    exact ((Claims.Frame.ctrs s m).mono (by simp)).trans (Claims.Frame.setOutcome_booked _ _ _ _ _ _ _ _ ho)
  · intro s n lead soft combinedSnr bestLevel x hx hs
    show execDecodeDone n lead soft combinedSnr bestLevel s = _
    simp [execDecodeDone, hx, hs]
  · intro s n x hx hs hh hb hd
    exact congrArg Host.Outcome.next (s.freeContext_idle n x hx hs hh hb hd)
  · intro s n x y hx hs hh
    show Host.Outcome.next (s.freeContext n) = _
    simp only [State.freeContext, hx, hs, hh, if_true]
    rfl
  · intro s n x hx hs
    show Host.Outcome.next (s.freeContext n) = _
    simp [State.freeContext, hx, hs]

end Sys2Proof
end

section
/-! The events of chapters 4 to 10 (O47). A row's meaning answers `.next` at the end of each branch, its clause once around the whole next
state: each proof follows the branches of the row, by cases on what it reads and by `next_ite` at its conditions. -/

namespace Sys2Proof

open Machine

/-- A condition whose two branches answer a next state answers the state that the condition chooses. -/
theorem Machine.next_ite {c : Prop} [Decidable c] {o p : Out} {s t : State} (h : c → o = .next s) (k : ¬c → p = .next t) :
    (if c then o else p) = .next (if c then s else t) := by
  split
  next hc => exact h hc
  next hc => exact k hc

/-- The request that a reply with sequence number `seq` and message type `ty` answers (R90, R91). -/
def CtrlReq.answeredBy (seq ty : Nat) (r : CtrlReq) : Bool :=
  r.seq == seq &&
    match r.owner with
    | .identify => ty == 2
    | .tribList => ty == 9
    | _ => ty == 5

/-- A search by a condition that agrees with `answeredBy` finds the request answered. -/
theorem CtrlReq.find?_answeredBy (seq ty : Nat) {p : CtrlReq → Bool} (h : ∀ r, p r = answeredBy seq ty r) (l : List CtrlReq) :
    l.find? p = l.find? (answeredBy seq ty) := by
  rw [funext h]

/-- Settles O47, row by row. -/
theorem fieldEventsAct : Obligations.FieldEventsAct := by
  unfold Obligations.FieldEventsAct
  refine ⟨?_, ?_, ?_, ?_, ?_, ?_, ?_, ?_, ?_, ?_, ?_, ?_, ?_, ?_, ?_, ?_, ?_, ?_, ?_, ?_, ?_, ?_, ?_, ?_, ?_, ?_, ?_, ?_, ?_, ?_, ?_, ?_,
    ?_, ?_, ?_, ?_, ?_, ?_, ?_, ?_, ?_, ?_, ?_⟩
  case refine_1 => exact fun _ _ _ _ _ _ => rfl
  case refine_2 => exact fun _ _ => next_ite (fun _ => rfl) fun _ => rfl
  case refine_3 =>
    intro lane s
    show execFreqWindowEnd lane s = _
    dsimp only [execFreqWindowEnd]
    cases (s.lane lane).window with
    | none => rfl
    | some w => exact next_ite (fun _ => rfl) fun _ => next_ite (fun _ => rfl) fun _ => rfl
  case refine_4 =>
    intro lane s
    show execControlMessageReceived lane s = _
    dsimp only [execControlMessageReceived]
    cases (s.lane lane).inbox with
    | nil => rfl
    | cons msg rest =>
      dsimp only
      -- The row and the clause state the search each by a match of its own.
      conv =>
        lhs
        rw [CtrlReq.find?_answeredBy (leAt msg 2 2) (leAt msg 0 1)]
        case h => tactic => exact fun r => by cases h : r.owner <;> simp only [CtrlReq.answeredBy, h]
      conv =>
        rhs
        rw [CtrlReq.find?_answeredBy (leAt msg 2 2) (leAt msg 0 1)]
        case h => tactic => exact fun r => by cases h : r.owner <;> simp only [CtrlReq.answeredBy, h]
      generalize List.find? _ _ = r
      cases r with
      | none => rfl
      | some r => rfl
  case refine_5 =>
    intro lane seq s
    show execControlMessageResend lane seq s = _
    dsimp only [execControlMessageResend]
    cases (s.lane lane).reqs.find? (fun r => r.seq == seq) with
    | none => rfl
    | some r =>
      refine next_ite (fun _ => next_ite (fun _ => rfl) fun _ => rfl) fun _ => next_ite (fun _ => ?_) fun _ => rfl
      cases r.owner <;> rfl
  case refine_6 => exact fun _ _ => rfl
  case refine_7 => exact fun _ _ => next_ite (fun _ => rfl) fun _ => rfl
  case refine_8 =>
    exact fun _ _ => next_ite (fun _ => next_ite (fun _ => rfl) fun _ => next_ite (fun _ => rfl) fun _ => rfl) fun _ => rfl
  case refine_9 => exact fun _ _ => next_ite (fun _ => rfl) fun _ => rfl
  case refine_10 => exact fun _ _ _ => rfl
  case refine_11 => exact fun _ _ _ _ _ _ => rfl
  case refine_12 => exact fun _ _ _ _ _ _ => rfl
  case refine_13 => exact fun _ _ => next_ite (fun _ => rfl) fun _ => rfl
  case refine_14 =>
    intro target s
    show execDcFreezeLong target s = _
    dsimp only [execDcFreezeLong]
    cases (s.dcOf target).frozen with
    | none => rfl
    | some f => exact next_ite (fun _ => rfl) fun _ => rfl
  case refine_15 =>
    intro id s
    show execCaptureBegin id s = _
    dsimp only [execCaptureBegin]
    cases s.filt.captures.find? (fun c => c.id == id) with
    | none => rfl
    | some c => rfl
  case refine_16 =>
    intro id s
    show execCaptureDone id s = _
    dsimp only [execCaptureDone]
    cases s.filt.captures.find? (fun c => c.id == id) with
    | none => rfl
    | some c => exact next_ite (fun _ => rfl) fun _ => rfl
  case refine_17 => exact fun _ _ _ _ _ _ _ _ _ _ _ => rfl
  case refine_18 =>
    intro id s
    show execContextOpenDue id s = _
    dsimp only [execContextOpenDue]
    cases s.rx.booked.find? (fun x => x.id == id) with
    | none => rfl
    | some x => rfl
  case refine_19 =>
    intro group channel antenna mode startAir metric s
    show execWatcherDetection group channel antenna mode startAir metric s = _
    dsimp only [execWatcherDetection]
    refine next_ite (fun _ => rfl) fun _ => next_ite (fun _ => rfl) fun _ => next_ite (fun _ => rfl) fun _ => next_ite (fun _ => rfl) fun _ => ?_
    generalize State.freeCtx _ = n
    cases n with
    | some n => rfl
    | none =>
      dsimp only
      generalize Option.bind _ _ = r
      cases r with
      | none => rfl
      | some r => rfl
  case refine_20 =>
    intro group s
    show execDetectionDrop group s = _
    dsimp only [execDetectionDrop]
    cases s.rx.detections.find? (fun d => d.group == group && decide (d.ms + (60 - modeLagMs d.mode) ≤ s.time.ms)) with
    | none => rfl
    | some d => rfl
  case refine_21 =>
    intro n s
    show execRetroCatchUp n s = _
    dsimp only [execRetroCatchUp]
    cases s.ctx n with
    | none => rfl
    | some c => exact next_ite (fun _ => rfl) fun _ => rfl
  case refine_22 =>
    intro n startAir freqHz formatB metrics gains noise tau s
    show execContextFrameDetected n startAir freqHz formatB metrics gains noise tau s = _
    dsimp only [execContextFrameDetected]
    cases s.ctx n with
    | none => rfl
    | some c => exact next_ite (fun _ => next_ite (fun _ => rfl) fun _ => rfl) fun _ => rfl
  case refine_23 =>
    intro n s
    show execContextNoFrame n s = _
    dsimp only [execContextNoFrame]
    cases s.ctx n with
    | none => rfl
    | some c => exact next_ite (fun _ => rfl) fun _ => rfl
  case refine_24 =>
    intro n endAir s
    show execAlignDeadline n endAir s = _
    dsimp only [execAlignDeadline]
    cases s.ctx n with
    | none => rfl
    | some c => exact next_ite (fun _ => rfl) fun _ => rfl
  case refine_25 =>
    intro n lead soft combinedSnr bestLevel s
    show execDecodeDone n lead soft combinedSnr bestLevel s = _
    dsimp only [execDecodeDone]
    cases s.ctx n with
    | none => rfl
    | some c => exact next_ite (fun _ => rfl) fun _ => rfl
  case refine_26 => exact fun _ _ => rfl
  case refine_27 =>
    intro slot s
    refine next_ite (fun _ => rfl) fun _ => ?_
    dsimp only
    cases (s.plan slot).poll with
    | none => rfl
    | some q => rfl
  case refine_28 =>
    intro slot s
    refine next_ite (fun _ => rfl) fun _ => next_ite (fun _ => rfl) fun _ => next_ite (fun _ => rfl) fun _ => ?_
    dsimp only
    cases s.launchFirst slot (s.aims slot).learning (s.aims slot).list none with
    | ok t => rfl
    | error e =>
      obtain ⟨c, t⟩ := e
      cases c with
      | none => rfl
      | some c => rfl
  case refine_29 =>
    intro s
    show execBookingOutcome s = _
    dsimp only [execBookingOutcome]
    cases s.rx.outcomes with
    | nil => rfl
    | cons x rest =>
      dsimp only
      generalize State.plan { s with rx := { s.rx with outcomes := rest } } x.b.meter = p
      cases p.out with
      | some o =>
        refine next_ite (fun _ => next_ite (fun _ => rfl) fun _ => rfl) fun _ => ?_
        cases p.ack with
        | none => rfl
        | some a => exact next_ite (fun _ => rfl) fun _ => rfl
      | none =>
        cases p.ack with
        | none => rfl
        | some a => exact next_ite (fun _ => rfl) fun _ => rfl
  case refine_30 =>
    intro id s
    show execLaunchLock id s = _
    dsimp only [execLaunchLock]
    cases s.air.queue.find? (fun e => e.id == id) with
    | none => rfl
    | some e =>
      refine next_ite (fun _ => rfl) fun _ => next_ite (fun _ => rfl) fun _ => ?_
      cases e.meter with
      | none => rfl
      | some m => cases e.source <;> rfl
  case refine_31 =>
    intro id s
    show execLaunchSend id s = _
    dsimp only [execLaunchSend]
    cases s.air.queue.find? (fun e => e.id == id) with
    | none => rfl
    | some e => exact next_ite (fun _ => rfl) fun _ => next_ite (fun _ => rfl) fun _ => rfl
  case refine_32 =>
    intro slot s
    show execFollowDecision slot s = _
    unfold execFollowDecision
    -- `book` as a variable, and the tail as a lemma of its own: the kernel would evaluate it to compare the two sides.
    generalize State.book = book
    extract_lets p
    cases p.out with
    | none => rfl
    | some o =>
      obtain ⟨_, _, _, _, _, _, _, _, _, _ | re, _ | f, _⟩ := o
      · rfl
      · rfl
      · rfl
      · refine next_ite (fun _ => rfl) fun _ => ?_
        extract_lets t n pre span charge
        generalize Option.bind charge _ = r
        obtain _ | ⟨c, a⟩ := r
        · rfl
        · refine next_ite (fun _ => rfl) fun _ => ?_
          cases f.carried.safe
          case' some q =>
            generalize State.lockSafe _ _ _ = r
            obtain ⟨go, u⟩ := r
          all_goals
            refine next_ite (fun _ => rfl) fun _ => ?_
            as_aux_lemma =>
              extract_lets
              generalize book _ _ _ = r
              obtain ⟨_ | id, v⟩ := r
              · rfl
              · rfl
  case refine_33 =>
    intro slot s
    show execPollLate slot s = _
    dsimp only [execPollLate]
    cases (s.plan slot).poll with
    | none => rfl
    | some q => exact next_ite (fun _ => rfl) fun _ => rfl
  case refine_34 => exact fun _ => next_ite (fun _ => rfl) fun _ => rfl
  case refine_35 =>
    intro window slot s
    refine next_ite (fun _ => rfl) fun _ => ?_
    dsimp only
    generalize (if slot = 0 then s.resumeStreams else s) = t
    cases t.nextStream window slot with
    | none => rfl
    | some x =>
      dsimp only
      cases t.pauseCause x with
      | none => rfl
      | some c => rfl
  case refine_36 =>
    intro trib s
    refine next_ite (fun _ => rfl) fun _ => ?_
    cases s.lingQueue trib with
    | nil => rfl
    | cons d rest =>
      dsimp only
      cases s.lingBlocked trib with
      | none => rfl
      | some c => rfl
  case refine_37 =>
    intro trib phase window s
    show execLingGovernorCut trib phase window s = _
    dsimp only [execLingGovernorCut]
    cases (s.lingTrib trib).out with
    | none => rfl
    | some f => exact next_ite (fun _ => rfl) fun _ => rfl
  case refine_38 =>
    intro trib s
    show execLingAnswerWindowEnd trib s = _
    dsimp only [execLingAnswerWindowEnd]
    cases (s.lingTrib trib).out with
    | none => rfl
    | some f => exact next_ite (fun _ => rfl) fun _ => rfl
  case refine_39 =>
    intro trib startAir endAir repCode header payload snr s
    show execLingFrameDecoded trib startAir endAir repCode header payload snr s = _
    dsimp only [execLingFrameDecoded]
    cases (s.lingTrib trib).out with
    | none => rfl
    | some f =>
      dsimp only
      cases s.lingMatched f startAir with
      | none => rfl
      | some matched => exact next_ite (fun _ => rfl) fun _ => rfl
  case refine_40 =>
    intro trib s
    refine next_ite (fun _ => rfl) fun _ => ?_
    cases s.lingBlocked trib with
    | some c => rfl
    | none =>
      dsimp only
      generalize State.lingPut _ _ _ _ _ _ _ _ _ = r
      cases r with
      | ok t => rfl
      | error c => rfl
  case refine_41 => exact fun _ _ => next_ite (fun _ => rfl) fun _ => rfl
  case refine_42 => exact fun _ _ => next_ite (fun _ => rfl) fun _ => rfl
  case refine_43 => exact fun _ _ _ => next_ite (fun _ => rfl) fun _ => rfl

end Sys2Proof
end

section
/-! The events of chapters 2, 3, 20, 21, 25 and 26 (O46), row by row as for O47: each proof follows the branches of its row, by cases on what
it reads and by `next_ite` at its conditions. -/

namespace Sys2Proof

open Machine

/-- Settles O46, row by row. -/
theorem controlEventsAct : Obligations.ControlEventsAct := by
  unfold Obligations.ControlEventsAct
  refine ⟨?errorDetected, ?workDeadlineMissed, ?probationEnd, ?regionRestartDone, ?unitEndState, ?unitStopOverrun, ?hostBadAccess,
    ?registerWrite, ?heartbeatTick, ?mbDoorbell, ?commandResponseReady, ?mbRespAck, ?mbNotifyAck, ?mbReset, ?channelResetDone,
    ?ctrlSessionHello, ?ctrlSessionClose, ?ctrlRecordWrite, ?ctrlCredentialRevoke, ?sessionIdleTimeout, ?ticketExpired, ?backoffEnd,
    ?tamperAlarm, ?eventAdmitted, ?snapshotComplete, ?snapshotSpill, ?barrowHoldExpired, ?tenantReleaseDone, ?tenantAccessViolation,
    ?shareWait, ?bundleAssemblyTimeout, ?sessionReconnect, ?tlsHandshakeDone, ?sessionFrameReceived, ?sessionKeepalive,
    ?sessionRxTimeout, ?exportCursorJournal, ?backhaulFrameReceived, ?portLinkChange, ?hostLinkReset, ?hostError, ?powerOnReset,
    ?warmReset, ?bootStageDone, ?pfwAssert, ?saveDone, ?pfwDeassert, ?inputFaultTimeout, ?monitorWarning, ?monitorReset, ?sleepWake,
    ?d3hotEntry, ?wakeCondition, ?linkTrainingStart, ?d0Return, ?thermalTrip, ?porstAssert, ?supplyInRange⟩
  case errorDetected =>
    intro kind unit n cause s
    refine next_ite (fun _ => rfl) fun _ => next_ite (fun _ => rfl) fun _ => ?_
    obtain _ | _ | _ | _ | _ := kind <;> rfl
  case workDeadlineMissed => exact fun _ _ _ _ => next_ite (fun _ => rfl) fun _ => rfl
  case probationEnd => exact fun _ _ => next_ite (fun _ => rfl) fun _ => rfl
  case regionRestartDone => exact fun _ _ => next_ite (fun _ => rfl) fun _ => rfl
  case unitEndState =>
    intro kind number s
    show execUnitEndState kind number s = _
    dsimp only [execUnitEndState]
    cases unitOf kind number with
    | none => rfl
    | some u =>
      dsimp only
      generalize s.unitSt u = st
      cases st <;> cases u <;> rfl
  case unitStopOverrun =>
    intro kind number s
    show execUnitStopOverrun kind number s = _
    dsimp only [execUnitStopOverrun]
    cases unitOf kind number with
    | none => rfl
    | some u =>
      dsimp only
      cases (s.unit u).st with
      | stopping r => exact next_ite (fun _ => rfl) fun _ => by cases u <;> rfl
      | _ => rfl
  case hostBadAccess => exact fun _ => rfl
  case registerWrite =>
    exact fun _ _ _ => next_ite (fun _ => rfl) fun _ => next_ite
      (fun _ => next_ite (fun _ => rfl) fun _ => next_ite (fun _ => rfl) fun _ => next_ite (fun _ => rfl) fun _ =>
        next_ite (fun _ => rfl) fun _ => rfl)
      fun _ => next_ite (fun _ => rfl) fun _ => rfl
  case heartbeatTick => exact fun _ => rfl
  case mbDoorbell =>
    intro ch s
    refine next_ite (fun _ => rfl) fun _ => next_ite (fun _ => rfl) fun _ => next_ite (fun _ => rfl) fun _ => ?_
    cases (s.chan ch).st <;> rfl
  case commandResponseReady =>
    intro ch s
    show execCommandResponseReady ch s = _
    dsimp only [execCommandResponseReady]
    generalize (s.chan ch).st = st
    cases (s.chan ch).response with
    | none => cases st <;> rfl
    | some r =>
      cases st with
      | busy =>
        dsimp only
        cases responseMessages (s.respKey ch r) ch r with
        | nil => rfl
        | cons m ms => exact next_ite (fun _ => rfl) fun _ => rfl
      | _ => rfl
  case mbRespAck =>
    intro ch s
    refine next_ite (fun _ => rfl) fun _ => next_ite (fun _ => rfl) fun _ => ?_
    generalize (s.chan ch).st = st
    cases (s.chan ch).fragments <;> cases st <;> rfl
  case mbNotifyAck =>
    intro ch s
    refine next_ite (fun _ => rfl) fun _ => next_ite (fun _ => rfl) fun _ => ?_
    obtain _ | ⟨_, _ | _⟩ := (s.chan ch).notes <;> rfl
  case mbReset => exact fun _ _ => next_ite (fun _ => rfl) fun _ => next_ite (fun _ => rfl) fun _ => rfl
  case channelResetDone =>
    intro ch s
    show execChannelResetDone ch s = _
    dsimp only [execChannelResetDone]
    generalize (s.chan ch).st = st
    cases (s.chan ch).request <;> cases st <;> rfl
  case ctrlSessionHello => exact fun _ _ _ _ _ => rfl
  case ctrlSessionClose =>
    intro ch s
    show execCtrlSessionClose ch s = _
    dsimp only [execCtrlSessionClose]
    cases s.session ch <;> rfl
  case ctrlRecordWrite => exact fun _ _ _ => rfl
  case ctrlCredentialRevoke => exact fun _ _ _ _ _ => rfl
  case sessionIdleTimeout =>
    intro ch s
    show execSessionIdleTimeout ch s = _
    dsimp only [execSessionIdleTimeout]
    cases s.session ch with
    | none => rfl
    | some x => exact next_ite (fun _ => rfl) fun _ => rfl
  case ticketExpired =>
    intro ticket s
    show execTicketExpired ticket s = _
    dsimp only [execTicketExpired]
    cases s.ticket ticket with
    | none => rfl
    | some x => exact next_ite (fun _ => rfl) fun _ => rfl
  case backoffEnd =>
    intro ch s
    show execBackoffEnd ch s = _
    dsimp only [execBackoffEnd]
    cases (s.chan ch).backoffEnd with
    | none => rfl
    | some e => exact next_ite (fun _ => rfl) fun _ => rfl
  case tamperAlarm =>
    exact fun _ _ _ => next_ite (fun _ => rfl) fun _ => next_ite (fun _ => rfl) fun _ => next_ite (fun _ => rfl) fun _ =>
      next_ite (fun _ => rfl) fun _ => next_ite (fun _ => rfl) fun _ => rfl
  case eventAdmitted => exact fun _ => rfl
  case snapshotComplete =>
    intro id s
    show execSnapshotComplete id s = _
    dsimp only [execSnapshotComplete]
    cases s.ev.slots.find? (fun p => p.id == id && p.collecting) with
    | none => rfl
    | some p => exact next_ite (fun _ => rfl) fun _ => rfl
  case snapshotSpill =>
    intro id s
    show execSnapshotSpill id s = _
    dsimp only [execSnapshotSpill]
    cases s.ev.slots.find? (fun p => p.id == id && !p.collecting) with
    | none => rfl
    | some p =>
      refine next_ite (fun _ => rfl) fun _ => next_ite (fun _ => rfl) fun _ => ?_
      cases s.ev.area.find? (fun q => !q.prot) with
      | some old => rfl
      | none => exact next_ite (fun _ => rfl) fun _ => rfl
  case barrowHoldExpired =>
    intro s
    show execBarrowHoldExpired s = _
    dsimp only [execBarrowHoldExpired]
    cases s.ev.hold with
    | none => rfl
    | some h => exact next_ite (fun _ => rfl) fun _ => rfl
  case tenantReleaseDone => exact fun _ _ => next_ite (fun _ => rfl) fun _ => rfl
  case tenantAccessViolation =>
    intro requester address s
    show execTenantAccessViolation requester address s = _
    -- Unfolded before it is applied: comparing the two applications, the kernel would evaluate `ownerOf`.
    generalize h : execTenantAccessViolation = row
    delta execTenantAccessViolation at h
    subst h
    dsimp only
    cases s.ownerOf address with
    | none => rfl
    | some owner => exact next_ite (fun _ => rfl) fun _ => rfl
  case shareWait =>
    intro tenant resource s
    show execShareWait tenant resource s = _
    dsimp only [execShareWait]
    cases Resource.all[resource]? with
    | none => rfl
    | some r => exact next_ite (fun _ => rfl) fun _ => rfl
  case bundleAssemblyTimeout =>
    intro s
    show execBundleAssemblyTimeout s = _
    dsimp only [execBundleAssemblyTimeout]
    cases s.upd.bundle with
    | none => rfl
    | some a => exact next_ite (fun _ => rfl) fun _ => rfl
  case sessionReconnect => exact fun _ _ => next_ite (fun _ => rfl) fun _ => rfl
  case tlsHandshakeDone =>
    exact fun _ _ _ _ _ _ => next_ite (fun _ => rfl) fun _ => next_ite (fun _ => rfl) fun _ => next_ite (fun _ => rfl) fun _ => rfl
  case sessionFrameReceived =>
    intro session type length body s
    refine next_ite (fun _ => rfl) fun _ => next_ite (fun _ => rfl) fun _ => ?_
    obtain _ | _ | _ | _ | _ | _ := type <;> rfl
  case sessionKeepalive => exact fun _ _ => rfl
  case sessionRxTimeout => exact fun _ _ => rfl
  case exportCursorJournal => exact fun _ => rfl
  case backhaulFrameReceived => exact fun _ _ _ _ _ _ => next_ite (fun _ => rfl) fun _ => next_ite (fun _ => rfl) fun _ => rfl
  case portLinkChange =>
    exact fun _ _ _ _ => next_ite (fun _ => next_ite (fun _ => rfl) fun _ => rfl) fun _ => next_ite (fun _ => rfl) fun _ => rfl
  case hostLinkReset => exact fun _ _ => next_ite (fun _ => rfl) fun _ => rfl
  case hostError => exact fun _ _ _ => next_ite (fun _ => rfl) fun _ => rfl
  case powerOnReset => exact fun _ _ => next_ite (fun _ => rfl) fun _ => rfl
  case warmReset =>
    intro s
    show execWarmReset s = _
    dsimp only [execWarmReset]
    cases s.pow.resetAfterSave with
    | none => rfl
    | some c => exact next_ite (fun _ => rfl) fun _ => rfl
  case bootStageDone =>
    intro detail measured cells regions dies s
    refine next_ite (fun _ => rfl) fun _ => ?_
    obtain _ | _ | _ | _ | _ | _ | _ | _ | _ := s.pow.stage
    case succ.zero => exact next_ite (fun _ => rfl) fun _ => rfl
    all_goals rfl
  case pfwAssert =>
    intro s
    refine next_ite (fun _ => rfl) fun _ => next_ite (fun _ => rfl) fun _ => ?_
    dsimp only
    cases s.pow.warn with
    | idle => exact next_ite (fun _ => rfl) fun _ => rfl
    | _ => rfl
  case saveDone =>
    exact fun _ _ => next_ite (fun _ => rfl) fun _ => next_ite (fun _ => rfl) fun _ => next_ite (fun _ => rfl) fun _ => rfl
  case pfwDeassert =>
    intro s
    refine next_ite (fun _ => rfl) fun _ => ?_
    dsimp only
    cases s.pow.warn with
    | holding => exact next_ite (fun _ => rfl) fun _ => rfl
    | _ => rfl
  case inputFaultTimeout => exact fun _ => next_ite (fun _ => rfl) fun _ => rfl
  case monitorWarning =>
    intro rail s
    refine next_ite (fun _ => rfl) fun _ => ?_
    dsimp only
    cases s.pow.warn <;> rfl
  case monitorReset => exact fun _ _ => rfl
  case sleepWake => exact fun _ _ => next_ite (fun _ => rfl) fun _ => rfl
  case d3hotEntry => exact fun _ _ => next_ite (fun _ => rfl) fun _ => rfl
  case wakeCondition => exact fun _ _ => next_ite (fun _ => rfl) fun _ => rfl
  case linkTrainingStart => exact fun _ => rfl
  case d0Return => exact fun _ => next_ite (fun _ => rfl) fun _ => rfl
  case thermalTrip =>
    intro sensor s
    show execThermalTrip sensor s = _
    unfold execThermalTrip
    -- `t` is the state once Serving has dropped.
    extract_lets _ _ _ _ t
    cases t.pow.warn <;> rfl
  case porstAssert => exact fun _ => next_ite (fun _ => rfl) fun _ => rfl
  case supplyInRange => exact fun _ => next_ite (fun _ => rfl) fun _ => next_ite (fun _ => rfl) fun _ => rfl

end Sys2Proof
end

section
/-! The events of chapters 11 to 18 (O48), row by row as for O46 and O47. -/

namespace Sys2Proof

open Machine

/-- Settles O48, row by row. -/
theorem dataEventsAct : Obligations.DataEventsAct := by
  unfold Obligations.DataEventsAct
  refine ⟨?swardVictimClear, ?securityFrame, ?dirRebuildDone, ?keySwitch, ?keyEraseDrained, ?rngHealthFault, ?ledgerApply,
    ?recordPoisoned, ?journalAck, ?tariffVersionActive, ?archiveWrite, ?zeroCrossing, ?metroWindowEnd, ?metroStep, ?stepRecordHandoff,
    ?metroIntervalClose, ?pulseEmit, ?balIntervalStart, ?balEvaluate, ?flashProgramDone, ?flashReadDone, ?dieFailed,
    ?journalCopiesProgrammed, ?checkpointStart, ?checkpointCommit, ?reclamation, ?wearCheck, ?dramIntegrityFail, ?scrubPass⟩
  case swardVictimClear =>
    intro s
    show execSwardVictimClear s = _
    dsimp only [execSwardVictimClear]
    cases s.sec.victimSince with
    | none => rfl
    | some t => exact next_ite (fun _ => rfl) fun _ => rfl
  case securityFrame =>
    intro phase frame s
    refine next_ite (fun _ => ?_) fun _ => ?_
    · cases s.rx.toSecurity with
      | nil => rfl
      | cons h rest => exact next_ite (fun _ => rfl) fun _ => rfl
    · cases s.sec.pipe[frame]? <;> rfl
  case dirRebuildDone =>
    intro s
    show execDirRebuildDone s = _
    dsimp only [execDirRebuildDone]
    cases s.sec.rebuild with
    | none => rfl
    | some r =>
      dsimp only
      generalize s.drawBytes 16 = p
      obtain ⟨kd, t⟩ := p
      dsimp only
      generalize dirAll _ _ _ _ = v
      cases v with
      | some v => rfl
      | none => exact next_ite (fun _ => rfl) fun _ => rfl
  case keySwitch =>
    intro domain slot s
    show execKeySwitch domain slot s = _
    dsimp only [execKeySwitch]
    cases Map.get? s.vault.shadow (domain, slot) <;> rfl
  case keyEraseDrained => exact fun _ _ _ => rfl
  case rngHealthFault => exact fun _ _ _ => next_ite (fun _ => rfl) fun _ => rfl
  case ledgerApply =>
    intro engine tenant ticket s
    refine next_ite (fun _ => rfl) fun _ => ?_
    obtain _ | ⟨⟨slot, job⟩, rest⟩ := takeWork s.led.poisoned (Map.getD s.led.queues tenant [])
    · rfl
    · cases job <;> rfl
  case recordPoisoned => exact fun _ _ _ => next_ite (fun _ => rfl) fun _ => rfl
  case journalAck => exact fun _ _ => next_ite (fun _ => rfl) fun _ => rfl
  case tariffVersionActive =>
    intro plan s
    show execTariffVersionActive plan s = _
    dsimp only [execTariffVersionActive]
    cases (s.planVersions plan).find? (fun v => decide (v.effective ≤ s.stamp) && !v.reported) <;> rfl
  case archiveWrite =>
    intro s
    show execArchiveWrite s = _
    dsimp only [execArchiveWrite]
    cases s.tar.waiting.find? (fun w => s.regionOn 9 && s.posCommitted w.1) with
    | none => rfl
    | some w => exact next_ite (fun _ => rfl) fun _ => rfl
  case zeroCrossing =>
    intro trib phase s
    show execZeroCrossing trib phase s = _
    dsimp only [execZeroCrossing]
    generalize s.metroUpdate trib = t
    cases ((t.metro trib).phase phase).found with
    | nil => rfl
    | cons air later => exact next_ite (fun _ => rfl) fun _ => rfl
  case metroWindowEnd =>
    intro trib s
    refine next_ite (fun _ => rfl) fun _ => ?_
    generalize s.metroUpdate trib = t
    obtain _ | ⟨pts, sync, lost, x⟩ := t.nextWindow trib
    · rfl
    · exact next_ite (fun _ => rfl) fun _ => rfl
  case metroStep =>
    intro trib reissued s
    show execMetroStep trib reissued s = _
    dsimp only [execMetroStep]
    generalize s.metroUpdate trib = t
    cases t.nextStep trib with
    | none => rfl
    | some idx => exact next_ite (fun _ => rfl) fun _ => rfl
  case stepRecordHandoff => exact fun _ _ => next_ite (fun _ => rfl) fun _ => rfl
  case metroIntervalClose => exact fun _ _ => rfl
  case pulseEmit => exact fun _ _ => next_ite (fun _ => rfl) fun _ => rfl
  case balIntervalStart =>
    intro zone s
    show execBalIntervalStart zone s = _
    dsimp only [execBalIntervalStart]
    cases (s.balZone zone).next with
    | none => rfl
    | some start => exact next_ite (fun _ => rfl) fun _ => rfl
  case balEvaluate =>
    intro zone stop s
    refine next_ite (fun _ => rfl) fun _ => ?_
    cases (s.balZone zone).openIv.find? (fun o => o.stop == stop && o.frozen) with
    | none => rfl
    | some o => exact next_ite (fun _ => rfl) fun _ => rfl
  case flashProgramDone =>
    exact fun _ _ _ _ _ _ _ _ => next_ite (fun _ => rfl) fun _ => next_ite (fun _ => rfl) fun _ =>
      next_ite (fun _ => next_ite (fun _ => rfl) fun _ => rfl) fun _ => next_ite (fun _ => rfl) fun _ => rfl
  case flashReadDone =>
    exact fun _ _ _ _ _ _ _ _ _ _ _ _ => next_ite (fun _ => rfl) fun _ => next_ite (fun _ => rfl) fun _ =>
      next_ite (fun _ => rfl) fun _ => next_ite (fun _ => rfl) fun _ => rfl
  case dieFailed => exact fun _ _ _ _ => next_ite (fun _ => rfl) fun _ => next_ite (fun _ => rfl) fun _ => rfl
  case journalCopiesProgrammed => exact fun _ _ => next_ite (fun _ => rfl) fun _ => rfl
  case checkpointStart => exact fun _ => next_ite (fun _ => rfl) fun _ => rfl
  case checkpointCommit =>
    intro s
    show execCheckpointCommit s = _
    dsimp only [execCheckpointCommit]
    cases s.store.running with
    | none => rfl
    | some g => exact next_ite (fun _ => rfl) fun _ => rfl
  case reclamation =>
    intro part freed into s
    refine next_ite (fun _ => rfl) fun _ => ?_
    extract_lets full t
    cases t.victim part with
    | none => rfl
    | some v =>
      dsimp only
      cases t.copyPages (into.map keyBlock) (t.pagesIn v) with
      | none => rfl
      | some u => exact next_ite (fun _ => rfl) fun _ => rfl
  case wearCheck => exact fun _ _ _ => next_ite (fun _ => rfl) fun _ => next_ite (fun _ => rfl) fun _ => rfl
  case dramIntegrityFail =>
    exact fun _ _ _ _ _ _ _ => next_ite (fun _ => rfl) fun _ => next_ite (fun _ => rfl) fun _ => next_ite (fun _ => rfl) fun _ =>
      next_ite (fun _ => rfl) fun _ => next_ite (fun _ => rfl) fun _ => rfl
  case scrubPass => exact fun _ _ _ _ _ _ _ => next_ite (fun _ => rfl) fun _ => next_ite (fun _ => rfl) fun _ => rfl

end Sys2Proof
end

section
/-! The commands that act (O11): each row is its run in the frame of a mailbox command, and what that frame answers an open session. -/

namespace Sys2Proof

open Machine

/-! ### The rows in the frame of a mailbox command -/

/-- A command that answers at once is its run in the frame of R50. -/
theorem Machine.exec_of_runOf {i : Instr} {ch : Nat} {k : Cmd} {run : Caller → State → Reply × State}
    (h : Claims.runOf i = some (ch, k, run)) (s : State) : Machine.exec i s = .next (s.command ch k run) := by
  unfold Claims.runOf at h
  split at h <;> cases h <;> rfl

/-- A command that answers once its entry has committed is its run in the frame of R74. -/
theorem Machine.exec_of_commitOf {i : Instr} {ch : Nat} {k : Cmd} {run : Caller → State → Reply × State}
    (h : Claims.commitOf i = some (ch, k, run)) (s : State) : Machine.exec i s = .next (s.commitCommand ch k run) := by
  unfold Claims.commitOf at h
  split at h <;> cases h <;> rfl

/-! ### What the frame answers -/

namespace Machine

/-- Asked, a command answers what its run gives (R58, R61). -/
theorem State.command_asked {s : State} {ch : Nat} {k : Cmd} {r : Request} {c : Caller} (h : Claims.Asked s ch k r c)
    (run : Caller → State → Reply × State) : s.command ch k run = (run c s).2.respond ch r (run c s).1 := by
  obtain ⟨hreq, hcaller, hheld, hsave⟩ := h
  rw [s.command_some ch k run r c hreq hcaller, s.chipGate_open k _ hheld hsave]

/-- A command whose run answers passes the chip's gate and is answered. -/
theorem State.commandLater_answers {s t : State} {ch : Nat} {k : Cmd} {r : Request} {c : Caller} {y : Reply}
    {run : Caller → State → Option Reply × State} (h : Claims.Asked s ch k r c) (hr : run c s = (some y, t)) :
    s.commandLater ch k run = t.respond ch r y := by
  obtain ⟨hreq, hcaller, hheld, hsave⟩ := h
  simp only [State.commandLater, hreq, hcaller, hr, s.chipGate_open k _ hheld hsave]

/-- A command whose run waits keeps its request, and what its run changed stands. -/
theorem State.commandLater_waits {s t : State} {ch : Nat} {k : Cmd} {r : Request} {c : Caller}
    {run : Caller → State → Option Reply × State} (h : Claims.Asked s ch k r c) (hr : run c s = (none, t)) :
    s.commandLater ch k run = t := by
  obtain ⟨hreq, hcaller, hheld, -⟩ := h
  simp only [State.commandLater, hreq, hcaller, hr, hheld, false_and, if_false]

/-- A commit command that nothing awaits runs; its answer waits where its entry has not committed (R18, R74). -/
theorem State.commitCommand_asked {s : State} {ch : Nat} {k : Cmd} {r : Request} {c : Caller} (h : Claims.Asked s ch k r c)
    (hw : (s.chan ch).await = none) (run : Caller → State → Reply × State) :
    s.commitCommand ch k run =
      let o := run c s
      if o.2.store.nextPos = s.store.nextPos ∨ o.2.posCommitted o.2.newestPos then o.2.respond ch r o.1
      else o.2.modChan ch fun x => { x with await := some (o.2.newestPos, o.1.status, o.1.slots, o.1.data) } := by
  have ⟨hreq, _, hheld, hsave⟩ := h
  have hgate := s.chipGate_open k (run c s) hheld hsave
  simp only [State.commitCommand, State.commitLater, hreq, hw]
  split
  next hp => exact State.commandLater_answers h (by simp only [hgate, if_pos hp])
  next hp => exact State.commandLater_waits h (by simp only [hgate, if_neg hp])

/-- A commit command whose answer waits returns it once the entry has committed, with or without its session (R66, R74). -/
theorem State.commitCommand_awaits {s : State} {ch : Nat} {k : Cmd} {r : Request} {p : Nat} {st : Status} {slots : List Nat}
    {data : List Byte} (h : s.requestFor ch k = some r) (hw : (s.chan ch).await = some (p, st, slots, data))
    (run : Caller → State → Reply × State) :
    s.commitCommand ch k run = if s.posCommitted p then s.respond ch r { status := st, slots := slots, data := data } else s := by
  simp only [State.commitCommand, State.commitLater, h, hw]

end Machine

/-- Settles O11. -/
theorem commandsAnswer : Obligations.CommandsAnswer := by
  unfold Obligations.CommandsAnswer
  refine ⟨?_, ?_, ?_⟩
  · intro i ch k run hi s r c h
    rw [exec_of_runOf hi, State.command_asked h]
  · intro i ch k run hi s r c h hw
    rw [exec_of_commitOf hi, State.commitCommand_asked h hw]
  · intro i ch k run hi s r p st slots data h hw
    rw [exec_of_commitOf hi, State.commitCommand_awaits h hw]

end Sys2Proof
end

section
/-! The time events of chapter 19 (O38): what the millisecond, a state change of legal time, a sample of a reference and a whole second each
leave, said once, and the statement. -/

namespace Sys2Proof

open Machine

namespace Machine

/-! ### The millisecond (R48, R480) -/

/-- What a heartbeat tick reads and advances, but for the fractions of the clocks. -/
def State.tickView (s : State) : Nat × Nat × Nat × Mail × Power := (s.time.ms, s.time.legalNs, s.time.air, s.mail, s.pow)

theorem State.tickView_eq_iff (s t : State) : s.tickView = t.tickView ↔
    s.time.ms = t.time.ms ∧ s.time.legalNs = t.time.legalNs ∧ s.time.air = t.time.air ∧ s.mail = t.mail ∧ s.pow = t.pow := by
  simp only [State.tickView, Prod.mk.injEq]

/-- Raising an event moves only the stamp last issued of the time block. -/
theorem State.time_raise (s : State) (e : Ev) (t : Nat) (p : List Nat) (o : Bool) :
    ∃ st, (s.raise e t p o).time = { s.time with lastStamp := st } := by
  unfold State.raise
  split
  · exact ⟨s.time.lastStamp, rfl⟩
  · split
    · exact ⟨_, rfl⟩
    · exact ⟨s.time.lastStamp, rfl⟩

theorem State.tickView_raise (s : State) (e : Ev) (t : Nat) (p : List Nat) (o : Bool) : (s.raise e t p o).tickView = s.tickView := by
  obtain ⟨st, h⟩ := s.time_raise e t p o
  simp only [State.tickView, h, State.raise_frame]

theorem State.tickView_floodOver (s : State) (n gid : Nat) : (s.floodOver n gid).tickView = s.tickView := by
  unfold State.floodOver
  split
  · rfl
  · dsimp only
    split
    · split
      · exact State.tickView_raise _ _ _ _ _
      · exact State.tickView_raise _ _ _ _ _
    · rfl

/-- A launch of unknown outcome moves its plan or its stream (R207). -/
theorem State.tickView_launchUnknown (s : State) (e : Launch) : (s.launchUnknown e).tickView = s.tickView := by
  unfold State.launchUnknown
  dsimp only
  split
  · split
    · split <;> rfl
    · rfl
  · split
    · exact State.tickView_floodOver _ _ _
    · rfl

theorem State.tickView_carryLaunch (s : State) (e : Launch) : (s.carryLaunch e).tickView = s.tickView :=
  State.carryAll_blind (f := State.tickView) (fun _ _ => rfl) (fun _ _ => rfl) (fun _ _ => rfl) s _

theorem State.tickView_cutShort (s : State) : s.cutShort.tickView = s.tickView :=
  foldl_keeps State.tickView (fun (s : State) e => (s.launchUnknown e).carryLaunch e)
    (fun s e => (State.tickView_carryLaunch _ e).trans (s.tickView_launchUnknown e)) _ _

theorem State.tickView_formDown (s : State) (n : Nat) : (s.formDown n).tickView = s.tickView := by
  unfold State.formDown
  dsimp only
  split <;> rfl

/-- Where nothing is on air, nothing is cut short. -/
theorem State.cutShort_none (s : State) (h : s.air.onAir = []) : s.cutShort = s := by
  unfold State.cutShort
  simp only [h, List.filter_nil, List.foldl_nil]
  rw [← h]

/-- What `ticks` ticks advance (R480). The four values stand as variables: comparing two states, the kernel would evaluate them. -/
theorem State.advance_eq (s : State) (ticks : Nat) : ∃ l lf a af,
    s.advance ticks = { s with time := { s.time with legalNs := l, legalFrac := lf, air := a, airFrac := af } } ∧
    l = (s.time.legalNs * 2 ^ 32 + s.time.legalFrac + ticks * s.time.inc) / 2 ^ 32 % 2 ^ 64 ∧
    a = (s.time.air * 2 ^ 32 + s.time.airFrac + ticks * s.time.airInc) / 2 ^ 32 % 2 ^ 64 := ⟨_, _, _, _, rfl, rfl, rfl⟩

/-- The clocks advanced by a millisecond of so many ticks, and the launches whose span is over taken off the air. -/
def State.clocked (s : State) (ticks : Nat) : State :=
  let s := s.advance ticks
  { s with
    time := { s.time with ms := s.time.ms + 1 }
    air := { s.air with onAir := s.air.onAir.filter fun (e : Launch) => decide (s.time.air < e.start + e.span) } }

theorem State.clocked_reads (s : State) (ticks : Nat) :
    (s.clocked ticks).time.ms = s.time.ms + 1 ∧
    (s.clocked ticks).time.legalNs = (s.time.legalNs * 2 ^ 32 + s.time.legalFrac + ticks * s.time.inc) / 2 ^ 32 % 2 ^ 64 ∧
    (s.clocked ticks).time.air = (s.time.air * 2 ^ 32 + s.time.airFrac + ticks * s.time.airInc) / 2 ^ 32 % 2 ^ 64 ∧
    (s.clocked ticks).mail = s.mail ∧ (s.clocked ticks).pow = s.pow := by
  obtain ⟨l, lf, a, af, h, hl, ha⟩ := s.advance_eq ticks
  unfold State.clocked
  rw [h]
  exact ⟨rfl, hl, ha, rfl, rfl⟩

theorem State.clocked_onAir_none (s : State) (ticks : Nat) (h : s.air.onAir = []) : (s.clocked ticks).air.onAir = [] := by
  obtain ⟨l, lf, a, af, ht, -, -⟩ := s.advance_eq ticks
  simp [State.clocked, ht, h]

/-- The millisecond without the heartbeat register. -/
def State.millisecond (s : State) : State :=
  let s := (s.clocked 250000).cutShort.nextRound
  ((Map.keys s.lanes).filter fun n => (s.lane n).txFromPs.isSome).foldl State.formDown s

/-- The heartbeat register counts while firmware runs (R48). -/
def State.heartbeat (s : State) : State :=
  if s.mail.mailboxReady ∧ s.pow.stage ≠ 0x0C then
    { s with mail := { s.mail with heartbeat := (s.mail.heartbeat + 1) % 2 ^ 32 } }
  else s

theorem execHeartbeatTick_eq (s : State) : execHeartbeatTick s = .next s.millisecond.heartbeat := rfl

theorem State.tickView_millisecond (s : State) : s.millisecond.tickView = (s.clocked 250000).tickView :=
  (foldl_keeps State.tickView State.formDown State.tickView_formDown _ _).trans (State.tickView_cutShort (s.clocked 250000))

/-- The clocks after a millisecond (R480), in which neither the mailbox nor the power state moves. -/
theorem State.millisecond_reads (s : State) :
    s.millisecond.time.ms = s.time.ms + 1 ∧
    s.millisecond.time.legalNs = (s.time.legalNs * 2 ^ 32 + s.time.legalFrac + 250000 * s.time.inc) / 2 ^ 32 % 2 ^ 64 ∧
    s.millisecond.time.air = (s.time.air * 2 ^ 32 + s.time.airFrac + 250000 * s.time.airInc) / 2 ^ 32 % 2 ^ 64 ∧
    s.millisecond.mail = s.mail ∧ s.millisecond.pow = s.pow := by
  obtain ⟨hms, hlegal, hair, hmail, hpow⟩ := (State.tickView_eq_iff _ _).mp s.tickView_millisecond
  rw [hms, hlegal, hair, hmail, hpow]
  exact s.clocked_reads 250000

/-- While firmware runs, the register's next value is all that changes. -/
theorem State.heartbeat_ready (s : State) (hm : s.mail.mailboxReady = true) (hp : s.pow.stage ≠ 0x0C) :
    s.heartbeat = { s with mail := { s.mail with heartbeat := (s.mail.heartbeat + 1) % 2 ^ 32 } } := if_pos ⟨hm, hp⟩

/-! ### The states of legal time (R484, R491) -/

theorem State.setTime_same (s : State) (t : TimeSt) (h : s.time.st = t) : s.setTime t = s := if_pos h

/-! ### References (R488 to R490) -/

@[simp] theorem State.ref_setRef (s : State) (i : Nat) (r : RefSt) : (s.setRef i r).ref i = r := Map.getD_put_self _ _ _ _

/-- A reference that has delivered no sample is not fresh. -/
theorem State.refFresh_unsampled (s : State) (i : Nat) (h : (s.ref i).lastMs = none) : s.refFresh i = false := by
  simp [State.refFresh, h]

/-- The state with the whole table of references set. -/
def State.withRefs (s : State) (m : Map Nat RefSt) : State := { s with time := { s.time with refs := m } }

/-- A reference judged neither a falseticker nor qualified (R490). -/
def State.unqualify (s : State) (i : Nat) : State := s.setRef i { s.ref i with falseticker := false, qualified := false }

/-- References judged so move the table alone, and none becomes qualified. -/
theorem State.foldl_unqualify (l : List Nat) (s : State) (h : ∀ i, (s.ref i).qualified = false) :
    ∃ m, l.foldl State.unqualify s = s.withRefs m ∧ ∀ i, ((s.withRefs m).ref i).qualified = false := by
  induction l generalizing s with
  | nil => exact ⟨s.time.refs, rfl, h⟩
  | cons a l ih =>
    refine ih (s.unqualify a) fun i => ?_
    simp only [State.unqualify, State.ref, State.setRef, Map.getD_put]
    split
    · rfl
    · exact h i

/-- Where no reference has ever delivered a sample, none is a falseticker and none is qualified. -/
theorem State.falsetickers_unsampled (s : State) (h : s.time.refs = []) :
    ∃ m, s.falsetickers = s.withRefs m ∧ ∀ i, ((s.withRefs m).ref i).qualified = false := by
  have href : ∀ i, s.ref i = {} := fun i => by simp [State.ref, h, Map.getD, Map.get?]
  have hfresh : (List.range 8).filter s.refFresh = [] :=
    List.filter_eq_nil_iff.mpr fun i _ => by simp [s.refFresh_unsampled i (by rw [href])]
  have hfold : s.falsetickers = (List.range 8).foldl State.unqualify s := by
    simp only [State.falsetickers, hfresh, List.contains_nil, Bool.false_and, Bool.false_eq_true, if_false]
    rfl
  rw [hfold]
  exact s.foldl_unqualify _ fun i => by rw [href]

/-- Where no reference is qualified and none was selected, none is (R490). -/
theorem State.select_none (s : State) (hq : ∀ i, (s.ref i).qualified = false) (hs : s.time.selected = none) : s.select = s := by
  have hbest : s.bestRef = none := by
    unfold State.bestRef
    rw [List.filter_eq_nil_iff.mpr fun i _ => by simp only [hq, Bool.false_and, Bool.false_eq_true, not_false_eq_true]]
    rfl
  exact if_pos (hbest.trans hs.symm)

/-! ### The whole second (R481, R487, R495) -/

theorem State.applyStep_none (s : State) (h : s.time.pendingStep = none) : s.applyStep = s := by
  simp [State.applyStep, h]

/-- The second latched: the written increment takes effect with the second's cross-stamp, and the second is counted by its state. -/
def State.latchSecond (s : State) : State :=
  let inc := s.time.incWritten.getD s.time.inc
  let corr := (2 ^ 34 : Int) - s.time.inc
  let steered := s.time.steered + corr * 1000000000000 / 2 ^ 34 - s.smearPpt
  let s := { s with time := { s.time with
    inc := inc, incWritten := none, steered := steered, second := some s.legalS,
    smearDone := s.time.smearDone + s.smearPpt,
    cross := ((s.time.air, s.time.legalNs, inc) :: s.time.cross).take 3600 } }
  s.count { name := .timeSeconds, a := s.time.st.code }

end Machine

/-! ### Frames of the operations of chapter 19 -/

theorem Claims.Frame.time (s : State) (x : TimeBlock) : Claims.Frame [.time] s { s with time := x } := by
  intro p _ hl
  cases p <;> simp_all [Claims.Part.same]

theorem Claims.Frame.mail (s : State) (x : Mail) : Claims.Frame [.mail] s { s with mail := x } := by
  intro p _ hl
  cases p <;> simp_all [Claims.Part.same]

theorem Claims.Frame.timeAir (s : State) (x : TimeBlock) (y : Air) : Claims.Frame [.time, .air] s { s with time := x, air := y } := by
  intro p _ hl
  cases p <;> simp_all [Claims.Part.same]

theorem Claims.Frame.setLane (s : State) (n : Nat) (l : Lane) : Claims.Frame [.lanes] s (s.setLane n l) := by
  intro p _ hl
  cases p <;> simp_all [Claims.Part.same]

theorem Claims.Frame.nextRound (s : State) : Claims.Frame [.ten] s s.nextRound := Claims.Frame.ten s _

theorem Claims.Frame.formDown (s : State) (n : Nat) : Claims.Frame [.lanes] s (s.formDown n) := by
  unfold State.formDown
  dsimp only
  split
  · exact Claims.Frame.refl _ _
  · exact Claims.Frame.setLane _ _ _

/-- What each step of a fold leaves, the fold leaves. -/
theorem Claims.Frame.foldl {α : Type} {l : List Claims.Part} {g : State → α → State} (h : ∀ s a, Claims.Frame l s (g s a)) (as : List α)
    (s : State) : Claims.Frame l s (as.foldl g s) := by
  induction as generalizing s with
  | nil => exact Claims.Frame.refl l s
  | cons a as ih => exact (h s a).trans (ih (g s a))

theorem Claims.Frame.clocked (s : State) (ticks : Nat) : Claims.Frame [.time, .air] s (s.clocked ticks) :=
  ((Claims.Frame.time s _).mono (by simp)).trans (Claims.Frame.timeAir (s.advance ticks) _ _)

/-- A millisecond in which nothing is on air leaves all but the clocks, the air plan, the arbiter and the lanes. -/
theorem Claims.Frame.millisecond (s : State) (h : s.air.onAir = []) : Claims.Frame [.time, .air, .ten, .lanes] s s.millisecond := by
  unfold State.millisecond
  rw [State.cutShort_none _ (s.clocked_onAir_none 250000 h)]
  exact (((Claims.Frame.clocked s _).mono (by simp)).trans ((Claims.Frame.nextRound _).mono (by simp))).trans
    ((Claims.Frame.foldl Claims.Frame.formDown _ _).mono (by simp))

theorem Claims.Frame.latchSecond (s : State) : Claims.Frame [.time, .ctrs] s s.latchSecond :=
  ((Claims.Frame.time s _).mono (by simp)).trans ((Claims.Frame.ctrs _ _).mono (by simp))

/-! ### What the rows leave -/

namespace Machine

/-- While firmware runs, a heartbeat tick is the millisecond and the register's next value (R48). -/
theorem execHeartbeatTick_ready (s : State) (hm : s.mail.mailboxReady = true) (hp : s.pow.stage ≠ 0x0C) :
    ∃ t, execHeartbeatTick s = .next t ∧ t.time = s.millisecond.time ∧ t.mail.heartbeat = (s.mail.heartbeat + 1) % 2 ^ 32 ∧
      Claims.Frame [.mail] s.millisecond t := by
  obtain ⟨-, -, -, hmail, hpow⟩ := s.millisecond_reads
  have hbeat := s.millisecond.heartbeat_ready (by rw [hmail, hm]) (by rwa [hpow])
  refine ⟨_, (execHeartbeatTick_eq s).trans (congrArg _ hbeat), rfl, ?_, Claims.Frame.mail _ _⟩
  simp only [hmail]

/-- An event raised once the time block has changed: it enters the queue, and the block keeps the change. -/
theorem State.raise_timed (s : State) (x : TimeBlock) (e : Ev) (t : Nat) (p : List Nat) (he : e.source < 144 ∨ 176 ≤ e.source)
    (hr : Claims.Room s) :
    (∃ st, (({ s with time := x } : State).raise e t p).time = { x with lastStamp := st }) ∧
    Claims.Raised e t p s (({ s with time := x } : State).raise e t p) ∧
    Claims.Frame [.time, .ev, .ctrs] s (({ s with time := x } : State).raise e t p) :=
  ⟨State.time_raise _ _ _ _ _, (State.raised_raise { s with time := x } e t p false he hr).1,
    ((Claims.Frame.time s x).mono (by simp)).trans ((Claims.Frame.raise _ _ _ _ _).mono (by simp))⟩

/-- HOLDOVER left for FREE is counted and reported (R491). -/
theorem State.setTime_free_reads (s : State) (h : s.time.st = .holdover) (hr : Claims.Room s) :
    (s.setTime .free).time.st = .free ∧ Claims.Counted { name := .timeFrees } 1 s (s.setTime .free) ∧
    Claims.Raised .timeState 0 [TimeSt.holdover.code, TimeSt.free.code, slotOpt s.time.selected] s (s.setTime .free) ∧
    Claims.Frame [.time, .ctrs, .ev] s (s.setTime .free) := by
  let u : State := State.count { s with time := { s.time with
    st := .free, holdoverMs := s.time.ms, lockRun := 0, unlockRun := 0, lockedReached := s.time.lockedReached || decide (TimeSt.free = TimeSt.locked) } }
    { name := .timeFrees }
  have hu : s.setTime .free = u.raise .timeState 0 [TimeSt.holdover.code, TimeSt.free.code, slotOpt s.time.selected] := by
    simp [State.setTime, h, u]
  obtain ⟨hraised, hctrs⟩ := u.raised_raise .timeState 0 [TimeSt.holdover.code, TimeSt.free.code, slotOpt s.time.selected] false (by decide) hr
  rw [hu]
  refine ⟨?_, ?_, hraised, ?_⟩
  · rw [u.raise_room _ _ _ _ (by decide) hr]
    rfl
  · exact (congrArg (fun m => Map.getD m _ 0) hctrs).trans (State.ctr_count _ _ _)
  · exact (((Claims.Frame.time s _).mono (by simp)).trans ((Claims.Frame.ctrs _ _).mono (by simp))).trans
      ((Claims.Frame.raise _ _ _ _ _).mono (by simp))

/-- A sample is counted and stands first among the recent ones of its reference, with the asymmetry added. -/
theorem State.sample_reads (s : State) (i : Nat) (o : Int) (d : Nat) :
    ((s.sample i o d).ref i).samples = (s.ref i).samples + 1 ∧ ((s.sample i o d).ref i).lastMs = some s.time.ms ∧
    ((s.sample i o d).ref i).recent.head? = some (o + s.rdS Rec.TimeRef.AsymmetryNs i, d, s.time.ms) ∧
    Claims.Counted { name := .timeSamples, a := i } 1 s (s.sample i o d) ∧ Claims.Frame [.time, .ctrs] s (s.sample i o d) := by
  have hr : ∃ r : RefSt, s.sample i o d = (s.setRef i r).count { name := .timeSamples, a := i } ∧ r.samples = (s.ref i).samples + 1 ∧
      r.lastMs = some s.time.ms ∧ r.recent.head? = some (o + s.rdS Rec.TimeRef.AsymmetryNs i, d, s.time.ms) := by
    unfold State.sample
    dsimp only
    cases filterSamples (s.rd Rec.TimeRef.Kind i) s.time.ms _ <;> exact ⟨_, rfl, rfl, rfl, rfl⟩
  obtain ⟨r, hs, hsamples, hlast, hrecent⟩ := hr
  have href : (s.sample i o d).ref i = r := (congrArg (State.ref · i) hs).trans (s.ref_setRef i r)
  rw [href]
  refine ⟨hsamples, hlast, hrecent, ?_, ?_⟩
  · rw [hs]
    exact State.ctr_count _ _ _
  · rw [hs]
    exact ((Claims.Frame.time s _).mono (by simp)).trans ((Claims.Frame.ctrs _ _).mono (by simp))

/-- A whole second in FREE without references: it is latched, and no event is raised. -/
theorem execLegalSecond_free (s : State) (hs : s.time.second ≠ some s.legalS) (hstep : s.time.pendingStep = none)
    (hsel : s.time.selected = none) (hrefs : s.time.refs = []) (hst : s.time.st = .free) :
    ∃ t, execLegalSecond s = .next t ∧
      t.time.cross.head? = some (s.time.air, s.time.legalNs, s.time.incWritten.getD s.time.inc) ∧ t.time.legalNs = s.time.legalNs ∧
      t.time.second = some s.legalS ∧ t.time.st = .free ∧ t.ctrs = s.latchSecond.ctrs ∧ Claims.Frame [.time, .ctrs] s t := by
  obtain ⟨m, hm, hq⟩ := s.latchSecond.falsetickers_unsampled hrefs
  have hjudged : s.latchSecond.falsetickers.select = s.latchSecond.withRefs m := by rw [hm, State.select_none _ hq hsel]
  have hsel' : (s.latchSecond.withRefs m).time.selected = none := hsel
  have hst' : (s.latchSecond.withRefs m).time.st = .free := hst
  simp only [State.latchSecond] at hjudged hsel' hst'
  simp only [execLegalSecond, if_neg hs, s.applyStep_none hstep, hjudged, hsel', hst', State.lockStep, Option.isSome_none,
    Bool.false_eq_true, false_and, and_false, if_false, reduceCtorEq]
  refine ⟨_, rfl, rfl, rfl, rfl, rfl, rfl, ?_⟩
  exact (Claims.Frame.latchSecond s).trans ((Claims.Frame.time s.latchSecond _).mono (by simp))

end Machine

/-- Settles O38. -/
theorem timeEventsComplete : Obligations.TimeEventsComplete := by
  unfold Obligations.TimeEventsComplete
  refine ⟨?tick, ?tickQuiet, ?holdover, ?samplePtp, ?sampleNtp, ?sampleRejected, ?pps, ?ppsRejected, ?second, ?smearBegins, ?smearEnds,
    ?exchangeFirst, ?exchangeLater, ?exchangeIdle⟩
  case tick =>
    intro s hm hp
    obtain ⟨t, h, htime, hbeat, -⟩ := execHeartbeatTick_ready s hm hp
    obtain ⟨hms, hlegal, hair, -⟩ := s.millisecond_reads
    exact ⟨t, h, by rw [htime, hms], hbeat, by rw [htime, hlegal], by rw [htime, hair]⟩
  case tickQuiet =>
    intro s hm hp hquiet
    obtain ⟨t, h, htime, hbeat, hframe⟩ := execHeartbeatTick_ready s hm hp
    obtain ⟨hms, hlegal, hair, -⟩ := s.millisecond_reads
    refine ⟨t, h, by rw [htime, hms], hbeat, by rw [htime, hlegal], by rw [htime, hair], ?_⟩
    exact ((Claims.Frame.millisecond s hquiet).mono (by simp)).trans (hframe.mono (by simp))
  case holdover =>
    intro s hst hlong hr
    exact ⟨s.setTime .free, if_pos ⟨hst, hlong⟩, s.setTime_free_reads hst hr⟩
  case samplePtp =>
    intro s ref t1 t2 t3 t4 leapDay leap href hkind hsel
    obtain ⟨hn, hlast, hrecent, hcount, hframe⟩ := s.sample_reads ref (fourStamp t3 t4 t1 t2).1 ((fourStamp t3 t4 t1 t2).2 / 2)
    refine ⟨_, ?_, hn, hlast, hrecent, hcount, hframe⟩
    show execTimeSample ref t1 t2 t3 t4 leap leapDay s = _
    have hsel' : (s.sample ref (fourStamp t3 t4 t1 t2).1 ((fourStamp t3 t4 t1 t2).2 / 2)).time.selected ≠ some ref := hsel
    simp [execTimeSample, Nat.not_le.mpr href, hkind, hsel']
  case sampleNtp =>
    intro s ref t1 t2 t3 t4 leapDay leap href hkind hsmear hleap
    obtain ⟨hn, -, hrecent, hcount, hframe⟩ := s.sample_reads ref (fourStamp t1 t2 t3 t4).1 (fourStamp t1 t2 t3 t4).2
    let u := s.sample ref (fourStamp t1 t2 t3 t4).1 (fourStamp t1 t2 t3 t4).2
    have hsmear' : u.time.smearing = none := hsmear
    refine ⟨{ u with time := { u.time with leap := some (leapDay, leap), leapFrom := some ref } }, ?_, hn, hrecent, rfl, rfl, hcount,
      hframe.trans ((Claims.Frame.time u _).mono (by simp))⟩
    show execTimeSample ref t1 t2 t3 t4 leap leapDay s = _
    simp [execTimeSample, Nat.not_le.mpr href, hkind, hsmear', hleap, u]
  case sampleRejected =>
    exact fun s ref t1 t2 t3 t4 leapDay leap h => if_pos h
  case pps =>
    intro s at' hpps hnear
    obtain ⟨hn, hlast, hrecent, hcount, hframe⟩ := s.sample_reads 0 ((at' : Int) - ((at' + 500000000) / 1000000000 * 1000000000 : Nat)) 0
    refine ⟨_, ?_, hn, hlast, hrecent, hcount, hframe⟩
    show execPpsEdge at' s = _
    simp only [execPpsEdge, hpps, List.foldl_cons, List.foldl_nil, if_neg (Nat.not_lt.mpr hnear)]
  case ppsRejected =>
    intro s at' hpps hfar
    show execPpsEdge at' s = _
    simp only [execPpsEdge, hpps, List.foldl_cons, List.foldl_nil, if_pos hfar]
  case second =>
    intro s hs hstep hsel hrefs hst hinc
    obtain ⟨t, h, hcross, hlegal, hsecond, hfree, hctrs, hframe⟩ := execLegalSecond_free s hs hstep hsel hrefs hst
    refine ⟨t, h, hcross.trans (by rw [hinc, Option.getD_none]), hlegal, hsecond, hfree, ?_, hframe⟩
    rw [← hst]
    exact (congrArg (fun m => Map.getD m _ 0) hctrs).trans (State.ctr_count _ _ _)
  case smearBegins =>
    intro s g d hsmear hleap hday hr
    obtain ⟨⟨st, ht⟩, hraised, hframe⟩ := s.raise_timed { s.time with smearing := some g, smearDone := 0, smearDay := d }
      .timeLeap 0 [slotOf g, d, 0] (by decide) hr
    refine ⟨_, ?_, congrArg TimeBlock.smearing ht, congrArg TimeBlock.smearDay ht, hraised, hframe⟩
    show execLeapSmear s = _
    simp [execLeapSmear, hsmear, hleap, hday]
  case smearEnds =>
    intro s g hsmear hday hr
    obtain ⟨⟨st, ht⟩, hraised, hframe⟩ := s.raise_timed { s.time with smearing := none, leap := none, smearDone := 0 }
      .timeLeap 0 [slotOf g, s.time.smearDay, 1] (by decide) hr
    refine ⟨_, ?_, congrArg TimeBlock.smearing ht, congrArg TimeBlock.leap ht, hraised, hframe⟩
    show execLeapSmear s = _
    simp [execLeapSmear, hsmear, hday]
  case exchangeFirst =>
    intro s t1 t2 t3 t4 a1 a2 a3 a4 hlive hst hseed hnear
    let u := s.count { name := .timeExchanges }
    refine ⟨{ u with time := { u.time with
      partnerOffset := some (fourStamp t1 t2 t3 t4).1, legalNs := ((s.time.legalNs : Int) - (fourStamp t1 t2 t3 t4).1).toNat,
      air := ((s.time.air : Int) - (fourStamp a1 a2 a3 a4).1).toNat, airSeeded := true } }, ?_, rfl, rfl, rfl, rfl, State.ctr_count _ _ _, ?_⟩
    · show execPartnerTimeExchange t1 t2 t3 t4 a1 a2 a3 a4 s = _
      simp [execPartnerTimeExchange, hlive, u.setTime_same .partner hst, hseed, Nat.not_lt.mpr hnear, u]
    · exact ((Claims.Frame.ctrs s _).mono (by simp)).trans ((Claims.Frame.time u _).mono (by simp))
  case exchangeLater =>
    intro s t1 t2 t3 t4 a1 a2 a3 a4 hlive hst hseed hnear
    let u := s.count { name := .timeExchanges }
    let trim := clampAbs 100000000 (s.time.airTrim + (fourStamp a1 a2 a3 a4).1 * 1000)
    refine ⟨{ u with time := { u.time with
      partnerOffset := some (fourStamp t1 t2 t3 t4).1, airTrim := trim, airInc := airIncFor (trim + (fourStamp a1 a2 a3 a4).1 * 4000) } },
      ?_, rfl, rfl, rfl, rfl, rfl, State.ctr_count _ _ _, ?_⟩
    · show execPartnerTimeExchange t1 t2 t3 t4 a1 a2 a3 a4 s = _
      simp [execPartnerTimeExchange, hlive, u.setTime_same .partner hst, hseed, Nat.not_lt.mpr hnear, u, trim]
    · exact ((Claims.Frame.ctrs s _).mono (by simp)).trans ((Claims.Frame.time u _).mono (by simp))
  case exchangeIdle =>
    intro s t1 t2 t3 t4 a1 a2 a3 a4 hlive
    show execPartnerTimeExchange t1 t2 t3 t4 a1 a2 a3 a4 s = _
    simp [execPartnerTimeExchange, hlive]

end Sys2Proof
end

section
/-! The channel filter events of chapter 5 (O26): what a DC-block and a capture read after a change, what an event raised at its end adds, each
row on the states its clause names, and the statement. -/

namespace Sys2Proof

open Machine

theorem Claims.Frame.filt (s : State) (x : Filt) : Claims.Frame [.filt] s { s with filt := x } := by
  intro p _ hl
  cases p <;> simp_all [Claims.Part.same]

namespace Machine

/-! ### DC-blocks and captures read back -/

@[simp] theorem State.dcOf_setDc (s : State) (t : Nat) (d : DcSt) : (s.setDc t d).dcOf t = d := Map.getD_put_self _ _ _ _

@[simp] theorem State.dcOf_raise (s : State) (e : Ev) (n : Nat) (p : List Nat) (o : Bool) (t : Nat) : (s.raise e n p o).dcOf t = s.dcOf t := by
  simp [State.dcOf]

@[simp] theorem State.dcKeys_setUnit (s : State) (u : UnitId) (x : EnUnit) (t : Nat) : (s.setUnit u x).dcKeys t = s.dcKeys t := rfl

@[simp] theorem State.unitSt_setDc (s : State) (t : Nat) (d : DcSt) (u : UnitId) : (s.setDc t d).unitSt u = s.unitSt u := rfl

@[simp] theorem State.unitSt_raise (s : State) (e : Ev) (n : Nat) (p : List Nat) (o : Bool) (u : UnitId) :
    (s.raise e n p o).unitSt u = s.unitSt u := by
  simp [State.unitSt, State.unit]

/-- A capture set is found by its identity, where one of that identity was. -/
theorem State.find?_setCapture (s : State) {id : Nat} {x y : Capture} (hx : s.filt.captures.find? (fun z => z.id == id) = some x)
    (hy : y.id = x.id) : (s.setCapture y).filt.captures.find? (fun z => z.id == id) = some y := by
  have hid : x.id = id := by simpa using List.find?_some hx
  have hp : ((fun z : Capture => z.id == id) ∘ fun z => if z.id = x.id then y else z) = fun z => z.id == id := by
    funext z
    by_cases hz : z.id = x.id
    · simp [hz, hy]
    · simp [hz]
  simp only [State.setCapture, hy, List.find?_map, hp, hx, Option.map_some, if_true]

/-! ### An event at the end of a row -/

/-- An event raised once other parts have changed is the one entry the queue gains, and adds its own parts to those that changed. -/
theorem State.raise_after {l : List Claims.Part} {s u : State} (e : Ev) (p : List Nat) (he : e.source < 144 ∨ 176 ≤ e.source)
    (hu : u.ev = s.ev) (hr : Claims.Room s) (hf : Claims.Frame l s u) (hl : [.ctrs, .time, .ev] ⊆ l) :
    Claims.Raised e 0 p s (u.raise e 0 p) ∧ Claims.Frame l s (u.raise e 0 p) := by
  have hraised := (u.raised_raise e 0 p false he (by rwa [Claims.Room, hu])).1
  rw [Claims.Raised, hu] at hraised
  exact ⟨hraised, hf.trans ((Claims.Frame.raise _ _ _ _ _).mono hl)⟩

/-! ### The rows on the states their clauses name -/

/-- A deferred capture whose air time or event has come begins (R129). -/
theorem execCaptureBegin_begins (s : State) (id : Nat) (x : Capture) (hx : s.filt.captures.find? (fun y => y.id == id) = some x)
    (hs : x.st = .waiting)
    (hd : x.start = 1 ∧ x.at' ≤ s.time.air ∨ x.start = 2 ∧ ∃ e, Map.get? s.ev.lastStamp x.at' = some e ∧ x.reqStamp ≤ e) :
    execCaptureBegin id s = .next (s.beginCapture x) := by
  rcases hd with ⟨hstart, hair⟩ | ⟨hstart, e, hev, hreq⟩
  · simp [execCaptureBegin, hx, hs, hstart, hair]
  · simp [execCaptureBegin, hx, hs, hstart, hev, hreq]

/-- A capture that ends is DONE as `y` with what it has taken, and `filt.capture_done` says so (R131). -/
theorem execCaptureDone_ends (s : State) (id : Nat) (x y : Capture) (hx : s.filt.captures.find? (fun z => z.id == id) = some x)
    (hs : x.st = .active ∧ (x.wanted ≤ x.taken ∨ x.startAir + x.durationUs * 2000 + captureLag ≤ s.time.air) ∨ x.st = .stopped)
    (hy : (if x.st = .active then x.filled else x).ended = y) (hr : Claims.Room s) :
    ∃ t, execCaptureDone id s = .next t ∧ t.filt.captures.find? (fun z => z.id == id) = some y ∧
      Claims.Raised .filtCaptureDone 0 [id, y.samples, bit y.truncated, y.gaps.length] s t ∧
      Claims.Frame [.filt, .ctrs, .time, .ev] s t := by
  have hid : y.id = x.id := by
    rw [← hy]
    split <;> rfl
  obtain ⟨m, hm⟩ : ∃ m, (if y.truncated then (s.setCapture y).count { name := .filtTrunc } else s.setCapture y).count
      { name := .filtCapBytes } y.size = { s.setCapture y with ctrs := m } := by
    split <;> exact ⟨_, rfl⟩
  have hframe : Claims.Frame [.filt, .ctrs, .time, .ev] s { s.setCapture y with ctrs := m } :=
    ((Claims.Frame.filt s _).mono (by simp)).trans ((Claims.Frame.ctrs _ m).mono (by simp))
  refine ⟨({ s.setCapture y with ctrs := m } : State).raise .filtCaptureDone 0 [id, y.samples, bit y.truncated, y.gaps.length],
    ?_, ?_, State.raise_after _ _ (by decide) rfl hr hframe (by simp)⟩
  · simp only [execCaptureDone, hx, decide_eq_true_eq, if_pos hs, hy, hm]
  · simp only [State.raise_frame]
    exact s.find?_setCapture hx hid

end Machine

/-- Settles O26, clause by clause. -/
theorem filterEventsComplete : Obligations.FilterEventsComplete := by
  unfold Obligations.FilterEventsComplete
  refine ⟨?ready, ?notStarting, ?frozenLong, ?frozenQuiet, ?beginAir, ?beginEvent, ?doneActive, ?doneStopped, ?doneIdle⟩
  case ready =>
    intro s target hst hsum hr
    refine ⟨_, if_pos ⟨hst, hsum⟩, by simp, by simp, by simp, by simp, State.raise_after _ _ (by decide) rfl hr ?_ (by simp)⟩
    exact ((Claims.Frame.arch s _).mono (by simp)).trans ((Claims.Frame.filt _ _).mono (by simp))
  case notStarting =>
    exact fun s target hst => if_neg fun h => hst h.1
  case frozenLong =>
    intro s target since st hf hl hlong hr
    refine ⟨(s.setDc target { s.dcOf target with longRaised := true }).raise .filtDcFrozenLong 0
      [target, if (s.dcOf target).cmdFreeze then 0 else 1], ?_, by simp, State.raise_after _ _ (by decide) rfl hr ?_ (by simp)⟩
    · show execDcFreezeLong target s = _
      simp [execDcFreezeLong, hf, hl, hlong]
    · exact (Claims.Frame.filt s _).mono (by simp)
  case frozenQuiet =>
    intro s target since st hf hq
    have hn : ¬((!(s.dcOf target).longRaised) = true ∧ since + 600000 ≤ s.time.ms) := by
      rintro ⟨hl, hlong⟩
      rcases hq with hq | hq
      · simp [hq] at hl
      · omega
    show execDcFreezeLong target s = _
    simp only [execDcFreezeLong, hf, if_neg hn]
  case beginAir =>
    exact fun s id x hx hs hstart hair => execCaptureBegin_begins s id x hx hs (.inl ⟨hstart, hair⟩)
  case beginEvent =>
    exact fun s id e x hx hs hstart hev hreq => execCaptureBegin_begins s id x hx hs (.inr ⟨hstart, e, hev, hreq⟩)
  case doneActive =>
    exact fun s id x hx hs hfull hr => execCaptureDone_ends s id x _ hx (.inl ⟨hs, hfull⟩) (by rw [if_pos hs]) hr
  case doneStopped =>
    exact fun s id x hx hs hr => execCaptureDone_ends s id x _ hx (.inr hs) (by simp [hs]) hr
  case doneIdle =>
    intro s id x hx hs
    have hn : x.st ≠ .active ∧ x.st ≠ .stopped := by
      rcases hs with hs | hs <;> simp [hs]
    show execCaptureDone id s = _
    simp [execCaptureDone, hx, hn]

end Sys2Proof
end

section
/-! The flood's window (O29): a frame slot after the first that is due and free, the two things it does with the stream it takes its frame
from, and the statement. -/

namespace Sys2Proof

open Machine

/-! ### Frames of the operations of chapter 9 -/

theorem Claims.Frame.modStream (s : State) (n : Nat) (f : Stream → Stream) : Claims.Frame [.fl] s (s.modStream n f) := by
  intro p _ hl
  cases p <;> simp_all [Claims.Part.same]

theorem Claims.Frame.carry (s : State) (k : Kept) : Claims.Frame [.ctrs, .store, .ports] s (s.carry k) := by
  intro p _ hl
  cases p <;> simp_all [Claims.Part.same]

namespace Machine

/-! ### Streams -/

/-- Pausing a stream for its key leaves the streams with it paused, and raises `flood.paused` alone (R226). -/
theorem State.pauseStream_keyless (s : State) (x : Stream) :
    s.pauseStream x 0 = (s.modStream x.number fun y => { y with st := .paused }).raise .floodPaused x.tenant [x.number, 0] := by
  simp [State.pauseStream]

/-- The streams of one number, paused, are the ones that were not paused before. -/
theorem State.modStream_paused (s : State) (n : Nat) :
    ((s.modStream n fun y => { y with st := .paused }).fl.streams.map fun y => (y.number, decide (y.st = .paused))) =
      s.fl.streams.map fun y => (y.number, decide (y.number = n ∨ y.st = .paused)) := by
  simp only [State.modStream, List.map_map]
  refine List.map_congr_left fun y _ => ?_
  by_cases hy : y.number = n <;> simp [hy]

/-! ### A frame slot that comes due -/

/-- A frame slot after the first of its window that is to be planned now (R220): the schedule is active on a chip that serves, the slot is one
of a window in use whose slot before it is filled, and it is itself free and far enough ahead. -/
structure State.SlotDue (s : State) (window slot : Nat) : Prop where
  active : s.rdB Rec.FloodSchedule.Active = true
  serving : s.serving = true
  later : 0 < slot
  within : slot < s.rd Rec.FloodSchedule.FramesPerWindow
  since : s.fl.fromS ≤ s.windowS window
  free : s.fl.filled.contains (s.windowS window, slot) = false
  before : s.fl.filled.contains (s.windowS window, slot - 1) = true
  ahead : s.time.air + s.rd Rec.AirPolicy.PlanLeadMs * airPerMs ≤ s.frameSlotAir window slot

/-- None of the reasons to leave a slot alone holds of one that is due. -/
theorem State.SlotDue.not_passed {s : State} {window slot : Nat} (h : s.SlotDue window slot) :
    ¬((!s.rdB Rec.FloodSchedule.Active) = true ∨ (!s.serving) = true ∨ s.rd Rec.FloodSchedule.FramesPerWindow ≤ slot ∨
      s.windowS window < s.fl.fromS ∨ s.fl.filled.contains (s.windowS window, slot) = true ∨
      (!(slot == 0 || s.fl.filled.contains (s.windowS window, slot - 1))) = true ∨
      s.frameSlotAir window slot < s.time.air + s.rd Rec.AirPolicy.PlanLeadMs * airPerMs) := by
  obtain ⟨hactive, hserving, -, hwithin, hsince, hfree, hbefore, hahead⟩ := h
  rw [hactive, hserving, hfree, hbefore]
  simp only [Bool.or_true, Bool.not_true, Bool.false_eq_true, false_or]
  omega

/-- A slot that is due pauses its stream where the stream cannot be launched. -/
theorem execFloodWindow_pauses {s : State} {window slot c : Nat} {x : Stream} (h : s.SlotDue window slot)
    (hx : s.nextStream window slot = some x) (hp : s.pauseCause x = some c) :
    execFloodWindow window slot s = .next ((s.pauseStream x c).carry .floods) := by
  simp only [execFloodWindow, if_neg h.not_passed, if_neg (Nat.ne_of_gt h.later), hx, hp]

/-- A slot that is due counts as filled where the launch of its stream puts an entry on a head's queue. -/
theorem execFloodWindow_fills {s : State} {window slot : Nat} {x : Stream} (h : s.SlotDue window slot)
    (hx : s.nextStream window slot = some x) (hp : s.pauseCause x = none)
    (hq : s.air.queue.length < (s.launchFlood x window slot).air.queue.length) :
    ∃ l, execFloodWindow window slot s = .next (((({ s.launchFlood x window slot with
      fl := { (s.launchFlood x window slot).fl with filled := (s.windowS window, slot) :: l } } : State).carry .floods).carry .duty)) := by
  refine ⟨(s.launchFlood x window slot).fl.filled.filter fun y => decide (s.legalS ≤ y.1 + 86400), ?_⟩
  simp only [execFloodWindow, if_neg h.not_passed, if_neg (Nat.ne_of_gt h.later), hx, hp, if_neg (Nat.ne_of_gt hq)]

end Machine

/-- Settles O29, clause by clause. -/
theorem floodEventsComplete : Obligations.FloodEventsComplete := by
  unfold Obligations.FloodEventsComplete
  refine ⟨?paused, ?launched⟩
  case paused =>
    intro s window slot c x hactive hserving hlater hwithin hsince hfree hbefore hahead hx hp hc hr
    subst hc
    have hdue : s.SlotDue window slot := ⟨hactive, hserving, hlater, hwithin, hsince, hfree, hbefore, hahead⟩
    let u := s.modStream x.number fun y => { y with st := .paused }
    have hraised : Claims.Raised .floodPaused x.tenant [x.number, 0] s (u.raise .floodPaused x.tenant [x.number, 0]) :=
      (u.raised_raise .floodPaused x.tenant [x.number, 0] false (by decide) hr).1
    refine ⟨(u.raise .floodPaused x.tenant [x.number, 0]).carry .floods, ?_, ?_, ?_, ?_⟩
    · rw [← State.pauseStream_keyless]
      exact execFloodWindow_pauses hdue hx hp
    · simpa only [Claims.Raised, State.carry_frame] using hraised
    · simpa only [State.carry_frame, State.raise_frame] using s.modStream_paused x.number
    · exact (((Claims.Frame.modStream s _ _).mono (by simp)).trans ((Claims.Frame.raise u _ _ _ _).mono (by simp))).trans
        ((Claims.Frame.carry _ _).mono (by simp))
  case launched =>
    intro s window slot x hactive hserving hlater hwithin hsince hfree hbefore hahead hx hp hq
    have hdue : s.SlotDue window slot := ⟨hactive, hserving, hlater, hwithin, hsince, hfree, hbefore, hahead⟩
    obtain ⟨l, hl⟩ := execFloodWindow_fills hdue hx hp hq
    exact ⟨_, hl, by simp, by simp, by simp⟩

end Sys2Proof
end

section
/-! The frame security events of chapters 9 and 11 (O32): which counters the journal and the partner stream move, what a frame that is no
meter's leaves, the rows on the states their clauses name, and the statement. -/

namespace Sys2Proof

open Machine

theorem Claims.Frame.sec (s : State) (x : Sec) : Claims.Frame [.sec] s { s with sec := x } := by
  intro p _ hl
  cases p <;> simp_all [Claims.Part.same]

theorem Claims.Frame.drawBytes (s : State) (n : Nat) : Claims.Frame [.freeCtr] s (s.drawBytes n).2 := by
  intro p _ hl
  cases p <;> simp_all [Claims.Part.same]

namespace Machine

/-! ### Counters that a journal entry leaves -/

/-- The counters that an entry of the journal can move on its way: events dropped, entries streamed, messages to the partner. -/
def CtrName.ofEntry : List CtrName := [.evDropped, .pairStreamed, .partnerOut]

/-- A counter reads the same where the counters are the same. -/
theorem State.ctr_congr {s t : State} {c : Ctr} (h : t.ctrs = s.ctrs) : t.ctr c = s.ctr c := congrArg (Map.getD · c 0) h

/-- Counting under a name leaves the counters of the other names. -/
theorem State.ctr_count_name {s : State} {c d : Ctr} {n : Nat} (h : c.name ≠ d.name) : (s.count d n).ctr c = s.ctr c :=
  s.ctr_count_ne d c n fun e => h (congrArg Ctr.name e.symm)

section
variable {c : Ctr} (hc : c.name ∉ CtrName.ofEntry)
include hc

theorem State.ctr_raise (s : State) (e : Ev) (t : Nat) (p : List Nat) (o : Bool) : (s.raise e t p o).ctr c = s.ctr c := by
  rcases s.raise_eq e t p o with h | h | ⟨-, h⟩
  · exact congrArg (State.ctr · c) h
  · rw [h]
    exact State.ctr_congr (by simp)
  · rw [h]
    exact (State.ctr_congr (s := s.count { name := .evDropped, a := e.source }) rfl).trans
      (State.ctr_count_name fun k => hc (by simp [k, CtrName.ofEntry]))

theorem State.ctr_sendPartner (s : State) (p type : Nat) (w : List Nat) (d : List Byte) : (s.sendPartner p type w d).ctr c = s.ctr c := by
  unfold State.sendPartner
  dsimp only
  split
  · exact State.ctr_count_name fun e => hc (by simp [e, CtrName.ofEntry])
  · rfl

theorem State.ctr_streamEntry (s : State) (e : JEntry) : (s.streamEntry e).ctr c = s.ctr c :=
  (State.ctr_sendPartner hc _ _ _ _ _).trans (State.ctr_count_name fun e => hc (by simp [e, CtrName.ofEntry]))

theorem State.ctr_watchReplay (s : State) : s.watchReplay.ctr c = s.ctr c := by
  have hstart : ∀ s : State, s.startCheckpoint.ctr c = s.ctr c := fun s => State.ctr_congr (by simp)
  unfold State.watchReplay
  dsimp only
  split <;> split
  · exact (State.ctr_raise hc _ _ _ _ _).trans (hstart s)
  · exact hstart s
  · exact State.ctr_raise hc _ _ _ _ _
  · rfl

theorem State.ctr_watchRoom (s : State) : s.watchRoom.ctr c = s.ctr c := by
  unfold State.watchRoom
  split
  · exact State.ctr_raise hc _ _ _ _ _
  · rfl

theorem State.ctr_passEntry (s : State) (e : JEntry) : (s.passEntry e).ctr c = s.ctr c := by
  unfold State.passEntry
  split
  · exact (State.ctr_watchReplay hc _).trans (State.ctr_streamEntry hc _ _)
  · rfl

/-- Journaling moves no other counter than those of `CtrName.ofEntry`. -/
theorem State.ctr_journal (s : State) (k : JKind) (t n : Nat) (b : JBody) (q : Nat) : (s.journal k t n b q).ctr c = s.ctr c := by
  unfold State.journal
  split
  · rfl
  · exact (State.ctr_passEntry hc _ _).trans ((State.ctr_watchRoom hc _).trans (State.ctr_congr (by simp)))

/-- An audit record changes no queue of the pipeline, and no counter but those of its journal entry. -/
theorem State.audit_reads (s : State) (f : SecFrame) (r : Reason) (rule position : Nat) (plain : Bool) :
    (s.audit f r rule position plain).rx = s.rx ∧ (s.audit f r rule position plain).led = s.led ∧
    (s.audit f r rule position plain).ctr c = s.ctr c := by
  unfold State.audit
  split
  · exact ⟨rfl, rfl, rfl⟩
  · exact ⟨by simp, by simp, State.ctr_journal hc _ _ _ _ _ _⟩

end

/-! ### A frame that is no meter's -/

/-- Stage 1 takes every ACK for a meter's, so a frame it ends as TYPE acknowledges nothing (R273). -/
theorem not_ack_of_parseFrame_none {h : HandedFrame} (hp : parseFrame h = none) : ¬(h.mode ≤ 2 ∧ leaType h.frame = 9) := by
  rintro ⟨hm, ht⟩
  simp [parseFrame, hm, ht] at hp

theorem State.airRefused_eq (s : State) (slot : Nat) : ∃ a, s.airRefused slot = { s with air := a } := by
  unfold State.airRefused
  dsimp only
  split
  · split
    · exact ⟨s.air, rfl⟩
    · exact ⟨_, rfl⟩
  · exact ⟨s.air, rfl⟩

theorem State.lingRefused_eq (s : State) (slot : Nat) : ∃ l, s.lingRefused slot = { s with ling := l } := by
  unfold State.lingRefused
  dsimp only
  split
  · exact ⟨_, rfl⟩
  · exact ⟨s.ling, rfl⟩

/-- A frame that acknowledges nothing leaves its end to the poll plan and to Ling alone. -/
theorem State.unaccepted_eq (s : State) {h : HandedFrame} (hack : ¬(h.mode ≤ 2 ∧ leaType h.frame = 9)) (copied : Bool) :
    ∃ a l, s.unaccepted h copied = { s with air := a, ling := l } := by
  unfold State.unaccepted
  dsimp only
  rw [if_neg fun hall => hack hall.2.2]
  split
  · obtain ⟨a, ha⟩ := s.airRefused_eq h.hint
    exact ⟨a, s.ling, ha⟩
  · split
    · obtain ⟨l, hl⟩ := s.lingRefused_eq h.hint
      exact ⟨s.air, l, hl⟩
    · exact ⟨s.air, s.ling, rfl⟩

/-- A frame that acknowledges nothing ends counted under its reason, and brings neither reception nor the ledger any work. -/
theorem State.endFrame_reads (s : State) (f : SecFrame) (r : Reason) (rule : Nat) (plain : Bool)
    (hack : ¬(f.h.mode ≤ 2 ∧ leaType f.h.frame = 9)) :
    (s.endFrame f r rule plain).rx = s.rx ∧ (s.endFrame f r rule plain).led = s.led ∧
    Claims.Counted { name := .secReason, a := f.tenant, b := r.code } 1 s (s.endFrame f r rule plain) := by
  obtain ⟨a, l, hu⟩ := ((s.reasoned f r).audit f r rule 0 plain).unaccepted_eq hack (decide (r = .swardHit))
  obtain ⟨hrx, hled, hctr⟩ := State.audit_reads (c := { name := .secReason, a := f.tenant, b := r.code })
    (by simp [CtrName.ofEntry]) (s.reasoned f r) f r rule 0 plain
  rw [State.endFrame, hu]
  exact ⟨hrx, hled, hctr.trans (State.ctr_count s _ _)⟩

/-- Stages 1 to 6 end a frame that is no meter's as TYPE. -/
theorem State.stagesFirst_type (s : State) {h : HandedFrame} (hp : parseFrame h = none) :
    s.stagesFirst h = s.endFrame { h := h, kind := 0, slot := 0xFFFFFFFF, tenant := 0, gen := 0 } .type := by
  simp only [State.stagesFirst, hp]

/-! ### The rows on the states their clauses name -/

/-- A rebuild under a drawn key that places every entry in the primary table ends: no slot lies in the victim table (R276). -/
theorem execDirRebuildDone_placed (s : State) (x : DirRebuild) (hx : s.sec.rebuild = some x)
    (hall : dirAll (s.drawBytes 16).1 ((s.assignedSlots.map fun k => (k, s.rd Rec.MeterSec.Address k)) ++ x.extra.toList) [] [] = some []) :
    execDirRebuildDone s = .next (({ (s.drawBytes 16).2.count { name := .secRebuild } with
      sec := { s.sec with kd := (s.drawBytes 16).1, dirVictims := [], rebuild := none } } : State).raise .secDirRebuild 0
        [x.attempts + 1, s.time.ms - x.beganMs]) := by
  have hslots : (s.drawBytes 16).2.assignedSlots = s.assignedSlots := rfl
  have haddress : ∀ k, (s.drawBytes 16).2.rd Rec.MeterSec.Address k = s.rd Rec.MeterSec.Address k := fun _ => rfl
  simp only [execDirRebuildDone, hx, hslots, haddress, hall, List.filter_nil]
  rfl

/-- The Sward leaves victim-full once its age has passed since the last full miss (R232). -/
theorem execSwardVictimClear_aged (s : State) (n : Nat) (hn : s.sec.victimSince = some n)
    (hage : s.sec.victimLast + s.rd Rec.SwardPolicy.SwardAgeS ≤ s.legalS) :
    execSwardVictimClear s =
      .next (({ s with sec := { s.sec with victimSince := none } } : State).raise .swardVictimClear 0 [s.legalS - n]) := by
  simp only [execSwardVictimClear, hn, if_neg (Nat.not_lt.mpr hage)]

/-- The oldest frame handed on enters stage 1 where neither a rebuild nor a restart holds it. -/
theorem execSecurityFrame_first (s : State) (frame : Nat) (x : HandedFrame) (rest : List HandedFrame) (hx : s.rx.toSecurity = x :: rest)
    (hb : s.sec.rebuild = none) (hr : s.restarting 7 = false) :
    execSecurityFrame 0 frame s = .next (({ s with rx := { s.rx with toSecurity := rest } } : State).stagesFirst x) := by
  simp [execSecurityFrame, hx, hb, hr]

/-- A frame of the pipe leaves its place and goes through the last stages. -/
theorem execSecurityFrame_last (s : State) (frame : Nat) (x : SecFrame) (hx : s.sec.pipe[frame]? = some x) :
    execSecurityFrame 1 frame s = .next (({ s with sec := { s.sec with pipe := s.sec.pipe.eraseIdx frame } } : State).stagesLast x) := by
  simp only [execSecurityFrame, Nat.one_ne_zero, if_false, hx]

end Machine

/-- Settles O32, clause by clause. -/
theorem securityEventsComplete : Obligations.SecurityEventsComplete := by
  unfold Obligations.SecurityEventsComplete
  refine ⟨?rebuilt, ?cleared, ?noMeter, ?last⟩
  case rebuilt =>
    intro s x hx hall hr
    let u : State := { (s.drawBytes 16).2.count { name := .secRebuild } with
      sec := { s.sec with kd := (s.drawBytes 16).1, dirVictims := [], rebuild := none } }
    have hframe : Claims.Frame [.sec, .freeCtr, .ctrs, .time, .ev] s u :=
      (((Claims.Frame.drawBytes s 16).mono (by simp)).trans ((Claims.Frame.ctrs _ _).mono (by simp))).trans
        ((Claims.Frame.sec ((s.drawBytes 16).2.count { name := .secRebuild }) _).mono (by simp))
    have hctrs := (u.raised_raise .secDirRebuild 0 [x.attempts + 1, s.time.ms - x.beganMs] false (by decide) hr).2
    obtain ⟨hraised, hframe'⟩ :=
      State.raise_after (s := s) (u := u) .secDirRebuild [x.attempts + 1, s.time.ms - x.beganMs] (by decide) rfl hr hframe (by simp)
    refine ⟨_, execDirRebuildDone_placed s x hx hall, by simp, by simp, by simp, hraised, ?_, hframe'⟩
    exact (congrArg (fun m => Map.getD m _ 0) hctrs).trans (State.ctr_count (s.drawBytes 16).2 _ _)
  case cleared =>
    intro s n hn hage hr
    refine ⟨_, execSwardVictimClear_aged s n hn hage, by simp, State.raise_after _ _ (by decide) rfl hr ?_ (by simp)⟩
    exact (Claims.Frame.sec s _).mono (by simp)
  case noMeter =>
    intro s frame x rest hx hb hr hp
    let u : State := { s with rx := { s.rx with toSecurity := rest } }
    obtain ⟨hrx, hled, hcount⟩ := u.endFrame_reads { h := x, kind := 0, slot := 0xFFFFFFFF, tenant := 0, gen := 0 } .type 0 false
      (not_ack_of_parseFrame_none hp)
    refine ⟨_, (execSecurityFrame_first s frame x rest hx hb hr).trans (congrArg _ (u.stagesFirst_type hp)), ?_, ?_, hcount⟩
    · exact congrArg Rx.toSecurity hrx
    · exact congrArg Ledger.queues hled
  case last =>
    exact fun s frame x hx => ⟨_, execSecurityFrame_last s frame x hx, rfl⟩

end Sys2Proof
end

section
/-! The Ling interleaver (O23, R245): the search for a step with no factor in common with the section ends at the least there is, and a step of
that kind brings no two bits to one place. -/

namespace Sys2Proof

open Machine

namespace Machine

/-- A multiple of the length and one more has no factor in common with it, so one of any `p` numbers in a row has none. -/
theorem exists_coprime_within {p : Nat} (hp : 2 ≤ p) (a : Nat) : ∃ c, a ≤ c ∧ c < a + p ∧ Nat.gcd c p = 1 := by
  refine ⟨p * ((a + p - 2) / p) + 1, ?_, ?_, (Nat.gcd_mul_left_add_left p 1 _).trans (Nat.gcd_one_left p)⟩
  · have := Nat.lt_mul_div_succ (a + p - 2) (by omega : 0 < p)
    rw [Nat.mul_add_one] at this
    omega
  · have := Nat.mul_div_le (a + p - 2) p
    omega

/-- The search ends at the least number from its start that has no factor in common with `p`, where one lies within its tries. -/
theorem coprimeFrom_least {p : Nat} (n a : Nat) (h : ∃ c, a ≤ c ∧ c < a + n ∧ Nat.gcd c p = 1) :
    a ≤ coprimeFrom p n a ∧ Nat.gcd (coprimeFrom p n a) p = 1 ∧ ∀ b, a ≤ b → b < coprimeFrom p n a → Nat.gcd b p ≠ 1 := by
  obtain ⟨c, hac, hcn, hc⟩ := h
  induction n generalizing a with
  | zero => omega
  | succ n ih =>
    by_cases ha : Nat.gcd a p = 1
    · have hstop : coprimeFrom p (n + 1) a = a := if_pos ha
      rw [hstop]
      exact ⟨Nat.le_refl a, ha, fun b hab hba => absurd hab (Nat.not_le.mpr hba)⟩
    · have hnext : coprimeFrom p (n + 1) a = coprimeFrom p n (a + 1) := if_neg ha
      have hne : a ≠ c := fun e => ha (e ▸ hc)
      obtain ⟨hle, hcop, hleast⟩ := ih (a + 1) (by omega) (by omega)
      rw [hnext]
      refine ⟨by omega, hcop, fun b hab hb => ?_⟩
      rcases Nat.eq_or_lt_of_le hab with rfl | hlt
      · exact ha
      · exact hleast b hlt hb

/-- A step with no factor in common with the section takes no later bit of it to the place of an earlier one: `p` would divide the distance
between the two bits. -/
theorem placeOf_injective_of_le {p seed : Nat} (h : Nat.gcd (interleaver p seed).1 p = 1) {j k : Nat} (hjk : j ≤ k) (hk : k < p)
    (e : placeOf p seed j = placeOf p seed k) : j = k := by
  have hmod : ((interleaver p seed).1 * k + (interleaver p seed).2 - ((interleaver p seed).1 * j + (interleaver p seed).2)) % p = 0 :=
    Nat.sub_mod_eq_zero_of_mod_eq e.symm
  rw [Nat.add_sub_add_right, ← Nat.mul_sub] at hmod
  have hcop : Nat.Coprime p (interleaver p seed).1 := (Nat.gcd_comm _ _).trans h
  have hdvd : p ∣ k - j := hcop.dvd_of_dvd_mul_left (Nat.dvd_of_mod_eq_zero hmod)
  have hzero : k - j = 0 := Nat.eq_zero_of_dvd_of_lt hdvd (by omega)
  omega

/-- Different bits of the section go to different places. -/
theorem placeOf_injective {p seed : Nat} (h : Nat.gcd (interleaver p seed).1 p = 1) {j k : Nat} (hj : j < p) (hk : k < p)
    (e : placeOf p seed j = placeOf p seed k) : j = k := by
  rcases Nat.le_total j k with hjk | hkj
  · exact placeOf_injective_of_le h hjk hk e
  · exact (placeOf_injective_of_le h hkj hj e.symm).symm

end Machine

/-- Settles O23: the least coprime step lies within the search's tries, and its places are different. -/
theorem lingInterleaver : Obligations.LingInterleaver := by
  unfold Obligations.LingInterleaver
  intro p seed hp a0
  obtain ⟨hle, hcop, hleast⟩ := coprimeFrom_least p a0 (exists_coprime_within hp a0)
  exact ⟨hle, hcop, hleast, rfl, fun _ => rfl, fun _ _ hj hk e => placeOf_injective hcop hj hk e⟩

end Sys2Proof
end

section
/-! The Ling events of chapter 10 and the crossing timeout of chapter 16 (O30): what an event of the line region adds to the queue, what ending,
aborting and missing an exchange leave, each row on the states its clause names, and the statement. -/

namespace Sys2Proof

open Machine

/-! ### Frames of the parts that the line link changes -/

theorem Claims.Frame.ev (s : State) (x : Events) : Claims.Frame [.ev] s { s with ev := x } := by
  intro p _ hl
  cases p <;> simp_all [Claims.Part.same]

theorem Claims.Frame.air (s : State) (x : Air) : Claims.Frame [.air] s { s with air := x } := by
  intro p _ hl
  cases p <;> simp_all [Claims.Part.same]

theorem Claims.Frame.ling (s : State) (x : Ling) : Claims.Frame [.ling] s { s with ling := x } := by
  intro p _ hl
  cases p <;> simp_all [Claims.Part.same]

theorem Claims.Frame.met (s : State) (x : Metro) : Claims.Frame [.met] s { s with met := x } := by
  intro p _ hl
  cases p <;> simp_all [Claims.Part.same]

theorem Claims.Frame.count (s : State) (c : Ctr) (n : Nat) : Claims.Frame [.ctrs] s (s.count c n) := Claims.Frame.ctrs s _

theorem Claims.Frame.setPlan (s : State) (m : Nat) (p : PlanMeter) : Claims.Frame [.air] s (s.setPlan m p) := Claims.Frame.air s _

theorem Claims.Frame.setLingMeter (s : State) (m : Nat) (x : LingMeterSt) : Claims.Frame [.ling] s (s.setLingMeter m x) := Claims.Frame.ling s _

namespace Machine

/-! ### Tributaries, meters and plans read back -/

@[simp] theorem State.plan_setPlan (s : State) (m : Nat) (p : PlanMeter) : (s.setPlan m p).plan m = p := Map.getD_put_self _ _ _ _

@[simp] theorem State.metro_setMetro (s : State) (t : Nat) (x : MetroTrib) : (s.setMetro t x).metro t = x := Map.getD_put_self _ _ _ _

@[simp] theorem State.lingTrib_setLingTrib (s : State) (t : Nat) (x : LingTrib) : (s.setLingTrib t x).lingTrib t = x := Map.getD_put_self _ _ _ _

@[simp] theorem State.lingMeterSt_setLingMeter (s : State) (m : Nat) (x : LingMeterSt) : (s.setLingMeter m x).lingMeterSt m = x :=
  Map.getD_put_self _ _ _ _

@[simp] theorem State.plan_carry (s : State) (k : Kept) (m : Nat) : (s.carry k).plan m = s.plan m := by simp [State.plan]

@[simp] theorem State.lingTrib_carry (s : State) (k : Kept) (t : Nat) : (s.carry k).lingTrib t = s.lingTrib t := by simp [State.lingTrib]

@[simp] theorem State.lingMeterSt_carry (s : State) (k : Kept) (m : Nat) : (s.carry k).lingMeterSt m = s.lingMeterSt m := by
  simp [State.lingMeterSt, State.rd, State.recInst]

@[simp] theorem State.metro_raise (s : State) (e : Ev) (n : Nat) (p : List Nat) (o : Bool) (t : Nat) : (s.raise e n p o).metro t = s.metro t := by
  simp [State.metro]

@[simp] theorem State.lingTrib_raise (s : State) (e : Ev) (n : Nat) (p : List Nat) (o : Bool) (t : Nat) :
    (s.raise e n p o).lingTrib t = s.lingTrib t := by
  simp [State.lingTrib]

/-! ### Events and counters -/

/-- An event of any source, raised on a chip with a line region after other parts have changed, is the one entry the queue gains; no counter
moves, and the event adds its own parts to those that changed. -/
theorem State.raise_line {l : List Claims.Part} {s u : State} (e : Ev) (p : List Nat) (hline : u.lineHere = true) (hu : u.ev = s.ev)
    (hr : Claims.Room s) (hf : Claims.Frame l s u) (hl : [.time, .ev] ⊆ l) :
    Claims.Raised e 0 p s (u.raise e 0 p) ∧ (u.raise e 0 p).ctrs = u.ctrs ∧ Claims.Frame l s (u.raise e 0 p) := by
  have hq : u.ev.queue.length < 4096 := by
    rw [hu]
    exact Nat.lt_of_lt_of_le (Nat.lt_add_of_pos_right (by decide)) hr
  have hraise : u.raise e 0 p =
      { u.issued u.stamp with ev := { u.ev with queue := u.ev.queue ++ [⟨e, 0, u.stamp, p, false⟩] } } := by
    simp [State.raise, hline, hq]
  have htimeEv : Claims.Frame [.time, .ev] u (u.raise e 0 p) := by
    rw [hraise]
    exact ((Claims.Frame.time u _).mono (by simp)).trans ((Claims.Frame.ev (u.issued u.stamp) _).mono (by simp))
  refine ⟨⟨?_, ?_⟩, ?_, hf.trans (htimeEv.mono hl)⟩
  · rw [hraise, hu]
    exact List.dropLast_concat
  · rw [hraise, hu]
    simp
  · rw [hraise]
    simp

/-- Carrying an object to the partner moves no other counter than those of an entry. -/
theorem State.ctr_carry {c : Ctr} (hc : c.name ∉ CtrName.ofEntry) (s : State) (k : Kept) : (s.carry k).ctr c = s.ctr c := by
  unfold State.carry
  split
  · rfl
  · dsimp only
    split
    · exact State.ctr_sendPartner hc _ _ _ _ _
    · rfl

/-- Counting for each of a list changes the counters alone, and of these only the ones counted. -/
theorem State.foldl_count_reads {α : Type} (k : α → Ctr) (n : Nat) (l : List α) (s : State) :
    ∃ m, l.foldl (fun s a => s.count (k a) n) s = { s with ctrs := m } ∧ ∀ c, (∀ a, k a ≠ c) → Map.getD m c 0 = s.ctr c := by
  induction l generalizing s with
  | nil => exact ⟨s.ctrs, rfl, fun _ _ => rfl⟩
  | cons a l ih =>
    obtain ⟨m, hm, hc⟩ := ih (s.count (k a) n)
    exact ⟨m, hm, fun c h => (hc c h).trans (s.ctr_count_ne _ _ _ (h a))⟩

/-! ### The end of an exchange -/

/-- The state in which a tributary stands as `x` and the counters as `m`: what the end of an exchange leaves. -/
def State.freed (s : State) (t : Nat) (m : Map Ctr Nat) (x : LingTrib) : State := ({ s with ctrs := m } : State).setLingTrib t x

@[simp] theorem State.lingTrib_freed (s : State) (t : Nat) (m : Map Ctr Nat) (x : LingTrib) : (s.freed t m x).lingTrib t = x :=
  State.lingTrib_setLingTrib _ _ _

theorem State.frame_freed (s : State) (t : Nat) (m : Map Ctr Nat) (x : LingTrib) : Claims.Frame [.ling, .ctrs] s (s.freed t m x) :=
  ((Claims.Frame.ctrs s m).mono (by simp)).trans ((Claims.Frame.ling _ _).mono (by simp))

/-- An exchange that ends leaves its tributary free, and counts energy alone (R258). -/
theorem State.lingClose_eq (s : State) {t : Nat} {f : LingFrame} (hf : (s.lingTrib t).out = some f) (endAir upTo : Nat) :
    ∃ m x, s.lingClose t endAir upTo = s.freed t m x ∧ x.out = none ∧
      ∀ c : Ctr, c.name ≠ .lingEnergy → Map.getD m c 0 = s.ctr c := by
  obtain ⟨m, hm, hc⟩ := State.foldl_count_reads (fun p => { name := .lingEnergy, a := t, b := p })
    (((f.metered upTo).map Prod.snd).sum / lingUnit) (s.lingPhasesOf t) s
  unfold State.lingClose
  simp only [hf, hm]
  exact ⟨m, _, rfl, rfl, fun c h => hc c fun p e => h (e ▸ rfl)⟩

/-- A deferred poll notes its cause, numbered on from those of R210. -/
theorem State.plan_lingDefer (s : State) (t m : Nat) (c : LingCause) :
    (s.lingDefer t (some m) c).plan m =
      { s.plan m with poll := (s.plan m).poll.map fun q => { q with cause := some (8 + c.code) } } :=
  State.plan_setPlan _ _ _

/-- No shortage is reported where the tributary itself cannot transmit (R248). -/
theorem State.lingShort_tributary (s : State) (t : Nat) : s.lingShort t .tributary = s := rfl

/-- Where no frame is on the line, none is aborted. -/
theorem State.lingAbort_idle (s : State) (t : Nat) (c : LingCause) (h : (s.lingTrib t).out = none) : s.lingAbort t c = s := by
  simp only [State.lingAbort, h]

/-- A poll aborted on the line leaves its tributary free and its meter's plan with a cause; energy, the outcome and the deferral are counted
(R252, R260, R264). -/
theorem State.lingAbort_poll (s : State) {t : Nat} {f : LingFrame} (c : LingCause) (hf : (s.lingTrib t).out = some f) (hk : f.kind = 0)
    (hstop : s.time.air < f.stop) :
    ∃ m x p, s.lingAbort t c = (s.freed t m x).setPlan f.meter p ∧ x.out = none ∧
      ∀ k : Ctr, k.name ∉ [.lingEnergy, .lingRx, .lingDefer] → Map.getD m k 0 = s.ctr k := by
  obtain ⟨m, x, hclose, hx, hm⟩ := s.lingClose_eq hf s.time.air s.time.air
  let u : State := (s.freed t m x).count { name := .lingRx, a := t, b := 5 }
  have hcommand : f.kind ≠ 1 := by omega
  have hcall : f.kind ≠ 2 := by omega
  have habort : s.lingAbort t c = u.lingDefer t (some f.meter) c := by
    simp only [State.lingAbort, hf, if_neg (Nat.not_le.mpr hstop), hclose, if_neg hcommand, if_neg hcall, u]
  refine ⟨(u.count { name := .lingDefer, a := t, b := c.code }).ctrs, x, _, habort, hx, fun k hn => ?_⟩
  simp only [List.mem_cons, List.not_mem_nil, or_false, not_or] at hn
  obtain ⟨henergy, hrx, hdefer⟩ := hn
  calc (u.count { name := .lingDefer, a := t, b := c.code }).ctr k
      = u.ctr k := State.ctr_count_name hdefer
    _ = Map.getD m k 0 := State.ctr_count_name (s := s.freed t m x) hrx
    _ = s.ctr k := hm k henergy

/-- A poll missed by an unreachable meter without a record is a miss of the meter and of its plan, and nothing else (R262, R263). -/
theorem State.lingMissed_unreachable (s : State) (t : Nat) {f : LingFrame} (hk : f.kind = 0) (ha : (s.meter f.meter).active = false)
    (hu : (s.lingMeterSt f.meter).unreachable = true) :
    ∃ p m, s.lingMissed t f = (s.setPlan f.meter p).setLingMeter f.meter m ∧ p.misses = (s.plan f.meter).misses + 1 ∧
      m.misses = (s.lingMeterSt f.meter).misses + 1 := by
  have hcount : s.countMeter f.meter 12 = s := by simp [State.countMeter, ha]
  unfold State.lingMissed
  simp only [hcount, hu, hk, Nat.zero_ne_one, if_false, Bool.not_true, Bool.and_false, Bool.false_eq_true]
  exact ⟨_, _, rfl, rfl, rfl⟩

/-! ### The zone of a tributary -/

/-- A zone that is not DOWN stays as it is while its tributary's chain runs (R400). -/
theorem State.metroUpdate_running (s : State) (t : Nat) (hup : s.tribUp t = true) (hchain : s.metroChain t = true)
    (hz : (s.metro t).zone ≠ .down) : s.metroUpdate t = s := by
  simp [State.metroUpdate, hup, hchain, hz]

/-- A VALID zone whose reference phase has no crossing for its timeout enters NO_CROSSING (R400). -/
theorem State.zcExpire_reference (s : State) (t : Nat) (hup : s.tribUp t = true) (hchain : s.metroChain t = true)
    (hz : (s.metro t).zone = .valid)
    (hlate : ((((s.metro t).phase (s.zcRef t)).instants.head?).getD 0) + s.zcTimeout t ≤ s.time.air) :
    s.zcExpire t (s.zcRef t) = s.noCrossing t := by
  have hsame : s.metroUpdate t = s := s.metroUpdate_running t hup hchain (by simp [hz])
  simp only [State.zcExpire, hsame, hz, if_pos hlate, if_true]

/-- Entering NO_CROSSING is counted and disarms the event; Ling is left as it was (R401). -/
theorem State.noCrossing_reads (s : State) (t : Nat) :
    ((s.noCrossing t).metro t).zone = .noCrossing ∧ ((s.noCrossing t).metro t).armed = false ∧ (s.noCrossing t).ling = s.ling ∧
      Claims.Counted { name := .metroNoCross, a := t } 1 s (s.noCrossing t) ∧
      Claims.Frame [.met, .ctrs, .time, .ev] s (s.noCrossing t) := by
  let x : MetroTrib := { (s.metro t).freshWindow with zone := .noCrossing, entered := s.time.air, armed := false }
  let u : State := (s.setMetro t x).count { name := .metroNoCross, a := t }
  have hmetro : u.metro t = x := s.metro_setMetro t x
  have hcount : Claims.Counted { name := .metroNoCross, a := t } 1 s u := (s.setMetro t x).ctr_count _ _
  have hframe : Claims.Frame [.met, .ctrs, .time, .ev] s u :=
    ((Claims.Frame.met s _).mono (by simp)).trans ((Claims.Frame.ctrs (s.setMetro t x) _).mono (by simp))
  have hcases : s.noCrossing t = u ∨ ∃ p, s.noCrossing t = u.raise .metroNoCrossing 0 p := by
    unfold State.noCrossing
    dsimp only
    split
    · exact .inr ⟨_, rfl⟩
    · exact .inl rfl
  rcases hcases with h | ⟨p, h⟩
  · rw [h, hmetro]
    exact ⟨rfl, rfl, rfl, hcount, hframe⟩
  · rw [h, State.metro_raise, hmetro]
    exact ⟨rfl, rfl, by simp [u], (State.ctr_raise (by simp [CtrName.ofEntry]) u _ _ _ _).trans hcount,
      hframe.trans ((Claims.Frame.raise u _ _ _ _).mono (by simp))⟩

/-! ### Launches -/

/-- A check that turns nothing away answers what comes after it. -/
theorem ok_of_ite_error {ε α : Type} {c : Prop} [Decidable c] {e : ε} {x : Except ε α} {u : α}
    (h : (if c then .error e else x) = .ok u) : x = .ok u := by
  split at h
  · cases h
  · exact h

/-- An answer that keeps its value is one that is none of the errors. -/
theorem exists_ok_of_isSome {ε α : Type} {x : Except ε α} (h : x.toOption.isSome = true) : ∃ u, x = .ok u := by
  cases x with
  | error e => cases h
  | ok u => exact ⟨u, rfl⟩

/-- A frame put on the line is the exchange of its tributary, and takes no time (R249). -/
theorem State.lingPut_ok {s u : State} {t kind meter tag level delay : Nat} {payload : List Byte} {carried : Carried}
    (h : s.lingPut t kind meter tag level delay payload carried = .ok u) :
    ((u.lingTrib t).out.map LingFrame.kind) = some kind ∧ u.time = s.time := by
  unfold State.lingPut at h
  dsimp only at h
  split at h
  · cases h
  · cases ok_of_ite_error (ok_of_ite_error h)
    exact ⟨congrArg (fun y : LingTrib => y.out.map LingFrame.kind) (Map.getD_put_self _ _ _ _), rfl⟩

/-- A tributary on which an exchange may be launched now, if nothing blocks it (R261, R265): it is there and free, on a chip that serves since
max(PlanLeadMs, 1 s). -/
structure State.LingFree (s : State) (trib : Nat) : Prop where
  here : s.lineHere = true
  within : trib < s.tributaries
  idle : (s.lingTrib trib).out = none
  serving : s.serving = true
  since : s.ling.claimAir + max (s.rd Rec.AirPolicy.PlanLeadMs) 1000 * airPerMs ≤ s.time.air

/-- A blocked poll that is the first exchange due is deferred under its cause (R261). -/
theorem execLingLaunch_blocked {s : State} {trib : Nat} {d : LingDue} {c : LingCause} {rest : List LingDue} (h : s.LingFree trib)
    (hq : s.lingQueue trib = d :: rest) (hk : d.kind = 0) (hb : s.lingBlocked trib = some c) :
    execLingLaunch trib s = .next (((s.lingDefer trib (some d.meter) c).lingShort trib c).carry (.meter d.meter)) := by
  obtain ⟨hhere, hwithin, hidle, hserving, hsince⟩ := h
  simp [execLingLaunch, hhere, Nat.not_le.mpr hwithin, hidle, hserving, Nat.not_lt.mpr hsince, hq, hk, hb]

/-- A poll that is the first exchange due is launched where nothing blocks it (R249). -/
theorem execLingLaunch_polls {s : State} {trib : Nat} {d : LingDue} {rest : List LingDue} (h : s.LingFree trib)
    (hq : s.lingQueue trib = d :: rest) (hk : d.kind = 0) (hb : s.lingBlocked trib = none) :
    execLingLaunch trib s = .next ((s.lingPoll trib d.meter).carry (.meter d.meter)) := by
  obtain ⟨hhere, hwithin, hidle, hserving, hsince⟩ := h
  simp [execLingLaunch, hhere, Nat.not_le.mpr hwithin, hidle, hserving, Nat.not_lt.mpr hsince, hq, hk, hb]

/-- An alarm call that is due goes out where it can be put on the line (R256). -/
theorem execLingAlarmCall_calls {s u : State} {trib : Nat} (h : s.LingFree trib) (hev : s.rd Rec.LingTrib.AlarmCallS trib ≠ 0)
    (hdue : (s.lingTrib trib).lastCallS + s.rd Rec.LingTrib.AlarmCallS trib ≤ s.nowS) (hb : s.lingBlocked trib = none)
    (hput : s.drawTag.2.lingPut trib 2 0xFFFFFFFF s.drawTag.1 6 0
      ((pollFrame (2 ^ 64 - 1) (s.rd Rec.Pair.RegionNumber) s.drawTag.1 0 (respCtlOf 0 false 0)).take 16) {} = .ok u) :
    execLingAlarmCall trib s = .next (u.setLingTrib trib { u.lingTrib trib with lastCallS := u.nowS }) := by
  obtain ⟨hhere, hwithin, hidle, hserving, hsince⟩ := h
  simp only [execLingAlarmCall, hhere, Nat.not_le.mpr hwithin, hev, Nat.not_lt.mpr hdue, hidle, hserving, Nat.not_lt.mpr hsince, hb, hput,
    Bool.not_true, Bool.false_eq_true, Option.isSome_none, or_self, if_false]

/-! ### The rows of an exchange on the states their clauses name -/

/-- A frame whose energy reaches a window's cap is aborted and counted as cut (R260). -/
theorem execLingGovernorCut_cuts {s : State} {trib phase window : Nat} {x : LingFrame} (hx : (s.lingTrib trib).out = some x)
    (hstart : x.start ≤ s.time.air) (hstop : s.time.air < x.stop) (hw : window ≤ 1)
    (hcap : (if window = 0 then s.rd Rec.LingTrib.Cap200 trib else s.rd Rec.LingTrib.Cap1000 trib) * lingUnit ≤
      s.windowEnergy trib phase (if window = 0 then 200 else 1000))
    (hp : phase ∈ s.lingPhasesOf trib) :
    execLingGovernorCut trib phase window s = .next (((s.lingAbort trib .governor).count { name := .lingCuts, a := trib }).raise
      .lingGovernorCut 0 [trib, phase, window]) := by
  simp only [execLingGovernorCut, hx, Nat.not_lt.mpr hstart, Nat.not_le.mpr hstop, Nat.not_lt.mpr hw, Nat.not_lt.mpr hcap,
    List.contains_iff_mem.mpr hp, Bool.not_true, Bool.false_eq_true, or_self, if_false]

/-- A poll whose answer windows have closed ends as a miss (R254). -/
theorem execLingAnswerWindowEnd_misses {s : State} {trib : Nat} {x : LingFrame} (hx : (s.lingTrib trib).out = some x) (hk : x.kind = 0)
    (hclose : x.closeAt ≤ s.time.air) :
    execLingAnswerWindowEnd trib s = .next (((((s.lingClose trib x.closeAt x.stop).count { name := .lingRx, a := trib, b := 1 }).lingMissed
      trib x)).carry (.meter x.meter)) := by
  have hcall : x.kind ≠ 2 := by omega
  simp only [execLingAnswerWindowEnd, hx, if_neg (Nat.not_lt.mpr hclose), if_neg hcall]

/-- A polled answer on its meter's known phase that decodes ends the exchange, and goes to frame security with its meter (R254, R255). -/
theorem execLingFrameDecoded_answers {s : State} {trib startAir endAir repCode m : Nat} {header payload fr : List Byte} (snr : List Int)
    {x : LingFrame} (hx : (s.lingTrib trib).out = some x) (hk : x.kind = 0) (hm : s.lingMatched x startAir = some m)
    (hphase : m = s.rd Rec.LingMeter.Phase x.meter) (hc : lingCheck repCode header payload = (0, fr)) :
    ∃ c z y h, execLingFrameDecoded trib startAir endAir repCode header payload snr s =
        .next { (s.freed trib c z).setLingMeter x.meter y with
          rx := { s.rx with toSecurity := s.rx.toSecurity ++ [h] } } ∧
      z.out = none ∧ y.answered = some x.tag ∧ (h.frame, h.origin, h.hint, h.trib) = (fr, 3, x.meter, some trib) := by
  obtain ⟨c, z, hv, hz, -⟩ := (s.count { name := .lingRx, a := trib, b := 0 }).lingClose_eq hx endAir x.stop
  have hclose : (s.count { name := .lingRx, a := trib, b := 0 }).lingClose trib endAir x.stop = s.freed trib c z := hv
  have hlearn : (s.freed trib c z).lingLearn x m = s.freed trib c z := if_pos (.inr hphase)
  let y : LingMeterSt := { (s.freed trib c z).lingMeterSt x.meter with
    answered := some x.tag, snrAnswer := snr.getD 0 0, snrCarriers := (List.range 32).map fun i => snr.getD (5 + i) (-32768) }
  let h : HandedFrame :=
    { frame := fr, desc := (s.count { name := .lingRx, a := trib, b := 0 }).lingDesc trib x 0 m fr.length startAir endAir header snr,
      mode := 0, origin := 3, hint := x.meter, startAir := startAir, endAir := endAir, trib := some trib, level := x.level }
  refine ⟨c, z, y, h, ?_, hz, rfl, rfl⟩
  have hcall : x.kind ≠ 2 := by omega
  have haccepted : ¬(0 : Nat) ≠ 0 := fun h => h rfl
  simp only [execLingFrameDecoded, hx, hm, hc, hclose, hlearn, if_neg hcall, if_neg haccepted]
  rfl

end Machine

/-- Settles O30, clause by clause. -/
theorem lingEventsComplete : Obligations.LingEventsComplete := by
  unfold Obligations.LingEventsComplete
  refine ⟨?starts, ?timesOut, ?defers, ?launches, ?calls, ?tries, ?cuts, ?cutsNothing, ?misses, ?answers⟩
  case starts =>
    intro s trib hst hfit hzone hline hr
    let u : State := s.setUnit (.lingTx trib) { s.unit (.lingTx trib) with st := .on, deferred := false }
    have hf : Claims.Frame [.arch, .time, .ev] s u := (Claims.Frame.arch s _).mono (by simp)
    obtain ⟨hraised, -, hframe⟩ := State.raise_line .lingTxStarted [trib, (s.lingTrib trib).reason] (s := s) (u := u) hline rfl hr hf (by simp)
    exact ⟨_, if_pos ⟨hst, hfit, hzone⟩, by simp, hraised, hframe⟩
  case timesOut =>
    intro s trib phase hline htrib href hphase hup hchain hz hlate hout hr
    subst href
    obtain ⟨hzone, harmed, hling, hcount, hframe⟩ := s.noCrossing_reads trib
    have hidle : ((s.noCrossing trib).lingTrib trib).out = none := by rw [State.lingTrib, hling]; exact hout
    refine ⟨s.noCrossing trib, ?_, hzone, harmed, hcount, hframe⟩
    show execZcTimeout trib (s.zcRef trib) s = _
    simp [execZcTimeout, hline, Nat.not_le.mpr htrib, Nat.not_le.mpr hphase, s.zcExpire_reference trib hup hchain hz hlate, hzone,
      State.lingAbort_idle _ _ _ hidle]
  case defers =>
    intro s trib d c rest hline htrib hout hserving hsince hq hb hc hk
    subst hc
    let u : State := s.lingDefer trib (some d.meter) .tributary
    have hexec := execLingLaunch_blocked ⟨hline, htrib, hout, hserving, hsince⟩ hq hk hb
    rw [State.lingShort_tributary] at hexec
    have hcount : Claims.Counted { name := .lingDefer, a := trib, b := LingCause.tributary.code } 1 s u := s.ctr_count _ _
    have hframe : Claims.Frame [.air, .ctrs, .store, .ports] s u :=
      ((Claims.Frame.count s _ _).mono (by simp)).trans ((Claims.Frame.setPlan _ _ _).mono (by simp))
    refine ⟨u.carry (.meter d.meter), hexec, ?_, ?_, hframe.trans ((Claims.Frame.carry u _).mono (by simp))⟩
    · rw [State.plan_carry, State.plan_lingDefer]
      simp [Function.comp_def]
    · exact (State.ctr_carry (by simp [CtrName.ofEntry]) u _).trans hcount
  case launches =>
    exact fun s trib d rest hline htrib hout hserving hsince hq hb hk _ =>
      execLingLaunch_polls ⟨hline, htrib, hout, hserving, hsince⟩ hq hk hb
  case calls =>
    intro s trib hline htrib hev hdue hout hserving hsince hb hput
    obtain ⟨u, hu⟩ : ∃ u, s.drawTag.2.lingPut trib 2 0xFFFFFFFF s.drawTag.1 6 0
        ((pollFrame (2 ^ 64 - 1) (s.rd Rec.Pair.RegionNumber) s.drawTag.1 0 (respCtlOf 0 false 0)).take 16) {} = .ok u :=
      exists_ok_of_isSome hput
    obtain ⟨hkind, htime⟩ := State.lingPut_ok hu
    refine ⟨_, execLingAlarmCall_calls ⟨hline, htrib, hout, hserving, hsince⟩ hev hdue hb hu, ?_, ?_⟩
    · rw [State.lingTrib_setLingTrib, State.nowS, htime]
      rfl
    · rw [State.lingTrib_setLingTrib]
      exact hkind
  case tries =>
    exact fun s slot hline hun hdue hlast => if_pos ⟨hun, by simp [hdue], hlast, hline⟩
  case cuts =>
    intro s trib phase window x hx hk hstart hstop hw hcap hp hline hr
    obtain ⟨m, y, p, habort, hy, hm⟩ := s.lingAbort_poll .governor hx hk hstop
    let v : State := (s.freed trib m y).setPlan x.meter p
    let u : State := v.count { name := .lingCuts, a := trib }
    have hexec := execLingGovernorCut_cuts hx hstart hstop hw hcap hp
    have hframe : Claims.Frame [.ling, .air, .ctrs, .time, .ev] s u :=
      (((s.frame_freed trib m y).mono (by simp)).trans ((Claims.Frame.setPlan _ _ _).mono (by simp))).trans
        ((Claims.Frame.count _ _ _).mono (by simp))
    have hcount : Claims.Counted { name := .lingCuts, a := trib } 1 s u :=
      (v.ctr_count _ 1).trans (congrArg (CtrName.lingCuts.cls.step · 1) (hm _ (by simp)))
    obtain ⟨hraised, hctrs, hframe'⟩ := State.raise_line .lingGovernorCut [trib, phase, window] (s := s) (u := u) hline rfl hr hframe (by simp)
    rw [habort] at hexec
    refine ⟨_, hexec, ?_, (State.ctr_congr hctrs).trans hcount, hraised, hframe'⟩
    rw [State.lingTrib_raise]
    exact (congrArg LingTrib.out (s.lingTrib_freed trib m y)).trans hy
  case cutsNothing =>
    intro s trib phase window hx
    show execLingGovernorCut trib phase window s = _
    simp only [execLingGovernorCut, hx]
  case misses =>
    intro s trib x hx hk hclose ha hun
    obtain ⟨c, y, hv, hy, -⟩ := s.lingClose_eq hx x.closeAt x.stop
    let w : State := (s.freed trib c y).count { name := .lingRx, a := trib, b := 1 }
    obtain ⟨p, m, hu, hp, hm⟩ := w.lingMissed_unreachable trib hk ha hun
    have hexec := execLingAnswerWindowEnd_misses hx hk hclose
    rw [hv, hu] at hexec
    have hframe : Claims.Frame [.ling, .air, .ctrs, .store, .ports] s ((w.setPlan x.meter p).setLingMeter x.meter m) :=
      (((s.frame_freed trib c y).mono (by simp)).trans ((Claims.Frame.count _ _ _).mono (by simp))).trans
        (((Claims.Frame.setPlan w _ _).mono (by simp)).trans ((Claims.Frame.setLingMeter _ _ _).mono (by simp)))
    refine ⟨_, hexec, ?_, ?_, ?_, hframe.trans ((Claims.Frame.carry _ _).mono (by simp))⟩
    · rw [State.lingTrib_carry]
      exact (congrArg LingTrib.out (s.lingTrib_freed trib c y)).trans hy
    · rw [State.lingMeterSt_carry, State.lingMeterSt_setLingMeter]
      exact hm
    · rw [State.plan_carry]
      exact (congrArg PlanMeter.misses (w.plan_setPlan x.meter p)).trans hp
  case answers =>
    intro s trib startAir endAir repCode m header payload fr snr x hx hk hm hphase hc
    obtain ⟨c, z, y, h, hexec, hz, hy, hh⟩ := execLingFrameDecoded_answers (endAir := endAir) snr hx hk hm hphase hc
    let u : State := (s.freed trib c z).setLingMeter x.meter y
    have hframe : Claims.Frame [.ling, .rx, .ctrs] s u :=
      ((s.frame_freed trib c z).mono (by simp)).trans ((Claims.Frame.setLingMeter _ _ _).mono (by simp))
    refine ⟨_, hexec, ?_, ?_, ?_, hframe.trans ((Claims.Frame.rx u _).mono (by simp))⟩
    · exact (congrArg LingTrib.out (s.lingTrib_freed trib c z)).trans hz
    · simpa using hh
    · exact (congrArg LingMeterSt.answered ((s.freed trib c z).lingMeterSt_setLingMeter x.meter y)).trans hy

end Sys2Proof
end

section
/-! The vault's bindings (R302, O22): what a request of other work gives and leaves, and what a request of the domain's own work gives. -/

namespace Sys2Proof

open Machine

namespace Machine

/-- A request of work charged to another domain gives no key; it is counted and reported (R302). -/
theorem State.bind_other (s : State) (slot : Nat) {d charged : Nat} (h : charged ≠ d) :
    s.bind d slot charged =
      (none, (s.count { name := .vaultViolations, a := d }).raise .vaultDomainViolation (domainTenant d) [d, charged]) :=
  if_pos h

/-- A request of the domain's own work gives the key bytes in force, and none where no key is. -/
theorem State.bind_own (s : State) (d slot : Nat) : (s.bind d slot d).1 = s.keyBytes d slot := by
  rw [State.bind, if_neg (not_not_intro rfl), State.keyBytes]
  cases s.slotKey d slot with
  | none => rfl
  | some c => rfl

/-- A vault that is not OPEN has no key in force (log entry 17). -/
theorem State.slotKey_of_not_opened {s : State} (h : s.vault.st ≠ .opened) (d slot : Nat) : s.slotKey d slot = none :=
  if_pos (.inl h)

end Machine

/-- Settles O22: the count stands before the event, which moves no counter, and leaves the queue its room. -/
theorem vaultBindsOnlyItsDomain : Obligations.VaultBindsOnlyItsDomain := by
  unfold Obligations.VaultBindsOnlyItsDomain
  refine ⟨?_, ?_, ?_⟩
  · intro s d slot charged hother hroom
    rw [s.bind_other slot hother]
    obtain ⟨hraised, hctrs⟩ := (s.count { name := .vaultViolations, a := d }).raised_raise .vaultDomainViolation (domainTenant d)
      [d, charged] false (.inr (by decide)) hroom
    exact ⟨rfl, (State.ctr_congr hctrs).trans (s.ctr_count _ 1), hraised⟩
  · intro s d slot c hkey
    rw [s.bind_own, State.keyBytes, hkey, Option.map_some]
  · intro s d slot hst
    rw [s.bind_own, State.keyBytes, State.slotKey_of_not_opened hst, Option.map_none]

end Sys2Proof
end

section
/-! The store of chapter 18: what its operations on dies, blocks, pages, sectors and DRAM lines leave and count, each said once. -/

namespace Sys2Proof

open Machine

/-! ### Frames -/

theorem Claims.Frame.store (s : State) (x : Store) : Claims.Frame [.store] s { s with store := x } := by
  intro p _ hl
  cases p <;> simp_all [Claims.Part.same]

theorem Claims.Frame.led (s : State) (x : Ledger) : Claims.Frame [.led] s { s with led := x } := by
  intro p _ hl
  cases p <;> simp_all [Claims.Part.same]

theorem Claims.Frame.bal (s : State) (x : Balance) : Claims.Frame [.bal] s { s with bal := x } := by
  intro p _ hl
  cases p <;> simp_all [Claims.Part.same]

theorem Claims.Frame.raiseEvery (s : State) (per : Nat) (e : Ev) (k t : Nat) (p : List Nat) :
    Claims.Frame [.ctrs, .time, .ev, .marks] s (s.raiseEvery per e k t p) := by
  intro p _ hl
  cases p <;> simp_all [Claims.Part.same]

/-- A part that a frame does not name reads the same. -/
theorem Claims.Frame.same {l : List Claims.Part} {s t : State} (h : Claims.Frame l s t) {p : Claims.Part} (hp : p ∉ l) :
    p.same s t = true :=
  h p (by cases p <;> decide) hp

namespace Machine

/-! ### Tables -/

theorem Map.get?_del_self {κ α : Type} [DecidableEq κ] (m : Map κ α) (k : κ) : Map.get? (Map.del m k) k = none := by
  induction m with
  | nil => rfl
  | cons e m ih =>
    obtain ⟨j, v⟩ := e
    by_cases h : j = k
    · simpa [Map.del, h] using ih
    · simpa [Map.del, Map.get?, h] using ih

/-! ### Dies -/

@[simp] theorem State.die_count (s : State) (k : Ctr) (n c d : Nat) : (s.count k n).die c d = s.die c d := rfl

@[simp] theorem State.die_raise (s : State) (e : Ev) (t : Nat) (p : List Nat) (o : Bool) (c d : Nat) :
    (s.raise e t p o).die c d = s.die c d := by
  simp [State.die]

@[simp] theorem State.die_raiseEvery (s : State) (per : Nat) (e : Ev) (k t : Nat) (p : List Nat) (c d : Nat) :
    (s.raiseEvery per e k t p).die c d = s.die c d := by
  simp [State.die]

@[simp] theorem State.die_setDie (s : State) (c d : Nat) (x : Die) : (s.setDie c d x).die c d = x := Map.getD_put_self _ _ _ _

/-- A die with so many failed operations in a row. -/
def State.setFails (s : State) (c d n : Nat) : State := s.setDie c d { s.die c d with consecFails := n }

@[simp] theorem State.die_setFails (s : State) (c d n : Nat) : (s.setFails c d n).die c d = { s.die c d with consecFails := n } :=
  s.die_setDie c d _

theorem State.frame_setFails (s : State) (c d n : Nat) : Claims.Frame [.store] s (s.setFails c d n) := Claims.Frame.store s _

/-- An operation that passes clears the die's failures in a row. -/
theorem State.dieOp_passes (s : State) (c d : Nat) : s.dieOp c d true = s.setFails c d 0 := by
  simp [State.dieOp, State.setFails]

/-- A failure short of the third in a row is counted on the die (R461). -/
theorem State.dieOp_fails (s : State) {c d : Nat} (h : (s.die c d).consecFails < 2) :
    s.dieOp c d false = s.setFails c d ((s.die c d).consecFails + 1) := by
  have hthird : (s.die c d).consecFails + 1 ≠ 3 := by omega
  simp [State.dieOp, hthird, State.setFails]

/-- A block not yet in the bad-block table enters it, and counts. -/
theorem State.retireBlock_good (s : State) {c d block : Nat} (h : (s.die c d).badBlocks.contains block = false) :
    s.retireBlock c d block = (s.setDie c d { s.die c d with badBlocks := (s.die c d).badBlocks ++ [block] }).count
      { name := .stRetired, a := dieKey c d } :=
  if_neg (by simpa using h)

/-- A retired block is in the bad-block table; its retirement changes the die's table and its count alone. -/
theorem State.retireBlock_reads (s : State) (c d block : Nat) :
    block ∈ ((s.retireBlock c d block).die c d).badBlocks ∧ (s.retireBlock c d block).ev = s.ev ∧
    (∀ k : Ctr, k.name ≠ .stRetired → (s.retireBlock c d block).ctr k = s.ctr k) ∧
    Claims.Frame [.store, .ctrs] s (s.retireBlock c d block) := by
  by_cases h : (s.die c d).badBlocks.contains block = true
  · rw [State.retireBlock, if_pos h]
    exact ⟨List.contains_iff_mem.mp h, rfl, fun _ _ => rfl, Claims.Frame.refl _ s⟩
  · let t : State := s.setDie c d { s.die c d with badBlocks := (s.die c d).badBlocks ++ [block] }
    rw [s.retireBlock_good (by simpa using h)]
    refine ⟨?_, rfl, fun k hk => State.ctr_count_name (s := t) hk, ?_⟩
    · have hdie : (t.count { name := .stRetired, a := dieKey c d }).die c d = _ := s.die_setDie c d _
      rw [hdie]
      simp
    · exact ((Claims.Frame.store s _).mono (by simp)).trans ((Claims.Frame.count t _ _).mono (by simp))

/-! ### The block and page maps -/

theorem State.loseValid_eq (s : State) (k : Nat × Nat × Nat) :
    ∃ b l, s.loseValid k = { s with store := { s.store with blocks := b, promoted := l } } := by
  unfold State.loseValid
  cases Map.get? s.store.blocks k with
  | none => exact ⟨_, _, rfl⟩
  | some x => exact ⟨_, _, rfl⟩

/-- A page put into a block changes its map entry, the block map, and the class of the partitions' reclamation. -/
theorem State.putPage_eq (s : State) (p k : Nat × Nat × Nat) :
    ∃ b l, s.putPage p k =
      { s with store := { s.store with pages := Map.put s.store.pages p k, blocks := b, promoted := l } } := by
  unfold State.putPage
  cases Map.get? s.store.pages p with
  | none => exact ⟨_, _, rfl⟩
  | some old =>
    obtain ⟨b, l, h⟩ := s.loseValid_eq old
    dsimp only
    rw [h]
    exact ⟨_, _, rfl⟩

/-- A block erased leaves the block map, and its erase is counted, on its die too. -/
theorem State.eraseBlock_eq (s : State) (k : Nat × Nat × Nat) :
    ∃ b l, s.eraseBlock k = ({ s with store := { s.store with
        dies := Map.put s.store.dies (k.1, k.2.1) { s.die k.1 k.2.1 with erases := Map.upd (s.die k.1 k.2.1).erases k.2.2 0 (· + 1) },
        blocks := b, promoted := l } } : State).count { name := .stErased, a := dieKey k.1 k.2.1 } ∧
      Map.has b k = false := by
  unfold State.eraseBlock
  extract_lets x t
  cases h : Map.get? t.store.blocks k with
  | none => exact ⟨t.store.blocks, t.store.promoted, rfl, by simp [Map.has, h]⟩
  | some b => exact ⟨Map.del t.store.blocks k, _, rfl, by simp [Map.has, Map.get?_del_self]⟩

theorem State.eraseBlock_reads (s : State) (k : Nat × Nat × Nat) :
    Map.has (s.eraseBlock k).store.blocks k = false ∧
    (s.eraseBlock k).die k.1 k.2.1 = { s.die k.1 k.2.1 with erases := Map.upd (s.die k.1 k.2.1).erases k.2.2 0 (· + 1) } ∧
    Claims.Counted { name := .stErased, a := dieKey k.1 k.2.1 } 1 s (s.eraseBlock k) ∧
    Claims.Frame [.store, .ctrs] s (s.eraseBlock k) := by
  obtain ⟨b, l, herase, hb⟩ := s.eraseBlock_eq k
  rw [herase]
  refine ⟨hb, Map.getD_put_self _ _ _ _, State.ctr_count _ _ 1, ?_⟩
  exact ((Claims.Frame.store s _).mono (by simp)).trans ((Claims.Frame.count _ _ _).mono (by simp))

/-- Whether a block takes a page does not depend on the failures of its die. -/
theorem State.takesPage_setFails (s : State) (c d block part n : Nat) :
    (s.setFails c d n).takesPage part (c, d, block) = s.takesPage part (c, d, block) := by
  unfold State.takesPage
  simp only [State.die_setFails]
  rfl

/-! ### Reads and unreadable sectors (R460) -/

/-- The counts of a read that was decoded with this outcome: the read, a retry, and soft decoding. -/
def State.countRead (s : State) (k outcome : Nat) : State :=
  let s := s.count { name := .stRead, a := k }
  let s := if 1 ≤ outcome then s.count { name := .stRetry, a := k } else s
  if 2 ≤ outcome then s.count { name := .stSoft, a := k } else s

/-- Such counts change the counters alone. -/
theorem State.countRead_eq (s : State) (k outcome : Nat) : ∃ m, s.countRead k outcome = { s with ctrs := m } := by
  unfold State.countRead
  dsimp only
  split <;> split <;> exact ⟨_, rfl⟩

theorem State.countRead_reads (s : State) (k outcome c d part : Nat) (sector : List Byte) :
    (s.countRead k outcome).die c d = s.die c d ∧ (s.countRead k outcome).ev = s.ev ∧
    (s.countRead k outcome).openSector part sector = s.openSector part sector ∧ Claims.Frame [.ctrs] s (s.countRead k outcome) := by
  obtain ⟨m, hm⟩ := s.countRead_eq k outcome
  rw [hm]
  exact ⟨rfl, rfl, rfl, Claims.Frame.ctrs s m⟩

theorem State.ctr_countRead (s : State) (k outcome : Nat) :
    Claims.Counted { name := .stRead, a := k } 1 s (s.countRead k outcome) := by
  refine Eq.trans ?_ (s.ctr_count { name := .stRead, a := k } 1)
  unfold State.countRead
  dsimp only
  split <;> split <;> simp [State.ctr_count_name]

theorem State.ctr_countRead_other (s : State) (k outcome : Nat) {c : Ctr} (hc : c.name ∉ [CtrName.stRead, .stRetry, .stSoft]) :
    (s.countRead k outcome).ctr c = s.ctr c := by
  simp only [List.mem_cons, List.not_mem_nil, or_false, not_or] at hc
  obtain ⟨hread, hretry, hsoft⟩ := hc
  unfold State.countRead
  dsimp only
  split <;> split <;> simp [State.ctr_count_name, hread, hretry, hsoft]

/-- A sector that cannot be read counts, and its block is retired; `ok` says whether it was decoded. -/
def State.retireUnread (s : State) (c d block part : Nat) (ok : Bool) : State :=
  ((s.count { name := .stUnread, a := part }).dieOp c d ok).retireBlock c d block

theorem State.retireUnread_reads (s : State) {c d : Nat} (block part : Nat) {ok : Bool} (h : ok = true ∨ (s.die c d).consecFails < 2) :
    Claims.Counted { name := .stUnread, a := part } 1 s (s.retireUnread c d block part ok) ∧
    (∀ k : Ctr, k.name ≠ .stUnread → k.name ≠ .stRetired → (s.retireUnread c d block part ok).ctr k = s.ctr k) ∧
    block ∈ ((s.retireUnread c d block part ok).die c d).badBlocks ∧ (s.retireUnread c d block part ok).ev = s.ev ∧
    Claims.Frame [.store, .ctrs] s (s.retireUnread c d block part ok) := by
  let u : State := s.count { name := .stUnread, a := part }
  obtain ⟨n, hop⟩ : ∃ n, u.dieOp c d ok = u.setFails c d n := by
    cases ok with
    | true => exact ⟨0, u.dieOp_passes c d⟩
    | false => exact ⟨_, u.dieOp_fails (h.resolve_left (by decide))⟩
  have hretire : s.retireUnread c d block part ok = (u.setFails c d n).retireBlock c d block := congrArg (State.retireBlock · c d block) hop
  obtain ⟨hbad, hev, hctr, hframe⟩ := (u.setFails c d n).retireBlock_reads c d block
  rw [hretire]
  refine ⟨?_, ?_, hbad, hev, ?_⟩
  · exact (hctr _ (by simp)).trans (s.ctr_count _ 1)
  · exact fun k hunread hretired => (hctr k hretired).trans (State.ctr_count_name (s := s) hunread)
  · exact ((Claims.Frame.count s _ _).mono (by simp)).trans (((u.frame_setFails c d n).mono (by simp)).trans hframe)

section
variable {s : State} {channel die block part outcome content tenant first n mirrored : Nat} {sector : List Byte}

/-- A sector read that decodes and verifies is an operation that passes. -/
theorem execFlashReadDone_opens (hhere : s.dieHere channel die = true) (hst : (s.die channel die).st = .inUse) (ho : outcome < 3)
    (hopen : (s.openSector part sector).isSome = true) :
    execFlashReadDone channel die block part outcome content tenant first n mirrored sector s =
      .next ((s.countRead (dieKey channel die) outcome).dieOp channel die true) := by
  obtain ⟨-, -, hopens, -⟩ := s.countRead_reads (dieKey channel die) outcome channel die part sector
  rw [← hopens] at hopen
  have hgood := And.intro ho hopen
  unfold execFlashReadDone
  simp only [hhere, hst]
  exact if_pos hgood

/-- A sector that is not decoded, or does not verify, takes its block out of use; its content is repaired from the other copy, or lost. -/
theorem execFlashReadDone_unreadable {t : State} (hhere : s.dieHere channel die = true) (hst : (s.die channel die).st = .inUse)
    (hbad : ¬(outcome < 3 ∧ (s.openSector part sector).isSome = true))
    (ht : (s.countRead (dieKey channel die) outcome).retireUnread channel die block part (decide (outcome < 3)) = t) :
    execFlashReadDone channel die block part outcome content tenant first n mirrored sector s =
      if mirrored ≠ 0 ∧ content ≤ 1 then .next (t.raise .storeCopyRepaired 0 [part, 1])
      else if mirrored ≠ 0 ∧ content = 2 then .next t
      else .next (t.loseContent content tenant first n) := by
  obtain ⟨-, -, hopens, -⟩ := s.countRead_reads (dieKey channel die) outcome channel die part sector
  rw [← hopens] at hbad
  subst ht
  unfold execFlashReadDone
  simp only [hhere, hst]
  exact if_neg hbad

end

/-! ### Counters that lost content leaves -/

/-- Values drawn leave the counters. -/
theorem State.ctrs_drawTable (s : State) (n w : Nat) : (s.drawTable n w).2.ctrs = s.ctrs :=
  foldl_keeps (fun x => x.2.ctrs) (fun (x : Map Nat Nat × State) i => (Map.put x.1 i (x.2.draw w).1, (x.2.draw w).2)) (fun _ _ => rfl) _ _

section
variable {c : Ctr} (hc : c.name ∉ CtrName.ofEntry)
include hc

/-- An event raised at most once in a period moves no other counter than those of an entry. -/
theorem State.ctr_raiseEvery (s : State) (per : Nat) (e : Ev) (k t : Nat) (p : List Nat) :
    (s.raiseEvery per e k t p).ctr c = s.ctr c := by
  unfold State.raiseEvery
  dsimp only
  split
  · split
    · exact State.ctr_raise hc _ _ _ _ _
    · rfl
  · exact State.ctr_raise hc _ _ _ _ _

theorem State.ctr_lose (s : State) (tenant kind first n : Nat) : (s.lose tenant kind first n).ctr c = s.ctr c :=
  State.ctr_raise hc _ _ _ _ _

theorem State.ctr_commitMeter (s : State) (slot : Nat) (r : MeterRec) : (s.commitMeter slot r).ctr c = s.ctr c :=
  State.ctr_journal hc _ _ _ _ _ _

/-- A record rebuilt moves no other counter than those of its journal entry. -/
theorem State.ctr_rebuildMeter (s : State) (slot : Nat) : (s.rebuildMeter slot).ctr c = s.ctr c := by
  unfold State.rebuildMeter
  dsimp only
  refine (State.ctr_raise hc _ _ _ _ _).trans ((State.ctr_commitMeter hc _ _ _).trans (State.ctr_congr ?_))
  cases s.journalImage slot with
  | none => simp [State.ctrs_drawTable]
  | some r => rfl

theorem State.ctr_itemLost (s : State) (tenant first : Nat) : (s.itemLost tenant first).ctr c = s.ctr c := by
  unfold State.itemLost
  split
  · exact State.ctr_lose hc _ _ _ _ _
  · split
    · split
      · exact State.ctr_rebuildMeter hc _ _
      · rfl
    · rfl

/-- Content lost moves no other counter than those of a journal entry. -/
theorem State.ctr_loseContent (s : State) (content tenant first n : Nat) : (s.loseContent content tenant first n).ctr c = s.ctr c := by
  unfold State.loseContent
  split
  case h_2 | h_3 => exact State.ctr_itemLost hc _ _ _
  all_goals exact State.ctr_lose hc _ _ _ _ _

end

/-! ### Events of any tenant -/

/-- An event for any tenant, raised once other parts have changed, is the one entry the queue gains; no counter moves. -/
theorem State.raise_after_for {l : List Claims.Part} {s u : State} (e : Ev) (tenant : Nat) (p : List Nat) (o : Bool)
    (he : e.source < 144 ∨ 176 ≤ e.source) (hu : u.ev = s.ev) (hr : Claims.Room s) (hf : Claims.Frame l s u) (hl : [.ctrs, .time, .ev] ⊆ l) :
    Claims.Raised e tenant p s (u.raise e tenant p o) ∧ (u.raise e tenant p o).ctrs = u.ctrs ∧
      Claims.Frame l s (u.raise e tenant p o) := by
  obtain ⟨hraised, hctrs⟩ := u.raised_raise e tenant p o he (by rwa [Claims.Room, hu])
  rw [Claims.Raised, hu] at hraised
  exact ⟨hraised, hctrs, hf.trans ((Claims.Frame.raise _ _ _ _ _).mono hl)⟩

/-! ### Lines of DRAM (R471, R473) -/

theorem State.frame_lineLost (s : State) (area subject : Nat) : Claims.Frame [.led, .air, .sec, .bal] s (s.lineLost area subject) := by
  unfold State.lineLost
  split
  · split
    · exact Claims.Frame.refl _ s
    · exact (Claims.Frame.led s _).mono (by simp)
  · exact (Claims.Frame.led s _).mono (by simp)
  · exact (Claims.Frame.setPlan s _ _).mono (by simp)
  · exact (Claims.Frame.bal s _).mono (by simp)
  · exact (Claims.Frame.sec s _).mono (by simp)
  · split
    · exact Claims.Frame.refl _ s
    · exact (Claims.Frame.sec s _).mono (by simp)
  · exact Claims.Frame.refl _ s

/-- What follows a line whose tag fails twice: both reads count, `store.integrity` says so with its cause, and the owner goes without it. -/
def State.lineFailed (s : State) (channel area subject cause : Nat) : State :=
  (((s.count { name := .stTagRead, a := channel }).count { name := .stTagFail, a := channel }).integrity area subject cause).lineLost
    area subject

/-- What a line whose tag fails twice adds to the counters and the events, whatever happens to the store. -/
structure State.LineReported (s t : State) (channel tenant area cause : Nat) : Prop where
  raised : Claims.Raised .storeIntegrity tenant [tenant, area, cause] s t
  read : Claims.Counted { name := .stTagRead, a := channel } 1 s t
  fail : Claims.Counted { name := .stTagFail, a := channel } 1 s t
  frame : Claims.Frame [.store, .time, .ev, .ctrs, .led, .air, .sec, .bal] s t

theorem State.lineFailed_reported (s : State) (channel : Nat) {tenant area subject : Nat} (cause : Nat)
    (htenant : s.areaTenant area subject = tenant) (hr : Claims.Room s) :
    (s.lineFailed channel area subject cause).store = s.store ∧
    s.LineReported (s.lineFailed channel area subject cause) channel tenant area cause := by
  subst htenant
  let r : State := s.count { name := .stTagRead, a := channel }
  let u : State := r.count { name := .stTagFail, a := channel }
  let v : State := u.integrity area subject cause
  have hf : Claims.Frame [.time, .ev, .ctrs] s u :=
    ((Claims.Frame.count s _ _).mono (by simp)).trans ((Claims.Frame.count r _ _).mono (by simp))
  obtain ⟨hraised, hctrs, hframe⟩ := State.raise_after_for (s := s) (u := u) .storeIntegrity (s.areaTenant area subject)
    [s.areaTenant area subject, area, cause] (u.isSealed (s.areaTenant area subject)) (by decide) rfl hr hf (by simp)
  have hlost : Claims.Frame [.led, .air, .sec, .bal] v (s.lineFailed channel area subject cause) := v.frame_lineLost area subject
  have hev : (s.lineFailed channel area subject cause).ev = v.ev := of_decide_eq_true (hlost.same (p := .ev) (by simp))
  have hcount : (s.lineFailed channel area subject cause).ctrs = u.ctrs :=
    (of_decide_eq_true (hlost.same (p := .ctrs) (by simp))).trans hctrs
  refine ⟨?_, ?_, ?_, ?_, (hframe.mono (by simp)).trans (hlost.mono (by simp))⟩
  · exact (of_decide_eq_true (hlost.same (p := .store) (by simp))).trans (of_decide_eq_true (hframe.same (p := .store) (by simp)))
  · rw [Claims.Raised, hev]
    exact hraised
  · exact (State.ctr_congr hcount).trans ((State.ctr_count_name (s := r) (by simp)).trans (s.ctr_count _ 1))
  · exact (State.ctr_congr hcount).trans ((r.ctr_count _ 1).trans
      (congrArg (CtrName.stTagFail.cls.step · 1) (State.ctr_count_name (s := s) (by simp))))

section
variable {s t : State} {channel tenant area cause : Nat}

theorem State.LineReported.store_after (h : s.LineReported t channel tenant area cause) (x : Store) :
    s.LineReported { t with store := x } channel tenant area cause :=
  ⟨h.raised, h.read, h.fail, h.frame.trans ((Claims.Frame.store t x).mono (by simp))⟩

theorem State.LineReported.store_before {x : Store} (h : ({ s with store := x } : State).LineReported t channel tenant area cause) :
    s.LineReported t channel tenant area cause :=
  ⟨h.raised, h.read, h.fail, ((Claims.Frame.store s x).mono (by simp)).trans h.frame⟩

theorem State.LineReported.count_poison (h : s.LineReported t channel tenant area cause) (k : Nat) :
    s.LineReported (t.count { name := .stPoison, a := k }) channel tenant area cause :=
  ⟨h.raised, (State.ctr_count_name (by simp)).trans h.read, (State.ctr_count_name (by simp)).trans h.fail,
    h.frame.trans ((Claims.Frame.count t _ _).mono (by simp))⟩

end

end Machine

end Sys2Proof
end

section
/-! What entries that commit leave of the journal and its checkpoints (R18, R463, R465): Positions, copy marks and generations. -/

namespace Sys2Proof

open Machine

namespace Machine

/-! ### What a sweep of the journal leaves (R18, R463) -/

/-- What entries that commit leave of the journal and its checkpoints: Position and copy mark of each entry, the next Position, the running
generation, the generations that count, and the records. -/
def State.sweepView (s : State) : List (Nat × Bool) × Nat × Option Generation × List Generation × Map (Nat × Nat) RecInst :=
  (s.store.journal.map fun e => (e.position, e.copied), s.store.nextPos, s.store.running, s.store.generations, s.records)

theorem State.sweepView_eq_iff (s t : State) : s.sweepView = t.sweepView ↔
    (s.store.journal.map fun e => (e.position, e.copied)) = (t.store.journal.map fun e => (e.position, e.copied)) ∧
      s.store.nextPos = t.store.nextPos ∧ s.store.running = t.store.running ∧ s.store.generations = t.store.generations ∧
      s.records = t.records := by
  simp only [State.sweepView, Prod.mk.injEq]

theorem State.sweepView_raise (s : State) (e : Ev) (t : Nat) (p : List Nat) (o : Bool) : (s.raise e t p o).sweepView = s.sweepView :=
  State.raise_blind (f := State.sweepView) (fun _ _ => rfl) (fun _ _ => rfl) (fun _ _ => rfl) s e t p o

theorem State.sweepView_sendPartner (s : State) (p type : Nat) (w : List Nat) (d : List Byte) :
    (s.sendPartner p type w d).sweepView = s.sweepView :=
  State.sendPartner_blind (f := State.sweepView) (fun _ _ => rfl) (fun _ _ => rfl) s p type w d

theorem alsoLast_marks (k : Kept) (was : Option (List Nat)) (l : List JEntry) :
    ((alsoLast k was l).map fun e => (e.position, e.copied)) = l.map fun e => (e.position, e.copied) := by
  induction l with
  | nil => rfl
  | cons e l ih =>
    cases l with
    | nil => rfl
    | cons x l => exact congrArg ((e.position, e.copied) :: ·) ih

theorem commitFill_marks (ready : JEntry → Bool) (room : Nat) (l : List JEntry) :
    ((commitFill ready room l).map fun e => (e.position, e.copied)) = l.map fun e => (e.position, e.copied) := by
  induction l generalizing room with
  | nil => rfl
  | cons e l ih =>
    unfold commitFill
    split
    · exact congrArg ((e.position, e.copied) :: ·) (ih _)
    · split
      · exact congrArg ((e.position, e.copied) :: ·) (ih _)
      · rfl

theorem State.sweepView_carry (s : State) (k : Kept) : (s.carry k).sweepView = s.sweepView := by
  have hname : (s.nameKept k).sweepView = s.sweepView :=
    (State.sweepView_eq_iff _ _).mpr ⟨alsoLast_marks _ _ _, rfl, rfl, rfl, rfl⟩
  unfold State.carry
  split
  · rfl
  · dsimp only
    split
    · exact (State.sweepView_sendPartner _ _ _ _ _).trans hname
    · exact hname

theorem State.sweepView_addExport (s : State) (kind tenant object stamp : Nat) (gap disputed : Bool) (content : List Byte) :
    (s.addExport kind tenant object stamp gap disputed content).sweepView = s.sweepView :=
  State.sweepView_carry _ _

theorem State.sweepView_writeIntervals (s : State) : s.writeIntervals.sweepView = s.sweepView := by
  unfold State.writeIntervals
  dsimp only
  exact (foldl_keeps State.sweepView State.carry State.sweepView_carry _ _).trans
    (foldl_keeps State.sweepView _ (fun _ _ => State.sweepView_addExport _ _ _ _ _ _ _ _) _ s)

theorem State.sweepView_bind (s : State) (d slot charged : Nat) : (s.bind d slot charged).2.sweepView = s.sweepView := by
  unfold State.bind
  split
  · exact State.sweepView_raise _ _ _ _ _
  · cases s.slotKey d slot with
    | none => rfl
    | some c =>
      dsimp only
      split <;> rfl

theorem State.sweepView_heBacklog (s : State) (i : Nat) : (s.heBacklog i).sweepView = s.sweepView := by
  unfold State.heBacklog
  dsimp only
  split
  · exact State.sweepView_raise _ _ _ _ _
  · split <;> rfl

theorem State.sweepView_releaseSession (s : State) (i : Nat) : (s.releaseSession i).sweepView = s.sweepView := by
  refine Eq.trans ?_ (s.sweepView_heBacklog i)
  unfold State.releaseSession
  generalize s.heBacklog i = u
  dsimp only
  split
  · rfl
  · split
    · rfl
    · have hbind := u.sweepView_bind (u.heTenant i) 4 (u.heTenant i)
      generalize u.bind (u.heTenant i) 4 (u.heTenant i) = r at hbind
      refine Eq.trans ?_ hbind
      obtain ⟨_ | key, v⟩ := r
      · dsimp only
        split
        · rfl
        · exact State.sweepView_raise _ _ _ _ _
      · exact foldl_keeps State.sweepView (fun s e => s.sendExport i key e) (fun _ _ => rfl) _ v

/-- Entries that commit keep their Positions and copy marks, and touch no checkpoint and no record. -/
theorem State.sweepView_commitReady (s : State) (ready : JEntry → Bool) : (s.commitReady ready).sweepView = s.sweepView := by
  unfold State.commitReady
  split
  · rfl
  · exact (foldl_keeps State.sweepView State.releaseSession State.sweepView_releaseSession _ _).trans
      ((State.sweepView_writeIntervals _).trans
        ((State.sweepView_eq_iff _ _).mpr ⟨commitFill_marks _ _ _, rfl, rfl, rfl, rfl⟩))

theorem State.sweepView_commitSweep (s : State) : s.commitSweep.sweepView = s.sweepView := by
  unfold State.commitSweep
  split
  case h_5 => rfl
  all_goals exact s.sweepView_commitReady _

/-! ### A checkpoint that counts (R465, R553) -/

theorem State.sweepView_streamFrom (s : State) (ps : Nat) (l : List JEntry) : (s.streamFrom ps l).sweepView = s.sweepView := by
  refine foldl_keeps State.sweepView _ (fun s e => ?_) l s
  refine (foldl_keeps State.sweepView (fun (s : State) k => s.streamKept e.position k)
    (fun _ _ => State.sweepView_sendPartner _ _ _ _ _) _ _).trans ?_
  split
  · rfl
  · exact State.sweepView_sendPartner _ _ _ _ _

/-- A generation that goes to the partner moves no part of the journal, the checkpoints and the records. -/
theorem State.sweepView_streamGeneration (s : State) (g : Generation) : (s.streamGeneration g).sweepView = s.sweepView := by
  unfold State.streamGeneration
  split
  · rfl
  · extract_lets items t u v
    have ht : t.sweepView = s.sweepView :=
      foldl_keeps State.sweepView (fun (s : State) l => (s.count { name := .pairCkptBytes } 1024).sendPartner 0 4 l)
        (fun _ _ => State.sweepView_sendPartner _ _ _ _ _) items s
    have hu : u.sweepView = s.sweepView := (State.sweepView_sendPartner _ _ _ _ _).trans ht
    split
    · exact (State.sweepView_streamFrom _ _ _).trans hu
    · exact hu

/-- The journal below the older generation goes without the checkpoints and the records (R463). -/
theorem State.pruneJournal_reads (s : State) : s.pruneJournal.store.running = s.store.running ∧
    s.pruneJournal.store.generations = s.store.generations ∧ s.pruneJournal.records = s.records := by
  unfold State.pruneJournal
  split
  · extract_lets l t
    split
    · exact ⟨rfl, rfl, rfl⟩
    · exact ⟨rfl, rfl, rfl⟩
  · exact ⟨rfl, rfl, rfl⟩

/-- The copy mark of the entry of a Position is a matter of the Positions and marks alone. -/
theorem copied_find?_position (position : Nat) (l : List JEntry) :
    (l.find? fun y => y.position == position).map JEntry.copied =
      ((l.map fun e => (e.position, e.copied)).find? fun x => x.1 == position).map Prod.snd := by
  rw [List.find?_map, Option.map_map]
  rfl

/-- The entry of a Position is marked once its copies are. -/
theorem copied_find?_mark {position : Nat} {x : JEntry} {l : List JEntry} (hx : l.find? (fun y => y.position == position) = some x) :
    (((l.map fun e => if e.position = position then { e with copied := true } else e).find? fun y => y.position == position).map
      JEntry.copied) = some true := by
  have hpos : x.position = position := by simpa using List.find?_some hx
  have hp : ((fun y : JEntry => y.position == position) ∘ fun e => if e.position = position then { e with copied := true } else e) =
      fun y => y.position == position := by
    funext e
    by_cases he : e.position = position <;> simp [he]
  rw [List.find?_map, hp, hx]
  simp [hpos]

end Machine

end Sys2Proof
end

section
/-! The store events of chapter 18 (O37): each row on the states its clause names, and the statement. -/

namespace Sys2Proof

open Machine

namespace Machine

/-! ### The rows on the states their clauses name -/

section
variable {s : State} {channel die block part page ok : Nat}

/-- A good block of a die in use is programmed and erased. -/
theorem not_idle_of_inUse (hhere : s.dieHere channel die = true) (hst : (s.die channel die).st = .inUse)
    (hgood : (s.die channel die).badBlocks.contains block = false) :
    ¬((¬s.dieHere channel die = true) ∨ (s.die channel die).st = .failed ∨ (s.die channel die).st = .unused ∨
      (s.die channel die).badBlocks.contains block = true) := by
  simp only [hhere, hst, hgood]
  decide

/-- A page programmed is where its map entry points, and counts four sectors of its die, for the host or for reclamation (R454, R460). -/
theorem execFlashProgramDone_programs (hhere : s.dieHere channel die = true) (hst : (s.die channel die).st = .inUse)
    (hgood : (s.die channel die).badBlocks.contains block = false) (hok : ok ≠ 0) (hpart : partCodes.contains part = true)
    (hcapture : part ≠ 3) (htakes : s.takesPage part (channel, die, block) = true) :
    ∃ b l x, ∃ moved : Bool, execFlashProgramDone channel die block part 0 page ok s =
      .next ((({ s.setFails channel die 0 with
        ten := x
        store := { (s.setFails channel die 0).store with
          pages := Map.put s.store.pages (part, copyOf part channel, page) (channel, die, block),
          blocks := b, promoted := l, writeSeq := s.store.writeSeq + 4 } } : State).count
            { name := .stProg, a := dieKey channel die } 4).count { name := if moved then .stReclaim else .stHost, a := part } pageBytes) := by
  let u : State := (s.setFails channel die 0).charge .flash (partTenant part) 1
  obtain ⟨b, l, hput⟩ := u.putPage_eq (part, copyOf part channel, page) (channel, die, block)
  have htakes' := (s.takesPage_setFails channel die block part 0).trans htakes
  refine ⟨b, l, u.ten, (Map.get? s.store.pages (part, copyOf part channel, page)).any fun k =>
    ((s.setFails channel die 0).die k.1 k.2.1).badBlocks.contains k.2.2, ?_⟩
  refine (if_neg (not_idle_of_inUse hhere hst hgood)).trans ?_
  simp only [decide_eq_true hok, State.dieOp_passes, if_neg hok, hpart, htakes', hput, u, hcapture]
  rfl

/-- A block erased with no valid page leaves the block map, and the erase counts (R452). -/
theorem execFlashProgramDone_erases (hhere : s.dieHere channel die = true) (hst : (s.die channel die).st = .inUse)
    (hgood : (s.die channel die).badBlocks.contains block = false) (hok : ok ≠ 0)
    (hvalid : (Map.get? s.store.blocks (channel, die, block)).any (fun b => decide (0 < b.valid)) = false) :
    execFlashProgramDone channel die block part 1 page ok s =
      .next (((s.setFails channel die 0).charge .flash (partTenant part) 1).eraseBlock (channel, die, block)) := by
  have hempty : ¬(Map.get? (s.setFails channel die 0).store.blocks (channel, die, block)).any (fun b => decide (0 < b.valid)) = true := by
    rw [Bool.not_eq_true]
    exact hvalid
  refine (if_neg (not_idle_of_inUse hhere hst hgood)).trans ?_
  simp only [decide_eq_true hok, State.dieOp_passes, if_neg hok, if_neg hempty, if_true]

/-- A failed program or erase retires its block, and says so at most once an hour for the die (R459). -/
theorem execFlashProgramDone_fails {op : Nat} {u : State} (hhere : s.dieHere channel die = true)
    (hst : (s.die channel die).st = .inUse) (hgood : (s.die channel die).badBlocks.contains block = false)
    (hfew : (s.die channel die).consecFails < 2)
    (hu : (s.setFails channel die ((s.die channel die).consecFails + 1)).retireBlock channel die block = u) :
    execFlashProgramDone channel die block part op page 0 s =
      .next (u.raiseEvery hourMs .storeBlockRetired (dieKey channel die) 0
        [channel, die, u.ctr { name := .stRetired, a := dieKey channel die }]) := by
  refine (if_neg (not_idle_of_inUse hhere hst hgood)).trans ?_
  simp only [ne_eq, not_true_eq_false, decide_false, s.dieOp_fails hfew, if_true, hu]

end

/-- A checkpoint that starts runs under the next number from the newest Position (R465). -/
theorem State.startCheckpoint_starts (s : State) (hrun : s.store.running = none) :
    ∃ area, s.startCheckpoint = { s with store := { s.store with
      running := some { gen := s.store.nextGen, area := area, startPos := s.newestPos, endPos := 0, started := s.stamp, epoch := s.pair.epoch },
      nextGen := s.store.nextGen + 1, ckptMs := s.time.ms } } := by
  unfold State.startCheckpoint
  rw [hrun]
  exact ⟨_, rfl⟩

/-- The running generation counts: it is committed as `g'`, which goes to the partner, and `store.checkpoint_done` says so (R465). -/
theorem execCheckpointCommit_commits {s : State} {g g' : Generation} (hrun : s.store.running = some g) (hre : s.restarting 9 = false)
    (hg : { g with endPos := s.newestPos, committed := true, digest := (List.range 16).map s.nsDigest } = g') :
    ∃ x p, execCheckpointCommit s = .next (((({ s with
      time := x
      store := { s.store with running := none, generations := (g' :: s.store.generations).take 2 } } : State).pruneJournal.commitSweep).streamGeneration
        g').raise .storeCheckpointDone 0 p) := by
  subst hg
  refine ⟨{ s.time with savedCross := (s.time.cross.head?.map fun (c : Nat × Nat × Nat) => (c.1, c.2.1)).or s.time.savedCross },
    [g.gen, s.time.ms - s.store.ckptMs], ?_⟩
  simp [execCheckpointCommit, hrun, hre]

/-- An unreadable sector's content, repaired or lost, moves no other counter than those of a journal entry. -/
theorem execFlashReadDone_unreadable_ctr {s u : State} {channel die block part outcome content tenant first n mirrored : Nat}
    {sector : List Byte} (hhere : s.dieHere channel die = true) (hst : (s.die channel die).st = .inUse)
    (hbad : ¬(outcome < 3 ∧ (s.openSector part sector).isSome = true))
    (hu : (s.countRead (dieKey channel die) outcome).retireUnread channel die block part (decide (outcome < 3)) = u) :
    ∃ t, execFlashReadDone channel die block part outcome content tenant first n mirrored sector s = .next t ∧
      ∀ c : Ctr, c.name ∉ CtrName.ofEntry → t.ctr c = u.ctr c := by
  rw [execFlashReadDone_unreadable hhere hst hbad hu]
  split
  · exact ⟨_, rfl, fun c hc => State.ctr_raise hc _ _ _ _ _⟩
  · split
    · exact ⟨_, rfl, fun _ _ => rfl⟩
    · exact ⟨_, rfl, fun c hc => State.ctr_loseContent hc _ _ _ _ _⟩

/-- Where a die was never erased, each erase count is 0. -/
theorem State.eraseCounts_fresh (s : State) {c d : Nat} (he : (s.die c d).erases = []) :
    s.eraseCounts c d = [] ∨ ∃ b, s.eraseCounts c d = [(b, 0)] := by
  unfold State.eraseCounts
  simp only [he, List.filter_nil]
  split
  · exact .inr ⟨_, rfl⟩
  · exact .inl rfl

/-- A die never erased moves no block; the wear of the flash is said where a threshold has passed (R457). -/
theorem execWearCheck_fresh {s : State} {channel die : Nat} (hhere : s.dieHere channel die = true) (hst : (s.die channel die).st = .inUse)
    (he : (s.die channel die).erases = []) (hw : s.store.wearRaised < s.wearStep) :
    execWearCheck channel die s =
      .next (({ s with store := { s.store with wearRaised := s.wearStep } } : State).raise .storeWear 0 [s.meanWear]) := by
  have hgap : ((s.eraseCounts channel die).map Prod.snd).foldl max 0 = 0 := by
    rcases s.eraseCounts_fresh he with h | ⟨b, h⟩ <;> simp [h]
  unfold execWearCheck
  cases s.wearPair channel die with
  | none => simp [hhere, hst, hw]
  | some p => simp [hhere, hst, hgap, hw]

/-! ### Lines at an address -/

theorem State.areaTenant_lineAt (s : State) (channel address subject : Nat) :
    s.areaTenant (s.lineAt channel address subject).area subject = (s.lineAt channel address subject).tenant := by
  simp only [State.lineAt]

/-- Which line an address is does not depend on the store. -/
theorem State.lineAt_store (s : State) (x : Store) (channel address subject : Nat) :
    ({ s with store := x } : State).lineAt channel address subject = s.lineAt channel address subject := rfl

theorem State.lineVerifies_count (s : State) (c : Ctr) (n tenant address : Nat) (read : List Byte) :
    (s.count c n).lineVerifies tenant address read = s.lineVerifies tenant address read := rfl

/-- The tag of a line depends on the boot nonce alone of the store (R470). -/
theorem State.lineVerifies_store (s : State) {x : Store} (hx : x.bootNonce = s.store.bootNonce) (tenant address : Nat) (read : List Byte) :
    ({ s with store := x } : State).lineVerifies tenant address read = s.lineVerifies tenant address read := by
  have hkey : ({ s with store := x } : State).dramKey tenant = s.dramKey tenant := by
    unfold State.dramKey
    dsimp only
    rw [hx]
    rfl
  simp only [State.lineVerifies, hkey]

/-- A partial write of a line whose tag fails twice is not performed, and leaves the line poisoned (R471). `u` stands for the state after
the failure, which the kernel would evaluate. -/
theorem execDramIntegrityFail_poisons {s u : State} {channel address subject : Nat} {first second : List Byte} {line : PoisonedLine}
    (hline : s.lineAt channel address subject = line) (hu : s.lineFailed channel line.area subject 0 = u) (hch : channel < 4)
    (harea : line.area < 14) (hclean : s.store.poisoned.any (fun l => l.address == address) = false)
    (hfirst : s.lineVerifies line.tenant address first = false) (hsecond : s.lineVerifies line.tenant address second = false)
    (hr : Claims.Room s) :
    ∃ t, execDramIntegrityFail channel address subject 1 first second s = .next t ∧ t.store.poisoned = s.store.poisoned ++ [line] ∧
      s.LineReported t channel line.tenant line.area 0 := by
  have htenant : s.areaTenant line.area subject = line.tenant := by
    rw [← hline, s.areaTenant_lineAt]
  obtain ⟨hstore, hreported⟩ := s.lineFailed_reported channel 0 htenant hr
  rw [hu] at hstore hreported
  refine ⟨({ u with store := { u.store with poisoned := u.store.poisoned ++ [line] } } : State).count { name := .stPoison, a := line.tenant },
    ?_, congrArg (fun x : Store => x.poisoned ++ [line]) hstore, (hreported.store_after _).count_poison line.tenant⟩
  subst hu
  unfold execDramIntegrityFail
  simp [hline, Nat.not_le.mpr hch, Nat.not_le.mpr harea, hclean, hfirst, State.lineVerifies_count, hsecond, State.lineFailed]

/-- A scrubbed line whose tag fails twice is reported, and rewritten, which clears its poison (R473). -/
theorem execScrubPass_fails {s v u : State} {channel progress address subject : Nat} {first second : List Byte} {line : PoisonedLine}
    (hv : { s with store := { s.store with
      scrubAt := if 1000 ≤ progress then 0 else progress, scrubPasses := s.store.scrubPasses + if 1000 ≤ progress then 1 else 0 } } = v)
    (hline : s.lineAt channel address subject = line) (hu : v.lineFailed channel line.area subject 2 = u) (hne : first ≠ [])
    (hch : channel < 4) (harea : line.area < 14) (hfirst : s.lineVerifies line.tenant address first = false)
    (hsecond : s.lineVerifies line.tenant address second = false) (hr : Claims.Room s) :
    ∃ t, execScrubPass channel progress address subject first second s = .next t ∧
      t.store.poisoned = s.store.poisoned.filter (fun l => l.address != address) ∧
      s.LineReported t channel line.tenant line.area 2 := by
  have htenant : v.areaTenant line.area subject = line.tenant := by
    rw [← hv, ← hline, ← s.areaTenant_lineAt]
    rfl
  have hroom : Claims.Room v := by
    rw [← hv]
    exact hr
  have hpoisoned : v.store.poisoned = s.store.poisoned := by
    rw [← hv]
  obtain ⟨hstore, hreported⟩ := v.lineFailed_reported channel 2 htenant hroom
  rw [hu] at hstore hreported
  have hreported' : s.LineReported u channel line.tenant line.area 2 := by
    rw [← hv] at hreported
    exact hreported.store_before
  refine ⟨{ u with store := { u.store with poisoned := u.store.poisoned.filter fun l => l.address != address } }, ?_, ?_,
    hreported'.store_after _⟩
  · subst hv hu
    unfold execScrubPass
    simp [State.lineAt_store, hline, Nat.not_le.mpr hch, Nat.not_le.mpr harea, hne, State.lineVerifies_store, hfirst,
      State.lineVerifies_count, hsecond, State.lineFailed, bit]
  · rw [← hpoisoned]
    exact congrArg (fun x : Store => x.poisoned.filter fun l => l.address != address) hstore

end Machine

/-- Settles O37, clause by clause. -/
theorem storeEventsComplete : Obligations.StoreEventsComplete := by
  unfold Obligations.StoreEventsComplete
  refine ⟨?dieFails, ?programs, ?erases, ?programFails, ?programIdle, ?reads, ?repairs, ?copies, ?copiesWait, ?checkpointStarts,
    ?checkpointCommits, ?checkpointIdle, ?reclaims, ?reclaimsNothing, ?wear, ?lineFails, ?lineCleared, ?scrubGoesOn, ?scrubFails⟩
  case dieFails =>
    intro s channel die cause hhere hst hcause hr
    let u : State := s.setDie channel die { s.die channel die with st := .failed }
    refine ⟨u.raise .storeDieFailed 0 [channel, die, 1], ?_, by simp [u], State.raise_after (s := s) (u := u) _ _ (by decide) rfl hr ?_ (by simp)⟩
    · show execDieFailed channel die cause s = _
      simp [execDieFailed, hhere, hst, hcause, State.failDie, u]
    · exact (Claims.Frame.store s _).mono (by simp)
  case programs =>
    intro s channel die block part page ok hhere hst hgood hok hpart hcapture htakes
    obtain ⟨b, l, x, moved, hexec⟩ := execFlashProgramDone_programs (page := page) hhere hst hgood hok hpart hcapture htakes
    refine ⟨_, hexec, ?_, rfl, ?_, ?_, ?_⟩
    · exact Map.get?_put_self _ _ _
    · exact congrArg Die.consecFails (s.die_setFails channel die 0)
    · have hname : CtrName.stProg ≠ if moved then .stReclaim else .stHost := by
        cases moved <;> decide
      exact (State.ctr_count_name hname).trans (State.ctr_count _ _ 4)
    · refine Claims.Frame.trans ?_ ((Claims.Frame.count _ _ _).mono (by simp))
      refine Claims.Frame.trans ?_ ((Claims.Frame.count _ _ _).mono (by simp))
      exact ((Claims.Frame.ten s x).mono (by simp)).trans ((Claims.Frame.store _ _).mono (by simp))
  case erases =>
    intro s channel die block part page ok hhere hst hgood hok hvalid
    let v : State := s.setFails channel die 0
    let u : State := v.charge .flash (partTenant part) 1
    have hexec := execFlashProgramDone_erases (page := page) (part := part) hhere hst hgood hok hvalid
    have hdie : u.die channel die = { s.die channel die with consecFails := 0 } := s.die_setFails channel die 0
    obtain ⟨hblock, herased, hcount, hframe⟩ := u.eraseBlock_reads (channel, die, block)
    rw [hdie] at herased
    refine ⟨u.eraseBlock (channel, die, block), hexec, hblock, ?_, ?_, hcount, ?_⟩
    · rw [herased]
      exact Map.getD_put_self _ _ _ _
    · rw [herased]
    · have hcharge : Claims.Frame [.store, .ctrs, .ten] v u := (Claims.Frame.ten v _).mono (by simp)
      exact ((s.frame_setFails channel die 0).mono (by simp)).trans (hcharge.trans (hframe.mono (by simp)))
  case programFails =>
    intro s channel die block part op page hhere hst hgood hfew
    let v : State := s.setFails channel die ((s.die channel die).consecFails + 1)
    have hdie : v.die channel die = _ := s.die_setFails channel die _
    have hretire := v.retireBlock_good (c := channel) (d := die) (block := block) (by rw [hdie]; exact hgood)
    rw [hdie] at hretire
    refine ⟨_, execFlashProgramDone_fails (page := page) (part := part) (op := op) hhere hst hgood hfew hretire, ?_, ?_, ?_, ?_, ?_⟩
    · simp
    · simp
    · exact (State.ctr_raiseEvery (by simp [CtrName.ofEntry]) _ _ _ _ _ _).trans (v.ctr_count _ 1)
    · simp only [State.raiseEvery_frame, State.count_frame]
      rfl
    · refine Claims.Frame.trans ?_ ((Claims.Frame.raiseEvery _ _ _ _ _ _).mono (by simp))
      refine Claims.Frame.trans ?_ ((Claims.Frame.count _ _ _).mono (by simp))
      exact ((s.frame_setFails channel die _).mono (by simp)).trans ((Claims.Frame.store v _).mono (by simp))
  case programIdle =>
    intro s channel die block part op page ok hidle
    refine if_pos ?_
    rcases hidle with h | h | h
    · exact .inl (by simp [h])
    · exact .inr (.inl h)
    · exact .inr (.inr (.inr h))
  case reads =>
    intro s channel die block part outcome content tenant first n mirrored sector hhere hst ho
    let v : State := s.countRead (dieKey channel die) outcome
    obtain ⟨hdie, -, -, hframe⟩ := s.countRead_reads (dieKey channel die) outcome channel die part sector
    have hread := s.ctr_countRead (dieKey channel die) outcome
    by_cases hopen : (s.openSector part sector).isSome = true
    · have hpass : v.dieOp channel die true = v.setFails channel die 0 := v.dieOp_passes channel die
      have hafter : (v.setFails channel die 0).die channel die = { s.die channel die with consecFails := 0 } := by
        rw [State.die_setFails, hdie]
      refine ⟨v.setFails channel die 0, (execFlashReadDone_opens hhere hst ho hopen).trans (congrArg _ hpass), hread,
        fun _ => ⟨by rw [hafter], by rw [hafter], ?_⟩, fun h => ?_⟩
      · exact (hframe.mono (by simp)).trans ((v.frame_setFails channel die 0).mono (by simp))
      · simp [hopen] at h
    · obtain ⟨t, hexec, hctr⟩ := execFlashReadDone_unreadable_ctr hhere hst (fun h => hopen h.2) rfl
      obtain ⟨hunread, hkept, -, -, -⟩ := v.retireUnread_reads (c := channel) (d := die) block part (.inl (decide_eq_true ho))
      refine ⟨t, hexec, ?_, fun h => absurd h hopen, fun _ => ?_⟩
      · exact (hctr _ (by simp [CtrName.ofEntry])).trans ((hkept _ (by simp) (by simp)).trans hread)
      · exact (hctr _ (by simp [CtrName.ofEntry])).trans
          (hunread.trans (congrArg (CtrName.stUnread.cls.step · 1) (s.ctr_countRead_other _ _ (by simp))))
  case repairs =>
    intro s channel die block part outcome content tenant first n mirrored sector hhere hst ho hmirror hcontent hfew hr
    let v : State := s.countRead (dieKey channel die) outcome
    let u : State := v.retireUnread channel die block part (decide (outcome < 3))
    obtain ⟨hdie, hev, -, hframe⟩ := s.countRead_reads (dieKey channel die) outcome channel die part sector
    obtain ⟨hunread, -, hbad, hev', hframe'⟩ := v.retireUnread_reads (c := channel) (d := die) block part (ok := decide (outcome < 3))
      (.inr (by rwa [hdie]))
    have hu : Claims.Frame [.store, .ctrs, .time, .ev] s u := (hframe.mono (by simp)).trans (hframe'.mono (by simp))
    obtain ⟨hraised, hkept⟩ := State.raise_after (s := s) (u := u) .storeCopyRepaired [part, 1] (by decide) (hev'.trans hev) hr hu (by simp)
    refine ⟨u.raise .storeCopyRepaired 0 [part, 1], ?_, ?_, ?_, hraised, hkept⟩
    · exact (execFlashReadDone_unreadable hhere hst (fun h => Nat.not_lt.mpr ho h.1) rfl).trans (if_pos ⟨hmirror, hcontent⟩)
    · exact (State.ctr_raise (by simp [CtrName.ofEntry]) _ _ _ _ _).trans
        (hunread.trans (congrArg (CtrName.stUnread.cls.step · 1) (s.ctr_countRead_other _ _ (by simp))))
    · rw [State.die_raise]
      exact hbad
  case copies =>
    intro s position x hre hx
    let u : State := { s with store := { s.store with journal := s.store.journal.map fun (e : JEntry) =>
      if e.position = position then { e with copied := true } else e } }
    obtain ⟨hjournal, hnext, -, -, -⟩ := (State.sweepView_eq_iff _ _).mp u.eraseSlots.sweepView_commitSweep
    refine ⟨u.eraseSlots.commitSweep, ?_, ?_, hnext⟩
    · exact if_neg (by simp [hre])
    · rw [copied_find?_position, hjournal, ← copied_find?_position]
      exact copied_find?_mark hx
  case copiesWait =>
    exact fun s position hre => if_pos hre
  case checkpointStarts =>
    intro s hrun hdue hre
    obtain ⟨area, hstart⟩ := s.startCheckpoint_starts hrun
    have hexec : execCheckpointStart s = .next s.startCheckpoint := if_pos ⟨.inl (decide_eq_true hdue), by simp [hre]⟩
    rw [hstart] at hexec
    exact ⟨_, hexec, rfl, rfl, rfl, Claims.Frame.store s _⟩
  case checkpointCommits =>
    intro s g hrun hre
    generalize hg : ({ g with endPos := s.newestPos, committed := true, digest := (List.range 16).map s.nsDigest } : Generation) = g'
    obtain ⟨x, p, hexec⟩ := execCheckpointCommit_commits hrun hre hg
    let u : State := { s with time := x, store := { s.store with running := none, generations := (g' :: s.store.generations).take 2 } }
    have hview := (State.sweepView_raise (u.pruneJournal.commitSweep.streamGeneration g') .storeCheckpointDone 0 p false).trans
      ((State.sweepView_streamGeneration _ _).trans (State.sweepView_commitSweep _))
    obtain ⟨-, -, hrunning, hgens, hrecords⟩ := (State.sweepView_eq_iff _ _).mp hview
    obtain ⟨hrunning', hgens', hrecords'⟩ := u.pruneJournal_reads
    exact ⟨_, hexec, hrunning.trans hrunning', congrArg List.head? (hgens.trans hgens'), hrecords.trans hrecords'⟩
  case checkpointIdle =>
    intro s hrun
    show execCheckpointCommit s = _
    simp [execCheckpointCommit, hrun]
  case reclaims =>
    intro s part freed into s1 u v hpart hsmall hs hv hcopy
    subst hs
    show execReclamation part freed into s = _
    simp only [execReclamation, hpart, hv, hcopy, hsmall]
    rfl
  case reclaimsNothing =>
    intro s part freed into hpart hfreed hv
    subst hfreed
    show execReclamation part [] into s = _
    simp only [execReclamation, hpart, List.foldl_nil, hv]
    rfl
  case wear =>
    intro s channel die hhere hst he _ hw hr
    exact ⟨_, execWearCheck_fresh hhere hst he hw, by simp,
      State.raise_after (s := s) _ _ (by decide) rfl hr ((Claims.Frame.store s _).mono (by simp)) (by simp)⟩
  case lineFails =>
    intro s channel address subject first second hch harea hclean hfirst hsecond hr
    obtain ⟨t, hexec, hpoisoned, h⟩ := execDramIntegrityFail_poisons rfl rfl hch harea hclean hfirst hsecond hr
    exact ⟨t, hexec, hpoisoned, h.raised, h.read, h.fail, h.frame⟩
  case lineCleared =>
    intro s channel address subject first second hch harea
    exact (if_neg (not_or.mpr ⟨Nat.not_le.mpr hch, Nat.not_le.mpr harea⟩)).trans (if_pos rfl)
  case scrubGoesOn =>
    intro s channel progress address subject second
    show execScrubPass channel progress address subject [] second s = _
    simp [execScrubPass, bit]
  case scrubFails =>
    intro s channel progress address subject first second hne hch harea hfirst hsecond hr
    obtain ⟨t, hexec, hpoisoned, h⟩ := execScrubPass_fails (progress := progress) rfl rfl rfl hne hch harea hfirst hsecond hr
    exact ⟨t, hexec, hpoisoned, h.raised, h.fail, h.frame⟩

end Sys2Proof
end

section
/-! The events of chapters 19 and 22 to 24 (O49), row by row as for O46 to O48. -/

namespace Sys2Proof

open Machine

/-- Settles O49, row by row. -/
theorem pairTimeEventsAct : Obligations.PairTimeEventsAct := by
  unfold Obligations.PairTimeEventsAct
  refine ⟨?legalSecond, ?timeSample, ?ppsEdge, ?partnerTimeExchange, ?holdoverTimeout, ?leapSmear, ?pairWaitExpiry, ?partnerLoss,
    ?soloGuardExpiry, ?partnerYield, ?claimStart, ?takeoverDone, ?readyChange, ?catchUpDone, ?takebackDue, ?handover,
    ?handoverTimeout, ?digestHoldExpiry, ?imageReceived, ?trialConfirm, ?rollStepDone, ?chainLinkLoss, ?headCampaignStep,
    ?meterCampaignRound, ?lockoutSample, ?lockoutDiscrepancyTimeout, ?releaseHoldEnd, ?safeDeadline, ?partnerMessageReceived,
    ?heartbeatSend, ?rollReadyTimeout⟩
  case legalSecond => exact fun _ => next_ite (fun _ => rfl) fun _ => next_ite (fun _ => rfl) fun _ => rfl
  case timeSample =>
    exact fun _ _ _ _ _ _ _ _ => next_ite (fun _ => rfl) fun _ => next_ite (fun _ => rfl) fun _ => next_ite (fun _ => rfl) fun _ =>
      next_ite (fun _ => rfl) fun _ => rfl
  case ppsEdge => exact fun _ _ => rfl
  case partnerTimeExchange => exact fun _ _ _ _ _ _ _ _ _ => next_ite (fun _ => rfl) fun _ => rfl
  case holdoverTimeout => exact fun _ => next_ite (fun _ => rfl) fun _ => rfl
  case leapSmear =>
    intro s
    show execLeapSmear s = _
    dsimp only [execLeapSmear]
    cases s.time.smearing with
    | some g => exact next_ite (fun _ => rfl) fun _ => rfl
    | none =>
      cases s.time.leap with
      | none => rfl
      | some l => exact next_ite (fun _ => rfl) fun _ => rfl
  case pairWaitExpiry =>
    intro s
    show execPairWaitExpiry s = _
    dsimp only [execPairWaitExpiry]
    cases s.pair.waitEndMs with
    | none => rfl
    | some t => exact next_ite (fun _ => rfl) fun _ => next_ite (fun _ => rfl) fun _ => next_ite (fun _ => rfl) fun _ => rfl
  case partnerLoss =>
    intro s
    show execPartnerLoss s = _
    dsimp only [execPartnerLoss]
    cases s.pair.partner with
    | none => rfl
    | some h =>
      refine next_ite (fun _ => rfl) fun _ => ?_
      cases s.pair.st with
      | ready => exact next_ite (fun _ => rfl) fun _ => next_ite (fun _ => rfl) fun _ => rfl
      | _ => rfl
  case soloGuardExpiry =>
    intro s
    show execSoloGuardExpiry s = _
    dsimp only [execSoloGuardExpiry]
    generalize s.pair.st = st
    cases s.pair.partner with
    | none => cases st <;> rfl
    | some h =>
      cases st with
      | activeHold => exact next_ite (fun _ => rfl) fun _ => next_ite (fun _ => rfl) fun _ => next_ite (fun _ => rfl) fun _ => rfl
      | _ => rfl
  case partnerYield => exact fun _ => next_ite (fun _ => rfl) fun _ => rfl
  case claimStart =>
    intro s
    show execClaimStart s = _
    dsimp only [execClaimStart]
    cases s.pair.claimDue with
    | none => rfl
    | some cause =>
      dsimp only
      cases s.nextEpoch with
      | none => rfl
      | some e => exact next_ite (fun _ => rfl) fun _ => rfl
  case takeoverDone => exact fun _ _ _ => next_ite (fun _ => rfl) fun _ => next_ite (fun _ => rfl) fun _ => rfl
  case readyChange =>
    intro s
    show execReadyChange s = _
    dsimp only [execReadyChange]
    cases s.pair.st with
    | ready => exact next_ite (fun _ => rfl) fun _ => rfl
    | _ => rfl
  case catchUpDone =>
    intro s
    show execCatchUpDone s = _
    dsimp only [execCatchUpDone]
    generalize s.pair.st = st
    cases s.pair.partner with
    | none => cases st <;> rfl
    | some h =>
      cases st with
      | activeSolo => exact next_ite (fun _ => rfl) fun _ => rfl
      | _ => rfl
  case takebackDue =>
    intro s
    show execTakebackDue s = _
    dsimp only [execTakebackDue]
    generalize s.pair.st = st
    cases s.pair.readySinceMs with
    | none => cases st <;> rfl
    | some t =>
      cases st with
      | activePaired => exact next_ite (fun _ => rfl) fun _ => rfl
      | _ => rfl
  case handover =>
    intro s
    show execHandover s = _
    dsimp only [execHandover]
    obtain _ | _ | _ | _ | _ := s.pair.handoverStep
    case succ.succ.zero => exact next_ite (fun _ => rfl) fun _ => rfl
    all_goals rfl
  case handoverTimeout => exact fun _ => next_ite (fun _ => rfl) fun _ => rfl
  case digestHoldExpiry =>
    intro neighbour domain s
    show execDigestHoldExpiry neighbour domain s = _
    dsimp only [execDigestHoldExpiry]
    cases Map.get? (s.agreement neighbour).since domain with
    | none => rfl
    | some t =>
      cases s.neighbourOf neighbour with
      | none => rfl
      | some h => exact next_ite (fun _ => rfl) fun _ => rfl
  case imageReceived => exact fun _ _ _ => rfl
  case trialConfirm =>
    intro s
    show execTrialConfirm s = _
    dsimp only [execTrialConfirm]
    obtain _ | ⟨m, _ | t⟩ := s.upd.trial
    case some.some => exact next_ite (fun _ => rfl) fun _ => rfl
    all_goals rfl
  case rollStepDone =>
    intro s
    show execRollStepDone s = _
    dsimp only [execRollStepDone]
    cases s.upd.roll with
    | none => rfl
    | some r => exact next_ite (fun _ => rfl) fun _ => next_ite (fun _ => rfl) fun _ => rfl
  case chainLinkLoss =>
    intro s
    show execChainLinkLoss s = _
    dsimp only [execChainLinkLoss]
    cases s.pair.neighbour with
    | none => rfl
    | some h => exact next_ite (fun _ => rfl) fun _ => rfl
  case headCampaignStep =>
    intro campaign lane s
    show execHeadCampaignStep campaign lane s = _
    dsimp only [execHeadCampaignStep]
    cases s.campaign campaign with
    | none => rfl
    | some c =>
      dsimp only
      cases Map.get? c.heads lane with
      | none => rfl
      | some h =>
        cases s.libraryImage 2 c.digest with
        | none => rfl
        | some i => exact next_ite (fun _ => rfl) fun _ => rfl
  case meterCampaignRound =>
    intro campaign s
    show execMeterCampaignRound campaign s = _
    dsimp only [execMeterCampaignRound]
    cases s.campaign campaign with
    | none => rfl
    | some c =>
      refine next_ite (fun _ => rfl) fun _ => next_ite (fun _ => rfl) fun _ => next_ite (fun _ => rfl) fun _ => ?_
      cases s.repairFrom c with
      | none => rfl
      | some block => cases s.stream c.stream <;> rfl
  case lockoutSample => exact fun _ _ => rfl
  case lockoutDiscrepancyTimeout => exact fun _ _ => rfl
  case releaseHoldEnd => exact fun _ _ => rfl
  case safeDeadline =>
    intro slot s
    show execSafeDeadline slot s = _
    dsimp only [execSafeDeadline]
    cases (s.safeMeter slot).out with
    | none => rfl
    | some c => exact next_ite (fun _ => rfl) fun _ => rfl
  case partnerMessageReceived => exact fun _ _ _ => next_ite (fun _ => rfl) fun _ => next_ite (fun _ => rfl) fun _ => rfl
  case heartbeatSend => exact fun _ => rfl
  case rollReadyTimeout =>
    intro s
    show execRollReadyTimeout s = _
    dsimp only [execRollReadyTimeout]
    cases s.upd.roll with
    | none => rfl
    | some r => exact next_ite (fun _ => rfl) fun _ => rfl

end Sys2Proof
end

section
/-! The trail and the recorder (O17, O39): what events, counters, notifications and triggers leave of the trail once an event is admitted, what
a chip reset leaves of it, the rows of the recorder on the states their clauses name, and the statements. -/

namespace Sys2Proof

open Machine

namespace Machine

/-- What an admitted event leaves in the recorder (R505, R506), and the records: what all that comes of an admission later keeps. -/
structure Logged where
  trail : List TrailEntry
  nextSeq : Nat
  overwrites : Nat
  records : Map (Nat × Nat) RecInst

/-- A state in this view. -/
def State.logged (s : State) : Logged := ⟨s.ev.trail, s.ev.nextSeq, s.ctr { name := .trailOverwrites }, s.records⟩

/-! ### Events, counters and the journal -/

theorem CtrName.trailOverwrites_not_ofEntry : ({ name := .trailOverwrites } : Ctr).name ∉ CtrName.ofEntry := by decide

/-- Two states whose parts agree read the same in this view. -/
theorem State.logged_congr {s t : State} (hev : t.ev = s.ev) (hctr : t.ctr { name := .trailOverwrites } = s.ctr { name := .trailOverwrites })
    (hrec : t.records = s.records) : t.logged = s.logged := by
  rw [State.logged, State.logged, hev, hctr, hrec]

/-- An event raised changes the queue and the mark of a loss alone. -/
theorem State.logged_raise (s : State) (e : Ev) (t : Nat) (p : List Nat) (o : Bool) : (s.raise e t p o).logged = s.logged := by
  have hctr := State.ctr_raise CtrName.trailOverwrites_not_ofEntry s e t p o
  have hrec : (s.raise e t p o).records = s.records := by simp
  have hev : (s.raise e t p o).ev.trail = s.ev.trail ∧ (s.raise e t p o).ev.nextSeq = s.ev.nextSeq := by
    rcases s.raise_eq e t p o with h | h | ⟨-, h⟩ <;> rw [h] <;> exact ⟨rfl, rfl⟩
  rw [State.logged, State.logged, hctr, hrec, hev.1, hev.2]

theorem State.logged_count {s : State} {c : Ctr} {n : Nat} (h : c.name ≠ .trailOverwrites) : (s.count c n).logged = s.logged :=
  State.logged_congr rfl (State.ctr_count_name fun e => h e.symm) rfl

/-- Both branches of a condition in one proof. -/
theorem State.logged_ite {p : Prop} [Decidable p] {a b : State} {x : Logged} (ha : a.logged = x) (hb : b.logged = x) :
    (if p then a else b).logged = x := by
  split
  · exact ha
  · exact hb

theorem State.logged_watchReplay (s : State) : s.watchReplay.logged = s.logged := by
  have hstart : s.startCheckpoint.logged = s.logged := State.logged_congr (by simp) (State.ctr_congr (by simp)) (by simp)
  unfold State.watchReplay
  dsimp only
  split <;> split
  · exact (State.logged_raise _ _ _ _ _).trans hstart
  · exact hstart
  · exact State.logged_raise _ _ _ _ _
  · rfl

theorem State.logged_watchRoom (s : State) : s.watchRoom.logged = s.logged := by
  unfold State.watchRoom
  split
  · exact State.logged_raise _ _ _ _ _
  · rfl

theorem State.logged_passEntry (s : State) (e : JEntry) : (s.passEntry e).logged = s.logged := by
  have hstream : (s.streamEntry e).logged = s.logged :=
    State.logged_congr (by simp) (State.ctr_streamEntry CtrName.trailOverwrites_not_ofEntry s e) (by simp)
  unfold State.passEntry
  split
  · exact (State.logged_watchReplay _).trans hstream
  · rfl

/-- Journaling leaves the recorder, whatever it raises on its way. -/
theorem State.logged_journal (s : State) (k : JKind) (t n : Nat) (b : JBody) (q : Nat) : (s.journal k t n b q).logged = s.logged := by
  have hadd : ∀ e, (s.addEntry e).logged = s.logged := fun e => State.logged_congr (by simp) (State.ctr_congr (by simp)) (by simp)
  unfold State.journal
  split
  · rfl
  · exact (State.logged_passEntry _ _).trans ((State.logged_watchRoom _).trans (hadd _))

/-! ### Notifications and event frames (R57, R507, R628) -/

theorem State.logged_sendFrame (s : State) (i type : Nat) (b : List Byte) : (s.sendFrame i type b).logged = s.logged :=
  State.logged_congr (by simp [State.sendFrame]) ((State.ctr_count_name (by simp)).trans (State.ctr_count_name (by simp)))
    (by simp [State.sendFrame])

theorem State.logged_present (s : State) (n : Nat) : (s.present n).logged = s.logged := by
  have hsend : ∀ m, (s.tunnelSend n m).logged = s.logged := by
    intro m
    unfold State.tunnelSend
    split
    · exact State.logged_sendFrame _ _ _ _
    · rfl
  unfold State.present
  split
  · exact State.logged_ite (hsend _) rfl
  · rfl

theorem State.logged_signalNote (s : State) (n : Nat) : (s.signalNote n).logged = s.logged :=
  State.logged_ite rfl (State.logged_ite rfl rfl)

theorem State.logged_notify (s : State) (n : Nat) (x : Note) : (s.notify n x).logged = s.logged :=
  State.logged_ite rfl (State.logged_ite (State.logged_ite ((State.logged_signalNote _ n).trans (State.logged_present _ n)) rfl)
    (State.logged_ite rfl (State.logged_raise _ _ _ _ _)))

/-- Routing delivers an event and may raise another; it leaves the trail. -/
theorem State.logged_route (s : State) (e : TrailEntry) (o : Bool) : (s.route e o).logged = s.logged := by
  unfold State.route
  extract_lets +onlyGivenNames src r sent targets forced limited go s1
  have h1 : s1.logged = s.logged := foldl_keeps State.logged _ (fun s n => s.logged_notify n _) go s
  clear_value s1
  have hlimited : (s1.count { name := .evLimited, a := src }).logged = s.logged := (State.logged_count (by simp)).trans h1
  exact State.logged_ite (State.logged_ite hlimited ((State.logged_raise _ _ _ _ _).trans hlimited)) h1

theorem State.logged_exportEvent (s : State) (e : TrailEntry) : (s.exportEvent e).logged = s.logged :=
  State.logged_ite rfl rfl

theorem State.logged_bind (s : State) (d slot c : Nat) : (s.bind d slot c).2.logged = s.logged := by
  unfold State.bind
  split
  · exact (State.logged_raise _ _ _ _ _).trans (State.logged_count (by simp))
  · split
    · rfl
    · have hbound : (s.count { name := .vaultBound, a := d }).logged = s.logged := State.logged_count (by simp)
      exact State.logged_ite ((State.logged_count (by simp)).trans hbound) hbound

theorem State.logged_sendEvents (s : State) : s.sendEvents.logged = s.logged := by
  refine foldl_keeps State.logged _ (fun s x => ?_) s.ports.eventFrames
    { s with ports := { s.ports with eventFrames := [] } }
  dsimp only
  split
  · rfl
  · have hbind := s.logged_bind (s.heTenant x.1) 4 (s.heTenant x.1)
    split
    next key u hu =>
      rw [hu] at hbind
      exact State.logged_ite ((State.logged_sendFrame _ _ _ _).trans hbind) hbind
    next u hu =>
      rw [hu] at hbind
      exact hbind

/-! ### Triggers (R510, R512, R517) -/

theorem State.logged_missTrigger (s : State) (i stamp : Nat) : (s.missTrigger i stamp).logged = s.logged := by
  unfold State.missTrigger State.raiseEvery
  exact State.logged_ite (State.logged_raise _ _ _ _ _) rfl

/-- A trigger that fires takes a snapshot of the trail, and leaves it. -/
theorem State.logged_fire (look : State → Nat → WordEntry) (regionWord : State → Nat → Nat) (s : State) (i : Nat) (t : TrigCfg)
    (e : TrailEntry) : (s.fire look regionWord i t e).logged = s.logged :=
  State.logged_ite rfl (State.logged_ite (State.logged_count (by simp)) (State.logged_missTrigger _ _ _))

theorem State.logged_trigger (look : State → Nat → WordEntry) (regionWord : State → Nat → Nat) (e : TrailEntry) (s : State) (i : Nat) :
    (s.trigger look regionWord e i).logged = s.logged :=
  State.logged_ite (State.logged_ite (State.logged_fire _ _ _ _ _ _) rfl) rfl

theorem State.logged_collect (s : State) (e : TrailEntry) : (s.collect e).logged = s.logged := rfl

/-! ### Admission (R505, R506) -/

/-- An entry appended to a trail of at most 16 384, the oldest overwritten and counted where it is full. -/
def Logged.append (l : Logged) (e : TrailEntry) : Logged :=
  if l.trail.length < 16384 then { l with trail := l.trail ++ [e] }
  else { l with trail := (l.trail ++ [e]).drop 1, overwrites := CtrName.trailOverwrites.cls.step l.overwrites 1 }

theorem State.logged_appendTrail (s : State) (e : TrailEntry) : (s.appendTrail e).logged = s.logged.append e := by
  have hlen : (s.ev.trail ++ [e]).length ≤ 16384 ↔ s.ev.trail.length < 16384 := by
    rw [List.length_append, List.length_singleton]
    exact Iff.rfl
  unfold State.appendTrail Logged.append
  by_cases hl : s.ev.trail.length < 16384
  · rw [if_pos (hlen.2 hl), if_pos (show s.logged.trail.length < 16384 from hl)]
    rfl
  · rw [if_neg (mt hlen.1 hl), if_neg (show ¬s.logged.trail.length < 16384 from hl)]
    exact congrArg (Logged.mk _ _ · _) (s.ctr_count { name := .trailOverwrites } 1)

/-- The trail entry that a raised event becomes when it is admitted. -/
def State.entryOf (s : State) (x : Raised) : TrailEntry := ⟨s.ev.nextSeq, x.ev, s.ev.lossPending, x.tenant, x.stamp, x.payload⟩

/-- The oldest raised event becomes the trail's newest entry; what follows in the admission leaves it so (R505). -/
theorem State.logged_takeEvent (look : State → Nat → WordEntry) (regionWord : State → Nat → Nat) (s : State) {x : Raised}
    {rest : List Raised} (h : s.ev.queue = x :: rest) :
    (s.takeEvent look regionWord).logged = ({ s.logged with nextSeq := (s.ev.nextSeq + 1) % 2 ^ 48 } : Logged).append (s.entryOf x) := by
  unfold State.takeEvent
  simp only [h]
  refine (foldl_keeps State.logged _ (fun s i => s.logged_trigger look regionWord _ i) _ _).trans ?_
  refine (State.logged_exportEvent _ _).trans ((State.logged_route _ _ _).trans ((State.logged_collect _ _).trans ?_))
  exact (State.logged_appendTrail _ _).trans (congrArg (Logged.append · _) (State.logged_count (by simp)))

/-- The oldest raised event is admitted: its entry enters the trail under the next sequence number, and what the admission does
later leaves both, and the records. -/
theorem State.logged_eventAdmitted {s : State} {x : Raised} {rest : List Raised} (h : s.ev.queue = x :: rest) :
    ∃ t, execEventAdmitted s = .next t ∧
      t.logged = ({ s.logged with nextSeq := (s.ev.nextSeq + 1) % 2 ^ 48 } : Logged).append (s.entryOf x) :=
  ⟨_, rfl, (State.logged_sendEvents _).trans (s.logged_takeEvent _ _ h)⟩

theorem Logged.append_room {l : Logged} (e : TrailEntry) (h : l.trail.length < 16384) : l.append e = { l with trail := l.trail ++ [e] } :=
  if_pos h

/-- A full trail loses its oldest entry, and the overwrite is counted. -/
theorem Logged.append_full {l : Logged} (e : TrailEntry) (h : l.trail.length = 16384) :
    l.append e = { l with trail := l.trail.drop 1 ++ [e], overwrites := CtrName.trailOverwrites.cls.step l.overwrites 1 } := by
  rw [← List.drop_append_of_le_length (by omega)]
  exact if_neg (by omega)

/-! ### A chip reset (R520) -/

theorem State.logged_voidTicket (s : State) (t : Nat) (c : VoidCause) : (s.voidTicket t c).logged = s.logged :=
  State.logged_raise _ _ _ _ _

theorem State.logged_closeSession (s : State) (n : Nat) (c : CloseCause) : (s.closeSession n c).logged = s.logged := by
  unfold State.closeSession
  cases s.session n with
  | none => rfl
  | some x => exact State.logged_raise _ _ _ _ _

theorem State.logged_lanesReset (s : State) : s.lanesReset.logged = s.logged := by
  have hcut : ∀ (p : Prop) [Decidable p] (n m : Nat),
      (if p then s else (s.count { name := .filtTrunc } n).count { name := .filtCapBytes } m).logged = s.logged := fun p _ n m =>
    State.logged_ite rfl ((State.logged_count (by simp)).trans (State.logged_count (by simp)))
  exact hcut _ _ _

theorem State.logged_endRoll (s : State) (o : Nat) : (s.endRoll o).logged = s.logged := by
  unfold State.endRoll
  split
  · rfl
  · extract_lets _ s1 s2 s3 s4
    have h2 : s2.logged = s.logged := State.logged_journal _ _ _ _ _ _
    have h4 : s4.logged = s.logged := (State.logged_raise _ _ _ _ _).trans (State.logged_ite ((State.logged_count (by simp)).trans h2) h2)
    clear_value s4
    exact State.logged_ite h4 (State.logged_ite h4 ((State.logged_raise _ _ _ _ _).trans h4))

theorem State.ev_pow_keepMeter (s : State) (n : Nat) (l : List Nat) : (s.keepMeter n l).ev = s.ev ∧ (s.keepMeter n l).pow = s.pow := by
  unfold State.keepMeter
  repeat' split
  exact ⟨rfl, rfl⟩

/-- An object taken over as it was written is none of the recorder's, nor of the power state's. -/
theorem State.ev_pow_keepObject (s : State) (k : Kept) (l : List Nat) : (s.keepObject k l).ev = s.ev ∧ (s.keepObject k l).pow = s.pow := by
  unfold State.keepObject
  split
  case h_1 => exact s.ev_pow_keepMeter _ _
  all_goals repeat' split
  all_goals exact ⟨rfl, rfl⟩

/-- Nor does a lost entry's change, undone, touch them. -/
theorem State.ev_pow_revertEntry (s : State) (e : JEntry) : ((s.revertEntry e).ev, (s.revertEntry e).pow) = (s.ev, s.pow) := by
  have hkept : ((s.revertKept e).ev, (s.revertKept e).pow) = (s.ev, s.pow) := by
    refine foldl_keeps (fun s => (s.ev, s.pow)) _ (fun s u => ?_) e.undo s
    dsimp only
    split
    · rfl
    · obtain ⟨hev, hpow⟩ := s.ev_pow_keepObject u.1 u.2
      rw [hev, hpow]
  unfold State.revertEntry
  dsimp only
  split
  · exact hkept
  · cases e.body <;> exact hkept

theorem State.ev_pow_dropEntries (s : State) (lost : JEntry → Bool) :
    ((s.dropEntries lost).ev, (s.dropEntries lost).pow) = (s.ev, s.pow) :=
  foldl_keeps (fun s => (s.ev, s.pow)) State.revertEntry State.ev_pow_revertEntry (s.store.journal.filter lost).reverse
    { s with store := { s.store with journal := s.store.journal.filter fun e => !lost e } }

theorem State.ev_pow_floodBack (s : State) (n : Nat) : ((s.floodBack n).ev, (s.floodBack n).pow) = (s.ev, s.pow) := by
  unfold State.floodBack
  dsimp only
  split
  · rfl
  · exact foldl_keeps (fun s => (s.ev, s.pow)) (fun s (e : Launch) => s.withdraw e.gid) (fun _ _ => rfl) _ s

/-- Work that is lost is none of the recorder's either. -/
theorem State.ev_pow_workLost (s : State) : (s.workLost.ev, s.workLost.pow) = (s.ev, s.pow) := by
  unfold State.workLost
  extract_lets s1
  have h1 : (s1.ev, s1.pow) = (s.ev, s.pow) :=
    foldl_keeps (fun s => (s.ev, s.pow)) _ (fun s (x : Stream) => s.ev_pow_floodBack x.number) _ s
  exact h1

theorem State.trail_recorderReset (s : State) (h : s.pow.vaonLost = false) : (s.recorderReset s.pow.vaonLost).ev.trail = s.ev.trail := by
  rw [h]
  rfl

/-- A chip reset that kept VAON keeps the trail. -/
theorem State.trail_chipReset (s : State) (kind : Nat) (cause : ResetCause) (h : s.pow.vaonLost = false) :
    (s.chipReset kind cause).ev.trail = s.ev.trail := by
  have hdropped : ∀ lost, ((s.workLost.dropEntries lost).ev, (s.workLost.dropEntries lost).pow) = (s.ev, s.pow) := fun lost =>
    (s.workLost.ev_pow_dropEntries lost).trans s.ev_pow_workLost
  have hrolled : ∀ (p : Prop) [Decidable p] (u v : State), u.logged = v.logged → v.ev.trail = s.ev.trail →
      (if p then u.endRoll 2 else u).ev.trail = s.ev.trail := fun p _ u v h hv =>
    (congrArg Logged.trail (State.logged_ite ((u.logged_endRoll 2).trans h) h)).trans hv
  unfold State.chipReset
  extract_lets +onlyGivenNames slots served s1 s2 s3 s4 s5
  obtain ⟨hev, hpow⟩ : s1.ev = s.ev ∧ s1.pow = s.pow := Prod.mk.inj (hdropped _)
  have h2 : s2.ev.trail = s.ev.trail := (s1.trail_recorderReset (by rw [hpow, h])).trans (by rw [hev])
  have h3 : s3.logged = s2.logged := foldl_keeps State.logged _ (fun s (t : Ticket) => s.logged_voidTicket t.ticket .reset) _ _
  have h4 : s4.logged = s3.logged := foldl_keeps State.logged _ (fun s n => s.logged_closeSession n .reset) _ _
  have h5 : s5.logged = s2.logged := s4.logged_lanesReset.trans (h4.trans h3)
  clear_value s5
  refine hrolled _ _ s2 ?_ h2
  exact h5

/-- A warm reset of a chip that kept VAON keeps the trail, whether it happens now or waits (R512, R643). -/
theorem trail_execWarmReset (s : State) (h : s.pow.vaonLost = false) : ∃ t, execWarmReset s = .next t ∧ t.ev.trail = s.ev.trail := by
  unfold execWarmReset
  cases s.pow.resetAfterSave with
  | none => exact ⟨s, rfl, rfl⟩
  | some c =>
    dsimp only
    split
    · exact ⟨s, rfl, rfl⟩
    · exact ⟨_, rfl, s.trail_chipReset 1 (resetCauseOf c) h⟩

/-! ### An event at the end of a row of the recorder -/

/-- An event raised once the recorder has changed, its queue apart, is the one entry the queue gains; the rest of the recorder stands as
it was set. -/
theorem State.raise_recorder {s : State} {x : Events} (e : Ev) (p : List Nat) (he : e.source < 144 ∨ 176 ≤ e.source)
    (hx : x.queue = s.ev.queue) (hr : Claims.Room s) :
    (∃ q, (({ s with ev := x } : State).raise e 0 p).ev = { x with queue := q }) ∧
      Claims.Raised e 0 p s (({ s with ev := x } : State).raise e 0 p) ∧
      Claims.Frame [.ev, .time, .ctrs] s (({ s with ev := x } : State).raise e 0 p) := by
  have hroom : Claims.Room { s with ev := x } := by rwa [Claims.Room, hx]
  have hraised := (State.raised_raise { s with ev := x } e 0 p false he hroom).1
  rw [Claims.Raised, hx] at hraised
  refine ⟨?_, hraised, ((Claims.Frame.ev s x).mono (by simp)).trans ((Claims.Frame.raise _ _ _ _ _).mono (by simp))⟩
  rw [State.raise_room _ e 0 p false he hroom]
  exact ⟨_, rfl⟩

end Machine

/-- Settles O17: what an admission does after its entry is appended leaves the trail, and a chip reset clears it only where VAON was
lost. -/
theorem trailIsARing : Obligations.TrailIsARing := by
  unfold Obligations.TrailIsARing
  refine ⟨?_, fun s _ _ _ _ hvaon => trail_execWarmReset s hvaon⟩
  intro s x rest hqueue hlen
  obtain ⟨t, hexec, ht⟩ := State.logged_eventAdmitted hqueue
  refine ⟨t, hexec, ?_⟩
  by_cases hfull : s.ev.trail.length = 16384
  · rw [Logged.append_full _ hfull] at ht
    obtain ⟨htrail, -, hctr, -⟩ := Logged.mk.inj ht
    rw [if_pos hfull]
    exact ⟨htrail, fun _ => hctr, absurd hfull⟩
  · rw [Logged.append_room _ (Nat.lt_of_le_of_ne hlen hfull)] at ht
    obtain ⟨htrail, -, hctr, -⟩ := Logged.mk.inj ht
    rw [if_neg hfull]
    exact ⟨htrail, fun h => absurd h hfull, fun _ => hctr⟩

/-- Settles O39: the admission by what it leaves in the recorder, the other rows each on the one slot or hold their clause names. -/
theorem recorderEventsComplete : Obligations.RecorderEventsComplete := by
  unfold Obligations.RecorderEventsComplete
  refine ⟨?_, ?_, ?_, ?_⟩
  · intro s x rest hqueue htrail _
    obtain ⟨t, hexec, ht⟩ := State.logged_eventAdmitted hqueue
    have hempty : s.logged.trail = [] := htrail
    rw [Logged.append_room _ (by simp [hempty])] at ht
    obtain ⟨hnew, hseq, -, hrec⟩ := Logged.mk.inj ht
    exact ⟨t, hexec, by rw [hnew, hempty]; rfl, hseq, hrec⟩
  · intro s id x hslots hid hcoll hend hroom
    subst hid
    have hexec : execSnapshotComplete x.id s =
        .next (({ s with ev := { s.ev with slots := [{ x with collecting := false }] } } : State).raise .barrowTriggered 0
          [x.trigger, x.id, x.occurrences]) := by
      simp [execSnapshotComplete, hslots, hcoll, hend]
    obtain ⟨⟨q, hev⟩, hraised, hframe⟩ := State.raise_recorder (x := { s.ev with slots := [{ x with collecting := false }] })
      .barrowTriggered [x.trigger, x.id, x.occurrences] (.inr (by decide)) rfl hroom
    exact ⟨_, hexec, congrArg Events.slots hev, hraised, hframe⟩
  · intro s id x hslots hid hcoll hhold harea
    subst hid
    show execSnapshotSpill x.id s = _
    simp [execSnapshotSpill, hslots, hcoll, hhold, harea]
  · intro s x hhold hend hroom
    have hexec : execBarrowHoldExpired s =
        .next (({ s with ev := { s.ev with hold := none } } : State).raise .barrowHoldExpired 0 [x.ch]) := by
      simp [execBarrowHoldExpired, hhold, hend]
    obtain ⟨⟨q, hev⟩, hraised, hframe⟩ := State.raise_recorder (x := { s.ev with hold := none }) .barrowHoldExpired [x.ch]
      (.inr (by decide)) rfl hroom
    exact ⟨_, hexec, congrArg Events.hold hev, hraised, hframe⟩

end Sys2Proof
end

section
/-! The records of the recorder (O20, O21): a field with one span of values, a record for a number that its schema does not have, and the
statements. -/

namespace Sys2Proof

open Machine

namespace Machine

/-- The bits of a record body's first 16-bit field are its first two bytes. -/
theorem bitsAt_ofLe_of_two (b : List Byte) (h : 2 ≤ b.length) : bitsAt (ofLe b) 0 16 = leAt b 0 2 := by
  match b, h with
  | x :: y :: l, _ =>
    have hx := x.isLt
    have hy := y.isLt
    show (x.toNat + 256 * (y.toNat + 256 * ofLe l)) / 2 ^ 0 % 2 ^ 16 = x.toNat + 256 * (y.toNat + 256 * 0)
    omega

/-- The nearest value of a range of one span. -/
theorem FieldSpec.nearest_span {f : FieldSpec} {lo hi : Int} (hf : f.spans = [(lo, hi)]) (h : lo ≤ hi) (v : Int) :
    f.nearest v = min hi (max lo v) := by
  have hin : f.inRange v = true ↔ lo ≤ v ∧ v ≤ hi := by simp [FieldSpec.inRange, hf]
  by_cases hv : lo ≤ v ∧ v ≤ hi
  · rw [FieldSpec.nearest, if_pos (hin.2 hv)]
    omega
  · rw [FieldSpec.nearest, if_neg (mt hin.1 hv)]
    simp only [hf, List.flatMap_cons, List.flatMap_nil, List.append_nil, List.foldl_cons, List.foldl_nil, List.getD_cons_zero]
    split <;> split <;> omega

/-- A field that takes the nearest value of one span of small numbers takes it. -/
theorem FieldSpec.judge_nearest_span {f : FieldSpec} {lo hi : Nat} (hf : f.spans = [(↑lo, ↑hi)]) (hc : f.clamp = .nearest)
    (hs : f.signed = false) (h : lo ≤ hi) (hw : hi < 2 ^ f.width) (v : Nat) (cur : Option Nat) :
    ∃ e, f.judge (some v) cur = .ok (min hi (max lo v), e) := by
  have hin : f.inRange v = true ↔ lo ≤ v ∧ v ≤ hi := by simp [FieldSpec.inRange, hf]
  have hvalue : f.value v = v := by simp [FieldSpec.value, hs]
  by_cases hv : lo ≤ v ∧ v ≤ hi
  · have hmid : min hi (max lo v) = v := by omega
    refine ⟨none, ?_⟩
    simp only [FieldSpec.judge, hc, hvalue, if_pos (hin.2 hv), hmid]
  · have hnear : ofSigned f.width (f.nearest v) = min hi (max lo v) := by
      have hcast : min (hi : Int) (max (lo : Int) v) = ((min hi (max lo v) : Nat) : Int) := by omega
      rw [FieldSpec.nearest_span hf (by omega), ofSigned, hcast, Int.toNat_emod (by omega) (by omega), Int.toNat_natCast,
        Int.toNat_natCast, Nat.mod_eq_of_lt (by omega)]
    refine ⟨some ⟨f.bit, 0, f.width, v, min hi (max lo v)⟩, ?_⟩
    simp only [FieldSpec.judge, hc, hvalue, if_neg (mt hin.1 hv), hnear]

/-- Reserved bits become 0 (R7). -/
theorem rsv_judge (bit width v : Nat) (cur : Option Nat) : ∃ e, (rsv bit width).judge (some v) cur = .ok (0, e) := ⟨_, rfl⟩

/-- A whole body of the recorder policy record is accepted with HoldMaxS at the nearest value of its range and the rest 0 (R523). -/
theorem State.judgeRecord_recorderPolicy (s : State) {body : List Byte} (h : body.length = 16) (hr : s.isReleasing 0 = false) :
    ∃ es, s.judgeRecord ruleRecorderPolicy Schema.RecorderPolicy 0 0 16 body = .accept (min 3600 (max 10 (leAt body 0 2))) es := by
  have hfields : ∀ cur, ∃ es, judgeFields 16 (ofLe body) cur Schema.RecorderPolicy.fields =
      .ok (min 3600 (max 10 (leAt body 0 2)), es) := by
    intro cur
    obtain ⟨e, hhold⟩ := FieldSpec.judge_nearest_span (f := ⟨0, 16, false, [(10, 3600)], .nearest, some 600⟩) (lo := 10) (hi := 3600)
      rfl rfl rfl (by decide) (by decide) (leAt body 0 2) (cur.map fun b => bitsAt b 0 16)
    obtain ⟨e', hrest⟩ := rsv_judge 16 112 (bitsAt (ofLe body) 16 112) (cur.map fun b => bitsAt b 16 112)
    rw [← bitsAt_ofLe_of_two body (by omega)] at hhold ⊢
    refine ⟨e.toList ++ (e'.toList ++ []), ?_⟩
    simp only [Schema.RecorderPolicy, judgeFields, rsv] at hrest ⊢
    simp [hhold, hrest]
  obtain ⟨es, hes⟩ := hfields ((s.recInst Schema.RecorderPolicy.id 0).map RecInst.body)
  refine ⟨es, ?_⟩
  unfold State.judgeRecord
  rw [hes]
  simp [h, hr, Schema.RecorderPolicy, ruleRecorderPolicy]

/-- A record for a number beyond those of its schema is refused (R72). -/
theorem State.applyRecord_absent (s : State) (rule : RecordRule) (c : Schema) (tenant inst : Nat) (b : List Byte) (h : c.instances ≤ inst) :
    s.applyRecord rule c tenant inst b = s := by
  have hverdict : ∃ st, s.judgeRecord rule c tenant inst b.length b = .refuse st none := by
    unfold State.judgeRecord
    simp only [h, if_true]
    split
    · exact ⟨_, rfl⟩
    · exact ⟨_, rfl⟩
  obtain ⟨st, hst⟩ := hverdict
  exact s.applyRecord_refuse rule c tenant inst b st none hst

end Machine

/-- Settles O20: the body's first two bytes are clamped, and its reserved bits forced to 0. -/
theorem recorderPolicyRecord : Obligations.RecorderPolicyRecord := by
  unfold Obligations.RecorderPolicyRecord
  refine ⟨?_, ?_, ?_, ?_⟩
  · intro s body hlen hrel
    obtain ⟨es, hes⟩ := s.judgeRecord_recorderPolicy hlen hrel
    have hinst : (s.applyRecord ruleRecorderPolicy Schema.RecorderPolicy 0 0 body).recInst 0x1202 0 =
        some ⟨0, min 3600 (max 10 (leAt body 0 2))⟩ := by
      rw [s.applyRecord_accept _ _ 0 0 body _ es rfl (by rw [hlen, hes])]
      exact (congrArg (Map.get? · (0x1202, 0)) (s.storeRecord_records 0x1202 0 0 _)).trans (Map.get?_put_self _ _ _)
    refine ⟨_, rfl, hinst, ?_⟩
    rw [State.rd, show State.recInst _ Rec.RecorderPolicy.HoldMaxS.rid 0 = _ from hinst]
    show bitsAt (min 3600 (max 10 (leAt body 0 2))) 0 16 = _
    rw [bitsAt, Nat.pow_zero, Nat.div_one]
    exact Nat.mod_eq_of_lt (by omega)
  · intro s h
    rw [State.rd, show s.recInst Rec.RecorderPolicy.HoldMaxS.rid 0 = none from h]
    rfl
  · exact fun s tenant inst body h => congrArg Host.Outcome.next (s.applyRecord_absent _ _ _ _ _ h)
  · intro s c tenant inst
    rfl

/-- Settles O21: the settings of these triggers come from no record, and the trigger record has no such number. -/
theorem builtInTriggers : Obligations.BuiltInTriggers := by
  unfold Obligations.BuiltInTriggers
  refine ⟨?_, fun _ => rfl, fun s i tenant body h => congrArg Host.Outcome.next (s.applyRecord_absent _ _ _ _ _ h)⟩
  intro s i hlo hhi
  obtain rfl | rfl | rfl | rfl | rfl : i = 32 ∨ i = 33 ∨ i = 34 ∨ i = 35 ∨ i = 36 := by omega
  all_goals exact ⟨rfl, rfl, rfl, rfl, rfl, rfl⟩

end Sys2Proof
end

section
/-! The lockout and safe-command events of chapter 24 (O45): an input's first reading, a discrepancy that lasts and the end of a safe command,
each said once, and the statement. -/

namespace Sys2Proof

open Machine

theorem Claims.Frame.safe (s : State) (x : Safety) : Claims.Frame [.safe] s { s with safe := x } := by
  intro p _ hl
  cases p <;> simp_all [Claims.Part.same]

theorem Claims.Frame.setLockout (s : State) (i : Nat) (x : Lockout) : Claims.Frame [.safe] s (s.setLockout i x) := Claims.Frame.safe s _

theorem Claims.Frame.setSafe (s : State) (slot : Nat) (x : SafeMeter) : Claims.Frame [.safe] s (s.setSafe slot x) := Claims.Frame.safe s _

namespace Machine

/-! ### Inputs and meters read back -/

@[simp] theorem State.lockout_setLockout (s : State) (i : Nat) (x : Lockout) : (s.setLockout i x).lockout i = x := Map.getD_put_self _ _ _ _

@[simp] theorem State.lockout_count (s : State) (c : Ctr) (n i : Nat) : (s.count c n).lockout i = s.lockout i := rfl

@[simp] theorem State.lockout_raise (s : State) (e : Ev) (t : Nat) (p : List Nat) (o : Bool) (i : Nat) :
    (s.raise e t p o).lockout i = s.lockout i := by
  simp [State.lockout]

@[simp] theorem State.safeMeter_count (s : State) (c : Ctr) (n slot : Nat) : (s.count c n).safeMeter slot = s.safeMeter slot := rfl

@[simp] theorem State.safeMeter_raise (s : State) (e : Ev) (t : Nat) (p : List Nat) (o : Bool) (slot : Nat) :
    (s.raise e t p o).safeMeter slot = s.safeMeter slot := by
  simp [State.safeMeter]

@[simp] theorem State.safeMeter_carry (s : State) (k : Kept) (slot : Nat) : (s.carry k).safeMeter slot = s.safeMeter slot := by
  simp [State.safeMeter]

/-! ### Samples (R597, R600) -/

/-- A sample at the accepted level leaves that level and ends the run of others. -/
theorem acceptLevel_same (level : Bool) (run : Nat) : acceptLevel level run level = (level, 0) := if_pos rfl

/-- The second sample after boot is the first reading: the accepted levels give the state, and the release timer starts (R600). -/
theorem State.sampleLock_firstReading {s : State} {i : Nat} {a b la lb : Bool} {ra rb : Nat} (hseen : (s.lockout i).seen = false)
    (hsamples : (s.lockout i).samples = 1) (ha : acceptLevel (s.lockout i).levelA (s.lockout i).runA a = (la, ra))
    (hb : acceptLevel (s.lockout i).levelB (s.lockout i).runB b = (lb, rb)) :
    ∃ x, s.sampleLock i a b = s.setLockout i x ∧
      x.st = (if la ∧ lb then .released else if la ∨ lb then .discrepant else .engaged) ∧ x.seen = true ∧ x.samples = 2 ∧
      x.holdEndMs = some (s.time.ms + 1000 * s.rd Rec.LockoutInput.ReleaseHoldS i) := by
  have hread : s.sampleLock i a b = s.setLockout i { s.lockout i with
      levelA := la, runA := ra, levelB := lb, runB := rb,
      lowSinceMs := if la ∨ lb then none else some ((s.lockout i).lowSinceMs.getD s.time.ms),
      samples := 2, seen := true, st := if la ∧ lb then .released else if la ∨ lb then .discrepant else .engaged,
      sinceMs := s.time.ms, leftMs := s.time.ms,
      holdEndMs := some (s.time.ms + 1000 * s.rd Rec.LockoutInput.ReleaseHoldS i) } := by
    simp [State.sampleLock, ha, hb, hseen, hsamples]
  exact ⟨_, hread, rfl, rfl, rfl, rfl⟩

/-! ### A discrepancy that lasts (R598, R599) -/

/-- DISCREPANT for DiscrepancyMs, with a channel still high, leads to FAULT (Table 24-1). -/
theorem lockNext_overdue {x : Lockout} {ms disc : Nat} (hst : x.st = .discrepant) (hhigh : x.levelA = true ∨ x.levelB = true)
    (hdue : x.sinceMs + disc ≤ ms) : lockNext x ms disc = .fault := by
  have hnotLow : ¬(¬x.levelA = true ∧ ¬x.levelB = true) := by tauto
  simp only [lockNext, hst, if_neg hnotLow, if_pos hdue]

/-- Entering FAULT from DISCREPANT is counted and raises its event, and nothing else (R599). -/
theorem State.lockMoved_discrepant_fault (s : State) (i levels engagedMs : Nat) :
    s.lockMoved i .discrepant .fault levels engagedMs =
      (s.count { name := .safeFault, a := i }).raise .safeLockoutFault 0 [i, levels] := rfl

/-- An input that is due in DISCREPANT becomes a FAULT now, and says so. -/
theorem State.advanceLock_overdue {s : State} {i : Nat} (hst : (s.lockout i).st = .discrepant)
    (hhigh : (s.lockout i).levelA = true ∨ (s.lockout i).levelB = true)
    (hdue : (s.lockout i).sinceMs + s.rd Rec.LockoutInput.DiscrepancyMs i ≤ s.time.ms) :
    s.advanceLock i = ((s.setLockout i { s.lockout i with st := .fault, sinceMs := s.time.ms }).count { name := .safeFault, a := i }).raise
      .safeLockoutFault 0 [i, (s.lockout i).levels] := by
  simp [State.advanceLock, lockNext_overdue hst hhigh hdue, hst, State.lockMoved_discrepant_fault]

/-! ### The end of a safe command (R609) -/

/-- An outstanding command that ends is counted by its kind and outcome, and the OPEN that waited, if any, takes its place (R603). -/
theorem State.endSafe_outstanding {s : State} {slot : Nat} {c : SafeCmd} (h : (s.safeMeter slot).out = some c) (outcome : SafeEnd) :
    s.endSafe slot outcome = (s.setSafe slot { s.safeMeter slot with out := (s.safeMeter slot).waiting, waiting := none }).count
      { name := .safeOutcome, a := c.kind, b := outcome } := by
  simp only [State.endSafe, h]

end Machine

/-- Settles O45, clause by clause. -/
theorem safetyEventsComplete : Obligations.SafetyEventsComplete := by
  unfold Obligations.SafetyEventsComplete
  refine ⟨?sample, ?discrepancy, ?holdEnd, ?deadline⟩
  case sample =>
    intro s levels i honly hseen hsamples hA hB _ _ hbitA hbitB
    have hexec : execLockoutSample levels s = .next (s.sampleLock i true false) := by
      simp [execLockoutSample, honly, hbitA, hbitB]
    obtain ⟨x, hx, hst, hxseen, hxsamples, hhold⟩ := State.sampleLock_firstReading (a := true) (b := false) hseen hsamples
      (by rw [hA, acceptLevel_same]) (by rw [hB, acceptLevel_same])
    rw [hx] at hexec
    refine ⟨_, hexec, ?_⟩
    rw [State.lockout_setLockout]
    exact ⟨hst, hxseen, hxsamples, hhold, Claims.Frame.setLockout s i x⟩
  case discrepancy =>
    intro s input hon hseen hst hA _ hdue hroom
    let v : State := s.setLockout input { s.lockout input with st := .fault, sinceMs := s.time.ms }
    let u : State := v.count { name := .safeFault, a := input }
    have hexec : execLockoutDiscrepancyTimeout input s =
        .next (u.raise .safeLockoutFault 0 [input, (s.lockout input).levels]) := by
      simp [execLockoutDiscrepancyTimeout, hon, hseen, hst, State.advanceLock_overdue hst (.inl hA) hdue, u, v]
    have hframe : Claims.Frame [.safe, .ev, .time, .ctrs] s u :=
      ((Claims.Frame.setLockout s _ _).mono (by simp)).trans ((Claims.Frame.count v _ _).mono (by simp))
    obtain ⟨hraised, hctrs, hframe'⟩ := State.raise_after_for .safeLockoutFault 0 [input, (s.lockout input).levels] false (s := s) (u := u)
      (.inr (by decide)) rfl hroom hframe (by simp)
    exact ⟨_, hexec, by simp [u, v], (State.ctr_congr hctrs).trans (v.ctr_count _ 1), hraised, hframe'⟩
  case holdEnd =>
    intro s input n hhold hend
    show execReleaseHoldEnd input s = _
    simp only [execReleaseHoldEnd, hhold, if_pos hend]
  case deadline =>
    intro s slot x hout hlate hroom
    let v : State := s.setSafe slot { s.safeMeter slot with out := (s.safeMeter slot).waiting, waiting := none }
    let u : State := v.count { name := .safeOutcome, a := x.kind, b := 2 }
    let w : State := u.raise .safeCommandExpired (s.meterTenant slot) [slot, x.kind, x.seq, x.sends]
    have hexec : execSafeDeadline slot s = .next (w.carry (.meter slot)) := by
      simp only [execSafeDeadline, hout, if_pos hlate, State.endSafe_outstanding hout, w, u, v]
    have hframe : Claims.Frame [.safe, .ev, .time, .ctrs, .store, .ports] s u :=
      ((Claims.Frame.setSafe s _ _).mono (by simp)).trans ((Claims.Frame.count v _ _).mono (by simp))
    obtain ⟨hraised, hctrs, hframe'⟩ := State.raise_after_for .safeCommandExpired (s.meterTenant slot) [slot, x.kind, x.seq, x.sends] false
      (s := s) (u := u) (.inr (by decide)) rfl hroom hframe (by simp)
    have hcount : Claims.Counted { name := .safeOutcome, a := x.kind, b := 2 } 1 s w := (State.ctr_congr hctrs).trans (v.ctr_count _ 1)
    refine ⟨_, hexec, by simp [w, u, v], by simp [w, u, v], ?_, (State.ctr_carry (by simp [CtrName.ofEntry]) w _).trans hcount,
      hframe'.trans ((Claims.Frame.carry w _).mono (by simp))⟩
    rw [Claims.Raised, show (w.carry (.meter slot)).ev = w.ev by simp]
    exact hraised

end Sys2Proof
end

section
/-! What no operation of the block touches: the queue, what part the chip is, the host window's buffers, the channels' requests and the tenants' states. One lemma per
operation says that it leaves these standing parts of the state as they were, in the order of the model's files. -/

namespace Sys2Proof

open Machine

namespace Machine

/-- What almost every operation of the block leaves as it was: the queue of commands, what part the chip is, the host window's buffers, the
channels' requests and the tenants' states. -/
structure Standing where
  pending : List Instr
  variant : Variant
  letter : Nat
  digit : Nat
  debugClosed : Bool
  serial : Nat
  buffers : List Host.Cell
  requests : Nat → Option Request
  tenants : Map Nat TenantSt

/-- The requests that the channels hold. -/
def requestsOf (m : Map Nat Channel) (n : Nat) : Option Request := (Map.getD m n { respVec := n, notifyVec := n }).request

theorem requestsOf_put (m : Map Nat Channel) (n : Nat) (c : Channel) (h : c.request = requestsOf m n) : requestsOf (Map.put m n c) = requestsOf m := by
  funext j
  rw [requestsOf, Map.getD_put]
  split
  next hj => rw [h, hj]
  · rfl

/-- The standing parts but for the channels' requests. -/
def Standing.unasked (x : Standing) : Standing := { x with requests := fun _ => none }

/-- The standing parts of a state. -/
def State.standing (s : State) : Standing :=
  ⟨s.pending, s.arch.variant, s.arch.siliconLetter, s.arch.siliconDigit, s.arch.debugClosed, s.mail.serial, s.mail.buffers, requestsOf s.mail.chans, s.ten.st⟩

@[simp] theorem State.standing_mk (p fc ct r a m t e te pa u sf po pw st v l f rx le mk sc ld ta pr ai fl li me ba) :
    State.standing ⟨p, fc, ct, r, a, m, t, e, te, pa, u, sf, po, pw, st, v, l, f, rx, le, mk, sc, ld, ta, pr, ai, fl, li, me, ba⟩ =
      ⟨p, a.variant, a.siliconLetter, a.siliconDigit, a.debugClosed, m.serial, m.buffers, requestsOf m.chans, te.st⟩ := (rfl)

@[simp] theorem State.standing_eta (s : State) : Standing.mk s.pending s.arch.variant s.arch.siliconLetter s.arch.siliconDigit s.arch.debugClosed
    s.mail.serial s.mail.buffers (requestsOf s.mail.chans) s.ten.st = s.standing := (rfl)

@[simp] theorem State.standing_ite (c : Prop) [Decidable c] (s t : State) :
    (if c then s else t).standing = if c then s.standing else t.standing := apply_ite _ _ _ _

@[simp] theorem State.standing_foldl {α : Type} {g : State → α → State} (h : ∀ s a, (g s a).standing = s.standing) (l : List α) (s : State) :
    (l.foldl g s).standing = s.standing := foldl_keeps State.standing g h l s

@[simp] theorem Standing.unasked_ite (c : Prop) [Decidable c] (a b : Standing) :
    (if c then a else b).unasked = if c then a.unasked else b.unasked := apply_ite _ _ _ _

@[simp] theorem State.unasked_foldl {α : Type} {g : State → α → State} (h : ∀ s a, (g s a).standing.unasked = s.standing.unasked) (l : List α)
    (s : State) : (l.foldl g s).standing.unasked = s.standing.unasked := foldl_keeps (fun s : State => s.standing.unasked) g h l s

theorem ok_of_guard {ε α : Type} {c : Prop} [Decidable c] {e : ε} {x : Except ε α} {u : α}
    (h : (if c then .error e else x) = .ok u) : x = .ok u := by
  split at h
  · cases h
  · exact h

theorem standing_of_heads (o : Option Nat) (l : List (Nat × Int)) (f : Nat → Nat → State) (d : State) (u : Standing)
    (hf : ∀ b h, (f b h).standing = u) (hd : d.standing = u) :
    (match o, l with
      | some b, (h, _) :: _ => f b h
      | _, _ => d).standing = u := by
  split
  · exact hf _ _
  · exact hd

theorem standing_of_option (o : Option Nat) (f : Nat → Applying) (d : Applying) (u : Standing)
    (hd : d.s.standing = u) (hf : ∀ x, (f x).s.standing = u) :
    (match o with
      | none => d
      | some x => f x).s.standing = u := by
  split
  · exact hd
  · exact hf _

/-! ### Machine/Kept.lean -/

@[simp] theorem State.keepMeter_standing (s : State) (n : Nat) (l : List Nat) :
    (s.keepMeter n l).standing = s.standing := by
  simp [State.keepMeter]

@[simp] theorem State.keepObject_standing (s : State) (k : Kept) (l : List Nat) :
    (s.keepObject k l).standing = s.standing := by
  unfold State.keepObject
  split <;> simp

/-! ### Machine/Ops.lean -/

@[simp] theorem State.issued_standing (s : State) (st : Nat) :
    (s.issued st).standing = s.standing := by
  simp [State.issued]

@[simp] theorem State.draw_standing (s : State) (width : Nat) :
    (s.draw width).2.standing = s.standing := by
  simp [State.draw]

@[simp] theorem State.drawBytes_standing (s : State) (n : Nat) :
    (s.drawBytes n).2.standing = s.standing := by
  simp [State.drawBytes]

@[simp] theorem State.count_standing (s : State) (c : Ctr) (n : Nat) :
    (s.count c n).standing = s.standing := by
  simp [State.count]

@[simp] theorem State.raise_standing (s : State) (e : Ev) (tenant : Nat) (payload : List Nat) (officer : Bool) :
    (s.raise e tenant payload officer).standing = s.standing :=
  State.raise_blind (fun _ _ => rfl) (fun _ _ => rfl) (fun _ _ => rfl) s e _ _ _

@[simp] theorem State.setPartnerPort_standing (s : State) (p : Nat) (x : PartnerPort) :
    (s.setPartnerPort p x).standing = s.standing := by
  simp [State.setPartnerPort]

@[simp] theorem State.sendPartner_standing (s : State) (p type : Nat) (words : List Nat) (data : List Byte) :
    (s.sendPartner p type words data).standing = s.standing := by
  simp [State.sendPartner]

@[simp] theorem State.startCheckpoint_standing (s : State) :
    s.startCheckpoint.standing = s.standing := by
  unfold State.startCheckpoint
  split <;> simp

@[simp] theorem State.watchReplay_standing (s : State) :
    s.watchReplay.standing = s.standing := by
  simp [State.watchReplay]

@[simp] theorem State.streamEntry_standing (s : State) (e : JEntry) :
    (s.streamEntry e).standing = s.standing := by
  simp [State.streamEntry]

@[simp] theorem State.addEntry_standing (s : State) (e : JEntry) :
    (s.addEntry e).standing = s.standing := by
  simp [State.addEntry]

@[simp] theorem State.watchRoom_standing (s : State) :
    s.watchRoom.standing = s.standing := by
  simp [State.watchRoom]

@[simp] theorem State.passEntry_standing (s : State) (e : JEntry) :
    (s.passEntry e).standing = s.standing := by
  simp [State.passEntry]

@[simp] theorem State.journal_standing (s : State) (kind : JKind) (tenant object : Nat) (body : JBody) (objSeq : Nat) :
    (s.journal kind tenant object body objSeq).standing = s.standing := by
  simp [State.journal]

@[simp] theorem State.streamKept_standing (s : State) (position : Nat) (k : Kept) :
    (s.streamKept position k).standing = s.standing := by
  simp [State.streamKept]

@[simp] theorem State.nameKept_standing (s : State) (k : Kept) :
    (s.nameKept k).standing = s.standing := by
  simp [State.nameKept]

@[simp] theorem State.carry_standing (s : State) (k : Kept) :
    (s.carry k).standing = s.standing := by
  simp [State.carry]

@[simp] theorem State.carryAll_standing (s : State) (l : List Kept) :
    (s.carryAll l).standing = s.standing := by
  simp [State.carryAll]

@[simp] theorem State.setUnit_standing (s : State) (u : UnitId) (x : EnUnit) :
    (s.setUnit u x).standing = s.standing := by
  simp [State.setUnit]

@[simp] theorem State.setUnit_arch_standing (s : State) (u : UnitId) (x : EnUnit) :
    (s.setUnit u x).arch.variant = s.arch.variant ∧ (s.setUnit u x).arch.siliconLetter = s.arch.siliconLetter ∧
    (s.setUnit u x).arch.siliconDigit = s.arch.siliconDigit ∧ (s.setUnit u x).arch.debugClosed = s.arch.debugClosed := by
  simp [State.setUnit]

@[simp] theorem State.setChan_standing (s : State) (n : Nat) (c : Channel) (h : c.request = (s.chan n).request) :
    (s.setChan n c).standing = s.standing := by
  simp [State.setChan, requestsOf_put _ n c h]

@[simp] theorem State.setChan_mail_standing (s : State) (n : Nat) (c : Channel) :
    (s.setChan n c).mail.serial = s.mail.serial ∧ (s.setChan n c).mail.buffers = s.mail.buffers :=
  ⟨rfl, rfl⟩

@[simp] theorem State.modChan_standing (s : State) (n : Nat) (f : Channel → Channel) (h : ∀ c, (f c).request = c.request) :
    (s.modChan n f).standing = s.standing := by
  simp [State.modChan, h]

/-- Whatever becomes of a channel, the other standing parts are as they were. -/
@[simp] theorem State.modChan_unasked (s : State) (n : Nat) (f : Channel → Channel) :
    (s.modChan n f).standing.unasked = s.standing.unasked := rfl

/-- The requests of the channels are as they were where the changed channel keeps its own. -/
@[simp] theorem State.modChan_requests (s : State) (n : Nat) (f : Channel → Channel) (h : ∀ c, (f c).request = c.request) :
    requestsOf (s.modChan n f).mail.chans = requestsOf s.mail.chans :=
  congrArg Standing.requests (s.modChan_standing n f h)

@[simp] theorem State.modChan_mail_standing (s : State) (n : Nat) (f : Channel → Channel) :
    (s.modChan n f).mail.serial = s.mail.serial ∧ (s.modChan n f).mail.buffers = s.mail.buffers :=
  ⟨rfl, rfl⟩

@[simp] theorem State.closeSession_standing (s : State) (n : Nat) (cause : CloseCause) :
    (s.closeSession n cause).standing = s.standing := by
  unfold State.closeSession
  split
  · rfl
  · simp

@[simp] theorem State.signal_standing (s : State) (vec : Nat) :
    (s.signal vec).standing = s.standing := by
  simp [State.signal]

@[simp] theorem gated_standing (s : State) (l : List (Bool × Status)) {run : State → Reply × State} (h : (run s).2.standing = s.standing) :
    (gated s l run).2.standing = s.standing := by
  unfold gated
  split
  · rfl
  · exact h

@[simp] theorem State.respond_unasked (s : State) (n : Nat) (r : Request) (y : Reply) :
    (s.respond n r y).standing.unasked = s.standing.unasked := by
  simp [State.respond]

@[simp] theorem State.respond_mail_standing (s : State) (n : Nat) (r : Request) (y : Reply) :
    (s.respond n r y).mail.serial = s.mail.serial ∧ (s.respond n r y).mail.buffers = s.mail.buffers :=
  ⟨rfl, rfl⟩

@[simp] theorem State.chipGate_standing (s : State) (k : Cmd) {o : Reply × State} (h : o.2.standing = s.standing) :
    (s.chipGate k o).2.standing = s.standing := by
  unfold State.chipGate
  split
  · rfl
  · split
    · rfl
    · exact h

theorem State.command_unasked (s : State) (n : Nat) (k : Cmd) {run : Caller → State → Reply × State}
    (h : ∀ c, (run c s).2.standing = s.standing) : (s.command n k run).standing.unasked = s.standing.unasked := by
  unfold State.command
  split
  · rfl
  · split <;> simp [h]

theorem State.commandLater_unasked (s : State) (n : Nat) (k : Cmd) {run : Caller → State → Option Reply × State}
    (h : ∀ c, (run c s).2.standing = s.standing) : (s.commandLater n k run).standing.unasked = s.standing.unasked := by
  unfold State.commandLater
  split
  · rfl
  next r _ =>
    split
    · simp
    next c _ =>
      have hc := h c
      split
      next y t hr =>
        rw [hr] at hc
        simp [hc]
      next t hr =>
        rw [hr] at hc
        split
        · simp
        · rw [hc]

@[simp] theorem State.finish_unasked (s : State) (n : Nat) (cmd : Cmd) (y : Reply) :
    (s.finish n cmd y).standing.unasked = s.standing.unasked := by
  unfold State.finish
  split <;> simp

theorem State.readCommand_unasked (s : State) (n : Nat) (k : Cmd) (read : Caller → State → Reply) :
    (s.readCommand n k read).standing.unasked = s.standing.unasked :=
  State.command_unasked s n k fun _ => rfl

theorem State.commitLater_unasked (s : State) (n : Nat) (k : Cmd) {run : Caller → State → Option Reply × State}
    (h : ∀ c, (run c s).2.standing = s.standing) : (s.commitLater n k run).standing.unasked = s.standing.unasked := by
  unfold State.commitLater
  split
  · split <;> simp
  · refine State.commandLater_unasked s n k fun c => ?_
    have hc := h c
    split
    next t hr => rwa [hr] at hc
    next y t hr =>
      rw [hr] at hc
      dsimp only
      split <;> simp [hc]

theorem State.commitCommand_unasked (s : State) (n : Nat) (k : Cmd) {run : Caller → State → Reply × State}
    (h : ∀ c, (run c s).2.standing = s.standing) : (s.commitCommand n k run).standing.unasked = s.standing.unasked :=
  State.commitLater_unasked s n k h

@[simp] theorem State.raiseEvery_standing (s : State) (period : Nat) (e : Ev) (key tenant : Nat) (payload : List Nat) :
    (s.raiseEvery period e key tenant payload).standing = s.standing := by
  simp [State.raiseEvery]

@[simp] theorem State.raiseOnce_standing (s : State) (e : Ev) (key tenant : Nat) (payload : List Nat) :
    (s.raiseOnce e key tenant payload).standing = s.standing := by
  simp [State.raiseOnce]

/-! ### Machine/Arbiter.lean -/

@[simp] theorem State.charge_standing (s : State) (r : Resource) (t n : Nat) :
    (s.charge r t n).standing = s.standing := by
  simp [State.charge]

@[simp] theorem State.chargePool_standing (s : State) (r : Resource) (n : Nat) :
    (s.chargePool r n).standing = s.standing := by
  simp [State.chargePool]

@[simp] theorem State.nextRound_standing (s : State) :
    s.nextRound.standing = s.standing := by
  simp [State.nextRound]

/-! ### Machine/Units.lean -/

@[simp] theorem State.setCell_standing (s : State) (a : Nat) (x : CellHealth) :
    (s.setCell a x).standing = s.standing := by
  simp [State.setCell]

@[simp] theorem State.setCell_arch_standing (s : State) (a : Nat) (x : CellHealth) :
    (s.setCell a x).arch.variant = s.arch.variant ∧ (s.setCell a x).arch.siliconLetter = s.arch.siliconLetter ∧
    (s.setCell a x).arch.siliconDigit = s.arch.siliconDigit ∧ (s.setCell a x).arch.debugClosed = s.arch.debugClosed := by
  simp [State.setCell]

@[simp] theorem State.reissue_standing (s : State) (a item : Nat) :
    (s.reissue a item).standing = s.standing := by
  unfold State.reissue
  split <;> simp

@[simp] theorem State.settleWork_standing (s : State) :
    s.settleWork.standing = s.standing := by
  simp [State.settleWork]

@[simp] theorem State.reassign_standing (s : State) (a : Nat) :
    (s.reassign a).standing = s.standing := by
  simp [State.reassign]

@[simp] theorem State.workOut_standing (s : State) (r : Nat) :
    (s.workOut r).standing = s.standing := by
  simp [State.workOut]

/-! ### Machine/Messages.lean -/

@[simp] theorem State.setHeadEnd_standing (s : State) (i : Nat) (x : HeadEndSession) :
    (s.setHeadEnd i x).standing = s.standing := by
  simp [State.setHeadEnd]

@[simp] theorem State.sendFrame_standing (s : State) (i type : Nat) (body : List Byte) :
    (s.sendFrame i type body).standing = s.standing := by
  simp [State.sendFrame]

@[simp] theorem State.tunnelSend_standing (s : State) (n : Nat) (m : List Byte) :
    (s.tunnelSend n m).standing = s.standing := by
  unfold State.tunnelSend
  split <;> simp

@[simp] theorem State.signalNote_standing (s : State) (n : Nat) :
    (s.signalNote n).standing = s.standing := by
  simp [State.signalNote]

/-! ### Machine/Events.lean -/

@[simp] theorem State.appendTrail_standing (s : State) (e : TrailEntry) :
    (s.appendTrail e).standing = s.standing := by
  simp [State.appendTrail]

@[simp] theorem State.exportEvent_standing (s : State) (e : TrailEntry) :
    (s.exportEvent e).standing = s.standing := by
  simp [State.exportEvent]

@[simp] theorem State.setTrig_standing (s : State) (i : Nat) (t : TrigSt) :
    (s.setTrig i t).standing = s.standing := by
  simp [State.setTrig]

@[simp] theorem State.missTrigger_standing (s : State) (i : Nat) (stamp : Nat) :
    (s.missTrigger i stamp).standing = s.standing := by
  simp [State.missTrigger]

@[simp] theorem State.fire_standing (look : State → Nat → WordEntry) (regionWord : State → Nat → Nat) (s : State) (i : Nat) (t : TrigCfg) (e : TrailEntry) :
    (State.fire look regionWord s i t e).standing = s.standing := by
  simp [State.fire]

@[simp] theorem State.trigger_standing (look : State → Nat → WordEntry) (regionWord : State → Nat → Nat) (e : TrailEntry) (s : State) (i : Nat) :
    (State.trigger look regionWord e s i).standing = s.standing := by
  simp [State.trigger]

@[simp] theorem State.collect_standing (s : State) (e : TrailEntry) :
    (s.collect e).standing = s.standing := by
  simp [State.collect]

@[simp] theorem runBarrowHold_standing (c : Caller) (s : State) :
    (runBarrowHold c s).2.standing = s.standing := by
  unfold runBarrowHold
  refine gated_standing _ _ ?_
  dsimp only
  repeat' split
  all_goals simp

@[simp] theorem runBarrowRelease_standing (c : Caller) (s : State) :
    (runBarrowRelease c s).2.standing = s.standing := by
  simp [runBarrowRelease]

@[simp] theorem runBarrowTriggerNow_standing (look : State → Nat → WordEntry) (regionWord : State → Nat → Nat) (i : Nat) (c : Caller) (s : State) :
    (runBarrowTriggerNow look regionWord i c s).2.standing = s.standing := by
  unfold runBarrowTriggerNow
  refine gated_standing _ _ ?_
  dsimp only
  repeat' split
  all_goals simp

@[simp] theorem State.clearBarrow_standing (s : State) (initiator approver : Nat) :
    (s.clearBarrow initiator approver).2.standing = s.standing := by
  simp [State.clearBarrow]

@[simp] theorem State.restartTrigger_standing (s : State) (i : Nat) :
    (s.restartTrigger i).standing = s.standing := by
  simp [State.restartTrigger]

@[simp] theorem State.recorderReset_standing (s : State) (powerLost : Bool) :
    (s.recorderReset powerLost).standing = s.standing := by
  simp [State.recorderReset]

/-! ### Machine/Banks.lean -/

@[simp] theorem State.programCounter_standing (s : State) (d : Nat) :
    (s.programCounter d).standing = s.standing := by
  simp [State.programCounter]

@[simp] theorem State.commitCopy_standing (s : State) (d slot : Nat) (c : VaultCopy) :
    (s.commitCopy d slot c).standing = s.standing := by
  simp [State.commitCopy]

/-! ### Machine/Mailbox.lean -/

@[simp] theorem State.ignoreWrite_standing (s : State) (n : Nat) :
    (s.ignoreWrite n).standing = s.standing := by
  simp [State.ignoreWrite]

@[simp] theorem State.msixWrite_standing (s : State) (off v : Nat) :
    (s.msixWrite off v).standing = s.standing := by
  simp [State.msixWrite]

@[simp] theorem State.authFailure_standing (s : State) (n role tenant slot : Nat) :
    (s.authFailure n role tenant slot).standing = s.standing := by
  simp [State.authFailure]

@[simp] theorem State.armIdle_standing (s : State) (n : Nat) :
    (s.armIdle n).standing = s.standing := by
  simp [State.armIdle]

@[simp] theorem State.answer_unasked (s : State) (n code seq corr sess : Nat) (tagged : Bool) (st : Status) :
    (s.answer n code seq corr sess tagged st).standing.unasked = s.standing.unasked := by
  simp [State.answer]

@[simp] theorem State.receive_unasked (s : State) (n : Nat) (raw : List Byte) (tunnel : Bool) :
    (s.receive n raw tunnel).standing.unasked = s.standing.unasked := by
  unfold State.receive
  extract_lets _ untagged more code frag len sess seq corr hdr body trailer s₁ asm drop fail s₂ bad x s₃ s₄ s₅ whole s₆ order mail
  have hfail : ∀ t b st, (fail t b st).standing.unasked = t.standing.unasked := fun t b st => by simp [fail]
  have hdrop : ∀ t, (drop t).standing = t.standing := fun t => by simp [drop]
  have h₁ : s₁.standing = s.standing := by simp [s₁]
  have h₃ : s₃.standing = s.standing := by simp [s₃, s₂, h₁]
  have h₄ : s₄.standing = s.standing := by simp [s₄, h₁]
  have h₅ : s₅.standing = s.standing := by simp [s₅, h₄]
  have h₆ : s₆.standing = s.standing := by simp [s₆, hdrop, h₅]
  clear_value fail drop s₁ s₃ s₄ s₅ s₆
  repeat' split
  all_goals simp [s₂, mail, *]

@[simp] theorem runSessionHello_standing (role tenant slot : Nat) (c : Caller) (s : State) :
    (runSessionHello role tenant slot c s).2.standing = s.standing := by
  simp [runSessionHello]

@[simp] theorem runSessionProve_standing (id : Nat) (nh ph : List Byte) (c : Caller) (s : State) :
    (runSessionProve id nh ph c s).2.standing = s.standing := by
  unfold runSessionProve
  refine gated_standing _ _ ?_
  dsimp only
  repeat' split
  all_goals simp

@[simp] theorem State.keepKey_standing (s : State) (n : Nat) (k : List Byte) :
    (s.keepKey n k).standing = s.standing := by
  simp [State.keepKey]

@[simp] theorem runSessionClose_standing (c : Caller) (s : State) :
    (runSessionClose c s).2.standing = s.standing := by
  simp [runSessionClose]

@[simp] theorem State.rebind_standing (s : State) (old new : Nat) :
    (s.rebind old new).standing = s.standing := by
  simp [State.rebind]

@[simp] theorem State.dropTicket_standing (s : State) (t : Nat) :
    (s.dropTicket t).standing = s.standing := by
  simp [State.dropTicket]

@[simp] theorem State.dropTicket_mail_standing (s : State) (t : Nat) :
    (s.dropTicket t).mail.serial = s.mail.serial ∧ (s.dropTicket t).mail.buffers = s.mail.buffers :=
  ⟨congrArg Standing.serial (s.dropTicket_standing t), congrArg Standing.buffers (s.dropTicket_standing t)⟩

@[simp] theorem State.voidTicket_standing (s : State) (t : Nat) (cause : VoidCause) :
    (s.voidTicket t cause).standing = s.standing := by
  simp [State.voidTicket]

@[simp] theorem State.firstApproval_standing (s : State) (c : Caller) (cmd : Cmd) (args : List Nat) (target : Nat) :
    (s.firstApproval c cmd args target).2.standing = s.standing := by
  unfold State.firstApproval
  split <;> simp

@[simp] theorem runApprovalCancel_standing (ticket : Nat) (c : Caller) (s : State) :
    (runApprovalCancel ticket c s).2.standing = s.standing := by
  unfold runApprovalCancel
  split <;> simp

@[simp] theorem State.closeCred_standing (s : State) (role tenant slot : Nat) (me : Nat) :
    (s.closeCred role tenant slot me).standing = s.standing := by
  simp [State.closeCred]

@[simp] theorem State.credUpdated_standing (s : State) (k : CredKey) (op gen : Nat) :
    (s.credUpdated k op gen).standing = s.standing := by
  simp [State.credUpdated]

@[simp] theorem State.commitCred_standing (s : State) (k : CredKey) (kind gen : Nat) (secret : List Byte) :
    (s.commitCred k kind gen secret).standing = s.standing := by
  simp [State.commitCred]

@[simp] theorem runCredentialSet_standing (role tenant slot kind : Nat) (secret : List Byte) (c : Caller) (s : State) :
    (runCredentialSet role tenant slot kind secret c s).2.standing = s.standing := by
  simp [runCredentialSet]

@[simp] theorem State.closeLater_standing (s : State) (n : Nat) :
    (s.closeLater n).standing = s.standing := by
  simp [State.closeLater]

@[simp] theorem State.voidCred_standing (s : State) (role tenant slot : Nat) :
    (s.voidCred role tenant slot).standing = s.standing := by
  simp [State.voidCred]

@[simp] theorem runCredentialRevoke_standing (role tenant slot : Nat) (c : Caller) (s : State) :
    (runCredentialRevoke role tenant slot c s).2.standing = s.standing := by
  simp [runCredentialRevoke]

/-! ### Machine/RecordCore.lean -/

/-- A record rule whose effect leaves the standing parts of the block. -/
def RecordRule.KeepsStanding (rule : RecordRule) : Prop :=
  ∀ (s : State) (tenant inst old body : Nat), (rule.effect s tenant inst old body).standing = s.standing

@[simp] theorem State.storeRecord_standing (s : State) (rid inst tenant body : Nat) :
    (s.storeRecord rid inst tenant body).standing = s.standing := by
  simp [State.storeRecord]

@[simp] theorem State.applyBody_standing (s : State) {rule : RecordRule} (h : rule.KeepsStanding) (k : Schema) (tenant inst body : Nat) :
    (s.applyBody rule k tenant inst body).standing = s.standing := by
  unfold State.applyBody
  rw [h, State.storeRecord_standing]

theorem State.applyRecord_standing (s : State) {rule : RecordRule} (h : rule.KeepsStanding) (k : Schema) (tenant inst : Nat) (b : List Byte) :
    (s.applyRecord rule k tenant inst b).standing = s.standing := by
  unfold State.applyRecord
  split
  · rfl
  · split
    · rfl
    · exact State.applyBody_standing s h k tenant inst _

/-! ### Machine/Vault.lean -/

@[simp] theorem State.bind_standing (s : State) (d slot charged : Nat) :
    (s.bind d slot charged).2.standing = s.standing := by
  unfold State.bind
  dsimp only
  repeat' split
  all_goals simp

@[simp] theorem State.commitSlot_standing (s : State) (d slot kind counter : Nat) (key : List Byte) :
    (s.commitSlot d slot kind counter key).standing = s.standing := by
  simp [State.commitSlot]

@[simp] theorem State.loadSlot_standing (s : State) (k : Nat × Nat) :
    (s.loadSlot k).standing = s.standing := by
  unfold State.loadSlot
  split <;> simp

@[simp] theorem State.loadCounter_standing (s : State) (d : Nat) :
    (s.loadCounter d).standing = s.standing := by
  simp [State.loadCounter]

@[simp] theorem State.loadVault_standing (s : State) :
    s.loadVault.standing = s.standing := by
  simp [State.loadVault]

@[simp] theorem State.refuseUpdate_standing (s : State) (d : Nat) (st : Status) :
    (s.refuseUpdate d st).standing = s.standing := by
  simp [State.refuseUpdate]

@[simp] theorem runVaultUpdate_standing (m : List Byte) (c : Caller) (s : State) :
    (runVaultUpdate m c s).2.standing = s.standing := by
  unfold runVaultUpdate
  refine gated_standing _ _ ?_
  dsimp only
  repeat' split
  all_goals simp

@[simp] theorem runVaultAuthoritySet_standing (d : Nat) (key : List Byte) (c : Caller) (s : State) :
    (runVaultAuthoritySet d key c s).2.standing = s.standing := by
  simp [runVaultAuthoritySet]

@[simp] theorem runVaultTransportSet_standing (d : Nat) (wrapped : List Byte) (c : Caller) (s : State) :
    (runVaultTransportSet d wrapped c s).2.standing = s.standing := by
  unfold runVaultTransportSet
  refine gated_standing _ _ ?_
  dsimp only
  repeat' split
  all_goals simp

@[simp] theorem ruleVaultPolicy_keepsStanding : ruleVaultPolicy.KeepsStanding := fun _ _ _ _ _ => rfl

/-! ### Machine/Lanes.lean -/

@[simp] theorem State.setLane_standing (s : State) (n : Nat) (l : Lane) :
    (s.setLane n l).standing = s.standing := by
  simp [State.setLane]

@[simp] theorem State.modLane_standing (s : State) (n : Nat) (f : Lane → Lane) :
    (s.modLane n f).standing = s.standing := by
  simp [State.modLane]

@[simp] theorem State.startLane_standing (s : State) (n reason : Nat) :
    (s.startLane n reason).standing = s.standing := by
  simp [State.startLane]

@[simp] theorem State.enableLane_standing (s : State) (n reason : Nat) :
    (s.enableLane n reason).2.standing = s.standing := by
  simp [State.enableLane]

@[simp] theorem State.endLane_standing (s : State) (n : Nat) :
    (s.endLane n).standing = s.standing := by
  simp [State.endLane]

@[simp] theorem State.loseLock_standing (s : State) (n cause : Nat) :
    (s.loseLock n cause).standing = s.standing := by
  simp [State.loseLock]

@[simp] theorem State.sendControl_standing (s : State) (n msgType trib : Nat) (body : List Byte) (owner : CtrlFor) :
    (s.sendControl n msgType trib body owner).standing = s.standing := by
  simp [State.sendControl]

@[simp] theorem State.identify_standing (s : State) (n : Nat) :
    (s.identify n).standing = s.standing := by
  simp [State.identify]

@[simp] theorem State.judgeHead_standing (s : State) (n : Nat) :
    (s.judgeHead n).standing = s.standing := by
  unfold State.judgeHead
  split <;> simp

@[simp] theorem State.laneCellGone_standing (s : State) (n : Nat) :
    (s.laneCellGone n).standing = s.standing := by
  simp [State.laneCellGone]

@[simp] theorem State.startStepDone_standing (s : State) (n : Nat) :
    (s.startStepDone n).standing = s.standing := by
  unfold State.startStepDone
  dsimp only
  repeat' split
  all_goals simp

@[simp] theorem State.addPath_standing (s : State) (n : Nat) (p : Int) :
    (s.addPath n p).standing = s.standing := by
  simp [State.addPath]

@[simp] theorem State.takeHeader_standing (s : State) (n : Nat) (h : List Byte) :
    (s.takeHeader n h).standing = s.standing := by
  simp [State.takeHeader]

@[simp] theorem State.takeSlot_standing (s : State) (n t : Nat) (b : List Byte) :
    (s.takeSlot n t b).standing = s.standing := by
  simp [State.takeSlot]

@[simp] theorem State.takeFec_standing (s : State) (n : Nat) (fec : List Nat) :
    (s.takeFec n fec).standing = s.standing := by
  simp [State.takeFec]

@[simp] theorem State.takeMessages_standing (s : State) (n : Nat) (area : List Byte) :
    (s.takeMessages n area).standing = s.standing := by
  simp [State.takeMessages]

@[simp] theorem State.takeSlots_standing (s : State) (n : Nat) (b : List Byte) :
    (s.takeSlots n b).standing = s.standing := by
  simp [State.takeSlots]

@[simp] theorem State.takeSuperframe_standing (s : State) (n : Nat) (b : List Byte) (spacing tRx : Nat) (fec : List Nat) :
    (s.takeSuperframe n b spacing tRx fec).standing = s.standing := by
  unfold State.takeSuperframe
  extract_lets l h ok s₁ s₂ s₃ bad s₄ s₅ s₆ s₇ s₈ s₉ s₁₀
  have h₂ : s₂.standing = s.standing := by simp [s₂, s₁]
  have h₃ : s₃.standing = s.standing := by simp [s₃, h₂]
  have h₇ : s₇.standing = s.standing := by simp [s₇, s₆, h₃]
  have h₈ : s₈.standing = s.standing := by
    dsimp only [s₈]
    split <;> simp [h₇]
  have h₁₀ : s₁₀.standing = s.standing := by simp [s₁₀, s₉, h₇, h₈]
  clear_value s₂ s₃ s₇ s₈ s₁₀
  repeat' split
  all_goals simp [s₄, s₅, *]

@[simp] theorem State.campaignReply_standing (s : State) (n : Nat) (ok : Bool) :
    (s.campaignReply n ok).standing = s.standing := by
  simp [State.campaignReply]

@[simp] theorem State.takeReply_unasked (s : State) (n : Nat) (r : CtrlReq) (status : Nat) (body : List Byte) :
    (s.takeReply n r status body).standing.unasked = s.standing.unasked := by
  unfold State.takeReply
  split <;> simp

@[simp] theorem runLaneHeadControl_standing (n trib ty : Nat) (body : List Byte) (c : Caller) (s : State) :
    (runLaneHeadControl n trib ty body c s).2.standing = s.standing := by
  unfold runLaneHeadControl
  dsimp only
  repeat' split
  all_goals simp

@[simp] theorem runLaneTest_standing (n pattern duration errors : Nat) (c : Caller) (s : State) :
    (runLaneTest n pattern duration errors c s).2.standing = s.standing := by
  unfold runLaneTest
  dsimp only
  repeat' split
  all_goals simp

/-! ### Machine/Filters.lean -/

@[simp] theorem State.setChanFilt_standing (s : State) (i : Nat) (x : ChanFilt) :
    (s.setChanFilt i x).standing = s.standing := by
  simp [State.setChanFilt]

@[simp] theorem State.restartChannel_standing (s : State) (i : Nat) :
    (s.restartChannel i).standing = s.standing := by
  simp [State.restartChannel]

theorem State.replaceOne_standing (good slow : List Nat) (cause : Nat) (acc : State × Occupancy) (i : Nat) :
    (State.replaceOne good slow cause acc i).1.standing = acc.1.standing := by
  unfold State.replaceOne
  dsimp only
  split <;> simp

@[simp] theorem State.moveSlots_standing (s : State) (unit i : Nat) :
    (s.moveSlots unit i).standing = s.standing := by
  simp [State.moveSlots]

@[simp] theorem State.replaceQuadrant_standing (s : State) (q cause : Nat) :
    (s.replaceQuadrant q cause).standing = s.standing := by
  unfold State.replaceQuadrant
  dsimp only
  refine (foldl_keeps (fun x : State × Occupancy => x.1.standing) _ (fun x i => State.replaceOne_standing _ _ _ x i) _ _).trans ?_
  simp

@[simp] theorem State.lineReserve_standing (s : State) (n : Nat) :
    (s.lineReserve n).standing = s.standing := by
  simp [State.lineReserve]

@[simp] theorem State.lineRelease_standing (s : State) (n : Nat) :
    (s.lineRelease n).standing = s.standing := by
  simp [State.lineRelease]

@[simp] theorem State.setDc_standing (s : State) (t : Nat) (d : DcSt) :
    (s.setDc t d).standing = s.standing := by
  simp [State.setDc]

@[simp] theorem State.dcEnable_standing (s : State) (t reason : Nat) :
    (s.dcEnable t reason).2.standing = s.standing := by
  simp [State.dcEnable]

@[simp] theorem State.dcDisable_standing (s : State) (t : Nat) :
    (s.dcDisable t).2.standing = s.standing := by
  simp [State.dcDisable]

@[simp] theorem State.endDc_standing (s : State) (t : Nat) :
    (s.endDc t).standing = s.standing := by
  simp [State.endDc]

@[simp] theorem State.setMetro_standing (s : State) (t : Nat) (x : MetroTrib) :
    (s.setMetro t x).standing = s.standing := by
  simp [State.setMetro]

@[simp] theorem State.metroStart_standing (s : State) (t : Nat) :
    (s.metroStart t).standing = s.standing := by
  simp [State.metroStart]

@[simp] theorem State.dcFrozenNow_standing (s : State) (t : Nat) (was : Bool) :
    (s.dcFrozenNow t was).standing = s.standing := by
  simp [State.dcFrozenNow]

@[simp] theorem State.dcSample_standing (s : State) (t k : Nat) (ask : Bool) (x : Smp) :
    (s.dcSample t k ask x).2.standing = s.standing := by
  unfold State.dcSample
  split <;> simp

@[simp] theorem runFiltDcEnable_standing (t : Nat) (c : Caller) (s : State) :
    (runFiltDcEnable t c s).2.standing = s.standing := by
  simp [runFiltDcEnable]

@[simp] theorem runFiltDcDisable_standing (t : Nat) (c : Caller) (s : State) :
    (runFiltDcDisable t c s).2.standing = s.standing := by
  simp [runFiltDcDisable]

@[simp] theorem runFiltDcFreeze_standing (t freeze : Nat) (c : Caller) (s : State) :
    (runFiltDcFreeze t freeze c s).2.standing = s.standing := by
  simp [runFiltDcFreeze]

@[simp] theorem State.enableLaneCells_standing (s : State) (n reason : Nat) :
    (s.enableLaneCells n reason).2.standing = s.standing := by
  simp [State.enableLaneCells]

@[simp] theorem runLaneEnable_standing (n : Nat) (c : Caller) (s : State) :
    (runLaneEnable n c s).2.standing = s.standing := by
  simp [runLaneEnable]

@[simp] theorem runLaneDisable_standing (n : Nat) (c : Caller) (s : State) :
    (runLaneDisable n c s).2.standing = s.standing := by
  simp [runLaneDisable]

@[simp] theorem State.lineAuto_standing (s : State) (n : Nat) :
    (s.lineAuto n).standing = s.standing := by
  simp [State.lineAuto]

@[simp] theorem State.startRestored_standing (s : State) (n : Nat) :
    (s.startRestored n).standing = s.standing := by
  simp [State.startRestored]

@[simp] theorem State.restartTrib_standing (s : State) (n trib : Nat) :
    (s.restartTrib n trib).standing = s.standing := by
  simp [State.restartTrib]

@[simp] theorem State.restartLine_standing (s : State) (n : Nat) :
    (s.restartLine n).standing = s.standing := by
  simp [State.restartLine]

@[simp] theorem State.startLine_standing (s : State) (n : Nat) :
    (s.startLine n).standing = s.standing := by
  simp [State.startLine]

@[simp] theorem State.antennasChanged_standing (s : State) (n : Nat) :
    (s.antennasChanged n).standing = s.standing := by
  simp [State.antennasChanged]

@[simp] theorem ruleLane_keepsStanding : ruleLane.KeepsStanding := by
  intro s tenant inst old body
  simp [ruleLane]

@[simp] theorem State.setCapture_standing (s : State) (c : Capture) :
    (s.setCapture c).standing = s.standing := by
  simp [State.setCapture]

@[simp] theorem State.beginCapture_standing (s : State) (c : Capture) :
    (s.beginCapture c).standing = s.standing := by
  simp [State.beginCapture]

@[simp] theorem State.captureSample_standing (s : State) (kind lane sub a : Nat) (x : OutSmp) :
    (s.captureSample kind lane sub a x).standing = s.standing := by
  simp [State.captureSample]

@[simp] theorem State.captureWritten_standing (s : State) (n : Nat) :
    (s.captureWritten n).standing = s.standing := by
  unfold State.captureWritten
  split <;> simp

@[simp] theorem runFiltCaptureStart_standing (kind lane mask sub start at' duration : Nat) (c : Caller) (s : State) :
    (runFiltCaptureStart kind lane mask sub start at' duration c s).2.standing = s.standing := by
  simp [runFiltCaptureStart]

@[simp] theorem runFiltCaptureStop_standing (id : Nat) (c : Caller) (s : State) :
    (runFiltCaptureStop id c s).2.standing = s.standing := by
  unfold runFiltCaptureStop
  split <;> simp

@[simp] theorem runFiltCaptureDelete_standing (id : Nat) (c : Caller) (s : State) :
    (runFiltCaptureDelete id c s).2.standing = s.standing := by
  unfold runFiltCaptureDelete
  split <;> simp

@[simp] theorem State.restoreDropped_standing (s : State) (q : Nat) :
    (s.restoreDropped q).standing = s.standing := by
  simp [State.restoreDropped]

@[simp] theorem ruleChannel_keepsStanding : ruleChannel.KeepsStanding := by
  intro s tenant inst old body
  simp [ruleChannel]

@[simp] theorem ruleLineFilter_keepsStanding : ruleLineFilter.KeepsStanding := by
  intro s tenant inst old body
  simp [ruleLineFilter]

/-! ### Machine/Reception.lean -/

@[simp] theorem State.refuseBooking_standing (s : State) (g : Nat) (q : Option Nat) :
    (s.refuseBooking g q).standing = s.standing := by
  simp [State.refuseBooking]

@[simp] theorem State.book_standing (s : State) (b : Booking) (listen : Bool) :
    (s.book b listen).2.standing = s.standing := by
  unfold State.book
  dsimp only
  repeat' split
  all_goals simp

@[simp] theorem State.setCtx_standing (s : State) (n : Nat) (c : RxCtx) :
    (s.setCtx n c).standing = s.standing := by
  simp [State.setCtx]

@[simp] theorem State.openCtx_standing (s : State) (n : Nat) (c : RxCtx) :
    (s.openCtx n c).standing = s.standing := by
  simp [State.openCtx]

@[simp] theorem State.openBooked_standing (s : State) (n : Nat) (x : Booked) (reason : Nat) :
    (s.openBooked n x reason).standing = s.standing := by
  simp [State.openBooked]

@[simp] theorem State.openRetro_standing (s : State) (n : Nat) (d : Detection) :
    (s.openRetro n d).standing = s.standing := by
  simp [State.openRetro]

@[simp] theorem State.openDue_standing (s : State) (x : Booked) :
    (s.openDue x).standing = s.standing := by
  unfold State.openDue
  dsimp only
  repeat' split
  all_goals simp

@[simp] theorem State.setOutcome_standing (s : State) (n : Nat) (c : RxCtx) (outcome : Nat) (frame : List Byte) (match' : Bool) (m : Option RxMeas) (hand : Bool) :
    (s.setOutcome n c outcome frame match' m hand).standing = s.standing := by
  unfold State.setOutcome
  dsimp only
  split <;> simp

@[simp] theorem State.endCtxWith_standing (s : State) (n outcome : Nat) :
    (s.endCtxWith n outcome).standing = s.standing := by
  unfold State.endCtxWith
  split <;> simp

@[simp] theorem State.abortBooked_standing (s : State) (n : Option Nat) (x : Booked) :
    (s.abortBooked n x).standing = s.standing := by
  simp [State.abortBooked]

@[simp] theorem State.abortHeld_standing (s : State) (n : Nat) :
    (s.abortHeld n).standing = s.standing := by
  unfold State.abortHeld
  dsimp only
  repeat' split
  all_goals simp

@[simp] theorem State.rxRestart_standing (s : State) :
    s.rxRestart.standing = s.standing := by
  simp [State.rxRestart]

@[simp] theorem State.loseBranches_standing (s : State) (chans : List Nat) :
    (s.loseBranches chans).standing = s.standing := by
  unfold State.loseBranches
  refine (State.standing_foldl (fun s n => ?_) _ _).trans (by simp)
  split
  · split
    · rfl
    · split <;> simp
  · rfl

@[simp] theorem State.mergeWaiting_standing (s : State) :
    s.mergeWaiting.standing = s.standing := by
  simp [State.mergeWaiting]

@[simp] theorem State.dropDetection_standing (s : State) (group : Nat) :
    (s.dropDetection group).standing = s.standing := by
  simp [State.dropDetection]

@[simp] theorem State.mergeAway_standing (s : State) (n : Nat) :
    (s.mergeAway n).standing = s.standing := by
  unfold State.mergeAway
  split <;> simp

@[simp] theorem State.takeFrame_standing (s : State) (n startAir : Nat) (c : RxCtx) (freqHz : Int) (formatB : Bool) (l : List ((Nat × Nat) × BranchEst)) :
    (s.takeFrame n startAir c freqHz formatB l).standing = s.standing := by
  simp [State.takeFrame]

@[simp] theorem State.reportLate_standing (s : State) (n lane : Nat) :
    (s.reportLate n lane).standing = s.standing := by
  simp [State.reportLate]

@[simp] theorem State.decodeDone_standing (s : State) (n outcome : Nat) (frame : List Byte) (match' : Bool) (m : RxMeas) (hand : Bool) :
    (s.decodeDone n outcome frame match' m hand).standing = s.standing := by
  unfold State.decodeDone
  split <;> simp

@[simp] theorem State.freeContext_standing (s : State) (n : Nat) :
    (s.freeContext n).standing = s.standing := by
  unfold State.freeContext
  dsimp only
  repeat' split
  all_goals simp

@[simp] theorem runRxContextAbort_standing (n : Nat) (c : Caller) (s : State) :
    (runRxContextAbort n c s).2.standing = s.standing := by
  unfold runRxContextAbort
  refine gated_standing _ _ ?_
  cases s.ctx n with
  | none => rfl
  | some x =>
    dsimp only
    split <;> simp

@[simp] theorem runRxListen_standing (group mode headMask start window maxFrameMs : Nat) (c : Caller) (s : State) :
    (runRxListen group mode headMask start window maxFrameMs c s).2.standing = s.standing := by
  unfold runRxListen
  refine gated_standing _ _ ?_
  dsimp only
  generalize hb : s.book _ true = o
  have h := congrArg (·.2.standing) hb
  simp only [State.book_standing] at h
  obtain ⟨_ | id, t⟩ := o
  · exact h.symm
  · dsimp only at h ⊢
    split
    · split <;> simp [h]
    · exact h.symm

@[simp] theorem State.abortChannel_standing (s : State) (i : Nat) :
    (s.abortChannel i).standing = s.standing := by
  simp [State.abortChannel]

@[simp] theorem State.judgeMember_standing (s : State) (i : Nat) :
    (s.judgeMember i).standing = s.standing := by
  unfold State.judgeMember
  dsimp only
  repeat' split
  all_goals simp

@[simp] theorem ruleRxChannel_keepsStanding : ruleRxChannel.KeepsStanding := by
  intro s tenant inst old body
  simp [ruleRxChannel]

@[simp] theorem ruleChannelRx_keepsStanding : ruleChannelRx.KeepsStanding := by
  intro s tenant inst old body
  simp only [ruleChannelRx, State.judgeMember_standing, ruleChannel_keepsStanding s]

@[simp] theorem ruleRxPolicy_keepsStanding : ruleRxPolicy.KeepsStanding := fun _ _ _ _ _ => rfl

/-! ### Machine/Lea.lean -/

@[simp] theorem State.countLea_standing (s : State) (k : CtrName) (g rate : Nat) :
    (s.countLea k g rate).standing = s.standing := by
  unfold State.countLea
  split <;> simp

@[simp] theorem State.leaCounts_standing (s : State) (g rate outcome : Nat) (f : List Byte) :
    (s.leaCounts g rate outcome f).2.standing = s.standing := by
  unfold State.leaCounts
  dsimp only
  repeat' split
  all_goals simp

@[simp] theorem State.tagLaunched_standing (s : State) (meter tag : Nat) :
    (s.tagLaunched meter tag).standing = s.standing := by
  simp [State.tagLaunched]

@[simp] theorem State.drawTag_standing (s : State) :
    s.drawTag.2.standing = s.standing := by
  simp [State.drawTag]

@[simp] theorem ruleLeaPolicy_keepsStanding : ruleLeaPolicy.KeepsStanding := fun _ _ _ _ _ => rfl

/-! ### Machine/Meter.lean -/

@[simp] theorem State.commitMeter_standing (s : State) (slot : Nat) (r : MeterRec) :
    (s.commitMeter slot r).standing = s.standing := by
  simp [State.commitMeter]

@[simp] theorem State.countMeter_standing (s : State) (slot j : Nat) :
    (s.countMeter slot j).standing = s.standing := by
  simp [State.countMeter]

@[simp] theorem State.addExport_standing (s : State) (kind tenant object stamp : Nat) (gap disputed : Bool) (content : List Byte) :
    (s.addExport kind tenant object stamp gap disputed content).standing = s.standing := by
  simp [State.addExport]

@[simp] theorem State.meterKeyFor_standing (s : State) (slot tenant g : Nat) :
    (s.meterKeyFor slot tenant g).2.standing = s.standing := by
  unfold State.meterKeyFor
  have h0 := State.bind_standing s tenant 0 tenant
  have h1 := State.bind_standing s tenant 1 tenant
  split
  · split
    next root t hb => rwa [hb] at h0
    next t hb => rwa [hb] at h0
  · split
    next t hb => rwa [hb] at h1
    next kek t hb =>
      rw [hb] at h1
      split
      · exact h1
      · split
        · exact h1
        · split
          · exact h1
          · simpa using h1

@[simp] theorem State.enqueue_standing (s : State) (tenant slot : Nat) (j : LedgerJob) :
    (s.enqueue tenant slot j).standing = s.standing := by
  simp [State.enqueue]

/-! ### Machine/Prepay.lean -/

@[simp] theorem State.mapTokens_standing (s : State) (slot : Nat) (f : TokenEntry → TokenEntry) :
    (s.mapTokens slot f).standing = s.standing := by
  simp [State.mapTokens]

@[simp] theorem State.setToken_standing (s : State) (slot seq st time : Nat) (result : Option Nat) :
    (s.setToken slot seq st time result).standing = s.standing := by
  simp [State.setToken]

@[simp] theorem State.killTokens_standing (s : State) (slot : Nat) :
    (s.killTokens slot).standing = s.standing := by
  simp [State.killTokens]

@[simp] theorem runTokenIssue_standing (slot kind amount deliver : Nat) (c : Caller) (s : State) :
    (runTokenIssue slot kind amount deliver c s).2.standing = s.standing := by
  unfold runTokenIssue
  refine gated_standing _ _ ?_
  dsimp only
  have h := State.meterKeyFor_standing s slot (s.meter slot).tenant (s.meter slot).keyGen
  split
  next t hk => rwa [hk] at h
  next key t hk =>
    rw [hk] at h
    split <;> simp [h]

@[simp] theorem State.tokenSent_standing (s : State) (slot seq tag : Nat) :
    (s.tokenSent slot seq tag).standing = s.standing := by
  simp [State.tokenSent]

@[simp] theorem State.tokenUnanswered_standing (s : State) (slot tag : Nat) :
    (s.tokenUnanswered slot tag).standing = s.standing := by
  unfold State.tokenUnanswered
  split <;> simp

@[simp] theorem State.tamperEvent_standing (s : State) (slot k : Nat) (r : MeterRec) :
    (s.tamperEvent slot k r).standing = s.standing := by
  simp [State.tamperEvent]

@[simp] theorem Applying.standing_ite (c : Prop) [Decidable c] (a b : Applying) :
    (if c then a else b).s.standing = if c then a.s.standing else b.s.standing := apply_ite (fun x : Applying => x.s.standing) _ _ _

@[simp] theorem Applying.standing_foldl {α : Type} {g : Applying → α → Applying} (h : ∀ a x, (g a x).s.standing = a.s.standing)
    (l : List α) (a : Applying) : (l.foldl g a).s.standing = a.s.standing := foldl_keeps (fun x : Applying => x.s.standing) g h l a

@[simp] theorem Applying.tampered_standing (a : Applying) (slot k : Nat) (changed rose : Bool) :
    (Applying.tampered a slot k changed rose).s.standing = a.s.standing := by
  simp [Applying.tampered]

@[simp] theorem Applying.occurrence_standing (a : Applying) (slot k time : Nat) :
    (Applying.occurrence a slot k time).s.standing = a.s.standing := by
  simp [Applying.occurrence]

@[simp] theorem Applying.tamperEntry_standing (a : Applying) (slot time : Nat) (b : List Byte) :
    (Applying.tamperEntry a slot time b).s.standing = a.s.standing := by
  simp [Applying.tamperEntry]

@[simp] theorem Applying.tamperReport_standing (a : Applying) (slot time : Nat) (b : List Byte) :
    (Applying.tamperReport a slot time b).s.standing = a.s.standing := by
  simp [Applying.tamperReport]

@[simp] theorem Applying.settle_standing (a : Applying) (slot seq : Nat) :
    (Applying.settle a slot seq).s.standing = a.s.standing := by
  unfold Applying.settle
  split <;> rfl

@[simp] theorem Applying.tokenResult_standing (a : Applying) (slot time : Nat) (tag : Nat) (b : List Byte) :
    (Applying.tokenResult a slot time tag b).s.standing = a.s.standing := by
  unfold Applying.tokenResult
  dsimp only
  repeat' split
  all_goals simp

@[simp] theorem Applying.windowToken_standing (a : Applying) (slot time seqHigh window : Nat) (t : TokenEntry) :
    (Applying.windowToken a slot time seqHigh window t).s.standing = a.s.standing := by
  simp [Applying.windowToken]

@[simp] theorem Applying.creditState_standing (a : Applying) (slot time : Nat) (b : List Byte) :
    (Applying.creditState a slot time b).s.standing = a.s.standing := by
  unfold Applying.creditState
  split
  · rfl
  split
  · simp
  extract_lets balance seqHigh window held n s₀ p₀ r₀ a₁ r₁ a₂ a₃ dead a₄ fresh sum s' p₁ a₅ rise b' a₆
  have h₁ : a₁.s.standing = a.s.standing := by
    dsimp only [a₁]
    split
    · rfl
    · split <;> simp
  have h₂ : a₂.s.standing = a₁.s.standing := by
    dsimp only [a₂]
    split <;> rfl
  have h₃ : a₃.s.standing = a₂.s.standing := by simp [a₃]
  have h₄ : a₄.s.standing = a₃.s.standing := by simp [a₄]
  have h₅ : a₅.s.standing = a₄.s.standing := by simp [a₅, s']
  have h₆ : a₆.s.standing = a₅.s.standing := by
    dsimp only [a₆]
    split
    · simp [b']
    · rfl
  exact h₆.trans (h₅.trans (h₄.trans (h₃.trans (h₂.trans h₁))))

@[simp] theorem Applying.tokens_standing (a : Applying) (slot time tag : Nat) (ack : Bool) (items : List Item) :
    (Applying.tokens a slot time tag ack items).s.standing = a.s.standing := by
  unfold Applying.tokens
  dsimp only
  repeat' split
  all_goals simp

@[simp] theorem runTokenVoid_standing (slot seq : Nat) (c : Caller) (s : State) :
    (runTokenVoid slot seq c s).2.standing = s.standing := by
  unfold runTokenVoid
  refine gated_standing _ _ ?_
  dsimp only
  repeat' split
  all_goals simp

@[simp] theorem rulePrepayClass_keepsStanding : rulePrepayClass.KeepsStanding := fun _ _ _ _ _ => rfl

/-! ### Machine/Safe.lean -/

@[simp] theorem State.setLockout_standing (s : State) (i : Nat) (x : Lockout) :
    (s.setLockout i x).standing = s.standing := by
  simp [State.setLockout]

@[simp] theorem State.setSafe_standing (s : State) (slot : Nat) (x : SafeMeter) :
    (s.setSafe slot x).standing = s.standing := by
  simp [State.setSafe]

@[simp] theorem State.lateLockouts_standing (s : State) (i : Nat) :
    (s.lateLockouts i).standing = s.standing := by
  unfold State.lateLockouts
  refine State.standing_foldl (fun s slot => ?_) _ _
  dsimp only
  split
  · split <;> simp
  · rfl

@[simp] theorem State.lockMoved_standing (s : State) (i : Nat) (old new : LockSt) (levels engagedMs : Nat) :
    (s.lockMoved i old new levels engagedMs).standing = s.standing := by
  simp [State.lockMoved]

@[simp] theorem State.advanceLock_standing (s : State) (i : Nat) :
    (s.advanceLock i).standing = s.standing := by
  simp [State.advanceLock]

@[simp] theorem State.sampleLock_standing (s : State) (i : Nat) (a b : Bool) :
    (s.sampleLock i a b).standing = s.standing := by
  simp [State.sampleLock]

@[simp] theorem State.endSafe_standing (s : State) (slot : Nat) (outcome : SafeEnd) :
    (s.endSafe slot outcome).standing = s.standing := by
  unfold State.endSafe
  dsimp only
  repeat' split
  all_goals simp

@[simp] theorem State.cancelSafe_standing (s : State) (slot : Nat) (cause : SafeCause) :
    (s.cancelSafe slot cause).standing = s.standing := by
  unfold State.cancelSafe
  split <;> simp

@[simp] theorem State.acceptSafe_standing (s : State) (slot kind : Nat) :
    (s.acceptSafe slot kind).2.standing = s.standing := by
  simp [State.acceptSafe]

@[simp] theorem runSafeOpen_standing (slot : Nat) (c : Caller) (s : State) :
    (runSafeOpen slot c s).2.standing = s.standing := by
  unfold runSafeOpen
  refine gated_standing _ _ ?_
  dsimp only
  repeat' split
  all_goals simp

@[simp] theorem runSafeClose_standing (slot armed : Nat) (c : Caller) (s : State) :
    (runSafeClose slot armed c s).2.standing = s.standing := by
  simp [runSafeClose]

@[simp] theorem State.approvedClose_standing (s : State) (slot armed : Nat) :
    (s.approvedClose slot armed).2.standing = s.standing := by
  simp [State.approvedClose]

@[simp] theorem State.lockSafe_standing (s : State) (slot frameEnd : Nat) :
    (s.lockSafe slot frameEnd).2.standing = s.standing := by
  unfold State.lockSafe
  dsimp only
  repeat' split
  all_goals simp

@[simp] theorem Applying.safeResponse_standing (a : Applying) (slot : Nat) (items : List Item) :
    (Applying.safeResponse a slot items).s.standing = a.s.standing := by
  unfold Applying.safeResponse
  dsimp only
  repeat' split
  all_goals simp

@[simp] theorem runSafeCancel_standing (slot : Nat) (c : Caller) (s : State) :
    (runSafeCancel slot c s).2.standing = s.standing := by
  simp [runSafeCancel]

@[simp] theorem ruleLockoutInput_keepsStanding : ruleLockoutInput.KeepsStanding := by
  intro s tenant inst old body
  simp [ruleLockoutInput]

@[simp] theorem ruleSafeMeter_keepsStanding : ruleSafeMeter.KeepsStanding := fun _ _ _ _ _ => rfl

@[simp] theorem ruleSafetyPolicy_keepsStanding : ruleSafetyPolicy.KeepsStanding := fun _ _ _ _ _ => rfl

/-! ### Machine/Tariff.lean -/

@[simp] theorem State.addVersion_standing (s : State) (p body : Nat) :
    (s.addVersion p body).standing = s.standing := by
  simp [State.addVersion]

@[simp] theorem ruleTariffPlan_keepsStanding : ruleTariffPlan.KeepsStanding := by
  intro s tenant inst old body
  simp [ruleTariffPlan]

@[simp] theorem ruleTimeZone_keepsStanding : ruleTimeZone.KeepsStanding := fun _ _ _ _ _ => rfl

@[simp] theorem ruleProfileClass_keepsStanding : ruleProfileClass.KeepsStanding := fun _ _ _ _ _ => rfl

@[simp] theorem State.clockLogAdd_standing (s : State) (e : ClockEntry) :
    (s.clockLogAdd e).standing = s.standing := by
  simp [State.clockLogAdd]

@[simp] theorem State.rateInterval_standing (s : State) (slot t9 : Nat) (r : MeterRec) (i : Interval) :
    (s.rateInterval slot t9 r i).2.standing = s.standing := by
  generalize ho : s.rateInterval slot t9 r i = o
  rw [State.rateInterval] at ho
  generalize decide (t9 + _ < i.stop) = suspect at ho
  generalize hw : (if suspect = true then _ else s) = w at ho
  have hw : w.standing = s.standing := by
    rw [← hw]
    simp
  generalize w.planAt r.plan _ = plan at ho
  rcases plan with _ | ⟨v, old⟩
  · split at ho <;> simp [← ho, hw]
  · split at ho
    · simp [← ho, hw]
    dsimp only at ho
    split at ho <;> split at ho <;> simp [← ho, hw]

/-! ### Machine/Registers.lean -/

@[simp] theorem Applying.book_standing (a : Applying) (stream rate milli : Nat) :
    (Applying.book a stream rate milli).s.standing = a.s.standing := by
  simp [Applying.book]

@[simp] theorem Applying.rolled_standing (a : Applying) (slot stream rate old new : Nat) :
    (Applying.rolled a slot stream rate old new).s.standing = a.s.standing := by
  simp [Applying.rolled]

@[simp] theorem Applying.totalReg_standing (a : Applying) (slot stream v : Nat) :
    (Applying.totalReg a slot stream v).s.standing = a.s.standing := by
  unfold Applying.totalReg
  dsimp only
  repeat' split
  all_goals simp

@[simp] theorem Applying.bookStream_standing (a : Applying) (rate : Nat) (ratedFlags : Nat) (missing : Bool) (e : Nat × Nat × Nat) :
    (Applying.bookStream a rate ratedFlags missing e).s.standing = a.s.standing := by
  unfold Applying.bookStream
  dsimp only
  repeat' split
  all_goals simp

@[simp] theorem Applying.interval_standing (slot t9 : Nat) (x : Applying × Map Nat Nat × List (Interval × Rated)) (i : Interval) :
    (Applying.interval slot t9 x i).1.s.standing = x.1.s.standing := by
  obtain ⟨a, prev, done⟩ := x
  have h := State.rateInterval_standing a.s slot t9 a.r i
  rw [Applying.interval]
  split
  · simp
  generalize a.s.rateInterval slot t9 a.r i = o at h ⊢
  obtain ⟨rated, s⟩ := o
  dsimp only at h ⊢
  simp [h]

@[simp] theorem Applying.rateReg_standing (a : Applying) (slot time rs rate v : Nat) :
    (Applying.rateReg a slot time rs rate v).s.standing = a.s.standing := by
  rw [Applying.rateReg]
  refine standing_of_option _ _ _ _ rfl fun st => ?_
  extract_lets +onlyGivenNames -underBinder i w v' old
  split
  · rfl
  extract_lets +onlyGivenNames -underBinder adv dm df t checked open' near outcome a₁ closed bookAmount
  have h₁ : a₁.s.standing = a.s.standing := by simp [a₁]
  have hc : ∀ b m, (closed b m).s.standing = b.s.standing := fun b m => by
    simp only [closed]
    split <;> simp
  have hb : ∀ m, (bookAmount m).s.standing = a.s.standing := fun m => by
    simp only [bookAmount, hc, Applying.book_standing]
    clear_value a₁ adv
    cases adv <;> simp [h₁]
  clear_value bookAmount closed a₁ outcome
  cases outcome with
  | back => simp [hc, h₁]
  | main => exact hb dm
  | fallback => exact hb df
  | agreed => exact hb dm
  | unchecked => exact hb dm
  | disputed =>
    dsimp only
    split <;> simp [h₁]

@[simp] theorem State.closeMeter_standing (s : State) (slot cause : Nat) (again : Option Nat) :
    (s.closeMeter slot cause again).standing = s.standing := by
  simp [State.closeMeter]

@[simp] theorem State.runJob_standing (s : State) (slot : Nat) (j : LedgerJob) : (s.runJob slot j).standing = s.standing := by
  cases j <;> simp [State.runJob]

@[simp] theorem State.ledgerChange_standing (s : State) (slot : Nat) (j : LedgerJob) :
    (s.ledgerChange slot j).standing = s.standing := by
  unfold State.ledgerChange
  split <;> simp

@[simp] theorem State.advanceKeyGen_standing (s : State) (slot : Nat) :
    (s.advanceKeyGen slot).standing = s.standing := by
  simp [State.advanceKeyGen]

@[simp] theorem runDisputeResolve_standing (slot rs mask choice : Nat) (c : Caller) (s : State) :
    (runDisputeResolve slot rs mask choice c s).2.standing = s.standing := by
  simp [runDisputeResolve]

@[simp] theorem runLedgerRebase_standing (slot totals rates : Nat) (c : Caller) (s : State) :
    (runLedgerRebase slot totals rates c s).2.standing = s.standing := by
  simp [runLedgerRebase]

@[simp] theorem runLedgerGapClear_standing (slot : Nat) (c : Caller) (s : State) :
    (runLedgerGapClear slot c s).2.standing = s.standing := by
  simp [runLedgerGapClear]

@[simp] theorem ruleLedgerClass_keepsStanding : ruleLedgerClass.KeepsStanding := fun _ _ _ _ _ => rfl

@[simp] theorem ruleLedgerMeter_keepsStanding : ruleLedgerMeter.KeepsStanding := by
  intro s tenant inst old body
  simp [ruleLedgerMeter]

@[simp] theorem rulePrepayMeter_keepsStanding : rulePrepayMeter.KeepsStanding := by
  intro s tenant inst old body
  simp [rulePrepayMeter]

/-! ### Machine/Time.lean -/

@[simp] theorem State.advance_standing (s : State) (ticks : Nat) :
    (s.advance ticks).standing = s.standing := by
  unfold State.advance
  dsimp only
  simp

@[simp] theorem State.setTime_standing (s : State) (t : TimeSt) :
    (s.setTime t).standing = s.standing := by
  unfold State.setTime
  dsimp only
  repeat' split
  all_goals simp

@[simp] theorem State.setRef_standing (s : State) (i : Nat) (r : RefSt) :
    (s.setRef i r).standing = s.standing := by
  simp [State.setRef]

@[simp] theorem State.sample_standing (s : State) (i : Nat) (offset : Int) (delay : Nat) :
    (s.sample i offset delay).standing = s.standing := by
  simp [State.sample]

@[simp] theorem State.falsetickers_standing (s : State) :
    s.falsetickers.standing = s.standing := by
  simp [State.falsetickers]

@[simp] theorem State.select_standing (s : State) :
    s.select.standing = s.standing := by
  simp [State.select]

@[simp] theorem State.lockStep_standing (s : State) :
    s.lockStep.standing = s.standing := by
  unfold State.lockStep
  split <;> simp

@[simp] theorem State.applyStep_standing (s : State) :
    s.applyStep.standing = s.standing := by
  unfold State.applyStep
  split <;> simp

@[simp] theorem State.followPartner_standing (s : State) :
    s.followPartner.standing = s.standing := by
  simp [State.followPartner]

@[simp] theorem State.leavePartner_standing (s : State) :
    s.leavePartner.standing = s.standing := by
  simp [State.leavePartner]

@[simp] theorem State.seedAir_standing (s : State) :
    s.seedAir.standing = s.standing := by
  simp [State.seedAir]

@[simp] theorem State.seedLegal_standing (s : State) :
    s.seedLegal.standing = s.standing := by
  simp [State.seedLegal]

@[simp] theorem runTimeStep_standing (ns : Nat) (c : Caller) (s : State) :
    (runTimeStep ns c s).2.standing = s.standing := by
  simp [runTimeStep]

@[simp] theorem runTimeLeapSet_standing (day : Nat) (sign : Int) (c : Caller) (s : State) :
    (runTimeLeapSet day sign c s).2.standing = s.standing := by
  simp [runTimeLeapSet]

@[simp] theorem ruleTimeRef_keepsStanding : ruleTimeRef.KeepsStanding := fun _ _ _ _ _ => rfl

@[simp] theorem ruleTimePolicy_keepsStanding : ruleTimePolicy.KeepsStanding := fun _ _ _ _ _ => rfl

/-! ### Machine/Air.lean -/

@[simp] theorem State.setPlan_standing (s : State) (slot : Nat) (p : PlanMeter) :
    (s.setPlan slot p).standing = s.standing := by
  simp [State.setPlan]

@[simp] theorem State.countPoll_standing (s : State) (k : CtrName) (slot : Nat) (b : Nat) :
    (s.countPoll k slot b).standing = s.standing := by
  simp [State.countPoll]

@[simp] theorem State.journalPlan_standing (s : State) (slot : Nat) (l : List Nat) :
    (s.journalPlan slot l).standing = s.standing := by
  simp [State.journalPlan]

@[simp] theorem State.carryPlan_standing (s : State) (slot : Nat) :
    (s.carryPlan slot).standing = s.standing := by
  simp [State.carryPlan]

@[simp] theorem State.carryLaunch_standing (s : State) (e : Launch) :
    (s.carryLaunch e).standing = s.standing := by
  simp [State.carryLaunch]

@[simp] theorem State.deferPoll_standing (s : State) (slot : Nat) (cause : DeferCause) :
    (s.deferPoll slot cause).standing = s.standing := by
  simp [State.deferPoll]

@[simp] theorem State.airRestart_standing (s : State) :
    s.airRestart.standing = s.standing := by
  simp [State.airRestart]

@[simp] theorem State.dutyEvent_standing (s : State) (head b : Nat) :
    (s.dutyEvent head b).standing = s.standing := by
  simp [State.dutyEvent]

@[simp] theorem State.placeLaunch_standing (s : State) (e : Launch) (share : Nat) :
    (s.placeLaunch e share).standing = s.standing := by
  simp [State.placeLaunch]

@[simp] theorem State.placeHeads_standing (s : State) (half share most : Nat) (e : Launch) (heads : List Nat) :
    (s.placeHeads half share most e heads).1.standing = s.standing := by
  unfold State.placeHeads
  refine foldl_keeps (fun x : State × Nat × Option DeferCause => x.1.standing) _ (fun x h => ?_) _ _
  dsimp only
  repeat' split
  all_goals simp

@[simp] theorem State.withdraw_standing (s : State) (gid : Nat) :
    (s.withdraw gid).standing = s.standing := by
  simp [State.withdraw]

@[simp] theorem State.unbook_standing (s : State) (id : Nat) :
    (s.unbook id).standing = s.standing := by
  simp [State.unbook]

@[simp] theorem State.modStream_standing (s : State) (n : Nat) (f : Stream → Stream) :
    (s.modStream n f).standing = s.standing := by
  simp [State.modStream]

@[simp] theorem State.floodBack_standing (s : State) (n : Nat) :
    (s.floodBack n).standing = s.standing := by
  unfold State.floodBack
  dsimp only
  repeat' split
  all_goals simp

@[simp] theorem State.withdrawLaunch_standing (s : State) (e : Launch) :
    (s.withdrawLaunch e).standing = s.standing := by
  unfold State.withdrawLaunch
  split <;> simp

@[simp] theorem State.floodOver_standing (s : State) (n gid : Nat) :
    (s.floodOver n gid).standing = s.standing := by
  unfold State.floodOver
  split <;> simp

@[simp] theorem State.floodSent_standing (s : State) (e : Launch) (n : Nat) :
    (s.floodSent e n).standing = s.standing := by
  simp [State.floodSent]

@[simp] theorem State.cancelPoll_standing (s : State) (slot : Nat) (cause : DeferCause) :
    (s.cancelPoll slot cause).standing = s.standing := by
  unfold State.cancelPoll
  dsimp only
  repeat' split
  all_goals simp

@[simp] theorem State.carriedSent_standing (s : State) (slot tag : Nat) (c : Carried) :
    (s.carriedSent slot tag c).standing = s.standing := by
  unfold State.carriedSent
  dsimp only
  repeat' split
  all_goals simp

@[simp] theorem State.makeCommand_standing (s : State) (slot maxL rate delay : Nat) :
    (s.makeCommand slot maxL rate delay).2.standing = s.standing := by
  unfold State.makeCommand
  extract_lets r
  obtain ⟨carried, items⟩ := s.commandItems slot (maxL - 26)
  have h := State.meterKeyFor_standing s slot r.tenant r.keyGen
  dsimp only
  split
  · rfl
  · split
    · split <;> simp
    · split
      next t hk => rwa [hk] at h
      next key t hk =>
        rw [hk] at h
        simpa using h

@[simp] theorem State.planFollow_standing (s : State) (slot gid head band rate delay e : Nat) :
    (s.planFollow slot gid head band rate delay e).2.standing = s.standing := by
  unfold State.planFollow
  dsimp only
  split
  · rfl
  · split
    · rfl
    · split
      · rfl
      · have h := State.makeCommand_standing s slot (leaMaxL rate) rate delay
        split
        next t hm =>
          rw [hm] at h
          split <;> simpa using h
        next f t hm =>
          rw [hm] at h
          simpa using h

/-- The state that a try to launch leaves, made or put off. -/
def triedState {ε : Type} : Except (ε × State) State → State
  | .ok s => s
  | .error e => e.2

@[simp] theorem State.launchPoll_standing (s : State) (slot : Nat) (a : Aim) (learning : Bool) :
    (triedState (s.launchPoll slot a learning)).standing = s.standing := by
  have hp := @State.placeHeads_standing
  have hb := @State.book_standing
  have hf := @State.planFollow_standing
  have hd := @State.drawTag_standing
  obtain ⟨aim, ea⟩ : ∃ f, State.aimOf = f := ⟨_, rfl⟩
  obtain ⟨place, ep⟩ : ∃ f, State.placeHeads = f := ⟨_, rfl⟩
  obtain ⟨book, eb⟩ : ∃ f, State.book = f := ⟨_, rfl⟩
  obtain ⟨follow, ef⟩ : ∃ f, State.planFollow = f := ⟨_, rfl⟩
  obtain ⟨draw, ed⟩ : ∃ f, State.drawTag = f := ⟨_, rfl⟩
  rw [ep] at hp
  rw [eb] at hb
  rw [ef] at hf
  rw [ed] at hd
  rw [State.launchPoll, ea, ep, eb, ef, ed]
  split
  extract_lets +onlyGivenNames -underBinder start span e gid entry
  split
  · rfl
  next s₁ _ _ _ h₁ =>
  replace h₁ := congrArg (·.1.standing) h₁
  split
  · simp [triedState, hb]
  next id s₂ h₂ =>
  replace h₂ := congrArg (·.2.standing) h₂
  extract_lets +onlyGivenNames -underBinder head
  split
  next f s₃ h₃ =>
  replace h₃ := congrArg (·.2.standing) h₃
  split
  next tag s₄ h₄ =>
  replace h₄ := congrArg (·.2.standing) h₄
  simp only [hp, hb, hf, hd] at h₁ h₂ h₃ h₄
  simp [triedState, ← h₄, ← h₃, ← h₂, ← h₁]

@[simp] theorem State.launchFirst_standing (s : State) (slot : Nat) (learning : Bool) (l : List Aim) (why : Option DeferCause) :
    (triedState (s.launchFirst slot learning l why)).standing = s.standing := by
  induction l generalizing s why with
  | nil => rfl
  | cons a l ih =>
    have h := s.launchPoll_standing slot a learning
    unfold State.launchFirst
    split
    · rfl
    split
    next t ht => rwa [ht] at h
    next c t ht =>
      rw [ht] at h
      exact (ih t _).trans h

@[simp] theorem State.responseMissed_standing (s : State) (slot mode : Nat) :
    (s.responseMissed slot mode).standing = s.standing := by
  simp [State.responseMissed]

@[simp] theorem State.launchUnknown_standing (s : State) (e : Launch) :
    (s.launchUnknown e).standing = s.standing := by
  unfold State.launchUnknown
  dsimp only
  repeat' split
  all_goals simp

@[simp] theorem State.missed_standing (s : State) (slot : Nat) :
    (s.missed slot).standing = s.standing := by
  simp [State.missed]

@[simp] theorem State.planTo_standing (s : State) (slot : Nat) (st : PlanSt) :
    (s.planTo slot st).standing = s.standing := by
  simp [State.planTo]

@[simp] theorem State.airRefused_standing (s : State) (slot : Nat) :
    (s.airRefused slot).standing = s.standing := by
  unfold State.airRefused
  dsimp only
  repeat' split
  all_goals simp

@[simp] theorem State.airAccepted_standing (s : State) (slot : Nat) (desc : List Byte) (type tag : Nat) (wake : Bool) :
    (s.airAccepted slot desc type tag wake).standing = s.standing := by
  simp [State.airAccepted]

@[simp] theorem State.airObserve_standing (s : State) (slot start tag : Nat) (hasTag : Bool) (b : List Byte) :
    (s.airObserve slot start tag hasTag b).standing = s.standing := by
  unfold State.airObserve
  dsimp only
  repeat' split
  all_goals simp

@[simp] theorem State.placeResponse_standing (s : State) (slot mode : Nat) (desc : List Byte) :
    (s.placeResponse slot mode desc).standing = s.standing := by
  rw [State.placeResponse]
  split
  next c items hc =>
  split
  · rfl
  extract_lets frame span start hz half
  clear_value frame span start hz half
  refine standing_of_heads _ _ _ _ _ (fun b h => ?_) (by simp)
  extract_lets e
  generalize hx : (if s.time.air + _ ≤ start then _ else _) = x
  have hx : x.1.standing = s.standing := by
    rw [← hx]
    split
    · simp
    · rfl
  obtain ⟨v, n, why⟩ := x
  cases n with
  | zero => simp
  | succ n => simpa using hx

@[simp] theorem runAirPollNow_standing (slot request priority : Nat) (c : Caller) (s : State) :
    (runAirPollNow slot request priority c s).2.standing = s.standing := by
  simp [runAirPollNow]

@[simp] theorem runAirModelReset_standing (slot : Nat) (c : Caller) (s : State) :
    (runAirModelReset slot c s).2.standing = s.standing := by
  simp [runAirModelReset]

@[simp] theorem runAirLaunchCancel_standing (head b start : Nat) (c : Caller) (s : State) :
    (runAirLaunchCancel head b start c s).2.standing = s.standing := by
  unfold runAirLaunchCancel
  dsimp only
  repeat' split
  all_goals simp

@[simp] theorem runAirTxTest_standing (head antenna b carrier durMs : Nat) (c : Caller) (s : State) :
    (runAirTxTest head antenna b carrier durMs c s).2.standing = s.standing := by
  simp [runAirTxTest]

@[simp] theorem State.cancelWhere_standing (s : State) (p : State → Launch → Bool) :
    (s.cancelWhere p).standing = s.standing := by
  unfold State.cancelWhere
  refine State.standing_foldl (fun s e => ?_) _ _
  split <;> simp

@[simp] theorem ruleBand_keepsStanding : ruleBand.KeepsStanding := by
  intro s tenant inst old body
  simp [ruleBand]

@[simp] theorem ruleHeadAir_keepsStanding : ruleHeadAir.KeepsStanding := fun _ _ _ _ _ => rfl

@[simp] theorem ruleMeterClass_keepsStanding : ruleMeterClass.KeepsStanding := by
  intro s tenant inst old body
  simp [ruleMeterClass]

@[simp] theorem ruleMeterPlan_keepsStanding : ruleMeterPlan.KeepsStanding := by
  intro s tenant inst old body
  simp [ruleMeterPlan]

@[simp] theorem ruleAirPolicy_keepsStanding : ruleAirPolicy.KeepsStanding := fun _ _ _ _ _ => rfl

@[simp] theorem ruleLeaChannel_keepsStanding : ruleLeaChannel.KeepsStanding := by
  intro s tenant inst old body
  simp [ruleLeaChannel]

/-! ### Machine/Metrology.lean -/

@[simp] theorem State.losePhase_standing (s : State) (t p : Nat) :
    (s.losePhase t p).standing = s.standing := by
  simp [State.losePhase]

@[simp] theorem State.acquire_standing (s : State) (t : Nat) :
    (s.acquire t).standing = s.standing := by
  simp [State.acquire]

@[simp] theorem State.nominalChanged_standing (s : State) (t : Nat) (was60 : Bool) :
    (s.nominalChanged t was60).standing = s.standing := by
  unfold State.nominalChanged
  dsimp only
  repeat' split
  all_goals simp

@[simp] theorem State.metroUpdate_standing (s : State) (t : Nat) :
    (s.metroUpdate t).standing = s.standing := by
  simp [State.metroUpdate]

@[simp] theorem State.noCrossing_standing (s : State) (t : Nat) :
    (s.noCrossing t).standing = s.standing := by
  simp [State.noCrossing]

@[simp] theorem State.zoneReaches_standing (s : State) (t air : Nat) :
    (s.zoneReaches t air).standing = s.standing := by
  simp [State.zoneReaches]

@[simp] theorem State.judgeCrossing_standing (s : State) (trib phase air : Nat) :
    (s.judgeCrossing trib phase air).standing = s.standing := by
  simp [State.judgeCrossing]

@[simp] theorem State.zcExpire_standing (s : State) (t p : Nat) :
    (s.zcExpire t p).standing = s.standing := by
  unfold State.zcExpire
  dsimp only
  repeat' split
  all_goals simp

@[simp] theorem State.metroSample_standing (s : State) (t : Nat) (y : MetroSample) :
    (s.metroSample t y).standing = s.standing := by
  simp [State.metroSample]

@[simp] theorem State.setPulse_standing (s : State) (o : Nat) (p : Pulse) :
    (s.setPulse o p).standing = s.standing := by
  simp [State.setPulse]

@[simp] theorem State.feedPulse_standing (s : State) (t : Nat) (inc : Map Nat Nat) (o : Nat) :
    (s.feedPulse t inc o).standing = s.standing := by
  simp [State.feedPulse]

@[simp] theorem State.pulsesUnknown_standing (s : State) :
    s.pulsesUnknown.standing = s.standing := by
  simp [State.pulsesUnknown]

@[simp] theorem State.metroRestart_standing (s : State) :
    s.metroRestart.standing = s.standing := by
  simp [State.metroRestart]

@[simp] theorem State.writeIntervals_standing (s : State) :
    s.writeIntervals.standing = s.standing := by
  simp [State.writeIntervals]

@[simp] theorem State.closeInterval_standing (s : State) (t : Nat) :
    (s.closeInterval t).2.standing = s.standing := by
  unfold State.closeInterval
  dsimp only
  repeat' split
  all_goals simp

@[simp] theorem runMetroPulseTest_standing (o count : Nat) (c : Caller) (s : State) :
    (runMetroPulseTest o count c s).2.standing = s.standing := by
  unfold runMetroPulseTest
  refine gated_standing _ _ ?_
  simp

@[simp] theorem ruleMetroTrib_keepsStanding : ruleMetroTrib.KeepsStanding := by
  intro s tenant inst old body
  simp [ruleMetroTrib]

@[simp] theorem rulePulseOutput_keepsStanding : rulePulseOutput.KeepsStanding := by
  intro s tenant inst old body
  simp [rulePulseOutput]

/-! ### Machine/Balance.lean -/

@[simp] theorem State.setBalZone_standing (s : State) (z : Nat) (x : BalZone) :
    (s.setBalZone z x).standing = s.standing := by
  simp [State.setBalZone]

@[simp] theorem State.setBalMeter_standing (s : State) (slot : Nat) (x : BalMeterSt) :
    (s.setBalMeter slot x).standing = s.standing := by
  simp [State.setBalMeter]

@[simp] theorem State.creditPortion_standing (s : State) (slot z : Nat) (spread : Bool) (typ : Int) (p : Nat × Nat × Int) :
    (s.creditPortion slot z spread typ p).standing = s.standing := by
  unfold State.creditPortion
  dsimp only
  repeat' split
  all_goals simp

@[simp] theorem State.creditSpan_standing (s : State) (slot : Nat) (r : MeterRec) (c : Credit) :
    (s.creditSpan slot r c).standing = s.standing := by
  simp [State.creditSpan]

@[simp] theorem State.creditBalance_standing (s : State) (slot : Nat) (r : MeterRec) (done : List (Interval × Rated)) :
    (s.creditBalance slot r done).standing = s.standing := by
  unfold State.creditBalance
  dsimp only
  repeat' split
  all_goals simp

@[simp] theorem State.enrol_standing (s : State) (z start : Nat) :
    (s.enrol z start).standing = s.standing := by
  simp [State.enrol]

@[simp] theorem State.balDetect_standing (s : State) (z : Nat) :
    (s.balDetect z).standing = s.standing := by
  simp [State.balDetect]

@[simp] theorem State.balWrite_standing (s : State) (r : BalResult) :
    (s.balWrite r).standing = s.standing := by
  simp [State.balWrite]

@[simp] theorem State.castVote_standing (s : State) (slot : Nat) (vote : Option Nat) :
    (s.castVote slot vote).standing = s.standing := by
  simp [State.castVote]

@[simp] theorem State.lingVote_standing (s : State) (slot phase : Nat) (offset : Int) :
    (s.lingVote slot phase offset).standing = s.standing := by
  simp [State.lingVote]

@[simp] theorem State.crossingVote_standing (s : State) (slot startAir lag : Nat) :
    (s.crossingVote slot startAir lag).standing = s.standing := by
  unfold State.crossingVote
  dsimp only
  repeat' split
  all_goals simp

@[simp] theorem runBalFit_standing (z first count : Nat) (c : Caller) (s : State) :
    (runBalFit z first count c s).2.standing = s.standing := by
  unfold runBalFit
  refine gated_standing _ _ ?_
  dsimp only
  repeat' split
  all_goals simp

@[simp] theorem runBalPhaseReset_standing (slot : Nat) (c : Caller) (s : State) :
    (runBalPhaseReset slot c s).2.standing = s.standing := by
  simp [runBalPhaseReset]

@[simp] theorem ruleZone_keepsStanding : ruleZone.KeepsStanding := by
  intro s tenant inst old body
  simp [ruleZone]

@[simp] theorem ruleBalMeter_keepsStanding : ruleBalMeter.KeepsStanding := fun _ _ _ _ _ => rfl

@[simp] theorem ruleBalPolicy_keepsStanding : ruleBalPolicy.KeepsStanding := fun _ _ _ _ _ => rfl

/-! ### Machine/Exports.lean -/

@[simp] theorem State.heBacklog_standing (s : State) (i : Nat) :
    (s.heBacklog i).standing = s.standing := by
  simp [State.heBacklog]

@[simp] theorem State.sendExport_standing (s : State) (i : Nat) (key : List Byte) (e : Export) :
    (s.sendExport i key e).standing = s.standing := by
  simp [State.sendExport]

@[simp] theorem State.releaseSession_standing (s : State) (i : Nat) :
    (s.releaseSession i).standing = s.standing := by
  unfold State.releaseSession
  extract_lets t x l ten
  have ht : t.standing = s.standing := State.heBacklog_standing s i
  clear_value t
  have h := State.bind_standing t ten 4 ten
  split
  · exact ht
  split
  · exact ht
  split
  next key u hb =>
    rw [hb] at h
    simp [← ht, ← h]
  next u hb =>
    rw [hb] at h
    split <;> simp [← ht, ← h]

@[simp] theorem State.releaseExports_standing (s : State) :
    s.releaseExports.standing = s.standing := by
  simp [State.releaseExports]

@[simp] theorem State.sendEvents_standing (s : State) :
    s.sendEvents.standing = s.standing := by
  unfold State.sendEvents
  extract_lets l p t
  have ht : t.standing = s.standing := by simp only [t, p, State.standing_mk, State.standing_eta]
  refine (State.standing_foldl (fun u x => ?_) _ _).trans ht
  have h := State.bind_standing u (u.heTenant x.1) 4 (u.heTenant x.1)
  split
  · rfl
  · dsimp only
    split
    next key v hb =>
      rw [hb] at h
      split <;> simp [h]
    next v hb => rwa [hb] at h

@[simp] theorem State.closeUnreached_standing (s : State) :
    s.closeUnreached.standing = s.standing := by
  simp [State.closeUnreached]

@[simp] theorem State.closeHead_standing (s : State) (i : Nat) (cause : HeCause) :
    (s.closeHead i cause).standing = s.standing := by
  simp [State.closeHead]

@[simp] theorem State.closeHeads_standing (s : State) (cause : HeCause) :
    (s.closeHeads cause).standing = s.standing := by
  simp [State.closeHeads]

/-! ### Machine/Flood.lean -/

@[simp] theorem State.openStream_standing (s : State) (x : Stream) :
    (s.openStream x).standing = s.standing := by
  simp [State.openStream]

@[simp] theorem State.pauseStream_standing (s : State) (x : Stream) (cause : Nat) :
    (s.pauseStream x cause).standing = s.standing := by
  simp [State.pauseStream]

@[simp] theorem State.resumeStreams_standing (s : State) :
    s.resumeStreams.standing = s.standing := by
  simp [State.resumeStreams]

@[simp] theorem State.deferFlood_standing (s : State) (x : Stream) (w f : Nat) (cause : DeferCause) :
    (s.deferFlood x w f cause).standing = s.standing := by
  simp [State.deferFlood]

@[simp] theorem State.launchFlood_standing (s : State) (x : Stream) (w f : Nat) :
    (s.launchFlood x w f).standing = s.standing := by
  unfold State.launchFlood
  dsimp only
  split
  · simp
  next p _ =>
    have h := fun a b c d e => State.placeHeads_standing s a b c d e
    split
    · simp
    next t _ _ _ ht =>
      have ht := (congrArg (·.1.standing) ht).symm.trans (h _ _ _ _ _)
      dsimp only at ht
      have hb := State.bind_standing t x.tenant x.keySlot x.tenant
      split
      next u hu =>
        rw [hu] at hb
        simp [← ht, ← hb]
      next key u hu =>
        rw [hu] at hb
        simp [← ht, ← hb]

@[simp] theorem runFloodStreamOpen_standing (x : Stream) (c : Caller) (s : State) :
    (runFloodStreamOpen x c s).2.standing = s.standing := by
  simp [runFloodStreamOpen]

@[simp] theorem runFloodBlockWrite_standing (stream block : Nat) (b : List Byte) (c : Caller) (s : State) :
    (runFloodBlockWrite stream block b c s).2.standing = s.standing := by
  simp [runFloodBlockWrite]

@[simp] theorem runFloodStreamStart_standing (stream : Nat) (c : Caller) (s : State) :
    (runFloodStreamStart stream c s).2.standing = s.standing := by
  simp [runFloodStreamStart]

@[simp] theorem State.closeStream_standing (s : State) (n : Nat) :
    (s.closeStream n).standing = s.standing := by
  simp [State.closeStream]

@[simp] theorem runFloodStreamClose_standing (stream : Nat) (c : Caller) (s : State) :
    (runFloodStreamClose stream c s).2.standing = s.standing := by
  simp [runFloodStreamClose]

@[simp] theorem runFloodMeterSetup_standing (slot role hop : Nat) (c : Caller) (s : State) :
    (runFloodMeterSetup slot role hop c s).2.standing = s.standing := by
  simp [runFloodMeterSetup]

@[simp] theorem runFloodTimeSend_standing (c : Caller) (s : State) :
    (runFloodTimeSend c s).2.standing = s.standing := by
  simp [runFloodTimeSend]

@[simp] theorem runTariffPlanFlood_standing (plan version stream keySlot target rounds : Nat) (c : Caller) (s : State) :
    (runTariffPlanFlood plan version stream keySlot target rounds c s).2.standing = s.standing := by
  simp [runTariffPlanFlood]

@[simp] theorem ruleFloodSchedule_keepsStanding : ruleFloodSchedule.KeepsStanding := by
  intro s tenant inst old body
  simp [ruleFloodSchedule]

/-! ### Machine/Ling.lean -/

@[simp] theorem State.setLingTrib_standing (s : State) (t : Nat) (x : LingTrib) :
    (s.setLingTrib t x).standing = s.standing := by
  simp [State.setLingTrib]

@[simp] theorem State.setLingMeter_standing (s : State) (slot : Nat) (x : LingMeterSt) :
    (s.setLingMeter slot x).standing = s.standing := by
  simp [State.setLingMeter]

@[simp] theorem State.lingDefer_standing (s : State) (t : Nat) (meter : Option Nat) (c : LingCause) :
    (s.lingDefer t meter c).standing = s.standing := by
  unfold State.lingDefer
  split <;> simp

@[simp] theorem State.lingClose_standing (s : State) (t endAir upTo : Nat) :
    (s.lingClose t endAir upTo).standing = s.standing := by
  unfold State.lingClose
  dsimp only
  repeat' split
  all_goals simp

@[simp] theorem State.lingAbort_standing (s : State) (t : Nat) (c : LingCause) :
    (s.lingAbort t c).standing = s.standing := by
  unfold State.lingAbort
  dsimp only
  repeat' split
  all_goals simp

@[simp] theorem State.lingMissed_standing (s : State) (t : Nat) (f : LingFrame) :
    (s.lingMissed t f).standing = s.standing := by
  simp [State.lingMissed]

@[simp] theorem State.lingUpdate_standing (s : State) (t : Nat) :
    (s.lingUpdate t).standing = s.standing := by
  simp [State.lingUpdate]

@[simp] theorem State.lingEnable_standing (s : State) (t reason : Nat) :
    (s.lingEnable t reason).2.standing = s.standing := by
  simp [State.lingEnable]

@[simp] theorem State.lingEnded_standing (s : State) (t : Nat) :
    (s.lingEnded t).standing = s.standing := by
  simp [State.lingEnded]

@[simp] theorem State.lingRestart_standing (s : State) :
    s.lingRestart.standing = s.standing := by
  simp [State.lingRestart]

@[simp] theorem State.lingBoot_standing (s : State) :
    s.lingBoot.standing = s.standing := by
  simp [State.lingBoot]

@[simp] theorem State.lingShort_standing (s : State) (t : Nat) (c : LingCause) :
    (s.lingShort t c).standing = s.standing := by
  unfold State.lingShort
  split <;> simp

@[simp] theorem State.lingSeed_standing (s : State) (t : Nat) :
    (s.lingSeed t).2.standing = s.standing := by
  simp [State.lingSeed]

theorem State.lingPut_standing {s : State} {t kind meter tag level delay : Nat} {payload : List Byte} {c : Carried} {u : State}
    (h : s.lingPut t kind meter tag level delay payload c = .ok u) : u.standing = s.standing := by
  have hs := State.lingSeed_standing s t
  rw [State.lingPut] at h
  generalize s.lingSeed t = o at h hs
  obtain ⟨seed, v⟩ := o
  generalize decide (kind = 2) = call at h
  split at h
  · simp at h
  have h := ok_of_guard (ok_of_guard h)
  simp only [Except.ok.injEq] at h
  subst h
  simpa using hs

@[simp] theorem State.lingTurned_standing (s : State) (t : Nat) (meter : Option Nat) (c : LingCause) :
    (s.lingTurned t meter c).standing = s.standing := by
  simp [State.lingTurned]

@[simp] theorem State.lingPoll_standing (s : State) (t slot : Nat) :
    (s.lingPoll t slot).standing = s.standing := by
  have hd := State.drawTag_standing s
  rw [State.lingPoll]
  generalize s.drawTag = o at hd ⊢
  obtain ⟨tag, s'⟩ := o
  split
  next n v hv =>
  cases hv
  extract_lets req frame
  split
  · simp
  next u hu =>
    simp [State.lingPut_standing hu, hd]

@[simp] theorem State.lingCommand_standing (s : State) (t slot : Nat) :
    (s.lingCommand t slot).standing = s.standing := by
  have hm := State.makeCommand_standing s slot 255 0 (s.rd Rec.MeterClass.DelayCode (s.planClass slot))
  rw [State.lingCommand]
  generalize s.makeCommand slot 255 0 _ = m at hm ⊢
  obtain ⟨f, s₁⟩ := m
  replace hm : s₁.standing = s.standing := hm
  cases hcmd : (s.lingMeterSt slot).cmd
  case' some => simp only []
  case' none =>
    simp only []
    generalize hx : s₁.setLingMeter slot _ = x
    replace hm : x.standing = s.standing := by simp [← hx, hm]
  all_goals
    split
    · simp [hm]
    split
    · simp [hm]
    split
    · simp [hm]
    split
    · simp [hm]
    next g _ _ _ _ u hu =>
      have hp := State.lingPut_standing hu
      cases g.carried.safe <;> dsimp only <;> split <;> simp [hp, hm]

@[simp] theorem State.lingLearn_standing (s : State) (f : LingFrame) (matched : Nat) :
    (s.lingLearn f matched).standing = s.standing := by
  simp [State.lingLearn]

@[simp] theorem State.lingAccepted_standing (s : State) (slot level type tag : Nat) :
    (s.lingAccepted slot level type tag).standing = s.standing := by
  simp [State.lingAccepted]

@[simp] theorem State.lingRefused_standing (s : State) (slot : Nat) :
    (s.lingRefused slot).standing = s.standing := by
  simp [State.lingRefused]

@[simp] theorem runLingTxEnable_standing (t : Nat) (c : Caller) (s : State) :
    (runLingTxEnable t c s).2.standing = s.standing := by
  simp [runLingTxEnable]

@[simp] theorem runLingTxDisable_standing (t : Nat) (c : Caller) (s : State) :
    (runLingTxDisable t c s).2.standing = s.standing := by
  simp [runLingTxDisable]

@[simp] theorem runLingPollNow_standing (slot request priority : Nat) (c : Caller) (s : State) :
    (runLingPollNow slot request priority c s).2.standing = s.standing := by
  simp [runLingPollNow]

@[simp] theorem ruleLingTrib_keepsStanding : ruleLingTrib.KeepsStanding := fun _ _ _ _ _ => rfl

@[simp] theorem ruleLingMeter_keepsStanding : ruleLingMeter.KeepsStanding := by
  intro s tenant inst old body
  simp [ruleLingMeter]

@[simp] theorem ruleLingPolicy_keepsStanding : ruleLingPolicy.KeepsStanding := fun _ _ _ _ _ => rfl

/-! ### Machine/Security.lean -/

@[simp] theorem State.dirInsert_standing (s : State) (slot : Nat) :
    (s.dirInsert slot).standing = s.standing := by
  unfold State.dirInsert
  split <;> simp

@[simp] theorem State.secRestart_standing (s : State) :
    s.secRestart.standing = s.standing := by
  simp [State.secRestart]

@[simp] theorem State.audit_standing (s : State) (f : SecFrame) (reason : Reason) (rule position : Nat) (plain : Bool) :
    (s.audit f reason rule position plain).standing = s.standing := by
  simp [State.audit]

@[simp] theorem State.reasoned_standing (s : State) (f : SecFrame) (reason : Reason) :
    (s.reasoned f reason).standing = s.standing := by
  simp [State.reasoned]

@[simp] theorem State.unaccepted_standing (s : State) (h : HandedFrame) (copied : Bool) :
    (s.unaccepted h copied).standing = s.standing := by
  simp [State.unaccepted]

@[simp] theorem State.endFrame_standing (s : State) (f : SecFrame) (reason : Reason) (rule : Nat) (plain : Bool) :
    (s.endFrame f reason rule plain).standing = s.standing := by
  simp [State.endFrame]

@[simp] theorem State.swardLookup_standing (s : State) (slot tenant : Nat) (f : List Byte) :
    (s.swardLookup slot tenant f).2.standing = s.standing := by
  unfold State.swardLookup
  dsimp only
  repeat' split
  all_goals simp

@[simp] theorem State.unknownMeter_standing (s : State) (address mode : Nat) :
    (s.unknownMeter address mode).standing = s.standing := by
  simp [State.unknownMeter]

@[simp] theorem State.badFrame_standing (s : State) (f : SecFrame) (reason : Reason) :
    (s.badFrame f reason).standing = s.standing := by
  unfold State.badFrame
  split <;> simp

@[simp] theorem State.stageKey_standing (s : State) (f : SecFrame) : (s.stageKey f).2.standing = s.standing := by
  unfold State.stageKey
  have h := State.meterKeyFor_standing s f.slot f.tenant f.gen
  extract_lets fr
  split
  · rfl
  split
  · rfl
  split
  next t hk => rwa [hk] at h
  next key t hk =>
    rw [hk] at h
    dsimp only
    split <;> simpa using h

@[simp] theorem State.stagesFirst_standing (s : State) (h : HandedFrame) :
    (s.stagesFirst h).standing = s.standing := by
  rw [State.stagesFirst]
  split
  · simp
  split
  · simp
  next p _ _ slot _ =>
    extract_lets f
    clear_value f
    split
    · simp
    split
    · simp
    split
    next dup t hd =>
      have ht : t.standing = s.standing := by
        split at hd
        · have hl := State.swardLookup_standing s slot f.tenant (if h.mode ≤ 2 then h.frame.take (leAt h.frame 0 1 + 1) else h.frame)
          rwa [hd] at hl
        · cases hd; rfl
      have hk := State.stageKey_standing t f
      split
      · simp [ht]
      split
      · simp [ht]
      split
      next r u hu =>
        rw [hu] at hk
        simp [ht, hk]
      next g u hu =>
        rw [hu] at hk
        simp [ht, hk]

@[simp] theorem State.unsolicited_standing (s : State) (f : SecFrame) :
    (s.unsolicited f).standing = s.standing := by
  simp [State.unsolicited]

@[simp] theorem State.accepted_standing (s : State) (f : SecFrame) :
    (s.accepted f).standing = s.standing := by
  simp [State.accepted]

@[simp] theorem State.quarantineFrame_standing (s : State) (f : SecFrame) (rule : Nat) :
    (s.quarantineFrame f rule).standing = s.standing := by
  simp [State.quarantineFrame]

@[simp] theorem State.stagesLast_standing (s : State) (f : SecFrame) :
    (s.stagesLast f).standing = s.standing := by
  unfold State.stagesLast
  dsimp only
  repeat' split
  all_goals simp

@[simp] theorem runSecMeterKeySet_standing (slot keyBits : Nat) (blob : List Byte) (c : Caller) (s : State) :
    (runSecMeterKeySet slot keyBits blob c s).2.standing = s.standing := by
  unfold runSecMeterKeySet
  refine gated_standing _ _ ?_
  dsimp only
  have h := State.bind_standing s (s.meterTenant slot) 1 (s.meterTenant slot)
  split
  next t hb => rwa [hb] at h
  next kek t hb =>
    rw [hb] at h
    split
    · exact h
    · simpa using h

@[simp] theorem runSecKeygenAdvance_standing (slot : Nat) (c : Caller) (s : State) :
    (runSecKeygenAdvance slot c s).2.standing = s.standing := by
  simp [runSecKeygenAdvance]

@[simp] theorem State.qDrop_standing (s : State) (slot counter : Nat) :
    (s.qDrop slot counter).standing = s.standing := by
  simp [State.qDrop]

@[simp] theorem runQuarantineRelease_standing (slot counter : Nat) (c : Caller) (s : State) :
    (runQuarantineRelease slot counter c s).2.standing = s.standing := by
  unfold runQuarantineRelease
  split <;> simp

@[simp] theorem runQuarantineDelete_standing (slot counter : Nat) (c : Caller) (s : State) :
    (runQuarantineDelete slot counter c s).2.standing = s.standing := by
  simp [runQuarantineDelete]

@[simp] theorem ruleSwardPolicy_keepsStanding : ruleSwardPolicy.KeepsStanding := fun _ _ _ _ _ => rfl

@[simp] theorem State.bindAnew_standing (s : State) (slot : Nat) :
    (s.bindAnew slot).standing = s.standing := by
  simp [State.bindAnew]

@[simp] theorem State.bindMeter_standing (s : State) (tenant slot old b : Nat) :
    (s.bindMeter tenant slot old b).standing = s.standing := by
  simp [State.bindMeter]

@[simp] theorem ruleMeterSec_keepsStanding : ruleMeterSec.KeepsStanding := by
  intro s tenant inst old body
  simp [ruleMeterSec]

@[simp] theorem ruleRuleTable_keepsStanding : ruleRuleTable.KeepsStanding := fun _ _ _ _ _ => rfl

@[simp] theorem ruleSecPolicy_keepsStanding : ruleSecPolicy.KeepsStanding := fun _ _ _ _ _ => rfl

/-! ### Machine/Ledger.lean -/

@[simp] theorem State.floodReport_standing (s : State) (slot : Nat) (b : List Byte) :
    (s.floodReport slot b).standing = s.standing := by
  simp [State.floodReport]

@[simp] theorem State.activateResult_standing (s : State) (slot : Nat) (b : List Byte) :
    (s.activateResult slot b).standing = s.standing := by
  simp [State.activateResult]

@[simp] theorem State.otherItems_standing (s : State) (slot : Nat) (f : SecFrame) (items : List Item) :
    (s.otherItems slot f items).standing = s.standing := by
  unfold State.otherItems
  dsimp only
  repeat' split
  all_goals simp

@[simp] theorem Applying.badRegs_standing (a : Applying) (slot : Nat) (l : List (Nat × Nat)) :
    (Applying.badRegs a slot l).s.standing = a.s.standing := by
  simp [Applying.badRegs]

@[simp] theorem Applying.badProfile_standing (a : Applying) (slot : Nat) (l : List (Nat × Nat)) :
    (Applying.badProfile a slot l).s.standing = a.s.standing := by
  simp [Applying.badProfile]

@[simp] theorem Applying.clockSteps_standing (a : Applying) (slot t9 : Nat) (l : List ClockStep) :
    (Applying.clockSteps a slot t9 l).s.standing = a.s.standing := by
  simp [Applying.clockSteps]

@[simp] theorem Applying.totalRegs_standing (a : Applying) (slot : Nat) (l : List (RegTarget × Nat)) :
    (Applying.totalRegs a slot l).s.standing = a.s.standing := by
  unfold Applying.totalRegs
  refine Applying.standing_foldl (fun a e => ?_) _ _
  split <;> simp

@[simp] theorem Applying.rateRegs_standing (a : Applying) (slot time : Nat) (l : List (RegTarget × Nat)) :
    (Applying.rateRegs a slot time l).s.standing = a.s.standing := by
  unfold Applying.rateRegs
  refine Applying.standing_foldl (fun a e => ?_) _ _
  split <;> simp

@[simp] theorem Applying.intervals_standing (a : Applying) (slot t9 : Nat) (l : List Interval) :
    (Applying.intervals a slot t9 l).1.s.standing = a.s.standing := by
  unfold Applying.intervals
  exact foldl_keeps (fun x : Applying × Map Nat Nat × List (Interval × Rated) => x.1.s.standing) _
    (fun x i => Applying.interval_standing slot t9 x i) _ _

@[simp] theorem State.auditTaken_standing (s : State) (f : SecFrame) (position : Nat) :
    (s.auditTaken f position).standing = s.standing := by
  simp [State.auditTaken]

@[simp] theorem State.ringPut_standing (s : State) (slot : Nat) (f : SecFrame) :
    (s.ringPut slot f).standing = s.standing := by
  simp [State.ringPut]

@[simp] theorem State.applyItems_standing (s : State) (slot : Nat) (f : SecFrame) : (s.applyItems slot f).1.s.standing = s.standing := by
  simp [State.applyItems]

@[simp] theorem State.applyFrame_standing (s : State) (slot : Nat) (f : SecFrame) :
    (s.applyFrame slot f).standing = s.standing := by
  unfold State.applyFrame
  extract_lets c
  split
  · simp
  have h := State.applyItems_standing s slot f
  generalize s.applyItems slot f = o at h ⊢
  obtain ⟨a, done⟩ := o
  simp [h]

@[simp] theorem State.carryMeter_standing (s : State) (slot : Nat) :
    (s.carryMeter slot).standing = s.standing := by
  simp [State.carryMeter]

@[simp] theorem State.drawTable_standing (s : State) (n w : Nat) :
    (s.drawTable n w).2.standing = s.standing := by
  unfold State.drawTable
  exact foldl_keeps (fun x : Map Nat Nat × State => x.2.standing) _ (fun x i => by simp) _ _

@[simp] theorem State.rebuildMeter_standing (s : State) (slot : Nat) :
    (s.rebuildMeter slot).standing = s.standing := by
  unfold State.rebuildMeter
  split <;> simp

@[simp] theorem State.commitReady_standing (s : State) (ready : JEntry → Bool) :
    (s.commitReady ready).standing = s.standing := by
  simp [State.commitReady]

@[simp] theorem State.commitSweep_standing (s : State) :
    s.commitSweep.standing = s.standing := by
  unfold State.commitSweep
  split <;> simp

@[simp] theorem State.sendFinal_standing (s : State) :
    s.sendFinal.standing = s.standing := by
  simp [State.sendFinal]

@[simp] theorem State.takeAck_standing (s : State) (position : Nat) :
    (s.takeAck position).standing = s.standing := by
  unfold State.takeAck
  dsimp only
  repeat' split
  all_goals simp

/-! ### Machine/Flash.lean -/

@[simp] theorem State.setDie_standing (s : State) (c d : Nat) (x : Die) :
    (s.setDie c d x).standing = s.standing := by
  simp [State.setDie]

@[simp] theorem State.leaveDie_standing (s : State) (k : Nat) :
    (s.leaveDie k).standing = s.standing := by
  simp [State.leaveDie]

@[simp] theorem State.formatDie_standing (s : State) (p : ParamPage) :
    (s.formatDie p).standing = s.standing := by
  simp [State.formatDie]

@[simp] theorem State.identifyDies_standing (s : State) (l : List ParamPage) :
    (s.identifyDies l).standing = s.standing := by
  unfold State.identifyDies
  dsimp only
  repeat' split
  all_goals simp

@[simp] theorem State.reclaimClass_standing (s : State) (p : Nat) :
    (s.reclaimClass p).standing = s.standing := by
  simp [State.reclaimClass]

@[simp] theorem State.setBlock_standing (s : State) (k : Nat × Nat × Nat) (x : BlockSt) :
    (s.setBlock k x).standing = s.standing := by
  simp [State.setBlock]

@[simp] theorem State.loseValid_standing (s : State) (k : Nat × Nat × Nat) :
    (s.loseValid k).standing = s.standing := by
  unfold State.loseValid
  split <;> simp

@[simp] theorem State.putPage_standing (s : State) (p : Nat × Nat × Nat) (k : Nat × Nat × Nat) :
    (s.putPage p k).standing = s.standing := by
  unfold State.putPage
  split <;> simp

@[simp] theorem State.freePage_standing (s : State) (p : Nat × Nat × Nat) :
    (s.freePage p).standing = s.standing := by
  unfold State.freePage
  split <;> simp

@[simp] theorem State.eraseBlock_standing (s : State) (k : Nat × Nat × Nat) :
    (s.eraseBlock k).standing = s.standing := by
  unfold State.eraseBlock
  dsimp only
  repeat' split
  all_goals simp

theorem State.copyPages_standing (into : List (Nat × Nat × Nat)) (l : List (Nat × Nat × Nat)) (s t : State)
    (h : s.copyPages into l = some t) : t.standing = s.standing := by
  induction l generalizing s with
  | nil =>
    cases h
    rfl
  | cons p l ih =>
    unfold State.copyPages at h
    split at h
    · cases h
    · exact (ih _ h).trans (by simp)

/-! ### Machine/Store.lean -/

@[simp] theorem State.retireBlock_standing (s : State) (c d block : Nat) :
    (s.retireBlock c d block).standing = s.standing := by
  simp [State.retireBlock]

@[simp] theorem State.failDie_standing (s : State) (c d cause : Nat) :
    (s.failDie c d cause).standing = s.standing := by
  simp [State.failDie]

@[simp] theorem State.dieOp_standing (s : State) (c d : Nat) (ok : Bool) :
    (s.dieOp c d ok).standing = s.standing := by
  simp [State.dieOp]

@[simp] theorem State.lose_standing (s : State) (tenant kind first n : Nat) :
    (s.lose tenant kind first n).standing = s.standing := by
  simp [State.lose]

@[simp] theorem State.dropOpen_standing (s : State) (zone : Nat) :
    (s.dropOpen zone).standing = s.standing := by
  simp [State.dropOpen]

@[simp] theorem State.itemLost_standing (s : State) (tenant first : Nat) :
    (s.itemLost tenant first).standing = s.standing := by
  simp [State.itemLost]

@[simp] theorem State.loseContent_standing (s : State) (content tenant first n : Nat) :
    (s.loseContent content tenant first n).standing = s.standing := by
  unfold State.loseContent
  split <;> simp

@[simp] theorem State.eraseSlots_standing (s : State) :
    s.eraseSlots.standing = s.standing := by
  simp [State.eraseSlots]

@[simp] theorem State.pruneJournal_standing (s : State) :
    s.pruneJournal.standing = s.standing := by
  unfold State.pruneJournal
  split <;> simp

@[simp] theorem State.streamFrom_standing (s : State) (ps : Nat) (l : List JEntry) :
    (s.streamFrom ps l).standing = s.standing := by
  simp [State.streamFrom]

@[simp] theorem State.streamGeneration_standing (s : State) (g : Generation) :
    (s.streamGeneration g).standing = s.standing := by
  simp [State.streamGeneration]

@[simp] theorem State.reclaimArchive_standing (s : State) (gone : ArchRec → Bool) :
    (s.reclaimArchive gone).standing = s.standing := by
  simp [State.reclaimArchive]

@[simp] theorem State.reclaimAged_standing (s : State) (t : Nat) :
    (s.reclaimAged t).standing = s.standing := by
  simp [State.reclaimAged]

@[simp] theorem State.reclaimOldest_standing (s : State) (t : Nat) :
    (s.reclaimOldest t).standing = s.standing := by
  unfold State.reclaimOldest
  dsimp only
  repeat' split
  all_goals simp

@[simp] theorem State.moveBlock_standing (s : State) (a b : Nat × Nat × Nat) :
    (s.moveBlock a b).standing = s.standing := by
  unfold State.moveBlock
  split <;> simp

@[simp] theorem State.lineLost_standing (s : State) (area subject : Nat) :
    (s.lineLost area subject).standing = s.standing := by
  unfold State.lineLost
  split <;> simp

@[simp] theorem State.integrity_standing (s : State) (area subject cause : Nat) :
    (s.integrity area subject cause).standing = s.standing := by
  simp [State.integrity]

@[simp] theorem runCheckpointNow_standing (c : Caller) (s : State) :
    (runCheckpointNow c s).2.standing = s.standing := by
  simp [runCheckpointNow]

@[simp] theorem runDieRetire_standing (channel die : Nat) (c : Caller) (s : State) :
    (runDieRetire channel die c s).2.standing = s.standing := by
  unfold runDieRetire
  refine gated_standing _ _ ?_
  simp

@[simp] theorem State.freeNamespace_standing (s : State) (t : Nat) :
    (s.freeNamespace t).standing = s.standing := by
  simp [State.freeNamespace]

@[simp] theorem runNamespaceFormat_standing (t : Nat) (c : Caller) (s : State) :
    (runNamespaceFormat t c s).2.standing = s.standing := by
  simp [runNamespaceFormat]

@[simp] theorem rulePartition_keepsStanding : rulePartition.KeepsStanding := by
  intro s tenant inst old body
  simp [rulePartition]

@[simp] theorem ruleStorePolicy_keepsStanding : ruleStorePolicy.KeepsStanding := fun _ _ _ _ _ => rfl

/-! ### Machine/Ports.lean -/

@[simp] theorem State.tlsFailed_standing (s : State) (i alert : Nat) :
    (s.tlsFailed i alert).standing = s.standing := by
  simp [State.tlsFailed]

@[simp] theorem State.exportAck_standing (s : State) (i : Nat) (body : List Byte) :
    (s.exportAck i body).standing = s.standing := by
  simp [State.exportAck]

@[simp] theorem State.tunnelMessage_unasked (s : State) (i : Nat) (body : List Byte) :
    (s.tunnelMessage i body).standing.unasked = s.standing.unasked := by
  unfold State.tunnelMessage
  dsimp only
  repeat' split
  all_goals simp

@[simp] theorem State.heDrop_standing (s : State) (i : Nat) :
    (s.heDrop i).standing = s.standing := by
  unfold State.heDrop
  dsimp only
  repeat' split
  all_goals simp

@[simp] theorem State.pruneExports_standing (s : State) :
    s.pruneExports.standing = s.standing := by
  simp [State.pruneExports]

@[simp] theorem State.linkMoved_standing (s : State) (kind port : Nat) (up : Bool) :
    (s.linkMoved kind port up).standing = s.standing := by
  simp [State.linkMoved]

@[simp] theorem runSessionReset_standing (session : Nat) (c : Caller) (s : State) :
    (runSessionReset session c s).2.standing = s.standing := by
  simp [runSessionReset]

@[simp] theorem runExportRewind_standing (session position index : Nat) (c : Caller) (s : State) :
    (runExportRewind session position index c s).2.standing = s.standing := by
  simp [runExportRewind]

@[simp] theorem State.cycleSessions_standing (s : State) (p : Nat) :
    (s.cycleSessions p).standing = s.standing := by
  simp [State.cycleSessions]

@[simp] theorem ruleBackhaulPort_keepsStanding : ruleBackhaulPort.KeepsStanding := by
  intro s tenant inst old body
  simp [ruleBackhaulPort]

@[simp] theorem ruleHeadEnd_keepsStanding : ruleHeadEnd.KeepsStanding := by
  intro s tenant inst old body
  simp [ruleHeadEnd]

/-! ### Machine/Reset.lean -/

@[simp] theorem State.cancelUnlocked_standing (s : State) :
    s.cancelUnlocked.standing = s.standing := by
  unfold State.cancelUnlocked
  refine State.standing_foldl (fun s e => ?_) _ _
  split <;> simp

@[simp] theorem State.pulsesInactive_standing (s : State) :
    s.pulsesInactive.standing = s.standing := by
  simp [State.pulsesInactive]

@[simp] theorem State.startSave_standing (s : State) :
    s.startSave.standing = s.standing := by
  simp [State.startSave]

@[simp] theorem State.setRoll_standing (s : State) (step : Nat) :
    (s.setRoll step).standing = s.standing := by
  simp [State.setRoll]

@[simp] theorem State.endRoll_standing (s : State) (outcome : Nat) :
    (s.endRoll outcome).standing = s.standing := by
  unfold State.endRoll
  split <;> simp

@[simp] theorem State.campaignsAgain_standing (s : State) :
    s.campaignsAgain.standing = s.standing := by
  simp [State.campaignsAgain]

@[simp] theorem State.revertKept_standing (s : State) (e : JEntry) :
    (s.revertKept e).standing = s.standing := by
  simp [State.revertKept]

@[simp] theorem State.revertEntry_standing (s : State) (e : JEntry) :
    (s.revertEntry e).standing = s.standing := by
  unfold State.revertEntry
  split <;> simp

@[simp] theorem State.dropEntries_standing (s : State) (lost : JEntry → Bool) :
    (s.dropEntries lost).standing = s.standing := by
  unfold State.dropEntries
  exact State.standing_foldl State.revertEntry_standing _ _

@[simp] theorem State.lanesReset_standing (s : State) :
    s.lanesReset.standing = s.standing := by
  simp [State.lanesReset]

@[simp] theorem State.workLost_standing (s : State) :
    s.workLost.standing = s.standing := by
  simp [State.workLost]

@[simp] theorem State.holdReset_standing (s : State) :
    s.holdReset.standing = s.standing := by
  simp [State.holdReset]

@[simp] theorem State.dropServing_standing (s : State) :
    s.dropServing.standing = s.standing := by
  simp [State.dropServing]

@[simp] theorem State.orderReset_standing (s : State) (cause : ResetCause) :
    (s.orderReset cause).standing = s.standing := by
  unfold State.orderReset
  dsimp only
  repeat' split
  all_goals simp

@[simp] theorem State.yieldService_standing (s : State) :
    s.yieldService.standing = s.standing := by
  simp [State.yieldService]

@[simp] theorem State.chipFatalError_standing (s : State) (cause : Nat) (control : Bool) :
    (s.chipFatalError cause control).standing = s.standing := by
  simp [State.chipFatalError]

@[simp] theorem State.laneOut_standing (s : State) (n : Nat) :
    (s.laneOut n).standing = s.standing := by
  simp [State.laneOut]

@[simp] theorem State.quadrantChains_standing (s : State) (q : Nat) :
    (s.quadrantChains q).standing = s.standing := by
  simp [State.quadrantChains]

@[simp] theorem State.regionDown_standing (s : State) (r : Nat) :
    (s.regionDown r).standing = s.standing := by
  unfold State.regionDown
  dsimp only
  repeat' split
  all_goals simp

@[simp] theorem State.startRestart_standing (s : State) (r : Nat) (counts : Bool) :
    (s.startRestart r counts).standing = s.standing := by
  simp [State.startRestart]

@[simp] theorem State.failRegion_standing (s : State) (r cause : Nat) :
    (s.failRegion r cause).standing = s.standing := by
  simp [State.failRegion]

@[simp] theorem State.regionFatalError_standing (s : State) (r cause : Nat) :
    (s.regionFatalError r cause).standing = s.standing := by
  simp [State.regionFatalError]

@[simp] theorem State.bootFail_standing (s : State) (code to' : Nat) :
    (s.bootFail code to').standing = s.standing := by
  simp [State.bootFail]

@[simp] theorem State.nextStage_standing (s : State) (n : Nat) :
    (s.nextStage n).standing = s.standing := by
  simp [State.nextStage]

@[simp] theorem State.standFailed_standing (s : State) :
    s.standFailed.standing = s.standing := by
  simp [State.standFailed]

@[simp] theorem State.tamperErase_standing (s : State) :
    s.tamperErase.standing = s.standing := by
  simp [State.tamperErase]

@[simp] theorem State.tamperSteps_standing (s : State) (loop context aborted : Nat) :
    (s.tamperSteps loop context aborted).standing = s.standing := by
  simp [State.tamperSteps]

@[simp] theorem runVaultReset_standing (c : Caller) (s : State) :
    (runVaultReset c s).2.standing = s.standing := by
  simp [runVaultReset]

/-! ### Machine/Tenants.lean -/

@[simp] theorem runTenantSeal_standing (t : Nat) (c : Caller) (s : State) :
    (runTenantSeal t c s).2.standing = s.standing := by
  simp [runTenantSeal]

@[simp] theorem runTenantRelease_standing (t : Nat) (c : Caller) (s : State) :
    (runTenantRelease t c s).2.standing = s.standing := by
  simp [runTenantRelease]

@[simp] theorem State.releaseMeter_standing (s : State) (slot : Nat) :
    (s.releaseMeter slot).standing = s.standing := by
  unfold State.releaseMeter
  split <;> simp

@[simp] theorem ruleTenantRecord_keepsStanding : ruleTenantRecord.KeepsStanding := fun _ _ _ _ _ => rfl

/-! ### Machine/Faults.lean -/

@[simp] theorem State.blockGone_standing (s : State) (r b cause : Nat) :
    (s.blockGone r b cause).standing = s.standing := by
  simp [State.blockGone]

@[simp] theorem State.cellGone_standing (s : State) (a : Nat) :
    (s.cellGone a).standing = s.standing := by
  simp [State.cellGone]

@[simp] theorem State.fenceCell_standing (s : State) (a cause : Nat) :
    (s.fenceCell a cause).standing = s.standing := by
  simp [State.fenceCell]

@[simp] theorem State.fenceBlock_standing (s : State) (a cause : Nat) :
    (s.fenceBlock a cause).standing = s.standing := by
  simp [State.fenceBlock]

@[simp] theorem State.fenceUnit_standing (s : State) (a cause : Nat) :
    (s.fenceUnit a cause).standing = s.standing := by
  simp [State.fenceUnit]

@[simp] theorem State.corrected_standing (s : State) (a : Nat) :
    (s.corrected a).standing = s.standing := by
  simp [State.corrected]

@[simp] theorem State.enterSlow_standing (s : State) (a misses : Nat) :
    (s.enterSlow a misses).standing = s.standing := by
  simp [State.enterSlow]

@[simp] theorem State.regionUp_standing (s : State) (r : Nat) (lanes : List Nat) :
    (s.regionUp r lanes).standing = s.standing := by
  simp [State.regionUp]

@[simp] theorem State.ended_standing (s : State) (u : UnitId) :
    (s.ended u).standing = s.standing := by
  unfold State.ended
  split <;> simp

@[simp] theorem State.dropContext_standing (s : State) (n : Nat) :
    (s.dropContext n).1.standing = s.standing := by
  unfold State.dropContext
  split <;> simp

@[simp] theorem runUnitFence_standing (a : Nat) (c : Caller) (s : State) :
    (runUnitFence a c s).2.standing = s.standing := by
  simp [runUnitFence]

@[simp] theorem State.unfence_standing (s : State) (a : Nat) :
    (s.unfence a).standing = s.standing := by
  simp [State.unfence]

@[simp] theorem runUnitUnfence_standing (a pass : Nat) (c : Caller) (s : State) :
    (runUnitUnfence a pass c s).2.standing = s.standing := by
  unfold runUnitUnfence
  repeat' split
  all_goals simp

@[simp] theorem runRegionRestart_standing (r : Nat) (c : Caller) (s : State) :
    (runRegionRestart r c s).2.standing = s.standing := by
  unfold runRegionRestart
  refine gated_standing _ _ ?_
  dsimp only
  repeat' split
  all_goals simp

@[simp] theorem ruleFaultPolicy_keepsStanding : ruleFaultPolicy.KeepsStanding := fun _ _ _ _ _ => rfl

/-! ### Machine/Images.lean -/

@[simp] theorem State.holdImage_standing (s : State) (i : Image) :
    (s.holdImage i).standing = s.standing := by
  simp [State.holdImage]

@[simp] theorem State.takeImage_standing (s : State) (h payload : List Byte) (source : Nat) :
    (s.takeImage h payload source).2.standing = s.standing := by
  unfold State.takeImage
  split <;> simp

@[simp] theorem State.setRoles_standing (s : State) (mask : Nat) (f : ImageSt → ImageSt) :
    (s.setRoles mask f).standing = s.standing := by
  simp [State.setRoles]

@[simp] theorem State.showVersions_standing (s : State) :
    s.showVersions.standing = s.standing := by
  simp [State.showVersions]

@[simp] theorem State.revertTrial_standing (s : State) (mask cause : Nat) :
    (s.revertTrial mask cause).standing = s.standing := by
  simp [State.revertTrial]

@[simp] theorem State.confirmTrial_standing (s : State) (mask : Nat) :
    (s.confirmTrial mask).standing = s.standing := by
  simp [State.confirmTrial]

@[simp] theorem State.bootImages_standing (s : State) (cause : Nat) :
    (s.bootImages cause).2.standing = s.standing := by
  unfold State.bootImages
  dsimp only
  repeat' split
  all_goals simp

@[simp] theorem State.activate_standing (s : State) (mask : Nat) :
    (s.activate mask).standing = s.standing := by
  simp [State.activate]

@[simp] theorem State.passImages_standing (s : State) (port : Nat) :
    (s.passImages port).standing = s.standing := by
  unfold State.passImages
  split <;> simp

@[simp] theorem State.imageArrived_standing (s : State) (port : Nat) (container : List Byte) :
    (s.imageArrived port container).standing = s.standing := by
  simp [State.imageArrived]

@[simp] theorem runStageBegin_standing (h : List Byte) (c : Caller) (s : State) :
    (runStageBegin h c s).2.standing = s.standing := by
  simp [runStageBegin]

@[simp] theorem runStageWrite_standing (id off : Nat) (d : List Byte) (c : Caller) (s : State) :
    (runStageWrite id off d c s).2.standing = s.standing := by
  simp [runStageWrite]

@[simp] theorem runStageVerify_standing (id : Nat) (c : Caller) (s : State) :
    (runStageVerify id c s).2.standing = s.standing := by
  unfold runStageVerify
  split <;> simp

@[simp] theorem runUpdateActivate_standing (mask force : Nat) (c : Caller) (s : State) :
    (runUpdateActivate mask force c s).2.standing = s.standing := by
  simp [runUpdateActivate]

@[simp] theorem runUpdateConfirm_standing (c : Caller) (s : State) :
    (runUpdateConfirm c s).2.standing = s.standing := by
  unfold runUpdateConfirm
  split <;> simp

@[simp] theorem runImageDelete_standing (d : List Byte) (c : Caller) (s : State) :
    (runImageDelete d c s).2.standing = s.standing := by
  unfold runImageDelete
  split <;> simp

/-! ### Machine/Power.lean -/

@[simp] theorem State.reachService_standing (s : State) :
    s.reachService.standing = s.standing := by
  simp [State.reachService]

@[simp] theorem State.bootSelftest_standing (s : State) (detail : Nat) (cells regions : List Nat) :
    (s.bootSelftest detail cells regions).standing = s.standing := by
  simp [State.bootSelftest]

@[simp] theorem State.bootImage_standing (s : State) (detail cause : Nat) :
    (s.bootImage detail cause).standing = s.standing := by
  simp [State.bootImage]

@[simp] theorem State.bootDram_standing (s : State) (detail gib : Nat) (slow : List Nat) :
    (s.bootDram detail gib slow).standing = s.standing := by
  simp [State.bootDram]

@[simp] theorem State.bootVault_standing (s : State) (detail loops : Nat) :
    (s.bootVault detail loops).standing = s.standing := by
  simp [State.bootVault]

@[simp] theorem State.startUnits_standing (s : State) :
    s.startUnits.standing = s.standing := by
  simp [State.startUnits]

@[simp] theorem State.reportFuse_standing (s : State) :
    s.reportFuse.standing = s.standing := by
  unfold State.reportFuse
  split <;> simp

@[simp] theorem State.reportSelftest_standing (s : State) :
    s.reportSelftest.standing = s.standing := by
  simp [State.reportSelftest]

@[simp] theorem State.reportMonitor_standing (s : State) :
    s.reportMonitor.standing = s.standing := by
  unfold State.reportMonitor
  split <;> simp

@[simp] theorem State.restoreSlots_standing (s : State) :
    s.restoreSlots.standing = s.standing := by
  simp [State.restoreSlots]

@[simp] theorem State.armWarning_standing (s : State) :
    s.armWarning.standing = s.standing := by
  simp [State.armWarning]

@[simp] theorem State.reportSlowSave_standing (s : State) :
    s.reportSlowSave.standing = s.standing := by
  simp [State.reportSlowSave]

@[simp] theorem State.reportUnkeyed_standing (s : State) :
    s.reportUnkeyed.standing = s.standing := by
  simp [State.reportUnkeyed]

@[simp] theorem State.waitForPartner_standing (s : State) :
    s.waitForPartner.standing = s.standing := by
  simp [State.waitForPartner]

@[simp] theorem State.afterControl_standing (s : State) :
    s.afterControl.standing = s.standing := by
  simp [State.afterControl]

@[simp] theorem State.bootControl_standing (s : State) :
    s.bootControl.standing = s.standing := by
  simp [State.bootControl]

@[simp] theorem State.bootStore_standing (s : State) (detail : Nat) (dies : List ParamPage) :
    (s.bootStore detail dies).standing = s.standing := by
  simp [State.bootStore]

@[simp] theorem State.enterRom_standing (s : State) (kind : Nat) :
    (s.enterRom kind).standing = s.standing := by
  simp [State.enterRom]

@[simp] theorem State.resume_standing (s : State) (w : WarnSt) :
    (s.resume w).standing = s.standing := by
  simp [State.resume]

@[simp] theorem runPowerSleep_standing (c : Caller) (s : State) :
    (runPowerSleep c s).2.standing = s.standing := by
  simp [runPowerSleep]

@[simp] theorem State.heldDoorbell_unasked (s : State) (ch : Nat) :
    (s.heldDoorbell ch).standing.unasked = s.standing.unasked := by
  unfold State.heldDoorbell execMbDoorbell
  by_cases hc : s.pow.stage = 0x0C
  · simp [hc]
  by_cases hr : s.mail.mailboxReady
  · by_cases ht : s.tunnelled ch
    · simp [hc, hr, ht]
    · cases hs : (s.chan ch).st <;> simp [hc, hr, ht]
  · simp [hc, hr]

@[simp] theorem runPowerReboot_standing (force : Nat) (c : Caller) (s : State) :
    (runPowerReboot force c s).2.standing = s.standing := by
  simp [runPowerReboot]

@[simp] theorem runDebugClose_standing (serial : Nat) (c : Caller) (s : State) :
    (runDebugClose serial c s).2.standing = s.standing := by
  simp [runDebugClose]

@[simp] theorem rulePowerPolicy_keepsStanding : rulePowerPolicy.KeepsStanding := fun _ _ _ _ _ => rfl

/-! ### Machine/Pair.lean -/

@[simp] theorem State.heardClaim_standing (s : State) (n w : Nat) :
    (s.heardClaim n w).standing = s.standing := by
  simp [State.heardClaim]

@[simp] theorem State.pairTo_standing (s : State) (st : PairSt) :
    (s.pairTo st).standing = s.standing := by
  simp [State.pairTo]

@[simp] theorem State.goSolo_standing (s : State) (cause : Nat) :
    (s.goSolo cause).standing = s.standing := by
  simp [State.goSolo]

@[simp] theorem State.standBy_standing (s : State) (st : PairSt) :
    (s.standBy st).standing = s.standing := by
  simp [State.standBy]

@[simp] theorem State.linkLost_standing (s : State) :
    s.linkLost.standing = s.standing := by
  simp [State.linkLost]

@[simp] theorem State.failHandover_standing (s : State) :
    s.failHandover.standing = s.standing := by
  simp [State.failHandover]

@[simp] theorem State.startHandover_standing (s : State) :
    s.startHandover.standing = s.standing := by
  simp [State.startHandover]

@[simp] theorem State.raiseClaim_standing (s : State) (cause epoch : Nat) :
    (s.raiseClaim cause epoch).standing = s.standing := by
  simp [State.raiseClaim]

@[simp] theorem State.cancelCloses_standing (s : State) :
    s.cancelCloses.standing = s.standing := by
  simp [State.cancelCloses]

@[simp] theorem State.restoreDomains_standing (s : State) (boot : Bool) :
    (s.restoreDomains boot).standing = s.standing := by
  simp [State.restoreDomains]

@[simp] theorem State.epochExhausted_standing (s : State) :
    s.epochExhausted.standing = s.standing := by
  simp [State.epochExhausted]

@[simp] theorem State.forceMeters_standing (s : State) :
    s.forceMeters.standing = s.standing := by
  simp [State.forceMeters]

@[simp] theorem State.finishForced_standing (s : State) :
    s.finishForced.standing = s.standing := by
  simp [State.finishForced]

@[simp] theorem State.enterService_standing (s : State) :
    s.enterService.standing = s.standing := by
  simp [State.enterService]

@[simp] theorem State.becomeReady_standing (s : State) (epoch : Nat) :
    (s.becomeReady epoch).standing = s.standing := by
  simp [State.becomeReady]

@[simp] theorem State.loseClaim_standing (s : State) (w lane : Nat) :
    (s.loseClaim w lane).standing = s.standing := by
  simp [State.loseClaim]

@[simp] theorem State.judgeClaim_standing (s : State) (n w : Nat) :
    (s.judgeClaim n w).standing = s.standing := by
  simp [State.judgeClaim]

@[simp] theorem runPairSwitchover_standing (c : Caller) (s : State) :
    (runPairSwitchover c s).2.standing = s.standing := by
  simp [runPairSwitchover]

@[simp] theorem runForceClaim_standing (c : Caller) (s : State) :
    (runForceClaim c s).2.standing = s.standing := by
  simp [runForceClaim]

@[simp] theorem runOrphansClear_standing (upTo : Nat) (c : Caller) (s : State) :
    (runOrphansClear upTo c s).2.standing = s.standing := by
  simp [runOrphansClear]

@[simp] theorem rulePair_keepsStanding : rulePair.KeepsStanding := fun _ _ _ _ _ => rfl

/-! ### Machine/Update.lean -/

@[simp] theorem State.setAgreement_standing (s : State) (n : Nat) (x : Agreement) :
    (s.setAgreement n x).standing = s.standing := by
  simp [State.setAgreement]

@[simp] theorem State.compareDomain_standing (s : State) (n : Nat) (h : Heartbeat) (d : Nat) :
    (s.compareDomain n h d).standing = s.standing := by
  simp [State.compareDomain]

@[simp] theorem State.compareDigests_standing (s : State) (n : Nat) (h : Heartbeat) :
    (s.compareDigests n h).standing = s.standing := by
  simp [State.compareDigests]

@[simp] theorem runPairRoll_standing (c : Caller) (s : State) :
    (runPairRoll c s).2.standing = s.standing := by
  simp [runPairRoll]

@[simp] theorem State.rollActivate_standing (s : State) :
    s.rollActivate.standing = s.standing := by
  unfold State.rollActivate
  split <;> simp

@[simp] theorem State.rollStep_standing (s : State) (step outcome : Nat) :
    (s.rollStep step outcome).standing = s.standing := by
  simp [State.rollStep]

@[simp] theorem State.rollServing_standing (s : State) (r : Roll) :
    (s.rollServing r).standing = s.standing := by
  unfold State.rollServing
  dsimp only
  repeat' split
  all_goals simp

@[simp] theorem State.modCampaign_standing (s : State) (id : Nat) (f : Campaign → Campaign) :
    (s.modCampaign id f).standing = s.standing := by
  simp [State.modCampaign]

@[simp] theorem State.endCampaign_standing (s : State) (id : Nat) :
    (s.endCampaign id).standing = s.standing := by
  unfold State.endCampaign
  split <;> simp

@[simp] theorem State.addCampaign_standing (s : State) (c : Campaign) :
    (s.addCampaign c).standing = s.standing := by
  simp [State.addCampaign]

@[simp] theorem State.setHead_standing (s : State) (id lane : Nat) (h : HeadProgress) :
    (s.setHead id lane h).standing = s.standing := by
  simp [State.setHead]

@[simp] theorem State.headResult_standing (s : State) (id lane : Nat) (h : HeadProgress) (result : Nat) :
    (s.headResult id lane h result).standing = s.standing := by
  unfold State.headResult
  dsimp only
  repeat' split
  all_goals simp

@[simp] theorem State.sendBlock_standing (s : State) (id lane : Nat) (h : HeadProgress) (container : List Byte) :
    (s.sendBlock id lane h container).standing = s.standing := by
  simp [State.sendBlock]

@[simp] theorem State.headStep_standing (s : State) (c : Campaign) (lane : Nat) (h : HeadProgress) (i : Image) :
    (s.headStep c lane h i).standing = s.standing := by
  unfold State.headStep
  dsimp only
  repeat' split
  all_goals simp

@[simp] theorem runHeadCampaign_standing (d : List Byte) (lanes : Nat) (c : Caller) (s : State) :
    (runHeadCampaign d lanes c s).2.standing = s.standing := by
  simp [runHeadCampaign]

@[simp] theorem runMeterCampaign_standing (d : List Byte) (stream keySlot target rounds activateAt : Nat) (c : Caller) (s : State) :
    (runMeterCampaign d stream keySlot target rounds activateAt c s).2.standing = s.standing := by
  simp [runMeterCampaign]

@[simp] theorem State.applyWords_standing (s : State) (l : List Nat) :
    (s.applyWords l).standing = s.standing := by
  unfold State.applyWords
  split <;> simp

@[simp] theorem ruleUpdatePolicy_keepsStanding : ruleUpdatePolicy.KeepsStanding := fun _ _ _ _ _ => rfl

/-! ### Machine/Observe.lean -/

@[simp] theorem ruleEventRouting_keepsStanding : ruleEventRouting.KeepsStanding := fun _ _ _ _ _ => rfl

@[simp] theorem ruleTrigger_keepsStanding : ruleTrigger.KeepsStanding := by
  intro s tenant inst old body
  simp [ruleTrigger]

@[simp] theorem ruleRecorderPolicy_keepsStanding : ruleRecorderPolicy.KeepsStanding := fun _ _ _ _ _ => rfl

/-! ### Machine/Approve.lean -/

@[simp] theorem runBarrowClear_standing (c : Caller) (s : State) :
    (runBarrowClear c s).2.standing = s.standing := by
  simp [runBarrowClear]

/-! ### Machine/Records.lean -/

@[simp] theorem ruleSessionPolicy_keepsStanding : ruleSessionPolicy.KeepsStanding := by
  intro s tenant inst old body
  simp [ruleSessionPolicy]

theorem recordRules_keepStanding {p : Schema × RecordRule} (hp : p ∈ recordRules) : p.2.KeepsStanding := by
  revert p
  simp [recordRules]

theorem recordRule_keepsStanding {rid : Nat} {k : Schema} {rule : RecordRule} (h : recordRule rid = some (k, rule)) : rule.KeepsStanding :=
  recordRules_keepStanding (List.mem_of_find?_eq_some h)

theorem State.writeRecord_standing (s : State) (x : RecordHeader) (b : List Byte) (k : Schema) {rule : RecordRule} (c : Caller)
    (h : rule.KeepsStanding) : (s.writeRecord x b k rule c).2.standing = s.standing := by
  unfold State.writeRecord
  dsimp only
  repeat' split
  all_goals simp [h]

@[simp] theorem runRecordWrite_standing (record : List Byte) (c : Caller) (s : State) :
    (runRecordWrite record c s).2.standing = s.standing := by
  unfold runRecordWrite
  dsimp only
  split
  · rfl
  · split
    · rfl
    · split
      · rfl
      next k rule h => exact s.writeRecord_standing _ _ k c (recordRule_keepsStanding h)

@[simp] theorem runRecordDefault_standing (rid inst tenant : Nat) (c : Caller) (s : State) :
    (runRecordDefault rid inst tenant c s).2.standing = s.standing := by
  unfold runRecordDefault
  split
  · exact gated_standing _ _ rfl
  next k rule h =>
    refine gated_standing _ _ ?_
    dsimp only
    split
    · rfl
    · exact State.applyBody_standing s (recordRule_keepsStanding h) _ _ _ _

theorem State.applyBundle_standing (skip : RecordHeader → Bool) (l : List (RecordHeader × List Byte)) (s : State)
    (r : State × List ReportEntry × Nat × Nat) (h : s.applyBundle skip l = some r) : r.1.standing = s.standing := by
  induction l generalizing s r with
  | nil =>
    cases h
    rfl
  | cons x l ih =>
    obtain ⟨x, b⟩ := x
    unfold State.applyBundle at h
    split at h
    · obtain ⟨q, hq, rfl⟩ := Option.map_eq_some_iff.mp h
      exact ih s q hq
    · split at h
      · cases h
      next k rule hrule =>
        extract_lets owned at h
        split at h
        · cases h
        · split at h
          · cases h
          · obtain ⟨q, hq, rfl⟩ := Option.map_eq_some_iff.mp h
            exact (ih _ q hq).trans (s.applyBody_standing (recordRule_keepsStanding hrule) _ _ _ _)

@[simp] theorem State.passBundle_standing (s : State) :
    s.passBundle.standing = s.standing := by
  simp [State.passBundle]

@[simp] theorem State.takeBundle_standing (s : State) (b : List Byte) (port : Option Nat) : (s.takeBundle b port).2.standing = s.standing := by
  unfold State.takeBundle
  extract_lets u refuse keep
  have hrefuse : ∀ st, (refuse st).2.standing = s.standing := by
    intro st
    dsimp only [refuse, u]
    split <;> simp
  have hkeep : ∀ t, (keep t).standing = t.standing := fun t => by simp [keep]
  clear_value refuse keep
  split
  · exact hrefuse _
  split
  · simp [hkeep]
  split
  · exact hrefuse _
  next t es n k h =>
    simp [hkeep, State.applyBundle_standing _ _ _ _ h]

@[simp] theorem State.dropAssembly_standing (s : State) :
    s.dropAssembly.standing = s.standing := by
  simp [State.dropAssembly]

@[simp] theorem runBundleSubmit_standing (total off : Nat) (part : List Byte) (c : Caller) (s : State) :
    (runBundleSubmit total off part c s).2.standing = s.standing := by
  unfold runBundleSubmit
  refine gated_standing _ _ ?_
  dsimp only
  split
  · simp
  split
  · simp
  have h := fun b => State.takeBundle_standing s.dropAssembly b none
  split
  next st t hb => simpa using (congrArg (·.2.standing) hb).symm.trans (h _)
  next es t hb => simpa using (congrArg (·.2.standing) hb).symm.trans (h _)

/-! ### Machine/Partner.lean -/

@[simp] theorem State.beat_standing (s : State) (port : Nat) :
    (s.beat port).standing = s.standing := by
  simp [State.beat]

@[simp] theorem State.elect_standing (s : State) (h : Heartbeat) :
    (s.elect h).standing = s.standing := by
  simp [State.elect]

@[simp] theorem State.askCatchUp_standing (s : State) :
    s.askCatchUp.standing = s.standing := by
  simp [State.askCatchUp]

@[simp] theorem State.hearPartner_standing (s : State) (h : Heartbeat) (was : Bool) :
    (s.hearPartner h was).standing = s.standing := by
  unfold State.hearPartner
  split <;> simp

@[simp] theorem State.judgeConflict_standing (s : State) (chipB : Bool) (region : Nat) :
    (s.judgeConflict chipB region).standing = s.standing := by
  simp [State.judgeConflict]

@[simp] theorem State.partnerBeat_standing (s : State) (chipB : Bool) (region : Nat) (words : List Nat) (data : List Byte) :
    (s.partnerBeat chipB region words data).standing = s.standing := by
  simp [State.partnerBeat]

@[simp] theorem State.chainBeat_standing (s : State) (region : Nat) (words : List Nat) (data : List Byte) :
    (s.chainBeat region words data).standing = s.standing := by
  simp [State.chainBeat]

@[simp] theorem State.applyStreamed_standing (s : State) (rid inst tenant body : Nat) :
    (s.applyStreamed rid inst tenant body).standing = s.standing := by
  unfold State.applyStreamed
  split
  · rfl
  next k rule h =>
    split
    · rfl
    · simp [recordRule_keepsStanding h]

@[simp] theorem State.takeKept_standing (s : State) (l : List Nat) :
    (s.takeKept l).standing = s.standing := by
  unfold State.takeKept
  repeat' split
  all_goals simp

@[simp] theorem State.logOrphan_standing (s : State) (e : JEntry) :
    (s.logOrphan e).standing = s.standing := by
  unfold State.logOrphan
  dsimp only
  repeat' split
  all_goals simp

@[simp] theorem State.startCatchUp_standing (s : State) (rows : List EpochRow) :
    (s.startCatchUp rows).standing = s.standing := by
  simp [State.startCatchUp]

@[simp] theorem State.takeItem_standing (s : State) (l : List Nat) :
    (s.takeItem l).standing = s.standing := by
  unfold State.takeItem
  repeat' split
  all_goals simp

@[simp] theorem State.endGeneration_standing (s : State) (gen startPos : Nat) (digest : List Byte) :
    (s.endGeneration gen startPos digest).standing = s.standing := by
  simp [State.endGeneration]

@[simp] theorem State.giveCatchUp_standing (s : State) (gen ps : Nat) :
    (s.giveCatchUp gen ps).standing = s.standing := by
  simp [State.giveCatchUp]

@[simp] theorem State.hearYield_standing (s : State) (pos : Nat) :
    (s.hearYield pos).standing = s.standing := by
  simp [State.hearYield]

@[simp] theorem State.hearDeparture_standing (s : State) :
    s.hearDeparture.standing = s.standing := by
  unfold State.hearDeparture
  split <;> simp

@[simp] theorem State.hearFinal_standing (s : State) (pf : Nat) :
    (s.hearFinal pf).standing = s.standing := by
  simp [State.hearFinal]

@[simp] theorem State.hearRoll_standing (s : State) (data : List Byte) :
    (s.hearRoll data).standing = s.standing := by
  simp [State.hearRoll]

@[simp] theorem State.refuseMessage_standing (s : State) (port : Nat) :
    (s.refuseMessage port).standing = s.standing := by
  simp [State.refuseMessage]

/-! ### Machine/Stream.lean -/

@[simp] theorem State.countChain_standing (s : State) (key subject : Nat) (sats : List Nat) (out : Option SmpFlags) :
    (s.countChain key subject sats out).standing = s.standing := by
  unfold State.countChain
  dsimp only
  repeat' split
  all_goals simp

@[simp] theorem State.historySample_standing (s : State) (p : Nat × Nat) (x : OutSmp) :
    (s.historySample p x).standing = s.standing := by
  simp [State.historySample]

@[simp] theorem State.branchSample_standing (s : State) (p : Nat × Nat) (x : OutSmp) :
    (s.branchSample p x).standing = s.standing := by
  simp [State.branchSample]

@[simp] theorem State.channelSample_standing (s : State) (i a lane p rem : Nat) (x : Smp) (front : List Nat) :
    (s.channelSample i a lane p rem x front).standing = s.standing := by
  unfold State.channelSample
  dsimp only
  repeat' split
  all_goals simp

@[simp] theorem State.tileSamples_standing (s : State) (lane a p : Nat) :
    (s.tileSamples lane a p).standing = s.standing := by
  simp [State.tileSamples]

@[simp] theorem State.antennaSample_standing (s : State) (lane a p rem : Nat) (v : Int) (f : SmpFlags) :
    (s.antennaSample lane a p rem v f).standing = s.standing := by
  simp [State.antennaSample]

@[simp] theorem State.takeStream_standing (s : State) (n a : Nat) (area : List Byte) (tRx : Nat) :
    (s.takeStream n a area tRx).standing = s.standing := by
  simp [State.takeStream]

@[simp] theorem State.takeSpectrum_standing (s : State) (n : Nat) (b : List Byte) (tRx : Nat) :
    (s.takeSpectrum n b tRx).standing = s.standing := by
  simp [State.takeSpectrum]

@[simp] theorem State.lineBit_standing (s : State) (trib m : Nat) (k : ChainSpec) (v : Nat → Int) (f : SmpFlags) :
    (s.lineBit trib m k v f).1.standing = s.standing := by
  simp [State.lineBit]

@[simp] theorem State.lineSamples_standing (s : State) (trib tag : Nat) (l : List Smp) :
    (s.lineSamples trib tag l).standing = s.standing := by
  unfold State.lineSamples
  extract_lets settling r
  have hr : r.1.standing = s.standing := foldl_keeps (fun x : State × List Smp => x.1.standing) _ (fun x e => by simp) _ _
  simp [hr]

@[simp] theorem State.lingSamples_standing (s : State) (n trib : Nat) (slot : List Byte) (ok : Bool) (f : SmpFlags) (air : Nat) :
    (s.lingSamples n trib slot ok f air).standing = s.standing := by
  simp [State.lingSamples]

@[simp] theorem State.takeTrib_standing (s : State) (n t : Nat) (b : List Byte) (tRx : Nat) :
    (s.takeTrib n t b tRx).standing = s.standing := by
  simp [State.takeTrib]

@[simp] theorem State.takeLine_standing (s : State) (n : Nat) (b : List Byte) (tRx : Nat) :
    (s.takeLine n b tRx).standing = s.standing := by
  simp [State.takeLine]

@[simp] theorem State.takeSamples_standing (s : State) (n : Nat) (b : List Byte) (tRx : Nat) :
    (s.takeSamples n b tRx).standing = s.standing := by
  simp [State.takeSamples]

/-! ### Machine/Superframe.lean -/

@[simp] theorem State.hearSuperframe_standing (s : State) (lane : Nat) (header : List Byte) :
    (s.hearSuperframe lane header).standing = s.standing := by
  simp [State.hearSuperframe]

/-! ### Machine/Tick.lean -/

@[simp] theorem State.formDown_standing (s : State) (n : Nat) :
    (s.formDown n).standing = s.standing := by
  unfold State.formDown
  dsimp only
  repeat' split
  all_goals simp

@[simp] theorem State.cutShort_standing (s : State) :
    s.cutShort.standing = s.standing := by
  simp [State.cutShort]

end Machine

end Sys2Proof
end

section
/-! The events that leave the standing parts as they were, each with the next state that it answers. -/

namespace Sys2Proof

open Machine

namespace Machine

/-- The standing parts of the state that an outcome answers, but for the channels' requests. -/
def standingAfter : Out → Option Standing
  | .next s => some s.standing.unasked
  | _ => none

@[simp] theorem standingAfter_next (s : State) : standingAfter (.next s) = some s.standing.unasked := rfl

@[simp] theorem standingAfter_ite (c : Prop) [Decidable c] (o p : Out) :
    standingAfter (if c then o else p) = if c then standingAfter o else standingAfter p := apply_ite _ _ _ _

@[simp] theorem execErrorDetected_standing (kind unit n cause : Nat) (s : State) :
    standingAfter (execErrorDetected kind unit n cause s) = some s.standing.unasked := by
  unfold execErrorDetected
  dsimp only
  repeat' split
  all_goals simp

@[simp] theorem execWorkDeadlineMissed_standing (unit ticket item : Nat) (s : State) :
    standingAfter (execWorkDeadlineMissed unit ticket item s) = some s.standing.unasked := by
  simp [execWorkDeadlineMissed]

@[simp] theorem execProbationEnd_standing (unit : Nat) (s : State) :
    standingAfter (execProbationEnd unit s) = some s.standing.unasked := by
  simp [execProbationEnd]

@[simp] theorem execRegionRestartDone_standing (region : Nat) (s : State) :
    standingAfter (execRegionRestartDone region s) = some s.standing.unasked := by
  simp [execRegionRestartDone]

@[simp] theorem execUnitEndState_standing (kind number : Nat) (s : State) :
    standingAfter (execUnitEndState kind number s) = some s.standing.unasked := by
  unfold execUnitEndState
  split
  · simp
  next u _ =>
    generalize s.unitSt u = st
    cases u <;> cases st <;> simp

@[simp] theorem execUnitStopOverrun_standing (kind number : Nat) (s : State) :
    standingAfter (execUnitStopOverrun kind number s) = some s.standing.unasked := by
  unfold execUnitStopOverrun
  dsimp only
  repeat' split
  all_goals simp

@[simp] theorem execHostBadAccess_standing (s : State) :
    standingAfter (execHostBadAccess s) = some s.standing.unasked := by
  simp [execHostBadAccess]

@[simp] theorem execHeartbeatTick_standing (s : State) :
    standingAfter (execHeartbeatTick s) = some s.standing.unasked := by
  simp [execHeartbeatTick]

@[simp] theorem execMbDoorbell_standing (ch : Nat) (s : State) :
    standingAfter (execMbDoorbell ch s) = some s.standing.unasked := by
  unfold execMbDoorbell
  dsimp only
  repeat' split
  all_goals simp

@[simp] theorem execMbReset_standing (ch : Nat) (s : State) :
    standingAfter (execMbReset ch s) = some s.standing.unasked := by
  simp [execMbReset]

@[simp] theorem execChannelResetDone_standing (ch : Nat) (s : State) :
    standingAfter (execChannelResetDone ch s) = some s.standing.unasked := by
  unfold execChannelResetDone
  split <;> simp

@[simp] theorem execCtrlSessionHello_standing (ch role tenant slot : Nat) (s : State) :
    standingAfter (execCtrlSessionHello ch role tenant slot s) = some s.standing.unasked := by
  simp [execCtrlSessionHello, State.command_unasked]

@[simp] theorem execCtrlSessionClose_standing (ch : Nat) (s : State) :
    standingAfter (execCtrlSessionClose ch s) = some s.standing.unasked := by
  unfold execCtrlSessionClose
  split <;> simp [State.command_unasked]

@[simp] theorem execCtrlRecordWrite_standing (ch : Nat) (record : List Byte) (s : State) :
    standingAfter (execCtrlRecordWrite ch record s) = some s.standing.unasked := by
  simp [execCtrlRecordWrite, State.commitLater_unasked]

@[simp] theorem execCtrlCredentialRevoke_standing (ch role tenant slot : Nat) (s : State) :
    standingAfter (execCtrlCredentialRevoke ch role tenant slot s) = some s.standing.unasked := by
  simp [execCtrlCredentialRevoke, State.command_unasked]

@[simp] theorem execSessionIdleTimeout_standing (ch : Nat) (s : State) :
    standingAfter (execSessionIdleTimeout ch s) = some s.standing.unasked := by
  unfold execSessionIdleTimeout
  split <;> simp

@[simp] theorem execTicketExpired_standing (ticket : Nat) (s : State) :
    standingAfter (execTicketExpired ticket s) = some s.standing.unasked := by
  unfold execTicketExpired
  split <;> simp

@[simp] theorem execBackoffEnd_standing (ch : Nat) (s : State) :
    standingAfter (execBackoffEnd ch s) = some s.standing.unasked := by
  unfold execBackoffEnd
  split <;> simp

@[simp] theorem execSuperframeReceived_standing (lane : Nat) (bytes : List Byte) (spacing tRx : Nat) (fec : List Nat) (s : State) :
    standingAfter (execSuperframeReceived lane bytes spacing tRx fec s) = some s.standing.unasked := by
  simp [execSuperframeReceived]

@[simp] theorem execFecSecondTick_standing (lane : Nat) (s : State) :
    standingAfter (execFecSecondTick lane s) = some s.standing.unasked := by
  simp [execFecSecondTick]

@[simp] theorem execFreqWindowEnd_standing (lane : Nat) (s : State) :
    standingAfter (execFreqWindowEnd lane s) = some s.standing.unasked := by
  unfold execFreqWindowEnd
  dsimp only
  repeat' split
  all_goals simp

@[simp] theorem execControlMessageReceived_standing (lane : Nat) (s : State) :
    standingAfter (execControlMessageReceived lane s) = some s.standing.unasked := by
  unfold execControlMessageReceived
  dsimp only
  repeat' split
  all_goals simp

@[simp] theorem execControlMessageResend_standing (lane seq : Nat) (s : State) :
    standingAfter (execControlMessageResend lane seq s) = some s.standing.unasked := by
  unfold execControlMessageResend
  dsimp only
  repeat' split
  all_goals simp

@[simp] theorem execLaneStartStepDone_standing (lane : Nat) (s : State) :
    standingAfter (execLaneStartStepDone lane s) = some s.standing.unasked := by
  simp [execLaneStartStepDone]

@[simp] theorem execLaneStartStepFailed_standing (lane : Nat) (s : State) :
    standingAfter (execLaneStartStepFailed lane s) = some s.standing.unasked := by
  simp [execLaneStartStepFailed]

@[simp] theorem execLaneRetryExpiry_standing (lane : Nat) (s : State) :
    standingAfter (execLaneRetryExpiry lane s) = some s.standing.unasked := by
  simp [execLaneRetryExpiry]

@[simp] theorem execLaneStartTimeout_standing (lane : Nat) (s : State) :
    standingAfter (execLaneStartTimeout lane s) = some s.standing.unasked := by
  simp [execLaneStartTimeout]

@[simp] theorem execLaneLockLost_standing (lane cause : Nat) (s : State) :
    standingAfter (execLaneLockLost lane cause s) = some s.standing.unasked := by
  simp [execLaneLockLost]

@[simp] theorem execLaneHeadControl_standing (ch lane trib msgType : Nat) (body : List Byte) (s : State) :
    standingAfter (execLaneHeadControl ch lane trib msgType body s) = some s.standing.unasked := by
  simp [execLaneHeadControl, State.commandLater_unasked]

@[simp] theorem execLaneTest_standing (ch lane pattern duration errors : Nat) (s : State) :
    standingAfter (execLaneTest ch lane pattern duration errors s) = some s.standing.unasked := by
  simp [execLaneTest, State.commandLater_unasked]

@[simp] theorem execDcBlockReady_standing (target : Nat) (s : State) :
    standingAfter (execDcBlockReady target s) = some s.standing.unasked := by
  simp [execDcBlockReady]

@[simp] theorem execDcFreezeLong_standing (target : Nat) (s : State) :
    standingAfter (execDcFreezeLong target s) = some s.standing.unasked := by
  unfold execDcFreezeLong
  dsimp only
  repeat' split
  all_goals simp

@[simp] theorem execCaptureBegin_standing (id : Nat) (s : State) :
    standingAfter (execCaptureBegin id s) = some s.standing.unasked := by
  unfold execCaptureBegin
  split <;> simp

@[simp] theorem execCaptureDone_standing (id : Nat) (s : State) :
    standingAfter (execCaptureDone id s) = some s.standing.unasked := by
  unfold execCaptureDone
  split <;> simp

@[simp] theorem execBookingRequest_standing (meter group headMask mode openAt closeAt maxFrameMs freqExpect freqSpan tenant : Nat) (s : State) :
    standingAfter (execBookingRequest meter group headMask mode openAt closeAt maxFrameMs freqExpect freqSpan tenant s) = some s.standing.unasked := by
  simp [execBookingRequest]

@[simp] theorem execContextOpenDue_standing (id : Nat) (s : State) :
    standingAfter (execContextOpenDue id s) = some s.standing.unasked := by
  unfold execContextOpenDue
  split <;> simp

@[simp] theorem execWatcherDetection_standing (group channel antenna mode startAir : Nat) (metric : Int) (s : State) :
    standingAfter (execWatcherDetection group channel antenna mode startAir metric s) = some s.standing.unasked := by
  unfold execWatcherDetection
  dsimp only
  repeat' split
  all_goals simp

@[simp] theorem execDetectionDrop_standing (group : Nat) (s : State) :
    standingAfter (execDetectionDrop group s) = some s.standing.unasked := by
  unfold execDetectionDrop
  split <;> simp

@[simp] theorem execRetroCatchUp_standing (ctx : Nat) (s : State) :
    standingAfter (execRetroCatchUp ctx s) = some s.standing.unasked := by
  unfold execRetroCatchUp
  split <;> simp

@[simp] theorem execContextFrameDetected_standing (ctx startAir : Nat) (freqHz : Int) (formatB : Bool) (metrics : List Nat) (gains : List Int) (noise : List Nat) (tau : List Int) (s : State) :
    standingAfter (execContextFrameDetected ctx startAir freqHz formatB metrics gains noise tau s) = some s.standing.unasked := by
  unfold execContextFrameDetected
  split <;> simp

@[simp] theorem execContextNoFrame_standing (ctx : Nat) (s : State) :
    standingAfter (execContextNoFrame ctx s) = some s.standing.unasked := by
  unfold execContextNoFrame
  split <;> simp

@[simp] theorem execAlignDeadline_standing (ctx endAir : Nat) (s : State) :
    standingAfter (execAlignDeadline ctx endAir s) = some s.standing.unasked := by
  unfold execAlignDeadline
  split <;> simp

@[simp] theorem execDecodeDone_standing (ctx lead : Nat) (soft : List Int) (combinedSnr bestLevel : Int) (s : State) :
    standingAfter (execDecodeDone ctx lead soft combinedSnr bestLevel s) = some s.standing.unasked := by
  unfold execDecodeDone
  dsimp only
  repeat' split
  all_goals simp

@[simp] theorem execContextFree_standing (ctx : Nat) (s : State) :
    standingAfter (execContextFree ctx s) = some s.standing.unasked := by
  simp [execContextFree]

@[simp] theorem execPollDue_standing (slot : Nat) (s : State) :
    standingAfter (execPollDue slot s) = some s.standing.unasked := by
  unfold execPollDue
  dsimp only
  repeat' split
  all_goals simp

@[simp] theorem execPollPlanned_standing (slot : Nat) (s : State) :
    standingAfter (execPollPlanned slot s) = some s.standing.unasked := by
  have h := s.launchFirst_standing slot (s.aims slot).learning (s.aims slot).list none
  obtain ⟨launch, el⟩ : ∃ f, State.launchFirst = f := ⟨_, rfl⟩
  rw [el] at h
  rw [execPollPlanned, el]
  extract_lets +onlyGivenNames a
  split
  · rfl
  split
  · simp
  split
  · simp
  generalize launch s slot a.learning a.list none = o at h ⊢
  rcases o with ⟨_ | c, t⟩ | t
  · simpa [triedState] using congrArg Standing.unasked h
  · simpa [triedState] using congrArg Standing.unasked h
  · simpa [triedState] using congrArg Standing.unasked h

@[simp] theorem execBookingOutcome_standing (s : State) :
    standingAfter (execBookingOutcome s) = some s.standing.unasked := by
  unfold execBookingOutcome
  dsimp only
  repeat' split
  all_goals simp

@[simp] theorem execLaunchLock_standing (id : Nat) (s : State) :
    standingAfter (execLaunchLock id s) = some s.standing.unasked := by
  unfold execLaunchLock
  dsimp only
  repeat' split
  all_goals simp

@[simp] theorem execLaunchSend_standing (id : Nat) (s : State) :
    standingAfter (execLaunchSend id s) = some s.standing.unasked := by
  unfold execLaunchSend
  dsimp only
  repeat' split
  all_goals simp

@[simp] theorem execFollowDecision_standing (slot : Nat) (s : State) :
    standingAfter (execFollowDecision slot s) = some s.standing.unasked := by
  have hl := @State.lockSafe_standing
  have hb := @State.book_standing
  obtain ⟨lock, el⟩ : ∃ f, State.lockSafe = f := ⟨_, rfl⟩
  obtain ⟨book, eb⟩ : ∃ f, State.book = f := ⟨_, rfl⟩
  obtain ⟨refusal, er⟩ : ∃ f, State.refusal = f := ⟨_, rfl⟩
  rw [el] at hl
  rw [eb] at hb
  rw [execFollowDecision, el, eb, er]
  split
  · rfl
  split
  · extract_lets +onlyGivenNames -underBinder start now
    split
    · rfl
    extract_lets +onlyGivenNames -underBinder t n pre span charge
    have ht : t.standing = s.standing := by simp [t]
    clear_value t charge
    split
    · simp [ht]
    extract_lets +onlyGivenNames -underBinder fits
    clear_value fits
    split
    · simp [ht]
    split
    next go u hu =>
    have hu : u.standing = s.standing := by
      split at hu
      · rw [← ht, ← hl t slot _, hu]
      · rw [← ht, (Prod.mk.inj hu).2]
    split
    · simp [hu]
    extract_lets +onlyGivenNames -underBinder e air v w p
    have hw : w.standing = s.standing := by simp [w, v, air, hu]
    clear_value w
    split
    next hk =>
      replace hk := congrArg (·.2.standing) hk
      simp only [hb] at hk
      simp [← hk, hw]
    next hk =>
      replace hk := congrArg (·.2.standing) hk
      simp only [hb] at hk
      simp [← hk, hw]
  · rfl

@[simp] theorem execPollLate_standing (slot : Nat) (s : State) :
    standingAfter (execPollLate slot s) = some s.standing.unasked := by
  unfold execPollLate
  dsimp only
  repeat' split
  all_goals simp

@[simp] theorem execRecoveryRelease_standing (s : State) :
    standingAfter (execRecoveryRelease s) = some s.standing.unasked := by
  simp [execRecoveryRelease]

@[simp] theorem execFloodWindow_standing (window slot : Nat) (s : State) :
    standingAfter (execFloodWindow window slot s) = some s.standing.unasked := by
  unfold execFloodWindow
  dsimp only
  repeat' split
  all_goals simp

@[simp] theorem execSwardVictimClear_standing (s : State) :
    standingAfter (execSwardVictimClear s) = some s.standing.unasked := by
  unfold execSwardVictimClear
  split <;> simp

@[simp] theorem execLingLaunch_standing (trib : Nat) (s : State) :
    standingAfter (execLingLaunch trib s) = some s.standing.unasked := by
  unfold execLingLaunch
  dsimp only
  repeat' split
  all_goals simp

@[simp] theorem execLingGovernorCut_standing (trib phase window : Nat) (s : State) :
    standingAfter (execLingGovernorCut trib phase window s) = some s.standing.unasked := by
  unfold execLingGovernorCut
  dsimp only
  repeat' split
  all_goals simp

@[simp] theorem execLingAnswerWindowEnd_standing (trib : Nat) (s : State) :
    standingAfter (execLingAnswerWindowEnd trib s) = some s.standing.unasked := by
  unfold execLingAnswerWindowEnd
  split <;> simp

@[simp] theorem execLingFrameDecoded_standing (trib startAir endAir repCode : Nat) (header payload : List Byte) (snr : List Int) (s : State) :
    standingAfter (execLingFrameDecoded trib startAir endAir repCode header payload snr s) = some s.standing.unasked := by
  unfold execLingFrameDecoded
  dsimp only
  repeat' split
  all_goals simp

@[simp] theorem execLingAlarmCall_standing (trib : Nat) (s : State) :
    standingAfter (execLingAlarmCall trib s) = some s.standing.unasked := by
  unfold execLingAlarmCall
  have hd := State.drawTag_standing s
  obtain ⟨draw, ed⟩ : ∃ f, State.drawTag = f := ⟨_, rfl⟩
  rw [ed] at hd ⊢
  extract_lets x every start
  split
  · rfl
  split
  · simp
  split
  next tag t ht =>
    rw [ht] at hd
    extract_lets frame
    split
    · simp
    next u hu => simpa [State.lingPut_standing hu] using congrArg Standing.unasked hd

@[simp] theorem execLingUnreachPoll_standing (slot : Nat) (s : State) :
    standingAfter (execLingUnreachPoll slot s) = some s.standing.unasked := by
  simp [execLingUnreachPoll]

@[simp] theorem execLingTxReady_standing (trib : Nat) (s : State) :
    standingAfter (execLingTxReady trib s) = some s.standing.unasked := by
  simp [execLingTxReady]

@[simp] theorem execSecurityFrame_standing (phase frame : Nat) (s : State) :
    standingAfter (execSecurityFrame phase frame s) = some s.standing.unasked := by
  unfold execSecurityFrame
  dsimp only
  repeat' split
  all_goals simp

@[simp] theorem execDirRebuildDone_standing (s : State) :
    standingAfter (execDirRebuildDone s) = some s.standing.unasked := by
  unfold execDirRebuildDone
  dsimp only
  repeat' split
  all_goals simp

@[simp] theorem execKeySwitch_standing (domain slot : Nat) (s : State) :
    standingAfter (execKeySwitch domain slot s) = some s.standing.unasked := by
  unfold execKeySwitch
  split <;> simp

@[simp] theorem execKeyEraseDrained_standing (domain slot : Nat) (s : State) :
    standingAfter (execKeyEraseDrained domain slot s) = some s.standing.unasked := by
  simp [execKeyEraseDrained]

@[simp] theorem execRngHealthFault_standing (healthy : Bool) (test : Nat) (s : State) :
    standingAfter (execRngHealthFault healthy test s) = some s.standing.unasked := by
  simp [execRngHealthFault]

@[simp] theorem execTamperAlarm_standing (loop aborted : Nat) (s : State) :
    standingAfter (execTamperAlarm loop aborted s) = some s.standing.unasked := by
  simp [execTamperAlarm]

@[simp] theorem execLedgerApply_standing (engine tenant ticket : Nat) (s : State) :
    standingAfter (execLedgerApply engine tenant ticket s) = some s.standing.unasked := by
  unfold execLedgerApply
  dsimp only
  repeat' split
  all_goals simp

@[simp] theorem execRecordPoisoned_standing (slot readable : Nat) (s : State) :
    standingAfter (execRecordPoisoned slot readable s) = some s.standing.unasked := by
  simp [execRecordPoisoned]

@[simp] theorem execJournalAck_standing (position : Nat) (s : State) :
    standingAfter (execJournalAck position s) = some s.standing.unasked := by
  simp [execJournalAck]

@[simp] theorem execTariffVersionActive_standing (plan : Nat) (s : State) :
    standingAfter (execTariffVersionActive plan s) = some s.standing.unasked := by
  unfold execTariffVersionActive
  dsimp only
  repeat' split
  all_goals simp

@[simp] theorem execArchiveWrite_standing (s : State) :
    standingAfter (execArchiveWrite s) = some s.standing.unasked := by
  unfold execArchiveWrite
  split <;> simp

@[simp] theorem execZeroCrossing_standing (trib phase : Nat) (s : State) :
    standingAfter (execZeroCrossing trib phase s) = some s.standing.unasked := by
  unfold execZeroCrossing
  dsimp only
  repeat' split
  all_goals simp

@[simp] theorem execZcTimeout_standing (trib phase : Nat) (s : State) :
    standingAfter (execZcTimeout trib phase s) = some s.standing.unasked := by
  simp [execZcTimeout]

@[simp] theorem execMetroWindowEnd_standing (trib : Nat) (s : State) :
    standingAfter (execMetroWindowEnd trib s) = some s.standing.unasked := by
  unfold execMetroWindowEnd
  dsimp only
  repeat' split
  all_goals simp

@[simp] theorem execMetroStep_standing (trib : Nat) (reissued : Bool) (s : State) :
    standingAfter (execMetroStep trib reissued s) = some s.standing.unasked := by
  unfold execMetroStep
  dsimp only
  repeat' split
  all_goals simp

@[simp] theorem execStepRecordHandoff_standing (trib : Nat) (s : State) :
    standingAfter (execStepRecordHandoff trib s) = some s.standing.unasked := by
  simp [execStepRecordHandoff]

@[simp] theorem execMetroIntervalClose_standing (trib : Nat) (s : State) :
    standingAfter (execMetroIntervalClose trib s) = some s.standing.unasked := by
  simp [execMetroIntervalClose]

@[simp] theorem execPulseEmit_standing (output : Nat) (s : State) :
    standingAfter (execPulseEmit output s) = some s.standing.unasked := by
  simp [execPulseEmit]

@[simp] theorem execBalIntervalStart_standing (zone : Nat) (s : State) :
    standingAfter (execBalIntervalStart zone s) = some s.standing.unasked := by
  unfold execBalIntervalStart
  split <;> simp

@[simp] theorem execBalEvaluate_standing (zone stop : Nat) (s : State) :
    standingAfter (execBalEvaluate zone stop s) = some s.standing.unasked := by
  unfold execBalEvaluate
  dsimp only
  repeat' split
  all_goals simp

@[simp] theorem execFlashProgramDone_standing (channel die block part op page ok : Nat) (s : State) :
    standingAfter (execFlashProgramDone channel die block part op page ok s) = some s.standing.unasked := by
  simp [execFlashProgramDone]

@[simp] theorem execFlashReadDone_standing (channel die block part outcome content tenant first n mirrored : Nat) (sector : List Byte) (s : State) :
    standingAfter (execFlashReadDone channel die block part outcome content tenant first n mirrored sector s) = some s.standing.unasked := by
  simp [execFlashReadDone]

@[simp] theorem execDieFailed_standing (channel die cause : Nat) (s : State) :
    standingAfter (execDieFailed channel die cause s) = some s.standing.unasked := by
  simp [execDieFailed]

@[simp] theorem execJournalCopiesProgrammed_standing (position : Nat) (s : State) :
    standingAfter (execJournalCopiesProgrammed position s) = some s.standing.unasked := by
  simp [execJournalCopiesProgrammed]

@[simp] theorem execCheckpointStart_standing (s : State) :
    standingAfter (execCheckpointStart s) = some s.standing.unasked := by
  simp [execCheckpointStart]

@[simp] theorem execCheckpointCommit_standing (s : State) :
    standingAfter (execCheckpointCommit s) = some s.standing.unasked := by
  unfold execCheckpointCommit
  split <;> simp

@[simp] theorem execReclamation_standing (part : Nat) (freed into : List Nat) (s : State) :
    standingAfter (execReclamation part freed into s) = some s.standing.unasked := by
  unfold execReclamation
  split
  · rfl
  extract_lets full t
  have ht : t.standing = s.standing := by simp [t]
  clear_value t
  split
  · simp [ht]
  split
  · simp [ht]
  next u hu =>
    have h := State.copyPages_standing _ _ _ _ hu
    extract_lets v w
    split <;> simp [v, w, h, ht]

@[simp] theorem execWearCheck_standing (channel die : Nat) (s : State) :
    standingAfter (execWearCheck channel die s) = some s.standing.unasked := by
  unfold execWearCheck
  split <;> simp

@[simp] theorem execDramIntegrityFail_standing (channel address subject access : Nat) (first second : List Byte) (s : State) :
    standingAfter (execDramIntegrityFail channel address subject access first second s) = some s.standing.unasked := by
  simp [execDramIntegrityFail]

@[simp] theorem execScrubPass_standing (channel progress address subject : Nat) (first second : List Byte) (s : State) :
    standingAfter (execScrubPass channel progress address subject first second s) = some s.standing.unasked := by
  simp [execScrubPass]

@[simp] theorem execLegalSecond_standing (s : State) :
    standingAfter (execLegalSecond s) = some s.standing.unasked := by
  unfold execLegalSecond
  dsimp only
  repeat' split
  all_goals simp

@[simp] theorem execTimeSample_standing (ref t1 t2 t3 t4 : Nat) (leap : Int) (leapDay : Nat) (s : State) :
    standingAfter (execTimeSample ref t1 t2 t3 t4 leap leapDay s) = some s.standing.unasked := by
  simp [execTimeSample]

@[simp] theorem execPpsEdge_standing (at' : Nat) (s : State) :
    standingAfter (execPpsEdge at' s) = some s.standing.unasked := by
  simp [execPpsEdge]

@[simp] theorem execPartnerTimeExchange_standing (t1 t2 t3 t4 a1 a2 a3 a4 : Nat) (s : State) :
    standingAfter (execPartnerTimeExchange t1 t2 t3 t4 a1 a2 a3 a4 s) = some s.standing.unasked := by
  simp [execPartnerTimeExchange]

@[simp] theorem execHoldoverTimeout_standing (s : State) :
    standingAfter (execHoldoverTimeout s) = some s.standing.unasked := by
  simp [execHoldoverTimeout]

@[simp] theorem execLeapSmear_standing (s : State) :
    standingAfter (execLeapSmear s) = some s.standing.unasked := by
  unfold execLeapSmear
  split <;> simp

@[simp] theorem execSnapshotComplete_standing (id : Nat) (s : State) :
    standingAfter (execSnapshotComplete id s) = some s.standing.unasked := by
  unfold execSnapshotComplete
  split <;> simp

@[simp] theorem execSnapshotSpill_standing (id : Nat) (s : State) :
    standingAfter (execSnapshotSpill id s) = some s.standing.unasked := by
  unfold execSnapshotSpill
  dsimp only
  repeat' split
  all_goals simp

@[simp] theorem execBarrowHoldExpired_standing (s : State) :
    standingAfter (execBarrowHoldExpired s) = some s.standing.unasked := by
  unfold execBarrowHoldExpired
  split <;> simp

@[simp] theorem execTenantAccessViolation_standing (requester address : Nat) (s : State) :
    standingAfter (execTenantAccessViolation requester address s) = some s.standing.unasked := by
  -- Unfolded before it is applied: comparing the two applications, the kernel would evaluate `ownerOf`.
  generalize h : execTenantAccessViolation = row
  delta execTenantAccessViolation at h
  subst h
  dsimp only
  cases s.ownerOf address with
  | none => rfl
  | some owner =>
    dsimp only
    split <;> simp

@[simp] theorem execShareWait_standing (tenant resource : Nat) (s : State) :
    standingAfter (execShareWait tenant resource s) = some s.standing.unasked := by
  unfold execShareWait
  split <;> simp

@[simp] theorem execPairWaitExpiry_standing (s : State) :
    standingAfter (execPairWaitExpiry s) = some s.standing.unasked := by
  unfold execPairWaitExpiry
  split <;> simp

@[simp] theorem execPartnerLoss_standing (s : State) :
    standingAfter (execPartnerLoss s) = some s.standing.unasked := by
  unfold execPartnerLoss
  dsimp only
  repeat' split
  all_goals simp

@[simp] theorem execSoloGuardExpiry_standing (s : State) :
    standingAfter (execSoloGuardExpiry s) = some s.standing.unasked := by
  unfold execSoloGuardExpiry
  split <;> simp

@[simp] theorem execPartnerYield_standing (s : State) :
    standingAfter (execPartnerYield s) = some s.standing.unasked := by
  simp [execPartnerYield]

@[simp] theorem execClaimStart_standing (s : State) :
    standingAfter (execClaimStart s) = some s.standing.unasked := by
  unfold execClaimStart
  dsimp only
  repeat' split
  all_goals simp

@[simp] theorem execTakeoverDone_standing (older : Nat) (gaps : List Nat) (s : State) :
    standingAfter (execTakeoverDone older gaps s) = some s.standing.unasked := by
  simp [execTakeoverDone]

@[simp] theorem execReadyChange_standing (s : State) :
    standingAfter (execReadyChange s) = some s.standing.unasked := by
  unfold execReadyChange
  split <;> simp

@[simp] theorem execCatchUpDone_standing (s : State) :
    standingAfter (execCatchUpDone s) = some s.standing.unasked := by
  unfold execCatchUpDone
  split <;> simp

@[simp] theorem execTakebackDue_standing (s : State) :
    standingAfter (execTakebackDue s) = some s.standing.unasked := by
  unfold execTakebackDue
  split <;> simp

@[simp] theorem execHandover_standing (s : State) :
    standingAfter (execHandover s) = some s.standing.unasked := by
  unfold execHandover
  split <;> simp

@[simp] theorem execHandoverTimeout_standing (s : State) :
    standingAfter (execHandoverTimeout s) = some s.standing.unasked := by
  simp [execHandoverTimeout]

@[simp] theorem execDigestHoldExpiry_standing (neighbour domain : Nat) (s : State) :
    standingAfter (execDigestHoldExpiry neighbour domain s) = some s.standing.unasked := by
  unfold execDigestHoldExpiry
  dsimp only
  repeat' split
  all_goals simp

@[simp] theorem execImageReceived_standing (port : Nat) (container : List Byte) (s : State) :
    standingAfter (execImageReceived port container s) = some s.standing.unasked := by
  simp [execImageReceived]

@[simp] theorem execTrialConfirm_standing (s : State) :
    standingAfter (execTrialConfirm s) = some s.standing.unasked := by
  unfold execTrialConfirm
  split <;> simp

@[simp] theorem execRollStepDone_standing (s : State) :
    standingAfter (execRollStepDone s) = some s.standing.unasked := by
  unfold execRollStepDone
  split <;> simp

@[simp] theorem execChainLinkLoss_standing (s : State) :
    standingAfter (execChainLinkLoss s) = some s.standing.unasked := by
  unfold execChainLinkLoss
  split <;> simp

@[simp] theorem execHeadCampaignStep_standing (campaign lane : Nat) (s : State) :
    standingAfter (execHeadCampaignStep campaign lane s) = some s.standing.unasked := by
  unfold execHeadCampaignStep
  split
  · rfl
  · split
    · split <;> simp
    · rfl

@[simp] theorem execMeterCampaignRound_standing (campaign : Nat) (s : State) :
    standingAfter (execMeterCampaignRound campaign s) = some s.standing.unasked := by
  unfold execMeterCampaignRound
  dsimp only
  repeat' split
  all_goals simp

@[simp] theorem execBundleAssemblyTimeout_standing (s : State) :
    standingAfter (execBundleAssemblyTimeout s) = some s.standing.unasked := by
  unfold execBundleAssemblyTimeout
  split <;> simp

@[simp] theorem execLockoutSample_standing (levels : Nat) (s : State) :
    standingAfter (execLockoutSample levels s) = some s.standing.unasked := by
  simp [execLockoutSample]

@[simp] theorem execLockoutDiscrepancyTimeout_standing (input : Nat) (s : State) :
    standingAfter (execLockoutDiscrepancyTimeout input s) = some s.standing.unasked := by
  simp [execLockoutDiscrepancyTimeout]

@[simp] theorem execReleaseHoldEnd_standing (input : Nat) (s : State) :
    standingAfter (execReleaseHoldEnd input s) = some s.standing.unasked := by
  unfold execReleaseHoldEnd
  dsimp only
  repeat' split
  all_goals simp

@[simp] theorem execSafeDeadline_standing (slot : Nat) (s : State) :
    standingAfter (execSafeDeadline slot s) = some s.standing.unasked := by
  unfold execSafeDeadline
  split <;> simp

@[simp] theorem execSessionReconnect_standing (session : Nat) (s : State) :
    standingAfter (execSessionReconnect session s) = some s.standing.unasked := by
  simp [execSessionReconnect]

@[simp] theorem execTlsHandshakeDone_standing (session ok alert suite : Nat) (spki : List Byte) (s : State) :
    standingAfter (execTlsHandshakeDone session ok alert suite spki s) = some s.standing.unasked := by
  simp [execTlsHandshakeDone]

@[simp] theorem execSessionFrameReceived_standing (session type length : Nat) (body : List Byte) (s : State) :
    standingAfter (execSessionFrameReceived session type length body s) = some s.standing.unasked := by
  unfold execSessionFrameReceived
  dsimp only
  repeat' split
  all_goals simp

@[simp] theorem execSessionKeepalive_standing (session : Nat) (s : State) :
    standingAfter (execSessionKeepalive session s) = some s.standing.unasked := by
  simp [execSessionKeepalive]

@[simp] theorem execSessionRxTimeout_standing (session : Nat) (s : State) :
    standingAfter (execSessionRxTimeout session s) = some s.standing.unasked := by
  simp [execSessionRxTimeout]

@[simp] theorem execExportCursorJournal_standing (s : State) :
    standingAfter (execExportCursorJournal s) = some s.standing.unasked := by
  simp [execExportCursorJournal]

@[simp] theorem execBackhaulFrameReceived_standing (port bytes refused corrected uncorrected : Nat) (s : State) :
    standingAfter (execBackhaulFrameReceived port bytes refused corrected uncorrected s) = some s.standing.unasked := by
  simp [execBackhaulFrameReceived]

@[simp] theorem execPortLinkChange_standing (kind port up : Nat) (s : State) :
    standingAfter (execPortLinkChange kind port up s) = some s.standing.unasked := by
  simp [execPortLinkChange]

@[simp] theorem execHostLinkReset_standing (kind : Nat) (s : State) :
    standingAfter (execHostLinkReset kind s) = some s.standing.unasked := by
  simp [execHostLinkReset]

@[simp] theorem execHostError_standing (severity status : Nat) (s : State) :
    standingAfter (execHostError severity status s) = some s.standing.unasked := by
  simp [execHostError]

@[simp] theorem execHeartbeatSend_standing (s : State) :
    standingAfter (execHeartbeatSend s) = some s.standing.unasked := by
  simp [execHeartbeatSend]

@[simp] theorem execPfwAssert_standing (s : State) :
    standingAfter (execPfwAssert s) = some s.standing.unasked := by
  unfold execPfwAssert
  dsimp only
  repeat' split
  all_goals simp

@[simp] theorem execSaveDone_standing (us : Nat) (s : State) :
    standingAfter (execSaveDone us s) = some s.standing.unasked := by
  simp [execSaveDone]

@[simp] theorem execPfwDeassert_standing (s : State) :
    standingAfter (execPfwDeassert s) = some s.standing.unasked := by
  unfold execPfwDeassert
  dsimp only
  repeat' split
  all_goals simp

@[simp] theorem execInputFaultTimeout_standing (s : State) :
    standingAfter (execInputFaultTimeout s) = some s.standing.unasked := by
  simp [execInputFaultTimeout]

@[simp] theorem execMonitorWarning_standing (rail : Nat) (s : State) :
    standingAfter (execMonitorWarning rail s) = some s.standing.unasked := by
  unfold execMonitorWarning
  dsimp only
  repeat' split
  all_goals simp

@[simp] theorem execMonitorReset_standing (rail : Nat) (s : State) :
    standingAfter (execMonitorReset rail s) = some s.standing.unasked := by
  simp [execMonitorReset]

@[simp] theorem execSleepWake_standing (cause : Nat) (s : State) :
    standingAfter (execSleepWake cause s) = some s.standing.unasked := by
  simp [execSleepWake]

@[simp] theorem execD3hotEntry_standing (pmeEn : Nat) (s : State) :
    standingAfter (execD3hotEntry pmeEn s) = some s.standing.unasked := by
  simp [execD3hotEntry]

@[simp] theorem execWakeCondition_standing (reason : Nat) (s : State) :
    standingAfter (execWakeCondition reason s) = some s.standing.unasked := by
  simp [execWakeCondition]

@[simp] theorem execLinkTrainingStart_standing (s : State) :
    standingAfter (execLinkTrainingStart s) = some s.standing.unasked := by
  simp [execLinkTrainingStart]

@[simp] theorem execThermalTrip_standing (_sensor : Nat) (s : State) :
    standingAfter (execThermalTrip _sensor s) = some s.standing.unasked := by
  unfold execThermalTrip
  dsimp only
  repeat' split
  all_goals simp

@[simp] theorem execPorstAssert_standing (s : State) :
    standingAfter (execPorstAssert s) = some s.standing.unasked := by
  simp [execPorstAssert]

@[simp] theorem execRollReadyTimeout_standing (s : State) :
    standingAfter (execRollReadyTimeout s) = some s.standing.unasked := by
  unfold execRollReadyTimeout
  split <;> simp

end Machine

end Sys2Proof
end

section
/-! What every command does to the standing parts of the state: the buffers stay canonical, a closed fuse stays closed, a seal is held. -/

namespace Sys2Proof

open Machine

namespace Machine

/-! ### What a command may do to the standing parts -/

/-- Only the host window's buffers differ, and they stay canonical. -/
def Standing.OnBuffers (a b : Standing) : Prop :=
  ∃ l, b = { a with buffers := l } ∧ (bufWf a.buffers = true → bufWf l = true)

/-- What a command may do to the standing parts but for the tenants: the queue and what part the chip is stay, a closed debug fuse stays
closed, and canonical buffers stay canonical. -/
structure Standing.KeepsPart (a b : Standing) : Prop where
  pending : b.pending = a.pending
  variant : b.variant = a.variant
  letter : b.letter = a.letter
  digit : b.digit = a.digit
  serial : b.serial = a.serial
  closed : a.debugClosed = true → b.debugClosed = true
  buffers : bufWf a.buffers = true → bufWf b.buffers = true

/-- Whether a SEALED tenant is SEALED or RELEASING after. -/
def Standing.KeepsSeal (a b : Standing) : Prop :=
  ∀ t, (Map.getD a.tenants t {}).st = .sealed → (Map.getD b.tenants t {}).st = .sealed ∨ (Map.getD b.tenants t {}).st = .releasing

theorem Standing.OnBuffers.refl (a : Standing) : a.OnBuffers a := ⟨a.buffers, rfl, id⟩

theorem Standing.OnBuffers.of_eq {a b : Standing} (h : b = a) : a.OnBuffers b := h ▸ .refl a

theorem Standing.OnBuffers.trans {a b c : Standing} (h : a.OnBuffers b) (h' : b.OnBuffers c) : a.OnBuffers c := by
  obtain ⟨l, rfl, hl⟩ := h
  obtain ⟨m, rfl, hm⟩ := h'
  exact ⟨m, rfl, fun w => hm (hl w)⟩

theorem Standing.OnBuffers.foldl {α : Type} {g : State → α → State} (h : ∀ (s : State) (a : α), s.standing.OnBuffers (g s a).standing) (l : List α) (s : State) :
    s.standing.OnBuffers (l.foldl g s).standing := by
  induction l generalizing s with
  | nil => exact .refl _
  | cons a l ih => exact (h s a).trans (ih _)

theorem Standing.KeepsPart.refl (a : Standing) : a.KeepsPart a := ⟨rfl, rfl, rfl, rfl, rfl, id, id⟩

theorem Standing.KeepsPart.of_eq {a b : Standing} (h : b = a) : a.KeepsPart b := h ▸ .refl a

theorem Standing.OnBuffers.keepsPart {a b : Standing} (h : a.OnBuffers b) : a.KeepsPart b := by
  obtain ⟨l, rfl, hl⟩ := h
  exact ⟨rfl, rfl, rfl, rfl, rfl, id, hl⟩

theorem Standing.KeepsPart.trans {a b c : Standing} (h : a.KeepsPart b) (h' : b.KeepsPart c) : a.KeepsPart c :=
  ⟨h'.pending.trans h.pending, h'.variant.trans h.variant, h'.letter.trans h.letter, h'.digit.trans h.digit, h'.serial.trans h.serial,
    fun w => h'.closed (h.closed w), fun w => h'.buffers (h.buffers w)⟩

/-- What the standing parts but for the channels' requests say of what is kept. -/
theorem Standing.KeepsPart.of_unasked {a b : Standing} (h : b.unasked = a.unasked) : a.KeepsPart b :=
  ⟨(congrArg Standing.pending h :), (congrArg Standing.variant h :), (congrArg Standing.letter h :), (congrArg Standing.digit h :),
    (congrArg Standing.serial h :), fun w => (congrArg Standing.debugClosed h).trans w, fun w => (congrArg (bufWf ·.buffers) h).trans w⟩

theorem Standing.KeepsSeal.of_tenants {a b : Standing} (h : b.tenants = a.tenants) : a.KeepsSeal b := fun t ht => .inl (by rw [h, ht])

theorem Standing.OnBuffers.tenants {a b : Standing} (h : a.OnBuffers b) : b.tenants = a.tenants := by
  obtain ⟨l, rfl, -⟩ := h
  rfl

theorem Standing.KeepsSeal.congr {a b c : Standing} (h : a.KeepsSeal b) (h' : c.tenants = b.tenants) : a.KeepsSeal c := fun t ht => by
  rw [h']
  exact h t ht

/-- A tenant's state is put: it keeps the seals where that tenant is not SEALED, or is put SEALED or RELEASING. -/
theorem Standing.KeepsSeal.put (a : Standing) (t : Nat) (x : TenantSt)
    (h : (Map.getD a.tenants t {}).st = .sealed → x.st = .sealed ∨ x.st = .releasing) :
    a.KeepsSeal { a with tenants := Map.put a.tenants t x } := fun u hu => by
  by_cases e : u = t
  · subst e
    simpa [Map.getD_put_self] using h hu
  · left
    simpa [Map.getD_put, Ne.symm e] using hu

/-! ### The window's buffers -/

theorem State.setBuffers_onBuffers (s : State) (l : List Host.Cell) (h : bufWf s.mail.buffers = true → bufWf l = true) :
    s.standing.OnBuffers ({ s with mail := { s.mail with buffers := l } } : State).standing :=
  ⟨l, rfl, h⟩

theorem State.present_onBuffers (s : State) (n : Nat) : s.standing.OnBuffers (s.present n).standing := by
  unfold State.present
  split
  next nt _ x hn hx =>
    extract_lets body msg tun mail t
    have ht : s.standing.OnBuffers t.standing := by
      by_cases h : tun = true
      · rw [show t = _ from if_pos h]
        exact .of_eq (by simp)
      · rw [show t = _ from if_neg h]
        exact s.setBuffers_onBuffers _ (bufWf_store msg _ _)
    exact ht.trans (.of_eq (by simp))
  · exact .refl _

theorem State.notify_onBuffers (s : State) (n : Nat) (nt : Note) : s.standing.OnBuffers (s.notify n nt).standing := by
  unfold State.notify
  split
  · exact .refl _
  split
  · extract_lets first t
    have ht : t.standing = s.standing := by simp [t]
    split
    · exact (Standing.OnBuffers.of_eq ht).trans ((t.present_onBuffers n).trans (.of_eq (by simp)))
    · exact .of_eq ht
  · exact .of_eq (by simp)

theorem State.notifyHead_onBuffers (s : State) (n : Nat) (nt : Note) : s.standing.OnBuffers (s.notifyHead n nt).standing := by
  unfold State.notifyHead
  have h := (s.modChan n fun c => { c with notes := nt :: c.notes }).present_onBuffers n
  simpa using h

theorem State.place_onBuffers (s : State) (n : Nat) (m : List Byte) : s.standing.OnBuffers (s.place n m).standing :=
  ⟨bufStore s.mail.buffers (cmdBuf n) m, rfl, bufWf_store _ _ _⟩

theorem State.route_onBuffers (s : State) (e : TrailEntry) (officer : Bool) : s.standing.OnBuffers (s.route e officer).standing := by
  unfold State.route
  extract_lets +onlyGivenNames src r sent targets forced limited go t
  have ht : s.standing.OnBuffers t.standing := .foldl (fun u n => u.notify_onBuffers n _) go s
  exact ht.trans (.of_eq (by simp))

theorem State.takeEvent_onBuffers (look : State → Nat → WordEntry) (regionWord : State → Nat → Nat) (s : State) :
    s.standing.OnBuffers (s.takeEvent look regionWord).standing := by
  unfold State.takeEvent
  split
  · exact .refl _
  next r q _ =>
    extract_lets e ev t u v w
    have hv : v.standing = s.standing := by simp [v, u, t, ev]
    have hw : s.standing.OnBuffers w.standing :=
      (Standing.OnBuffers.of_eq hv).trans ((v.route_onBuffers e r.officer).trans (.of_eq (by simp [w])))
    exact hw.trans (.of_eq (by simp))

theorem State.tellInitiator_onBuffers (s : State) (x : Ticket) (y : Status) (slot : Nat) :
    s.standing.OnBuffers (s.tellInitiator x y slot).standing := by
  unfold State.tellInitiator
  split
  · split
    · exact s.notify_onBuffers _ _
    · exact .refl _
  · exact .refl _

theorem execCommandResponseReady_onBuffers (ch : Nat) (s : State) :
    ∃ t, execCommandResponseReady ch s = .next t ∧ s.standing.OnBuffers t.standing := by
  unfold execCommandResponseReady
  split
  · split
    · exact ⟨_, rfl, .refl _⟩
    next r _ _ m ms _ =>
      split
      · exact ⟨_, rfl, .of_eq (by simp)⟩
      · extract_lets t u
        have hu : s.standing.OnBuffers u.standing := (s.place_onBuffers ch m).trans (.of_eq (by simp [u, t]))
        exact ⟨_, rfl, hu.trans (.of_eq (by simp))⟩
  · exact ⟨_, rfl, .refl _⟩

theorem execMbRespAck_onBuffers (ch : Nat) (s : State) : ∃ t, execMbRespAck ch s = .next t ∧ s.standing.OnBuffers t.standing := by
  unfold execMbRespAck
  split
  · exact ⟨_, rfl, .refl _⟩
  split
  · exact ⟨_, rfl, .of_eq (by simp)⟩
  split
  next m ms _ _ => exact ⟨_, rfl, (s.place_onBuffers ch m).trans (.of_eq (by simp))⟩
  · exact ⟨_, rfl, .of_eq (by simp)⟩
  · exact ⟨_, rfl, .refl _⟩

theorem execRegisterWrite_onBuffers (off value : Nat) (s : State) :
    ∃ t, execRegisterWrite off value s = .next t ∧ s.standing.OnBuffers t.standing := by
  unfold execRegisterWrite
  extract_lets v mail n p
  split
  · exact ⟨_, rfl, .of_eq (by simp [mail])⟩
  split
  · split
    · exact ⟨_, rfl, .refl _⟩
    split
    · exact ⟨_, rfl, .of_eq (by simp)⟩
    split
    · exact ⟨_, rfl, .of_eq (by simp)⟩
    split
    · exact ⟨_, rfl, s.setBuffers_onBuffers _ (bufWf_store _ _ _)⟩
    · exact ⟨_, rfl, .refl _⟩
  split
  · exact ⟨_, rfl, .of_eq (by simp)⟩
  · exact ⟨_, rfl, .refl _⟩

theorem execMbNotifyAck_onBuffers (ch : Nat) (s : State) : ∃ t, execMbNotifyAck ch s = .next t ∧ s.standing.OnBuffers t.standing := by
  unfold execMbNotifyAck
  split
  · exact ⟨_, rfl, .refl _⟩
  split
  · exact ⟨_, rfl, .of_eq (by simp)⟩
  split
  · exact ⟨_, rfl, .refl _⟩
  · exact ⟨_, rfl, .of_eq (by simp)⟩
  next l _ _ =>
    have h := (s.modChan ch fun c => { c with notes := l }).present_onBuffers ch
    exact ⟨_, rfl, by simpa using h⟩

theorem execD0Return_onBuffers (s : State) : ∃ t, execD0Return s = .next t ∧ s.standing.OnBuffers t.standing := by
  unfold execD0Return
  split
  · exact ⟨_, rfl, .refl _⟩
  · extract_lets payload vecs mail pow t u st v
    have hv : v.standing = s.standing := by simp [v, u, t, mail]
    have hn := Standing.OnBuffers.foldl (fun (w : State) n => w.notifyHead_onBuffers n ⟨Ev.powerWake.source, st, payload⟩) v.hostSessions v
    exact ⟨_, rfl, (Standing.OnBuffers.of_eq hv).trans (hn.trans (.of_eq (by simp)))⟩

theorem execEventAdmitted_onBuffers (s : State) : ∃ t, execEventAdmitted s = .next t ∧ s.standing.OnBuffers t.standing :=
  ⟨_, rfl, (s.takeEvent_onBuffers State.look State.regionWord).trans (.of_eq (by simp))⟩

/-! ### The tenants, the resets and the fuse -/

/-- What a command may do to the standing parts: what `Standing.KeepsPart` and `Standing.KeepsSeal` say. -/
def Standing.Keeps (a b : Standing) : Prop := a.KeepsPart b ∧ a.KeepsSeal b

theorem Standing.Keeps.refl (a : Standing) : a.Keeps a := ⟨.refl a, .of_tenants rfl⟩

theorem Standing.Keeps.of_eq {a b : Standing} (h : b = a) : a.Keeps b := h ▸ .refl a

theorem Standing.Keeps.of_unasked {a b : Standing} (h : b.unasked = a.unasked) : a.Keeps b :=
  ⟨.of_unasked h, .of_tenants (congrArg Standing.tenants h :)⟩

/-- A tail that leaves all but the channels' requests. -/
theorem Standing.Keeps.unasked {a b c : Standing} (h : a.Keeps b) (h' : c.unasked = b.unasked) : a.Keeps c :=
  ⟨h.1.trans (.of_unasked h'), h.2.congr (congrArg Standing.tenants h' :)⟩

theorem Standing.OnBuffers.keeps {a b : Standing} (h : a.OnBuffers b) : a.Keeps b := ⟨h.keepsPart, .of_tenants h.tenants⟩

theorem Standing.Keeps.onBuffers {a b c : Standing} (h : a.Keeps b) (h' : b.OnBuffers c) : a.Keeps c :=
  ⟨h.1.trans h'.keepsPart, h.2.congr h'.tenants⟩

theorem State.setTenant_standing (s : State) (t : Nat) (x : TenantSt) :
    (s.setTenant t x).standing = { s.standing with tenants := Map.put s.standing.tenants t x } := (rfl)

theorem State.moveTenant_standing (s : State) (t : Nat) (x : TenantSt) :
    (s.moveTenant t x).standing = { s.standing with tenants := Map.put s.standing.tenants t x } := by
  simp [State.moveTenant, State.setTenant_standing]

theorem State.tenant_standing (s : State) (t : Nat) : s.tenant t = Map.getD s.standing.tenants t {} := rfl

theorem Standing.Keeps.put (a : Standing) (t : Nat) (x : TenantSt)
    (h : (Map.getD a.tenants t {}).st = .sealed → x.st = .sealed ∨ x.st = .releasing) :
    a.Keeps { a with tenants := Map.put a.tenants t x } :=
  ⟨⟨rfl, rfl, rfl, rfl, rfl, id, id⟩, .put a t x h⟩

theorem State.approvedSeal_keeps (s : State) (t : Nat) : s.standing.Keeps (s.approvedSeal t).2.standing := by
  unfold State.approvedSeal
  extract_lets x y
  split
  · simpa [State.moveTenant_standing] using Standing.Keeps.put s.standing t y fun _ => .inl rfl
  · exact .of_eq (by simp)

theorem State.approvedRelease_keeps (s : State) (t : Nat) : s.standing.Keeps (s.approvedRelease t).2.standing := by
  unfold State.approvedRelease
  split
  · extract_lets l y u
    simpa [u, y, State.moveTenant_standing] using Standing.Keeps.put s.standing t _ fun _ => .inr rfl
  · exact .refl _

theorem State.executeApproved_keeps (s : State) (x : Ticket) (c : Caller) : s.standing.Keeps (s.executeApproved x c).2.standing := by
  unfold State.executeApproved
  extract_lets a
  split
  · exact .of_eq (by simp)
  · exact s.approvedSeal_keeps _
  · exact s.approvedRelease_keeps _
  · exact .of_eq (by simp)

theorem State.approve_keeps (s : State) (x : Ticket) (c : Caller) : s.standing.Keeps (s.approve x c).2.standing := by
  have h := s.executeApproved_keeps x c
  unfold State.approve
  extract_lets o t
  split
  · exact (h.onBuffers (.of_eq (by simp [t, o]))).onBuffers (t.tellInitiator_onBuffers _ _ _)
  · exact (Standing.OnBuffers.of_eq (by simp)).trans (State.tellInitiator_onBuffers (s.voidTicket x.ticket .refused) _ _ _) |>.keeps

theorem State.chipReset_keeps (s : State) (kind : Nat) (cause : ResetCause) : s.standing.Keeps (s.chipReset kind cause).standing := by
  unfold State.chipReset
  extract_lets +onlyGivenNames slots served s₁ s₂ s₃ s₄ s₅ count
  have h₅ : s₅.standing = s.standing := by simp [s₁, s₂, s₃, s₄, s₅]
  clear_value s₅ served
  extract_lets arch mail time upd safe ports pow store vault t
  have ht : s₅.standing.Keeps t.standing := ⟨⟨rfl, rfl, rfl, rfl, rfl, id, fun _ => rfl⟩, .of_tenants rfl⟩
  rw [← h₅]
  exact ht.onBuffers (.of_eq (by simp))

theorem State.bootRom_keeps (s : State) (detail : Nat) (vpp : Bool) : s.standing.Keeps (s.bootRom detail vpp).standing := by
  unfold State.bootRom
  extract_lets +onlyGivenNames first
  split
  · exact .of_eq (by simp)
  split
  · exact .of_eq (by simp)
  extract_lets pow arch t
  have ht : s.standing.Keeps t.standing := by
    simp only [t]
    split
    · split
      · exact ⟨⟨rfl, rfl, rfl, rfl, rfl, fun _ => rfl, id⟩, .of_tenants rfl⟩
      · exact .of_eq (by simp)
    · exact .refl _
  exact ht.onBuffers (.of_eq (by simp))

theorem State.finishRelease_keeps (s : State) (t : Nat) (h : s.isReleasing t = true) : s.standing.Keeps (s.finishRelease t).standing := by
  unfold State.finishRelease
  extract_lets closed u v
  have hu : u.standing = s.standing := by simp [u]
  have hv : v.standing = { s.standing with tenants := Map.put s.standing.tenants t {} } := by
    simp [v, State.moveTenant_standing, hu]
  rw [State.raise_standing, hv]
  refine .put s.standing t {} fun hs => ?_
  simp only [State.isReleasing, decide_eq_true_eq] at h
  rw [State.tenant_standing, hs] at h
  cases h

theorem execPowerOnReset_keeps (vaon : Nat) (s : State) : ∃ t, execPowerOnReset vaon s = .next t ∧ s.standing.Keeps t.standing := by
  unfold execPowerOnReset
  split
  · exact ⟨_, rfl, .refl _⟩
  · extract_lets pow t
    have ht : t.standing = s.standing := by simp [t]
    exact ⟨_, rfl, ht ▸ (t.chipReset_keeps 0 .powerOn).onBuffers (.of_eq (by simp))⟩

theorem execSupplyInRange_keeps (s : State) : ∃ t, execSupplyInRange s = .next t ∧ s.standing.Keeps t.standing := by
  unfold execSupplyInRange
  extract_lets pow t
  have ht : t.standing = s.standing := by simp [t]
  split
  · exact ⟨_, rfl, ht ▸ (t.chipReset_keeps 0 .supply).onBuffers (.of_eq (by simp))⟩
  split
  · exact ⟨_, rfl, .of_eq (by simpa using ht)⟩
  · exact ⟨_, rfl, .of_eq ht⟩

theorem execWarmReset_keeps (s : State) : ∃ t, execWarmReset s = .next t ∧ s.standing.Keeps t.standing := by
  unfold execWarmReset
  split
  · exact ⟨_, rfl, .refl _⟩
  next c _ =>
    split
    · exact ⟨_, rfl, .refl _⟩
    · exact ⟨_, rfl, (s.chipReset_keeps 1 (resetCauseOf c)).onBuffers (.of_eq (by simp))⟩

theorem execBootStageDone_keeps (detail measured : Nat) (cells regions : List Nat) (dies : List (List Nat)) (s : State) :
    ∃ t, execBootStageDone detail measured cells regions dies s = .next t ∧ s.standing.Keeps t.standing := by
  unfold execBootStageDone
  split
  · exact ⟨_, rfl, .refl _⟩
  split
  · extract_lets d
    split
    · exact ⟨_, rfl, .refl _⟩
    · exact ⟨_, rfl, s.bootRom_keeps _ _⟩
  all_goals exact ⟨_, rfl, .of_eq (by simp)⟩

theorem execTenantReleaseDone_keeps (tenant : Nat) (s : State) :
    ∃ t, execTenantReleaseDone tenant s = .next t ∧ s.standing.Keeps t.standing := by
  unfold execTenantReleaseDone
  split
  next h => exact ⟨_, rfl, s.finishRelease_keeps tenant h.1⟩
  · exact ⟨_, rfl, .refl _⟩

theorem gated_keeps (s : State) (l : List (Bool × Status)) {run : State → Reply × State} (h : s.standing.Keeps (run s).2.standing) :
    s.standing.Keeps (gated s l run).2.standing := by
  unfold gated
  split
  · exact .refl _
  · exact h

theorem runApprove_keeps (ticket : Nat) (digest : List Byte) (c : Caller) (s : State) :
    s.standing.Keeps (runApprove ticket digest c s).2.standing := by
  unfold runApprove
  split
  · exact .of_eq (by simp)
  · exact gated_keeps _ _ (s.approve_keeps _ c)

/-! ### What the partner sends -/

/-- Only the tenants differ. -/
def Standing.OnTenants (a b : Standing) : Prop := ∃ m, b = { a with tenants := m }

theorem Standing.OnTenants.refl (a : Standing) : a.OnTenants a := ⟨a.tenants, rfl⟩

theorem Standing.OnTenants.of_eq {a b : Standing} (h : b = a) : a.OnTenants b := h ▸ .refl a

theorem Standing.OnTenants.trans {a b c : Standing} (h : a.OnTenants b) (h' : b.OnTenants c) : a.OnTenants c := by
  obtain ⟨l, rfl⟩ := h
  obtain ⟨m, rfl⟩ := h'
  exact ⟨m, rfl⟩

theorem Standing.OnTenants.keepsPart {a b : Standing} (h : a.OnTenants b) : a.KeepsPart b := by
  obtain ⟨m, rfl⟩ := h
  exact ⟨rfl, rfl, rfl, rfl, rfl, id, id⟩

theorem State.applyEntry_onTenants (s : State) (tenant stamp : Nat) (b : List Nat) :
    s.standing.OnTenants (s.applyEntry tenant stamp b).2.standing := by
  unfold State.applyEntry
  split
  · exact .of_eq (by simp)
  · exact .of_eq (by simp)
  · exact ⟨_, s.setTenant_standing _ _⟩
  · exact .of_eq (by simp)
  · exact .refl _

theorem State.takeEntry_onTenants (s : State) (l : List Nat) : s.standing.OnTenants (s.takeEntry l).standing := by
  unfold State.takeEntry
  extract_lets +onlyGivenNames w p o t
  split
  · exact .refl _
  split
  · exact .of_eq (by simp)
  · have ht : s.standing.OnTenants t.standing := s.applyEntry_onTenants _ _ _
    exact ht.trans (.of_eq (by simp))

theorem State.takeMessage_onTenants (s : State) (port type : Nat) (chipB : Bool) (region : Nat) (words : List Nat) (data : List Byte) :
    s.standing.OnTenants (s.takeMessage port type chipB region words data).standing := by
  unfold State.takeMessage
  extract_lets w
  split
  case h_3 =>
    split
    · exact s.takeEntry_onTenants _
    · exact .of_eq (by simp)
    · exact .of_eq (by simp)
  all_goals exact .of_eq (by simp)

theorem State.takeFragment_onTenants (s : State) (port : Nat) (h : PartnerHead) (part : List Byte) :
    s.standing.OnTenants (s.takeFragment port h part).standing := by
  unfold State.takeFragment
  extract_lets x body t
  split
  · exact .of_eq (by simp)
  split
  · exact .of_eq (by simp)
  · have ht : t.standing = s.standing := by simp [t]
    exact (Standing.OnTenants.of_eq ht).trans (t.takeMessage_onTenants _ _ _ _ _ _)

theorem execPartnerMessageReceived_onTenants (port : Nat) (frame : List Byte) (s : State) :
    ∃ t, execPartnerMessageReceived port frame s = .next t ∧ s.standing.OnTenants t.standing := by
  unfold execPartnerMessageReceived
  extract_lets h x t u
  split
  · exact ⟨_, rfl, .refl _⟩
  split
  · exact ⟨_, rfl, .of_eq (by simp)⟩
  · have hu : u.standing = s.standing := by simp [u, t]
    exact ⟨_, rfl, (Standing.OnTenants.of_eq hu).trans (u.takeFragment_onTenants _ _ _)⟩

/-! ### Every command -/

/-- What `exec` does to the standing parts, whatever the command: but for a message of the partner, the seals are kept too. -/
def RowKeeps (i : Instr) (s : State) : Prop :=
  ∃ t, exec i s = .next t ∧ s.standing.KeepsPart t.standing ∧ (Claims.fromPartner i = false → s.standing.KeepsSeal t.standing)

theorem RowKeeps.of_keeps {i : Instr} {s : State} (h : ∃ t, exec i s = .next t ∧ s.standing.Keeps t.standing) : RowKeeps i s := by
  obtain ⟨t, ht, hk⟩ := h
  exact ⟨t, ht, hk.1, fun _ => hk.2⟩

theorem RowKeeps.of_onBuffers {i : Instr} {s : State} (h : ∃ t, exec i s = .next t ∧ s.standing.OnBuffers t.standing) : RowKeeps i s := by
  obtain ⟨t, ht, hk⟩ := h
  exact .of_keeps ⟨t, ht, hk.keeps⟩

theorem RowKeeps.of_standing {i : Instr} {s : State} (h : standingAfter (exec i s) = some s.standing.unasked) : RowKeeps i s := by
  cases he : exec i s with
  | next t =>
    rw [he] at h
    exact .of_keeps ⟨t, he, .of_unasked (Option.some.inj h)⟩
  | _ => simp [he, standingAfter] at h

theorem exec_readOf_standing {i : Instr} {ch : Nat} {k : Cmd} {read : Caller → State → Reply} (h : Claims.readOf i = some (ch, k, read))
    (s : State) : standingAfter (exec i s) = some s.standing.unasked := by
  have he : exec i s = .next (s.readCommand ch k read) := by
    unfold Claims.readOf at h
    split at h <;> cases h <;> rfl
  rw [he, standingAfter_next, State.readCommand_unasked]

theorem runOf_standing {i : Instr} {ch : Nat} {k : Cmd} {run : Caller → State → Reply × State} (h : Claims.runOf i = some (ch, k, run))
    (c : Caller) (s : State) : (run c s).2.standing = s.standing := by
  unfold Claims.runOf at h
  split at h <;> cases h <;> simp

theorem exec_runOf_standing {i : Instr} {ch : Nat} {k : Cmd} {run : Caller → State → Reply × State} (h : Claims.runOf i = some (ch, k, run))
    (s : State) : standingAfter (exec i s) = some s.standing.unasked := by
  rw [exec_of_runOf h, standingAfter_next, State.command_unasked s ch k fun c => runOf_standing h c s]

theorem recordOf_keepsStanding {i : Instr} {rule : RecordRule} {k : Schema} {tenant inst : Nat} {body : List Byte}
    (h : Claims.recordOf i = some (rule, k, tenant, inst, body)) : rule.KeepsStanding := by
  unfold Claims.recordOf at h
  split at h <;> cases h <;> simp

theorem exec_of_recordOf {i : Instr} {rule : RecordRule} {k : Schema} {tenant inst : Nat} {body : List Byte}
    (h : Claims.recordOf i = some (rule, k, tenant, inst, body)) (s : State) :
    exec i s = .next (s.applyRecord rule k tenant inst body) := by
  unfold Claims.recordOf at h
  split at h <;> cases h <;> rfl

theorem exec_recordOf_standing {i : Instr} {rule : RecordRule} {k : Schema} {tenant inst : Nat} {body : List Byte}
    (h : Claims.recordOf i = some (rule, k, tenant, inst, body)) (s : State) : standingAfter (exec i s) = some s.standing.unasked := by
  rw [exec_of_recordOf h, standingAfter_next, State.applyRecord_standing s (recordOf_keepsStanding h)]

theorem State.chipGate_keeps (s : State) (k : Cmd) {o : Reply × State} (h : s.standing.Keeps o.2.standing) :
    s.standing.Keeps (s.chipGate k o).2.standing := by
  unfold State.chipGate
  split
  · exact .refl _
  split
  · exact .refl _
  · exact h

theorem State.commandLater_keeps (s : State) (n : Nat) (k : Cmd) {run : Caller → State → Option Reply × State}
    (h : ∀ c, s.standing.Keeps (run c s).2.standing) : s.standing.Keeps (s.commandLater n k run).standing := by
  unfold State.commandLater
  split
  · exact .refl _
  split
  · exact .of_unasked (by simp)
  next c _ =>
    have hc := h c
    split
    next y t hr =>
      rw [hr] at hc
      exact (s.chipGate_keeps k (o := (y, t)) hc).unasked (by simp)
    next t hr =>
      rw [hr] at hc
      split
      · exact .of_unasked (by simp)
      · exact hc

theorem State.commitCommand_keeps (s : State) (n : Nat) (k : Cmd) {run : Caller → State → Reply × State}
    (h : ∀ c, s.standing.Keeps (run c s).2.standing) : s.standing.Keeps (s.commitCommand n k run).standing := by
  unfold State.commitCommand State.commitLater
  split
  · split <;> exact .of_unasked (by simp)
  · refine s.commandLater_keeps n k fun c => ?_
    have hg := s.chipGate_keeps k (o := ((run c s).1, (run c s).2)) (h c)
    dsimp only
    split
    · exact hg
    · exact hg.onBuffers (.of_eq (by simp))

theorem exec_commitOf_keeps {i : Instr} {ch : Nat} {k : Cmd} {run : Caller → State → Reply × State}
    (h : Claims.commitOf i = some (ch, k, run)) (s : State) : ∃ t, exec i s = .next t ∧ s.standing.Keeps t.standing := by
  refine ⟨_, exec_of_commitOf h s, s.commitCommand_keeps ch k fun c => ?_⟩
  unfold Claims.commitOf at h
  split at h <;> cases h
  case h_1 => exact runApprove_keeps _ _ c s
  all_goals exact .of_eq (by simp)

theorem rowKeeps_of_event {i : Instr} (s : State) (hr : Claims.readOf i = none) (hu : Claims.runOf i = none) (hc : Claims.commitOf i = none)
    (hk : Claims.recordOf i = none) : RowKeeps i s := by
  cases i
  case errorDetected => exact .of_standing (execErrorDetected_standing _ _ _ _ s)
  case workDeadlineMissed => exact .of_standing (execWorkDeadlineMissed_standing _ _ _ s)
  case probationEnd => exact .of_standing (execProbationEnd_standing _ s)
  case regionRestartDone => exact .of_standing (execRegionRestartDone_standing _ s)
  case unitEndState => exact .of_standing (execUnitEndState_standing _ _ s)
  case unitStopOverrun => exact .of_standing (execUnitStopOverrun_standing _ _ s)
  case hostBadAccess => exact .of_standing (execHostBadAccess_standing s)
  case heartbeatTick => exact .of_standing (execHeartbeatTick_standing s)
  case mbDoorbell => exact .of_standing (execMbDoorbell_standing _ s)
  case mbReset => exact .of_standing (execMbReset_standing _ s)
  case channelResetDone => exact .of_standing (execChannelResetDone_standing _ s)
  case ctrlSessionHello => exact .of_standing (execCtrlSessionHello_standing _ _ _ _ s)
  case ctrlSessionClose => exact .of_standing (execCtrlSessionClose_standing _ s)
  case ctrlRecordWrite => exact .of_standing (execCtrlRecordWrite_standing _ _ s)
  case ctrlCredentialRevoke => exact .of_standing (execCtrlCredentialRevoke_standing _ _ _ _ s)
  case sessionIdleTimeout => exact .of_standing (execSessionIdleTimeout_standing _ s)
  case ticketExpired => exact .of_standing (execTicketExpired_standing _ s)
  case backoffEnd => exact .of_standing (execBackoffEnd_standing _ s)
  case superframeReceived => exact .of_standing (execSuperframeReceived_standing _ _ _ _ _ s)
  case fecSecondTick => exact .of_standing (execFecSecondTick_standing _ s)
  case freqWindowEnd => exact .of_standing (execFreqWindowEnd_standing _ s)
  case controlMessageReceived => exact .of_standing (execControlMessageReceived_standing _ s)
  case controlMessageResend => exact .of_standing (execControlMessageResend_standing _ _ s)
  case laneStartStepDone => exact .of_standing (execLaneStartStepDone_standing _ s)
  case laneStartStepFailed => exact .of_standing (execLaneStartStepFailed_standing _ s)
  case laneRetryExpiry => exact .of_standing (execLaneRetryExpiry_standing _ s)
  case laneStartTimeout => exact .of_standing (execLaneStartTimeout_standing _ s)
  case laneLockLost => exact .of_standing (execLaneLockLost_standing _ _ s)
  case laneHeadControl => exact .of_standing (execLaneHeadControl_standing _ _ _ _ _ s)
  case laneTest => exact .of_standing (execLaneTest_standing _ _ _ _ _ s)
  case dcBlockReady => exact .of_standing (execDcBlockReady_standing _ s)
  case dcFreezeLong => exact .of_standing (execDcFreezeLong_standing _ s)
  case captureBegin => exact .of_standing (execCaptureBegin_standing _ s)
  case captureDone => exact .of_standing (execCaptureDone_standing _ s)
  case bookingRequest => exact .of_standing (execBookingRequest_standing _ _ _ _ _ _ _ _ _ _ s)
  case contextOpenDue => exact .of_standing (execContextOpenDue_standing _ s)
  case watcherDetection => exact .of_standing (execWatcherDetection_standing _ _ _ _ _ _ s)
  case detectionDrop => exact .of_standing (execDetectionDrop_standing _ s)
  case retroCatchUp => exact .of_standing (execRetroCatchUp_standing _ s)
  case contextFrameDetected => exact .of_standing (execContextFrameDetected_standing _ _ _ _ _ _ _ _ s)
  case contextNoFrame => exact .of_standing (execContextNoFrame_standing _ s)
  case alignDeadline => exact .of_standing (execAlignDeadline_standing _ _ s)
  case decodeDone => exact .of_standing (execDecodeDone_standing _ _ _ _ _ s)
  case contextFree => exact .of_standing (execContextFree_standing _ s)
  case pollDue => exact .of_standing (execPollDue_standing _ s)
  case pollPlanned => exact .of_standing (execPollPlanned_standing _ s)
  case bookingOutcome => exact .of_standing (execBookingOutcome_standing s)
  case launchLock => exact .of_standing (execLaunchLock_standing _ s)
  case launchSend => exact .of_standing (execLaunchSend_standing _ s)
  case followDecision => exact .of_standing (execFollowDecision_standing _ s)
  case pollLate => exact .of_standing (execPollLate_standing _ s)
  case recoveryRelease => exact .of_standing (execRecoveryRelease_standing s)
  case floodWindow => exact .of_standing (execFloodWindow_standing _ _ s)
  case swardVictimClear => exact .of_standing (execSwardVictimClear_standing s)
  case lingLaunch => exact .of_standing (execLingLaunch_standing _ s)
  case lingGovernorCut => exact .of_standing (execLingGovernorCut_standing _ _ _ s)
  case lingAnswerWindowEnd => exact .of_standing (execLingAnswerWindowEnd_standing _ s)
  case lingFrameDecoded => exact .of_standing (execLingFrameDecoded_standing _ _ _ _ _ _ _ s)
  case lingAlarmCall => exact .of_standing (execLingAlarmCall_standing _ s)
  case lingUnreachPoll => exact .of_standing (execLingUnreachPoll_standing _ s)
  case lingTxReady => exact .of_standing (execLingTxReady_standing _ s)
  case securityFrame => exact .of_standing (execSecurityFrame_standing _ _ s)
  case dirRebuildDone => exact .of_standing (execDirRebuildDone_standing s)
  case keySwitch => exact .of_standing (execKeySwitch_standing _ _ s)
  case keyEraseDrained => exact .of_standing (execKeyEraseDrained_standing _ _ s)
  case rngHealthFault => exact .of_standing (execRngHealthFault_standing _ _ s)
  case tamperAlarm => exact .of_standing (execTamperAlarm_standing _ _ s)
  case ledgerApply => exact .of_standing (execLedgerApply_standing _ _ _ s)
  case recordPoisoned => exact .of_standing (execRecordPoisoned_standing _ _ s)
  case journalAck => exact .of_standing (execJournalAck_standing _ s)
  case tariffVersionActive => exact .of_standing (execTariffVersionActive_standing _ s)
  case archiveWrite => exact .of_standing (execArchiveWrite_standing s)
  case zeroCrossing => exact .of_standing (execZeroCrossing_standing _ _ s)
  case zcTimeout => exact .of_standing (execZcTimeout_standing _ _ s)
  case metroWindowEnd => exact .of_standing (execMetroWindowEnd_standing _ s)
  case metroStep => exact .of_standing (execMetroStep_standing _ _ s)
  case stepRecordHandoff => exact .of_standing (execStepRecordHandoff_standing _ s)
  case metroIntervalClose => exact .of_standing (execMetroIntervalClose_standing _ s)
  case pulseEmit => exact .of_standing (execPulseEmit_standing _ s)
  case balIntervalStart => exact .of_standing (execBalIntervalStart_standing _ s)
  case balEvaluate => exact .of_standing (execBalEvaluate_standing _ _ s)
  case flashProgramDone => exact .of_standing (execFlashProgramDone_standing _ _ _ _ _ _ _ s)
  case flashReadDone => exact .of_standing (execFlashReadDone_standing _ _ _ _ _ _ _ _ _ _ _ s)
  case dieFailed => exact .of_standing (execDieFailed_standing _ _ _ s)
  case journalCopiesProgrammed => exact .of_standing (execJournalCopiesProgrammed_standing _ s)
  case checkpointStart => exact .of_standing (execCheckpointStart_standing s)
  case checkpointCommit => exact .of_standing (execCheckpointCommit_standing s)
  case reclamation => exact .of_standing (execReclamation_standing _ _ _ s)
  case wearCheck => exact .of_standing (execWearCheck_standing _ _ s)
  case dramIntegrityFail => exact .of_standing (execDramIntegrityFail_standing _ _ _ _ _ _ s)
  case scrubPass => exact .of_standing (execScrubPass_standing _ _ _ _ _ _ s)
  case legalSecond => exact .of_standing (execLegalSecond_standing s)
  case timeSample => exact .of_standing (execTimeSample_standing _ _ _ _ _ _ _ s)
  case ppsEdge => exact .of_standing (execPpsEdge_standing _ s)
  case partnerTimeExchange => exact .of_standing (execPartnerTimeExchange_standing _ _ _ _ _ _ _ _ s)
  case holdoverTimeout => exact .of_standing (execHoldoverTimeout_standing s)
  case leapSmear => exact .of_standing (execLeapSmear_standing s)
  case snapshotComplete => exact .of_standing (execSnapshotComplete_standing _ s)
  case snapshotSpill => exact .of_standing (execSnapshotSpill_standing _ s)
  case barrowHoldExpired => exact .of_standing (execBarrowHoldExpired_standing s)
  case tenantAccessViolation => exact .of_standing (execTenantAccessViolation_standing _ _ s)
  case shareWait => exact .of_standing (execShareWait_standing _ _ s)
  case pairWaitExpiry => exact .of_standing (execPairWaitExpiry_standing s)
  case partnerLoss => exact .of_standing (execPartnerLoss_standing s)
  case soloGuardExpiry => exact .of_standing (execSoloGuardExpiry_standing s)
  case partnerYield => exact .of_standing (execPartnerYield_standing s)
  case claimStart => exact .of_standing (execClaimStart_standing s)
  case takeoverDone => exact .of_standing (execTakeoverDone_standing _ _ s)
  case readyChange => exact .of_standing (execReadyChange_standing s)
  case catchUpDone => exact .of_standing (execCatchUpDone_standing s)
  case takebackDue => exact .of_standing (execTakebackDue_standing s)
  case handover => exact .of_standing (execHandover_standing s)
  case handoverTimeout => exact .of_standing (execHandoverTimeout_standing s)
  case digestHoldExpiry => exact .of_standing (execDigestHoldExpiry_standing _ _ s)
  case imageReceived => exact .of_standing (execImageReceived_standing _ _ s)
  case trialConfirm => exact .of_standing (execTrialConfirm_standing s)
  case rollStepDone => exact .of_standing (execRollStepDone_standing s)
  case chainLinkLoss => exact .of_standing (execChainLinkLoss_standing s)
  case headCampaignStep => exact .of_standing (execHeadCampaignStep_standing _ _ s)
  case meterCampaignRound => exact .of_standing (execMeterCampaignRound_standing _ s)
  case bundleAssemblyTimeout => exact .of_standing (execBundleAssemblyTimeout_standing s)
  case lockoutSample => exact .of_standing (execLockoutSample_standing _ s)
  case lockoutDiscrepancyTimeout => exact .of_standing (execLockoutDiscrepancyTimeout_standing _ s)
  case releaseHoldEnd => exact .of_standing (execReleaseHoldEnd_standing _ s)
  case safeDeadline => exact .of_standing (execSafeDeadline_standing _ s)
  case sessionReconnect => exact .of_standing (execSessionReconnect_standing _ s)
  case tlsHandshakeDone => exact .of_standing (execTlsHandshakeDone_standing _ _ _ _ _ s)
  case sessionFrameReceived => exact .of_standing (execSessionFrameReceived_standing _ _ _ _ s)
  case sessionKeepalive => exact .of_standing (execSessionKeepalive_standing _ s)
  case sessionRxTimeout => exact .of_standing (execSessionRxTimeout_standing _ s)
  case exportCursorJournal => exact .of_standing (execExportCursorJournal_standing s)
  case backhaulFrameReceived => exact .of_standing (execBackhaulFrameReceived_standing _ _ _ _ _ s)
  case portLinkChange => exact .of_standing (execPortLinkChange_standing _ _ _ s)
  case hostLinkReset => exact .of_standing (execHostLinkReset_standing _ s)
  case hostError => exact .of_standing (execHostError_standing _ _ s)
  case heartbeatSend => exact .of_standing (execHeartbeatSend_standing s)
  case pfwAssert => exact .of_standing (execPfwAssert_standing s)
  case saveDone => exact .of_standing (execSaveDone_standing _ s)
  case pfwDeassert => exact .of_standing (execPfwDeassert_standing s)
  case inputFaultTimeout => exact .of_standing (execInputFaultTimeout_standing s)
  case monitorWarning => exact .of_standing (execMonitorWarning_standing _ s)
  case monitorReset => exact .of_standing (execMonitorReset_standing _ s)
  case sleepWake => exact .of_standing (execSleepWake_standing _ s)
  case d3hotEntry => exact .of_standing (execD3hotEntry_standing _ s)
  case wakeCondition => exact .of_standing (execWakeCondition_standing _ s)
  case linkTrainingStart => exact .of_standing (execLinkTrainingStart_standing s)
  case thermalTrip sensor => exact .of_standing (execThermalTrip_standing sensor s)
  case porstAssert => exact .of_standing (execPorstAssert_standing s)
  case rollReadyTimeout => exact .of_standing (execRollReadyTimeout_standing s)
  case registerWrite => exact .of_onBuffers (execRegisterWrite_onBuffers _ _ s)
  case commandResponseReady => exact .of_onBuffers (execCommandResponseReady_onBuffers _ s)
  case mbRespAck => exact .of_onBuffers (execMbRespAck_onBuffers _ s)
  case mbNotifyAck => exact .of_onBuffers (execMbNotifyAck_onBuffers _ s)
  case d0Return => exact .of_onBuffers (execD0Return_onBuffers s)
  case eventAdmitted => exact .of_onBuffers (execEventAdmitted_onBuffers s)
  case powerOnReset => exact .of_keeps (execPowerOnReset_keeps _ s)
  case supplyInRange => exact .of_keeps (execSupplyInRange_keeps s)
  case warmReset => exact .of_keeps (execWarmReset_keeps s)
  case bootStageDone => exact .of_keeps (execBootStageDone_keeps _ _ _ _ _ s)
  case tenantReleaseDone => exact .of_keeps (execTenantReleaseDone_keeps _ s)
  case partnerMessageReceived =>
    obtain ⟨t, ht, hk⟩ := execPartnerMessageReceived_onTenants _ _ s
    exact ⟨t, ht, hk.keepsPart, fun h => nomatch h⟩
  all_goals simp [Claims.readOf, Claims.runOf, Claims.commitOf, Claims.recordOf] at hr hu hc hk

theorem rowKeeps (i : Instr) (s : State) : RowKeeps i s := by
  cases hr : Claims.readOf i with
  | some x => exact .of_standing (exec_readOf_standing hr s)
  | none =>
    cases hu : Claims.runOf i with
    | some x => exact .of_standing (exec_runOf_standing hu s)
    | none =>
      cases hc : Claims.commitOf i with
      | some x => exact .of_keeps (exec_commitOf_keeps hc s)
      | none =>
        cases hk : Claims.recordOf i with
        | some x => exact .of_standing (exec_recordOf_standing hk s)
        | none => exact rowKeeps_of_event s hr hu hc hk

end Machine

end Sys2Proof
end

section
/-! What every step keeps (O6, O7, O8, O9, O16). -/

namespace Sys2Proof

open Machine

/-- A step keeps the standing parts: it idles, or runs the front command on the queue's rest. -/
theorem Machine.step_keepsPart {s t : State} (h : Machine.step s = .next t) : s.pending.tail = t.pending ∧
    ({ s.standing with pending := s.pending.tail } : Standing).KeepsPart t.standing := by
  cases hp : s.pending with
  | nil =>
    have ht : s = t := by simpa [Machine.step, hp] using h
    subst ht
    refine ⟨hp.symm, ⟨hp, rfl, rfl, rfl, rfl, id, id⟩⟩
  | cons c rest =>
    obtain ⟨u, hu, hk, -⟩ := Machine.rowKeeps c { s with pending := rest }
    have hut : u = t := by
      rw [Machine.step, hp] at h
      exact Host.Outcome.next.inj (hu.symm.trans h)
    subst hut
    exact ⟨hk.pending.symm, hk⟩

/-- Settles O6: each row of the decoder has its own equation (`rowKeeps`), which gives the next state. -/
theorem everyCommandAnswers : Obligations.EveryCommandAnswers := by
  intro c s
  obtain ⟨t, ht, -⟩ := Machine.rowKeeps c s
  exact ⟨t, ht⟩

/-- Settles O7. -/
theorem stepKeepsBuffersWellFormed : Obligations.StepKeepsBuffersWellFormed := fun _ _ hw h => (Machine.step_keepsPart h).2.buffers hw

/-- Settles O8. -/
theorem stepKeepsThePart : Obligations.StepKeepsThePart := by
  intro s t h
  obtain ⟨-, hk⟩ := Machine.step_keepsPart h
  exact ⟨hk.variant, hk.letter, hk.digit, hk.serial, hk.closed⟩

/-- Settles O9, by induction on the commands at the front of the queue. -/
theorem queueRunsInOrder : Obligations.QueueRunsInOrder := by
  intro cs
  induction cs with
  | nil =>
    intro rest s t hp h
    cases h
    exact hp
  | cons c cs ih =>
    intro rest s t hp h
    rw [List.length_cons, Claims.steps] at h
    cases hs : Machine.step s with
    | next u =>
      rw [hs] at h
      refine ih rest u t ?_ h
      rw [← (Machine.step_keepsPart hs).1, hp]
      rfl
    | _ => simp [hs] at h

/-- Settles O16. -/
theorem releaseIsTheOnlyWayOutOfSealed : Obligations.ReleaseIsTheOnlyWayOutOfSealed := by
  intro i s u tenant hs hf h
  obtain ⟨t, ht, -, hk⟩ := Machine.rowKeeps i s
  cases Host.Outcome.next.inj (ht.symm.trans h)
  exact hk hf tenant hs

end Sys2Proof
end

section
/-! The step and the state at reset (O1 to O5). -/

namespace Sys2Proof

open Machine

/-- Settles O1. -/
theorem stepRunsTheFrontCommand : Obligations.StepRunsTheFrontCommand := by
  intro c rest s h
  rw [Machine.step, h]

/-- Settles O2. -/
theorem stepIdlesOnEmptyQueue : Obligations.StepIdlesOnEmptyQueue := by
  intro s h
  rw [Machine.step, h]

/-- The mask ROM of a boot that finds the close flag, with the programming supply present, leaves the fuse closed (R655). -/
theorem Machine.State.bootRom_closes (s : State) (h : s.pow.closeFlag = true) : (s.bootRom 0 true).arch.debugClosed = true := by
  by_cases hd : s.arch.debugClosed = true <;> simp [State.bootRom, State.nextStage, h, hd]

/-- Settles O3: the reset state is evaluated, and the fuse closes in the mask ROM. -/
theorem shippedPart : Obligations.ShippedPart := by
  refine ⟨rfl, rfl, ?_, rfl, rfl, fun s h => s.bootRom_closes h⟩
  decide

/-- Settles O4. -/
theorem resetLeavesTheBlockDark : Obligations.ResetLeavesTheBlockDark :=
  ⟨rfl, rfl, rfl, rfl, rfl, rfl, rfl, rfl, rfl, rfl, rfl, fun _ => rfl, fun _ _ => rfl⟩

/-- Settles O5: no byte is listed. -/
theorem buffersWellFormedAtReset : Obligations.BuffersWellFormedAtReset := rfl

end Sys2Proof
end

section
/-! The wake conditions (O18). -/

namespace Sys2Proof

open Machine

/-- Settles O18: the row's own conditions, one clause each. -/
theorem wakeSignalsOnce : Obligations.WakeSignalsOnce := by
  refine ⟨fun s n hh hp hn hn' hm hr => ?_, fun s n hh hp hn hn' hm hr => ?_, fun s n h => ?_⟩
  · have hexec : Machine.exec (.wakeCondition n) s =
        .next (State.count { s with pow := { s.pow with wakeReasons := 2 ^ n, pmeStatus := true, wakeN := true } } { name := .wakeSignals }) := by
      show execWakeCondition n s = _
      simp [execWakeCondition, hh, hp, hm, hr, show n ≠ 0 by omega, show ¬5 < n by omega]
    refine ⟨_, hexec, by simp, ?_⟩
    intro p _ hl
    cases p <;> simp_all [Claims.Part.same]
  · show execWakeCondition n s = _
    simp [execWakeCondition, hh, hp, hm, hr, show n ≠ 0 by omega, show ¬5 < n by omega]
  · show execWakeCondition n s = _
    rcases h with h | h | h <;> simp [execWakeCondition, h]

end Sys2Proof
end

section
/-! A head-end session that closes (O19). -/

namespace Sys2Proof

open Machine

namespace Machine

/-! ### Head-end sessions -/

theorem State.headEnd_of_sessions {s t : State} (h : t.ports.sessions = s.ports.sessions) (i : Nat) : t.headEnd i = s.headEnd i := by
  rw [State.headEnd, State.headEnd, h]

theorem State.headEnd_of_ports {s t : State} (h : t.ports = s.ports) (i : Nat) : t.headEnd i = s.headEnd i :=
  State.headEnd_of_sessions (congrArg Ports.sessions h) i

@[simp] theorem State.headEnd_setHeadEnd (s : State) (i : Nat) (x : HeadEndSession) : (s.setHeadEnd i x).headEnd i = x := by
  simp [State.headEnd, State.setHeadEnd]

/-- Only the list of sessions differs. -/
@[simp] theorem State.setHeadEnd_ports (s : State) (i : Nat) (x : HeadEndSession) :
    (s.setHeadEnd i x).ports = { s.ports with sessions := Map.put s.ports.sessions i x } := rfl

theorem State.headEnd_setHeadEnd_ne (s : State) {i j : Nat} (x : HeadEndSession) (h : i ≠ j) : (s.setHeadEnd i x).headEnd j = s.headEnd j := by
  simp [State.headEnd, State.setHeadEnd, Map.getD_put, h]

@[simp] theorem State.headEnd_count (s : State) (c : Ctr) (n i : Nat) : (s.count c n).headEnd i = s.headEnd i := State.headEnd_of_ports rfl i

@[simp] theorem State.headEnd_raise (s : State) (e : Ev) (t : Nat) (p : List Nat) (o : Bool) (i : Nat) :
    (s.raise e t p o).headEnd i = s.headEnd i := State.headEnd_of_ports (by simp) i

@[simp] theorem State.headEnd_raiseEvery (s : State) (per : Nat) (e : Ev) (k t : Nat) (p : List Nat) (i : Nat) :
    (s.raiseEvery per e k t p).headEnd i = s.headEnd i := State.headEnd_of_ports (by simp) i

@[simp] theorem State.closeSession_ports (s : State) (n : Nat) (cause : CloseCause) : (s.closeSession n cause).ports = s.ports := by
  unfold State.closeSession
  split <;> simp

@[simp] theorem State.closeUnreached_ports (s : State) : s.closeUnreached.ports = s.ports := by
  unfold State.closeUnreached
  refine foldl_keeps State.ports _ (fun s n => ?_) _ _
  split <;> simp

/-- A session that closes waits a second before it is tried again, and sends from its journaled cursor (R626). -/
theorem State.closeHead_headEnd (s : State) (i : Nat) (cause : HeCause) :
    (s.closeHead i cause).headEnd i = { s.headEnd i with
      st := .waiting, waitS := 1, retryMs := s.time.ms + 1000, cursor := (s.headEnd i).journaled, sent := (s.headEnd i).journaled } := by
  unfold State.closeHead
  dsimp only
  split
  · rw [State.headEnd_raise, State.headEnd_of_ports (State.closeUnreached_ports _), State.headEnd_setHeadEnd]
  · rw [State.headEnd_of_ports (State.closeUnreached_ports _), State.headEnd_setHeadEnd]

theorem exec_sessionFrame_closes (s : State) (session type length : Nat) (body : List Byte) (hst : (s.headEnd session).st = .opened)
    (h : type = 0 ∨ 5 < type ∨ 262208 < length) :
    exec (.sessionFrameReceived session type length body) s = .next (s.closeHead session .peer) := by
  have h' : type < 1 ∨ 5 < type ∨ 262208 < length := by omega
  show execSessionFrameReceived session type length body s = _
  dsimp only [execSessionFrameReceived]
  rw [if_neg (by simp [hst]), if_pos h']

/-! ### What a frame and a record sent to the partner leave -/

@[simp] theorem State.sendPartner_sessions (s : State) (p type : Nat) (w : List Nat) (d : List Byte) :
    (s.sendPartner p type w d).ports.sessions = s.ports.sessions := by
  obtain ⟨frames, hf⟩ : ∃ f, State.partnerFrames = f := ⟨_, rfl⟩
  rw [State.sendPartner, hf]
  extract_lets x t m
  have ht : t.ports.sessions = s.ports.sessions := by
    simp only [t, State.setPartnerPort]
    split <;> rfl
  clear_value t m
  split
  · exact ht
  · rfl

@[simp] theorem State.watchReplay_ports (s : State) : s.watchReplay.ports = s.ports := by simp

@[simp] theorem State.passEntry_sessions (s : State) (e : JEntry) : (s.passEntry e).ports.sessions = s.ports.sessions := by
  unfold State.passEntry
  split
  · rw [State.watchReplay_ports, State.streamEntry, State.sendPartner_sessions]
    simp
  · rfl

/-- On a chip that journals, an entry is added, watched and passed on. -/
theorem State.journal_entry (s : State) (k : JKind) (t n : Nat) (b : JBody) (q : Nat) (h : s.journals = true) :
    ∃ e, s.journal k t n b q = ((s.addEntry e).watchRoom).passEntry e :=
  ⟨_, if_neg (by simp [h])⟩

@[simp] theorem State.journal_sessions (s : State) (k : JKind) (t n : Nat) (b : JBody) (q : Nat) :
    (s.journal k t n b q).ports.sessions = s.ports.sessions := by
  cases h : s.journals with
  | false => rw [State.journal_idle s k t n b q h]
  | true =>
    obtain ⟨e, he⟩ := s.journal_entry k t n b q h
    rw [he, State.passEntry_sessions]
    simp

@[simp] theorem State.carry_sessions (s : State) (k : Kept) : (s.carry k).ports.sessions = s.ports.sessions := by
  unfold State.carry State.streamKept
  split
  · rfl
  · dsimp only
    split
    · exact State.sendPartner_sessions _ _ _ _ _
    · rfl

end Machine

/-- Settles O19: a frame's header is spelt out by `sendFrame`, and a frame the table does not know closes the session. -/
theorem unknownFrameClosesTheSession : Obligations.UnknownFrameClosesTheSession := by
  refine ⟨fun s i type body => by simp [State.sendFrame], fun s session type length body hst h => ?_⟩
  refine ⟨_, exec_sessionFrame_closes s session type length body hst h, ?_, ?_⟩
  · rw [State.closeHead_headEnd]
  · rw [State.closeHead_headEnd]

end Sys2Proof
end

section
/-! The port and session events of chapter 25 (O43). -/

namespace Sys2Proof

open Machine

namespace Machine

/-! ### Chapter 25's events -/

theorem exec_sessionReconnect_opens (s : State) (session : Nat) (hn : session < 32) (he : s.rdB Rec.HeadEnd.Enabled session = true)
    (hs : s.pair.serving = true) (hst : (s.headEnd session).st = .closed) (hp : s.portUp (s.rd Rec.HeadEnd.Port session) = true) :
    exec (.sessionReconnect session) s = .next (s.setHeadEnd session { s.headEnd session with st := .handshake }) := by
  show execSessionReconnect session s = _
  simp [execSessionReconnect, hn, he, hs, hst, hp]

/-- A handshake that failed: the session waits, twice as long as before, and the failure is counted (R621). -/
theorem State.tlsFailed_waits (s : State) (i alert : Nat) :
    (s.tlsFailed i alert).headEnd i = { s.headEnd i with
      st := .waiting, waitS := (if (s.headEnd i).waitS = 0 then 1 else min (2 * (s.headEnd i).waitS) 60),
      retryMs := s.time.ms + 1000 * (if (s.headEnd i).waitS = 0 then 1 else min (2 * (s.headEnd i).waitS) 60) } ∧
    Claims.Counted { name := .tlsFailures, a := i } 1 s (s.tlsFailed i alert) ∧ (s.tlsFailed i alert).store = s.store := by
  unfold State.tlsFailed
  refine ⟨by simp, ?_, by simp⟩
  rw [Claims.Counted, State.ctr_raiseEvery (by simp [CtrName.ofEntry]), State.ctr_count]
  rfl

theorem exec_tlsHandshake_wrongKey (s : State) (session ok alert suite : Nat) (spki : List Byte) (hst : (s.headEnd session).st = .handshake)
    (hok : ok ≠ 0) (hsuite : suite = 0x1301 ∨ suite = 0x1302) (hkey : ofLe (sha256 spki) ≠ s.rd Rec.HeadEnd.PeerKeyHash session) :
    exec (.tlsHandshakeDone session ok alert suite spki) s = .next (s.tlsFailed session badCertificate) := by
  show execTlsHandshakeDone session ok alert suite spki s = _
  dsimp only [execTlsHandshakeDone]
  rw [if_neg (by simp [hst]), if_neg (by simp [hok, hsuite]), if_pos hkey]

/-- Where no record is kept, a session's release sends nothing: it may only end the session's backlog. -/
theorem State.releaseSession_none (s : State) (i : Nat) (h : s.ports.exports = []) :
    s.releaseSession i = s ∨ s.releaseSession i = s.setHeadEnd i { s.headEnd i with backlog := false } := by
  have hb : s.heBacklog i = s ∨ s.heBacklog i = s.setHeadEnd i { s.headEnd i with backlog := false } := by
    unfold State.heBacklog
    have hn : (s.heAfter i (s.headEnd i).cursor).length = 0 := by simp [State.heAfter, h, sortBy]
    dsimp only
    rw [hn, if_neg (by simp)]
    split
    · exact .inr rfl
    · exact .inl rfl
  have hr : s.releaseSession i = s.heBacklog i := by
    have he : (s.heBacklog i).ports.exports = [] := by
      rcases hb with hb | hb <;> simp [hb, h]
    unfold State.releaseSession
    dsimp only
    have hl : ∀ x, (s.heBacklog i).heAfter i x = [] := fun x => by simp [State.heAfter, he, sortBy]
    simp [hl]
  rwa [hr]

theorem exec_tlsHandshake_opens (s : State) (session ok alert suite : Nat) (spki : List Byte) (hst : (s.headEnd session).st = .handshake)
    (hok : ok ≠ 0) (hsuite : suite = 0x1301 ∨ suite = 0x1302) (hkey : ofLe (sha256 spki) = s.rd Rec.HeadEnd.PeerKeyHash session) :
    exec (.tlsHandshakeDone session ok alert suite spki) s = .next (((s.setHeadEnd session { s.headEnd session with
      st := .opened, waitS := 0, suite := suite, cursor := (s.headEnd session).journaled, sent := (s.headEnd session).journaled,
      lastTxMs := s.time.ms, lastRxMs := s.time.ms }).raise .portSession (s.heTenant session) [session, 1, noValue]).releaseSession session) := by
  show execTlsHandshakeDone session ok alert suite spki s = _
  dsimp only [execTlsHandshakeDone]
  rw [if_neg (by simp [hst]), if_neg (by simp [hok, hsuite]), if_neg (by simp [hkey])]
  rfl

theorem exec_keepalive_received (s : State) (session length : Nat) (body : List Byte) (hst : (s.headEnd session).st = .opened)
    (hl : length ≤ 262208) :
    exec (.sessionFrameReceived session 5 length body) s = .next
      (((s.setHeadEnd session { s.headEnd session with lastRxMs := s.time.ms }).count
        { name := .portFramesIn, a := s.rd Rec.HeadEnd.Port session }).count
        { name := .portBytesIn, a := s.rd Rec.HeadEnd.Port session } (8 + body.length)) := by
  show execSessionFrameReceived session 5 length body s = _
  dsimp only [execSessionFrameReceived]
  rw [if_neg (by simp [hst]), if_neg (by omega)]
  rfl

theorem exec_keepalive_sent (s : State) (session : Nat) (hst : (s.headEnd session).st = .opened)
    (hd : (s.headEnd session).lastTxMs + 10000 ≤ s.time.ms) : exec (.sessionKeepalive session) s = .next (s.sendFrame session 5 []) := by
  show execSessionKeepalive session s = _
  dsimp only [execSessionKeepalive]
  rw [if_pos ⟨hst, hd⟩]

theorem exec_silent_closes (s : State) (session : Nat) (hst : (s.headEnd session).st = .opened)
    (hd : (s.headEnd session).lastRxMs + 30000 ≤ s.time.ms) : exec (.sessionRxTimeout session) s = .next (s.closeHead session .timeout) := by
  show execSessionRxTimeout session s = _
  dsimp only [execSessionRxTimeout]
  rw [if_pos ⟨hst, hd⟩]

theorem State.headEnd_sendFrame (s : State) (i type : Nat) (body : List Byte) :
    (s.sendFrame i type body).headEnd i = { s.headEnd i with lastTxMs := s.time.ms } := by
  rw [← s.headEnd_setHeadEnd i { s.headEnd i with lastTxMs := s.time.ms }]
  exact State.headEnd_of_sessions rfl i

/-! ### The cursors' journal -/

/-- One session's turn: its cursor is recorded where it moved. -/
def State.journalCursor (s : State) (i : Nat) : State :=
  let x := s.headEnd i
  if x.cursor = x.journaled ∨ s.saveHalts then s
  else ((s.setHeadEnd i { x with journaled := x.cursor }).journal .store (s.heTenant i) i (.words [i, x.cursor.1, x.cursor.2])).carry
    (.cursor i)

theorem exec_exportCursorJournal_eq (s : State) : exec .exportCursorJournal s =
    .next ((List.range 32).foldl State.journalCursor (s.heEnabled.foldl State.heDrop s)).pruneExports.releaseExports := rfl

/-- The cursor that moved is recorded; the records of the configuration stay. -/
theorem State.journalCursor_moved (s : State) (i : Nat) (h : (s.headEnd i).cursor ≠ (s.headEnd i).journaled) (hs : s.saveHalts = false) :
    (s.journalCursor i).ports.sessions = Map.put s.ports.sessions i { s.headEnd i with journaled := (s.headEnd i).cursor } ∧
      (s.journalCursor i).records = s.records := by
  have he : s.journalCursor i = ((s.setHeadEnd i { s.headEnd i with journaled := (s.headEnd i).cursor }).journal .store (s.heTenant i) i
      (.words [i, (s.headEnd i).cursor.1, (s.headEnd i).cursor.2])).carry (.cursor i) := if_neg (by simp [h, hs])
  rw [he]
  exact ⟨by simp, by simp⟩

/-- The turns of sessions whose cursor stands change nothing. -/
theorem State.journalCursor_foldl_still (s : State) (l : List Nat) (h : ∀ j ∈ l, (s.headEnd j).cursor = (s.headEnd j).journaled) :
    l.foldl State.journalCursor s = s := by
  induction l with
  | nil => rfl
  | cons j l ih =>
    have hj : s.journalCursor j = s := if_pos (.inl (h j List.mem_cons_self))
    rw [List.foldl_cons, hj]
    exact ih fun k hk => h k (List.mem_cons_of_mem _ hk)

/-- Where one session alone is known, the turns of all are its own. -/
theorem State.journalCursors_one (s : State) (i : Nat) (hi : i < 32) (hk : s.ports.sessions.map Prod.fst = [i])
    (h : (s.headEnd i).cursor ≠ (s.headEnd i).journaled) (hs : s.saveHalts = false) :
    (List.range 32).foldl State.journalCursor s = s.journalCursor i := by
  obtain ⟨x, hx⟩ : ∃ x, s.ports.sessions = [(i, x)] := by
    cases hl : s.ports.sessions with
    | nil => simp [hl] at hk
    | cons p l =>
      rw [hl, List.map_cons, List.cons.injEq, List.map_eq_nil_iff] at hk
      obtain ⟨rfl, rfl⟩ := hk
      exact ⟨p.2, rfl⟩
  have hother : ∀ j, j ≠ i → s.headEnd j = {} := fun j hj => by
    simp [State.headEnd, hx, Map.getD, Map.get?, Ne.symm hj]
  have hother' : ∀ j, j ≠ i → (s.journalCursor i).headEnd j = {} := fun j hj => by
    rw [State.headEnd, (s.journalCursor_moved i h hs).1, Map.getD_put, if_neg (Ne.symm hj)]
    exact hother j hj
  obtain ⟨a, b, hab⟩ := List.append_of_mem (List.mem_range.2 hi)
  have hnd : (a ++ i :: b).Nodup := hab ▸ List.nodup_range
  have ha : ∀ j ∈ a, j ≠ i := by
    rintro j hj rfl
    exact (List.nodup_append.1 hnd).2.2 j hj j List.mem_cons_self rfl
  have hb : ∀ j ∈ b, j ≠ i := by
    rintro j hj rfl
    exact (List.nodup_cons.1 (List.nodup_append.1 hnd).2.1).1 hj
  rw [hab, List.foldl_append, s.journalCursor_foldl_still a fun j hj => by rw [hother j (ha j hj)], List.foldl_cons]
  exact State.journalCursor_foldl_still _ b fun j hj => by rw [hother' j (hb j hj)]

theorem State.heEnabled_of_records {s t : State} (h : t.records = s.records) : t.heEnabled = s.heEnabled := by
  simp only [State.heEnabled, State.rdB, State.rd, State.recInst, h]

/-- Where no session is enabled and none but one is known, its cursor is what a second's journal records. -/
theorem exec_exportCursorJournal_one (s : State) (i : Nat) (hi : i < 32) (hk : s.ports.sessions.map Prod.fst = [i])
    (h : (s.headEnd i).cursor ≠ (s.headEnd i).journaled) (he : s.heEnabled = []) (hs : s.saveHalts = false) :
    exec .exportCursorJournal s = .next (s.journalCursor i).pruneExports := by
  have hr : (s.journalCursor i).pruneExports.heEnabled = [] := by
    rw [← he]
    exact State.heEnabled_of_records (s.journalCursor_moved i h hs).2
  rw [exec_exportCursorJournal_eq, he, List.foldl_nil, s.journalCursors_one i hi hk h hs, State.releaseExports, hr, List.foldl_nil]

/-! ### The ports -/

theorem State.rd_count (s : State) (c : Ctr) (n : Nat) (f : Fld) (i : Nat) : (s.count c n).rd f i = s.rd f i := rfl

theorem exec_backhaulFrame_kept (s : State) (port bytes corrected uncorrected : Nat) (hp : s.portUp port = true)
    (hb : bytes ≤ s.rd Rec.BackhaulPort.Mtu port + 18) :
    exec (.backhaulFrameReceived port bytes 0 corrected uncorrected) s = .next
      ((((s.count { name := .portFecCorr, a := port } corrected).count { name := .portFecUncorr, a := port } uncorrected).count
        { name := .portFramesIn, a := port }).count { name := .portBytesIn, a := port } bytes) := by
  show execBackhaulFrameReceived port bytes 0 corrected uncorrected s = _
  dsimp only [execBackhaulFrameReceived]
  rw [if_neg (by simp [hp]), State.rd_count, State.rd_count, if_neg (Nat.not_lt.2 hb), if_pos rfl]

theorem exec_backhaulFrame_dropped (s : State) (port bytes refused corrected uncorrected : Nat) (hp : s.portUp port = true)
    (hb : s.rd Rec.BackhaulPort.Mtu port + 18 < bytes) :
    exec (.backhaulFrameReceived port bytes refused corrected uncorrected) s = .next
      (((s.count { name := .portFecCorr, a := port } corrected).count { name := .portFecUncorr, a := port } uncorrected).count
        { name := .portOversize, a := port }) := by
  show execBackhaulFrameReceived port bytes refused corrected uncorrected s = _
  dsimp only [execBackhaulFrameReceived]
  rw [if_neg (by simp [hp]), State.rd_count, State.rd_count, if_pos hb]

theorem exec_backhaulLink_up (s : State) (port : Nat) (hn : port < 8) (hu : s.portUp port = false)
    (he : s.rdB Rec.BackhaulPort.Enabled port = true) (hs : 7 ≤ s.pow.stage) :
    exec (.portLinkChange 0 port 1) s = .next
      (State.raise { s with ports := { s.ports with backhaulUp := s.ports.backhaulUp ++ [port] } } .portLink 0 [0, port, 1]) := by
  show execPortLinkChange 0 port 1 s = _
  dsimp only [execPortLinkChange]
  rw [if_pos rfl, if_neg (by simp [hu, he]; omega)]
  rfl

theorem exec_partnerLink_down (s : State) (port : Nat) (hn : port < 2) (hl : (s.partnerPort port).link = true) :
    exec (.portLinkChange 1 port 0) s = .next (((s.setPartnerPort port { s.partnerPort port with link := false }).count
      { name := .linkDown, a := 8 + port }).raise .portLink 0 [1, port, 0]) := by
  show execPortLinkChange 1 port 0 s = _
  dsimp only [execPortLinkChange]
  rw [if_neg (by decide), if_pos (by simp [hn, hl])]
  rfl

theorem State.partnerPort_of_ports {s t : State} (h : t.ports = s.ports) (p : Nat) : t.partnerPort p = s.partnerPort p := by
  rw [State.partnerPort, State.partnerPort, h]

theorem State.partnerPort_setPartnerPort (s : State) (p : Nat) (x : PartnerPort) : (s.setPartnerPort p x).partnerPort p = x := by
  unfold State.partnerPort State.setPartnerPort
  split <;> rfl

end Machine

/-- Settles O43, row by row. -/
theorem portEventsComplete : Obligations.PortEventsComplete := by
  refine ⟨fun s session => exec_sessionReconnect_opens s session, ?wrongKey, ?opens, ?keepalive, ?unknown, ?sends, ?silent, ?cursor, ?frame,
    ?oversize, ?linkUp, ?linkDown, fun _ _ => rfl, fun _ _ => rfl, ?fatal⟩
  case wrongKey =>
    intro s session ok alert suite spki hst hok hsuite hkey
    exact ⟨_, exec_tlsHandshake_wrongKey s session ok alert suite spki hst hok hsuite hkey, s.tlsFailed_waits session badCertificate⟩
  case opens =>
    intro s session ok alert suite spki hst hok hsuite hkey hex hroom
    refine ⟨_, exec_tlsHandshake_opens s session ok alert suite spki hst hok hsuite hkey, ?_⟩
    obtain ⟨u, hu, hopen⟩ : ∃ u : State, s.setHeadEnd session { s.headEnd session with
        st := .opened, waitS := 0, suite := suite, cursor := (s.headEnd session).journaled, sent := (s.headEnd session).journaled,
        lastTxMs := s.time.ms, lastRxMs := s.time.ms } = u ∧ u.headEnd session = { s.headEnd session with
        st := .opened, waitS := 0, suite := suite, cursor := (s.headEnd session).journaled, sent := (s.headEnd session).journaled,
        lastTxMs := s.time.ms, lastRxMs := s.time.ms } := ⟨_, rfl, s.headEnd_setHeadEnd session _⟩
    have hev : u.ev = s.ev := hu ▸ rfl
    have hexp : u.ports.exports = [] := hu ▸ hex
    rw [hu]
    obtain ⟨hraised, -⟩ := u.raised_raise .portSession (s.heTenant session) [session, 1, noValue] false (by decide) (by rwa [Claims.Room, hev])
    rw [Claims.Raised, hev] at hraised
    rcases (u.raise .portSession (s.heTenant session) [session, 1, noValue]).releaseSession_none session (by simpa using hexp) with h | h <;>
      rw [h]
    · exact ⟨by simp [hopen], by simp [hopen], by simp [hopen], by simp [hopen], hraised⟩
    · exact ⟨by simp [hopen], by simp [hopen], by simp [hopen], by simp [hopen], hraised⟩
  case keepalive =>
    intro s session length body hst hl
    refine ⟨_, exec_keepalive_received s session length body hst hl, ?_, ?_, ?_, ?_⟩
    · simp
    · exact (State.ctr_count_name (by simp)).trans (State.ctr_count _ _ _)
    · rw [Claims.Counted, State.ctr_count, State.ctr_count_name (by simp)]
      rfl
    · intro p _ hl
      cases p <;> simp_all [Claims.Part.same]
  case unknown =>
    intro s session type length body hst ht
    refine ⟨_, exec_sessionFrame_closes s session type length body hst (.inr (.inl ht)), ?_, ?_⟩ <;> rw [State.closeHead_headEnd]
  case sends =>
    intro s session hst hd
    refine ⟨_, exec_keepalive_sent s session hst hd, ?_, ?_, ?_, ?_⟩
    · simp [State.sendFrame, le]
    · simp [State.headEnd_sendFrame]
    · exact (State.ctr_count_name (by simp)).trans (State.ctr_count _ _ _)
    · intro p _ hl
      cases p <;> simp_all [Claims.Part.same, State.sendFrame]
  case silent =>
    intro s session hst hd
    refine ⟨_, exec_silent_closes s session hst hd, ?_, ?_, ?_⟩ <;> rw [State.closeHead_headEnd]
  case cursor =>
    intro s i hi hk h he _ hs
    obtain ⟨hsess, hrec⟩ := s.journalCursor_moved i h hs
    refine ⟨_, exec_exportCursorJournal_one s i hi hk h he hs, ?_, hrec⟩
    rw [State.headEnd_of_sessions (t := (s.journalCursor i).pruneExports) (s := s.journalCursor i) rfl i, State.headEnd, hsess, Map.getD_put_self]
  case frame =>
    intro s port bytes corrected uncorrected hp hb
    refine ⟨_, exec_backhaulFrame_kept s port bytes corrected uncorrected hp hb, ?_, ?_, ?_, ?_, ?_⟩
    · simp [Claims.Counted, State.ctr_count_name]
    · simp [Claims.Counted, State.ctr_count_name]
    · simp [Claims.Counted, State.ctr_count_name]
    · simp [Claims.Counted, State.ctr_count_name]
    · intro p _ hl
      cases p <;> simp_all [Claims.Part.same]
  case oversize =>
    intro s port bytes refused corrected uncorrected hp hb
    refine ⟨_, exec_backhaulFrame_dropped s port bytes refused corrected uncorrected hp hb, ?_, ?_⟩
    · simp [Claims.Counted, State.ctr_count_name]
    · intro p _ hl
      cases p <;> simp_all [Claims.Part.same]
  case linkUp =>
    intro s port hn hu he hs hroom
    obtain ⟨hraised, -, hframe⟩ := State.raise_after_for (s := s) (l := [.ports, .ev, .time, .ctrs])
      (u := { s with ports := { s.ports with backhaulUp := s.ports.backhaulUp ++ [port] } }) .portLink 0 [0, port, 1] false (by decide) rfl hroom
      (by intro p _ hl; cases p <;> simp_all [Claims.Part.same]) (by simp)
    exact ⟨_, exec_backhaulLink_up s port hn hu he hs, by simp, hraised, hframe⟩
  case linkDown =>
    intro s port hn hl hroom
    obtain ⟨hraised, hctrs, hframe⟩ := State.raise_after_for (s := s) (l := [.ports, .ev, .time, .ctrs])
      (u := (s.setPartnerPort port { s.partnerPort port with link := false }).count { name := .linkDown, a := 8 + port })
      .portLink 0 [1, port, 0] false (by decide) (by simp) hroom (by intro p _ hl; cases p <;> simp_all [Claims.Part.same]) (by simp)
    refine ⟨_, exec_partnerLink_down s port hn hl, ?_, hraised, ?_, hframe⟩
    · rw [State.partnerPort_of_ports (t := State.raise _ _ _ _) (s := s.setPartnerPort port { s.partnerPort port with link := false })
        (by simp), State.partnerPort_setPartnerPort]
    · rw [Claims.Counted, State.ctr_congr hctrs, State.ctr_count]
      rfl
  case fatal =>
    intro s status hroom
    obtain ⟨hraised, hctrs, hframe⟩ := State.raise_after_for (s := s) (l := [.ev, .time, .ctrs]) (u := s.count { name := .aerUncorr })
      .portHostError 0 [status] false (by decide) (by simp) hroom (by intro p _ hl; cases p <;> simp_all [Claims.Part.same]) (by simp)
    refine ⟨(s.count { name := .aerUncorr }).raise .portHostError 0 [status], rfl, hraised, ?_, hframe⟩
    rw [Claims.Counted, State.ctr_congr hctrs, State.ctr_count]

end Sys2Proof
end

section
/-! The records (O12). -/

namespace Sys2Proof

open Machine

/-- Settles O12, by what the record's judgement answers. -/
theorem recordsApply : Obligations.RecordsApply := by
  intro i rule k tenant inst body h s
  rw [exec_of_recordOf h]
  refine ⟨fun ho => by rw [s.applyRecord_tenant rule k tenant inst body ho], fun ho => ?_⟩
  cases hj : s.judgeRecord rule k tenant inst body.length body with
  | refuse st e => exact congrArg _ (s.applyRecord_refuse rule k tenant inst body st e hj)
  | accept new report => exact congrArg _ (s.applyRecord_accept rule k tenant inst body new report ho hj)

end Sys2Proof
end

section
/-! The frames of the mailbox commands: the commands that are turned away (O13, O14). -/

namespace Sys2Proof

open Machine

namespace Machine

/-! ### The frames of the mailbox commands -/

theorem State.command_eq_commandLater (s : State) (n : Nat) (k : Cmd) (run : Caller → State → Reply × State) :
    s.command n k run = s.commandLater n k fun c s => (some (run c s).1, (run c s).2) := by
  unfold State.command State.commandLater
  split
  · rfl
  · split <;> rfl

/-- The mailbox commands whose row is more than a frame about a run: they keep a session's key, close it later, or need the random
generator. -/
def sessionRow : Instr → Bool
  | .ctrlSessionHello .. | .ctrlSessionClose .. | .ctrlCredentialRevoke .. => true
  | _ => false

/-- The mailbox commands whose answer another row may give. -/
def laterRow : Instr → Bool
  | .laneHeadControl .. | .laneTest .. | .ctrlRecordWrite .. => true
  | _ => false

theorem cmdOf_of_readOf {i : Instr} {ch : Nat} {k : Cmd} {read : Caller → State → Reply} (h : Claims.readOf i = some (ch, k, read)) :
    Claims.cmdOf i = some (ch, k) := by
  unfold Claims.readOf at h
  split at h <;> cases h <;> rfl

theorem exec_of_readOf {i : Instr} {ch : Nat} {k : Cmd} {read : Caller → State → Reply} (h : Claims.readOf i = some (ch, k, read))
    (s : State) : exec i s = .next (s.readCommand ch k read) := by
  unfold Claims.readOf at h
  split at h <;> cases h <;> rfl

theorem cmdOf_of_runOf {i : Instr} {ch : Nat} {k : Cmd} {run : Caller → State → Reply × State} (h : Claims.runOf i = some (ch, k, run)) :
    Claims.cmdOf i = some (ch, k) := by
  unfold Claims.runOf at h
  split at h <;> cases h <;> rfl

theorem cmdOf_of_commitOf {i : Instr} {ch : Nat} {k : Cmd} {run : Caller → State → Reply × State}
    (h : Claims.commitOf i = some (ch, k, run)) : Claims.cmdOf i = some (ch, k) := by
  unfold Claims.commitOf at h
  split at h <;> cases h <;> rfl

/-- The mailbox commands are the rows that read, run or commit, and the six others. -/
theorem cmdOf_rows (i : Instr) : (Claims.cmdOf i).isSome =
    ((Claims.readOf i).isSome || (Claims.runOf i).isSome || (Claims.commitOf i).isSome || sessionRow i || laterRow i) := by
  cases i <;> rfl

/-- A mailbox command is a frame about a run, or one of the three that act on sessions. -/
theorem exec_of_cmdOf {i : Instr} {ch : Nat} {k : Cmd} (h : Claims.cmdOf i = some (ch, k)) :
    (∃ run, ∀ s, exec i s = .next (s.commandLater ch k run)) ∨ (∃ run, ∀ s, exec i s = .next (s.commitLater ch k run)) ∨
      sessionRow i = true := by
  have hrows := cmdOf_rows i
  cases hr : Claims.readOf i with
  | some x =>
    obtain ⟨n, k', read⟩ := x
    cases (cmdOf_of_readOf hr).symm.trans h
    exact .inl ⟨_, fun s => by rw [exec_of_readOf hr, State.readCommand, State.command_eq_commandLater]⟩
  | none =>
  cases hu : Claims.runOf i with
  | some x =>
    obtain ⟨n, k', run⟩ := x
    cases (cmdOf_of_runOf hu).symm.trans h
    exact .inl ⟨_, fun s => by rw [exec_of_runOf hu, State.command_eq_commandLater]⟩
  | none =>
  cases hc : Claims.commitOf i with
  | some x =>
    obtain ⟨n, k', run⟩ := x
    cases (cmdOf_of_commitOf hc).symm.trans h
    exact .inr (.inl ⟨_, fun s => by rw [exec_of_commitOf hc, State.commitCommand]⟩)
  | none =>
  cases hs : sessionRow i with
  | true => exact .inr (.inr rfl)
  | false =>
    have hl : laterRow i = true := by simpa [h, hr, hu, hc, hs] using hrows.symm
    unfold laterRow at hl
    split at hl
    · cases h
      exact .inl ⟨_, fun _ => rfl⟩
    · cases h
      exact .inl ⟨_, fun _ => rfl⟩
    · cases h
      exact .inr (.inl ⟨_, fun _ => rfl⟩)
    · cases hl

/-! ### A request whose session is gone (O13) -/

theorem State.commandLater_noSession {s : State} {ch : Nat} {k : Cmd} {r : Request} (hr : s.requestFor ch k = some r)
    (hc : s.caller ch r = none) (run : Caller → State → Option Reply × State) :
    s.commandLater ch k run = s.respond ch r { status := .noSession } := by
  simp only [State.commandLater, hr, hc]

theorem State.commitLater_await_none {s : State} {ch : Nat} {k : Cmd} (hw : (s.chan ch).await = none)
    (run : Caller → State → Option Reply × State) : ∃ run', s.commitLater ch k run = s.commandLater ch k run' := by
  unfold State.commitLater
  split
  next hw' => cases hw.symm.trans hw'
  · exact ⟨_, rfl⟩

theorem State.request_respond (s : State) (n : Nat) (r : Request) (y : Reply) : ((s.respond n r y).chan n).request = none := by
  simp [State.respond]

end Machine

/-- What the channels hold is mail. -/
theorem Claims.Frame.modChan (s : State) (n : Nat) (f : Channel → Channel) : Claims.Frame [.mail] s (s.modChan n f) := by
  intro p _ hl
  cases p <;> simp_all [Claims.Part.same]

theorem Claims.Frame.respond (s : State) (n : Nat) (r : Request) (y : Reply) : Claims.Frame [.mail] s (s.respond n r y) :=
  Claims.Frame.modChan s n _

namespace Machine

/-- The three rows about sessions turn a command away as the others do. -/
theorem exec_sessionRow_noSession {i : Instr} {ch : Nat} {k : Cmd} (h : Claims.cmdOf i = some (ch, k)) (hi : sessionRow i = true)
    {s : State} {r : Request} (hr : s.requestFor ch k = some r) (hc : s.caller ch r = none) (hrng : s.vault.rngOk = true) :
    exec i s = .next (s.respond ch r { status := .noSession }) ∨
      ∃ key, exec i s = .next ((s.respond ch r { status := .noSession }).keepKey ch key) := by
  have hcmd : ∀ run, s.command ch k run = s.respond ch r { status := .noSession } := fun run => by
    rw [State.command_eq_commandLater, State.commandLater_noSession hr hc]
  unfold sessionRow at hi
  split at hi
  next ch' role tenant slot =>
    cases h
    left
    show execCtrlSessionHello ch role tenant slot s = _
    dsimp only [execCtrlSessionHello]
    rw [hcmd, if_pos (.inl hrng)]
  next ch' =>
    cases h
    show execCtrlSessionClose ch s = _ ∨ ∃ key, execCtrlSessionClose ch s = _
    rw [execCtrlSessionClose, hcmd]
    split
    · exact .inr ⟨_, rfl⟩
    · exact .inl rfl
  next ch' role tenant slot =>
    cases h
    left
    show execCtrlCredentialRevoke ch role tenant slot s = _
    dsimp only [execCtrlCredentialRevoke]
    have hna : (s.respond ch r { status := .noSession }).answered ch = false := by rw [State.answered, State.response_respond]; rfl
    rw [hcmd, hna, Bool.and_false, if_neg Bool.false_ne_true]
  · cases hi

end Machine

/-- Settles O13: whatever the frame of the command, NO_SESSION comes before its run. -/
theorem commandWithoutItsSessionIsTurnedAway : Obligations.CommandWithoutItsSessionIsTurnedAway := by
  intro i ch k h s r hr hc hw hrng
  obtain ⟨t, ht⟩ : ∃ t, s.respond ch r { status := .noSession } = t := ⟨_, rfl⟩
  have hresp : ((t.chan ch).response.map fun y => y.status) = some .noSession := by
    rw [← ht, State.response_respond]
    rfl
  have hreq : (t.chan ch).request = none := ht ▸ State.request_respond _ _ _ _
  have hframe : Claims.Frame [.mail] s t := ht ▸ Claims.Frame.respond _ _ _ _
  rcases exec_of_cmdOf h with ⟨run, he⟩ | ⟨run, he⟩ | hs
  · exact ⟨t, by rw [he, State.commandLater_noSession hr hc, ht], hresp, hreq, hframe⟩
  · obtain ⟨run', hrun⟩ := State.commitLater_await_none (k := k) hw run
    exact ⟨t, by rw [he, hrun, State.commandLater_noSession hr hc, ht], hresp, hreq, hframe⟩
  · rcases exec_sessionRow_noSession h hs hr hc hrng with he | ⟨key, he⟩
    · exact ⟨t, by rw [he, ht], hresp, hreq, hframe⟩
    · rw [ht] at he
      refine ⟨_, he, ?_, ?_, hframe.trans (Claims.Frame.modChan _ _ _)⟩
      · rw [State.keepKey, State.chan_modChan, ← hresp]
        cases (t.chan ch).response <;> rfl
      · rw [State.keepKey, State.chan_modChan, ← hreq]

/-! ### The commands in HELD (O14) -/

namespace Machine

/-- In HELD a command that is not accepted is answered: with an early refusal, or with REFUSED_STATE and nothing changed. -/
theorem State.commandLater_held {s : State} {ch : Nat} {k : Cmd} {r : Request} {c : Caller} (hr : s.requestFor ch k = some r)
    (hc : s.caller ch r = some c) (hk : k.heldAccepts = false) (hh : s.pow.stage = 0x0F)
    (run : Caller → State → Option Reply × State) :
    ∃ y u, s.commandLater ch k run = u.respond ch r y ∧ (y.status.early = true ∨ y.status = .refusedState ∧ u = s) := by
  simp only [State.commandLater, hr, hc]
  split
  next y s' _ =>
    refine ⟨_, _, rfl, ?_⟩
    unfold State.chipGate
    split
    · exact .inr ⟨rfl, rfl⟩
    next hg =>
      have hearly : y.status.early = true := by simpa [hh, hk] using hg
      split
      · exact .inr ⟨rfl, rfl⟩
      · exact .inl hearly
  · rw [if_pos (by simp [hh, hk])]
    exact ⟨_, _, rfl, .inr ⟨rfl, rfl⟩⟩

/-- The rows about sessions are commands that HELD accepts. -/
theorem heldAccepts_of_sessionRow {i : Instr} {ch : Nat} {k : Cmd} (h : Claims.cmdOf i = some (ch, k)) (hi : sessionRow i = true) :
    k.heldAccepts = true := by
  unfold sessionRow at hi
  split at hi <;> cases hi <;> cases h <;> rfl

end Machine

/-- Settles O14: the chip's gate refuses whatever its run would have done. -/
theorem heldTurnsCommandsAway : Obligations.HeldTurnsCommandsAway := by
  intro i ch k h hk s r c hr hc hw hh
  obtain ⟨run, he⟩ : ∃ run, exec i s = .next (s.commandLater ch k run) := by
    rcases exec_of_cmdOf h with ⟨run, he⟩ | ⟨run, he⟩ | hs
    · exact ⟨run, he s⟩
    · obtain ⟨run', hrun⟩ := State.commitLater_await_none (k := k) hw run
      exact ⟨run', by rw [he, hrun]⟩
    · rw [heldAccepts_of_sessionRow h hs] at hk
      cases hk
  obtain ⟨y, u, hu, hstatus⟩ := State.commandLater_held hr hc hk hh run
  rw [hu] at he
  refine ⟨_, _, he, State.request_respond _ _ _ _, State.response_respond _ _ _ _, hstatus.imp id ?_⟩
  rintro ⟨hst, rfl⟩
  exact ⟨hst, Claims.Frame.respond _ _ _ _⟩

end Sys2Proof
end

section
/-! The commands on the air (O50). -/

namespace Sys2Proof

open Machine

namespace Machine

/-! ### What a command on a granted session comes to -/

/-- Where a command's run is known, so is the row. -/
theorem exec_run_asked {i : Instr} {ch : Nat} {k : Cmd} {run : Caller → State → Reply × State} (hi : Claims.runOf i = some (ch, k, run))
    {s t : State} {r : Request} {c : Caller} {y : Reply} (h : Claims.Asked s ch k r c) (hr : run c s = (y, t)) :
    exec i s = .next (t.respond ch r y) := by
  rw [exec_of_runOf hi, State.command_asked h, hr]

theorem State.answered_respond (s : State) (ch : Nat) (r : Request) (y : Reply) : Claims.Answered ch r y (s.respond ch r y) :=
  ⟨State.request_respond s ch r y, State.response_respond s ch r y⟩

@[simp] theorem State.ctr_respond (s : State) (n : Nat) (r : Request) (y : Reply) (c : Ctr) : (s.respond n r y).ctr c = s.ctr c :=
  State.ctr_congr (by simp)

/-! ### The commands on the air -/

section
variable {s : State} {c : Caller} {slot request priority : Nat}

theorem runAirPollNow_passes (ho : c.isOperator = true) (hl : c.slots 3 = true) (hq : request ≤ 0x1F) (hp : priority ≤ 3)
    (hm : isMeterSlot slot = true) (hh : s.meterHere slot = true) (hn : s.planned slot = true)
    (hr : s.isReleasing (s.meterTenant slot) = false) :
    runAirPollNow slot request priority c s =
      let q : PendPoll := match (s.plan slot).poll with
        | some q => { q with request := q.request ||| request, priority := min q.priority priority, commanded := true }
        | none => { due := s.legalS, request := request, priority := priority, commanded := true }
      ({ status := .deferred },
        ((s.setPlan slot { s.plan slot with poll := some q }).journalPlan slot [0, q.due]).carry (.meter slot)) := by
  rw [runAirPollNow, gated_pass _ _ _ (by simp [ho, hl, hq, hp, hm, hh, hn, hr, State.notReleasing])] <;> rfl

theorem runAirModelReset_passes (ho : c.isOperator = true) (hl : c.slots 1 = true) (hm : isMeterSlot slot = true)
    (hh : s.meterHere slot = true) (hn : s.planned slot = true) (hr : s.isReleasing (s.meterTenant slot) = false) :
    runAirModelReset slot c s = ({ status := .done },
      ((s.setPlan slot { s.plan slot with st := s.unsyncedState slot, obs := [], ref := none, rejects := 0, misses := 0 }).journalPlan
        slot [4]).carry (.meter slot)) := by
  rw [runAirModelReset, gated_pass _ _ _ (by simp [ho, hl, hm, hh, hn, hr, State.notReleasing])]

end

section
variable {s : State} {c : Caller} {head band start : Nat} {x : Launch} (hs : c.isService = true) (hl : c.slots 3 = true)
  (hn : isLane head = true) (hh : s.laneHere head = true) (hb : band < 32)
  (hx : s.air.queue.find? (fun e => e.head == head && e.band == band && e.start == start) = some x)
include hs hl hn hh hb hx

theorem runAirLaunchCancel_passes (hu : s.air.queue.any (fun y => y.gid == x.gid && y.locked) = false) :
    runAirLaunchCancel head band start c s = ({ status := .done, slots := [x.charge] },
      match x.meter, x.source with
      | some m, .poll => (s.cancelPoll m .queue).carryLaunch x
      | _, _ => (s.withdrawLaunch x).carryLaunch x) := by
  rw [runAirLaunchCancel, gated_pass _ _ _ (by simp [hs, hl, hn, hh, hb, hx, hu])]
  simp only [hx] <;> rfl

theorem runAirLaunchCancel_locked (hu : s.air.queue.any (fun y => y.gid == x.gid && y.locked) = true) :
    runAirLaunchCancel head band start c s = ({ status := .launchLocked }, s) := by
  simp [runAirLaunchCancel, gated, hs, hl, hn, hh, hb, hx, hu]

end

theorem State.carry_nextPos (s : State) (k : Kept) : (s.carry k).store.nextPos = s.store.nextPos := by
  unfold State.carry
  split
  · rfl
  · dsimp only
    split
    · simp [State.nameKept]
    · rfl

theorem runRxContextAbort_passes {s : State} {c : Caller} {n : Nat} {x : RxCtx} (ho : c.isOperator = true) (hl : c.slots 1 = true)
    (hn : n < 4096) (hx : s.ctx n = some x) :
    runRxContextAbort n c s = ({ status := .done }, if x.held.isSome then s.abortHeld n else s.endCtxWith n 5) := by
  rw [runRxContextAbort, gated_pass _ _ _ (by simp [ho, hl, hn, hx])]
  simp only [hx]

/-- A booking that a listening command asks for needs no time ahead. -/
theorem State.book_listens (s : State) {b : Booking} (hr : b.inRange = true) (hy : s.rxReady = true) (hb : s.bookingBound b = none) :
    s.book b true = (some s.rx.nextId, ({ s with rx := { s.rx with
      booked := s.rx.booked ++ [{ id := s.rx.nextId, b := b, listen := true, pol := s.rxPol b.mode, count := (s.bookingBranches b).length }],
      nextId := s.rx.nextId + 1 } } : State).count { name := .rxBookings, a := b.group }) := by
  simp [State.book, hr, hy, hb]

section
variable {s : State} {c : Caller} {head antenna band carrier ms : Nat}

/-- The test carrier takes its place in the queue, the position of its journal entry with it. -/
theorem runAirTxTest_passes (hs : c.isService = true) (hl : c.slots 5 = true) (hh : head < 64) (ha : antenna < 8) (hb : band < 32)
    (h1 : 1 ≤ ms) (h1000 : ms ≤ 1000) (hn : s.laneHere head = true) (he : s.rdB Rec.HeadAir.TxEnable head = true)
    (hm : bitOn (s.rd Rec.HeadAir.TxAntennaMask head) antenna = true) (hc : s.bandHolds band carrier 0 = true)
    (hf : s.refusal head antenna band (s.time.air + s.rd Rec.AirPolicy.PlanLeadMs * airPerMs) (ms * airPerMs) ms 0 = none)
    (hv : s.serving = true) :
    runAirTxTest head antenna band carrier ms c s =
      let start := s.time.air + s.rd Rec.AirPolicy.PlanLeadMs * airPerMs
      let u := s.journalPlan 0xFFFFFFFF [5, start, ms * airPerMs, ms, band]
      ({ status := .deferred }, (u.placeLaunch
        { id := 0, gid := u.air.nextId, head := head, band := band, antenna := antenna, carrier := carrier, start := start,
          span := ms * airPerMs, amp := u.txAmp head antenna band, charge := ms, source := .test, position := u.newestPos } 0).carry .duty) := by
  rw [runAirTxTest, gated_pass _ _ _ (by simp [hs, hl, hh, ha, hb, h1, h1000, hn, he, hm, hc, hf, hv])]

end

theorem State.txAmp_of_records {s t : State} (h : t.records = s.records) (head antenna b : Nat) :
    t.txAmp head antenna b = s.txAmp head antenna b := by
  simp only [State.txAmp, State.rdS, State.rd, State.recInst, h]

section
variable {s : State} {c : Caller} {group mode headMask start window maxFrameMs : Nat} {b : Booking}

theorem runRxListen_passes (hs : c.isService = true) (hl : c.slots 6 = true) (hg : group < 1024) (hh : headMask < 256) (hw : 1 ≤ window)
    (hw' : window ≤ 60000) (hf : 1 ≤ maxFrameMs) (hf' : maxFrameMs ≤ 2000) (hm : modeOk mode = true) (hv : s.groupValid group ≠ [])
    (ht : s.time.air ≤ (if start = 0 then s.time.air else start))
    (hb : b = ⟨0xFFFFFFFF, group, headMask, mode, if start = 0 then s.time.air else start,
      (if start = 0 then s.time.air else start) + window * airPerMs, maxFrameMs, 0, 0, 0⟩)
    (hr : b.inRange = true) (hy : s.rxReady = true) (hn : s.bookingBound b = none) :
    runRxListen group mode headMask start window maxFrameMs c s = ({ status := .deferred },
      match (s.book b true).2.rx.booked.find? (fun x => x.id == s.rx.nextId) with
      | some x => if start = 0 then (s.book b true).2.openDue x else (s.book b true).2
      | none => (s.book b true).2) := by
  rw [runRxListen, gated_pass _ _ _ (by simp [hs, hl, hg, hh, hw, hw', hf, hf', hm, ht, hv])]
  dsimp only
  obtain ⟨t, ht⟩ : ∃ t, s.book b true = (some s.rx.nextId, t) := ⟨_, s.book_listens hr hy hn⟩
  rw [← hb, ht]
  dsimp only
  cases t.rx.booked.find? fun x => x.id == s.rx.nextId <;> rfl

end

end Machine

/-- Settles O50, row by row. -/
theorem airCommandsComplete : Obligations.AirCommandsComplete := by
  refine ⟨?pollNow, ?pollMerged, ?reset, ?cancel, ?cancelPoll, ?locked, ?txTest, ?abort, ?abortHeld, ?listen, ?listenNow⟩
  case pollNow =>
    intro s ch r c slot request priority ha ho hl hq hp hm hh hn hr hpoll
    refine exec_run_asked rfl ha ((runAirPollNow_passes ho hl hq hp hm hh hn hr).trans ?_)
    rw [hpoll]
  case pollMerged =>
    intro s ch r c slot request priority q ha ho hl hq hp hm hh hn hr hpoll
    refine exec_run_asked rfl ha ((runAirPollNow_passes ho hl hq hp hm hh hn hr).trans ?_)
    rw [hpoll]
  case reset =>
    intro s ch r c slot ha ho hl hm hh hn hr
    exact exec_run_asked rfl ha (runAirModelReset_passes ho hl hm hh hn hr)
  case cancel =>
    intro s ch r c head band start x ha hs hl hn hh hb hx hu hnot
    refine exec_run_asked rfl ha ((runAirLaunchCancel_passes hs hl hn hh hb hx hu).trans ?_)
    split
    next m hm hsrc =>
      rcases hnot with h | h
      · exact absurd hsrc h
      · cases h.symm.trans hm
    · rfl
  case cancelPoll =>
    intro s ch r c head band start m x ha hs hl hn hh hb hx hu hsrc hm
    refine exec_run_asked rfl ha ((runAirLaunchCancel_passes hs hl hn hh hb hx hu).trans ?_)
    rw [hm, hsrc]
  case locked =>
    intro s ch r c head band start x ha hs hl hn hh hb hx hu
    exact exec_run_asked rfl ha (runAirLaunchCancel_locked hs hl hn hh hb hx hu)
  case txTest =>
    intro s ch r c head antenna band carrier ms ha hs hl hh han hb h1 h1000 hn he hm hc hf hv
    refine ⟨_, exec_run_asked rfl ha (runAirTxTest_passes hs hl hh han hb h1 h1000 hn he hm hc hf hv), State.answered_respond _ _ _ _,
      ?_, ?_, ?_⟩
    · rw [State.newestPos]
      simp [State.carry_nextPos, State.placeLaunch, State.newestPos, State.journalPlan, State.txAmp_of_records (t := s.journal _ _ _ _) (s := s)]
    · simp [State.placeLaunch, State.journalPlan]
    · simp [State.placeLaunch, State.journalPlan]
  case abort =>
    intro s ch r c ctx x ha ho hl hn hx hheld hst
    refine exec_run_asked rfl ha ((runRxContextAbort_passes ho hl hn hx).trans ?_)
    simp [hheld, State.endCtxWith, hx, hst]
  case abortHeld =>
    intro s ch r c ctx x ha ho hl hn hx hheld
    refine exec_run_asked rfl ha ((runRxContextAbort_passes ho hl hn hx).trans ?_)
    rw [if_pos hheld]
  case listen =>
    intro s ch r c group mode headMask start window maxFrameMs b ha hs hl hg hh hw hw' hf hf' hm ht h0 hv hb hr hy hn
    have hrun := runRxListen_passes (start := start) hs hl hg hh hw hw' hf hf' hm hv (by rw [if_neg h0]; exact ht) (by rw [if_neg h0]; exact hb)
      hr hy hn
    have hsame : runRxListen group mode headMask start window maxFrameMs c s = ({ status := .deferred }, (s.book b true).2) := by
      rw [hrun]
      split
      · rw [if_neg h0]
      · rfl
    rw [s.book_listens hr hy hn, hb] at hsame
    refine ⟨_, exec_run_asked rfl ha hsame, State.answered_respond _ _ _ _, ?_, ?_, ?_⟩
    · simp [hb]
    · exact (State.ctr_respond _ _ _ _ _).trans (State.ctr_count _ _ _)
    · exact (((Claims.Frame.rx s _).mono (by simp)).trans ((Claims.Frame.ctrs _ _).mono (by simp))).trans
        ((Claims.Frame.respond _ _ _ _).mono (by simp))
  case listenNow =>
    intro s ch r c group mode headMask window maxFrameMs b ha hs hl hg hh hw hw' hf hf' hm hv hb hr hy hn hnil
    refine exec_run_asked rfl ha ((runRxListen_passes (start := 0) hs hl hg hh hw hw' hf hf' hm hv (le_refl _) hb hr hy hn).trans ?_)
    rw [s.book_listens hr hy hn, hnil]
    simp [hb]

end Sys2Proof
end

section
/-! The filter and lane commands (O51). -/

namespace Sys2Proof

open Machine

namespace Machine

theorem exec_read_asked {i : Instr} {ch : Nat} {k : Cmd} {read : Caller → State → Reply} (hi : Claims.readOf i = some (ch, k, read))
    {s : State} {r : Request} {c : Caller} (h : Claims.Asked s ch k r c) : exec i s = .next (s.respond ch r (read c s)) := by
  rw [exec_of_readOf hi, State.readCommand, State.command_asked h]

@[simp] theorem State.unit_respond (s : State) (n : Nat) (r : Request) (y : Reply) (u : UnitId) : (s.respond n r y).unit u = s.unit u := rfl

@[simp] theorem State.unitSt_respond (s : State) (n : Nat) (r : Request) (y : Reply) (u : UnitId) :
    (s.respond n r y).unitSt u = s.unitSt u := rfl

@[simp] theorem State.dcOf_respond (s : State) (n : Nat) (r : Request) (y : Reply) (t : Nat) : (s.respond n r y).dcOf t = s.dcOf t := rfl

@[simp] theorem State.dcOf_setUnit (s : State) (u : UnitId) (x : EnUnit) (t : Nat) : (s.setUnit u x).dcOf t = s.dcOf t := rfl

@[simp] theorem State.unitSt_startLane (s : State) (n reason : Nat) (u : UnitId) : (s.startLane n reason).unitSt u = s.unitSt u := rfl

/-! ### Units that start and stop (Table 2-6) -/

theorem enableUnit_off {x : EnUnit} (hf : x.fenced = false) (hx : x.st = .off) :
    enableUnit x = ({ x with st := .starting, deferred := false }, .done) := by
  simp [enableUnit, hf, hx]

theorem disableUnit_on {x : EnUnit} (ms : Nat) (hf : x.fenced = false) (hx : x.st = .on) :
    disableUnit ms x = ({ x with st := .stopping false, stopAt := ms }, .done) := by
  simp [disableUnit, hf, hx]

theorem State.dcEnable_off {s : State} {t : Nat} (reason : Nat) (hf : (s.unit (.dcBlock t)).fenced = false)
    (hx : s.unitSt (.dcBlock t) = .off) :
    s.dcEnable t reason = (.done, (s.setUnit (.dcBlock t) { s.unit (.dcBlock t) with st := .starting, deferred := false }).setDc t
      { s.dcOf t with reason := reason }) := by
  dsimp only [State.dcEnable]
  rw [enableUnit_off hf hx, if_pos ⟨hx, rfl⟩]
  rfl

theorem State.dcDisable_on {s : State} {t : Nat} (hf : (s.unit (.dcBlock t)).fenced = false) (hx : s.unitSt (.dcBlock t) = .on) :
    s.dcDisable t = (.done, s.setUnit (.dcBlock t) { s.unit (.dcBlock t) with st := .stopping false, stopAt := s.time.ms }) := by
  dsimp only [State.dcDisable]
  rw [disableUnit_on _ hf hx]

/-- A lane of the channel's own starts, and reserves nothing of the line. -/
theorem State.enableLaneCells_off {s : State} {n : Nat} (reason : Nat) (hf : (s.unit (.lane n)).fenced = false)
    (hx : s.unitSt (.lane n) = .off) (hl : s.lineMode n = false) :
    s.enableLaneCells n reason =
      (.done, (s.setUnit (.lane n) { s.unit (.lane n) with st := .starting, deferred := false }).startLane n reason) := by
  have he : s.enableLane n reason =
      (.done, (s.setUnit (.lane n) { s.unit (.lane n) with st := .starting, deferred := false }).startLane n reason) := by
    dsimp only [State.enableLane]
    rw [enableUnit_off hf hx, if_pos ⟨hx, rfl⟩]
  obtain ⟨u, hu⟩ : ∃ u, (s.setUnit (.lane n) { s.unit (.lane n) with st := .starting, deferred := false }).startLane n reason = u := ⟨_, rfl⟩
  have hline : u.lineMode n = false := by
    rw [← hl, ← hu]
    rfl
  dsimp only [State.enableLaneCells]
  rw [he, hu]
  have hres : u.lineReserve n = u := by rw [State.lineReserve, if_neg (by simp [hline])]
  dsimp only
  rw [hres, ite_self]

theorem isLane_of_laneHere {s : State} {n : Nat} (h : s.laneHere n = true) : isLane n = true := by
  unfold State.laneHere at h
  simp only [isLane, decide_eq_true_eq] at h ⊢
  split at h <;> omega

/-! ### The dynamic cancellers (R110) -/

section
variable {s : State} {c : Caller} {target : Nat} (ho : c.isOperator = true) (ha : s.dcAbsent target = none)
include ho ha

theorem runFiltDcEnable_passes (hl : c.slots 1 = true) (hc : s.dcChainOn target = true) :
    runFiltDcEnable target c s = ({ status := (s.dcEnable target 0).1 }, (s.dcEnable target 0).2) := by
  rw [runFiltDcEnable, gated_pass _ _ _ (by simp [ho, ha, hl, hc])]

theorem runFiltDcDisable_passes (hl : c.slots 1 = true) :
    runFiltDcDisable target c s = ({ status := (s.dcDisable target).1 }, (s.dcDisable target).2) := by
  rw [runFiltDcDisable, gated_pass _ _ _ (by simp [ho, ha, hl])]

theorem runFiltDcFreeze_passes {freeze : Nat} (hl : c.slots 2 = true) (hf : freeze ≤ 1) (hx : s.unitSt (.dcBlock target) ≠ .off) :
    runFiltDcFreeze target freeze c s = ({ status := .done },
      if s.unitOn (.dcBlock target) then
        (s.setDc target { s.dcOf target with cmdFreeze := decide (freeze = 1) }).dcFrozenNow target (s.dcOf target).autoFrozen
      else s.setDc target { s.dcOf target with cmdFreeze := decide (freeze = 1) }) := by
  rw [runFiltDcFreeze, gated_pass _ _ _ (by simp [ho, ha, hl, hf, hx])]
  rfl

end

/-- A block that the command freezes keeps the instant of it. -/
theorem State.dcFrozenNow_freezes (s : State) (t : Nat) {d : DcSt} (hc : d.cmdFreeze = true) (hf : d.frozen = none) :
    (s.setDc t d).dcFrozenNow t d.autoFrozen =
      (s.setDc t d).setDc t { d with frozen := some (s.time.ms, s.stamp), longRaised := false } := by
  simp only [State.dcFrozenNow, State.dcOf_setDc, Bool.and_not_self, Bool.false_eq_true, if_false, hc, hf, Bool.true_or, if_true,
    Option.isSome_none]
  rfl

theorem State.dcFrozenNow_releases (s : State) (t : Nat) {d : DcSt} (hc : d.cmdFreeze = false) (ha : d.autoFrozen = false) :
    (s.setDc t d).dcFrozenNow t d.autoFrozen = (s.setDc t d).setDc t { d with frozen := none, longRaised := false } := by
  simp only [State.dcFrozenNow, State.dcOf_setDc, Bool.and_not_self, Bool.false_eq_true, if_false, hc, ha, Bool.or_self]

theorem readFiltDc_passes {s : State} {c : Caller} {target : Nat} (ho : c.isObserver = true) (hl : c.slots 1 = true)
    (ha : s.dcAbsent target = none) (ht : target < 2 ^ 30) :
    readFiltDc target c s = { status := .done, slots := [(s.unitSt (.dcBlock target)).code, (s.dcOf target).est.length] ++
      (s.dcOf target).est.flatMap (fun e => [slotOf e.2.re, slotOf e.2.im]) ++
      [bit (s.dcOf target).cmdFreeze, bit (s.dcAutoFrozen target), slotOpt ((s.dcOf target).frozen.map Prod.snd)] } := by
  rw [readFiltDc, gatedRead_pass _ _ (by simp [ho, ha, hl])]
  simp only [ht, if_true]

/-! ### The lanes -/

theorem runLaneEnable_passes {s : State} {c : Caller} {n : Nat} (ho : c.isOperator = true) (hl : c.slots 1 = true)
    (hn : s.laneHere n = true) (ht : (s.lane n).test = none) :
    runLaneEnable n c s = ({ status := (s.enableLaneCells n 0).1 }, (s.enableLaneCells n 0).2) := by
  rw [runLaneEnable, gated_pass _ _ _ (by simp [ho, hl, hn, isLane_of_laneHere hn, State.laneTested, ht])]

theorem runLaneDisable_on {s : State} {c : Caller} {n : Nat} (ho : c.isOperator = true) (hl : c.slots 1 = true)
    (hn : s.laneHere n = true) (hr : (Map.getD s.arch.regions (n / 16) {}).lanes.contains n = false)
    (hf : (s.unit (.lane n)).fenced = false) (hx : s.unitSt (.lane n) = .on) :
    runLaneDisable n c s =
      ({ status := .done }, s.setUnit (.lane n) { s.unit (.lane n) with st := .stopping false, stopAt := s.time.ms }) := by
  rw [runLaneDisable, gated_pass _ _ _ (by simp [ho, hl, hn, isLane_of_laneHere hn])]
  dsimp only
  rw [disableUnit_on _ hf hx, if_neg fun h => by simp only [hr, Bool.false_eq_true] at h]

theorem runLaneHeadControl_sends {s : State} {c : Caller} {n trib : Nat} {msg : List Byte} (hs : c.isService = true)
    (hb : c.body.length = 24 + msg.length) (ht : trib ≤ 255) (hm : msg.length ≤ 1024) (hn : s.laneHere n = true) (ho : s.laneOn n = true)
    (hr : (s.lane n).reqs = []) :
    runLaneHeadControl n trib 3 msg c s = (none, s.sendControl n 3 trib msg (.host c.ch)) := by
  rw [runLaneHeadControl, gated_pass _ _ _ (by simp [hs, hb, ht, hm, hn, ho, isLane_of_laneHere hn])]
  simp [hr]

theorem runLaneTest_starts {s : State} {c : Caller} {n pattern duration : Nat} (errors : Nat) (hs : c.isService = true)
    (hl : c.slots 3 = true) (hp : pattern ≤ 1) (hd : 1 ≤ duration) (hd' : duration ≤ 5000) (hn : s.laneHere n = true)
    (hx : s.laneSt n = .off) (ht : (s.lane n).test = none) :
    runLaneTest n pattern duration errors c s =
      (none, s.modLane n fun l => { l with test := some (c.ch, s.time.ms + duration) }) := by
  rw [runLaneTest, gated_pass _ _ _ (by simp [hs, hl, hp, hd, hd', hn, hx, ht, isLane_of_laneHere hn, State.laneTested])]
  simp [ht]

theorem runLaneTest_ends {s : State} {c : Caller} {n until' : Nat} (pattern duration errors : Nat)
    (ht : (s.lane n).test = some (c.ch, until')) (hu : until' ≤ s.time.ms) :
    runLaneTest n pattern duration errors c s =
      (some { status := .done, slots := [212500000 * duration, errors] }, s.modLane n fun l => { l with test := none }) := by
  simp [runLaneTest, ht, hu]

/-! ### The captures -/

theorem runFiltCaptureStart_waits {s : State} {c : Caller} {lane mask sub instant duration : Nat} (hs : c.isService = true)
    (hl : c.slots 7 = true) (hm : mask < 256) (hm' : mask ≠ 0) (hd : 1 ≤ duration) (hd' : duration ≤ 60000000)
    (hn : s.laneHere lane = true) (ho : s.laneOn lane = true) (hline : s.lineMode lane = false) (hc : s.filt.captures = [])
    (hrate : s.captureRate 0 mask sub ≤ 40000000000 * 4096 * s.flashChannels / 16)
    (hsize : ceilDiv (s.captureRate 0 mask sub * duration) (4096 * 1000000) ≤ s.captureFree) :
    runFiltCaptureStart 0 lane mask sub 1 instant duration c s =
      ({ status := .deferred, slots := [s.filt.nextCapture] }, { s with filt := { s.filt with
        nextCapture := (s.filt.nextCapture + 1) % 2 ^ 32,
        captures := [{ id := s.filt.nextCapture, kind := 0, lane := lane, mask := mask, sub := sub, start := 1, at' := instant,
                       durationUs := duration, size := ceilDiv (s.captureRate 0 mask sub * duration) (4096 * 1000000),
                       reqStamp := s.stamp, rate := s.captureRate 0 mask sub }] } }) := by
  have hlive : s.liveCaptures = [] := by simp [State.liveCaptures, hc]
  rw [runFiltCaptureStart, gated_pass _ _ _ (by simp [hs, hl, hm, hm', hd, hd', hn, ho, hline, hlive, hrate, hsize, isLane_of_laneHere hn])]
  simp only [hc]
  rfl

theorem runFiltCaptureStop_active {s : State} {c : Caller} {id : Nat} {x : Capture} (hs : c.isService = true) (hl : c.slots 1 = true)
    (hx : s.capture id = some x) (ha : x.st = .active) :
    runFiltCaptureStop id c s = ({ status := .done }, s.setCapture { x with st := .stopped }) := by
  simp only [runFiltCaptureStop, hx]
  rw [gated_pass _ _ _ (by simp [hs, hl, ha])]

theorem runFiltCaptureDelete_done {s : State} {c : Caller} {id : Nat} {x : Capture} (hs : c.isService = true) (hl : c.slots 1 = true)
    (hx : s.capture id = some x) (hd : x.st = .done) :
    runFiltCaptureDelete id c s = ({ status := .done, slots := [x.size] },
      { s with filt := { s.filt with captures := s.filt.captures.filter (fun y => !(y.id == id)) } }) := by
  simp only [runFiltCaptureDelete, hx]
  rw [gated_pass _ _ _ (by simp [hs, hl, hd])]

end Machine

theorem Claims.Frame.setUnit (s : State) (u : UnitId) (x : EnUnit) : Claims.Frame [.arch] s (s.setUnit u x) := by
  intro p _ hl
  cases p <;> simp_all [Claims.Part.same]

theorem Claims.Frame.setDc (s : State) (t : Nat) (d : DcSt) : Claims.Frame [.filt] s (s.setDc t d) := by
  intro p _ hl
  cases p <;> simp_all [Claims.Part.same]

/-- Settles O51, row by row. -/
theorem filterCommandsComplete : Obligations.FilterCommandsComplete := by
  refine ⟨?dcEnable, ?dcDisable, ?freeze, ?release, ?releaseEarly, ?read, ?laneEnable, ?laneDisable, ?start, ?stop, ?delete, ?control,
    ?test, ?tested⟩
  case dcEnable =>
    intro s ch r c target h ho hl ha hc hf hx
    have hrun := runFiltDcEnable_passes ho ha hl hc
    rw [State.dcEnable_off 0 hf hx] at hrun
    refine ⟨_, exec_run_asked rfl h hrun, ?_, ?_, State.answered_respond _ _ _ _, ?_⟩
    · simp
    · simp
    · exact (((Claims.Frame.setUnit s _ _).mono (by simp)).trans ((Claims.Frame.setDc _ _ _).mono (by simp))).trans
        ((Claims.Frame.respond _ _ _ _).mono (by simp))
  case dcDisable =>
    intro s ch r c target h ho hl ha hf hx
    have hrun := runFiltDcDisable_passes ho ha hl
    rw [State.dcDisable_on hf hx] at hrun
    refine ⟨_, exec_run_asked rfl h hrun, ?_, ?_, State.answered_respond _ _ _ _, ?_⟩
    · simp
    · simp
    · exact ((Claims.Frame.setUnit s _ _).mono (by simp)).trans ((Claims.Frame.respond _ _ _ _).mono (by simp))
  case freeze =>
    intro s ch r c target h ho hl ha hx hfro
    have hrun := runFiltDcFreeze_passes (freeze := 1) ho ha hl (le_refl 1) (by simp [hx])
    rw [if_pos (by simp [State.unitOn, hx])] at hrun
    have hfrozen := s.dcFrozenNow_freezes target (d := { s.dcOf target with cmdFreeze := true }) rfl hfro
    refine ⟨_, exec_run_asked rfl h (hrun.trans (congrArg _ hfrozen)), ?_, State.answered_respond _ _ _ _, ?_⟩
    · simp
    · exact (((Claims.Frame.setDc s _ _).mono (by simp)).trans ((Claims.Frame.setDc _ _ _).mono (by simp))).trans
        ((Claims.Frame.respond _ _ _ _).mono (by simp))
  case release =>
    intro s ch r c target h ho hl ha hx hauto
    have hrun := runFiltDcFreeze_passes (freeze := 0) ho ha hl (by decide) (by simp [hx])
    rw [if_pos (by simp [State.unitOn, hx])] at hrun
    have hfrozen := s.dcFrozenNow_releases target (d := { s.dcOf target with cmdFreeze := false }) rfl hauto
    refine ⟨_, exec_run_asked rfl h (hrun.trans (congrArg _ hfrozen)), ?_, State.answered_respond _ _ _ _, ?_⟩
    · simp
    · exact (((Claims.Frame.setDc s _ _).mono (by simp)).trans ((Claims.Frame.setDc _ _ _).mono (by simp))).trans
        ((Claims.Frame.respond _ _ _ _).mono (by simp))
  case releaseEarly =>
    intro s ch r c target h ho hl ha hx
    have hrun := runFiltDcFreeze_passes (freeze := 0) ho ha hl (by decide) (by simp [hx])
    rw [if_neg (by simp [State.unitOn, hx])] at hrun
    exact exec_run_asked rfl h hrun
  case read =>
    intro s ch r c target h ho hl ha ht
    rw [exec_read_asked rfl h, readFiltDc_passes ho hl ha ht]
  case laneEnable =>
    intro s ch r c lane h ho hl hn ht hf hx hline
    have hrun := runLaneEnable_passes ho hl hn ht
    rw [State.enableLaneCells_off 0 hf hx hline] at hrun
    refine ⟨_, exec_run_asked rfl h hrun, ?_, State.answered_respond _ _ _ _, ?_⟩
    · simp
    · simp [State.startLane]
  case laneDisable =>
    intro s ch r c lane h ho hl hn hr hf hx
    exact exec_run_asked rfl h (runLaneDisable_on ho hl hn hr hf hx)
  case start =>
    intro s ch r c lane mask sub instant duration h hs hl hm hm' hd hd' hn ho hline hc hrate hsize
    exact exec_run_asked rfl h (runFiltCaptureStart_waits hs hl hm hm' hd hd' hn ho hline hc hrate hsize)
  case stop =>
    intro s ch r c id x h hs hl hx ha
    exact exec_run_asked rfl h (runFiltCaptureStop_active hs hl hx ha)
  case delete =>
    intro s ch r c id x h hs hl hx hd
    exact exec_run_asked rfl h (runFiltCaptureDelete_done hs hl hx hd)
  case control =>
    intro s ch r c lane trib msg h hs hb ht hm hn ho hr
    exact congrArg _ (State.commandLater_waits h (runLaneHeadControl_sends hs hb ht hm hn ho hr))
  case test =>
    intro s ch r c lane pattern duration errors h hs hl hp hd hd' hn hx ht
    exact congrArg _ (State.commandLater_waits h (runLaneTest_starts errors hs hl hp hd hd' hn hx ht))
  case tested =>
    intro s ch r c lane pattern duration errors n h hs hl hch ht hu
    exact congrArg _ (State.commandLater_answers h (runLaneTest_ends pattern duration errors (hch ▸ ht) hu))

end Sys2Proof
end

section
/-! The update commands (O52). -/

namespace Sys2Proof

open Machine

/-! ### What the launches withdrawn, the head-ends closed and the save begun leave unchanged -/

theorem Claims.Frame.ports (s : State) (x : Ports) : Claims.Frame [.ports] s { s with ports := x } := by
  intro p _ hl
  cases p <;> simp_all [Claims.Part.same]

theorem Claims.Frame.pow (s : State) (x : Power) : Claims.Frame [.pow] s { s with pow := x } := by
  intro p _ hl
  cases p <;> simp_all [Claims.Part.same]

theorem Claims.Frame.upd (s : State) (x : Update) : Claims.Frame [.upd] s { s with upd := x } := by
  intro p _ hl
  cases p <;> simp_all [Claims.Part.same]

theorem Claims.Frame.evUpd (s : State) (x : Events) (y : Update) : Claims.Frame [.ev, .upd] s { s with ev := x, upd := y } := by
  intro p _ hl
  cases p <;> simp_all [Claims.Part.same]

theorem Claims.Frame.pair (s : State) (x : Pair) : Claims.Frame [.pair] s { s with pair := x } := by
  intro p _ hl
  cases p <;> simp_all [Claims.Part.same]

theorem Claims.Frame.withdraw (s : State) (gid : Nat) : Claims.Frame [.air] s (s.withdraw gid) := Claims.Frame.air s _

theorem Claims.Frame.unbook (s : State) (id : Nat) : Claims.Frame [.rx] s (s.unbook id) := Claims.Frame.rx s _

theorem Claims.Frame.deferPoll (s : State) (slot : Nat) (cause : DeferCause) : Claims.Frame [.air, .ctrs] s (s.deferPoll slot cause) :=
  .trans (.mono (.setPlan s _ _) (by simp)) (.mono (.count _ _ _) (by simp))

theorem Claims.Frame.cancelPoll (s : State) (slot : Nat) (cause : DeferCause) : Claims.Frame [.air, .rx, .ctrs] s (s.cancelPoll slot cause) := by
  unfold State.cancelPoll
  dsimp only
  split
  · exact .refl _ _
  · exact .trans (.mono (.withdraw s _) (by simp)) (.trans (.mono (.unbook _ _) (by simp))
      (.trans (.mono (.setPlan _ _ _) (by simp)) (.mono (.deferPoll _ _ _) (by simp))))

theorem Claims.Frame.withdrawLaunch (s : State) (e : Launch) : Claims.Frame [.air, .fl] s (s.withdrawLaunch e) := by
  unfold State.withdrawLaunch
  split
  · unfold State.floodBack
    dsimp only
    split
    · exact .refl _ _
    · exact .trans (.foldl (fun s e => .mono (.withdraw s _) (by simp)) _ _) (.mono (.modStream _ _ _) (by simp))
  · exact .mono (.withdraw _ _) (by simp)

theorem Claims.Frame.cancelUnlocked (s : State) : Claims.Frame [.air, .rx, .fl, .ctrs] s s.cancelUnlocked := by
  refine .foldl (fun s e => ?_) _ _
  split
  · exact .mono (.cancelPoll s _ _) (by simp)
  · exact .mono (.withdrawLaunch s _) (by simp)

theorem Claims.Frame.pulsesInactive (s : State) : Claims.Frame [.met, .ctrs] s s.pulsesInactive := by
  refine .foldl (fun s o => ?_) _ _
  dsimp only
  split
  · exact .refl _ _
  · exact .trans (.mono (.met s _) (by simp)) (.mono (.count _ _ _) (by simp))

theorem Claims.Frame.closeSession (s : State) (n : Nat) (cause : CloseCause) :
    Claims.Frame [.mail, .ev, .upd, .ctrs, .time] s (s.closeSession n cause) := by
  unfold State.closeSession
  split
  · exact .refl _ _
  · refine .trans ?_ (.mono (.raise _ _ _ _ _) (by simp))
    exact .trans (.mono (.modChan s _ _) (by simp)) (.mono (.evUpd _ _ _) (by simp))

theorem Claims.Frame.closeUnreached (s : State) : Claims.Frame [.mail, .ev, .upd, .ctrs, .time] s s.closeUnreached := by
  refine .foldl (fun s n => ?_) _ _
  split
  · exact .closeSession s _ _
  · exact .refl _ _

theorem Claims.Frame.setHeadEnd (s : State) (i : Nat) (x : HeadEndSession) : Claims.Frame [.ports] s (s.setHeadEnd i x) :=
  Claims.Frame.ports s _

theorem Claims.Frame.closeHead (s : State) (i : Nat) (cause : HeCause) :
    Claims.Frame [.ports, .mail, .ev, .upd, .ctrs, .time] s (s.closeHead i cause) := by
  unfold State.closeHead
  dsimp only
  split
  · exact .trans (.mono (.setHeadEnd s _ _) (by simp)) (.trans (.mono (.closeUnreached _) (by simp)) (.mono (.raise _ _ _ _ _) (by simp)))
  · exact .trans (.mono (.setHeadEnd s _ _) (by simp)) (.mono (.closeUnreached _) (by simp))

theorem Claims.Frame.closeHeads (s : State) (cause : HeCause) :
    Claims.Frame [.ports, .mail, .ev, .upd, .ctrs, .time] s (s.closeHeads cause) := by
  refine .foldl (fun s i => ?_) _ _
  split
  · exact .refl _ _
  · exact .trans (.closeHead s _ _) (.mono (.setHeadEnd _ _ _) (by simp))

/-- Serving is dropped: the launches that are not locked and the head-ends go with it. -/
theorem Claims.Frame.dropServing (s : State) :
    Claims.Frame [.pair, .air, .rx, .fl, .ports, .mail, .ev, .upd, .ctrs, .time] s s.dropServing :=
  .trans (.mono (.pair s _) (by simp)) (.trans (.mono (.cancelUnlocked _) (by simp)) (.mono (.closeHeads _ _) (by simp)))

theorem Claims.Frame.startSave (s : State) : Claims.Frame [.pow, .air, .rx, .fl, .met, .ctrs] s s.startSave :=
  .trans (.mono (.pow s _) (by simp)) (.trans (.mono (.cancelUnlocked _) (by simp)) (.mono (.pulsesInactive _) (by simp)))

theorem Claims.Frame.orderReset (s : State) (cause : ResetCause) : Claims.Frame [.pow, .air, .rx, .fl, .met, .ctrs] s (s.orderReset cause) := by
  unfold State.orderReset
  dsimp only
  split
  · exact .trans (.mono (.pow s _) (by simp)) (.startSave _)
  · exact .trans (.mono (.pow s _) (by simp)) (.startSave _)
  · exact .mono (.pow s _) (by simp)

namespace Machine

/-! ### The slot the next boot takes -/

theorem State.bootOther_closeSession (s : State) (n : Nat) (cause : CloseCause) :
    (s.closeSession n cause).upd.bootOther = s.upd.bootOther := by
  unfold State.closeSession
  split <;> simp

theorem State.bootOther_closeUnreached (s : State) : s.closeUnreached.upd.bootOther = s.upd.bootOther := by
  refine foldl_keeps (fun s : State => s.upd.bootOther) _ (fun s n => ?_) _ _
  split
  · exact s.bootOther_closeSession _ _
  · rfl

theorem State.bootOther_closeHead (s : State) (i : Nat) (cause : HeCause) : (s.closeHead i cause).upd.bootOther = s.upd.bootOther := by
  unfold State.closeHead
  dsimp only
  split <;> simp [State.bootOther_closeUnreached]

theorem State.bootOther_closeHeads (s : State) (cause : HeCause) : (s.closeHeads cause).upd.bootOther = s.upd.bootOther := by
  unfold State.closeHeads
  refine foldl_keeps (fun s : State => s.upd.bootOther) _ (fun s i => ?_) _ _
  split
  · rfl
  · exact s.bootOther_closeHead i cause

theorem State.upd_of_frame {l : List Claims.Part} {s t : State} (h : Claims.Frame l s t) (hl : Claims.Part.upd ∉ l) : t.upd = s.upd := by
  simpa [Claims.Part.same] using h.same hl

theorem State.pow_of_frame {l : List Claims.Part} {s t : State} (h : Claims.Frame l s t) (hl : Claims.Part.pow ∉ l) : t.pow = s.pow := by
  simpa [Claims.Part.same] using h.same hl

theorem State.records_of_frame {l : List Claims.Part} {s t : State} (h : Claims.Frame l s t) (hl : Claims.Part.records ∉ l) :
    t.records = s.records := by
  simpa [Claims.Part.same] using h.same hl

theorem State.bootOther_dropServing (s : State) : s.dropServing.upd.bootOther = s.upd.bootOther := by
  rw [State.dropServing, State.bootOther_closeHeads, State.upd_of_frame (Claims.Frame.cancelUnlocked _) (by simp)]

/-- What begins the save keeps the reset that is ordered. -/
theorem State.resetAfterSave_startSave (s : State) : s.startSave.pow.resetAfterSave = s.pow.resetAfterSave := by
  rw [State.startSave]
  dsimp only
  rw [State.pow_of_frame (Claims.Frame.pulsesInactive _) (by simp), State.pow_of_frame (Claims.Frame.cancelUnlocked _) (by simp)]

theorem State.resetAfterSave_orderReset (s : State) (cause : ResetCause) :
    (s.orderReset cause).pow.resetAfterSave = some (s.pow.resetAfterSave.getD cause.code) := by
  unfold State.orderReset
  dsimp only
  split
  · exact State.resetAfterSave_startSave _
  · exact State.resetAfterSave_startSave _
  · rfl

/-- What precedes an activation's reset: the slots are chosen, the active yields, serving is dropped. -/
def State.readyToActivate (s : State) (mask : Nat) : State :=
  let s := { s with upd := { s.upd with bootOther := mask } }
  let s := if s.pair.st = .ready then s.sendPartner 0 8 [] else s
  if s.serving then s.dropServing else s

theorem State.activate_eq (s : State) (mask : Nat) : s.activate mask = (s.readyToActivate mask).orderReset .activate := rfl

theorem State.bootOther_readyToActivate (s : State) (mask : Nat) : (s.readyToActivate mask).upd.bootOther = mask := by
  unfold State.readyToActivate
  extract_lets u s₁ s₂
  have h₂ : s₂.upd.bootOther = mask := by
    dsimp only [s₂]
    split <;> simp [s₁]
  split
  · rw [State.bootOther_dropServing, h₂]
  · exact h₂

theorem State.readyToActivate_keeps (s : State) (mask : Nat) :
    (s.readyToActivate mask).pow = s.pow ∧ (s.readyToActivate mask).records = s.records := by
  unfold State.readyToActivate
  extract_lets u s₁ s₂
  have h₂ : s₂.pow = s.pow ∧ s₂.records = s.records := by
    dsimp only [s₂]
    split <;> simp [s₁]
  split
  · rw [State.pow_of_frame (Claims.Frame.dropServing _) (by simp), State.records_of_frame (Claims.Frame.dropServing _) (by simp)]
    exact h₂
  · exact h₂

/-! ### The update commands -/

section
variable {s : State} {c : Caller}

theorem runStageBegin_passes {header : List Byte} (hm : s.mayStage c = true) (hb : c.body.length = 256) (hh : header.length = 256)
    (hc : headerComponent header < 2) (hl : s.imageLocked (headerComponent header) = false) :
    runStageBegin header c s = ({ status := .done, slots := [s.upd.nextStaging] }, { s with upd := { s.upd with
      staging := some { id := s.upd.nextStaging, header := header, payload := [] }, nextStaging := s.upd.nextStaging + 1 } }) := by
  rw [runStageBegin, gated_pass _ _ _ (by simp [hm, hb, hh, hc, hl])]

theorem runStageWrite_passes {id offset : Nat} {data : List Byte} {x : Staging} (hm : s.mayStage c = true)
    (hb : c.body.length = 16 + data.length) (hd : data.length ≤ 262144) (hx : s.upd.staging = some x) (hi : x.id = id)
    (hf : offset + data.length ≤ leAt x.header 36 4) :
    runStageWrite id offset data c s = ({ status := .done },
      { s with upd := { s.upd with staging := some { x with payload := writeAt x.payload offset data } } }) := by
  have hst : s.upd.staging.filter (fun (y : Staging) => y.id == id) = some x := by simp [hx, hi]
  simp only [runStageWrite, hst]
  rw [gated_pass _ _ _ (by simp [hm, hb, hd, hf])]
  rfl

theorem runStageVerify_passes {id : Nat} {x : Staging} (hl : c.slots 1 = true) (hm : s.mayStage c = true) (hx : s.upd.staging = some x)
    (hi : x.id = id) (hk : s.imageLocked (headerComponent x.header) = false) :
    runStageVerify id c s =
      ({ status := .deferred }, (({ s with upd := { s.upd with staging := none } } : State).takeImage x.header x.payload 0).2) := by
  have hst : s.upd.staging.filter (fun (y : Staging) => y.id == id) = some x := by simp [hx, hi]
  simp only [runStageVerify, hst]
  rw [gated_pass _ _ _ (by simp [hm, hl, hk])]

theorem runUpdateActivate_passes {mask force : Nat} (hs : c.isService = true) (hl : c.slots 2 = true) (h0 : 0 < mask) (h4 : mask < 4)
    (hf : force < 2) (hi : ((maskBits 2 mask).all fun k => (s.imageIn k .other).isSome) = true) (hp : s.pair.st ≠ .activePaired)
    (hsolo : s.pair.st ≠ .activeSolo ∨ force = 1) (hr : s.upd.roll = none) (ht : s.upd.trial = none) (hm : s.maskFits mask = true) :
    runUpdateActivate mask force c s = ({ status := .deferred }, s.activate mask) := by
  rw [runUpdateActivate, hi, gated_pass _ _ _ (by simp [hs, hl, h0, h4, hf, hp, hsolo, hr, ht, hm])]

theorem runUpdateConfirm_passes {x : Trial} (hs : c.isService = true) (hl : c.slots 0 = true) (hx : s.upd.trial = some x) :
    runUpdateConfirm c s = ({ status := .done }, s.confirmTrial x.mask) := by
  simp only [runUpdateConfirm, hx]
  rw [gated_pass _ _ _ (by simp [hs, hl])]

theorem runImageDelete_library {digest : List Byte} {i : Image} (hs : c.isService = true) (hb : c.body.length = 32)
    (hi : (s.upd.images.find? fun (y : Image) => y.digest == digest) = some i) (hst : i.st = .library)
    (hk : s.imageLocked i.component = false) (hc : s.upd.campaigns = []) :
    runImageDelete digest c s = ({ status := .done, slots := [i.container.length] },
      { s with upd := { s.upd with images := s.upd.images.filter fun (y : Image) => !(y == i) } }) := by
  simp only [runImageDelete, hi]
  rw [gated_pass _ _ _ (by simp [hs, hb, hst, hk, hc])]

theorem runPairRoll_passes (hs : c.isService = true) (hl : c.slots 0 = true) (hp : s.pair.st = .activePaired)
    (hr : s.readyPartner = true) (hn : s.upd.roll = none) (ht : s.upd.trial = none) (hf : s.rollFits = true) :
    runPairRoll c s = ({ status := .deferred }, s.setRoll 1) := by
  rw [runPairRoll, gated_pass _ _ _ (by simp [hs, hl, hp, hr, hn, ht, hf])]

theorem runHeadCampaign_one {digest : List Byte} {lanes lane : Nat} {i : Image} {x : HeadId} (hs : c.isService = true)
    (hb : c.body.length = 40) (hd : digest.length = 32) (hi : s.libraryImage 2 digest = some i) (h0 : 0 < lanes) (h64 : lanes < 2 ^ 64)
    (hm : maskBits 64 lanes = [lane]) (hn : s.laneHere lane = true) (ho : s.laneOn lane = true) (hh : (s.lane lane).head = some x)
    (hf : x.fits i.model = true) (hv : s.serving = true) :
    runHeadCampaign digest lanes c s = ({ status := .deferred },
      s.addCampaign { id := s.upd.nextCampaign, kind := 2, digest := digest, heads := [(lane, {})] }) := by
  have h64' : lanes < 18446744073709551616 := h64
  rw [runHeadCampaign]
  dsimp only
  rw [gated_pass _ _ _ (by simp [hs, hb, hd, hi, h0, h64', hm, hn, hv])]
  simp [hm, ho, hh, hi, hf]

theorem runMeterCampaign_passes {digest : List Byte} {stream keySlot target rounds activateAt : Nat} {i : Image} {x : Stream}
    (ho : c.isOperator = true) (hb : c.body.length = 72) (hd : digest.length = 32) (hi : s.libraryImage 3 digest = some i)
    (hx : x = s.contentStream stream 2 0 keySlot target rounds (i.container.drop 256)) (hk : ((s.openChecks x).all fun k => k.1) = true)
    (hr : s.upd.reports = []) :
    runMeterCampaign digest stream keySlot target rounds activateAt c s = ({ status := .deferred },
      (s.openStream x).addCampaign { id := s.upd.nextCampaign, kind := 3, digest := digest, stream := stream, keySlot := keySlot,
                                     target := target, rounds := rounds, activateAt := activateAt }) := by
  have hsame : ({ s with upd := { s.upd with reports := [] } } : State) = s := by rw [← hr]
  have hchecks : ∀ k ∈ [(c.isOperator, Status.refusedRole), (c.body.length == 72 && digest.length == 32, .badLength), (true, .badArgument)] ++
      s.openChecks x, k.1 = true := by
    intro k hmem
    rcases List.mem_append.1 hmem with h | h
    · simp only [List.mem_cons, List.not_mem_nil, or_false] at h
      rcases h with rfl | rfl | rfl
      · exact ho
      · simp [hb, hd]
      · rfl
    · exact List.all_eq_true.1 hk k h
  rw [runMeterCampaign]
  dsimp only
  simp only [hi, Option.map_some, Option.getD_some, Option.isSome_some, ← hx]
  rw [gated_pass _ _ _ hchecks]
  simp only [hr, List.filter_nil, hsame]

end

end Machine

/-- Settles O52, row by row. -/
theorem updateCommandsComplete : Obligations.UpdateCommandsComplete := by
  refine ⟨?begins, ?writes, ?verify, ?activate, ?confirm, ?delete, ?roll, ?heads, ?meters⟩
  case begins =>
    intro s ch r c header h hm hb hh hc hl
    exact exec_run_asked rfl h (runStageBegin_passes hm hb hh hc hl)
  case writes =>
    intro s ch r c id offset data x h hm hb hd hx hi hf
    exact exec_run_asked rfl h (runStageWrite_passes hm hb hd hx hi hf)
  case verify =>
    intro s ch r c id x h hl hm hx hi hk
    exact exec_run_asked rfl h (runStageVerify_passes hl hm hx hi hk)
  case activate =>
    intro s ch r c mask force h hs hl h0 h4 hf hi hp hsolo hr ht hm hreset
    obtain ⟨hpow, hrec⟩ := s.readyToActivate_keeps mask
    refine ⟨_, exec_run_asked rfl h (runUpdateActivate_passes hs hl h0 h4 hf hi hp hsolo hr ht hm), State.answered_respond _ _ _ _, ?_, ?_, ?_⟩
    · rw [State.activate_eq, State.upd_of_frame (Claims.Frame.respond _ _ _ _) (by simp),
        State.upd_of_frame (Claims.Frame.orderReset _ _) (by simp), State.bootOther_readyToActivate]
    · rw [State.activate_eq, State.pow_of_frame (Claims.Frame.respond _ _ _ _) (by simp), State.resetAfterSave_orderReset, hpow, hreset]
      rfl
    · rw [State.activate_eq, State.records_of_frame (Claims.Frame.respond _ _ _ _) (by simp),
        State.records_of_frame (Claims.Frame.orderReset _ _) (by simp), hrec]
  case confirm =>
    intro s ch r c x h hs hl hx
    exact exec_run_asked rfl h (runUpdateConfirm_passes hs hl hx)
  case delete =>
    intro s ch r c digest i h hs hb hi hst hk hc
    exact exec_run_asked rfl h (runImageDelete_library hs hb hi hst hk hc)
  case roll =>
    intro s ch r c h hs hl hp hr hn ht hf
    exact exec_run_asked rfl h (runPairRoll_passes hs hl hp hr hn ht hf)
  case heads =>
    intro s ch r c digest lanes lane i x h hs hb hd hi h0 h64 hm hn ho hh hf hv
    exact exec_run_asked rfl h (runHeadCampaign_one hs hb hd hi h0 h64 hm hn ho hh hf hv)
  case meters =>
    intro s ch r c digest stream keySlot target rounds activateAt i x h ho hb hd hi hx hk hr
    exact exec_run_asked rfl h (runMeterCampaign_passes ho hb hd hi hx hk hr)

end Sys2Proof
end

section
/-! The Ling and flood commands (O53). -/

namespace Sys2Proof

open Machine

theorem Claims.Frame.setLingTrib (s : State) (t : Nat) (x : LingTrib) : Claims.Frame [.ling] s (s.setLingTrib t x) :=
  Claims.Frame.ling s _

namespace Machine

/-! ### The flood commands -/

theorem isMeterSlot_of_meterHere {s : State} {slot : Nat} (h : s.meterHere slot = true) : isMeterSlot slot = true := by
  have hlt : slot < s.meterSlots := by simpa [State.meterHere] using h
  have hle : s.meterSlots ≤ 1048576 := by
    unfold State.meterSlots
    split <;> simp
  simpa [isMeterSlot] using hlt.trans_le hle

theorem isTributary_of_lt {s : State} {t : Nat} (h : t < s.tributaries) : isTributary t = true := by
  simp only [State.tributaries, isTributary, decide_eq_true_eq] at h ⊢
  split at h <;> omega

section
variable {s : State} {c : Caller} (ho : c.isOperator = true)
include ho

theorem runFloodStreamOpen_passes {x : Stream} (hl : c.slots 8 = true) (hk : ((s.openChecks x).all fun k => k.1) = true) :
    runFloodStreamOpen x c s = ({ status := .done }, s.openStream x) := by
  have hchecks : ∀ k ∈ [(c.isOperator, Status.refusedRole), (c.slots 8, .badLength)] ++ s.openChecks x, k.1 = true := by
    intro k hmem
    rcases List.mem_append.1 hmem with h | h
    · simp only [List.mem_cons, List.not_mem_nil, or_false] at h
      rcases h with rfl | rfl
      · exact ho
      · exact hl
    · exact List.all_eq_true.1 hk k h
  rw [runFloodStreamOpen, gated_pass _ _ _ hchecks]

theorem runFloodBlockWrite_passes {stream block : Nat} {bytes : List Byte} {x : Stream} (hb : c.body.length = 16 + bytes.length)
    (hx : s.stream stream = some x) (hst : x.st = .opened) (hk : x.kind ≠ 0) (hlt : block < x.lastBlock) (h1 : 1 ≤ bytes.length)
    (hlen : bytes.length = x.segBytes) :
    runFloodBlockWrite stream block bytes c s = ({ status := .done },
      ((s.modStream stream fun x => { x with blocks := Map.put x.blocks block bytes }).journal .flood 0 stream
        (.words (block :: bytes.map BitVec.toNat))).carry .floods) := by
  rw [runFloodBlockWrite, hx, gated_pass _ _ _ (by simp [ho, hb, hst, hk, h1, hlt.le, hlt.ne, ← hlen])]

theorem runFloodStreamStart_passes {stream : Nat} {x : Stream} (hl : c.slots 1 = true) (hs : stream < 256) (hx : s.stream stream = some x)
    (hst : x.st = .opened) (hf : x.full = true) :
    runFloodStreamStart stream c s = ({ status := .deferred },
      ((s.modStream stream fun x => { x with st := .started }).journal .flood 0 stream (.words [1])).carry .floods) := by
  rw [runFloodStreamStart, hx, gated_pass _ _ _ (by simp [ho, hl, hs, hst, hf])]

/-- A stream that no launch serves closes without a launch withdrawn. -/
theorem runFloodStreamClose_idle {stream : Nat} (hl : c.slots 1 = true) (hx : (s.stream stream).isSome = true) (hq : s.air.queue = []) :
    runFloodStreamClose stream c s = ({ status := .done, slots := [0] },
      (({ s with fl := { s.fl with streams := s.fl.streams.filter (fun x => x.number ≠ stream), lastMs := Map.put s.fl.lastMs stream s.time.ms } } :
        State).journal .flood 0 stream (.words [2])).carry .floods |>.carry .duty) := by
  have hback : s.floodBack stream = s := by simp [State.floodBack, hq, leastBy]
  rw [runFloodStreamClose, gated_pass _ _ _ (by simp [ho, hl, hx])]
  simp only [hq, List.filter_nil, List.length_nil, State.closeStream, hback]

theorem runFloodMeterSetup_passes {slot role hop : Nat} (hl : c.slots 3 = true) (hr : role ≤ 2) (hh : hop ≤ 7)
    (hm : isMeterSlot slot = true) (hn : s.meterHere slot = true) (hp : s.planned slot = true)
    (hrel : s.isReleasing (s.meterTenant slot) = false) :
    runFloodMeterSetup slot role hop c s = ({ status := .deferred },
      (({ s with fl := { s.fl with meters := Map.put s.fl.meters slot ⟨role, hop, true, none⟩ } } : State).journal .flood 0 slot
        (.words [3, role, hop])).carry (.meter slot)) := by
  rw [runFloodMeterSetup, gated_pass _ _ _ (by simp [ho, hl, hr, hh, hm, hn, hp, hrel, State.notReleasing])]

theorem runFloodTimeSend_passes {n : Nat} (hl : c.slots 0 = true) (hn : s.freeStream = some n) (hlen : s.fl.streams.length < 64)
    (hk : s.slotSet 0 16 = true) :
    runFloodTimeSend c s = ({ status := .deferred, slots := [n] }, s.openStream
      { number := n, kind := 0, tenant := 0, keySlot := 16, target := 0xFFFFFFFFFFFFFFFF, lastBlock := 0, segBytes := 1, priority := 0,
        rounds := 1, st := .started }) := by
  have hfind : (List.range 32).find? (fun b => s.slotSet 0 (16 + b)) = some 0 := by
    rw [List.range_succ_eq_map]
    exact List.find?_cons_of_pos hk
  rw [runFloodTimeSend, gated_pass _ _ _ (by simp [ho, hl, hn, hlen]), hfind, hn]
  rfl

end

theorem runTariffPlanFlood_passes {s : State} {c : Caller} {plan version stream keySlot target rounds : Nat} {v : PlanVersion} {x : Stream}
    (hl : c.slots 6 = true) (ho : c.isOwner (s.recTenant Rec.TariffPlan.Active.rid plan) = true) (hp : plan < 256) (hver : version < 4)
    (hr : s.isReleasing (s.recTenant Rec.TariffPlan.Active.rid plan) = false) (hv : (s.planVersions plan)[version]? = some v)
    (hx : x = s.contentStream stream 1 (s.recTenant Rec.TariffPlan.Active.rid plan) keySlot target rounds
      (le 1 plan ++ le 7 0 ++ (le 992 v.body ++ le 32 v.tz)))
    (hk : ((s.openChecks x).all fun k => k.1) = true) :
    runTariffPlanFlood plan version stream keySlot target rounds c s = ({ status := .deferred }, s.openStream x) := by
  have hopen : ∀ k ∈ s.openChecks x, k.1 = true := List.all_eq_true.1 hk
  have hchecks : ∀ k ∈ [(c.isOwner (s.recTenant Rec.TariffPlan.Active.rid plan), Status.refusedRole), (c.slots 6, .badLength),
      (decide (plan < 256 ∧ version < 4), .badArgument)] ++ [s.notReleasing (s.recTenant Rec.TariffPlan.Active.rid plan)] ++
      (s.openChecks x).take 1 ++ [(true, .noPlan)] ++ (s.openChecks x).drop 1, k.1 = true := by
    intro k hmem
    simp only [List.mem_append, List.mem_cons, List.not_mem_nil, or_false] at hmem
    rcases hmem with ((((rfl | rfl | rfl) | rfl) | h) | rfl) | h
    · exact ho
    · exact hl
    · simp [hp, hver]
    · simp [State.notReleasing, hr]
    · exact hopen k (List.mem_of_mem_take h)
    · rfl
    · exact hopen k (List.mem_of_mem_drop h)
  rw [runTariffPlanFlood]
  simp only [hv, Option.isSome_some, ← hx]
  rw [gated_pass _ _ _ hchecks]

/-! ### The line's tributaries -/

section
variable {s : State} {c : Caller} {trib : Nat} (ho : c.isOperator = true) (hl : c.slots 1 = true) (hh : s.lineHere = true)
  (ht : trib < s.tributaries) (hf : (s.unit (.lingTx trib)).fenced = false)
include ho hl hh ht hf

theorem runLingTxEnable_off (hx : s.unitSt (.lingTx trib) = .off) :
    runLingTxEnable trib c s = ({ status := .done },
      (s.setUnit (.lingTx trib) { s.unit (.lingTx trib) with st := .starting, deferred := false }).setLingTrib trib
        { s.lingTrib trib with reason := 0 }) := by
  rw [runLingTxEnable, gated_pass _ _ _ (by simp [ho, hl, hh, ht, isTributary_of_lt ht])]
  dsimp only [State.lingEnable]
  rw [enableUnit_off hf hx, if_pos ⟨hx, rfl⟩]
  rfl

theorem runLingTxDisable_on (hx : s.unitSt (.lingTx trib) = .on) (hn : (s.lingTrib trib).out = none) :
    runLingTxDisable trib c s =
      ({ status := .done }, s.setUnit (.lingTx trib) { s.unit (.lingTx trib) with st := .stopping false, stopAt := s.time.ms }) := by
  have habort : s.lingAbort trib .tributary = s := by simp only [State.lingAbort, hn]
  rw [runLingTxDisable, gated_pass _ _ _ (by simp [ho, hl, hh, ht, isTributary_of_lt ht])]
  simp only [habort, disableUnit_on s.time.ms hf hx]

end

theorem runLingPollNow_none {s : State} {c : Caller} {slot request priority : Nat} (ho : c.isOperator = true) (hl : c.slots 3 = true)
    (hq : request ≤ 0x1F) (hp : priority ≤ 3) (hline : s.lineHere = true) (hh : s.meterHere slot = true)
    (hr : s.isReleasing (s.meterTenant slot) = false) (hn : s.lingMeter slot = true) (hpoll : (s.plan slot).poll = none) :
    runLingPollNow slot request priority c s = ({ status := .deferred },
      ((s.setPlan slot { s.plan slot with poll := some { due := s.legalS, request := request, priority := priority, commanded := true } }).journalPlan
        slot [0, s.legalS]).carry (.meter slot)) := by
  rw [runLingPollNow, gated_pass _ _ _ (by simp [ho, hl, hq, hp, hline, hh, isMeterSlot_of_meterHere hh, hn, hr, State.notReleasing])]
  simp only [hpoll]

@[simp] theorem State.lingTrib_respond (s : State) (n : Nat) (r : Request) (y : Reply) (t : Nat) :
    (s.respond n r y).lingTrib t = s.lingTrib t := rfl

@[simp] theorem State.unitSt_setLingTrib (s : State) (t : Nat) (x : LingTrib) (u : UnitId) : (s.setLingTrib t x).unitSt u = s.unitSt u := rfl

end Machine

/-- Settles O53, row by row. -/
theorem lingFloodCommandsComplete : Obligations.LingFloodCommandsComplete := by
  refine ⟨?opens, ?write, ?starts, ?close, ?setup, ?time, ?plan, ?enable, ?disable, ?poll⟩
  case opens =>
    intro s ch r c stream kind keySlot target lastBlock segBytes priority rounds x h ho hl hx hk
    refine exec_run_asked rfl h ?_
    rw [← hx]
    exact runFloodStreamOpen_passes ho hl hk
  case write =>
    intro s ch r c stream block bytes x h ho hb hx hst hk hlt h1 hlen
    exact exec_run_asked rfl h (runFloodBlockWrite_passes ho hb hx hst hk hlt h1 hlen)
  case starts =>
    intro s ch r c stream x h ho hl hs hx hst hf
    exact exec_run_asked rfl h (runFloodStreamStart_passes ho hl hs hx hst hf)
  case close =>
    intro s ch r c stream h ho hl hx hq
    exact exec_run_asked rfl h (runFloodStreamClose_idle ho hl hx hq)
  case setup =>
    intro s ch r c slot role hop h ho hl hr hh hm hn hp hrel
    exact exec_run_asked rfl h (runFloodMeterSetup_passes ho hl hr hh hm hn hp hrel)
  case time =>
    intro s ch r c n h ho hl hn hlen hk
    exact exec_run_asked rfl h (runFloodTimeSend_passes ho hl hn hlen hk)
  case plan =>
    intro s ch r c plan version stream keySlot target rounds v x h hl ho hp hver hr hv hx hk
    exact exec_run_asked rfl h (runTariffPlanFlood_passes hl ho hp hver hr hv hx hk)
  case enable =>
    intro s ch r c trib h ho hl hh ht hf hx
    refine ⟨_, exec_run_asked rfl h (runLingTxEnable_off ho hl hh ht hf hx), by simp, by simp, State.answered_respond _ _ _ _, ?_⟩
    exact .trans (.mono (.setUnit s _ _) (by simp)) (.trans (.mono (.setLingTrib _ _ _) (by simp)) (.mono (.respond _ _ _ _) (by simp)))
  case disable =>
    intro s ch r c trib h ho hl hh ht hf hx hn
    refine ⟨_, exec_run_asked rfl h (runLingTxDisable_on ho hl hh ht hf hx hn), by simp, by simp, State.answered_respond _ _ _ _, ?_⟩
    exact .trans (.mono (.setUnit s _ _) (by simp)) (.mono (.respond _ _ _ _) (by simp))
  case poll =>
    intro s ch r c slot request priority h ho hl hq hp hline hh hr hn hpoll
    exact exec_run_asked rfl h (runLingPollNow_none ho hl hq hp hline hh hr hn hpoll)

end Sys2Proof
end

section
/-! The pair and port commands (O55). -/

namespace Sys2Proof

open Machine

namespace Machine

/-! ### The pair and port commands -/

section
variable {s : State} {c : Caller}

theorem runPairSwitchover_passes (ho : c.isOperator = true) (hl : c.slots 0 = true) (hst : s.pair.st = .activePaired)
    (h0 : s.pair.handoverStep = 0) (hr : s.readyPartner = true) : runPairSwitchover c s = ({ status := .deferred }, s.startHandover) := by
  rw [runPairSwitchover, gated_pass _ _ _ (by simp [ho, hl, hst, h0, hr])]

theorem runForceClaim_passes (hs : c.isService = true) (hl : c.slots 0 = true) (hst : s.pair.st = .notReady ∨ s.pair.st = .syncing)
    (hb : s.heartbeatLive = false) (hp : s.partnerSeen = none) :
    runForceClaim c s = ({ status := .deferred }, { s with pair := { s.pair with claimDue := some 3, claimMs := s.time.ms } }) := by
  rw [runForceClaim, gated_pass _ _ _ (by simp [hs, hl, hst, hb, hp])]

theorem runOrphansClear_passes {upTo : Nat} (ho : c.isOperator = true) (hl : c.slots 1 = true) (hu : upTo < s.pair.nextOrphan) :
    runOrphansClear upTo c s = ({ status := .done, slots := [s.pair.orphans.length -
        (s.pair.orphans.filter fun (o : Orphan) => decide (upTo < o.number)).length] },
      { s with pair := { s.pair with orphans := s.pair.orphans.filter fun (o : Orphan) => decide (upTo < o.number) } }) := by
  rw [runOrphansClear, gated_pass _ _ _ (by simp [ho, hl, hu])]

theorem runSessionReset_passes {session : Nat} (hl : c.slots 1 = true) (hn : session < 32) (ho : c.isOwner (s.heTenant session) = true)
    (hr : s.isReleasing (s.heTenant session) = false) (he : s.rdB Rec.HeadEnd.Enabled session = true) :
    runSessionReset session c s = ({ status := .done }, s.closeHead session .reset) := by
  rw [runSessionReset, gated_pass _ _ _ (by simp [State.heOwnChecks, hl, hn, ho, hr, State.notReleasing]), if_pos he]

theorem runExportRewind_passes {session position index : Nat} (hl : c.slots 3 = true) (hn : session < 32)
    (ho : c.isOwner (s.heTenant session) = true) (hr : s.isReleasing (s.heTenant session) = false)
    (ht : idLe (position, index) (s.headEnd session).top = true) (hp : idLe s.ports.pruned (position, index) = true) :
    runExportRewind session position index c s = ({ status := .done },
      (s.setHeadEnd session { s.headEnd session with cursor := (position, index), sent := (position, index) }).releaseSession session) := by
  rw [runExportRewind, gated_pass _ _ _ (by simp [State.heOwnChecks, hl, hn, ho, hr, ht, hp, State.notReleasing])]

end

@[simp] theorem State.headEnd_respond (s : State) (n : Nat) (r : Request) (y : Reply) (i : Nat) :
    (s.respond n r y).headEnd i = s.headEnd i := rfl

end Machine

/-- Settles O55, row by row. -/
theorem pairPortCommandsComplete : Obligations.PairPortCommandsComplete := by
  refine ⟨?switchover, ?claim, ?orphans, ?reset, ?rewind⟩
  case switchover =>
    intro s ch r c h ho hl hst h0 hr
    exact exec_run_asked rfl h (runPairSwitchover_passes ho hl hst h0 hr)
  case claim =>
    intro s ch r c h hs hl hst hb hp
    exact exec_run_asked rfl h (runForceClaim_passes hs hl hst hb hp)
  case orphans =>
    intro s ch r c upTo h ho hl hu
    exact exec_run_asked rfl h (runOrphansClear_passes ho hl hu)
  case reset =>
    intro s ch r c session h hl hn ho hr he
    refine ⟨_, exec_run_asked rfl h (runSessionReset_passes hl hn ho hr he), ?_, ?_, ?_, State.answered_respond _ _ _ _, ?_⟩
    · rw [State.headEnd_respond, State.closeHead_headEnd]
    · rw [State.headEnd_respond, State.closeHead_headEnd]
    · rw [State.headEnd_respond, State.closeHead_headEnd]
    · rw [State.records_of_frame (Claims.Frame.respond _ _ _ _) (by simp), State.records_of_frame (Claims.Frame.closeHead s _ _) (by simp)]
  case rewind =>
    intro s ch r c session position index h hl hn ho hr ht hp hx hb
    refine ⟨_, exec_run_asked rfl h (runExportRewind_passes hl hn ho hr ht hp), ?_, State.answered_respond _ _ _ _, ?_⟩
    · rcases State.releaseSession_none (s.setHeadEnd session { s.headEnd session with cursor := (position, index), sent := (position, index) })
        session (by simpa using hx) with he | he <;> rw [he]
      · simp
      · simp [hb]
    · rcases State.releaseSession_none (s.setHeadEnd session { s.headEnd session with cursor := (position, index), sent := (position, index) })
        session (by simpa using hx) with he | he <;> rw [he]
      · exact .trans (.mono (.setHeadEnd s _ _) (by simp)) (.mono (.respond _ _ _ _) (by simp))
      · exact .trans (.mono (.setHeadEnd s _ _) (by simp)) (.trans (.mono (.setHeadEnd _ _ _) (by simp)) (.mono (.respond _ _ _ _) (by simp)))

end Sys2Proof
end

section
/-! The unit, power and vault reset commands (O56). -/

namespace Sys2Proof

open Machine

theorem Claims.Frame.vaultMail (s : State) (x : Vault) (y : Mail) : Claims.Frame [.vault, .mail] s { s with vault := x, mail := y } := by
  intro p _ hl
  cases p <;> simp_all [Claims.Part.same]

namespace Machine

/-! ### The unit and region commands (R13, R21) -/

section
variable {s : State} {c : Caller} (hs : c.isService = true) (hl : c.slots 1 = true)
include hs hl

theorem runUnitFence_passes {unit : Nat} (ha : isUnitAddr unit = true) (hh : s.unitHere unit = true) (hk : s.lastOfKind unit = false) :
    runUnitFence unit c s = ({ status := .done }, s.fenceUnit unit 2) := by
  rw [runUnitFence, gated_pass _ _ _ (by simp [hs, hl, ha, hh, hk])]

theorem runUnitUnfence_passes {unit pass : Nat} (ha : isUnitAddr unit = true) (hh : s.unitHere unit = true)
    (hf : s.addrFenced unit = true) :
    runUnitUnfence unit pass c s =
      if pass = 0 then ({ status := .integrity, slots := [0] }, s) else ({ status := .done, slots := [1] }, s.unfence unit) := by
  rw [runUnitUnfence, gated_pass _ _ _ (by simp [hs, hl, ha, hh, hf])]

theorem runRegionRestart_passes {region : Nat} (hh : s.regionHere region = true) (hr : region < 7) :
    runRegionRestart region c s = (let x := Map.getD s.arch.regions region {}
      match x.st with
      | .restarting => ({ status := .deferred }, s)
      | .failed =>
        let s := { s with arch := { s.arch with regions := Map.put s.arch.regions region { x with window := [] } } }
        ({ status := .deferred }, s.startRestart region false)
      | .on => ({ status := .deferred }, s.startRestart region false)) := by
  have h11 : region < 11 := by omega
  have h10 : region ≠ 10 := by omega
  have h7 : ¬ 7 ≤ region := by omega
  rw [runRegionRestart, gated_pass _ _ _ (by simp [hs, hl, hh, h11, h10, h7])] <;> rfl

end

/-- A cell outside the head regions comes back alone: it moves no channel. -/
theorem State.unfence_cell {s : State} {unit : Nat} (hc : addrCell unit ≠ 0x3F) (hr : 4 ≤ addrRegion unit) (hu : s.arch.units = []) :
    ∃ x : Arch, s.unfence unit = { s with arch := x } ∧ Map.getD x.cells unit {} = { s.cell unit with fenced := false, misses := [], slowEntries := [] } := by
  unfold State.unfence
  dsimp only
  rw [if_neg hc, if_neg (by omega), hu]
  exact ⟨_, rfl, Map.getD_put_self _ _ _ _⟩

/-! ### The save and the reset (R641, R660) -/

theorem State.cancelUnlocked_idle (s : State) (h : s.air.queue = []) : s.cancelUnlocked = s := by
  rw [State.cancelUnlocked, h]
  rfl

theorem State.pulsesInactive_idle (s : State) (h : s.met.pulses = []) : s.pulsesInactive = s := by
  unfold State.pulsesInactive
  have hstep : ∀ (l : List Nat), l.foldl (fun s o =>
      let p := s.pulse o
      if p.batch = 0 then s else (s.setPulse o { p with batch := 0 }).count { name := .metroPulses, a := o } p.batch) s = s := by
    intro l
    induction l with
    | nil => rfl
    | cons o l ih =>
      have hp : (s.pulse o).batch = 0 := by simp [State.pulse, h, Map.getD, Map.get?]
      rw [List.foldl_cons]
      dsimp only
      rw [if_pos hp]
      exact ih
  exact hstep _

/-- The state as the save finds it: what waits in the journal is to be saved. -/
def State.saving (s : State) : State :=
  let first := ((s.store.journal.find? fun (e : JEntry) => !e.copied).map JEntry.position).getD s.store.nextPos
  { s with pow := { s.pow with
    warn := .saving, saveStartMs := s.time.ms, saveFirst := first, saveLast := s.newestPos, savedFailure := true } }

theorem State.startSave_eq (s : State) : s.startSave = s.saving.cancelUnlocked.pulsesInactive := rfl

/-- A save that no launch or pulse holds up touches the power state alone. -/
theorem State.startSave_idle {s : State} (hq : s.air.queue = []) (hp : s.met.pulses = []) : s.startSave = s.saving := by
  rw [State.startSave_eq, State.cancelUnlocked_idle s.saving hq, State.pulsesInactive_idle s.saving hp]

/-- The reset is noted; the first cause stands. -/
def State.resetOrdered (s : State) (cause : ResetCause) : State :=
  { s with pow := { s.pow with resetAfterSave := some (s.pow.resetAfterSave.getD cause.code) } }

theorem State.orderReset_eq (s : State) (cause : ResetCause) : s.orderReset cause =
    match s.pow.warn with
    | .armed | .disarmed => (s.resetOrdered cause).startSave
    | _ => s.resetOrdered cause := rfl

/-- A reset ordered of a chip that waits for one begins its save. -/
theorem State.orderReset_disarmed {s : State} (cause : ResetCause) (hw : s.pow.warn = .disarmed) (hq : s.air.queue = [])
    (hp : s.met.pulses = []) : s.orderReset cause = (s.resetOrdered cause).saving := by
  rw [State.orderReset_eq, hw]
  exact State.startSave_idle (s := s.resetOrdered cause) hq hp

theorem State.orderReset_idle {s : State} (cause : ResetCause) (hw : s.pow.warn = .idle) : s.orderReset cause = s.resetOrdered cause := by
  rw [State.orderReset_eq, hw]

theorem State.mail_raise (s : State) (e : Ev) (t : Nat) (p : List Nat) (o : Bool) : (s.raise e t p o).mail = s.mail := by simp

theorem State.vault_raise (s : State) (e : Ev) (t : Nat) (p : List Nat) (o : Bool) : (s.raise e t p o).vault = s.vault := by simp

theorem State.pow_raise (s : State) (e : Ev) (t : Nat) (p : List Nat) (o : Bool) : (s.raise e t p o).pow = s.pow := by simp

/-! ### What going to sleep leaves: the records and the clock -/

/-- The records and the time since the start. -/
def State.recordsAt (s : State) : Map (Nat × Nat) RecInst × Nat := (s.records, s.time.ms)

@[simp] theorem State.recordsAt_count (s : State) (c : Ctr) (n : Nat) : (s.count c n).recordsAt = s.recordsAt := rfl

theorem State.recordsAt_ev (s : State) (x : Events) : ({ s with ev := x } : State).recordsAt = s.recordsAt := rfl

theorem State.recordsAt_issued (s : State) (st : Nat) : (s.issued st).recordsAt = s.recordsAt := rfl

@[simp] theorem State.recordsAt_raise (s : State) (e : Ev) (t : Nat) (p : List Nat) (o : Bool) : (s.raise e t p o).recordsAt = s.recordsAt := by
  rcases s.raise_eq e t p o with h | h | ⟨-, h⟩
  · rw [h]
  · rw [h, State.recordsAt_ev, State.recordsAt_issued]
  · rw [h, State.recordsAt_ev, State.recordsAt_count]

@[simp] theorem State.recordsAt_restartChannel (s : State) (i : Nat) : (s.restartChannel i).recordsAt = s.recordsAt := rfl

@[simp] theorem State.recordsAt_setChanFilt (s : State) (i : Nat) (x : ChanFilt) : (s.setChanFilt i x).recordsAt = s.recordsAt := rfl

theorem State.recordsAt_replaceOne (good slow : List Nat) (cause : Nat) (acc : State × Occupancy) (i : Nat) :
    (State.replaceOne good slow cause acc i).1.recordsAt = acc.1.recordsAt := by
  unfold State.replaceOne
  dsimp only
  split
  · dsimp only
    split <;> split <;> simp
  · dsimp only
    split <;> simp

theorem State.recordsAt_replaceQuadrant (s : State) (q cause : Nat) : (s.replaceQuadrant q cause).recordsAt = s.recordsAt := by
  unfold State.replaceQuadrant
  dsimp only
  refine (foldl_keeps (fun x : State × Occupancy => x.1.recordsAt) _ (fun x i => State.recordsAt_replaceOne _ _ _ x i) _ _).trans ?_
  refine foldl_keeps State.recordsAt _ (fun s e => ?_) _ s
  split
  · split <;> simp
  · split <;> simp

theorem State.recordsAt_laneOut (s : State) (n : Nat) : (s.laneOut n).recordsAt = s.recordsAt := by
  unfold State.laneOut State.lineRelease
  dsimp only
  split
  · rw [State.recordsAt_replaceQuadrant]
    rfl
  · rfl

@[simp] theorem State.recordsAt_sendPartner (s : State) (p type : Nat) (words : List Nat) (data : List Byte) :
    (s.sendPartner p type words data).recordsAt = s.recordsAt := by
  simp [State.recordsAt]

/-- The lanes that are not off go out of use. -/
def State.lanesOut (s : State) : State :=
  (List.range 64).foldl (fun s n => if s.laneSt n = .off then s else (s.laneOut n).raise .laneStopped 0 [n]) s

theorem State.recordsAt_lanesOut (s : State) : s.lanesOut.recordsAt = s.recordsAt := by
  unfold State.lanesOut
  refine foldl_keeps State.recordsAt _ (fun s n => ?_) _ s
  split
  · rfl
  · rw [State.recordsAt_raise, State.recordsAt_laneOut]

/-- Where the pair does not serve, a sweep commits nothing. -/
theorem State.commitSweep_idle {s : State} (h : s.pair.st = .syncing ∨ s.pair.st = .notReady ∨ s.pair.st = .ready) : s.commitSweep = s := by
  unfold State.commitSweep
  rcases h with h | h | h <;> rw [h]

/-- A standby that goes to sleep takes its lanes out and turns the host's window and its ports off. -/
theorem runPowerSleep_passes {s : State} {c : Caller} (hs : c.isService = true) (hl : c.slots 0 = true) (hv : s.serving = false)
    (hst : s.pair.st = .syncing ∨ s.pair.st = .notReady ∨ s.pair.st = .ready) :
    ∃ u : State, u.recordsAt = s.recordsAt ∧ runPowerSleep c s = ({ status := .deferred }, ((({ u with
      mail := { u.mail with mailboxReady := false, serviceReady := false }
      arch := { u.arch with units := [] }
      ports := { u.ports with backhaulUp := [], partner0 := { u.ports.partner0 with link := false },
                              partner1 := { u.ports.partner1 with link := false } }
      pow := { u.pow with sleepMs := u.time.ms, sleepWakeS := u.rd Rec.PowerPolicy.SleepWakeS } } : State).nextStage 0x0C).count
        { name := .sleeps }).raise .powerSleep 0 []) := by
  rw [runPowerSleep, gated_pass _ _ _ (by rcases hst with h | h | h <;> simp [hs, hl, hv, h])]
  obtain ⟨v, hv, hrec, hpair⟩ : ∃ v : State, (if s.pair.st = .ready then s.sendPartner 0 8 [] else s) = v ∧ v.recordsAt = s.recordsAt ∧
      v.pair.st = s.pair.st := by
    refine ⟨_, rfl, ?_⟩
    split <;> simp
  refine ⟨State.lanesOut (State.commitSweep (State.eraseSlots { v with store := { v.store with
    journal := v.store.journal.map fun (e : JEntry) => { e with copied := true } } })), ?_, by rw [hv, State.lanesOut]⟩
  rw [State.recordsAt_lanesOut, State.commitSweep_idle (by rw [← hpair] at hst; exact hst), ← hrec]
  rfl

/-! ### The power and vault commands -/

theorem runPowerReboot_passes {s : State} {c : Caller} {force : Nat} (hs : c.isService = true) (hl : c.slots 1 = true) (hf : force ≤ 1)
    (hv : s.serving = false ∨ force = 1) :
    runPowerReboot force c s = ({ status := .deferred },
      if s.serving && s.readyPartner then s.yieldService else (if s.serving then s.dropServing else s).orderReset .reboot) := by
  rw [runPowerReboot, gated_pass _ _ _ (by simp [hs, hl, hf, hv])]

theorem runDebugClose_passes {s : State} {c : Caller} {serial : Nat} (ho : c.isOfficer = true) (hl : c.slots 1 = true)
    (hn : serial = s.mail.serial) (hd : s.arch.debugClosed = false) :
    runDebugClose serial c s = ({ status := .done }, { s with pow := { s.pow with closeFlag := true } }) := by
  rw [runDebugClose, gated_pass _ _ _ (by simp [ho, hl, hn, hd])]

/-- The vault and the credentials are empty before the reset is ordered. -/
def State.vaultEmptied (s : State) : State := { s with
  vault := { s.vault with
    banks := [], entries := [], copies := [], live := [], shadow := [], erasing := [], counters := [], exhausted := [], bcCtr := [] }
  mail := { s.mail with creds := [], credGens := [], firstSoSet := false } }

theorem runVaultReset_passes {s : State} {c : Caller} (hl : c.slots 0 = true) (ht : s.tunnelled c.ch = false)
    (hm : s.vault.tamperLatched = true) (ho : s.vault.loopsOpen = 3) (hs : s.anySealed = false) :
    runVaultReset c s = ({ status := .done }, (s.vaultEmptied.raise .vaultReset 0 [] true).orderReset .vaultReset) := by
  rw [runVaultReset, gated_pass _ _ _ (by simp [hl, ht, hm, ho, hs])]
  rfl

end Machine

theorem Claims.Frame.resetOrdered (s : State) (cause : ResetCause) : Claims.Frame [.pow] s (s.resetOrdered cause) := Claims.Frame.pow s _

theorem Claims.Frame.saving (s : State) : Claims.Frame [.pow] s s.saving := Claims.Frame.pow s _

/-- Settles O56, row by row. -/
theorem unitPowerCommandsComplete : Obligations.UnitPowerCommandsComplete := by
  refine ⟨?fence, ?integrity, ?unfence, ?restarting, ?restart, ?sleep, ?reboot, ?debug, ?vault, ?yields, ?drops⟩
  case fence =>
    intro s ch r c unit h hs hl ha hh hk
    exact exec_run_asked rfl h (runUnitFence_passes hs hl ha hh hk)
  case integrity =>
    intro s ch r c unit h hs hl ha hh hf
    exact exec_run_asked rfl h (runUnitUnfence_passes hs hl ha hh hf)
  case unfence =>
    intro s ch r c unit h hs hl ha hh hc hr hf hu
    obtain ⟨x, hx, hcell⟩ := State.unfence_cell hc hr hu
    have hrun := runUnitUnfence_passes (pass := 1) hs hl ha hh (by simp [State.addrFenced, hc, hf])
    rw [if_neg (by decide), hx] at hrun
    refine ⟨_, exec_run_asked rfl h hrun, hcell, State.answered_respond _ _ _ _, ?_⟩
    exact .trans (.mono (.arch s _) (by simp)) (.mono (.respond _ _ _ _) (by simp))
  case restarting =>
    intro s ch r c region h hs hl hh hr hx
    refine exec_run_asked rfl h ((runRegionRestart_passes hs hl hh hr).trans ?_)
    simp only [hx]
  case restart =>
    intro s ch r c region h hs hl hh hr hx
    refine exec_run_asked rfl h ((runRegionRestart_passes hs hl hh hr).trans ?_)
    simp only [hx]
  case sleep =>
    intro s ch r c h hs hl hv hst
    obtain ⟨u, hu, hrun⟩ := runPowerSleep_passes hs hl hv hst
    obtain ⟨hrec, hms⟩ := Prod.mk.inj hu
    refine ⟨_, exec_run_asked rfl h hrun, ?_, ?_, ?_, ?_, ?_, ?_, State.answered_respond _ _ _ _⟩
    · simp [State.nextStage]
    · exact congrArg Mail.mailboxReady (State.mail_raise _ _ _ _ _)
    · exact congrArg Mail.serviceReady (State.mail_raise _ _ _ _ _)
    · simp [State.nextStage]
    · simp [State.nextStage, hms]
    · simp [State.nextStage, hrec]
  case reboot =>
    intro s ch r c force h hs hl hf hv hreset hw hq hp
    have hrun := runPowerReboot_passes hs hl hf (.inl hv)
    rw [hv, if_neg (by simp), if_neg (by simp), State.orderReset_disarmed .reboot hw hq hp] at hrun
    refine ⟨_, exec_run_asked rfl h hrun, ?_, rfl, State.answered_respond _ _ _ _, ?_⟩
    · show some (s.pow.resetAfterSave.getD _) = _
      rw [hreset]
      rfl
    · exact .trans (.mono (.resetOrdered s _) (by simp)) (.trans (.mono (.saving _) (by simp)) (.mono (.respond _ _ _ _) (by simp)))
  case debug =>
    intro s ch r c serial h ho hl hn hd
    exact exec_run_asked rfl h (runDebugClose_passes ho hl hn hd)
  case vault =>
    intro s ch r c h hl ht hm ho hs hreset hw hroom
    have hrun := runVaultReset_passes hl ht hm ho hs
    obtain ⟨hraised, -, hframe⟩ := State.raise_after_for (s := s) (l := [.vault, .mail, .ev, .time, .ctrs]) (u := s.vaultEmptied)
      .vaultReset 0 [] true (by decide) rfl hroom (.mono (.vaultMail s _ _) (by simp)) (by simp)
    rw [State.orderReset_idle _ (by rw [State.pow_raise]; exact hw)] at hrun
    have hvault := State.vault_raise s.vaultEmptied .vaultReset 0 [] true
    have hmail := State.mail_raise s.vaultEmptied .vaultReset 0 [] true
    have hpow := State.pow_raise s.vaultEmptied .vaultReset 0 [] true
    refine ⟨_, exec_run_asked rfl h hrun, congrArg Vault.copies hvault, congrArg Vault.banks hvault, congrArg Vault.counters hvault,
      congrArg Vault.live hvault, congrArg Mail.creds hmail, congrArg Mail.firstSoSet hmail, ?_, hraised, State.answered_respond _ _ _ _, ?_⟩
    · show some ((State.pow _).resetAfterSave.getD _) = _
      rw [hpow]
      show some (s.pow.resetAfterSave.getD _) = _
      rw [hreset]
      rfl
    · exact .trans (.mono hframe (by simp)) (.trans (.mono (.resetOrdered _ _) (by simp)) (.mono (.respond _ _ _ _) (by simp)))
  case yields =>
    intro s ch r c h hs hl hv hp
    refine exec_run_asked rfl h ((runPowerReboot_passes hs hl (le_refl 1) (.inr rfl)).trans ?_)
    rw [if_pos (by simp [hv, hp])]
  case drops =>
    intro s ch r c h hs hl hv hp
    refine exec_run_asked rfl h ((runPowerReboot_passes hs hl (le_refl 1) (.inr rfl)).trans ?_)
    rw [if_neg (by simp [hp]), if_pos hv]

end Sys2Proof
end

section
/-! The ledger, token, balance and pulse commands (O57). -/

namespace Sys2Proof

open Machine

namespace Machine

/-- Where a commit command's run is known its effect stands, whether the answer comes now or waits for the commit. -/
theorem exec_commit_asked {i : Instr} {ch : Nat} {k : Cmd} {run : Caller → State → Reply × State} (hi : Claims.commitOf i = some (ch, k, run))
    {s u : State} {r : Request} {c : Caller} {y : Reply} (h : Claims.Asked s ch k r c) (hw : (s.chan ch).await = none)
    (hr : run c s = (y, u)) : ∃ m : Mail, exec i s = .next { u with mail := m } := by
  rw [exec_of_commitOf hi, State.commitCommand_asked h hw]
  dsimp only
  rw [hr]
  split
  · exact ⟨_, rfl⟩
  · exact ⟨_, rfl⟩

/-! ### What a meter's record reads -/

theorem State.meter_of_led {s t : State} (h : t.led = s.led) (slot : Nat) : t.meter slot = s.meter slot := by
  rw [State.meter, State.meter, h]

@[simp] theorem State.meter_carry (s : State) (k : Kept) (slot : Nat) : (s.carry k).meter slot = s.meter slot :=
  State.meter_of_led (by simp) slot

@[simp] theorem State.meter_raise (s : State) (e : Ev) (t : Nat) (p : List Nat) (o : Bool) (slot : Nat) :
    (s.raise e t p o).meter slot = s.meter slot := State.meter_of_led (by simp) slot

@[simp] theorem State.meter_count (s : State) (c : Ctr) (n slot : Nat) : (s.count c n).meter slot = s.meter slot :=
  State.meter_of_led (by simp) slot

/-- A committed record reads so, but for the number of its journal entry. -/
theorem State.meter_commitMeter (s : State) (slot : Nat) (r : MeterRec) :
    (s.commitMeter slot r).meter slot = { r with journalSeq := (r.journalSeq + 1) % 2 ^ 48 } := by
  rw [State.commitMeter]
  dsimp only
  rw [State.meter_of_led (s := { s with led := { s.led with meters := Map.put s.led.meters slot { r with journalSeq := (r.journalSeq + 1) % 2 ^ 48 } } })
    (by simp)]
  exact Map.getD_put_self _ _ _ _

theorem State.commitMeter_keeps (s : State) (slot : Nat) (r : MeterRec) :
    (s.commitMeter slot r).records = s.records ∧ (s.commitMeter slot r).pre = s.pre := by
  simp [State.commitMeter]

/-! ### The balance, pulse and ledger commands -/

theorem isZone_of_lt {s : State} {z : Nat} (h : z < s.zones) : isZone z = true := by
  have hle : s.zones ≤ 4096 := by
    unfold State.zones
    split <;> simp
  simpa [isZone] using h.trans_le hle

theorem runBalFit_fits {s : State} {c : Caller} {zone first count : Nat} (hl : c.slots 3 = true)
    (ho : c.isOwner (s.zoneTenant zone) = true) (hn : count ≤ 2880) (hh : s.lineHere = true) (hz : zone < s.zones)
    (hr : s.isReleasing (s.zoneTenant zone) = false) (ha : s.rdB Rec.Zone.Active zone = true) (h24 : 24 ≤ (s.fitSet zone first count).length)
    (hd : (fitPoints ((s.fitSet zone first count).map fun e =>
      [1, ((e.2.iavg.map fun i => i * i).sum : Nat), (e.2.inavg * e.2.inavg : Nat), e.1.feeder - e.1.milli])).1 ≠ 0) :
    ∃ slots, runBalFit zone first count c s = ({ status := .done, slots := slots }, s) := by
  rw [runBalFit, gated_pass _ _ _ (by simp [State.zoneChecks, State.notReleasing, hl, ho, hn, hh, hz, hr, ha, h24, isZone_of_lt hz])]
  dsimp only
  rw [if_neg hd]
  exact ⟨_, rfl⟩

section
variable {s : State} {c : Caller} {slot : Nat} (ho : c.isOwner (s.meterTenant slot) = true) (hh : s.meterHere slot = true)
  (hr : s.isReleasing (s.meterTenant slot) = false)
include ho hh hr

theorem runBalPhaseReset_passes (hl : c.slots 1 = true) (hline : s.lineHere = true) :
    runBalPhaseReset slot c s = ({ status := .done },
      ((s.setBalMeter slot { s.balMeter slot with votes := [], learned := none }).journal .balance (s.meterTenant slot) slot (.words [3, slot])).carry
        (.meter slot)) := by
  rw [runBalPhaseReset, gated_pass _ _ _ (by simp [State.notReleasing, ho, hh, hr, hl, hline, isMeterSlot_of_meterHere hh])]
  rfl

theorem runTokenVoid_open {seq : Nat} {x : TokenEntry} (hl : c.slots 2 = true) (hready : s.led.ready = true)
    (hx : s.token slot seq = some x) (hst : x.st ≤ 1) (hlock : x.locked = false) :
    runTokenVoid slot seq c s = ({ status := .done },
      ((s.mapTokens slot fun u => if u.seq = seq ∧ tokenOpen u.st then { u with st := 4 } else u).journal .token x.tenant slot
        (.words [slot, seq, 4])).carry (.meter slot)) := by
  rw [runTokenVoid, gated_pass _ _ _ (by
    simp [State.meterOwnChecks, State.notReleasing, ho, hh, hr, hl, hready, hx, isMeterSlot_of_meterHere hh])]
  simp only [hx]
  rw [if_pos ⟨by simpa [tokenOpen] using hst, by simp [hlock]⟩]

/-- How the disputed registers named are resolved. -/
def MeterRec.resolved (r : MeterRec) (rs mask choice : Nat) : MeterRec :=
  ((maskBits 8 mask).map (8 * rs + ·)).foldl (fun (r : MeterRec) i => { r with
    resolveMain := setBits r.resolveMain i 1 (bit (decide (choice = 0))),
    resolveFb := setBits r.resolveFb i 1 (bit (decide (choice = 1))) }) r

theorem runDisputeResolve_passes {rs mask choice : Nat} (hl : c.slots 4 = true) (hrs : rs ≤ 1) (hm : mask < 256) (hc : choice ≤ 2)
    (hne : (maskBits 8 mask).isEmpty = false)
    (hall : ((maskBits 8 mask).all fun i => bitOn (s.meter slot).disputeMask (8 * rs + i)) = true) :
    runDisputeResolve slot rs mask choice c s = ({ status := .deferred }, s.commitMeter slot ((s.meter slot).resolved rs mask choice)) := by
  have hbits : (!((maskBits 8 mask).map (8 * rs + ·)).isEmpty && ((maskBits 8 mask).map (8 * rs + ·)).all (bitOn (s.meter slot).disputeMask)) = true := by
    rw [List.all_map, Bool.and_eq_true]
    exact ⟨by simpa using hne, hall⟩
  rw [runDisputeResolve]
  dsimp only
  rw [hbits, gated_pass _ _ _ (by simp [State.notReleasing, ho, hh, hr, hl, hrs, hm, hc, isMeterSlot_of_meterHere hh])]
  rfl

/-- The totals' baselines named are forgotten. -/
def MeterRec.totalsForgotten (r : MeterRec) (totals : Nat) : MeterRec :=
  (maskBits 8 totals).foldl (fun (r : MeterRec) i => { r with baselineTotal := setBits r.baselineTotal i 1 0 }) r

/-- The rates' baselines named are forgotten, and their fallback readings with them. -/
def MeterRec.ratesForgotten (r : MeterRec) (rates : Nat) : MeterRec :=
  (maskBits 16 rates).foldl (fun (r : MeterRec) i => { r with baselineRate := setBits r.baselineRate i 1 0, fb := Map.put r.fb i 0 }) r

theorem runLedgerRebase_passes {totals rates : Nat} (hl : c.slots 3 = true)
    (hd : ((maskBits 16 rates).all fun i => !bitOn (s.meter slot).disputeMask i) = true) :
    runLedgerRebase slot totals rates c s = ({ status := .done }, s.commitMeter slot (((s.meter slot).totalsForgotten totals).ratesForgotten rates)) := by
  rw [runLedgerRebase]
  dsimp only
  rw [hd, gated_pass _ _ _ (by simp [State.meterOwnChecks, State.notReleasing, ho, hh, hr, hl, isMeterSlot_of_meterHere hh])]
  rfl

theorem runLedgerGapClear_passes (hl : c.slots 1 = true) (hg : (s.meter slot).gap = true) :
    runLedgerGapClear slot c s = ({ status := .done }, s.commitMeter slot { s.meter slot with gap := false }) := by
  rw [runLedgerGapClear, gated_pass _ _ _ (by
    simp [State.meterOwnChecks, State.notReleasing, ho, hh, hr, hl, hg, isMeterSlot_of_meterHere hh])]

end

theorem runMetroPulseTest_passes {s : State} {c : Caller} {output count : Nat} (hs : c.isService = true) (hl : c.slots 2 = true)
    (ho : output < 8) (h1 : 1 ≤ count) (h100 : count ≤ 100) (hline : s.lineHere = true) (hv : s.serving = true)
    (he : s.rdB Rec.PulseOutput.Enabled output = false) :
    runMetroPulseTest output count c s =
      ({ status := .deferred }, s.setPulse output { s.pulse output with test := (s.pulse output).test + count }) := by
  rw [runMetroPulseTest, gated_pass _ _ _ (by simp [hs, hl, ho, h1, h100, hline, hv, he])]

/-! ### What a resolution and a rebase make of a meter's record -/

section
variable (r : MeterRec) (rs mask choice totals rates : Nat)

theorem MeterRec.resolved_resolveMain : (r.resolved rs mask choice).resolveMain =
    (maskBits 8 mask).foldl (fun m i => setBits m (8 * rs + i) 1 (bit (decide (choice = 0)))) r.resolveMain := by
  rw [MeterRec.resolved, List.foldl_map]
  exact (List.foldl_hom MeterRec.resolveMain fun _ _ => rfl).symm

theorem MeterRec.resolved_resolveFb : (r.resolved rs mask choice).resolveFb =
    (maskBits 8 mask).foldl (fun m i => setBits m (8 * rs + i) 1 (bit (decide (choice = 1)))) r.resolveFb := by
  rw [MeterRec.resolved, List.foldl_map]
  exact (List.foldl_hom MeterRec.resolveFb fun _ _ => rfl).symm

theorem MeterRec.resolved_keeps {α : Type} (f : MeterRec → α)
    (h : ∀ (r : MeterRec) a b, f { r with resolveMain := a, resolveFb := b } = f r) : f (r.resolved rs mask choice) = f r :=
  foldl_keeps f _ (fun r _ => h r _ _) _ _

theorem MeterRec.totalsForgotten_baselineTotal : (r.totalsForgotten totals).baselineTotal =
    (maskBits 8 totals).foldl (fun m i => setBits m i 1 0) r.baselineTotal :=
  (List.foldl_hom MeterRec.baselineTotal fun _ _ => rfl).symm

theorem MeterRec.totalsForgotten_keeps {α : Type} (f : MeterRec → α) (h : ∀ (r : MeterRec) a, f { r with baselineTotal := a } = f r) :
    f (r.totalsForgotten totals) = f r :=
  foldl_keeps f _ (fun r _ => h r _) _ _

theorem MeterRec.ratesForgotten_baselineRate : (r.ratesForgotten rates).baselineRate =
    (maskBits 16 rates).foldl (fun m i => setBits m i 1 0) r.baselineRate :=
  (List.foldl_hom MeterRec.baselineRate fun _ _ => rfl).symm

theorem MeterRec.ratesForgotten_fb : (r.ratesForgotten rates).fb = (maskBits 16 rates).foldl (fun m i => Map.put m i 0) r.fb :=
  (List.foldl_hom MeterRec.fb fun _ _ => rfl).symm

theorem MeterRec.ratesForgotten_keeps {α : Type} (f : MeterRec → α)
    (h : ∀ (r : MeterRec) a b, f { r with baselineRate := a, fb := b } = f r) : f (r.ratesForgotten rates) = f r :=
  foldl_keeps f _ (fun r _ => h r _ _) _ _

end

/-! ### The next token -/

/-- The meter's key binds where the tenant's root is set. -/
theorem State.meterKeyFor_bound {s : State} {slot tenant : Nat} {key : VaultCopy} (g : Nat) (hm : s.rdB Rec.MeterSec.KeyMode slot = false)
    (hk : s.slotKey tenant 0 = some key) : ∃ b x, s.meterKeyFor slot tenant g = (some b, { s with ctrs := x }) := by
  obtain ⟨x, hx⟩ : ∃ x, s.bind tenant 0 tenant = (some key.key, { s with ctrs := x }) := by
    rw [State.bind, if_neg (not_not_intro rfl), hk]
    dsimp only
    split
    · exact ⟨_, rfl⟩
    · exact ⟨_, rfl⟩
  rw [State.meterKeyFor, hm, hx]
  exact ⟨_, x, rfl⟩

/-- The token that an issue adds. -/
def State.issuedToken (s : State) (slot kind amount deliver value : Nat) : TokenEntry :=
  { slot := slot, tenant := (s.meter slot).tenant, st := deliver, kind := kind, seq := (s.meter slot).tokenSeq + 1, amount := amount,
    value := value, issuedAt := s.stamp }

theorem runTokenIssue_issues {s : State} {c : Caller} {slot kind amount deliver field : Nat} {key : VaultCopy} (hl : c.slots 4 = true)
    (ho : c.isOwner (s.meterTenant slot) = true) (hk : kind ≤ 1) (hka : kind = 0 ∨ amount = 0) (hd : deliver ≤ 1)
    (hh : s.meterHere slot = true) (hready : s.led.ready = true) (hv : s.serving = true) (hheld : s.pre.held.contains slot = false)
    (hr : s.isReleasing (s.meterTenant slot) = false) (he : s.rdB Rec.PrepayMeter.Enabled slot = true)
    (hn : (s.meter slot).tokenSeq < 65535)
    (hb : ((s.tokensOf slot).all fun y => !(tokenOpen y.st && decide (y.seq + 30 < (s.meter slot).tokenSeq))) = true)
    (hf : kind = 1 ∨ (amount ≤ s.rd Rec.PrepayClass.MaxTokenMilli (s.prepayClass slot) ∧
      amountField (s.rd Rec.PrepayClass.CreditStepMilli (s.prepayClass slot)) amount = some field))
    (hm : s.rdB Rec.MeterSec.KeyMode slot = false) (hset : s.slotSet (s.meter slot).tenant 0 = true)
    (hkey : s.slotKey (s.meter slot).tenant 0 = some key) :
    ∃ y u v, runTokenIssue slot kind amount deliver c s = (y, u) ∧
      u.pre = { s.pre with tokens := s.pre.tokens ++ [s.issuedToken slot kind amount deliver v] } ∧
      (u.meter slot).tokenSeq = (s.meter slot).tokenSeq + 1 ∧ u.records = s.records := by
  have hfield : (if kind = 1 then some 0 else if s.rd Rec.PrepayClass.MaxTokenMilli (s.prepayClass slot) < amount then none
      else amountField (s.rd Rec.PrepayClass.CreditStepMilli (s.prepayClass slot)) amount).isSome = true := by
    rcases hf with rfl | ⟨hle, hfield⟩
    · rfl
    · split
      · rfl
      · rw [if_neg (Nat.not_lt.2 hle), hfield]
        rfl
  have hbacklog : ((s.tokensOf slot).any fun t => tokenOpen t.st && decide (t.seq + 31 < (s.meter slot).tokenSeq + 1)) = false := by
    rw [List.any_eq_false]
    intro y hy
    have := List.all_eq_true.1 hb y hy
    simp only [Bool.not_eq_true', Bool.and_eq_false_iff, decide_eq_false_iff_not] at this
    simp only [Bool.and_eq_true, decide_eq_true_eq, not_and]
    rintro hopen
    rcases this with h | h
    · simp [hopen] at h
    · omega
  have hheld' : slot ∉ s.pre.held := by simpa using hheld
  obtain ⟨b, x, hbound⟩ := State.meterKeyFor_bound (s.meter slot).keyGen hm hkey
  rw [runTokenIssue]
  dsimp only
  rw [hbacklog, hfield, gated_pass _ _ _ (by
    simp [State.notReleasing, State.meterKeySet, hl, ho, hk, hka, hd, hh, hready, hv, hheld', hr, he, hm, hset, isMeterSlot_of_meterHere hh]
    omega), hbound]
  dsimp only
  generalize tokenValue b _ _ _ _ _ = v
  have hstamp : ({ s with ctrs := x } : State).stamp = s.stamp := rfl
  refine ⟨_, _, v, rfl, ?_, ?_, ?_⟩
  · split <;> simp [State.commitMeter, State.issuedToken, hstamp]
  · split <;> simp [State.meter_commitMeter]
  · split <;> simp [State.commitMeter]

end Machine

/-- Settles O57, row by row. -/
theorem ledgerBalanceCommandsComplete : Obligations.LedgerBalanceCommandsComplete := by
  refine ⟨?fit, ?phase, ?pulse, ?issue, ?void, ?dispute, ?rebase, ?gap⟩
  case fit =>
    intro s ch r c zone first count h hl ho hn hh hz hr ha h24 hd
    obtain ⟨slots, hrun⟩ := runBalFit_fits hl ho hn hh hz hr ha h24 hd
    refine ⟨_, exec_run_asked rfl h hrun, ?_, State.request_respond _ _ _ _, Claims.Frame.respond _ _ _ _⟩
    rw [State.response_respond]
    rfl
  case phase =>
    intro s ch r c slot h hl hw ho hline hh hr
    obtain ⟨m, hm⟩ := exec_commit_asked (i := .balPhaseReset ch slot) rfl h hw (runBalPhaseReset_passes ho hh hr hl hline)
    refine ⟨_, hm, ?_, ?_⟩
    · simp [State.balMeter, State.setBalMeter]
    · simp [State.setBalMeter]
  case pulse =>
    intro s ch r c output count h hs hl ho h1 h100 hline hv he
    exact exec_run_asked rfl h (runMetroPulseTest_passes hs hl ho h1 h100 hline hv he)
  case issue =>
    intro s ch r c slot kind amount deliver field key h hl hw ho hk hka hd hh hready hv hheld hr he hn hb hf hm hset hkey
    obtain ⟨y, u, v, hrun, hpre, hseq, hrec⟩ := runTokenIssue_issues hl ho hk hka hd hh hready hv hheld hr he hn hb hf hm hset hkey
    obtain ⟨m, hexec⟩ := exec_commit_asked (i := .prepayTokenIssue ch slot kind amount deliver) rfl h hw hrun
    refine ⟨_, hexec, ?_, ?_, hseq, hrec⟩
    · simp [hpre]
    · simp [hpre, State.issuedToken]
  case void =>
    intro s ch r c slot seq x h hl hw ho hh hready hr hx hst hlock
    obtain ⟨m, hm⟩ := exec_commit_asked (i := .prepayTokenVoid ch slot seq) rfl h hw (runTokenVoid_open ho hh hr hl hready hx hst hlock)
    refine ⟨_, hm, ?_, ?_, ?_⟩
    · simp only [State.carry_frame, State.journal_frame, State.mapTokens]
      refine List.map_congr_left fun y _ => ?_
      by_cases hs : y.slot = slot
      · simp [hs]
      · simp [hs]
    · simp [State.mapTokens]
    · simp [State.mapTokens]
  case dispute =>
    intro s ch r c slot rs mask choice h hl hw ho hrs hmask hc hh hr hne hall
    obtain ⟨m, hm⟩ := exec_commit_asked (i := .ledgerDisputeResolve ch slot rs mask choice) rfl h hw (runDisputeResolve_passes ho hh hr hl hrs hmask hc hne hall)
    obtain ⟨hrec, hpre⟩ := s.commitMeter_keeps slot ((s.meter slot).resolved rs mask choice)
    have hmeter := s.meter_commitMeter slot ((s.meter slot).resolved rs mask choice)
    refine ⟨_, hm, ?_, ?_, ?_, ?_, hrec, hpre⟩
    · exact (congrArg MeterRec.resolveMain hmeter).trans (MeterRec.resolved_resolveMain _ _ _ _)
    · exact (congrArg MeterRec.resolveFb hmeter).trans (MeterRec.resolved_resolveFb _ _ _ _)
    · exact (congrArg MeterRec.disputeMask hmeter).trans (MeterRec.resolved_keeps _ _ _ _ MeterRec.disputeMask fun _ _ _ => rfl)
    · exact (congrArg MeterRec.regTotal hmeter).trans (MeterRec.resolved_keeps _ _ _ _ MeterRec.regTotal fun _ _ _ => rfl)
  case rebase =>
    intro s ch r c slot totals rates h hl hw ho hh hr hd
    obtain ⟨m, hm⟩ := exec_commit_asked (i := .ledgerRebase ch slot totals rates) rfl h hw (runLedgerRebase_passes ho hh hr hl hd)
    obtain ⟨hrec, hpre⟩ := s.commitMeter_keeps slot (((s.meter slot).totalsForgotten totals).ratesForgotten rates)
    have hmeter := s.meter_commitMeter slot (((s.meter slot).totalsForgotten totals).ratesForgotten rates)
    refine ⟨_, hm, ?_, ?_, ?_, ?_, hrec, hpre⟩
    · exact (congrArg MeterRec.baselineTotal hmeter).trans ((MeterRec.ratesForgotten_keeps _ _ MeterRec.baselineTotal fun _ _ _ => rfl).trans
        (MeterRec.totalsForgotten_baselineTotal _ _))
    · refine (congrArg MeterRec.baselineRate hmeter).trans ((MeterRec.ratesForgotten_baselineRate _ _).trans ?_)
      rw [MeterRec.totalsForgotten_keeps _ _ MeterRec.baselineRate fun _ _ => rfl]
    · refine (congrArg MeterRec.fb hmeter).trans ((MeterRec.ratesForgotten_fb _ _).trans ?_)
      rw [MeterRec.totalsForgotten_keeps _ _ MeterRec.fb fun _ _ => rfl]
    · exact (congrArg MeterRec.total hmeter).trans ((MeterRec.ratesForgotten_keeps _ _ MeterRec.total fun _ _ _ => rfl).trans
        (MeterRec.totalsForgotten_keeps _ _ MeterRec.total fun _ _ => rfl))
  case gap =>
    intro s ch r c slot h hl hw ho hh hr hg
    obtain ⟨m, hm⟩ := exec_commit_asked (i := .ledgerGapClear ch slot) rfl h hw (runLedgerGapClear_passes ho hh hr hl hg)
    have hmeter := s.meter_commitMeter slot { s.meter slot with gap := false }
    exact ⟨_, hm, (congrArg MeterRec.gap hmeter).trans rfl, (congrArg MeterRec.total hmeter).trans rfl, (s.commitMeter_keeps slot _).1⟩

end Sys2Proof
end

section
/-! The key, quarantine and vault commands (O58). -/

namespace Sys2Proof

open Machine

namespace Machine

/-! ### Binding and the next key generation -/

/-- An opened slot binds, whatever the counters then say. -/
theorem State.bind_bound {s : State} {d slot : Nat} {key : VaultCopy} (hk : s.slotKey d slot = some key) :
    ∃ x, s.bind d slot d = (some key.key, { s with ctrs := x }) := by
  rw [State.bind, if_neg (not_not_intro rfl), hk]
  dsimp only
  split
  · exact ⟨_, rfl⟩
  · exact ⟨_, rfl⟩

@[simp] theorem State.meter_killTokens (s : State) (slot n : Nat) : (s.killTokens slot).meter n = s.meter n :=
  State.meter_of_led (by simp [State.killTokens, State.mapTokens]) n

/-- Whether it happens at once or waits in its tenant's queue, a rekeying leaves the meter's key generation. -/
theorem State.keyGen_rekey (s : State) (slot : Nat) : ((s.ledgerChange slot .rekey).meter slot).keyGen = (s.meter slot).keyGen := by
  rw [State.ledgerChange]
  split
  · rfl
  · rw [State.runJob, State.meter_commitMeter, State.meter_killTokens]

theorem State.rekey_keeps (s : State) (slot : Nat) : (s.ledgerChange slot .rekey).vault = s.vault ∧
    (s.ledgerChange slot .rekey).records = s.records := by
  rw [State.ledgerChange]
  split
  · exact ⟨rfl, rfl⟩
  · simp [State.runJob, State.commitMeter, State.killTokens, State.mapTokens]

theorem State.keyGen_advanceKeyGen (s : State) (slot : Nat) : ((s.advanceKeyGen slot).meter slot).keyGen = (s.meter slot).keyGen + 1 := by
  rw [State.advanceKeyGen]
  dsimp only
  rw [State.keyGen_rekey]
  exact congrArg MeterRec.keyGen (Map.getD_put_self _ _ _ _)

theorem State.advanceKeyGen_keeps (s : State) (slot : Nat) : (s.advanceKeyGen slot).vault = s.vault ∧
    (s.advanceKeyGen slot).records = s.records :=
  State.rekey_keeps _ slot

/-! ### The key commands -/

theorem runSecMeterKeySet_unwraps {s : State} {c : Caller} {slot keyBits : Nat} {blob plain : List Byte} {kek : VaultCopy}
    (ho : c.isOwner (s.meterTenant slot) = true) (hl : c.body.length = 16 + blob.length) (hb : keyBits ≤ 1)
    (hlen : blob.length = (if keyBits = 1 then 40 else 24)) (hh : s.meterHere slot = true) (ha : s.assigned slot = true)
    (hm : s.rdB Rec.MeterSec.KeyMode slot = true) (hr : s.isReleasing (s.meterTenant slot) = false)
    (hg : (s.meter slot).keyGen < 0xFFFFFFFF) (hk : s.slotKey (s.meterTenant slot) 1 = some kek) (hp : keyUnwrap kek.key blob = some plain) :
    ∃ y u, runSecMeterKeySet slot keyBits blob c s = (y, u) ∧ Map.get? u.sec.keys slot = some ((s.meter slot).keyGen + 1, blob) ∧
      (u.meter slot).keyGen = (s.meter slot).keyGen + 1 ∧ u.vault = s.vault ∧ u.records = s.records := by
  obtain ⟨x, hbound⟩ := State.bind_bound hk
  have hgen : ((({ s with ctrs := x } : State).advanceKeyGen slot).meter slot).keyGen = (s.meter slot).keyGen + 1 :=
    State.keyGen_advanceKeyGen _ slot
  obtain ⟨hvault, hrec⟩ := State.advanceKeyGen_keeps { s with ctrs := x } slot
  rw [runSecMeterKeySet]
  dsimp only
  rw [gated_pass _ _ _ (by simp [State.notReleasing, ho, hl, hb, hlen, hh, ha, hm, hr, hg, isMeterSlot_of_meterHere hh]), hbound]
  dsimp only
  rw [hp]
  dsimp only
  rw [hgen]
  refine ⟨_, _, rfl, by simp, ?_, by simpa using hvault, by simpa using hrec⟩
  rw [State.meter_of_led (s := ({ s with ctrs := x } : State).advanceKeyGen slot) (by simp), hgen]

theorem runSecKeygenAdvance_passes {s : State} {c : Caller} {slot : Nat} (hl : c.slots 1 = true)
    (ho : c.isOwner (s.meterTenant slot) = true) (hh : s.meterHere slot = true) (ha : s.assigned slot = true)
    (hm : s.rdB Rec.MeterSec.KeyMode slot = false) (hr : s.isReleasing (s.meterTenant slot) = false)
    (hg : (s.meter slot).keyGen < 0xFFFFFFFF) :
    runSecKeygenAdvance slot c s = ({ status := .done, slots := [((s.advanceKeyGen slot).meter slot).keyGen] },
      ((s.advanceKeyGen slot).journal .config ((s.advanceKeyGen slot).meterTenant slot) slot
        (.words [0x0903, slot, ((s.advanceKeyGen slot).meter slot).keyGen])).carry (.meter slot)) := by
  rw [runSecKeygenAdvance, gated_pass _ _ _ (by
    simp [State.meterOwnChecks, State.notReleasing, hl, ho, hh, ha, hm, hr, hg, isMeterSlot_of_meterHere hh])]

/-! ### The quarantine -/

section
variable {s : State} {c : Caller} {slot counter : Nat} {q : QEntry} (hl : c.slots 2 = true) (hq : s.qEntry slot counter = some q)
  (ho : c.isOwner q.f.tenant = true) (hr : s.isReleasing q.f.tenant = false)
include hl hq ho hr

theorem runQuarantineRelease_passes (hrel : s.releasable q = true) :
    runQuarantineRelease slot counter c s = ({ status := .done },
      (((s.qDrop slot counter).journal .quarantine q.f.tenant slot (.words [2, slot, counter])).carry (.meter slot)).enqueue q.f.tenant slot
        (.frame { q.f with flags := q.f.flags ||| 4 })) := by
  rw [runQuarantineRelease, hq]
  dsimp only
  rw [gated_pass _ _ _ (by simp [State.qChecks, State.qTenant, State.notReleasing, hl, hq, ho, hr, hrel])]

theorem runQuarantineDelete_passes :
    runQuarantineDelete slot counter c s = ({ status := .done },
      (({ s.qDrop slot counter with sec := { (s.qDrop slot counter).sec with tombs := s.sec.tombs ++ [(slot, counter)] } }).journal
        .quarantine q.f.tenant slot (.words [3, slot, counter])).carry (.meter slot)) := by
  have ht : s.qTenant slot counter = q.f.tenant := by rw [State.qTenant, hq]
  rw [runQuarantineDelete, gated_pass _ _ _ (by simp [State.qChecks, State.notReleasing, hl, hq, ht, ho, hr]), ht]
  rfl

end

/-! ### The vault's slots -/

@[simp] theorem State.copies_programCounter (s : State) (d : Nat) : (s.programCounter d).vault.copies = s.vault.copies := rfl

/-- A copy committed is the slot's generation. -/
theorem State.slotGen_commitCopy (s : State) (d slot : Nat) (c : VaultCopy) : (s.commitCopy d slot c).slotGen d slot = c.gen := by
  simp [State.slotGen, State.copy, State.commitCopy]

theorem State.slotGen_of_copies {s t : State} (h : t.vault.copies = s.vault.copies) (d slot : Nat) : t.slotGen d slot = s.slotGen d slot := by
  rw [State.slotGen, State.slotGen, State.copy, State.copy, h]

/-- What a slot committed then holds. -/
def State.committedCopy (s : State) (d slot kind n : Nat) (key : List Byte) : VaultCopy :=
  { kind := kind, gen := min (s.slotGen d slot + 1) 0xFFFFFFFF, updateCounter := n, key := key, testRoot := s.testRoot }

theorem State.copies_commitSlot (s : State) (d slot kind n : Nat) (key : List Byte) :
    (s.commitSlot d slot kind n key).vault.copies = (s.commitCopy d slot (s.committedCopy d slot kind n key)).vault.copies := by
  rw [State.commitSlot, State.vault_raise]
  split
  · rfl
  · rfl

/-- A slot committed takes its next generation, up to the last one there is. -/
theorem State.slotGen_commitSlot (s : State) (d slot kind n : Nat) (key : List Byte) (h : s.genSpent d slot = false) :
    (s.commitSlot d slot kind n key).slotGen d slot = s.slotGen d slot + 1 := by
  have hgen : s.slotGen d slot + 1 ≤ 0xFFFFFFFF := by
    simpa [State.genSpent] using h
  rw [State.slotGen_of_copies (s.copies_commitSlot d slot kind n key), State.slotGen_commitCopy]
  exact Nat.min_eq_left hgen

/-- An update that is accepted does not ask for a generation past the last. -/
theorem State.genSpent_of_checkUpdate {s : State} {m key : List Byte} (h : (s.checkUpdate m).toOption = some key) :
    s.genSpent (leAt m 6 1) (leAt m 7 1) = false := by
  rw [← Bool.not_eq_true]
  intro hspent
  rw [State.checkUpdate, if_pos hspent] at h
  repeat' split at h
  all_goals cases h

theorem State.checkUpdate_ok {s : State} {m key : List Byte} (h : (s.checkUpdate m).toOption = some key) : s.checkUpdate m = .ok key := by
  cases he : s.checkUpdate m with
  | error st => rw [he] at h; cases h
  | ok k => rw [he] at h; exact congrArg _ (Option.some.inj h)

theorem State.slotGen_counters (s : State) (x : Map Nat Nat) (d slot : Nat) :
    ({ s with vault := { s.vault with counters := x } } : State).slotGen d slot = s.slotGen d slot := rfl

theorem runVaultUpdate_accepts {s : State} {c : Caller} {message key : List Byte} (hu : s.mayUpdate c (leAt message 6 1) = true)
    (hl : c.body.length = message.length) (hd : s.domainHere (leAt message 6 1) = true) (hr : s.isReleasing (leAt message 6 1) = false)
    (hk : (s.checkUpdate message).toOption = some key) (hn : leAt message 16 4 ≠ 0xFFFFFFFF) :
    runVaultUpdate message c s = ({ status := .done, slots := [s.slotGen (leAt message 6 1) (leAt message 7 1) + 1, leAt message 16 4] },
      ({ s with vault := { s.vault with counters := Map.put s.vault.counters (leAt message 6 1) (leAt message 16 4) } }).commitSlot
        (leAt message 6 1) (leAt message 7 1) (leAt message 20 1) (leAt message 16 4) key) := by
  have hspent : ({ s with vault := { s.vault with counters := Map.put s.vault.counters (leAt message 6 1) (leAt message 16 4) } } : State).genSpent
      (leAt message 6 1) (leAt message 7 1) = false := (State.genSpent_of_checkUpdate hk : s.genSpent _ _ = false)
  rw [runVaultUpdate]
  dsimp only
  rw [gated_pass _ _ _ (by simp [State.notReleasing, hu, hl, hd, hr]), State.checkUpdate_ok hk]
  dsimp only
  rw [if_neg (fun hx => hn hx.1), State.slotGen_commitSlot _ _ _ _ _ _ hspent, State.slotGen_counters]

theorem runVaultAuthoritySet_passes {s : State} {c : Caller} {d : Nat} {key : List Byte} (hu : s.mayUpdate c d = true)
    (hl : c.body.length = 72) (hk : key.length = 64) (hd : d ≤ 16) (hh : s.domainHere d = true) (hcurve : p256OnCurve key = true)
    (hset : s.slotSet d (authoritySlot d) = false) (hspent : s.genSpent d (authoritySlot d) = false) (hr : s.isReleasing d = false) :
    runVaultAuthoritySet d key c s = ({ status := .done, slots := [s.slotGen d (authoritySlot d) + 1] },
      s.commitSlot d (authoritySlot d) 4 (s.domainCounter d) key) := by
  rw [runVaultAuthoritySet, gated_pass _ _ _ (by simp [State.notReleasing, hu, hl, hk, hd, hh, hcurve, hset, hspent, hr])]
  dsimp only
  rw [State.slotGen_commitSlot _ _ _ _ _ _ hspent]

theorem runVaultTransportSet_unwraps {s : State} {c : Caller} {d : Nat} {wrapped key : List Byte} {x : Session}
    (hu : s.mayUpdate c d = true) (hl : c.body.length = 48) (hw : wrapped.length = 40) (hd : d ≤ 16) (hh : s.domainHere d = true)
    (hset : s.slotSet d 2 = false) (hspent : s.genSpent d 2 = false) (hr : s.isReleasing d = false) (hx : s.session c.ch = some x)
    (hk : keyUnwrap ((hmac x.ks (ascii [0x45, 0x57, 0x56, 0x54])).take 16) wrapped = some key) :
    runVaultTransportSet d wrapped c s = ({ status := .done, slots := [s.slotGen d 2 + 1] }, s.commitSlot d 2 2 (s.domainCounter d) key) := by
  rw [runVaultTransportSet, gated_pass _ _ _ (by simp [State.notReleasing, hu, hl, hw, hd, hh, hset, hspent, hr]), hx]
  dsimp only
  rw [hk]
  dsimp only
  rw [State.slotGen_commitSlot _ _ _ _ _ _ hspent]

end Machine

/-- Settles O58, row by row. -/
theorem keyCommandsComplete : Obligations.KeyCommandsComplete := by
  refine ⟨?keySet, ?keygen, ?release, ?delete, ?update, ?authority, ?transport⟩
  case keySet =>
    intro s ch r c slot keyBits blob plain kek h hw ho hl hb hlen hh ha hm hr hg hk hp
    obtain ⟨y, u, hrun, hkeys, hgen, hvault, hrec⟩ := runSecMeterKeySet_unwraps ho hl hb hlen hh ha hm hr hg hk hp
    obtain ⟨m, hexec⟩ := exec_commit_asked (i := .secMeterKeySet ch slot keyBits blob) rfl h hw hrun
    rw [State.keyGen_advanceKeyGen]
    exact ⟨_, hexec, hkeys, hgen, hvault, hrec⟩
  case keygen =>
    intro s ch r c slot h hl hw ho hh ha hm hr hg
    obtain ⟨m, hexec⟩ := exec_commit_asked (i := .secMeterKeygenAdvance ch slot) rfl h hw (runSecKeygenAdvance_passes hl ho hh ha hm hr hg)
    exact ⟨_, hexec, Claims.Frame.mail _ _⟩
  case release =>
    intro s ch r c slot counter q h hl hw hq ho hr hrel
    obtain ⟨m, hexec⟩ := exec_commit_asked (i := .secQuarantineRelease ch slot counter) rfl h hw (runQuarantineRelease_passes hl hq ho hr hrel)
    refine ⟨_, hexec, ?_, ?_, ?_, ?_, ?_⟩
    all_goals simp [State.enqueue, State.qDrop]
  case delete =>
    intro s ch r c slot counter q h hl hw hq ho hr
    obtain ⟨m, hexec⟩ := exec_commit_asked (i := .secQuarantineDelete ch slot counter) rfl h hw (runQuarantineDelete_passes hl hq ho hr)
    refine ⟨_, hexec, ?_, ?_, ?_, ?_⟩
    all_goals simp [State.qDrop]
  case update =>
    rintro s ch r c message key d n h rfl rfl hu hl hd hr hk hn
    exact exec_run_asked rfl h (runVaultUpdate_accepts hu hl hd hr hk hn)
  case authority =>
    intro s ch r c d key h hu hl hk hd hh hcurve hset hspent hr
    exact exec_run_asked rfl h (runVaultAuthoritySet_passes hu hl hk hd hh hcurve hset hspent hr)
  case transport =>
    intro s ch r c d wrapped key x h hu hl hw hd hh hset hspent hr hx hk
    exact exec_run_asked rfl h (runVaultTransportSet_unwraps hu hl hw hd hh hset hspent hr hx hk)

end Sys2Proof
end

section
/-! The store, time and safe commands (O59). -/

namespace Sys2Proof

open Machine

namespace Machine

/-! ### The epoch of a namespace under a journal entry -/

theorem State.nsEpoch_congr {s t : State} (h : t.store.nsEpochs = s.store.nsEpochs) (n : Nat) : t.nsEpoch n = s.nsEpoch n :=
  congrArg (Map.getD · n 0) h

section
variable (s : State) (n : Nat)

theorem State.nsEpoch_startCheckpoint : s.startCheckpoint.nsEpoch n = s.nsEpoch n := by
  unfold State.startCheckpoint
  split
  · rfl
  · rfl

theorem State.nsEpoch_raise (e : Ev) (t : Nat) (p : List Nat) (o : Bool) : (s.raise e t p o).nsEpoch n = s.nsEpoch n :=
  State.nsEpoch_congr (by simp) n

theorem State.nsEpoch_watchReplay : s.watchReplay.nsEpoch n = s.nsEpoch n := by
  unfold State.watchReplay
  dsimp only
  split <;> split
  · exact (State.nsEpoch_raise _ _ _ _ _ _).trans (s.nsEpoch_startCheckpoint n)
  · exact s.nsEpoch_startCheckpoint n
  · exact State.nsEpoch_raise _ _ _ _ _ _
  · rfl

theorem State.nsEpoch_passEntry (e : JEntry) : (s.passEntry e).nsEpoch n = s.nsEpoch n := by
  unfold State.passEntry
  split
  · exact (State.nsEpoch_watchReplay _ n).trans (State.nsEpoch_congr (by simp) n)
  · rfl

theorem State.nsEpoch_watchRoom : s.watchRoom.nsEpoch n = s.nsEpoch n := by
  unfold State.watchRoom
  split
  · exact State.nsEpoch_raise _ _ _ _ _ _
  · rfl

theorem State.nsEpoch_addEntry (e : JEntry) : (s.addEntry e).nsEpoch n = s.nsEpoch n :=
  State.nsEpoch_congr (by simp [State.addEntry]) n

theorem State.nsEpoch_journal (k : JKind) (t m : Nat) (b : JBody) (q : Nat) : (s.journal k t m b q).nsEpoch n = s.nsEpoch n := by
  unfold State.journal
  split
  · rfl
  · exact (State.nsEpoch_passEntry _ n _).trans ((State.nsEpoch_watchRoom _ n).trans (State.nsEpoch_addEntry _ n _))

end

/-- A namespace freed stands in its next epoch, and its tenant's archive and tokens are gone. -/
theorem State.freeNamespace_frees (s : State) (t : Nat) : (s.freeNamespace t).nsEpoch t = s.nsEpoch t + 1 ∧
    (s.freeNamespace t).tar.archive = s.tar.archive.filter (fun a => a.tenant ≠ t) ∧
    (s.freeNamespace t).pre.tokens = s.pre.tokens.filter (fun x => x.tenant ≠ t) ∧ (s.freeNamespace t).records = s.records := by
  have hepoch : Map.getD (Map.put s.store.nsEpochs t (s.nsEpoch t + 1)) t 0 = s.nsEpoch t + 1 := Map.getD_put_self _ _ _ _
  unfold State.freeNamespace
  dsimp only
  split
  · exact ⟨hepoch, rfl, rfl, rfl⟩
  · exact ⟨hepoch, rfl, rfl, rfl⟩

/-! ### The store and time commands -/

theorem runCheckpointNow_passes {s : State} {c : Caller} (ho : c.isOperator = true) (hl : c.slots 0 = true) :
    runCheckpointNow c s = ({ status := .deferred }, s.startCheckpoint) := by
  rw [runCheckpointNow, gated_pass _ _ _ (by simp [ho, hl])]

theorem State.channel_of_dieHere {s : State} {channel die : Nat} (h : s.dieHere channel die = true) : channel < 16 := by
  have hle : s.flashChannels ≤ 16 := by
    unfold State.flashChannels
    split <;> simp
  have hlt : channel < s.flashChannels ∧ die < s.store.diesPer := by simpa [State.dieHere] using h
  exact hlt.1.trans_le hle

theorem runDieRetire_passes {s : State} {c : Caller} {channel die : Nat} (hs : c.isService = true) (hl : c.slots 2 = true)
    (hd : s.dieHere channel die = true) (hst : (s.die channel die).st ≠ .failed) (hfit : s.partsFit s.partBody (s.diesInUse - 1) = true) :
    runDieRetire channel die c s = ({ status := .deferred }, s.setDie channel die { s.die channel die with st := .retiring }) := by
  rw [runDieRetire, gated_pass _ _ _ (by simp [hs, hl, hd, hst, hfit, State.channel_of_dieHere hd])]

theorem runNamespaceFormat_passes {s : State} {c : Caller} {t : Nat} (ho : c.isOfficer = true) (hl : c.slots 1 = true) (ht : t < 16)
    (hh : s.tenantHere t = true) (hs : s.isSealed t = false) (hm : s.hasMeters t = false) (he : s.nsEpoch t < 0xFFFFFFFF) :
    runNamespaceFormat t c s = ({ status := .done, slots := [(s.freeNamespace t).nsEpoch t] },
      (s.freeNamespace t).journal .store t t (.words [(s.freeNamespace t).nsEpoch t])) := by
  rw [runNamespaceFormat, gated_pass _ _ _ (by simp [ho, hl, ht, hh, hs, hm, he])]

theorem runTimeStep_passes {s : State} {c : Caller} {ns : Nat} (ho : c.isOfficer = true) (hl : c.slots 1 = true) (h1 : 1000000 ≤ ns)
    (h2 : ns ≤ 31536000 * 1000000000) (hs : s.anySealed = false) (hp : s.time.st ≠ .partner) :
    runTimeStep ns c s = ({ status := .done }, { s with time := { s.time with pendingStep := some ((ns : Int), 1) } }) := by
  rw [runTimeStep, gated_pass _ _ _ (by
    simp [ho, hl, h1, h2, hs, hp])]

theorem runTimeLeapSet_passes {s : State} {c : Caller} {day : Nat} {sign : Int} (ho : c.isOfficer = true) (hl : c.slots 2 = true)
    (hg : sign = 1 ∨ sign = -1 ∨ sign = 0) (hs : s.anySealed = false) (hm : s.time.smearing = none) :
    runTimeLeapSet day sign c s = ({ status := .done },
      { s with time := { s.time with leap := if sign = 0 then none else some (day, sign), leapFrom := none } }) := by
  rw [runTimeLeapSet, gated_pass _ _ _ (by simp [ho, hl, hg, hs, hm])]

/-! ### The safe commands -/

section
variable {s : State} {c : Caller} {slot : Nat} (hl : c.slots 1 = true) (ho : c.isOwner (s.meterTenant slot) = true)
  (hh : s.meterHere slot = true) (hr : s.isReleasing (s.meterTenant slot) = false)

/-- The opening that a relay with no command outstanding takes. -/
def State.nextOpening (s : State) (slot : Nat) : SafeCmd :=
  { kind := 1, seq := ((s.safeMeter slot).lastSeq + 1) % 65536, deadline := s.stamp + s.rd Rec.SafetyPolicy.ValidityS * 2 ^ 24,
    limit := s.rd Rec.SafetyPolicy.ResendLimit }

/-- A relay with no command outstanding takes the opening at once. -/
theorem State.acceptSafe_free (s : State) (slot : Nat) (hout : (s.safeMeter slot).out = none) :
    s.acceptSafe slot 1 = (s.nextOpening slot,
      ((s.setSafe slot { s.safeMeter slot with lastSeq := (s.nextOpening slot).seq, out := some (s.nextOpening slot) }).journal .ledger
        (s.meterTenant slot) slot (.words [slot, 1, (s.nextOpening slot).seq])).carry (.meter slot)) := by
  have hfree : ¬(s.safeMeter slot).out.isSome = true := by simp [hout]
  rw [State.acceptSafe]
  dsimp only
  rw [if_neg hfree]
  rfl

theorem State.safeMeter_acceptSafe_free (s : State) (slot : Nat) (hout : (s.safeMeter slot).out = none) :
    (s.acceptSafe slot 1).2.safeMeter slot = { s.safeMeter slot with lastSeq := (s.nextOpening slot).seq, out := some (s.nextOpening slot) } := by
  rw [s.acceptSafe_free slot hout]
  simp [State.safeMeter, State.setSafe]

include hl ho hh hr

theorem runSafeOpen_passes (hrelay : s.isRelay slot = true) (hout : (s.safeMeter slot).out = none) :
    runSafeOpen slot c s = ({ status := .deferred, slots := [(s.acceptSafe slot 1).1.seq, (s.acceptSafe slot 1).1.deadline] },
      (s.acceptSafe slot 1).2) := by
  rw [runSafeOpen]
  dsimp only
  rw [hout, gated_pass _ _ _ (by
    simp [State.meterOwnChecks, State.notReleasing, hl, ho, hh, hr, hrelay, isMeterSlot_of_meterHere hh])]

theorem runSafeCancel_passes {x : SafeCmd} (hout : (s.safeMeter slot).out = some x) (hx : x.locked = false) :
    runSafeCancel slot c s = ({ status := .done },
      ((s.cancelSafe slot .command).journal .ledger (s.meterTenant slot) slot (.words [slot, 0, 0])).carry (.meter slot)) := by
  rw [runSafeCancel, hout, gated_pass _ _ _ (by
    simp [State.meterOwnChecks, State.notReleasing, hl, ho, hh, hr, hx, isMeterSlot_of_meterHere hh])]

end

/-- A command cancelled is counted so, and what waited behind it takes its place. -/
theorem State.cancelSafe_outstanding {s : State} {slot : Nat} {x : SafeCmd} (hout : (s.safeMeter slot).out = some x) (cause : SafeCause) :
    s.cancelSafe slot cause = ((s.setSafe slot { s.safeMeter slot with out := (s.safeMeter slot).waiting, waiting := none }).count
      { name := .safeOutcome, a := x.kind, b := 3 }).raise .safeCommandCancelled (s.meterTenant slot) [slot, x.kind, x.seq, cause.code] := by
  rw [State.cancelSafe, hout]
  dsimp only
  rw [State.endSafe_outstanding hout]

end Machine

/-- Settles O59, row by row. -/
theorem storeTimeSafeCommandsComplete : Obligations.StoreTimeSafeCommandsComplete := by
  refine ⟨?checkpoint, ?retire, ?format, ?step, ?leap, ?openSafe, ?cancel⟩
  case checkpoint =>
    intro s ch r c h ho hl
    exact exec_run_asked rfl h (runCheckpointNow_passes ho hl)
  case retire =>
    intro s ch r c channel die h hs hl hd hst hfit
    exact exec_run_asked rfl h (runDieRetire_passes hs hl hd hst hfit)
  case format =>
    intro s ch r c tenant h ho hl hw ht hh hs hm he
    obtain ⟨m, hexec⟩ := exec_commit_asked (i := .storeNamespaceFormat ch tenant) rfl h hw (runNamespaceFormat_passes ho hl ht hh hs hm he)
    obtain ⟨hepoch, harchive, htokens, hrec⟩ := s.freeNamespace_frees tenant
    refine ⟨_, hexec, ?_, ?_, ?_, ?_⟩
    · exact (State.nsEpoch_journal _ tenant _ _ _ _ _).trans hepoch
    · simpa using harchive
    · simpa using htokens
    · simpa using hrec
  case step =>
    intro s ch r c ns h ho hl h1 h2 hs hp
    exact exec_run_asked rfl h (runTimeStep_passes ho hl h1 h2 hs hp)
  case leap =>
    intro s ch r c day sign h ho hl hg hs hm
    exact exec_run_asked rfl h (runTimeLeapSet_passes ho hl hg hs hm)
  case openSafe =>
    intro s ch r c slot h hl hw ho hh hr hrelay hout
    obtain ⟨m, hexec⟩ := exec_commit_asked (i := .safeOpen ch slot) rfl h hw (runSafeOpen_passes hl ho hh hr hrelay hout)
    have hmeter := s.safeMeter_acceptSafe_free slot hout
    refine ⟨_, hexec, congrArg SafeMeter.out hmeter, congrArg SafeMeter.lastSeq hmeter, ?_⟩
    simp [s.acceptSafe_free slot hout, State.setSafe]
  case cancel =>
    intro s ch r c slot x h hl hw ho hh hr hout hx
    obtain ⟨m, hexec⟩ := exec_commit_asked (i := .safeCancel ch slot) rfl h hw (runSafeCancel_passes hl ho hh hr hout hx)
    have hmeter : (((s.cancelSafe slot .command).journal .ledger (s.meterTenant slot) slot (.words [slot, 0, 0])).carry (.meter slot)).safeMeter slot =
        { s.safeMeter slot with out := (s.safeMeter slot).waiting, waiting := none } := by
      rw [State.cancelSafe_outstanding hout]
      simp [State.safeMeter, State.setSafe]
    have hc : ({ name := .safeOutcome, a := x.kind, b := 3 } : Ctr).name ∉ CtrName.ofEntry := by simp [CtrName.ofEntry]
    refine ⟨_, hexec, congrArg SafeMeter.out hmeter, congrArg SafeMeter.waiting hmeter, ?_, ?_⟩
    · rw [State.cancelSafe_outstanding hout]
      exact (State.ctr_carry hc _ _).trans ((State.ctr_journal hc _ _ _ _ _ _).trans ((State.ctr_raise hc _ _ _ _ _).trans (State.ctr_count _ _ 1)))
    · simp [State.cancelSafe_outstanding hout, State.setSafe]

end Sys2Proof
end

section
/-! The recorder's, record and bundle commands (O60). -/

namespace Sys2Proof

open Machine

namespace Machine

/-! ### The recorder's commands -/

theorem runBarrowHold_free {s : State} {c : Caller} (ho : c.isOperator = true) (hl : c.slots 0 = true) (hh : s.ev.hold = none) :
    runBarrowHold c s = ({ status := .done, slots := [s.stamp + s.rd Rec.RecorderPolicy.HoldMaxS * 2 ^ 24] },
      { s with ev := { s.ev with hold := some ⟨c.sessionId, c.ch, s.time.ms + 1000 * s.rd Rec.RecorderPolicy.HoldMaxS⟩ } }) := by
  rw [runBarrowHold, gated_pass _ _ _ (by simp [ho, hl])]
  dsimp only
  rw [hh]

theorem runBarrowHold_held {s : State} {c : Caller} {x : Hold} (ho : c.isOperator = true) (hl : c.slots 0 = true) (hh : s.ev.hold = some x) :
    runBarrowHold c s = ({ status := .holdActive, slots := [x.sessionId] }, s) := by
  rw [runBarrowHold, gated_pass _ _ _ (by simp [ho, hl])]
  dsimp only
  rw [hh]

theorem runBarrowRelease_holder {s : State} {c : Caller} (ho : c.isOperator = true) (hl : c.slots 0 = true) (hh : s.holds c = true) :
    runBarrowRelease c s = ({ status := .done }, { s with ev := { s.ev with hold := none } }) := by
  rw [runBarrowRelease, gated_pass _ _ _ (by simp [ho, hl, hh])]

/-- With no snapshot kept, a trigger that fires begins the first. -/
theorem State.fire_first (look : State → Nat → WordEntry) (regionWord : State → Nat → Nat) (s : State) (i : Nat) (t : TrigCfg) (e : TrailEntry)
    (hs : s.ev.slots = []) : ∃ (x : Snapshot) (triggers : Map Nat TrigSt), s.fire look regionWord i t e =
        { s.count { name := .snapshotsTaken, a := i } with
          ev := { s.ev with triggers := triggers, slots := [x], nextSnapshot := s.ev.nextSnapshot + 1 } } ∧
      x.id = s.ev.nextSnapshot ∧ x.trigger = i ∧ x.collecting = true := by
  have hnone : ¬((s.setTrig i { s.trig i with holdoffEnd := s.time.ms + t.holdoffMs }).ev.slots.any fun p => p.trigger == i && p.collecting) = true := by
    simp [State.setTrig, hs]
  have hroom : (s.setTrig i { s.trig i with holdoffEnd := s.time.ms + t.holdoffMs }).ev.slots.length < 56 := by
    simp [State.setTrig, hs]
  rw [State.fire]
  dsimp only
  rw [if_neg hnone, if_pos hroom]
  dsimp only [State.setTrig]
  rw [hs]
  exact ⟨_, _, rfl, rfl, rfl, rfl⟩

theorem runBarrowTriggerNow_first {s : State} {c : Caller} {i : Nat} (look : State → Nat → WordEntry) (regionWord : State → Nat → Nat)
    (ho : c.isService = true) (hl : c.slots 1 = true) (hi : i < 32) (hs : s.ev.slots = []) : ∃ (x : Snapshot) (triggers : Map Nat TrigSt),
      x.id = s.ev.nextSnapshot ∧ x.trigger = i ∧ x.collecting = true ∧
      runBarrowTriggerNow look regionWord i c s = ({ status := .done, slots := [s.ev.nextSnapshot] },
        { s.count { name := .snapshotsTaken, a := i } with
          ev := { s.ev with triggers := triggers, slots := [x], nextSnapshot := s.ev.nextSnapshot + 1 } }) := by
  obtain ⟨x, triggers, hfire, hid, htrig, hcol⟩ := s.fire_first look regionWord i (s.trigCfg i)
    { s.ev.trail.getLastD ⟨s.ev.nextSeq - 1, .barrowTriggered, false, 0, s.stamp, []⟩ with stamp := s.stamp } hs
  refine ⟨x, triggers, hid, htrig, hcol, ?_⟩
  rw [runBarrowTriggerNow, gated_pass _ _ _ (by simp [ho, hl, hi])]
  dsimp only
  rw [hfire]
  simp [htrig, hcol, hid]

/-! ### The record commands -/

/-- A record judged acceptable has the length its header names. -/
theorem State.judgeRecord_length {s : State} {rule : RecordRule} {k : Schema} {tenant inst len : Nat} {b : List Byte} {new : Nat}
    {notes : List ReportEntry} (h : s.judgeRecord rule k tenant inst len b = .accept new notes) : b.length = len ∧ len ≤ k.bodyLen := by
  have hlen : ¬(k.bodyLen < len ∨ b.length ≠ len) := by
    intro hbad
    rw [State.judgeRecord, if_pos hbad] at h
    cases h
  omega

section
variable {s : State} {c : Caller} {record : List Byte} {x : RecordHeader} {new : Nat} {notes : List ReportEntry} {k : Schema} {rule : RecordRule}
  (ht : c.tagged = true) (hl : c.body.length = record.length) (h16 : 16 ≤ record.length) (hx : headerOfRecord record = x)
  (hrule : recordRule x.rid = some (k, rule)) (hv : x.version = 1) (hm : s.mayWrite rule x.rid c x.tenant x.inst = true)
  (ho : rule.owner s x.inst ≠ .chip ∨ x.tenant = 0)
  (hj : s.judgeRecord rule k x.tenant x.inst x.len (record.drop 16) = .accept new notes)
include ht hl h16 hx hrule hv hm ho hj

/-- What a record that passes every check before its judgement does. -/
theorem runRecordWrite_judged : ∃ y : Reply, runRecordWrite record c s =
    if x.validate then (some y, s)
    else if x.rid = Rec.MeterSec.Assigned.rid ∧ s.needsRebuild x.inst new then
      match s.sec.rebuild with
      | some _ => (none, s)
      | none => (none, { s with sec := { s.sec with
          rebuild := some { beganMs := s.time.ms, extra := some (x.inst, Rec.MeterSec.Address.of new) } } })
    else (some y, s.applyBody rule k x.tenant x.inst new) := by
  obtain ⟨hlen, hle⟩ := State.judgeRecord_length hj
  have hsize : ¬(c.body.length ≠ record.length ∨ record.length < 16) := by omega
  have hbody : ¬((record.drop 16).length ≠ x.len ∨ k.bodyLen < x.len) := by omega
  have howner : ¬(rule.owner s x.inst = .chip ∧ x.tenant ≠ 0) := fun hbad => ho.elim (· hbad.1) hbad.2
  refine ⟨{ status := reportStatus notes, data := if notes.isEmpty then [] else reportBytes notes x.validate }, ?_⟩
  rw [runRecordWrite]
  dsimp only
  rw [hx, ht, if_neg (by simp), if_neg hsize, hrule]
  dsimp only
  rw [State.writeRecord, hm, if_neg (by simp), if_neg hbody, if_neg howner, hv, if_neg (by simp), if_neg (by simp), hj] <;> rfl

theorem runRecordWrite_validates (hval : x.validate = true) : ∃ y, runRecordWrite record c s = (some y, s) := by
  obtain ⟨y, hy⟩ := runRecordWrite_judged ht hl h16 hx hrule hv hm ho hj
  exact ⟨y, hy.trans (if_pos hval)⟩

theorem runRecordWrite_applies (hval : x.validate = false) (hrid : x.rid ≠ Rec.MeterSec.Assigned.rid) :
    ∃ y, runRecordWrite record c s = (some y, s.applyBody rule k x.tenant x.inst new) := by
  obtain ⟨y, hy⟩ := runRecordWrite_judged ht hl h16 hx hrule hv hm ho hj
  rw [if_neg (by simp [hval]), if_neg (fun h => hrid h.1)] at hy
  exact ⟨y, hy⟩

end

/-- A command that answers, its answer coming now or with the commit, leaves what its run left but for the mail. -/
theorem State.commitLater_asked {s u : State} {ch : Nat} {k : Cmd} {r : Request} {c : Caller} {y : Reply}
    {run : Caller → State → Option Reply × State} (h : Claims.Asked s ch k r c) (hw : (s.chan ch).await = none)
    (hr : run c s = (some y, u)) : ∃ m : Mail, s.commitLater ch k run = { u with mail := m } := by
  have ⟨hreq, _, hheld, hsave⟩ := h
  have hgate := s.chipGate_open k (y, u) hheld hsave
  by_cases hp : u.store.nextPos = s.store.nextPos ∨ u.posCommitted u.newestPos
  · have hnow : s.commitLater ch k run = u.respond ch r y := by
      simp only [State.commitLater, hreq, hw]
      exact State.commandLater_answers h (by simp only [hr, hgate, if_pos hp])
    exact ⟨_, hnow.trans rfl⟩
  · have hlater : s.commitLater ch k run = u.modChan ch fun x => { x with await := some (u.newestPos, y.status, y.slots, y.data) } := by
      simp only [State.commitLater, hreq, hw]
      exact State.commandLater_waits h (by simp only [hr, hgate, if_neg hp])
    exact ⟨_, hlater.trans rfl⟩

/-- A record written whose run answers leaves what its run left but for the mail. -/
theorem exec_recordWrite_asked {s u : State} {ch : Nat} {r : Request} {c : Caller} {record : List Byte} {y : Reply}
    (h : Claims.Asked s ch .ctrlRecordWrite r c) (hw : (s.chan ch).await = none) (hr : runRecordWrite record c s = (some y, u)) :
    ∃ m : Mail, exec (.ctrlRecordWrite ch record) s = .next { u with mail := m } := by
  obtain ⟨m, hm⟩ := State.commitLater_asked h hw hr
  have hexec : exec (.ctrlRecordWrite ch record) s = .next (s.commitLater ch .ctrlRecordWrite (runRecordWrite record)) := rfl
  exact ⟨m, by rw [hexec, hm]⟩

theorem runRecordDefault_passes {s : State} {c : Caller} {rid inst tenant : Nat} {k : Schema} {rule : RecordRule}
    (hrule : recordRule rid = some (k, rule)) (hl : c.slots 3 = true) (hw : rule.writer s c tenant inst = true)
    (ho : rule.owner s inst = .chip ∨ rule.owner s inst = .header ∨ rule.owner s inst = .object tenant) (ht : tenant < 16)
    (hi : inst < k.instances) (howner : (s.recordOwner rule rid inst).getD tenant = tenant)
    (ha : rule.absent s inst (k.defaulted (s.bodyOf k inst)) = none) (hr : s.isReleasing tenant = false)
    (hc : s.recordOwner rule rid inst = none ∨ rule.check s tenant inst (s.bodyOf k inst) (k.defaulted (s.bodyOf k inst)) = none) :
    runRecordDefault rid inst tenant c s = ({ status := .done }, if (s.recordOwner rule rid inst).isNone then s
      else s.applyBody rule k tenant inst (k.defaulted (s.bodyOf k inst))) := by
  have hcheck : (if (s.recordOwner rule rid inst).isNone then none
      else rule.check s tenant inst (s.bodyOf k inst) (k.defaulted (s.bodyOf k inst))) = none := by
    rcases hc with h | h
    · simp [h]
    · simp [h]
  rw [runRecordDefault, hrule]
  dsimp only
  rw [hcheck, gated_pass _ _ _ (by
    rcases ho with h | h | h
    all_goals simp [h, hw, hl, ht, hi, howner, ha, hr])]

/-! ### Configuration bundles -/

/-- A bundle's part that follows the parts before it, and is not the last, is kept after them. -/
theorem runBundleSubmit_continues {s : State} {c : Caller} {part : List Byte} (a : BundleAsm) (ho : c.isOfficer = true)
    (hl : c.body.length = 8 + part.length) (hp : part.length ≤ 262136) (hsession : ∀ b, s.upd.bundle = some b → b.sessionId = c.sessionId)
    (ha : s.upd.bundle.getD { sessionId := c.sessionId, total := a.total, bytes := [], lastMs := s.time.ms } = a)
    (ht : a.total ≤ 1048656) (hn : a.bytes.length + part.length < a.total) :
    runBundleSubmit a.total a.bytes.length part c s = ({ status := .continue' },
      { s with upd := { s.upd with bundle := some { a with bytes := a.bytes ++ part, lastMs := s.time.ms } } }) := by
  have hbad : ¬(decide (1048656 < a.total ∨ a.total < a.bytes.length + part.length) = true ∨ a.total ≠ a.total ∨ a.bytes.length ≠ a.bytes.length) := by
    simp only [decide_eq_true_eq]
    omega
  rw [runBundleSubmit]
  dsimp only
  rw [gated_pass _ _ _ (by
    cases hb : s.upd.bundle with
    | none => simp [ho, hl, hp]
    | some b => simp [ho, hl, hp, hsession b hb])]
  rw [ha, if_neg hbad, if_pos (by simpa using hn)]

theorem exec_commit_quiet {i : Instr} {ch : Nat} {k : Cmd} {run : Caller → State → Reply × State} (hi : Claims.commitOf i = some (ch, k, run))
    {s u : State} {r : Request} {c : Caller} {y : Reply} (h : Claims.Asked s ch k r c) (hw : (s.chan ch).await = none)
    (hr : run c s = (y, u)) (hpos : u.store.nextPos = s.store.nextPos) : exec i s = .next (u.respond ch r y) := by
  rw [exec_of_commitOf hi, State.commitCommand_asked h hw]
  dsimp only
  rw [hr, if_pos (.inl hpos)]

end Machine

theorem Claims.ruleOf_eq {rid : Nat} (h : (recordRule rid).isSome = true) :
    recordRule rid = some (Claims.schemaOf rid, Claims.ruleOf rid) := by
  obtain ⟨p, hp⟩ := Option.isSome_iff_exists.1 h
  simp [Claims.schemaOf, Claims.ruleOf, hp]

/-- Settles O60, row by row. -/
theorem recorderRecordCommandsComplete : Obligations.RecorderRecordCommandsComplete := by
  refine ⟨?hold, ?held, ?release, ?trigger, ?write, ?validate, ?default, ?firstPart, ?nextPart, ?unwritten⟩
  case hold =>
    intro s ch r c h ho hl hh
    exact exec_run_asked rfl h (runBarrowHold_free ho hl hh)
  case held =>
    intro s ch r c x h ho hl hh
    exact exec_run_asked rfl h (runBarrowHold_held ho hl hh)
  case release =>
    intro s ch r c h ho hl hh
    exact exec_run_asked rfl h (runBarrowRelease_holder ho hl hh)
  case trigger =>
    intro s ch r c trigger h ho hl hi hs
    obtain ⟨x, triggers, hid, htrig, hcol, hrun⟩ := runBarrowTriggerNow_first State.look State.regionWord ho hl hi hs
    refine ⟨_, exec_run_asked rfl h hrun, State.answered_respond _ _ _ _, ?_, ?_, ?_, ?_⟩
    · simp
    · simp [hid, htrig, hcol]
    · exact (State.ctr_respond _ _ _ _ _).trans (State.ctr_count _ _ 1)
    · refine Claims.Frame.trans (t := { s.count { name := .snapshotsTaken, a := trigger } with
        ev := { s.ev with triggers := triggers, slots := [x], nextSnapshot := s.ev.nextSnapshot + 1 } }) ?_
        ((Claims.Frame.respond _ _ _ _).mono (by simp))
      intro p _ hp
      cases p <;> simp_all [Claims.Part.same, State.count]
  case write =>
    intro s ch r c record x new notes h hw ht hl h16 hx hrule _ hv hval hrid hm ho hj
    obtain ⟨y, hrun⟩ := runRecordWrite_applies ht hl h16 hx.symm (Claims.ruleOf_eq hrule) hv hm ho hj hval hrid
    obtain ⟨m, hexec⟩ := exec_recordWrite_asked h hw hrun
    exact ⟨_, hexec, Claims.Frame.mail _ _⟩
  case validate =>
    intro s ch r c record x new notes h hw ht hl h16 hx hrule _ hv hval hm ho hj
    obtain ⟨y, hrun⟩ := runRecordWrite_validates ht hl h16 hx.symm (Claims.ruleOf_eq hrule) hv hm ho hj hval
    obtain ⟨m, hexec⟩ := exec_recordWrite_asked h hw hrun
    exact ⟨_, hexec, Claims.Frame.mail _ _⟩
  case default =>
    intro s ch r c rid inst tenant h hl hw hrule hwr ho ht hi howner ha hr hc
    have hrun := runRecordDefault_passes (Claims.ruleOf_eq hrule) hl hwr ho ht hi (by rw [howner]; rfl) ha hr (.inr hc)
    rw [howner] at hrun
    obtain ⟨m, hexec⟩ := exec_commit_asked (i := .ctrlRecordDefault ch rid inst tenant) rfl h hw hrun
    exact ⟨_, hexec, Claims.Frame.mail _ _⟩
  case firstPart =>
    intro s ch r c total part h hw ho hl hp hb ht hn
    have hrun := runBundleSubmit_continues (s := s) (c := c) (part := part)
      { sessionId := c.sessionId, total := total, bytes := [], lastMs := s.time.ms } ho hl hp (by simp [hb]) (by simp [hb]) ht (by simpa using hn)
    exact exec_commit_quiet rfl h hw hrun rfl
  case nextPart =>
    intro s ch r c a part h hw ho hl hp hb hsession ht hn
    have hrun := runBundleSubmit_continues a ho hl hp (fun b h => Option.some.inj (hb.symm.trans h) ▸ hsession) (by rw [hb]; rfl) ht hn
    exact exec_commit_quiet rfl h hw hrun rfl
  case unwritten =>
    intro s ch r c rid inst tenant h hl hw hrule hwr ho ht hi howner ha hr
    have hrun := runRecordDefault_passes (Claims.ruleOf_eq hrule) hl hwr ho ht hi (by rw [howner]; rfl) ha hr (.inl howner)
    rw [howner] at hrun
    obtain ⟨m, hexec⟩ := exec_commit_asked (i := .ctrlRecordDefault ch rid inst tenant) rfl h hw hrun
    exact ⟨_, hexec, Claims.Frame.mail _ _⟩

end Sys2Proof
end

section
/-! A role refused changes nothing (O15). -/

namespace Sys2Proof

open Machine

namespace Machine

/-! ### Runs that refuse a role -/

/-- Where a run's answer is REFUSED_ROLE, it changed nothing. -/
def RoleSafe (s : State) (o : Reply × State) : Prop := o.1.status = .refusedRole → o.2 = s

theorem RoleSafe.of_ne {s : State} {o : Reply × State} (h : o.1.status ≠ .refusedRole) : RoleSafe s o := fun hr => absurd hr h

theorem gated_roleSafe {s : State} {l : List (Bool × Status)} {run : State → Reply × State} (h : RoleSafe s (run s)) :
    RoleSafe s (gated s l run) := by
  unfold gated
  split
  · exact fun _ => rfl
  · exact h

/-- A run behind checks that answers something else than REFUSED_ROLE once they passed. -/
theorem gated_roleSafe_of_ne {s : State} {l : List (Bool × Status)} {run : State → Reply × State} (h : (run s).1.status ≠ .refusedRole) :
    RoleSafe s (gated s l run) := gated_roleSafe (.of_ne h)

/-- What answers behind checks that do not refuse a role. -/
theorem gated_status_ne {s : State} {l : List (Bool × Status)} {run : State → Reply × State} {y : Status} (hl : ∀ x ∈ l, x.2 ≠ y)
    (h : (run s).1.status ≠ y) : (gated s l run).1.status ≠ y := by
  unfold gated
  split
  next x hx => exact hl x (List.mem_of_find?_eq_some hx)
  · exact h

/-! What the operations below the runs answer. -/

theorem enableUnit_status_ne (x : EnUnit) : (enableUnit x).2 ≠ .refusedRole := by
  unfold enableUnit
  split
  · nofun
  · split <;> nofun

theorem disableUnit_status_ne (ms : Nat) (x : EnUnit) : (disableUnit ms x).2 ≠ .refusedRole := by
  unfold disableUnit
  split
  · nofun
  · split <;> nofun

theorem State.firstApproval_roleSafe (s : State) (c : Caller) (k : Cmd) (args : List Nat) (target : Nat) :
    RoleSafe s (s.firstApproval c k args target) := by
  unfold State.firstApproval
  split
  · exact fun _ => rfl
  · exact .of_ne nofun

theorem State.messageKey_error_ne {s : State} {d kind : Nat} {payload : List Byte} : s.messageKey d kind payload ≠ .error .refusedRole := by
  unfold State.messageKey
  split
  · nofun
  split
  · split
    · nofun
    · split
      · split <;> nofun
      · nofun
  · nofun

theorem guard_error_ne {α : Type} {p : Prop} [Decidable p] {y : Status} {x : Except Status α} (hy : y ≠ .refusedRole)
    (hx : x ≠ .error .refusedRole) : (if p then .error y else x) ≠ .error .refusedRole := by
  split
  · exact fun h => hy (Except.error.inj h)
  · exact hx

theorem State.checkUpdate_error_ne {s : State} {m : List Byte} : s.checkUpdate m ≠ .error .refusedRole := by
  unfold State.checkUpdate
  iterate 8 refine guard_error_ne nofun ?_
  exact State.messageKey_error_ne

theorem sigStatus_ne {key : Option (List Byte)} {msg sig : List Byte} : sigStatus key msg sig ≠ some .refusedRole := by
  unfold sigStatus
  split
  · nofun
  · split <;> nofun

theorem State.checkBundle_error_ne {s : State} {b : List Byte} : s.checkBundle b ≠ .error .refusedRole := by
  unfold State.checkBundle
  dsimp only
  split
  next st hst =>
    rintro ⟨⟩
    exact sigStatus_ne hst
  split
  · nofun
  split
  · nofun
  split <;> nofun

theorem reportStatus_ne (es : List ReportEntry) : reportStatus es ≠ .refusedRole := by
  unfold reportStatus
  split <;> nofun

theorem State.takeBundle_error_ne {s : State} {b : List Byte} {port : Option Nat} : (s.takeBundle b port).1 ≠ .error .refusedRole := by
  unfold State.takeBundle
  extract_lets u refuse keep
  have hrefuse : ∀ st : Status, st ≠ .refusedRole → (refuse st).1 ≠ .error .refusedRole := by
    intro st hst
    simp only [refuse]
    split <;> simpa using hst
  split
  next st hst => exact hrefuse st fun h => State.checkBundle_error_ne (h ▸ hst)
  split
  · nofun
  split
  · exact hrefuse _ nofun
  · nofun

theorem State.executeApproved_status_ne (s : State) (x : Ticket) (c : Caller) : (s.executeApproved x c).1.status ≠ .refusedRole := by
  unfold State.executeApproved
  dsimp only
  split
  · exact gated_status_ne (by simp [State.closeChecks, State.notReleasing]) nofun
  · unfold State.approvedSeal
    dsimp only
    split <;> nofun
  · unfold State.approvedRelease
    split <;> nofun
  · exact gated_status_ne (by simp) nofun

theorem State.approve_status (s : State) (x : Ticket) (c : Caller) : (s.approve x c).1.status = (s.executeApproved x c).1.status := by
  unfold State.approve
  dsimp only
  split <;> rfl

/-! The runs whose answer takes more than one form. -/

section
variable (c : Caller) (s : State)

theorem runAirLaunchCancel_roleSafe (head b start : Nat) : RoleSafe s (runAirLaunchCancel head b start c s) := by
  unfold runAirLaunchCancel
  refine gated_roleSafe_of_ne ?_
  split <;> nofun

theorem runBalFit_roleSafe (zone first count : Nat) : RoleSafe s (runBalFit zone first count c s) := by
  unfold runBalFit
  refine gated_roleSafe_of_ne ?_
  dsimp only
  split <;> nofun

theorem runBarrowHold_roleSafe : RoleSafe s (runBarrowHold c s) := by
  unfold runBarrowHold
  refine gated_roleSafe_of_ne ?_
  split <;> nofun

theorem runUnitUnfence_roleSafe (a pass : Nat) : RoleSafe s (runUnitUnfence a pass c s) := by
  unfold runUnitUnfence
  refine gated_roleSafe_of_ne ?_
  split <;> nofun

theorem runRegionRestart_roleSafe (region : Nat) : RoleSafe s (runRegionRestart region c s) := by
  unfold runRegionRestart
  refine gated_roleSafe_of_ne ?_
  dsimp only
  split <;> nofun

theorem runFiltCaptureStop_roleSafe (id : Nat) : RoleSafe s (runFiltCaptureStop id c s) := by
  unfold runFiltCaptureStop
  split <;> exact gated_roleSafe_of_ne nofun

theorem runFiltCaptureDelete_roleSafe (id : Nat) : RoleSafe s (runFiltCaptureDelete id c s) := by
  unfold runFiltCaptureDelete
  split <;> exact gated_roleSafe_of_ne nofun

theorem runStageVerify_roleSafe (id : Nat) : RoleSafe s (runStageVerify id c s) := by
  unfold runStageVerify
  split <;> exact gated_roleSafe_of_ne nofun

theorem runUpdateConfirm_roleSafe : RoleSafe s (runUpdateConfirm c s) := by
  unfold runUpdateConfirm
  split <;> exact gated_roleSafe_of_ne nofun

theorem runImageDelete_roleSafe (d : List Byte) : RoleSafe s (runImageDelete d c s) := by
  unfold runImageDelete
  split <;> exact gated_roleSafe_of_ne nofun

theorem runApprovalCancel_roleSafe (ticket : Nat) : RoleSafe s (runApprovalCancel ticket c s) := by
  unfold runApprovalCancel
  split <;> exact gated_roleSafe_of_ne nofun

theorem runSessionProve_roleSafe (id : Nat) (nh ph : List Byte) : RoleSafe s (runSessionProve id nh ph c s) := by
  unfold runSessionProve
  refine gated_roleSafe_of_ne ?_
  dsimp only
  split
  · nofun
  split
  · nofun
  split <;> nofun

theorem runBarrowTriggerNow_roleSafe (look : State → Nat → WordEntry) (regionWord : State → Nat → Nat) (i : Nat) :
    RoleSafe s (runBarrowTriggerNow look regionWord i c s) := by
  unfold runBarrowTriggerNow
  refine gated_roleSafe_of_ne ?_
  dsimp only
  split <;> nofun

theorem runRxContextAbort_roleSafe (n : Nat) : RoleSafe s (runRxContextAbort n c s) := by
  unfold runRxContextAbort
  refine gated_roleSafe_of_ne ?_
  split <;> nofun

theorem runRxListen_roleSafe (group mode headMask start window maxFrameMs : Nat) :
    RoleSafe s (runRxListen group mode headMask start window maxFrameMs c s) := by
  unfold runRxListen
  refine gated_roleSafe_of_ne ?_
  dsimp only
  split
  · nofun
  · split <;> nofun

theorem runPowerSleep_roleSafe : RoleSafe s (runPowerSleep c s) := by
  unfold runPowerSleep
  refine gated_roleSafe_of_ne ?_
  change Status.deferred ≠ .refusedRole
  nofun

theorem runVaultUpdate_roleSafe (m : List Byte) : RoleSafe s (runVaultUpdate m c s) := by
  unfold runVaultUpdate
  refine gated_roleSafe_of_ne ?_
  dsimp only
  split
  next st hst =>
    rintro rfl
    exact State.checkUpdate_error_ne hst
  · split <;> nofun

theorem runVaultTransportSet_roleSafe (d : Nat) (wrapped : List Byte) : RoleSafe s (runVaultTransportSet d wrapped c s) := by
  unfold runVaultTransportSet
  refine gated_roleSafe_of_ne ?_
  split <;> nofun

theorem runApprove_roleSafe (ticket : Nat) (digest : List Byte) : RoleSafe s (runApprove ticket digest c s) := by
  unfold runApprove
  split
  · exact gated_roleSafe_of_ne nofun
  · exact gated_roleSafe_of_ne (by rw [State.approve_status]; exact s.executeApproved_status_ne _ c)

theorem runTokenIssue_roleSafe (slot kind amount deliver : Nat) : RoleSafe s (runTokenIssue slot kind amount deliver c s) := by
  unfold runTokenIssue
  refine gated_roleSafe_of_ne ?_
  dsimp only
  split <;> nofun

theorem runTokenVoid_roleSafe (slot seq : Nat) : RoleSafe s (runTokenVoid slot seq c s) := by
  unfold runTokenVoid
  refine gated_roleSafe_of_ne ?_
  split
  · nofun
  · split <;> nofun

theorem runRecordDefault_roleSafe (rid inst tenant : Nat) : RoleSafe s (runRecordDefault rid inst tenant c s) := by
  unfold runRecordDefault
  split <;> exact gated_roleSafe_of_ne nofun

theorem runBundleSubmit_roleSafe (total off : Nat) (part : List Byte) : RoleSafe s (runBundleSubmit total off part c s) := by
  unfold runBundleSubmit
  refine gated_roleSafe_of_ne ?_
  dsimp only
  split
  · nofun
  split
  · nofun
  split
  next st u hst =>
    rintro rfl
    exact State.takeBundle_error_ne (congrArg Prod.fst hst)
  · exact reportStatus_ne _

theorem runSecMeterKeySet_roleSafe (slot keyBits : Nat) (blob : List Byte) : RoleSafe s (runSecMeterKeySet slot keyBits blob c s) := by
  unfold runSecMeterKeySet
  refine gated_roleSafe_of_ne ?_
  dsimp only
  split
  · nofun
  · split <;> nofun

theorem runQuarantineRelease_roleSafe (slot counter : Nat) : RoleSafe s (runQuarantineRelease slot counter c s) := by
  unfold runQuarantineRelease
  split <;> exact gated_roleSafe_of_ne nofun

end

theorem runOf_roleSafe {i : Instr} {ch : Nat} {k : Cmd} {run : Caller → State → Reply × State} (h : Claims.runOf i = some (ch, k, run))
    (c : Caller) (s : State) : RoleSafe s (run c s) := by
  unfold Claims.runOf at h
  split at h <;> cases h
  case h_3 => exact runAirLaunchCancel_roleSafe c s _ _ _
  case h_5 => exact gated_roleSafe (s.firstApproval_roleSafe c _ _ _)
  case h_6 => exact runBalFit_roleSafe c s _ _ _
  case h_7 => exact runBarrowHold_roleSafe c s
  case h_10 => exact runUnitUnfence_roleSafe c s _ _
  case h_11 => exact runRegionRestart_roleSafe c s _
  case h_12 => exact gated_roleSafe_of_ne (enableUnit_status_ne _)
  case h_13 => exact gated_roleSafe_of_ne (disableUnit_status_ne _ _)
  case h_15 => exact gated_roleSafe_of_ne (enableUnit_status_ne _)
  case h_16 => exact gated_roleSafe_of_ne (disableUnit_status_ne _ _)
  case h_18 => exact runFiltCaptureStop_roleSafe c s _
  case h_19 => exact runFiltCaptureDelete_roleSafe c s _
  case h_29 => exact runStageVerify_roleSafe c s _
  case h_31 => exact runUpdateConfirm_roleSafe c s
  case h_32 => exact runImageDelete_roleSafe c s _
  case h_33 => exact gated_roleSafe_of_ne (enableUnit_status_ne _)
  case h_34 => exact gated_roleSafe_of_ne (disableUnit_status_ne _ _)
  case h_36 => exact runSessionProve_roleSafe c s _ _ _
  case h_37 => exact runApprovalCancel_roleSafe c s _
  case h_40 => exact runBarrowTriggerNow_roleSafe c s _ _ _
  case h_49 => exact runRxContextAbort_roleSafe c s _
  case h_50 => exact runRxListen_roleSafe c s _ _ _ _ _ _
  case h_52 => exact gated_roleSafe (s.firstApproval_roleSafe c _ _ _)
  case h_55 => exact gated_roleSafe (s.firstApproval_roleSafe c _ _ _)
  case h_56 => exact gated_roleSafe (s.firstApproval_roleSafe c _ _ _)
  case h_62 => exact runVaultUpdate_roleSafe c s _
  case h_64 => exact runVaultTransportSet_roleSafe c s _ _
  case h_46 => exact runPowerSleep_roleSafe c s
  all_goals exact gated_roleSafe_of_ne nofun

theorem commitOf_roleSafe {i : Instr} {ch : Nat} {k : Cmd} {run : Caller → State → Reply × State} (h : Claims.commitOf i = some (ch, k, run))
    (c : Caller) (s : State) : RoleSafe s (run c s) := by
  unfold Claims.commitOf at h
  split at h <;> cases h
  case h_1 => exact runApprove_roleSafe c s _ _
  case h_3 => exact runTokenIssue_roleSafe c s _ _ _ _
  case h_4 => exact runTokenVoid_roleSafe c s _ _
  case h_5 => exact runRecordDefault_roleSafe c s _ _ _
  case h_6 => exact runBundleSubmit_roleSafe c s _ _ _
  case h_12 => exact runSecMeterKeySet_roleSafe c s _ _ _
  case h_14 => exact runQuarantineRelease_roleSafe c s _ _
  all_goals exact gated_roleSafe_of_ne nofun
/-! ### The requests that the channels hold -/

theorem State.request_of_requestFor {s : State} {n : Nat} {k : Cmd} {r : Request} (h : s.requestFor n k = some r) : (s.chan n).request = some r := by
  unfold State.requestFor at h
  split at h
  next x hx =>
    split at h
    · rw [hx, h]
    · cases h
  · cases h

/-- A state whose standing requests are those of a state that holds a request holds it too. -/
theorem State.request_held {s t : State} {n : Nat} {k : Cmd} {r : Request} (h : s.requestFor n k = some r)
    (hreq : t.standing.requests = s.standing.requests) : (t.chan n).request = some r :=
  (congrFun hreq n).trans (State.request_of_requestFor h)

theorem Standing.OnBuffers.requests {a b : Standing} (h : a.OnBuffers b) : b.requests = a.requests := by
  obtain ⟨l, rfl, -⟩ := h
  rfl

theorem State.executeApproved_requests (s : State) (x : Ticket) (c : Caller) : (s.executeApproved x c).2.standing.requests = s.standing.requests := by
  unfold State.executeApproved
  dsimp only
  split
  · simp
  · unfold State.approvedSeal
    dsimp only
    split
    · simp [State.moveTenant_standing]
    · simp
  · unfold State.approvedRelease
    split
    · simp [State.moveTenant_standing]
    · rfl
  · simp

theorem State.approve_requests (s : State) (x : Ticket) (c : Caller) : (s.approve x c).2.standing.requests = s.standing.requests := by
  have h := s.executeApproved_requests x c
  unfold State.approve
  extract_lets o t
  split
  · exact (t.tellInitiator_onBuffers _ _ _).requests.trans (by simpa [t, o] using h)
  · exact (State.tellInitiator_onBuffers _ _ _ _).requests.trans (by simp)

theorem runApprove_requests (ticket : Nat) (digest : List Byte) (c : Caller) (s : State) :
    (runApprove ticket digest c s).2.standing.requests = s.standing.requests := by
  unfold runApprove
  split
  · simp
  · unfold gated
    split
    · rfl
    · exact s.approve_requests _ c

theorem commitOf_requests {i : Instr} {ch : Nat} {k : Cmd} {run : Caller → State → Reply × State} (h : Claims.commitOf i = some (ch, k, run))
    (c : Caller) (s : State) : (run c s).2.standing.requests = s.standing.requests := by
  unfold Claims.commitOf at h
  split at h <;> cases h
  case h_1 => exact runApprove_requests _ _ c s
  all_goals exact congrArg Standing.requests (by simp)

/-! ### The frames of a role refused -/

/-- What a commit command answers at once, and what its channel awaits. -/
def commitRun (n : Nat) (k : Cmd) (run : Caller → State → Option Reply × State) (c : Caller) (s : State) : Option Reply × State :=
  match run c s with
  | (none, t) => (none, t)
  | (some y, t) =>
    let o := s.chipGate k (y, t)
    if o.2.store.nextPos = s.store.nextPos ∨ o.2.posCommitted o.2.newestPos then (some o.1, o.2)
    else (none, o.2.modChan n fun x => { x with await := some (o.2.newestPos, o.1.status, o.1.slots, o.1.data) })

theorem State.commitLater_runs {s : State} {n : Nat} {k : Cmd} {run : Caller → State → Option Reply × State} (hw : (s.chan n).await = none) :
    s.commitLater n k run = s.commandLater n k (commitRun n k run) := by
  unfold State.commitLater
  split
  next hw' => cases hw.symm.trans hw'
  · rfl

/-- Where a run that may answer later refuses a role, it changed nothing. -/
def LaterRoleSafe (s : State) (o : Option Reply × State) : Prop := ∀ y, o.1 = some y → RoleSafe s (y, o.2)

section
variable {s : State} {ch : Nat} {k : Cmd} {r : Request} {c : Caller} {run : Caller → State → Option Reply × State} (h : Claims.Asked s ch k r c)
include h

theorem State.commandLater_refused (hrole : LaterRoleSafe s (run c s))
    (hreq : (run c s).1 = none → (run c s).2.standing.requests = s.standing.requests)
    (hnone : ((s.commandLater ch k run).chan ch).request = none)
    (hst : ((s.commandLater ch k run).chan ch).response.map (fun y => y.status) = some .refusedRole) :
    Claims.Frame [.mail] s (s.commandLater ch k run) := by
  cases hr : run c s with
  | mk o u =>
    rw [hr] at hrole hreq
    cases o with
    | some y =>
      rw [State.commandLater_answers h hr] at hst ⊢
      rw [State.response_respond] at hst
      have hu : u = s := hrole y rfl (Option.some.inj hst)
      rw [hu]
      exact Claims.Frame.respond s ch r y
    | none =>
      rw [State.commandLater_waits h hr, State.request_held h.1 (hreq rfl)] at hnone
      cases hnone

/-- An answer that waits for its commit comes, or waits on. -/
theorem State.commitLater_awaiting {a : Nat × Status × List Nat × List Byte} (hw : (s.chan ch).await = some a) :
    Claims.Frame [.mail] s (s.commitLater ch k run) := by
  obtain ⟨p, st, slots, data⟩ := a
  simp only [State.commitLater, h.1, hw]
  split
  · exact Claims.Frame.respond s ch r _
  · exact Claims.Frame.refl _ _

theorem commitRun_roleSafe (hrole : LaterRoleSafe s (run c s)) : LaterRoleSafe s (commitRun ch k run c s) := by
  obtain ⟨-, -, hheld, hsave⟩ := h
  unfold commitRun
  cases hr : run c s with
  | mk o u =>
    rw [hr] at hrole
    cases o with
    | none => nofun
    | some y =>
      dsimp only
      rw [s.chipGate_open k _ hheld hsave]
      split
      · exact hrole
      · nofun

theorem commitRun_requests (hreq : (run c s).2.standing.requests = s.standing.requests) :
    (commitRun ch k run c s).2.standing.requests = s.standing.requests := by
  obtain ⟨-, -, hheld, hsave⟩ := h
  unfold commitRun
  cases hr : run c s with
  | mk o u =>
    rw [hr] at hreq
    cases o with
    | none => exact hreq
    | some y =>
      dsimp only
      rw [s.chipGate_open k _ hheld hsave]
      split
      · exact hreq
      · simpa using hreq

theorem State.commitLater_refused (hrole : LaterRoleSafe s (run c s)) (hreq : (run c s).2.standing.requests = s.standing.requests)
    (hnone : ((s.commitLater ch k run).chan ch).request = none)
    (hst : ((s.commitLater ch k run).chan ch).response.map (fun y => y.status) = some .refusedRole) :
    Claims.Frame [.mail] s (s.commitLater ch k run) := by
  cases hw : (s.chan ch).await with
  | some a => exact State.commitLater_awaiting h hw
  | none =>
    rw [State.commitLater_runs hw] at hnone hst ⊢
    exact State.commandLater_refused h (commitRun_roleSafe h hrole) (fun _ => commitRun_requests h hreq) hnone hst

end

theorem State.command_refused {s : State} {ch : Nat} {k : Cmd} {r : Request} {c : Caller} {run : Caller → State → Reply × State}
    (h : Claims.Asked s ch k r c) (hrole : RoleSafe s (run c s)) (hnone : ((s.command ch k run).chan ch).request = none)
    (hst : ((s.command ch k run).chan ch).response.map (fun y => y.status) = some .refusedRole) :
    Claims.Frame [.mail] s (s.command ch k run) := by
  rw [State.command_eq_commandLater] at hnone hst ⊢
  exact State.commandLater_refused h (fun y hy => Option.some.inj hy ▸ hrole) nofun hnone hst

/-! ### The runs that may answer later -/

theorem LaterRoleSafe.same (s : State) (o : Option Reply) : LaterRoleSafe s (o, s) := fun _ _ _ => rfl

theorem LaterRoleSafe.none (s t : State) : LaterRoleSafe s (.none, t) := nofun

theorem LaterRoleSafe.some {s t : State} {y : Reply} (h : RoleSafe s (y, t)) : LaterRoleSafe s (.some y, t) :=
  fun _ hy => Option.some.inj hy ▸ h

theorem runLaneTest_roleSafe (n pattern duration errors : Nat) (c : Caller) (s : State) :
    LaterRoleSafe s (runLaneTest n pattern duration errors c s) := by
  unfold runLaneTest
  extract_lets mine runs
  split
  · exact .some (.of_ne nofun)
  split
  · exact .none _ _
  · split
    next y t hg =>
      have hsafe : RoleSafe s (y, t) := hg ▸ gated_roleSafe_of_ne nofun
      split
      · exact .none _ _
      · exact .some hsafe

theorem runLaneHeadControl_roleSafe (n trib ty : Nat) (body : List Byte) (c : Caller) (s : State) :
    LaterRoleSafe s (runLaneHeadControl n trib ty body c s) := by
  unfold runLaneHeadControl
  extract_lets waiting
  split
  next y t hg =>
    have hsafe : RoleSafe s (y, t) := hg ▸ gated_roleSafe_of_ne nofun
    split
    · exact .none _ _
    · split
      · exact .none _ _
      · exact .some hsafe

theorem State.writeRecord_roleSafe (s : State) (h : RecordHeader) (b : List Byte) (k : Schema) (rule : RecordRule) (c : Caller) :
    LaterRoleSafe s (s.writeRecord h b k rule c) := by
  unfold State.writeRecord
  iterate 5
    split
    · exact .same s _
  split
  next st e _ =>
    refine .some fun (hst : st = .refusedRole) => ?_
    exact if_neg (by rw [hst]; nofun)
  · extract_lets y
    split
    · exact .same s _
    split
    · split
      · exact .none _ _
      · exact .none _ _
    · exact .some (.of_ne (reportStatus_ne _))

theorem runRecordWrite_roleSafe (record : List Byte) (c : Caller) (s : State) : LaterRoleSafe s (runRecordWrite record c s) := by
  unfold runRecordWrite
  dsimp only
  split
  · exact .same s _
  split
  · exact .same s _
  split
  · exact .same s _
  · exact s.writeRecord_roleSafe _ _ _ _ c

/-- A response that keeps more of itself answers as before. -/
theorem State.modResponse_answers {s : State} {ch : Nat} {f : Response → Response} (hf : ∀ y, (f y).status = y.status) :
    ((s.modChan ch fun x => { x with response := x.response.map f }).chan ch).request = (s.chan ch).request ∧
      ((s.modChan ch fun x => { x with response := x.response.map f }).chan ch).response.map (fun y => y.status) =
        (s.chan ch).response.map fun y => y.status := by
  constructor
  · simp
  · simp [Function.comp_def, hf]

/-- A row whose response then keeps more of itself changes nothing where the command under it refuses the role. -/
theorem State.modResponse_refused {s u : State} {ch : Nat} {f : Response → Response} (hf : ∀ y, (f y).status = y.status)
    (hu : (u.chan ch).request = none → (u.chan ch).response.map (fun y => y.status) = some .refusedRole → Claims.Frame [.mail] s u)
    (hnone : ((u.modChan ch fun x => { x with response := x.response.map f }).chan ch).request = none)
    (hst : ((u.modChan ch fun x => { x with response := x.response.map f }).chan ch).response.map (fun y => y.status) = some .refusedRole) :
    Claims.Frame [.mail] s (u.modChan ch fun x => { x with response := x.response.map f }) := by
  obtain ⟨hreq, hresp⟩ := State.modResponse_answers (s := u) (ch := ch) hf
  exact (hu (hreq ▸ hnone) (hresp ▸ hst)).trans (Claims.Frame.modChan u ch _)

theorem execCtrlSessionHello_refused {s t : State} {ch role tenant slot : Nat} {r : Request} {c : Caller}
    (h : Claims.Asked s ch .ctrlSessionHello r c) (ht : execCtrlSessionHello ch role tenant slot s = .next t)
    (hnone : (t.chan ch).request = none) (hst : (t.chan ch).response.map (fun y => y.status) = some .refusedRole) :
    Claims.Frame [.mail] s t := by
  have hrun : RoleSafe s (runSessionHello role tenant slot c s) := gated_roleSafe_of_ne nofun
  unfold execCtrlSessionHello at ht
  dsimp only at ht
  split at ht
  · cases ht
    exact State.command_refused h hrun hnone hst
  · cases ht
    exact Claims.Frame.refl _ _

theorem execCtrlSessionClose_refused {s t : State} {ch : Nat} {r : Request} {c : Caller} (h : Claims.Asked s ch .ctrlSessionClose r c)
    (ht : execCtrlSessionClose ch s = .next t) (hnone : (t.chan ch).request = none)
    (hst : (t.chan ch).response.map (fun y => y.status) = some .refusedRole) : Claims.Frame [.mail] s t := by
  have hrun : RoleSafe s (runSessionClose c s) := gated_roleSafe_of_ne nofun
  unfold execCtrlSessionClose at ht
  split at ht
  · cases ht
    exact State.modResponse_refused (fun _ => rfl) (State.command_refused h hrun) hnone hst
  · cases ht
    exact State.command_refused h hrun hnone hst

theorem execCtrlCredentialRevoke_refused {s t : State} {ch role tenant slot : Nat} {r : Request} {c : Caller}
    (h : Claims.Asked s ch .ctrlCredentialRevoke r c) (ht : execCtrlCredentialRevoke ch role tenant slot s = .next t)
    (hnone : (t.chan ch).request = none) (hst : (t.chan ch).response.map (fun y => y.status) = some .refusedRole) :
    Claims.Frame [.mail] s t := by
  have hrun : RoleSafe s (runCredentialRevoke role tenant slot c s) := gated_roleSafe_of_ne nofun
  unfold execCtrlCredentialRevoke at ht
  dsimp only at ht
  split at ht
  · cases ht
    exact State.modResponse_refused (fun _ => rfl) (State.command_refused h hrun) hnone hst
  · cases ht
    exact State.command_refused h hrun hnone hst

/-- The three rows about sessions: what they do besides their runs is mail. -/
theorem sessionRow_refused {i : Instr} {ch : Nat} {k : Cmd} {s t : State} {r : Request} {c : Caller} (hs : sessionRow i = true)
    (hi : Claims.cmdOf i = some (ch, k)) (h : Claims.Asked s ch k r c) (ht : exec i s = .next t) (hnone : (t.chan ch).request = none)
    (hst : (t.chan ch).response.map (fun y => y.status) = some .refusedRole) : Claims.Frame [.mail] s t := by
  unfold sessionRow at hs
  split at hs
  · cases hi
    exact execCtrlSessionHello_refused h ht hnone hst
  · cases hi
    exact execCtrlSessionClose_refused h ht hnone hst
  · cases hi
    exact execCtrlCredentialRevoke_refused h ht hnone hst
  · cases hs

/-- The three rows that may answer later. -/
theorem laterRow_refused {i : Instr} {ch : Nat} {k : Cmd} {s t : State} {r : Request} {c : Caller} (hl : laterRow i = true)
    (hi : Claims.cmdOf i = some (ch, k)) (h : Claims.Asked s ch k r c) (ht : exec i s = .next t) (hnone : (t.chan ch).request = none)
    (hst : (t.chan ch).response.map (fun y => y.status) = some .refusedRole) : Claims.Frame [.mail] s t := by
  unfold laterRow at hl
  split at hl
  case h_1 lane trib ty body =>
    cases hi
    cases ht
    exact State.commandLater_refused h (runLaneHeadControl_roleSafe _ _ _ _ c s) (fun _ => congrArg Standing.requests (by simp)) hnone hst
  case h_2 =>
    cases hi
    cases ht
    exact State.commandLater_refused h (runLaneTest_roleSafe _ _ _ _ c s) (fun _ => congrArg Standing.requests (by simp)) hnone hst
  case h_3 =>
    cases hi
    cases ht
    exact State.commitLater_refused h (runRecordWrite_roleSafe _ c s) (congrArg Standing.requests (by simp)) hnone hst
  · cases hl

end Machine

/-- Settles O15, by the rows of the mailbox commands. -/
theorem roleRefusalChangesNothing : Obligations.RoleRefusalChangesNothing := by
  intro i ch k hi s t r c h ht hnone hst
  have hrows := cmdOf_rows i
  cases hr : Claims.readOf i with
  | some x =>
    obtain ⟨n, k', read⟩ := x
    cases (cmdOf_of_readOf hr).symm.trans hi
    rw [exec_of_readOf hr] at ht
    cases ht
    exact State.command_refused h (fun _ => rfl) hnone hst
  | none =>
  cases hu : Claims.runOf i with
  | some x =>
    obtain ⟨n, k', run⟩ := x
    cases (cmdOf_of_runOf hu).symm.trans hi
    rw [exec_of_runOf hu] at ht
    cases ht
    exact State.command_refused h (runOf_roleSafe hu c s) hnone hst
  | none =>
  cases hc : Claims.commitOf i with
  | some x =>
    obtain ⟨n, k', run⟩ := x
    cases (cmdOf_of_commitOf hc).symm.trans hi
    rw [exec_of_commitOf hc] at ht
    cases ht
    exact State.commitLater_refused h (fun y hy => Option.some.inj hy ▸ commitOf_roleSafe hc c s) (commitOf_requests hc c s) hnone hst
  | none =>
  have hrow : sessionRow i = true ∨ laterRow i = true := by simpa [hi, hr, hu, hc] using hrows.symm
  rcases hrow with hs | hl
  · exact Machine.sessionRow_refused hs hi h ht hnone hst
  · exact Machine.laterRow_refused hl hi h ht hnone hst

end Sys2Proof
end
